-- ==== Sys2Proof/Word.lean ====
section
/-! DEFINITION. Sys2Proof/Word.lean: the register word and the byte (R8, R13). -/
namespace Sys2Proof

/-- A register: 32 bits, little-endian (R8). -/
abbrev Word := BitVec 32

/-- One byte of a frame, a grain, mailbox memory or host memory. -/
abbrev Byte := BitVec 8

end Sys2Proof
end

