-- ==== Sys2Proof/Syntax.lean ====
section
/-! DEFINITION. Sys2Proof/Syntax.lean: the commands of the block, one constructor of `Instr` per row of
spec/opcode_table.json, with what a row takes from outside the module as its operands.

A row that the module does by itself when a time comes (an expiry, an update) takes no operand beyond the object it
concerns: the state says whether its occasion has come. A row that reports something the surroundings decide (a
received frame, a measured temperature, the outcome of a retry) carries that as data. -/
namespace Sys2Proof

/-- An instant: a tick of model time and the position in it in units of 1/1,024 tick (R311), where the module itself samples or
launches: the delay to the land (R423) is not yet taken off. -/
structure Inst where
  tick : Nat
  sub : Nat
  deriving DecidableEq, Repr, Inhabited

/-- How the execution of a mailbox command by Bawalo went (R108): no error, an error whose repetition succeeded, or
an error twice. -/
inductive Exec where
  | clean | retried | failed
  deriving DecidableEq, Repr, Inhabited

/-- Outcome of a read that is retried once (R126, R259): good, good on the retry, failed twice. -/
inductive Fetch where
  | good | transient | lasting
  deriving DecidableEq, Repr, Inhabited

/-- Result of one load_and_check of an image slot (R91, R519), or of the check of CMD_IMAGE_ACTIVATE (R107). -/
inductive ImageCheck where
  | good (release : BitVec 16)
  | badHeader | badSignature | readError
  deriving DecidableEq, Repr, Inhabited

/-- The instructions of the boundary-scan TAP (R68). -/
inductive TapInstr where
  | bypass | idcode | samplePreload | extest | clamp | highz
  deriving DecidableEq, Repr, Inhabited

/-- The objects that train on SerDes lanes: client ports (R135), carriers (R189) and mirror lanes (R459). -/
inductive LineObj where
  | port (n : Fin 256)
  | carrier (c : Fin 128)
  | mirror (i : Fin 4)
  deriving DecidableEq, Repr, Inhabited

/-- What a client port received whole: a frame sent express, or the verify and respond packets of the MAC merge
sublayer (R151). -/
inductive RxKind where
  | frame | verify | respond
  deriving DecidableEq, Repr, Inhabited

/-- A received fragment of a preemptable frame (R152): the start of an assembly, or a continuation with its
fragment count; `last` says that it carries the frame's end. -/
inductive FragKind where
  | start
  | cont (count : Fin 4)
  deriving DecidableEq, Repr, Inhabited

/-- Codewords that a lane's receiver has judged at a boundary at bit `offset`, newest first: true for one without an
uncorrectable error (R167). -/
structure LaneWords where
  lane : Fin 260
  offset : Nat
  words : List Bool
  deriving DecidableEq, Repr, Inhabited

/-- How codeword lock was lost (R167): whether the lane still has signal, and its last codewords, newest first. -/
structure LaneLoss where
  signal : Bool
  words : List Bool
  deriving DecidableEq, Repr, Inhabited

/-- An edge as a channel of the TDC captured it (R405, R408): its sense and the coarse period. -/
structure EdgeSeen where
  falling : Bool
  coarse : Nat
  deriving DecidableEq, Repr, Inhabited

/-- FEC counts that a receiver reports (R161, R197): codewords corrected, codewords uncorrectable, symbols
corrected. -/
structure FecCounts where
  corrected : Nat
  uncorrectable : Nat
  symbols : Nat
  deriving DecidableEq, Repr, Inhabited

/-- What came with a timing grain (R197): whether a codeword of it was uncorrectable, the stray blocks before it, and the
FEC counts. -/
structure GrainErrors where
  bad : Bool
  strays : Nat
  fec : FecCounts
  deriving DecidableEq, Repr, Inhabited

/-- The work that reached a faulty row or unit and has no good result (R443): a frame in egress, the next frame of a
pipeline, the first frame of an ingress queue (source, pipeline, plane, class), a frame at the head of an egress queue, a
queue whose links, a frame whose reference count or a buffer whose owner tag cannot be read whole, a grain of a lane, a
lookup of a pipeline's next frame in a table, the armed measurement of the TDC, the stamp report of a port that the retry
was for, counted from the oldest of this tick. -/
inductive FaultWork where
  | none
  | egressFrame (e : Fin 288)
  | pipelineFrame (pipe : Fin 16)
  | ingressFrame (src : Fin 288) (pipe : Fin 16) (plane : Fin 4) (cls : Fin 8)
  | heldFrame (e : Fin 288) (q : Fin 16)
  | lostQueue (e : Fin 288) (q : Fin 16)
  | lostCount (frame : Nat)
  | lostTag (pool : Fin 8) (n : Nat)
  | grain (lane : Fin 256)
  | lookup (pipe : Fin 16) (table : BitVec 8)
  | measurement
  | report (p : Fin 256) (i : Nat)
  deriving DecidableEq, Repr, Inhabited

/-- Where an error was found (R442): a control-array row of the switch or the timing die by its bank of 512, the copy of a
table's entry in a row of the switch die, a packet-SRAM buffer, an HBM page of the Silo, of the flow table (64 entries), of
the counters (by its number) or of the metadata (with the free Silo pages whose pointers it held), an arithmetic unit by its
group of 8, the bin table of the TDC, the Grange's access to host memory. -/
inductive FaultPlace where
  | row (timing : Bool) (bank : Nat) (row : Fin 512)
  | tableCopy (table : BitVec 8) (entry : Nat) (bank : Nat) (row : Fin 512)
  | buffer (pool : Fin 8) (n : Nat)
  | siloPage (n : Nat)
  | tablePage (n : Nat)
  | counterPage (n : Nat)
  | metaPage (n : Nat) (pages : List Nat)
  | unit (timing : Bool) (group : Nat) (unit : Fin 8)
  | binTable
  | grange
  deriving DecidableEq, Repr, Inhabited

/-- How a detected error ended (R441): corrected in place, cured by the retry, or lasting. -/
inductive FaultEnd where
  | corrected | transient | lasting
  deriving DecidableEq, Repr, Inhabited

/-- The commands: a constructor for each row of spec/opcode_table.json, its name the row's mnemonic in camel case, the
comment beside it the row's rule. -/
inductive Instr where
  -- Power, reset, SMBus, boundary scan, modes, clocks and boot (chapters 2 and 3)
  | feedConnect (f : Fin 2) (volt : BitVec 16)  -- R41
  | feedDisconnect (f : Fin 2) (overV : Bool) (load : Nat)  -- R39
  | rideThroughEnd  -- R40
  | chargeComplete (f : Fin 2)  -- R45
  | powerOnReset (straps : BitVec 3)  -- R87
  | railRampTimeout (r : Fin 8)  -- R46
  | railLeavesRegulation (r : Fin 8)  -- R46
  | tempEstimate (caseT dieMax : BitVec 16)  -- R52
  | feedMonitorUpdate (va ca vb cb : BitVec 16) (revA revB : Bool)  -- R69
  | resetPin (lowNs : Nat)  -- R48
  | softwareModuleReset (data : Word)  -- R87
  | softwareSwitchReset (data : Word)  -- R87
  | grangeWatchdogReset  -- R88
  | pcieFundamentalReset (low : Bool)  -- R89
  | smbRegisterWrite (count : Nat) (ofs : BitVec 16) (data : Word) (pec : Option Byte)  -- R65
  | smbRegisterRead (count : Nat) (ofs : BitVec 16)  -- R64
  | smbAlertResponse  -- R63
  | smbClockLowTimeout  -- R63
  | tapInstruction (op : TapInstr)  -- R68
  | tapReset  -- R68
  | modeRequest (mode : BitVec 3) (smbus : Bool)  -- R73
  | ocxoHoldWarmWrite (v : Bool)  -- R69
  | transitionComplete  -- R515
  | oldRailsOff  -- R515
  | warmupToTimekeep  -- R73
  | ocxoWarmSet (err : BitVec 16)  -- R84
  | ocxoWarmClear (err : BitVec 16)  -- R84
  | mdllLock  -- R83
  | lanePowered (lane : Fin 260)  -- R85
  | bootCheckDone (r : ImageCheck)  -- R91
  | registerWrite (bar2 : Bool) (ofs : BitVec 32) (len : Nat) (data : BitVec 64)  -- R10
  | d2dTransferFail (retryGood : Bool)  -- R18
  -- The Grange: mailboxes, commits, tables, registers (chapters 4 and 18)
  | doorbell (ring : Word)  -- R99
  | mailboxWrite (ofs : BitVec 16) (data : List Byte)  -- R100
  | fencedCommandStart (m : Fin 16)  -- R111
  | cmdNop (m : Fin 16) (x : Exec)  -- R105
  | cmdIdentify (m : Fin 16) (x : Exec)  -- R105
  | cmdFence (m : Fin 16) (x : Exec)  -- R112
  | fenceRelease (m : Fin 16)  -- R112
  | fenceTimeout (m : Fin 16)  -- R112
  | cmdTableBind (m : Fin 16) (x : Exec)  -- R122
  | cmdTableSync (m : Fin 16) (x : Exec)  -- R126
  | cmdTableRead (m : Fin 16) (x : Exec)  -- R514
  | cmdCommit (m : Fin 16) (x : Exec)  -- R115
  | cmdConfigSave (m : Fin 16) (x : Exec)  -- R106
  | cmdConfigRestore (m : Fin 16) (x : Exec)  -- R106
  | cmdImageDownload (m : Fin 16) (x : Exec)  -- R107
  | cmdImageActivate (m : Fin 16) (x : Exec)  -- R107
  | commitGo (w : Word)  -- R115
  | commitDiscard (w : Word)  -- R117
  | commitCheckDone (g : Fin 12)  -- R115
  | commitApplyAt (g : Fin 12)  -- R115
  | commitApplyBoundary (g : Fin 12)  -- R115
  | committedViewWrite (ofs : BitVec 32)  -- R117
  | tableNotify (t : BitVec 8) (w : Word)  -- R123
  | entryFetchDone (t : BitVec 8) (r : Fetch) (bytes : List Byte)  -- R123
  | msixUnmask (v : Fin 32)  -- R127
  | flashOperationDone (m : Fin 16) (x : Exec) (r1 r2 : ImageCheck)  -- R106
  | loReadLatch (ofs : BitVec 32)  -- R522
  -- Client ports (chapter 5)
  | signalDetect (o : LineObj)  -- R135
  | adaptDone (o : LineObj)  -- R135
  | alignLock (p : Fin 256) (localF remoteF : Bool)  -- R135
  | attemptTimeout (p : Fin 256)  -- R136
  | upDebounceExpiry (p : Fin 256)  -- R135
  | portLinkFault (p : Fin 256) (sig lock loc rem : Bool)  -- R137
  | glitch (p : Fin 256)  -- R137
  | downDebounceExpiry (p : Fin 256)  -- R137
  | fecDegradeWindow (p : Fin 256) (c : FecCounts)  -- R140
  | receiveFrame (p : Fin 256) (k : RxKind) (bytes : List Byte) (codeErr cut : Bool) (inst : Inst)  -- R141
  | receiveFragment (p : Fin 256) (k : FragKind) (last : Bool) (bytes : List Byte) (mcrcOk codeErr : Bool) (inst : Inst)  -- R152
  | pauseTakesEffect (p : Fin 256)  -- R148
  | pauseTimerExpiry (p : Fin 256) (c : Fin 8)  -- R148
  | pfcFrameSend (p : Fin 256)  -- R149
  | pfcRepeat (p : Fin 256)  -- R149
  | verifyTimeout (p : Fin 256)  -- R151
  | optIntEdge (bus : Fin 16) (low : Bool)  -- R157
  | tallyFold  -- R158
  | cmdPrtCountersRead (m : Fin 16) (x : Exec)  -- R162
  | cmdPrtOptXfer (m : Fin 16) (x : Exec) (status : Fin 3) (idx : BitVec 16) (data : List Byte)  -- R162
  -- The Sheaf line interface (chapter 6)
  | codewordLock (w : LaneWords)  -- R167
  | codewordLockLost (lane : Fin 260) (l : LaneLoss)  -- R167
  | grainSlot (lane : Fin 256) (dep : Inst)  -- R177
  | dataGrainReceived (c : Fin 128) (bytes : List Byte) (blocks : Nat) (badFec : Bool) (strays : Nat) (fec : FecCounts)  -- R181
  | timingGrainReceived (c : Fin 128) (bytes : List Byte) (e : GrainErrors) (rx : Inst)  -- R188
  | grainLossTimeout (h : Fin 32)  -- R182
  | syncWaitExpiry (h : Fin 32)  -- R183
  | keepaliveExpiry (c : Fin 128)  -- R188
  | carrierAttemptTimeout (o : LineObj)  -- R190
  | parkLossWaitExpiry (c : Fin 128)  -- R193
  | cmdShfCarrierOp (m : Fin 16) (x : Exec)  -- R198
  | carrierOpTimeout (m : Fin 16)  -- R198
  | cmdShfCountersRead (m : Fin 16) (x : Exec)  -- R198
  -- The forwarding core (chapter 7)
  | installResume (t : BitVec 8)  -- R216
  | egressFrameStart (p : Fin 256) (dep : Inst)  -- R225
  | pipelineFrame (k : Fin 16)  -- R202
  | bucketReadDone (k : Fin 16)  -- R204
  | planeCrossing (j : Fin 4)  -- R226
  | planeDrainEnd  -- R220
  | reaperVisit  -- R232
  | linkHoldExpiry (e : Fin 288)  -- R234
  | cmdFwdCountersRead (m : Fin 16) (x : Exec)  -- R237
  | cmdFwdQueueStat (m : Fin 16) (x : Exec)  -- R237
  | cmdFwdFlush (m : Fin 16) (x : Exec)  -- R237
  -- The Granary (chapter 8)
  | txFrameComplete (e : Fin 288) (bad : Bool)  -- R263
  | spillWriteDone (e : Fin 288) (q : Fin 16) (bwHeld : Bool)  -- R255
  | recallPageReadDone (e : Fin 288) (q : Fin 16) (f : Fetch)  -- R258
  | siloCacheRefill  -- R253
  | gleanerSweep  -- R265
  | cmdGrnCountersRead (m : Fin 16) (x : Exec)  -- R268
  | cmdGrnCellTest (m : Fin 16) (x : Exec) (bad : List (Fin 64))  -- R268
  | cmdGrnSweep (m : Fin 16) (x : Exec)  -- R268
  -- The Almanac (chapter 9)
  | slewResidueZero (n : Fin 8)  -- R270
  | sheafEgressDecision (h : Fin 32)  -- R290
  | windowEnd (h : Fin 32)  -- R291
  | cmdAlmCountersRead (m : Fin 16) (x : Exec)  -- R300
  | cmdAlmBankCheck (m : Fin 16) (x : Exec)  -- R300
  | cmdAlmRealign (m : Fin 16) (x : Exec)  -- R296
  -- Time bases (chapter 10)
  | hostTimeoutExpiry (n : Fin 8)  -- R307
  | adjustApply (n : Fin 8)  -- R308
  | snapshot (data : Word)  -- R310
  | rptConsWrite (p : Fin 256) (data : Word)  -- R320
  | triggerPulse (k : Fin 8)  -- R324
  | triggerPulseEnd (k : Fin 8)  -- R324
  | cmdTbsAdjust (m : Fin 16) (x : Exec)  -- R308
  | cmdTbsSet (m : Fin 16) (x : Exec)  -- R308
  | cmdTbsReportBind (m : Fin 16) (x : Exec)  -- R330
  | cmdTbsCountersRead (m : Fin 16) (x : Exec)  -- R330
  -- Time transfer (chapter 11)
  | measSetEntry (c : Fin 128)  -- R335
  | ttWindowEnd (h : Fin 32)  -- R337
  | tcWindowEnd (h : Fin 32)  -- R343
  | cmdShfTtCarriers (m : Fin 16) (x : Exec)  -- R355
  | cmdShfTtCountersRead (m : Fin 16) (x : Exec)  -- R355
  -- References and holdover (chapter 12)
  | refinEdge (k : Fin 4) (falling : Bool) (inst : Inst)  -- R358
  | refSignalTimeout (k : Fin 4)  -- R358
  | nmeaSentence (bs : List Byte)  -- R359
  | ptpSample  -- R360
  | qualifyExpiry (j : Fin 7)  -- R363
  | requalExpiry (j : Fin 7)  -- R363
  | phaseStepApply  -- R371
  | learnerRecord  -- R374
  | holdoverUpdate  -- R376
  | freqWordWrite (w : Word)  -- R382
  | pePush  -- R382
  | peRead  -- R382
  | swStale  -- R382
  | cmdRefForce (m : Fin 16) (x : Exec)  -- R385
  | cmdRefGnssSend (m : Fin 16) (x : Exec)  -- R385
  | cmdRefCountersRead (m : Fin 16) (x : Exec)  -- R385
  | cmdRefModelClear (m : Fin 16) (x : Exec)  -- R375
  | ppsoPulse (k : Fin 2)  -- R373
  | ppsoPulseEnd (k : Fin 2)  -- R373
  -- Clock synthesis (chapter 13)
  | lockLost  -- R389
  | rampUpdate  -- R390
  | ckoOutputStart (k : Fin 12)  -- R398
  | ckoSwitchEdge (k : Fin 12)  -- R399
  | ckoStepEdge (k : Fin 12)  -- R400
  | cmdSynRampStart (m : Fin 16) (x : Exec)  -- R391
  | cmdSynRampStop (m : Fin 16) (x : Exec)  -- R392
  -- Interval measurement (chapter 14)
  | tdcArm  -- R415
  | tdcEdge (ch : Fin 2) (e : EdgeSeen) (bin : Fin 512) (x : Exec)  -- R408
  | tdcTimeout  -- R409
  | tdcResultLatch  -- R422
  | tdcResultRemove  -- R422
  | tdcBinDataAccess (w : Option Word)  -- R422
  | cmdTdcRun (m : Fin 16) (x : Exec)  -- R415
  | cmdTdcStop (m : Fin 16) (x : Exec)  -- R415
  | cmdTdcBinCal (m : Fin 16) (x : Exec)  -- R418
  | binCalDone (h0 h1 : List Nat)  -- R418
  -- Calibration (chapter 15)
  | pathMeasured (k : Fin 571) (base : Int) (noisy : Bool)  -- R431
  | calRunDone  -- R429
  | trimRampStep (k : Fin 571)  -- R427
  | ocxoRetuneStep  -- R433
  | calPathTrimAccess (w : Option Word)  -- R439
  | cmdCalTrace (m : Fin 16) (x : Exec) (signal : Bool) (loop : Int)  -- R436
  | cmdCalFreq (m : Fin 16) (x : Exec) (signal : Bool)  -- R437
  | calFreqIntervalEnd (m : Fin 16) (err : Int)  -- R437
  -- Integrity and events (chapter 16)
  | retryResult (p : FaultPlace) (r : FaultEnd) (w : FaultWork)  -- R441
  | d2dReset (data : Word) (trained : Bool)  -- R446
  | replicaReload  -- R446
  | logRecordEntry  -- R451
  | logLatch  -- R455
  | logRemove  -- R455
  | vectorRearm (data : Word)  -- R453
  | cmdEvtLogRead (m : Fin 16) (x : Exec)  -- R454
  | cmdEvtSpareReport (m : Fin 16) (x : Exec)  -- R454
  -- The twin pair (chapter 17)
  | heartbeatSend  -- R461
  | heartbeatReceived (lane : Fin 4) (bytes : List Byte) (rx : Inst)  -- R462
  | mirrorMessageReceived (lane : Fin 4) (bytes : List Byte)  -- R459
  | messageLossTimeout  -- R460
  | partnerLost  -- R470
  | laneDown (lane : Fin 4)  -- R470
  | pairWaitExpiry  -- R464
  | txnApply  -- R479
  | resyncDone  -- R465
  | relinquishTimeout  -- R471
  | degradeHoldExpiry  -- R469
  | wtrExpiry  -- R483
  | heartbeatSilence  -- R473
  | carrierMessageSend  -- R461
  | countMessageSend  -- R461
  | checkMessageSend  -- R461
  | cmdTwnSwitch (m : Fin 16) (x : Exec)  -- R487
  | cmdTwnTableAdopt (m : Fin 16) (x : Exec)  -- R481
  | cmdTwnResync (m : Fin 16) (x : Exec)  -- R465
  | cmdTwnCountersRead (m : Fin 16) (x : Exec)  -- R487
  deriving DecidableEq, Repr

end Sys2Proof
end

