-- ==== Sys2Proof/WellFormed.lean ====
section
/-! DEFINITION. Sys2Proof/WellFormed.lean: the operands that can exist on the hardware. Object numbers cannot be out of
range by their types; what is left is the length of a fixed-size unit, positions within a tick, and access sizes. -/
namespace Sys2Proof

/-- A position within a tick is one of 1,024 (R311). -/
def Inst.wf (i : Inst) : Bool := decide (i.sub < 1024)

/-- A grain and a mirror message are 256 bytes long (R170, R185, R459). -/
def isGrain (bytes : List Byte) : Bool := bytes.length = 256

/-- A place of the error report exists: a packet-SRAM cell, a Silo page (R239, R253). -/
def FaultPlace.wf : FaultPlace → Bool
  | .buffer _ n => decide (n < 655360)
  | .siloPage n => decide (n < 25022464)
  | .metaPage _ pages => pages.all (fun p => decide (p < 25022464))
  | _ => true

/-- The command can be sent. -/
def Instr.wf : Instr → Bool
  | .registerWrite _ _ len _ => decide (0 < len) && decide (len ≤ 8)
  | .mailboxWrite _ data => !data.isEmpty
  | .entryFetchDone _ r bytes => r = .lasting || bytes.length = 64
  | .receiveFrame _ _ _ _ _ i => i.wf
  | .receiveFragment _ _ _ _ _ _ i => i.wf
  | .egressFrameStart _ dep => dep.wf
  | .grainSlot _ dep => dep.wf
  | .dataGrainReceived _ bytes _ _ _ _ => isGrain bytes
  | .codewordLock w => decide (w.offset < 5440)
  | .timingGrainReceived _ bytes _ rx => isGrain bytes && rx.wf
  | .refinEdge _ _ i => i.wf
  | .heartbeatReceived _ bytes rx => isGrain bytes && rx.wf
  | .mirrorMessageReceived _ bytes => isGrain bytes
  | .cmdGrnCellTest _ _ bad => bad.dedup = bad
  | .binCalDone h0 h1 => h0.length = 512 && h1.length = 512
  | .retryResult p _ _ => p.wf
  | _ => true

end Sys2Proof
end

