-- ==== Sys2Proof/Config.lean ====
section
/-! DEFINITION. Sys2Proof/Config.lean: values that the spec leaves open, as constants without a body: nothing can be
proved of them, and a claim holds whatever they are. Each is applied to the number of values used so far, which State
holds, so that each use is a value of its own. -/
namespace Sys2Proof

/-- Whether a low pulse on RESET_N between 0.9 µs and 1.1 µs starts a reset (R48). -/
opaque Config.resetPulse : Nat → Bool

/-- Ticks from the start of a ramp, given as 8 times its tick plus its rail, to the instant from which RAIL_OK shows the
rail: R46 bounds the ramp by 2 ms and fixes no length. -/
opaque Config.rampTime : Nat → Nat

/-- Ticks that the read of an image takes before its check begins (R91, R519). -/
opaque Config.imageRead : Nat → Nat

/-- The reading OVEN_ERR, in 1/1,024 °C, in each second of model time in which no command gives it: the spec states no
course of it (R94). -/
opaque Config.ovenErr : Nat → Int

/-- Whether REF_STAT.STATE equals the partner's: no message of R461 and R462 carries the partner's value, so what the
twin block compares with is open (R467). -/
opaque Config.twinTimed : Nat → Bool

/-- By how much the word that the loop in hardware asks for after a sample differs from its proportional-integral law: R381
gives the law and not its rounding or its handling of a sample's interval. In 2^-16 ppb. -/
opaque Config.loopError : Nat → Int

/-- The two-sigma uncertainties U_F (0.0001 ppb) and U_A (0.0001 ppb a day) that the learner yields (R375). -/
opaque Config.learnUF : Nat → Nat
opaque Config.learnUA : Nat → Nat

/-- The estimate of R342, in ps, while the fibre's parameters give both carriers of the pair the same delay: R342 then
divides by 0 and states no result. -/
opaque Config.twoColour : Nat → Int

/-- The 58 bits with which the scrambler of a lane starts, by lane and model time: R167 gives it no start value. -/
opaque Config.scramblerStart : Nat → Nat → Nat

/-- Bytes of the LEAD's carrier-management words, which a FOLLOW copies into its own timing grains: no message of the mirror
carries them (R475). -/
opaque Config.leadMgmt : Nat → Nat

/-- The Vendor ID that every Ulreoc part carries, which R489 does not state, and the rest of the PCIe configuration space, by
offset. -/
opaque Config.vendorId : BitVec 16
opaque Config.configSpace : Nat → BitVec 32

end Sys2Proof
end

