-- ==== Sys2Proof/Machine/Registers.lean ====
section
/-! DEFINITION. Sys2Proof/Machine/Registers.lean: the register map of chapter 18 (R489-R512) with the field tables
of the owning chapters: one `Reg` per register name, one `Fld` per field, and the lookup from an offset.
Offsets are BAR0 offsets; a BAR2 register lies at its BAR2 offset plus 0x1_0000_0000 (the model's own numbering,
so that one map holds both). -/
namespace Sys2Proof.Machine

/-- The access codes of R10. -/
inductive Acc where
  | ro | rw | wo | w1c | rwc
  deriving DecidableEq, Repr

/-- A register name: offset of instance 0, stride, number of instances and reset value (R499-R512). -/
structure Reg where
  base : Nat
  stride : Nat
  count : Nat
  rst : Nat
  deriving DecidableEq, Repr

/-- A field `REGISTER.FIELD` (R9): its register, lowest bit, width, access code, and the inclusive ranges of its
encodings that are not reserved (the empty list: none is reserved). -/
structure Fld where
  reg : Reg
  lo : Nat
  w : Nat
  acc : Acc
  ok : List (Nat × Nat)
  deriving DecidableEq, Repr

/-- A row of the register index: the register and its fields. -/
structure RegRow where
  reg : Reg
  flds : List Fld
  deriving DecidableEq, Repr

/-! R499 -/
def R.MBX_DOORBELL : Reg := ⟨0x1000000, 4, 1, 0x0⟩
def R.MBX_STATE : Reg := ⟨0x1000004, 4, 1, 0x0⟩
def R.MBX_ERR_STAT : Reg := ⟨0x1000008, 4, 1, 0x0⟩
def R.MBX_RETRY_STAT : Reg := ⟨0x100000C, 4, 1, 0x0⟩
def R.MBX_GRANGE_STAT : Reg := ⟨0x1000010, 4, 1, 0x0⟩
def R.MBX_TICK_LO : Reg := ⟨0x1000018, 4, 1, 0x0⟩
def R.MBX_TICK_HI : Reg := ⟨0x100001C, 4, 1, 0x0⟩
def R.MBX_COMMIT_GROUPS : Reg := ⟨0x1000020, 4, 1, 0x0⟩
def R.MBX_COMMIT_CTL : Reg := ⟨0x1000024, 4, 1, 0x0⟩
def R.MBX_COMMIT_AT_LO : Reg := ⟨0x1000028, 4, 1, 0x0⟩
def R.MBX_COMMIT_AT_HI : Reg := ⟨0x100002C, 4, 1, 0x0⟩
def R.MBX_COMMIT_STAT : Reg := ⟨0x1000030, 4, 1, 0x0⟩
def R.MBX_COMMIT_FAIL : Reg := ⟨0x1000034, 4, 1, 0x0⟩
def R.MBX_COMMIT_APPLIED_LO : Reg := ⟨0x1000038, 4, 1, 0x0⟩
def R.MBX_COMMIT_APPLIED_HI : Reg := ⟨0x100003C, 4, 1, 0x0⟩
/-! R500 -/
def R.PRT_CFG : Reg := ⟨0x1100000, 4, 256, 0x8000⟩
def R.PRT_FRAME_CFG : Reg := ⟨0x1100400, 4, 256, 0x2400⟩
def R.PRT_PFC_CFG : Reg := ⟨0x1100800, 4, 256, 0xFFFF00FF⟩
def R.PRT_PREEMPT_CFG : Reg := ⟨0x1100C00, 4, 256, 0x5000⟩
def R.PRT_LANE_CFG : Reg := ⟨0x1101000, 4, 256, 0x73A00⟩
def R.PRT_LINK_CFG : Reg := ⟨0x1101400, 4, 256, 0x280A⟩
def R.PRT_FEC_CFG : Reg := ⟨0x1101800, 4, 256, 0x0⟩
def R.PRT_MAC_ADDR_LO : Reg := ⟨0x1101C00, 8, 256, 0x0⟩
def R.PRT_MAC_ADDR_HI : Reg := ⟨0x1101C04, 8, 256, 0x0⟩
def R.PRT_STAT : Reg := ⟨0x1102400, 4, 256, 0x0⟩
def R.PRT_EVT_STAT : Reg := ⟨0x1102800, 4, 256, 0x0⟩
def R.PRT_EVT_MASK : Reg := ⟨0x1102C00, 4, 256, 0x7⟩
def R.PRT_OPT_CFG : Reg := ⟨0x1103000, 4, 1, 0x0⟩
def R.PRT_OPT_STAT : Reg := ⟨0x1103004, 4, 1, 0x0⟩
/-! R501 -/
def R.SHF_CFG : Reg := ⟨0x1200000, 4, 32, 0x24000000⟩
def R.SHF_PEER_NODE_LO : Reg := ⟨0x1200080, 8, 32, 0x0⟩
def R.SHF_PEER_NODE_HI : Reg := ⟨0x1200084, 8, 32, 0x0⟩
def R.SHF_SHEAF_STAT : Reg := ⟨0x1200180, 4, 32, 0x0⟩
def R.SHF_LOSS_WAIT : Reg := ⟨0x1200200, 4, 32, 0xFA⟩
def R.SHF_EVT_STAT : Reg := ⟨0x1200280, 4, 32, 0x0⟩
def R.SHF_EVT_MASK : Reg := ⟨0x1200300, 4, 32, 0x3⟩
def R.SHF_TT_CFG : Reg := ⟨0x1200380, 4, 32, 0x1900100⟩
def R.SHF_TT_LIM : Reg := ⟨0x1200400, 4, 32, 0xFFFF00C8⟩
def R.SHF_TT_FIB_TAU : Reg := ⟨0x1200480, 4, 32, 0xA4AB8E8⟩
def R.SHF_TT_FIB_DISP : Reg := ⟨0x1200500, 4, 32, 0x2444074⟩
def R.SHF_TT_STAT : Reg := ⟨0x1200580, 4, 32, 0x0⟩
def R.SHF_TT_OFS_LO : Reg := ⟨0x1200600, 8, 32, 0x0⟩
def R.SHF_TT_OFS_HI : Reg := ⟨0x1200604, 8, 32, 0x0⟩
def R.SHF_TT_F : Reg := ⟨0x1200700, 4, 32, 0x0⟩
def R.SHF_TT_UNC : Reg := ⟨0x1200780, 4, 32, 0x0⟩
def R.SHF_TT_HOP_TE : Reg := ⟨0x1200800, 4, 32, 0xFFFFFFFF⟩
def R.SHF_TT_EVT_STAT : Reg := ⟨0x1200880, 4, 32, 0x0⟩
def R.SHF_TT_EVT_MASK : Reg := ⟨0x1200900, 4, 32, 0x37⟩
def R.SHF_NODE_ID_LO : Reg := ⟨0x1200980, 4, 1, 0x0⟩
def R.SHF_NODE_ID_HI : Reg := ⟨0x1200984, 4, 1, 0x0⟩
def R.SHF_CAR_CFG : Reg := ⟨0x1201000, 4, 128, 0x400000⟩
def R.SHF_CAR_FREQ : Reg := ⟨0x1201200, 4, 128, 0x0⟩
def R.SHF_CAR_STAT : Reg := ⟨0x1201400, 4, 128, 0x0⟩
def R.SHF_CAR_SKEW : Reg := ⟨0x1201600, 4, 128, 0x0⟩
def R.SHF_CAR_RTT : Reg := ⟨0x1201800, 4, 128, 0x0⟩
def R.SHF_CAR_EVT_STAT : Reg := ⟨0x1201A00, 4, 128, 0x0⟩
def R.SHF_CAR_EVT_MASK : Reg := ⟨0x1201C00, 4, 128, 0x36⟩
def R.SHF_TT_ASYM : Reg := ⟨0x1201E00, 4, 128, 0x0⟩
def R.SHF_TT_NFRT : Reg := ⟨0x1202000, 4, 128, 0x0⟩
def R.SHF_LANE_CFG : Reg := ⟨0x1202400, 4, 256, 0x73A00⟩
/-! R502 -/
def R.FWD_IN_CFG : Reg := ⟨0x1300000, 4, 288, 0x41D⟩
def R.FWD_PCP_MAP : Reg := ⟨0x1300480, 4, 1, 0xFAC688⟩
def R.FWD_TC_MAP : Reg := ⟨0x1300484, 4, 1, 0xFAC688⟩
def R.FWD_DSCP_MAP : Reg := ⟨0x1300488, 4, 6, 0x0⟩
def R.FWD_DSCP_MAP_6 : Reg := ⟨0x13004A0, 4, 1, 0x0⟩
def R.FWD_HASH_CFG : Reg := ⟨0x13004A4, 4, 1, 0xF⟩
def R.FWD_HASH_SEED : Reg := ⟨0x13004A8, 4, 1, 0x0⟩
def R.FWD_PLANE_MAP : Reg := ⟨0x13004AC, 4, 4, 0xE4E4E4E4⟩
def R.FWD_XB_WEIGHT : Reg := ⟨0x13004BC, 4, 1, 0x11111111⟩
def R.FWD_MPLS_CFG : Reg := ⟨0x13004C0, 4, 1, 0x10⟩
def R.FWD_STAT : Reg := ⟨0x13004C4, 4, 1, 0x0⟩
def R.FWD_VER_STAT : Reg := ⟨0x13004C8, 4, 1, 0x0⟩
def R.FWD_BAD_ENTRY : Reg := ⟨0x13004CC, 4, 1, 0x0⟩
def R.FWD_BAD_ENTRY_CNT : Reg := ⟨0x13004D0, 4, 1, 0x0⟩
def R.FWD_EVT_STAT : Reg := ⟨0x13004D4, 4, 1, 0x0⟩
def R.FWD_EVT_MASK : Reg := ⟨0x13004D8, 4, 1, 0x3⟩
def R.FWD_AGE_CFG : Reg := ⟨0x1300500, 4, 8, 0x2710⟩
def R.FWD_EGR_CFG : Reg := ⟨0x1301000, 4, 288, 0x320000⟩
def R.FWD_EGR_WEIGHT : Reg := ⟨0x1301800, 4, 288, 0x11111111⟩
def R.FWD_EGR_STAT : Reg := ⟨0x1302000, 4, 288, 0x0⟩
/-! R503 -/
def R.GRN_POOL_CFG : Reg := ⟨0x1400000, 4, 8, 0x800000⟩
def R.GRN_POOL_BASE : Reg := ⟨0x1400020, 4, 8, 0x0⟩
def R.GRN_POOL_STAT : Reg := ⟨0x1400040, 4, 8, 0x0⟩
def R.GRN_SILO_CFG : Reg := ⟨0x1400060, 4, 1, 0x2000000⟩
def R.GRN_SILO_STAT : Reg := ⟨0x1400064, 4, 1, 0x17DD000⟩
def R.GRN_GLEAN_CFG : Reg := ⟨0x1400068, 4, 1, 0x64⟩
def R.GRN_GLEAN_STAT : Reg := ⟨0x140006C, 4, 1, 0x0⟩
def R.GRN_GLEAN_LAST : Reg := ⟨0x1400070, 4, 1, 0x0⟩
def R.GRN_EVT_STAT : Reg := ⟨0x1400074, 4, 1, 0x0⟩
def R.GRN_EVT_MASK : Reg := ⟨0x1400078, 4, 1, 0x67⟩
def R.GRN_IN_CFG : Reg := ⟨0x1401000, 4, 288, 0x0⟩
def R.GRN_IN_THR : Reg := ⟨0x1401800, 4, 288, 0x0⟩
def R.GRN_QCFG : Reg := ⟨0x1410000, 4, 4608, 0x60100⟩
def R.GRN_QSPILL : Reg := ⟨0x1418000, 4, 4608, 0x3E80400⟩
def R.GRN_QSILO : Reg := ⟨0x1420000, 4, 4608, 0x100000⟩
/-! R504 -/
def R.ALM_CAL_CFG : Reg := ⟨0x1500000, 4, 32, 0x40⟩
def R.ALM_BANK_STAT : Reg := ⟨0x1500080, 4, 32, 0x0⟩
def R.ALM_SWITCH : Reg := ⟨0x1500100, 4, 1, 0x0⟩
def R.ALM_SWITCH_CYC : Reg := ⟨0x1500104, 4, 1, 0x0⟩
def R.ALM_CFG : Reg := ⟨0x1500108, 4, 1, 0x1F⟩
def R.ALM_STAT : Reg := ⟨0x150010C, 4, 1, 0x0⟩
def R.ALM_CYCLE_LO : Reg := ⟨0x1500110, 4, 1, 0x0⟩
def R.ALM_CYCLE_HI : Reg := ⟨0x1500114, 4, 1, 0x0⟩
def R.ALM_SLEW_LO : Reg := ⟨0x1500118, 4, 1, 0x0⟩
def R.ALM_SLEW_HI : Reg := ⟨0x150011C, 4, 1, 0x0⟩
def R.ALM_BAD_ENTRY : Reg := ⟨0x1500120, 4, 1, 0x0⟩
def R.ALM_BAD_ENTRY_CNT : Reg := ⟨0x1500124, 4, 1, 0x0⟩
def R.ALM_EVT_STAT : Reg := ⟨0x1500128, 4, 1, 0x0⟩
def R.ALM_EVT_MASK : Reg := ⟨0x150012C, 4, 1, 0x4E⟩
def R.ALM_EVT_SRC : Reg := ⟨0x1500130, 4, 1, 0x0⟩
/-! R505 -/
def R.TBS_DOM_CFG : Reg := ⟨0x1600000, 4, 8, 0x20⟩
def R.TBS_DOM_OFS_S : Reg := ⟨0x1600020, 4, 8, 0x0⟩
def R.TBS_DOM_OFS_NS : Reg := ⟨0x1600040, 4, 8, 0x0⟩
def R.TBS_DOM_STAT : Reg := ⟨0x1600060, 4, 8, 0x0⟩
def R.TBS_DOM_INC_LO : Reg := ⟨0x1600080, 8, 8, 0x0⟩
def R.TBS_DOM_INC_HI : Reg := ⟨0x1600084, 8, 8, 0xA0⟩
def R.TBS_SNAP_CTL : Reg := ⟨0x16000C0, 4, 1, 0x0⟩
def R.TBS_SNAP_TICK_LO : Reg := ⟨0x16000C8, 4, 1, 0x0⟩
def R.TBS_SNAP_TICK_HI : Reg := ⟨0x16000CC, 4, 1, 0x0⟩
def R.TBS_SNAP_NS : Reg := ⟨0x1600100, 16, 9, 0x0⟩
def R.TBS_SNAP_SLO : Reg := ⟨0x1600104, 16, 9, 0x0⟩
def R.TBS_SNAP_SHI : Reg := ⟨0x1600108, 16, 9, 0x0⟩
def R.TBS_RPT_PEND : Reg := ⟨0x1600190, 4, 8, 0x0⟩
def R.TBS_EVT_STAT : Reg := ⟨0x16001B0, 4, 1, 0x0⟩
def R.TBS_EVT_MASK : Reg := ⟨0x16001B4, 4, 1, 0x31⟩
def R.TBS_TE_CFG : Reg := ⟨0x16001B8, 4, 1, 0xC00FA⟩
def R.TBS_TE_STAT : Reg := ⟨0x16001BC, 4, 1, 0x0⟩
def R.TBS_TRIG_CFG : Reg := ⟨0x1600200, 64, 8, 0x0⟩
def R.TBS_TRIG_START_NS : Reg := ⟨0x1600204, 64, 8, 0x0⟩
def R.TBS_TRIG_START_SLO : Reg := ⟨0x1600208, 64, 8, 0x0⟩
def R.TBS_TRIG_START_SHI : Reg := ⟨0x160020C, 64, 8, 0x0⟩
def R.TBS_TRIG_PERIOD_LO : Reg := ⟨0x1600210, 64, 8, 0x0⟩
def R.TBS_TRIG_PERIOD_HI : Reg := ⟨0x1600214, 64, 8, 0x0⟩
def R.TBS_TRIG_WIDTH : Reg := ⟨0x1600218, 64, 8, 0x64⟩
def R.TBS_TRIG_COUNT : Reg := ⟨0x160021C, 64, 8, 0x0⟩
def R.TBS_TRIG_STAT : Reg := ⟨0x1600220, 64, 8, 0x0⟩
def R.TBS_TRIG_SKIP : Reg := ⟨0x1600224, 64, 8, 0x0⟩
def R.TBS_PORT_CFG : Reg := ⟨0x1601000, 4, 256, 0x0⟩
def R.TBS_PORT_ADJ : Reg := ⟨0x1601400, 4, 256, 0x0⟩
def R.TBS_RPT_PROD : Reg := ⟨0x1601800, 4, 256, 0x0⟩
def R.TBS_RPT_CONS : Reg := ⟨0x1601C00, 4, 256, 0x0⟩
def R.TBS_RPT_STAT : Reg := ⟨0x1602000, 4, 256, 0x0⟩
/-! R506 -/
def R.REF_IN_CFG : Reg := ⟨0x1700000, 4, 4, 0xF800⟩
def R.REF_IN_DELAY : Reg := ⟨0x1700010, 4, 4, 0x0⟩
def R.REF_SRC_CFG : Reg := ⟨0x1700020, 4, 7, 0x12C03C0⟩
def R.REF_TOL_CFG : Reg := ⟨0x1700040, 4, 7, 0x320064⟩
def R.REF_TOL2_CFG : Reg := ⟨0x1700060, 4, 7, 0x6400C8⟩
def R.REF_SRC_STAT : Reg := ⟨0x1700080, 4, 7, 0x0⟩
def R.REF_SRC_DEP : Reg := ⟨0x17000A0, 4, 7, 0x0⟩
def R.REF_SEL_CFG : Reg := ⟨0x17000C0, 4, 1, 0x1⟩
def R.REF_LOOP_CFG : Reg := ⟨0x17000C4, 4, 1, 0x20A14⟩
def R.REF_SLEW_CFG : Reg := ⟨0x17000C8, 4, 1, 0xA⟩
def R.REF_HO_CFG : Reg := ⟨0x17000CC, 4, 1, 0xA03E848⟩
def R.REF_CLASS_CFG : Reg := ⟨0x17000D0, 4, 1, 0xF8A58707⟩
def R.REF_TOD_CFG : Reg := ⟨0x17000D4, 4, 1, 0x2501⟩
def R.REF_PTP_CFG : Reg := ⟨0x17000D8, 4, 1, 0x1⟩
def R.REF_PTP_STAT : Reg := ⟨0x17000DC, 4, 1, 0xF800⟩
def R.REF_PPSO_CFG : Reg := ⟨0x17000E0, 4, 2, 0x186A00⟩
def R.REF_PPSO_ADJ : Reg := ⟨0x17000E8, 4, 2, 0x0⟩
def R.REF_STAT : Reg := ⟨0x17000F0, 4, 1, 0x70⟩
def R.REF_FREQ_WORD : Reg := ⟨0x17000F4, 4, 1, 0x0⟩
def R.REF_PE_CNT : Reg := ⟨0x17000F8, 4, 1, 0x0⟩
def R.REF_PE_LO : Reg := ⟨0x1700100, 4, 1, 0x0⟩
def R.REF_PE_HI : Reg := ⟨0x1700104, 4, 1, 0x70000⟩
def R.REF_HO_STAT : Reg := ⟨0x1700108, 4, 1, 0x0⟩
def R.REF_HO_EST : Reg := ⟨0x170010C, 4, 1, 0x0⟩
def R.REF_EVT_STAT : Reg := ⟨0x1700110, 4, 1, 0x0⟩
def R.REF_EVT_MASK : Reg := ⟨0x1700114, 4, 1, 0x3F⟩
/-! R507 -/
def R.SYN_CKO_CFG : Reg := ⟨0x1800000, 4, 12, 0x8⟩
def R.SYN_CKO_DIV : Reg := ⟨0x1800040, 4, 12, 0xF9⟩
def R.SYN_CKO_DLY : Reg := ⟨0x1800080, 4, 12, 0x0⟩
def R.SYN_CKO_STAT : Reg := ⟨0x18000C0, 4, 12, 0x0⟩
def R.SYN_RAMP_RATE : Reg := ⟨0x1800100, 4, 16, 0x0⟩
def R.SYN_RAMP_DUR : Reg := ⟨0x1800140, 4, 16, 0x0⟩
def R.SYN_RAMP_CFG : Reg := ⟨0x1800180, 4, 1, 0x0⟩
def R.SYN_RAMP_STAT : Reg := ⟨0x1800184, 4, 1, 0x0⟩
def R.SYN_RAMP_Z : Reg := ⟨0x1800188, 4, 1, 0x0⟩
def R.SYN_STAT_STEER : Reg := ⟨0x180018C, 4, 1, 0x0⟩
def R.SYN_STAT : Reg := ⟨0x1800190, 4, 1, 0x0⟩
def R.SYN_EVT_STAT : Reg := ⟨0x1800194, 4, 1, 0x0⟩
def R.SYN_EVT_MASK : Reg := ⟨0x1800198, 4, 1, 0xF⟩
/-! R508 -/
def R.TDC_CH_CFG : Reg := ⟨0x1900000, 4, 2, 0xDB640⟩
def R.TDC_CH_HOLDOFF : Reg := ⟨0x1900008, 4, 2, 0x0⟩
def R.TDC_CFG : Reg := ⟨0x1900010, 4, 1, 0x1⟩
def R.TDC_TIMING : Reg := ⟨0x1900014, 4, 1, 0x3E8⟩
def R.TDC_MARK_CFG : Reg := ⟨0x1900018, 4, 1, 0x0⟩
def R.TDC_MARK_NS : Reg := ⟨0x1900020, 4, 1, 0x0⟩
def R.TDC_MARK_SLO : Reg := ⟨0x1900024, 4, 1, 0x0⟩
def R.TDC_MARK_SHI : Reg := ⟨0x1900028, 4, 1, 0x0⟩
def R.TDC_MARK_PERIOD_LO : Reg := ⟨0x1900030, 4, 1, 0x0⟩
def R.TDC_MARK_PERIOD_HI : Reg := ⟨0x1900034, 4, 1, 0x0⟩
def R.TDC_BIN_SEL : Reg := ⟨0x1900038, 4, 1, 0x0⟩
def R.TDC_BIN_DATA : Reg := ⟨0x190003C, 4, 1, 0x0⟩
def R.TDC_BIN_TEMP : Reg := ⟨0x1900040, 4, 1, 0x8000⟩
def R.TDC_STAT : Reg := ⟨0x1900044, 4, 1, 0x0⟩
def R.TDC_EVT_STAT : Reg := ⟨0x1900048, 4, 1, 0x0⟩
def R.TDC_EVT_MASK : Reg := ⟨0x190004C, 4, 1, 0x31⟩
def R.TDC_RES : Reg := ⟨0x1900060, 4, 8, 0x0⟩
def R.TDC_CNT : Reg := ⟨0x1900080, 4, 6, 0x0⟩
/-! R509 -/
def R.CAL_CFG : Reg := ⟨0x1A00000, 4, 1, 0x401⟩
def R.CAL_TEMP_STEP : Reg := ⟨0x1A00004, 4, 1, 0x20⟩
def R.CAL_LAST_TEMP : Reg := ⟨0x1A00008, 4, 1, 0x8000⟩
def R.CAL_STAT : Reg := ⟨0x1A0000C, 4, 1, 0x23B0000⟩
def R.CAL_PATH_SEL : Reg := ⟨0x1A00010, 4, 1, 0x0⟩
def R.CAL_PATH_BASE : Reg := ⟨0x1A00014, 4, 1, 0x0⟩
def R.CAL_PATH_TRIM : Reg := ⟨0x1A00018, 4, 1, 0x0⟩
def R.CAL_TRACE_CORR : Reg := ⟨0x1A0001C, 4, 1, 0x0⟩
def R.CAL_OCXO_CFG : Reg := ⟨0x1A00020, 4, 1, 0xA6401⟩
def R.CAL_OCXO_TRIM : Reg := ⟨0x1A00024, 4, 1, 0x0⟩
def R.CAL_EVT_STAT : Reg := ⟨0x1A00028, 4, 1, 0x0⟩
def R.CAL_EVT_MASK : Reg := ⟨0x1A0002C, 4, 1, 0x3E⟩
/-! R510 -/
def R.EVT_FAULT_ACT : Reg := ⟨0x1B00000, 4, 1, 0x80692⟩
def R.EVT_LAST_FAULT : Reg := ⟨0x1B00004, 4, 1, 0x0⟩
def R.EVT_SPARE_STAT : Reg := ⟨0x1B00008, 4, 1, 0x0⟩
def R.EVT_CNT : Reg := ⟨0x1B0000C, 4, 1, 0x0⟩
def R.EVT_RESERVED_OFS : Reg := ⟨0x1B00010, 4, 1, 0x0⟩
def R.EVT_D2D_CTL : Reg := ⟨0x1B00014, 4, 1, 0x0⟩
def R.EVT_D2D_STAT : Reg := ⟨0x1B00018, 4, 1, 0x0⟩
def R.EVT_LOG_CFG : Reg := ⟨0x1B0001C, 4, 1, 0xA⟩
def R.EVT_LOG_STAT : Reg := ⟨0x1B00020, 4, 1, 0x0⟩
def R.EVT_LOG : Reg := ⟨0x1B00030, 4, 4, 0x0⟩
def R.EVT_SUM : Reg := ⟨0x1B00040, 4, 1, 0x0⟩
def R.EVT_VEC_MAP_0 : Reg := ⟨0x1B00044, 4, 1, 0x76543210⟩
def R.EVT_VEC_MAP_1 : Reg := ⟨0x1B00048, 4, 1, 0xDDCBA98⟩
def R.EVT_REARM : Reg := ⟨0x1B0004C, 4, 1, 0x0⟩
def R.EVT_STAT : Reg := ⟨0x1B00050, 4, 1, 0x0⟩
def R.EVT_MASK : Reg := ⟨0x1B00054, 4, 1, 0x2A⟩
/-! R511 -/
def R.TWN_CFG : Reg := ⟨0x1C00000, 4, 1, 0x12C18⟩
def R.TWN_TIMING : Reg := ⟨0x1C00004, 4, 1, 0x1906410⟩
def R.TWN_TOL : Reg := ⟨0x1C00008, 4, 1, 0x640064⟩
def R.TWN_PATH_ADJ : Reg := ⟨0x1C0000C, 4, 1, 0x0⟩
def R.TWN_MIRROR_ASYM : Reg := ⟨0x1C00010, 4, 1, 0x0⟩
def R.TWN_STAT : Reg := ⟨0x1C00014, 4, 1, 0x0⟩
def R.TWN_HEALTH : Reg := ⟨0x1C00018, 4, 1, 0x0⟩
def R.TWN_TIME_DIFF : Reg := ⟨0x1C0001C, 4, 1, 0x0⟩
def R.TWN_TXN_STAT : Reg := ⟨0x1C00020, 4, 1, 0x0⟩
def R.TWN_MIRROR_STAT : Reg := ⟨0x1C00024, 4, 1, 0x0⟩
def R.TWN_EVT_STAT : Reg := ⟨0x1C00028, 4, 1, 0x0⟩
def R.TWN_EVT_MASK : Reg := ⟨0x1C0002C, 4, 1, 0x14D5⟩
/-! R512 -/
def R.PWR_IDENT : Reg := ⟨0x1D00000, 4, 1, 0x129640⟩
def R.PWR_SERIAL_0 : Reg := ⟨0x1D00004, 4, 1, 0x0⟩
def R.PWR_SERIAL_1 : Reg := ⟨0x1D00008, 4, 1, 0x0⟩
def R.PWR_SERIAL_2 : Reg := ⟨0x1D0000C, 4, 1, 0x0⟩
def R.PWR_MODE_CTL : Reg := ⟨0x1D00010, 4, 1, 0x0⟩
def R.PWR_MODE_STAT : Reg := ⟨0x1D00014, 4, 1, 0x0⟩
def R.PWR_FEED_STAT : Reg := ⟨0x1D00018, 4, 1, 0x5⟩
def R.PWR_FEED_MON_0 : Reg := ⟨0x1D0001C, 4, 1, 0x0⟩
def R.PWR_FEED_MON_1 : Reg := ⟨0x1D00020, 4, 1, 0x0⟩
def R.PWR_RAIL_STAT : Reg := ⟨0x1D00024, 4, 1, 0x8080⟩
def R.PWR_EVT_STAT : Reg := ⟨0x1D00028, 4, 1, 0x0⟩
def R.PWR_ALERT_MASK : Reg := ⟨0x1D0002C, 4, 1, 0x3FF⟩
def R.PWR_TEMP : Reg := ⟨0x1D00030, 4, 1, 0x0⟩
def R.PWR_TEMP_THR : Reg := ⟨0x1D00034, 4, 1, 0x5F00550⟩
def R.PWR_SMB_CFG : Reg := ⟨0x1D00038, 4, 1, 0x0⟩
def R.PWR_SMB_STAT : Reg := ⟨0x1D0003C, 4, 1, 0x58⟩
def R.PWR_CLK_STAT : Reg := ⟨0x1D00040, 4, 1, 0x0⟩
def R.PWR_OCXO_STAT : Reg := ⟨0x1D00044, 4, 1, 0x0⟩
def R.PWR_RESET_CAUSE : Reg := ⟨0x1D00048, 4, 1, 0x1⟩
def R.PWR_RESET_CTL : Reg := ⟨0x1D0004C, 4, 1, 0x0⟩
def R.PWR_BOOT_STAT : Reg := ⟨0x1D00050, 4, 1, 0x0⟩
def R.EVT_LASTING : Reg := ⟨0x1D00080, 4, 1, 0x0⟩
def R.EVT_FCNT : Reg := ⟨0x1D00084, 4, 11, 0x0⟩
/-! R494 -/
def R.MBX_DT_NOTIFY : Reg := ⟨0x100000000, 4096, 256, 0x0⟩
def R.MBX_DT_SEQ : Reg := ⟨0x100000004, 4096, 256, 0x0⟩
def R.MBX_DT_DONE : Reg := ⟨0x100000008, 4096, 256, 0x0⟩
def R.MBX_DT_BIND : Reg := ⟨0x10000000C, 4096, 256, 0x0⟩
def R.MBX_DT_STAT : Reg := ⟨0x100000010, 4096, 256, 0x0⟩

/-! Fields of R128 (04_grange_mailboxes.md) -/
def MBX_DOORBELL.RING : Fld := ⟨R.MBX_DOORBELL, 0, 16, .wo, []⟩
def MBX_STATE.STATE : Fld := ⟨R.MBX_STATE, 0, 32, .ro, []⟩
def MBX_ERR_STAT.DOORBELL_LOST_CNT : Fld := ⟨R.MBX_ERR_STAT, 0, 8, .rw, []⟩
def MBX_ERR_STAT.WRITE_LOST_CNT : Fld := ⟨R.MBX_ERR_STAT, 8, 8, .rw, []⟩
def MBX_RETRY_STAT.TRANSIENT_CNT : Fld := ⟨R.MBX_RETRY_STAT, 0, 16, .rw, []⟩
def MBX_RETRY_STAT.LASTING_CNT : Fld := ⟨R.MBX_RETRY_STAT, 16, 16, .rw, []⟩
def MBX_GRANGE_STAT.AWAKE : Fld := ⟨R.MBX_GRANGE_STAT, 0, 1, .ro, []⟩
def MBX_GRANGE_STAT.RECOVERY : Fld := ⟨R.MBX_GRANGE_STAT, 1, 1, .ro, []⟩
def MBX_GRANGE_STAT.WDT_CNT : Fld := ⟨R.MBX_GRANGE_STAT, 8, 8, .ro, []⟩
def MBX_TICK_LO.TICK : Fld := ⟨R.MBX_TICK_LO, 0, 32, .ro, []⟩
def MBX_TICK_HI.TICK : Fld := ⟨R.MBX_TICK_HI, 0, 32, .ro, []⟩
def MBX_COMMIT_GROUPS.GROUPS : Fld := ⟨R.MBX_COMMIT_GROUPS, 0, 12, .rw, []⟩
def MBX_COMMIT_CTL.GO : Fld := ⟨R.MBX_COMMIT_CTL, 0, 1, .wo, []⟩
def MBX_COMMIT_CTL.WHEN : Fld := ⟨R.MBX_COMMIT_CTL, 1, 2, .wo, [(0, 2)]⟩
def MBX_COMMIT_CTL.DISCARD : Fld := ⟨R.MBX_COMMIT_CTL, 3, 1, .wo, []⟩
def MBX_COMMIT_AT_LO.AT : Fld := ⟨R.MBX_COMMIT_AT_LO, 0, 32, .rw, []⟩
def MBX_COMMIT_AT_HI.AT : Fld := ⟨R.MBX_COMMIT_AT_HI, 0, 32, .rw, []⟩
def MBX_COMMIT_STAT.STATE : Fld := ⟨R.MBX_COMMIT_STAT, 0, 2, .ro, []⟩
def MBX_COMMIT_STAT.FAIL_GROUP : Fld := ⟨R.MBX_COMMIT_STAT, 8, 4, .ro, []⟩
def MBX_COMMIT_STAT.RESULT : Fld := ⟨R.MBX_COMMIT_STAT, 16, 16, .ro, []⟩
def MBX_COMMIT_FAIL.FAIL_OFFSET : Fld := ⟨R.MBX_COMMIT_FAIL, 0, 32, .ro, []⟩
def MBX_COMMIT_APPLIED_LO.TICK : Fld := ⟨R.MBX_COMMIT_APPLIED_LO, 0, 32, .ro, []⟩
def MBX_COMMIT_APPLIED_HI.TICK : Fld := ⟨R.MBX_COMMIT_APPLIED_HI, 0, 32, .ro, []⟩
/-! Fields of R163 (05_client_ports.md) -/
def PRT_CFG.ENABLE : Fld := ⟨R.PRT_CFG, 0, 1, .rwc, []⟩
def PRT_CFG.WIDTH : Fld := ⟨R.PRT_CFG, 1, 2, .rwc, []⟩
def PRT_CFG.HOLD : Fld := ⟨R.PRT_CFG, 3, 1, .rwc, []⟩
def PRT_CFG.FIRST_LANE : Fld := ⟨R.PRT_CFG, 4, 8, .rwc, []⟩
def PRT_CFG.FC_MODE : Fld := ⟨R.PRT_CFG, 12, 2, .rwc, [(0, 2)]⟩
def PRT_CFG.PREEMPT_EN : Fld := ⟨R.PRT_CFG, 14, 1, .rwc, []⟩
def PRT_CFG.IP_CSUM_CHECK : Fld := ⟨R.PRT_CFG, 15, 1, .rwc, []⟩
def PRT_CFG.LOOPBACK : Fld := ⟨R.PRT_CFG, 16, 2, .rwc, [(0, 2)]⟩
def PRT_FRAME_CFG.MAX_LEN : Fld := ⟨R.PRT_FRAME_CFG, 0, 14, .rwc, [(1518, 12288)]⟩
def PRT_PFC_CFG.RX_EN : Fld := ⟨R.PRT_PFC_CFG, 0, 8, .rwc, []⟩
def PRT_PFC_CFG.TX_EN : Fld := ⟨R.PRT_PFC_CFG, 8, 8, .rwc, []⟩
def PRT_PFC_CFG.TX_QUANTA : Fld := ⟨R.PRT_PFC_CFG, 16, 16, .rwc, [(1, 65535)]⟩
def PRT_PREEMPT_CFG.EXPRESS : Fld := ⟨R.PRT_PREEMPT_CFG, 0, 8, .rwc, []⟩
def PRT_PREEMPT_CFG.ADD_FRAG : Fld := ⟨R.PRT_PREEMPT_CFG, 8, 2, .rwc, []⟩
def PRT_PREEMPT_CFG.VERIFY_DIS : Fld := ⟨R.PRT_PREEMPT_CFG, 10, 1, .rwc, []⟩
def PRT_PREEMPT_CFG.VERIFY_MS : Fld := ⟨R.PRT_PREEMPT_CFG, 11, 8, .rwc, [(1, 128)]⟩
def PRT_LANE_CFG.TX_INV : Fld := ⟨R.PRT_LANE_CFG, 0, 1, .rwc, []⟩
def PRT_LANE_CFG.RX_INV : Fld := ⟨R.PRT_LANE_CFG, 1, 1, .rwc, []⟩
def PRT_LANE_CFG.C_M2 : Fld := ⟨R.PRT_LANE_CFG, 4, 4, .rwc, []⟩
def PRT_LANE_CFG.C_M1 : Fld := ⟨R.PRT_LANE_CFG, 8, 6, .rwc, []⟩
def PRT_LANE_CFG.C_P1 : Fld := ⟨R.PRT_LANE_CFG, 14, 5, .rwc, []⟩
def PRT_LINK_CFG.DOWN_DEB : Fld := ⟨R.PRT_LINK_CFG, 0, 10, .rw, [(0, 1000)]⟩
def PRT_LINK_CFG.UP_DEB : Fld := ⟨R.PRT_LINK_CFG, 10, 10, .rw, [(0, 1000)]⟩
def PRT_FEC_CFG.DEGRADE_THR : Fld := ⟨R.PRT_FEC_CFG, 0, 16, .rw, []⟩
def PRT_MAC_ADDR_LO.ADDR_LO : Fld := ⟨R.PRT_MAC_ADDR_LO, 0, 32, .rw, []⟩
def PRT_MAC_ADDR_HI.ADDR_HI : Fld := ⟨R.PRT_MAC_ADDR_HI, 0, 16, .rw, []⟩
def PRT_STAT.LINK_STATE : Fld := ⟨R.PRT_STAT, 0, 4, .ro, []⟩
def PRT_STAT.SIG_ALL : Fld := ⟨R.PRT_STAT, 4, 1, .ro, []⟩
def PRT_STAT.FEC_LOCK : Fld := ⟨R.PRT_STAT, 5, 1, .ro, []⟩
def PRT_STAT.LOCAL_FAULT : Fld := ⟨R.PRT_STAT, 6, 1, .ro, []⟩
def PRT_STAT.REMOTE_FAULT : Fld := ⟨R.PRT_STAT, 7, 1, .ro, []⟩
def PRT_STAT.RX_PAUSED : Fld := ⟨R.PRT_STAT, 8, 8, .ro, []⟩
def PRT_STAT.TX_XOFF : Fld := ⟨R.PRT_STAT, 16, 8, .ro, []⟩
def PRT_STAT.PREEMPT_ACTIVE : Fld := ⟨R.PRT_STAT, 24, 1, .ro, []⟩
def PRT_STAT.RETRY : Fld := ⟨R.PRT_STAT, 25, 1, .ro, []⟩
def PRT_STAT.DOWN_CAUSE : Fld := ⟨R.PRT_STAT, 26, 4, .ro, []⟩
def PRT_EVT_STAT.LINK_UP : Fld := ⟨R.PRT_EVT_STAT, 0, 1, .w1c, []⟩
def PRT_EVT_STAT.LINK_DOWN : Fld := ⟨R.PRT_EVT_STAT, 1, 1, .w1c, []⟩
def PRT_EVT_STAT.LINK_FAIL : Fld := ⟨R.PRT_EVT_STAT, 2, 1, .w1c, []⟩
def PRT_EVT_STAT.TRAIN_TRANSIENT : Fld := ⟨R.PRT_EVT_STAT, 3, 1, .w1c, []⟩
def PRT_EVT_STAT.FEC_DEGRADE : Fld := ⟨R.PRT_EVT_STAT, 4, 1, .w1c, []⟩
def PRT_EVT_STAT.VERIFY_FAIL : Fld := ⟨R.PRT_EVT_STAT, 5, 1, .w1c, []⟩
def PRT_EVT_STAT.GLITCH : Fld := ⟨R.PRT_EVT_STAT, 6, 1, .w1c, []⟩
def PRT_EVT_MASK.LINK_UP : Fld := ⟨R.PRT_EVT_MASK, 0, 1, .rw, []⟩
def PRT_EVT_MASK.LINK_DOWN : Fld := ⟨R.PRT_EVT_MASK, 1, 1, .rw, []⟩
def PRT_EVT_MASK.LINK_FAIL : Fld := ⟨R.PRT_EVT_MASK, 2, 1, .rw, []⟩
def PRT_EVT_MASK.TRAIN_TRANSIENT : Fld := ⟨R.PRT_EVT_MASK, 3, 1, .rw, []⟩
def PRT_EVT_MASK.FEC_DEGRADE : Fld := ⟨R.PRT_EVT_MASK, 4, 1, .rw, []⟩
def PRT_EVT_MASK.VERIFY_FAIL : Fld := ⟨R.PRT_EVT_MASK, 5, 1, .rw, []⟩
def PRT_EVT_MASK.GLITCH : Fld := ⟨R.PRT_EVT_MASK, 6, 1, .rw, []⟩
def PRT_OPT_CFG.FAST : Fld := ⟨R.PRT_OPT_CFG, 0, 16, .rw, []⟩
def PRT_OPT_STAT.INT_LVL : Fld := ⟨R.PRT_OPT_STAT, 0, 16, .ro, []⟩
def PRT_OPT_STAT.INT_EVT : Fld := ⟨R.PRT_OPT_STAT, 16, 16, .w1c, []⟩
/-! Fields of R199 (06_sheaf_line.md) -/
def SHF_CFG.ENABLE : Fld := ⟨R.SHF_CFG, 0, 1, .rwc, []⟩
def SHF_CFG.DUP : Fld := ⟨R.SHF_CFG, 1, 1, .rwc, []⟩
def SHF_CFG.POOL : Fld := ⟨R.SHF_CFG, 4, 3, .rwc, []⟩
def SHF_CFG.PEER_SHEAF : Fld := ⟨R.SHF_CFG, 8, 5, .rwc, []⟩
def SHF_CFG.MAX_LEN : Fld := ⟨R.SHF_CFG, 16, 14, .rwc, [(1518, 12288)]⟩
def SHF_PEER_NODE_LO.ID : Fld := ⟨R.SHF_PEER_NODE_LO, 0, 32, .rwc, []⟩
def SHF_PEER_NODE_HI.ID : Fld := ⟨R.SHF_PEER_NODE_HI, 0, 32, .rwc, []⟩
def SHF_SHEAF_STAT.RX_STATE : Fld := ⟨R.SHF_SHEAF_STAT, 0, 2, .ro, []⟩
def SHF_SHEAF_STAT.ACTIVE_CNT : Fld := ⟨R.SHF_SHEAF_STAT, 8, 5, .ro, []⟩
def SHF_SHEAF_STAT.RATE_SUM : Fld := ⟨R.SHF_SHEAF_STAT, 16, 11, .ro, []⟩
def SHF_LOSS_WAIT.LOSS_WAIT : Fld := ⟨R.SHF_LOSS_WAIT, 0, 14, .ro, []⟩
def SHF_EVT_STAT.GRAIN_LOST : Fld := ⟨R.SHF_EVT_STAT, 0, 1, .w1c, []⟩
def SHF_EVT_STAT.SYNC_LOSS : Fld := ⟨R.SHF_EVT_STAT, 1, 1, .w1c, []⟩
def SHF_EVT_STAT.DENSITY : Fld := ⟨R.SHF_EVT_STAT, 2, 1, .w1c, []⟩
def SHF_EVT_STAT.RESYNC : Fld := ⟨R.SHF_EVT_STAT, 3, 1, .w1c, []⟩
def SHF_EVT_MASK.GRAIN_LOST : Fld := ⟨R.SHF_EVT_MASK, 0, 1, .rw, []⟩
def SHF_EVT_MASK.SYNC_LOSS : Fld := ⟨R.SHF_EVT_MASK, 1, 1, .rw, []⟩
def SHF_EVT_MASK.DENSITY : Fld := ⟨R.SHF_EVT_MASK, 2, 1, .rw, []⟩
def SHF_EVT_MASK.RESYNC : Fld := ⟨R.SHF_EVT_MASK, 3, 1, .rw, []⟩
/-! Fields of R356 (11_route_time_transfer.md) -/
def SHF_TT_CFG.METHOD : Fld := ⟨R.SHF_TT_CFG, 0, 2, .rwc, []⟩
def SHF_TT_CFG.LINE_REF : Fld := ⟨R.SHF_TT_CFG, 2, 2, .rwc, [(0, 2)]⟩
def SHF_TT_CFG.CP_FIBRE : Fld := ⟨R.SHF_TT_CFG, 4, 1, .rwc, []⟩
def SHF_TT_CFG.AVG_MS : Fld := ⟨R.SHF_TT_CFG, 8, 10, .rwc, [(1, 1000)]⟩
def SHF_TT_CFG.TC_WINDOW : Fld := ⟨R.SHF_TT_CFG, 18, 14, .rwc, [(10, 10000)]⟩
def SHF_TT_LIM.OUTLIER_PS : Fld := ⟨R.SHF_TT_LIM, 0, 16, .rwc, []⟩
def SHF_TT_LIM.ASYM_UNC : Fld := ⟨R.SHF_TT_LIM, 16, 16, .rwc, []⟩
def SHF_TT_FIB_TAU.TAU0 : Fld := ⟨R.SHF_TT_FIB_TAU, 0, 23, .rwc, [(4500000, 5500000)]⟩
def SHF_TT_FIB_TAU.DISP_UNC : Fld := ⟨R.SHF_TT_FIB_TAU, 24, 8, .rwc, []⟩
def SHF_TT_FIB_DISP.D : Fld := ⟨R.SHF_TT_FIB_DISP, 0, 16, .rwc, []⟩
def SHF_TT_FIB_DISP.S : Fld := ⟨R.SHF_TT_FIB_DISP, 16, 16, .rwc, []⟩
def SHF_TT_STAT.MEAS_CNT : Fld := ⟨R.SHF_TT_STAT, 0, 5, .ro, []⟩
def SHF_TT_STAT.SAMPLE_OK : Fld := ⟨R.SHF_TT_STAT, 5, 1, .ro, []⟩
def SHF_TT_STAT.F_CURRENT : Fld := ⟨R.SHF_TT_STAT, 6, 1, .ro, []⟩
def SHF_TT_STAT.NO_ASYM : Fld := ⟨R.SHF_TT_STAT, 7, 1, .ro, []⟩
def SHF_TT_STAT.PEER_STEPS : Fld := ⟨R.SHF_TT_STAT, 8, 8, .ro, []⟩
def SHF_TT_STAT.PEER_CLASS : Fld := ⟨R.SHF_TT_STAT, 16, 8, .ro, []⟩
def SHF_TT_STAT.PEER_TFLAGS : Fld := ⟨R.SHF_TT_STAT, 24, 3, .ro, []⟩
def SHF_TT_STAT.STEPS_OVER : Fld := ⟨R.SHF_TT_STAT, 27, 1, .ro, []⟩
def SHF_TT_STAT.CP_SEEN : Fld := ⟨R.SHF_TT_STAT, 28, 1, .ro, []⟩
def SHF_TT_OFS_LO.OFS : Fld := ⟨R.SHF_TT_OFS_LO, 0, 32, .ro, []⟩
def SHF_TT_OFS_HI.OFS : Fld := ⟨R.SHF_TT_OFS_HI, 0, 32, .ro, []⟩
def SHF_TT_F.F : Fld := ⟨R.SHF_TT_F, 0, 32, .ro, []⟩
def SHF_TT_UNC.F_UNC : Fld := ⟨R.SHF_TT_UNC, 0, 16, .ro, []⟩
def SHF_TT_UNC.SPREAD : Fld := ⟨R.SHF_TT_UNC, 16, 16, .ro, []⟩
def SHF_TT_HOP_TE.HOP_TE : Fld := ⟨R.SHF_TT_HOP_TE, 0, 32, .ro, []⟩
def SHF_TT_EVT_STAT.LINE_LOST : Fld := ⟨R.SHF_TT_EVT_STAT, 0, 1, .w1c, []⟩
def SHF_TT_EVT_STAT.OUTLIER : Fld := ⟨R.SHF_TT_EVT_STAT, 1, 1, .w1c, []⟩
def SHF_TT_EVT_STAT.ASYM_JUMP : Fld := ⟨R.SHF_TT_EVT_STAT, 2, 1, .w1c, []⟩
def SHF_TT_EVT_STAT.CP_MISMATCH : Fld := ⟨R.SHF_TT_EVT_STAT, 3, 1, .w1c, []⟩
def SHF_TT_EVT_STAT.BUDGET : Fld := ⟨R.SHF_TT_EVT_STAT, 4, 1, .w1c, []⟩
def SHF_TT_EVT_STAT.STEPS_OVER : Fld := ⟨R.SHF_TT_EVT_STAT, 5, 1, .w1c, []⟩
def SHF_TT_EVT_STAT.F_READY : Fld := ⟨R.SHF_TT_EVT_STAT, 6, 1, .w1c, []⟩
def SHF_TT_EVT_MASK.LINE_LOST : Fld := ⟨R.SHF_TT_EVT_MASK, 0, 1, .rw, []⟩
def SHF_TT_EVT_MASK.OUTLIER : Fld := ⟨R.SHF_TT_EVT_MASK, 1, 1, .rw, []⟩
def SHF_TT_EVT_MASK.ASYM_JUMP : Fld := ⟨R.SHF_TT_EVT_MASK, 2, 1, .rw, []⟩
def SHF_TT_EVT_MASK.CP_MISMATCH : Fld := ⟨R.SHF_TT_EVT_MASK, 3, 1, .rw, []⟩
def SHF_TT_EVT_MASK.BUDGET : Fld := ⟨R.SHF_TT_EVT_MASK, 4, 1, .rw, []⟩
def SHF_TT_EVT_MASK.STEPS_OVER : Fld := ⟨R.SHF_TT_EVT_MASK, 5, 1, .rw, []⟩
def SHF_TT_EVT_MASK.F_READY : Fld := ⟨R.SHF_TT_EVT_MASK, 6, 1, .rw, []⟩
/-! Fields of R199 (06_sheaf_line.md) -/
def SHF_NODE_ID_LO.ID : Fld := ⟨R.SHF_NODE_ID_LO, 0, 32, .rwc, []⟩
def SHF_NODE_ID_HI.ID : Fld := ⟨R.SHF_NODE_ID_HI, 0, 32, .rwc, []⟩
def SHF_CAR_CFG.ENABLE : Fld := ⟨R.SHF_CAR_CFG, 0, 1, .rwc, []⟩
def SHF_CAR_CFG.HOLD : Fld := ⟨R.SHF_CAR_CFG, 1, 1, .rwc, []⟩
def SHF_CAR_CFG.AUTO_JOIN : Fld := ⟨R.SHF_CAR_CFG, 2, 1, .rwc, []⟩
def SHF_CAR_CFG.LEG : Fld := ⟨R.SHF_CAR_CFG, 3, 1, .rwc, []⟩
def SHF_CAR_CFG.CP : Fld := ⟨R.SHF_CAR_CFG, 4, 1, .rwc, []⟩
def SHF_CAR_CFG.FIRST_LANE : Fld := ⟨R.SHF_CAR_CFG, 8, 8, .rwc, []⟩
def SHF_CAR_CFG.LANES_M1 : Fld := ⟨R.SHF_CAR_CFG, 16, 4, .rwc, []⟩
def SHF_CAR_CFG.RATE : Fld := ⟨R.SHF_CAR_CFG, 20, 7, .rwc, [(4, 64)]⟩
def SHF_CAR_CFG.SHEAF : Fld := ⟨R.SHF_CAR_CFG, 27, 5, .rwc, []⟩
def SHF_CAR_FREQ.CENTRE_FREQ : Fld := ⟨R.SHF_CAR_FREQ, 0, 32, .rwc, []⟩
def SHF_CAR_STAT.STATE : Fld := ⟨R.SHF_CAR_STAT, 0, 4, .ro, []⟩
def SHF_CAR_STAT.LANES_LOCKED : Fld := ⟨R.SHF_CAR_STAT, 4, 1, .ro, []⟩
def SHF_CAR_STAT.TG_OK : Fld := ⟨R.SHF_CAR_STAT, 5, 1, .ro, []⟩
def SHF_CAR_STAT.ECHO_OK : Fld := ⟨R.SHF_CAR_STAT, 6, 1, .ro, []⟩
def SHF_CAR_STAT.RETRY : Fld := ⟨R.SHF_CAR_STAT, 7, 1, .ro, []⟩
def SHF_CAR_STAT.PEER_STATE : Fld := ⟨R.SHF_CAR_STAT, 8, 4, .ro, []⟩
def SHF_CAR_STAT.DOWN_CAUSE : Fld := ⟨R.SHF_CAR_STAT, 12, 4, .ro, []⟩
def SHF_CAR_STAT.PEER_CARRIER : Fld := ⟨R.SHF_CAR_STAT, 16, 7, .ro, []⟩
def SHF_CAR_SKEW.VALUE : Fld := ⟨R.SHF_CAR_SKEW, 0, 32, .ro, []⟩
def SHF_CAR_RTT.VALUE : Fld := ⟨R.SHF_CAR_RTT, 0, 32, .ro, []⟩
def SHF_CAR_EVT_STAT.ACTIVE : Fld := ⟨R.SHF_CAR_EVT_STAT, 0, 1, .w1c, []⟩
def SHF_CAR_EVT_STAT.DOWN : Fld := ⟨R.SHF_CAR_EVT_STAT, 1, 1, .w1c, []⟩
def SHF_CAR_EVT_STAT.TRAIN_FAIL : Fld := ⟨R.SHF_CAR_EVT_STAT, 2, 1, .w1c, []⟩
def SHF_CAR_EVT_STAT.TRAIN_TRANSIENT : Fld := ⟨R.SHF_CAR_EVT_STAT, 3, 1, .w1c, []⟩
def SHF_CAR_EVT_STAT.SKEW_EXCESS : Fld := ⟨R.SHF_CAR_EVT_STAT, 4, 1, .w1c, []⟩
def SHF_CAR_EVT_STAT.MISCONNECT : Fld := ⟨R.SHF_CAR_EVT_STAT, 5, 1, .w1c, []⟩
def SHF_CAR_EVT_STAT.JOIN_NAK : Fld := ⟨R.SHF_CAR_EVT_STAT, 6, 1, .w1c, []⟩
def SHF_CAR_EVT_STAT.PARKED : Fld := ⟨R.SHF_CAR_EVT_STAT, 7, 1, .w1c, []⟩
def SHF_CAR_EVT_MASK.ACTIVE : Fld := ⟨R.SHF_CAR_EVT_MASK, 0, 1, .rw, []⟩
def SHF_CAR_EVT_MASK.DOWN : Fld := ⟨R.SHF_CAR_EVT_MASK, 1, 1, .rw, []⟩
def SHF_CAR_EVT_MASK.TRAIN_FAIL : Fld := ⟨R.SHF_CAR_EVT_MASK, 2, 1, .rw, []⟩
def SHF_CAR_EVT_MASK.TRAIN_TRANSIENT : Fld := ⟨R.SHF_CAR_EVT_MASK, 3, 1, .rw, []⟩
def SHF_CAR_EVT_MASK.SKEW_EXCESS : Fld := ⟨R.SHF_CAR_EVT_MASK, 4, 1, .rw, []⟩
def SHF_CAR_EVT_MASK.MISCONNECT : Fld := ⟨R.SHF_CAR_EVT_MASK, 5, 1, .rw, []⟩
def SHF_CAR_EVT_MASK.JOIN_NAK : Fld := ⟨R.SHF_CAR_EVT_MASK, 6, 1, .rw, []⟩
def SHF_CAR_EVT_MASK.PARKED : Fld := ⟨R.SHF_CAR_EVT_MASK, 7, 1, .rw, []⟩
/-! Fields of R356 (11_route_time_transfer.md) -/
def SHF_TT_ASYM.ASYM : Fld := ⟨R.SHF_TT_ASYM, 0, 32, .rwc, []⟩
def SHF_TT_NFRT.NFRT : Fld := ⟨R.SHF_TT_NFRT, 0, 32, .rwc, []⟩
/-! Fields of R199 (06_sheaf_line.md) -/
def SHF_LANE_CFG.TX_INV : Fld := ⟨R.SHF_LANE_CFG, 0, 1, .rwc, []⟩
def SHF_LANE_CFG.RX_INV : Fld := ⟨R.SHF_LANE_CFG, 1, 1, .rwc, []⟩
def SHF_LANE_CFG.C_M2 : Fld := ⟨R.SHF_LANE_CFG, 4, 4, .rwc, []⟩
def SHF_LANE_CFG.C_M1 : Fld := ⟨R.SHF_LANE_CFG, 8, 6, .rwc, []⟩
def SHF_LANE_CFG.C_P1 : Fld := ⟨R.SHF_LANE_CFG, 14, 5, .rwc, []⟩
/-! Fields of R238 (07_forwarding_core.md) -/
def FWD_IN_CFG.L3_EN : Fld := ⟨R.FWD_IN_CFG, 0, 1, .rwc, []⟩
def FWD_IN_CFG.MPLS_EN : Fld := ⟨R.FWD_IN_CFG, 1, 1, .rwc, []⟩
def FWD_IN_CFG.L2_EN : Fld := ⟨R.FWD_IN_CFG, 2, 1, .rwc, []⟩
def FWD_IN_CFG.FLOW_EN : Fld := ⟨R.FWD_IN_CFG, 3, 1, .rwc, []⟩
def FWD_IN_CFG.INGRESS_KEY : Fld := ⟨R.FWD_IN_CFG, 4, 1, .rwc, []⟩
def FWD_IN_CFG.CLASS_SRC : Fld := ⟨R.FWD_IN_CFG, 5, 2, .rwc, [(0, 2)]⟩
def FWD_IN_CFG.DEFAULT_CLASS : Fld := ⟨R.FWD_IN_CFG, 7, 3, .rwc, []⟩
def FWD_IN_CFG.ARB_WEIGHT : Fld := ⟨R.FWD_IN_CFG, 10, 4, .rwc, [(1, 15)]⟩
def FWD_PCP_MAP.MAP : Fld := ⟨R.FWD_PCP_MAP, 0, 24, .rwc, []⟩
def FWD_TC_MAP.MAP : Fld := ⟨R.FWD_TC_MAP, 0, 24, .rwc, []⟩
def FWD_DSCP_MAP.MAP : Fld := ⟨R.FWD_DSCP_MAP, 0, 30, .rwc, []⟩
def FWD_DSCP_MAP_6.MAP : Fld := ⟨R.FWD_DSCP_MAP_6, 0, 12, .rwc, []⟩
def FWD_HASH_CFG.L4_EN : Fld := ⟨R.FWD_HASH_CFG, 0, 1, .rwc, []⟩
def FWD_HASH_CFG.PROTO_EN : Fld := ⟨R.FWD_HASH_CFG, 1, 1, .rwc, []⟩
def FWD_HASH_CFG.SRC_EN : Fld := ⟨R.FWD_HASH_CFG, 2, 1, .rwc, []⟩
def FWD_HASH_CFG.DST_EN : Fld := ⟨R.FWD_HASH_CFG, 3, 1, .rwc, []⟩
def FWD_HASH_SEED.SEED : Fld := ⟨R.FWD_HASH_SEED, 0, 32, .rwc, []⟩
def FWD_PLANE_MAP.MAP : Fld := ⟨R.FWD_PLANE_MAP, 0, 32, .rwc, []⟩
def FWD_XB_WEIGHT.W : Fld := ⟨R.FWD_XB_WEIGHT, 0, 32, .rwc, []⟩
def FWD_MPLS_CFG.BASE : Fld := ⟨R.FWD_MPLS_CFG, 0, 20, .rwc, [(0, 917504)]⟩
def FWD_STAT.PLANE_DRAIN : Fld := ⟨R.FWD_STAT, 0, 1, .ro, []⟩
def FWD_STAT.PINNED : Fld := ⟨R.FWD_STAT, 16, 15, .ro, []⟩
def FWD_VER_STAT.HELD : Fld := ⟨R.FWD_VER_STAT, 0, 15, .ro, []⟩
def FWD_VER_STAT.VER_FULL : Fld := ⟨R.FWD_VER_STAT, 15, 1, .ro, []⟩
def FWD_BAD_ENTRY.TABLE_ID : Fld := ⟨R.FWD_BAD_ENTRY, 0, 8, .ro, []⟩
def FWD_BAD_ENTRY.INDEX : Fld := ⟨R.FWD_BAD_ENTRY, 8, 23, .ro, []⟩
def FWD_BAD_ENTRY_CNT.COUNT : Fld := ⟨R.FWD_BAD_ENTRY_CNT, 0, 16, .rw, []⟩
def FWD_EVT_STAT.BAD_ENTRY : Fld := ⟨R.FWD_EVT_STAT, 0, 1, .w1c, []⟩
def FWD_EVT_STAT.VER_FULL : Fld := ⟨R.FWD_EVT_STAT, 1, 1, .w1c, []⟩
def FWD_EVT_STAT.PIN_REFUSED : Fld := ⟨R.FWD_EVT_STAT, 2, 1, .w1c, []⟩
def FWD_EVT_STAT.RT_FULL : Fld := ⟨R.FWD_EVT_STAT, 3, 1, .w1c, []⟩
def FWD_EVT_STAT.PLANE_DRAIN_DONE : Fld := ⟨R.FWD_EVT_STAT, 4, 1, .w1c, []⟩
def FWD_EVT_STAT.FAILOVER : Fld := ⟨R.FWD_EVT_STAT, 5, 1, .w1c, []⟩
def FWD_EVT_STAT.LINK_FLUSH : Fld := ⟨R.FWD_EVT_STAT, 6, 1, .w1c, []⟩
def FWD_EVT_MASK.BAD_ENTRY : Fld := ⟨R.FWD_EVT_MASK, 0, 1, .rw, []⟩
def FWD_EVT_MASK.VER_FULL : Fld := ⟨R.FWD_EVT_MASK, 1, 1, .rw, []⟩
def FWD_EVT_MASK.PIN_REFUSED : Fld := ⟨R.FWD_EVT_MASK, 2, 1, .rw, []⟩
def FWD_EVT_MASK.RT_FULL : Fld := ⟨R.FWD_EVT_MASK, 3, 1, .rw, []⟩
def FWD_EVT_MASK.PLANE_DRAIN_DONE : Fld := ⟨R.FWD_EVT_MASK, 4, 1, .rw, []⟩
def FWD_EVT_MASK.FAILOVER : Fld := ⟨R.FWD_EVT_MASK, 5, 1, .rw, []⟩
def FWD_EVT_MASK.LINK_FLUSH : Fld := ⟨R.FWD_EVT_MASK, 6, 1, .rw, []⟩
def FWD_AGE_CFG.AGE_LIMIT : Fld := ⟨R.FWD_AGE_CFG, 0, 20, .rwc, [(0, 1000000)]⟩
def FWD_EGR_CFG.STRICT : Fld := ⟨R.FWD_EGR_CFG, 0, 8, .rwc, []⟩
def FWD_EGR_CFG.LINK_HOLD : Fld := ⟨R.FWD_EGR_CFG, 16, 10, .rwc, [(0, 1000)]⟩
def FWD_EGR_WEIGHT.W : Fld := ⟨R.FWD_EGR_WEIGHT, 0, 32, .rwc, []⟩
def FWD_EGR_STAT.HOLD_STATE : Fld := ⟨R.FWD_EGR_STAT, 0, 2, .ro, []⟩
def FWD_EGR_STAT.HOLD_LEFT : Fld := ⟨R.FWD_EGR_STAT, 16, 10, .ro, []⟩
/-! Fields of R269 (08_granary_buffers.md) -/
def GRN_POOL_CFG.SIZE : Fld := ⟨R.GRN_POOL_CFG, 0, 20, .rwc, []⟩
def GRN_POOL_CFG.BUF : Fld := ⟨R.GRN_POOL_CFG, 20, 3, .rwc, [(0, 4)]⟩
def GRN_POOL_CFG.FALLBACK_EN : Fld := ⟨R.GRN_POOL_CFG, 23, 1, .rwc, []⟩
def GRN_POOL_BASE.BASE : Fld := ⟨R.GRN_POOL_BASE, 0, 20, .rwc, []⟩
def GRN_POOL_STAT.FREE : Fld := ⟨R.GRN_POOL_STAT, 0, 20, .ro, []⟩
def GRN_POOL_STAT.RETIRED : Fld := ⟨R.GRN_POOL_STAT, 20, 12, .ro, []⟩
def GRN_SILO_CFG.RECALL_POOL : Fld := ⟨R.GRN_SILO_CFG, 0, 3, .rwc, []⟩
def GRN_SILO_CFG.RECALL_AHEAD : Fld := ⟨R.GRN_SILO_CFG, 16, 16, .rwc, [(1, 65535)]⟩
def GRN_SILO_STAT.FREE_PAGES : Fld := ⟨R.GRN_SILO_STAT, 0, 25, .ro, []⟩
def GRN_GLEAN_CFG.PERIOD : Fld := ⟨R.GRN_GLEAN_CFG, 0, 16, .rw, []⟩
def GRN_GLEAN_CFG.RECLAIM : Fld := ⟨R.GRN_GLEAN_CFG, 16, 1, .rw, []⟩
def GRN_GLEAN_STAT.SWEEPS : Fld := ⟨R.GRN_GLEAN_STAT, 0, 16, .ro, []⟩
def GRN_GLEAN_STAT.LEAKS : Fld := ⟨R.GRN_GLEAN_STAT, 16, 16, .rw, []⟩
def GRN_GLEAN_LAST.SILO : Fld := ⟨R.GRN_GLEAN_LAST, 0, 1, .ro, []⟩
def GRN_GLEAN_LAST.POOL : Fld := ⟨R.GRN_GLEAN_LAST, 1, 3, .ro, []⟩
def GRN_GLEAN_LAST.INDEX : Fld := ⟨R.GRN_GLEAN_LAST, 4, 25, .ro, []⟩
def GRN_EVT_STAT.DOUBLE_FREE : Fld := ⟨R.GRN_EVT_STAT, 0, 1, .w1c, []⟩
def GRN_EVT_STAT.NONOWNER_FREE : Fld := ⟨R.GRN_EVT_STAT, 1, 1, .w1c, []⟩
def GRN_EVT_STAT.LEAK : Fld := ⟨R.GRN_EVT_STAT, 2, 1, .w1c, []⟩
def GRN_EVT_STAT.EMPTY_RESULT : Fld := ⟨R.GRN_EVT_STAT, 3, 1, .w1c, []⟩
def GRN_EVT_STAT.SILO_FULL : Fld := ⟨R.GRN_EVT_STAT, 4, 1, .w1c, []⟩
def GRN_EVT_STAT.PAGE_CRC : Fld := ⟨R.GRN_EVT_STAT, 5, 1, .w1c, []⟩
def GRN_EVT_STAT.RETIRED : Fld := ⟨R.GRN_EVT_STAT, 6, 1, .w1c, []⟩
def GRN_EVT_STAT.SWEEP_DONE : Fld := ⟨R.GRN_EVT_STAT, 7, 1, .w1c, []⟩
def GRN_EVT_MASK.DOUBLE_FREE : Fld := ⟨R.GRN_EVT_MASK, 0, 1, .rw, []⟩
def GRN_EVT_MASK.NONOWNER_FREE : Fld := ⟨R.GRN_EVT_MASK, 1, 1, .rw, []⟩
def GRN_EVT_MASK.LEAK : Fld := ⟨R.GRN_EVT_MASK, 2, 1, .rw, []⟩
def GRN_EVT_MASK.EMPTY_RESULT : Fld := ⟨R.GRN_EVT_MASK, 3, 1, .rw, []⟩
def GRN_EVT_MASK.SILO_FULL : Fld := ⟨R.GRN_EVT_MASK, 4, 1, .rw, []⟩
def GRN_EVT_MASK.PAGE_CRC : Fld := ⟨R.GRN_EVT_MASK, 5, 1, .rw, []⟩
def GRN_EVT_MASK.RETIRED : Fld := ⟨R.GRN_EVT_MASK, 6, 1, .rw, []⟩
def GRN_EVT_MASK.SWEEP_DONE : Fld := ⟨R.GRN_EVT_MASK, 7, 1, .rw, []⟩
def GRN_IN_CFG.POOL : Fld := ⟨R.GRN_IN_CFG, 0, 3, .rwc, []⟩
def GRN_IN_CFG.LIMIT : Fld := ⟨R.GRN_IN_CFG, 16, 16, .rwc, []⟩
def GRN_IN_THR.XOFF : Fld := ⟨R.GRN_IN_THR, 0, 16, .rwc, []⟩
def GRN_IN_THR.XON : Fld := ⟨R.GRN_IN_THR, 16, 16, .rwc, []⟩
def GRN_QCFG.MIN : Fld := ⟨R.GRN_QCFG, 0, 16, .rwc, []⟩
def GRN_QCFG.ALPHA : Fld := ⟨R.GRN_QCFG, 16, 4, .rwc, [(0, 10)]⟩
def GRN_QSPILL.SPILL : Fld := ⟨R.GRN_QSPILL, 0, 16, .rwc, []⟩
def GRN_QSPILL.SPILL_US : Fld := ⟨R.GRN_QSPILL, 16, 12, .rwc, []⟩
def GRN_QSILO.SILO_MAX : Fld := ⟨R.GRN_QSILO, 0, 24, .rwc, []⟩
/-! Fields of R301 (09_almanac_schedule.md) -/
def ALM_CAL_CFG.ENABLE : Fld := ⟨R.ALM_CAL_CFG, 0, 1, .rwc, []⟩
def ALM_CAL_CFG.BANK : Fld := ⟨R.ALM_CAL_CFG, 1, 1, .rwc, []⟩
def ALM_CAL_CFG.PLAN_RATE : Fld := ⟨R.ALM_CAL_CFG, 4, 10, .rwc, [(4, 512)]⟩
def ALM_BANK_STAT.WIN_0 : Fld := ⟨R.ALM_BANK_STAT, 0, 13, .ro, []⟩
def ALM_BANK_STAT.WIN_1 : Fld := ⟨R.ALM_BANK_STAT, 16, 13, .ro, []⟩
def ALM_BANK_STAT.ACTIVE_BANK : Fld := ⟨R.ALM_BANK_STAT, 29, 1, .ro, []⟩
def ALM_BANK_STAT.PENDING : Fld := ⟨R.ALM_BANK_STAT, 30, 1, .ro, []⟩
def ALM_SWITCH.MODE : Fld := ⟨R.ALM_SWITCH, 0, 1, .rwc, []⟩
def ALM_SWITCH_CYC.CYCLE : Fld := ⟨R.ALM_SWITCH_CYC, 0, 32, .rwc, []⟩
def ALM_CFG.OFS_WARN : Fld := ⟨R.ALM_CFG, 0, 16, .rw, []⟩
def ALM_STAT.SLEWING : Fld := ⟨R.ALM_STAT, 0, 1, .ro, []⟩
def ALM_STAT.OFS_OVER : Fld := ⟨R.ALM_STAT, 1, 1, .ro, []⟩
def ALM_STAT.SLOT : Fld := ⟨R.ALM_STAT, 16, 12, .ro, []⟩
def ALM_CYCLE_LO.CYCLE : Fld := ⟨R.ALM_CYCLE_LO, 0, 32, .ro, []⟩
def ALM_CYCLE_HI.CYCLE : Fld := ⟨R.ALM_CYCLE_HI, 0, 32, .ro, []⟩
def ALM_SLEW_LO.R : Fld := ⟨R.ALM_SLEW_LO, 0, 32, .ro, []⟩
def ALM_SLEW_HI.R : Fld := ⟨R.ALM_SLEW_HI, 0, 32, .ro, []⟩
def ALM_BAD_ENTRY.INDEX : Fld := ⟨R.ALM_BAD_ENTRY, 0, 18, .ro, []⟩
def ALM_BAD_ENTRY.CAUSE : Fld := ⟨R.ALM_BAD_ENTRY, 24, 4, .ro, []⟩
def ALM_BAD_ENTRY_CNT.COUNT : Fld := ⟨R.ALM_BAD_ENTRY_CNT, 0, 16, .rw, []⟩
def ALM_EVT_STAT.SWITCHED : Fld := ⟨R.ALM_EVT_STAT, 0, 1, .w1c, []⟩
def ALM_EVT_STAT.RATE_SHORT : Fld := ⟨R.ALM_EVT_STAT, 1, 1, .w1c, []⟩
def ALM_EVT_STAT.OFFSET_WARN : Fld := ⟨R.ALM_EVT_STAT, 2, 1, .w1c, []⟩
def ALM_EVT_STAT.MISSED : Fld := ⟨R.ALM_EVT_STAT, 3, 1, .w1c, []⟩
def ALM_EVT_STAT.OVERRUN : Fld := ⟨R.ALM_EVT_STAT, 4, 1, .w1c, []⟩
def ALM_EVT_STAT.LATE_LAND : Fld := ⟨R.ALM_EVT_STAT, 5, 1, .w1c, []⟩
def ALM_EVT_STAT.BAD_ENTRY : Fld := ⟨R.ALM_EVT_STAT, 6, 1, .w1c, []⟩
def ALM_EVT_STAT.REALIGNED : Fld := ⟨R.ALM_EVT_STAT, 7, 1, .w1c, []⟩
def ALM_EVT_MASK.SWITCHED : Fld := ⟨R.ALM_EVT_MASK, 0, 1, .rw, []⟩
def ALM_EVT_MASK.RATE_SHORT : Fld := ⟨R.ALM_EVT_MASK, 1, 1, .rw, []⟩
def ALM_EVT_MASK.OFFSET_WARN : Fld := ⟨R.ALM_EVT_MASK, 2, 1, .rw, []⟩
def ALM_EVT_MASK.MISSED : Fld := ⟨R.ALM_EVT_MASK, 3, 1, .rw, []⟩
def ALM_EVT_MASK.OVERRUN : Fld := ⟨R.ALM_EVT_MASK, 4, 1, .rw, []⟩
def ALM_EVT_MASK.LATE_LAND : Fld := ⟨R.ALM_EVT_MASK, 5, 1, .rw, []⟩
def ALM_EVT_MASK.BAD_ENTRY : Fld := ⟨R.ALM_EVT_MASK, 6, 1, .rw, []⟩
def ALM_EVT_MASK.REALIGNED : Fld := ⟨R.ALM_EVT_MASK, 7, 1, .rw, []⟩
def ALM_EVT_SRC.SHEAF : Fld := ⟨R.ALM_EVT_SRC, 0, 32, .w1c, []⟩
/-! Fields of R331 (10_time_domains.md) -/
def TBS_DOM_CFG.SOURCE : Fld := ⟨R.TBS_DOM_CFG, 0, 2, .rwc, []⟩
def TBS_DOM_CFG.PARENT : Fld := ⟨R.TBS_DOM_CFG, 2, 3, .rwc, []⟩
def TBS_DOM_CFG.OUT_SLEW : Fld := ⟨R.TBS_DOM_CFG, 5, 1, .rwc, []⟩
def TBS_DOM_CFG.HOST_TIMEOUT : Fld := ⟨R.TBS_DOM_CFG, 8, 8, .rwc, []⟩
def TBS_DOM_OFS_S.OFS_S : Fld := ⟨R.TBS_DOM_OFS_S, 0, 32, .rwc, []⟩
def TBS_DOM_OFS_NS.OFS_NS : Fld := ⟨R.TBS_DOM_OFS_NS, 0, 30, .rwc, [(0, 999999999)]⟩
def TBS_DOM_STAT.FREE_RUN : Fld := ⟨R.TBS_DOM_STAT, 0, 1, .ro, []⟩
def TBS_DOM_STAT.SLEWING : Fld := ⟨R.TBS_DOM_STAT, 1, 1, .ro, []⟩
def TBS_DOM_STAT.PENDING : Fld := ⟨R.TBS_DOM_STAT, 2, 1, .ro, []⟩
def TBS_DOM_STAT.FROZEN : Fld := ⟨R.TBS_DOM_STAT, 3, 1, .ro, []⟩
def TBS_DOM_INC_LO.INC : Fld := ⟨R.TBS_DOM_INC_LO, 0, 32, .ro, []⟩
def TBS_DOM_INC_HI.INC : Fld := ⟨R.TBS_DOM_INC_HI, 0, 32, .ro, []⟩
def TBS_SNAP_CTL.GO : Fld := ⟨R.TBS_SNAP_CTL, 0, 1, .wo, []⟩
def TBS_SNAP_TICK_LO.TICK : Fld := ⟨R.TBS_SNAP_TICK_LO, 0, 32, .ro, []⟩
def TBS_SNAP_TICK_HI.TICK : Fld := ⟨R.TBS_SNAP_TICK_HI, 0, 32, .ro, []⟩
def TBS_SNAP_NS.NS : Fld := ⟨R.TBS_SNAP_NS, 0, 32, .ro, []⟩
def TBS_SNAP_SLO.SLO : Fld := ⟨R.TBS_SNAP_SLO, 0, 32, .ro, []⟩
def TBS_SNAP_SHI.SHI : Fld := ⟨R.TBS_SNAP_SHI, 0, 16, .ro, []⟩
def TBS_SNAP_SHI.FRAC : Fld := ⟨R.TBS_SNAP_SHI, 16, 16, .ro, []⟩
def TBS_RPT_PEND.PEND : Fld := ⟨R.TBS_RPT_PEND, 0, 32, .ro, []⟩
def TBS_EVT_STAT.FREE_RUN : Fld := ⟨R.TBS_EVT_STAT, 0, 1, .w1c, []⟩
def TBS_EVT_STAT.STEP : Fld := ⟨R.TBS_EVT_STAT, 1, 1, .w1c, []⟩
def TBS_EVT_STAT.TRIG_LATE : Fld := ⟨R.TBS_EVT_STAT, 2, 1, .w1c, []⟩
def TBS_EVT_STAT.TRIG_SKIP : Fld := ⟨R.TBS_EVT_STAT, 3, 1, .w1c, []⟩
def TBS_EVT_STAT.RPT_LOST : Fld := ⟨R.TBS_EVT_STAT, 4, 1, .w1c, []⟩
def TBS_EVT_STAT.REPORT : Fld := ⟨R.TBS_EVT_STAT, 5, 1, .w1c, []⟩
def TBS_EVT_MASK.FREE_RUN : Fld := ⟨R.TBS_EVT_MASK, 0, 1, .rw, []⟩
def TBS_EVT_MASK.STEP : Fld := ⟨R.TBS_EVT_MASK, 1, 1, .rw, []⟩
def TBS_EVT_MASK.TRIG_LATE : Fld := ⟨R.TBS_EVT_MASK, 2, 1, .rw, []⟩
def TBS_EVT_MASK.TRIG_SKIP : Fld := ⟨R.TBS_EVT_MASK, 3, 1, .rw, []⟩
def TBS_EVT_MASK.RPT_LOST : Fld := ⟨R.TBS_EVT_MASK, 4, 1, .rw, []⟩
def TBS_EVT_MASK.REPORT : Fld := ⟨R.TBS_EVT_MASK, 5, 1, .rw, []⟩
/-! Fields of R356 (11_route_time_transfer.md) -/
def TBS_TE_CFG.TE_LIMIT : Fld := ⟨R.TBS_TE_CFG, 0, 16, .rwc, []⟩
def TBS_TE_CFG.MAX_STEPS : Fld := ⟨R.TBS_TE_CFG, 16, 8, .rwc, [(1, 255)]⟩
def TBS_TE_STAT.TE_EST : Fld := ⟨R.TBS_TE_STAT, 0, 32, .ro, []⟩
/-! Fields of R331 (10_time_domains.md) -/
def TBS_TRIG_CFG.ENABLE : Fld := ⟨R.TBS_TRIG_CFG, 0, 1, .rwc, []⟩
def TBS_TRIG_CFG.SCALE : Fld := ⟨R.TBS_TRIG_CFG, 1, 4, .rwc, [(0, 8)]⟩
def TBS_TRIG_CFG.INVERT : Fld := ⟨R.TBS_TRIG_CFG, 5, 1, .rwc, []⟩
def TBS_TRIG_CFG.ADJ : Fld := ⟨R.TBS_TRIG_CFG, 16, 16, .rwc, []⟩
def TBS_TRIG_START_NS.NS : Fld := ⟨R.TBS_TRIG_START_NS, 0, 32, .rwc, []⟩
def TBS_TRIG_START_SLO.SLO : Fld := ⟨R.TBS_TRIG_START_SLO, 0, 32, .rwc, []⟩
def TBS_TRIG_START_SHI.SHI : Fld := ⟨R.TBS_TRIG_START_SHI, 0, 16, .rwc, []⟩
def TBS_TRIG_START_SHI.FRAC : Fld := ⟨R.TBS_TRIG_START_SHI, 16, 16, .rwc, []⟩
def TBS_TRIG_PERIOD_LO.PERIOD : Fld := ⟨R.TBS_TRIG_PERIOD_LO, 0, 32, .rwc, []⟩
def TBS_TRIG_PERIOD_HI.PERIOD : Fld := ⟨R.TBS_TRIG_PERIOD_HI, 0, 32, .rwc, []⟩
def TBS_TRIG_WIDTH.WIDTH : Fld := ⟨R.TBS_TRIG_WIDTH, 0, 32, .rwc, []⟩
def TBS_TRIG_COUNT.COUNT : Fld := ⟨R.TBS_TRIG_COUNT, 0, 32, .rwc, []⟩
def TBS_TRIG_STAT.ISSUED : Fld := ⟨R.TBS_TRIG_STAT, 0, 32, .ro, []⟩
def TBS_TRIG_SKIP.SKIPPED : Fld := ⟨R.TBS_TRIG_SKIP, 0, 32, .rw, []⟩
def TBS_PORT_CFG.RPT_DOMAIN : Fld := ⟨R.TBS_PORT_CFG, 0, 3, .rwc, []⟩
def TBS_PORT_CFG.RX_RPT_MASK : Fld := ⟨R.TBS_PORT_CFG, 4, 4, .rwc, []⟩
def TBS_PORT_CFG.TX_RPT_MASK : Fld := ⟨R.TBS_PORT_CFG, 8, 4, .rwc, []⟩
def TBS_PORT_CFG.TC_EN : Fld := ⟨R.TBS_PORT_CFG, 12, 1, .rwc, []⟩
def TBS_PORT_CFG.TC_DOMAIN : Fld := ⟨R.TBS_PORT_CFG, 13, 3, .rwc, []⟩
def TBS_PORT_CFG.PDELAY_TURN : Fld := ⟨R.TBS_PORT_CFG, 16, 1, .rwc, []⟩
def TBS_PORT_ADJ.RX_ADJ : Fld := ⟨R.TBS_PORT_ADJ, 0, 16, .rwc, []⟩
def TBS_PORT_ADJ.TX_ADJ : Fld := ⟨R.TBS_PORT_ADJ, 16, 16, .rwc, []⟩
def TBS_RPT_PROD.INDEX : Fld := ⟨R.TBS_RPT_PROD, 0, 16, .ro, []⟩
def TBS_RPT_CONS.INDEX : Fld := ⟨R.TBS_RPT_CONS, 0, 16, .rw, []⟩
def TBS_RPT_STAT.BOUND : Fld := ⟨R.TBS_RPT_STAT, 0, 1, .ro, []⟩
def TBS_RPT_STAT.LOST_PENDING : Fld := ⟨R.TBS_RPT_STAT, 16, 16, .ro, []⟩
/-! Fields of R386 (12_reference_holdover.md) -/
def REF_IN_CFG.KIND : Fld := ⟨R.REF_IN_CFG, 0, 1, .rwc, []⟩
def REF_IN_CFG.EDGE : Fld := ⟨R.REF_IN_CFG, 1, 1, .rwc, []⟩
def REF_IN_CFG.TERM : Fld := ⟨R.REF_IN_CFG, 2, 1, .rwc, []⟩
def REF_IN_CFG.TRACEABLE : Fld := ⟨R.REF_IN_CFG, 3, 1, .rwc, []⟩
def REF_IN_CFG.TOD_SRC : Fld := ⟨R.REF_IN_CFG, 4, 2, .rwc, [(0, 1)]⟩
def REF_IN_CFG.CLASS : Fld := ⟨R.REF_IN_CFG, 8, 8, .rwc, []⟩
def REF_IN_DELAY.DELAY : Fld := ⟨R.REF_IN_DELAY, 0, 32, .rwc, []⟩
def REF_SRC_CFG.RANK : Fld := ⟨R.REF_SRC_CFG, 0, 4, .rwc, []⟩
def REF_SRC_CFG.QUAL_S : Fld := ⟨R.REF_SRC_CFG, 4, 12, .rwc, [(1, 4095)]⟩
def REF_SRC_CFG.REQUAL_S : Fld := ⟨R.REF_SRC_CFG, 16, 12, .rwc, []⟩
def REF_TOL_CFG.PHASE_TOL : Fld := ⟨R.REF_TOL_CFG, 0, 16, .rwc, [(2, 65535)]⟩
def REF_TOL_CFG.DRIFT_THR : Fld := ⟨R.REF_TOL_CFG, 16, 16, .rwc, [(1, 65535)]⟩
def REF_TOL2_CFG.FREQ_TOL : Fld := ⟨R.REF_TOL2_CFG, 0, 16, .rwc, [(1, 65535)]⟩
def REF_TOL2_CFG.DRIFT_WIN : Fld := ⟨R.REF_TOL2_CFG, 16, 10, .rwc, [(1, 1000)]⟩
def REF_SRC_STAT.QSTATE : Fld := ⟨R.REF_SRC_STAT, 0, 3, .ro, []⟩
def REF_SRC_STAT.CAUSE : Fld := ⟨R.REF_SRC_STAT, 3, 4, .ro, []⟩
def REF_SRC_DEP.DEP : Fld := ⟨R.REF_SRC_DEP, 0, 16, .ro, []⟩
def REF_SRC_DEP.NU : Fld := ⟨R.REF_SRC_DEP, 16, 16, .ro, []⟩
def REF_SEL_CFG.REVERTIVE : Fld := ⟨R.REF_SEL_CFG, 0, 1, .rwc, []⟩
def REF_LOOP_CFG.MODE : Fld := ⟨R.REF_LOOP_CFG, 0, 1, .rwc, []⟩
def REF_LOOP_CFG.BW : Fld := ⟨R.REF_LOOP_CFG, 1, 7, .rwc, [(1, 100)]⟩
def REF_LOOP_CFG.FSLEW : Fld := ⟨R.REF_LOOP_CFG, 8, 8, .rwc, [(1, 255)]⟩
def REF_LOOP_CFG.SW_TIMEOUT : Fld := ⟨R.REF_LOOP_CFG, 16, 8, .rwc, []⟩
def REF_SLEW_CFG.RATE : Fld := ⟨R.REF_SLEW_CFG, 0, 10, .rwc, [(1, 1000)]⟩
def REF_HO_CFG.LEARN_H : Fld := ⟨R.REF_HO_CFG, 0, 8, .rwc, [(1, 168)]⟩
def REF_HO_CFG.HO_SPEC : Fld := ⟨R.REF_HO_CFG, 8, 16, .rwc, [(1, 65535)]⟩
def REF_HO_CFG.FA_PPB : Fld := ⟨R.REF_HO_CFG, 24, 8, .rwc, []⟩
def REF_CLASS_CFG.HO_GM : Fld := ⟨R.REF_CLASS_CFG, 0, 8, .rwc, []⟩
def REF_CLASS_CFG.HO_BC : Fld := ⟨R.REF_CLASS_CFG, 8, 8, .rwc, []⟩
def REF_CLASS_CFG.HO_OUT : Fld := ⟨R.REF_CLASS_CFG, 16, 8, .rwc, []⟩
def REF_CLASS_CFG.FREERUN : Fld := ⟨R.REF_CLASS_CFG, 24, 8, .rwc, []⟩
def REF_TOD_CFG.BAUD : Fld := ⟨R.REF_TOD_CFG, 0, 3, .rwc, [(0, 5)]⟩
def REF_TOD_CFG.TOD_EDGE : Fld := ⟨R.REF_TOD_CFG, 3, 1, .rwc, []⟩
def REF_TOD_CFG.UTC_OFS : Fld := ⟨R.REF_TOD_CFG, 8, 8, .rwc, []⟩
def REF_PTP_CFG.DOMAIN : Fld := ⟨R.REF_PTP_CFG, 0, 3, .rwc, [(1, 7)]⟩
def REF_PTP_STAT.HOST_OK : Fld := ⟨R.REF_PTP_STAT, 0, 1, .rw, []⟩
def REF_PTP_STAT.TRACEABLE : Fld := ⟨R.REF_PTP_STAT, 1, 1, .rw, []⟩
def REF_PTP_STAT.CLASS : Fld := ⟨R.REF_PTP_STAT, 8, 8, .rw, []⟩
def REF_PPSO_CFG.ENABLE : Fld := ⟨R.REF_PPSO_CFG, 0, 1, .rwc, []⟩
def REF_PPSO_CFG.DOMAIN : Fld := ⟨R.REF_PPSO_CFG, 1, 3, .rwc, []⟩
def REF_PPSO_CFG.WIDTH : Fld := ⟨R.REF_PPSO_CFG, 4, 20, .rwc, [(1, 500000)]⟩
def REF_PPSO_ADJ.ADJ : Fld := ⟨R.REF_PPSO_ADJ, 0, 32, .rwc, []⟩
def REF_STAT.STATE : Fld := ⟨R.REF_STAT, 0, 2, .ro, []⟩
def REF_STAT.MODEL_VALID : Fld := ⟨R.REF_STAT, 2, 1, .ro, []⟩
def REF_STAT.IN_SPEC : Fld := ⟨R.REF_STAT, 3, 1, .ro, []⟩
def REF_STAT.SELECTED : Fld := ⟨R.REF_STAT, 4, 3, .ro, []⟩
def REF_STAT.FORCED : Fld := ⟨R.REF_STAT, 7, 1, .ro, []⟩
def REF_STAT.LEARN_HOURS : Fld := ⟨R.REF_STAT, 16, 8, .ro, []⟩
def REF_FREQ_WORD.WORD : Fld := ⟨R.REF_FREQ_WORD, 0, 32, .rw, [(0, 655360000), (3639607296, 4294967295)]⟩
def REF_PE_CNT.COUNT : Fld := ⟨R.REF_PE_CNT, 0, 7, .ro, []⟩
def REF_PE_CNT.PE_DROPPED : Fld := ⟨R.REF_PE_CNT, 8, 8, .rw, []⟩
def REF_PE_LO.PE_L : Fld := ⟨R.REF_PE_LO, 0, 32, .ro, []⟩
def REF_PE_HI.PE_H : Fld := ⟨R.REF_PE_HI, 0, 16, .ro, []⟩
def REF_PE_HI.REF : Fld := ⟨R.REF_PE_HI, 16, 3, .ro, []⟩
def REF_PE_HI.FRESH : Fld := ⟨R.REF_PE_HI, 19, 1, .ro, []⟩
def REF_PE_HI.SEQ : Fld := ⟨R.REF_PE_HI, 20, 12, .ro, []⟩
def REF_HO_STAT.U_F : Fld := ⟨R.REF_HO_STAT, 0, 16, .ro, []⟩
def REF_HO_STAT.U_A : Fld := ⟨R.REF_HO_STAT, 16, 16, .ro, []⟩
def REF_HO_EST.H : Fld := ⟨R.REF_HO_EST, 0, 32, .ro, []⟩
def REF_EVT_STAT.SWITCH : Fld := ⟨R.REF_EVT_STAT, 0, 1, .w1c, []⟩
def REF_EVT_STAT.REF_LOSS : Fld := ⟨R.REF_EVT_STAT, 1, 1, .w1c, []⟩
def REF_EVT_STAT.DISQUAL : Fld := ⟨R.REF_EVT_STAT, 2, 1, .w1c, []⟩
def REF_EVT_STAT.HOLDOVER : Fld := ⟨R.REF_EVT_STAT, 3, 1, .w1c, []⟩
def REF_EVT_STAT.OUT_OF_SPEC : Fld := ⟨R.REF_EVT_STAT, 4, 1, .w1c, []⟩
def REF_EVT_STAT.FREERUN : Fld := ⟨R.REF_EVT_STAT, 5, 1, .w1c, []⟩
def REF_EVT_STAT.DISAGREE : Fld := ⟨R.REF_EVT_STAT, 6, 1, .w1c, []⟩
def REF_EVT_STAT.TOD_ERR : Fld := ⟨R.REF_EVT_STAT, 7, 1, .w1c, []⟩
def REF_EVT_STAT.SW_STALE : Fld := ⟨R.REF_EVT_STAT, 8, 1, .w1c, []⟩
def REF_EVT_STAT.PE_OVERFLOW : Fld := ⟨R.REF_EVT_STAT, 9, 1, .w1c, []⟩
def REF_EVT_STAT.MODEL_VALID : Fld := ⟨R.REF_EVT_STAT, 10, 1, .w1c, []⟩
def REF_EVT_STAT.PPSO_SKIP : Fld := ⟨R.REF_EVT_STAT, 11, 1, .w1c, []⟩
def REF_EVT_MASK.SWITCH : Fld := ⟨R.REF_EVT_MASK, 0, 1, .rw, []⟩
def REF_EVT_MASK.REF_LOSS : Fld := ⟨R.REF_EVT_MASK, 1, 1, .rw, []⟩
def REF_EVT_MASK.DISQUAL : Fld := ⟨R.REF_EVT_MASK, 2, 1, .rw, []⟩
def REF_EVT_MASK.HOLDOVER : Fld := ⟨R.REF_EVT_MASK, 3, 1, .rw, []⟩
def REF_EVT_MASK.OUT_OF_SPEC : Fld := ⟨R.REF_EVT_MASK, 4, 1, .rw, []⟩
def REF_EVT_MASK.FREERUN : Fld := ⟨R.REF_EVT_MASK, 5, 1, .rw, []⟩
def REF_EVT_MASK.DISAGREE : Fld := ⟨R.REF_EVT_MASK, 6, 1, .rw, []⟩
def REF_EVT_MASK.TOD_ERR : Fld := ⟨R.REF_EVT_MASK, 7, 1, .rw, []⟩
def REF_EVT_MASK.SW_STALE : Fld := ⟨R.REF_EVT_MASK, 8, 1, .rw, []⟩
def REF_EVT_MASK.PE_OVERFLOW : Fld := ⟨R.REF_EVT_MASK, 9, 1, .rw, []⟩
def REF_EVT_MASK.MODEL_VALID : Fld := ⟨R.REF_EVT_MASK, 10, 1, .rw, []⟩
def REF_EVT_MASK.PPSO_SKIP : Fld := ⟨R.REF_EVT_MASK, 11, 1, .rw, []⟩
/-! Fields of R404 (13_clock_synthesis.md) -/
def SYN_CKO_CFG.ENABLE : Fld := ⟨R.SYN_CKO_CFG, 0, 1, .rwc, []⟩
def SYN_CKO_CFG.OPT : Fld := ⟨R.SYN_CKO_CFG, 1, 2, .rwc, [(0, 2)]⟩
def SYN_CKO_CFG.ALIGN : Fld := ⟨R.SYN_CKO_CFG, 3, 1, .rwc, []⟩
def SYN_CKO_CFG.DOMAIN : Fld := ⟨R.SYN_CKO_CFG, 4, 3, .rwc, []⟩
def SYN_CKO_DIV.DIV_M1 : Fld := ⟨R.SYN_CKO_DIV, 0, 24, .rwc, []⟩
def SYN_CKO_DLY.COARSE : Fld := ⟨R.SYN_CKO_DLY, 0, 18, .rwc, []⟩
def SYN_CKO_DLY.FINE : Fld := ⟨R.SYN_CKO_DLY, 18, 14, .rwc, [(0, 10000)]⟩
def SYN_CKO_STAT.RUNNING : Fld := ⟨R.SYN_CKO_STAT, 0, 1, .ro, []⟩
def SYN_CKO_STAT.SWITCHING : Fld := ⟨R.SYN_CKO_STAT, 1, 1, .ro, []⟩
def SYN_RAMP_RATE.RATE : Fld := ⟨R.SYN_RAMP_RATE, 0, 32, .rwc, [(0, 1000000), (4293967296, 4294967295)]⟩
def SYN_RAMP_DUR.DURATION : Fld := ⟨R.SYN_RAMP_DUR, 0, 32, .rwc, []⟩
def SYN_RAMP_CFG.COUNT : Fld := ⟨R.SYN_RAMP_CFG, 0, 5, .rwc, [(0, 16)]⟩
def SYN_RAMP_CFG.END : Fld := ⟨R.SYN_RAMP_CFG, 5, 1, .rwc, []⟩
def SYN_RAMP_STAT.RUNNING : Fld := ⟨R.SYN_RAMP_STAT, 0, 1, .ro, []⟩
def SYN_RAMP_STAT.RETURNING : Fld := ⟨R.SYN_RAMP_STAT, 1, 1, .ro, []⟩
def SYN_RAMP_STAT.SEGMENT : Fld := ⟨R.SYN_RAMP_STAT, 4, 4, .ro, []⟩
def SYN_RAMP_Z.Z : Fld := ⟨R.SYN_RAMP_Z, 0, 32, .ro, []⟩
def SYN_STAT_STEER.STEER : Fld := ⟨R.SYN_STAT_STEER, 0, 32, .ro, []⟩
def SYN_STAT.CLAMPED : Fld := ⟨R.SYN_STAT, 0, 1, .ro, []⟩
def SYN_EVT_STAT.LOCK_LOST : Fld := ⟨R.SYN_EVT_STAT, 0, 1, .w1c, []⟩
def SYN_EVT_STAT.CLAMP : Fld := ⟨R.SYN_EVT_STAT, 1, 1, .w1c, []⟩
def SYN_EVT_STAT.RAMP_ABORT : Fld := ⟨R.SYN_EVT_STAT, 2, 1, .w1c, []⟩
def SYN_EVT_STAT.RAMP_DONE : Fld := ⟨R.SYN_EVT_STAT, 3, 1, .w1c, []⟩
def SYN_EVT_STAT.STEP_APPLIED : Fld := ⟨R.SYN_EVT_STAT, 4, 1, .w1c, []⟩
def SYN_EVT_STAT.OUT_SWITCH : Fld := ⟨R.SYN_EVT_STAT, 5, 1, .w1c, []⟩
def SYN_EVT_MASK.LOCK_LOST : Fld := ⟨R.SYN_EVT_MASK, 0, 1, .rw, []⟩
def SYN_EVT_MASK.CLAMP : Fld := ⟨R.SYN_EVT_MASK, 1, 1, .rw, []⟩
def SYN_EVT_MASK.RAMP_ABORT : Fld := ⟨R.SYN_EVT_MASK, 2, 1, .rw, []⟩
def SYN_EVT_MASK.RAMP_DONE : Fld := ⟨R.SYN_EVT_MASK, 3, 1, .rw, []⟩
def SYN_EVT_MASK.STEP_APPLIED : Fld := ⟨R.SYN_EVT_MASK, 4, 1, .rw, []⟩
def SYN_EVT_MASK.OUT_SWITCH : Fld := ⟨R.SYN_EVT_MASK, 5, 1, .rw, []⟩
/-! Fields of R422 (14_interval_measurement.md) -/
def TDC_CH_CFG.SOURCE : Fld := ⟨R.TDC_CH_CFG, 0, 5, .rwc, [(0, 29)]⟩
def TDC_CH_CFG.SLOPE : Fld := ⟨R.TDC_CH_CFG, 5, 1, .rwc, []⟩
def TDC_CH_CFG.HYST : Fld := ⟨R.TDC_CH_CFG, 6, 2, .rwc, []⟩
def TDC_CH_CFG.TERM : Fld := ⟨R.TDC_CH_CFG, 8, 1, .rwc, []⟩
def TDC_CH_CFG.THRESH : Fld := ⟨R.TDC_CH_CFG, 9, 12, .rwc, []⟩
def TDC_CH_HOLDOFF.HOLDOFF : Fld := ⟨R.TDC_CH_HOLDOFF, 0, 20, .rwc, [(0, 1000000)]⟩
def TDC_CFG.STOP_N : Fld := ⟨R.TDC_CFG, 0, 16, .rwc, [(1, 65535)]⟩
def TDC_CFG.STOP_ARM : Fld := ⟨R.TDC_CFG, 16, 1, .rwc, []⟩
def TDC_CFG.TS_DOMAIN : Fld := ⟨R.TDC_CFG, 17, 3, .rwc, []⟩
def TDC_TIMING.TIMEOUT_MS : Fld := ⟨R.TDC_TIMING, 0, 10, .rwc, [(1, 1000)]⟩
def TDC_TIMING.REARM_US : Fld := ⟨R.TDC_TIMING, 10, 20, .rwc, [(0, 1000000)]⟩
def TDC_MARK_CFG.DOMAIN : Fld := ⟨R.TDC_MARK_CFG, 0, 3, .rwc, []⟩
/-! Fields of R331 (10_time_domains.md) -/
def TDC_MARK_NS.NS : Fld := ⟨R.TDC_MARK_NS, 0, 32, .rwc, []⟩
def TDC_MARK_SLO.SLO : Fld := ⟨R.TDC_MARK_SLO, 0, 32, .rwc, []⟩
def TDC_MARK_SHI.SHI : Fld := ⟨R.TDC_MARK_SHI, 0, 16, .rwc, []⟩
def TDC_MARK_SHI.FRAC : Fld := ⟨R.TDC_MARK_SHI, 16, 16, .rwc, []⟩
/-! Fields of R422 (14_interval_measurement.md) -/
def TDC_MARK_PERIOD_LO.PERIOD : Fld := ⟨R.TDC_MARK_PERIOD_LO, 0, 32, .rwc, []⟩
def TDC_MARK_PERIOD_HI.PERIOD : Fld := ⟨R.TDC_MARK_PERIOD_HI, 0, 32, .rwc, []⟩
def TDC_BIN_SEL.INDEX : Fld := ⟨R.TDC_BIN_SEL, 0, 10, .rw, []⟩
def TDC_BIN_DATA.POS : Fld := ⟨R.TDC_BIN_DATA, 0, 16, .rwc, []⟩
def TDC_BIN_TEMP.TEMP : Fld := ⟨R.TDC_BIN_TEMP, 0, 16, .rwc, []⟩
def TDC_STAT.STATE : Fld := ⟨R.TDC_STAT, 0, 2, .ro, []⟩
def TDC_STAT.RUN : Fld := ⟨R.TDC_STAT, 2, 1, .ro, []⟩
def TDC_STAT.FIFO_WAIT : Fld := ⟨R.TDC_STAT, 3, 1, .ro, []⟩
def TDC_STAT.FIFO_CNT : Fld := ⟨R.TDC_STAT, 4, 9, .ro, []⟩
def TDC_EVT_STAT.RUN_DONE : Fld := ⟨R.TDC_EVT_STAT, 0, 1, .w1c, []⟩
def TDC_EVT_STAT.TIMEOUT : Fld := ⟨R.TDC_EVT_STAT, 1, 1, .w1c, []⟩
def TDC_EVT_STAT.UNRESOLVED : Fld := ⟨R.TDC_EVT_STAT, 2, 1, .w1c, []⟩
def TDC_EVT_STAT.FIFO_FULL : Fld := ⟨R.TDC_EVT_STAT, 3, 1, .w1c, []⟩
def TDC_EVT_STAT.BIN_CAL_DONE : Fld := ⟨R.TDC_EVT_STAT, 4, 1, .w1c, []⟩
def TDC_EVT_STAT.INT_FAULT : Fld := ⟨R.TDC_EVT_STAT, 5, 1, .w1c, []⟩
def TDC_EVT_STAT.ABORTED : Fld := ⟨R.TDC_EVT_STAT, 6, 1, .w1c, []⟩
def TDC_EVT_MASK.RUN_DONE : Fld := ⟨R.TDC_EVT_MASK, 0, 1, .rw, []⟩
def TDC_EVT_MASK.TIMEOUT : Fld := ⟨R.TDC_EVT_MASK, 1, 1, .rw, []⟩
def TDC_EVT_MASK.UNRESOLVED : Fld := ⟨R.TDC_EVT_MASK, 2, 1, .rw, []⟩
def TDC_EVT_MASK.FIFO_FULL : Fld := ⟨R.TDC_EVT_MASK, 3, 1, .rw, []⟩
def TDC_EVT_MASK.BIN_CAL_DONE : Fld := ⟨R.TDC_EVT_MASK, 4, 1, .rw, []⟩
def TDC_EVT_MASK.INT_FAULT : Fld := ⟨R.TDC_EVT_MASK, 5, 1, .rw, []⟩
def TDC_EVT_MASK.ABORTED : Fld := ⟨R.TDC_EVT_MASK, 6, 1, .rw, []⟩
def TDC_RES.WORD : Fld := ⟨R.TDC_RES, 0, 32, .ro, []⟩
def TDC_CNT.COUNT : Fld := ⟨R.TDC_CNT, 0, 32, .rw, []⟩
/-! Fields of R439 (15_calibration.md) -/
def CAL_CFG.AUTO : Fld := ⟨R.CAL_CFG, 0, 1, .rwc, []⟩
def CAL_CFG.CALIN_KIND : Fld := ⟨R.CAL_CFG, 1, 1, .rwc, []⟩
def CAL_CFG.CALIN_TERM : Fld := ⟨R.CAL_CFG, 2, 1, .rwc, []⟩
def CAL_CFG.RAMP : Fld := ⟨R.CAL_CFG, 8, 8, .rwc, []⟩
def CAL_TEMP_STEP.STEP : Fld := ⟨R.CAL_TEMP_STEP, 0, 9, .rwc, [(4, 256)]⟩
def CAL_LAST_TEMP.TEMP : Fld := ⟨R.CAL_LAST_TEMP, 0, 16, .rwc, []⟩
def CAL_STAT.RUNNING : Fld := ⟨R.CAL_STAT, 0, 1, .ro, []⟩
def CAL_STAT.PHASE : Fld := ⟨R.CAL_STAT, 1, 3, .ro, []⟩
def CAL_STAT.STALE_CNT : Fld := ⟨R.CAL_STAT, 16, 10, .ro, []⟩
def CAL_PATH_SEL.INDEX : Fld := ⟨R.CAL_PATH_SEL, 0, 10, .rw, []⟩
def CAL_PATH_BASE.BASE : Fld := ⟨R.CAL_PATH_BASE, 0, 32, .rwc, []⟩
def CAL_PATH_TRIM.TRIM : Fld := ⟨R.CAL_PATH_TRIM, 0, 10, .ro, []⟩
def CAL_PATH_TRIM.TARGET : Fld := ⟨R.CAL_PATH_TRIM, 16, 10, .rwc, []⟩
def CAL_PATH_TRIM.STALE : Fld := ⟨R.CAL_PATH_TRIM, 26, 1, .ro, []⟩
def CAL_PATH_TRIM.RANGE : Fld := ⟨R.CAL_PATH_TRIM, 27, 1, .ro, []⟩
def CAL_PATH_TRIM.RAMPING : Fld := ⟨R.CAL_PATH_TRIM, 28, 1, .ro, []⟩
def CAL_TRACE_CORR.CORR : Fld := ⟨R.CAL_TRACE_CORR, 0, 32, .rwc, []⟩
def CAL_OCXO_CFG.AUTO : Fld := ⟨R.CAL_OCXO_CFG, 0, 1, .rwc, []⟩
def CAL_OCXO_CFG.W_THR : Fld := ⟨R.CAL_OCXO_CFG, 8, 8, .rwc, [(1, 255)]⟩
def CAL_OCXO_CFG.RATE : Fld := ⟨R.CAL_OCXO_CFG, 16, 8, .rwc, [(1, 255)]⟩
def CAL_OCXO_TRIM.CODE : Fld := ⟨R.CAL_OCXO_TRIM, 0, 16, .ro, []⟩
def CAL_OCXO_TRIM.TARGET : Fld := ⟨R.CAL_OCXO_TRIM, 16, 16, .rwc, []⟩
def CAL_EVT_STAT.RUN_DONE : Fld := ⟨R.CAL_EVT_STAT, 0, 1, .w1c, []⟩
def CAL_EVT_STAT.RUN_ABORT : Fld := ⟨R.CAL_EVT_STAT, 1, 1, .w1c, []⟩
def CAL_EVT_STAT.STALE : Fld := ⟨R.CAL_EVT_STAT, 2, 1, .w1c, []⟩
def CAL_EVT_STAT.RANGE : Fld := ⟨R.CAL_EVT_STAT, 3, 1, .w1c, []⟩
def CAL_EVT_STAT.LASTING : Fld := ⟨R.CAL_EVT_STAT, 4, 1, .w1c, []⟩
def CAL_EVT_STAT.OCXO_LIMIT : Fld := ⟨R.CAL_EVT_STAT, 5, 1, .w1c, []⟩
def CAL_EVT_STAT.TRACE_DONE : Fld := ⟨R.CAL_EVT_STAT, 6, 1, .w1c, []⟩
def CAL_EVT_STAT.FREQ_DONE : Fld := ⟨R.CAL_EVT_STAT, 7, 1, .w1c, []⟩
def CAL_EVT_MASK.RUN_DONE : Fld := ⟨R.CAL_EVT_MASK, 0, 1, .rw, []⟩
def CAL_EVT_MASK.RUN_ABORT : Fld := ⟨R.CAL_EVT_MASK, 1, 1, .rw, []⟩
def CAL_EVT_MASK.STALE : Fld := ⟨R.CAL_EVT_MASK, 2, 1, .rw, []⟩
def CAL_EVT_MASK.RANGE : Fld := ⟨R.CAL_EVT_MASK, 3, 1, .rw, []⟩
def CAL_EVT_MASK.LASTING : Fld := ⟨R.CAL_EVT_MASK, 4, 1, .rw, []⟩
def CAL_EVT_MASK.OCXO_LIMIT : Fld := ⟨R.CAL_EVT_MASK, 5, 1, .rw, []⟩
def CAL_EVT_MASK.TRACE_DONE : Fld := ⟨R.CAL_EVT_MASK, 6, 1, .rw, []⟩
def CAL_EVT_MASK.FREQ_DONE : Fld := ⟨R.CAL_EVT_MASK, 7, 1, .rw, []⟩
/-! Fields of R455 (16_integrity_and_events.md) -/
def EVT_FAULT_ACT.ACT0 : Fld := ⟨R.EVT_FAULT_ACT, 0, 2, .rwc, [(0, 2)]⟩
def EVT_FAULT_ACT.ACT1 : Fld := ⟨R.EVT_FAULT_ACT, 2, 2, .rwc, [(0, 0)]⟩
def EVT_FAULT_ACT.ACT2 : Fld := ⟨R.EVT_FAULT_ACT, 4, 2, .rwc, [(0, 2)]⟩
def EVT_FAULT_ACT.ACT3 : Fld := ⟨R.EVT_FAULT_ACT, 6, 2, .rwc, [(0, 2)]⟩
def EVT_FAULT_ACT.ACT4 : Fld := ⟨R.EVT_FAULT_ACT, 8, 2, .rwc, [(0, 2)]⟩
def EVT_FAULT_ACT.ACT5 : Fld := ⟨R.EVT_FAULT_ACT, 10, 2, .rwc, [(0, 2)]⟩
def EVT_FAULT_ACT.ACT6 : Fld := ⟨R.EVT_FAULT_ACT, 12, 2, .rwc, [(0, 2)]⟩
def EVT_FAULT_ACT.ACT7 : Fld := ⟨R.EVT_FAULT_ACT, 14, 2, .rwc, [(0, 2)]⟩
def EVT_FAULT_ACT.ACT8 : Fld := ⟨R.EVT_FAULT_ACT, 16, 2, .rwc, [(0, 2)]⟩
def EVT_FAULT_ACT.ACT9 : Fld := ⟨R.EVT_FAULT_ACT, 18, 2, .rwc, [(2, 2)]⟩
def EVT_FAULT_ACT.ACT10 : Fld := ⟨R.EVT_FAULT_ACT, 20, 2, .rwc, [(0, 2)]⟩
def EVT_LAST_FAULT.CLASS : Fld := ⟨R.EVT_LAST_FAULT, 0, 4, .ro, []⟩
def EVT_LAST_FAULT.UNREPAIRED : Fld := ⟨R.EVT_LAST_FAULT, 4, 1, .ro, []⟩
def EVT_LAST_FAULT.DETAIL : Fld := ⟨R.EVT_LAST_FAULT, 5, 27, .ro, []⟩
def EVT_SPARE_STAT.ROWS_USED : Fld := ⟨R.EVT_SPARE_STAT, 0, 16, .ro, []⟩
def EVT_SPARE_STAT.UNITS_USED : Fld := ⟨R.EVT_SPARE_STAT, 16, 8, .ro, []⟩
def EVT_SPARE_STAT.BANKS_FULL : Fld := ⟨R.EVT_SPARE_STAT, 24, 8, .ro, []⟩
def EVT_CNT.ARITH_DROP : Fld := ⟨R.EVT_CNT, 0, 32, .rw, []⟩
def EVT_RESERVED_OFS.OFFSET : Fld := ⟨R.EVT_RESERVED_OFS, 0, 31, .ro, []⟩
def EVT_RESERVED_OFS.SMBUS : Fld := ⟨R.EVT_RESERVED_OFS, 31, 1, .ro, []⟩
def EVT_D2D_CTL.RESET : Fld := ⟨R.EVT_D2D_CTL, 0, 1, .wo, []⟩
def EVT_D2D_STAT.FROZEN : Fld := ⟨R.EVT_D2D_STAT, 0, 1, .ro, []⟩
def EVT_D2D_STAT.STEP_MAX : Fld := ⟨R.EVT_D2D_STAT, 1, 31, .ro, []⟩
def EVT_LOG_CFG.MIN_PREC : Fld := ⟨R.EVT_LOG_CFG, 0, 4, .rwc, [(1, 10)]⟩
def EVT_LOG_STAT.COUNT : Fld := ⟨R.EVT_LOG_STAT, 0, 11, .ro, []⟩
def EVT_LOG_STAT.LOST_PENDING : Fld := ⟨R.EVT_LOG_STAT, 16, 16, .ro, []⟩
def EVT_LOG.WORD : Fld := ⟨R.EVT_LOG, 0, 32, .ro, []⟩
def EVT_SUM.SUM : Fld := ⟨R.EVT_SUM, 0, 15, .ro, []⟩
def EVT_VEC_MAP_0.M0 : Fld := ⟨R.EVT_VEC_MAP_0, 0, 4, .rwc, [(0, 13)]⟩
def EVT_VEC_MAP_0.M1 : Fld := ⟨R.EVT_VEC_MAP_0, 4, 4, .rwc, [(0, 13)]⟩
def EVT_VEC_MAP_0.M2 : Fld := ⟨R.EVT_VEC_MAP_0, 8, 4, .rwc, [(0, 13)]⟩
def EVT_VEC_MAP_0.M3 : Fld := ⟨R.EVT_VEC_MAP_0, 12, 4, .rwc, [(0, 13)]⟩
def EVT_VEC_MAP_0.M4 : Fld := ⟨R.EVT_VEC_MAP_0, 16, 4, .rwc, [(0, 13)]⟩
def EVT_VEC_MAP_0.M5 : Fld := ⟨R.EVT_VEC_MAP_0, 20, 4, .rwc, [(0, 13)]⟩
def EVT_VEC_MAP_0.M6 : Fld := ⟨R.EVT_VEC_MAP_0, 24, 4, .rwc, [(0, 13)]⟩
def EVT_VEC_MAP_0.M7 : Fld := ⟨R.EVT_VEC_MAP_0, 28, 4, .rwc, [(0, 13)]⟩
def EVT_VEC_MAP_1.M8 : Fld := ⟨R.EVT_VEC_MAP_1, 0, 4, .rwc, [(0, 13)]⟩
def EVT_VEC_MAP_1.M9 : Fld := ⟨R.EVT_VEC_MAP_1, 4, 4, .rwc, [(0, 13)]⟩
def EVT_VEC_MAP_1.M10 : Fld := ⟨R.EVT_VEC_MAP_1, 8, 4, .rwc, [(0, 13)]⟩
def EVT_VEC_MAP_1.M11 : Fld := ⟨R.EVT_VEC_MAP_1, 12, 4, .rwc, [(0, 13)]⟩
def EVT_VEC_MAP_1.M12 : Fld := ⟨R.EVT_VEC_MAP_1, 16, 4, .rwc, [(0, 13)]⟩
def EVT_VEC_MAP_1.M13 : Fld := ⟨R.EVT_VEC_MAP_1, 20, 4, .rwc, [(0, 13)]⟩
def EVT_VEC_MAP_1.M14 : Fld := ⟨R.EVT_VEC_MAP_1, 24, 4, .rwc, [(0, 13)]⟩
def EVT_REARM.VEC : Fld := ⟨R.EVT_REARM, 0, 14, .wo, []⟩
def EVT_STAT.TRANSIENT : Fld := ⟨R.EVT_STAT, 0, 1, .w1c, []⟩
def EVT_STAT.LASTING : Fld := ⟨R.EVT_STAT, 1, 1, .w1c, []⟩
def EVT_STAT.RESERVED_ENC : Fld := ⟨R.EVT_STAT, 2, 1, .w1c, []⟩
def EVT_STAT.COUNTERS_LOST : Fld := ⟨R.EVT_STAT, 3, 1, .w1c, []⟩
def EVT_STAT.LOG_LOST : Fld := ⟨R.EVT_STAT, 4, 1, .w1c, []⟩
def EVT_STAT.D2D_RELOADED : Fld := ⟨R.EVT_STAT, 5, 1, .w1c, []⟩
def EVT_STAT.HALF_RANGE : Fld := ⟨R.EVT_STAT, 6, 1, .w1c, []⟩
def EVT_MASK.TRANSIENT : Fld := ⟨R.EVT_MASK, 0, 1, .rw, []⟩
def EVT_MASK.LASTING : Fld := ⟨R.EVT_MASK, 1, 1, .rw, []⟩
def EVT_MASK.RESERVED_ENC : Fld := ⟨R.EVT_MASK, 2, 1, .rw, []⟩
def EVT_MASK.COUNTERS_LOST : Fld := ⟨R.EVT_MASK, 3, 1, .rw, []⟩
def EVT_MASK.LOG_LOST : Fld := ⟨R.EVT_MASK, 4, 1, .rw, []⟩
def EVT_MASK.D2D_RELOADED : Fld := ⟨R.EVT_MASK, 5, 1, .rw, []⟩
def EVT_MASK.HALF_RANGE : Fld := ⟨R.EVT_MASK, 6, 1, .rw, []⟩
/-! Fields of R488 (17_twin_pair.md) -/
def TWN_CFG.ENABLE : Fld := ⟨R.TWN_CFG, 0, 1, .rwc, []⟩
def TWN_CFG.UNIT : Fld := ⟨R.TWN_CFG, 1, 1, .rwc, []⟩
def TWN_CFG.PREF_UNIT : Fld := ⟨R.TWN_CFG, 2, 1, .rwc, []⟩
def TWN_CFG.REVERTIVE : Fld := ⟨R.TWN_CFG, 3, 1, .rwc, []⟩
def TWN_CFG.DEGRADE_SWITCH : Fld := ⟨R.TWN_CFG, 4, 1, .rwc, []⟩
def TWN_CFG.WTR_S : Fld := ⟨R.TWN_CFG, 8, 12, .rwc, [(0, 3600)]⟩
def TWN_TIMING.SEQ_AHEAD_US : Fld := ⟨R.TWN_TIMING, 0, 8, .rwc, [(4, 128)]⟩
def TWN_TIMING.DEGRADE_HOLD_MS : Fld := ⟨R.TWN_TIMING, 8, 10, .rwc, [(0, 1000)]⟩
def TWN_TIMING.PAIR_WAIT_MS : Fld := ⟨R.TWN_TIMING, 18, 10, .rwc, [(1, 1000)]⟩
def TWN_TOL.TIME_TOL : Fld := ⟨R.TWN_TOL, 0, 16, .rwc, [(1, 65535)]⟩
def TWN_TOL.FWD_TOL : Fld := ⟨R.TWN_TOL, 16, 16, .rwc, []⟩
def TWN_PATH_ADJ.ADJ : Fld := ⟨R.TWN_PATH_ADJ, 0, 32, .rwc, []⟩
def TWN_MIRROR_ASYM.ASYM : Fld := ⟨R.TWN_MIRROR_ASYM, 0, 32, .rwc, []⟩
def TWN_STAT.ROLE : Fld := ⟨R.TWN_STAT, 0, 1, .ro, []⟩
def TWN_STAT.PARTNER : Fld := ⟨R.TWN_STAT, 1, 1, .ro, []⟩
def TWN_STAT.PARTNER_ROLE : Fld := ⟨R.TWN_STAT, 2, 1, .ro, []⟩
def TWN_STAT.STATE : Fld := ⟨R.TWN_STAT, 3, 3, .ro, []⟩
def TWN_STAT.LANES_UP : Fld := ⟨R.TWN_STAT, 6, 4, .ro, []⟩
def TWN_STAT.READY : Fld := ⟨R.TWN_STAT, 10, 1, .ro, []⟩
def TWN_STAT.SWITCHING : Fld := ⟨R.TWN_STAT, 11, 1, .ro, []⟩
def TWN_STAT.WTR_LEFT : Fld := ⟨R.TWN_STAT, 12, 12, .ro, []⟩
def TWN_HEALTH.OWN : Fld := ⟨R.TWN_HEALTH, 0, 16, .ro, []⟩
def TWN_HEALTH.PARTNER : Fld := ⟨R.TWN_HEALTH, 16, 16, .ro, []⟩
def TWN_TIME_DIFF.DIFF : Fld := ⟨R.TWN_TIME_DIFF, 0, 32, .ro, []⟩
def TWN_TXN_STAT.TXN_LAST : Fld := ⟨R.TWN_TXN_STAT, 0, 32, .ro, []⟩
def TWN_MIRROR_STAT.BACKLOG : Fld := ⟨R.TWN_MIRROR_STAT, 0, 16, .ro, []⟩
def TWN_MIRROR_STAT.PENDING : Fld := ⟨R.TWN_MIRROR_STAT, 16, 16, .ro, []⟩
def TWN_EVT_STAT.TAKEOVER : Fld := ⟨R.TWN_EVT_STAT, 0, 1, .w1c, []⟩
def TWN_EVT_STAT.RELINQUISH : Fld := ⟨R.TWN_EVT_STAT, 1, 1, .w1c, []⟩
def TWN_EVT_STAT.PARTNER_LOST : Fld := ⟨R.TWN_EVT_STAT, 2, 1, .w1c, []⟩
def TWN_EVT_STAT.PARTNER_FOUND : Fld := ⟨R.TWN_EVT_STAT, 3, 1, .w1c, []⟩
def TWN_EVT_STAT.DUAL_LEAD : Fld := ⟨R.TWN_EVT_STAT, 4, 1, .w1c, []⟩
def TWN_EVT_STAT.LANE_DOWN : Fld := ⟨R.TWN_EVT_STAT, 5, 1, .w1c, []⟩
def TWN_EVT_STAT.NOT_READY : Fld := ⟨R.TWN_EVT_STAT, 6, 1, .w1c, []⟩
def TWN_EVT_STAT.PARTNER_NOT_READY : Fld := ⟨R.TWN_EVT_STAT, 7, 1, .w1c, []⟩
def TWN_EVT_STAT.RESYNC_DONE : Fld := ⟨R.TWN_EVT_STAT, 8, 1, .w1c, []⟩
def TWN_EVT_STAT.REVERT : Fld := ⟨R.TWN_EVT_STAT, 9, 1, .w1c, []⟩
def TWN_EVT_STAT.NO_STANDBY : Fld := ⟨R.TWN_EVT_STAT, 10, 1, .w1c, []⟩
def TWN_EVT_STAT.LATE_APPLY : Fld := ⟨R.TWN_EVT_STAT, 11, 1, .w1c, []⟩
def TWN_EVT_STAT.PAIR_MISMATCH : Fld := ⟨R.TWN_EVT_STAT, 12, 1, .w1c, []⟩
def TWN_EVT_MASK.TAKEOVER : Fld := ⟨R.TWN_EVT_MASK, 0, 1, .rw, []⟩
def TWN_EVT_MASK.RELINQUISH : Fld := ⟨R.TWN_EVT_MASK, 1, 1, .rw, []⟩
def TWN_EVT_MASK.PARTNER_LOST : Fld := ⟨R.TWN_EVT_MASK, 2, 1, .rw, []⟩
def TWN_EVT_MASK.PARTNER_FOUND : Fld := ⟨R.TWN_EVT_MASK, 3, 1, .rw, []⟩
def TWN_EVT_MASK.DUAL_LEAD : Fld := ⟨R.TWN_EVT_MASK, 4, 1, .rw, []⟩
def TWN_EVT_MASK.LANE_DOWN : Fld := ⟨R.TWN_EVT_MASK, 5, 1, .rw, []⟩
def TWN_EVT_MASK.NOT_READY : Fld := ⟨R.TWN_EVT_MASK, 6, 1, .rw, []⟩
def TWN_EVT_MASK.PARTNER_NOT_READY : Fld := ⟨R.TWN_EVT_MASK, 7, 1, .rw, []⟩
def TWN_EVT_MASK.RESYNC_DONE : Fld := ⟨R.TWN_EVT_MASK, 8, 1, .rw, []⟩
def TWN_EVT_MASK.REVERT : Fld := ⟨R.TWN_EVT_MASK, 9, 1, .rw, []⟩
def TWN_EVT_MASK.NO_STANDBY : Fld := ⟨R.TWN_EVT_MASK, 10, 1, .rw, []⟩
def TWN_EVT_MASK.LATE_APPLY : Fld := ⟨R.TWN_EVT_MASK, 11, 1, .rw, []⟩
def TWN_EVT_MASK.PAIR_MISMATCH : Fld := ⟨R.TWN_EVT_MASK, 12, 1, .rw, []⟩
/-! Fields of R498 (18_register_index.md) -/
def PWR_IDENT.PART : Fld := ⟨R.PWR_IDENT, 0, 16, .ro, []⟩
def PWR_IDENT.STEPPING : Fld := ⟨R.PWR_IDENT, 16, 4, .ro, []⟩
def PWR_IDENT.FAMILY : Fld := ⟨R.PWR_IDENT, 20, 4, .ro, []⟩
def PWR_SERIAL_0.SERIAL : Fld := ⟨R.PWR_SERIAL_0, 0, 32, .ro, []⟩
def PWR_SERIAL_1.SERIAL : Fld := ⟨R.PWR_SERIAL_1, 0, 32, .ro, []⟩
def PWR_SERIAL_2.SERIAL : Fld := ⟨R.PWR_SERIAL_2, 0, 32, .ro, []⟩
/-! Fields of R69 (02_module_power.md) -/
def PWR_MODE_CTL.REQ_MODE : Fld := ⟨R.PWR_MODE_CTL, 0, 3, .rw, [(0, 5)]⟩
def PWR_MODE_CTL.OCXO_HOLD_WARM : Fld := ⟨R.PWR_MODE_CTL, 3, 1, .rw, []⟩
def PWR_MODE_CTL.CUR_MODE : Fld := ⟨R.PWR_MODE_CTL, 8, 3, .ro, []⟩
def PWR_MODE_CTL.IN_TRANSITION : Fld := ⟨R.PWR_MODE_CTL, 11, 1, .ro, []⟩
/-! Fields of R94 (03_modes_and_startup.md) -/
def PWR_MODE_STAT.LAST_FROM : Fld := ⟨R.PWR_MODE_STAT, 0, 3, .ro, []⟩
def PWR_MODE_STAT.LAST_TO : Fld := ⟨R.PWR_MODE_STAT, 3, 3, .ro, []⟩
def PWR_MODE_STAT.REFUSED : Fld := ⟨R.PWR_MODE_STAT, 6, 1, .w1c, []⟩
def PWR_MODE_STAT.HBM_RETAINED : Fld := ⟨R.PWR_MODE_STAT, 7, 1, .ro, []⟩
def PWR_MODE_STAT.ISO_CAUSE : Fld := ⟨R.PWR_MODE_STAT, 8, 4, .ro, []⟩
def PWR_MODE_STAT.CAL_PENDING : Fld := ⟨R.PWR_MODE_STAT, 12, 1, .ro, []⟩
/-! Fields of R69 (02_module_power.md) -/
def PWR_FEED_STAT.A_OK : Fld := ⟨R.PWR_FEED_STAT, 0, 1, .ro, []⟩
def PWR_FEED_STAT.B_OK : Fld := ⟨R.PWR_FEED_STAT, 1, 1, .ro, []⟩
def PWR_FEED_STAT.A_CONDUCTING : Fld := ⟨R.PWR_FEED_STAT, 2, 1, .ro, []⟩
def PWR_FEED_STAT.B_CONDUCTING : Fld := ⟨R.PWR_FEED_STAT, 3, 1, .ro, []⟩
def PWR_FEED_STAT.A_OVER : Fld := ⟨R.PWR_FEED_STAT, 4, 1, .ro, []⟩
def PWR_FEED_STAT.B_OVER : Fld := ⟨R.PWR_FEED_STAT, 5, 1, .ro, []⟩
def PWR_FEED_STAT.A_REVERSED : Fld := ⟨R.PWR_FEED_STAT, 6, 1, .ro, []⟩
def PWR_FEED_STAT.B_REVERSED : Fld := ⟨R.PWR_FEED_STAT, 7, 1, .ro, []⟩
def PWR_FEED_STAT.RIDE_THROUGH : Fld := ⟨R.PWR_FEED_STAT, 8, 1, .ro, []⟩
def PWR_FEED_MON_0.VOLT : Fld := ⟨R.PWR_FEED_MON_0, 0, 16, .ro, []⟩
def PWR_FEED_MON_0.CURR : Fld := ⟨R.PWR_FEED_MON_0, 16, 16, .ro, []⟩
def PWR_FEED_MON_1.VOLT : Fld := ⟨R.PWR_FEED_MON_1, 0, 16, .ro, []⟩
def PWR_FEED_MON_1.CURR : Fld := ⟨R.PWR_FEED_MON_1, 16, 16, .ro, []⟩
def PWR_RAIL_STAT.RAIL_OK : Fld := ⟨R.PWR_RAIL_STAT, 0, 8, .ro, []⟩
def PWR_RAIL_STAT.RAIL_REQ : Fld := ⟨R.PWR_RAIL_STAT, 8, 8, .ro, []⟩
def PWR_EVT_STAT.A_LOST : Fld := ⟨R.PWR_EVT_STAT, 0, 1, .w1c, []⟩
def PWR_EVT_STAT.B_LOST : Fld := ⟨R.PWR_EVT_STAT, 1, 1, .w1c, []⟩
def PWR_EVT_STAT.A_RESTORED : Fld := ⟨R.PWR_EVT_STAT, 2, 1, .w1c, []⟩
def PWR_EVT_STAT.B_RESTORED : Fld := ⟨R.PWR_EVT_STAT, 3, 1, .w1c, []⟩
def PWR_EVT_STAT.RIDE_THROUGH : Fld := ⟨R.PWR_EVT_STAT, 4, 1, .w1c, []⟩
def PWR_EVT_STAT.POWER_FAULT : Fld := ⟨R.PWR_EVT_STAT, 5, 1, .w1c, []⟩
def PWR_EVT_STAT.RAIL_FAULT : Fld := ⟨R.PWR_EVT_STAT, 6, 1, .w1c, []⟩
def PWR_EVT_STAT.TEMP_WARN : Fld := ⟨R.PWR_EVT_STAT, 7, 1, .w1c, []⟩
def PWR_EVT_STAT.TEMP_CRIT : Fld := ⟨R.PWR_EVT_STAT, 8, 1, .w1c, []⟩
def PWR_EVT_STAT.SMB_ERROR : Fld := ⟨R.PWR_EVT_STAT, 9, 1, .w1c, []⟩
def PWR_ALERT_MASK.A_LOST : Fld := ⟨R.PWR_ALERT_MASK, 0, 1, .rw, []⟩
def PWR_ALERT_MASK.B_LOST : Fld := ⟨R.PWR_ALERT_MASK, 1, 1, .rw, []⟩
def PWR_ALERT_MASK.A_RESTORED : Fld := ⟨R.PWR_ALERT_MASK, 2, 1, .rw, []⟩
def PWR_ALERT_MASK.B_RESTORED : Fld := ⟨R.PWR_ALERT_MASK, 3, 1, .rw, []⟩
def PWR_ALERT_MASK.RIDE_THROUGH : Fld := ⟨R.PWR_ALERT_MASK, 4, 1, .rw, []⟩
def PWR_ALERT_MASK.POWER_FAULT : Fld := ⟨R.PWR_ALERT_MASK, 5, 1, .rw, []⟩
def PWR_ALERT_MASK.RAIL_FAULT : Fld := ⟨R.PWR_ALERT_MASK, 6, 1, .rw, []⟩
def PWR_ALERT_MASK.TEMP_WARN : Fld := ⟨R.PWR_ALERT_MASK, 7, 1, .rw, []⟩
def PWR_ALERT_MASK.TEMP_CRIT : Fld := ⟨R.PWR_ALERT_MASK, 8, 1, .rw, []⟩
def PWR_ALERT_MASK.SMB_ERROR : Fld := ⟨R.PWR_ALERT_MASK, 9, 1, .rw, []⟩
def PWR_TEMP.CASE : Fld := ⟨R.PWR_TEMP, 0, 16, .ro, []⟩
def PWR_TEMP.DIE_MAX : Fld := ⟨R.PWR_TEMP, 16, 16, .ro, []⟩
def PWR_TEMP_THR.WARN : Fld := ⟨R.PWR_TEMP_THR, 0, 16, .rw, [(0, 1520), (32768, 65535)]⟩
def PWR_TEMP_THR.CRIT : Fld := ⟨R.PWR_TEMP_THR, 16, 16, .ro, []⟩
def PWR_SMB_CFG.PEC_REQ : Fld := ⟨R.PWR_SMB_CFG, 0, 1, .rw, []⟩
def PWR_SMB_STAT.ADDR : Fld := ⟨R.PWR_SMB_STAT, 0, 7, .ro, []⟩
def PWR_SMB_STAT.PEC_ERR_CNT : Fld := ⟨R.PWR_SMB_STAT, 8, 8, .rw, []⟩
def PWR_SMB_STAT.BAD_OFFSET_CNT : Fld := ⟨R.PWR_SMB_STAT, 16, 8, .rw, []⟩
def PWR_SMB_STAT.BAD_COUNT_CNT : Fld := ⟨R.PWR_SMB_STAT, 24, 8, .rw, []⟩
/-! Fields of R94 (03_modes_and_startup.md) -/
def PWR_CLK_STAT.OCXO_HEATING : Fld := ⟨R.PWR_CLK_STAT, 0, 1, .ro, []⟩
def PWR_CLK_STAT.OCXO_WARM : Fld := ⟨R.PWR_CLK_STAT, 1, 1, .ro, []⟩
def PWR_CLK_STAT.MDLL_LOCK : Fld := ⟨R.PWR_CLK_STAT, 2, 1, .ro, []⟩
def PWR_CLK_STAT.TCLK_RUN : Fld := ⟨R.PWR_CLK_STAT, 3, 1, .ro, []⟩
def PWR_CLK_STAT.TICK_RUN : Fld := ⟨R.PWR_CLK_STAT, 4, 1, .ro, []⟩
def PWR_CLK_STAT.CORE_RUN : Fld := ⟨R.PWR_CLK_STAT, 5, 1, .ro, []⟩
def PWR_CLK_STAT.SDREF_RUN : Fld := ⟨R.PWR_CLK_STAT, 8, 16, .ro, []⟩
def PWR_OCXO_STAT.WARM_ELAPSED : Fld := ⟨R.PWR_OCXO_STAT, 0, 16, .ro, []⟩
def PWR_OCXO_STAT.OVEN_ERR : Fld := ⟨R.PWR_OCXO_STAT, 16, 16, .ro, []⟩
def PWR_RESET_CAUSE.POR : Fld := ⟨R.PWR_RESET_CAUSE, 0, 1, .w1c, []⟩
def PWR_RESET_CAUSE.PIN : Fld := ⟨R.PWR_RESET_CAUSE, 1, 1, .w1c, []⟩
def PWR_RESET_CAUSE.SW_MODULE : Fld := ⟨R.PWR_RESET_CAUSE, 2, 1, .w1c, []⟩
def PWR_RESET_CAUSE.SW_SWITCH : Fld := ⟨R.PWR_RESET_CAUSE, 3, 1, .w1c, []⟩
def PWR_RESET_CAUSE.GRANGE_WDT : Fld := ⟨R.PWR_RESET_CAUSE, 4, 1, .w1c, []⟩
def PWR_RESET_CAUSE.PERST : Fld := ⟨R.PWR_RESET_CAUSE, 5, 1, .w1c, []⟩
def PWR_RESET_CTL.KEY : Fld := ⟨R.PWR_RESET_CTL, 0, 16, .wo, []⟩
def PWR_RESET_CTL.MODULE : Fld := ⟨R.PWR_RESET_CTL, 16, 1, .wo, []⟩
def PWR_RESET_CTL.SWITCH : Fld := ⟨R.PWR_RESET_CTL, 17, 1, .wo, []⟩
def PWR_BOOT_STAT.STATE : Fld := ⟨R.PWR_BOOT_STAT, 0, 3, .ro, []⟩
def PWR_BOOT_STAT.SLOT : Fld := ⟨R.PWR_BOOT_STAT, 3, 1, .ro, []⟩
def PWR_BOOT_STAT.FALLBACK : Fld := ⟨R.PWR_BOOT_STAT, 4, 1, .ro, []⟩
def PWR_BOOT_STAT.FAIL_CODE : Fld := ⟨R.PWR_BOOT_STAT, 8, 8, .ro, []⟩
def PWR_BOOT_STAT.RELEASE : Fld := ⟨R.PWR_BOOT_STAT, 16, 16, .ro, []⟩
/-! Fields of R455 (16_integrity_and_events.md) -/
def EVT_LASTING.CLASS : Fld := ⟨R.EVT_LASTING, 0, 11, .w1c, []⟩
def EVT_FCNT.CORRECTED : Fld := ⟨R.EVT_FCNT, 0, 12, .rw, []⟩
def EVT_FCNT.TRANSIENT : Fld := ⟨R.EVT_FCNT, 12, 10, .rw, []⟩
def EVT_FCNT.LASTING : Fld := ⟨R.EVT_FCNT, 22, 10, .rw, []⟩
/-! Fields of R128 (04_grange_mailboxes.md) -/
def MBX_DT_NOTIFY.FIRST : Fld := ⟨R.MBX_DT_NOTIFY, 0, 23, .wo, []⟩
def MBX_DT_NOTIFY.COUNT : Fld := ⟨R.MBX_DT_NOTIFY, 23, 9, .wo, []⟩
def MBX_DT_SEQ.COUNT : Fld := ⟨R.MBX_DT_SEQ, 0, 32, .ro, []⟩
def MBX_DT_DONE.COUNT : Fld := ⟨R.MBX_DT_DONE, 0, 32, .ro, []⟩
def MBX_DT_BIND.ENTRY_COUNT : Fld := ⟨R.MBX_DT_BIND, 0, 23, .ro, []⟩
def MBX_DT_STAT.ZERO_CNT : Fld := ⟨R.MBX_DT_STAT, 0, 8, .rw, []⟩
def MBX_DT_STAT.RANGE_CNT : Fld := ⟨R.MBX_DT_STAT, 8, 8, .rw, []⟩
def MBX_DT_STAT.SAME_GEN_CNT : Fld := ⟨R.MBX_DT_STAT, 16, 8, .rw, []⟩
def MBX_DT_STAT.OVERFLOW_CNT : Fld := ⟨R.MBX_DT_STAT, 24, 6, .rw, []⟩
def MBX_DT_STAT.FETCH_FAIL : Fld := ⟨R.MBX_DT_STAT, 30, 1, .w1c, []⟩

/-- The registers of the MBX block, in offset order. -/
def mbxRows : List RegRow :=
  [⟨R.MBX_DOORBELL, [MBX_DOORBELL.RING]⟩,
   ⟨R.MBX_STATE, [MBX_STATE.STATE]⟩,
   ⟨R.MBX_ERR_STAT, [MBX_ERR_STAT.DOORBELL_LOST_CNT, MBX_ERR_STAT.WRITE_LOST_CNT]⟩,
   ⟨R.MBX_RETRY_STAT, [MBX_RETRY_STAT.TRANSIENT_CNT, MBX_RETRY_STAT.LASTING_CNT]⟩,
   ⟨R.MBX_GRANGE_STAT, [MBX_GRANGE_STAT.AWAKE, MBX_GRANGE_STAT.RECOVERY, MBX_GRANGE_STAT.WDT_CNT]⟩,
   ⟨R.MBX_TICK_LO, [MBX_TICK_LO.TICK]⟩,
   ⟨R.MBX_TICK_HI, [MBX_TICK_HI.TICK]⟩,
   ⟨R.MBX_COMMIT_GROUPS, [MBX_COMMIT_GROUPS.GROUPS]⟩,
   ⟨R.MBX_COMMIT_CTL, [MBX_COMMIT_CTL.GO, MBX_COMMIT_CTL.WHEN, MBX_COMMIT_CTL.DISCARD]⟩,
   ⟨R.MBX_COMMIT_AT_LO, [MBX_COMMIT_AT_LO.AT]⟩,
   ⟨R.MBX_COMMIT_AT_HI, [MBX_COMMIT_AT_HI.AT]⟩,
   ⟨R.MBX_COMMIT_STAT, [MBX_COMMIT_STAT.STATE, MBX_COMMIT_STAT.FAIL_GROUP, MBX_COMMIT_STAT.RESULT]⟩,
   ⟨R.MBX_COMMIT_FAIL, [MBX_COMMIT_FAIL.FAIL_OFFSET]⟩,
   ⟨R.MBX_COMMIT_APPLIED_LO, [MBX_COMMIT_APPLIED_LO.TICK]⟩,
   ⟨R.MBX_COMMIT_APPLIED_HI, [MBX_COMMIT_APPLIED_HI.TICK]⟩]
/-- The registers of the PRT block, in offset order. -/
def prtRows : List RegRow :=
  [⟨R.PRT_CFG, [PRT_CFG.ENABLE, PRT_CFG.WIDTH, PRT_CFG.HOLD, PRT_CFG.FIRST_LANE, PRT_CFG.FC_MODE, PRT_CFG.PREEMPT_EN, PRT_CFG.IP_CSUM_CHECK, PRT_CFG.LOOPBACK]⟩,
   ⟨R.PRT_FRAME_CFG, [PRT_FRAME_CFG.MAX_LEN]⟩,
   ⟨R.PRT_PFC_CFG, [PRT_PFC_CFG.RX_EN, PRT_PFC_CFG.TX_EN, PRT_PFC_CFG.TX_QUANTA]⟩,
   ⟨R.PRT_PREEMPT_CFG, [PRT_PREEMPT_CFG.EXPRESS, PRT_PREEMPT_CFG.ADD_FRAG, PRT_PREEMPT_CFG.VERIFY_DIS, PRT_PREEMPT_CFG.VERIFY_MS]⟩,
   ⟨R.PRT_LANE_CFG, [PRT_LANE_CFG.TX_INV, PRT_LANE_CFG.RX_INV, PRT_LANE_CFG.C_M2, PRT_LANE_CFG.C_M1, PRT_LANE_CFG.C_P1]⟩,
   ⟨R.PRT_LINK_CFG, [PRT_LINK_CFG.DOWN_DEB, PRT_LINK_CFG.UP_DEB]⟩,
   ⟨R.PRT_FEC_CFG, [PRT_FEC_CFG.DEGRADE_THR]⟩,
   ⟨R.PRT_MAC_ADDR_LO, [PRT_MAC_ADDR_LO.ADDR_LO]⟩,
   ⟨R.PRT_MAC_ADDR_HI, [PRT_MAC_ADDR_HI.ADDR_HI]⟩,
   ⟨R.PRT_STAT, [PRT_STAT.LINK_STATE, PRT_STAT.SIG_ALL, PRT_STAT.FEC_LOCK, PRT_STAT.LOCAL_FAULT, PRT_STAT.REMOTE_FAULT, PRT_STAT.RX_PAUSED, PRT_STAT.TX_XOFF, PRT_STAT.PREEMPT_ACTIVE, PRT_STAT.RETRY, PRT_STAT.DOWN_CAUSE]⟩,
   ⟨R.PRT_EVT_STAT, [PRT_EVT_STAT.LINK_UP, PRT_EVT_STAT.LINK_DOWN, PRT_EVT_STAT.LINK_FAIL, PRT_EVT_STAT.TRAIN_TRANSIENT, PRT_EVT_STAT.FEC_DEGRADE, PRT_EVT_STAT.VERIFY_FAIL, PRT_EVT_STAT.GLITCH]⟩,
   ⟨R.PRT_EVT_MASK, [PRT_EVT_MASK.LINK_UP, PRT_EVT_MASK.LINK_DOWN, PRT_EVT_MASK.LINK_FAIL, PRT_EVT_MASK.TRAIN_TRANSIENT, PRT_EVT_MASK.FEC_DEGRADE, PRT_EVT_MASK.VERIFY_FAIL, PRT_EVT_MASK.GLITCH]⟩,
   ⟨R.PRT_OPT_CFG, [PRT_OPT_CFG.FAST]⟩,
   ⟨R.PRT_OPT_STAT, [PRT_OPT_STAT.INT_LVL, PRT_OPT_STAT.INT_EVT]⟩]
/-- The registers of the SHF block, in offset order. -/
def shfRows : List RegRow :=
  [⟨R.SHF_CFG, [SHF_CFG.ENABLE, SHF_CFG.DUP, SHF_CFG.POOL, SHF_CFG.PEER_SHEAF, SHF_CFG.MAX_LEN]⟩,
   ⟨R.SHF_PEER_NODE_LO, [SHF_PEER_NODE_LO.ID]⟩,
   ⟨R.SHF_PEER_NODE_HI, [SHF_PEER_NODE_HI.ID]⟩,
   ⟨R.SHF_SHEAF_STAT, [SHF_SHEAF_STAT.RX_STATE, SHF_SHEAF_STAT.ACTIVE_CNT, SHF_SHEAF_STAT.RATE_SUM]⟩,
   ⟨R.SHF_LOSS_WAIT, [SHF_LOSS_WAIT.LOSS_WAIT]⟩,
   ⟨R.SHF_EVT_STAT, [SHF_EVT_STAT.GRAIN_LOST, SHF_EVT_STAT.SYNC_LOSS, SHF_EVT_STAT.DENSITY, SHF_EVT_STAT.RESYNC]⟩,
   ⟨R.SHF_EVT_MASK, [SHF_EVT_MASK.GRAIN_LOST, SHF_EVT_MASK.SYNC_LOSS, SHF_EVT_MASK.DENSITY, SHF_EVT_MASK.RESYNC]⟩,
   ⟨R.SHF_TT_CFG, [SHF_TT_CFG.METHOD, SHF_TT_CFG.LINE_REF, SHF_TT_CFG.CP_FIBRE, SHF_TT_CFG.AVG_MS, SHF_TT_CFG.TC_WINDOW]⟩,
   ⟨R.SHF_TT_LIM, [SHF_TT_LIM.OUTLIER_PS, SHF_TT_LIM.ASYM_UNC]⟩,
   ⟨R.SHF_TT_FIB_TAU, [SHF_TT_FIB_TAU.TAU0, SHF_TT_FIB_TAU.DISP_UNC]⟩,
   ⟨R.SHF_TT_FIB_DISP, [SHF_TT_FIB_DISP.D, SHF_TT_FIB_DISP.S]⟩,
   ⟨R.SHF_TT_STAT, [SHF_TT_STAT.MEAS_CNT, SHF_TT_STAT.SAMPLE_OK, SHF_TT_STAT.F_CURRENT, SHF_TT_STAT.NO_ASYM, SHF_TT_STAT.PEER_STEPS, SHF_TT_STAT.PEER_CLASS, SHF_TT_STAT.PEER_TFLAGS, SHF_TT_STAT.STEPS_OVER, SHF_TT_STAT.CP_SEEN]⟩,
   ⟨R.SHF_TT_OFS_LO, [SHF_TT_OFS_LO.OFS]⟩,
   ⟨R.SHF_TT_OFS_HI, [SHF_TT_OFS_HI.OFS]⟩,
   ⟨R.SHF_TT_F, [SHF_TT_F.F]⟩,
   ⟨R.SHF_TT_UNC, [SHF_TT_UNC.F_UNC, SHF_TT_UNC.SPREAD]⟩,
   ⟨R.SHF_TT_HOP_TE, [SHF_TT_HOP_TE.HOP_TE]⟩,
   ⟨R.SHF_TT_EVT_STAT, [SHF_TT_EVT_STAT.LINE_LOST, SHF_TT_EVT_STAT.OUTLIER, SHF_TT_EVT_STAT.ASYM_JUMP, SHF_TT_EVT_STAT.CP_MISMATCH, SHF_TT_EVT_STAT.BUDGET, SHF_TT_EVT_STAT.STEPS_OVER, SHF_TT_EVT_STAT.F_READY]⟩,
   ⟨R.SHF_TT_EVT_MASK, [SHF_TT_EVT_MASK.LINE_LOST, SHF_TT_EVT_MASK.OUTLIER, SHF_TT_EVT_MASK.ASYM_JUMP, SHF_TT_EVT_MASK.CP_MISMATCH, SHF_TT_EVT_MASK.BUDGET, SHF_TT_EVT_MASK.STEPS_OVER, SHF_TT_EVT_MASK.F_READY]⟩,
   ⟨R.SHF_NODE_ID_LO, [SHF_NODE_ID_LO.ID]⟩,
   ⟨R.SHF_NODE_ID_HI, [SHF_NODE_ID_HI.ID]⟩,
   ⟨R.SHF_CAR_CFG, [SHF_CAR_CFG.ENABLE, SHF_CAR_CFG.HOLD, SHF_CAR_CFG.AUTO_JOIN, SHF_CAR_CFG.LEG, SHF_CAR_CFG.CP, SHF_CAR_CFG.FIRST_LANE, SHF_CAR_CFG.LANES_M1, SHF_CAR_CFG.RATE, SHF_CAR_CFG.SHEAF]⟩,
   ⟨R.SHF_CAR_FREQ, [SHF_CAR_FREQ.CENTRE_FREQ]⟩,
   ⟨R.SHF_CAR_STAT, [SHF_CAR_STAT.STATE, SHF_CAR_STAT.LANES_LOCKED, SHF_CAR_STAT.TG_OK, SHF_CAR_STAT.ECHO_OK, SHF_CAR_STAT.RETRY, SHF_CAR_STAT.PEER_STATE, SHF_CAR_STAT.DOWN_CAUSE, SHF_CAR_STAT.PEER_CARRIER]⟩,
   ⟨R.SHF_CAR_SKEW, [SHF_CAR_SKEW.VALUE]⟩,
   ⟨R.SHF_CAR_RTT, [SHF_CAR_RTT.VALUE]⟩,
   ⟨R.SHF_CAR_EVT_STAT, [SHF_CAR_EVT_STAT.ACTIVE, SHF_CAR_EVT_STAT.DOWN, SHF_CAR_EVT_STAT.TRAIN_FAIL, SHF_CAR_EVT_STAT.TRAIN_TRANSIENT, SHF_CAR_EVT_STAT.SKEW_EXCESS, SHF_CAR_EVT_STAT.MISCONNECT, SHF_CAR_EVT_STAT.JOIN_NAK, SHF_CAR_EVT_STAT.PARKED]⟩,
   ⟨R.SHF_CAR_EVT_MASK, [SHF_CAR_EVT_MASK.ACTIVE, SHF_CAR_EVT_MASK.DOWN, SHF_CAR_EVT_MASK.TRAIN_FAIL, SHF_CAR_EVT_MASK.TRAIN_TRANSIENT, SHF_CAR_EVT_MASK.SKEW_EXCESS, SHF_CAR_EVT_MASK.MISCONNECT, SHF_CAR_EVT_MASK.JOIN_NAK, SHF_CAR_EVT_MASK.PARKED]⟩,
   ⟨R.SHF_TT_ASYM, [SHF_TT_ASYM.ASYM]⟩,
   ⟨R.SHF_TT_NFRT, [SHF_TT_NFRT.NFRT]⟩,
   ⟨R.SHF_LANE_CFG, [SHF_LANE_CFG.TX_INV, SHF_LANE_CFG.RX_INV, SHF_LANE_CFG.C_M2, SHF_LANE_CFG.C_M1, SHF_LANE_CFG.C_P1]⟩]
/-- The registers of the FWD block, in offset order. -/
def fwdRows : List RegRow :=
  [⟨R.FWD_IN_CFG, [FWD_IN_CFG.L3_EN, FWD_IN_CFG.MPLS_EN, FWD_IN_CFG.L2_EN, FWD_IN_CFG.FLOW_EN, FWD_IN_CFG.INGRESS_KEY, FWD_IN_CFG.CLASS_SRC, FWD_IN_CFG.DEFAULT_CLASS, FWD_IN_CFG.ARB_WEIGHT]⟩,
   ⟨R.FWD_PCP_MAP, [FWD_PCP_MAP.MAP]⟩,
   ⟨R.FWD_TC_MAP, [FWD_TC_MAP.MAP]⟩,
   ⟨R.FWD_DSCP_MAP, [FWD_DSCP_MAP.MAP]⟩,
   ⟨R.FWD_DSCP_MAP_6, [FWD_DSCP_MAP_6.MAP]⟩,
   ⟨R.FWD_HASH_CFG, [FWD_HASH_CFG.L4_EN, FWD_HASH_CFG.PROTO_EN, FWD_HASH_CFG.SRC_EN, FWD_HASH_CFG.DST_EN]⟩,
   ⟨R.FWD_HASH_SEED, [FWD_HASH_SEED.SEED]⟩,
   ⟨R.FWD_PLANE_MAP, [FWD_PLANE_MAP.MAP]⟩,
   ⟨R.FWD_XB_WEIGHT, [FWD_XB_WEIGHT.W]⟩,
   ⟨R.FWD_MPLS_CFG, [FWD_MPLS_CFG.BASE]⟩,
   ⟨R.FWD_STAT, [FWD_STAT.PLANE_DRAIN, FWD_STAT.PINNED]⟩,
   ⟨R.FWD_VER_STAT, [FWD_VER_STAT.HELD, FWD_VER_STAT.VER_FULL]⟩,
   ⟨R.FWD_BAD_ENTRY, [FWD_BAD_ENTRY.TABLE_ID, FWD_BAD_ENTRY.INDEX]⟩,
   ⟨R.FWD_BAD_ENTRY_CNT, [FWD_BAD_ENTRY_CNT.COUNT]⟩,
   ⟨R.FWD_EVT_STAT, [FWD_EVT_STAT.BAD_ENTRY, FWD_EVT_STAT.VER_FULL, FWD_EVT_STAT.PIN_REFUSED, FWD_EVT_STAT.RT_FULL, FWD_EVT_STAT.PLANE_DRAIN_DONE, FWD_EVT_STAT.FAILOVER, FWD_EVT_STAT.LINK_FLUSH]⟩,
   ⟨R.FWD_EVT_MASK, [FWD_EVT_MASK.BAD_ENTRY, FWD_EVT_MASK.VER_FULL, FWD_EVT_MASK.PIN_REFUSED, FWD_EVT_MASK.RT_FULL, FWD_EVT_MASK.PLANE_DRAIN_DONE, FWD_EVT_MASK.FAILOVER, FWD_EVT_MASK.LINK_FLUSH]⟩,
   ⟨R.FWD_AGE_CFG, [FWD_AGE_CFG.AGE_LIMIT]⟩,
   ⟨R.FWD_EGR_CFG, [FWD_EGR_CFG.STRICT, FWD_EGR_CFG.LINK_HOLD]⟩,
   ⟨R.FWD_EGR_WEIGHT, [FWD_EGR_WEIGHT.W]⟩,
   ⟨R.FWD_EGR_STAT, [FWD_EGR_STAT.HOLD_STATE, FWD_EGR_STAT.HOLD_LEFT]⟩]
/-- The registers of the GRN block, in offset order. -/
def grnRows : List RegRow :=
  [⟨R.GRN_POOL_CFG, [GRN_POOL_CFG.SIZE, GRN_POOL_CFG.BUF, GRN_POOL_CFG.FALLBACK_EN]⟩,
   ⟨R.GRN_POOL_BASE, [GRN_POOL_BASE.BASE]⟩,
   ⟨R.GRN_POOL_STAT, [GRN_POOL_STAT.FREE, GRN_POOL_STAT.RETIRED]⟩,
   ⟨R.GRN_SILO_CFG, [GRN_SILO_CFG.RECALL_POOL, GRN_SILO_CFG.RECALL_AHEAD]⟩,
   ⟨R.GRN_SILO_STAT, [GRN_SILO_STAT.FREE_PAGES]⟩,
   ⟨R.GRN_GLEAN_CFG, [GRN_GLEAN_CFG.PERIOD, GRN_GLEAN_CFG.RECLAIM]⟩,
   ⟨R.GRN_GLEAN_STAT, [GRN_GLEAN_STAT.SWEEPS, GRN_GLEAN_STAT.LEAKS]⟩,
   ⟨R.GRN_GLEAN_LAST, [GRN_GLEAN_LAST.SILO, GRN_GLEAN_LAST.POOL, GRN_GLEAN_LAST.INDEX]⟩,
   ⟨R.GRN_EVT_STAT, [GRN_EVT_STAT.DOUBLE_FREE, GRN_EVT_STAT.NONOWNER_FREE, GRN_EVT_STAT.LEAK, GRN_EVT_STAT.EMPTY_RESULT, GRN_EVT_STAT.SILO_FULL, GRN_EVT_STAT.PAGE_CRC, GRN_EVT_STAT.RETIRED, GRN_EVT_STAT.SWEEP_DONE]⟩,
   ⟨R.GRN_EVT_MASK, [GRN_EVT_MASK.DOUBLE_FREE, GRN_EVT_MASK.NONOWNER_FREE, GRN_EVT_MASK.LEAK, GRN_EVT_MASK.EMPTY_RESULT, GRN_EVT_MASK.SILO_FULL, GRN_EVT_MASK.PAGE_CRC, GRN_EVT_MASK.RETIRED, GRN_EVT_MASK.SWEEP_DONE]⟩,
   ⟨R.GRN_IN_CFG, [GRN_IN_CFG.POOL, GRN_IN_CFG.LIMIT]⟩,
   ⟨R.GRN_IN_THR, [GRN_IN_THR.XOFF, GRN_IN_THR.XON]⟩,
   ⟨R.GRN_QCFG, [GRN_QCFG.MIN, GRN_QCFG.ALPHA]⟩,
   ⟨R.GRN_QSPILL, [GRN_QSPILL.SPILL, GRN_QSPILL.SPILL_US]⟩,
   ⟨R.GRN_QSILO, [GRN_QSILO.SILO_MAX]⟩]
/-- The registers of the ALM block, in offset order. -/
def almRows : List RegRow :=
  [⟨R.ALM_CAL_CFG, [ALM_CAL_CFG.ENABLE, ALM_CAL_CFG.BANK, ALM_CAL_CFG.PLAN_RATE]⟩,
   ⟨R.ALM_BANK_STAT, [ALM_BANK_STAT.WIN_0, ALM_BANK_STAT.WIN_1, ALM_BANK_STAT.ACTIVE_BANK, ALM_BANK_STAT.PENDING]⟩,
   ⟨R.ALM_SWITCH, [ALM_SWITCH.MODE]⟩,
   ⟨R.ALM_SWITCH_CYC, [ALM_SWITCH_CYC.CYCLE]⟩,
   ⟨R.ALM_CFG, [ALM_CFG.OFS_WARN]⟩,
   ⟨R.ALM_STAT, [ALM_STAT.SLEWING, ALM_STAT.OFS_OVER, ALM_STAT.SLOT]⟩,
   ⟨R.ALM_CYCLE_LO, [ALM_CYCLE_LO.CYCLE]⟩,
   ⟨R.ALM_CYCLE_HI, [ALM_CYCLE_HI.CYCLE]⟩,
   ⟨R.ALM_SLEW_LO, [ALM_SLEW_LO.R]⟩,
   ⟨R.ALM_SLEW_HI, [ALM_SLEW_HI.R]⟩,
   ⟨R.ALM_BAD_ENTRY, [ALM_BAD_ENTRY.INDEX, ALM_BAD_ENTRY.CAUSE]⟩,
   ⟨R.ALM_BAD_ENTRY_CNT, [ALM_BAD_ENTRY_CNT.COUNT]⟩,
   ⟨R.ALM_EVT_STAT, [ALM_EVT_STAT.SWITCHED, ALM_EVT_STAT.RATE_SHORT, ALM_EVT_STAT.OFFSET_WARN, ALM_EVT_STAT.MISSED, ALM_EVT_STAT.OVERRUN, ALM_EVT_STAT.LATE_LAND, ALM_EVT_STAT.BAD_ENTRY, ALM_EVT_STAT.REALIGNED]⟩,
   ⟨R.ALM_EVT_MASK, [ALM_EVT_MASK.SWITCHED, ALM_EVT_MASK.RATE_SHORT, ALM_EVT_MASK.OFFSET_WARN, ALM_EVT_MASK.MISSED, ALM_EVT_MASK.OVERRUN, ALM_EVT_MASK.LATE_LAND, ALM_EVT_MASK.BAD_ENTRY, ALM_EVT_MASK.REALIGNED]⟩,
   ⟨R.ALM_EVT_SRC, [ALM_EVT_SRC.SHEAF]⟩]
/-- The registers of the TBS block, in offset order. -/
def tbsRows : List RegRow :=
  [⟨R.TBS_DOM_CFG, [TBS_DOM_CFG.SOURCE, TBS_DOM_CFG.PARENT, TBS_DOM_CFG.OUT_SLEW, TBS_DOM_CFG.HOST_TIMEOUT]⟩,
   ⟨R.TBS_DOM_OFS_S, [TBS_DOM_OFS_S.OFS_S]⟩,
   ⟨R.TBS_DOM_OFS_NS, [TBS_DOM_OFS_NS.OFS_NS]⟩,
   ⟨R.TBS_DOM_STAT, [TBS_DOM_STAT.FREE_RUN, TBS_DOM_STAT.SLEWING, TBS_DOM_STAT.PENDING, TBS_DOM_STAT.FROZEN]⟩,
   ⟨R.TBS_DOM_INC_LO, [TBS_DOM_INC_LO.INC]⟩,
   ⟨R.TBS_DOM_INC_HI, [TBS_DOM_INC_HI.INC]⟩,
   ⟨R.TBS_SNAP_CTL, [TBS_SNAP_CTL.GO]⟩,
   ⟨R.TBS_SNAP_TICK_LO, [TBS_SNAP_TICK_LO.TICK]⟩,
   ⟨R.TBS_SNAP_TICK_HI, [TBS_SNAP_TICK_HI.TICK]⟩,
   ⟨R.TBS_SNAP_NS, [TBS_SNAP_NS.NS]⟩,
   ⟨R.TBS_SNAP_SLO, [TBS_SNAP_SLO.SLO]⟩,
   ⟨R.TBS_SNAP_SHI, [TBS_SNAP_SHI.SHI, TBS_SNAP_SHI.FRAC]⟩,
   ⟨R.TBS_RPT_PEND, [TBS_RPT_PEND.PEND]⟩,
   ⟨R.TBS_EVT_STAT, [TBS_EVT_STAT.FREE_RUN, TBS_EVT_STAT.STEP, TBS_EVT_STAT.TRIG_LATE, TBS_EVT_STAT.TRIG_SKIP, TBS_EVT_STAT.RPT_LOST, TBS_EVT_STAT.REPORT]⟩,
   ⟨R.TBS_EVT_MASK, [TBS_EVT_MASK.FREE_RUN, TBS_EVT_MASK.STEP, TBS_EVT_MASK.TRIG_LATE, TBS_EVT_MASK.TRIG_SKIP, TBS_EVT_MASK.RPT_LOST, TBS_EVT_MASK.REPORT]⟩,
   ⟨R.TBS_TE_CFG, [TBS_TE_CFG.TE_LIMIT, TBS_TE_CFG.MAX_STEPS]⟩,
   ⟨R.TBS_TE_STAT, [TBS_TE_STAT.TE_EST]⟩,
   ⟨R.TBS_TRIG_CFG, [TBS_TRIG_CFG.ENABLE, TBS_TRIG_CFG.SCALE, TBS_TRIG_CFG.INVERT, TBS_TRIG_CFG.ADJ]⟩,
   ⟨R.TBS_TRIG_START_NS, [TBS_TRIG_START_NS.NS]⟩,
   ⟨R.TBS_TRIG_START_SLO, [TBS_TRIG_START_SLO.SLO]⟩,
   ⟨R.TBS_TRIG_START_SHI, [TBS_TRIG_START_SHI.SHI, TBS_TRIG_START_SHI.FRAC]⟩,
   ⟨R.TBS_TRIG_PERIOD_LO, [TBS_TRIG_PERIOD_LO.PERIOD]⟩,
   ⟨R.TBS_TRIG_PERIOD_HI, [TBS_TRIG_PERIOD_HI.PERIOD]⟩,
   ⟨R.TBS_TRIG_WIDTH, [TBS_TRIG_WIDTH.WIDTH]⟩,
   ⟨R.TBS_TRIG_COUNT, [TBS_TRIG_COUNT.COUNT]⟩,
   ⟨R.TBS_TRIG_STAT, [TBS_TRIG_STAT.ISSUED]⟩,
   ⟨R.TBS_TRIG_SKIP, [TBS_TRIG_SKIP.SKIPPED]⟩,
   ⟨R.TBS_PORT_CFG, [TBS_PORT_CFG.RPT_DOMAIN, TBS_PORT_CFG.RX_RPT_MASK, TBS_PORT_CFG.TX_RPT_MASK, TBS_PORT_CFG.TC_EN, TBS_PORT_CFG.TC_DOMAIN, TBS_PORT_CFG.PDELAY_TURN]⟩,
   ⟨R.TBS_PORT_ADJ, [TBS_PORT_ADJ.RX_ADJ, TBS_PORT_ADJ.TX_ADJ]⟩,
   ⟨R.TBS_RPT_PROD, [TBS_RPT_PROD.INDEX]⟩,
   ⟨R.TBS_RPT_CONS, [TBS_RPT_CONS.INDEX]⟩,
   ⟨R.TBS_RPT_STAT, [TBS_RPT_STAT.BOUND, TBS_RPT_STAT.LOST_PENDING]⟩]
/-- The registers of the REF block, in offset order. -/
def refRows : List RegRow :=
  [⟨R.REF_IN_CFG, [REF_IN_CFG.KIND, REF_IN_CFG.EDGE, REF_IN_CFG.TERM, REF_IN_CFG.TRACEABLE, REF_IN_CFG.TOD_SRC, REF_IN_CFG.CLASS]⟩,
   ⟨R.REF_IN_DELAY, [REF_IN_DELAY.DELAY]⟩,
   ⟨R.REF_SRC_CFG, [REF_SRC_CFG.RANK, REF_SRC_CFG.QUAL_S, REF_SRC_CFG.REQUAL_S]⟩,
   ⟨R.REF_TOL_CFG, [REF_TOL_CFG.PHASE_TOL, REF_TOL_CFG.DRIFT_THR]⟩,
   ⟨R.REF_TOL2_CFG, [REF_TOL2_CFG.FREQ_TOL, REF_TOL2_CFG.DRIFT_WIN]⟩,
   ⟨R.REF_SRC_STAT, [REF_SRC_STAT.QSTATE, REF_SRC_STAT.CAUSE]⟩,
   ⟨R.REF_SRC_DEP, [REF_SRC_DEP.DEP, REF_SRC_DEP.NU]⟩,
   ⟨R.REF_SEL_CFG, [REF_SEL_CFG.REVERTIVE]⟩,
   ⟨R.REF_LOOP_CFG, [REF_LOOP_CFG.MODE, REF_LOOP_CFG.BW, REF_LOOP_CFG.FSLEW, REF_LOOP_CFG.SW_TIMEOUT]⟩,
   ⟨R.REF_SLEW_CFG, [REF_SLEW_CFG.RATE]⟩,
   ⟨R.REF_HO_CFG, [REF_HO_CFG.LEARN_H, REF_HO_CFG.HO_SPEC, REF_HO_CFG.FA_PPB]⟩,
   ⟨R.REF_CLASS_CFG, [REF_CLASS_CFG.HO_GM, REF_CLASS_CFG.HO_BC, REF_CLASS_CFG.HO_OUT, REF_CLASS_CFG.FREERUN]⟩,
   ⟨R.REF_TOD_CFG, [REF_TOD_CFG.BAUD, REF_TOD_CFG.TOD_EDGE, REF_TOD_CFG.UTC_OFS]⟩,
   ⟨R.REF_PTP_CFG, [REF_PTP_CFG.DOMAIN]⟩,
   ⟨R.REF_PTP_STAT, [REF_PTP_STAT.HOST_OK, REF_PTP_STAT.TRACEABLE, REF_PTP_STAT.CLASS]⟩,
   ⟨R.REF_PPSO_CFG, [REF_PPSO_CFG.ENABLE, REF_PPSO_CFG.DOMAIN, REF_PPSO_CFG.WIDTH]⟩,
   ⟨R.REF_PPSO_ADJ, [REF_PPSO_ADJ.ADJ]⟩,
   ⟨R.REF_STAT, [REF_STAT.STATE, REF_STAT.MODEL_VALID, REF_STAT.IN_SPEC, REF_STAT.SELECTED, REF_STAT.FORCED, REF_STAT.LEARN_HOURS]⟩,
   ⟨R.REF_FREQ_WORD, [REF_FREQ_WORD.WORD]⟩,
   ⟨R.REF_PE_CNT, [REF_PE_CNT.COUNT, REF_PE_CNT.PE_DROPPED]⟩,
   ⟨R.REF_PE_LO, [REF_PE_LO.PE_L]⟩,
   ⟨R.REF_PE_HI, [REF_PE_HI.PE_H, REF_PE_HI.REF, REF_PE_HI.FRESH, REF_PE_HI.SEQ]⟩,
   ⟨R.REF_HO_STAT, [REF_HO_STAT.U_F, REF_HO_STAT.U_A]⟩,
   ⟨R.REF_HO_EST, [REF_HO_EST.H]⟩,
   ⟨R.REF_EVT_STAT, [REF_EVT_STAT.SWITCH, REF_EVT_STAT.REF_LOSS, REF_EVT_STAT.DISQUAL, REF_EVT_STAT.HOLDOVER, REF_EVT_STAT.OUT_OF_SPEC, REF_EVT_STAT.FREERUN, REF_EVT_STAT.DISAGREE, REF_EVT_STAT.TOD_ERR, REF_EVT_STAT.SW_STALE, REF_EVT_STAT.PE_OVERFLOW, REF_EVT_STAT.MODEL_VALID, REF_EVT_STAT.PPSO_SKIP]⟩,
   ⟨R.REF_EVT_MASK, [REF_EVT_MASK.SWITCH, REF_EVT_MASK.REF_LOSS, REF_EVT_MASK.DISQUAL, REF_EVT_MASK.HOLDOVER, REF_EVT_MASK.OUT_OF_SPEC, REF_EVT_MASK.FREERUN, REF_EVT_MASK.DISAGREE, REF_EVT_MASK.TOD_ERR, REF_EVT_MASK.SW_STALE, REF_EVT_MASK.PE_OVERFLOW, REF_EVT_MASK.MODEL_VALID, REF_EVT_MASK.PPSO_SKIP]⟩]
/-- The registers of the SYN block, in offset order. -/
def synRows : List RegRow :=
  [⟨R.SYN_CKO_CFG, [SYN_CKO_CFG.ENABLE, SYN_CKO_CFG.OPT, SYN_CKO_CFG.ALIGN, SYN_CKO_CFG.DOMAIN]⟩,
   ⟨R.SYN_CKO_DIV, [SYN_CKO_DIV.DIV_M1]⟩,
   ⟨R.SYN_CKO_DLY, [SYN_CKO_DLY.COARSE, SYN_CKO_DLY.FINE]⟩,
   ⟨R.SYN_CKO_STAT, [SYN_CKO_STAT.RUNNING, SYN_CKO_STAT.SWITCHING]⟩,
   ⟨R.SYN_RAMP_RATE, [SYN_RAMP_RATE.RATE]⟩,
   ⟨R.SYN_RAMP_DUR, [SYN_RAMP_DUR.DURATION]⟩,
   ⟨R.SYN_RAMP_CFG, [SYN_RAMP_CFG.COUNT, SYN_RAMP_CFG.END]⟩,
   ⟨R.SYN_RAMP_STAT, [SYN_RAMP_STAT.RUNNING, SYN_RAMP_STAT.RETURNING, SYN_RAMP_STAT.SEGMENT]⟩,
   ⟨R.SYN_RAMP_Z, [SYN_RAMP_Z.Z]⟩,
   ⟨R.SYN_STAT_STEER, [SYN_STAT_STEER.STEER]⟩,
   ⟨R.SYN_STAT, [SYN_STAT.CLAMPED]⟩,
   ⟨R.SYN_EVT_STAT, [SYN_EVT_STAT.LOCK_LOST, SYN_EVT_STAT.CLAMP, SYN_EVT_STAT.RAMP_ABORT, SYN_EVT_STAT.RAMP_DONE, SYN_EVT_STAT.STEP_APPLIED, SYN_EVT_STAT.OUT_SWITCH]⟩,
   ⟨R.SYN_EVT_MASK, [SYN_EVT_MASK.LOCK_LOST, SYN_EVT_MASK.CLAMP, SYN_EVT_MASK.RAMP_ABORT, SYN_EVT_MASK.RAMP_DONE, SYN_EVT_MASK.STEP_APPLIED, SYN_EVT_MASK.OUT_SWITCH]⟩]
/-- The registers of the TDC block, in offset order. -/
def tdcRows : List RegRow :=
  [⟨R.TDC_CH_CFG, [TDC_CH_CFG.SOURCE, TDC_CH_CFG.SLOPE, TDC_CH_CFG.HYST, TDC_CH_CFG.TERM, TDC_CH_CFG.THRESH]⟩,
   ⟨R.TDC_CH_HOLDOFF, [TDC_CH_HOLDOFF.HOLDOFF]⟩,
   ⟨R.TDC_CFG, [TDC_CFG.STOP_N, TDC_CFG.STOP_ARM, TDC_CFG.TS_DOMAIN]⟩,
   ⟨R.TDC_TIMING, [TDC_TIMING.TIMEOUT_MS, TDC_TIMING.REARM_US]⟩,
   ⟨R.TDC_MARK_CFG, [TDC_MARK_CFG.DOMAIN]⟩,
   ⟨R.TDC_MARK_NS, [TDC_MARK_NS.NS]⟩,
   ⟨R.TDC_MARK_SLO, [TDC_MARK_SLO.SLO]⟩,
   ⟨R.TDC_MARK_SHI, [TDC_MARK_SHI.SHI, TDC_MARK_SHI.FRAC]⟩,
   ⟨R.TDC_MARK_PERIOD_LO, [TDC_MARK_PERIOD_LO.PERIOD]⟩,
   ⟨R.TDC_MARK_PERIOD_HI, [TDC_MARK_PERIOD_HI.PERIOD]⟩,
   ⟨R.TDC_BIN_SEL, [TDC_BIN_SEL.INDEX]⟩,
   ⟨R.TDC_BIN_DATA, [TDC_BIN_DATA.POS]⟩,
   ⟨R.TDC_BIN_TEMP, [TDC_BIN_TEMP.TEMP]⟩,
   ⟨R.TDC_STAT, [TDC_STAT.STATE, TDC_STAT.RUN, TDC_STAT.FIFO_WAIT, TDC_STAT.FIFO_CNT]⟩,
   ⟨R.TDC_EVT_STAT, [TDC_EVT_STAT.RUN_DONE, TDC_EVT_STAT.TIMEOUT, TDC_EVT_STAT.UNRESOLVED, TDC_EVT_STAT.FIFO_FULL, TDC_EVT_STAT.BIN_CAL_DONE, TDC_EVT_STAT.INT_FAULT, TDC_EVT_STAT.ABORTED]⟩,
   ⟨R.TDC_EVT_MASK, [TDC_EVT_MASK.RUN_DONE, TDC_EVT_MASK.TIMEOUT, TDC_EVT_MASK.UNRESOLVED, TDC_EVT_MASK.FIFO_FULL, TDC_EVT_MASK.BIN_CAL_DONE, TDC_EVT_MASK.INT_FAULT, TDC_EVT_MASK.ABORTED]⟩,
   ⟨R.TDC_RES, [TDC_RES.WORD]⟩,
   ⟨R.TDC_CNT, [TDC_CNT.COUNT]⟩]
/-- The registers of the CAL block, in offset order. -/
def calRows : List RegRow :=
  [⟨R.CAL_CFG, [CAL_CFG.AUTO, CAL_CFG.CALIN_KIND, CAL_CFG.CALIN_TERM, CAL_CFG.RAMP]⟩,
   ⟨R.CAL_TEMP_STEP, [CAL_TEMP_STEP.STEP]⟩,
   ⟨R.CAL_LAST_TEMP, [CAL_LAST_TEMP.TEMP]⟩,
   ⟨R.CAL_STAT, [CAL_STAT.RUNNING, CAL_STAT.PHASE, CAL_STAT.STALE_CNT]⟩,
   ⟨R.CAL_PATH_SEL, [CAL_PATH_SEL.INDEX]⟩,
   ⟨R.CAL_PATH_BASE, [CAL_PATH_BASE.BASE]⟩,
   ⟨R.CAL_PATH_TRIM, [CAL_PATH_TRIM.TRIM, CAL_PATH_TRIM.TARGET, CAL_PATH_TRIM.STALE, CAL_PATH_TRIM.RANGE, CAL_PATH_TRIM.RAMPING]⟩,
   ⟨R.CAL_TRACE_CORR, [CAL_TRACE_CORR.CORR]⟩,
   ⟨R.CAL_OCXO_CFG, [CAL_OCXO_CFG.AUTO, CAL_OCXO_CFG.W_THR, CAL_OCXO_CFG.RATE]⟩,
   ⟨R.CAL_OCXO_TRIM, [CAL_OCXO_TRIM.CODE, CAL_OCXO_TRIM.TARGET]⟩,
   ⟨R.CAL_EVT_STAT, [CAL_EVT_STAT.RUN_DONE, CAL_EVT_STAT.RUN_ABORT, CAL_EVT_STAT.STALE, CAL_EVT_STAT.RANGE, CAL_EVT_STAT.LASTING, CAL_EVT_STAT.OCXO_LIMIT, CAL_EVT_STAT.TRACE_DONE, CAL_EVT_STAT.FREQ_DONE]⟩,
   ⟨R.CAL_EVT_MASK, [CAL_EVT_MASK.RUN_DONE, CAL_EVT_MASK.RUN_ABORT, CAL_EVT_MASK.STALE, CAL_EVT_MASK.RANGE, CAL_EVT_MASK.LASTING, CAL_EVT_MASK.OCXO_LIMIT, CAL_EVT_MASK.TRACE_DONE, CAL_EVT_MASK.FREQ_DONE]⟩]
/-- The registers of the EVT block, in offset order. -/
def evtRows : List RegRow :=
  [⟨R.EVT_FAULT_ACT, [EVT_FAULT_ACT.ACT0, EVT_FAULT_ACT.ACT1, EVT_FAULT_ACT.ACT2, EVT_FAULT_ACT.ACT3, EVT_FAULT_ACT.ACT4, EVT_FAULT_ACT.ACT5, EVT_FAULT_ACT.ACT6, EVT_FAULT_ACT.ACT7, EVT_FAULT_ACT.ACT8, EVT_FAULT_ACT.ACT9, EVT_FAULT_ACT.ACT10]⟩,
   ⟨R.EVT_LAST_FAULT, [EVT_LAST_FAULT.CLASS, EVT_LAST_FAULT.UNREPAIRED, EVT_LAST_FAULT.DETAIL]⟩,
   ⟨R.EVT_SPARE_STAT, [EVT_SPARE_STAT.ROWS_USED, EVT_SPARE_STAT.UNITS_USED, EVT_SPARE_STAT.BANKS_FULL]⟩,
   ⟨R.EVT_CNT, [EVT_CNT.ARITH_DROP]⟩,
   ⟨R.EVT_RESERVED_OFS, [EVT_RESERVED_OFS.OFFSET, EVT_RESERVED_OFS.SMBUS]⟩,
   ⟨R.EVT_D2D_CTL, [EVT_D2D_CTL.RESET]⟩,
   ⟨R.EVT_D2D_STAT, [EVT_D2D_STAT.FROZEN, EVT_D2D_STAT.STEP_MAX]⟩,
   ⟨R.EVT_LOG_CFG, [EVT_LOG_CFG.MIN_PREC]⟩,
   ⟨R.EVT_LOG_STAT, [EVT_LOG_STAT.COUNT, EVT_LOG_STAT.LOST_PENDING]⟩,
   ⟨R.EVT_LOG, [EVT_LOG.WORD]⟩,
   ⟨R.EVT_SUM, [EVT_SUM.SUM]⟩,
   ⟨R.EVT_VEC_MAP_0, [EVT_VEC_MAP_0.M0, EVT_VEC_MAP_0.M1, EVT_VEC_MAP_0.M2, EVT_VEC_MAP_0.M3, EVT_VEC_MAP_0.M4, EVT_VEC_MAP_0.M5, EVT_VEC_MAP_0.M6, EVT_VEC_MAP_0.M7]⟩,
   ⟨R.EVT_VEC_MAP_1, [EVT_VEC_MAP_1.M8, EVT_VEC_MAP_1.M9, EVT_VEC_MAP_1.M10, EVT_VEC_MAP_1.M11, EVT_VEC_MAP_1.M12, EVT_VEC_MAP_1.M13, EVT_VEC_MAP_1.M14]⟩,
   ⟨R.EVT_REARM, [EVT_REARM.VEC]⟩,
   ⟨R.EVT_STAT, [EVT_STAT.TRANSIENT, EVT_STAT.LASTING, EVT_STAT.RESERVED_ENC, EVT_STAT.COUNTERS_LOST, EVT_STAT.LOG_LOST, EVT_STAT.D2D_RELOADED, EVT_STAT.HALF_RANGE]⟩,
   ⟨R.EVT_MASK, [EVT_MASK.TRANSIENT, EVT_MASK.LASTING, EVT_MASK.RESERVED_ENC, EVT_MASK.COUNTERS_LOST, EVT_MASK.LOG_LOST, EVT_MASK.D2D_RELOADED, EVT_MASK.HALF_RANGE]⟩]
/-- The registers of the TWN block, in offset order. -/
def twnRows : List RegRow :=
  [⟨R.TWN_CFG, [TWN_CFG.ENABLE, TWN_CFG.UNIT, TWN_CFG.PREF_UNIT, TWN_CFG.REVERTIVE, TWN_CFG.DEGRADE_SWITCH, TWN_CFG.WTR_S]⟩,
   ⟨R.TWN_TIMING, [TWN_TIMING.SEQ_AHEAD_US, TWN_TIMING.DEGRADE_HOLD_MS, TWN_TIMING.PAIR_WAIT_MS]⟩,
   ⟨R.TWN_TOL, [TWN_TOL.TIME_TOL, TWN_TOL.FWD_TOL]⟩,
   ⟨R.TWN_PATH_ADJ, [TWN_PATH_ADJ.ADJ]⟩,
   ⟨R.TWN_MIRROR_ASYM, [TWN_MIRROR_ASYM.ASYM]⟩,
   ⟨R.TWN_STAT, [TWN_STAT.ROLE, TWN_STAT.PARTNER, TWN_STAT.PARTNER_ROLE, TWN_STAT.STATE, TWN_STAT.LANES_UP, TWN_STAT.READY, TWN_STAT.SWITCHING, TWN_STAT.WTR_LEFT]⟩,
   ⟨R.TWN_HEALTH, [TWN_HEALTH.OWN, TWN_HEALTH.PARTNER]⟩,
   ⟨R.TWN_TIME_DIFF, [TWN_TIME_DIFF.DIFF]⟩,
   ⟨R.TWN_TXN_STAT, [TWN_TXN_STAT.TXN_LAST]⟩,
   ⟨R.TWN_MIRROR_STAT, [TWN_MIRROR_STAT.BACKLOG, TWN_MIRROR_STAT.PENDING]⟩,
   ⟨R.TWN_EVT_STAT, [TWN_EVT_STAT.TAKEOVER, TWN_EVT_STAT.RELINQUISH, TWN_EVT_STAT.PARTNER_LOST, TWN_EVT_STAT.PARTNER_FOUND, TWN_EVT_STAT.DUAL_LEAD, TWN_EVT_STAT.LANE_DOWN, TWN_EVT_STAT.NOT_READY, TWN_EVT_STAT.PARTNER_NOT_READY, TWN_EVT_STAT.RESYNC_DONE, TWN_EVT_STAT.REVERT, TWN_EVT_STAT.NO_STANDBY, TWN_EVT_STAT.LATE_APPLY, TWN_EVT_STAT.PAIR_MISMATCH]⟩,
   ⟨R.TWN_EVT_MASK, [TWN_EVT_MASK.TAKEOVER, TWN_EVT_MASK.RELINQUISH, TWN_EVT_MASK.PARTNER_LOST, TWN_EVT_MASK.PARTNER_FOUND, TWN_EVT_MASK.DUAL_LEAD, TWN_EVT_MASK.LANE_DOWN, TWN_EVT_MASK.NOT_READY, TWN_EVT_MASK.PARTNER_NOT_READY, TWN_EVT_MASK.RESYNC_DONE, TWN_EVT_MASK.REVERT, TWN_EVT_MASK.NO_STANDBY, TWN_EVT_MASK.LATE_APPLY, TWN_EVT_MASK.PAIR_MISMATCH]⟩]
/-- The registers of the PWR block, in offset order. -/
def pwrRows : List RegRow :=
  [⟨R.PWR_IDENT, [PWR_IDENT.PART, PWR_IDENT.STEPPING, PWR_IDENT.FAMILY]⟩,
   ⟨R.PWR_SERIAL_0, [PWR_SERIAL_0.SERIAL]⟩,
   ⟨R.PWR_SERIAL_1, [PWR_SERIAL_1.SERIAL]⟩,
   ⟨R.PWR_SERIAL_2, [PWR_SERIAL_2.SERIAL]⟩,
   ⟨R.PWR_MODE_CTL, [PWR_MODE_CTL.REQ_MODE, PWR_MODE_CTL.OCXO_HOLD_WARM, PWR_MODE_CTL.CUR_MODE, PWR_MODE_CTL.IN_TRANSITION]⟩,
   ⟨R.PWR_MODE_STAT, [PWR_MODE_STAT.LAST_FROM, PWR_MODE_STAT.LAST_TO, PWR_MODE_STAT.REFUSED, PWR_MODE_STAT.HBM_RETAINED, PWR_MODE_STAT.ISO_CAUSE, PWR_MODE_STAT.CAL_PENDING]⟩,
   ⟨R.PWR_FEED_STAT, [PWR_FEED_STAT.A_OK, PWR_FEED_STAT.B_OK, PWR_FEED_STAT.A_CONDUCTING, PWR_FEED_STAT.B_CONDUCTING, PWR_FEED_STAT.A_OVER, PWR_FEED_STAT.B_OVER, PWR_FEED_STAT.A_REVERSED, PWR_FEED_STAT.B_REVERSED, PWR_FEED_STAT.RIDE_THROUGH]⟩,
   ⟨R.PWR_FEED_MON_0, [PWR_FEED_MON_0.VOLT, PWR_FEED_MON_0.CURR]⟩,
   ⟨R.PWR_FEED_MON_1, [PWR_FEED_MON_1.VOLT, PWR_FEED_MON_1.CURR]⟩,
   ⟨R.PWR_RAIL_STAT, [PWR_RAIL_STAT.RAIL_OK, PWR_RAIL_STAT.RAIL_REQ]⟩,
   ⟨R.PWR_EVT_STAT, [PWR_EVT_STAT.A_LOST, PWR_EVT_STAT.B_LOST, PWR_EVT_STAT.A_RESTORED, PWR_EVT_STAT.B_RESTORED, PWR_EVT_STAT.RIDE_THROUGH, PWR_EVT_STAT.POWER_FAULT, PWR_EVT_STAT.RAIL_FAULT, PWR_EVT_STAT.TEMP_WARN, PWR_EVT_STAT.TEMP_CRIT, PWR_EVT_STAT.SMB_ERROR]⟩,
   ⟨R.PWR_ALERT_MASK, [PWR_ALERT_MASK.A_LOST, PWR_ALERT_MASK.B_LOST, PWR_ALERT_MASK.A_RESTORED, PWR_ALERT_MASK.B_RESTORED, PWR_ALERT_MASK.RIDE_THROUGH, PWR_ALERT_MASK.POWER_FAULT, PWR_ALERT_MASK.RAIL_FAULT, PWR_ALERT_MASK.TEMP_WARN, PWR_ALERT_MASK.TEMP_CRIT, PWR_ALERT_MASK.SMB_ERROR]⟩,
   ⟨R.PWR_TEMP, [PWR_TEMP.CASE, PWR_TEMP.DIE_MAX]⟩,
   ⟨R.PWR_TEMP_THR, [PWR_TEMP_THR.WARN, PWR_TEMP_THR.CRIT]⟩,
   ⟨R.PWR_SMB_CFG, [PWR_SMB_CFG.PEC_REQ]⟩,
   ⟨R.PWR_SMB_STAT, [PWR_SMB_STAT.ADDR, PWR_SMB_STAT.PEC_ERR_CNT, PWR_SMB_STAT.BAD_OFFSET_CNT, PWR_SMB_STAT.BAD_COUNT_CNT]⟩,
   ⟨R.PWR_CLK_STAT, [PWR_CLK_STAT.OCXO_HEATING, PWR_CLK_STAT.OCXO_WARM, PWR_CLK_STAT.MDLL_LOCK, PWR_CLK_STAT.TCLK_RUN, PWR_CLK_STAT.TICK_RUN, PWR_CLK_STAT.CORE_RUN, PWR_CLK_STAT.SDREF_RUN]⟩,
   ⟨R.PWR_OCXO_STAT, [PWR_OCXO_STAT.WARM_ELAPSED, PWR_OCXO_STAT.OVEN_ERR]⟩,
   ⟨R.PWR_RESET_CAUSE, [PWR_RESET_CAUSE.POR, PWR_RESET_CAUSE.PIN, PWR_RESET_CAUSE.SW_MODULE, PWR_RESET_CAUSE.SW_SWITCH, PWR_RESET_CAUSE.GRANGE_WDT, PWR_RESET_CAUSE.PERST]⟩,
   ⟨R.PWR_RESET_CTL, [PWR_RESET_CTL.KEY, PWR_RESET_CTL.MODULE, PWR_RESET_CTL.SWITCH]⟩,
   ⟨R.PWR_BOOT_STAT, [PWR_BOOT_STAT.STATE, PWR_BOOT_STAT.SLOT, PWR_BOOT_STAT.FALLBACK, PWR_BOOT_STAT.FAIL_CODE, PWR_BOOT_STAT.RELEASE]⟩,
   ⟨R.EVT_LASTING, [EVT_LASTING.CLASS]⟩,
   ⟨R.EVT_FCNT, [EVT_FCNT.CORRECTED, EVT_FCNT.TRANSIENT, EVT_FCNT.LASTING]⟩]
/-- The registers of the DT block, in offset order. -/
def dtRows : List RegRow :=
  [⟨R.MBX_DT_NOTIFY, [MBX_DT_NOTIFY.FIRST, MBX_DT_NOTIFY.COUNT]⟩,
   ⟨R.MBX_DT_SEQ, [MBX_DT_SEQ.COUNT]⟩,
   ⟨R.MBX_DT_DONE, [MBX_DT_DONE.COUNT]⟩,
   ⟨R.MBX_DT_BIND, [MBX_DT_BIND.ENTRY_COUNT]⟩,
   ⟨R.MBX_DT_STAT, [MBX_DT_STAT.ZERO_CNT, MBX_DT_STAT.RANGE_CNT, MBX_DT_STAT.SAME_GEN_CNT, MBX_DT_STAT.OVERFLOW_CNT, MBX_DT_STAT.FETCH_FAIL]⟩]

/-- The rows of the block at BAR0 offset `0x0100_0000 + b × 0x0010_0000` (R490, R491); `0x0E` stands for BAR2. -/
def blockRows : Nat → List RegRow
  | 0x0 => mbxRows | 0x1 => prtRows | 0x2 => shfRows | 0x3 => fwdRows | 0x4 => grnRows | 0x5 => almRows
  | 0x6 => tbsRows | 0x7 => refRows | 0x8 => synRows | 0x9 => tdcRows | 0xA => calRows | 0xB => evtRows
  | 0xC => twnRows | 0xD => pwrRows | 0xE => dtRows | _ => []

/-- Block number of an offset: 0x00-0x0D in BAR0 (R490), 0x0E for the BAR2 windows (R494), 0xFF elsewhere. -/
def blockOf (a : Nat) : Nat :=
  if 0x100000000 ≤ a ∧ a < 0x100100000 then 0xE
  else if 0x01000000 ≤ a ∧ a < 0x01E00000 then (a - 0x01000000) / 0x100000 else 0xFF

/-- Offset of instance `i` of a register. -/
def Reg.at (r : Reg) (i : Nat) : Nat := r.base + r.stride * i

/-- The instance of `r` at offset `a`, if `a` is one. -/
def Reg.inst? (r : Reg) (a : Nat) : Option Nat :=
  if a < r.base then none
  else
    let i := (a - r.base) / r.stride
    if (a - r.base) % r.stride = 0 ∧ i < r.count then some i else none

def findRow : List RegRow → Nat → Option (RegRow × Nat)
  | [], _ => none
  | row :: rest, a => match row.reg.inst? a with
    | some i => some (row, i)
    | none => findRow rest a

/-- The descriptor tables of R495, by TABLE_ID. -/
def tableIds : List Nat := [0x30, 0x31, 0x32, 0x33, 0x34, 0x35, 0x36, 0x50]

/-- The register at an offset, with its instance number. A BAR2 window of an unlisted TABLE_ID is unassigned (R494). -/
def regAt (a : Nat) : Option (RegRow × Nat) :=
  match findRow (blockRows (blockOf a)) a with
  | some (row, i) => if blockOf a = 0xE ∧ i ∉ tableIds then none else some (row, i)
  | none => none

/-- Reset value of instance `i` (R499-R512), with the rows whose instances differ. -/
def Reg.reset (r : Reg) (i : Nat) : Nat :=
  if r.base = R.GRN_POOL_CFG.base ∧ i = 0 then 0x008A0000
  else if r.base = R.GRN_POOL_STAT.base ∧ i = 0 then 0x000A0000
  else if r.base = R.GRN_QSILO.base ∧ i % 2 = 1 then 0
  else if r.base = R.TBS_DOM_CFG.base ∧ i = 0 then 0x23
  else if r.base = R.TDC_CH_CFG.base ∧ i = 1 then 0x000DB641
  else r.rst

/-- A register with an RWC field has a shadow copy and a committed copy (R10, R114). -/
def RegRow.isRwc (row : RegRow) : Bool := row.flds.any (fun f => f.acc = .rwc)

/-- An encoding of a field that is not reserved. -/
def Fld.legal (f : Fld) (v : Nat) : Bool := f.ok.isEmpty || f.ok.any (fun r => r.1 ≤ v && v ≤ r.2)

/-- The field's value in a register word. -/
def Fld.get (f : Fld) (x : Word) : Nat := x.toNat / 2 ^ f.lo % 2 ^ f.w

/-- The register word with the field replaced. -/
def Fld.put (f : Fld) (x : Word) (v : Nat) : Word :=
  BitVec.ofNat 32 (x.toNat - f.get x * 2 ^ f.lo + v % 2 ^ f.w * 2 ^ f.lo)

end Sys2Proof.Machine
end

