-- ==== Sys2Proof/Machine/State.lean ====
section
/-! DEFINITION. Sys2Proof/Machine/State.lean: the state of the block as plain data (everything chapters 0-18 give the
module, its queue of waiting commands, and the model's own bookkeeping), the faults, the refusals and the state after
reset. -/
namespace Sys2Proof.Machine

/-- Why a step stops with a fault. -/
inductive Fault where
  /-- Raised by a meaning whose operand cannot exist on the hardware (a data grain, a timing grain or a mirror message
  that is not 256 bytes, a fetched table entry that is not 64 bytes). Safe: no real sender can send it. -/
  | malformedOperand
  deriving DecidableEq, Repr

/-- Why a step is refused. -/
inductive Refusal where
  /-- Raised by a dispatch arm of a command that has no meaning yet. Safe: the model says nothing about it. -/
  | notModelled (mnemonic : String)
  deriving DecidableEq, Repr

/-- A map from numbers in one canonical form: keys strictly rising, and no entry that equals what an unlisted key
reads as (the model's own representation of a register file, a counter array or an array of objects). -/
abbrev SMap (α : Type) := List (Nat × α)

/-! ### Power, pins, modes, clocks and boot (chapters 2 and 3) -/

/-- The always-on rail's start (R45, R523): unpowered, charging the input capacitance, rail starting, out of reset. -/
inductive AlwaysOn where
  | off | charging | starting | up
  deriving DecidableEq, Repr, Inhabited

/-- One feed as its monitor judges it (R37, R69); `volt` is the voltage at the lands in 10 mV units; `charging` says
that its input capacitance is still charging (R41); `lost` that it has been lost since power-up. -/
structure Feed where
  connected : Bool := false
  overV : Bool := false
  reversed : Bool := false
  volt : Nat := 0
  charging : Bool := false
  lost : Bool := false
  deriving DecidableEq, Repr, Inhabited

/-- An event whose occasion a switch reset of its tick has cleared (R450): of a port its end of DOWN_DEB, a cleared fault,
its end of UP_DEB, its second attempt's end or its window of FEC counts; of a carrier its silence or its second attempt's end;
of a Sheaf a lost grain or the end of SYNC; of an egress the flush of its elastic queues; the end of a plane drain. -/
inductive CutEv where
  | portDown (p : Nat)
  | portGlitch (p : Nat)
  | portUp (p : Nat)
  | portFail (p : Nat)
  | portFec (p : Nat)
  | carDown (c : Nat)
  | carFail (c : Nat)
  | grainLost (h : Nat)
  | resync (h : Nat)
  | linkFlush (e : Nat)
  | planeDrain
  deriving DecidableEq, Repr

/-- Power stage and mode controller beside their registers (R37-R82). -/
structure Pwr where
  aon : AlwaysOn := .up
  feedA : Feed := {}
  feedB : Feed := {}
  /-- earliest end of ride-through (R40), in ticks of model time -/
  rideEnd : Nat := 0
  /-- rails whose ramp has not completed, with the tick of its start (R46) -/
  ramp : SMap Nat := []
  /-- the next rise of the case estimate raises TEMP_WARN, TEMP_CRIT (R52, R53) -/
  warnArmed : Bool := true
  critArmed : Bool := true
  /-- target of the transition in progress (R73) -/
  trans : Option (Fin 6) := none
  /-- cause that ISO_CAUSE takes when CUR_MODE shows ISOLATE (R76) -/
  isoCause : Nat := 0
  /-- ticks of the last power fault (R47), of the last fault or temperature trigger for ISOLATE, of the last module reset,
  and of the last start of an automatic calibration (R76) -/
  faultAt : Option Nat := none
  isoAt : Option Nat := none
  resetAt : Option Nat := none
  calAt : Option Nat := none
  /-- rails of the old mode still to be switched off (R515) -/
  oldRails : Nat := 0
  heaterOn : Option Nat := none
  /-- start of the 60 s that OCXO_WARM waits for (R84); tick at which a command last gave OVEN_ERR (R94) -/
  ovenFrom : Option Nat := none
  ovenAt : Option Nat := none
  straps : Nat := 0
  /-- the last SMBus write of a register: its 25 MHz clock, offset and data (R66) -/
  smbLast : Option (Nat × Nat × Word) := none
  /-- PERST_N is low; the TAP's instruction -/
  perstLow : Bool := false
  tap : TapInstr := .idcode
  /-- levels of the OPT_INT_N pins: bit n set while pin n is low (R157) -/
  optLow : Nat := 0
  /-- the MDLL: lock, the tick of lock in model time, and its loss (R83, R388, R389) -/
  mdllAt : Option Nat := none
  mdllHold : Bool := false
  /-- lanes L0-L255 and mirror lanes 256-259 that are powered; those of them in hold (R77, R85) -/
  lanes : List Nat := []
  held : List Nat := []
  /-- the last switch reset that left FORWARD: its tick, and the events whose occasion it cleared, which are still raised in
  that tick (R450) -/
  cut : Nat × List CutEv := (0, [])
  deriving DecidableEq, Repr, Inhabited

/-- One image slot of the flash (R90): bytes written by CMD_IMAGE_DOWNLOAD, by offset. -/
structure Slot where
  data : List Host.Cell := []
  deriving DecidableEq, Repr, Inhabited

/-- A saved configuration (R106): the committed sets by offset, the bin table (R419) and the BASE and TARGET of the
calibrated paths (R439) among them, and table bindings as (TABLE_ID, address, count). -/
structure Saved where
  sets : SMap Word := []
  bins : SMap Nat := []
  paths : List (Nat × Int × Nat) := []
  binds : List (Nat × Nat × Nat) := []
  deriving DecidableEq, Repr, Inhabited

/-- Flash and boot sequence (R90, R91). -/
structure Boot where
  slotA : Slot := {}
  slotB : Slot := {}
  active : Nat := 0
  history : List (Nat × Nat) := []
  saved : Option Saved := none
  /-- manufacture record in flash: BASE and TARGET by path, OCXO code (R434) -/
  manuf : SMap (Int × Nat) := []
  ocxo : Nat := 0
  /-- fuses: minimum release, serial number -/
  minRelease : Nat := 0
  serial : List Byte := List.replicate 12 0
  /-- a boot in progress: slots tried so far, second read of the slot, last failure -/
  running : Bool := false
  slotsTried : Nat := 0
  second : Bool := false
  lasting : Nat := 0
  /-- tick at which the read of the image ends and its check begins (R519) -/
  checkFrom : Nat := 0
  /-- the boot was started by a switch or watchdog reset, and the journal is still to be read (R109) -/
  journal : Bool := false
  /-- the PCIe link is down until the boot ends (R87) -/
  relink : Bool := false
  /-- command that holds the flash (R106) -/
  flashBusy : Option (Fin 16) := none
  /-- the journal's entries of commands that a switch or module reset, or the loss of rail 6, cut off: mailbox, final step
  recorded, in its retry (R95) -/
  kept : List (Nat × Bool × Bool) := []
  deriving DecidableEq, Repr, Inhabited

/-! ### The Grange: mailboxes, commits, descriptor tables (chapter 4) -/

/-- What a command that has started and not completed waits for. -/
inductive Job where
  | fence (drain : Bool) (limit : Option Nat)
  | sync
  | commit
  | flash
  | restore
  | carrier (c : Nat) (join : Bool) (deadline txn : Nat)
  | sweep (waits : Bool)
  | binCal
  | freq (until_ : Nat)
  | trace (trig : Nat) (until_ : Int) (loop err : Int) (apply_ : Bool)
  | adjust (n : Nat)
  | twinSwitch
  deriving DecidableEq, Repr, Inhabited

/-- One mailbox beside its memory and MBX_STATE (R99): model time and order number of its doorbell, held work, and
the journal's marks (R109). `go` says that a command with FLAGS.FENCE has been let start (R111). `late` is the
completion, as status, DETAIL and result, that the hardware has given while the Grange reboots (R109). Of a posted or
waiting CMD_FENCE, `met` is the order number at which the condition of R111 first held for its doorbell, `heldAt` the
tick at which its whole condition, DRAIN included, first did (R112). -/
structure Mbx where
  postAt : Nat := 0
  ord : Nat := 0
  job : Option Job := none
  retry : Bool := false
  final : Bool := false
  go : Bool := false
  late : Option (Nat × Nat × List Byte) := none
  met : Option Nat := none
  heldAt : Option Nat := none
  deriving DecidableEq, Repr, Inhabited

/-- An installed entry (R121, R215): content, generation, validity, version number, and its mark in the flow cache
and the pinned set (R204). -/
structure Entry where
  bytes : List Byte := []
  gen : Nat := 0
  valid : Bool := false
  ver : Nat := 0
  pinned : Bool := false
  cached : Bool := false
  deriving DecidableEq, Repr, Inhabited

/-- Accepted work on a table in its order (R123): a notify, or a sync with its mailbox. -/
structure Install where
  first : Nat
  count : Nat
  done : Nat := 0
  ord : Nat := 0
  mbx : Option (Fin 16) := none
  anyRetry : Bool := false
  failed : Option Nat := none
  /-- indices installed so far, for the mirror (R478) -/
  took : List Nat := []
  /-- a fetched entry that waits for a place in the version store (R216) -/
  waiting : Option (List Byte) := none
  /-- entries that are read again after a fault of their page or copy (R442, R443): no notify, no change of generation -/
  reload : Bool := false
  deriving DecidableEq, Repr, Inhabited

/-- One descriptor table (R120-R126): host address when bound, installed entries, install queue. -/
structure Table where
  addr : Option Nat := none
  entries : SMap Entry := []
  queue : List Install := []
  deriving DecidableEq, Repr, Inhabited

inductive CommitStage where
  | checking | waiting
  deriving DecidableEq, Repr, Inhabited

/-- A commit in the engine (R115): groups, snapshot of the shadow sets (non-reset values by offset), path, WHEN, AT,
and whether it is part of CMD_CONFIG_RESTORE (1 its first commit, 2 its ALM_ commit, R106). -/
structure Commit where
  groups : Nat
  snap : SMap Word
  path : Option (Fin 16)
  when_ : Nat
  at_ : Nat
  stage : CommitStage := .checking
  restore : Nat := 0
  /-- the shadow bin table of the TDC (R419), and the shadow BASE and TARGET of the calibrated paths (R439) -/
  bins : SMap Nat := []
  paths : List (Nat × Int × Nat) := []
  /-- the check's failure: status, BAR0 offset, group, and whether it is a reserved encoding (R12, R115) -/
  verdict : Option (Nat × Nat × Nat × Bool) := none
  /-- model time of the snapshot -/
  askedAt : Nat := 0
  /-- the boundary that a waiting commit waits for: a cycle of A, or for the TBS_ group a model time -/
  bound : Option Nat := none
  /-- the boundary of the TBS_ group, fixed at the snapshot: its model time and D0's new second there (R331) -/
  edge : Nat × Nat := (0, 0)
  deriving DecidableEq, Repr, Inhabited

/-- The Grange beside its registers. -/
structure Grange where
  mbx : SMap Mbx := []
  tables : SMap Table := []
  commits : List Commit := []
  /-- next version number and superseded versions held: (table, index, version) (R216) -/
  nextVer : Nat := 1
  store : List (Nat × Nat × Nat) := []
  linkUp : Bool := false
  /-- MSI-X: vectors masked, and the pending-bit array (R127) -/
  masked : Nat := 0xFFFFFFFF
  msixPend : Nat := 0
  /-- the MSI-X table's message addresses and data, by word; a vector's control word is `masked` (R496) -/
  msixTab : SMap Word := []
  deriving DecidableEq, Repr, Inhabited

/-! ### Events (chapter 16) -/

/-- A log record (R451). -/
structure LogRec where
  tick : Nat
  prec : Nat
  block : Nat
  code : Nat
  obj : Nat
  gap : Bool := false
  lost : Nat := 0
  deriving DecidableEq, Repr, Inhabited

/-- Event engine, fault spares (R441-R453). -/
structure Evt where
  due : List LogRec := []
  log : List LogRec := []
  latch : Option LogRec := none
  /-- vectors 18-31 whose OR of summary bits was 1 (R453), as a bit mask -/
  level : Nat := 0
  /-- retention SRAM: spare rows used by bank (class, bank), spare units used by (class, group), remapped pages -/
  rows : List (Nat × Nat) := []
  units : List (Nat × Nat) := []
  remap : List Nat := []
  /-- repairs and unrepaired faults by class since power-on reset (R454) -/
  repairs : SMap Nat := []
  unrepaired : SMap Nat := []
  /-- a repair in progress: tick at which it takes effect -/
  repairAt : Nat := 0
  /-- the die-to-die link: replicas frozen, retraining, apply tick of the reload (R18, R446) -/
  frozen : Bool := false
  reloadAt : Option Nat := none
  deriving DecidableEq, Repr, Inhabited

/-! ### Frames -/

/-- A flow's captured decision (R215): the versions held, and all that the frame uses from then on. -/
structure Cap where
  /-- order number of the capture, for the drain of a fence (R112) -/
  ord : Nat := 0
  held : List (Nat × Nat × Nat) := []
  gen : Nat := 0
  action : Nat := 0
  egress : Nat := 0
  targets : List Nat := []
  sched : Nat := 0
  /-- content of the next hop (R212), empty when the action is not a next hop -/
  nextHop : List Byte := []
  mplsOp : Option (Nat × Nat) := none
  decTtl : Bool := false
  onestep : Nat := 0
  osDomain : Nat := 0
  /-- egresses whose TC_EN orders CORRECT, with the domain (R315) -/
  tc : List (Nat × Nat) := []
  tally : Option Nat := none
  deriving DecidableEq, Repr, Inhabited

/-- The fields of FWD_HASH_SEED and FWD_HASH_CFG under which a hash is formed (R219). -/
structure HashSet where
  seed : Nat := 0
  proto : Bool := false
  srcA : Bool := false
  dstA : Bool := false
  l4 : Bool := false
  deriving DecidableEq, Repr, Inhabited

/-- A frame held whole: its bytes from destination address through FCS, source, pipeline, receive class, t_in, buffers as
(pool, number), place in its Sheaf's reassembly order, and after Classify its hash with the setting that formed it, class, plane and captured decision. -/
structure Frame where
  id : Nat := 0
  bytes : List Byte := []
  src : Nat := 0
  pipe : Nat := 0
  rxClass : Nat := 0
  tIn : Nat := 0
  /-- D0-D7 at the ingress position less the steps they had taken by then, in 2^-40 ns (R313) -/
  stepsAt : List Int := []
  bufs : List (Nat × Nat) := []
  rseq : Nat := 0
  hash : Nat := 0
  hset : HashSet := {}
  cls : Nat := 0
  plane : Nat := 0
  cap : Option Cap := none
  deriving DecidableEq, Repr, Inhabited

/-- Round-robin state of a deficit weighted arbiter: the requester being served and the deficits. -/
structure Dwrr where
  cur : Nat := 0
  fresh : Bool := true
  defs : SMap Nat := []
  deriving DecidableEq, Repr, Inhabited

/-! ### Client ports (chapter 5) -/

/-- A frame being sent. -/
structure Tx where
  frame : Frame
  queue : Nat
  bytes : List Byte
  start : Nat
  express : Bool := true
  frags : Nat := 1
  padded : Bool := false
  /-- departure position of the first bit (R311); an internal error makes the MAC stomp the frame (R145, R443) -/
  dep : Inst := default
  stomp : Bool := false
  /-- of a preemptable frame: EXPRESS and ADD_FRAG at its start (R132), the tick at which the fragment on the wire began,
  and its bytes in the fragments before (R150) -/
  xmask : Nat := 0
  addFrag : Nat := 0
  fragAt : Nat := 0
  gone : Nat := 0
  /-- Tally slots of what was done to it, counted at its last byte; offset of its PTP header (R154, R158) -/
  counts : List Nat := []
  ptp : Option Nat := none
  deriving DecidableEq, Repr, Inhabited

/-- A frame being received (R141, R142, R244), of which a reassembly of a preemptable frame stays in the port's state
(R152): the bytes stored, MAX_LEN at most; its bytes so far, and their CRC; the number of its last fragment; whether a
byte was hit; the ingress position of its first bit (R311); MAX_LEN at its first byte (R132); its buffers, its receive
class once known (R247); and that it was refused a buffer. -/
structure Assembly where
  bytes : List Byte := []
  len : Nat := 0
  crc : Nat := 0xFFFFFFFF
  count : Nat := 0
  bad : Bool := false
  inst : Inst := default
  max : Nat := 0
  bufs : List (Nat × Nat) := []
  cls : Option Nat := none
  gone : Bool := false
  deriving DecidableEq, Repr, Inhabited

/-- One client port beside its registers (R135-R152). -/
structure Port where
  timer : Option Nat := none
  retry : Bool := false
  /-- link faults present: signal, lock, local, remote -/
  faults : Nat := 0
  downAt : Nat := 0
  /-- received pause by class: latest tick of taking effect while it has not, and tick of its end (R147, R148) -/
  pauseFrom : SMap Nat := []
  pauseEnd : SMap Nat := []
  /-- classes in XOFF at the Granary; those that have left it since the last frame; those last signalled; whether an XOFF
  change waits for a frame; tick of the last frame sent (R149) -/
  xoff : Nat := 0
  left : Nat := 0
  sent : Nat := 0
  pfcDue : Bool := false
  pfcAt : Nat := 0
  verifyLeft : Nat := 0
  verifyAt : Nat := 0
  verifyFailed : Bool := false
  asm : Option Assembly := none
  tx : Option Tx := none
  preempted : Option Tx := none
  dwrr : Dwrr := {}
  /-- MAX_LEN before its last change, and the tick of the change; a change of the preemption settings waits for the next
  frame boundary (R132) -/
  oldMax : Option (Nat × Nat) := none
  preDue : Bool := false
  /-- near-end loopback (R163): what was sent express, and the preemptable frames sent, that the receiver is still to get -/
  loop : List (RxKind × List Byte) := []
  loopP : List (List Byte) := []
  deriving DecidableEq, Repr, Inhabited

/-! ### Sheaves and carriers (chapters 6 and 11) -/

/-- The latest valid timing grain of a carrier (R185, R332): its TX_TIME, the D0 time and tick of its arrival, CSEQ, and
the peer's fields that time transfer uses. Times are in 2^-16 ns. -/
structure TimingRx where
  txTime : Int := 0
  rxTime : Int := 0
  cseq : Nat := 0
  at_ : Nat := 0
  valid : Bool := false
  freq : Nat := 0
  cp : Bool := false
  teEst : Nat := 0
  steps : Nat := 0
  cls : Nat := 0
  tflags : Nat := 0
  deriving DecidableEq, Repr, Inhabited

/-- The stream that one lane sends (R167, R168): model time of its first slot since the rate was set, the slots passed and
the blocks sent since then; the scrambler's last 58 bits, newest first; the message bits of the codeword begun. -/
structure LaneTx where
  start : Option Nat := none
  slots : Nat := 0
  sent : Nat := 0
  scr : List Bool := []
  word : List Bool := []
  deriving DecidableEq, Repr, Inhabited

/-- One carrier beside its registers (R189-R196). -/
structure Carrier where
  /-- deadline of ADAPT or LOCK (R190); second attempt; lanes with codeword lock; signal on every lane -/
  timer : Option Nat := none
  retry : Bool := false
  locked : List Nat := []
  signal : Bool := false
  /-- next timing grain (R187), count of timing grains sent, and the last 64 sent as (CSEQ, TX_TIME) (R332) -/
  nextTg : Nat := 0
  cseq : Nat := 0
  sentAt : List (Nat × Int) := []
  rx : TimingRx := {}
  /-- transit offset u(c) (R180), in 2^-16 ns, and whether a grain has given it -/
  u : Int := 0
  uValid : Bool := false
  /-- requests not yet answered as (OP, TXN), oldest first, and the TXN to use next (R191) -/
  req : List (Nat × Nat) := []
  nextTxn : Nat := 1
  /-- answers given, newest first, the last 64 of them, as (OP, REASON, TXN, timing grains in which it is still repeated),
  and the TXNs of the JOIN_ACKs not yet sent (R191, R192) -/
  ans : List (Nat × Nat × Nat × Nat) := []
  ackDue : List Nat := []
  /-- tick in which LOSS_WAIT after PARK_ACK ends (R193) -/
  parkWait : Option Nat := none
  /-- SKEW_EXCESS has been raised for the present excess (R180) -/
  skewOver : Bool := false
  /-- what its lanes send, by lane (R167, R168) -/
  lanes : SMap LaneTx := []
  deriving DecidableEq, Repr, Inhabited

/-- A data grain held in reassembly (R181): its record-stream bytes, FSP, tick of arrival, buffer. -/
structure Held where
  bytes : List Byte
  fsp : Nat
  at_ : Nat
  rate : Nat := 1
  buf : Nat × Nat
  deriving DecidableEq, Repr, Inhabited

/-- One Sheaf beside its registers (R171-R184). Transmit: record-stream bytes not yet in a grain and the offsets in
them at which records begin; position of the last frame start (R174), and of the frame starts that wait for grains with
the last one in a grain made (R24); next SEQ, next SEQ of each leg, and grains made
that a leg has still to pull (R177, R179); the frame in progress. Receive: head SEQ, held grains by SEQ with copies
eliminated, tick of SYNC and the lowest SEQ received in it (R183), tick of the loss of all carriers; delineation (R173): in step, the record begun with the
buffers that hold it and the ingress position of its frame (R313), the counter of a drop that its header already decides, position of the last frame start; runs of
lost SEQs (R182); dealing (R20) and reassembly order (R203). -/
structure Sheaf where
  txBytes : List Byte := []
  txStarts : List Nat := []
  txLastStart : Option Nat := none
  txFrames : List Nat := []
  nextSeq : Nat := 0
  legSeq : Nat × Nat := (0, 0)
  made : SMap (List Byte × Nat) := []
  tx : Option Tx := none
  dwrr : Dwrr := {}
  head : Nat := 0
  held : SMap Held := []
  syncAt : Nat := 0
  syncLow : Option Nat := none
  emptyAt : Option Nat := none
  inStep : Bool := false
  part : List Byte := []
  partPos : Nat := 0
  partIn : Inst := { tick := 0, sub := 0 }
  partBufs : List (Nat × Nat) := []
  partDoom : Option Nat := none
  lost : List (Nat × Nat) := []
  lastStart : Option Nat := none
  deal : Nat := 0
  rseq : Nat := 0
  deriving DecidableEq, Repr, Inhabited

/-! ### Forwarding core and Granary (chapters 7 and 8) -/

/-- Where a queued frame's bytes are (R255): packet SRAM, or consecutive pages of a Silo segment. -/
inductive Loc where
  | sram
  | silo (seg : Nat) (first last : Nat)
  deriving DecidableEq, Repr, Inhabited

/-- An entry of an egress queue, in queue order. `spill`: it joined the spill part (R254); `heldBw`: it was counted in
SPILL_HELD_BW; `waits`: its spill was put off (R255). `bound`: its window instance as (window, first slot counted from
the epoch of A) (R283), and `boundNo` its place in the order of binding (R285). -/
structure QEnt where
  frame : Frame
  loc : Loc := .sram
  mcast : Bool := false
  spill : Bool := false
  heldBw : Bool := false
  waits : Bool := false
  bound : Option (Nat × Nat) := none
  boundNo : Nat := 0
  deriving DecidableEq, Repr, Inhabited

/-- A Silo segment: its number, page numbers in order, how many pages have left its front, bytes used in the last page,
and whether frames may still join it (R255, R256). -/
structure Seg where
  num : Nat
  pages : List Nat := []
  base : Nat := 0
  fill : Nat := 0
  open_ : Bool := true
  deriving DecidableEq, Repr, Inhabited

/-- An egress queue; `recl` is a frame whose recall waits for a buffer, with those that it has (R244, R258). -/
structure EQueue where
  ents : List QEnt := []
  segs : List Seg := []
  nextSeg : Nat := 0
  recl : Option (Nat × List (Nat × Nat)) := none
  deriving DecidableEq, Repr, Inhabited

/-- The forwarding core beside its registers. -/
structure Fwd where
  /-- accepted frames waiting in each pipeline; frames waiting for a bucket read; Sheaf frames waiting in the order
  stage; ingress queues IQ(a, j, c) keyed by source, pipeline, plane, class; scheduled frames waiting at the strict
  path across a plane drain -/
  pipeQ : SMap (List Frame) := []
  missQ : SMap (List Frame) := []
  orderQ : SMap (List Frame) := []
  ingress : SMap (List Frame) := []
  queues : SMap EQueue := []
  /-- multicast reference counts by frame (R230) -/
  refs : SMap Nat := []
  planeArb : SMap Dwrr := []
  /-- plane drain in progress: the elastic frames that it waits for, by number; order number of its apply tick (R220) -/
  drain : Option (List Nat) := none
  drainOrd : Nat := 0
  /-- what crossed each plane's strict path in the last 62.5 ns: (crossing tick, bytes) (R229) -/
  strict : SMap (List (Nat × Nat)) := []
  /-- tick of the down event and hold state's deadline by egress (R234) -/
  downAt : SMap Nat := []
  deriving DecidableEq, Repr, Inhabited

/-- Owner tag of a buffer or page (R261), with the reference count of a shared buffer. -/
structure Tag where
  kind : Nat := 0
  id : Nat := 0
  refs : Nat := 0
  deriving DecidableEq, Repr, Inhabited

/-- A returned buffer in a free ring: its number, the tick of its free, and the place of that free among those of the tick
(R264). -/
structure Freed where
  buf : Nat
  at_ : Nat
  place : Nat := 0
  deriving DecidableEq, Repr, Inhabited

/-- A pool's free ring (R243): numbers never granted so far, and returned buffers with the tick of their return. -/
structure Pool where
  fresh : Nat := 0
  freed : List Freed := []
  retired : List Nat := []
  deriving DecidableEq, Repr, Inhabited

/-- A spill page (R253, R256): owner tag, QUEUE, COUNT, T_NEWEST (as model time), NEXT_OFS, and its bytes from 32 on. -/
structure Page where
  tag : Tag := {}
  queue : Nat := 0
  count : Nat := 0
  newest : Nat := 0
  nextOfs : Nat := 0xFFFF
  data : List Byte := []
  deriving DecidableEq, Repr, Inhabited

/-- The Granary beside its registers. -/
structure Grn where
  pools : SMap Pool := []
  bufs : SMap Tag := []
  /-- grants of the present tick and of later ones, as (model time, pool): a grant beyond the limits of a tick falls in the
  next (R243, R245) -/
  ledger : List (Nat × Nat) := []
  /-- what frees buffers by a queue's release path at present (R264): 0 an egress, 1 the Reaper, 2 a flush -/
  release : Nat := 0
  /-- cells of buffers by source and receive class (R247), keyed 8 s + c -/
  inAcc : SMap Nat := []
  pages : SMap Page := []
  pageFresh : Nat := 0
  pageFreed : List Nat := []
  pageRetired : List Nat := []
  /-- pages of flushed frames on their way to the free ring, each with its place at 64 a tick, and the next such place
  (R260) -/
  backlog : List (Nat × Nat) := []
  backNext : Nat := 0
  cache : Nat := 8192
  /-- Gleaner: unmarked buffers and pages of the last sweep as (pool or 8 for pages, number, tag), leaks found among
  them, time of the last sweeps of packet SRAM and of the Silo; free pages that lost their place in the chain, with
  the sweeps until the Gleaner returns them (R443) -/
  suspects : List (Nat × Nat × Tag) := []
  leaks : List (Nat × Nat × Tag) := []
  lastSweep : Nat := 0
  lastSilo : Nat := 0
  astray : List (Nat × Nat) := []
  deriving DecidableEq, Repr, Inhabited

/-- A Sheaf's calendar at work (R290-R293): the window instance being served as its first slot plus 1, counted from the
epoch of A, the charged bytes started in it, whether it held a frame back for want of live capacity; the end slot of
the last instance judged; whether U_live is below PLAN_RATE, and whether the frame in progress has overrun. -/
structure AlmSheaf where
  inst : Nat := 0
  used : Nat := 0
  short : Bool := false
  judged : Nat := 0
  rateLow : Bool := false
  overrun : Bool := false
  /-- the chosen elastic frame did not fit before the next window: fill counts as guard (R290) -/
  guard : Bool := false
  deriving DecidableEq, Repr, Inhabited

/-- The Almanac beside its registers (R270-R297): the Sheaves' calendars, and the number of the next binding (R285). -/
structure Alm where
  sheaves : SMap AlmSheaf := []
  bindNo : Nat := 0
  deriving DecidableEq, Repr, Inhabited

/-- Output pins that the record of outputs names. -/
inductive Pin where
  | trig | ppso | cko | twinRole
  deriving DecidableEq, Repr, Inhabited

/-- What a client port's transmitter sends besides its frames: nothing, idles, the remote fault signal, or what it
receives (R134, R135, R163). -/
inductive PortLine where
  | dark | idle | remoteFault | echo
  deriving DecidableEq, Repr, Inhabited

/-- What the module has put out, oldest last (the model's own record of its output pins, links and bus writes). -/
inductive Out where
  | msix (v : Nat)
  | smbData (bytes : List Byte)
  | hostWrite (addr : Nat) (bytes : List Byte) (relaxed : Bool := false)
  | fetch (addr : Nat)
  | mirrorReload (table first count : Nat)
  | frame (egress : Nat) (express : Bool) (bytes : List Byte)
  | cut (egress : Nat)
  | stomped (egress : Nat)
  | macControl (port : Nat) (bytes : List Byte)
  | verify (port : Nat)
  | respond (port : Nat)
  | line (port : Nat) (kind : PortLine)
  | loopback (port : Nat) (kind : RxKind) (bytes : List Byte)
  | loopbackFrag (port : Nat) (kind : FragKind) (last : Bool) (bytes : List Byte)
  | i2cClocks (bus : Nat)
  | grain (lane : Nat) (bytes : List Byte)
  | nullBlocks (lane count : Nat)
  | codeword (lane : Nat) (levels : List Nat)
  | i2c (bus dev : Nat) (write : List Byte) (read : Nat)
  | uart (bytes : List Byte)
  | pin (name : Pin) (idx : Nat) (level : Bool)
  | lengthen (cko : Nat) (fifths : Nat)
  | rest (cko : Nat) (at5 : Int)
  | mirror (lane : Nat) (bytes : List Byte)
  | tdo (bits : Nat)
  | readData (ofs : Nat) (w : Word)
  deriving DecidableEq, Repr, Inhabited

/-! ### Time bases, triggers and pulses (chapter 10, R373) -/

/-- An adjust or a set that waits for its apply tick (R308): mailbox, model time of the apply tick, new INC, step in
2^-16 ns, or the time to set (2^-16 ns), and NO_SLEW. -/
structure Adjust where
  mbx : Nat
  at_ : Nat
  inc : Option Nat := none
  step : Option Int := none
  set : Option Int := none
  noSlew : Bool := false
  deriving DecidableEq, Repr, Inhabited

/-- A domain (R304): accumulator in 2^-40 ns as of model time `at_`, its increment a tick, its output residue in
2^-40 ns as of `resAt` (R309), the sum of the steps it has taken (R313), a pending adjust, and the start of the
HOST_TIMEOUT count (R520). -/
structure Dom where
  val : Int := 0
  at_ : Nat := 0
  inc : Nat := 0xA000000000
  res : Int := 0
  resAt : Nat := 0
  steps : Int := 0
  adj : Option Adjust := none
  cmdAt : Nat := 0
  deriving DecidableEq, Repr, Inhabited

/-- The domains as they stood when one of them, or a replica, last changed course: each domain's value and increment, each
replica's, and the steps the replica had taken, all at `upTo`, from which an instant before it is worked back (R311). -/
structure DomPast where
  upTo : Nat
  dom : List (Int × Nat)
  sw : List (Int × Nat)
  steps : List Int
  deriving DecidableEq, Repr, Inhabited

/-- A stamp report to be written at the end of this tick (R318, R322): port, direction, the message's PTP header, stamp,
ABORTED, the start of its frame in 1/1,024 ticks, and whether its write has failed its retry (R321). -/
structure RptDue where
  port : Nat
  dir : Nat
  ptp : List Byte
  stamp : Int
  aborted : Bool
  began : Nat
  failed : Bool := false
  deriving DecidableEq, Repr, Inhabited

/-- A train of pulses on a pin (R324, R373): its settings in force, in 2^-40 ns of its scale, the next pulse, the scale
value, ADJ included, and the scale of the fall of a pulse in progress, and the level that the pin is driven to. -/
structure Train where
  on : Bool := false
  scale : Nat := 0
  start : Int := 0
  period : Int := 0
  width : Int := 0
  count : Nat := 0
  adj : Int := 0
  invert : Bool := false
  next : Nat := 0
  fall : Option (Int × Nat) := none
  skipped : Nat := 0
  high : Bool := false
  deriving DecidableEq, Repr, Inhabited

/-- Time bases beside their registers. `rpt` holds the host address of each bound stamp-report ring (R318). -/
structure Tb where
  doms : SMap Dom := []
  trigs : SMap Train := []
  rpt : SMap Nat := []
  /-- a write of CONS that report writes do not see yet: its tick and the index before it (R320) -/
  consOld : SMap (Nat × Nat) := []
  /-- reports of this tick, which are written at its end (R322) -/
  rptDue : List RptDue := []
  /-- how the domains ran before their last changes, newest first (R311) -/
  past : List DomPast := []
  /-- the switch die's replicas while the die-to-die link is frozen (R18) -/
  rep : SMap Dom := []
  /-- OCXO_WARM has been set since rail 4 powered up (R84, R328, R361, R401) -/
  warmed : Bool := false
  /-- the residue of A runs: FORWARD has been entered since the MDLL locked (R270) -/
  almRun : Bool := false
  /-- tick of the last capture of TBS_SNAP (R310) -/
  snapAt : Option Nat := none
  deriving DecidableEq, Repr, Inhabited

/-! ### Time transfer (chapter 11) -/

/-- A carrier in time transfer (R335, R336): when it entered a measuring state, whether it is in the measurement set
and was from the window's start, the sums over its echo pairs in the window of x, F left out, and of t4, the last window's result,
its last round trip, consecutive windows in which it was excluded. Times in 2^-16 ns, t4 in 1/1,024 ticks of model
time. -/
structure TtCar where
  since : Option Nat := none
  inSet : Bool := false
  whole : Bool := false
  sumX : Int := 0
  sumT : Nat := 0
  pairs : Nat := 0
  lastX : Int := 0
  lastPairs : Nat := 0
  rtt : Int := 0
  rttValid : Bool := false
  excl : Nat := 0
  outlier : Bool := false
  mismatch : Bool := false
  deriving DecidableEq, Repr, Inhabited

/-- A Sheaf in time transfer: starts of its window and of its TC window, the last 64 values of x as (model time, 2^-16
ns), the TC window's values as count, sum and sum of squares (Ê in ps under key 128; under ROUND_TRIP, the fibre's round
trip of each carrier in ps, ℓ in mm under key 129, and τ̄ of the CP carriers in 10^-6 ps/km under key 130), the last complete window's ℓ
in mm, whether the window can still be complete and has seen a usable CP carrier, the anchor, F by the same keys in ps,
F_UNC in ps, TC windows without a CP carrier, and the jump of OFS (2^-16 ns) that the next sample brings (R347). -/
structure TtSheaf where
  winAt : Nat := 0
  tcAt : Nat := 0
  samples : List (Nat × Int) := []
  est : SMap (Nat × Int × Int) := []
  ell : Option Int := none
  estBad : Bool := false
  cpSeen : Bool := false
  anchor : Option Int := none
  f : SMap Int := []
  fUnc : Nat := 0
  cpMiss : Nat := 0
  jump : Option Int := none
  deriving DecidableEq, Repr, Inhabited

structure Tt where
  cars : SMap TtCar := []
  sheaves : SMap TtSheaf := []
  deriving DecidableEq, Repr, Inhabited

/-! ### Reference selection (chapter 12) -/

/-- One reference beside its registers: samples of the drift window, newest first, as (model time, departure e,
offset), in 2^-16 ns; starts of the QUAL_S and REQUAL_S counts; the last edge; the time-of-day labels (R359): the last
label, the ZDA sentences since the last edge as (arrival, UTC seconds), the status of the last RMC since then, and an edge
that awaits its ZDA as (model time, stamp, what turns its offset into a departure); of a FREQ input the first cycle's stamp
and the cycles since (R358); of a line, the sum and number of the line samples that the next sample is the mean of, and the
interval of 62.5 ms that they lie in (R362). -/
structure RefSrc where
  hist : List (Nat × Int × Int) := []
  qualAt : Nat := 0
  disqAt : Nat := 0
  lastEdge : Option Nat := none
  todErrs : Nat := 0
  label : Option Nat := none
  zda : List (Nat × Nat) := []
  rmcBad : Bool := false
  edgeWait : Option (Nat × Int × Int) := none
  stamp0 : Option Int := none
  cycles : Nat := 0
  acc : Int := 0
  accN : Nat := 0
  accAt : Nat := 0
  /-- D_k in 2^-16 ns of the last sample, and its ν_k as a change of e_k over so many seconds -/
  drift : Int := 0
  nu : Int := 0
  nuWin : Nat := 1
  /-- accumulated jump that re-bases departures (R366) -/
  base : Int := 0
  deriving DecidableEq, Repr, Inhabited

/-- A record of the learner (R374): model time, the reference selected then, y in 2^-16 ppb, case estimate in 1/16 °C. -/
structure LRec where
  at_ : Nat
  ref : Nat
  y : Int
  temp : Int
  deriving DecidableEq, Repr, Inhabited

/-- An entry of REF_PE (R382). -/
structure PeEnt where
  ref : Nat
  val : Int
  fresh : Bool
  seq : Nat
  deriving DecidableEq, Repr, Inhabited

/-- Reference selection beside its registers. -/
structure RefSel where
  srcs : SMap RefSrc := []
  pairs : SMap (List (Nat × Int)) := []
  disagree : List Nat := []
  forced : Option Nat := none
  /-- references that qualified under REVERTIVE 0 with a better rank than the selected one (R367) -/
  barred : List Nat := []
  /-- selection is still to be evaluated in this tick (R369), H0 of an entry to HOLDOVER that it may bring (R377), and
  whether R368 finds a rank that disagrees -/
  due : Bool := false
  h0Due : Nat := 0
  split : Bool := false
  /-- the loop's integrator in 2^-48 ppb, the model time of its last sample, and the offset that a frequency reference
  started from (R370, R381) -/
  loopI : Int := 0
  loopAt : Nat := 0
  loopBase : Option Int := none
  /-- frequency word: value at `wAt`, and the value it moves to at FSLEW, in 2^-16 ppb (R376, R381, R382) -/
  wFrom : Int := 0
  wAt : Nat := 0
  wTo : Int := 0
  wWritten : Nat := 0
  stale : Bool := false
  /-- D0 - P as the sum of y - m over ticks, in 2^-16 ppb times ticks, as of `qAt` (R362) -/
  q : Int := 0
  qAt : Nat := 0
  /-- learner and model (R374, R375): newest first; M0, AG, TC as of the newest committed record, in 2^-32 of their
  units (2^-16 ppb, per second, per 1/16 °C) -/
  recs : List LRec := []
  fitted : List LRec := []
  /-- records committed since the model was last cleared (R375) -/
  learned : Nat := 0
  learnAt : Nat := 0
  /-- m in force, in 2^-16 ppb (R375, R376) -/
  m : Int := 0
  m0 : Int := 0
  ag : Int := 0
  tc : Int := 0
  tLast : Nat := 0
  tempLast : Int := 0
  /-- entry to HOLDOVER or FREQ_ASSIST (R377, R380, R350) -/
  holdAt : Nat := 0
  holdUpd : Nat := 0
  h0 : Nat := 0
  inClass : Nat := 0
  inTrace : Bool := false
  inSteps : Nat := 0
  inTe : Nat := 0
  /-- phase steps on their way: model time of the apply tick and σ in 2^-16 ns (R371) -/
  steps : List (Nat × Int) := []
  /-- fields of the last line sample by Sheaf: peer's TE_EST, STEPS, class, flags, HOP_TE (R338) -/
  line : SMap (Nat × Nat × Nat × Nat × Nat) := []
  pe : List PeEnt := []
  peSeq : Nat := 0
  peAt : Nat := 0
  peUsed : Nat := 0
  ppso : SMap Train := []
  deriving DecidableEq, Repr, Inhabited

/-! ### Clock synthesis (chapter 13) -/

/-- Timing of a clock output: period and delay in fifths of 2^-40 ns, alignment and domain (R395, R396). -/
structure CkoT where
  p5 : Nat := 0
  dly5 : Nat := 0
  align : Bool := true
  dom : Nat := 0
  deriving DecidableEq, Repr, Inhabited

/-- One clock output: timing in force, first edge of an unaligned output in fifths of 2^-40 ns of model time, the apply
tick of an enable that waits for its first edge, the old timing, the apply tick of the change that ends it and that of the
last change (R399), the steps not yet taken and the tick of the first of them (R400), of an output that switches, the steps
of its old domain that the new edge absorbs and the tick of the last step of its new domain (R400), the instant of the last
lengthened edge, before which the output is low, and, for the output stopped, the end of its last high phase (R398). -/
structure Cko where
  t : CkoT := {}
  anchor5 : Int := 0
  pend : Option Nat := none
  run : Bool := false
  old : Option (CkoT × Int × Nat) := none
  chgAt : Nat := 0
  steps : Int := 0
  stepAt : Nat := 0
  absorbed : Int := 0
  newAt : Nat := 0
  lowTill5 : Int := 0
  rest5 : Int := 0
  deriving DecidableEq, Repr, Inhabited

/-- Clock outputs and ramp generator: z in 2^-16 ppb times 10^-9 (R390), updates left in the segment. -/
structure Syn where
  ckos : SMap Cko := []
  zAcc : Int := 0
  left : Nat := 0
  nextUpd : Nat := 0
  deriving DecidableEq, Repr, Inhabited

/-! ### Interval measurement and calibration (chapters 14 and 15) -/

/-- An edge taken: index of the timing-clock edge, position before it in 2^-16 ns, model time. -/
structure TdcEdge where
  coarse : Nat
  pos : Nat
  at_ : Nat
  deriving DecidableEq, Repr, Inhabited

/-- An armed measurement (R408): its TS_DOMAIN, START_TIME once the start edge is taken (R410), and whether an arithmetic
unit without a good result has worked on it (R443). -/
structure Armed where
  at_ : Nat
  dom : Nat := 0
  start : Option TdcEdge := none
  startT : Int := 0
  stop : Option TdcEdge := none
  stops : Nat := 0
  bad : Bool := false
  deriving DecidableEq, Repr, Inhabited

/-- The TDC beside its registers. A bin table lists pos + 1 where it differs from the nominal position (R419). -/
structure Tdc where
  left : Nat := 0
  seq : Nat := 0
  armed : Option Armed := none
  endedAt : Option Nat := none
  rearmFrom : Nat := 0
  hold : SMap Nat := []
  fifo : List (List Byte) := []
  latched : Bool := false
  bins : SMap Nat := []
  binsSh : SMap Nat := []
  /-- code-density test: start, and its repeat (R418); mailbox of CMD_TDC_BIN_CAL -/
  test : Option Nat := none
  again : Bool := false
  testMbx : Option (Fin 16) := none
  deriving DecidableEq, Repr, Inhabited

/-- A calibrated path (R426): BASE in 2^-16 ns, CORR in 1/125 of that (so that a code of 0.25 ps is 2048), with shadow
copies of BASE and TARGET. -/
structure Path where
  base : Int := 0
  baseSh : Int := 0
  trim : Nat := 512
  target : Nat := 512
  targetSh : Nat := 512
  corr : Int := 0
  stale : Bool := true
  range : Bool := false
  failed : Bool := false
  stepAt : Nat := 0
  deriving DecidableEq, Repr, Inhabited

/-- Calibration beside its registers: paths, paths done in the run, paths due since their lane's lock as (path, model time)
(R432), T_s, OCXO stepping, and a host write of CALIBRATE that waits for the end of the run (R430). -/
structure Cal where
  paths : SMap Path := []
  done : List Nat := []
  due : List (Nat × Nat) := []
  again : Bool := false
  ts : Int := 0
  startAt : Nat := 0
  ocxoAt : Nat := 0
  retune : Bool := false
  deriving DecidableEq, Repr, Inhabited

/-! ### Twin pair (chapter 17) -/

/-- One mirror lane in the link: count of heartbeats sent, tick of the last valid heartbeat, its TX_TIME and arrival
(2^-16 ns), whether it is up; what it sends (R459). -/
structure MLane where
  mseq : Nat := 0
  last : Option Nat := none
  up : Bool := false
  echoTx : Int := 0
  echoRx : Int := 0
  have_ : Bool := false
  timer : Option Nat := none
  retry : Bool := false
  st : Nat := 0
  tx : LaneTx := {}
  deriving DecidableEq, Repr, Inhabited

/-- A transaction being received (R479). -/
structure TxnIn where
  txn : Nat
  frags : Nat
  kind : Nat
  when_ : Nat
  apply : List Byte
  got : SMap (List Byte) := []
  doneAt : Option Nat := none
  deriving DecidableEq, Repr, Inhabited

/-- The twin pair beside its registers. `before` holds the committed copies at the time of
becoming LEAD, and `tabs` the installed entries of every table with its bound count (R466). -/
structure Twin where
  lanes : SMap MLane := []
  lastHb : Option Nat := none
  hbAt : Option Nat := none
  pairAt : Nat := 0
  /-- D0 time of becoming LEAD, in 2^-16 ns -/
  leadSince : Int := 0
  before : Option (SMap Word) := none
  tabs : List (Nat × Nat × List (Nat × List Byte)) := []
  partnerMode : Nat := 0
  partnerSt : Nat := 0
  prefOk : Bool := true
  /-- relinquish pending: its tick and mailbox; withdrawn ones are gone -/
  relq : Option (Nat × Option (Fin 16)) := none
  /-- ENABLE 0 is in force and the hand-over that it starts still runs (R464); tick until which the partner's claims to be
  LEAD belong to a hand-over that has been decided (R471, R472) -/
  closing : Bool := false
  settle : Option Nat := none
  diffs : List Int := []
  digestBad : Nat := 0
  digestOk : Bool := true
  checkOk : Bool := true
  /-- outgoing: next TXN, next MSEQ, messages kept for retransmission -/
  mseq : Nat := 0
  kept : List (Nat × List (List Byte)) := []
  naked : List Nat := []
  /-- FOLLOW: a message has been declared lost since the last heartbeat of the LEAD -/
  lost : Bool := false
  /-- incoming: head MSEQ, messages held with their tick, transactions -/
  head : Option Nat := none
  held : SMap (Nat × List Byte) := []
  inq : List TxnIn := []
  resyncing : Bool := false
  /-- LEAD: D0 time at which it saw the partner unpaired, until the resync that answers it starts -/
  pairSeen : Option Int := none
  /-- unready since (LEAD), wait-to-restore since -/
  degrade : Option Nat := none
  wtr : Option Nat := none
  /-- counts of frames sent in the D0 second, and of the second before, by egress; its number -/
  sec : Nat := 0
  sentNow : SMap Nat := []
  sentLast : SMap Nat := []
  checkAt : Nat := 0
  countNext : Nat := 0
  /-- echoes of the LEAD's timing grains: (carrier, CSEQ, TX_TIME in 2^-16 ns) -/
  echoes : List (Nat × Nat × Int) := []
  /-- what TIMED of the health word rests on (R467, log entry 30) -/
  timed : Bool := true
  sentHb : Option Nat := none
  deriving DecidableEq, Repr, Inhabited

/-- The state of the block. Times named `now` are model time in ticks of 625 ps. -/
structure State where
  /-- commands waiting, first in first out -/
  pending : List Instr := []
  /-- model time in event ticks; it runs in every mode (the model's own) -/
  now : Nat := 0
  /-- order numbers given to doorbells and accepted notifies; frame numbers given; free values used -/
  nextOrd : Nat := 1
  nextFrame : Nat := 1
  nextFree : Nat := 0
  /-- registers: the live value of every register, and for an RWC register its shadow copy; committed copies; the
  latches of read-only _LO/_HI pairs by the offset of _HI (R10, R114, R522) -/
  regs : SMap Word := []
  committed : SMap Word := []
  latches : SMap Word := []
  /-- mailbox memory, BAR0 offsets 0x0000-0xFFFF (R98) -/
  mem : List Host.Cell := []
  pwr : Pwr := {}
  boot : Boot := {}
  gr : Grange := {}
  evt : Evt := {}
  /-- Tally: slots in HBM and on-die accumulators (R158) -/
  tally : SMap Nat := []
  tacc : SMap Nat := []
  ports : SMap Port := []
  cars : SMap Carrier := []
  sheaves : SMap Sheaf := []
  fwd : Fwd := {}
  grn : Grn := {}
  alm : Alm := {}
  tb : Tb := {}
  tt : Tt := {}
  ref : RefSel := {}
  syn : Syn := {}
  tdc : Tdc := {}
  cal : Cal := {}
  twin : Twin := {}
  out : List Out := []
  deriving DecidableEq, Repr

/-- The module right after a power-on reset (R45, R87): DORMANT, every register at its reset value, feed A connected
at 48 V and feed B absent (DESIGN CHOICE, log entry 2). -/
def State.reset : State :=
  { pwr := { feedA := { connected := true, volt := 4800 } } }

end Sys2Proof.Machine
end

