-- ==== Sys2Proof/Machine/Ops.lean ====
section
/-! DEFINITION. Sys2Proof/Machine/Ops.lean: named operations over maps, registers, memory, bytes and time. -/
namespace Sys2Proof.Machine

/-! ### Maps in canonical form -/

/-- The value of a key, `d` where it is not listed. -/
def SMap.get {α : Type} (d : α) : SMap α → Nat → α
  | [], _ => d
  | (k, v) :: m, i => if k = i then v else SMap.get d m i

/-- The map without a key. -/
def SMap.erase {α : Type} (m : SMap α) (i : Nat) : SMap α := m.filter (fun e => e.1 ≠ i)

/-- The map with `v` at key `i`, keys kept rising. -/
def SMap.insert {α : Type} (v : α) : SMap α → Nat → SMap α
  | [], i => [(i, v)]
  | (k, x) :: m, i =>
    if i < k then (i, v) :: (k, x) :: m
    else if k = i then (i, v) :: m
    else (k, x) :: SMap.insert v m i

/-- Write: a value equal to the default removes the key. -/
def SMap.set {α : Type} [DecidableEq α] (d : α) (m : SMap α) (i : Nat) (v : α) : SMap α :=
  if v = d then SMap.erase m i else SMap.insert v m i

/-- The map without the keys of a range. -/
def SMap.drop {α : Type} (m : SMap α) (lo hi : Nat) : SMap α := m.filter (fun e => e.1 < lo || hi ≤ e.1)

/-- The canonical form of a map: its keys strictly rising. -/
def SMap.rising {α : Type} (m : SMap α) : Prop := (m.map Prod.fst).Pairwise (· < ·)

/-- Read and write of a map whose unlisted keys read as the type's default object. -/
def SMap.at! {α : Type} [Inhabited α] (m : SMap α) (i : Nat) : α := SMap.get default m i
def SMap.upd {α : Type} [Inhabited α] [DecidableEq α] (m : SMap α) (i : Nat) (f : α → α) : SMap α :=
  SMap.set default m i (f (SMap.at! m i))

/-! ### Bytes and integers -/

/-- Unsigned number of little-endian bytes. -/
def leNat : List Byte → Nat
  | [] => 0
  | b :: bs => b.toNat + 256 * leNat bs

/-- Unsigned number of big-endian bytes. -/
def beNat (bs : List Byte) : Nat := bs.foldl (fun a b => a * 256 + b.toNat) 0

/-- The `n` low bytes of a number, little-endian. -/
def leBytes : Nat → Nat → List Byte
  | 0, _ => []
  | n + 1, x => BitVec.ofNat 8 x :: leBytes n (x / 256)

/-- The `n` low bytes of a number, big-endian. -/
def beBytes (n x : Nat) : List Byte := (leBytes n x).reverse

/-- Two's complement value of the `w` low bits. -/
def sgn (w x : Nat) : Int :=
  let y := x % 2 ^ w
  if y < 2 ^ (w - 1) then (y : Int) else (y : Int) - 2 ^ w

/-- The `w`-bit two's complement of an integer. -/
def tc (w : Nat) (x : Int) : Nat := (x % (2 ^ w : Int)).toNat

/-- An integer held within a signed field of `w` bits, saturating. -/
def satS (w : Nat) (x : Int) : Int := max (-(2 ^ (w - 1) : Int)) (min x (2 ^ (w - 1) - 1))

/-- A number held within an unsigned field of `w` bits, saturating. -/
def satU (w : Nat) (x : Int) : Nat := (max 0 (min x (2 ^ w - 1 : Int))).toNat

def testBit (x i : Nat) : Bool := x / 2 ^ i % 2 = 1
def setBit (x i : Nat) : Nat := if testBit x i then x else x + 2 ^ i
def clearBit (x i : Nat) : Nat := if testBit x i then x - 2 ^ i else x
def putBit (x i : Nat) (b : Bool) : Nat := if b then setBit x i else clearBit x i

/-- `bs` with the bytes from `ofs` on replaced by `new`. -/
def splice (bs : List Byte) (ofs : Nat) (new : List Byte) : List Byte :=
  bs.take ofs ++ new ++ bs.drop (ofs + new.length)

/-- The `n` bytes from `ofs`, with 0 beyond the end. -/
def slice (bs : List Byte) (ofs n : Nat) : List Byte :=
  let xs := (bs.drop ofs).take n
  xs ++ List.replicate (n - xs.length) 0

/-- Ceiling of a quotient. -/
def ceilDiv (a b : Nat) : Nat := (a + b - 1) / b

/-! ### Registers -/

/-- The bits of a register that have a shadow and a committed copy. -/
def RegRow.rwcMask (row : RegRow) : Word :=
  BitVec.ofNat 32 (row.flds.foldl (fun m f => if f.acc = .rwc then m + (2 ^ f.w - 1) * 2 ^ f.lo else m) 0)
/-- The reset value and those bits of the register at an offset. -/
def resetAt (a : Nat) : Word := match regAt a with
  | some (row, i) => BitVec.ofNat 32 (row.reg.reset i)
  | none => 0

def rwcAt (a : Nat) : Word := match regAt a with
  | some (row, _) => row.rwcMask
  | none => 0

/-- A register's live value, or its shadow copy (R10). An instance that the register does not have keeps no write. -/
def State.reg (s : State) (r : Reg) (i : Nat) : Word :=
  if i < r.count then SMap.get (BitVec.ofNat 32 (r.reset i)) s.regs (r.at i) else BitVec.ofNat 32 (r.reset i)
def State.setReg (s : State) (r : Reg) (i : Nat) (w : Word) : State :=
  if i < r.count then { s with regs := SMap.set (BitVec.ofNat 32 (r.reset i)) s.regs (r.at i) w } else s

/-- A register's committed copy (R114). -/
def State.comReg (s : State) (r : Reg) (i : Nat) : Word :=
  if i < r.count then SMap.get (BitVec.ofNat 32 (r.reset i)) s.committed (r.at i) else BitVec.ofNat 32 (r.reset i)
def State.setCom (s : State) (r : Reg) (i : Nat) (w : Word) : State :=
  if i < r.count then { s with committed := SMap.set (BitVec.ofNat 32 (r.reset i)) s.committed (r.at i) w } else s

/-- A field's live (or shadow) value. -/
def State.rd (s : State) (f : Fld) (i : Nat := 0) : Nat := f.get (s.reg f.reg i)
def State.bit (s : State) (f : Fld) (i : Nat := 0) : Bool := s.rd f i ≠ 0
def State.rdS (s : State) (f : Fld) (i : Nat := 0) : Int := sgn f.w (s.rd f i)
def State.wr (s : State) (f : Fld) (i v : Nat) : State := s.setReg f.reg i (f.put (s.reg f.reg i) v)
def State.wrB (s : State) (f : Fld) (i : Nat) (b : Bool) : State := s.wr f i (if b then 1 else 0)
def State.wrS (s : State) (f : Fld) (i : Nat) (x : Int) : State := s.wr f i (tc f.w x)

/-- A field's committed value: what the block acts on (R118). -/
def State.com (s : State) (f : Fld) (i : Nat := 0) : Nat := f.get (s.comReg f.reg i)
def State.comB (s : State) (f : Fld) (i : Nat := 0) : Bool := s.com f i ≠ 0
def State.comS (s : State) (f : Fld) (i : Nat := 0) : Int := sgn f.w (s.com f i)
def State.wrCom (s : State) (f : Fld) (i v : Nat) : State := s.setCom f.reg i (f.put (s.comReg f.reg i) v)

/-- Adds to a counter field that stops at its maximum. -/
def State.addSat (s : State) (f : Fld) (i n : Nat) : State := s.wr f i (min (s.rd f i + n) (2 ^ f.w - 1))

/-- Adds to a counter field that wraps. -/
def State.addWrap (s : State) (f : Fld) (i n : Nat) : State := s.wr f i (s.rd f i + n)

/-! ### Modes and rails (R69, R70) -/

def mDORMANT : Nat := 0
def mWARMUP : Nat := 1
def mTIMEKEEP : Nat := 2
def mFORWARD : Nat := 3
def mCALIBRATE : Nat := 4
def mISOLATE : Nat := 5

def State.mode (s : State) : Nat := s.rd PWR_MODE_CTL.CUR_MODE
/-- FORWARD or CALIBRATE. -/
def State.fwdMode (s : State) : Bool := s.mode = mFORWARD || s.mode = mCALIBRATE
/-- TIMEKEEP, FORWARD or CALIBRATE. -/
def State.tkMode (s : State) : Bool := s.mode = mTIMEKEEP || s.fwdMode

/-- A ramp that began 2 ms ago or earlier without a RAIL_RAMP_TIMEOUT has reached regulation (R46). -/
def State.rampOver (s : State) (r : Nat) : Bool := s.pwr.ramp.any (fun e => e.1 = r && decide (e.2 + 3200000 < s.now))
/-- Rail `r` is known to be in regulation. -/
def State.railOk (s : State) (r : Nat) : Bool := testBit (s.rd PWR_RAIL_STAT.RAIL_OK) r || s.rampOver r
/-- RAIL_OK shows rail `r`: it is known to be in regulation, or its ramp has reached regulation, an instant that R46 leaves
open within its 2 ms (log entry 50). -/
def State.railShown (s : State) (r : Nat) : Bool :=
  s.railOk r || s.pwr.ramp.any (fun e => e.1 = r && decide (e.2 + Config.rampTime (8 * e.2 + r) ≤ s.now))
def State.railOks (s : State) : Nat := (List.range 8).foldl (fun w r => if s.railShown r then setBit w r else w) 0
def State.railReq (s : State) (r : Nat) : Bool := testBit (s.rd PWR_RAIL_STAT.RAIL_REQ) r

/-- Rail of a register block (R491); the BAR2 windows go with the mailbox block. -/
def blockRail : Nat → Nat
  | 0x3 => 1 | 0x5 => 1 | 0x4 => 2 | 0x6 => 4 | 0x7 => 4 | 0x8 => 4 | 0x9 => 4 | 0xA => 4 | 0xB => 4
  | 0xD => 7 | _ => 6

/-! ### Time (R7, R83, R304, R448) -/

/-- Ticks in a microsecond, a millisecond and a second. -/
def usT : Nat := 1600
def msT : Nat := 1600000
def sT : Nat := 1600000000

/-- Units of 2^-40 ns in a tick of nominal length (R304), and in 1 ns. -/
def tickU : Nat := 0xA000000000
def nsU : Nat := 0x10000000000

/-- The tick counter runs (R83). -/
def State.tickRun (s : State) : Bool := s.pwr.mdllAt.isSome

/-- Number of the present event tick: counts from 0 at MDLL lock (R128). -/
def State.tick (s : State) : Nat := match s.pwr.mdllAt with
  | some a => s.now - a
  | none => 0

/-- Model time of a tick number. -/
def State.tickAt (s : State) (t : Nat) : Nat := (s.pwr.mdllAt.getD 0) + t

/-! ### Mailbox memory (R98) -/

/-- One byte of mailbox memory; a byte never written reads 0 (R99). -/
def Memory.get : List Host.Cell → Nat → Byte
  | [], _ => 0
  | (k, b) :: m, a => if k = a then b else Memory.get m a

/-- Write of one byte, keeping addresses rising and no byte listed that reads as an unlisted one does. -/
def Memory.set (m : List Host.Cell) (a : Nat) (b : Byte) : List Host.Cell := SMap.set (0 : Byte) m a b

def Memory.setBytes (m : List Host.Cell) : Nat → List Byte → List Host.Cell
  | _, [] => m
  | a, b :: bs => Memory.setBytes (Memory.set m a b) (a + 1) bs

/-- The canonical form of mailbox memory: addresses strictly rising, no listed byte 0. -/
def Memory.wf (m : List Host.Cell) : Bool :=
  m.all (fun c => c.2 ≠ 0) && (m.map (·.1)).Pairwise (· < ·)

/-- A byte, and a little-endian field, of mailbox `n` at offset `o`. -/
def State.mb (s : State) (n o : Nat) : Byte := Memory.get s.mem (4096 * n + o)
def State.mbytes (s : State) (n o len : Nat) : List Byte := (List.range len).map (fun i => s.mb n (o + i))
def State.mf (s : State) (n o len : Nat) : Nat := leNat (s.mbytes n o len)
def State.setMb (s : State) (n o : Nat) (bs : List Byte) : State :=
  { s with mem := Memory.setBytes s.mem (4096 * n + o) bs }

/-! ### Output record -/

def State.emit (s : State) (o : Out) : State := { s with out := s.out ++ [o] }

/-- Object updates. -/
def State.mbxAt (s : State) (n : Nat) : Mbx := SMap.at! s.gr.mbx n
def State.updMbx (s : State) (n : Nat) (f : Mbx → Mbx) : State :=
  { s with gr := { s.gr with mbx := SMap.upd s.gr.mbx n f } }
def State.table (s : State) (t : Nat) : Table := SMap.at! s.gr.tables t
def State.updTable (s : State) (t : Nat) (f : Table → Table) : State :=
  { s with gr := { s.gr with tables := SMap.upd s.gr.tables t f } }
def State.port (s : State) (n : Nat) : Port := SMap.at! s.ports n
def State.updPort (s : State) (n : Nat) (f : Port → Port) : State := { s with ports := SMap.upd s.ports n f }
def State.car (s : State) (c : Nat) : Carrier := SMap.at! s.cars c
def State.updCar (s : State) (c : Nat) (f : Carrier → Carrier) : State := { s with cars := SMap.upd s.cars c f }
def State.sheaf (s : State) (n : Nat) : Sheaf := SMap.at! s.sheaves n
def State.updSheaf (s : State) (n : Nat) (f : Sheaf → Sheaf) : State := { s with sheaves := SMap.upd s.sheaves n f }

def State.updPwr (s : State) (f : Pwr → Pwr) : State := { s with pwr := f s.pwr }
def State.updBoot (s : State) (f : Boot → Boot) : State := { s with boot := f s.boot }
def State.updGr (s : State) (f : Grange → Grange) : State := { s with gr := f s.gr }
def State.updEvt (s : State) (f : Evt → Evt) : State := { s with evt := f s.evt }
def State.updFwd (s : State) (f : Fwd → Fwd) : State := { s with fwd := f s.fwd }
def State.updGrn (s : State) (f : Grn → Grn) : State := { s with grn := f s.grn }
def State.updAlm (s : State) (f : Alm → Alm) : State := { s with alm := f s.alm }

/-- Folds an update over the members of a list. -/
def State.each {α : Type} (s : State) (l : List α) (f : State → α → State) : State := l.foldl f s

end Sys2Proof.Machine
end

