-- ==== Sys2Proof/Machine/Flags.lean ====
section
/-! DEFINITION. Sys2Proof/Machine/Flags.lean: events and what follows from them: status bits, log records, summary
bits and MSI-X vectors (R447-R453), the pins that follow status (R46, R49, R50, R62, R67), and the Tally counters
(R158-R160). -/
namespace Sys2Proof.Machine

/-- An event: status register and bit, precedence (R449), block, and number of the status register in the block
(R451). -/
structure Ev where
  stat : Reg
  bitNo : Nat
  prec : Nat
  block : Nat
  sub : Nat
  deriving DecidableEq, Repr

def EV.PWR_A_LOST : Ev := ⟨R.PWR_EVT_STAT, 0, 10, 0xD, 0⟩
def EV.PWR_B_LOST : Ev := ⟨R.PWR_EVT_STAT, 1, 10, 0xD, 0⟩
def EV.PWR_A_RESTORED : Ev := ⟨R.PWR_EVT_STAT, 2, 10, 0xD, 0⟩
def EV.PWR_B_RESTORED : Ev := ⟨R.PWR_EVT_STAT, 3, 10, 0xD, 0⟩
def EV.PWR_RIDE_THROUGH : Ev := ⟨R.PWR_EVT_STAT, 4, 10, 0xD, 0⟩
def EV.PWR_POWER_FAULT : Ev := ⟨R.PWR_EVT_STAT, 5, 2, 0xD, 0⟩
def EV.PWR_RAIL_FAULT : Ev := ⟨R.PWR_EVT_STAT, 6, 10, 0xD, 0⟩
def EV.PWR_TEMP_WARN : Ev := ⟨R.PWR_EVT_STAT, 7, 10, 0xD, 0⟩
def EV.PWR_TEMP_CRIT : Ev := ⟨R.PWR_EVT_STAT, 8, 7, 0xD, 0⟩
def EV.PWR_SMB_ERROR : Ev := ⟨R.PWR_EVT_STAT, 9, 10, 0xD, 0⟩
def EV.PRT_LINK_UP : Ev := ⟨R.PRT_EVT_STAT, 0, 6, 0x1, 0⟩
def EV.PRT_LINK_DOWN : Ev := ⟨R.PRT_EVT_STAT, 1, 6, 0x1, 0⟩
def EV.PRT_LINK_FAIL : Ev := ⟨R.PRT_EVT_STAT, 2, 10, 0x1, 0⟩
def EV.PRT_TRAIN_TRANSIENT : Ev := ⟨R.PRT_EVT_STAT, 3, 10, 0x1, 0⟩
def EV.PRT_FEC_DEGRADE : Ev := ⟨R.PRT_EVT_STAT, 4, 10, 0x1, 0⟩
def EV.PRT_VERIFY_FAIL : Ev := ⟨R.PRT_EVT_STAT, 5, 10, 0x1, 0⟩
def EV.PRT_GLITCH : Ev := ⟨R.PRT_EVT_STAT, 6, 10, 0x1, 0⟩
def EV.SHF_CAR_ACTIVE : Ev := ⟨R.SHF_CAR_EVT_STAT, 0, 10, 0x2, 1⟩
def EV.SHF_CAR_DOWN : Ev := ⟨R.SHF_CAR_EVT_STAT, 1, 5, 0x2, 1⟩
def EV.SHF_CAR_TRAIN_FAIL : Ev := ⟨R.SHF_CAR_EVT_STAT, 2, 10, 0x2, 1⟩
def EV.SHF_CAR_TRAIN_TRANSIENT : Ev := ⟨R.SHF_CAR_EVT_STAT, 3, 10, 0x2, 1⟩
def EV.SHF_CAR_SKEW_EXCESS : Ev := ⟨R.SHF_CAR_EVT_STAT, 4, 10, 0x2, 1⟩
def EV.SHF_CAR_MISCONNECT : Ev := ⟨R.SHF_CAR_EVT_STAT, 5, 10, 0x2, 1⟩
def EV.SHF_CAR_JOIN_NAK : Ev := ⟨R.SHF_CAR_EVT_STAT, 6, 10, 0x2, 1⟩
def EV.SHF_CAR_PARKED : Ev := ⟨R.SHF_CAR_EVT_STAT, 7, 10, 0x2, 1⟩
def EV.SHF_GRAIN_LOST : Ev := ⟨R.SHF_EVT_STAT, 0, 10, 0x2, 0⟩
def EV.SHF_SYNC_LOSS : Ev := ⟨R.SHF_EVT_STAT, 1, 10, 0x2, 0⟩
def EV.SHF_DENSITY : Ev := ⟨R.SHF_EVT_STAT, 2, 10, 0x2, 0⟩
def EV.SHF_RESYNC : Ev := ⟨R.SHF_EVT_STAT, 3, 10, 0x2, 0⟩
def EV.FWD_BAD_ENTRY : Ev := ⟨R.FWD_EVT_STAT, 0, 10, 0x3, 0⟩
def EV.FWD_VER_FULL : Ev := ⟨R.FWD_EVT_STAT, 1, 10, 0x3, 0⟩
def EV.FWD_PIN_REFUSED : Ev := ⟨R.FWD_EVT_STAT, 2, 10, 0x3, 0⟩
def EV.FWD_RT_FULL : Ev := ⟨R.FWD_EVT_STAT, 3, 10, 0x3, 0⟩
def EV.FWD_PLANE_DRAIN_DONE : Ev := ⟨R.FWD_EVT_STAT, 4, 10, 0x3, 0⟩
def EV.FWD_FAILOVER : Ev := ⟨R.FWD_EVT_STAT, 5, 10, 0x3, 0⟩
def EV.FWD_LINK_FLUSH : Ev := ⟨R.FWD_EVT_STAT, 6, 10, 0x3, 0⟩
def EV.GRN_DOUBLE_FREE : Ev := ⟨R.GRN_EVT_STAT, 0, 10, 0x4, 0⟩
def EV.GRN_NONOWNER_FREE : Ev := ⟨R.GRN_EVT_STAT, 1, 10, 0x4, 0⟩
def EV.GRN_LEAK : Ev := ⟨R.GRN_EVT_STAT, 2, 10, 0x4, 0⟩
def EV.GRN_EMPTY_RESULT : Ev := ⟨R.GRN_EVT_STAT, 3, 10, 0x4, 0⟩
def EV.GRN_SILO_FULL : Ev := ⟨R.GRN_EVT_STAT, 4, 10, 0x4, 0⟩
def EV.GRN_PAGE_CRC : Ev := ⟨R.GRN_EVT_STAT, 5, 10, 0x4, 0⟩
def EV.GRN_RETIRED : Ev := ⟨R.GRN_EVT_STAT, 6, 10, 0x4, 0⟩
def EV.GRN_SWEEP_DONE : Ev := ⟨R.GRN_EVT_STAT, 7, 10, 0x4, 0⟩
def EV.ALM_SWITCHED : Ev := ⟨R.ALM_EVT_STAT, 0, 10, 0x5, 0⟩
def EV.ALM_RATE_SHORT : Ev := ⟨R.ALM_EVT_STAT, 1, 10, 0x5, 0⟩
def EV.ALM_OFFSET_WARN : Ev := ⟨R.ALM_EVT_STAT, 2, 10, 0x5, 0⟩
def EV.ALM_MISSED : Ev := ⟨R.ALM_EVT_STAT, 3, 10, 0x5, 0⟩
def EV.ALM_OVERRUN : Ev := ⟨R.ALM_EVT_STAT, 4, 10, 0x5, 0⟩
def EV.ALM_LATE_LAND : Ev := ⟨R.ALM_EVT_STAT, 5, 10, 0x5, 0⟩
def EV.ALM_BAD_ENTRY : Ev := ⟨R.ALM_EVT_STAT, 6, 10, 0x5, 0⟩
def EV.ALM_REALIGNED : Ev := ⟨R.ALM_EVT_STAT, 7, 10, 0x5, 0⟩
def EV.TBS_FREE_RUN : Ev := ⟨R.TBS_EVT_STAT, 0, 8, 0x6, 0⟩
def EV.TBS_STEP : Ev := ⟨R.TBS_EVT_STAT, 1, 8, 0x6, 0⟩
def EV.TBS_TRIG_LATE : Ev := ⟨R.TBS_EVT_STAT, 2, 8, 0x6, 0⟩
def EV.TBS_TRIG_SKIP : Ev := ⟨R.TBS_EVT_STAT, 3, 8, 0x6, 0⟩
def EV.TBS_RPT_LOST : Ev := ⟨R.TBS_EVT_STAT, 4, 8, 0x6, 0⟩
def EV.TBS_REPORT : Ev := ⟨R.TBS_EVT_STAT, 5, 8, 0x6, 0⟩
def EV.SHF_TT_LINE_LOST : Ev := ⟨R.SHF_TT_EVT_STAT, 0, 4, 0x2, 2⟩
def EV.SHF_TT_OUTLIER : Ev := ⟨R.SHF_TT_EVT_STAT, 1, 10, 0x2, 2⟩
def EV.SHF_TT_ASYM_JUMP : Ev := ⟨R.SHF_TT_EVT_STAT, 2, 10, 0x2, 2⟩
def EV.SHF_TT_CP_MISMATCH : Ev := ⟨R.SHF_TT_EVT_STAT, 3, 10, 0x2, 2⟩
def EV.SHF_TT_BUDGET : Ev := ⟨R.SHF_TT_EVT_STAT, 4, 10, 0x2, 2⟩
def EV.SHF_TT_STEPS_OVER : Ev := ⟨R.SHF_TT_EVT_STAT, 5, 10, 0x2, 2⟩
def EV.SHF_TT_F_READY : Ev := ⟨R.SHF_TT_EVT_STAT, 6, 10, 0x2, 2⟩
def EV.REF_SWITCH : Ev := ⟨R.REF_EVT_STAT, 0, 8, 0x7, 0⟩
def EV.REF_REF_LOSS : Ev := ⟨R.REF_EVT_STAT, 1, 4, 0x7, 0⟩
def EV.REF_DISQUAL : Ev := ⟨R.REF_EVT_STAT, 2, 8, 0x7, 0⟩
def EV.REF_HOLDOVER : Ev := ⟨R.REF_EVT_STAT, 3, 8, 0x7, 0⟩
def EV.REF_OUT_OF_SPEC : Ev := ⟨R.REF_EVT_STAT, 4, 8, 0x7, 0⟩
def EV.REF_FREERUN : Ev := ⟨R.REF_EVT_STAT, 5, 8, 0x7, 0⟩
def EV.REF_DISAGREE : Ev := ⟨R.REF_EVT_STAT, 6, 8, 0x7, 0⟩
def EV.REF_TOD_ERR : Ev := ⟨R.REF_EVT_STAT, 7, 8, 0x7, 0⟩
def EV.REF_SW_STALE : Ev := ⟨R.REF_EVT_STAT, 8, 8, 0x7, 0⟩
def EV.REF_PE_OVERFLOW : Ev := ⟨R.REF_EVT_STAT, 9, 8, 0x7, 0⟩
def EV.REF_MODEL_VALID : Ev := ⟨R.REF_EVT_STAT, 10, 8, 0x7, 0⟩
def EV.REF_PPSO_SKIP : Ev := ⟨R.REF_EVT_STAT, 11, 8, 0x7, 0⟩
def EV.SYN_LOCK_LOST : Ev := ⟨R.SYN_EVT_STAT, 0, 8, 0x8, 0⟩
def EV.SYN_CLAMP : Ev := ⟨R.SYN_EVT_STAT, 1, 8, 0x8, 0⟩
def EV.SYN_RAMP_ABORT : Ev := ⟨R.SYN_EVT_STAT, 2, 8, 0x8, 0⟩
def EV.SYN_RAMP_DONE : Ev := ⟨R.SYN_EVT_STAT, 3, 8, 0x8, 0⟩
def EV.SYN_STEP_APPLIED : Ev := ⟨R.SYN_EVT_STAT, 4, 8, 0x8, 0⟩
def EV.SYN_OUT_SWITCH : Ev := ⟨R.SYN_EVT_STAT, 5, 8, 0x8, 0⟩
def EV.TDC_RUN_DONE : Ev := ⟨R.TDC_EVT_STAT, 0, 8, 0x9, 0⟩
def EV.TDC_TIMEOUT : Ev := ⟨R.TDC_EVT_STAT, 1, 8, 0x9, 0⟩
def EV.TDC_UNRESOLVED : Ev := ⟨R.TDC_EVT_STAT, 2, 8, 0x9, 0⟩
def EV.TDC_FIFO_FULL : Ev := ⟨R.TDC_EVT_STAT, 3, 8, 0x9, 0⟩
def EV.TDC_BIN_CAL_DONE : Ev := ⟨R.TDC_EVT_STAT, 4, 8, 0x9, 0⟩
def EV.TDC_INT_FAULT : Ev := ⟨R.TDC_EVT_STAT, 5, 8, 0x9, 0⟩
def EV.TDC_ABORTED : Ev := ⟨R.TDC_EVT_STAT, 6, 8, 0x9, 0⟩
def EV.CAL_RUN_DONE : Ev := ⟨R.CAL_EVT_STAT, 0, 8, 0xA, 0⟩
def EV.CAL_RUN_ABORT : Ev := ⟨R.CAL_EVT_STAT, 1, 8, 0xA, 0⟩
def EV.CAL_STALE : Ev := ⟨R.CAL_EVT_STAT, 2, 8, 0xA, 0⟩
def EV.CAL_RANGE : Ev := ⟨R.CAL_EVT_STAT, 3, 8, 0xA, 0⟩
def EV.CAL_LASTING : Ev := ⟨R.CAL_EVT_STAT, 4, 8, 0xA, 0⟩
def EV.CAL_OCXO_LIMIT : Ev := ⟨R.CAL_EVT_STAT, 5, 8, 0xA, 0⟩
def EV.CAL_TRACE_DONE : Ev := ⟨R.CAL_EVT_STAT, 6, 8, 0xA, 0⟩
def EV.CAL_FREQ_DONE : Ev := ⟨R.CAL_EVT_STAT, 7, 8, 0xA, 0⟩
def EV.EVT_TRANSIENT : Ev := ⟨R.EVT_STAT, 0, 10, 0xB, 0⟩
def EV.EVT_LASTING : Ev := ⟨R.EVT_STAT, 1, 7, 0xB, 0⟩
def EV.EVT_RESERVED_ENC : Ev := ⟨R.EVT_STAT, 2, 10, 0xB, 0⟩
def EV.EVT_COUNTERS_LOST : Ev := ⟨R.EVT_STAT, 3, 7, 0xB, 0⟩
def EV.EVT_LOG_LOST : Ev := ⟨R.EVT_STAT, 4, 10, 0xB, 0⟩
def EV.EVT_D2D_RELOADED : Ev := ⟨R.EVT_STAT, 5, 10, 0xB, 0⟩
def EV.EVT_HALF_RANGE : Ev := ⟨R.EVT_STAT, 6, 9, 0xB, 0⟩
def EV.TWN_TAKEOVER : Ev := ⟨R.TWN_EVT_STAT, 0, 3, 0xC, 0⟩
def EV.TWN_RELINQUISH : Ev := ⟨R.TWN_EVT_STAT, 1, 3, 0xC, 0⟩
def EV.TWN_PARTNER_LOST : Ev := ⟨R.TWN_EVT_STAT, 2, 10, 0xC, 0⟩
def EV.TWN_PARTNER_FOUND : Ev := ⟨R.TWN_EVT_STAT, 3, 10, 0xC, 0⟩
def EV.TWN_DUAL_LEAD : Ev := ⟨R.TWN_EVT_STAT, 4, 10, 0xC, 0⟩
def EV.TWN_LANE_DOWN : Ev := ⟨R.TWN_EVT_STAT, 5, 10, 0xC, 0⟩
def EV.TWN_NOT_READY : Ev := ⟨R.TWN_EVT_STAT, 6, 10, 0xC, 0⟩
def EV.TWN_PARTNER_NOT_READY : Ev := ⟨R.TWN_EVT_STAT, 7, 10, 0xC, 0⟩
def EV.TWN_RESYNC_DONE : Ev := ⟨R.TWN_EVT_STAT, 8, 10, 0xC, 0⟩
def EV.TWN_REVERT : Ev := ⟨R.TWN_EVT_STAT, 9, 10, 0xC, 0⟩
def EV.TWN_NO_STANDBY : Ev := ⟨R.TWN_EVT_STAT, 10, 10, 0xC, 0⟩
def EV.TWN_LATE_APPLY : Ev := ⟨R.TWN_EVT_STAT, 11, 10, 0xC, 0⟩
def EV.TWN_PAIR_MISMATCH : Ev := ⟨R.TWN_EVT_STAT, 12, 10, 0xC, 0⟩
/-- Adds a record for the log (R451): only while the event engine runs, be the tick counter locked or not, and only of
precedence MIN_PREC or better. -/
def State.logAdd (s : State) (prec block code obj : Nat) : State :=
  if s.railOk 4 && s.mode ≠ mDORMANT && decide (prec ≤ s.com EVT_LOG_CFG.MIN_PREC) then
    s.updEvt fun e => { e with due := e.due ++
      [{ tick := s.tick, prec := prec, block := block, code := code, obj := obj }] }
  else s

/-- Raises an event of instance `i` with OBJECT `obj`: its status bit is set, if its block has power, and its record made
(R450, R451). -/
def State.raiseObj (s : State) (e : Ev) (i obj : Nat) : State :=
  let s := if s.railOk (blockRail e.block) then s.setReg e.stat i (s.reg e.stat i ||| BitVec.ofNat 32 (2 ^ e.bitNo)) else s
  s.logAdd e.prec e.block (e.sub * 32 + e.bitNo) obj

/-- The instance of a status register that an event of object `i` sets its bit in: a block with one status register has
no other (R447). -/
def Ev.inst (e : Ev) (i : Nat) : Nat := if e.stat.count = 1 then 0 else i

def State.raise (s : State) (e : Ev) (i : Nat := 0) : State := s.raiseObj e (e.inst i) i

/-- A reserved encoding, a committed-view write or a bad access (R447). -/
def State.reservedEnc (s : State) (ofs : Nat) (smbus : Bool := false) : State :=
  if s.railOk 4 then
    let s := s.setReg R.EVT_RESERVED_OFS 0 (BitVec.ofNat 32 (ofs % 2 ^ 31 + if smbus then 2 ^ 31 else 0))
    s.raise EV.EVT_RESERVED_ENC
  else s

/-! ### Summary bits and vectors -/

/-- Some instance of a status register has a bit set that its mask routes. -/
def State.anyRouted (s : State) (stat mask : Reg) : Bool :=
  s.regs.any (fun e => match stat.inst? e.1 with
    | some i => (e.2 &&& s.reg mask i) ≠ 0
    | none => false)

/-- EVT_SUM (R453). -/
def State.evtSum (s : State) : Nat :=
  let bits : List Bool :=
    [s.anyRouted R.PWR_EVT_STAT R.PWR_ALERT_MASK,
     s.anyRouted R.PRT_EVT_STAT R.PRT_EVT_MASK || s.bit PRT_OPT_STAT.INT_EVT,
     s.anyRouted R.SHF_EVT_STAT R.SHF_EVT_MASK || s.anyRouted R.SHF_CAR_EVT_STAT R.SHF_CAR_EVT_MASK,
     s.anyRouted R.SHF_TT_EVT_STAT R.SHF_TT_EVT_MASK,
     s.anyRouted R.FWD_EVT_STAT R.FWD_EVT_MASK,
     s.anyRouted R.GRN_EVT_STAT R.GRN_EVT_MASK,
     s.anyRouted R.ALM_EVT_STAT R.ALM_EVT_MASK,
     s.anyRouted R.TBS_EVT_STAT R.TBS_EVT_MASK,
     s.anyRouted R.REF_EVT_STAT R.REF_EVT_MASK,
     s.anyRouted R.SYN_EVT_STAT R.SYN_EVT_MASK,
     s.anyRouted R.TDC_EVT_STAT R.TDC_EVT_MASK,
     s.anyRouted R.CAL_EVT_STAT R.CAL_EVT_MASK,
     s.anyRouted R.TWN_EVT_STAT R.TWN_EVT_MASK,
     s.anyRouted R.EVT_STAT R.EVT_MASK,
     !s.evt.log.isEmpty]
  bits.foldr (fun b acc => 2 * acc + if b then 1 else 0) 0

/-- Vector, 18-31, of summary bit `i` (R453). -/
def State.vecOf (s : State) (i : Nat) : Nat :=
  18 + (if i < 8 then (s.comReg R.EVT_VEC_MAP_0 0).toNat / 16 ^ i % 16
    else (s.comReg R.EVT_VEC_MAP_1 0).toNat / 16 ^ (i - 8) % 16)

/-- The OR of the summary bits of each vector, as a mask of vectors. -/
def State.vecLevel (s : State) : Nat :=
  let sum := s.evtSum
  (List.range 15).foldl (fun l i => if testBit sum i then setBit l (s.vecOf i) else l) 0

/-- Sends an MSI-X message, or sets the pending bit of a masked vector (R127). Without an endpoint, or with its link
down, there is none. -/
def State.msix (s : State) (v : Nat) : State :=
  if !s.railOk 6 || !s.gr.linkUp then s
  else if testBit s.gr.masked v then s.updGr fun g => { g with msixPend := setBit g.msixPend v }
  else s.emit (.msix v)

/-- Sends the vectors whose OR has risen (R453); without rail 4 there are no summary bits. -/
def State.vectors (s : State) : State :=
  let new := if s.railOk 4 then s.vecLevel else 0
  let old := s.evt.level
  let s := s.updEvt fun e => { e with level := new }
  if new = old then s
  else (List.range 32).foldl (fun s v => if testBit new v && !testBit old v then s.msix v else s) s

/-! ### Pins that follow the state -/

/-- PGOOD (R46, R47): every rail that RAIL_REQ shows is in regulation, leaving aside a ramp younger than 2 ms; low in
the tick of a power fault, in which the failed rails also switch off (log entry 76). -/
def State.pgood (s : State) : Bool :=
  s.pwr.aon = .up && s.pwr.faultAt ≠ some s.now &&
    (List.range 8).all (fun r => !s.railReq r || s.railOk r || s.pwr.ramp.any (fun e => e.1 = r))

/-- ACT of fault class `c` in the committed set (R444). -/
def State.faultAct (s : State) (c : Nat) : Nat := (s.comReg R.EVT_FAULT_ACT 0).toNat / 4 ^ c % 4

/-- FAULT_N (R49, R444): released (true) unless a cause stands; released without power. -/
def State.faultN (s : State) : Bool :=
  !(s.pwr.aon = .up) ||
  !(s.bit PWR_EVT_STAT.POWER_FAULT || s.bit PWR_EVT_STAT.TEMP_CRIT ||
    (List.range 11).any (fun c => testBit (s.rd EVT_LASTING.CLASS) c &&
      (s.faultAct c = 1 || s.faultAct c = 2)))

/-- FEED_A_OK and FEED_B_OK (R50). -/
def State.feedOk (s : State) (f : Fin 2) : Bool :=
  s.pwr.aon = .up && (if f = 0 then s.pwr.feedA.connected else s.pwr.feedB.connected)

/-- SMB_ALERT_N is low (R67). -/
def State.smbAlert (s : State) : Bool :=
  (s.reg R.PWR_EVT_STAT 0 &&& s.reg R.PWR_ALERT_MASK 0) ≠ 0

/-! ### Tally counters -/

/-- The value of a slot: HBM plus accumulator, 48 bits (R158). -/
def State.slot (s : State) (n : Nat) : Nat := (SMap.get 0 s.tally n + SMap.get 0 s.tacc n) % 2 ^ 48

/-- Counts `k` in slot `n`; a passage from below 2^47 raises the half-range event (R159). Without rail 1 the Tally
does not count. -/
def State.count (s : State) (n : Nat) (k : Nat := 1) : State :=
  if k = 0 || !s.railOk 1 then s
  else
    let old := s.slot n
    let s := { s with tacc := SMap.set 0 s.tacc n (SMap.get 0 s.tacc n + k) }
    if old < 2 ^ 47 && 2 ^ 47 ≤ old + k then s.raiseObj EV.EVT_HALF_RANGE 0 n else s

/-- Folds every accumulator into HBM (R158). -/
def State.fold (s : State) : State :=
  let t := s.tacc.foldl (fun m e => SMap.set 0 m e.1 ((SMap.get 0 m e.1 + e.2) % 2 ^ 48)) s.tally
  { s with tally := t, tacc := [] }

/-- Sets a slot to 0 (R160). -/
def State.clearSlot (s : State) (n : Nat) : State :=
  { s with tally := SMap.set 0 s.tally n 0, tacc := SMap.set 0 s.tacc n 0 }

/-- Slots of the blocks (R513). -/
def prtSlot (n i : Nat) : Nat := 128 * n + i
def shfSlot (sh i : Nat) : Nat := 32768 + 128 * sh + i
def carSlot (c i : Nat) : Nat := 36864 + 64 * c + i
def poolSlot (p i : Nat) : Nat := 45056 + 64 * p + i
def siloSlot (i : Nat) : Nat := 45568 + i
def almSlot (sh i : Nat) : Nat := 45632 + 32 * sh + i
def stmpSlot (n i : Nat) : Nat := 46656 + 16 * n + i
def ttSlot (sh i : Nat) : Nat := 50752 + 16 * sh + i
def refSlot (j i : Nat) : Nat := 51264 + 16 * j + i
def twnSlot (i : Nat) : Nat := 51376 + i
def queueSlot (e q i : Nat) : Nat := 65536 + 256 * e + 16 * q + i
def srcSlot (sr i : Nat) : Nat := 139264 + 32 * sr + i
def grnSrcSlot (sr i : Nat) : Nat := 148480 + 16 * sr + i

end Sys2Proof.Machine
end

