-- ==== Sys2Proof/Machine/Operands.lean ====
section
/-! DEFINITION. Sys2Proof/Machine/Operands.lean: the operand forms of the block: mailbox header and payload fields
(R98, R104), status codes (R103), cyclic codes and checksums (R168, R171, R173, R185, R209, R65). -/
namespace Sys2Proof.Machine

/-! ### Status codes (R103) -/
def ST_OK : Nat := 0x0
def ST_BUSY : Nat := 0x1
def ST_TRANSIENT_RECOVERED : Nat := 0x2
def ST_LASTING_FAULT : Nat := 0x3
def ST_REJECT_INCONSISTENT : Nat := 0x4
def ST_ZERO_INVALID : Nat := 0x5
def ST_UNKNOWN_OPCODE : Nat := 0x6
def ST_BAD_LENGTH : Nat := 0x7
def ST_BAD_ARGUMENT : Nat := 0x8
def ST_WRONG_MODE : Nat := 0x9
def ST_TOO_LATE : Nat := 0xA
def ST_TIMEOUT : Nat := 0xB
def ST_AUTH_FAIL : Nat := 0xC

/-! ### Mailbox header and payload -/
def State.opcode (s : State) (m : Nat) : Nat := s.mf m 0 2
def State.mflags (s : State) (m : Nat) : Nat := s.mf m 2 2
def State.plen (s : State) (m : Nat) : Nat := s.mf m 4 2
/-- Payload field of `n` bytes at payload offset `o`. -/
def State.pay (s : State) (m o n : Nat) : Nat := s.mf m (64 + o) n
def State.payBytes (s : State) (m o n : Nat) : List Byte := s.mbytes m (64 + o) n

/-- A check of R104: the status of its failure, plus 65,536 times its DETAIL, and whether it fails. -/
abbrev Check := Nat × Bool

def chk (status : Nat) (bad : Bool) : Check := (status, bad)

/-- The first failure in the order of the list (R104). -/
def firstFail : List Check → Option Nat
  | [] => none
  | (st, bad) :: rest => if bad then some st else firstFail rest

/-- Checks 2 and 3 of R104 that every command has: its length, its FLAGS. -/
def State.headChecks (s : State) (m : Nat) (lenOk : Nat → Bool) : List Check :=
  let n := s.plen m
  [(ST_ZERO_INVALID, n = 0 && !lenOk 0),
   (ST_BAD_LENGTH, n ≠ 0 && (4032 < n || !lenOk n)),
   (ST_BAD_ARGUMENT, s.mflags m / 4 ≠ 0)]

/-- Every opcode of the command set (R105, R162, R198, R237, R268, R300, R330, R355, R385, R403, R421, R438, R454,
R487). -/
def knownOpcodes : List Nat :=
  [0x0001, 0x0002, 0x0003, 0x0010, 0x0011, 0x0012, 0x0020, 0x0030, 0x0031, 0x0040, 0x0041,
   0x0101, 0x0102, 0x0201, 0x0202, 0x0203, 0x0204, 0x0301, 0x0302, 0x0303, 0x0401, 0x0402, 0x0403,
   0x0501, 0x0502, 0x0503, 0x0601, 0x0602, 0x0603, 0x0604, 0x0701, 0x0702, 0x0703, 0x0704,
   0x0801, 0x0802, 0x0901, 0x0902, 0x0903, 0x0A01, 0x0A02, 0x0B01, 0x0B02, 0x0C01, 0x0C02, 0x0C03, 0x0C04]

/-! ### Cyclic codes -/

/-- One step of a CRC that takes the most significant bit first. -/
def crcMsbStep (w poly : Nat) (crc : Nat) (b : Bool) : Nat :=
  let top := testBit crc (w - 1)
  let sh := crc * 2 % 2 ^ w
  if top = b then sh else Nat.xor sh poly

def crcMsbByte (w poly : Nat) (crc : Nat) (x : Byte) : Nat :=
  [7, 6, 5, 4, 3, 2, 1, 0].foldl (fun c i => crcMsbStep w poly c (testBit x.toNat i)) crc

/-- CRC-8 with polynomial 0x07, initial value 0 (R168); also the packet error code of SMBus 2.0 (R65). -/
def crc8 (bs : List Byte) : Nat := bs.foldl (crcMsbByte 8 0x07) 0

/-- One step of a reflected CRC of 32 bits. -/
def crcLsbStep (poly : Nat) (crc : Nat) : Nat :=
  if crc % 2 = 1 then Nat.xor (crc / 2) poly else crc / 2

def crcLsbByte (poly : Nat) (crc : Nat) (x : Byte) : Nat :=
  let c := Nat.xor crc x.toNat
  [0, 1, 2, 3, 4, 5, 6, 7].foldl (fun c _ => crcLsbStep poly c) c

/-- CRC-32C with a chosen initial value, reflected, final XOR of ones (R209, R219). -/
def crc32cFrom (init : Nat) (bs : List Byte) : Nat :=
  Nat.xor (bs.foldl (crcLsbByte 0x82F63B78) init) 0xFFFFFFFF
def crc32c (bs : List Byte) : Nat := crc32cFrom 0xFFFFFFFF bs

/-- CRC-32 of the IEEE 802.3 FCS, as the number whose little-endian bytes follow the covered bytes (R185). -/
def fcs (bs : List Byte) : Nat := Nat.xor (bs.foldl (crcLsbByte 0xEDB88320) 0xFFFFFFFF) 0xFFFFFFFF
def fcsBytes (bs : List Byte) : List Byte := leBytes 4 (fcs bs)

/-- The last four bytes of a frame are its correct FCS. -/
def fcsGood (frame : List Byte) : Bool :=
  4 ≤ frame.length && frame.drop (frame.length - 4) = fcsBytes (frame.take (frame.length - 4))

/-! ### Internet checksums (R153, R156) -/

/-- The 16-bit words of a byte string, most significant byte first; an odd last byte is padded with 0. -/
def words16 : List Byte → List Nat
  | [] => []
  | [a] => [a.toNat * 256]
  | a :: b :: rest => (a.toNat * 256 + b.toNat) :: words16 rest

/-- Folds a sum into 16 bits with end-around carry. -/
def fold16 (x : Nat) : Nat :=
  let y := x % 65536 + x / 65536
  let z := y % 65536 + y / 65536
  z % 65536 + z / 65536

def onesSum (bs : List Byte) : Nat := fold16 ((words16 bs).foldl (· + ·) 0)

/-- A checksum corrected for words that changed from `old` to `new` (RFC 1624). -/
def csumUpdate (csum : Nat) (old new : List Byte) : Nat :=
  let s := (65535 - csum) + ((words16 old).map (fun w => 65535 - w)).foldl (· + ·) 0 + (words16 new).foldl (· + ·) 0
  65535 - fold16 s

end Sys2Proof.Machine
end

