-- ==== Sys2Proof/Machine/Line.lean ====
section
/-! DEFINITION. Sys2Proof/Machine/Line.lean: the lane layer of a carrier or mirror lane (R167, R168): the codewords that a
lane sends for its grains and null blocks, and codeword lock as a function of codewords received. The
codes of IEEE 802.3 that R168 names by clause are taken from that standard (PRESUMED, log entry 95). -/
namespace Sys2Proof.Machine

/-! ### Blocks -/

/-- A block: its header bit H, and 32 bytes. -/
structure Block where
  h : Bool := false
  bytes : List Byte := List.replicate 32 0
  deriving DecidableEq, Repr, Inhabited

/-- A grain on the lane: 8 blocks, H = 1 on the first. -/
def grainBlocks (g : List Byte) : List Block := (List.range 8).map (fun i => { h := i = 0, bytes := slice g (32 * i) 32 })

/-- The bits of a byte in lane order, and the 256 data bits of a block. -/
def byteBits (b : Byte) : List Bool := (List.range 8).map (fun i => testBit b.toNat i)
def Block.data (b : Block) : List Bool := b.bytes.flatMap byteBits

/-! ### The scrambler x^58 + x^39 + 1: its state is the last 58 scrambled bits, newest first -/

def scrambleBit (st : List Bool) (d : Bool) : Bool := (d ^^ st.getD 38 false) ^^ st.getD 57 false
def scrambleBits : List Bool → List Bool → List Bool × List Bool
  | st, [] => ([], st)
  | st, d :: ds =>
    let x := scrambleBit st d
    let r := scrambleBits (x :: st.take 57) ds
    (x :: r.1, r.2)
def descrambleBits : List Bool → List Bool → List Bool × List Bool
  | st, [] => ([], st)
  | st, x :: xs =>
    let r := descrambleBits (x :: st.take 57) xs
    (scrambleBit st x :: r.1, r.2)

/-- The 257 bits of a block on the lane: H, then the scrambled data bits; and the scrambler after it. -/
def Block.send (st : List Bool) (b : Block) : List Bool × List Bool :=
  let r := scrambleBits st b.data
  (b.h :: r.1, r.2)
def sendBlocks : List Bool → List Block → List Bool × List Bool
  | st, [] => ([], st)
  | st, b :: bs =>
    let r := b.send st
    let q := sendBlocks r.2 bs
    (r.1 ++ q.1, q.2)

/-! ### RS(544,514) -/

/-- Bits as symbols of 10, the first bit the least significant. -/
def symbolsOf (k : Nat) (bits : List Bool) : List Nat :=
  (List.range k).map (fun i => ((bits.drop (10 * i)).take 10).foldr (fun b a => 2 * a + (if b then 1 else 0)) 0)
def symbolBits (x : Nat) : List Bool := (List.range 10).map (testBit x)

/-- GF(2^10) with x^10 + x^3 + 1: times x, and a product. -/
def gfTwice (a : Nat) : Nat := if 512 ≤ a then Nat.xor (2 * a - 1024) 9 else 2 * a
def gfMul (a b : Nat) : Nat :=
  ((List.range 10).foldl (fun (p : Nat × Nat) i => (if testBit b i then Nat.xor p.1 p.2 else p.1, gfTwice p.2)) (0, a)).1
def gfPow (n : Nat) : Nat := (List.range n).foldl (fun a _ => gfTwice a) 1

/-- The generator: the product of (x - a^i) for i from 0 to 29, its coefficients below x^30, highest first. -/
def rsGen : List Nat :=
  ((List.range 30).foldl (fun g i =>
    (List.zipWith Nat.xor (g ++ [0]) ((0 : Nat) :: g.map (gfMul (gfPow i))))) [1]).drop 1

/-- The 30 check symbols of a message, in the order sent. -/
def rsParity (msg : List Nat) : List Nat :=
  msg.foldl (fun r m =>
    let f := Nat.xor m (r.headD 0)
    List.zipWith (fun x g => Nat.xor x (gfMul f g)) (r.drop 1 ++ [0]) rsGen) (List.replicate 30 0)

/-- The bits of one codeword: the 514 symbols of 20 blocks, then the check symbols. -/
def codeword (msg : List Bool) : List Bool :=
  let m := symbolsOf 514 msg
  (m ++ rsParity m).flatMap symbolBits

/-- Cuts bits into messages of 20 blocks; `k` bounds their number. -/
def cutWords : Nat → List Bool → List (List Bool) × List Bool
  | 0, bits => ([], bits)
  | k + 1, bits =>
    if bits.length < 5140 then ([], bits)
    else
      let r := cutWords k (bits.drop 5140)
      (bits.take 5140 :: r.1, r.2)

/-! ### PAM4, codeword search and lock -/

/-- Levels 0 to 3 of bits in pairs, the first the more significant, Gray coded. -/
def pam4 : List Bool → List Nat
  | a :: b :: r => (if a then if b then 2 else 3 else if b then 1 else 0) :: pam4 r
  | _ => []

/-- The bit offsets at which a receiver tries a codeword boundary. -/
def searchOffsets : List Nat := (List.range 544).map (10 * ·)

/-- Codewords received at a boundary, newest first, as good or uncorrectable: lock is gained, lock is lost (R167). -/
def lockGained (l : List Bool) : Bool := decide (3 ≤ l.length) && (l.take 3).all id
def lockLost (l : List Bool) : Bool := decide (4 ≤ ((l.take 16).filter not).length)

/-! ### The stream of a lane -/

/-- The stream begins at model time `now`, if it has not begun. -/
def LaneTx.begun (lane now : Nat) (x : LaneTx) : LaneTx :=
  if x.start.isSome then x
  else { x with start := some now, slots := 0, sent := 0
                scr := if x.scr.isEmpty then (List.range 58).map (testBit (Config.scramblerStart lane now)) else x.scr }

/-- Blocks go onto the lane: the stream after them, and the codewords that they complete. -/
def LaneTx.put (lane : Nat) (bs : List Block) (x : LaneTx) : LaneTx × List Out :=
  let r := sendBlocks x.scr bs
  let w := cutWords (bs.length + 1) (x.word ++ r.1)
  ({ x with sent := x.sent + bs.length, scr := r.2, word := w.2 }, w.1.map (fun m => .codeword lane (pam4 (codeword m))))

/-- Null blocks. -/
def nulls (n : Nat) : List Block := List.replicate n {}

end Sys2Proof.Machine
end

