-- ==== Sys2Proof/Machine/TimeBase.lean ====
section
/-! DEFINITION. Sys2Proof/Machine/TimeBase.lean: the domains as functions of model time, steps and residues, trains of
pulses on TRIG and PPSO pins, and the stamp-report rings (R302-R328, R371-R373, R400). -/
namespace Sys2Proof.Machine

/-! ### Units (R302, R303): times are integers in 2^-40 ns -/

def secU : Int := 1000000000 * 0x10000000000
def wrapU : Int := 281474976710656 * secU
/-- 2^-16 ns, and 1 ps (rounded down) of 2^-40 ns. -/
def fracU : Int := 0x1000000
def psToU (p : Int) : Int := p * 0x10000000000 / 1000
/-- ps of an amount in 2^-40 ns, and of one in 2^-16 ns. -/
def uToPs (x : Int) : Int := x * 1000 / 0x10000000000
def qToPs (x : Int) : Int := x * 1000 / 65536
def psToQ (p : Int) : Int := p * 65536 / 1000

/-- Seconds, nanoseconds and fraction that a reader of a scale sees: truncated, wrapped (R302, R304). -/
def tsParts (x : Int) : Nat × Nat × Nat :=
  let y := x % wrapU
  ((y / secU).toNat, (y % secU / 0x10000000000).toNat, (y % 0x10000000000 / fracU).toNat)

/-- The same as one number of 2^-16 ns. -/
def tsQ (x : Int) : Int := x % wrapU / fracU

/-- A difference of two times in the signed 64-bit format of R303, in 2^-16 ns; it wraps as the times do. -/
def diff64 (x : Int) : Int := sgn 64 (tc 64 x)

/-- 96 bits in network byte order (seconds, nanoseconds, fraction) and as payloads carry it (R330). -/
def tsBE (q : Int) : List Byte :=
  let (a, b, c) := tsParts (q * fracU)
  beBytes 6 a ++ beBytes 4 b ++ beBytes 2 c
def tsLE (q : Int) : List Byte :=
  let (a, b, c) := tsParts (q * fracU)
  leBytes 6 a ++ leBytes 4 b ++ leBytes 2 c
def qOf (s ns f : Nat) : Int := ((s : Int) * 1000000000 + ns) * 65536 + f
def tsOfBE (bs : List Byte) : Int := qOf (beNat (slice bs 0 6)) (beNat (slice bs 6 4)) (beNat (slice bs 10 2))

/-! ### Domains -/

def State.updTb (s : State) (f : Tb → Tb) : State := { s with tb := f s.tb }
def State.updRef (s : State) (f : RefSel → RefSel) : State := { s with ref := f s.ref }
def State.updSyn (s : State) (f : Syn → Syn) : State := { s with syn := f s.syn }
def State.updTdc (s : State) (f : Tdc → Tdc) : State := { s with tdc := f s.tdc }
def State.updCal (s : State) (f : Cal → Cal) : State := { s with cal := f s.cal }
def State.updTwin (s : State) (f : Twin → Twin) : State := { s with twin := f s.twin }
def State.updTt (s : State) (f : Tt → Tt) : State := { s with tt := f s.tt }
def State.dom (s : State) (n : Nat) : Dom := SMap.at! s.tb.doms n
def State.updDom (s : State) (n : Nat) (f : Dom → Dom) : State :=
  s.updTb fun b => { b with doms := SMap.upd b.doms n f }

/-- SOURCE codes of R305. -/
def srcFREE : Nat := 0
def srcHOST : Nat := 1
def srcDERIVED : Nat := 2
def srcROUTE : Nat := 3

def State.domSource (s : State) (n : Nat) : Nat := s.com TBS_DOM_CFG.SOURCE n
def State.domParent (s : State) (n : Nat) : Nat := s.com TBS_DOM_CFG.PARENT n
/-- Offset of a DERIVED domain. -/
def State.domOfs (s : State) (n : Nat) : Int :=
  s.comS TBS_DOM_OFS_S.OFS_S n * secU + s.com TBS_DOM_OFS_NS.OFS_NS n * nsU

/-- Accumulator of a domain of its own at model time `t`. -/
def State.ownAt (s : State) (n t : Nat) : Int := (s.dom n).val + (s.dom n).inc * ((t : Int) - (s.dom n).at_)

/-- Dn at model time `t`, without the wrap of R302 (R304, R305). -/
def State.domAt (s : State) (n t : Nat) : Int :=
  if !s.tickRun then 0
  else if s.domSource n = srcDERIVED then s.ownAt (s.domParent n) t + s.domOfs n else s.ownAt n t

/-- INC in force. -/
def State.incOf (s : State) (n : Nat) : Nat :=
  if s.domSource n = srcDERIVED then (s.dom (s.domParent n)).inc else (s.dom n).inc

/-- The earliest change of course after model time `t`, if there is one. -/
def State.pastOf (s : State) (t : Nat) : Option DomPast := (s.tb.past.filter (fun p => decide (t < p.upTo))).getLast?

/-- The value at an instant of a scale that had value and increment `v` at model time `t`. -/
def atInst (v : Int × Nat) (t : Nat) (i : Inst) : Int := v.1 + v.2 * ((i.tick : Int) - t) + v.2 * i.sub / 1024

/-- Dn at an instant, interpolated (R311). -/
def State.domInst (s : State) (n : Nat) (i : Inst) : Int := match s.pastOf i.tick with
  | some p => atInst (p.dom.getD n (0, 0)) p.upTo i
  | none => s.domAt n i.tick + s.incOf n * i.sub / 1024

/-- The residue rn at model time `t`: it moves toward 0 at RATE ns/s (R372). -/
def State.resAt (s : State) (n t : Nat) : Int :=
  let d := s.dom n
  let dec : Int := (s.com REF_SLEW_CFG.RATE * nsU * (t - d.resAt) / sT : Nat)
  if 0 ≤ d.res then max 0 (d.res - dec) else min 0 (d.res + dec)

/-- Output scale On; 8 is the Almanac scale A, which is O0 (R309, R324), and 9 is D0 itself (R436). -/
def State.outAt (s : State) (n t : Nat) : Int :=
  if n = 9 then s.domAt 0 t else if n = 8 then s.domAt 0 t - s.resAt 0 t else s.domAt n t - s.resAt n t
def State.outInc (s : State) (n : Nat) : Nat := s.incOf (if 8 ≤ n then 0 else n)

/-- Replica of Dn on the switch die: while the link is frozen it advances at the INC it had (R17, R18). -/
def State.swAt (s : State) (n t : Nat) : Int :=
  if s.evt.frozen then
    let d := SMap.at! s.tb.rep n
    d.val + d.inc * ((t : Int) - d.at_)
  else s.domAt n t
def State.swInc (s : State) (n : Nat) : Nat := if s.evt.frozen then (SMap.at! s.tb.rep n).inc else s.incOf n
/-- The replica of Dn at an instant (R311). -/
def State.swInst (s : State) (n : Nat) (i : Inst) : Int := match s.pastOf i.tick with
  | some p => atInst (p.sw.getD n (0, 0)) p.upTo i
  | none => s.swAt n i.tick + s.swInc n * i.sub / 1024

/-- The steps that the replica of Dn has taken now, and had taken at model time `t` (R313). -/
def State.swSteps (s : State) (n : Nat) : Int := if s.evt.frozen then (SMap.at! s.tb.rep n).steps else (s.dom n).steps
def State.swStepsAt (s : State) (n t : Nat) : Int := match s.pastOf t with
  | some p => p.steps.getD n 0
  | none => s.swSteps n

/-- Notes how the domains ran up to now, before one of them or a replica changes course; every change is held, since a frame
may begin any time before its stamp is taken. -/
def State.noteDoms (s : State) : State :=
  if s.tb.past.any (fun p => decide (s.now ≤ p.upTo)) then s
  else
    let each (f : Nat → Int × Nat) : List (Int × Nat) := (List.range 8).map f
    let p : DomPast := { upTo := s.now, dom := each (fun n => (s.domAt n s.now, s.incOf n)),
                         sw := each (fun n => (s.swAt n s.now, s.swInc n)), steps := (List.range 8).map s.swSteps }
    s.updTb fun b => { b with past := p :: b.past }

/-- D0 to D7 at an ingress position, less the steps taken by then (R313). -/
def State.ingressAt (s : State) (i : Inst) : List Int :=
  (List.range 8).map (fun n => s.swInst n i - s.swStepsAt n i.tick)
/-- The Almanac scale A as the switch die has it. -/
def State.swA (s : State) (t : Nat) : Int :=
  s.swAt 0 t - (if s.evt.frozen then (SMap.at! s.tb.rep 0).res else s.resAt 0 t)

def State.outSlew (s : State) (n : Nat) : Bool := n = 0 || s.comB TBS_DOM_CFG.OUT_SLEW n

/-- The slew residue exceeds OFS_WARN (R297). -/
def State.ofsOver (s : State) : Bool :=
  s.rd ALM_CFG.OFS_WARN ≠ 0 && decide (s.rd ALM_CFG.OFS_WARN * nsU < (s.resAt 0 s.now).natAbs)

/-- OFS_OVER, with OFFSET_WARN on its rise (R297). -/
def State.noteOfs (s : State) : State :=
  let b := s.ofsOver
  if !s.railOk 1 || s.bit ALM_STAT.OFS_OVER = b then s
  else
    let s := s.wrB ALM_STAT.OFS_OVER 0 b
    if b then s.raise EV.ALM_OFFSET_WARN else s

/-! ### The delay in force (R426) -/

def State.path (s : State) (k : Nat) : Path := SMap.at! s.cal.paths k
def State.updPath (s : State) (k : Nat) (f : Path → Path) : State :=
  s.updCal fun c => { c with paths := SMap.upd c.paths k f }

/-- DLY_k in 2^-16 ns, and in 2^-40 ns; a trim code of 0.25 ps is 2048/125 of 2^-16 ns. -/
def Path.delay (p : Path) : Int := p.base + ((p.trim : Int) * 2048 + p.corr) / 125
def Path.delayU (p : Path) : Int := p.base * fracU + ((p.trim : Int) * 2048 + p.corr) * fracU / 125

/-- Sets a residue; SLEWING shows whether it is 0. -/
def State.setRes (s : State) (n : Nat) (r : Int) : State :=
  let s := if n = 0 then s.noteOfs else s
  let s := s.updDom n fun d => { d with res := r, resAt := s.now }
  let s := s.wrB TBS_DOM_STAT.SLEWING n (r ≠ 0)
  if n = 0 && s.railOk 1 then (s.wrB ALM_STAT.SLEWING 0 (r ≠ 0)).noteOfs else s

/-- Sets a domain's accumulator and INC as of now, and shows INC. -/
def State.rebase (s : State) (n : Nat) (val : Int) (inc : Nat) : State :=
  let s := s.noteDoms
  let s := s.updDom n fun d => { d with val := val, at_ := s.now, inc := inc }
  (s.setReg R.TBS_DOM_INC_LO n (BitVec.ofNat 32 inc)).setReg R.TBS_DOM_INC_HI n (BitVec.ofNat 32 (inc / 2 ^ 32))

/-- Sets the INC of a domain that runs on its own; DERIVED children show it too (R305). -/
def State.setInc (s : State) (n inc : Nat) : State :=
  let s := s.rebase n (s.ownAt n s.now) inc
  (List.range 8).foldl (fun s c =>
    if c ≠ n && s.domSource c = srcDERIVED && s.domParent c = n then
      (s.setReg R.TBS_DOM_INC_LO c (BitVec.ofNat 32 inc)).setReg R.TBS_DOM_INC_HI c (BitVec.ofNat 32 (inc / 2 ^ 32))
    else s) s

/-! ### Trains of pulses (R324, R326-R328, R373) -/

/-- Number of the first pulse that lies at or after scale value `x`. -/
def Train.firstAt (t : Train) (x : Int) : Nat :=
  if t.period ≤ 0 then (if t.start < x then 1 else 0)
  else ((x - t.start + t.period - 1) / t.period).toNat

/-- One past the last pulse, if there is one. -/
def Train.last (t : Train) : Option Nat :=
  if t.period ≤ 0 then some 1 else if t.count = 0 then none else some t.count

/-- Passes over the pulses before scale value `x`. -/
def Train.skipTo (t : Train) (x : Int) : Train :=
  let k := t.firstAt x
  let k := match t.last with | some l => min k (max l t.next) | none => k
  if k ≤ t.next then t else { t with next := k, skipped := t.skipped + (k - t.next) }

def Train.timeOf (t : Train) (i : Nat) : Int := t.start + i * t.period
def Train.over (t : Train) : Bool := match t.last with | some l => l ≤ t.next | none => false

/-- Passes over the pulses whose edge, ADJ early, lies before scale value `x`. -/
def Train.skipEdges (t : Train) (x : Int) : Train := t.skipTo (x + t.adj)

/-- Scale `n` jumps by `σ` to value `v` (R327): a pulse in progress on it keeps its width, and a running train on it passes
over pulses. -/
def Train.jump (t : Train) (n : Nat) (σ v : Int) : Train :=
  let t := { t with fall := t.fall.map (fun f => if f.2 = n then (f.1 + σ, f.2) else f) }
  if t.on && t.scale = n && decide (0 < σ) then t.skipEdges v else t

/-- Trigger `k` takes a new train; the pulses that it passes over are counted, and `ev` is raised for them (R326, R327,
R331). -/
def State.setTrig (s : State) (k : Nat) (t : Train) (ev : Option Ev) : State :=
  let old := SMap.at! s.tb.trigs k
  let n := t.skipped - old.skipped
  let s := s.updTb fun b => { b with trigs := SMap.set default b.trigs k t }
  if n = 0 then s
  else
    let s := s.addSat TBS_TRIG_SKIP.SKIPPED k n
    match ev with
    | some e => s.raise e k
    | none => s

def State.setPpso (s : State) (k : Nat) (t : Train) (event : Bool) : State :=
  let old := SMap.at! s.ref.ppso k
  let s := s.updRef fun b => { b with ppso := SMap.set default b.ppso k t }
  if event && old.skipped < t.skipped then s.raise EV.REF_PPSO_SKIP k else s

/-- The scale of output `n` jumps by `σ`. A single pulse passed over by a jump counts as skipped (R327). -/
def State.jumpTrains (s : State) (n : Nat) (σ : Int) : State :=
  let v := s.outAt n s.now
  let s := (List.range 8).foldl (fun s k =>
    let t := SMap.at! s.tb.trigs k
    if t.scale = n && t.on || t.fall.any (fun f => f.2 = n) then s.setTrig k (t.jump n σ v) (some EV.TBS_TRIG_SKIP) else s) s
  (List.range 2).foldl (fun s k =>
    let t := SMap.at! s.ref.ppso k
    if t.scale = n && t.on || t.fall.any (fun f => f.2 = n) then s.setPpso k (t.jump n σ v) true else s) s

/-- The residue of A starts at 0 at the first entry to FORWARD: A then jumps to D0 (R270, R327). -/
def State.startRes (s : State) : State :=
  if s.tb.almRun then s
  else
    let r := s.resAt 0 s.now
    let s := s.updTb fun b => { b with almRun := true }
    if r = 0 then s else ((s.setRes 0 0).jumpTrains 0 r).jumpTrains 8 r

/-- Timing outputs are quiescent (R62, R71, R328, R401). -/
def State.quiet (s : State) : Bool := !s.tkMode || !s.tb.warmed

/-- Lead of R326 past the scale's present value. -/
def State.leadOf (s : State) (n : Nat) : Int := s.outAt n s.now + 2048 * s.outInc n

/-- The committed train of trigger `k` (R324). -/
def State.trigTrain (s : State) (k : Nat) : Train :=
  { on := s.comB TBS_TRIG_CFG.ENABLE k, scale := s.com TBS_TRIG_CFG.SCALE k,
    start := ((s.com TBS_TRIG_START_SLO.SLO k + 2 ^ 32 * s.com TBS_TRIG_START_SHI.SHI k : Nat) : Int) * secU +
      s.com TBS_TRIG_START_NS.NS k * nsU + s.com TBS_TRIG_START_SHI.FRAC k * fracU,
    period := ((s.com TBS_TRIG_PERIOD_LO.PERIOD k + 2 ^ 32 * s.com TBS_TRIG_PERIOD_HI.PERIOD k : Nat) : Int) * fracU,
    width := s.com TBS_TRIG_WIDTH.WIDTH k * nsU, count := s.com TBS_TRIG_COUNT.COUNT k,
    adj := psToU (s.comS TBS_TRIG_CFG.ADJ k), invert := s.comB TBS_TRIG_CFG.INVERT k }

/-- The committed train of PPSO `k`: a pulse at each whole second of On (R373). -/
def State.ppsoTrain (s : State) (k : Nat) : Train :=
  { on := s.comB REF_PPSO_CFG.ENABLE k, scale := s.com REF_PPSO_CFG.DOMAIN k, start := 0, period := secU,
    width := s.com REF_PPSO_CFG.WIDTH k * 1000 * nsU, adj := psToU (s.comS REF_PPSO_ADJ.ADJ k) }

/-- The first edge that a new train may issue: past the lead, and not before a pulse in progress and the gap that follows it
are over (R326). -/
def State.edgeFrom (s : State) (t old : Train) : Int :=
  let x := s.leadOf t.scale
  match old.fall with
  | some (f, n) => max x (s.outAt t.scale s.now + (f - s.outAt n s.now) + (if t.period ≤ 0 then 0 else t.period - t.width))
  | none => x

/-- The inactive level of pin TRIG `k`: that of its train, or the committed one (R324). -/
def State.trigRest (s : State) (k : Nat) : Bool :=
  let t := SMap.at! s.tb.trigs k
  if t.on then t.invert else s.comB TBS_TRIG_CFG.INVERT k

/-- Drives pin TRIG `k`: low while the outputs are quiescent, at its inactive level between pulses (R324, R326, R328). -/
def State.driveTrig (s : State) (k : Nat) : State :=
  let t := SMap.at! s.tb.trigs k
  let v : Bool := if s.quiet then false else if t.fall.isSome then t.high else s.trigRest k
  if t.high = v then s
  else (s.updTb fun b => { b with trigs := SMap.upd b.trigs k fun t => { t with high := v } }).emit (.pin .trig k v)

def State.driveTrigs (s : State) : State := (List.range 8).foldl State.driveTrig s

/-- Trigger `k` starts or changes its train (R326): a pulse in progress keeps its old width, pulses within the lead are
not issued. -/
def State.startTrig (s : State) (k : Nat) (event : Bool) : State :=
  let old := SMap.at! s.tb.trigs k
  let t : Train := { s.trigTrain k with fall := old.fall, skipped := old.skipped, high := old.high }
  let s := s.setReg R.TBS_TRIG_STAT k 0
  if !t.on then s.setTrig k { old with on := false } none
  else s.setTrig k (t.skipEdges (s.edgeFrom t old))
    (if !event then none else if t.period ≤ 0 then some EV.TBS_TRIG_LATE else some EV.TBS_TRIG_SKIP)

/-- PPSO `k` starts or changes its train (R373): its next pulse is the next second whose edge is still to come. -/
def State.startPpso (s : State) (k : Nat) (event : Bool) : State :=
  let old := SMap.at! s.ref.ppso k
  let t := s.ppsoTrain k
  let t := { t with fall := old.fall, skipped := old.skipped, next := ((s.outAt t.scale s.now + t.adj) / secU).toNat + 1 }
  if !t.on then s.setPpso k { old with on := false } false
  else s.setPpso k (t.skipEdges (s.edgeFrom t old)) event

/-- Every timing output goes quiescent at once: pulses end and pins fall, clock outputs rest (R62, R328, R401). -/
def State.quiesce (s : State) : State :=
  let s := (List.range 8).foldl (fun s k =>
    let t := SMap.at! s.tb.trigs k
    let s := s.updTb fun b => { b with trigs := SMap.upd b.trigs k fun t => { t with fall := none, high := false } }
    if t.high then s.emit (.pin .trig k false) else s) s
  let s := (List.range 2).foldl (fun s k =>
    if (SMap.at! s.ref.ppso k).fall.isSome then
      (s.updRef fun b => { b with ppso := SMap.upd b.ppso k fun t => { t with fall := none } }).emit (.pin .ppso k false)
    else s) s
  (List.range 12).foldl (fun s k =>
    let c := SMap.at! s.syn.ckos k
    if c.run || c.pend.isSome then
      let s := s.updSyn fun y => { y with ckos := SMap.upd y.ckos k fun c => { c with run := false, pend := none, old := none, steps := 0 } }
      (s.setReg R.SYN_CKO_STAT k 0).emit (.pin .cko k false)
    else s) s

/-- The outputs start again when they are no longer quiescent (R326, R328, R401). -/
def State.unquiet (s : State) : State :=
  if s.quiet then s
  else
    let s := (List.range 8).foldl (fun s k =>
      let t := SMap.at! s.tb.trigs k
      if t.on && t.scale ≠ 9 then s.setTrig k (t.skipEdges (s.leadOf t.scale)) none else s) s
    let s := s.driveTrigs
    let s := (List.range 2).foldl (fun s k =>
      let t := SMap.at! s.ref.ppso k
      if t.on then s.setPpso k (t.skipEdges (s.leadOf t.scale)) false else s) s
    (List.range 12).foldl (fun s k =>
      if s.comB SYN_CKO_CFG.ENABLE k && !(SMap.at! s.syn.ckos k).run then
        s.updSyn fun y => { y with ckos := SMap.upd y.ckos k fun c => { c with pend := some s.now, old := none, steps := 0 } }
      else s) s

/-! ### Steps (R309, R371, R400, R521) -/

/-- The timing that a clock output runs on now: the old one until the first edge of a changed one (R399). -/
def Cko.cur (c : Cko) : CkoT := match c.old with
  | some (o, _, _) => o
  | none => c.t

/-- A clock output meets a step of domain `n` in tick `now` (R400): it takes it at its first edge due then, or absorbs it in a
change of its timing. An output with neither run nor a first edge to come takes none. -/
def Cko.meet (c : Cko) (n now : Nat) (σ : Int) : Cko :=
  if c.old.isSome then
    { c with absorbed := if c.cur.align && c.cur.dom = n then c.absorbed + σ else c.absorbed,
             newAt := if c.t.align && c.t.dom = n then now else c.newAt }
  else if c.t.align && c.t.dom = n then
    { c with steps := c.steps + σ, stepAt := if c.steps = 0 then now else c.stepAt }
  else c

/-- Clock outputs aligned to domain `n` have a step to take (R400); one that waits for its first edge has its committed
timing. -/
def State.stepCkos (s : State) (n : Nat) (σ : Int) : State :=
  (List.range 12).foldl (fun s k =>
    let c := SMap.at! s.syn.ckos k
    if c.run then s.updSyn fun y => { y with ckos := SMap.upd y.ckos k fun c => c.meet n s.now σ }
    else if c.pend.isSome then
      let c' := ({ c with t := { c.t with align := s.comB SYN_CKO_CFG.ALIGN k, dom := s.com SYN_CKO_CFG.DOMAIN k } }).meet n s.now σ
      s.updSyn fun y => { y with ckos := SMap.set default y.ckos k c' }
    else s) s

/-- Pulses at marker times of D0 follow its step (R436). -/
def State.moveTrace (s : State) (σ : Int) : State :=
  s.updTb fun b => { b with trigs := b.trigs.map (fun e => (e.1, if e.2.scale = 9 then
    { e.2 with start := e.2.start + σ, fall := e.2.fall.map (fun f => (f.1 + σ, f.2)) } else e.2)) }

/-- What follows the step of Dn by `σ` once its accumulator has moved: residue or jump of On, clock outputs, STEP. -/
def State.stepped (s : State) (n : Nat) (σ : Int) (noSlew : Bool) : State :=
  let s := s.updDom n fun d => { d with steps := d.steps + σ }
  let s := if n = 0 then s.moveTrace σ else s
  let s := if s.outSlew n && !noSlew then s.setRes n (s.resAt n s.now + σ) else s.jumpTrains n σ
  (s.stepCkos n σ).raise EV.TBS_STEP n

/-- Dn steps by `σ`, and its DERIVED children with it. -/
def State.stepDom (s : State) (n : Nat) (σ : Int) (noSlew : Bool) : State :=
  let s := s.noteDoms.updDom n fun d => { d with val := d.val + σ }
  let s := s.stepped n σ noSlew
  (List.range 8).foldl (fun s c =>
    if s.domSource c = srcDERIVED && s.domParent c = n && c ≠ n then s.stepped c σ false else s) s

/-! ### Stamp reports (R318-R323) -/

/-- Transmit and receive path of a lane (R423), and the calibrated delay between its stamp point and its land. -/
def State.txDelay (s : State) (lane : Nat) : Int := (s.path (2 * lane)).delayU
def State.rxDelay (s : State) (lane : Nat) : Int := (s.path (2 * lane + 1)).delayU

/-- The stamp of port `p` at an instant in domain `n`, in 2^-40 ns: referred to the land of its first lane by that lane's
calibrated delay, then adjusted by the port's own values (R311, R312, R426). -/
def State.rxStamp (s : State) (p n : Nat) (i : Inst) : Int :=
  s.swInst n i - s.rxDelay (s.com PRT_CFG.FIRST_LANE p) - psToU (s.comS TBS_PORT_ADJ.RX_ADJ p)
def State.txStamp (s : State) (p n : Nat) (i : Inst) : Int :=
  s.swInst n i + s.txDelay (s.com PRT_CFG.FIRST_LANE p) + psToU (s.comS TBS_PORT_ADJ.TX_ADJ p)

def State.setPend (s : State) (p : Nat) (b : Bool) : State :=
  let w := (s.reg R.TBS_RPT_PEND (p / 32)).toNat
  let s' := s.setReg R.TBS_RPT_PEND (p / 32) (BitVec.ofNat 32 (putBit w (p % 32) b))
  if b && !testBit w (p % 32) then s'.raise EV.TBS_REPORT p else s'

/-- Bytes of a report entry (R319); `ptp` is the PTP header of the message. -/
def reportBytes (dir : Nat) (gap aborted : Bool) (lost dom : Nat) (ptp : List Byte) (stamp : Int) : List Byte :=
  let (sec, ns, fr) := tsParts stamp
  [BitVec.ofNat 8 (dir + (if gap then 2 else 0) + (if aborted then 4 else 0)), ptp.getD 0 0, ptp.getD 4 0,
   BitVec.ofNat 8 dom] ++
  leBytes 2 (beNat (slice ptp 30 2)) ++ leBytes 2 (if gap then lost else 0) ++ slice ptp 20 10 ++ [0, 0] ++
  leBytes 2 fr ++ leBytes 4 ns ++ leBytes 6 sec

/-- A report of port `p` is lost (R321). -/
def State.loseReport (s : State) (p : Nat) : State :=
  let lost := s.rd TBS_RPT_STAT.LOST_PENDING p
  let s := (s.addSat TBS_RPT_STAT.LOST_PENDING p 1).count (stmpSlot p 3)
  if lost = 0 then s.raise EV.TBS_RPT_LOST p else s

/-- Writes a report, or loses it where the queue is full (R318, R320, R321). -/
def State.writeReport (s : State) (r : RptDue) : State :=
  let p := r.port
  let prod := s.rd TBS_RPT_PROD.INDEX p
  let lost := s.rd TBS_RPT_STAT.LOST_PENDING p
  let cons := match SMap.get (0, 0) s.tb.consOld p with
    | (t, i) => if t = s.now && s.now ≠ 0 then i else s.rd TBS_RPT_CONS.INDEX p
  if (prod + 65536 - cons) % 65536 = 64 then s.loseReport p
  else
    let bs := reportBytes r.dir (lost ≠ 0) r.aborted lost (s.com TBS_PORT_CFG.RPT_DOMAIN p) r.ptp r.stamp
    let s := s.emit (.hostWrite (SMap.get 0 s.tb.rpt p + 32 * (prod % 64)) bs)
    let s := (s.wr TBS_RPT_STAT.LOST_PENDING p 0).wr TBS_RPT_PROD.INDEX p (prod + 1)
    let s := (s.count (stmpSlot p 2)).count (stmpSlot p 4) (if lost = 0 then 0 else 1)
    let s := s.count (stmpSlot p 7) (if r.aborted && r.dir = 1 then 1 else 0)
    s.setPend p true

/-- The order of a port's reports of one tick (R322): transmit first, then by the start of the frame. -/
def RptDue.le (a b : RptDue) : Bool := decide (b.dir < a.dir) || (a.dir = b.dir && decide (a.began ≤ b.began))

/-- The reports of port `p` that are due, in their order. -/
def State.dueReports (s : State) (p : Nat) : List RptDue :=
  (s.tb.rptDue.filter (fun r => r.port = p)).insertionSort (fun a b => a.le b)

/-- The end of the tick: every report due is written in its order, or lost when its write has failed its retry (R318, R321,
R322). -/
def State.writeReports (s : State) : State :=
  let l := ((s.tb.rptDue.map (·.port)).dedup).flatMap s.dueReports
  if l.isEmpty then s
  else (s.updTb fun b => { b with rptDue := [] }).each l fun s r => if r.failed then s.loseReport r.port else s.writeReport r

/-- The write of the `i`th due report of port `p` fails its retry (R321). -/
def State.failReport (s : State) (p i : Nat) : State :=
  match (s.dueReports p)[i]? with
  | none => s
  | some r => s.updTb fun b => { b with rptDue := { r with failed := true } :: b.rptDue.erase r }

/-- A report of port `p` falls due (R318): an unbound port has none. -/
def State.report (s : State) (p dir : Nat) (ptp : List Byte) (stamp : Int) (aborted : Bool) (began : Inst) : State :=
  if !s.bit TBS_RPT_STAT.BOUND p then s
  else
    (s.updTb fun b => { b with
      rptDue := b.rptDue ++ [{ port := p, dir := dir, ptp := ptp, stamp := stamp, aborted := aborted,
                               began := 1024 * began.tick + began.sub }] })

end Sys2Proof.Machine
end

