-- ==== Sys2Proof/Machine/TwinOps.lean ====
section
/-! DEFINITION. Sys2Proof/Machine/TwinOps.lean: what the twin block of a LEAD does for the rest of the module: roles,
health, the messages of the mirror link and the transactional mirror (R459-R468, R471, R478, R479). -/
namespace Sys2Proof.Machine

/-! ### Roles and states (R464) -/
def twOFF : Nat := 0
def twPAIRING : Nat := 1
def twSOLO : Nat := 2
def twRESYNC : Nat := 3
def twPAIRED : Nat := 4
def twDUAL : Nat := 5

/-- The block runs: ENABLE is 1, or the hand-over that a commit of ENABLE 0 starts is not over (R464). -/
def State.twinOn (s : State) : Bool := s.comB TWN_CFG.ENABLE || s.twin.closing
def State.lead (s : State) : Bool := s.bit TWN_STAT.ROLE
/-- The module is the FOLLOW of a pair (R480). -/
def State.follow (s : State) : Bool := s.twinOn && !s.lead
def State.twSt (s : State) : Nat := s.rd TWN_STAT.STATE
def State.setTwSt (s : State) (v : Nat) : State := s.wr TWN_STAT.STATE 0 v
def State.mlane (s : State) (i : Nat) : MLane := SMap.at! s.twin.lanes i
def State.updMlane (s : State) (i : Nat) (f : MLane → MLane) : State :=
  s.updTwin fun t => { t with lanes := SMap.upd t.lanes i f }

/-- Unit that rules choose by PREF_UNIT: unit 0 while the partner's PREF_UNIT differs (R462). -/
def State.prefUnit (s : State) : Nat := if s.twin.prefOk then s.com TWN_CFG.PREF_UNIT else 0

/-- Transactions received and not applied, with TWN_MIRROR_STAT.PENDING. -/
def State.updInq (s : State) (f : List TxnIn → List TxnIn) : State :=
  let s := s.updTwin fun t => { t with inq := f t.inq }
  s.wr TWN_MIRROR_STAT.PENDING 0 (min 65535 s.twin.inq.length)

/-- No table has a host address: those of a module that becomes LEAD are named by CMD_TWN_TABLE_ADOPT (R481). -/
def State.dropAddrs (s : State) : State :=
  tableIds.foldl (fun s t => s.updTable t fun y => { y with addr := none }) s

/-- A FOLLOW runs no joins and parks of its own (R469, R475): its requests end, and its answers are no longer repeated. -/
def State.dropRequests (s : State) : State :=
  (List.range 128).foldl (fun s c => s.updCar c fun k =>
    { k with req := [], ackDue := [], ans := k.ans.map (fun a => (a.1, a.2.1, a.2.2.1, 0)) }) s

/-- The installed entries of every table with its bound count. -/
def State.installed (s : State) : List (Nat × Nat × List (Nat × List Byte)) :=
  tableIds.map (fun t => (t, s.rd MBX_DT_BIND.ENTRY_COUNT t,
    (s.table t).entries.filterMap (fun e => if e.2.valid then some (e.1, e.2.bytes) else none)))

/-- Drives TWIN_ROLE to follow the role (R464, R473), and takes or gives up what goes with it (R469, R481). -/
def State.setRole (s : State) (lead : Bool) : State :=
  if s.lead = lead then s
  else
    let s := ((s.wrB TWN_STAT.ROLE 0 lead).emit (.pin .twinRole 0 lead)).dropAddrs
    if lead then
      s.updTwin fun t => { t with leadSince := tsQ (s.domAt 0 s.now), before := some s.committed, tabs := s.installed
                                  sentHb := some s.now }
    else s.dropRequests.updTwin fun t => { t with leadSince := 0, before := none, tabs := [], wtr := none, degrade := none }

/-- The pin TWIN_ROLE (R62, R473): high only on a LEAD in FORWARD or CALIBRATE whose block has sent a heartbeat in the
last 4 µs. -/
def State.twinPin (s : State) : Bool :=
  s.lead && s.fwdMode && (match s.twin.sentHb with | some t => s.now < t + 6400 | none => false)

/-! ### Health (R467) -/

/-- Every enabled port is UP, every enabled carrier in STANDBY, ACTIVE, DRAINING or PARKED. -/
def State.objectsOk (s : State) : Bool :=
  (List.range 256).all (fun n => !s.comB PRT_CFG.ENABLE n || s.rd PRT_STAT.LINK_STATE n = 6) &&
  (List.range 128).all (fun c => !s.comB SHF_CAR_CFG.ENABLE c ||
    (6 ≤ s.rd SHF_CAR_STAT.STATE c && s.rd SHF_CAR_STAT.STATE c ≤ 9))

def State.health (s : State) : Nat :=
  let l := s.lead
  let bits := [s.fwdMode, s.bit PWR_CLK_STAT.OCXO_WARM, s.twin.timed, s.objectsOk, s.rd EVT_LASTING.CLASS = 0,
    l || s.twin.digestOk, decide ((s.rdS TWN_TIME_DIFF.DIFF).natAbs ≤ s.com TWN_TOL.TIME_TOL),
    l || (s.twSt = twPAIRED && s.twin.inq.all (fun x => match x.doneAt with | some t => s.now ≤ t + 100 * usT | none => true)),
    s.twin.checkOk]
  bits.foldr (fun b a => 2 * a + if b then 1 else 0) 0

/-- The partner is there and READY (R467, R470). -/
def State.partnerReady (s : State) : Bool := s.bit TWN_STAT.PARTNER && s.rd TWN_HEALTH.PARTNER % 512 = 511

/-- Seconds of wait-to-restore that remain (R483). -/
def State.wtrLeft (s : State) : Nat := match s.twin.wtr with
  | some t => s.com TWN_CFG.WTR_S - (s.now - t) / sT
  | none => 0

/-- TWN_STAT as it reads: READY, and the wait that remains, follow the module (R467, R483). -/
def State.twinStat (s : State) (w : Word) : Word :=
  if s.twinOn then TWN_STAT.WTR_LEFT.put (TWN_STAT.READY.put w (if s.health = 511 then 1 else 0)) s.wtrLeft else w

/-- Shows the health word; NOT_READY when READY falls. -/
def State.twinHealth (s : State) : State :=
  let h := s.health
  let was := s.bit TWN_STAT.READY
  let rdy : Bool := h = 511
  let s := (s.wr TWN_HEALTH.OWN 0 h).wrB TWN_STAT.READY 0 rdy
  let s := if was && !rdy then s.raise EV.TWN_NOT_READY else s
  let waits := !rdy && s.lead && s.partnerReady
  s.updTwin fun t => { t with degrade := if waits then some (t.degrade.getD s.now) else none }

/-! ### The digest (R468) -/

/-- Bits of a committed register that the mirror carries (R478); none for a register that belongs to each module. -/
def mirrorMask (a : Nat) : Nat :=
  let b := blockOf a
  if !(b = 0xB || (1 ≤ b && b ≤ 8)) then 0
  else if (R.PRT_LANE_CFG.inst? a).isSome || (R.SHF_LANE_CFG.inst? a).isSome || (R.TBS_PORT_ADJ.inst? a).isSome ||
      (R.REF_PPSO_ADJ.inst? a).isSome || (R.REF_IN_DELAY.inst? a).isSome then 0
  else if (R.TBS_TRIG_CFG.inst? a).isSome then 0x0000FFFF
  else if (R.REF_IN_CFG.inst? a).isSome then 0xFFFFFFFB
  else 0xFFFFFFFF

def pairBytes (a : Nat) (w : Word) : List Byte := beBytes 4 a ++ beBytes 4 w.toNat

/-- Offsets of the mirrored committed registers: those of the mirrored blocks that a commit can write. -/
def mirroredRegs : List Nat :=
  ([1, 2, 3, 4, 5, 6, 7, 8, 0xB].flatMap blockRows).flatMap (fun row =>
    if row.rwcMask = 0 then [] else ((List.range row.reg.count).map row.reg.at).filter (fun a => mirrorMask a ≠ 0))

/-- STATE_DIGEST: every mirrored committed register value with its offset, and every installed entry. -/
def State.digest (s : State) : Nat :=
  let r := mirroredRegs.foldl (fun d a =>
    Nat.xor d (crc32c (pairBytes a (SMap.get (resetAt a) s.committed a &&& BitVec.ofNat 32 (mirrorMask a))))) 0
  s.gr.tables.foldl (fun d t => t.2.entries.foldl (fun d e =>
    if e.2.valid then Nat.xor d (crc32c (beBytes 4 t.1 ++ beBytes 4 e.1 ++ beBytes 4 e.2.gen)) else d) d) r

/-! ### Messages (R459-R462) -/

/-- Message types of R459. -/
def mtHEARTBEAT : Nat := 1
def mtTXN : Nat := 2
def mtECHO : Nat := 3
def mtCARRIER : Nat := 4
def mtCOUNT : Nat := 5
def mtNAK : Nat := 6
def mtCHECK : Nat := 7

def message (mseq ty : Nat) (payload : List Byte) : List Byte :=
  let b := beBytes 4 mseq ++ [BitVec.ofNat 8 ty, 0] ++ beBytes 2 payload.length ++ slice payload 0 244
  b ++ fcsBytes b

/-- A mirror lane that has trained (R459), and one that also hears the partner (R470). -/
def State.laneTrained (s : State) (i : Nat) : Bool := (s.mlane i).st = 6
def State.laneLive (s : State) (i : Nat) : Bool := s.laneTrained i && (s.mlane i).up

/-- Lanes for the two copies of a message (R460). -/
def State.twoLanes (s : State) (i : Nat) : List Nat :=
  if s.laneLive i && s.laneLive ((i + 2) % 4) then [i, (i + 2) % 4]
  else ((List.range 4).filter s.laneLive).take 2

/-- A message goes onto mirror lane `i` as 8 blocks, after the null blocks of the time since the last one: a block takes
2.56 ns of the lane (R167, R459). -/
def State.onMirror (s : State) (i : Nat) (m : List Byte) : State :=
  let x := (s.mlane i).tx.begun (256 + i) s.now
  let gap := ceilDiv ((s.now - x.start.getD s.now) * 125) 512 - x.sent
  let r := x.put (256 + i) (nulls gap ++ grainBlocks m)
  ((s.emit (.mirror i m)).updMlane i fun l => { l with tx := r.1 }).each r.2 State.emit

/-- Sends a message other than a heartbeat. -/
def State.sendMsg (s : State) (ty : Nat) (payload : List Byte) : State :=
  if !s.twinOn then s
  else
    let q := s.twin.mseq
    let s := s.updTwin fun t => { t with mseq := (q + 1) % 2 ^ 32 }
    let l := s.twoLanes (q % 4)
    (s.each l fun s i => s.onMirror i (message q ty payload)).count (twnSlot 2) (if l.isEmpty then 0 else 1)

/-- Payload of a heartbeat on lane `i` (R462): TX_TIME is D0 when it crosses the lane's transmit land (R463). -/
def State.heartbeat (s : State) (i : Nat) (relq take : Bool) : List Byte :=
  let l := s.mlane i
  let id := s.com TWN_CFG.UNIT + (if s.lead then 2 else 0) + (if relq then 4 else 0) + (if take then 8 else 0) +
    16 * s.com TWN_CFG.PREF_UNIT
  [BitVec.ofNat 8 id, BitVec.ofNat 8 s.mode] ++ beBytes 2 s.health ++ tsBE (tsQ (s.domAt 0 s.now + s.txDelay (256 + i))) ++ tsBE l.echoTx ++
    tsBE l.echoRx ++ beBytes 4 s.digest ++ beBytes 4 (s.rd TWN_TXN_STAT.TXN_LAST) ++
    (List.range 32).flatMap (fun h => beBytes 5 (if s.comB SHF_CFG.ENABLE h then (s.sheaf h).nextSeq else 0)) ++
    tsBE s.twin.leadSince ++ List.replicate 24 0

/-- Sends a heartbeat on every trained lane. -/
def State.sendHb (s : State) (relq take : Bool) : State :=
  let lanes := (List.range 4).filter s.laneTrained
  if !s.twinOn || lanes.isEmpty then s
  else
    let s := s.each lanes fun s i =>
      let s := s.onMirror i (message (s.mlane i).mseq mtHEARTBEAT (s.heartbeat i relq take))
      (s.updMlane i fun l => { l with mseq := (l.mseq + 1) % 2 ^ 32 }).count (twnSlot 2)
    s.updTwin fun t => { t with sentHb := some s.now }

/-- Counts a frame sent at egress `e` in the present D0 second, for the comparison of CHECK messages (R468). -/
def State.noteSent (s : State) (e : Nat) : State :=
  if !s.twinOn then s
  else
    let sec := (tsParts (s.domAt 0 s.now)).1
    s.updTwin fun t =>
      let t := if t.sec = sec then t
        else { t with sec := sec, sentLast := if t.sec + 1 = sec then t.sentNow else [], sentNow := [] }
      { t with sentNow := SMap.set 0 t.sentNow e (SMap.get 0 t.sentNow e + 1) }

/-! ### Relinquishing (R469, R471) -/

/-- The LEAD starts a hand-over: RELINQUISH on every lane in this tick. -/
def State.relinquish (s : State) (mbx : Option (Fin 16)) : State :=
  if s.lead && s.twin.relq.isNone then
    let s := s.updTwin fun t => { t with relq := some (s.now, mbx) }
    (s.wr TWN_STAT.SWITCHING 0 1).sendHb true false
  else s

/-! ### The transactional mirror (R461, R478, R479) -/

def chunks {α : Type} (n : Nat) : Nat → List α → List (List α)
  | 0, _ => []
  | k + 1, bs => if bs.length ≤ n then [bs] else bs.take n :: chunks n k (bs.drop n)

/-- The LEAD sends a transaction and keeps it for retransmission (R465). -/
def State.mirrorTxn (s : State) (kind when_ : Nat) (apply data : List Byte) : State :=
  if s.twinOn && s.lead then
    let txn := (s.rd TWN_TXN_STAT.TXN_LAST + 1) % 2 ^ 32
    let frs := chunks 220 (data.length / 220 + 1) data
    let msgs := frs.zipIdx.map (fun (d, k) =>
      beBytes 4 txn ++ beBytes 2 k ++ beBytes 2 frs.length ++ [BitVec.ofNat 8 kind, BitVec.ofNat 8 when_, 0, 0] ++
      slice apply 0 12 ++ d)
    let s := s.wr TWN_TXN_STAT.TXN_LAST 0 txn
    let s := s.updTwin fun t => { t with kept := (t.kept ++ [(txn, msgs)]).drop (t.kept.length + 1 - 1024) }
    s.each msgs fun s m => s.sendMsg mtTXN m
  else s

/-- Records of a transaction kind, in as many transactions as 65,535 fragments each need: `max` bytes, a multiple of the
record, in each (log entry 34). -/
def State.mirrorTxns (s : State) (kind max : Nat) (data : List Byte) : State :=
  (chunks max (data.length / max + 1) data).foldl (fun s d => s.mirrorTxn kind 0 [] d) s

/-- The effect of a command for the FOLLOW: its opcode and payload (R478). -/
def State.mirrorCmd (s : State) (opc : Nat) (payload : List Byte) : State :=
  s.mirrorTxn 3 0 [] (beBytes 2 opc ++ payload)

end Sys2Proof.Machine
end

