-- ==== Sys2Proof/Machine/Control.lean ====
section
/-! DEFINITION. Sys2Proof/Machine/Control.lean: the mode controller's planning, the ISOLATE trigger, rails, and the
fault actions every block shares (R46, R73-R77, R81, R82, R441, R444). -/
namespace Sys2Proof.Machine

/-! ### Rails (R46, R70) -/

/-- Rails that a mode requires, without rail 0, which follows the lanes (R70, R85). -/
def modeRails (m : Nat) (holdWarm retained : Bool) : Nat :=
  if m = mDORMANT then 0x80 + (if holdWarm then 0x20 else 0)
  else if m = mFORWARD ∨ m = mCALIBRATE then 0xFE
  else if m = mISOLATE then 0xF0 + (if retained then 0x08 else 0)
  else 0xF0

/-- Rails of a mask that are not in another. -/
def railsMinus (a b : Nat) : Nat :=
  (List.range 8).foldl (fun x r => if testBit a r && !testBit b r then setBit x r else x) 0

def railsOr (a b : Nat) : Nat :=
  (List.range 8).foldl (fun x r => if testBit a r || testBit b r then setBit x r else x) 0

/-- Starts the ramp of a rail that RAIL_REQ does not show (R46). -/
def State.rampRail (s : State) (r : Nat) : State :=
  if s.railReq r then s
  else
    let s := s.wr PWR_RAIL_STAT.RAIL_REQ 0 (setBit (s.rd PWR_RAIL_STAT.RAIL_REQ) r)
    let s := s.updPwr fun p => { p with ramp := SMap.insert s.now p.ramp r }
    if r = 5 then
      (s.wr PWR_CLK_STAT.OCXO_HEATING 0 1).updPwr fun p => { p with heaterOn := some s.now, ovenFrom := some s.now }
    else s

/-- PRT_OPT_STAT.INT_LVL shows the levels of the OPT_INT_N pins (R157, R163). -/
def State.optLevels (s : State) : State := s.wr PRT_OPT_STAT.INT_LVL 0 s.pwr.optLow

/-- A ramping rail reaches regulation; with rail 6 the port block shows the pins of the optics. -/
def State.railUp (s : State) (r : Nat) : State :=
  if s.railReq r then
    let s := (s.wr PWR_RAIL_STAT.RAIL_OK 0 (setBit (s.rd PWR_RAIL_STAT.RAIL_OK) r)).updPwr
      fun p => { p with ramp := SMap.erase p.ramp r }
    if r = 6 then s.optLevels else s
  else s

/-! ### Planning (R73, R515) -/

/-- The next transition toward a target, by the fewest steps of the table of R73. -/
def nextMode (cur target : Nat) (retained : Bool) : Option Nat :=
  if cur = target then none
  else if target = mISOLATE then if cur = mDORMANT then none else some mISOLATE
  else if cur = mDORMANT then some mWARMUP
  else if cur = mWARMUP then if target = mDORMANT then some mDORMANT else some mTIMEKEEP
  else if cur = mTIMEKEEP then
    if target = mDORMANT then some mDORMANT
    else if target = mFORWARD ∨ target = mCALIBRATE then some mFORWARD else none
  else if cur = mFORWARD then
    if target = mCALIBRATE then some mCALIBRATE
    else if target = mTIMEKEEP ∨ target = mDORMANT then some mTIMEKEEP else none
  else if cur = mCALIBRATE then none
  else if cur = mISOLATE then
    if target = mDORMANT then some mDORMANT
    else if target = mTIMEKEEP then some mTIMEKEEP
    else if target = mFORWARD ∨ target = mCALIBRATE then
      if retained then some mFORWARD else some mTIMEKEEP
    else none
  else none

/-- Starts a transition: IN_TRANSITION shows it, and the rails that the new mode needs start their ramps (R515). That to
CALIBRATE is step 1 of a run (R429). -/
def State.startTrans (s : State) (m : Fin 6) : State :=
  let s := if s.fwdMode && m.val ≠ mFORWARD && m.val ≠ mCALIBRATE then s.relinquish none else s
  let s := s.wr PWR_MODE_CTL.IN_TRANSITION 0 1
  let s := s.updPwr fun p => { p with trans := some m }
  let s := if m.val = mCALIBRATE then (s.wr CAL_STAT.RUNNING 0 1).wr CAL_STAT.PHASE 0 1 else s
  let need := modeRails m (s.bit PWR_MODE_CTL.OCXO_HOLD_WARM) (s.bit PWR_MODE_STAT.HBM_RETAINED)
  if m.val = mISOLATE then s
  else (List.range 8).foldl (fun s r => if testBit need r then s.rampRail r else s) s

/-- Boot is in state RUNNING (R91). -/
def State.bootRunning (s : State) : Bool := s.rd PWR_BOOT_STAT.STATE = 3

/-- Takes up the next transition when none is in progress and its trigger holds (R73): leaving WARMUP upward also
needs OCXO_WARM and a running boot. A calibration run ends by its own step. -/
def State.plan (s : State) : State :=
  if s.pwr.trans.isSome then s
  else
    match nextMode s.mode (s.rd PWR_MODE_CTL.REQ_MODE) (s.bit PWR_MODE_STAT.HBM_RETAINED) with
    | none => s
    | some m =>
      if s.mode = mWARMUP ∧ m = mTIMEKEEP ∧ ¬ (s.bit PWR_CLK_STAT.OCXO_WARM ∧ s.bootRunning) then s
      else if h : m < 6 then s.startTrans ⟨m, h⟩ else s

def State.tdcRun (s : State) : Bool := s.bit TDC_STAT.RUN

/-- Shows the TDC's state; FIFO_FULL on a rise of FIFO_WAIT (R415, R422). -/
def State.tdcNote (s : State) : State :=
  let st := if s.tdc.test.isSome then 3 else if s.tdc.armed.isSome then 1 else if s.tdcRun then 2 else 0
  let wait := decide (256 ≤ s.tdc.fifo.length)
  let was := s.bit TDC_STAT.FIFO_WAIT
  let s := ((s.wr TDC_STAT.STATE 0 st).wr TDC_STAT.FIFO_CNT 0 s.tdc.fifo.length).wrB TDC_STAT.FIFO_WAIT 0 wait
  if wait && !was then s.raise EV.TDC_FIFO_FULL else s

/-- An ISOLATE trigger ends a calibration run at once (R430); a code-density test of CMD_TDC_BIN_CAL goes on. -/
def State.abortCal (s : State) : State :=
  if s.bit CAL_STAT.RUNNING then
    let s := (s.wr CAL_STAT.RUNNING 0 0).wr CAL_STAT.PHASE 0 0
    let s := s.updTdc fun t => if t.testMbx.isSome then t else { t with test := none, again := false }
    let s := s.updCal fun c => { c with again := false }
    let s := (s.cal.paths.map (·.1)).foldl (fun s k => s.updPath k fun p => { p with failed := false }) s
    (s.tdcNote.wr PWR_MODE_STAT.CAL_PENDING 0 1).raise EV.CAL_RUN_ABORT
  else s

/-- A trigger for ISOLATE (R73, R75, R76), by the host (cause 1) or by a fault or the temperature: it writes REQ_MODE and
aborts a transition in progress; in DORMANT it enters no mode. The first cause stays: a trigger that arrives while
ISOLATE is being entered or is the mode leaves ISO_CAUSE as it is (DESIGN CHOICE, log entry 77). -/
def State.isolate (s : State) (cause : Nat) : State :=
  if s.mode = mDORMANT then s
  else
    let s := s.wr PWR_MODE_CTL.REQ_MODE 0 mISOLATE
    let s := if cause = 1 then s else s.updPwr fun p => { p with isoAt := some s.now }
    if s.pwr.trans = some 5 || (s.mode = mISOLATE && s.pwr.trans.isNone) then s
    else
      let s := s.updPwr fun p => { p with isoCause := cause }
      s.abortCal.startTrans 5

/-- Outside ISOLATE the TAP holds BYPASS in place of a test instruction (R68). -/
def State.tapLeave (s : State) : State :=
  s.updPwr fun p => { p with tap := if p.tap = .idcode then .idcode else .bypass }

/-! ### Faults (R441, R444) -/

/-- A transient fault of class `c`: counted and raised, the class being its OBJECT (R441, R451). -/
def State.transientFault (s : State) (c : Nat) : State :=
  (s.addSat EVT_FCNT.TRANSIENT c 1).raise EV.EVT_TRANSIENT c

/-- A lasting fault of class `c`: counted, recorded, raised with DETAIL as OBJECT; unrepaired, it takes its action
(R441, R444). -/
def State.lastingFault (s : State) (c detail : Nat) (unrepaired : Bool) : State :=
  let s := s.addSat EVT_FCNT.LASTING c 1
  let s := if s.railOk 4 then
      s.setReg R.EVT_LAST_FAULT 0 (BitVec.ofNat 32 (c + (if unrepaired then 16 else 0) + 32 * detail))
    else s
  let s := s.raiseObj EV.EVT_LASTING 0 detail
  let n := SMap.get 0 s.evt.unrepaired c
  if unrepaired then
    let s := s.updEvt fun e => { e with unrepaired := SMap.set 0 e.unrepaired c (n + 1) }
    let s := s.wr EVT_LASTING.CLASS 0 (setBit (s.rd EVT_LASTING.CLASS) c)
    if s.faultAct c = 2 then s.isolate 3 else s
  else
    s.updEvt fun e => { e with repairs := SMap.set 0 e.repairs c (SMap.get 0 e.repairs c + 1) }

end Sys2Proof.Machine
end

