-- ==== Sys2Proof/Machine/Mailbox.lean ====
section
/-! DEFINITION. Sys2Proof/Machine/Mailbox.lean: the mailbox states, the frame of every mailbox command, fences, and
the meanings of DOORBELL, MAILBOX_WRITE, FENCED_COMMAND_START, CMD_NOP, CMD_IDENTIFY, CMD_FENCE and the ends of a fence
(chapter 4). -/
namespace Sys2Proof.Machine

abbrev Res := Host.Outcome State Fault Refusal

/-! ### Mailbox states (R99) -/
def mIDLE : Nat := 0
def mPOSTED : Nat := 1
def mRUNNING : Nat := 2
def mDONE : Nat := 3

/-- State of mailbox `m` in MBX_STATE. -/
def State.mst (s : State) (m : Nat) : Nat := (s.reg R.MBX_STATE 0).toNat / 4 ^ m % 4
def State.setMst (s : State) (m v : Nat) : State :=
  s.setReg R.MBX_STATE 0 (BitVec.ofNat 32 ((s.reg R.MBX_STATE 0).toNat - s.mst m * 4 ^ m + v % 4 * 4 ^ m))

/-- Bawalo or the recovery loader serves mailboxes (R91, R92, R96). -/
def State.serving (s : State) : Bool :=
  s.railOk 6 && (s.rd PWR_BOOT_STAT.STATE = 3 || s.rd PWR_BOOT_STAT.STATE = 4)
def State.recovery (s : State) : Bool := s.rd PWR_BOOT_STAT.STATE = 4

/-! ### Frames that hold captured versions (R215, R216) -/

def State.liveFrames (s : State) : List Frame :=
  (s.fwd.pipeQ.flatMap (·.2)) ++ (s.fwd.missQ.flatMap (·.2)) ++ (s.fwd.orderQ.flatMap (·.2)) ++
  (s.fwd.ingress.flatMap (·.2)) ++ (s.fwd.queues.flatMap (fun q => q.2.ents.map (·.frame))) ++
  (s.ports.flatMap (fun p => (p.2.tx.toList ++ p.2.preempted.toList).map (·.frame))) ++
  (s.sheaves.flatMap (fun h => h.2.tx.toList.map (·.frame)))

/-- Superseded versions that no frame holds leave the store (R216). -/
def State.freeVersions (s : State) : State :=
  if s.gr.store.isEmpty then s
  else
    let held := s.liveFrames.flatMap (fun f => match f.cap with | some c => c.held | none => [])
    let left := s.gr.store.filter (fun v => held.contains v)
    let s := s.updGr fun g => { g with store := left }
    if s.railOk 1 then s.wr FWD_VER_STAT.HELD 0 (min 16384 left.length) else s

/-! ### Fences (R111, R112) -/

/-- The two conditions of R111 for the doorbell of mailbox `m`. -/
def State.fenceCond (s : State) (m : Nat) : Bool :=
  let b := s.mbxAt m
  s.gr.tables.all (fun t => t.2.queue.all (fun i => i.mbx.isSome || i.reload || b.ord < i.ord)) &&
  (List.range 16).all (fun n => n = m || !(s.mst n = mPOSTED || s.mst n = mRUNNING) ||
    decide (b.postAt ≤ (s.mbxAt n).postAt))

/-- No frame that captured before order number `n` is left in the module. -/
def State.drained (s : State) (n : Nat) : Bool :=
  s.liveFrames.all (fun f => match f.cap with | some c => n ≤ c.ord | none => true)

/-- DRAIN and the tick at which TIMEOUT_US passes, of the CMD_FENCE in mailbox `m` (R105, R112). -/
def State.fenceDrain (s : State) (m : Nat) : Bool := s.plen m = 8 && testBit (s.pay m 0 4) 0
def State.fenceLim (s : State) (m : Nat) : Option Nat :=
  if s.plen m = 8 && s.pay m 4 4 ≠ 0 then some ((s.mbxAt m).postAt + s.pay m 4 4 * usT) else none

/-- Mailbox `m` holds a CMD_FENCE that is posted or waits. -/
def State.fenceIn (s : State) (m : Nat) : Bool := s.opcode m = 0x3 && (s.mst m = mPOSTED || s.mst m = mRUNNING)

/-- A number of the order of doorbells and notifies is used. -/
def State.takeOrd (s : State) : State := { s with nextOrd := s.nextOrd + 1 }

/-- Notes for the CMD_FENCE of mailbox `m` the point at which the condition of R111 first holds, as a place in the order
of captures, and the tick at which its whole condition first does (R112). -/
def State.noteFence (s : State) (m : Nat) (drain : Bool) : State :=
  let s := if (s.mbxAt m).met.isNone && s.fenceCond m then
      (s.updMbx m fun b => { b with met := some s.nextOrd }).takeOrd
    else s
  match (s.mbxAt m).met with
  | some n =>
    if (s.mbxAt m).heldAt.isNone && (!drain || s.drained n) then
      s.updMbx m fun b => { b with heldAt := some s.now }
    else s
  | none => s

/-- The fences waiting in the mailboxes. -/
def State.noteFences (s : State) : State :=
  (List.range 16).foldl (fun s m => if s.fenceIn m then s.noteFence m (s.fenceDrain m) else s) s

/-- MBX_GRANGE_STAT.AWAKE (R86): a command is served or a boot runs. -/
def State.noteAwake (s : State) : State :=
  let a := s.railOk 6 && (s.boot.running || (s.serving &&
    (List.range 16).any (fun m => s.mst m = mPOSTED || s.mst m = mRUNNING)))
  if s.bit MBX_GRANGE_STAT.AWAKE = a then s else s.wrB MBX_GRANGE_STAT.AWAKE 0 a

/-- What follows every command in its tick: superseded versions freed, fences noted, vectors sent. -/
def State.settle (s : State) : State := s.freeVersions.noteFences.noteAwake.vectors

/-- Every meaning ends here. -/
def fin (s : State) : Res := .next s.settle

/-! ### Completion and the frame of a command (R98-R104, R108) -/

/-- Writes STATUS, RESULT_LEN, DETAIL, DONE_TICK and the result, shows DONE, then sends the vector (R101). A success of
a repeated execution is ST_TRANSIENT_RECOVERED and counts as such (R108). A result ends with its mailbox (R98, log entry
73). -/
def State.writeDone (s : State) (m : Nat) (status : Nat) (detail : Nat) (result : List Byte) : State :=
  let again := status = ST_OK && (s.mbxAt m).retry
  let st := if again then ST_TRANSIENT_RECOVERED else status
  let s := if again then (s.addSat MBX_RETRY_STAT.TRANSIENT_CNT 0 1).transientFault 7 else s
  let irq := testBit (s.mflags m) 1
  let result := result.take 4032
  let s := s.setMb m 8 (leBytes 2 st ++ leBytes 2 result.length ++ leBytes 4 detail)
  let s := s.setMb m 24 (leBytes 8 s.tick ++ List.replicate 32 0 ++ result)
  let s := s.setMst m mDONE
  let s := s.updMbx m fun b =>
    { b with job := none, retry := false, final := false, go := false, late := none, met := none, heldAt := none }
  if irq then s.msix m else s

/-- A command completes: at once, or, when the hardware ends its work while the Grange reboots, after the reboot
(R109). -/
def State.complete (s : State) (m : Nat) (status : Nat) (detail : Nat := 0) (result : List Byte := []) : State :=
  if s.boot.running then s.updMbx m fun b => { b with job := none, final := true, late := some (status, detail, result) }
  else s.writeDone m status detail result

/-- A started command stays RUNNING with work to finish; `final` says that the journal holds its final step. -/
def State.running (s : State) (m : Nat) (j : Job) (final : Bool) : State :=
  s.updMbx m fun b => { b with job := some j, final := final }

/-- Mailbox `m` holds a command of opcode `opc` that may start now (R96, R109, R111). -/
def State.ready (s : State) (m opc : Nat) : Bool :=
  let b := s.mbxAt m
  s.serving && s.opcode m = opc &&
  (s.mst m = mPOSTED || (s.mst m = mRUNNING && b.job.isNone && b.retry)) &&
  (!testBit (s.mflags m) 0 || opc = 0x3 || b.go)

/-- An error in a second execution (R108). -/
def State.cmdLasting (s : State) (m : Nat) : State :=
  let s := s.addSat MBX_RETRY_STAT.LASTING_CNT 0 1
  let s := (s.lastingFault 7 (s.opcode m) true)
  s.complete m ST_LASTING_FAULT

/-- The frame of every mailbox command: it starts when ready, the recovery loader refuses it (R92, R107), the first
failing check of R104 completes it, an error twice completes it without effect (R108), otherwise `body` runs. -/
def State.cmd (s : State) (m : Fin 16) (opc : Nat) (x : Exec) (checks : State → List Check)
    (body : State → State) : State :=
  if !s.ready m opc then s
  else
    let s := s.setMst m mRUNNING
    if s.recovery && opc ≠ 0x40 && opc ≠ 0x41 then s.complete m ST_LASTING_FAULT
    else match firstFail (checks s) with
      | some st => s.complete m (st % 65536) (st / 65536)
      | none =>
        match x, (s.mbxAt m).retry with
        | .clean, false => body s
        | .failed, _ => s.cmdLasting m
        | .retried, true => s.cmdLasting m
        | _, _ =>
          body (s.updMbx m fun b => { b with retry := true })

/-! ### Meanings -/

/-- A write of MBX_DOORBELL (R96, R99, R100, R102). -/
def State.doorbell (s : State) (ring : Word) : State :=
  let o := s.nextOrd
  let s := { s with nextOrd := o + 1 }
  (List.range 16).foldl (fun s n =>
    if !testBit ring.toNat n then s
    else if s.mst n = mIDLE || s.mst n = mDONE then
      let s := s.setMb n 16 (leBytes 8 s.tick)
      let s := s.setMst n mPOSTED
      s.updMbx n fun _ => { postAt := s.now, ord := o }
    else s.addSat MBX_ERR_STAT.DOORBELL_LOST_CNT 0 1) s

/-- DOORBELL: accepted while the PCIe link is up. -/
def execDoorbell (ring : Word) (s : State) : Res := if s.gr.linkUp then fin (s.doorbell ring) else fin s

/-- A write of mailbox memory (R98, R100, R492). -/
def State.mbxWrite (s : State) (o : Nat) (data : List Byte) : State :=
  let n := o / 4096
  if data.isEmpty then s
  else if (o + data.length - 1) / 4096 ≠ n then s.reservedEnc o
  else if s.mst n = mPOSTED || s.mst n = mRUNNING then s.addSat MBX_ERR_STAT.WRITE_LOST_CNT 0 1
  else s.setMb n (o % 4096) data

/-- MAILBOX_WRITE: a write within one mailbox is stored unless the mailbox is POSTED or RUNNING. -/
def execMailboxWrite (ofs : BitVec 16) (data : List Byte) (s : State) : Res :=
  if s.gr.linkUp then fin (s.mbxWrite ofs.toNat data) else fin s

/-- FENCED_COMMAND_START (R111): a posted command with FLAGS.FENCE is let start once both conditions hold. -/
def execFencedCommandStart (m : Fin 16) (s : State) : Res :=
  if s.serving && s.mst m = mPOSTED && testBit (s.mflags m) 0 && s.opcode m ≠ 0x3 && s.fenceCond m then
    fin (s.updMbx m fun b => { b with go := true })
  else fin s

/-- CMD_NOP (R105); a posted opcode that is no command completes with ST_UNKNOWN_OPCODE (R103, R104, log entry 7). -/
def execCmdNop (m : Fin 16) (x : Exec) (s : State) : Res :=
  if s.ready m (s.opcode m) && !knownOpcodes.contains (s.opcode m) then
    let s := s.setMst m mRUNNING
    fin (s.complete m (if s.recovery then ST_LASTING_FAULT else ST_UNKNOWN_OPCODE))
  else
    fin (s.cmd m 0x1 x (fun s => s.headChecks m (· = 0)) (fun s => s.complete m ST_OK))

/-- CMD_IDENTIFY (R105): stepping, reserved, release, serial number. -/
def execCmdIdentify (m : Fin 16) (x : Exec) (s : State) : Res :=
  fin (s.cmd m 0x2 x (fun s => s.headChecks m (· = 0)) (fun s =>
    s.complete m ST_OK 0 ([BitVec.ofNat 8 (s.rd PWR_IDENT.STEPPING), 0] ++
      leBytes 2 (s.rd PWR_BOOT_STAT.RELEASE) ++ s.boot.serial)))

/-- The time limit of a fence passed before its condition first held (R112). -/
def State.fenceLate (s : State) (m : Nat) (lim : Option Nat) : Bool := match lim with
  | some l => decide (l < (s.mbxAt m).heldAt.getD s.now)
  | none => false

/-- CMD_FENCE (R105, R111, R112): completes when its condition holds, or with ST_TIMEOUT when its limit, counted from the
doorbell, has passed first; with DRAIN it waits for captured frames. -/
def execCmdFence (m : Fin 16) (x : Exec) (s : State) : Res :=
  fin (s.cmd m 0x3 x
    (fun s => s.headChecks m (fun n => n = 0 || n = 8) ++
      [(ST_BAD_ARGUMENT, s.plen m = 8 && s.pay m 0 4 / 2 ≠ 0),
       (ST_WRONG_MODE, s.fenceDrain m && !s.fwdMode)])
    (fun s =>
      let lim := s.fenceLim m
      let drain := s.fenceDrain m
      let s := s.noteFence m drain
      if s.fenceLate m lim then s.complete m ST_TIMEOUT
      else if s.fenceCond m && (s.mbxAt m).heldAt.isSome then s.complete m ST_OK
      else s.running m (.fence drain lim) false))

/-- FENCE_RELEASE (R112). -/
def execFenceRelease (m : Fin 16) (s : State) : Res :=
  match (s.mbxAt m).job with
  | some (.fence drain lim) =>
    let s := s.noteFence m drain
    fin (if (s.mbxAt m).heldAt.isNone then s
      else s.complete m (if s.fenceLate m lim then ST_TIMEOUT else ST_OK))
  | _ => fin s

/-- FENCE_TIMEOUT (R112): TIMEOUT_US, counted from the doorbell, has passed, and the condition did not hold before. -/
def execFenceTimeout (m : Fin 16) (s : State) : Res :=
  match (s.mbxAt m).job with
  | some (.fence _ (some lim)) =>
    if lim ≤ s.now && (s.mbxAt m).heldAt.all (fun t => decide (lim ≤ t)) then fin (s.complete m ST_TIMEOUT) else fin s
  | _ => fin s

end Sys2Proof.Machine
end

