-- ==== Sys2Proof/Machine/Rails.lean ====
section
/-! DEFINITION. Sys2Proof/Machine/Rails.lean: what is lost when a rail switches off (R46, R78, R80, R118, R122, R491,
R518), the resets (R87) and the start of a boot (R91). -/
namespace Sys2Proof.Machine

/-- Registers of block `b` and its committed view return to reset (R491). -/
def State.clearBlock (s : State) (b : Nat) : State :=
  let lo := if b = 0xE then 0x100000000 else 0x01000000 + b * 0x100000
  { s with regs := SMap.drop s.regs lo (lo + 0x100000), committed := SMap.drop s.committed lo (lo + 0x100000),
           latches := SMap.drop s.latches lo (lo + 0x100000) }

/-- Commit group of a register block (R114). -/
def groupOf : Nat → Option Nat
  | 0x1 => some 0 | 0x2 => some 1 | 0x3 => some 2 | 0x4 => some 3 | 0x5 => some 4 | 0x6 => some 5 | 0x7 => some 6
  | 0x8 => some 7 | 0x9 => some 8 | 0xA => some 9 | 0xC => some 10 | 0xB => some 11 | _ => none

def groupBlock (g : Nat) : Nat := [0x1, 0x2, 0x3, 0x4, 0x5, 0x6, 0x7, 0x8, 0x9, 0xA, 0xC, 0xB].getD g 0xFF

def groupHit (groups a : Nat) : Bool := match groupOf (blockOf a) with
  | some g => testBit groups g
  | none => false

/-- `m` with the RWC bits of the named groups' registers as in `src`. -/
def copySets (groups : Nat) (src m : SMap Word) : SMap Word :=
  let keys := (((m.map (·.1)) ++ src.map (·.1)).filter (groupHit groups)).dedup
  keys.foldl (fun x a =>
    let r := resetAt a
    let k := rwcAt a
    SMap.set r x a ((SMap.get r x a &&& ~~~k) ||| (SMap.get r src a &&& k))) m

/-- End of a commit of the register path: RESULT, then vector 16 (R101, R127, R128). -/
def State.commitResult (s : State) (path : Option (Fin 16)) (status detail : Nat) : State :=
  match path with
  | some m => if s.mst m = mRUNNING then s.complete m status detail else s
  | none => (s.wr MBX_COMMIT_STAT.RESULT 0 status).msix 16

/-- MBX_COMMIT_STAT.STATE follows the engine's commits: waiting before checking. -/
def State.noteCommits (s : State) : State :=
  s.wr MBX_COMMIT_STAT.STATE 0 (if s.gr.commits.any (fun c => c.stage = .checking) then 1
    else if s.gr.commits.isEmpty then 0 else 2)

/-- A commit in its check, or waiting, whose group loses its rails ends with ST_WRONG_MODE (R118). -/
def State.abortCommits (s : State) (rail : Nat) : State :=
  let hit (c : Commit) : Bool := (List.range 12).any (fun g => testBit c.groups g && blockRail (groupBlock g) = rail)
  let dead := s.gr.commits.filter hit
  if dead.isEmpty then s
  else
    let s := s.updGr fun g => { g with commits := g.commits.filter (fun c => !hit c) }
    (s.each dead (fun s c => s.commitResult c.path ST_WRONG_MODE 0)).noteCommits

def State.clearReg (s : State) (r : Reg) (i : Nat) : State := s.setReg r i (BitVec.ofNat 32 (r.reset i))

/-- Unbinds a table (R122): entries invalid, queue dropped, a sync in progress ends with ST_WRONG_MODE. -/
def State.unbind (s : State) (t : Nat) (keep : Bool := false) : State :=
  let syncs := (s.table t).queue.filterMap (·.mbx)
  let s := s.updTable t fun x =>
    if keep then { x with queue := [] } else { x with addr := none, queue := [], entries := [] }
  let s := if keep then s else s.clearReg R.MBX_DT_BIND t
  s.each syncs (fun s m => if s.mst m = mRUNNING then s.complete m ST_WRONG_MODE else s)

/-- What the timing die and the twin block lose with their rails (R306, R386, R404, R417, R439, R488). -/
def State.loseTiming (s : State) : State :=
  let s := s.quiesce
  let s := { s with tb := {} }
  let s := { s with tt := {} }
  let s := { s with ref := {} }
  let s := { s with syn := {} }
  let s := { s with tdc := {} }
  { s with cal := {} }
def State.loseTwin (s : State) : State := { s.setRole false with twin := {} }

/-- Rail 1: forwarding, Almanac, frames on their way, counters not yet folded. -/
def State.loseFwd (s : State) : State :=
  let keep := s.bit PWR_MODE_STAT.HBM_RETAINED
  let s := s.each tableIds (fun s t => s.unbind t (keep && t = 0x30))
  let s := (s.clearBlock 0x3).clearBlock 0x5
  let s := s.wr PWR_CLK_STAT.CORE_RUN 0 0
  let s := s.updGr fun g => { g with store := [] }
  let s := { s with fwd := {} }
  let s := { s with alm := {} }
  let s := { s with tacc := [] }
  let s := { s with ports := s.ports.map (fun (p : Nat × Port) => (p.1, { p.2 with tx := none, preempted := none, asm := none })) }
  { s with sheaves := (s.sheaves.map (fun (h : Nat × Sheaf) =>
    (h.1, ({ nextSeq := h.2.nextSeq, legSeq := (h.2.nextSeq, h.2.nextSeq) } : Sheaf)))).filter (fun h => h.2 ≠ ({} : Sheaf)) }

/-- Rail 2: the Granary; retired pages stay retired, and retired buffers are noted until FORWARD is entered again (R266,
R454); the tag of such a buffer is Retired, 7. -/
def State.loseGranary (s : State) : State :=
  let r := s.grn.pageRetired
  let s := (List.range 16).foldl (fun s m =>
    if s.mst m = mRUNNING && ((s.mbxAt m).job = some (.sweep false) || (s.mbxAt m).job = some (.sweep true)) then s.complete m ST_WRONG_MODE else s) s
  { s.clearBlock 0x4 with grn := { pageRetired := r, bufs := s.grn.bufs.filter (fun e => e.2.kind = 7) } }.wr GRN_SILO_STAT.FREE_PAGES 0 (25022464 - r.length - s.evt.remap.length)

/-- Rail 3: the Tally and the flow table. -/
def State.loseTally (s : State) : State :=
  { s.unbind 0x30 with tally := [], tacc := [] }

/-- Rail 4: the timing die with the event engine. -/
def State.loseTimeDie (s : State) : State :=
  let s := s.loseTiming
  let s := (((((s.clearBlock 0x6).clearBlock 0x7).clearBlock 0x8).clearBlock 0x9).clearBlock 0xA).clearBlock 0xB
  let s := ((s.wr PWR_CLK_STAT.MDLL_LOCK 0 0).wr PWR_CLK_STAT.TCLK_RUN 0 0).wr PWR_CLK_STAT.TICK_RUN 0 0
  let s := s.updPwr fun p => { p with mdllAt := none, mdllHold := false }
  s.updEvt fun e => { e with due := [], log := [], latch := none, level := 0, frozen := false, reloadAt := none }

/-- Rail 5: the oven. -/
def State.loseOcxo (s : State) : State :=
  let s := (s.wr PWR_CLK_STAT.OCXO_HEATING 0 0).wr PWR_CLK_STAT.OCXO_WARM 0 0
  let s := s.wr PWR_OCXO_STAT.OVEN_ERR 0 0
  s.updPwr fun p => { p with heaterOn := none, ovenFrom := none, ovenAt := none }

/-- What the journal holds of the commands in progress; without any, what it held before (R95, R109). -/
def State.journalled (s : State) : List (Nat × Bool × Bool) :=
  let l := (List.range 16).filterMap (fun m =>
    if s.mst m = mRUNNING then some (m, (s.mbxAt m).final, (s.mbxAt m).retry) else none)
  if l.isEmpty then s.boot.kept else l

/-- Rail 6: the Grange, lines, mirror. The journal stays (R95). -/
def State.loseGrange (s : State) : State :=
  let kept := s.journalled
  let s := s.loseTwin
  let s := ((((s.clearBlock 0x0).clearBlock 0x1).clearBlock 0x2).clearBlock 0xC).clearBlock 0xE
  let s := (s.wr PWR_BOOT_STAT.STATE 0 0).wr PWR_BOOT_STAT.RELEASE 0 0
  let s := s.updBoot fun b =>
    { b with running := false, journal := false, relink := false, flashBusy := none, kept := kept }
  let s := { s with gr := {} }
  let s := { s with mem := [] }
  let s := { s with ports := [] }
  let s := { s with cars := [] }
  let s := { s with sheaves := [] }
  { s with tt := {} }

/-- The contents that go with a rail; a switch reset loses them without the rail going off (R87). -/
def State.lose (s : State) (r : Nat) : State :=
  match r with
  | 0 => s.wr PWR_CLK_STAT.SDREF_RUN 0 0
  | 1 => s.loseFwd
  | 2 => s.loseGranary
  | 3 => s.loseTally
  | 4 => s.loseTimeDie
  | 5 => s.loseOcxo
  | 6 => s.loseGrange
  | _ => s

/-- Rail `r` switches off: it leaves RAIL_REQ and RAIL_OK, its blocks' registers return to reset, and what it powers is
lost. -/
def State.railOff (s : State) (r : Nat) : State :=
  if !s.railReq r then s
  else
    let s := s.wr PWR_RAIL_STAT.RAIL_REQ 0 (clearBit (s.rd PWR_RAIL_STAT.RAIL_REQ) r)
    let s := s.wr PWR_RAIL_STAT.RAIL_OK 0 (clearBit (s.rd PWR_RAIL_STAT.RAIL_OK) r)
    let s := s.updPwr fun p => { p with ramp := SMap.erase p.ramp r }
    let s := s.abortCommits r
    s.lose r

/-- Port `p` waits in DOWN_PENDING and its DOWN_DEB has ended (R137). -/
def State.debEnds (s : State) (p : Nat) : Bool :=
  s.rd PRT_STAT.LINK_STATE p = 7 && (s.port p).faults ≠ 0 &&
    decide ((s.port p).downAt + s.rd PRT_LINK_CFG.DOWN_DEB p * usT ≤ s.now)

/-- Carrier `c` has had no valid timing grain for 8 µs (R188). -/
def State.silent (s : State) (c : Nat) : Bool := (s.car c).rx.valid && decide ((s.car c).rx.at_ + 12800 ≤ s.now)

/-- A switch reset of this tick has cleared the occasion of `e`, whose row still raises it, once (R450). -/
def State.wasCut (s : State) (e : CutEv) : Bool := s.pwr.cut.1 = s.now && s.pwr.cut.2.contains e
def State.pastCut (s : State) (e : CutEv) : State := s.updPwr fun w => { w with cut := (w.cut.1, w.cut.2.erase e) }

/-- Reset causes and the log record of a reset that leaves the log (R94, R450; log entry 9). -/
def State.resetCause (s : State) (b : Nat) : State :=
  let s := s.setReg R.PWR_RESET_CAUSE 0 (s.reg R.PWR_RESET_CAUSE 0 ||| BitVec.ofNat 32 (2 ^ b))
  s.logAdd 1 0xD b 0

/-- PWR_FEED_STAT and the conducting switches (R37, R38, R69): the higher voltage carries, both within 0.5 V. The voltages
at the lands are taken to be what the monitors read (DESIGN CHOICE, log entry 119). -/
def State.feedRegs (s : State) : State :=
  let a := s.pwr.feedA
  let b := s.pwr.feedB
  let ca := a.connected && (!b.connected || b.volt ≤ a.volt + 50)
  let cb := b.connected && (!a.connected || a.volt ≤ b.volt + 50)
  let s := (s.wrB PWR_FEED_STAT.A_OK 0 a.connected).wrB PWR_FEED_STAT.B_OK 0 b.connected
  let s := (s.wrB PWR_FEED_STAT.A_CONDUCTING 0 ca).wrB PWR_FEED_STAT.B_CONDUCTING 0 cb
  let s := (s.wrB PWR_FEED_STAT.A_OVER 0 a.overV).wrB PWR_FEED_STAT.B_OVER 0 b.overV
  (s.wrB PWR_FEED_STAT.A_REVERSED 0 a.reversed).wrB PWR_FEED_STAT.B_REVERSED 0 b.reversed

/-- What a power-on reset leaves besides the reset values: queue, time, feeds, straps, flash and the output record. -/
def State.fromReset (s : State) (straps : Nat) : State :=
  let r : State :=
    { State.reset with
      pending := s.pending, now := s.now, nextOrd := s.nextOrd, nextFrame := s.nextFrame, nextFree := s.nextFree,
      out := s.out,
      boot := { slotA := s.boot.slotA, slotB := s.boot.slotB, active := s.boot.active, history := s.boot.history,
                saved := s.boot.saved, minRelease := s.boot.minRelease, serial := s.boot.serial,
                manuf := s.boot.manuf, ocxo := s.boot.ocxo },
      pwr := { feedA := s.pwr.feedA, feedB := s.pwr.feedB, rideEnd := s.pwr.rideEnd, straps := straps,
               perstLow := s.pwr.perstLow, tap := s.pwr.tap, optLow := s.pwr.optLow } }
  (r.wr PWR_SMB_STAT.ADDR 0 (0x58 + straps)).feedRegs

/-- The reset of the pin and of PWR_RESET_CTL.MODULE (R87): everything but the fault history, the reset causes and the
retention SRAM with its journal (R95). A test instruction of the TAP ends with ISOLATE (R68). -/
def State.moduleReset (s : State) (cause : Nat) : State :=
  let r := (s.fromReset s.pwr.straps).tapLeave
  let r := r.updPwr fun p => { p with resetAt := some s.now }
  let r := r.setReg R.EVT_LASTING 0 (s.reg R.EVT_LASTING 0)
  let r := (List.range 11).foldl (fun r c => r.setReg R.EVT_FCNT c (s.reg R.EVT_FCNT c)) r
  let r := r.setReg R.PWR_RESET_CAUSE 0 (s.reg R.PWR_RESET_CAUSE 0 ||| BitVec.ofNat 32 (2 ^ cause))
  let r := r.wrB PWR_FEED_STAT.RIDE_THROUGH 0 (s.bit PWR_FEED_STAT.RIDE_THROUGH)
  let r := r.updBoot fun b => { b with kept := s.journalled }
  let r := r.wr GRN_SILO_STAT.FREE_PAGES 0 (25022464 - s.evt.remap.length)
  r.updEvt fun e => { e with rows := s.evt.rows, units := s.evt.units, remap := s.evt.remap,
                             repairs := s.evt.repairs, unrepaired := s.evt.unrepaired }

/-- A read of an image starts; its length in time is open (R91, R519, log entry 57). -/
def State.startRead (s : State) : State :=
  let s := s.updBoot fun b => { b with checkFrom := s.now + Config.imageRead s.nextFree }
  { s with nextFree := s.nextFree + 1 }

/-- The boot ROM starts its sequence (R91, R518, R519). -/
def State.startBoot (s : State) (journal : Bool) : State :=
  let s := s.setReg R.PWR_BOOT_STAT 0 (BitVec.ofNat 32 (1 + 8 * s.boot.active))
  (s.updBoot fun b => { b with running := true, slotsTried := 0, second := false, lasting := 0, journal := journal,
                               flashBusy := none }).startRead

/-- A power fault (R47, R82): PGOOD (in its tick) and FAULT_N low, POWER_FAULT set; with always-on power the controller
switches off every rail but 7 (and 5 when the oven is to stay warm and the fault is not on rail 5) and enters DORMANT,
which LAST_FROM and LAST_TO show as a transition (DESIGN CHOICE, log entry 78). -/
def State.powerFault (s : State) (rail : Option Nat) : State :=
  let s := (s.raise EV.PWR_POWER_FAULT).tapLeave
  let s := s.updPwr fun p => { p with faultAt := some s.now }
  let keep5 := s.bit PWR_MODE_CTL.OCXO_HOLD_WARM && rail ≠ some 5
  let rails := if keep5 then [0, 1, 2, 3, 4, 6] else [0, 1, 2, 3, 4, 5, 6]
  let from_ := s.mode
  let s := s.wr PWR_MODE_STAT.HBM_RETAINED 0 0
  let s := rails.foldl State.railOff s
  let s := s.updPwr fun p => { p with lanes := [], held := [], trans := none, oldRails := 0 }
  let s := (s.wr PWR_MODE_CTL.IN_TRANSITION 0 0).wr PWR_MODE_CTL.REQ_MODE 0 mDORMANT
  let s := s.wr PWR_MODE_CTL.CUR_MODE 0 mDORMANT
  let s := s.wr PWR_MODE_STAT.ISO_CAUSE 0 0
  if from_ = mDORMANT then s
  else (s.wr PWR_MODE_STAT.LAST_FROM 0 from_).wr PWR_MODE_STAT.LAST_TO 0 mDORMANT

end Sys2Proof.Machine
end

