-- ==== Sys2Proof/Machine/RegWrite.lean ====
section
/-! DEFINITION. Sys2Proof/Machine/RegWrite.lean: the access codes at work (R10-R12): one write of a register word. -/
namespace Sys2Proof.Machine

/-- The word that a write leaves in a register, field by field (R10): RO and WO fields keep their value, an RW field
takes a value that is not reserved, an RWC field its shadow, a W1C field loses the bits written 1. -/
def writeWord (flds : List Fld) (old data : Word) : Word :=
  flds.foldl (fun w f => match f.acc with
    | .rw => if f.legal (f.get data) then f.put w (f.get data) else w
    | .rwc => f.put w (f.get data)
    | .w1c => f.put w (f.get (w &&& ~~~ data))
    | _ => w) old

/-- A reserved encoding in a WO field; in an RW field (R12). -/
def badWo (flds : List Fld) (data : Word) : Bool := flds.any (fun f => f.acc = .wo && !f.legal (f.get data))
def badRw (flds : List Fld) (data : Word) : Bool := flds.any (fun f => f.acc = .rw && !f.legal (f.get data))

/-- A write of instance `i` of a register under its access codes and R12; `ofs` is the offset that
EVT_RESERVED_OFS records. -/
def State.writeReg (s : State) (row : RegRow) (i : Nat) (data : Word) (ofs : Nat) (smbus : Bool := false) : State :=
  if badWo row.flds data then s.reservedEnc ofs smbus
  else
    let s' := s.setReg row.reg i (Machine.writeWord row.flds (s.reg row.reg i) data)
    if badRw row.flds data then s'.reservedEnc ofs smbus else s'

end Sys2Proof.Machine
end

