-- ==== Sys2Proof/Machine/Counters.lean ====
section
/-! DEFINITION. Sys2Proof/Machine/Counters.lean: the form that every counter-read command shares (R160, R162). -/
namespace Sys2Proof.Machine

/-- A mode in which a command acts: FORWARD, CALIBRATE, and ISOLATE with HBM retained (R80, R162). -/
def State.cntMode (s : State) : Bool := s.fwdMode || (s.mode = mISOLATE && s.bit PWR_MODE_STAT.HBM_RETAINED)

/-- Snapshot of COUNT slots from `base + first` at this tick, with CLEAR setting each to 0 (R160). -/
def State.readSlots (s : State) (m base first cnt : Nat) (clear : Bool) : State :=
  let slots := (List.range cnt).map (fun i => base + first + i)
  let res := leBytes 8 s.tick ++ slots.flatMap (fun n => leBytes 8 (s.slot n))
  let s := if clear then s.each slots State.clearSlot else s
  s.complete m ST_OK 0 res

/-- A counter-read command of 8 payload bytes: the object in the first `w` bytes (at most `objMax`), FIRST, COUNT and
FLAGS after it, `lim` slots to an object, which begin at `base` of it. -/
def State.countersCmd (s : State) (m : Fin 16) (opc : Nat) (x : Exec) (w objMax lim : Nat) (modeOk : State → Bool)
    (base : Nat → Nat) : State :=
  s.cmd m opc x
    (fun s => s.headChecks m (· = 8) ++
      [(ST_BAD_ARGUMENT, s.pay m (w + 2) 1 / 2 ≠ 0 || s.pay m (w + 3) (5 - w) ≠ 0),
       (ST_ZERO_INVALID, s.pay m (w + 1) 1 = 0),
       (ST_BAD_ARGUMENT, decide (objMax < s.pay m 0 w) || decide (lim < s.pay m w 1 + s.pay m (w + 1) 1)),
       (ST_WRONG_MODE, !modeOk s)])
    (fun s => s.readSlots m (base (s.pay m 0 w)) (s.pay m w 1) (s.pay m (w + 1) 1) (testBit (s.pay m (w + 2) 1) 0))

end Sys2Proof.Machine
end

