-- ==== Sys2Proof/Machine/Frames.lean ====
section
/-! DEFINITION. Sys2Proof/Machine/Frames.lean: frames as bytes: what the parser reads (R205, R314), the header edits
(R212), checksums (R153, R156) and the one-step insertion (R154-R156, R313-R316). A frame's bytes run from its
destination address through its FCS. -/
namespace Sys2Proof.Machine

/-! ### The parser -/

/-- What the parser finds in a frame's first 192 bytes. `kind` is TYPE of R205; offsets count from the frame's start. -/
structure Parsed where
  kind : Nat := 0x2
  /-- outer VLAN tag: PCP and VID; number of tags -/
  vlan : Option (Nat × Nat) := none
  tags : Nat := 0
  etype : Nat := 0
  l3 : Nat := 14
  proto : Nat := 0
  l4 : Option Nat := none
  src : List Byte := []
  dst : List Byte := []
  sport : Nat := 0
  dport : Nat := 0
  dscp : Nat := 0
  ttl : Nat := 0
  /-- label stack entries as 32-bit words, top first -/
  labels : List Nat := []
  deriving DecidableEq, Repr, Inhabited

/-- EtherTypes and protocols. -/
def etIP4 : Nat := 0x0800
def etIP6 : Nat := 0x86DD
def etMPLS : Nat := 0x8847
def etPTP : Nat := 0x88F7
def etCTRL : Nat := 0x8808
def isTag (t : Nat) : Bool := t = 0x8100 || t = 0x88A8
def hasPorts (p : Nat) : Bool := p = 6 || p = 17 || p = 132

def be16 (bs : List Byte) (o : Nat) : Nat := beNat (slice bs o 2)
def byteAt (bs : List Byte) (o : Nat) : Nat := (bs.getD o 0).toNat

/-- Source and destination port at `l4`, unless the packet is a fragment. -/
def withPorts (h : List Byte) (p : Parsed) (frag : Bool) (l4 : Nat) : Parsed :=
  if hasPorts p.proto && !frag then { p with l4 := some l4, sport := be16 h l4, dport := be16 h (l4 + 2) } else p

def parse4 (h : List Byte) (p : Parsed) (o : Nat) : Parsed :=
  let p := { p with kind := 0x4, l3 := o, proto := byteAt h (o + 9), src := slice h (o + 12) 4, dst := slice h (o + 16) 4,
                    dscp := byteAt h (o + 1) / 4, ttl := byteAt h (o + 8) }
  withPorts h p (be16 h (o + 6) % 0x4000 ≠ 0) (o + 4 * (byteAt h o % 16))

/-- IPv6 extension headers that the parser can pass over: hop-by-hop options, routing, fragment, authentication, destination
options, mobility. R205 lists none (DESIGN CHOICE, log entry 132). -/
def isExt (n : Nat) : Bool := n = 0 || n = 43 || n = 44 || n = 51 || n = 60 || n = 135

/-- Passes over at most `k` extension headers, and none after a fragment header, so that all fragments of a datagram share one
key (R205): next header, offset, whether one was a fragment header. -/
def skipExt (h : List Byte) : Nat → Nat → Nat → Bool → Nat × Nat × Bool
  | 0, n, o, f => (n, o, f)
  | k + 1, n, o, f =>
    if !isExt n || f then (n, o, f)
    else
      let len := if n = 44 then 8 else if n = 51 then 4 * (byteAt h (o + 1) + 2) else 8 * (byteAt h (o + 1) + 1)
      skipExt h k (byteAt h o) (o + len) (f || n = 44)

def parse6 (h : List Byte) (p : Parsed) (o : Nat) : Parsed :=
  let (n, l4, f) := skipExt h 2 (byteAt h (o + 6)) (o + 40) false
  let p := { p with kind := 0x6, l3 := o, proto := n, src := slice h (o + 8) 16, dst := slice h (o + 24) 16,
                    dscp := (be16 h o / 64) % 64, ttl := byteAt h (o + 7) }
  withPorts h p f l4

/-- Label stack entries from `o`, at most `k` and no further than the bottom of the stack. -/
def stackFrom (h : List Byte) : Nat → Nat → List Nat
  | 0, _ => []
  | k + 1, o =>
    let w := beNat (slice h o 4)
    if testBit w 8 then [w] else w :: stackFrom h k (o + 4)

/-- The frame as the parser sees it. A VLAN tag has EtherType 0x8100 or 0x88A8, at most two are passed over, and INGRESS and
VID stand in K high byte first: R205 says neither (DESIGN CHOICE, log entry 133). -/
def parse (bs : List Byte) : Parsed :=
  let h := bs.take 192
  let t0 := be16 h 12
  let n := if !isTag t0 then 0 else if isTag (be16 h 16) then 2 else 1
  let o := 14 + 4 * n
  let et := be16 h (o - 2)
  let p : Parsed := { etype := et, tags := n, l3 := o,
                      vlan := if n = 0 then none else some (byteAt h 14 / 32, be16 h 14 % 4096) }
  if et = etIP4 then parse4 h p o
  else if et = etIP6 then parse6 h p o
  else if et = etMPLS then
    let l := stackFrom h 4 o
    { p with kind := 0x8, labels := l, ttl := l.headD 0 % 256 }
  else p

/-- The IP packet beneath a one-entry label stack (R211, OP 2). -/
def parseBelow (bs : List Byte) : Option Parsed :=
  let p := parse bs
  let h := bs.take 192
  let o := p.l3 + 4
  if byteAt h o / 16 = 4 then some (parse4 h { p with labels := [] } o)
  else if byteAt h o / 16 = 6 then some (parse6 h { p with labels := [] } o) else none

/-- The flow key K (R205). -/
def flowKey (ingress : Nat) (bs : List Byte) (p : Parsed) : List Byte :=
  let head := beBytes 2 ingress ++ [BitVec.ofNat 8 p.kind]
  let tail := beBytes 2 p.sport ++ beBytes 2 p.dport
  if p.kind = 0x4 || p.kind = 0x6 then head ++ [BitVec.ofNat 8 p.proto] ++ slice p.src 0 16 ++ slice p.dst 0 16 ++ tail
  else if p.kind = 0x8 then
    head ++ [(0 : Byte)] ++ List.replicate 16 (0 : Byte) ++
      slice (p.labels.flatMap (fun w => beBytes 4 (w / 4096 * 4096))) 0 16 ++ List.replicate 4 (0 : Byte)
  else
    head ++ [(0 : Byte)] ++ slice (slice bs 6 6) 0 16 ++
      slice (slice bs 0 6 ++ beBytes 2 (match p.vlan with | some (_, v) => v | none => 0) ++ beBytes 2 p.etype) 0 16 ++
      List.replicate 4 (0 : Byte)

/-- K with the fields that FWD_HASH_CFG leaves out set to 0 (R219). -/
def maskKey (k : List Byte) (proto src dst l4 : Bool) : List Byte :=
  let z (n : Nat) (keep : Bool) (x : List Byte) : List Byte := if keep then x else List.replicate n 0
  List.replicate 2 (0 : Byte) ++ slice k 2 1 ++ z 1 proto (slice k 3 1) ++ z 16 src (slice k 4 16) ++ z 16 dst (slice k 20 16) ++
    z 4 l4 (slice k 36 4)

/-! ### IPv4 header checksum (R153) -/

/-- A wrong header checksum of an IPv4 frame. -/
def badIp4 (bs : List Byte) : Bool :=
  let p := parse bs
  p.kind = 0x4 && onesSum (slice bs p.l3 (4 * (byteAt bs p.l3 % 16))) ≠ 65535

/-- The IPv4 header at `o` with its checksum computed anew. -/
def fixIp4 (bs : List Byte) (o : Nat) : List Byte :=
  let z := splice bs (o + 10) [0, 0]
  splice z (o + 10) (beBytes 2 (65535 - onesSum (slice z o (4 * (byteAt bs o % 16)))))

/-! ### PTP event messages (R314) -/

/-- Offsets of the PTP header and of the UDP header (0 for none) of a PTP event message. -/
def ptpMessage (bs : List Byte) : Option (Nat × Nat) :=
  let p := parse bs
  let at_ : Option (Nat × Nat) :=
    if p.etype = etPTP then some (p.l3, 0)
    else if (p.kind = 0x4 || p.kind = 0x6) && p.proto = 17 && p.dport = 319 then
      match p.l4 with
      | some u => some (u + 8, if p.kind = 0x4 && be16 bs (u + 6) = 0 then 0 else u)
      | none => none
    else none
  match at_ with
  | some (o, u) =>
    if o + 34 ≤ 192 && o + 34 + 4 ≤ bs.length && byteAt bs (o + 1) % 16 = 2 && byteAt bs o % 16 ≤ 3 then some (o, u) else none
  | none => none

/-- messageType. -/
def ptpType (bs : List Byte) (o : Nat) : Nat := byteAt bs o % 16

/-! ### Header edits (R212) -/

/-- Multicast, broadcast, unicast: 2, 1, 0. -/
def destKind (bs : List Byte) : Nat :=
  if bs.take 6 = List.replicate 6 255 then 1 else if testBit (byteAt bs 0) 0 then 2 else 0

/-- Decrements the TTL or hop limit of the packet or label that follows the Ethernet header, and corrects an IPv4
header. -/
def decTtl (bs : List Byte) : List Byte :=
  let p := parse bs
  if p.kind = 0x4 then fixIp4 (splice bs (p.l3 + 8) [BitVec.ofNat 8 (p.ttl - 1)]) p.l3
  else if p.kind = 0x6 then splice bs (p.l3 + 7) [BitVec.ofNat 8 (p.ttl - 1)]
  else if p.kind = 0x8 then splice bs (p.l3 + 3) [BitVec.ofNat 8 (p.ttl - 1)]
  else bs

/-- The frame without its top label; beneath the bottom label the EtherType becomes that of the IP packet. -/
def popLabel (bs : List Byte) : List Byte :=
  let p := parse bs
  let w := p.labels.headD 0
  let b := bs.take p.l3 ++ bs.drop (p.l3 + 4)
  if testBit w 8 then
    splice b (p.l3 - 2) (beBytes 2 (if byteAt b p.l3 / 16 = 6 then etIP6 else etIP4))
  else b

/-- The frame with its top label replaced; TC, S and TTL stay. -/
def swapLabel (bs : List Byte) (label : Nat) : List Byte :=
  let p := parse bs
  splice bs p.l3 (beBytes 4 (label % 2 ^ 20 * 4096 + p.labels.headD 0 % 4096))

/-- Pushes a label with TC equal to the class and the TTL copied. -/
def pushLabel (bs : List Byte) (label cls : Nat) : List Byte :=
  let p := parse bs
  let w := label * 4096 + cls % 8 * 512 + (if p.kind = 0x8 then 0 else 256) + p.ttl
  splice (bs.take p.l3 ++ beBytes 4 w ++ bs.drop p.l3) (p.l3 - 2) (beBytes 2 etMPLS)

/-- STRIP_VLAN and VLAN_SET: the VID, with PCP equal to the class; the DEI bit of a tag that is there stays. -/
def stripVlan (bs : List Byte) : List Byte :=
  if (parse bs).tags = 0 then bs else bs.take 12 ++ bs.drop 16
def setVlan (bs : List Byte) (vid cls : Nat) : List Byte :=
  let tci := cls % 8 * 8192 + vid % 4096
  if (parse bs).tags = 0 then bs.take 12 ++ beBytes 2 0x8100 ++ beBytes 2 tci ++ bs.drop 12
  else splice bs 14 (beBytes 2 (tci + be16 bs 14 / 4096 % 2 * 4096))

/-- Fields of a next-hop entry (R212). -/
def nhEgress (nh : List Byte) : Nat := leNat (slice nh 4 2)
def nhFlags (nh : List Byte) : Nat := byteAt nh 24

/-- The MPLS operation of a captured entry, on a frame without FCS. -/
def mplsEdit (bs : List Byte) : Option (Nat × Nat) → List Byte
  | some (0, l) => swapLabel bs l
  | some _ => popLabel bs
  | none => bs

/-- The edits that a captured decision orders, on a frame without FCS (R212, R231). -/
def editFrame (c : Cap) (cls : Nat) (bs : List Byte) : List Byte :=
  let bs := mplsEdit bs c.mplsOp
  let bs := if c.decTtl then decTtl bs else bs
  if c.nextHop.isEmpty then bs
  else
    let nh := c.nextHop
    let push := leNat (slice nh 20 4)
    let vlan := leNat (slice nh 18 2)
    let bs := if testBit push 31 then pushLabel bs (push % 2 ^ 20) cls else bs
    let bs := if testBit (nhFlags nh) 2 then stripVlan bs else bs
    let bs := if testBit vlan 15 then setVlan bs vlan cls else bs
    if testBit (nhFlags nh) 1 then splice bs 0 (slice nh 6 12) else bs

/-- TTL that DEC_TTL judges: that of the packet or label that the frame leaves with. -/
def leavingTtl (bs : List Byte) (op : Option (Nat × Nat)) : Option Nat :=
  let p := parse (mplsEdit bs op)
  if p.kind = 0x2 then none else some p.ttl

/-- Pads a frame without FCS to 60 bytes (R144). -/
def padFrame (bs : List Byte) : List Byte := bs ++ List.replicate (60 - bs.length) 0

/-! ### One-step insertion (R155, R156, R316) -/

/-- The UDP checksum at `u` corrected for every word in which `new` differs from `old`. -/
def fixUdp (old new : List Byte) (u : Nat) : List Byte :=
  if u = 0 then new
  else
    let c := csumUpdate (be16 old (u + 6)) (slice old 0 (2 * ((old.length + 1) / 2))) (slice new 0 (2 * ((new.length + 1) / 2)))
    splice new (u + 6) (beBytes 2 (if c = 0 then 0xFFFF else c))

/-- What an insertion does: the frame, whether it was executed, whether the sum saturated. -/
structure Insert where
  bytes : List Byte
  done : Bool := false
  sat : Bool := false
  deriving DecidableEq, Repr, Inhabited

/-- correctionField plus `x` 2^-16 ns, saturating. -/
def addCorrection (bs : List Byte) (o : Nat) (x : Int) : List Byte × Bool :=
  let v := sgn 64 (beNat (slice bs (o + 8) 8)) + x
  let over_ := decide ((2 ^ 63 : Int) ≤ v || v < -(2 ^ 63))
  (splice bs (o + 8) (beBytes 8 (if over_ then 0x7FFFFFFFFFFFFFFF else tc 64 v)), over_)

/-- The insertion of ACTION 1 or 2 in a frame without FCS: `t` is T and `ref_` is REF, in 2^-16 ns. -/
def oneStep (bs : List Byte) (o u action : Nat) (turn : Bool) (t ref_ : Int) : Insert :=
  if bs.length + 4 < o + 44 then { bytes := bs }
  else if action = 1 then
    let (sec, ns, fr) := tsParts (t * fracU)
    let b := splice bs (o + 34) (beBytes 6 sec ++ beBytes 4 ns)
    let (b, sat) := addCorrection b o fr
    { bytes := fixUdp bs b u, done := true, sat := sat }
  else if turn && ptpType bs o = 3 then
    if 1000000000 ≤ beNat (slice bs (o + 40) 4) then { bytes := bs }
    else
      let r := qOf (beNat (slice bs (o + 34) 6)) (beNat (slice bs (o + 40) 4)) 0
      let (b, sat) := addCorrection (splice bs (o + 34) (List.replicate 10 0)) o (t - r)
      { bytes := fixUdp bs b u, done := true, sat := sat }
  else
    let (b, sat) := addCorrection bs o (t - ref_)
    { bytes := fixUdp bs b u, done := true, sat := sat }

/-- A frame without its FCS. -/
def Frame.body (f : Frame) : List Byte := f.bytes.take (f.bytes.length - 4)

end Sys2Proof.Machine
end

