-- ==== Sys2Proof/Machine/Granary.lean ====
section
/-! DEFINITION. Sys2Proof/Machine/Granary.lean: buffers, accounts and pages: grants, frees, ingress accounts and XOFF,
occupancy and admission, the Silo's pages (R239-R266). -/
namespace Sys2Proof.Machine

/-! ### Owner tags (R261) -/
def kFREE : Nat := 0
def kRECEIVER : Nat := 1
def kSHEAF : Nat := 2
def kQUEUE : Nat := 3
def kSHARED : Nat := 4
def kRECALL : Nat := 5
def kGRANGE : Nat := 6
def kRETIRED : Nat := 7

def bufKey (p b : Nat) : Nat := 1048576 * p + b
def State.tagOf (s : State) (p b : Nat) : Tag := SMap.at! s.grn.bufs (bufKey p b)
def State.setTag (s : State) (p b : Nat) (t : Tag) : State :=
  s.updGrn fun g => { g with bufs := SMap.set default g.bufs (bufKey p b) t }

/-! ### Pools (R239, R240, R243) -/

def State.poolSize (s : State) (p : Nat) : Nat := s.com GRN_POOL_CFG.SIZE p
def State.poolBuf (s : State) (p : Nat) : Nat := s.com GRN_POOL_CFG.BUF p
def State.cellsOf (s : State) (p : Nat) : Nat := 2 ^ s.poolBuf p
def State.poolOn (s : State) (p : Nat) : Bool := s.poolSize p ≠ 0
def State.pool (s : State) (p : Nat) : Pool := SMap.at! s.grn.pools p
def State.updPool (s : State) (p : Nat) (f : Pool → Pool) : State :=
  s.updGrn fun g => { g with pools := SMap.upd g.pools p f }

/-- The next free buffer of a pool that may be granted in tick `t`: the ring holds the numbers never granted, then the
returned ones, of which those returned in that tick or later wait (R243). -/
def State.freeBufAt (s : State) (p t : Nat) : Option Nat :=
  let o := s.pool p
  let fresh := (List.range (o.retired.length + 1)).map (o.fresh + ·)
  match fresh.find? (fun b => decide (b < s.poolSize p) && !o.retired.contains b) with
  | some b => some b
  | none => match o.freed with
    | x :: _ => if x.at_ < t then some x.buf else none
    | [] => none
def State.nextFreeBuf (s : State) (p : Nat) : Option Nat := s.freeBufAt p s.now

/-- Grants of pool `p` in tick `t`, and room for another one there (R243). -/
def State.grantsAt (s : State) (p t : Nat) : Nat := (s.grn.ledger.filter (fun e => e = (t, p))).length
def State.hasGrant (s : State) (p t : Nat) : Bool :=
  decide ((s.grn.ledger.filter (fun e => e.1 = t)).length < 32) && decide (s.grantsAt p t < 16)

/-- The tick, from `t` on, in which a request of pool `p` is answered, and the buffer granted: a request beyond the limits of
a tick waits for the next one while its pool still has free buffers (R243, R245); `k` bounds the ticks. -/
def State.grantFrom (s : State) (p : Nat) : Nat → Nat → Nat × Option Nat
  | 0, t => (t, none)
  | k + 1, t =>
    match s.freeBufAt p t with
    | some b => if s.hasGrant p t then (t, some b) else s.grantFrom p k (t + 1)
    | none => if s.grn.ledger.any (fun e => e.2 = p && decide (t < e.1)) then s.grantFrom p k (t + 1) else (t, none)
def State.grantOf (s : State) (p t : Nat) : Nat × Option Nat := s.grantFrom p (2 * s.grn.ledger.length + 2) t

/-- Takes the buffer out of the ring for an owner, in tick `at_`. -/
def State.take (s : State) (p b : Nat) (t : Tag) (at_ : Nat) : State :=
  let s := s.updGrn fun g => { g with ledger := g.ledger.filter (fun e => decide (s.now ≤ e.1)) ++ [(at_, p)] }
  let s := s.updPool p fun o => if o.freed.head?.map (·.buf) = some b && !(o.fresh ≤ b) then { o with freed := o.freed.drop 1 }
    else { o with fresh := b + 1 }
  let s := s.wr GRN_POOL_STAT.FREE p (s.rd GRN_POOL_STAT.FREE p - 1)
  (s.setTag p b t).count (poolSlot p 0)

/-- The next larger pool (R246). -/
def State.nextLarger (s : State) (p : Nat) : Option Nat :=
  ((List.range 8).filter (fun q => s.poolOn q && decide (s.poolBuf p < s.poolBuf q))).foldl (fun b q => match b with
    | none => some q
    | some r => if s.poolBuf q < s.poolBuf r then some q else b) none

/-- The empty result of a request (R244, R246). -/
def State.emptyResult (s : State) (p : Nat) : State := (s.count (poolSlot p 3)).raise EV.GRN_EMPTY_RESULT p

/-- A pool that was found empty in tick `t` held a free buffer at the start of that tick, which another request took
(R245). -/
def State.countLost (s : State) (p t : Nat) : State := if 0 < s.grantsAt p t then s.count (poolSlot p 4) else s

/-- A request for one buffer of pool `p` (R243-R246): the buffer granted, if any. The step that presents a request gives its
answer; the tick in which the Granary grants it is kept in the ledger (log entry 36). -/
def State.request (s : State) (p : Nat) (t : Tag) : Option (Nat × Nat) × State :=
  match if s.poolOn p then s.grantOf p s.now else (s.now, none) with
  | (x, some b) => (some (p, b), s.take p b t x)
  | (x, none) =>
    let s := if s.poolOn p then s.countLost p x else s
    match if s.comB GRN_POOL_CFG.FALLBACK_EN p then s.nextLarger p else none with
    | none => (none, s.emptyResult p)
    | some q =>
      let s := (s.count (poolSlot p 1)).count (poolSlot q 2)
      match s.grantOf q x with
      | (y, some b) => (some (q, b), s.take q b t y)
      | (y, none) => (none, (s.countLost q y).emptyResult q)

/-! ### Frees (R262-R264, R266) -/

/-- Retires a buffer: it never returns to its ring. -/
def State.retireBuf (s : State) (p b : Nat) : State :=
  ((s.setTag p b { kind := kRETIRED }).addSat GRN_POOL_STAT.RETIRED p 1).raise EV.GRN_RETIRED p

/-- The place of a party's frees among those of a tick (R264): egress MACs by egress, the Reaper, flushes, receivers by
source, reassembly by Sheaf, the recall engine, the Gleaner, the Grange. -/
def State.freePlace (s : State) (party : Tag) : Nat :=
  if party.kind = kQUEUE then 1000 * s.grn.release + (if s.grn.release = 0 then party.id / 16 else 0)
  else if party.kind = kRECEIVER then 3000 + party.id
  else if party.kind = kSHEAF then 4000 + party.id
  else if party.kind = kRECALL then 5000 else if party.kind = kGRANGE then 7000 else 6000

/-- Puts a returned buffer into its ring, among those of its tick by their place. -/
def putFreed (x : Freed) (l : List Freed) : List Freed :=
  let later (y : Freed) : Bool := y.at_ = x.at_ && decide (x.place < y.place)
  l.filter (fun y => !later y) ++ [x] ++ l.filter later

/-- Returns a buffer to its free ring at place `k` of the tick's frees, or retires one that holds a lasting fault. -/
def State.giveBack (s : State) (p b k : Nat) : State :=
  if (s.pool p).retired.contains b then s.retireBuf p b
  else
    let s := s.setTag p b {}
    let s := s.updPool p fun o => { o with freed := putFreed { buf := b, at_ := s.now, place := k } o.freed }
    s.wr GRN_POOL_STAT.FREE p (s.rd GRN_POOL_STAT.FREE p + 1)

/-- A free of a buffer by a party (R263): for a Shared buffer, a decrement, by a queue's release path or by Sheaf
reassembly, which asks only for buffers of a refused frame or of a record that it drops. -/
def State.freeBuf (s : State) (party : Tag) (b : Nat × Nat) : State :=
  let t := s.tagOf b.1 b.2
  if t.kind = kFREE || (t.kind = kSHARED && t.refs = 0) then (s.count (poolSlot b.1 5)).raise EV.GRN_DOUBLE_FREE b.1
  else if t.kind = kSHARED && (party.kind = kQUEUE || party.kind = kSHEAF) then
    if t.refs ≤ 1 then s.giveBack b.1 b.2 (s.freePlace party) else s.setTag b.1 b.2 { t with refs := t.refs - 1 }
  else if t.kind = party.kind && t.id = party.id then s.giveBack b.1 b.2 (s.freePlace party)
  else (s.count (poolSlot b.1 6)).raise EV.GRN_NONOWNER_FREE b.1

/-! ### Ingress accounts and XOFF (R247-R249) -/

/-- Cells of the buffers of a frame (R250). -/
def State.cells (s : State) (bufs : List (Nat × Nat)) : Nat := bufs.foldl (fun a b => a + s.cellsOf b.1) 0

def State.inAcc (s : State) (src c : Nat) : Nat := SMap.get 0 s.grn.inAcc (8 * src + c)

/-- What FC_MODE and TX_EN make of an XOFF change of a class (R149). -/
def State.pfcWants (s : State) (p c : Nat) : Bool :=
  let m := s.com PRT_CFG.FC_MODE p
  (m = 2 && testBit (s.com PRT_PFC_CFG.TX_EN p) c) || m = 1

/-- XOFF of class `c` at client port `p` is raised or cleared. -/
def State.setXoff (s : State) (p c : Nat) (on : Bool) : State :=
  if testBit (s.port p).xoff c = on then s
  else
    let s := if on then s.count (grnSrcSlot p 9) else s
    s.updPort p fun o =>
      let x := putBit o.xoff c on
      { o with xoff := x, left := if on || !s.pfcWants p c then o.left else setBit o.left c,
               pfcDue := o.pfcDue || (s.pfcWants p c && (s.com PRT_CFG.FC_MODE p = 2 || on || x = 0)) }

/-- Judges in(s, c) against the thresholds (R248). -/
def State.judgeIn (s : State) (src c : Nat) : State :=
  if 256 ≤ src then s
  else
    let x := s.com GRN_IN_THR.XOFF src
    let n := s.inAcc src c
    if x = 0 then s.setXoff src c false
    else if 16 * x ≤ n then s.setXoff src c true
    else if n ≤ 16 * s.com GRN_IN_THR.XON src then s.setXoff src c false else s

def State.addIn (s : State) (src c n : Nat) : State :=
  (s.updGrn fun g => { g with inAcc := SMap.set 0 g.inAcc (8 * src + c) (SMap.get 0 g.inAcc (8 * src + c) + n) }).judgeIn src c
def State.subIn (s : State) (src c n : Nat) : State :=
  (s.updGrn fun g => { g with inAcc := SMap.set 0 g.inAcc (8 * src + c) (SMap.get 0 g.inAcc (8 * src + c) - n) }).judgeIn src c

/-- The pool that would serve a request of pool `p` now: itself, or its fallback (R246). -/
def State.server (s : State) (p : Nat) : Nat :=
  if s.poolOn p && (s.nextFreeBuf p).isSome then p
  else (if s.comB GRN_POOL_CFG.FALLBACK_EN p then s.nextLarger p else none).getD p

/-- LIMIT refuses `n` more cells. -/
def State.overLimit (s : State) (src c n : Nat) : Bool :=
  let l := s.com GRN_IN_CFG.LIMIT src
  l ≠ 0 && decide (16 * l < s.inAcc src c + n)

/-- Frees a frame's buffers for a party and takes its cells out of its account. -/
def State.freeFrame (s : State) (party : Tag) (f : Frame) : State :=
  (s.each f.bufs (fun s b => s.freeBuf party b)).subIn f.src f.rxClass (s.cells f.bufs)

/-- One holder of a frame lets go of it: the last one frees the buffers (R230, R262). -/
def State.letGo (s : State) (party : Tag) (f : Frame) : State :=
  let n := SMap.get 0 s.fwd.refs f.id
  if 1 < n then
    (s.each f.bufs (fun s b => s.freeBuf party b)).updFwd fun w => { w with refs := SMap.set 0 w.refs f.id (n - 1) }
  else (s.updFwd fun w => { w with refs := SMap.set 0 w.refs f.id 0 }).freeFrame party f

/-- The party of a receiver's or a reassembly's frame that no queue has taken (R263). -/
def rxParty (f : Frame) : Tag := if f.src < 256 then { kind := kRECEIVER, id := f.src } else { kind := kSHEAF, id := f.src - 256 }
def qParty (n : Nat) : Tag := { kind := kQUEUE, id := n }

/-- A frame that no queue has taken is dropped. -/
def State.dropRx (s : State) (f : Frame) : State := s.freeFrame (rxParty f) f

/-- A class is lossless at a client source (R249). -/
def State.lossless (s : State) (src c : Nat) : Bool := src < 256 && s.com GRN_IN_THR.XOFF src ≠ 0 && s.pfcWants src c

/-! ### Egress queues (R250-R254) -/

def State.queue (s : State) (n : Nat) : EQueue := SMap.at! s.fwd.queues n
def State.updQueue (s : State) (n : Nat) (f : EQueue → EQueue) : State :=
  s.updFwd fun w => { w with queues := SMap.upd w.queues n f }

def QEnt.inSram (e : QEnt) : Bool := e.loc = .sram

/-- The frames in progress at an egress: they leave their queues when they complete. -/
def State.txsOf (s : State) (e : Nat) : List Tx :=
  if e < 256 then (s.port e).tx.toList ++ (s.port e).preempted.toList else (s.sheaf (e - 256)).tx.toList

/-- occ(q). -/
def State.occ (s : State) (n : Nat) : Nat :=
  (s.queue n).ents.foldl (fun a e => if e.inSram then a + s.cells e.frame.bufs else a) 0 +
    (s.txsOf (n / 16)).foldl (fun a t => if t.queue = n then a + s.cells t.frame.bufs else a) 0

def EQueue.pages (q : EQueue) : Nat := q.segs.foldl (fun a g => a + g.pages.length) 0

/-- Bytes that a frame takes in the Silo (R256), and the pages it adds to a queue. -/
def siloSize (f : Frame) : Nat := 32 + 32 * ceilDiv f.bytes.length 32
def pageRoom : Nat := 4064
/-- Pages that a frame of `z` bytes adds behind `fill` bytes of an open page, or at a new segment; the bytes it then has
in the last one. -/
def addPages (z : Nat) (r : Nat × Option Nat) : Nat × Option Nat :=
  let used := match r.2 with | some f => f + z | none => z
  let n := ceilDiv used pageRoom
  (r.1 + (if r.2.isSome then n - 1 else n), some (used - (n - 1) * pageRoom))

/-- Pages that a queue takes when what waits in its spill part, and then frame `f`, are written (R251, R255). -/
def EQueue.newPages (q : EQueue) (f : Frame) : Nat :=
  let start : Option Nat := match q.segs.getLast? with
    | some g => if g.open_ && !g.pages.isEmpty then some g.fill else none
    | none => none
  let r := (q.ents.filter (fun e => e.inSram && e.spill)).foldl (fun (r : Nat × Option Nat) e =>
    if e.mcast then (r.1, none) else addPages (siloSize e.frame) r) (0, start)
  (addPages (siloSize f) r).1
/-- Age of a frame in ticks (R232). -/
def State.age (s : State) (f : Frame) : Nat := s.now - f.tIn

/-- q is spilling (R254). -/
def State.spilling (s : State) (n : Nat) : Bool :=
  let sp := s.com GRN_QSPILL.SPILL n
  let us := s.com GRN_QSPILL.SPILL_US n
  s.com GRN_QSILO.SILO_MAX n ≠ 0 &&
    ((sp ≠ 0 && decide (16 * sp ≤ s.occ n)) ||
     (us ≠ 0 && (match (s.queue n).ents.head? with | some e => decide (us * usT ≤ s.age e.frame) | none => false)))

/-- A frame admitted now joins the spill part of q. -/
def State.spillsNow (s : State) (n : Nat) : Bool := s.spilling n || (s.queue n).ents.any (fun e => !e.inSram)

/-- 64 α of an ALPHA encoding (R250). -/
def alpha64 (a : Nat) : Nat := if a = 0 then 0 else 2 ^ (a - 1)

/-- Admission of a frame to q (R251). -/
def State.admits (s : State) (n : Nat) (f : Frame) (mcast : Bool) : Bool :=
  let k := s.cells f.bufs
  let occ := s.occ n
  let min_ := s.com GRN_QCFG.MIN n
  let p := (f.bufs.headD (0, 0)).1
  let free := s.rd GRN_POOL_STAT.FREE p * s.cellsOf p
  let ok := decide (occ + k ≤ min_) || s.lossless f.src f.rxClass ||
    decide (64 * (occ - min_ + k) ≤ alpha64 (s.com GRN_QCFG.ALPHA n) * free)
  let q := s.queue n
  let max_ := s.com GRN_QSILO.SILO_MAX n
  ok && (mcast || !s.spillsNow n || (decide (q.pages < max_) && decide (q.pages + q.newPages f ≤ max_)))

/-- Frames behind the head part with no Silo segment ahead of them that wait join it (R255). -/
def joinHead : List QEnt → List QEnt
  | [] => []
  | e :: r => if !e.inSram then e :: r
    else if e.spill && !e.waits && !e.mcast then e :: r
    else { e with spill := false, waits := false } :: joinHead r

/-- Appends an entry to q; the buffers go to the queue. -/
def State.enqueue (s : State) (n : Nat) (e : QEnt) : State :=
  let e := { e with spill := s.spillsNow n }
  let s := if e.mcast then s
    else s.each e.frame.bufs (fun s b =>
      if (s.tagOf b.1 b.2).kind = kSHARED then s else s.setTag b.1 b.2 { kind := kQUEUE, id := n })
  let s := s.updQueue n fun q => { q with ents := q.ents ++ [e] }
  (s.count (queueSlot (n / 16) (n % 16) 0)).count (queueSlot (n / 16) (n % 16) 1) e.frame.bytes.length

/-! ### Pages (R253, R256, R261) -/

def spillPages : Nat := 25022464
def State.page (s : State) (g : Nat) : Page := SMap.at! s.grn.pages g
def State.setPage (s : State) (g : Nat) (p : Page) : State :=
  s.updGrn fun x => { x with pages := SMap.set default x.pages g p }

/-- Pages that are out of the chain: retired ones, those that replace a table, counter or metadata page (R442), and those
whose pointers were lost (R443). -/
def State.pagesOut (s : State) : List Nat := s.grn.pageRetired ++ s.evt.remap ++ s.grn.astray.map (·.1)

/-- The next free page, through the on-die cache: the chain holds the pages never taken, then the returned ones. -/
def State.nextPage (s : State) : Option Nat :=
  let r := s.pagesOut
  if s.grn.cache = 0 then none
  else match ((List.range (r.length + 1)).map (s.grn.pageFresh + ·)).find? (fun g => decide (g < spillPages) && !r.contains g) with
    | some g => some g
    | none => s.grn.pageFreed.head?

def State.takePage (s : State) (g : Nat) (t : Tag) (n : Nat) : State :=
  let s := s.updGrn fun x => if x.pageFresh ≤ g then { x with pageFresh := g + 1, cache := x.cache - 1 }
    else { x with pageFreed := x.pageFreed.drop 1, cache := x.cache - 1 }
  let s := s.wr GRN_SILO_STAT.FREE_PAGES 0 (s.rd GRN_SILO_STAT.FREE_PAGES - 1)
  (s.setPage g { tag := t, queue := n }).count (siloSlot 4)

/-- A page in no queue's hands is retired (R259, R266). -/
def State.retirePage (s : State) (g : Nat) : State :=
  let s := s.setPage g { tag := { kind := kRETIRED } }
  let s := s.updGrn fun x => { x with pageRetired := g :: x.pageRetired, pageFreed := x.pageFreed.filter (· ≠ g) }
  (s.count (siloSlot 13)).raise EV.GRN_RETIRED 8

/-- A page returns to the chain. -/
def State.returnPage (s : State) (g : Nat) : State :=
  let s := s.setPage g {}
  let s := s.updGrn fun x => { x with pageFreed := x.pageFreed ++ [g] }
  s.wr GRN_SILO_STAT.FREE_PAGES 0 (s.rd GRN_SILO_STAT.FREE_PAGES + 1)

/-- A free of a page by a party (R263). -/
def State.freePage (s : State) (party : Tag) (g : Nat) : State :=
  let t := (s.page g).tag
  if t.kind = kFREE then (s.count (siloSlot 10)).raise EV.GRN_DOUBLE_FREE 8
  else if t.kind ≠ party.kind || t.id ≠ party.id then (s.count (siloSlot 11)).raise EV.GRN_NONOWNER_FREE 8
  else if s.grn.pageRetired.contains g then
    ((s.setPage g { tag := { kind := kRETIRED } }).count (siloSlot 13)).raise EV.GRN_RETIRED 8
  else s.returnPage g

/-- Pages of flushed frames whose tick has come return to the chain (R260). -/
def State.pagesBack (s : State) : State :=
  let due (e : Nat × Nat) : Bool := decide (e.2 / 64 ≤ s.now)
  let out := s.grn.backlog.filter due
  if out.isEmpty then s
  else (s.updGrn fun x => { x with backlog := x.backlog.filter (fun e => !due e) }).each out
    (fun s e => s.freePage (s.page e.1).tag e.1)

/-- Pages of flushed frames queue for their return, 64 in a tick (R260). -/
def State.backPages (s : State) (l : List Nat) : State :=
  let first := max (64 * s.now) s.grn.backNext
  (s.updGrn fun x => { x with backlog := x.backlog ++ l.zipIdx.map (fun p => (p.1, first + p.2)),
                              backNext := first + l.length }).pagesBack

/-- Discards one entry of queue `n` and frees what holds it: its buffers in packet SRAM. -/
def State.discardEnt (s : State) (n : Nat) (e : QEnt) : State :=
  if e.inSram then s.letGo (qParty n) e.frame else s

/-- The buffers of a recall whose frame has left queue `n` go back. -/
def State.tidyRecall (s : State) (n : Nat) : State :=
  match (s.queue n).recl with
  | some (id, bs) =>
    if (s.queue n).ents.any (fun e => e.frame.id = id) then s
    else (s.each bs fun s b => s.freeBuf { kind := kRECALL, id := n / 16 } b).updQueue n fun q => { q with recl := none }
  | none => s

/-- Segments of q that hold no frame any more give their pages back: at once, or through the backlog of a flush. -/
def State.dropSegs (s : State) (n : Nat) (flush : Bool := false) : State :=
  let s := s.tidyRecall n
  let q := s.queue n
  let live (g : Seg) : Bool := q.ents.any (fun e => match e.loc with | .silo k _ _ => k = g.num | .sram => false)
  let dead := q.segs.filter (fun g => !live g)
  let s := s.updQueue n fun q => { q with segs := q.segs.filter live, ents := q.ents }
  let l := dead.flatMap (·.pages)
  if flush then s.backPages l else s.each l (fun s g => s.freePage (qParty n) g)

/-- What the Reaper (1) or a flush (2) frees by a queue's release path counts as its own among the tick's frees (R264). -/
def State.releasing (s : State) (k : Nat) : State := s.updGrn fun g => { g with release := k }

/-- Removes every entry of queue `n` that a test picks, counting each in index `i` of the queue's counters. -/
def State.purge (s : State) (n i : Nat) (pick : QEnt → Bool) : State :=
  let out := (s.queue n).ents.filter pick
  if out.isEmpty then s
  else
    let s := ((s.releasing (if i = 5 then 1 else 2)).each out (fun s e => s.discardEnt n e)).releasing 0
    let s := s.updQueue n fun q => { q with ents := joinHead (q.ents.filter (fun e => !pick e)) }
    (s.count (queueSlot (n / 16) (n % 16) i) out.length).dropSegs n (i = 6 || i = 7)

end Sys2Proof.Machine
end

