-- ==== Sys2Proof/Machine/Synth.lean ====
section
/-! DEFINITION. Sys2Proof/Machine/Synth.lean: the steered reference, the ramp generator and the clock outputs
(chapter 13), and the frequency word in force (R376, R381, R382). -/
namespace Sys2Proof.Machine

/-! ### Steering (R376, R387) -/

/-- 10,000 ppb in 2^-16 ppb. -/
def steerMax : Int := 655360000
def clampS (x : Int) : Int := max (-steerMax) (min x steerMax)

/-- FSLEW in 2^-16 ppb per tick, as a fraction: numerator and denominator. -/
def State.fslewNum (s : State) : Nat := s.com REF_LOOP_CFG.FSLEW * 65536
def fslewDen : Nat := 10 * sT

/-- W in force at model time `t`: it moves toward its target at FSLEW. -/
def State.wAtT (s : State) (t : Nat) : Int :=
  let r := s.ref
  let d : Int := (s.fslewNum * (t - r.wAt) / fslewDen : Nat)
  if r.wFrom ≤ r.wTo then min r.wTo (r.wFrom + d) else max r.wTo (r.wFrom - d)
def State.wNow (s : State) : Int := s.wAtT s.now

/-- z in force, rounded to 2^-16 ppb (R390). -/
def State.zNow (s : State) : Int := (s.syn.zAcc + 500000000) / 1000000000
def State.yNow (s : State) : Int := clampS (s.wNow + s.zNow)

/-- Sum of W over the ticks from `wAt` to now. -/
def State.wSum (s : State) : Int :=
  let r := s.ref
  let dt := s.now - r.wAt
  let k := s.fslewNum
  let gap := (r.wTo - r.wFrom).natAbs
  let full := if k = 0 then dt else min dt (gap * fslewDen / k)
  let tri : Int := (k * full * full / (2 * fslewDen) : Nat)
  let sgn_ : Int := if r.wFrom ≤ r.wTo then 1 else -1
  r.wFrom * full + sgn_ * tri + r.wTo * (dt - full : Nat)

/-- Sum of W over the ticks from model time `a` to `b`. -/
def State.wSpan (s : State) (a b : Nat) : Int := { s with now := b }.wSum - { s with now := a }.wSum

/-- Model time from `a` to `b` at which W, moving, has reached `x`; `b` when it does not. -/
def State.wReach (s : State) (a b : Nat) (x : Int) : Nat :=
  let r := s.ref
  let up : Bool := r.wFrom ≤ r.wTo
  if (if up then decide (r.wTo < x) else decide (x < r.wTo)) then b
  else
    let d := if up then (x - r.wFrom).toNat else (r.wFrom - x).toNat
    min b (max a (r.wAt + (d * fslewDen + s.fslewNum - 1) / max 1 s.fslewNum))

/-- By how much W passes `x` in all from model time `a` to `b`: above it, or below it. -/
def State.wOver (s : State) (a b : Nat) (x : Int) : Int :=
  let c := s.wReach a b x
  let (u, v) := if s.ref.wFrom ≤ s.ref.wTo then (c, b) else (a, c)
  max 0 (s.wSpan u v - x * (v - u : Nat))
def State.wUnder (s : State) (a b : Nat) (x : Int) : Int :=
  let c := s.wReach a b x
  let (u, v) := if s.ref.wFrom ≤ s.ref.wTo then (a, c) else (c, b)
  max 0 (x * (v - u : Nat) - s.wSpan u v)

/-- Sum of y over the ticks from model time `a` to `b`, in which z stays: W + z within its limits (R387). -/
def State.ySpan (s : State) (a b : Nat) : Int :=
  let z := s.zNow
  s.wSpan a b + z * (b - a : Nat) - s.wOver a b (steerMax - z) + s.wUnder a b (-steerMax - z)

/-- The model's frequency in P: y itself while MODEL_VALID is 0 (R362). Accumulates D0 - P up to now. -/
def State.accQ (s : State) : State :=
  let r := s.ref
  if s.bit REF_STAT.MODEL_VALID && s.tickRun then
    let q := r.q + s.ySpan r.qAt s.now - r.m * (s.now - r.qAt : Nat)
    s.updRef fun r => { r with q := q, qAt := s.now }
  else s.updRef fun r => { r with qAt := s.now }

/-- y or z is held at its limit (R387, R390). -/
def State.clamped (s : State) : Bool :=
  let raw := s.wNow + s.zNow
  decide (steerMax < raw) || decide (raw < -steerMax) || s.syn.zAcc.natAbs = steerMax.toNat * 1000000000

/-- Shows y and the clamp (R387, R388, R390). -/
def State.noteSteer (s : State) : State :=
  let raw := s.wNow + s.zNow
  let held := s.clamped
  let s := (s.wrS SYN_STAT_STEER.STEER 0 (clampS raw)).wrS SYN_RAMP_Z.Z 0 s.zNow
  let was := s.bit SYN_STAT.CLAMPED
  let s := s.wrB SYN_STAT.CLAMPED 0 held
  if held && !was then s.raise EV.SYN_CLAMP else s

/-- Sets the word that W moves to (R376). -/
def State.setW (s : State) (target : Int) : State :=
  let s := s.accQ.noteSteer
  let w := s.wNow
  let s := s.updRef fun r => { r with wFrom := w, wAt := s.now, wTo := clampS target }
  (s.wrS REF_FREQ_WORD.WORD 0 (clampS target)).noteSteer

/-- Sets W at once, without FSLEW: where y does not step (R393, R433). -/
def State.putW (s : State) (w : Int) : State :=
  let s := s.accQ
  let s := s.updRef fun r => { r with wFrom := clampS w, wAt := s.now, wTo := clampS w }
  (s.wrS REF_FREQ_WORD.WORD 0 (clampS w)).noteSteer

/-- Moves W and the word that it moves to by `d` (R433). -/
def State.shiftW (s : State) (d : Int) : State :=
  let s := s.accQ
  let w := s.wNow
  let s := s.updRef fun r => { r with wFrom := clampS (w + d), wAt := s.now, wTo := clampS (r.wTo + d) }
  (s.wrS REF_FREQ_WORD.WORD 0 s.ref.wTo).noteSteer

/-- REF_LOOP_CFG.MODE is SW. -/
def State.swMode (s : State) : Bool := s.comB REF_LOOP_CFG.MODE
/-- States of D0 (R370). -/
def rsFREERUN : Nat := 0
def rsLOCKED : Nat := 1
def rsHOLDOVER : Nat := 2
def rsASSIST : Nat := 3
def State.rstate (s : State) : Nat := s.rd REF_STAT.STATE

/-! ### The ramp (R390-R394) -/

def State.ramping (s : State) : Bool := s.bit SYN_RAMP_STAT.RUNNING || s.bit SYN_RAMP_STAT.RETURNING

/-- Greatest value of z, as it is held (R390). -/
def zLim : Int := steerMax * 1000000000

/-- z after one microsecond of a ramp, or of a return at FSLEW (R390, R392). -/
def State.zNext (s : State) : Int :=
  let z := s.syn.zAcc
  let d : Int := s.com REF_LOOP_CFG.FSLEW * 6553600
  if s.bit SYN_RAMP_STAT.RUNNING then
    max (-zLim) (min (z + s.comS SYN_RAMP_RATE.RATE (s.rd SYN_RAMP_STAT.SEGMENT) * 65536) zLim)
  else if 0 ≤ z then max 0 (z - d) else min 0 (z + d)

/-- The loop or the model takes the frequency back (R393): z is folded into W, after the change that falls in this tick. -/
def State.foldRamp (s : State) : State :=
  if (s.ramping || s.syn.zAcc ≠ 0) && !s.swMode && s.rstate ≠ rsFREERUN then
    let s := s.accQ
    let s := if s.ramping && s.syn.nextUpd ≤ s.now then s.updSyn fun y => { y with zAcc := s.zNext } else s
    let w := s.wNow + s.zNow
    let s := s.updSyn fun y => { y with zAcc := 0, left := 0 }
    let s := s.setReg R.SYN_RAMP_STAT 0 0
    (s.putW w).raise EV.SYN_RAMP_ABORT
  else s

/-- Starts the segment `i`, or ends the ramp after the last (R392). -/
def State.rampSeg (s : State) (i : Nat) : State :=
  if i < s.com SYN_RAMP_CFG.COUNT then
    let s := (s.wr SYN_RAMP_STAT.RUNNING 0 1).wr SYN_RAMP_STAT.SEGMENT 0 i
    s.updSyn fun y => { y with left := 1000 * s.com SYN_RAMP_DUR.DURATION i }
  else
    let s := s.wr SYN_RAMP_STAT.RUNNING 0 0
    if s.comB SYN_RAMP_CFG.END && s.syn.zAcc ≠ 0 then s.wr SYN_RAMP_STAT.RETURNING 0 1 else s.raise EV.SYN_RAMP_DONE

/-- RAMP_UPDATE (R390, R392): one microsecond of a ramp, or of a return at FSLEW. -/
def execRampUpdate (s : State) : Res :=
  if !s.ramping || s.now < s.syn.nextUpd then fin s
  else
    let s := s.accQ
    let z := s.zNext
    if s.bit SYN_RAMP_STAT.RUNNING then
      let i := s.rd SYN_RAMP_STAT.SEGMENT
      let hits := decide (s.syn.zAcc.natAbs < zLim.natAbs) && z.natAbs = zLim.natAbs && s.bit SYN_STAT.CLAMPED
      let s := s.updSyn fun y => { y with nextUpd := y.nextUpd + usT, zAcc := z, left := y.left - 1 }
      let s := s.noteSteer
      let s := if hits then s.raise EV.SYN_CLAMP else s
      fin (if s.syn.left = 0 then s.rampSeg (i + 1) else s)
    else
      let s := s.updSyn fun y => { y with nextUpd := y.nextUpd + usT, zAcc := z }
      let s := s.noteSteer
      fin (if s.syn.zAcc = 0 then (s.wr SYN_RAMP_STAT.RETURNING 0 0).raise EV.SYN_RAMP_DONE else s)

/-- DETAIL of R480: the offset of TWN_CFG. -/
def followDetail : Nat := ST_REJECT_INCONSISTENT + 65536 * R.TWN_CFG.base

/-- Modes of the timing die's commands (R330, R385, R403). -/
def State.timeMode (s : State) : Bool := s.tkMode || s.mode = mISOLATE

/-- Starts the committed ramp (R391). -/
def State.rampStart (s : State) : State :=
  let s := s.accQ
  (s.updSyn fun y => { y with nextUpd := s.now + usT }).rampSeg 0

/-- CMD_SYN_RAMP_START (R391, R403). -/
def execCmdSynRampStart (m : Fin 16) (x : Exec) (s : State) : Res :=
  fin (s.cmd m 0x801 x
    (fun s => s.headChecks m (· = 0) ++
      [chk (ST_ZERO_INVALID) (s.com SYN_RAMP_CFG.COUNT = 0), chk (ST_WRONG_MODE) (!s.timeMode), chk (followDetail) (s.follow),
       chk (ST_BUSY) (s.ramping), chk (ST_BAD_ARGUMENT + 65536) (!s.swMode && s.rstate ≠ rsFREERUN)])
    (fun s => (s.rampStart.mirrorCmd 0x801 []).complete m ST_OK))

/-- Ends a ramp at once (R392): z returns to 0, or has stopped changing. -/
def State.rampStop (s : State) (ret : Bool) : State :=
  let ran := s.bit SYN_RAMP_STAT.RUNNING
  if ran || ret then
    let s := s.wr SYN_RAMP_STAT.RUNNING 0 0
    if ret && s.syn.zAcc ≠ 0 then
      let s := if s.ramping then s else s.updSyn fun y => { y with nextUpd := s.now + usT }
      s.wr SYN_RAMP_STAT.RETURNING 0 1
    else if ran then s.raise EV.SYN_RAMP_DONE
    else s
  else s

/-- CMD_SYN_RAMP_STOP (R392, R403). -/
def execCmdSynRampStop (m : Fin 16) (x : Exec) (s : State) : Res :=
  fin (s.cmd m 0x802 x
    (fun s => s.headChecks m (fun n => n = 0 || n = 4) ++
      [chk (ST_BAD_ARGUMENT) (s.plen m = 4 && s.pay m 0 4 / 2 ≠ 0), chk (ST_WRONG_MODE) (!s.timeMode), chk (followDetail) (s.follow)])
    (fun s =>
      let ret := s.plen m = 4 && testBit (s.pay m 0 4) 0
      ((s.rampStop ret).mirrorCmd 0x802 (leBytes 4 (if ret then 1 else 0))).complete m ST_OK))

/-! ### Clock outputs (R395-R402): edges in fifths of 2^-40 ns, so that 400 ps is a whole number -/

/-- Model time `t` in fifths of 2^-40 ns of nominal ticks. -/
def now5 (t : Nat) : Int := 5 * tickU * t

/-- The committed timing of output `k`: P = DIV × 400 ps, DLY = COARSE × 400 ps + FINE ps. -/
def State.ckoTiming (s : State) (k : Nat) : CkoT :=
  { p5 := (s.com SYN_CKO_DIV.DIV_M1 k + 1) * (2 * nsU),
    dly5 := s.com SYN_CKO_DLY.COARSE k * (2 * nsU) + s.com SYN_CKO_DLY.FINE k * nsU / 200,
    align := s.comB SYN_CKO_CFG.ALIGN k, dom := s.com SYN_CKO_CFG.DOMAIN k }

/-- The first value of a sequence `a + j × p` at or after `x`. -/
def nextGrid (a p x : Int) : Int := a + (x - a + p - 1) / p * p

/-- The first rising edge of a timing at or after model time `y5`, as model time (R396, R398), on the grid of its domain without
the steps `back`. -/
def State.nextEdge (s : State) (t : CkoT) (anchor5 y5 : Int) (back : Int := 0) : Int :=
  let p : Int := max 1 t.p5
  if t.align then
    let inc : Int := max 1 (s.incOf t.dom)
    let d5 := 5 * (s.domAt t.dom s.now - back)
    let at_ := d5 + (y5 - now5 s.now) * inc / tickU
    let g := nextGrid t.dly5 p at_
    y5 + (g - at_) * tickU / inc
  else nextGrid anchor5 p y5

def State.cko (s : State) (k : Nat) : Cko := SMap.at! s.syn.ckos k
def State.updCko (s : State) (k : Nat) (f : Cko → Cko) : State :=
  s.updSyn fun y => { y with ckos := SMap.upd y.ckos k f }

/-- An edge time falls in the present tick or before it. -/
def State.due5 (s : State) (e : Int) : Bool := e < now5 (s.now + 1)

/-- The earliest instant of the first edge of an output enabled in tick `a`: 1.28 µs later, and not before the last high
phase is over (R398). -/
def Cko.lead5 (c : Cko) (a : Nat) : Int := max (now5 (a + 2048)) c.rest5

/-- The lengthening that the steps not yet taken ask for: (-Σσ) mod P, in fifths of 2^-40 ns of a timing's domain (R400). -/
def delta5 (t : CkoT) (steps : Int) : Nat := ((-(5 * steps)) % (max 1 t.p5 : Nat)).toNat

/-- An edge of timing `t` delayed by `d` of its domain. -/
def State.later (s : State) (t : CkoT) (e : Int) (d : Nat) : Int :=
  e + (d : Int) * tickU / (if t.align then max 1 (s.incOf t.dom) else tickU)

/-- CKO_OUTPUT_START (R398): the first edge at least 1.28 µs after the enable, delayed by the steps since (R400). -/
def execCkoOutputStart (k : Fin 12) (s : State) : Res :=
  let c := s.cko k
  match c.pend with
  | none => fin s
  | some a =>
    let t := s.ckoTiming k
    let lead := c.lead5 a
    let d := if t.align then delta5 t c.steps else 0
    let e := if t.align then s.later t (s.nextEdge t 0 lead c.steps) d else lead + t.dly5
    if s.quiet || !s.comB SYN_CKO_CFG.ENABLE k || !s.due5 e then fin s
    else
      let s := s.updCko k fun c => { c with t := t, anchor5 := e, pend := none, run := true, old := none, steps := 0, absorbed := 0 }
      let s := (s.wr SYN_CKO_STAT.RUNNING k 1).emit (.pin .cko k true)
      fin (if d = 0 then s else s.raise EV.SYN_STEP_APPLIED k)

/-- End of the old period in progress 1.28 µs after the apply tick (R399), on the grid that the steps since have not moved. -/
def State.oldEnd (s : State) (c : Cko) : Option Int :=
  c.old.map fun o => s.nextEdge o.1 o.2.1 (now5 (o.2.2 + 2048)) (c.steps + c.absorbed)

/-- The first new edge (R399); a further change before that edge moves it, not the end of the old period, and a step places it
on the stepped grid, not before the step (R400). -/
def State.switchEdge (s : State) (k : Nat) : Option Int :=
  let c := s.cko k
  match c.old, s.oldEnd c with
  | none, _ | _, none => none
  | some (o, _, at_), some endOld =>
    let least := max (endOld + (max o.p5 c.t.p5 : Nat) / 2) (if c.chgAt = at_ then endOld else now5 (c.chgAt + 2048))
    let least := max least (now5 c.newAt)
    some (if c.t.align then s.nextEdge c.t 0 least else least + c.t.dly5)

/-- CKO_SWITCH_EDGE (R399): the first edge of the new timing. -/
def execCkoSwitchEdge (k : Fin 12) (s : State) : Res :=
  match s.switchEdge k with
  | none => fin s
  | some e =>
    if s.due5 e && (s.cko k).run then
      let s := s.updCko k fun c => { c with old := none, anchor5 := e, steps := 0, absorbed := 0, newAt := 0 }
      fin ((s.wr SYN_CKO_STAT.SWITCHING k 0).raise EV.SYN_OUT_SWITCH k)
    else fin s

/-- First edge of the timing in force of a clock output: its own, or that of its old timing. -/
def Cko.anchor (c : Cko) : Int := match c.old with
  | some (_, a, _) => a
  | none => c.anchor5

/-- CKO_STEP_EDGE (R400): the first rising edge due at or after a step is delayed by δ. In a change of timing only an edge within
its first 1.28 µs is one, and what comes later is absorbed. -/
def execCkoStepEdge (k : Fin 12) (s : State) : Res :=
  let c := s.cko k
  let e := s.nextEdge c.cur c.anchor (now5 c.stepAt) (c.steps + c.absorbed)
  let ends : Bool := match c.old with
    | some (_, _, at_) => now5 (at_ + 2048) ≤ e
    | none => false
  if c.run && c.cur.align && c.steps ≠ 0 && s.due5 e && !ends then
    let d := delta5 c.cur c.steps
    let s := s.updCko k fun c => { c with steps := 0, lowTill5 := s.later c.cur e d }
    fin (if d = 0 then s else (s.emit (.lengthen k d)).raise EV.SYN_STEP_APPLIED k)
  else fin s

/-- When the high phase in progress of output `k` ends, or now when it is low (R398). -/
def State.restAt (s : State) (k : Nat) : Int :=
  let c := s.cko k
  let o := c.cur
  let now := now5 s.now
  let low : Bool := now < c.lowTill5 || (s.oldEnd c).any (fun e => e ≤ now)
  let p : Int := if o.align then (o.p5 : Int) * tickU / max 1 (s.incOf o.dom) else o.p5
  if low then now else max now (s.nextEdge o c.anchor now (c.steps + c.absorbed) - p + p / 2)

/-- A commit of the SYN_ group at one output: enable, disable, or a change of DIV, COARSE, FINE, ALIGN or DOMAIN (R398, R399);
`b` is the module before it. -/
def State.ckoCommit (s b : State) (k : Nat) : State :=
  let wasOn := b.comB SYN_CKO_CFG.ENABLE k
  let changed := s.comReg R.SYN_CKO_DIV k ≠ b.comReg R.SYN_CKO_DIV k || s.comReg R.SYN_CKO_DLY k ≠ b.comReg R.SYN_CKO_DLY k ||
    s.com SYN_CKO_CFG.ALIGN k ≠ b.com SYN_CKO_CFG.ALIGN k || s.com SYN_CKO_CFG.DOMAIN k ≠ b.com SYN_CKO_CFG.DOMAIN k
  let on := s.comB SYN_CKO_CFG.ENABLE k
  let t := s.ckoTiming k
  if on && !wasOn then
    if s.quiet then s else s.updCko k fun c => { c with pend := some s.now, old := none, steps := 0 }
  else if !on && wasOn then
    let e := s.restAt k
    let s := if (s.cko k).run then (s.updCko k fun c => { c with rest5 := e }).emit (.rest k e) else s
    (s.updCko k fun c => { c with run := false, pend := none, old := none, steps := 0 }).setReg R.SYN_CKO_STAT k 0
  else if on && (s.cko k).run && changed then
    (s.updCko k fun c => { c with
      old := if c.old.isSome then c.old else some (c.t, c.anchor5, s.now), chgAt := s.now, t := t }).wr
      SYN_CKO_STAT.SWITCHING k 1
  else s

end Sys2Proof.Machine
end

