-- ==== Sys2Proof/Machine/Reference.lean ====
section
/-! DEFINITION. Sys2Proof/Machine/Reference.lean: reference samples, qualification, selection, holdover, the learner and
the loop (chapter 12). Offsets and departures are in 2^-16 ns. -/
namespace Sys2Proof.Machine

/-! ### States and tolerances (R357, R363, R364) -/
def qDISABLED : Nat := 0
def qNO_SIGNAL : Nat := 1
def qQUALIFYING : Nat := 2
def qQUALIFIED : Nat := 3
def qDISQUALIFIED : Nat := 4

def State.qst (s : State) (j : Nat) : Nat := s.rd REF_SRC_STAT.QSTATE j
def State.src (s : State) (j : Nat) : RefSrc := SMap.at! s.ref.srcs j
def State.updSrc (s : State) (j : Nat) (f : RefSrc → RefSrc) : State :=
  s.updRef fun r => { r with srcs := SMap.upd r.srcs j f }
def State.selected (s : State) : Nat := s.rd REF_STAT.SELECTED
def State.isTimeRef (s : State) (j : Nat) : Bool := 4 ≤ j || !s.comB REF_IN_CFG.KIND j
def State.isPps (s : State) (j : Nat) : Bool := j < 4 && !s.comB REF_IN_CFG.KIND j
def State.judged (s : State) (j : Nat) : Bool := s.qst j = qQUALIFYING || s.qst j = qQUALIFIED

def State.phaseTol (s : State) (j : Nat) : Int := s.com REF_TOL_CFG.PHASE_TOL j * 65536
def State.driftThr (s : State) (j : Nat) : Int := s.com REF_TOL_CFG.DRIFT_THR j * 65536
def State.freqTol (s : State) (j : Nat) : Int := s.com REF_TOL2_CFG.FREQ_TOL j
def State.driftWin (s : State) (j : Nat) : Nat := s.com REF_TOL2_CFG.DRIFT_WIN j
/-- Samples of one rate fall up to this much beside their second. -/
def winSlack : Nat := msT

def State.modelValid (s : State) : Bool := s.bit REF_STAT.MODEL_VALID
def State.ocxoWarm (s : State) : Bool := s.bit PWR_CLK_STAT.OCXO_WARM
def State.caseTemp (s : State) : Int := s.rdS PWR_TEMP.CASE

/-! ### The departure from P (R362) -/

/-- D0 - P without the steps, which both take: in 2^-16 ns. -/
def State.d0minusP (s : State) : Int := s.accQ.ref.q * tickU / (65536 * 1000000000 * 16777216)

/-- What turns an offset of reference `j` formed now into its departure, which leaves out the steps of D0 and P and the
reference's own jumps (R366), so that histories stay comparable. -/
def State.toDep (s : State) (j : Nat) : Int := s.d0minusP + (s.dom 0).steps / fracU - (s.src j).base

/-- The largest |x - v| over a history. -/
def maxDev (x : Int) (h : List Int) : Int := h.foldl (fun a v => max a ((x - v).natAbs : Int)) 0

/-- ν as the change over `win` seconds in 2^-16 ns, once the history reaches back that far. -/
def nuOf (now win : Nat) (x : Int) (h : List (Nat × Int)) : Option Int :=
  match h.find? (fun e => e.1 + win * sT ≤ now + winSlack) with
  | some (_, v) => some (x - v)
  | none => none

/-- |ν| of a change over `win` seconds passes `tol`, in 0.01 ppb. -/
def nuPast (tol : Int) (win : Nat) (d : Int) : Bool := decide (tol * 65536 * win < (d.natAbs : Int) * 100)

/-- A history cut to a window, with one sample before it. -/
def cutHist {α : Type} (now win : Nat) : List (Nat × α) → List (Nat × α)
  | [] => []
  | e :: r => if e.1 + win * sT + winSlack < now then [e] else e :: cutHist now win r

/-! ### Time fields of timing grains (R380, R350) -/

/-- CLOCK_CLASS, traceable flag and holdover flag. -/
def State.clockFields (s : State) : Nat × Bool × Bool :=
  let j := s.selected
  if s.rstate = rsLOCKED then
    if j < 4 then (s.com REF_IN_CFG.CLASS j, s.comB REF_IN_CFG.TRACEABLE j, false)
    else if j = 6 then (s.rd REF_PTP_STAT.CLASS, s.bit REF_PTP_STAT.TRACEABLE, false)
    else
      let (_, _, c, f, _) := SMap.get (0, 0, 0, 0, 0) s.ref.line j
      (c, testBit f 1, false)
  else if s.rstate = rsFREERUN then (s.com REF_CLASS_CFG.FREERUN, false, false)
  else if s.bit REF_STAT.IN_SPEC then
    (if s.ref.inClass ≤ 7 then s.com REF_CLASS_CFG.HO_GM else s.com REF_CLASS_CFG.HO_BC, s.ref.inTrace, true)
  else (s.com REF_CLASS_CFG.HO_OUT, false, true)

/-- STEPS and TE_EST (ps) that the node sends (R350, R377); FREQ_ASSIST counts as holdover (log entry 99). -/
def State.teFields (s : State) : Nat × Nat :=
  let j := s.selected
  if s.rstate = rsLOCKED && (j = 4 || j = 5) then
    let (te, st, _, _, hop) := SMap.get (0, 0, 0, 0, 0) s.ref.line j
    (min 255 (st + 1), min 0xFFFFFFFF (te + hop))
  else if s.rstate = rsHOLDOVER || s.rstate = rsASSIST then (s.ref.inSteps, min 0xFFFFFFFF (s.ref.inTe + s.rd REF_HO_EST.H))
  else (0, 0)

def State.noteTe (s : State) : State := s.wr TBS_TE_STAT.TE_EST 0 s.teFields.2

/-! ### Holdover (R375-R377) -/

/-- m(t) now, in 2^-16 ppb. -/
def State.modelNow (s : State) : Int :=
  let r := s.ref
  (r.m0 + r.ag * (s.now - r.tLast : Nat) / sT + r.tc * (s.caseTemp - r.tempLast)) / 2 ^ 32

/-- h in ps (R377). -/
def State.holdEst (s : State) : Nat :=
  let τ := (s.now - s.ref.holdAt) / sT
  if s.rstate = rsHOLDOVER then
    s.ref.h0 * 1000 + s.rd REF_HO_STAT.U_F * τ / 10 + s.rd REF_HO_STAT.U_A * τ * τ / 1728000
  else if s.rstate = rsASSIST then s.com REF_HO_CFG.FA_PPB * τ
  else 0

/-- Shows h and IN_SPEC; OUT_OF_SPEC when h passes HO_SPEC. -/
def State.noteHold (s : State) : State :=
  let h := s.holdEst
  let ok : Bool := s.rstate ≠ rsFREERUN && h ≤ s.com REF_HO_CFG.HO_SPEC * 1000
  let was := s.bit REF_STAT.IN_SPEC
  let s := (s.wr REF_HO_EST.H 0 (min h 0xFFFFFFFF)).wrB REF_STAT.IN_SPEC 0 ok
  let s := if was && !ok && s.rstate ≠ rsFREERUN then s.raise EV.REF_OUT_OF_SPEC else s
  s.noteTe

/-- The model's word in HOLDOVER (R376); in SW mode the module never writes the word (R382). -/
def State.followModel (s : State) : State :=
  let s := s.accQ
  let s := s.updRef fun r => { r with m := s.modelNow }
  if s.rstate = rsHOLDOVER && !s.swMode then s.setW s.ref.m else s

/-! ### Selection (R367-R371) -/

def pairKey (j k : Nat) : Nat := if j < k then 8 * j + k else 8 * k + j
def State.disagrees (s : State) (j k : Nat) : Bool := s.ref.disagree.contains (pairKey j k)

/-- The reference of a rank that R368 yields; the flag says that two of them disagree with none chosen. -/
def State.ofRank (s : State) (l : List Nat) : Option Nat × Bool :=
  if l.contains s.selected then (some s.selected, false)
  else if s.modelValid then
    (l.foldl (fun b j => match b with
      | none => some j
      | some k => if (s.src j).nu.natAbs * (s.src k).nuWin < (s.src k).nu.natAbs * (s.src j).nuWin then some j else b) none,
      false)
  else if l.any (fun j => l.any (fun k => j ≠ k && s.disagrees j k)) then (none, true)
  else (l.head?, false)

/-- The best of a set of references, rank by rank. -/
def State.bestOf (s : State) (l : List Nat) : Option Nat × Bool :=
  (List.range 16).foldl (fun (b : Option Nat × Bool) rank =>
    if b.1.isSome then b
    else
      let r := s.ofRank (l.filter (fun j => s.com REF_SRC_CFG.RANK j = rank))
      (r.1, b.2 || r.2)) (none, false)

/-- What R367 yields in this tick, and whether R368 raises DISAGREE. -/
def State.choose (s : State) : Option Nat × Bool :=
  let q := (List.range 7).filter (fun j => s.qst j = qQUALIFIED)
  match s.ref.forced with
  | some f => if q.contains f then (some f, false) else rest s q
  | none => rest s q
where
  rest (s : State) (q : List Nat) : Option Nat × Bool :=
    let times := q.filter s.isTimeRef
    let hold : Bool := !s.comB REF_SEL_CFG.REVERTIVE && times.contains s.selected
    let (b, d) := s.bestOf (if hold then times.filter (fun j => !s.ref.barred.contains j) else times)
    if b.isSome then (b, d) else
      let (c, e) := s.bestOf (q.filter (fun j => !s.isTimeRef j))
      (c, d || e)

/-- σ of R371: the mean offset of the last second, or the last sample of a PPS reference. -/
def State.stepOf (s : State) (j : Nat) : Int :=
  match (s.src j).hist with
  | [] => 0
  | (t, _, o) :: r =>
    if s.isPps j then o
    else
      let l := ((t, o) :: r.map (fun e => (e.1, e.2.2))).filter (fun e => decide (s.now < e.1 + sT))
      if l.isEmpty then o else (l.foldl (fun a e => a + e.2) 0) / (l.length : Int)

/-- The loop starts from the frequency word in force, which its integrator holds (R371, R383). -/
def State.startLoop (s : State) : State :=
  let w := s.wNow
  s.updRef fun r => { r with loopI := w * 2 ^ 32, loopAt := s.now, loopBase := none }

/-- Enters a state of D0 with reference `sel` (7 for none). The word holds its value in force: in FREERUN (R370), and for the
loop to resume with (R371). -/
def State.enterRef (s : State) (st sel : Nat) : State :=
  let (cls, trace, _) := s.clockFields
  let (steps, te) := s.teFields
  let was := s.rstate
  let s := (s.wr REF_STAT.STATE 0 st).wr REF_STAT.SELECTED 0 sel
  let s := s.raise EV.REF_SWITCH
  let s := if st = rsHOLDOVER && was ≠ rsHOLDOVER then s.raise EV.REF_HOLDOVER
    else if st = rsFREERUN && was ≠ rsFREERUN then s.raise EV.REF_FREERUN else s
  let s := if (st = rsHOLDOVER || st = rsASSIST) && was ≠ st then
      s.updRef fun r => { r with holdAt := s.now, holdUpd := s.now, inClass := cls, inTrace := trace, inSteps := steps, inTe := te }
    else s
  let s := if was = rsFREERUN then s.foldRamp else s
  let s := if st ≠ rsHOLDOVER && !s.swMode then s.putW s.wNow else s
  s.followModel.noteHold.startLoop

/-- Evaluates selection (R367-R369, R379). A reference that is selected is barred no longer (R367). -/
def State.selectNow (s : State) : State :=
  let h0 := s.ref.h0Due
  let s := s.updRef fun r => { r with due := false, h0Due := 0 }
  if !s.tb.warmed || !s.timeMode then s
  else
    let old := s.selected
    let s := if old ≠ 7 && s.qst old ≠ qQUALIFIED then
        (s.updRef fun r => { r with barred := [] }).raiseObj EV.REF_REF_LOSS 0 old
      else s
    let (c, dis) := s.choose
    let s := if dis && !s.ref.split then s.raise EV.REF_DISAGREE else s
    let s := s.updRef fun r => { r with split := dis }
    match c with
    | some j =>
      let st := if s.isTimeRef j then rsLOCKED else rsASSIST
      if old = j && s.rstate = st then s
      else
        let s := (s.count (refSlot j 6)).updRef fun r => { r with barred := r.barred.filter (· ≠ j) }
        let σ := s.stepOf j
        let s := if st = rsLOCKED then s.updRef fun r => { r with steps := r.steps ++ [(s.now + 64, σ)] } else s
        s.enterRef st j
    | none =>
      let st := if s.modelValid && s.ocxoWarm then rsHOLDOVER else rsFREERUN
      if old = 7 && s.rstate = st then s
      else
        let s := if st = rsHOLDOVER then s.updRef fun r => { r with h0 := h0 } else s
        s.enterRef st 7

/-- Selection is evaluated once per tick, after every event of that tick (R369): the end of the tick does it. -/
def State.select (s : State) : State := s.updRef fun r => { r with due := true }

/-! ### Qualification (R363-R366) -/

def State.setQ (s : State) (j v : Nat) : State := s.wr REF_SRC_STAT.QSTATE j v

def State.dropPairs (s : State) (j : Nat) : State :=
  s.updRef fun r => { r with pairs := r.pairs.filter (fun p => p.1 / 8 ≠ j && p.1 % 8 ≠ j),
                             disagree := r.disagree.filter (fun k => k / 8 ≠ j && k % 8 ≠ j) }

/-- A reference starts to qualify. -/
def State.startQual (s : State) (j : Nat) : State :=
  (s.setQ j qQUALIFYING).updSrc j fun r => { r with qualAt := s.now }

/-- No pair of reference `j` disagrees any longer. -/
def State.agree (s : State) (j : Nat) : State :=
  s.updRef fun r => { r with disagree := r.disagree.filter (fun k => k / 8 ≠ j && k % 8 ≠ j) }

/-- Reference `j` enters NO_SIGNAL (R384). -/
def State.enterNoSignal (s : State) (j : Nat) : State :=
  if s.qst j = qNO_SIGNAL then s else (s.setQ j qNO_SIGNAL).count (refSlot j 5)

/-- The signal of a reference is lost (R358-R360). A time reference keeps its samples, which R364 and R366 judge as long as
they lie in the window; the phase of a frequency reference starts anew (R358). -/
def State.lostSignal (s : State) (j : Nat) : State :=
  if s.qst j = qDISABLED || s.qst j = qNO_SIGNAL then s
  else
    let s := (s.agree j).enterNoSignal j
    let s := if s.isTimeRef j then s
      else (s.dropPairs j).updSrc j fun r => { r with hist := [], drift := 0, nu := 0 }
    s.updSrc j fun r => { r with lastEdge := none, label := none, zda := [], rmcBad := false, edgeWait := none, stamp0 := none,
                                 cycles := 0, acc := 0, accN := 0, accAt := 0 }

/-- The signal of reference `j` is back: only the samples of its last DRIFT_WIN seconds count further (R364, R366). -/
def State.signalBack (s : State) (j : Nat) : State :=
  let within (t : Nat) : Bool := s.now ≤ t + s.driftWin j * sT + winSlack
  ((s.updSrc j fun r => { r with hist := r.hist.filter (fun e => within e.1) }).updRef fun r => { r with
    pairs := r.pairs.map (fun p => if p.1 / 8 = j || p.1 % 8 = j then (p.1, p.2.filter (fun e => within e.1)) else p) }).startQual j
def State.noSignal (s : State) (j : Nat) : State :=
  if s.qst j = qDISABLED || s.qst j = qNO_SIGNAL then s else (s.lostSignal j).select

/-- Disqualifies a reference (R364, R366, R374). -/
def State.disqualify (s : State) (j cause : Nat) : State :=
  let h0 := s.com REF_TOL_CFG.PHASE_TOL j
  let s := (s.setQ j qDISQUALIFIED).wr REF_SRC_STAT.CAUSE j cause
  let s := (s.updSrc j fun r => { r with disqAt := s.now }).count (refSlot j cause)
  let s := s.raise EV.REF_DISQUAL j
  let win := s.driftWin j * sT
  let s := (s.agree j).updRef fun r => { r with
    recs := r.recs.filter (fun x => x.ref ≠ j || decide (x.at_ + win ≤ s.now)), h0Due := if s.selected = j then h0 else r.h0Due }
  let s := s.select
  if s.com REF_SRC_CFG.REQUAL_S j = 0 then s.startQual j else s

/-- Tests 1 to 3 of R364 on a departure: the CAUSE of the first failure. -/
def State.refTests (s : State) (j : Nat) (e : Int) : Option Nat :=
  let h := (s.src j).hist
  let lim := s.phaseTol j - s.driftThr j
  let win := s.driftWin j
  match h with
  | [] => none
  | (_, p, _) :: _ =>
    let l := (cutHist s.now win (h.map (fun x => (x.1, x.2.1))))
    let mean : Int := match l.getLast? with
      | some (_, o) => if l.length ≤ 1 then 0 else (p - o) / ((l.length - 1 : Nat) : Int)
      | none => 0
    let δ := if s.modelValid then e - p else e - p - mean
    if lim < (δ.natAbs : Int) then some 1
    else if s.modelValid then
      if s.driftThr j ≤ maxDev e ((l.filter (fun x => decide (s.now ≤ x.1 + win * sT + winSlack))).map (·.2)) then some 2
      else match nuOf s.now win e l with
        | some ν => if nuPast (s.freqTol j) win ν then some 3 else none
        | none => none
    else none

/-- Whether references `j` and `k` disagree by their pair history, newest first (R366). -/
def State.pairBad (s : State) (j k : Nat) (h : List (Nat × Int)) : Bool :=
  let r := if s.driftThr k < s.driftThr j then k else j
  let thr := min (s.driftThr j) (s.driftThr k)
  let ft := min (s.freqTol j) (s.freqTol k)
  let win := s.driftWin r
  match h with
  | [] => false
  | (_, x) :: t =>
    let phase : Bool := s.isTimeRef j = s.isTimeRef k
    (phase && decide (thr ≤ maxDev x ((t.filter (fun y => decide (s.now ≤ y.1 + win * sT + winSlack))).map (·.2)))) ||
    (match nuOf s.now win x t with | some ν => nuPast ft win ν | none => false)

/-- A new difference of references `j` and `k`, which disagree only while both are judged. -/
def State.comparePair (s : State) (j k : Nat) (d : Int) : State :=
  let key := pairKey j k
  let h := cutHist s.now (max (s.driftWin j) (s.driftWin k)) ((s.now, d) :: SMap.at! s.ref.pairs key)
  let bad := s.judged j && s.judged k && s.pairBad j k h
  let was := s.ref.disagree.contains key
  let s := s.updRef fun r => { r with pairs := SMap.set [] r.pairs key h,
                                      disagree := if bad then (if was then r.disagree else key :: r.disagree)
                                        else r.disagree.filter (· ≠ key) }
  if bad && !was then s.raise EV.REF_DISAGREE j else s

/-- Compares reference `j`'s new departure with that of every other reference that has samples (R366). -/
def State.comparePairs (s : State) (j : Nat) (e : Int) : State :=
  (List.range 7).foldl (fun s k =>
    if k = j then s
    else if s.qst k = qNO_SIGNAL then s
    else match (s.src k).hist with
      | [] => s
      | (_, ek, _) :: _ => s.comparePair j k (if j < k then e - ek else ek - e)) s

/-- A QUALIFIED reference that two others, agreeing with each other, disagree with (R366). -/
def State.outvoted (s : State) (j : Nat) : Bool :=
  let l := (List.range 7).filter (fun k => k ≠ j && s.judged k && s.disagrees j k)
  s.qst j = qQUALIFIED && l.any (fun a => l.any (fun b => a < b && !s.disagrees a b))

def State.vote (s : State) : State :=
  (List.range 7).foldl (fun s j => if s.outvoted j then s.disqualify j 4 else s) s

/-- ω of the loop, 2π × BW mHz, in 10^-18 rad/s (R381). -/
def State.loopOmega (s : State) : Int := 6283185307179586 * (s.com REF_LOOP_CFG.BW : Int)

/-- The loop takes the offset sample `ofs` of the selected reference in HW mode (R381): damping 1 and natural frequency ω
give the proportional part 2ωe and the integral part ω²∫e dt. Of a frequency reference, e counts from its first sample. Its
last place is free, up or down by one (log entry 31); FSLEW and the range bound it (R376). -/
def State.loopTake (s : State) (j : Nat) (ofs : Int) : State :=
  if s.swMode then s
  else
    let x := ofs + (if s.isTimeRef j then 0 else (s.dom 0).steps / fracU)
    let base := s.ref.loopBase.getD (if s.isTimeRef j then 0 else x)
    let e := x - base
    let ω := s.loopOmega
    let dt : Int := (s.now - s.ref.loopAt : Nat)
    let i := s.ref.loopI + ω * ω * e * dt * 625 * 2 ^ 32 / 10 ^ 48
    let s := s.updRef fun r => { r with loopI := max (-steerMax * 2 ^ 32) (min (steerMax * 2 ^ 32) i), loopAt := s.now,
                                        loopBase := some base }
    let w := s.ref.loopI / 2 ^ 32 + 2 * ω * e / 10 ^ 18 + max (-1) (min 1 (Config.loopError s.nextFree))
    { s with nextFree := s.nextFree + 1 }.setW w

/-- An offset sample of reference `j` (R362-R366), which `toDep`, taken when its edge came, turns into its departure. A
disqualified one's samples are kept, untested. -/
def State.offsetSample (s : State) (j : Nat) (ofs toDep : Int) : State :=
  if s.com REF_SRC_CFG.RANK j = 0 || !s.tb.warmed || s.qst j = qDISABLED then s
  else
    let s := if s.qst j = qNO_SIGNAL then s.signalBack j else s
    let s := s.accQ
    let e := ofs + toDep
    let win := s.driftWin j
    let l := (cutHist s.now win ((s.src j).hist.map (fun x => (x.1, x.2.1))))
    let d := maxDev e ((l.filter (fun x => decide (s.now ≤ x.1 + win * sT + winSlack))).map (·.2))
    let ν := (nuOf s.now win e l).getD 0
    let s := (s.wr REF_SRC_DEP.DEP j (min 65535 (d / 65536).toNat)).wrS REF_SRC_DEP.NU j
      (satS 16 (ν * 100 / (65536 * max 1 (win : Int))))
    let fails := if s.judged j then s.refTests j e else none
    let s := if s.judged j then s.count (refSlot j 0) else s
    let s := s.updSrc j fun r => { r with hist := cutHist s.now win ((s.now, e, ofs) :: r.hist), drift := d, nu := ν,
                                          nuWin := max 1 win }
    match fails with
    | some c => (s.disqualify j c).vote
    | none =>
      let s := (s.comparePairs j e).vote
      let s := if s.selected = j && s.qst j = qQUALIFIED then s.loopTake j ofs else s
      s.select

/-- Line reference `j` carries NO_ASYM or STEPS_OVER, which keeps it from qualifying (R338). -/
def State.lineFlagged (s : State) (j : Nat) : Bool :=
  (j = 4 || j = 5) && (List.range 32).any (fun h => s.com SHF_TT_CFG.LINE_REF h + 3 = j &&
    (s.bit SHF_TT_STAT.NO_ASYM h || s.bit SHF_TT_STAT.STEPS_OVER h))

/-- QUALIFY_EXPIRY (R363): QUAL_S seconds without a failed test, after which the majority vote judges it too (R366). Under REVERTIVE 0 the selected time reference keeps its
place before one that newly qualifies (R367). -/
def execQualifyExpiry (j : Fin 7) (s : State) : Res :=
  if s.qst j = qQUALIFYING && (s.src j).qualAt + s.com REF_SRC_CFG.QUAL_S j * sT ≤ s.now && !s.lineFlagged j then
    let a := s.selected
    let s := s.setQ j qQUALIFIED
    let bar : Bool := !s.comB REF_SEL_CFG.REVERTIVE && a ≠ 7 && s.qst a = qQUALIFIED && s.isTimeRef a && s.isTimeRef j &&
      decide (s.com REF_SRC_CFG.RANK j < s.com REF_SRC_CFG.RANK a)
    fin (s.updRef fun r => { r with barred := r.barred.filter (· ≠ j.val) ++ (if bar then [j.val] else []) }).vote.select
  else fin s

/-- REQUAL_EXPIRY (R363). -/
def execRequalExpiry (j : Fin 7) (s : State) : Res :=
  if s.qst j = qDISQUALIFIED && (s.src j).disqAt + s.com REF_SRC_CFG.REQUAL_S j * sT ≤ s.now then fin (s.startQual j)
  else fin s

/-! ### The REFIN inputs and the GNSS receiver (R358, R359) -/

/-- The reference whose seconds the GNSS messages label. -/
def State.gnssRef (s : State) : Option Nat := (List.range 4).find? (fun k => s.com REF_IN_CFG.TOD_SRC k = 1)

/-- A ToD error of reference `k` (R359): no sample, the QUAL_S count restarts (R364), three in a row lose the signal. -/
def State.todError (s : State) (k : Nat) : State :=
  let s := (s.count (refSlot k 7)).raise EV.REF_TOD_ERR k
  let n := (s.src k).todErrs + 1
  let s := s.updSrc k fun r => { r with todErrs := n, qualAt := s.now }
  if 3 ≤ n then s.noSignal k else s

/-- A labelled second: label in seconds of D0's scale, stamp of the edge in 2^-16 ns. The RMC status that it carries is that
of the last RMC since the edge before, which labels one second only (log entry 122). -/
def State.labelled (s : State) (k label : Nat) (stamp toDep : Int) : State :=
  let r := s.src k
  let bad := r.rmcBad || (match r.label with | some p => label ≠ p + 1 | none => false)
  let s := s.updSrc k fun r => { r with label := some label, zda := [], rmcBad := false, edgeWait := none }
  if bad then s.todError k
  else (s.updSrc k fun r => { r with todErrs := 0 }).offsetSample k ((label : Int) * 1000000000 * 65536 - stamp) toDep

/-- A second whose edge no ZDA has followed within 950 ms is a ToD error (R359). -/
def State.tardyTod (s : State) (k : Nat) : State :=
  match (s.src k).edgeWait with
  | some (t, _, _) => if t + 950 * msT < s.now then (s.updSrc k fun r => { r with edgeWait := none }).todError k else s
  | none => s

/-- A cycle of the FREQ input `k`, stamped on D0 (R358): its phase is counted from the first one; a sample each 62.5 ms. -/
def State.freqCycle (s : State) (k : Nat) (stamp : Int) : State :=
  let r := s.src k
  let s0 := r.stamp0.getD stamp
  let n := if r.stamp0.isSome then r.cycles + 1 else 0
  let s := s.updSrc k fun r => { r with lastEdge := some s.now, stamp0 := some s0, cycles := n }
  if (r.hist.head?).any (fun e => decide (s.now < e.1 + 100000000)) then s
  else s.offsetSample k (diff64 ((n : Int) * (100 * 65536) - (stamp - s0))) (s.toDep k)

/-- Stamp on D0, in 2^-16 ns, of an edge of REFIN `k` captured at `i`: at the land, by the calibrated delay of the pin, but in
sine mode (R425), and REF_IN_DELAY taken off (R358). -/
def State.refStamp (s : State) (k : Nat) (i : Inst) : Int :=
  tsQ (s.domInst 0 i - (if s.comB REF_IN_CFG.KIND k then 0 else (s.path (522 + k)).delayU)) - psToQ (s.comS REF_IN_DELAY.DELAY k)

/-- REFIN_EDGE (R358, R359). -/
def execRefinEdge (k : Fin 4) (falling : Bool) (i : Inst) (s : State) : Res :=
  if !s.tickRun || s.com REF_SRC_CFG.RANK k = 0 || !s.tb.warmed || !s.timeMode then fin s
  else
    let stamp := s.refStamp k i
    if s.isPps k then
      if s.comB REF_IN_CFG.EDGE k ≠ falling then fin s
      else
        let s := if (s.src k).edgeWait.isSome then s.todError k else s
        let s := s.updSrc k fun r => { r with lastEdge := some s.now, edgeWait := none }
        if s.com REF_IN_CFG.TOD_SRC k ≠ 1 then
          let sec : Int := 1000000000 * 65536
          fin (s.offsetSample k ((stamp + sec / 2) / sec * sec - stamp) (s.toDep k))
        else if s.comB REF_TOD_CFG.TOD_EDGE then
          fin (s.updSrc k fun r => { r with edgeWait := some (s.now, stamp, s.toDep k), rmcBad := false })
        else match (s.src k).zda.find? (fun z => decide (z.1 + 50 * msT ≤ s.now && s.now ≤ z.1 + 950 * msT)) with
          | some (_, sec) => fin (s.labelled k (sec + s.com REF_TOD_CFG.UTC_OFS) stamp (s.toDep k))
          | none => fin ((s.updSrc k fun r => { r with zda := [], rmcBad := false }).todError k)
    else if falling then fin s else fin (s.freqCycle k stamp)

/-- REF_SIGNAL_TIMEOUT (R358): no PPS edge for 1.5 s, or no cycle for 1 µs. -/
def execRefSignalTimeout (k : Fin 4) (s : State) : Res :=
  match (s.src k).lastEdge with
  | some t =>
    let lim := if s.isPps k then 1500 * msT else usT
    if t + lim ≤ s.now then fin ((s.tardyTod k).noSignal k) else fin s
  | none => fin s

/-- ASCII digits as a number. -/
def digits (bs : List Byte) : Option Nat :=
  bs.foldl (fun a b => match a with
    | some n => if 48 ≤ b.toNat && b.toNat ≤ 57 then some (10 * n + (b.toNat - 48)) else none
    | none => none) (if bs.isEmpty then none else some 0)

def hexDigit (b : Byte) : Option Nat :=
  let n := b.toNat
  if 48 ≤ n && n ≤ 57 then some (n - 48) else if 65 ≤ n && n ≤ 70 then some (n - 55)
  else if 97 ≤ n && n ≤ 102 then some (n - 87) else none

/-- Fields of an NMEA 0183 sentence between `$` and `*`, when its checksum is correct (R359). -/
def nmeaFields (bs : List Byte) : Option (List (List Byte)) :=
  match bs with
  | 0x24 :: r =>
    let body := r.takeWhile (· ≠ 0x2A)
    match r.drop body.length with
    | 0x2A :: a :: b :: _ =>
      match hexDigit a, hexDigit b with
      | some x, some y =>
        if body.foldl (fun c d => Nat.xor c d.toNat) 0 = 16 * x + y then
          some (body.foldr (fun c acc => if c = 0x2C then [] :: acc else match acc with
            | [] => [[c]]
            | f :: fs => (c :: f) :: fs) [[]])
        else none
      | _, _ => none
    | _ => none
  | _ => none

/-- Days from 1970-01-01 to a date of the Gregorian calendar. -/
def daysOf (y mo d : Nat) : Nat :=
  let leaps (n : Nat) : Nat := n / 4 - n / 100 + n / 400
  let leap : Bool := (y % 4 = 0 && y % 100 ≠ 0) || y % 400 = 0
  let cum := [0, 31, 59, 90, 120, 151, 181, 212, 243, 273, 304, 334].getD (mo - 1) 0
  365 * (y - 1970) + (leaps (y - 1) - leaps 1969) + cum + (if leap && 2 < mo then 1 else 0) + (d - 1)

/-- UTC seconds since 1970 of a ZDA sentence: hhmmss, day, month, year. -/
def zdaSeconds (f : List (List Byte)) : Option Nat :=
  let t := (f.getD 1 []).take 6
  match digits (t.take 2), digits ((t.drop 2).take 2), digits ((t.drop 4).take 2), digits (f.getD 2 []),
      digits (f.getD 3 []), digits (f.getD 4 []) with
  | some h, some mi, some se, some d, some mo, some y => some (86400 * daysOf y mo d + 3600 * h + 60 * mi + se)
  | _, _, _, _, _, _ => none

/-- NMEA_SENTENCE (R359): ZDA labels a second, RMC gives the status. -/
def execNmeaSentence (bs : List Byte) (s : State) : Res :=
  if !s.tickRun then fin s
  else match nmeaFields bs, s.gnssRef with
    | some f, some k =>
      let id := (f.headD []).drop 2
      if id = [0x52, 0x4D, 0x43] then fin (s.updSrc k fun r => { r with rmcBad := f.getD 2 [] ≠ [0x41] })
      else if id = [0x5A, 0x44, 0x41] then
        match zdaSeconds f with
        | none => fin s
        | some sec =>
          if s.comB REF_TOD_CFG.TOD_EDGE then
            match (s.src k).edgeWait with
            | some (t, stamp, dep) =>
              if s.now ≤ t + 950 * msT then fin (s.labelled k (sec + s.com REF_TOD_CFG.UTC_OFS) stamp dep)
              else fin (s.tardyTod k)
            | none => fin s
          else fin (s.updSrc k fun r => { r with zda := (s.now, sec) :: r.zda.filter (fun z => decide (s.now ≤ z.1 + 950 * msT)) })
      else fin s
    | _, _ => fin s

/-! ### Client PTP and the lines (R338-R339, R360, R361) -/

/-- The client PTP reference is present (R360). -/
def State.ptpOk (s : State) : Bool :=
  let n := s.com REF_PTP_CFG.DOMAIN
  s.domSource n = srcHOST && !s.bit TBS_DOM_STAT.FREE_RUN n && s.bit REF_PTP_STAT.HOST_OK && s.fwdMode

/-- The client PTP reference loses its signal as soon as it is not present. -/
def State.notePtp (s : State) : State := if s.ptpOk then s else s.noSignal 6

/-- PTP_SAMPLE (R360): every 62.5 ms, Dn - D0. -/
def execPtpSample (s : State) : Res :=
  let n := s.com REF_PTP_CFG.DOMAIN
  if !s.tickRun || s.com REF_SRC_CFG.RANK 6 = 0 then fin s
  else if !s.ptpOk then fin (s.noSignal 6)
  else if (s.src 6).lastEdge.any (fun t => s.now < t + 100000000) then fin s
  else
    let s := s.updSrc 6 fun r => { r with lastEdge := some s.now }
    fin (s.offsetSample 6 ((s.domAt n s.now - s.domAt 0 s.now) / fracU) (s.toDep 6))

/-- A reference whose own time jumps by `j` (R366): departures re-based, a step of D0 when it is selected. -/
def State.refJump (s : State) (k : Nat) (jump : Int) : State :=
  let s := s.updSrc k fun r => { r with base := r.base + jump, acc := r.acc + jump * r.accN }
  if s.selected = k then s.updRef fun r => { r with steps := r.steps ++ [(s.now + 64, jump)] } else s

/-- The mean of the line samples gathered becomes an offset sample of the reference (R362). -/
def State.meanOffset (s : State) (j : Nat) : State :=
  let r := s.src j
  if r.accN = 0 then s
  else (s.updSrc j fun r => { r with acc := 0, accN := 0 }).offsetSample j (r.acc / (r.accN : Int)) (s.toDep j)

/-- A line sample of a window of `len` ticks that ends with this tick (R362): the intervals of 62.5 ms follow one another from
model time 0, a window belongs to the one that it ends in, and the last window of an interval brings its sample. -/
def State.lineOffset (s : State) (j len : Nat) (ofs : Int) : State :=
  let k := s.now / 100000000
  let s := if (s.src j).accAt = k then s else s.meanOffset j
  let s := s.updSrc j fun r => { r with acc := r.acc + ofs, accN := r.accN + 1, accAt := k }
  if (s.now + len) / 100000000 = k then s else s.meanOffset j

/-- A line sample that carries NO_ASYM or STEPS_OVER: no sample, and the reference is held in QUALIFYING (R338, R360). -/
def State.lineHeld (s : State) (j : Nat) : State :=
  if s.com REF_SRC_CFG.RANK j = 0 || !s.tb.warmed || s.qst j = qDISABLED || s.qst j = qDISQUALIFIED then s
  else
    let s := if s.qst j = qQUALIFYING then s else (s.startQual j).select
    s.updSrc j fun r => { r with qualAt := s.now, acc := 0, accN := 0 }

/-- References 4 to 6 are NO_SIGNAL outside FORWARD and CALIBRATE (R361). -/
def State.dropLineRefs (s : State) : State := (((s.lostSignal 4).lostSignal 5).lostSignal 6).select

/-! ### Steps, learner, holdover (R371, R374-R377, R379) -/

/-- PHASE_STEP_APPLY (R371). -/
def execPhaseStepApply (s : State) : Res :=
  match s.ref.steps with
  | (t, σ) :: r =>
    if t ≤ s.now && s.tickRun then fin ((s.updRef fun x => { x with steps := r }).stepDom 0 (σ * fracU) false) else fin s
  | [] => fin s

/-- Least squares over records relative to the newest: sums, then M0, AG and TC in 2^-32 of their units (R375). -/
def fitModel (l : List LRec) (t0 : Nat) (temp0 : Int) : Int × Int × Int :=
  let n : Int := l.length
  let x (r : LRec) : Int := -(((t0 - r.at_) / sT : Nat) : Int)
  let z (r : LRec) : Int := r.temp - temp0
  let sum (f : LRec → Int) : Int := l.foldl (fun a r => a + f r) 0
  let sx := sum x
  let sxx := sum (fun r => x r * x r)
  let sy := sum (·.y)
  let sxy := sum (fun r => x r * r.y)
  let hi := l.foldl (fun a r => max a r.temp) temp0
  let lo := l.foldl (fun a r => min a r.temp) temp0
  let k : Int := 2 ^ 32
  let two : Int × Int × Int :=
    let d := n * sxx - sx * sx
    if d = 0 then (if n = 0 then (0, 0, 0) else (sy * k / n, 0, 0))
    else ((sy * sxx - sx * sxy) * k / d, (n * sxy - sx * sy) * k / d, 0)
  if hi - lo < 32 then two
  else
    let sz := sum z
    let szz := sum (fun r => z r * z r)
    let sxz := sum (fun r => x r * z r)
    let szy := sum (fun r => z r * r.y)
    let det (a b c d e f g h i : Int) : Int := a * (e * i - f * h) - b * (d * i - f * g) + c * (d * h - e * g)
    let d := det n sx sz sx sxx sxz sz sxz szz
    if d = 0 then two
    else (det sy sx sz sxy sxx sxz szy sxz szz * k / d, det n sy sz sx sxy sxz sz szy szz * k / d,
      det n sx sy sx sxx sxy sz sxz szy * k / d)

/-- LEARNER_RECORD (R374, R375), once a second while warm: a record while LOCKED, and those of age DRIFT_WIN of their
reference are committed. -/
def execLearnerRecord (s : State) : Res :=
  if !s.tb.warmed || !s.timeMode || s.now < s.ref.learnAt + sT then fin s
  else
    let s := s.accQ
    let s := s.updRef fun r => { r with learnAt := s.now, m := s.modelNow }
    if !s.ocxoWarm then fin s
    else
      let j := s.selected
      let s := if s.rstate ≠ rsLOCKED || decide (s.driftThr j ≤ 2 * (s.src j).drift) then s
        else s.updRef fun r => { r with recs := ⟨s.now, j, s.yNow, s.caseTemp⟩ :: r.recs }
      let ripe (r : LRec) : Bool := r.at_ + s.driftWin r.ref * sT ≤ s.now
      let old := s.ref.recs.filter ripe
      let horizon := s.com REF_HO_CFG.LEARN_H * 3600 * sT
      let was := s.ref.fitted
      let s := s.updRef fun r => { r with recs := r.recs.filter (fun x => !ripe x),
                                          fitted := (old ++ r.fitted).filter (fun x => decide (s.now ≤ x.at_ + horizon)),
                                          learned := r.learned + old.length }
      if s.ref.fitted = was then fin s
      else match s.ref.fitted with
      | [] => fin s
      | f :: _ =>
        let (a, b, c) := fitModel s.ref.fitted f.at_ f.temp
        let was := s.modelValid
        let n := s.ref.learned
        let s := s.updRef fun r => { r with m0 := a, ag := b, tc := c, tLast := f.at_, tempLast := f.temp }
        let s := s.updRef fun r => { r with m := s.modelNow }
        let s := s.wr REF_STAT.LEARN_HOURS 0 (min 255 (n / 3600))
        let s := (s.wr REF_HO_STAT.U_F 0 (min 65535 (Config.learnUF s.nextFree))).wr REF_HO_STAT.U_A 0
          (min 65535 (Config.learnUA s.nextFree))
        let s := { s with nextFree := s.nextFree + 1 }
        if !was && 3600 ≤ n then fin ((s.wr REF_STAT.MODEL_VALID 0 1).raise EV.REF_MODEL_VALID).select else fin s

/-- HOLDOVER_UPDATE (R376, R377): every second in HOLDOVER or FREQ_ASSIST. -/
def execHoldoverUpdate (s : State) : Res :=
  if (s.rstate = rsHOLDOVER || s.rstate = rsASSIST) && s.ref.holdUpd + sT ≤ s.now then
    fin ((s.updRef fun r => { r with holdUpd := s.now }).followModel.noteHold)
  else fin s

/-! ### The word and the phase-error FIFO (R382, R383) -/

/-- A host write of REF_FREQ_WORD. -/
def State.writeWord (s : State) (w : Word) : State :=
  if steerMax.natAbs < w.toInt.natAbs then s.reservedEnc R.REF_FREQ_WORD.base
  else if s.swMode then (s.setW w.toInt).updRef fun r => { r with wWritten := s.now, stale := false }
  else s

/-- FREQ_WORD_WRITE (R382, R383): in HW mode a write has no effect. -/
def execFreqWordWrite (w : Word) (s : State) : Res :=
  if s.gr.linkUp && s.railOk 4 then fin (s.writeWord w) else fin s

/-- PE_PUSH (R382). -/
def execPePush (s : State) : Res :=
  if !s.swMode || !s.timeMode || s.now < s.ref.peAt + 100000000 then fin s
  else
    let j := s.selected
    let (v, fresh) := if j = 7 then ((0 : Int), false) else match (s.src j).hist with
      | (t, _, o) :: _ => (o, decide (s.ref.peUsed < t))
      | [] => (0, false)
    let s := if 64 ≤ s.ref.pe.length then
        ((s.updRef fun r => { r with pe := r.pe.drop 1 }).addSat REF_PE_CNT.PE_DROPPED 0 1).raise EV.REF_PE_OVERFLOW
      else s
    let s := s.updRef fun r => { r with pe := r.pe ++ [⟨j, v, fresh, r.peSeq⟩], peSeq := (r.peSeq + 1) % 4096,
                                        peAt := s.now, peUsed := s.now }
    fin (s.wr REF_PE_CNT.COUNT 0 s.ref.pe.length)

/-- A read of REF_PE_LO (R382, R386) removes the oldest entry, whose upper half REF_PE_HI then shows; with the FIFO empty
both are 0. -/
def State.peRead (s : State) : State :=
  let s := match s.ref.pe with
    | [] => (s.setReg R.REF_PE_LO 0 0).setReg R.REF_PE_HI 0 0
    | e :: r =>
      let v := tc 48 e.val
      let s := s.updRef fun x => { x with pe := r }
      let s := s.setReg R.REF_PE_LO 0 (BitVec.ofNat 32 v)
      let s := s.setReg R.REF_PE_HI 0 (BitVec.ofNat 32 (v / 2 ^ 32 + 65536 * e.ref + (if e.fresh then 524288 else 0) +
        1048576 * e.seq))
      s.wr REF_PE_CNT.COUNT 0 r.length
  s.emit (.readData R.REF_PE_LO.base (s.reg R.REF_PE_LO 0))

/-- PE_READ. -/
def execPeRead (s : State) : Res := if s.gr.linkUp && s.railOk 4 then fin s.peRead else fin s

/-- SW_STALE (R382). -/
def execSwStale (s : State) : Res :=
  let t := s.com REF_LOOP_CFG.SW_TIMEOUT
  if s.swMode && t ≠ 0 && !s.ref.stale && s.tickRun && s.ref.wWritten + t * sT ≤ s.now then
    fin ((s.updRef fun r => { r with stale := true }).raise EV.REF_SW_STALE)
  else fin s

/-! ### Commands (R385) -/

def State.force (s : State) (f : Option Nat) : State :=
  ((s.updRef fun r => { r with forced := f }).wrB REF_STAT.FORCED 0 f.isSome).select

/-- CMD_REF_FORCE. -/
def execCmdRefForce (m : Fin 16) (x : Exec) (s : State) : Res :=
  fin (s.cmd m 0x701 x
    (fun s => s.headChecks m (· = 4) ++
      [chk ST_BAD_ARGUMENT (s.pay m 1 3 ≠ 0),
       chk ST_BAD_ARGUMENT (decide (6 < s.pay m 0 1) && s.pay m 0 1 ≠ 0xFF),
       chk ST_WRONG_MODE (!s.timeMode), chk followDetail s.follow])
    (fun s =>
      let r := s.pay m 0 1
      ((s.force (if r = 0xFF then none else some r)).mirrorCmd 0x701 [BitVec.ofNat 8 r]).complete m ST_OK))

/-- CMD_REF_GNSS_SEND (R359). -/
def execCmdRefGnssSend (m : Fin 16) (x : Exec) (s : State) : Res :=
  fin (s.cmd m 0x702 x
    (fun s => s.headChecks m (fun n => decide (4 ≤ n)) ++
      [chk ST_BAD_ARGUMENT (s.pay m 2 2 ≠ 0), chk ST_ZERO_INVALID (s.pay m 0 2 = 0),
       chk ST_BAD_LENGTH (s.pay m 0 2 ≠ s.plen m - 4), chk ST_BAD_ARGUMENT (decide (1024 < s.pay m 0 2)),
       chk ST_WRONG_MODE (!s.timeMode)])
    (fun s => (s.emit (.uart (s.payBytes m 4 (s.pay m 0 2)))).complete m ST_OK))

/-- CMD_REF_COUNTERS_READ: in ISOLATE only with HBM retained (R385). -/
def execCmdRefCountersRead (m : Fin 16) (x : Exec) (s : State) : Res :=
  fin (s.countersCmd m 0x703 x 1 6 16
    (fun s => s.tkMode || (s.mode = mISOLATE && s.bit PWR_MODE_STAT.HBM_RETAINED)) (fun j => refSlot j 0))

/-- CMD_REF_MODEL_CLEAR (R375). -/
def execCmdRefModelClear (m : Fin 16) (x : Exec) (s : State) : Res :=
  fin (s.cmd m 0x704 x (fun s => s.headChecks m (· = 0) ++ [chk ST_WRONG_MODE (!s.timeMode)])
    (fun s =>
      let s := s.accQ
      let s := s.updRef fun r => { r with recs := [], fitted := [], learned := 0, m0 := 0, ag := 0, tc := 0, m := 0 }
      let s := ((s.wr REF_STAT.MODEL_VALID 0 0).wr REF_STAT.LEARN_HOURS 0 0).setReg R.REF_HO_STAT 0 0
      s.select.complete m ST_OK))

/-! ### Commits of the REF_ group (R363, R366, R372, R383) -/

/-- Before its registers change: values that follow them are taken as of now. -/
def State.refPrepare (s : State) : State :=
  let s := s.accQ
  let w := s.wNow
  let s := s.updRef fun r => { r with wFrom := w, wAt := s.now }
  (List.range 8).foldl (fun s n => s.setRes n (s.resAt n s.now)) s

/-- After its registers have changed; `b` is the module before. -/
def State.refCommit (s b : State) : State :=
  let s := (List.range 7).foldl (fun s j =>
    let rank := s.com REF_SRC_CFG.RANK j
    let changed := (j < 4 && (s.com REF_IN_CFG.KIND j ≠ b.com REF_IN_CFG.KIND j ||
        s.com REF_IN_CFG.EDGE j ≠ b.com REF_IN_CFG.EDGE j || s.com REF_IN_CFG.TOD_SRC j ≠ b.com REF_IN_CFG.TOD_SRC j)) ||
      (j = 6 && s.com REF_PTP_CFG.DOMAIN ≠ b.com REF_PTP_CFG.DOMAIN)
    if rank = 0 then (if s.qst j = qDISABLED then s else ((s.setQ j qDISABLED).dropPairs j).updSrc j fun _ => {})
    else if b.com REF_SRC_CFG.RANK j = 0 then s.enterNoSignal j
    else if changed then
      ((s.enterNoSignal j).dropPairs j).updSrc j fun _ => {}
    else if j < 4 && s.comS REF_IN_DELAY.DELAY j ≠ b.comS REF_IN_DELAY.DELAY j then
      s.refJump j (psToQ (s.comS REF_IN_DELAY.DELAY j) - psToQ (b.comS REF_IN_DELAY.DELAY j))
    else s) s
  let s := if s.swMode ≠ b.swMode then
      let w := s.wNow
      let s := s.putW w
      if s.swMode then (s.updRef fun r => { r with wWritten := s.now, stale := false, peAt := s.now, peUsed := s.now }) else s.foldRamp.startLoop
    else s
  let s := (List.range 2).foldl (fun s k =>
    if s.ppsoTrain k ≠ b.ppsoTrain k then s.startPpso k true else s) s
  s.select.noteHold

end Sys2Proof.Machine
end

