-- ==== Sys2Proof/Machine/TimeCmd.lean ====
section
/-! DEFINITION. Sys2Proof/Machine/TimeCmd.lean: the commands of the time-base block, triggers and pulse outputs
(chapter 10, R373). -/
namespace Sys2Proof.Machine

/-- SLEW_RESIDUE_ZERO (R270, R309, R372): a residue has reached exactly 0. -/
def execSlewResidueZero (n : Fin 8) (s : State) : Res :=
  if s.tickRun && (s.dom n).res ≠ 0 && s.resAt n s.now = 0 then fin (s.setRes n 0) else fin s

/-- HOST_TIMEOUT_EXPIRY (R307, R520). -/
def execHostTimeoutExpiry (n : Fin 8) (s : State) : Res :=
  let t := s.com TBS_DOM_CFG.HOST_TIMEOUT n
  if s.tickRun && s.domSource n = srcHOST && t ≠ 0 && !s.bit TBS_DOM_STAT.FREE_RUN n &&
      (s.dom n).cmdAt + t * sT ≤ s.now then
    fin ((s.wr TBS_DOM_STAT.FREE_RUN n 1).raise EV.TBS_FREE_RUN n).notePtp
  else fin s

/-! ### Adjust and set (R308, R330, R520, R521) -/

/-- The effect of an adjust or a set on Dn: a new INC, then a step in 2^-16 ns. -/
def State.adjustDom (s : State) (n : Nat) (inc : Option Nat) (step : Option Int) (noSlew : Bool) : State :=
  let s := match inc with | some i => s.setInc n i | none => s
  match step with | some σ => s.stepDom n (σ * fracU) noSlew | none => s

/-- That effect as the mirror carries it (R478, log entry 33). -/
def adjustBytes (n : Nat) (inc : Option Nat) (step : Option Int) (noSlew : Bool) : List Byte :=
  [BitVec.ofNat 8 n, BitVec.ofNat 8 ((if inc.isSome then 1 else 0) + (if step.isSome then 2 else 0) + (if noSlew then 4 else 0))] ++
    leBytes 8 (inc.getD 0) ++ leBytes 8 (tc 64 (step.getD 0))

/-- A commit of the TBS_ group that applies in this tick (R115, R331). -/
def State.tbsDue (s : State) (c : Commit) : Bool :=
  testBit c.groups 5 && (match c.stage with
    | .checking => c.verdict.isNone && c.when_ = 0 && decide (c.askedAt + 2048 ≤ s.now)
    | .waiting => if c.when_ = 1 then decide (c.at_ ≤ s.tick) else c.bound.any (fun n => decide (n ≤ s.now)))

/-- SOURCE of Dn once the commits of this tick have applied: they apply before an adjust or set of the same tick (R308). -/
def State.sourceNow (s : State) (n : Nat) : Nat := match s.gr.commits.find? s.tbsDue with
  | some c => TBS_DOM_CFG.SOURCE.get (SMap.get (BitVec.ofNat 32 (R.TBS_DOM_CFG.reset n)) c.snap (R.TBS_DOM_CFG.at n))
  | none => s.domSource n

/-- ADJUST_APPLY (R308): the apply tick of a pending adjust or set. -/
def execAdjustApply (n : Fin 8) (s : State) : Res :=
  match (s.dom n).adj with
  | none => fin s
  | some a =>
    if s.now < a.at_ then fin s
    else
      let s := (s.updDom n fun d => { d with adj := none }).wr TBS_DOM_STAT.PENDING n 0
      let live := s.mst a.mbx = mRUNNING
      if s.sourceNow n ≠ srcHOST then fin (if live then s.complete a.mbx ST_BAD_ARGUMENT 1 else s)
      else
        let step := match a.set with
          | some t => some (t - tsQ (s.domAt n s.now))
          | none => a.step
        let s := s.adjustDom n a.inc step a.noSlew
        let s := s.mirrorCmd (if a.set.isSome then 0x602 else 0x601) (adjustBytes n a.inc step a.noSlew)
        fin (if live then s.complete a.mbx ST_OK 0 (if a.set.isSome then leBytes 8 (tc 64 (step.getD 0)) else []) else s)

/-- Apply tick of a command with AT: 0 asks for the first tick at least 64 ticks ahead (R308). -/
def State.applyAt (s : State) (a : Nat) : Nat := if a = 0 then s.now + 64 else s.tickAt a

/-- Schedules an adjust or set: HOST_TIMEOUT restarts and FREE_RUN clears (R520). -/
def State.schedule (s : State) (m n : Nat) (a : Adjust) : State :=
  let s := s.updDom n fun d => { d with adj := some a, cmdAt := s.now }
  let s := (s.wr TBS_DOM_STAT.PENDING n 1).wr TBS_DOM_STAT.FREE_RUN n 0
  s.running m (.adjust n) true

/-- Checks of R330 that CMD_TBS_ADJUST and CMD_TBS_SET share. -/
def State.adjustChecks (s : State) (n at_ : Nat) : List Check :=
  [chk ST_BAD_ARGUMENT (decide (2 ^ 32 < at_ - s.tick)), chk ST_WRONG_MODE (!s.timeMode), chk followDetail s.follow,
   chk ST_BUSY (s.dom n).adj.isSome, chk ST_TOO_LATE (at_ ≠ 0 && decide (at_ < s.tick + 64))]

/-- CMD_TBS_ADJUST (R308, R330). -/
def execCmdTbsAdjust (m : Fin 16) (x : Exec) (s : State) : Res :=
  fin (s.cmd m 0x601 x
    (fun s =>
      let n := s.pay m 0 1
      let fl := s.pay m 1 1
      let step := sgn 64 (s.pay m 24 8)
      s.headChecks m (· = 32) ++
      [chk ST_BAD_ARGUMENT (decide (8 ≤ fl) || s.pay m 2 6 ≠ 0 || s.pay m 22 2 ≠ 0),
       chk ST_ZERO_INVALID (fl % 4 = 0),
       chk ST_BAD_ARGUMENT (n = 0 || decide (7 < n)),
       chk ST_BAD_ARGUMENT (s.domSource n ≠ srcHOST),
       chk ST_BAD_ARGUMENT (testBit fl 0 && (decide (s.pay m 16 6 < 686851169976) || decide (687538364744 < s.pay m 16 6))),
       chk ST_BAD_ARGUMENT (testBit fl 1 && decide (tsQ (s.domAt n (s.applyAt (s.pay m 8 8))) + step < 0))] ++
      s.adjustChecks n (s.pay m 8 8))
    (fun s =>
      let n := s.pay m 0 1
      let fl := s.pay m 1 1
      s.schedule m n { mbx := m, at_ := s.applyAt (s.pay m 8 8),
                       inc := if testBit fl 0 then some (s.pay m 16 6) else none,
                       step := if testBit fl 1 then some (sgn 64 (s.pay m 24 8)) else none, noSlew := testBit fl 2 }))

/-- CMD_TBS_SET (R308, R330). -/
def execCmdTbsSet (m : Fin 16) (x : Exec) (s : State) : Res :=
  fin (s.cmd m 0x602 x
    (fun s =>
      let n := s.pay m 0 1
      let fl := s.pay m 1 1
      s.headChecks m (· = 32) ++
      [chk ST_BAD_ARGUMENT (fl ≠ 0 && fl ≠ 4 || s.pay m 2 10 ≠ 0),
       chk ST_BAD_ARGUMENT (n = 0 || decide (7 < n)),
       chk ST_BAD_ARGUMENT (decide (1000000000 ≤ s.pay m 26 4)),
       chk ST_BAD_ARGUMENT (s.domSource n ≠ srcHOST)] ++
      s.adjustChecks n (s.pay m 12 8))
    (fun s =>
      let n := s.pay m 0 1
      s.schedule m n { mbx := m, at_ := s.applyAt (s.pay m 12 8),
                       set := some (qOf (s.pay m 20 6) (s.pay m 26 4) (s.pay m 30 2)), noSlew := testBit (s.pay m 1 1) 2 }))

/-! ### Snapshot and stamp reports (R310, R318-R323) -/

/-- A write of TBS_SNAP_CTL (R310): a second GO of one tick joins the capture. -/
def State.snapshot (s : State) (data : Word) : State :=
  if !s.tickRun || TBS_SNAP_CTL.GO.get data = 0 || s.tb.snapAt = some s.now then s
  else
    let s := s.updTb fun b => { b with snapAt := some s.now }
    let s := (s.setReg R.TBS_SNAP_TICK_LO 0 (BitVec.ofNat 32 s.tick)).setReg R.TBS_SNAP_TICK_HI 0
      (BitVec.ofNat 32 (s.tick / 2 ^ 32))
    (List.range 9).foldl (fun s x =>
      let (sec, ns, fr) := tsParts (if x = 8 then s.outAt 8 s.now else s.domAt x s.now)
      let s := (s.setReg R.TBS_SNAP_NS x (BitVec.ofNat 32 ns)).setReg R.TBS_SNAP_SLO x (BitVec.ofNat 32 sec)
      s.setReg R.TBS_SNAP_SHI x (BitVec.ofNat 32 (sec / 2 ^ 32 + 65536 * fr))) s

/-- SNAPSHOT. -/
def execSnapshot (data : Word) (s : State) : Res := if s.gr.linkUp then fin (s.snapshot data) else fin s

/-- A host write of TBS_RPT_CONS of port `p` (R320, R323). -/
def State.consWrite (s : State) (p : Nat) (data : Word) : State :=
  let c := TBS_RPT_CONS.INDEX.get data
  let gap := (s.rd TBS_RPT_PROD.INDEX p + 65536 - c) % 65536
  if 64 < gap then s.reservedEnc (R.TBS_RPT_CONS.at p)
  else
    let old := match SMap.get (0, 0) s.tb.consOld p with
      | (t, i) => if t = s.now && s.now ≠ 0 then i else s.rd TBS_RPT_CONS.INDEX p
    let s := s.updTb fun b => { b with consOld := SMap.set (0, 0) b.consOld p (s.now, old) }
    (s.wr TBS_RPT_CONS.INDEX p c).setPend p (gap ≠ 0)

/-- RPT_CONS_WRITE (R320). -/
def execRptConsWrite (p : Fin 256) (data : Word) (s : State) : Res :=
  if s.gr.linkUp && s.railOk 4 then fin (s.consWrite p data) else fin s

/-- CMD_TBS_REPORT_BIND (R318, R321, R330). -/
def execCmdTbsReportBind (m : Fin 16) (x : Exec) (s : State) : Res :=
  fin (s.cmd m 0x603 x
    (fun s => s.headChecks m (· = 12) ++
      [chk ST_BAD_ARGUMENT (s.pay m 2 2 ≠ 0), chk ST_BAD_ARGUMENT (decide (255 < s.pay m 0 2) || s.pay m 4 8 % 64 ≠ 0),
       chk ST_WRONG_MODE (!s.fwdMode)])
    (fun s =>
      let p := s.pay m 0 2
      let a := s.pay m 4 8
      let s := s.updTb fun b => { b with rpt := SMap.set 0 b.rpt p a, consOld := SMap.set (0, 0) b.consOld p (0, 0) }
      let s := ((s.clearReg R.TBS_RPT_PROD p).clearReg R.TBS_RPT_CONS p).clearReg R.TBS_RPT_STAT p
      ((s.wrB TBS_RPT_STAT.BOUND p (a ≠ 0)).setPend p false).complete m ST_OK))

/-- CMD_TBS_COUNTERS_READ (R330). -/
def execCmdTbsCountersRead (m : Fin 16) (x : Exec) (s : State) : Res :=
  fin (s.countersCmd m 0x604 x 2 255 16 State.cntMode (fun p => stmpSlot p 0))

/-! ### Triggers and PPS outputs (R324-R328, R373) -/

/-- A time of a scale falls in this tick or before it. -/
def State.scaleDue (s : State) (scale : Nat) (t : Int) : Bool := decide (t < s.outAt scale s.now + s.outInc scale)

/-- The next rising edge of a train, ADJ early, and the fall of its pulse; a pulse still in progress is never cut short. -/
def Train.edge (t : Train) : Int := t.timeOf t.next - t.adj
def Train.fallAfter (t : Train) : Int × Nat :=
  let f := t.edge + t.width
  match t.fall with
  | some (g, n) => if n = t.scale && f < g then (g, n) else (f, t.scale)
  | none => (f, t.scale)

/-- TRIGGER_PULSE (R324, R327, R328): the next pulse of the train is due. -/
def execTriggerPulse (k : Fin 8) (s : State) : Res :=
  let t := SMap.at! s.tb.trigs k
  if !s.tickRun || !t.on || t.over || !s.scaleDue t.scale t.edge then fin s
  else if s.quiet then fin (s.setTrig k { t with next := t.next + 1, skipped := t.skipped + 1 } none)
  else
    let v := !t.invert
    let t' := { t with next := t.next + 1, fall := some t.fallAfter, high := v }
    let s := (s.setTrig k t' none).addWrap TBS_TRIG_STAT.ISSUED k (if t.scale = 9 then 0 else 1)
    fin (s.emit (.pin .trig k v))

/-- TRIGGER_PULSE_END (R324). -/
def execTriggerPulseEnd (k : Fin 8) (s : State) : Res :=
  let t := SMap.at! s.tb.trigs k
  match t.fall with
  | some (f, sc) =>
    if s.tickRun && s.scaleDue sc f then
      let v := s.trigRest k
      fin ((s.updTb fun b => { b with trigs := SMap.upd b.trigs k fun t => { t with fall := none, high := v } }).emit
        (.pin .trig k v))
    else fin s
  | none => fin s

/-- PPSO_PULSE (R373): a whole second of the output scale. -/
def execPpsoPulse (k : Fin 2) (s : State) : Res :=
  let t := SMap.at! s.ref.ppso k
  if !s.tickRun || !t.on || !s.scaleDue t.scale t.edge then fin s
  else if s.quiet then fin (s.setPpso k { t with next := t.next + 1, skipped := t.skipped + 1 } false)
  else
    fin ((s.setPpso k { t with next := t.next + 1, fall := some t.fallAfter } false).emit
      (.pin .ppso k true))

/-- PPSO_PULSE_END (R373). -/
def execPpsoPulseEnd (k : Fin 2) (s : State) : Res :=
  let t := SMap.at! s.ref.ppso k
  match t.fall with
  | some (f, sc) =>
    if s.tickRun && s.scaleDue sc f then
      fin ((s.updRef fun b => { b with ppso := SMap.upd b.ppso k fun t => { t with fall := none } }).emit
        (.pin .ppso k false))
    else fin s
  | none => fin s

/-! ### Commits of the TBS_ group (R305, R307, R309, R326) -/

/-- Before its registers change: every domain's value and rate as of now are its own. -/
def State.tbsPrepare (s : State) : State :=
  let s := s.noteDoms
  (List.range 8).foldl (fun s n =>
    let v := s.domAt n s.now
    let i := s.incOf n
    s.updDom n fun d => { d with val := v, at_ := s.now, inc := i }) s

/-- After its registers have changed; `b` is the module before. -/
def State.tbsCommit (s b : State) : State :=
  let s := (List.range 8).foldl (fun s n =>
    let src := s.domSource n
    let s := if src ≠ srcHOST then s.wr TBS_DOM_STAT.FREE_RUN n 0
      else if b.domSource n ≠ srcHOST then s.updDom n fun d => { d with cmdAt := s.now } else s
    let i := s.incOf n
    let s := (s.setReg R.TBS_DOM_INC_LO n (BitVec.ofNat 32 i)).setReg R.TBS_DOM_INC_HI n (BitVec.ofNat 32 (i / 2 ^ 32))
    if src = srcDERIVED && (b.domSource n ≠ srcDERIVED || s.domParent n ≠ b.domParent n || s.domOfs n ≠ b.domOfs n) then
      s.stepped n (s.domAt n s.now - b.domAt n s.now) false
    else s) s
  ((List.range 8).foldl (fun s k => if s.trigTrain k ≠ b.trigTrain k then s.startTrig k true else s) s).driveTrigs.notePtp

end Sys2Proof.Machine
end

