-- ==== Sys2Proof/Machine/TimeTransfer.lean ====
section
/-! DEFINITION. Sys2Proof/Machine/TimeTransfer.lean: echo pairs, the measurement set, line samples, asymmetry and hop
error (chapter 11), with the views of carriers and Sheaves that it shares with the Sheaf line. Times are in 2^-16 ns,
delays of the fibre in ps. -/
namespace Sys2Proof.Machine

/-! ### Carriers and Sheaves (R164, R180, R189) -/

/-- State codes of R189. -/
def cDISABLED : Nat := 0x0
def cPOWERING : Nat := 0x1
def cWAIT_SIGNAL : Nat := 0x2
def cADAPT : Nat := 0x3
def cLOCK : Nat := 0x4
def cHANDSHAKE : Nat := 0x5
def cSTANDBY : Nat := 0x6
def cACTIVE : Nat := 0x7
def cDRAINING : Nat := 0x8
def cPARKED : Nat := 0x9
def cFAILED : Nat := 0xA
def cHELD : Nat := 0xB

def State.cst (s : State) (c : Nat) : Nat := s.rd SHF_CAR_STAT.STATE c
def State.carSheaf (s : State) (c : Nat) : Nat := s.com SHF_CAR_CFG.SHEAF c
/-- Enabled carriers of Sheaf `h` in ascending order, and those that are ACTIVE. -/
def State.carsOf (s : State) (h : Nat) : List Nat :=
  (List.range 128).filter (fun c => s.comB SHF_CAR_CFG.ENABLE c && s.carSheaf c = h)
def State.activeOf (s : State) (h : Nat) : List Nat := (s.carsOf h).filter (fun c => s.cst c = cACTIVE)

/-- Skew of carrier `c` (R180), in 2^-16 ns. -/
def State.skewQ (s : State) (c : Nat) : Int :=
  let us := ((s.activeOf (s.carSheaf c)).filter (fun d => (s.car d).uValid)).map (fun d => (s.car d).u)
  (s.car c).u - us.foldl min (s.car c).u

/-! ### Objects of time transfer -/

def State.ttCar (s : State) (c : Nat) : TtCar := SMap.at! s.tt.cars c
def State.updTtCar (s : State) (c : Nat) (f : TtCar → TtCar) : State :=
  s.updTt fun t => { t with cars := SMap.upd t.cars c f }
def State.ttSheaf (s : State) (h : Nat) : TtSheaf := SMap.at! s.tt.sheaves h
def State.updTtSheaf (s : State) (h : Nat) (f : TtSheaf → TtSheaf) : State :=
  s.updTt fun t => { t with sheaves := SMap.upd t.sheaves h f }

/-- METHOD codes of R340. -/
def ttOFF : Nat := 0
def ttCONST : Nat := 1
def ttTWO_COLOUR : Nat := 2
def ttROUND_TRIP : Nat := 3

def State.ttMethod (s : State) (h : Nat) : Nat := s.com SHF_TT_CFG.METHOD h
/-- The line reference, 4 or 5, that Sheaf `h` delivers (R338). -/
def State.lineRef (s : State) (h : Nat) : Option Nat :=
  let l := s.com SHF_TT_CFG.LINE_REF h
  if l = 1 || l = 2 then some (3 + l) else none
/-- Carriers of Sheaf `h` in the measurement set (R335). -/
def State.measSet (s : State) (h : Nat) : List Nat := (s.carsOf h).filter (fun c => (s.ttCar c).inSet)
/-- A CP carrier under ROUND_TRIP (R345). -/
def State.isCp (s : State) (c : Nat) : Bool :=
  s.comB SHF_CAR_CFG.CP c && s.ttMethod (s.carSheaf c) = ttROUND_TRIP

/-! ### The fibre model (R341) -/

/-- τ in ps/km of Sheaf `h`'s fibre at the wavelength of frequency `f` MHz. -/
def State.tau (s : State) (h : Nat) (f : Nat) : Rat :=
  let l : Rat := 299792458000 / (f : Rat) - 1550
  let d : Rat := (s.comS SHF_TT_FIB_DISP.D h : Rat) / 1000
  let k : Rat := (s.comS SHF_TT_FIB_DISP.S h : Rat) / 10000
  (s.com SHF_TT_FIB_TAU.TAU0 h : Rat) + d * l + k / 2 * l * l

/-- CENTRE_FREQ of this node's direction and of the peer's, in MHz; 0 gives no wavelength. -/
def State.freqOut (s : State) (c : Nat) : Nat := s.com SHF_CAR_FREQ.CENTRE_FREQ c
def State.freqIn (s : State) (c : Nat) : Nat := (s.car c).rx.freq
def State.tauOut (s : State) (c : Nat) : Rat := s.tau (s.carSheaf c) (s.freqOut c)
def State.tauIn (s : State) (c : Nat) : Rat := s.tau (s.carSheaf c) (s.freqIn c)

/-- Whether carrier `c` may be in the measurement set, its time in a measuring state aside (R335, R345). -/
def State.measOk (s : State) (c : Nat) : Bool :=
  6 ≤ s.cst c && s.cst c ≤ 8 && !s.isCp c &&
  (s.ttMethod (s.carSheaf c) ≠ ttROUND_TRIP ||
    (if s.comB SHF_TT_CFG.CP_FIBRE (s.carSheaf c) then s.freqIn c ≠ 0 else s.freqOut c ≠ 0))

/-- A CP carrier that R345 can use. -/
def State.cpUsable (s : State) (c : Nat) : Bool :=
  s.isCp c && 6 ≤ s.cst c && s.cst c ≤ 8 && (s.ttCar c).rttValid && (s.car c).rx.cp && s.freqOut c ≠ 0 && s.freqIn c ≠ 0

/-! ### The measurement set (R335, R339, R346) -/

def State.noteMeas (s : State) (h : Nat) : State := s.wr SHF_TT_STAT.MEAS_CNT h (s.measSet h).length

/-- F_CURRENT, and NO_ASYM with it; F_READY when it rises (R346). -/
def State.setCurrent (s : State) (h : Nat) (b : Bool) : State :=
  let was := s.bit SHF_TT_STAT.F_CURRENT h
  let s := (s.wrB SHF_TT_STAT.F_CURRENT h b).wrB SHF_TT_STAT.NO_ASYM h (!b && 2 ≤ s.ttMethod h)
  if b && !was then s.raise EV.SHF_TT_F_READY h else s

/-- Carrier `c` leaves the measurement set; its partial sums are discarded. An empty set loses the line reference. -/
def State.leaveSet (s : State) (c : Nat) : State :=
  if !(s.ttCar c).inSet then s
  else
    let h := s.carSheaf c
    let s := s.updTtCar c fun t => { t with inSet := false, whole := false, sumX := 0, sumT := 0, pairs := 0 }
    let s := s.noteMeas h
    if !(s.measSet h).isEmpty then s
    else
      let s := s.updTtSheaf h fun t => { t with estBad := true }
      let s := if 2 ≤ s.ttMethod h then s.setCurrent h false else s
      match s.lineRef h with
      | some j => (s.raise EV.SHF_TT_LINE_LOST h).noSignal j
      | none => s

/-- Follows a change of carrier `c`'s state: the 100 ms of R335 start, or the carrier leaves the set. -/
def State.ttNote (s : State) (c : Nat) : State :=
  if 6 ≤ s.cst c && s.cst c ≤ 8 then
    if (s.ttCar c).since.isSome then s else s.updTtCar c fun t => { t with since := some s.now }
  else (s.leaveSet c).updTtCar c fun t => { t with since := none, rttValid := false, mismatch := false }

/-- MEAS_SET_ENTRY (R335). -/
def execMeasSetEntry (c : Fin 128) (s : State) : Res :=
  match (s.ttCar c).since with
  | some t =>
    if t + 100 * msT ≤ s.now && s.measOk c && !(s.ttCar c).inSet then
      let s := s.updTtCar c fun t => { t with inSet := true, whole := false, sumX := 0, sumT := 0, pairs := 0 }
      fin (s.noteMeas (s.carSheaf c))
    else fin s
  | none => fin s

/-! ### The rate y (R334) -/

/-- y as a quotient, in 2^-16 ns a tick: the least-squares slope of 64 samples of x that span at least 1 s, else 0. -/
def slopeY (l : List (Nat × Int)) : Int × Int :=
  match l with
  | [] => (0, 1)
  | (t0, x0) :: _ =>
    let n : Int := l.length
    let last := (l.getLast?.getD (t0, x0)).1
    if l.length < 64 || t0 - last < sT then (0, 1)
    else
      let sums := l.foldl (fun (a : Int × Int × Int × Int) e =>
        let t : Int := (e.1 : Int) - t0
        let x := e.2 - x0
        (a.1 + t, a.2.1 + x, a.2.2.1 + t * t, a.2.2.2 + t * x)) (0, 0, 0, 0)
      let d := n * sums.2.2.1 - sums.1 * sums.1
      if d = 0 then (0, 1) else (n * sums.2.2.2 - sums.1 * sums.2.1, d)

/-! ### The estimators (R340-R345) -/

/-- The pair of R342: the two carriers furthest apart by their own frequency, ties to the lower numbers, at least 2 THz. -/
def State.colourPair (s : State) (h : Nat) : Option (Nat × Nat) :=
  let l := (s.measSet h).filter (fun c => s.freqOut c ≠ 0 && s.freqIn c ≠ 0)
  let gap (p : Nat × Nat) : Nat := max (s.freqOut p.1) (s.freqOut p.2) - min (s.freqOut p.1) (s.freqOut p.2)
  let ps := l.flatMap (fun a => (l.filter (fun b => a < b)).map (fun b => (a, b)))
  match ps.foldl (fun (b : Option (Nat × Nat)) p => match b with
      | none => some p
      | some q => if gap q < gap p then some p else some q) none with
  | some p => if 2000000 ≤ gap p then some p else none
  | none => none

/-- ps of an amount in 2^-16 ns, exactly. -/
def qPs (x : Int) : Rat := (x : Rat) * 1000 / 65536

/-- Ê of carriers `a` and `b` in ps (R342), unless the fibre model makes it a division by 0. -/
def State.colourEst (s : State) (h a b : Nat) : Option Int :=
  let din := qPs ((s.car a).u - (s.car b).u)
  let drtt := qPs ((s.ttCar a).rtt - (s.ttCar b).rtt)
  let tin := s.tauIn a - s.tauIn b
  let tout := s.tauOut a - s.tauOut b
  if tin = 0 || tout = 0 then none
  else some ((s.com SHF_TT_FIB_TAU.TAU0 h : Rat) * (din / tin - (drtt - din) / tout)).floor

def addEst (e : Nat × Int × Int) (v : Int) : Nat × Int × Int := (e.1 + 1, e.2.1 + v, e.2.2 + v * v)
def State.putEst (s : State) (h k : Nat) (v : Int) : State :=
  s.updTtSheaf h fun t => { t with est := SMap.set (0, 0, 0) t.est k (addEst (SMap.get (0, 0, 0) t.est k) v) }

/-- R(n) of R345, the round trip in the fibre, in ps. -/
def State.fibreRtt (s : State) (n : Nat) : Rat := qPs (s.ttCar n).rtt - (s.com SHF_TT_NFRT.NFRT n : Rat)

/-- Length of the shared fibre in km (R345) that the present round trips give, and the mean of the CP carriers' τ. -/
def State.cpLength (s : State) (cps : List Nat) : Rat :=
  (cps.foldl (fun a k => a + s.fibreRtt k / (s.tauOut k + s.tauIn k)) 0) / (cps.length : Rat)
def State.cpTau (s : State) (cps : List Nat) : Rat :=
  (cps.foldl (fun a k => a + (s.tauOut k + s.tauIn k) / 2) 0) / (cps.length : Rat)

/-- The direction of carrier `n` whose wavelength its row of R345 needs: its frequency and its τ. -/
def State.rowFreq (s : State) (n : Nat) : Nat :=
  if s.comB SHF_TT_CFG.CP_FIBRE (s.carSheaf n) then s.freqIn n else s.freqOut n
def State.rowTau (s : State) (n : Nat) : Rat :=
  if s.comB SHF_TT_CFG.CP_FIBRE (s.carSheaf n) then s.tauIn n else s.tauOut n

/-- F(n) of R345 in ps, of a length `l` and a round trip `r` in the fibre. -/
def State.roundTripF (s : State) (n : Nat) (l r : Rat) : Rat :=
  let d := 2 * l * s.rowTau n
  if s.comB SHF_TT_CFG.CP_FIBRE (s.carSheaf n) then d - r else r - d

/-- The mean ℓ of the last complete TC window, in km. -/
def kmOf (mm : Int) : Rat := (mm : Rat) / 1000000

/-- F(c) in ps (R343, R345): a carrier that the last complete TC window did not measure takes it from that window's ℓ and
its own round trip. -/
def State.asymF (s : State) (c : Nat) : Int :=
  let t := s.ttSheaf (s.carSheaf c)
  if s.ttMethod (s.carSheaf c) = ttTWO_COLOUR then SMap.get 0 t.f 128
  else if s.ttMethod (s.carSheaf c) = ttROUND_TRIP then
    match t.f.find? (fun e => e.1 = c), t.ell with
    | some e, _ => e.2
    | none, some l => if (s.ttCar c).rttValid then (s.roundTripF c (kmOf l) (s.fibreRtt c)).floor else 0
    | none, none => 0
  else 0

/-- An echo pair of carrier `c` enters the estimator of its Sheaf. -/
def State.estimate (s : State) (c : Nat) : State :=
  let h := s.carSheaf c
  if s.ttMethod h = ttTWO_COLOUR then
    match s.colourPair h with
    | none => s.updTtSheaf h fun t => { t with estBad := true }
    | some (a, b) =>
      if (c = a || c = b) && (s.ttCar a).rttValid && (s.ttCar b).rttValid then
        match s.colourEst h a b with
        | some v => s.putEst h 128 v
        | none => { s.putEst h 128 (Config.twoColour s.nextFree) with nextFree := s.nextFree + 1 }
      else s
  else if s.ttMethod h = ttROUND_TRIP then
    let cps := (s.carsOf h).filter s.cpUsable
    if cps.isEmpty then s
    else
      let s := s.updTtSheaf h fun t => { t with cpSeen := true }
      let s := (s.putEst h 129 (s.cpLength cps * 1000000).floor).putEst h 130 (s.cpTau cps * 1000000).floor
      if (s.ttCar c).inSet then s.putEst h c (s.fibreRtt c).floor else s
  else s

/-! ### Echo pairs (R332, R333) -/

/-- CP_MISMATCH of a CP carrier, when its latest grain shows one (R345). -/
def State.noteCp (s : State) (c : Nat) : State :=
  if !s.isCp c then s
  else
    let bad := !(s.car c).rx.cp || s.freqOut c = 0 || s.freqIn c = 0
    let was := (s.ttCar c).mismatch
    let s := s.updTtCar c fun t => { t with mismatch := bad }
    if bad && !was then s.raise EV.SHF_TT_CP_MISMATCH (s.carSheaf c) else s

/-- A valid timing grain of carrier `c`, echo pair or not: CP_MISMATCH, and the loss of a frequency that R340 needs. -/
def State.ttGrain (s : State) (c : Nat) : State :=
  let s := s.noteCp c
  if (s.ttCar c).inSet && !s.measOk c then s.leaveSet c else s

/-- The four stamps of an echo pair of carrier `c`, t4 taken at `rx`. Of A(c), F(c) enters with the line sample (R347). -/
def State.echoPair (s : State) (c : Nat) (t1 t2 t3 t4 : Int) (rx : Inst) : State :=
  let h := s.carSheaf c
  let p := diff64 (t4 - t3)
  let q := diff64 (t2 - t1)
  let rtt := diff64 (p + q)
  let s := s.wr SHF_CAR_RTT.VALUE c (satU 32 (rtt / 4096))
  let s := s.updTtCar c fun t => { t with rtt := rtt, rttValid := true }
  let s := if s.ttMethod h = ttOFF then s else s.count (ttSlot h 2)
  let s := if (s.ttCar c).inSet then
      let (yn, yd) := slopeY (s.ttSheaf h).samples
      let x := diff64 (diff64 (p - q - psToQ (s.comS SHF_TT_ASYM.ASYM c)) / 2 + yn * diff64 (t3 - t2 + p) / (yd * 81920))
      s.updTtCar c fun t => { t with sumX := t.sumX + x, sumT := t.sumT + (1024 * rx.tick + rx.sub), pairs := t.pairs + 1 }
    else s
  s.estimate c

/-! ### Line samples (R336-R338, R349, R351) -/

/-- Lower median of a non-empty list. -/
def medianOf (l : List Int) : Int := (l.insertionSort (· ≤ ·)).getD ((l.length - 1) / 2) 0
def meanOf (l : List Int) : Int := (l.foldl (· + ·) 0) / (l.length : Int)

/-- HOP_TE of Sheaf `h` in ps (R349), rounded up. -/
def State.hopTe (s : State) (h spread : Nat) : Nat :=
  let au := s.com SHF_TT_LIM.ASYM_UNC h
  if au = 0xFFFF then 0xFFFFFFFF else min 0xFFFFFFFF (12 + (au + (s.ttSheaf h).fUnc + spread + 1) / 2)

/-- Hands the sample of Sheaf `h` to reference selection (R338, R347, R360). -/
def State.giveLine (s : State) (h j : Nat) (ofs : Int) (rx : TimingRx) (hop : Nat) (hold : Bool) : State :=
  let s := s.updRef fun r => { r with line := SMap.set (0, 0, 0, 0, 0) r.line j (rx.teEst, rx.steps, rx.cls, rx.tflags, hop) }
  let s := if hold then s.lineHeld j
    else
      let s := match (s.ttSheaf h).jump with
        | some σ => (s.updTtSheaf h fun t => { t with jump := none }).refJump j σ
        | none => s
      s.lineOffset j (s.com SHF_TT_CFG.AVG_MS h * msT) ofs
  s.noteTe

/-- The sample from the means of the carriers that contributed, in carrier order. -/
def State.lineSample (s : State) (h tEnd : Nat) (xs : List (Nat × Int)) : State :=
  let lim := psToQ (s.com SHF_TT_LIM.OUTLIER_PS h)
  let med := medianOf (xs.map (·.2))
  let keep := if 3 ≤ xs.length && 0 < lim then xs.filter (fun e => decide (((e.2 - med).natAbs : Int) ≤ lim)) else xs
  let out := (xs.filter (fun e => !keep.contains e)).map (·.1)
  let s := (s.count (ttSlot h 0)).count (ttSlot h 4) out.length
  let s := s.each (xs.map (·.1)) fun s c =>
    let n := if out.contains c then (s.ttCar c).excl + 1 else 0
    let s := s.updTtCar c fun t => { t with outlier := out.contains c, excl := n }
    if n = 16 then s.raise EV.SHF_TT_OUTLIER h else s
  let vals := keep.map (·.2)
  let x := meanOf vals
  let v0 := vals.headD 0
  let spread := (qToPs (vals.foldl max v0 - vals.foldl min v0)).toNat
  let ofs := -x
  let rx := (s.car (xs.headD (0, 0)).1).rx
  let s := s.updTtSheaf h fun t => { t with samples := (tEnd, x) :: t.samples.take 63 }
  let hop := s.hopTe h spread
  let s := (s.setReg R.SHF_TT_OFS_LO h (BitVec.ofNat 32 (tc 64 ofs))).setReg R.SHF_TT_OFS_HI h
    (BitVec.ofNat 32 (tc 64 ofs / 2 ^ 32))
  let s := (s.wr SHF_TT_UNC.SPREAD h (min 65535 spread)).wr SHF_TT_HOP_TE.HOP_TE h hop
  let s := (s.wr SHF_TT_STAT.PEER_STEPS h rx.steps).wr SHF_TT_STAT.PEER_CLASS h rx.cls
  let s := (s.wr SHF_TT_STAT.PEER_TFLAGS h rx.tflags).wr SHF_TT_STAT.SAMPLE_OK h 1
  let steps : Bool := s.com TBS_TE_CFG.MAX_STEPS < rx.steps + 1
  let s := s.wrB SHF_TT_STAT.STEPS_OVER h steps
  let s := if steps then s.raise EV.SHF_TT_STEPS_OVER h else s
  let lim := s.com TBS_TE_CFG.TE_LIMIT
  match s.lineRef h with
  | some j =>
    let s := if lim ≠ 0 && lim < rx.teEst + hop then s.raise EV.SHF_TT_BUDGET h else s
    s.giveLine h j ofs rx hop (steps || s.bit SHF_TT_STAT.NO_ASYM h)
  | none => s

/-! ### The estimator's windows (R342-R347) -/

/-- Integer square root of a number below 2^128. -/
def isqrt (n : Nat) : Nat :=
  (List.range 64).foldr (fun i r => if (r + 2 ^ i) * (r + 2 ^ i) ≤ n then r + 2 ^ i else r) 0

/-- Mean, and standard error of the mean, of a window's values. -/
def estMean (e : Nat × Int × Int) : Int := if e.1 = 0 then 0 else e.2.1 / (e.1 : Int)
def estSigma (e : Nat × Int × Int) : Nat :=
  if e.1 < 2 then 0 else isqrt ((e.2.2 - e.2.1 * e.2.1 / (e.1 : Int)).toNat / (e.1 * (e.1 - 1)))

/-- F at 1,550 nm in ps under ROUND_TRIP, of carrier `n` with round trip `r` in the fibre (log entry 71). -/
def State.f1550 (s : State) (n : Nat) (l r : Rat) : Int :=
  let h := s.carSheaf n
  let t : Rat := s.com SHF_TT_FIB_TAU.TAU0 h
  if s.comB SHF_TT_CFG.CP_FIBRE h then (t * (l - (r - l * s.tauIn n) / s.tauOut n)).floor
  else (t * ((r - l * s.tauOut n) / s.tauIn n - l)).floor

/-- The dispersion term of R345 before DISP_UNC: max |2ℓ(τ(λn) - τ̄k)| in ps. -/
def State.dispTerm (s : State) (l bar : Rat) (ns : List Nat) : Rat :=
  ns.foldl (fun a n => max a |2 * l * (s.rowTau n - bar)|) 0

/-- How F has changed from one complete window to the next: the largest change of a carrier's F, and the mean of those of the
carriers in both (R347). -/
def fJump (old new : SMap Int) : Nat × Int :=
  let ds := new.filterMap (fun e => (old.find? (fun o => o.1 = e.1)).map (fun o => e.2 - o.2))
  (ds.foldl (fun m d => max m d.natAbs) 0, if ds.isEmpty then 0 else ds.foldl (· + ·) 0 / (ds.length : Int))

/-- A complete TC window's result: F by carrier, ℓ, F at 1,550 nm and F_UNC. -/
def State.takeF (s : State) (h : Nat) (f : SMap Int) (ell : Option Int) (ref_ : Int) (unc : Nat) : State :=
  let (most, mean) := fJump (s.ttSheaf h).f f
  let s := (s.updTtSheaf h fun t => { t with f := f, ell := ell, fUnc := unc }).count (ttSlot h 5)
  let s := (s.wrS SHF_TT_F.F h (satS 32 ref_)).wr SHF_TT_UNC.F_UNC h (min 65535 unc)
  let s := if 4 * unc + 20 < most then
      let s := (s.raise EV.SHF_TT_ASYM_JUMP h).count (ttSlot h 6)
      s.updTtSheaf h fun t => { t with jump := some (t.jump.getD 0 + psToQ mean / 2) }
    else s
  s.setCurrent h true

/-- The TC window of Sheaf `h` ends with this tick (R343, R345, R346). -/
def State.tcWindow (s : State) (h : Nat) : State :=
  let len := s.com SHF_TT_CFG.TC_WINDOW h * sT
  let t := s.ttSheaf h
  let m := s.ttMethod h
  if m < 2 || !s.fwdMode || s.now + 1 < t.tcAt + len || len = 0 then s
  else
    let empty := (s.measSet h).isEmpty
    let s := s.updTtSheaf h fun t => { t with
      tcAt := t.tcAt + (s.now + 1 - t.tcAt) / len * len, est := [], estBad := empty, cpSeen := false }
    let du : Nat := s.com SHF_TT_FIB_TAU.DISP_UNC h
    if m = ttTWO_COLOUR then
      if t.estBad || t.est.isEmpty then s
      else
        let e := SMap.get (0, 0, 0) t.est 128
        let mean := estMean e
        match t.anchor with
        | none => (s.updTtSheaf h fun t => { t with anchor := some mean }).takeF h [(128, 0)] none 0 (2 * estSigma e)
        | some a =>
          s.takeF h [(128, mean - a)] none (mean - a) (du * (mean - a).natAbs / 1000 + 2 * estSigma e)
    else
      let s := s.wrB SHF_TT_STAT.CP_SEEN h t.cpSeen
      if !t.cpSeen then
        let s := s.updTtSheaf h fun x => { x with cpMiss := x.cpMiss + 1 }
        if 4 ≤ t.cpMiss + 1 then s.setCurrent h false else s
      else
        let s := s.updTtSheaf h fun x => { x with cpMiss := 0 }
        let per := t.est.filter (fun e => decide (e.1 < 128) && (s.ttCar e.1).inSet && s.rowFreq e.1 ≠ 0)
        if t.estBad || per.isEmpty then s
        else
          let mm := estMean (SMap.get (0, 0, 0) t.est 129)
          let bar := (estMean (SMap.get (0, 0, 0) t.est 130) : Rat) / 1000000
          let σ := per.foldl (fun a e => max a (estSigma e.2)) 0
          let unc := ((du : Rat) / 1000 * s.dispTerm (kmOf mm) bar (per.map (·.1))).ceil.toNat + 2 * σ
          let f := per.map (fun e => (e.1, (s.roundTripF e.1 (kmOf mm) (estMean e.2)).floor))
          s.takeF h f (some mm) (match per.find? (fun e => s.freqOut e.1 ≠ 0 && s.freqIn e.1 ≠ 0) with
            | some e => s.f1550 e.1 (kmOf mm) (estMean e.2)
            | none => (f.headD (0, 0)).2) unc

/-- TC_WINDOW_END. -/
def execTcWindowEnd (h : Fin 32) (s : State) : Res := fin (s.tcWindow h)

/-! ### The end of a line window (R336, R337) -/

/-- x̄ of carrier `c` at tick `last` (R333, R336): the mean of x over its echo pairs, moved there from their mean t4 by y,
with F(c). -/
def State.meanX (s : State) (h c last : Nat) : Int :=
  let t := s.ttCar c
  let n : Int := t.pairs
  let (yn, yd) := slopeY (s.ttSheaf h).samples
  diff64 ((t.sumX + yn * (1024 * n * last - t.sumT) / (1024 * yd)) / n - psToQ (s.asymF c) / 2)

/-- The window of Sheaf `h` that ends with this tick gives its line sample, or none, and the reference is
present no longer (R360). A TC window that ends in the same tick gives its F
first (R347). -/
def State.lineWindow (s : State) (h : Nat) : State :=
  let len := s.com SHF_TT_CFG.AVG_MS h * msT
  let t0 := (s.ttSheaf h).winAt
  if s.ttMethod h = ttOFF || !s.fwdMode || s.now + 1 < t0 + len || len = 0 then s
  else
    let s := if s.pending.any (fun i => match i with | .tcWindowEnd g => g.val = h | _ => false) then s.tcWindow h else s
    let tEnd := t0 + (s.now + 1 - t0) / len * len
    let cars := s.carsOf h
    let xs := (cars.filter (fun c => (s.ttCar c).inSet && (s.ttCar c).whole && (s.ttCar c).pairs ≠ 0)).map (fun c =>
      (c, s.meanX h c (tEnd - 1)))
    let s := s.each cars fun s c =>
      let x := xs.find? (fun e => e.1 = c)
      s.updTtCar c fun t => { t with
        lastX := match x with | some e => e.2 | none => 0, lastPairs := if x.isSome then t.pairs else 0,
        whole := t.inSet, sumX := 0, sumT := 0, pairs := 0, outlier := false, excl := if x.isSome then t.excl else 0 }
    let s := s.updTtSheaf h fun t => { t with winAt := tEnd }
    if xs.isEmpty then
      let s := (s.count (ttSlot h 1)).wr SHF_TT_STAT.SAMPLE_OK h 0
      match s.lineRef h with
      | some j => s.noSignal j
      | none => s
    else s.lineSample h (tEnd - 1) xs

/-- TT_WINDOW_END (R336, R337): the window of AVG_MS milliseconds ends with this tick. -/
def execTtWindowEnd (h : Fin 32) (s : State) : Res := fin (s.lineWindow h)

/-! ### Commits (R336, R343, R346, R348) -/

/-- Whether a commit has changed the time-transfer registers of Sheaf `h`, or CP or CENTRE_FREQ of its carriers; `b` is the
module before. -/
def State.ttChanged (s b : State) (h : Nat) : Bool :=
  [R.SHF_TT_CFG, R.SHF_TT_LIM, R.SHF_TT_FIB_TAU, R.SHF_TT_FIB_DISP].any (fun r => s.comReg r h ≠ b.comReg r h) ||
  (s.carsOf h).any (fun c => s.comReg R.SHF_TT_ASYM c ≠ b.comReg R.SHF_TT_ASYM c ||
    s.comReg R.SHF_TT_NFRT c ≠ b.comReg R.SHF_TT_NFRT c || s.comReg R.SHF_CAR_FREQ c ≠ b.comReg R.SHF_CAR_FREQ c ||
    s.com SHF_CAR_CFG.CP c ≠ b.com SHF_CAR_CFG.CP c)

def State.asymChanged (s b : State) (h : Nat) : Bool :=
  (s.carsOf h).any (fun c => s.comReg R.SHF_TT_ASYM c ≠ b.comReg R.SHF_TT_ASYM c)

/-- A Sheaf's windows and estimator start anew at an apply tick. -/
def State.ttRestart (s b : State) (h : Nat) : State :=
  let m := s.ttMethod h
  let re := m ≠ b.ttMethod h || (m = ttTWO_COLOUR && s.asymChanged b h)
  let s := s.each (s.carsOf h) fun s c =>
    let s := if (s.ttCar c).inSet && !s.measOk c then s.leaveSet c else s
    s.updTtCar c fun t => { t with whole := t.inSet, sumX := 0, sumT := 0, pairs := 0, mismatch := false }
  let s := s.updTtSheaf h fun t =>
    if re then { winAt := s.now, tcAt := s.now, samples := t.samples, estBad := (s.measSet h).isEmpty }
    else { t with winAt := s.now, tcAt := s.now, est := [], estBad := (s.measSet h).isEmpty, cpSeen := false, cpMiss := 0,
                  jump := none }
  let s := if re then (s.wr SHF_TT_F.F h 0).wr SHF_TT_UNC.F_UNC h 0 else s
  s.setCurrent h (m = ttCONST)

/-- A commit of the SHF_ group at its apply tick, as time transfer sees it. -/
def State.ttCommit (s b : State) : State :=
  let s := (List.range 32).foldl (fun s h => if s.ttChanged b h then s.ttRestart b h else s) s
  [4, 5].foldl (fun s j =>
    if (List.range 32).any (fun h => s.lineRef h = some j && s.ttMethod h ≠ ttOFF) then s else s.noSignal j) s

/-! ### Commands (R355) -/

/-- A record of CMD_SHF_TT_CARRIERS. -/
def State.ttRecord (s : State) (c : Nat) : List Byte :=
  let t := s.ttCar c
  let fl := (if t.inSet then 1 else 0) + (if s.cpUsable c then 2 else 0) + (if t.outlier then 4 else 0) +
    (if !t.inSet && t.since.any (fun x => decide (s.now < x + 100 * msT)) then 8 else 0)
  [BitVec.ofNat 8 c, BitVec.ofNat 8 fl, 0, 0] ++ leBytes 4 t.lastPairs ++ leBytes 8 (tc 64 t.lastX) ++
    leBytes 8 (tc 64 t.rtt) ++ leBytes 8 (tc 64 (s.skewQ c))

/-- CMD_SHF_TT_CARRIERS. -/
def execCmdShfTtCarriers (m : Fin 16) (x : Exec) (s : State) : Res :=
  fin (s.cmd m 0x203 x
    (fun s => s.headChecks m (· = 4) ++
      [chk ST_BAD_ARGUMENT (s.pay m 1 3 ≠ 0), chk ST_BAD_ARGUMENT (decide (31 < s.pay m 0 1)), chk ST_WRONG_MODE (!s.fwdMode)])
    (fun s => s.complete m ST_OK 0 (leBytes 8 s.tick ++ (s.carsOf (s.pay m 0 1)).flatMap s.ttRecord)))

/-- CMD_SHF_TT_COUNTERS_READ. -/
def execCmdShfTtCountersRead (m : Fin 16) (x : Exec) (s : State) : Res :=
  fin (s.countersCmd m 0x204 x 1 31 16 State.fwdMode (fun h => ttSlot h 0))

end Sys2Proof.Machine
end

