-- ==== Sys2Proof/Machine/Almanac.lean ====
section
/-! DEFINITION. Sys2Proof/Machine/Almanac.lean: cycle and slots, windows and banks, binding, the end of a window, the
bank check and the realignment (chapter 9). A slot is counted here from the epoch of A: slot j of cycle n is
4,096 n + j. -/
namespace Sys2Proof.Machine

/-! ### Slots (R271) -/

/-- 62.5 ns in 2^-40 ns. -/
def slotU : Int := 68719476736000

/-- Number of the slot that contains the tick of model time `t`. -/
def State.absSlot (s : State) (t : Nat) : Nat := (s.swA t / slotU).toNat

/-- The first slot whose first tick is at or after now. -/
def State.slotFrom (s : State) : Nat := if s.now = 0 then s.absSlot 0 else s.absSlot (s.now - 1) + 1

/-- Ticks from now to the first tick of slot `x`. -/
def State.ticksTo (s : State) (x : Nat) : Nat :=
  let d := (x : Int) * slotU - s.swA s.now
  let k := (d / max 1 (s.swInc 0 : Int)).toNat
  ([k - 1, k, k + 1, k + 2].find? (fun k => decide ((x : Int) * slotU ≤ s.swA (s.now + k)))).getD k

/-! ### Windows (R274, R275) -/

structure Win where
  w : Nat
  sched : Nat
  first : Nat
  slots : Nat
  land : Nat
  bytes : Nat
  deriving DecidableEq, Repr, Inhabited

def winOf (w : Nat) (bs : List Byte) : Win :=
  { w := w, sched := leNat (slice bs 4 2), first := leNat (slice bs 6 2), slots := leNat (slice bs 8 2),
    land := leNat (slice bs 10 2), bytes := leNat (slice bs 12 4) }

def bankBase (h b : Nat) : Nat := 8192 * h + 4096 * b

/-- The non-empty windows of bank `b` of Sheaf `h`, in index order. -/
def State.bank (s : State) (h b : Nat) : List Win :=
  (s.table 0x50).entries.filterMap (fun e =>
    if bankBase h b ≤ e.1 && decide (e.1 < bankBase h b + 4096) && e.2.valid then some (winOf (e.1 - bankBase h b) e.2.bytes)
    else none)

/-- The windows in force on Sheaf `h`: those of its active bank while its calendar is enabled. -/
def State.wins (s : State) (h : Nat) : List Win :=
  if s.fwdMode && s.comB ALM_CAL_CFG.ENABLE h then s.bank h (s.com ALM_CAL_CFG.BANK h) else []

def State.almSheaf (s : State) (h : Nat) : AlmSheaf := SMap.at! s.alm.sheaves h
def State.updAlmSheaf (s : State) (h : Nat) (f : AlmSheaf → AlmSheaf) : State :=
  s.updAlm fun a => { a with sheaves := SMap.upd a.sheaves h f }

/-- Raises an event of the Almanac for Sheaf `h` and notes the Sheaf. -/
def State.almRaise (s : State) (e : Ev) (h : Nat) : State :=
  (s.wr ALM_EVT_SRC.SHEAF 0 (setBit (s.rd ALM_EVT_SRC.SHEAF) h)).raiseObj e 0 h

/-- ALM_BANK_STAT of Sheaf `h`, PENDING aside. -/
def State.noteBank (s : State) (h : Nat) : State :=
  ((s.wr ALM_BANK_STAT.WIN_0 h (s.bank h 0).length).wr ALM_BANK_STAT.WIN_1 h (s.bank h 1).length).wr
    ALM_BANK_STAT.ACTIVE_BANK h (s.com ALM_CAL_CFG.BANK h)

/-- First slot of the first instance of a window at or after slot `x`; of the instance that contains slot `x`. -/
def Win.from (w : Win) (x : Nat) : Nat := w.first + 4096 * ceilDiv (x - w.first) 4096
def Win.openAt (w : Win) (x : Nat) : Option Nat :=
  let c := x / 4096 * 4096 + w.first
  if c ≤ x && decide (x < c + w.slots) then some c else none

/-- The window instance that contains the present slot. -/
def State.openWin (s : State) (h : Nat) : Option (Win × Nat) :=
  (s.wins h).findSome? (fun w => (w.openAt (s.absSlot s.now)).map (fun f => (w, f)))

/-- First slot of the next window instance after now. -/
def State.nextWin (s : State) (h : Nat) : Option Nat :=
  let x := s.absSlot s.now + 1
  (s.wins h).foldl (fun b w => match b with
    | none => some (w.from x)
    | some y => some (min y (w.from x))) none

/-! ### Charges and capacity (R288, R289) -/

def charge (len : Nat) : Nat := max (4 * ceilDiv (len + 4) 4) 84
def slotCap (slots rate : Nat) : Nat := slots * rate * 185 - 256

/-- U_live of Sheaf `h`: the rate of its ACTIVE carriers, of the slower leg in duplicate mode. -/
def State.liveRate (s : State) (h : Nat) : Nat :=
  let sum (l : List Nat) : Nat := l.foldl (fun a c => a + s.com SHF_CAR_CFG.RATE c) 0
  let act := s.activeOf h
  if s.comB SHF_CFG.DUP h then
    min (sum (act.filter (fun c => s.com SHF_CAR_CFG.LEG c = 0))) (sum (act.filter (fun c => s.com SHF_CAR_CFG.LEG c = 1)))
  else sum act

/-- Live capacity over the next `ticks` ticks. -/
def State.liveCap (s : State) (h ticks : Nat) : Nat := ticks * s.liveRate h * 185 / 100 - 256

/-- RATE_SHORT on a fall of U_live below PLAN_RATE (R293). -/
def State.noteRate (s : State) (h : Nat) : State :=
  let low : Bool := s.fwdMode && s.comB ALM_CAL_CFG.ENABLE h && decide (s.liveRate h < s.com ALM_CAL_CFG.PLAN_RATE h)
  if (s.almSheaf h).rateLow = low then s
  else
    let s := s.updAlmSheaf h fun a => { a with rateLow := low }
    if low then s.almRaise EV.ALM_RATE_SHORT h else s

/-! ### Binding (R283-R286) -/

/-- Egress queues that hold Sheaf `h`'s scheduled frames, highest class first. -/
def schedQueues (h : Nat) : List Nat := [15, 13, 11, 9, 7, 5, 3, 1].map (fun q => 16 * (256 + h) + q)
def schedIdOf (f : Frame) : Nat := match f.cap with | some c => c.sched | none => 0

/-- A frame's body as it leaves: edited as its entry orders (R212). -/
def leavingBody (f : Frame) : List Byte := match f.cap with | some c => editFrame c f.cls f.body | none => f.body

/-- Length of a frame as it leaves, padded and with its FCS: its record is as long (R288). -/
def leavingLen (f : Frame) : Nat := (padFrame (leavingBody f)).length + 4

/-- Charge of a frame on a Sheaf egress (R288). -/
def chargeOf (f : Frame) : Nat := charge (leavingLen f)

/-- Charges of the frames bound to an instance, and of those that it has started. -/
def State.boundSum (s : State) (h w f : Nat) : Nat :=
  let a := s.almSheaf h
  (schedQueues h).foldl (fun x n => (s.queue n).ents.foldl (fun x e =>
    if e.bound = some (w, f) then x + chargeOf e.frame else x) x) (if a.inst = f + 1 then a.used else 0)

/-- The first instance of a flow's windows whose first tick is at or after now. -/
def State.instanceFor (s : State) (h sched : Nat) : Option (Win × Nat) :=
  let x := s.slotFrom
  ((s.wins h).filter (fun w => w.sched = sched)).foldl (fun b w => match b with
    | none => some (w, w.from x)
    | some (v, y) => if w.from x < y then some (w, w.from x) else some (v, y)) none

/-- Landing check against the LAND_SLOT instance (R275, R286). -/
def State.checkLand (s : State) (h : Nat) (w : Win) (f : Nat) (fr : Frame) : State :=
  if w.land = 0xFFFF then s
  else
    let l := f - (w.first + 4096 - w.land) % 4096
    let x := s.absSlot fr.tIn
    if x < l then s.count (almSlot h 6)
    else if l < x then (s.count (almSlot h 5)).almRaise EV.ALM_LATE_LAND h else s

/-- Removes frame `id` from queue `n`, uncounted. -/
def State.dropEnt (s : State) (n id : Nat) : State :=
  match (s.queue n).ents.find? (·.frame.id = id) with
  | some e => (s.discardEnt n e).updQueue n fun q => { q with ents := q.ents.filter (fun x => x.frame.id ≠ id) }
  | none => s

/-- Binds frame `id` of the scheduled queue `n` of Sheaf `h`, or discards it as excess (R283, R284). -/
def State.bindEnt (s : State) (h n id : Nat) : State :=
  match (s.queue n).ents.find? (·.frame.id = id) with
  | none => s
  | some e =>
    match s.instanceFor h (schedIdOf e.frame) with
    | none => s
    | some (w, f) =>
      if w.bytes < s.boundSum h w.w f + chargeOf e.frame then (s.dropEnt n id).count (almSlot h 4)
      else
        let k := s.alm.bindNo
        let s := s.updQueue n fun q => { q with
          ents := q.ents.map (fun x => if x.frame.id = id then { x with bound := some (w.w, f), boundNo := k } else x) }
        (s.updAlm fun a => { a with bindNo := k + 1 }).checkLand h w f e.frame

/-- Appends an entry that is already in the module to queue `n`: its buffers go to that queue. -/
def State.moveTo (s : State) (n : Nat) (e : QEnt) : State :=
  let e := { e with bound := none, spill := s.spillsNow n }
  let s := s.each e.frame.bufs (fun s b =>
    if (s.tagOf b.1 b.2).kind = kSHARED then s else s.setTag b.1 b.2 { kind := kQUEUE, id := n })
  s.updQueue n fun q => { q with ents := q.ents ++ [e] }

/-- The bound frames of Sheaf `h` with their queues, in the order in which they were bound. -/
def State.boundFrames (s : State) (h : Nat) : List (Nat × QEnt) :=
  ((schedQueues h).flatMap (fun n => (s.queue n).ents.map (fun e => (n, e)))).insertionSort
    (fun x y => x.2.boundNo ≤ y.2.boundNo)

/-- Binds every unstarted bound frame of Sheaf `h` again, none being bound before the first (R282, R296). -/
def State.rebind (s : State) (h : Nat) : State :=
  let old := s.boundFrames h
  let s := s.each (schedQueues h) fun s n =>
    s.updQueue n fun q => { q with ents := q.ents.map (fun e => { e with bound := none }) }
  s.each old fun s x =>
    let n := x.1
    if (s.instanceFor h (schedIdOf x.2.frame)).isNone then
      let s := s.updQueue n fun q => { q with ents := q.ents.filter (fun e => e.frame.id ≠ x.2.frame.id) }
      (s.moveTo (n - 1) x.2).count (queueSlot ((n - 1) / 16) ((n - 1) % 16) 11)
    else (s.count (almSlot h 9)).bindEnt h n x.2.frame.id

/-! ### The end of window instances (R291) -/

/-- Instances of a window that end after slot boundary `a` and no later than `b`. -/
def Win.ended (w : Win) (a b : Nat) : Nat :=
  let k (x : Nat) : Nat := if x < w.first + w.slots then 0 else (x - w.first - w.slots) / 4096 + 1
  k b - k a

/-- The slot boundary at which a bound frame's instance ends; 0 when its window is gone. -/
def endOf (ws : List Win) (b : Nat × Nat) : Nat := match ws.find? (fun w => w.w = b.1) with
  | some w => b.2 + w.slots
  | none => 0

/-- The entry is bound to an instance that has ended by slot boundary `x`. -/
def QEnt.endedBy (e : QEnt) (ws : List Win) (x : Nat) : Bool := match e.bound with
  | some b => endOf ws b ≤ x
  | none => false

/-- Judges the window instances of Sheaf `h` that end by slot boundary `upTo`: unsent bound frames are discarded. -/
def State.endWindows (s : State) (h upTo : Nat) : State :=
  let a := s.almSheaf h
  let ws := s.wins h
  let ran := ws.foldl (fun x w => x + w.ended a.judged upTo) 0
  let usedEnd : Bool := a.inst ≠ 0 && ws.any (fun w => (a.inst - 1) % 4096 = w.first &&
    a.judged < a.inst - 1 + w.slots && a.inst - 1 + w.slots ≤ upTo)
  let dead (e : QEnt) : Bool := e.endedBy ws upTo
  let insts := ((schedQueues h).flatMap (fun n => (s.queue n).ents.filter dead)).filterMap (·.bound) |>.dedup
  let s := (s.count (almSlot h 0) ran).count (almSlot h 1) (if usedEnd && a.used ≠ 0 then 1 else 0)
  let s := s.count (almSlot h 8) (if a.short && insts.any (fun b => b.2 + 1 = a.inst) then 1 else 0)
  let s := s.each insts fun s _ => s.almRaise EV.ALM_MISSED h
  let s := s.each (schedQueues h) fun s n => s.purge n 10 dead
  s.updAlmSheaf h fun a => { a with judged := max a.judged upTo,
                                    inst := if usedEnd then 0 else a.inst, used := if usedEnd then 0 else a.used,
                                    short := if usedEnd then false else a.short }

/-- WINDOW_END (R291): the last tick of a window instance. -/
def execWindowEnd (h : Fin 32) (s : State) : Res :=
  if (s.wins h).isEmpty then fin s else fin (s.endWindows h (s.absSlot (s.now + 1)))

/-- A frame in progress that meets the first tick of the next window instance overruns (R292). -/
def State.noteOverrun (s : State) (h : Nat) : State :=
  match (s.sheaf h).tx with
  | none => s.updAlmSheaf h fun a => { a with overrun := false }
  | some t =>
    let opened := (s.wins h).any (fun w => w.from (s.absSlot t.start + 1) ≤ s.absSlot s.now)
    if opened && !(s.almSheaf h).overrun then
      ((s.updAlmSheaf h fun a => { a with overrun := true }).count (almSlot h 7)).almRaise EV.ALM_OVERRUN h
    else s

/-! ### Consistency of a bank (R278, R281) -/

/-- The first window of a bank that breaks a rule of R278 at rate `u`, with the cause. -/
def badWin (u : Nat) : Nat → List Win → Option (Nat × Nat)
  | _, [] => none
  | after, w :: r =>
    if w.first < after then some (w.w, 5)
    else if slotCap w.slots u < w.bytes then some (w.w, 6)
    else badWin u (w.first + w.slots) r

/-- Starts the calendar of Sheaf `h` anew at the present slot, after a switch or an enable (R282). -/
def State.almSwitched (s : State) (h : Nat) : State :=
  let x := s.absSlot s.now
  let s := s.updAlmSheaf h fun a => { a with judged := x, inst := 0, used := 0, short := false }
  let s := (s.rebind h).wrB ALM_BANK_STAT.PENDING h false
  ((s.noteBank h).almRaise EV.ALM_SWITCHED h).noteRate h

/-- A jump of A by the whole residue (R296). -/
def State.realign (s : State) : State :=
  let r := s.resAt 0 s.now
  if r = 0 then s
  else
    let hs := (List.range 32).filter (fun h => !(s.wins h).isEmpty)
    let s := s.each hs fun s h =>
      match s.openWin h with
      | some (_, f) =>
        let a := s.almSheaf h
        (s.count (almSlot h 0)).count (almSlot h 1) (if a.inst = f + 1 && a.used ≠ 0 then 1 else 0)
      | none => s
    let s := (s.setRes 0 0)
    let s := (s.jumpTrains 0 r).jumpTrains 8 r
    let s := s.each hs fun s h =>
      let x := s.absSlot s.now
      (s.updAlmSheaf h fun a => { a with judged := x, inst := 0, used := 0, short := false }).rebind h
    s.raise EV.ALM_REALIGNED

/-! ### Commands (R300) -/

/-- CMD_ALM_COUNTERS_READ. -/
def execCmdAlmCountersRead (m : Fin 16) (x : Exec) (s : State) : Res :=
  fin (s.countersCmd m 0x501 x 1 31 32 State.cntMode (fun h => almSlot h 0))

/-- CMD_ALM_BANK_CHECK (R278, R300). -/
def execCmdAlmBankCheck (m : Fin 16) (x : Exec) (s : State) : Res :=
  fin (s.cmd m 0x502 x
    (fun s => s.headChecks m (· = 4) ++
      [chk ST_ZERO_INVALID (s.pay m 2 2 = 0),
       chk ST_BAD_ARGUMENT (decide (31 < s.pay m 0 1) || decide (1 < s.pay m 1 1) || decide (s.pay m 2 2 < 4) ||
         decide (512 < s.pay m 2 2)),
       chk ST_WRONG_MODE (!s.fwdMode)])
    (fun s =>
      let ws := s.bank (s.pay m 0 1) (s.pay m 1 1)
      let (w, c) := (badWin (s.pay m 2 2) 0 ws).getD (0xFFFFFFFF, 0)
      s.complete m ST_OK 0 (leBytes 2 ws.length ++ [BitVec.ofNat 8 c, 0] ++ leBytes 4 w)))

/-- CMD_ALM_REALIGN (R296, R300, R478, R480). -/
def execCmdAlmRealign (m : Fin 16) (x : Exec) (s : State) : Res :=
  fin (s.cmd m 0x503 x
    (fun s => s.headChecks m (· = 0) ++ [chk ST_WRONG_MODE (!s.fwdMode), chk followDetail s.follow])
    (fun s => (s.realign.mirrorCmd 0x503 []).complete m ST_OK))

end Sys2Proof.Machine
end

