-- ==== Sys2Proof/Machine/Forward.lean ====
section
/-! DEFINITION. Sys2Proof/Machine/Forward.lean: the forwarding core (chapter 7): lookups and generation capture, the
order stage, plane arbitration, admission to the egress queues, the Reaper and the hold states. -/
namespace Sys2Proof.Machine

/-! ### Entries (R120, R215) -/

/-- The valid installed entry at an index. -/
def State.ent (s : State) (t i : Nat) : Option Entry :=
  let e := SMap.at! (s.table t).entries i
  if e.valid then some e else none
def State.updEnt (s : State) (t i : Nat) (f : Entry → Entry) : State :=
  s.updTable t fun x => { x with entries := SMap.upd x.entries i f }

/-! ### Classes and hashes (R218, R219, R224, R247) -/

/-- The class that a source's CLASS_SRC takes from a frame. -/
def State.classFrom (s : State) (src : Nat) (p : Parsed) : Nat :=
  let dflt := s.com FWD_IN_CFG.DEFAULT_CLASS src
  let pick (map v : Nat) : Nat := map / 8 ^ v % 8
  match s.com FWD_IN_CFG.CLASS_SRC src with
  | 1 => match p.vlan with
    | some (pcp, _) => pick (s.com FWD_PCP_MAP.MAP) pcp
    | none => dflt
  | 2 =>
    if p.kind = 0x4 || p.kind = 0x6 then 
      pick (if p.dscp < 60 then s.com FWD_DSCP_MAP.MAP (p.dscp / 10) else s.com FWD_DSCP_MAP_6.MAP) (p.dscp % 10)
    else if p.kind = 0x8 then pick (s.com FWD_TC_MAP.MAP) (p.labels.headD 0 / 512 % 8)
    else dflt
  | _ => dflt

/-- The receive class of a frame without its FCS. -/
def State.rxClass (s : State) (src : Nat) (bs : List Byte) : Nat := s.classFrom src (parse bs)

def State.keyOf (s : State) (src : Nat) (bs : List Byte) : List Byte :=
  flowKey (if s.comB FWD_IN_CFG.INGRESS_KEY src then src else 0xFFFF) bs (parse bs)

/-- H of a flow key under a setting, and the setting in force. -/
def hashWith (x : HashSet) (key : List Byte) : Nat :=
  crc32cFrom (Nat.xor 0xFFFFFFFF x.seed) (maskKey key x.proto x.srcA x.dstA x.l4)
def State.hashSet (s : State) : HashSet :=
  { seed := s.com FWD_HASH_SEED.SEED, proto := s.comB FWD_HASH_CFG.PROTO_EN, srcA := s.comB FWD_HASH_CFG.SRC_EN,
    dstA := s.comB FWD_HASH_CFG.DST_EN, l4 := s.comB FWD_HASH_CFG.L4_EN }

/-- H of a frame without its FCS. -/
def State.hashOf (s : State) (src : Nat) (bs : List Byte) : Nat := hashWith s.hashSet (s.keyOf src bs)

def State.planeOf (s : State) (h : Nat) : Nat := s.com FWD_PLANE_MAP.MAP (h % 64 / 16) / 4 ^ (h % 16) % 4
/-- The order lane, and the bucket of a group: H[31:22]. -/
def laneOf (h : Nat) : Nat := h / 4194304 % 1024

/-! ### The flow table and its cache (R204, R209) -/

def flowBase (key : List Byte) : Nat := 4 * (crc32c key % 2 ^ 20)
def State.bucket (s : State) (key : List Byte) : List (Nat × Entry) :=
  (List.range 4).filterMap (fun k => (s.ent 0x30 (flowBase key + k)).map (fun e => (flowBase key + k, e)))
def State.flowMatch (s : State) (key : List Byte) : Option (Nat × Entry) :=
  (s.bucket key).find? (fun e => slice e.2.bytes 4 40 = key)

/-- The frame's bucket is marked and not cached: its lookup needs a read from HBM. -/
def State.needsRead (s : State) (src : Nat) (bs : List Byte) : Bool :=
  let key := s.keyOf src bs
  s.comB FWD_IN_CFG.FLOW_EN src &&
  (match s.flowMatch key with | some (_, e) => !e.pinned | none => true) &&
  (s.bucket key).any (fun e => !(e.2.cached || e.2.pinned))

/-- The bucket enters the cache of 65,536 entries; a full cache evicts every entry that is not pinned. -/
def State.cacheBucket (s : State) (key : List Byte) : State :=
  let b := s.bucket key
  let used := ((s.table 0x30).entries.filter (fun e => e.2.cached || e.2.pinned)).length
  let s := if 65536 < used + b.length then
      s.updTable 0x30 fun t => { t with entries := t.entries.map (fun e => (e.1, { e.2 with cached := false })) }
    else s
  s.each b fun s e => s.updEnt 0x30 e.1 fun x => { x with cached := true }

/-! ### Lookup (R206, R209-R211) -/

/-- The action of a frame: entries used, generation of the matching entry, ACTION, CLASS and TARGET, and what a flow or
label entry adds. -/
structure Hit where
  used : List (Nat × Nat × Nat) := []
  gen : Nat := 0
  action : Nat := 0
  cls : Nat := 0
  target : Nat := 0
  flow : Bool := false
  sched : Nat := 0
  onestep : Nat := 0
  tally : Option Nat := none
  op : Option (Nat × Nat) := none
  deriving DecidableEq, Repr, Inhabited

/-- Indices of the source counters of R236. -/
def cNO_LOOKUP : Nat := 0
def cNO_ROUTE : Nat := 1
def cL2_MISS : Nat := 2
def cMPLS_MISS : Nat := 3
def cNO_NEXT_HOP : Nat := 4
def cNO_LIVE_MEMBER : Nat := 5
def cDROP_ACTION : Nat := 6
def cTTL_EXPIRED : Nat := 7
def cMPLS_DROP : Nat := 8
def cAGED_INGRESS : Nat := 9
def cFAILOVER_FRAMES : Nat := 10
def cFLOW_HITS : Nat := 11
def cFLOW_MISSES : Nat := 12
def cMCAST_EMPTY : Nat := 13

/-- Two byte strings agree in their first `n` bits. -/
def samePrefix (a b : List Byte) (n : Nat) : Bool :=
  a.take (n / 8) = b.take (n / 8) &&
  (n % 8 = 0 || byteAt a (n / 8) / 2 ^ (8 - n % 8) = byteAt b (n / 8) / 2 ^ (8 - n % 8))

/-- The longest matching route of an IP packet; between equal prefixes the lower index. -/
def State.route (s : State) (p : Parsed) : Option (Nat × Entry) :=
  let fmt := if p.kind = 0x4 then 0x0311 else 0x0312
  (s.table 0x31).entries.foldl (fun best e =>
    let plen := byteAt e.2.bytes 4
    if e.2.valid && leNat (slice e.2.bytes 0 2) = fmt && samePrefix (slice e.2.bytes 12 16) p.dst plen &&
        (match best with | some b => decide (byteAt b.2.bytes 4 < plen) | none => true) then some (e.1, e.2) else best) none

def routeHit (i : Nat) (e : Entry) : Hit :=
  { used := [(0x31, i, e.ver)], gen := e.gen, action := byteAt e.bytes 5, cls := byteAt e.bytes 8,
    target := leNat (slice e.bytes 6 2) }

def flowHit (i : Nat) (e : Entry) : Hit :=
  let b := e.bytes
  { used := [(0x30, i, e.ver)], gen := e.gen, action := byteAt b 44, cls := byteAt b 45, target := leNat (slice b 46 2),
    flow := true, sched := leNat (slice b 48 2), onestep := byteAt b 51,
    tally := if testBit (byteAt b 50) 1 then some (leNat (slice b 52 4)) else none }

/-- Ethernet key of a frame: destination MAC and VID as an entry holds them. -/
def l2Key (bs : List Byte) (p : Parsed) : List Byte :=
  slice bs 0 6 ++ leBytes 2 (match p.vlan with | some (_, v) => v | none => 0)
def l2Base (key : List Byte) : Nat := 4 * (crc32c key % 2 ^ 15)

/-- The chosen action, or the source counter of the drop. A frame of OP 2 whose payload beneath is neither IPv4 nor IPv6 has
no route and counts in NO_ROUTE: R206 and R211 name no counter for it (DESIGN CHOICE, log entry 134). -/
def State.lookup (s : State) (src : Nat) (bs : List Byte) : Except Nat Hit :=
  let p := parse bs
  let ip : Bool := p.kind = 0x4 || p.kind = 0x6
  let rest : Except Nat Hit :=
    if p.kind = 0x8 && s.comB FWD_IN_CFG.MPLS_EN src then
      let w := p.labels.headD 0
      let base := s.com FWD_MPLS_CFG.BASE
      match if base ≤ w / 4096 then s.ent 0x33 (w / 4096 - base) else none with
      | none => .error cMPLS_MISS
      | some e =>
        let i := w / 4096 - base
        let op := byteAt e.bytes 4
        if op = 2 then
          if !testBit w 8 then .error cMPLS_DROP
          else match (parseBelow bs).bind s.route with
            | none => .error cNO_ROUTE
            | some (j, r) => .ok { routeHit j r with used := [(0x33, i, e.ver), (0x31, j, r.ver)], op := some (2, 0) }
        else .ok { used := [(0x33, i, e.ver)], gen := e.gen, action := byteAt e.bytes 5, target := leNat (slice e.bytes 6 2),
                   cls := byteAt e.bytes 8, op := some (op, leNat (slice e.bytes 9 3) % 2 ^ 20) }
    else if ip && s.comB FWD_IN_CFG.L3_EN src then
      match s.route p with
      | none => .error cNO_ROUTE
      | some (i, e) => .ok (routeHit i e)
    else if s.comB FWD_IN_CFG.L2_EN src then
      let k := l2Key bs p
      match ((List.range 4).filterMap (fun j => (s.ent 0x32 (l2Base k + j)).map (fun e => (l2Base k + j, e)))).find?
          (fun e => slice e.2.bytes 4 8 = k) with
      | none => .error cL2_MISS
      | some (i, e) => .ok { used := [(0x32, i, e.ver)], gen := e.gen, action := byteAt e.bytes 12,
                             cls := byteAt e.bytes 13, target := leNat (slice e.bytes 14 2) }
    else .error cNO_LOOKUP
  if s.comB FWD_IN_CFG.FLOW_EN src then
    match s.flowMatch (s.keyOf src bs) with
    | some (i, e) => .ok (flowHit i e)
    | none => rest
  else rest

/-! ### Resolve and Classify (R213, R215, R222, R230) -/

def State.egrState (s : State) (e : Nat) : Nat := s.rd FWD_EGR_STAT.HOLD_STATE e
def State.egrOn (s : State) (e : Nat) : Bool := if e < 256 then s.comB PRT_CFG.ENABLE e else s.comB SHF_CFG.ENABLE (e - 256)
def State.egrLive (s : State) (e : Nat) : Bool := s.egrState e = 0

/-- The next-hop index in bucket `b` of group `g`, with the group entry that holds it. -/
def State.bucketHop (s : State) (g b : Nat) : Option (Nat × Entry × Nat) :=
  (s.ent 0x35 (64 * g + b / 16)).map (fun e => (64 * g + b / 16, e, leNat (slice e.bytes (4 + b % 16 * 2) 2)))
def State.failover (s : State) (g : Nat) : Bool :=
  match s.ent 0x35 (64 * g) with | some e => testBit (byteAt e.bytes 36) 0 | none => false
def State.hopLive (s : State) (n : Nat) : Bool :=
  match s.ent 0x34 n with | some e => s.egrLive (nhEgress e.bytes) | none => false

/-- The next hop of a group for a hash: its index, group entries used, and whether the frame was moved (R222). -/
def State.groupHop (s : State) (g h : Nat) : Except Nat (Nat × List (Nat × Nat × Nat) × Bool) :=
  let b := laneOf h
  match s.bucketHop g b with
  | none => .error cNO_NEXT_HOP
  | some (i, e, n) =>
    if !s.failover g || s.hopLive n || (s.ent 0x34 n).isNone then .ok (n, [(0x35, i, e.ver)], false)
    else match ((List.range 1023).map (fun k => (b + 1 + k) % 1024)).findSome? (fun b =>
        match s.bucketHop g b with
        | some (i, e, n) => if s.hopLive n then some (i, e, n) else none
        | none => none) with
      | some (i, e, n) => .ok (n, [(0x35, i, e.ver)], true)
      | none => .error cNO_LIVE_MEMBER

/-- Egresses in a multicast bitmap. -/
def mcastBits (bs : List Byte) : List Nat := (List.range 288).filter (fun e => testBit (byteAt bs (4 + e / 8)) (e % 8))

/-- Egresses of a frame's targets whose TC_EN orders CORRECT on a PTP event message (R315). -/
def State.tcOrders (s : State) (f : Frame) (c : Cap) (targets : List Nat) : Cap :=
  if c.onestep ≠ 0 || (ptpMessage f.bytes).isNone then c
  else { c with tc := targets.filterMap (fun e =>
    if e < 256 && s.comB TBS_PORT_CFG.TC_EN e then some (e, s.com TBS_PORT_CFG.TC_DOMAIN e) else none) }

/-- The captured decision of a frame, and whether a failover moved it; or the source counter of its drop. -/
def State.resolve (s : State) (f : Frame) (h : Nat) : Except Nat (Cap × Nat × Bool) :=
  let bs := f.body
  match s.lookup f.src bs with
  | .error i => .error i
  | .ok hit =>
    let cls := if testBit hit.cls 3 then hit.cls % 8 else s.classFrom f.src (parse bs)
    let c : Cap := { ord := s.nextOrd, held := hit.used, gen := hit.gen, action := hit.action % 4, sched := hit.sched,
                     mplsOp := hit.op, onestep := hit.onestep % 4, osDomain := hit.onestep / 4 % 8, tally := hit.tally }
    let ttlBad : Bool := match leavingTtl bs hit.op with | some t => t ≤ 1 | none => false
    if hit.action % 4 = 3 then .error cDROP_ACTION
    else if hit.action % 4 = 2 then
      match s.ent 0x36 hit.target with
      | none => .error cMCAST_EMPTY
      | some e =>
        let fl := byteAt e.bytes 40
        let ts := (mcastBits e.bytes).filter (fun x => s.egrOn x && !(testBit fl 0 && x = f.src))
        if ts.isEmpty then .error cMCAST_EMPTY
        else if testBit fl 1 && ttlBad then .error cTTL_EXPIRED
        else .ok (s.tcOrders f { c with held := c.held ++ [(0x36, hit.target, e.ver)], targets := ts, decTtl := testBit fl 1 } ts,
                  cls, false)
    else
      let hop : Except Nat (Nat × List (Nat × Nat × Nat) × Bool) :=
        if hit.action % 4 = 1 then s.groupHop hit.target h else .ok (hit.target, [], false)
      match hop with
      | .error i => .error i
      | .ok (n, used, moved) =>
        match s.ent 0x34 n with
        | none => .error cNO_NEXT_HOP
        | some e =>
          let dec := testBit (nhFlags e.bytes) 0
          if dec && ttlBad then .error cTTL_EXPIRED
          else .ok (s.tcOrders f { c with held := c.held ++ used ++ [(0x34, n, e.ver)], egress := nhEgress e.bytes,
                                          nextHop := e.bytes.take 64, decTtl := dec } [nhEgress e.bytes], cls, moved)

/-! ### Admission to the egress queues (R223, R230, R235, R251) -/

/-- One pointer or frame arrives at queue `n`: whether it is admitted; a refusal is counted. -/
def State.arrive (s : State) (n : Nat) (f : Frame) (mcast : Bool) : Bool × State :=
  let e := n / 16
  let q := n % 16
  let st := s.egrState e
  if e < 256 && q % 2 = 1 && (st ≠ 0 || !s.egrOn e) then (false, s.count (queueSlot e q 10))
  else if st = 2 || !s.egrOn e then (false, s.count (queueSlot e q 9))
  else if s.admits n f mcast then (true, s.enqueue n { frame := f, mcast := mcast })
  else (false, s.count (queueSlot e q 4))

/-- The buffers of a multicast frame become Shared with `k` holders (R230, R262). -/
def State.shareBufs (s : State) (f : Frame) (k : Nat) : State :=
  s.each f.bufs fun s b =>
    let t := s.tagOf b.1 b.2
    s.setTag b.1 b.2 (if t.kind = kSHARED then { t with refs := t.refs + k - 1 } else { kind := kSHARED, refs := k })

/-- A frame that has crossed its plane is admitted to its queue or queues. -/
def State.admitFrame (s : State) (f : Frame) : State :=
  match f.cap with
  | none => s.dropRx f
  | some c =>
    if c.action = 2 then
      let (k, s) := c.targets.foldl (fun (a : Nat × State) e =>
        let n := 16 * e + 2 * f.cls
        let (ok, s) := a.2.arrive n f true
        if ok then (a.1 + 1, s.count (queueSlot e (2 * f.cls) 12)) else (a.1, s)) (0, s)
      if k = 0 then s.dropRx f
      else (s.shareBufs f k).updFwd fun w => { w with refs := SMap.set 0 w.refs f.id (if k = 1 then 0 else k) }
    else
      let n := 16 * c.egress + 2 * f.cls
      let h := c.egress - 256
      if c.sched = 0 then
        let (ok, s) := s.arrive n f false
        if ok then s else s.dropRx f
      else if c.egress < 256 then
        let (ok, s) := s.arrive (n + 1) f false
        if ok then s else s.dropRx f
      else if (s.wins h).any (fun w => w.sched = c.sched) then
        let (ok, s) := s.arrive (n + 1) f false
        if ok then s.bindEnt h (n + 1) f.id else s.dropRx f
      else
        let s := s.count (queueSlot c.egress (2 * f.cls) 11)
        let (ok, s) := s.arrive n f false
        if ok then s else s.dropRx f

/-! ### The Reaper (R232, R233, R257) -/

def State.tooOld (s : State) (f : Frame) (cls : Nat) : Bool :=
  let l := s.com FWD_AGE_CFG.AGE_LIMIT cls
  l ≠ 0 && decide (l * usT < s.age f)

/-- A frame crosses its plane; the Reaper judges it first. A scheduled frame has no ingress queue: its discard counts in
the queue it was to join. -/
def State.cross (s : State) (f : Frame) : State :=
  if s.tooOld f f.cls then
    match f.cap with
    | some c =>
      if c.sched = 0 then (s.count (srcSlot f.src cAGED_INGRESS)).dropRx f
      else (s.count (queueSlot c.egress (2 * f.cls + 1) 5)).dropRx f
    | none => s.dropRx f
  else s.admitFrame f

/-! ### The pipeline (R202-R204) -/

def ingressKey (src pipe plane cls : Nat) : Nat := ((src * 16 + pipe) * 4 + plane) * 8 + cls

/-- Tick at which `len` more bytes cross a strict path that `took` these: no 62.5 ns hold more than 64,000 (R229). -/
def strictTick (now len : Nat) (took : List (Nat × Nat)) : Nat :=
  let last := took.foldl (fun m e => max m e.1) now
  let fits (t : Nat) : Bool :=
    decide ((took.filter (fun e => t < e.1 + 100)).foldl (fun x e => x + e.2) 0 + len ≤ 64000)
  (((last :: took.map (fun e => max last (e.1 + 100))).filter fits).foldl (fun (m : Option Nat) t => match m with
    | none => some t
    | some x => some (min x t)) none).getD last

/-- A scheduled frame takes the strict path of its plane; STRICT_WAIT counts one that waits there beyond 20 clocks (R229,
R299). -/
def State.strictPath (s : State) (f : Frame) (egress : Nat) : State :=
  let took := (SMap.at! s.fwd.strict f.plane).filter (fun e => decide (s.now < e.1 + 100))
  let t := strictTick s.now f.bytes.length took
  let s := s.updFwd fun w => { w with strict := SMap.set [] w.strict f.plane (took ++ [(t, f.bytes.length)]) }
  if 256 ≤ egress && decide (s.now + 20 < t) then s.count (almSlot (egress - 256) 12) else s

/-- The Cross stage: a scheduled frame takes the strict path, an elastic frame its ingress queue (R201). -/
def State.toPlane (s : State) (f : Frame) : State :=
  match f.cap with
  | some c =>
    if c.sched ≠ 0 then (s.strictPath f c.egress).cross f
    else s.updFwd fun w => { w with ingress := SMap.upd w.ingress (ingressKey f.src f.pipe f.plane f.cls) (· ++ [f]) }
  | none => s.dropRx f

/-- Frames of Sheaf `h` that the order stage waits for: not yet classified. -/
def State.upstream (s : State) (h : Nat) : List Frame :=
  ((s.fwd.pipeQ.flatMap (·.2)) ++ (s.fwd.missQ.flatMap (·.2))).filter (fun f => f.src = 256 + h)

def capOrd (f : Frame) : Nat := match f.cap with | some c => c.ord | none => 0
def capSched (f : Frame) : Bool := match f.cap with | some c => c.sched ≠ 0 | none => false

/-- The hash of frame `g` under the setting that formed that of frame `f`: around a change of the setting both are compared
under one (R217, R220). -/
def State.hashBy (s : State) (f g : Frame) : Nat := hashWith f.hset (s.keyOf g.src g.body)

/-- The order stage lets go of frame `f`: no earlier frame of its lane is upstream or in the stage (R203). Around a plane
drain a scheduled frame looked up at or after its apply tick waits also for the earlier ones of its Sheaf that were looked
up before (R220); it does not wait for later ones, which may wait for it here (DEDUCED, log entry 135). -/
def State.inOrder (s : State) (h : Nat) (f : Frame) : Bool :=
  let lane (g : Frame) : Bool := laneOf (s.hashBy f g) = laneOf f.hash
  let early (g : Frame) : Bool := g.rseq < f.rseq
  (s.upstream h).all (fun g => !(early g && lane g)) &&
  (SMap.at! s.fwd.orderQ h).all (fun g => !(early g && (lane g ||
    capSched f && capSched g && decide (s.fwd.drainOrd ≤ capOrd f) && decide (capOrd g < s.fwd.drainOrd))))

/-- Releases what the order stage of Sheaf `h` can, in reassembly order; `k` bounds the number of frames. -/
def State.releaseOrder (s : State) (h : Nat) : Nat → State
  | 0 => s
  | k + 1 =>
    match (SMap.at! s.fwd.orderQ h).find? (s.inOrder h) with
    | none => s
    | some f =>
      let s := s.updFwd fun w => { w with orderQ := SMap.upd w.orderQ h (fun l => l.filter (fun g => g.id ≠ f.id)) }
      (s.toPlane f).releaseOrder h k

def State.tryRelease (s : State) (src : Nat) : State :=
  if src < 256 then s else s.releaseOrder (src - 256) ((SMap.at! s.fwd.orderQ (src - 256)).length + 1)

/-- A frame with its decision goes on to its plane, or first to the order stage of its Sheaf (R203). -/
def State.captured (s : State) (f : Frame) (moved : Nat) : State :=
  let s := { s with nextOrd := s.nextOrd + 1 }
  let s := s.count (srcSlot f.src cFAILOVER_FRAMES) moved
  if f.src < 256 then s.toPlane f
  else
    let s := s.updFwd fun w => { w with orderQ := SMap.upd w.orderQ (f.src - 256) (· ++ [f]) }
    s.tryRelease f.src

/-- A frame whose lookup failed is dropped and counted at its source's counter `i`. -/
def State.failLookup (s : State) (f : Frame) (i : Nat) : State :=
  ((s.count (srcSlot f.src i)).dropRx f).tryRelease f.src

/-- A flow entry matches the frame (R206); whatever its action then does, the frame counts in FLOW_HITS (R236). -/
def State.flowHits (s : State) (f : Frame) : Bool :=
  s.comB FWD_IN_CFG.FLOW_EN f.src && (s.flowMatch (s.keyOf f.src f.body)).isSome

/-- Lookup to Classify of a frame, and the stages after it. -/
def State.classify (s : State) (f : Frame) : State :=
  let h := s.hashOf f.src f.body
  let r := s.resolve f h
  let s := s.count (srcSlot f.src cFLOW_HITS) (if s.flowHits f then 1 else 0)
  match r with
  | .error i => s.failLookup f i
  | .ok r =>
    s.captured { f with hash := h, hset := s.hashSet, cls := r.2.1, plane := s.planeOf h, cap := some r.1 }
      (if r.2.2 then 1 else 0)

/-- A whole frame enters its pipeline. -/
def State.accept (s : State) (f : Frame) : State :=
  s.updFwd fun w => { w with pipeQ := SMap.upd w.pipeQ f.pipe (· ++ [f]) }

/-- Two frames of one source share an order lane: the later one waits for the earlier one's bucket (R204, R217). -/
def State.sameLane (s : State) (f g : Frame) : Bool :=
  f.src = g.src && laneOf (s.hashOf f.src f.body) = laneOf (s.hashOf g.src g.body)

/-- PIPELINE_FRAME (R202, R204, R217): pipeline `k` takes its next frame; a frame whose bucket is marked and not cached, or
one of the order lane of a frame that waits, goes to the miss queue, unless that is full. -/
def execPipelineFrame (k : Fin 16) (s : State) : Res :=
  match SMap.at! s.fwd.pipeQ k with
  | [] => fin s
  | f :: rest =>
    let miss := SMap.at! s.fwd.missQ k
    if 512 ≤ miss.length then fin s
    else
      let s := s.updFwd fun w => { w with pipeQ := SMap.set [] w.pipeQ k rest }
      let read := s.needsRead f.src f.body
      if read || miss.any (s.sameLane f) then
        let b := flowBase (s.keyOf f.src f.body)
        let s := s.updFwd fun w => { w with missQ := SMap.set [] w.missQ k (miss ++ [f]) }
        fin (s.count (srcSlot f.src cFLOW_MISSES)
          (if !read || miss.any (fun g => s.needsRead g.src g.body && flowBase (s.keyOf g.src g.body) = b) then 0 else 1))
      else fin (s.classify f)

/-- Frames of a miss queue that go on after the read of bucket `b`, and those that stay: a frame goes when its bucket is
there and no frame of its order lane stays before it. -/
def State.splitMiss (s : State) (b : Nat) : List Frame → List Frame × List Frame → List Frame × List Frame
  | [], r => r
  | f :: l, (go, stay) =>
    let have_ : Bool := flowBase (s.keyOf f.src f.body) = b || !s.needsRead f.src f.body
    s.splitMiss b l (if have_ && !stay.any (s.sameLane f) then (go ++ [f], stay) else (go, stay ++ [f]))

/-- BUCKET_READ_DONE (R204): the read for the head of a miss queue; every frame there that waits for that bucket goes on,
and the frames behind it in their order lanes. -/
def execBucketReadDone (k : Fin 16) (s : State) : Res :=
  match SMap.at! s.fwd.missQ k with
  | [] => fin s
  | f :: rest =>
    let key := s.keyOf f.src f.body
    let s := s.cacheBucket key
    let (go, stay) := s.splitMiss (flowBase key) (f :: rest) ([], [])
    let s := s.updFwd fun w => { w with missQ := SMap.set [] w.missQ k stay }
    fin (go.foldl State.classify s)

/-! ### Plane arbitration (R226-R228) -/

/-- Deficit weighted round robin over requesters, given in rising order with the length of what each offers: the
requester served, and the arbiter after it. -/
def dwrr (quantum : Nat → Nat) (reqs : List (Nat × Nat)) : Nat → Dwrr → Option (Nat × Dwrr)
  | 0, _ => none
  | k + 1, d =>
    match (reqs.find? (fun r => decide (d.cur ≤ r.1))).or reqs.head? with
    | none => none
    | some (i, len) =>
      let have_ := SMap.get 0 d.defs i + (if d.fresh || d.cur ≠ i then quantum i else 0)
      if len ≤ have_ then some (i, { cur := i, fresh := false, defs := SMap.set 0 d.defs i (have_ - len) })
      else dwrr quantum reqs k { cur := i + 1, fresh := true, defs := SMap.set 0 d.defs i have_ }

/-- An arbiter's choice; a requester that is not active, with nothing waiting, has lost its deficit. -/
def runDwrr (quantum : Nat → Nat) (active : List Nat) (reqs : List (Nat × Nat)) (d : Dwrr) : Option (Nat × Dwrr) :=
  dwrr quantum reqs (16 * (reqs.length + 1))
    { d with defs := d.defs.filter (fun e => active.contains e.1),
             fresh := d.fresh || !active.contains d.cur }

/-- A choice of an arbiter and of those below it: the ingress queue chosen, the length at its head, the arbiters' new
states. -/
structure Choice where
  key : Nat
  len : Nat
  arbs : List (Nat × Dwrr) := []
  deriving DecidableEq, Repr, Inhabited

def State.arb (s : State) (key : Nat) : Dwrr := SMap.at! s.fwd.planeArb key

/-- Chooses among the choices of the level below, each under its requester number; `active` lists the requesters with
frames waiting, ready or not. -/
def State.arbitrate (s : State) (key : Nat) (quantum : Nat → Nat) (active : List Nat) (below : List (Nat × Choice)) :
    Option Choice :=
  match runDwrr quantum active (below.map (fun b => (b.1, b.2.len))) (s.arb key) with
  | none => none
  | some (i, d) => (below.find? (fun b => b.1 = i)).map (fun b => { b.2 with arbs := (key, d) :: b.2.arbs })

/-- The ingress queues of plane `j` that hold frames: the active ones (R227). -/
def State.planeQueues (s : State) (j : Nat) : List (Nat × List Frame) :=
  s.fwd.ingress.filter (fun e => e.1 / 8 % 4 = j && !e.2.isEmpty)

/-- Frame `f` of a Sheaf comes after frame `g` of the same flow, which another ingress queue still holds (R20, R217). -/
def State.behind (s : State) (f g : Frame) : Bool :=
  g.src = f.src && s.hashBy f g = f.hash && g.cls = f.cls && decide (g.rseq < f.rseq)

/-- The ingress queues of plane `j` whose head may cross: not held by a plane drain (R220), and of a Sheaf the first of its
flow in the order of reassembly. -/
def State.readyHeads (s : State) (j : Nat) : List (Nat × Frame) :=
  let qs := s.planeQueues j
  qs.filterMap (fun e => match e.2 with
    | f :: _ =>
      if s.fwd.drain.isSome && decide (s.fwd.drainOrd ≤ capOrd f) then none
      else if decide (256 ≤ f.src) && s.fwd.ingress.any (fun q => q.2.any (s.behind f)) then none
      else some (e.1, f)
    | [] => none)

def xbWeight (w c : Nat) : Nat := w / 16 ^ c % 16

/-- The class arbiter of an arbitration source. -/
def State.classArb (s : State) (j a : Nat) (heads : List (Nat × Frame)) : Option Choice :=
  let w := s.com FWD_XB_WEIGHT.W
  let mine := (heads.filter (fun e => e.1 / 32 = a)).map (fun e => (e.1 % 8, { key := e.1, len := e.2.bytes.length : Choice }))
  let some_ := mine.filter (fun e => xbWeight w e.1 ≠ 0)
  let active := ((s.planeQueues j).filter (fun e => e.1 / 32 = a)).map (fun e => e.1 % 8)
  if some_.isEmpty then mine.getLast?.map (·.2)
  else s.arbitrate (10000 + 4 * a + j) (fun c => 1024 * xbWeight w c) active some_

/-- The plane's next frame: class, port, port-group and plane arbiters, from the bottom. An arbitration source `a` is
16 × source + pipeline; the active ones make the weights above them (R227). -/
def State.planeArbiter (s : State) (j : Nat) : Option Choice :=
  let heads := s.readyHeads j
  let srcs := ((s.planeQueues j).map (fun e => e.1 / 32)).dedup.insertionSort (· ≤ ·)
  let wt (a : Nat) : Nat := s.com FWD_IN_CFG.ARB_WEIGHT (a / 16)
  let sum (l : List Nat) : Nat := l.foldl (fun x a => x + wt a) 0
  let groups := (List.range 16).filterMap (fun g =>
    (s.arbitrate (1000 + 16 * j + g) (fun a => 1024 * wt a) (srcs.filter (fun a => a % 16 = g))
      ((srcs.filter (fun a => a % 16 = g)).filterMap (fun a => (s.classArb j a heads).map (fun c => (a, c))))).map
        (fun c => (g, c)))
  let sectors := (List.range 4).filterMap (fun n =>
    (s.arbitrate (100 + 4 * j + n) (fun g => 1024 * sum (srcs.filter (fun a => a % 16 = g))) (srcs.map (· % 16))
      (groups.filter (fun g => g.1 / 4 = n))).map (fun c => (n, c)))
  s.arbitrate j (fun n => 1024 * sum (srcs.filter (fun a => a % 16 / 4 = n))) (srcs.map (· % 16 / 4)) sectors

/-- PLANE_CROSSING (R226-R228): the next elastic frame of plane `j` crosses. -/
def execPlaneCrossing (j : Fin 4) (s : State) : Res :=
  match s.planeArbiter j with
  | none => fin s
  | some c =>
    match SMap.at! s.fwd.ingress c.key with
    | [] => fin s
    | f :: rest =>
      let s := s.updFwd fun w => { w with ingress := SMap.set [] w.ingress c.key rest,
                                          planeArb := c.arbs.foldl (fun m a => SMap.set default m a.1 a.2) w.planeArb }
      fin (s.cross f)

/-- Starts a plane drain (R220). -/
def State.startDrain (s : State) : State :=
  let ids := s.fwd.ingress.flatMap (fun e => e.2.map (·.id))
  let s := s.updFwd fun w => { w with drain := some ids, drainOrd := s.nextOrd }
  { s.wr FWD_STAT.PLANE_DRAIN 0 1 with nextOrd := s.nextOrd + 1 }

/-- A plane drain is on, and none of its frames is left in an ingress queue (R220). -/
def State.drainDone (s : State) : Bool :=
  s.fwd.drain.any (fun ids => !s.fwd.ingress.any (fun e => e.2.any (fun f => ids.contains f.id)))

/-- PLANE_DRAIN_END (R220). -/
def execPlaneDrainEnd (s : State) : Res :=
  match s.fwd.drain with
  | none => if s.wasCut .planeDrain then fin ((s.pastCut .planeDrain).raise EV.FWD_PLANE_DRAIN_DONE) else fin s
  | some _ =>
    if s.drainDone then fin (((s.updFwd fun w => { w with drain := none }).wr FWD_STAT.PLANE_DRAIN 0 0).raise EV.FWD_PLANE_DRAIN_DONE)
    else fin s

/-! ### The Reaper's visit -/

/-- Frames over age at the heads of a queue of packet-SRAM entries, of each list of R285: `kept` holds the lists whose head
stands. -/
def State.oldHeads (s : State) (cls : Nat) : List Nat → List QEnt → List Nat
  | _, [] => []
  | kept, e :: r =>
    if !e.inSram then []
    else if kept.contains (schedIdOf e.frame) then s.oldHeads cls kept r
    else if s.tooOld e.frame cls then e.frame.id :: s.oldHeads cls kept r
    else s.oldHeads cls (schedIdOf e.frame :: kept) r

/-- Frames that the Reaper takes from the head of queue `n`, one after another while the head is over age (R232): a
scheduled queue of a Sheaf has one list for each SCHED_ID (R285), any other queue has one. -/
def State.oldIn (s : State) (n : Nat) : List Nat :=
  let q := (s.queue n).ents
  let cls := n % 16 / 2
  if 4096 ≤ n && n % 2 = 1 then s.oldHeads cls [] q
  else (q.takeWhile (fun e => e.inSram && s.tooOld e.frame cls)).map (·.frame.id)

/-- The Reaper judges the heads of queue `n` in packet SRAM. -/
def State.reapHeads (s : State) (n : Nat) : State :=
  let old := s.oldIn n
  if old.isEmpty then s else s.purge n 5 (fun e => old.contains e.frame.id)

/-- Pages of a segment's front that no entry needs go back. -/
def State.trimSegs (s : State) (n : Nat) : State :=
  let q := s.queue n
  let need (g : Seg) (o : Nat) : Bool := q.ents.any (fun e => match e.loc with
    | .silo k a b => k = g.num && a ≤ o && o ≤ b
    | .sram => false)
  let lead (g : Seg) : List Nat :=
    ((g.pages.zipIdx).takeWhile (fun p => !need g (g.base + p.2) && decide (p.2 + 1 < g.pages.length))).map (·.1)
  let free := q.segs.flatMap lead
  if free.isEmpty then s
  else
    let s := s.updQueue n fun q => { q with segs := q.segs.map (fun g =>
      { g with pages := g.pages.drop (lead g).length, base := g.base + (lead g).length }) }
    s.each free fun s g => s.freePage (qParty n) g

/-- The page rule of R257 on the first segment of queue `n`. -/
def State.reapPage (s : State) (n : Nat) : State :=
  match (s.queue n).segs.head? with
  | none => s
  | some g =>
    match g.pages.head? with
    | none => s
    | some p =>
      let l := s.com FWD_AGE_CFG.AGE_LIMIT (n % 16 / 2)
      let begins (e : QEnt) : Bool := match e.loc with | .silo k a _ => k = g.num && a = g.base | .sram => false
      if l ≠ 0 && (s.queue n).ents.any begins && decide ((s.page p).newest + l * usT < s.now) then
        ((s.purge n 5 begins).count (siloSlot 7)).trimSegs n
      else s

/-- The first page of the Silo part is over age. -/
def State.pageOld (s : State) (n : Nat) : Bool :=
  let l := s.com FWD_AGE_CFG.AGE_LIMIT (n % 16 / 2)
  match (s.queue n).segs.head? with
  | some g => l ≠ 0 && (match g.pages.head? with | some p => decide ((s.page p).newest + l * usT < s.now) | none => false)
  | none => false

/-- The visit of queue `n`: its heads, page after page of its Silo part, while each is over age; `k` bounds the pages. -/
def State.reapFrom (s : State) (n : Nat) : Nat → State
  | 0 => s.reapHeads n
  | k + 1 =>
    let s := s.reapHeads n
    if s.pageOld n then (s.reapPage n).reapFrom n k else s
def State.reapQueue (s : State) (n : Nat) : State := s.reapFrom n ((s.queue n).pages + 1)

def State.reapIngress (s : State) (k : Nat) : State :=
  let l := SMap.at! s.fwd.ingress k
  let old := l.takeWhile (fun f => s.tooOld f f.cls)
  let s := s.updFwd fun w => { w with ingress := SMap.set [] w.ingress k (l.drop old.length) }
  s.each old fun s f => (s.count (srcSlot f.src cAGED_INGRESS)).dropRx f

/-- REAPER_VISIT (R232, R257): the heads of every ingress queue, egress queue and Silo part. -/
def execReaperVisit (s : State) : Res :=
  let s := s.each (s.fwd.ingress.map (·.1)) State.reapIngress
  fin (s.each (s.fwd.queues.map (·.1)) State.reapQueue)

/-! ### Hold states (R234, R235) -/

def elasticQueues (e : Nat) : List Nat := (List.range 8).map (fun c => 16 * e + 2 * c)
def oddQueues (e : Nat) : List Nat := (List.range 8).map (fun c => 16 * e + 2 * c + 1)

/-- Entry to DOWN_DROP. -/
def State.enterDrop (s : State) (e : Nat) : State :=
  let had := (elasticQueues e).any (fun n => !(s.queue n).ents.isEmpty)
  let s := s.each (elasticQueues e) fun s n => s.purge n 6 (fun _ => true)
  let s := if e < 256 then s.each (oddQueues e) fun s n => s.purge n 10 (fun _ => true) else s
  let s := (s.wr FWD_EGR_STAT.HOLD_STATE e 2).updFwd fun w => { w with downAt := SMap.erase w.downAt e }
  if had then s.raise EV.FWD_LINK_FLUSH e else s

/-- Some group with FAILOVER has a bucket on egress `e`. -/
def State.hasBucket (s : State) (e : Nat) : Bool :=
  (s.table 0x35).entries.any (fun g => g.2.valid && s.failover (g.1 / 64) &&
    (List.range 16).any (fun b => match s.ent 0x34 (leNat (slice g.2.bytes (4 + 2 * b) 2)) with
      | some n => nhEgress n.bytes = e
      | none => false))

/-- The down event of egress `e`. -/
def State.egressDown (s : State) (e : Nat) : State :=
  if !s.fwdMode || s.egrState e ≠ 0 then s
  else
    let s := if s.hasBucket e then s.raise EV.FWD_FAILOVER e else s
    let s := if e < 256 then s.each (oddQueues e) fun s n => s.purge n 10 (fun _ => true) else s
    if s.com FWD_EGR_CFG.LINK_HOLD e = 0 then s.enterDrop e
    else (s.wr FWD_EGR_STAT.HOLD_STATE e 1).updFwd fun w => { w with downAt := SMap.insert s.now w.downAt e }

/-- The up event of egress `e`. -/
def State.egressUp (s : State) (e : Nat) : State :=
  if !s.fwdMode then s
  else (s.wr FWD_EGR_STAT.HOLD_STATE e 0).updFwd fun w => { w with downAt := SMap.erase w.downAt e }

/-- A commit of ENABLE 0 (R235). -/
def State.egressOff (s : State) (e : Nat) : State :=
  if !s.fwdMode || s.egrState e = 2 then s
  else
    let s := if s.egrState e = 0 && s.hasBucket e then s.raise EV.FWD_FAILOVER e else s
    s.enterDrop e

/-- LINK_HOLD has passed since the down tick of egress `e`. -/
def State.holdOver (s : State) (e : Nat) : Bool :=
  s.egrState e = 1 && decide (SMap.get 0 s.fwd.downAt e + s.com FWD_EGR_CFG.LINK_HOLD e * msT ≤ s.now)

/-- LINK_HOLD_EXPIRY (R234). -/
def execLinkHoldExpiry (e : Fin 288) (s : State) : Res :=
  if s.holdOver e then fin (s.enterDrop e)
  else if s.wasCut (.linkFlush e) then fin ((s.pastCut (.linkFlush e)).raise EV.FWD_LINK_FLUSH e) else fin s

/-- HOLD_LEFT (R238). -/
def State.holdLeft (s : State) (e : Nat) : Nat :=
  if s.egrState e = 1 then ceilDiv (SMap.get 0 s.fwd.downAt e + s.com FWD_EGR_CFG.LINK_HOLD e * msT - s.now) msT else 0

/-! ### Commands (R237) -/

/-- CMD_FWD_COUNTERS_READ. -/
def execCmdFwdCountersRead (m : Fin 16) (x : Exec) (s : State) : Res :=
  fin (s.cmd m 0x301 x
    (fun s =>
      let kind := s.pay m 0 1
      let last := s.pay m 4 4 + s.pay m 8 2
      s.headChecks m (· = 12) ++
      [chk ST_BAD_ARGUMENT (s.pay m 1 1 / 2 ≠ 0 || s.pay m 10 2 ≠ 0),
       chk ST_ZERO_INVALID (s.pay m 8 2 = 0),
       chk ST_BAD_ARGUMENT (decide (2 < kind) || decide (256 < s.pay m 8 2) || (kind ≠ 2 && decide (287 < s.pay m 2 2)) ||
         (kind = 0 && decide (256 < last)) || (kind = 1 && decide (32 < last)) ||
         (kind = 2 && (decide (s.pay m 4 4 < 262144) || decide (2097152 < last)))),
       chk ST_WRONG_MODE (!s.cntMode)])
    (fun s =>
      let base := match s.pay m 0 1 with
        | 0 => queueSlot (s.pay m 2 2) 0 0
        | 1 => srcSlot (s.pay m 2 2) 0
        | _ => 0
      s.readSlots m base (s.pay m 4 4) (s.pay m 8 2) (testBit (s.pay m 1 1) 0)))

/-- FRAMES, CELLS, SILO_PAGES and HEAD_AGE_US of queue `n`. -/
def State.queueStat (s : State) (n : Nat) : List Byte :=
  let q := s.queue n
  let tx := ((s.txsOf (n / 16)).filter (fun t => t.queue = n)).map (·.frame)
  let fs := tx ++ q.ents.map (·.frame)
  leBytes 4 fs.length ++ leBytes 4 (s.occ n) ++ leBytes 4 q.pages ++
    leBytes 4 (match fs.head? with | some f => s.age f / usT | none => 0)

/-- CMD_FWD_QUEUE_STAT. -/
def execCmdFwdQueueStat (m : Fin 16) (x : Exec) (s : State) : Res :=
  fin (s.cmd m 0x302 x
    (fun s => s.headChecks m (· = 4) ++
      [chk ST_BAD_ARGUMENT (s.pay m 2 2 ≠ 0 || decide (287 < s.pay m 0 2)), chk ST_WRONG_MODE (!s.fwdMode)])
    (fun s => s.complete m ST_OK 0 ((List.range 16).flatMap (fun q => s.queueStat (16 * s.pay m 0 2 + q)))))

/-- The flush of the named queues of an egress. -/
def State.hostFlush (s : State) (e mask : Nat) : State :=
  (List.range 16).foldl (fun s q => if testBit mask q then s.purge (16 * e + q) 7 (fun _ => true) else s) s

/-- CMD_FWD_FLUSH (R237, R478, R480). -/
def execCmdFwdFlush (m : Fin 16) (x : Exec) (s : State) : Res :=
  fin (s.cmd m 0x303 x
    (fun s => s.headChecks m (· = 4) ++
      [chk ST_ZERO_INVALID (s.pay m 2 2 = 0), chk ST_BAD_ARGUMENT (decide (287 < s.pay m 0 2)),
       chk ST_WRONG_MODE (!s.fwdMode), chk followDetail s.follow])
    (fun s => ((s.hostFlush (s.pay m 0 2) (s.pay m 2 2)).mirrorCmd 0x303 (s.payBytes m 0 4)).complete m ST_OK))

end Sys2Proof.Machine
end

