-- ==== Sys2Proof/Machine/Mac.lean ====
section
/-! DEFINITION. Sys2Proof/Machine/Mac.lean: the MAC of a client port (chapter 5): egress service, edits and one-step
insertion, PAUSE and PFC, preemption, and what a received frame becomes. -/
namespace Sys2Proof.Machine

/-! ### Helpers -/

def lsUP : Nat := 6
def State.linkState (s : State) (p : Nat) : Nat := s.rd PRT_STAT.LINK_STATE p
def State.portUp (s : State) (p : Nat) : Bool := s.fwdMode && s.linkState p = lsUP

/-- Ticks in `q` quanta of 512 bit times at the port's rate (R129, R147). -/
def State.quantaTicks (s : State) (p q : Nat) : Nat := ceilDiv (q * 8192) (1000 * 2 ^ s.com PRT_CFG.WIDTH p)

/-- Bin of a length among the size counters (R161). -/
def sizeBin (n : Nat) : Nat :=
  if n ≤ 64 then 0 else if n ≤ 127 then 1 else if n ≤ 255 then 2 else if n ≤ 511 then 3 else if n ≤ 1023 then 4
  else if n ≤ 1518 then 5 else if n ≤ 2047 then 6 else if n ≤ 4095 then 7 else if n ≤ 8191 then 8
  else if n ≤ 9216 then 9 else 10

/-- Counter of the destination type after the unicast one: unicast, multicast, broadcast. -/
def castBin (bs : List Byte) : Nat := match destKind bs with | 0 => 0 | 1 => 2 | _ => 1

/-- The counters of a frame received or sent whole, from index `base` (frames, octets, types) and `sizes`. -/
def State.countFrame (s : State) (p base sizes : Nat) (bs : List Byte) : State :=
  let s := (s.count (prtSlot p base)).count (prtSlot p (base + 1)) bs.length
  (s.count (prtSlot p (base + 2 + castBin bs))).count (prtSlot p (sizes + sizeBin bs.length))

/-! ### Receive pause (R147, R148) -/

/-- Class `c` of port `p` is paused: its pause has taken effect and its timer has not run out. -/
def State.paused (s : State) (p c : Nat) : Bool :=
  match (s.port p).pauseEnd.find? (fun e => e.1 = c) with
  | none => false
  | some (_, e) => s.now ≤ e && (match (s.port p).pauseFrom.find? (fun f => f.1 = c) with
    | some (_, d) => decide (d ≤ s.now)
    | none => true)

def State.notePaused (s : State) (p : Nat) : State :=
  s.wr PRT_STAT.RX_PAUSED p ((s.port p).pauseEnd.foldl (fun x e => if e.1 < 8 then setBit x e.1 else x) 0)

/-- A received pause of class `c`: quanta 0 ends it at once; else the timer is set and a new pause takes effect within
1,024 ticks. -/
def State.setPause (s : State) (p c quanta : Nat) : State :=
  s.updPort p fun o =>
    if quanta = 0 then { o with pauseFrom := SMap.erase o.pauseFrom c, pauseEnd := SMap.erase o.pauseEnd c }
    else
      let running := o.pauseEnd.any (fun e => e.1 = c && s.now ≤ e.2)
      { o with pauseFrom := if running then o.pauseFrom else SMap.insert (s.now + 1024) o.pauseFrom c,
               pauseEnd := SMap.insert (s.now + s.quantaTicks p quanta) o.pauseEnd c }

/-- PAUSE_TAKES_EFFECT (R148). -/
def execPauseTakesEffect (p : Fin 256) (s : State) : Res := fin (s.updPort p fun o => { o with pauseFrom := [] })

/-- PAUSE_TIMER_EXPIRY (R148): the class is released in the tick after its timer runs out. -/
def execPauseTimerExpiry (p : Fin 256) (c : Fin 8) (s : State) : Res :=
  if (s.port p).pauseEnd.any (fun e => e.1 = c.val && decide (e.2 < s.now)) then
    fin ((s.updPort p fun o => { o with pauseFrom := SMap.erase o.pauseFrom c, pauseEnd := SMap.erase o.pauseEnd c }).notePaused p)
  else fin s

/-! ### Sending PAUSE and PFC (R149) -/

/-- The frame of R149 with source address PRT_MAC_ADDR. -/
def State.controlFrame (s : State) (p : Nat) (payload : List Byte) : List Byte :=
  let b := [0x01, 0x80, 0xC2, 0, 0, 0x01] ++ beBytes 2 (s.rd PRT_MAC_ADDR_HI.ADDR_HI p) ++
    beBytes 4 (s.rd PRT_MAC_ADDR_LO.ADDR_LO p) ++ beBytes 2 etCTRL ++ payload
  let b := padFrame b
  b ++ fcsBytes b

/-- Classes in XOFF that the port signals, and those that the last frame signalled. -/
def State.pfcMask (s : State) (p : Nat) : Nat :=
  match s.com PRT_CFG.FC_MODE p with
  | 2 => (List.range 8).foldl (fun x c => if testBit (s.port p).xoff c && testBit (s.com PRT_PFC_CFG.TX_EN p) c then setBit x c else x) 0
  | 1 => (s.port p).xoff
  | _ => 0

/-- The MAC of port `p` sends `o`: suppressed under far-end loopback; looped to the receiver under near-end loopback
(R163). -/
def State.macSend (s : State) (p : Nat) (o : Out) (k : RxKind) (bs : List Byte) : State :=
  match s.com PRT_CFG.LOOPBACK p with
  | 1 => (s.updPort p fun x => { x with loop := x.loop ++ [(k, bs)] }).emit o
  | 2 => s
  | _ => s.emit o

/-- The MAC of port `p` may send (R163). -/
def State.macTx (s : State) (p : Nat) : Bool := s.com PRT_CFG.LOOPBACK p ≠ 2

/-- Class-enable vector of a PFC frame sent now: each class signalled XOFF, and each enabled one that left XOFF since the last
frame (R149). -/
def State.pfcVector (s : State) (p : Nat) : Nat :=
  let o := s.port p
  (List.range 8).foldl (fun x c =>
    if testBit (s.pfcMask p) c || ((testBit o.sent c || testBit o.left c) && testBit (s.com PRT_PFC_CFG.TX_EN p) c) then setBit x c
    else x) 0

/-- Sends the PFC or PAUSE frame that the present XOFF state asks for: a class that has left XOFF since the last frame, be it
that none has signalled it, gets quanta 0. -/
def State.sendPfc (s : State) (p : Nat) : State :=
  let mask := s.pfcMask p
  let was := (s.port p).sent
  let left := (s.port p).left
  let en := s.pfcVector p
  let q := s.com PRT_PFC_CFG.TX_QUANTA p
  let mode := s.com PRT_CFG.FC_MODE p
  let s := s.updPort p fun o => { o with pfcDue := false, pfcAt := s.now, sent := mask, left := 0 }
  let s := s.wr PRT_STAT.TX_XOFF p mask
  if mode = 0 || (mask = 0 && was = 0 && left = 0) then s
  else if mode = 2 then
    let f := s.controlFrame p (beBytes 2 0x0101 ++ beBytes 2 en ++
      (List.range 8).flatMap (fun c => beBytes 2 (if testBit mask c then q else 0)))
    let s := (List.range 8).foldl (fun s c => if testBit mask c then s.count (prtSlot p (70 + c)) else s) s
    (s.countFrame p 64 88 f).macSend p (.macControl p f) .frame f
  else
    let f := s.controlFrame p (beBytes 2 0x0001 ++ beBytes 2 (if mask = 0 then 0 else q))
    ((s.count (prtSlot p 69)).countFrame p 64 88 f).macSend p (.macControl p f) .frame f

/-- Bytes of the fragment on the wire that port `p` has sent, at 62.5 bits in a tick and lane (R129). -/
def State.fragSent (s : State) (p : Nat) (t : Tx) : Nat :=
  min ((s.now - t.fragAt) * 125 * 2 ^ s.com PRT_CFG.WIDTH p / 16) (t.bytes.length - t.gone)

/-- A fragment of preemptable frame `t` may end here: it has reached 64 × (1 + ADD_FRAG) bytes with its mCRC, and 64
bytes or more of the frame are left (R150, log entry 92). -/
def State.canSplit (s : State) (p : Nat) (t : Tx) : Bool :=
  !t.express && 64 * (1 + t.addFrag) ≤ s.fragSent p t + 4 && t.gone + s.fragSent p t + 64 ≤ t.bytes.length

/-- A MAC frame may go now: nothing is in progress, or the fragment of a preemptable frame may end here. -/
def State.macGap (s : State) (p : Nat) : Bool := match (s.port p).tx with
  | none => true
  | some t => s.canSplit p t

/-- Ticks of a PFC or PAUSE frame on the wire: 64 bytes, with preamble, delimiter and gap. -/
def State.controlTicks (s : State) (p : Nat) : Nat := ceilDiv (84 * 16) (125 * 2 ^ s.com PRT_CFG.WIDTH p)

/-- A preemptable frame in progress continues in a further fragment behind a MAC frame sent now. -/
def State.splitTx (s : State) (p : Nat) : State :=
  s.updPort p fun o => { o with tx := o.tx.map (fun t =>
    { t with frags := t.frags + 1, gone := t.gone + s.fragSent p t, fragAt := s.now + s.controlTicks p }) }

/-- PFC_FRAME_SEND (R149). -/
def execPfcFrameSend (p : Fin 256) (s : State) : Res :=
  if s.portUp p && (s.port p).pfcDue && s.macGap p && s.macTx p then fin ((s.splitTx p).sendPfc p) else fin s

/-- PFC_REPEAT (R149): half of TX_QUANTA has passed since the last frame while XOFF holds. -/
def execPfcRepeat (p : Fin 256) (s : State) : Res :=
  if s.portUp p && (s.port p).sent ≠ 0 && decide ((s.port p).pfcAt + ceilDiv (s.quantaTicks p (s.com PRT_PFC_CFG.TX_QUANTA p)) 2 ≤ s.now) then
    if s.macGap p && s.macTx p then fin ((s.splitTx p).sendPfc p) else fin (s.updPort p fun o => { o with pfcDue := true })
  else fin s

/-! ### Preemption (R150, R151) -/

def State.preempting (s : State) (p : Nat) : Bool := s.bit PRT_STAT.PREEMPT_ACTIVE p

/-- The preemptable frame under way: on the wire, or interrupted. -/
def Port.under (o : Port) : Option Tx := (o.tx.filter (fun t => !t.express)).or o.preempted

/-- EXPRESS in force: that of the preemptable frame under way, until it has been sent (R132). -/
def State.xmask (s : State) (p : Nat) : Nat := match (s.port p).under with
  | some t => t.xmask
  | none => s.com PRT_PREEMPT_CFG.EXPRESS p
def State.addFrag (s : State) (p : Nat) : Nat := match (s.port p).under with
  | some t => t.addFrag
  | none => s.com PRT_PREEMPT_CFG.ADD_FRAG p

/-- A frame from queue `q` is express. -/
def State.isExpress (s : State) (p q : Nat) : Bool :=
  !s.preempting p || q % 2 = 1 || testBit (s.xmask p) (q / 2)

/-- Preemption follows its settings: off, active without verification, or by a verification that starts; after a failed
one it stays off until the link goes down and up (R151). -/
def State.startVerify (s : State) (p : Nat) : State :=
  if !s.comB PRT_CFG.PREEMPT_EN p then
    (s.wr PRT_STAT.PREEMPT_ACTIVE p 0).updPort p fun o => { o with verifyLeft := 0, verifyAt := 0 }
  else if (s.port p).verifyFailed then s
  else if s.comB PRT_PREEMPT_CFG.VERIFY_DIS p then
    (s.wr PRT_STAT.PREEMPT_ACTIVE p 1).updPort p fun o => { o with verifyLeft := 0, verifyAt := 0 }
  else if s.preempting p then s
  else
    (s.updPort p fun o => { o with verifyLeft := 2, verifyAt := s.now + s.com PRT_PREEMPT_CFG.VERIFY_MS p * msT }).macSend
      p (.verify p) .verify []

/-- At a frame boundary a change of PREEMPT_EN or VERIFY_DIS takes effect (R132). -/
def State.frameEdge (s : State) (p : Nat) : State :=
  if (s.port p).preDue && (s.port p).tx.isNone && (s.port p).preempted.isNone then
    (s.updPort p fun o => { o with preDue := false }).startVerify p
  else s

/-- VERIFY_TIMEOUT (R151). -/
def execVerifyTimeout (p : Fin 256) (s : State) : Res :=
  let o := s.port p
  if !s.portUp p || o.verifyAt = 0 || decide (s.now < o.verifyAt) then fin s
  else if o.verifyLeft = 0 then
    fin ((s.updPort p fun o => { o with verifyAt := 0, verifyFailed := true }).raise EV.PRT_VERIFY_FAIL p)
  else fin ((s.updPort p fun o => { o with verifyLeft := o.verifyLeft - 1,
                                           verifyAt := s.now + s.com PRT_PREEMPT_CFG.VERIFY_MS p * msT }).macSend
    p (.verify p) .verify [])

/-! ### Egress service (R225) -/

/-- The entry at the head of queue `n` that can be sent: a frame in packet SRAM. -/
def State.headEnt (s : State) (n : Nat) : Option QEnt := match (s.queue n).ents with
  | e :: _ => if e.inSram then some e else none
  | [] => none

/-- Rules 2 to 4 of R225 over the elastic classes that a test allows: the class, and the arbiter after it. -/
def State.elasticChoice (s : State) (e : Nat) (d : Dwrr) (ok : Nat → Bool) : Option (Nat × Dwrr) :=
  let cs := (List.range 8).filter (fun c => ok c && (s.headEnt (16 * e + 2 * c)).isSome)
  let strict := cs.filter (fun c => testBit (s.com FWD_EGR_CFG.STRICT e) c)
  let w := s.com FWD_EGR_WEIGHT.W e
  let weighted := cs.filter (fun c => xbWeight w c ≠ 0)
  match strict.getLast? with
  | some c => some (c, d)
  | none =>
    match weighted with
    | [] => cs.getLast?.map (fun c => (c, d))
    | _ =>
      let len (c : Nat) : Nat := match s.headEnt (16 * e + 2 * c) with | some x => x.frame.bytes.length | none => 0
      let active := (List.range 8).filter (fun c => !(s.queue (16 * e + 2 * c)).ents.isEmpty)
      runDwrr (fun c => 1024 * xbWeight w c) active (weighted.map (fun c => (c, len c))) d

/-- The queue that client port `p` serves next, among express queues only when a preemptable frame is under way. -/
def State.portChoice (s : State) (p : Nat) (expressOnly : Bool) : Option (Nat × Dwrr) :=
  let ok (q : Nat) : Bool := !s.paused p (q / 2) && (!expressOnly || s.isExpress p q)
  let d := (s.port p).dwrr
  match ([15, 13, 11, 9, 7, 5, 3, 1].find? (fun q => ok q && (s.headEnt (16 * p + q)).isSome)) with
  | some q => some (q, d)
  | none => (s.elasticChoice p d (fun c => ok (2 * c))).map (fun x => (2 * x.1, x.2))

/-- Takes the head entry out of queue `n`. -/
def State.popHead (s : State) (n : Nat) : State := s.updQueue n fun q => { q with ents := joinHead (q.ents.drop 1) }

/-- A frame leaves its queue for good: counted, its buffers freed (R236, R264). -/
def State.dequeued (s : State) (n : Nat) (f : Frame) : State :=
  let s := (s.count (queueSlot (n / 16) (n % 16) 2)).count (queueSlot (n / 16) (n % 16) 3) f.bytes.length
  s.letGo (qParty n) f

/-! ### Edits and one-step insertion (R144, R154, R313, R315, R316) -/

/-- The frame as edited, without its FCS, with the offset of its PTP header and the slots to count. -/
structure Edited where
  bytes : List Byte
  ptp : Option Nat := none
  counts : List Nat := []
  deriving DecidableEq, Repr, Inhabited

/-- The one-step instruction for a frame at egress `e`: ACTION, DOMAIN, and whether TC_EN ordered it. -/
def Cap.order (c : Cap) (e : Nat) : Nat × Nat × Bool :=
  if c.onestep ≠ 0 then (c.onestep, c.osDomain, false)
  else match c.tc.find? (fun x => x.1 = e) with
    | some (_, d) => (2, d, true)
    | none => (0, 0, false)

/-- One-step insertion at port `p` for a departure at `dep`. -/
def State.insertStep (s : State) (p : Nat) (f : Frame) (ed : Edited) (u : Nat) (dep : Inst) : Edited :=
  match f.cap with
  | none => ed
  | some c =>
    let (action, dom, tc) := c.order p
    if action = 0 then ed
    else match ed.ptp with
      | none => { ed with counts := ed.counts ++ [prtSlot p 87] }
      | some o =>
        let turn := action = 2 && s.comB TBS_PORT_CFG.PDELAY_TURN p
        let t := s.txStamp p dom dep / fracU
        let r := (f.stepsAt.getD dom 0 + s.swSteps dom) / fracU
        let i := oneStep ed.bytes o u action turn t r
        if !i.done then { ed with counts := ed.counts ++ [prtSlot p 87] }
        else
          { ed with bytes := i.bytes,
                    counts := ed.counts ++ [prtSlot p 85] ++ (if i.sat then [prtSlot p 86] else []) ++
                      (if turn && ptpType ed.bytes o = 3 then [stmpSlot p 6] else []) ++
                      (if tc then [stmpSlot p 5] else []) }

/-- A frame as port `p` sends it, without its FCS; none when it is longer than MAX_LEN. -/
def State.compose (s : State) (p : Nat) (f : Frame) (dep : Inst) : Option Edited :=
  let body := f.body
  let b := match f.cap with | some c => editFrame c f.cls body | none => body
  if s.com PRT_FRAME_CFG.MAX_LEN p < b.length + 4 then none
  else
    let shift (o : Nat) : Nat := o + b.length - body.length
    let (o, u) : Option Nat × Nat := match ptpMessage f.bytes with
      | some (o, u) => (some (shift o), if u = 0 then 0 else shift u)
      | none => (none, 0)
    let padded := if b.length < 60 then [prtSlot p 79] else []
    some (s.insertStep p f { bytes := padFrame b, ptp := o, counts := padded } u dep)

/-- Starts the head frame of queue `q` of client port `p`. -/
def State.startTx (s : State) (p q : Nat) (e : QEnt) (dep : Inst) : State :=
  let n := 16 * p + q
  let s := s.popHead n
  match s.compose p e.frame dep with
  | none => (s.count (prtSlot p 78)).dequeued n e.frame
  | some ed =>
    let t : Tx := { frame := e.frame, queue := n, bytes := ed.bytes ++ fcsBytes ed.bytes, start := s.now,
                    express := s.isExpress p q, dep := dep, counts := ed.counts, ptp := ed.ptp,
                    xmask := s.xmask p, addFrag := s.addFrag p, fragAt := s.now }
    s.updPort p fun o => { o with tx := some t }

/-- EGRESS_FRAME_START (R138, R149, R150, R225, R232): port `p` may start its next frame, or interrupt a preemptable
frame by an express one, or go on with an interrupted frame. -/
def execEgressFrameStart (p : Fin 256) (dep : Inst) (s : State) : Res :=
  if !s.portUp p || s.egrState p ≠ 0 || !s.macTx p || (s.port p).pfcDue || !s.macGap p then fin s
  else
    let s := (List.range 16).foldl (fun s q => s.reapHeads (16 * p + q)) s
    let o := s.port p
    match s.portChoice p (o.tx.isSome || o.preempted.isSome) with
    | some (q, d) =>
      match s.headEnt (16 * p + q) with
      | some e =>
        let halt (t : Tx) : Tx := { t with gone := t.gone + s.fragSent p t }
        let s := s.updPort p fun o => { o with dwrr := d, tx := none, preempted := o.preempted.or (o.tx.map halt) }
        fin (s.startTx p q e dep)
      | none => fin s
    | none =>
      if o.tx.isNone && o.preempted.isSome then
        fin (s.updPort p fun o => { o with tx := o.preempted.map (fun t => { t with frags := t.frags + 1, fragAt := s.now }),
                                           preempted := none })
      else fin s

/-! ### The end of a frame on transmit (R138, R145, R158, R318) -/

/-- The transmit report of a PTP event message. -/
def State.txReport (s : State) (p : Nat) (t : Tx) (aborted : Bool) : State :=
  match t.ptp with
  | some o =>
    if testBit (s.com TBS_PORT_CFG.TX_RPT_MASK p) (ptpType t.bytes o) then
      s.report p 1 (slice t.bytes o 34) (s.txStamp p (s.com TBS_PORT_CFG.RPT_DOMAIN p) t.dep) aborted t.dep
    else s
  | none => s

/-- The Tally slots that a flow entry names (R209). -/
def State.flowTally (s : State) (f : Frame) (len : Nat) : State :=
  match f.cap with
  | some c => match c.tally with
    | some n => (s.count n).count (n + 1) len
    | none => s
  | none => s

/-- A frame with the complement of its correct FCS (R145). -/
def stomped (bs : List Byte) : List Byte := bs.take (bs.length - 4) ++ (bs.drop (bs.length - 4)).map (~~~ ·)

/-- What port `p` sent comes back to its receiver under near-end loopback (R163). -/
def State.loopTx (s : State) (p : Nat) (t : Tx) (bs : List Byte) : State :=
  if s.com PRT_CFG.LOOPBACK p ≠ 1 then s
  else s.updPort p fun o => if t.express then { o with loop := o.loop ++ [(.frame, bs)] } else { o with loopP := o.loopP ++ [bs] }

/-- The last byte of port `p`'s frame is sent: whole, or stomped. -/
def State.txDone (s : State) (p : Nat) (t : Tx) (bad : Bool) : State :=
  let s := s.updPort p fun o => { o with tx := none }
  let s := s.each t.counts fun s n => s.count n
  let s := if bad || t.stomp then ((s.count (prtSlot p 82)).emit (.stomped p)).loopTx p t (stomped t.bytes)
    else
      let s := ((s.countFrame p 64 88 t.bytes).emit (.frame p t.express t.bytes)).loopTx p t t.bytes
      let s := s.count (stmpSlot p 1) (if t.ptp.isSome then 1 else 0)
      ((s.flowTally t.frame t.bytes.length).txReport p t false).noteSent p
  let s := if 1 < t.frags then (s.count (prtSlot p 83)).count (prtSlot p 84) (t.frags - 1) else s
  (s.dequeued t.queue t.frame).frameEdge p

/-- A frame cut while partly sent: an express one is aborted, a preemptable one abandoned (R138, R235, log entry 91). The
continuation fragments sent whole count, `whole` of them. -/
def State.cutOne (s : State) (p : Nat) (t : Tx) (whole : Nat) : State :=
  let s := (s.each t.counts fun s n => s.count n).count (prtSlot p (if t.express then 80 else 81))
  let s := if whole = 0 then s else s.count (prtSlot p 84) whole
  (s.txReport p t true).dequeued t.queue t.frame

/-- A link fault cuts the frames in progress, the interrupted one, which began first, before the one on the wire
(R138, R322). -/
def State.cutTx (s : State) (p : Nat) : State :=
  let o := s.port p
  let s := s.updPort p fun o => { o with tx := none, preempted := none }
  let s := match o.preempted with
    | some t => s.cutOne p t (t.frags - 1)
    | none => s
  match o.tx with
  | some t => (s.emit (.cut p)).cutOne p t (t.frags - 2)
  | none => s

/-! ### Receive (R141-R143, R146, R244, R247, R248) -/

/-- A PAUSE or PFC frame, or another MAC control frame. -/
def State.rxControl (s : State) (p : Nat) (bs : List Byte) : State :=
  let op := be16 bs 14
  let mode := s.com PRT_CFG.FC_MODE p
  if bs.take 6 ≠ [0x01, 0x80, 0xC2, 0x00, 0x00, 0x01] then s.count (prtSlot p 14)
  else if op = 0x0001 && mode = 1 then
    (((List.range 8).foldl (fun s c => s.setPause p c (be16 bs 16)) s).notePaused p).count (prtSlot p 5)
  else if op = 0x0101 && mode = 2 then
    ((List.range 8).foldl (fun s c =>
      if testBit (be16 bs 16) c && testBit (s.com PRT_PFC_CFG.RX_EN p) c then
        (s.setPause p c (be16 bs (18 + 2 * c))).count (prtSlot p (6 + c))
      else s) s).notePaused p
  else s.count (prtSlot p 14)

/-- The receiver of port `p` as a party (R263). -/
def rxTag (p : Nat) : Tag := { kind := kRECEIVER, id := p }

/-- The buffers of a frame being received go back (R142, R244). -/
def State.dropAsm (s : State) (p : Nat) (a : Assembly) : State :=
  let s := s.each a.bufs (fun s b => s.freeBuf (rxTag p) b)
  match a.cls with
  | some c => s.subIn p c (s.cells a.bufs)
  | none => s

/-- A frame refused a buffer, counted in slot `i` of its source, holds nothing more (R244, R248). -/
def State.refuse (s : State) (p i : Nat) (a : Assembly) : Assembly × State :=
  ({ a with bufs := [], cls := none, gone := true }, (s.dropAsm p a).count (grnSrcSlot p i))

/-- One more buffer for the frame. -/
def State.moreBuf (s : State) (p : Nat) (a : Assembly) : Assembly × State :=
  match s.request (s.com GRN_IN_CFG.POOL p) (rxTag p) with
  | (none, s) => s.refuse p 8 a
  | (some b, s) => ({ a with bufs := a.bufs ++ [b] }, match a.cls with
    | some c => s.addIn p c (s.cellsOf b.1)
    | none => s)

/-- The receiver's requests for the bytes stored, at most `k` of them (R244, R247, R248): the first buffer at the first
byte; the class at 64 bytes, when that buffer is judged against LIMIT; then a buffer whenever the one in use is full,
judged with the cells of the pool that will serve it. -/
def State.fillAsm (s : State) (p : Nat) : Nat → Assembly → Assembly × State
  | 0, a => (a, s)
  | k + 1, a =>
    if a.gone || a.bytes.isEmpty then (a, s)
    else if a.bufs.isEmpty then
      let (a, s) := s.moreBuf p a
      s.fillAsm p k a
    else match a.cls with
      | none =>
        if a.bytes.length < 64 then (a, s)
        else
          let c := s.rxClass p (a.bytes.take (max 60 (a.bytes.length - 4)))
          let n := s.cells a.bufs
          if s.overLimit p c n then s.refuse p c a
          else (s.addIn p c n).fillAsm p k { a with cls := some c }
      | some c =>
        if a.bytes.length ≤ 256 * s.cells a.bufs then (a, s)
        else if s.overLimit p c (s.cellsOf (s.server (s.com GRN_IN_CFG.POOL p))) then s.refuse p c a
        else
          let (a, s) := s.moreBuf p a
          s.fillAsm p k a

/-- `bs` arrives of frame `a` (R142, R152): stored up to MAX_LEN, with buffers; past it every buffer goes back. -/
def State.join (s : State) (p : Nat) (a : Assembly) (bs : List Byte) (bad : Bool) : Assembly × State :=
  let b : Assembly := { a with bytes := (a.bytes ++ bs).take a.max, len := a.len + bs.length,
                               crc := bs.foldl (crcLsbByte 0xEDB88320) a.crc, bad := a.bad || bad }
  if a.max < a.len then (b, s)
  else
    let (c, s) := s.fillAsm p (bs.length + 3) b
    if c.max < c.len then ({ c with bufs := [], cls := none }, s.dropAsm p c) else (c, s)

/-- D0 to D7 at an ingress position of port `p`, as its receive stamp has it, less the steps taken by then (R312, R313). -/
def State.ingressTimes (s : State) (p : Nat) (i : Inst) : List Int :=
  (s.ingressAt i).map (· - s.rxDelay (s.com PRT_CFG.FIRST_LANE p) - psToU (s.comS TBS_PORT_ADJ.RX_ADJ p))

/-- The timestamp report of a received precision time message that the port asks for. -/
def State.rxReport (s : State) (p : Nat) (bs : List Byte) (i : Inst) : State :=
  match ptpMessage bs with
  | some (o, _) =>
    let s := s.count (stmpSlot p 0)
    if testBit (s.com TBS_PORT_CFG.RX_RPT_MASK p) (ptpType bs o) then
      s.report p 0 (slice bs o 34) (s.rxStamp p (s.com TBS_PORT_CFG.RPT_DOMAIN p) i) false i
    else s
  | none => s

/-- A frame of port `p` with its buffers is counted, reported and enters its pipeline. -/
def State.admitRx (s : State) (p c : Nat) (bs : List Byte) (i : Inst) (got : List (Nat × Nat)) : State :=
  let s := s.countFrame p 0 27 bs
  let s := s.rxReport p bs i
  let f : Frame := { id := s.nextFrame, bytes := bs, src := p, pipe := s.com PRT_CFG.FIRST_LANE p / 16, rxClass := c,
                     tIn := s.now, stepsAt := s.ingressTimes p i, bufs := got }
  { s with nextFrame := s.nextFrame + 1 }.accept f

/-- The frame's FCS is good: the CRC of the whole frame leaves the fixed residue (R141). -/
def Assembly.good (a : Assembly) : Bool := a.crc = 0xDEBB20E3

/-- The frame of a receiver is dropped and counted under index `i` of its port. -/
def State.endAsm (s : State) (p : Nat) (a : Assembly) (i : Nat) : State := (s.dropAsm p a).count (prtSlot p i)

/-- R141: a received frame is classified once, by the first row that matches; one that was refused a buffer has been
counted (log entry 89). -/
def State.rxEnd (s : State) (p : Nat) (a : Assembly) (cut : Bool) : State :=
  let l := a.len
  let s := s.count (prtSlot p 26) l
  if a.gone then s
  else if cut then s.endAsm p a 21
  else if a.bad then s.endAsm p a 20
  else if l ≤ 63 then s.endAsm p a (if a.good then 15 else 16)
  else if a.max < l then s.endAsm p a (if a.good then 17 else 18)
  else if !a.good then s.endAsm p a 19
  else if be16 a.bytes 12 = etCTRL then (s.dropAsm p a).rxControl p a.bytes
  else if s.comB PRT_CFG.IP_CSUM_CHECK p && badIp4 (a.bytes.take (l - 4)) then s.endAsm p a 22
  else s.admitRx p (a.cls.getD 0) a.bytes a.inst a.bufs

/-- MAX_LEN in force at a tick of model time (R132). -/
def State.maxAt (s : State) (p t : Nat) : Nat := match (s.port p).oldMax with
  | some (at_, m) => if t < at_ then m else s.com PRT_FRAME_CFG.MAX_LEN p
  | none => s.com PRT_FRAME_CFG.MAX_LEN p

/-- A frame whose first bit arrives at position `i`. -/
def State.newAsm (s : State) (p : Nat) (i : Inst) : Assembly := { count := 0, inst := i, max := s.maxAt p i.tick }

/-- What a receiver with LOOPBACK 1 gets must be what its port sent (R163). -/
def State.looped (s : State) (p : Nat) (k : RxKind) (bs : List Byte) : Bool :=
  s.com PRT_CFG.LOOPBACK p ≠ 1 || match (s.port p).loop.head? with
    | some x => decide (x.1 = k) && (k ≠ .frame || x.2 = bs)
    | none => false

/-- The same for a fragment behind `n` bytes of its frame. -/
def State.loopedFrag (s : State) (p n : Nat) (last : Bool) (bs : List Byte) : Bool :=
  s.com PRT_CFG.LOOPBACK p ≠ 1 ||
    (match (s.port p).loopP.head?.or ((s.port p).under.map (·.bytes)) with
     | some x => ((x.drop n).take bs.length = bs) && decide (n + bs.length ≤ x.length) &&
        (!last || (n + bs.length = x.length && !(s.port p).loopP.isEmpty))
     | none => false)

/-- Far-end loopback: the received PCS stream is sent back while the port's lanes work, whatever its link state and its MAC make
of it (R163). -/
def State.echo (s : State) (p : Nat) (o : Out) : State :=
  let st := s.linkState p
  if s.com PRT_CFG.LOOPBACK p = 2 && s.fwdMode && 2 ≤ st && st ≤ 8 then s.emit o else s

/-- RECEIVE_FRAME (R141, R142, R151, R163): a frame, or a verify or respond packet of the MAC merge sublayer, received
whole. -/
def execReceiveFrame (p : Fin 256) (k : RxKind) (bytes : List Byte) (codeErr cut : Bool) (i : Inst) (s : State) : Res :=
  let s := s.echo p (.loopback p k bytes)
  if !s.portUp p || !s.looped p k bytes then fin s
  else
    let s := s.updPort p fun o => { o with loop := o.loop.drop 1 }
    match k with
    | .frame =>
      let (a, s) := s.join p (s.newAsm p i) bytes codeErr
      fin (s.rxEnd p a cut)
    | .verify => if s.comB PRT_CFG.PREEMPT_EN p then fin (s.macSend p (.respond p) .respond []) else fin s
    | .respond =>
      if (s.port p).verifyAt = 0 then fin s
      else fin ((s.updPort p fun o => { o with verifyAt := 0, verifyLeft := 0 }).wr PRT_STAT.PREEMPT_ACTIVE p 1)

/-- A reassembly with an error is dropped (R152); its bytes are bytes of an errored frame (R161). -/
def State.dropAssy (s : State) (p : Nat) (a : Assembly) : State :=
  ((s.dropAsm p a).count (prtSlot p 26) a.len).count (prtSlot p 23)

/-- A fragment has joined assembly `a` (R152): the last one gives the frame, a bad one ends the assembly. -/
def State.assemble (s : State) (p : Nat) (last mcrcOk : Bool) (a : Assembly) : State :=
  if last then
    (s.updPort p fun o => { o with loopP := o.loopP.drop 1 }).count (prtSlot p 25) |>.rxEnd p a false
  else if mcrcOk then s.updPort p fun o => { o with asm := some a }
  else s.dropAssy p a

/-- RECEIVE_FRAGMENT (R132, R152, R163): a preemptable fragment joins its reassembly. An open one goes on to its end, or to the
start of another frame, when PREEMPT_EN is taken back. -/
def execReceiveFragment (p : Fin 256) (k : FragKind) (last : Bool) (bytes : List Byte) (mcrcOk codeErr : Bool) (i : Inst)
    (s : State) : Res :=
  let old := (s.port p).asm
  let n := match k with | .start => 0 | .cont _ => (old.map (·.len)).getD 0
  let en := s.comB PRT_CFG.PREEMPT_EN p
  let s := s.echo p (.loopbackFrag p k last bytes)
  if !s.portUp p || !(en || old.isSome) || !s.loopedFrag p n last bytes then fin s
  else
    let s := (s.count (prtSlot p 24)).updPort p fun o => { o with asm := none }
    match k, old with
    | .start, _ =>
      let s := match old with | some a => s.dropAssy p a | none => s
      if !en then fin s else
      let (a, s) := s.join p (s.newAsm p i) bytes codeErr
      fin (s.assemble p last mcrcOk a)
    | .cont _, none => fin ((s.count (prtSlot p 26) bytes.length).count (prtSlot p 23))
    | .cont n, some a =>
      if a.count % 4 ≠ n.val then fin ((s.count (prtSlot p 26) bytes.length).dropAssy p a)
      else
        let (a, s) := s.join p { a with count := a.count + 1 } bytes codeErr
        fin (s.assemble p last mcrcOk a)

end Sys2Proof.Machine
end

