-- ==== Sys2Proof/Machine/Ports.lean ====
section
/-! DEFINITION. Sys2Proof/Machine/Ports.lean: bring-up and loss of a client port (R129-R140), its commits, optics and
counters (R157-R162). -/
namespace Sys2Proof.Machine

/-! ### Link states (R135) -/
def lsDISABLED : Nat := 0
def lsPOWERING : Nat := 1
def lsWAIT_SIGNAL : Nat := 2
def lsADAPT : Nat := 3
def lsALIGN : Nat := 4
def lsUP_PENDING : Nat := 5
def lsDOWN_PENDING : Nat := 7
def lsFAILED : Nat := 8
def lsHELD : Nat := 9

def State.setLink (s : State) (p v : Nat) : State := s.wr PRT_STAT.LINK_STATE p v
/-- Lanes of a port, and a port's deadline. -/
def State.portLanes (s : State) (p : Nat) : List Nat :=
  (List.range (2 ^ s.com PRT_CFG.WIDTH p)).map (s.com PRT_CFG.FIRST_LANE p + ·)
def State.portTimer (s : State) (p : Nat) (t : Option Nat) : State := s.updPort p fun o => { o with timer := t }
def State.portDue (s : State) (p : Nat) : Bool := match (s.port p).timer with | some t => t ≤ s.now | none => false

/-! ### Lane power (R85) -/

/-- A port, carrier or mirror lane is powering its lanes, or in hold. -/
def State.powering (s : State) : Bool :=
  (List.range 256).any (fun p => s.linkState p = lsPOWERING || s.linkState p = lsHELD) ||
  (List.range 128).any (fun c => s.cst c = cPOWERING || s.cst c = cHELD) ||
  (List.range 4).any (fun i => (s.mlane i).st = 1)

/-- Lanes power down; with the last lane of a group its reference stops, with the last of all rail 0 goes off, unless
another object is powering its lanes (log entry 93). -/
def State.dropLanes (s : State) (l : List Nat) : State :=
  let s := s.updPwr fun p => { p with lanes := p.lanes.filter (fun x => !l.contains x),
                                      held := p.held.filter (fun x => !l.contains x) }
  let run := s.rd PWR_CLK_STAT.SDREF_RUN
  let s := s.wr PWR_CLK_STAT.SDREF_RUN 0 ((List.range 16).foldl (fun w k =>
    if testBit run k && s.pwr.lanes.any (fun x => x / 16 = k) then setBit w k else w) 0)
  if s.pwr.lanes.isEmpty && !s.powering then s.railOff 0 else s

/-! ### Up and down -/

/-- The port reaches UP (R136, R139, R151, R234). -/
def State.goUp (s : State) (p : Nat) : State :=
  let s := ((s.setLink p lsUP).wr PRT_STAT.RETRY p 0).updPort p fun o => { o with timer := none, retry := false, faults := 0 }
  let s := (s.raise EV.PRT_LINK_UP p).egressUp p
  let s := s.startVerify p
  if s.pfcMask p = 0 then s else if s.macTx p then s.sendPfc p else s.updPort p fun o => { o with pfcDue := true }

/-- Lock is held and no fault is present: UP_PENDING, or UP at once (R135-R137). -/
def State.alignOk (s : State) (p : Nat) : State :=
  let s := if s.bit PRT_STAT.RETRY p then ((s.wr PRT_STAT.RETRY p 0).raise EV.PRT_TRAIN_TRANSIENT p).transientFault 6 else s
  let d := s.rd PRT_LINK_CFG.UP_DEB p
  let s := (s.setLink p lsUP_PENDING).portTimer p (some (s.now + d * msT))
  if d = 0 then s.goUp p else s

/-- The port waits for signal again; its attempt count returns to zero. -/
def State.toWait (s : State) (p : Nat) : State :=
  let s := (s.setLink p lsWAIT_SIGNAL).updPort p fun o => { o with timer := none, retry := false }
  ((s.wr PRT_STAT.RETRY p 0).wr PRT_STAT.SIG_ALL p 0).wr PRT_STAT.FEC_LOCK p 0

/-- ALIGN with lock held waits without limit; without lock a search runs for 2 ms. -/
def State.toAlign (s : State) (p : Nat) (locked : Bool) : State :=
  ((s.setLink p lsALIGN).wrB PRT_STAT.FEC_LOCK p locked).portTimer p (if locked then none else some (s.now + 2 * msT))

/-- The port-down event (R137, R139): cause, pause state, egress. -/
def State.portDown (s : State) (p cause : Nat) : State :=
  let s := (s.wr PRT_STAT.DOWN_CAUSE p cause).raise EV.PRT_LINK_DOWN p
  let s := s.updPort p fun o => { o with pauseFrom := [], pauseEnd := [], sent := 0, left := 0, pfcDue := false, verifyLeft := 0,
                                         verifyAt := 0, verifyFailed := false, timer := none, preDue := false,
                                         loop := [], loopP := [] }
  let s := ((s.notePaused p).wr PRT_STAT.TX_XOFF p 0).wr PRT_STAT.PREEMPT_ACTIVE p 0
  (s.count (prtSlot p 41)).egressDown p

/-- A frame in progress on receive, as far as it is in a reassembly, is truncated (R138, R141). -/
def State.cutRx (s : State) (p : Nat) : State := match (s.port p).asm with
  | some a => (s.updPort p fun o => { o with asm := none }).rxEnd p a true
  | none => s

/-! ### What the transmitter sends between frames (R134, R135) -/

/-- Idles, or the remote fault signal while the receive side reports a local fault: lock is missing, or the PCS raises
one (R134, log entry 94); lanes without power, and lanes in hold, carry neither. -/
def State.portLine (s : State) (p : Nat) : PortLine :=
  let st := s.linkState p
  if st = lsDISABLED || st = lsPOWERING || st = lsHELD then .dark
  else if s.com PRT_CFG.LOOPBACK p = 2 then .echo
  else if st = lsWAIT_SIGNAL || st = lsFAILED then .idle
  else if !s.bit PRT_STAT.SIG_ALL p || !s.bit PRT_STAT.FEC_LOCK p || s.bit PRT_STAT.LOCAL_FAULT p then .remoteFault
  else .idle

/-- A change of what port `p` sends between frames since state `b` goes out. -/
def State.noteLine (s b : State) (p : Nat) : State :=
  if s.portLine p = b.portLine p then s else s.emit (.line p (s.portLine p))

def causeOf (faults : Nat) : Nat :=
  if testBit faults 0 then 2 else if testBit faults 1 then 3 else if testBit faults 2 then 4 else 5

/-- DOWN_DEB ends with faults present. -/
def State.debounced (s : State) (p : Nat) : State :=
  let f := (s.port p).faults
  let s := s.portDown p (causeOf f)
  if testBit f 0 then s.toWait p else s.toAlign p (!testBit f 1)

/-! ### Meanings of the bring-up rows -/

/-- SIGNAL_DETECT and ADAPT_DONE for a port (R135). -/
def State.portSignal (s : State) (p : Nat) : State :=
  if s.fwdMode && s.linkState p = lsWAIT_SIGNAL then
    (((s.wr PRT_STAT.SIG_ALL p 1).setLink p lsADAPT).portTimer p (some (s.now + 50 * msT))).noteLine s p
  else s
def State.portAdapted (s : State) (p : Nat) : State :=
  if s.fwdMode && s.linkState p = lsADAPT then s.toAlign p false else s

/-- Lanes have reached lock: their paths are to be measured (R432). -/
def State.dueLanes (s : State) (l : List Nat) : State :=
  let new := l.flatMap (fun x => [(2 * x, s.now), (2 * x + 1, s.now)])
  s.updCal fun c => { c with due := new ++ c.due.filter (fun d => !l.contains (d.1 / 2)) }

/-- ALIGN_LOCK (R135, R432): lock is reached, with the faults that are present. -/
def State.alignLock (s : State) (p : Nat) (localF remoteF : Bool) : State :=
  let s := ((s.toAlign p true).wrB PRT_STAT.LOCAL_FAULT p localF).wrB PRT_STAT.REMOTE_FAULT p remoteF
  if localF || remoteF then s else s.alignOk p

def execAlignLock (p : Fin 256) (localF remoteF : Bool) (s : State) : Res :=
  if s.fwdMode && s.linkState p = lsALIGN then fin (((s.alignLock p localF remoteF).dueLanes (s.portLanes p)).noteLine s p)
  else fin s

/-- ATTEMPT_TIMEOUT (R136). -/
def execAttemptTimeout (p : Fin 256) (s : State) : Res :=
  let b := s
  if !s.fwdMode || !(s.linkState p = lsADAPT || s.linkState p = lsALIGN) || !s.portDue p then
    if s.wasCut (.portFail p) then
      fin (((s.pastCut (.portFail p)).raise EV.PRT_LINK_FAIL p).lastingFault 6 (s.com PRT_CFG.FIRST_LANE p) true)
    else fin s
  else if !(s.port p).retry then
    let s := (s.updPort p fun o => { o with retry := true, timer := some (s.now + 50 * msT) }).wr PRT_STAT.RETRY p 1
    fin (((s.setLink p lsADAPT).wr PRT_STAT.FEC_LOCK p 0).noteLine b p)
  else
    let s := ((s.setLink p lsFAILED).portTimer p none).wr PRT_STAT.RETRY p 0
    fin (((s.raise EV.PRT_LINK_FAIL p).noteLine b p).lastingFault 6 (s.com PRT_CFG.FIRST_LANE p) true)

/-- UP_DEBOUNCE_EXPIRY (R135). -/
def execUpDebounceExpiry (p : Fin 256) (s : State) : Res :=
  if s.fwdMode && s.linkState p = lsUP_PENDING && s.portDue p then fin (s.goUp p)
  else if s.wasCut (.portUp p) then fin ((s.pastCut (.portUp p)).raise EV.PRT_LINK_UP p) else fin s

/-- The faults that are present now on the port, from the bits of `f`: no signal, no lock, local, remote (R135, R137). From
UP_PENDING, and from ALIGN with lock, a fault takes the port back to ALIGN; without lock a new search of 2 ms begins
(DESIGN CHOICE, log entry 88: R135 gives no exit for it). -/
def State.linkFault (s : State) (p f : Nat) : State :=
  let st := s.linkState p
  let sig := testBit f 0
  let lock := testBit f 1
  let s := (s.wrB PRT_STAT.SIG_ALL p (!sig)).updPort p fun o => { o with faults := f }
  let s := (s.wrB PRT_STAT.LOCAL_FAULT p (testBit f 2)).wrB PRT_STAT.REMOTE_FAULT p (testBit f 3)
  if st = lsUP then
    if f = 0 then s
    else
      let s := ((s.wrB PRT_STAT.FEC_LOCK p (!lock)).cutTx p).cutRx p
      let s := (s.setLink p lsDOWN_PENDING).updPort p fun o => { o with downAt := s.now }
      if s.rd PRT_LINK_CFG.DOWN_DEB p = 0 then s.debounced p else s
  else if st = lsDOWN_PENDING then s.wrB PRT_STAT.FEC_LOCK p (!lock)
  else if sig then s.toWait p
  else if st = lsADAPT then s
  else if lock then if st = lsALIGN && !s.bit PRT_STAT.FEC_LOCK p then s else s.toAlign p false
  else if st = lsUP_PENDING then if f = 0 then s else s.toAlign p true
  else if s.bit PRT_STAT.FEC_LOCK p && f = 0 then s.alignOk p else s

/-- PORT_LINK_FAULT (R135, R137). -/
def execPortLinkFault (p : Fin 256) (sig lock loc rem : Bool) (s : State) : Res :=
  let f := (if sig then 1 else 0) + (if lock then 2 else 0) + (if loc then 4 else 0) + (if rem then 8 else 0)
  let st := s.linkState p
  if !s.fwdMode || !(lsADAPT ≤ st && st ≤ lsDOWN_PENDING) then fin s
  else fin ((s.linkFault p f).noteLine s p)

/-- GLITCH (R137): every fault clears within DOWN_DEB. -/
def execGlitch (p : Fin 256) (s : State) : Res :=
  let b := s
  if s.fwdMode && s.linkState p = lsDOWN_PENDING && decide (s.now ≤ (s.port p).downAt + s.rd PRT_LINK_CFG.DOWN_DEB p * usT) then
    let s := (s.setLink p lsUP).updPort p fun o => { o with faults := 0 }
    let s := (((s.wr PRT_STAT.SIG_ALL p 1).wr PRT_STAT.FEC_LOCK p 1).wr PRT_STAT.LOCAL_FAULT p 0).wr PRT_STAT.REMOTE_FAULT p 0
    fin (((s.raise EV.PRT_GLITCH p).frameEdge p).noteLine b p)
  else if s.wasCut (.portGlitch p) then fin ((s.pastCut (.portGlitch p)).raise EV.PRT_GLITCH p) else fin s

/-- DOWN_DEBOUNCE_EXPIRY (R137). After a switch reset of the same tick only the event is raised (R450), as by the rows beside
it. -/
def execDownDebounceExpiry (p : Fin 256) (s : State) : Res :=
  if s.fwdMode && s.debEnds p then fin ((s.debounced p).noteLine s p)
  else if s.wasCut (.portDown p) then fin ((s.pastCut (.portDown p)).raise EV.PRT_LINK_DOWN p) else fin s

/-- FEC_DEGRADE_WINDOW (R140, R161): a 1 ms window of the port's FEC counts ends. -/
def execFecDegradeWindow (p : Fin 256) (c : FecCounts) (s : State) : Res :=
  let t := s.rd PRT_FEC_CFG.DEGRADE_THR p
  let degraded : Bool := t ≠ 0 && decide (t < c.symbols)
  if !s.fwdMode || !(lsALIGN ≤ s.linkState p && s.linkState p ≤ lsDOWN_PENDING) then
    if s.wasCut (.portFec p) && degraded then fin ((s.pastCut (.portFec p)).raise EV.PRT_FEC_DEGRADE p) else fin s
  else
    let s := ((s.count (prtSlot p 38) c.corrected).count (prtSlot p 39) c.uncorrectable).count (prtSlot p 40) c.symbols
    if degraded then fin (s.raise EV.PRT_FEC_DEGRADE p) else fin s

/-! ### Enable, disable and the commit of the PRT_ group (R132, R133, R135) -/

/-- The lanes of a list are all powered. -/
def State.allPowered (s : State) (l : List Nat) : Bool := l.all (fun x => s.pwr.lanes.contains x)

/-- An enabled port starts its bring-up: from hold when its lanes are powered, or by powering its lanes. -/
def State.portStart (s : State) (p : Nat) : State :=
  let lanes := s.portLanes p
  let was := s.linkState p
  let s := if was = lsHELD then s.updPwr fun w => { w with held := w.held.filter (fun x => !lanes.contains x) } else s
  if was = lsHELD && s.allPowered lanes then s.toWait p else (s.rampRail 0).setLink p lsPOWERING

/-- A port enabled with HOLD 1 in TIMEKEEP powers its lanes and keeps them in hold (R77, R133; DEDUCED, log entry 90). -/
def State.portHold (s : State) (p : Nat) : State := (s.rampRail 0).setLink p lsHELD

/-- A port is disabled: port-down first where it was up, then its lanes lose power. Frames in progress are cut and counted
as at a link fault (DESIGN CHOICE, log entry 91). -/
def State.portStop (s : State) (p : Nat) : State :=
  let st := s.linkState p
  let s := if st = lsUP || st = lsDOWN_PENDING then ((s.cutTx p).cutRx p).portDown p 1 else s
  let s := s.updPort p fun o => { o with timer := none, retry := false, faults := 0, asm := none }
  let s := (((s.setLink p lsDISABLED).wr PRT_STAT.RETRY p 0).wr PRT_STAT.SIG_ALL p 0).wr PRT_STAT.FEC_LOCK p 0
  let s := (s.wr PRT_STAT.LOCAL_FAULT p 0).wr PRT_STAT.REMOTE_FAULT p 0
  (s.dropLanes (s.portLanes p)).egressOff p

/-- MAX_LEN, LOOPBACK and the preemption settings of an enabled port after a commit (R132, R163). VERIFY_DIS, which R132 does not
name, waits for the frame boundary like the others, and its change from 1 to 0 leaves active preemption active (DESIGN CHOICE,
log entry 124). -/
def State.portSettings (s b : State) (p : Nat) : State :=
  let m := b.com PRT_FRAME_CFG.MAX_LEN p
  let s := if m = s.com PRT_FRAME_CFG.MAX_LEN p then s else s.updPort p fun o => { o with oldMax := some (s.now, m) }
  let s := if b.com PRT_CFG.LOOPBACK p = s.com PRT_CFG.LOOPBACK p then s
    else s.updPort p fun o => { o with loop := [], loopP := [] }
  if s.portUp p && (b.comB PRT_CFG.PREEMPT_EN p ≠ s.comB PRT_CFG.PREEMPT_EN p ||
      b.comB PRT_PREEMPT_CFG.VERIFY_DIS p ≠ s.comB PRT_PREEMPT_CFG.VERIFY_DIS p) then
    (s.updPort p fun o => { o with preDue := true }).frameEdge p
  else s

/-- The lanes of an enabled port that is not held in TIMEKEEP follow HOLD (R133). -/
def State.portFollowHold (s : State) (p : Nat) : State :=
  if s.mode ≠ mTIMEKEEP then s
  else if s.comB PRT_CFG.HOLD p then if s.linkState p = lsHELD then s else s.portHold p
  else if s.linkState p = lsHELD then (s.setLink p lsDISABLED).dropLanes (s.portLanes p) else s

/-- What an applied commit of PRT_ does; `b` is the state before it. -/
def State.prtCommit (s b : State) : State :=
  (List.range 256).foldl (fun s p =>
    let was := b.comB PRT_CFG.ENABLE p
    let on := s.comB PRT_CFG.ENABLE p
    let s := if was && !on then s.portStop p
      else if !on then s
      else if !was && s.fwdMode then s.portStart p
      else (s.portFollowHold p).portSettings b p
    s.noteLine b p) s

/-! ### Optics, Tally and commands (R157, R158, R162) -/

/-- OPT_INT_EDGE (R157): an edge on OPT_INT_N; a falling one sets INT_EVT while the port block has power. -/
def execOptIntEdge (bus : Fin 16) (low : Bool) (s : State) : Res :=
  let was := testBit s.pwr.optLow bus
  let s := s.updPwr fun p => { p with optLow := putBit p.optLow bus low }
  if !s.railOk 6 then fin s
  else
    let s := s.wr PRT_OPT_STAT.INT_LVL 0 s.pwr.optLow
    if low && !was then fin (s.wr PRT_OPT_STAT.INT_EVT 0 (setBit (s.rd PRT_OPT_STAT.INT_EVT) bus)) else fin s

/-- TALLY_FOLD (R158). -/
def execTallyFold (s : State) : Res := if s.railOk 1 then fin s.fold else fin s

/-- CMD_PRT_COUNTERS_READ. -/
def execCmdPrtCountersRead (m : Fin 16) (x : Exec) (s : State) : Res :=
  fin (s.countersCmd m 0x101 x 2 255 128 State.cntMode (fun p => prtSlot p 0))

/-- The checks of CMD_PRT_OPT_XFER (R162). -/
def State.optChecks (s : State) (m : Nat) : List Check :=
  let wrLen := s.pay m 2 2
  let rdLen := s.pay m 4 2
  s.headChecks m (fun n => 8 ≤ n && n = 8 + wrLen) ++
  [chk ST_BAD_ARGUMENT (s.pay m 6 2 ≠ 0), chk ST_ZERO_INVALID (wrLen = 0 && rdLen = 0),
   chk ST_BAD_ARGUMENT (decide (15 < s.pay m 0 1) || decide (127 < s.pay m 1 1) || decide (256 < wrLen) || decide (256 < rdLen)),
   chk ST_WRONG_MODE (!s.tkMode), chk followDetail s.follow]

/-- The transfer that the command's payload orders. -/
def State.optXfer (s : State) (m : Nat) : State :=
  s.emit (.i2c (s.pay m 0 1) (s.pay m 1 1) (s.payBytes m 8 (s.pay m 2 2)) (s.pay m 4 2))

/-- A transfer on a bus held low, and the 9 clocks that recover the bus (R162). -/
def State.optRecover (s : State) (m : Nat) : State := (s.optXfer m).emit (.i2cClocks (s.pay m 0 1))

/-- CMD_PRT_OPT_XFER (R157, R162): what the bus answered: the status, the byte not acknowledged, the bytes read. A bus held
low is the error of its execution: recovered once, it ends with ST_LASTING_FAULT at the second. -/
def execCmdPrtOptXfer (m : Fin 16) (x : Exec) (status : Fin 3) (idx : BitVec 16) (data : List Byte) (s : State) : Res :=
  let runs := s.ready m 0x102 && !s.recovery && (firstFail ((s.setMst m mRUNNING).optChecks m)).isNone
  let again := (s.mbxAt m).retry
  let s := if !runs || x = .clean then s
    else if again then s.optXfer m
    else if x = .failed then (s.optRecover m).optXfer m else s.optRecover m
  fin (s.cmd m 0x102 x (fun s => s.optChecks m)
    (fun s => (s.optXfer m).complete m ST_OK (if status = 2 then idx.toNat else 0)
      ([BitVec.ofNat 8 status.val, 0, 0, 0] ++ slice (if status = 0 then data else []) 0 (s.pay m 4 2))))

end Sys2Proof.Machine
end

