-- ==== Sys2Proof/Machine/Sheaf.lean ====
section
/-! DEFINITION. Sys2Proof/Machine/Sheaf.lean: the Sheaf as one logical line: carrier states and what follows from them,
the record stream and its grains on transmit, the egress decision of the Almanac, reassembly and delineation on receive
(chapter 6, R290). -/
namespace Sys2Proof.Machine

/-! ### Carrier states and the Sheaf they make (R180, R182, R183, R189) -/

def seqMod : Nat := 1099511627776
/-- `a - b` of sequence numbers, modulo 2^40. -/
def seqDiff (a b : Nat) : Nat := (a + seqMod - b % seqMod) % seqMod

/-- RX_STATE codes. -/
def rxIDLE : Nat := 0
def rxSYNC : Nat := 1
def rxRUN : Nat := 2
def State.rxState (s : State) (h : Nat) : Nat := s.rd SHF_SHEAF_STAT.RX_STATE h

/-- LOSS_WAIT of Sheaf `h`: 250 ns plus the largest skew of its ACTIVE carriers, rounded up to a nanosecond. -/
def State.noteLossWait (s : State) (h : Nat) : State :=
  let k := (s.activeOf h).foldl (fun a c => max a (s.skewQ c)) 0
  s.wr SHF_LOSS_WAIT.LOSS_WAIT h (min 8250 (250 + ceilDiv k.toNat 65536))

/-- LOSS_WAIT in ticks. -/
def State.lossTicks (s : State) (h : Nat) : Nat := ceilDiv (s.rd SHF_LOSS_WAIT.LOSS_WAIT h * 8) 5

/-- With no ACTIVE carrier and no grain held, the receive side is IDLE. -/
def State.rxIdle (s : State) (h : Nat) : State :=
  if (s.activeOf h).isEmpty && (s.sheaf h).held.isEmpty && s.rxState h ≠ rxIDLE then
    (s.wr SHF_SHEAF_STAT.RX_STATE h rxIDLE).updSheaf h fun o => { o with emptyAt := none }
  else s

/-- ACTIVE_CNT, RATE_SUM and LOSS_WAIT; the up and down events of the Sheaf as an egress; RATE_SHORT. -/
def State.noteSheaf (s : State) (h : Nat) : State :=
  let act := s.activeOf h
  let n := act.length
  let was := s.rd SHF_SHEAF_STAT.ACTIVE_CNT h
  let s := (s.wr SHF_SHEAF_STAT.ACTIVE_CNT h n).wr SHF_SHEAF_STAT.RATE_SUM h
    (act.foldl (fun a c => a + s.com SHF_CAR_CFG.RATE c) 0)
  let s := s.noteLossWait h
  let s := if was = 0 && n ≠ 0 then (s.updSheaf h fun o => { o with emptyAt := none }).egressUp (256 + h)
    else if was ≠ 0 && n = 0 then
      ((s.updSheaf h fun o => { o with emptyAt := some s.now }).rxIdle h).egressDown (256 + h)
    else s
  s.noteRate h

/-- Carrier `c` changes its state. -/
def State.setCar (s : State) (c v : Nat) : State :=
  if s.cst c = v then s else ((s.wr SHF_CAR_STAT.STATE c v).ttNote c).noteSheaf (s.carSheaf c)

/-! ### The record stream on transmit (R173, R174, R177) -/

/-- A record header. -/
def recHeader (len : Nat) : List Byte :=
  let b := beBytes 3 (len * 1024)
  b ++ [BitVec.ofNat 8 (crc8 b)]

/-- Stream position of offset `o` of the bytes that wait for grains. -/
def Sheaf.posOf (x : Sheaf) (o : Nat) : Nat := (256 * (x.nextSeq + o / 248) + 8 + o % 248) % 2 ^ 48

/-- Fill records that the spacing of 84 bytes asks for before the next frame record; 22 of them always suffice. -/
def Sheaf.spacing (x : Sheaf) : Nat :=
  match x.txLastStart with
  | none => 0
  | some p => ((List.range 22).find? (fun k => decide (84 ≤ (x.posOf (x.txBytes.length + 4 * k) + 2 ^ 48 - p) % 2 ^ 48))).getD 0

/-- Appends a frame's record after the fill that the spacing asks for. -/
def Sheaf.addRecord (x : Sheaf) (frame : List Byte) : Sheaf :=
  let k := x.spacing
  let n := x.txBytes.length
  { x with
    txBytes := x.txBytes ++ List.replicate (4 * k) (0 : Byte) ++ recHeader frame.length ++ frame ++
      List.replicate ((4 - frame.length % 4) % 4) (0 : Byte)
    txStarts := x.txStarts ++ (List.range (k + 1)).map (fun i => n + 4 * i)
    txLastStart := some (x.posOf (n + 4 * k)), txFrames := x.posOf (n + 4 * k) :: x.txFrames }

/-- Whether stream position `p` lies before that of the grain of number `n`. -/
def posBefore (n p : Nat) : Bool := let d := (256 * n + 2 ^ 48 - p % 2 ^ 48) % 2 ^ 48; 0 < d && d < 2 ^ 47

/-- The frame starts that still wait, with the newest one of those before grain `n`. -/
def startsFrom (n : Nat) (l : List Nat) : List Nat :=
  l.filter (fun p => !posBefore n p) ++ (l.filter (posBefore n)).take 1

/-- Starts the entry `e` of queue `n` (a queue of Sheaf `h`) as the Sheaf's frame in progress (R176, R290). -/
def State.startSheafTx (s : State) (h n : Nat) (e : QEnt) : State :=
  let s := s.updQueue n fun q => { q with ents := joinHead (q.ents.filter (fun x => x.frame.id ≠ e.frame.id)) }
  let body := leavingBody e.frame
  if s.com SHF_CFG.MAX_LEN h < body.length + 4 then (s.count (shfSlot h 68)).dequeued n e.frame
  else
    let skip : Bool := match e.frame.cap with | some c => (c.order (256 + h)).1 ≠ 0 | none => false
    let b := padFrame body
    let t : Tx := { frame := e.frame, queue := n, bytes := b ++ fcsBytes b, start := s.now, padded := body.length < 60,
                    counts := (if body.length < 60 then [shfSlot h 69] else []) ++ (if skip then [shfSlot h 71] else []) }
    let k := (s.sheaf h).spacing
    (s.updSheaf h fun x => { x.addRecord t.bytes with tx := some t }).count (shfSlot h 67) (4 * k)

/-! ### The egress decision (R225, R285, R289, R290) -/

/-- The bound frames of a window instance, with their queues; the oldest comes first (R285). -/
def State.boundHead (s : State) (h : Nat) (b : Nat × Nat) : Option (Nat × QEnt) :=
  let l := (schedQueues h).flatMap (fun n => ((s.queue n).ents.filter (fun e => e.bound = some b)).map (fun e => (n, e)))
  l.foldl (fun best x => match best with
    | none => some x
    | some y => if x.2.boundNo < y.2.boundNo then some x else some y) none

/-- An elastic frame of `len` bytes ends before the next window begins (R290). -/
def State.fitsBefore (s : State) (h len : Nat) : Bool :=
  match s.nextWin h with
  | some f => decide (charge len ≤ s.liveCap h (s.ticksTo f))
  | none => true

/-- The elastic queues' turn (R290, R293): the arbiter's choice starts if it ends before the next window; `inWin` in a
window that its bound queue does not use. -/
def State.elasticTurn (s : State) (h : Nat) (dw : Dwrr) (inWin : Bool) : State :=
  match s.elasticChoice (256 + h) dw (fun _ => true) with
  | none => s.updAlmSheaf h fun a => { a with guard := false }
  | some (c, d) =>
    let n := 16 * (256 + h) + 2 * c
    match s.headEnt n with
    | none => s
    | some e =>
      let len := leavingLen e.frame
      if s.fitsBefore h len then
        let s := (s.updSheaf h fun x => { x with dwrr := d }).updAlmSheaf h fun a => { a with guard := false }
        let starts : Bool := (leavingBody e.frame).length + 4 ≤ s.com SHF_CFG.MAX_LEN h
        let s := if inWin && starts then s.count (almSlot h 10) len else s
        s.startSheafTx h n e
      else s.updAlmSheaf h fun a => { a with guard := true }

/-- SHEAF_EGRESS_DECISION (R176, R290): Sheaf `h` has no frame in progress and room in the grain being made. -/
def execSheafEgressDecision (h : Fin 32) (s : State) : Res :=
  let x := s.sheaf h
  if !s.fwdMode || !s.comB SHF_CFG.ENABLE h || x.tx.isSome || 248 ≤ x.txBytes.length || s.egrState (256 + h) ≠ 0 then fin s
  else
    let s := (List.range 16).foldl (fun s q => s.reapHeads (16 * (256 + h.val) + q)) s
    let w := s.openWin h
    match w with
    | none => fin (s.elasticTurn h x.dwrr w.isSome)
    | some (w, f) =>
      match s.boundHead h (w.w, f) with
      | none => fin (s.elasticTurn h x.dwrr true)
      | some (n, e) =>
        let a := s.almSheaf h
        let used := if a.inst = f + 1 then a.used else 0
        let len := leavingLen e.frame
        let cap := s.liveCap h (s.ticksTo (f + w.slots))
        if s.com SHF_CFG.MAX_LEN h < (leavingBody e.frame).length + 4 then fin (s.startSheafTx h n e)
        else if charge len ≤ min (w.bytes - used) cap then
          let s := s.updAlmSheaf h fun a => { a with inst := f + 1, used := used + charge len, guard := false,
                                                     short := a.short && a.inst = f + 1 }
          fin (((s.count (almSlot h 2)).count (almSlot h 3) len).startSheafTx h n e)
        else
          let lack : Bool := charge len ≤ w.bytes - used
          let s := s.updAlmSheaf h fun a => { a with inst := f + 1, used := used, short := lack || (a.short && a.inst = f + 1) }
          fin (s.elasticTurn h x.dwrr true)

/-! ### Grains (R171, R177-R179) -/

/-- The next grain's 248 bytes and FSP, with fill after the waiting bytes; the Sheaf after them. -/
def Sheaf.pull (x : Sheaf) : (List Byte × Nat) × Sheaf :=
  let n := x.txBytes.length
  let starts := x.txStarts ++ (if n < 248 then [n] else [])
  let fsp := match starts.head? with | some o => if o < 248 then o / 4 else 63 | none => 63
  ((slice x.txBytes 0 248, fsp),
   { x with txBytes := x.txBytes.drop 248, txStarts := (x.txStarts.filter (248 ≤ ·)).map (· - 248),
            txFrames := startsFrom (x.nextSeq + 1) x.txFrames, nextSeq := (x.nextSeq + 1) % seqMod })

/-- A grain: header and body. -/
def grainHeader (seq ty fsp sheaf leg : Nat) : List Byte :=
  let b := beBytes 5 seq ++ [BitVec.ofNat 8 (ty * 64 + fsp), BitVec.ofNat 8 (sheaf * 8 + leg * 4)]
  b ++ [BitVec.ofNat 8 (crc8 b)]

/-- Sheaf `h` makes its next grain: SEQ, bytes, FSP. -/
def State.makeGrain (s : State) (h : Nat) : (Nat × List Byte × Nat) × State :=
  let s := s.noteOverrun h
  let x := s.sheaf h
  let ((bs, fsp), x') := x.pull
  let fill := 248 - min 248 x.txBytes.length
  let s := (s.updSheaf h fun _ => x').count (shfSlot h 66)
  let s := s.count (shfSlot h 67) fill
  ((x.nextSeq, bs, fsp), if (s.almSheaf h).guard then s.count (almSlot h 11) fill else s)

/-- Leg that makes the grains in duplicate mode: the slower one with an ACTIVE carrier after the timing grains are taken
out, 2,048 Mb/s a carrier, leg 0 of equals (R179, R187). -/
def State.makingLeg (s : State) (h : Nat) : Nat :=
  let rate (g : Nat) : Nat := ((s.activeOf h).filter (fun c => s.com SHF_CAR_CFG.LEG c = g)).foldl
    (fun a c => a + (25000 * s.com SHF_CAR_CFG.RATE c - 2048)) 0
  if rate 0 = 0 then 1 else if rate 1 = 0 then 0 else if rate 1 < rate 0 then 1 else 0

def Sheaf.legNext (x : Sheaf) (g : Nat) : Nat := if g = 0 then x.legSeq.1 else x.legSeq.2
def Sheaf.setLeg (x : Sheaf) (g v : Nat) : Sheaf :=
  let x := { x with legSeq := if g = 0 then (v, x.legSeq.2) else (x.legSeq.1, v) }
  let gone (q : Nat) : Bool := seqMod / 2 < seqDiff q x.legSeq.1 && seqMod / 2 < seqDiff q x.legSeq.2
  { x with made := x.made.filter (fun e => !gone e.1) }

/-- The grain that leg `g` pulls in duplicate mode: one made before, or a new one of the making leg. A leg without
ACTIVE carriers follows the other. -/
def State.pullLeg (s : State) (h g : Nat) : Option (Nat × List Byte × Nat) × State :=
  let x := s.sheaf h
  let ready := x.made.filter (fun e => seqDiff e.1 (x.legNext g) < seqMod / 2)
  match ready.foldl (fun b e => match b with
      | none => some e
      | some y => if seqDiff e.1 (x.legNext g) < seqDiff y.1 (x.legNext g) then some e else some y) none with
  | some (q, bs, fsp) => (some (q, bs, fsp), s.updSheaf h fun x => x.setLeg g ((q + 1) % seqMod))
  | none =>
    if s.makingLeg h ≠ g then (none, s)
    else
      let ((q, bs, fsp), s) := s.makeGrain h
      let other := (s.activeOf h).any (fun c => s.com SHF_CAR_CFG.LEG c ≠ g)
      let n := (q + 1) % seqMod
      (some (q, bs, fsp), s.updSheaf h fun x =>
        if other then { x with made := SMap.insert (bs, fsp) x.made q }.setLeg g n
        else { x with legSeq := (n, n), made := [] })

/-- The next data grain for carrier `c`. -/
def State.nextGrain (s : State) (c : Nat) : Option (List Byte) × State :=
  let h := s.carSheaf c
  let g := s.com SHF_CAR_CFG.LEG c
  let r := if s.comB SHF_CFG.DUP h then s.pullLeg h g
    else
      let (x, s) := s.makeGrain h
      (some x, s)
  match r with
  | (none, s) => (none, s)
  | (some (q, bs, fsp), s) => (some (grainHeader q 0 fsp h g ++ bs), s.count (carSlot c 12))

/-! ### The end of a frame (R145, R158, R176, R263) -/

/-- Complements what is left of the FCS of the frame that ends the waiting bytes. -/
def Sheaf.stompTail (x : Sheaf) (frameLen : Nat) : Sheaf :=
  let pad := (4 - frameLen % 4) % 4
  let n := x.txBytes.length
  let a := n - (pad + 4)
  { x with txBytes := x.txBytes.take a ++ ((x.txBytes.drop a).take (n - pad - a)).map (~~~ ·) ++ x.txBytes.drop (n - pad) }

def State.sheafDone (s : State) (h : Nat) (t : Tx) (bad : Bool) : State :=
  let s := s.noteOverrun h
  let s := s.updSheaf h fun x => { x with tx := none }
  let s := s.updAlmSheaf h fun a => { a with overrun := false }
  let s := s.each t.counts fun s n => s.count n
  let s := if bad || t.stomp then
      ((s.count (shfSlot h 70)).updSheaf h fun x => x.stompTail t.bytes.length).emit (.stomped (256 + h))
    else
      let s := (s.count (shfSlot h 64)).count (shfSlot h 65) t.bytes.length
      ((s.flowTally t.frame t.bytes.length).noteSent (256 + h)).emit (.frame (256 + h) true t.bytes)
  s.dequeued t.queue t.frame

/-- TX_FRAME_COMPLETE (R145, R158, R263): the last byte of the frame in progress at egress `e` is sent (on a Sheaf: its
last byte goes into the grain being made); `bad` says that the check against the held FCS failed. -/
def execTxFrameComplete (e : Fin 288) (bad : Bool) (s : State) : Res :=
  if e.val < 256 then
    match (s.port e).tx with
    | some t => if s.portUp e then fin (s.txDone e t bad) else fin s
    | none => fin s
  else
    let h := e.val - 256
    match (s.sheaf h).tx with
    | some t => if s.fwdMode && decide ((s.sheaf h).txBytes.length ≤ 248) then fin (s.sheafDone h t bad) else fin s
    | none => fin s

/-! ### Delineation and classification (R173-R175) -/

/-- A delineated frame record: the frame's bytes, the buffers that hold it, and the counter of a drop that its header
decides. -/
structure Rec where
  bytes : List Byte
  ing : Inst
  bufs : List (Nat × Nat)
  doom : Option Nat
  deriving DecidableEq, Repr, Inhabited

/-- A receive side while a grain passes through it: the Sheaf, records completed, whether delineation was lost. -/
structure Delin where
  x : Sheaf
  done : List Rec := []
  bad : Bool := false
  deriving DecidableEq, Repr, Inhabited

/-- Bytes of the record that begins with these bytes. -/
def recLen (hdr : List Byte) : Nat := beNat (hdr.take 4) / 262144
def recTotal (hdr : List Byte) : Nat := 4 + 4 * ceilDiv (recLen hdr) 4
def headerOk (hdr : List Byte) : Bool := crc8 (hdr.take 3) = byteAt hdr 3

/-- Rows 2 to 4 of R175, which a record's header decides. -/
def doomOf (m len pos : Nat) (last : Option Nat) : Option Nat :=
  if (match last with | some p => decide ((pos + 2 ^ 48 - p) % 2 ^ 48 < 84) | none => false) then some 5
  else if len ≤ 63 then some 2
  else if m < len then some 3 else none

/-- When byte `o` of a grain arrived: the grain of 256 bytes ended at its tick, at the carrier's rate (R313). -/
def Held.instAt (g : Held) (o : Nat) : Inst :=
  let x := 1024 * g.at_ - (256 - o) * 524288 / (1000 * max 1 g.rate)
  { tick := x / 1024, sub := x % 1024 }

/-- Walks the rest of a grain from stream position `pos`; `k` bounds the steps. -/
def Delin.walk (m : Nat) (g : Held) : Nat → Nat → List Byte → Delin → Delin
  | 0, _, _, d => d
  | k + 1, pos, rest, d =>
    if rest.isEmpty then d
    else if d.x.part.isEmpty then
      if !headerOk rest then { d with x := { d.x with inStep := false }, bad := true }
      else if recLen rest = 0 then Delin.walk m g k (pos + 4) (rest.drop 4) d
      else
        let doom := doomOf m (recLen rest) pos d.x.lastStart
        Delin.walk m g k (pos + 4) (rest.drop 4)
          { d with x := { d.x with part := rest.take 4, partPos := pos, partDoom := doom, lastStart := some pos,
                                   partBufs := if doom.isSome then [] else [g.buf] } }
    else
      let need := recTotal d.x.part - d.x.part.length
      let part := d.x.part ++ rest.take need
      let ing := if d.x.part.length = 4 then g.instAt (pos % 256) else d.x.partIn
      if part.length < recTotal part then { d with x := { d.x with part := part, partIn := ing } }
      else
        let r : Rec := { bytes := (part.drop 4).take (recLen part), ing := ing, bufs := d.x.partBufs, doom := d.x.partDoom }
        Delin.walk m g k (pos + need) (rest.drop need)
          { d with x := { d.x with part := [], partBufs := [], partDoom := none }, done := d.done ++ [r] }

/-- A grain of a stream in step passes; out of step, it is taken up at its first record (R173). -/
def Delin.grain (m : Nat) (seq : Nat) (g : Held) (x : Sheaf) : Delin :=
  let pos := (256 * seq + 8) % 2 ^ 48
  let x := if x.part.isEmpty || x.partDoom.isSome then x else { x with partBufs := x.partBufs ++ [g.buf] }
  if x.inStep then Delin.walk m g 130 pos g.bytes { x := x }
  else if g.fsp = 63 then { x := x }
  else Delin.walk m g 130 (pos + 4 * g.fsp) (g.bytes.drop (4 * g.fsp)) { x := { x with inStep := true } }

/-- The party that frees what a Sheaf's reassembly holds. -/
def shfParty (h : Nat) : Tag := { kind := kSHEAF, id := h }

/-- The record in progress is dropped by row 1 of R175, and delineation starts anew. -/
def State.dropPart (s : State) (h : Nat) : State :=
  let x := s.sheaf h
  let s := s.updSheaf h fun x => { x with part := [], partBufs := [], partDoom := none, inStep := false }
  if x.part.isEmpty then s
  else (s.each x.partBufs fun s b => s.freeBuf (shfParty h) b).count (shfSlot h 6)

/-- Pipeline of the next frame of Sheaf `h` (R20): the lanes of its enabled carriers in turn. -/
def State.dealPipe (s : State) (h : Nat) : Nat :=
  let lanes := ((s.carsOf h).flatMap (fun c =>
    (List.range (s.com SHF_CAR_CFG.LANES_M1 c + 1)).map (s.com SHF_CAR_CFG.FIRST_LANE c + ·))).insertionSort (· ≤ ·)
  (lanes.getD ((s.sheaf h).deal % max 1 lanes.length) 0) / 16

/-- Returns the buffers of a record. -/
def State.freeRec (s : State) (h : Nat) (r : Rec) : State := s.each r.bufs fun s b => s.freeBuf (shfParty h) b

/-- An accepted record's frame takes its cells and enters its pipeline. -/
def State.admitRec (s : State) (h c cells : Nat) (r : Rec) : State :=
  let x := s.sheaf h
  let f : Frame := { id := s.nextFrame, bytes := r.bytes, src := 256 + h, pipe := s.dealPipe h, rxClass := c, tIn := s.now,
                     stepsAt := s.ingressAt r.ing, bufs := r.bufs,
                     rseq := x.rseq }
  let s := s.addIn (256 + h) c cells
  let s := s.updSheaf h fun x => { x with deal := x.deal + 1, rseq := x.rseq + 1 }
  { s with nextFrame := s.nextFrame + 1 }.accept f

/-- Classifies a delineated record whose grains all arrived: rows 2 to 6 of R175, LIMIT (R248), then the pipeline. -/
def State.classifyRec (s : State) (h : Nat) (r : Rec) : State :=
  match r.doom with
  | some i =>
    let s := s.count (shfSlot h i)
    if i = 5 then s.raise EV.SHF_DENSITY h else s
  | none =>
    if !fcsGood r.bytes then (s.freeRec h r).count (shfSlot h 4)
    else
      let s := (s.count (shfSlot h 0)).count (shfSlot h 1) r.bytes.length
      let c := s.rxClass (256 + h) (r.bytes.take (r.bytes.length - 4))
      let cells := s.cells r.bufs
      if s.overLimit (256 + h) c cells then (s.freeRec h r).count (grnSrcSlot (256 + h) c)
      else s.admitRec h c cells r

/-! ### Reassembly (R181-R184) -/

/-- Releases one held grain with sequence number `q`: its buffer is handed to Shared with the number of frames whose bytes
lie in it, or returns to its pool (R184, R262). -/
def State.releaseGrain (s : State) (h q : Nat) (g : Held) : State :=
  let d := Delin.grain (s.com SHF_CFG.MAX_LEN h) q g (s.sheaf h)
  let n := (d.done.filter (fun r => r.bufs.contains g.buf)).length + (if d.x.partBufs.contains g.buf then 1 else 0)
  let s := s.updSheaf h fun _ => { d.x with held := SMap.erase d.x.held q }
  let s := s.count (shfSlot h 7)
  let s := if n = 0 then s.freeBuf (shfParty h) g.buf else s.setTag g.buf.1 g.buf.2 { kind := kSHARED, refs := n }
  let s := s.each d.done fun s r => s.classifyRec h r
  if d.bad then (s.count (shfSlot h 13)).raise EV.SHF_SYNC_LOSS h else s

/-- Releases the grains that the head reaches; `k` bounds their number. -/
def State.releaseRun (s : State) (h : Nat) : Nat → State
  | 0 => s
  | k + 1 =>
    let x := s.sheaf h
    match x.held.find? (fun e => e.1 = x.head) with
    | none => s
    | some (q, g) =>
      ((s.updSheaf h fun x => { x with head := (q + 1) % seqMod }).releaseGrain h q g).releaseRun h k

/-- The held sequence number nearest after the head. -/
def Sheaf.nearest (x : Sheaf) : Option Nat :=
  x.held.foldl (fun b e => match b with
    | none => some e.1
    | some y => if seqDiff e.1 x.head < seqDiff y x.head then some e.1 else some y) none

/-- Declares the gap before the nearest held grain lost, and releases what follows. -/
def State.loseGap (s : State) (h : Nat) : State :=
  let x := s.sheaf h
  match x.nearest with
  | none => s
  | some q =>
    let n := seqDiff q x.head
    let s := if n = 0 then s
      else
        let s := (s.dropPart h).count (shfSlot h 8) n
        let s := s.updSheaf h fun x => { x with lost := (x.head, n) :: x.lost.filter (fun r => seqDiff x.head r.1 < 2 ^ 20) }
        s.raise EV.SHF_GRAIN_LOST h
    (s.updSheaf h fun x => { x with head := q }).releaseRun h (x.held.length + 1)

/-- Declares lost every gap that a test allows; `k` bounds their number. -/
def State.loseGaps (s : State) (h : Nat) (ok : State → Bool) : Nat → State
  | 0 => s
  | k + 1 => if !(s.sheaf h).held.isEmpty && ok s then (s.loseGap h).loseGaps h ok k else s

/-- GRAIN_LOSS_TIMEOUT (R182, R183). -/
def execGrainLossTimeout (h : Fin 32) (s : State) : Res :=
  if !s.fwdMode || s.rxState h ≠ rxRUN then
    if s.wasCut (.grainLost h) then fin ((s.pastCut (.grainLost h)).raise EV.SHF_GRAIN_LOST h) else fin s
  else
    let w := s.lossTicks h
    let n := (s.sheaf h).held.length
    let s := s.loseGaps h (fun s => (s.sheaf h).held.any (fun e => decide (e.2.at_ + w ≤ s.now))) n
    let left : Bool := match (s.sheaf h).emptyAt with | some t => t + w ≤ s.now | none => false
    fin ((if left then s.loseGaps h (fun _ => true) n else s).rxIdle h)

/-- The end of the wait in SYNC (R183): reassembly runs from the lowest grain received on; held grains too far from it are
freed. -/
def State.resumeRx (s : State) (h low : Nat) : State :=
  let x := s.sheaf h
  let s := if low = x.head then s else s.dropPart h
  let s := (s.wr SHF_SHEAF_STAT.RX_STATE h rxRUN).raise EV.SHF_RESYNC h
  let far := x.held.filter (fun e => decide (2 ^ 20 ≤ seqDiff e.1 low))
  let s := s.each far fun s e => (s.freeBuf (shfParty h) e.2.buf).count (shfSlot h 11)
  let s := s.updSheaf h fun x => { x with head := low, syncLow := none, held := x.held.filter (fun e => decide (seqDiff e.1 low < 2 ^ 20)) }
  (s.releaseRun h (x.held.length + 1)).rxIdle h

/-- SYNC_WAIT_EXPIRY (R183): the lowest SEQ received becomes the head. -/
def execSyncWaitExpiry (h : Fin 32) (s : State) : Res :=
  if !s.fwdMode || s.rxState h ≠ rxSYNC || decide (s.now < (s.sheaf h).syncAt + s.lossTicks h) then
    if s.wasCut (.resync h) then fin ((s.pastCut (.resync h)).raise EV.SHF_RESYNC h) else fin s
  else
    match (s.sheaf h).syncLow with
    | none => fin s
    | some q => fin (s.resumeRx h q)

/-- Notes a SEQ received in SYNC (R183). -/
def Sheaf.noteSync (x : Sheaf) (q : Nat) : Sheaf :=
  { x with syncLow := match x.syncLow with
    | none => some q
    | some b => some (if seqMod / 2 < seqDiff q b then q else b) }

/-- Holds a grain for which a buffer is granted (R184). -/
def State.holdGrain (s : State) (h q fsp : Nat) (bs : List Byte) (rate : Nat) : State :=
  match s.request (s.com SHF_CFG.POOL h) (shfParty h) with
  | (none, s) => s.count (shfSlot h 12)
  | (some b, s) =>
    let g : Held := { bytes := bs, fsp := fsp, at_ := s.now, rate := rate, buf := b }
    s.updSheaf h fun x => { x with held := SMap.insert g x.held q }

/-- A good data grain of sequence number `q` from a carrier of rate `rate` (R179, R181, R183). -/
def State.takeGrain (s : State) (h q fsp : Nat) (bs : List Byte) (rate : Nat) : State :=
  let x := s.sheaf h
  let dup := if s.comB SHF_CFG.DUP h then shfSlot h 15 else shfSlot h 9
  if x.held.any (fun e => e.1 = q) then s.count dup
  else if s.rxState h = rxIDLE then
    ((s.wr SHF_SHEAF_STAT.RX_STATE h rxSYNC).updSheaf h fun x => { x with syncAt := s.now, syncLow := some q }).holdGrain
      h q fsp bs rate
  else if s.rxState h = rxSYNC then (s.updSheaf h fun x => x.noteSync q).holdGrain h q fsp bs rate
  else
    let d := seqDiff q x.head
    if seqMod / 2 ≤ d then
      if s.comB SHF_CFG.DUP h && !x.lost.any (fun r => decide (seqDiff q r.1 < r.2)) then s.count (shfSlot h 15)
      else s.count (shfSlot h 10)
    else if 2 ^ 20 ≤ d then s.count (shfSlot h 11)
    else
      let s := s.holdGrain h q fsp bs rate
      (s.releaseRun h (x.held.length + 2)).rxIdle h

/-- What a lane layer reports with a grain (R170, R197): blocks that belong to no grain, and FEC counts, since the last
one. -/
def State.countLine (s : State) (c strays : Nat) (fec : FecCounts) : State :=
  (((s.count (carSlot c 5) strays).count (carSlot c 8) fec.corrected).count (carSlot c 9) fec.uncorrectable).count
    (carSlot c 10) fec.symbols

/-- DATA_GRAIN_RECEIVED (R170-R172, R181, R197): on carrier `c` a grain of `blocks` blocks arrives, `badFec` when one of
them lies in an uncorrectable codeword, after `strays` blocks that belong to no grain, with the FEC counts since the
last one. The checks and their counters apply on every locked carrier; only an ACTIVE or DRAINING one takes data. -/
def execDataGrainReceived (c : Fin 128) (bytes : List Byte) (blocks : Nat) (badFec : Bool) (strays : Nat) (fec : FecCounts)
    (s : State) : Res :=
  let st := s.cst c
  let h := s.carSheaf c
  if !s.fwdMode || !(cHANDSHAKE ≤ st && st ≤ cPARKED) then fin s
  else
    let s := s.countLine c strays fec
    let b5 := byteAt bytes 5
    if blocks < 8 then fin (s.count (carSlot c 4))
    else if badFec then fin s
    else if bytes.length ≠ 256 then .fault .malformedOperand
    else if crc8 (bytes.take 7) ≠ byteAt bytes 7 then fin (s.count (carSlot c 2))
    else if 2 ≤ b5 / 64 || b5 % 64 = 62 then fin (s.count (carSlot c 3))
    else if byteAt bytes 6 / 8 ≠ s.com SHF_CFG.PEER_SHEAF h then fin ((s.count (shfSlot h 14)).raise EV.SHF_CAR_MISCONNECT c)
    else if b5 / 64 = 1 || !(st = cACTIVE || st = cDRAINING) then fin s
    else fin ((s.count (carSlot c 0)).takeGrain h (beNat (bytes.take 5)) (b5 % 64) (bytes.drop 8)
      (s.com SHF_CAR_CFG.RATE c))

end Sys2Proof.Machine
end

