-- ==== Sys2Proof/Machine/Carriers.lean ====
section
/-! DEFINITION. Sys2Proof/Machine/Carriers.lean: training and loss of carriers and mirror lanes, timing grains, joins and
parks, the commit of the SHF_ group and its commands (R164-R166, R180, R185-R198, R459). -/
namespace Sys2Proof.Machine

/-! ### Helpers -/

def State.carLanes (s : State) (c : Nat) : List Nat :=
  (List.range (s.com SHF_CAR_CFG.LANES_M1 c + 1)).map (s.com SHF_CAR_CFG.FIRST_LANE c + ·)
/-- The enabled carrier that a lane belongs to. -/
def State.carOfLane (s : State) (l : Nat) : Option Nat :=
  (List.range 128).find? (fun c => s.comB SHF_CAR_CFG.ENABLE c && (s.carLanes c).contains l)
def State.carDue (s : State) (c : Nat) : Bool := match (s.car c).timer with | some t => t ≤ s.now | none => false
def State.noteLocked (s : State) (c : Nat) : State :=
  s.wrB SHF_CAR_STAT.LANES_LOCKED c ((s.carLanes c).all (fun l => (s.car c).locked.contains l))
def State.allLocked (s : State) (c : Nat) : Bool := (s.carLanes c).all (fun l => (s.car c).locked.contains l)

/-- Operations and reasons of carrier management words (R191). -/
def opJOIN_REQ : Nat := 1
def opJOIN_ACK : Nat := 2
def opJOIN_NAK : Nat := 3
def opPARK_REQ : Nat := 4
def opPARK_ACK : Nat := 5

/-- The mailbox whose CMD_SHF_CARRIER_OP works on carrier `c`, whether it is a join, and the TXN of its request. -/
def State.carOp (s : State) (c : Nat) : Option (Nat × Bool × Nat) :=
  (List.range 16).findSome? (fun m => match (s.mbxAt m).job with
    | some (.carrier k join _ txn) => if k = c then some (m, join, txn) else none
    | _ => none)

/-- Ends the operation on carrier `c` with an outcome and a reason (R198). -/
def State.endOp (s : State) (c outcome reason : Nat) : State :=
  match s.carOp c with
  | some (m, _) => s.complete m ST_OK 0 [BitVec.ofNat 8 outcome, BitVec.ofNat 8 reason, 0, 0]
  | none => s

/-- Ends the operation on carrier `c` that an answer to its request, or the end of its park, completes: an answer of
another request, such as that of AUTO_JOIN, leaves it running (DESIGN CHOICE, log entry 126). -/
def State.endOpOf (s : State) (c : Nat) (mine : Bool → Nat → Bool) (outcome reason : Nat) : State :=
  match s.carOp c with
  | some (_, join, txn) => if mine join txn then s.endOp c outcome reason else s
  | none => s

/-- A request goes out in every timing grain until it is answered or its command ends (R191). -/
def State.askPeer (s : State) (c op : Nat) : State :=
  s.updCar c fun k => { k with req := k.req ++ [(op, k.nextTxn)], nextTxn := (k.nextTxn + 1) % 65536 }

/-- Carrier `c` becomes ACTIVE or enters PARKED, with the event. -/
def State.carActive (s : State) (c : Nat) : State := (s.setCar c cACTIVE).raise EV.SHF_CAR_ACTIVE c
def State.carParked (s : State) (c : Nat) : State :=
  ((s.setCar c cPARKED).raise EV.SHF_CAR_PARKED c).updCar c fun k => { k with parkWait := none }

/-- A park starts at this end (R193). -/
def State.startPark (s : State) (c : Nat) : State := (s.setCar c cDRAINING).askPeer c opPARK_REQ

/-! ### Training (R167, R189, R190) -/

def State.toCarWait (s : State) (c : Nat) : State :=
  ((s.setCar c cWAIT_SIGNAL).wr SHF_CAR_STAT.RETRY c 0).updCar c fun k => { k with timer := none, retry := false, signal := false }
def State.toCarAdapt (s : State) (c : Nat) : State :=
  (s.setCar c cADAPT).updCar c fun k => { k with timer := some (s.now + 50 * msT) }
def State.toHandshake (s : State) (c : Nat) : State :=
  let s := if (s.car c).retry then (s.raise EV.SHF_CAR_TRAIN_TRANSIENT c).transientFault 6 else s
  ((s.setCar c cHANDSHAKE).wr SHF_CAR_STAT.RETRY c 0).updCar c fun k => { k with timer := none, retry := false }

/-- Where a carrier goes on a loss (R189): without signal to WAIT_SIGNAL, with lock to HANDSHAKE. With signal and no lock,
of which R189 says nothing, it goes to ADAPT (DESIGN CHOICE, log entry 125). -/
def State.fallBack (s : State) (c : Nat) : State :=
  if !(s.car c).signal then s.toCarWait c
  else if s.allLocked c then s.toHandshake c
  else s.toCarAdapt c

/-- The carrier is down (R188, R194, R196): its requests end, and a JOIN_ACK not yet sent is withdrawn; answers given go on
being repeated, and are remembered (R191). -/
def State.carDown (s : State) (c cause : Nat) : State :=
  let s := (s.wr SHF_CAR_STAT.DOWN_CAUSE c cause).count (carSlot c 11)
  let unsent (k : Carrier) (a : Nat × Nat × Nat × Nat) : Bool := a.1 = opJOIN_ACK && k.ackDue.contains a.2.2.1
  let s := (s.raise EV.SHF_CAR_DOWN c).updCar c fun k => { k with
    req := [], ans := k.ans.filter (fun a => !unsent k a), ackDue := [], parkWait := none }
  s.endOp c 2 0

/-- Loss of signal or lock outside PARKED (R189). -/
def State.carLost (s : State) (c : Nat) : State :=
  let st := s.cst c
  if cSTANDBY ≤ st && st ≤ cDRAINING then (s.carDown c 4).fallBack c
  else if st = cHANDSHAKE || (st = cADAPT || st = cLOCK) && !(s.car c).signal then s.fallBack c
  else s

/-! ### Mirror lanes (R459) -/

def State.mirrorLost (s : State) (i : Nat) (signal : Bool) : State :=
  let st := (s.mlane i).st
  if !s.twinOn || !s.tkMode then s
  else if !signal && 3 ≤ st && st ≤ 6 then s.updMlane i fun l => { l with st := 2, timer := none, retry := false }
  else if st = 6 then s.updMlane i fun l => { l with st := 3, timer := some (s.now + 50 * msT) }
  else s

/-- SIGNAL_DETECT (R135, R189, R459): signal on every lane of a port, a carrier or a mirror lane. -/
def execSignalDetect (o : LineObj) (s : State) : Res :=
  match o with
  | .port p => fin (s.portSignal p)
  | .carrier c =>
    let s := s.updCar c fun k => { k with signal := true }
    if s.fwdMode && s.cst c = cWAIT_SIGNAL then fin (s.toCarAdapt c) else fin s
  | .mirror i =>
    if s.twinOn && s.tkMode && (s.mlane i).st = 2 then
      fin (s.updMlane i fun l => { l with st := 3, timer := some (s.now + 50 * msT) })
    else fin s

/-- ADAPT_DONE (R135, R189, R459). -/
def execAdaptDone (o : LineObj) (s : State) : Res :=
  match o with
  | .port p => fin (s.portAdapted p)
  | .carrier c =>
    if s.fwdMode && s.cst c = cADAPT then
      let s := (s.setCar c cLOCK).updCar c fun k => { k with timer := some (s.now + 2 * msT) }
      fin (if s.allLocked c then s.toHandshake c else s)
    else fin s
  | .mirror i =>
    if s.twinOn && s.tkMode && (s.mlane i).st = 3 then
      fin (s.updMlane i fun l => { l with st := 4, timer := some (s.now + 2 * msT) })
    else fin s

/-- CODEWORD_LOCK (R167, R168, R189): the receiver of a lane, trying a boundary at bit `offset`, has judged the codewords
`words` there (newest first, true for one without an uncorrectable error): three good ones in a row give codeword lock;
with the last lane the carrier's LOCK state ends. -/
def execCodewordLock (w : LaneWords) (s : State) : Res :=
  if !(searchOffsets.contains w.offset && lockGained w.words) then fin s
  else if 256 ≤ w.lane.val then
    let i := w.lane.val - 256
    if s.twinOn && s.tkMode && (s.mlane i).st = 4 then
      let s := if (s.mlane i).retry then s.transientFault 6 else s
      fin ((s.updMlane i fun l => { l with st := 6, timer := none, retry := false }).dueLanes [w.lane.val])
    else fin s
  else match s.carOfLane w.lane with
    | none => fin s
    | some c =>
      let st := s.cst c
      if !s.fwdMode || st = cDISABLED || st = cPOWERING || st = cHELD then fin s
      else
        let s := s.updCar c fun k => { k with locked := if k.locked.contains w.lane.val then k.locked else k.locked ++ [w.lane.val] }
        let s := s.noteLocked c
        let s := if s.allLocked c then s.dueLanes (s.carLanes c) else s
        fin (if st = cLOCK && s.allLocked c then s.toHandshake c else s)

/-- CODEWORD_LOCK_LOST (R167, R189): a lane loses codeword lock, with its signal or by 4 uncorrectable codewords among the
last 16 of `words` (newest first). -/
def execCodewordLockLost (lane : Fin 260) (l : LaneLoss) (s : State) : Res :=
  if l.signal && !lockLost l.words then fin s
  else if 256 ≤ lane.val then fin (s.mirrorLost (lane.val - 256) l.signal)
  else match s.carOfLane lane with
    | none => fin s
    | some c =>
      if !s.fwdMode then fin s
      else
        let s := s.updCar c fun k => { k with locked := k.locked.filter (· ≠ lane.val), signal := k.signal && l.signal }
        fin ((s.noteLocked c).carLost c)

/-- CARRIER_ATTEMPT_TIMEOUT (R190, R459): an attempt passes its limit. -/
def execCarrierAttemptTimeout (o : LineObj) (s : State) : Res :=
  match o with
  | .port _ => fin s
  | .carrier c =>
    if !s.fwdMode || !(s.cst c = cADAPT || s.cst c = cLOCK) || !s.carDue c then
      if s.wasCut (.carFail c) then
        fin (((s.pastCut (.carFail c)).raise EV.SHF_CAR_TRAIN_FAIL c).lastingFault 6 (s.com SHF_CAR_CFG.FIRST_LANE c) true)
      else fin s
    else if !(s.car c).retry then
      fin (((s.toCarAdapt c).wr SHF_CAR_STAT.RETRY c 1).updCar c fun k => { k with retry := true })
    else
      let s := ((s.setCar c cFAILED).wr SHF_CAR_STAT.RETRY c 0).updCar c fun k => { k with timer := none, retry := false }
      fin ((s.raise EV.SHF_CAR_TRAIN_FAIL c).lastingFault 6 (s.com SHF_CAR_CFG.FIRST_LANE c) true)
  | .mirror i =>
    let l := s.mlane i
    if !s.twinOn || !s.tkMode || !(l.st = 3 || l.st = 4) || (match l.timer with | some t => decide (s.now < t) | none => true) then fin s
    else if !l.retry then fin (s.updMlane i fun l => { l with st := 3, retry := true, timer := some (s.now + 50 * msT) })
    else fin ((s.updMlane i fun l => { l with st := 10, retry := false, timer := none }).lastingFault 6 (256 + i.val) true)

/-! ### Sending timing grains (R185-R187, R191, R192) -/

def mgmtWord (op reason txn rate : Nat) : List Byte :=
  [BitVec.ofNat 8 op, BitVec.ofNat 8 reason] ++ beBytes 2 txn ++ beBytes 2 rate ++ List.replicate 10 (0 : Byte)

/-- The answers that the next timing grain repeats, in the words that requests leave free: the oldest of those that have
repeats left (R185, R191). -/
def Carrier.toRepeat (k : Carrier) : List (Nat × Nat × Nat × Nat) :=
  (k.ans.filter (fun a => decide (a.2.2.2 ≠ 0))).reverse.take (4 - k.req.length)

/-- D0 when the first bit of a timing grain of carrier `c`, sent at `dep`, crosses the land of its lane 0 (R186). -/
def State.departs (s : State) (c : Nat) (dep : Inst) : Int := s.swInst 0 dep + s.txDelay (s.com SHF_CAR_CFG.FIRST_LANE c)

/-- The four management words of the next timing grain of carrier `c`. A FOLLOW sends the LEAD's, which no message of the
mirror carries: they are free (R475, log entry 56). -/
def State.mgmtWords (s : State) (c : Nat) : List Byte :=
  let k := s.car c
  if s.follow then (List.range 64).map (fun i => BitVec.ofNat 8 (Config.leadMgmt (64 * s.nextFree + i)))
  else slice (k.req.flatMap (fun r => mgmtWord r.1 0 r.2 (if r.1 = opJOIN_REQ then s.com SHF_CAR_CFG.RATE c else 0)) ++
    k.toRepeat.flatMap (fun a => mgmtWord a.1 a.2.1 a.2.2.1 0)) 0 64

/-- The timing grain of carrier `c` that departs at `dep` (R185, R350); requests travel in the first management words, answers after
them. -/
def State.timingGrain (s : State) (c : Nat) (dep : Inst) : List Byte :=
  let k := s.car c
  let h := s.carSheaf c
  let (cls, tr, ho) := s.clockFields
  let (steps, te) := s.teFields
  let fl := (if ho then 1 else 0) + (if tr then 2 else 0) + (if s.resAt 0 s.now = 0 then 0 else 4)
  let b := grainHeader k.cseq 1 63 h (s.com SHF_CAR_CFG.LEG c) ++ tsBE (tsQ (s.departs c dep)) ++
    (if k.rx.valid then tsBE k.rx.txTime ++ tsBE k.rx.rxTime ++ beBytes 4 k.rx.cseq else List.replicate 28 (0 : Byte)) ++
    [BitVec.ofNat 8 (s.cst c), BitVec.ofNat 8 ((if k.rx.valid then 1 else 0) + (if s.comB SHF_CAR_CFG.CP c then 2 else 0))] ++
    beBytes 2 (s.com SHF_CAR_CFG.RATE c) ++ [BitVec.ofNat 8 c, BitVec.ofNat 8 (s.com SHF_CAR_CFG.LANES_M1 c + 1), 0, 0] ++
    beBytes 4 (s.com SHF_NODE_ID_HI.ID) ++ beBytes 4 (s.com SHF_NODE_ID_LO.ID) ++ beBytes 4 (s.com SHF_CAR_FREQ.CENTRE_FREQ c) ++
    [BitVec.ofNat 8 cls, BitVec.ofNat 8 steps, BitVec.ofNat 8 fl, 0] ++ beBytes 4 te ++ List.replicate 4 (0 : Byte) ++
    s.mgmtWords c ++ List.replicate 108 (0 : Byte)
  b ++ fcsBytes b

/-- Blocks go onto a carrier's lane, as the output `what`. -/
def State.onLane (s : State) (c lane : Nat) (what : Out) (bs : List Block) : State :=
  let r := (SMap.at! (s.car c).lanes lane).put lane bs
  ((s.emit what).updCar c fun k => { k with lanes := SMap.set {} k.lanes lane r.1 }).each r.2 State.emit
def State.sendGrain (s : State) (c lane : Nat) (g : List Byte) : State := s.onLane c lane (.grain lane g) (grainBlocks g)
def State.sendNulls (s : State) (c lane n : Nat) : State := s.onLane c lane (.nullBlocks lane n) (nulls n)

/-- TXN of the JOIN_ACKs that the next timing grain of carrier `c` carries (R191). -/
def State.acksNow (s : State) (c : Nat) : List Nat :=
  ((s.car c).toRepeat.filter (fun a => a.1 = opJOIN_ACK)).map (·.2.2.1)

/-- The first grain with a JOIN_ACK makes the carrier ACTIVE (R192). -/
def State.joined (s : State) (c : Nat) : State :=
  if (s.acksNow c).any (s.car c).ackDue.contains && (s.cst c = cSTANDBY || s.cst c = cPARKED) then s.carActive c else s

/-- Sends the timing grain that is due. -/
def State.sendTiming (s : State) (c : Nat) (lane : Nat) (dep : Inst) : State :=
  let k := s.car c
  let sent := k.toRepeat
  let acks := s.acksNow c
  let s := s.joined c
  let g := s.timingGrain c dep
  let mgmt := s.mgmtWords c
  let words := ([0, 16, 32, 48].filter (fun o => byteAt mgmt o ≠ 0)).length
  let s := { s with nextFree := if s.follow then s.nextFree + 1 else s.nextFree }
  let repeated (a : Nat × Nat × Nat × Nat) : Nat × Nat × Nat × Nat :=
    if sent.contains a then (a.1, a.2.1, a.2.2.1, a.2.2.2 - 1) else a
  let s := (s.count (carSlot c 13)).count (carSlot c 15) words
  let q := tsQ (s.departs c dep)
  let s := s.updCar c fun k => { k with nextTg := k.nextTg + 1600, cseq := (k.cseq + 1) % seqMod, ans := k.ans.map repeated,
                                        ackDue := k.ackDue.filter (fun t => !acks.contains t),
                                        sentAt := (k.cseq % 2 ^ 32, q) :: k.sentAt.take 63 }
  let s := if s.twinOn && s.lead then
      s.sendMsg mtECHO ([BitVec.ofNat 8 c, 0, 0, 0] ++ beBytes 4 k.cseq ++ tsBE q)
    else s
  s.sendGrain c lane g

/-- The next grain slot of a carrier's lane has come: slots lie n × 2,048 / R ns apart, which is n × 16,384 / (125 × RATE)
ticks (R167); the first one is where its sender puts it. -/
def State.slotDue (s : State) (c lane : Nat) : Bool :=
  let x := SMap.at! (s.car c).lanes lane
  match x.start with
  | some a => decide (x.slots * ((s.com SHF_CAR_CFG.LANES_M1 c + 1) * 16384) ≤ (s.now - a) * (125 * s.com SHF_CAR_CFG.RATE c))
  | none => true

/-- A slot of the lane passes, with those before it that brought nothing: null blocks fill the lane up to it. Slot number j
begins 32 × n × j / RATE blocks of 2.56 ns after the first. -/
def State.noteSlot (s : State) (c lane : Nat) : State :=
  let n := s.com SHF_CAR_CFG.LANES_M1 c + 1
  let r := s.com SHF_CAR_CFG.RATE c
  let x := (SMap.at! (s.car c).lanes lane).begun lane s.now
  let j := max x.slots ((s.now - x.start.getD s.now) * (125 * r) / (n * 16384))
  let gap := ceilDiv (j * (32 * n)) r - x.sent
  let s := s.updCar c fun k => { k with lanes := SMap.set {} k.lanes lane { x with slots := j + 1 } }
  if gap = 0 then s else s.sendNulls c lane gap

/-- GRAIN_SLOT (R167, R177): a slot of a carrier lane: a timing grain that is due on lane 0, the Sheaf's next data grain, or 8 null
blocks; `dep` is when its first bit crosses the land. -/
def execGrainSlot (lane : Fin 256) (dep : Inst) (s : State) : Res :=
  match s.carOfLane lane with
  | none => fin s
  | some c =>
    let st := s.cst c
    if !s.fwdMode || st = cDISABLED || st = cHELD || st = cPOWERING || !s.slotDue c lane then fin s
    else
      let s := s.noteSlot c lane
      if lane.val = s.com SHF_CAR_CFG.FIRST_LANE c && decide ((s.car c).nextTg ≤ s.now) then fin (s.sendTiming c lane dep)
      else if st ≠ cACTIVE then fin (s.sendNulls c lane 8)
      else match s.nextGrain c with
        | (none, s) => fin (s.sendNulls c lane 8)
        | (some g, s) => fin (s.sendGrain c lane g)

/-! ### Management words received (R191-R194) -/

/-- First failing reason against a join, 0 for none (R192). -/
def State.joinReason (s : State) (c rate : Nat) : Nat :=
  if !s.comB SHF_CFG.ENABLE (s.carSheaf c) then 4
  else if !(s.cst c = cSTANDBY || (s.cst c = cPARKED && s.bit SHF_CAR_STAT.TG_OK c && s.bit SHF_CAR_STAT.ECHO_OK c)) then 2
  else if s.com SHF_CAR_CFG.RATE c ≠ rate then 1
  else if 8000 * 65536 < s.skewQ c then 3 else 0

def State.answer (s : State) (c op reason txn : Nat) : State :=
  s.updCar c fun k =>
    { k with ans := ((op, reason, txn, 8) :: k.ans).take 64
             ackDue := if op = opJOIN_ACK then k.ackDue ++ [txn] else k.ackDue }

/-- A request that has been answered gets the same answer again (R191). -/
def State.answerAgain (s : State) (c txn : Nat) (park : Bool) : State :=
  s.updCar c fun k => { k with ans := k.ans.map (fun a =>
    if a.2.2.1 = txn && (a.1 = opPARK_ACK) = park then (a.1, a.2.1, a.2.2.1, 8) else a) }

def State.mgmt (s : State) (c : Nat) (w : List Byte) : State :=
  let op := byteAt w 0
  let reason := byteAt w 1
  let txn := beNat (slice w 2 2)
  let rate := beNat (slice w 4 2)
  if op = 0 then s
  else
    let s := s.count (carSlot c 14)
    let k := s.car c
    let again (park : Bool) : Bool := k.ans.any (fun a => a.2.2.1 = txn && (a.1 = opPARK_ACK) = park)
    let mine (o : Nat) : Bool := k.req.contains (o, txn)
    let answered (k : Carrier) : Carrier := { k with req := k.req.filter (fun r => r.2 ≠ txn) }
    if op = opJOIN_REQ then
      if again false then s.answerAgain c txn false
      else
        let r := s.joinReason c rate
        s.answer c (if r = 0 then opJOIN_ACK else opJOIN_NAK) r txn
    else if op = opPARK_REQ then
      if again true then s.answerAgain c txn true
      else
        let s := s.answer c opPARK_ACK 0 txn
        if s.cst c = cACTIVE || s.cst c = cSTANDBY then s.carParked c else s
    else if op = opJOIN_ACK && mine opJOIN_REQ then
      let s := s.updCar c answered
      let s := if s.cst c = cSTANDBY || s.cst c = cPARKED then s.carActive c else s
      s.endOpOf c (fun _ t => t = txn) 0 0
    else if op = opJOIN_NAK && mine opJOIN_REQ then
      ((s.updCar c answered).raise EV.SHF_CAR_JOIN_NAK c).endOpOf c (fun _ t => t = txn) 1 reason
    else if op = opPARK_ACK && mine opPARK_REQ && s.cst c = cDRAINING then
      s.updCar c fun k => { answered k with parkWait := some (s.now + s.lossTicks (s.carSheaf c)) }
    else s

/-! ### Timing grains received (R172, R180, R188, R189, R332) -/

/-- The departure time of this node's grain that a received grain echoes, as this node's D0 gives it: one of its last 64, or
on a FOLLOW one that the LEAD has listed (R332, R475). -/
def State.echoOf (s : State) (c cseq : Nat) (t : Int) : Option Int :=
  if (s.car c).sentAt.contains (cseq, t) then some t
  else if s.follow && s.twin.echoes.contains (c, cseq, t) then
    some (t + psToQ (s.rdS TWN_TIME_DIFF.DIFF + s.comS TWN_PATH_ADJ.ADJ))
  else none

/-- What the echo fields give (R332): ECHO_OK, the echo pair, the end of HANDSHAKE. -/
def State.takeEcho (s : State) (c : Nat) (bytes : List Byte) (tx rx : Int) (at_ : Inst) : State :=
  let h := s.carSheaf c
  if !testBit (byteAt bytes 49) 0 then s.wr SHF_CAR_STAT.ECHO_OK c 0
  else
    let t2 := tsOfBE (slice bytes 32 12)
    match s.echoOf c (beNat (slice bytes 44 4)) (tsOfBE (slice bytes 20 12)) with
    | none => (s.wr SHF_CAR_STAT.ECHO_OK c 0).count (ttSlot h 3)
    | some t1 =>
      let s := s.wr SHF_CAR_STAT.ECHO_OK c 1
      let s := if s.cst c = cHANDSHAKE then
          let s := s.setCar c cSTANDBY
          if s.comB SHF_CAR_CFG.AUTO_JOIN c && !s.follow then s.askPeer c opJOIN_REQ else s
        else s
      let turn := diff64 (tx - t2)
      if 0 ≤ turn && turn ≤ 8000 * 65536 then s.echoPair c t1 t2 tx rx at_ else s.count (ttSlot h 3)

/-- The peer has left ACTIVE by going down (R196): its grain carries a state of an untrained carrier, or STANDBY after
ACTIVE. -/
def peerDown (old new : Nat) : Bool := new < cSTANDBY || cFAILED ≤ new || (new = cSTANDBY && old = cACTIVE)

/-- TIMING_GRAIN_RECEIVED (R170, R172, R180, R188-R196, R332): a grain of carrier `c` whose first bit crosses the land at
`rx`; `bad` when one of its blocks lies in an uncorrectable codeword; `strays` and `fec` as in DATA_GRAIN_RECEIVED. -/
def execTimingGrainReceived (c : Fin 128) (bytes : List Byte) (e : GrainErrors) (rx : Inst) (s : State) : Res :=
  let st := s.cst c
  let h := s.carSheaf c
  if !s.fwdMode || !(cHANDSHAKE ≤ st && st ≤ cPARKED) then fin s
  else if e.bad then fin (s.countLine c e.strays e.fec)
  else if bytes.length ≠ 256 then .fault .malformedOperand
  else
    let s := s.countLine c e.strays e.fec
    let b5 := byteAt bytes 5
    let hcs : Bool := crc8 (bytes.take 7) = byteAt bytes 7
    let crc : Bool := bytes.drop 252 = fcsBytes (bytes.take 252)
    let sheaf : Bool := byteAt bytes 6 / 8 = s.com SHF_CFG.PEER_SHEAF h
    let node := beNat (slice bytes 56 8)
    let want := s.com SHF_PEER_NODE_HI.ID h * 2 ^ 32 + s.com SHF_PEER_NODE_LO.ID h
    if !hcs then fin (s.count (carSlot c 2))
    else if b5 / 64 ≠ 1 || b5 % 64 ≠ 63 then fin (s.count (carSlot c 3))
    else
      let s := if sheaf then s else s.count (shfSlot h 14)
      if !crc then fin ((if sheaf then s else s.raise EV.SHF_CAR_MISCONNECT c).count (carSlot c 6))
      else if !sheaf || (want ≠ 0 && node ≠ want) then fin ((s.count (carSlot c 7)).raise EV.SHF_CAR_MISCONNECT c)
      else
        let tx := tsOfBE (slice bytes 8 12)
        let rxq := tsQ (s.swInst 0 rx - s.rxDelay (s.com SHF_CAR_CFG.FIRST_LANE c))
        let old := s.rd SHF_CAR_STAT.PEER_STATE c
        let peer := byteAt bytes 48 % 16
        let s := s.count (carSlot c 1)
        let s := s.updCar c fun k => { k with
          u := diff64 (rxq - tx), uValid := true
          rx := { txTime := tx, rxTime := rxq, cseq := beNat (slice bytes 1 4), at_ := s.now, valid := true,
                  freq := beNat (slice bytes 64 4), cp := testBit (byteAt bytes 49) 1, cls := byteAt bytes 68,
                  steps := byteAt bytes 69, tflags := byteAt bytes 70, teEst := beNat (slice bytes 72 4) } }
        let s := ((s.wr SHF_CAR_STAT.TG_OK c 1).wr SHF_CAR_STAT.PEER_STATE c peer).wr SHF_CAR_STAT.PEER_CARRIER c
          (byteAt bytes 52 % 128)
        let s := (s.wr SHF_CAR_SKEW.VALUE c (satU 32 (s.skewQ c / 4096))).noteLossWait h
        let s := (s.ttGrain c).takeEcho c bytes tx rxq rx
        let s := if s.cst c = cACTIVE && peerDown old peer then (s.carDown c 2).fallBack c else s
        let skewed : Bool := s.cst c = cACTIVE && decide (8000 * 65536 < s.skewQ c)
        let s := if skewed && !(s.car c).skewOver then s.raise EV.SHF_CAR_SKEW_EXCESS c else s
        let s := s.updCar c fun k => { k with skewOver := skewed }
        let s := if skewed && !s.follow then s.startPark c else s
        if s.follow then fin s
        else fin (s.each [80, 96, 112, 128] fun s o => s.mgmt c (slice bytes o 16))

/-- KEEPALIVE_EXPIRY (R188): 8 µs after the last valid timing grain. After a switch reset of the same tick only the event
is raised (R450). -/
def execKeepaliveExpiry (c : Fin 128) (s : State) : Res :=
  if s.fwdMode && s.silent c then
    let s := (s.wr SHF_CAR_STAT.TG_OK c 0).wr SHF_CAR_STAT.ECHO_OK c 0
    if cSTANDBY ≤ s.cst c && s.cst c ≤ cDRAINING then fin ((s.carDown c 1).fallBack c) else fin s
  else if s.wasCut (.carDown c) then fin ((s.pastCut (.carDown c)).raise EV.SHF_CAR_DOWN c) else fin s

/-- PARK_LOSS_WAIT_EXPIRY (R193). -/
def execParkLossWaitExpiry (c : Fin 128) (s : State) : Res :=
  match (s.car c).parkWait with
  | some t => if s.cst c = cDRAINING && decide (t ≤ s.now) then fin ((s.carParked c).endOpOf c (fun join _ => !join) 0 0) else fin s
  | none => fin s

/-! ### Enable, disable and the commit of the SHF_ group (R165, R166, R177, R189, R196) -/

/-- An enabled carrier starts: from hold when its lanes are powered, or by powering its lanes. -/
def State.carStart (s : State) (c : Nat) : State :=
  let lanes := s.carLanes c
  let was := s.cst c
  let s := if was = cHELD then s.updPwr fun w => { w with held := w.held.filter (fun x => !lanes.contains x) } else s
  if was = cHELD && s.allPowered lanes then (s.toCarWait c).updCar c fun k => { k with nextTg := s.now }
  else (s.rampRail 0).setCar c cPOWERING

/-- The lanes of an enabled carrier in TIMEKEEP follow HOLD: in hold, or without power (R166). -/
def State.carFollowHold (s : State) (c : Nat) : State :=
  if s.mode ≠ mTIMEKEEP then s
  else if s.comB SHF_CAR_CFG.HOLD c then if s.cst c = cHELD then s else (s.rampRail 0).setCar c cHELD
  else if s.cst c = cHELD then (s.setCar c cDISABLED).dropLanes (s.carLanes c) else s

/-- A carrier is disabled: down first where keep-alive applied, then its lanes lose power. What it kept ends with it, the
next TXN among it: numbering starts at 1 again, of which R191 says nothing (DESIGN CHOICE, log entry 127). -/
def State.carStop (s : State) (c : Nat) : State :=
  let s := if cSTANDBY ≤ s.cst c && s.cst c ≤ cDRAINING then s.carDown c 3 else s.endOp c 2 0
  let s := s.setCar c cDISABLED
  let s := s.updCar c fun _ => {}
  let s := (((s.wr SHF_CAR_STAT.LANES_LOCKED c 0).wr SHF_CAR_STAT.TG_OK c 0).wr SHF_CAR_STAT.ECHO_OK c 0).wr SHF_CAR_STAT.RETRY c 0
  s.dropLanes (s.carLanes c)

/-- A Sheaf is disabled: what it holds is freed, and its sequence ends. -/
def State.sheafStop (s : State) (h : Nat) : State :=
  let x := s.sheaf h
  let s := (s.dropPart h).each x.held fun s e => s.freeBuf (shfParty h) e.2.buf
  let s := match x.tx with
    | some t => (s.letGo (qParty t.queue) t.frame).count (queueSlot (t.queue / 16) (t.queue % 16) 6)
    | none => s
  let s := (s.updSheaf h fun _ => {}).wr SHF_SHEAF_STAT.RX_STATE h rxIDLE
  s.egressOff (256 + h)

/-- What an applied commit of SHF_ does; `b` is the state before it. -/
def State.shfCommit (s b : State) : State :=
  let s := (List.range 128).foldl (fun s c =>
    let was := b.comB SHF_CAR_CFG.ENABLE c
    let on := s.comB SHF_CAR_CFG.ENABLE c
    if was && !on then s.carStop c
    else if !on then s
    else if !was && s.fwdMode then s.carStart c
    else
      let s := if b.com SHF_CAR_CFG.RATE c = s.com SHF_CAR_CFG.RATE c then s else s.updCar c fun k => { k with lanes := k.lanes.map (fun e => (e.1, { e.2 with start := none })) }
      s.carFollowHold c) s
  let s := (List.range 32).foldl (fun s h =>
    let was := b.comB SHF_CFG.ENABLE h
    let on := s.comB SHF_CFG.ENABLE h
    if was && !on then s.sheafStop h
    else if !was && on then s.updSheaf h fun x => { x with nextSeq := 0, legSeq := (0, 0) }
    else if on && b.comB SHF_CFG.DUP h ≠ s.comB SHF_CFG.DUP h then
      (s.updSheaf h fun x => { x with legSeq := (x.nextSeq, x.nextSeq), made := [] }).noteRate h
    else s) s
  s.ttCommit b

/-! ### Commands (R198) -/

/-- CMD_SHF_CARRIER_OP (R191-R193, R198, R480). R198 gives the check of the carrier's state no place among the others: it
comes last, after the mode and ST_BUSY (DESIGN CHOICE, log entry 128). -/
def execCmdShfCarrierOp (m : Fin 16) (x : Exec) (s : State) : Res :=
  fin (s.cmd m 0x201 x
    (fun s =>
      let c := s.pay m 0 1
      let op := s.pay m 1 1
      s.headChecks m (· = 8) ++
      [chk ST_BAD_ARGUMENT (s.pay m 2 2 ≠ 0), chk ST_ZERO_INVALID (s.pay m 4 4 = 0),
       chk ST_BAD_ARGUMENT (decide (127 < c) || op = 0 || decide (2 < op) || decide (60000 < s.pay m 4 4)),
       chk ST_WRONG_MODE (!s.fwdMode), chk followDetail s.follow, chk ST_BUSY (s.carOp c).isSome,
       chk ST_BAD_ARGUMENT (if op = 1 then !(s.cst c = cSTANDBY || s.cst c = cPARKED) else s.cst c ≠ cACTIVE)])
    (fun s =>
      let c := s.pay m 0 1
      let join : Bool := s.pay m 1 1 = 1
      let s := s.running m (.carrier c join (s.now + s.pay m 4 4 * msT) (s.car c).nextTxn) true
      if join then s.askPeer c opJOIN_REQ else s.startPark c))

/-- CARRIER_OP_TIMEOUT (R198). -/
def execCarrierOpTimeout (m : Fin 16) (s : State) : Res :=
  match (s.mbxAt m).job with
  | some (.carrier c join t txn) =>
    if s.now < t then fin s
    else
      let s := s.updCar c fun k => { k with req := k.req.filter (fun r => r.2 ≠ txn), parkWait := if join then k.parkWait else none }
      if join then fin (s.complete m ST_TIMEOUT)
      else fin ((if s.cst c = cDRAINING then s.carParked c else s).complete m ST_TIMEOUT 1)
  | _ => fin s

/-- CMD_SHF_COUNTERS_READ (R197, R198). -/
def execCmdShfCountersRead (m : Fin 16) (x : Exec) (s : State) : Res :=
  fin (s.cmd m 0x202 x
    (fun s =>
      let kind := s.pay m 0 1
      let last := s.pay m 2 1 + s.pay m 3 1
      s.headChecks m (· = 8) ++
      [chk ST_BAD_ARGUMENT (s.pay m 4 1 / 2 ≠ 0 || s.pay m 5 3 ≠ 0), chk ST_ZERO_INVALID (s.pay m 3 1 = 0),
       chk ST_BAD_ARGUMENT (decide (1 < kind) || (kind = 0 && (decide (31 < s.pay m 1 1) || decide (128 < last))) ||
         (kind = 1 && (decide (127 < s.pay m 1 1) || decide (64 < last)))),
       chk ST_WRONG_MODE (!s.cntMode)])
    (fun s =>
      let base := if s.pay m 0 1 = 0 then shfSlot (s.pay m 1 1) 0 else carSlot (s.pay m 1 1) 0
      s.readSlots m base (s.pay m 2 1) (s.pay m 3 1) (testBit (s.pay m 4 1) 0)))

end Sys2Proof.Machine
end

