-- ==== Sys2Proof/Machine/TwinPair.lean ====
section
/-! DEFINITION. Sys2Proof/Machine/TwinPair.lean: the power of the mirror lanes, the entry to PAIRING, and what a commit of
TWN_ does (R459, R464, R469, R488). -/
namespace Sys2Proof.Machine

/-- The mirror lanes power up, with rail 0 (R46, R85, R459). -/
def State.mirrorStart (s : State) : State :=
  if s.twinOn && s.tkMode then
    (List.range 4).foldl (fun s i =>
      if (s.mlane i).st = 0 then (s.rampRail 0).updMlane i fun l => { l with st := 1 } else s) s
  else s

/-- The mirror lanes power down. -/
def State.mirrorStop (s : State) : State :=
  let s := (List.range 4).foldl (fun s i =>
    s.updMlane i fun l => { l with st := 0, up := false, timer := none, retry := false, have_ := false, last := none, tx := {} }) s
  (s.dropLanes [256, 257, 258, 259]).wr TWN_STAT.LANES_UP 0 0

/-- A relinquish ends; a CMD_TWN_SWITCH that waits for it completes. -/
def State.endRelq (s : State) (status : Nat) : State :=
  let m := match s.twin.relq with
    | some (_, m) => m
    | none => none
  let s := (s.updTwin fun t => { t with relq := none }).wr TWN_STAT.SWITCHING 0 0
  match m with
  | some m => if s.mst m = mRUNNING && (s.mbxAt m).job = some .twinSwitch then s.complete m status else s
  | none => s

/-- The block is OFF: what it showed of itself and of a partner reads as at reset. -/
def State.twinOff (s : State) : State :=
  let s := ((s.setRole false).mirrorStop.setTwSt twOFF).endRelq ST_TIMEOUT
  let s := ((s.wr TWN_STAT.PARTNER 0 0).wr TWN_STAT.READY 0 0).wr TWN_STAT.WTR_LEFT 0 0
  let s := (s.wr TWN_HEALTH.OWN 0 0).updInq fun _ => []
  s.updTwin fun t => { mseq := t.mseq, timed := t.timed : Twin }

/-- A hand-over that ENABLE 0 has started is over: the block goes OFF (R464). -/
def State.closeIfDone (s : State) : State := if s.twin.closing then s.twinOff else s

/-- The old LEAD becomes FOLLOW (R471 step 3). -/
def State.handOver (s : State) : State :=
  let s := ((s.setRole false).setTwSt twPAIRED).raise EV.TWN_RELINQUISH
  let s := (s.count (twnSlot 1)).updTwin fun t => { t with kept := [], resyncing := false, settle := none }
  (s.endRelq ST_OK).closeIfDone

/-- The block enters PAIRING as FOLLOW (R464); a LEAD whose mode takes its outputs away has then handed over (R471). -/
def State.enterPairing (s : State) : State :=
  let s := if s.lead then s.handOver else s.closeIfDone
  if !s.twinOn then s
  else
    let s := (((s.setRole false).dropAddrs.dropRequests.setTwSt twPAIRING).endRelq ST_TIMEOUT).updInq fun _ => []
    s.updTwin fun t => { t with pairAt := s.now, resyncing := false, held := [], head := none, lost := false
                                degrade := none, wtr := none, settle := none }

/-- An applied commit of TWN_; `b` is the module before. A LEAD has relinquished before its set changed: the block goes on
until that hand-over is over, and is then OFF (R464, R469). -/
def State.twnCommit (s b : State) : State :=
  if s.comB TWN_CFG.ENABLE then
    if b.twinOn then s.updTwin fun t => { t with closing := false } else s.enterPairing.mirrorStart
  else if !b.comB TWN_CFG.ENABLE then s
  else if s.lead && s.twin.relq.isSome then s.updTwin fun t => { t with closing := true }
  else s.twinOff

end Sys2Proof.Machine
end

