-- ==== Sys2Proof/Machine/Power.lean ====
section
/-! DEFINITION. Sys2Proof/Machine/Power.lean: feeds, rails, resets, SMBus and boundary scan (chapter 2 and R87-R89). -/
namespace Sys2Proof.Machine

/-! ### The feeds (R37-R41, R45, R523) -/

def State.feed (s : State) (f : Fin 2) : Feed := if f = 0 then s.pwr.feedA else s.pwr.feedB
def State.updFeed (s : State) (f : Fin 2) (g : Feed → Feed) : State :=
  s.updPwr fun p => if f = 0 then { p with feedA := g p.feedA } else { p with feedB := g p.feedB }

/-- The thresholds of R37 in 10 mV units, each at the far end of its tolerance: a feed connects at 8.6 V or more, and
stays connected from 8.2 V to 63.5 V; after an over-voltage it connects below 62.0 V. -/
def connectMin : Nat := 860
def stayMin : Nat := 820
def stayMax : Nat := 6350
def reconnectMax : Nat := 6200
/-- Past these voltages an unconnected feed has connected: 8.8 V rising, 61.0 V falling after an over-voltage (R37). -/
def connectMax : Nat := 880
def reconnectMin : Nat := 6100

/-- A feed may connect at a voltage (R37). -/
def Feed.connects (x : Feed) (volt : Nat) : Bool :=
  !x.connected && connectMin ≤ volt && volt ≤ (if x.overV then reconnectMax else stayMax)

/-- The least and the greatest reading of a voltage: ±1 % ±50 mV (R69). -/
def readMin (v : Nat) : Nat := (v * 99 - 500) / 100
def readMax (v : Nat) : Nat := ceilDiv (v * 101 + 500) 100

/-- A reading that the thresholds of R37 allow while the feed is in its state. -/
def Feed.allows (x : Feed) (read : Nat) (rev : Bool) : Bool :=
  if x.connected then readMin stayMin ≤ read && read ≤ readMax stayMax && !rev
  else if x.overV then readMin reconnectMin ≤ read && !rev
  else read ≤ readMax connectMax

/-- FEED_CONNECT (R37, R40, R41, R45): a feed connects; during ride-through it takes over the load in that tick; with
the module unpowered it starts the sequence of R45. -/
def execFeedConnect (f : Fin 2) (volt : BitVec 16) (s : State) : Res :=
  if !(s.feed f).connects volt.toNat then fin s
  else
    let wasLost := (s.feed f).lost
    let s := s.updFeed f fun x =>
      { x with connected := true, overV := false, reversed := false, volt := volt.toNat, charging := true }
    if s.pwr.aon = .up then
      let s := s.wr PWR_FEED_STAT.RIDE_THROUGH 0 0
      let s := if wasLost then s.raise (if f = 0 then EV.PWR_A_RESTORED else EV.PWR_B_RESTORED) else s
      fin s.feedRegs
    else if s.pwr.aon = .off then fin (s.updPwr fun p => { p with aon := .charging })
    else fin s

/-- Shortest ride-through at load power `p` in 0.1 W: 0.5 ms × 405 W / P (R40). -/
def rideTicks (p : Nat) : Nat := ceilDiv (800000 * 4050) (max p 1)

/-- A feed connects in the present tick: a FEED_CONNECT that takes effect is still waiting (R40). -/
def State.feedComes (s : State) : Bool := s.pending.any (fun c => match c with
  | .feedConnect f v => (s.feed f).connects v.toNat
  | _ => false)

/-- FEED_DISCONNECT (R39, R40, R523). -/
def execFeedDisconnect (f : Fin 2) (overV : Bool) (load : Nat) (s : State) : Res :=
  if !(s.feed f).connected then fin s
  else
    let s := s.updFeed f fun x => { x with connected := false, overV := overV, charging := false, lost := true }
    let none_ := !s.pwr.feedA.connected && !s.pwr.feedB.connected
    if s.pwr.aon = .up then
      let s := (s.raise (if f = 0 then EV.PWR_A_LOST else EV.PWR_B_LOST)).feedRegs
      if none_ then
        let s := (s.wr PWR_FEED_STAT.RIDE_THROUGH 0 1).raise EV.PWR_RIDE_THROUGH
        fin (s.updPwr fun p => { p with rideEnd := s.now + rideTicks load })
      else fin s
    else if none_ then fin (s.updPwr fun p => { p with aon := .off })
    else fin s

/-- The module has no power left (R40): every rail is off. -/
def State.stop (s : State) : State :=
  let s := [0, 1, 2, 3, 4, 5, 6].foldl State.railOff s
  let s := (s.wr PWR_RAIL_STAT.RAIL_OK 0 0).wr PWR_RAIL_STAT.RAIL_REQ 0 0
  (s.wr PWR_FEED_STAT.RIDE_THROUGH 0 0).updPwr fun p => { p with aon := .off }

/-- RIDE_THROUGH_END (R40, R47): no feed has come back, none does in this tick, and the energy is gone. -/
def execRideThroughEnd (s : State) : Res :=
  if s.bit PWR_FEED_STAT.RIDE_THROUGH && s.pwr.aon = .up && !s.pwr.feedA.connected && !s.pwr.feedB.connected &&
      s.pwr.rideEnd ≤ s.now && !s.feedComes then
    fin (s.powerFault none).stop
  else fin s

/-- CHARGE_COMPLETE (R41, R45): the always-on rail starts once the first charge is complete. -/
def execChargeComplete (f : Fin 2) (s : State) : Res :=
  if (s.feed f).charging then
    let s := s.updFeed f fun x => { x with charging := false }
    fin (if s.pwr.aon = .charging then s.updPwr fun p => { p with aon := .starting } else s)
  else fin s

/-- POWER_ON_RESET (R45, R63, R87): everything is reset, the straps are sampled, DORMANT. -/
def execPowerOnReset (straps : BitVec 3) (s : State) : Res :=
  if s.pwr.aon = .starting then
    let s := s.updPwr fun p => { p with feedA := { p.feedA with lost := false }, feedB := { p.feedB with lost := false },
                                        tap := .idcode }
    fin (s.fromReset straps.toNat)
  else fin s

/-! ### Rails (R46, R47) -/

/-- RAIL_RAMP_TIMEOUT (R46): a ramp has taken 2 ms, in this tick, and the rail is not in regulation. -/
def execRailRampTimeout (r : Fin 8) (s : State) : Res :=
  match s.pwr.ramp.find? (fun e => e.1 = r.val) with
  | some (_, t) =>
    if s.railReq r && !s.railOk r && t + 2 * msT ≤ s.now then
      fin ((s.raise EV.PWR_RAIL_FAULT).powerFault (some r))
    else fin s
  | none => fin s

/-- RAIL_LEAVES_REGULATION (R46, R47, R82): a rail that has reached regulation, be it within the 2 ms of its ramp, leaves
it. Without the always-on rail the module waits for a power-on reset. -/
def execRailLeavesRegulation (r : Fin 8) (s : State) : Res :=
  if s.railReq r && s.pwr.aon = .up then
    let s := s.wr PWR_RAIL_STAT.RAIL_OK 0 (clearBit (s.rd PWR_RAIL_STAT.RAIL_OK) r)
    let s := (s.raise EV.PWR_RAIL_FAULT).powerFault (some r)
    fin (if r.val = 7 then s.stop.updPwr fun p => { p with aon := .starting } else s)
  else fin s

/-- FEED_MONITOR_UPDATE (R37, R69): every 1 ms the monitors' readings, and with them the switches that conduct; readings
that contradict the state of a feed do not occur. -/
def execFeedMonitorUpdate (va ca vb cb : BitVec 16) (revA revB : Bool) (s : State) : Res :=
  if s.pwr.aon = .up && s.pwr.feedA.allows va.toNat revA && s.pwr.feedB.allows vb.toNat revB then
    let s := (s.wr PWR_FEED_MON_0.VOLT 0 va.toNat).wr PWR_FEED_MON_0.CURR 0 ca.toNat
    let s := (s.wr PWR_FEED_MON_1.VOLT 0 vb.toNat).wr PWR_FEED_MON_1.CURR 0 cb.toNat
    let s := s.updPwr fun p => { p with feedA := { p.feedA with volt := va.toNat, reversed := revA },
                                        feedB := { p.feedB with volt := vb.toNat, reversed := revB } }
    fin s.feedRegs
  else fin s

/-! ### Resets (R48, R87-R89, R94) -/

/-- RESET_PIN (R48, R87): 1.1 µs or longer always resets, 0.9 µs or shorter never; between, the spec leaves it open. -/
def execResetPin (lowNs : Nat) (s : State) : Res :=
  if s.pwr.aon ≠ .up || lowNs ≤ 900 then fin s
  else if 1100 ≤ lowNs || Config.resetPulse s.nextFree then
    fin ({ s with nextFree := s.nextFree + 1 }.moduleReset 1)
  else fin { s with nextFree := s.nextFree + 1 }

/-- Events of ports, carriers, Sheaves and egresses that have their occasion in this tick; a switch reset of it leaves them to
be raised (R450). -/
def State.portEvents (s : State) (p : Nat) : List CutEv :=
  let st := s.linkState p
  (if s.debEnds p then [.portDown p] else []) ++
  (if st = lsDOWN_PENDING && decide (s.now ≤ (s.port p).downAt + s.rd PRT_LINK_CFG.DOWN_DEB p * usT) then [.portGlitch p] else []) ++
  (if st = lsUP_PENDING && s.portDue p then [.portUp p] else []) ++
  (if (st = lsADAPT || st = lsALIGN) && s.portDue p && (s.port p).retry then [.portFail p] else []) ++
  (if lsALIGN ≤ st && st ≤ lsDOWN_PENDING then [.portFec p] else [])
def State.carEvents (s : State) (c : Nat) : List CutEv :=
  (if s.silent c && cSTANDBY ≤ s.cst c && s.cst c ≤ cDRAINING then [.carDown c] else []) ++
  (if (s.cst c = cADAPT || s.cst c = cLOCK) && s.carDue c && (s.car c).retry then [.carFail c] else [])
def State.sheafEvents (s : State) (h : Nat) : List CutEv :=
  let x := s.sheaf h
  let w := s.lossTicks h
  (if s.rxState h = rxRUN && (x.nearest.any (fun q => seqDiff q x.head ≠ 0)) && (x.held.any (fun e => decide (e.2.at_ + w ≤ s.now)) ||
      x.emptyAt.any (fun t => decide (t + w ≤ s.now))) then [.grainLost h] else []) ++
  (if s.rxState h = rxSYNC && decide (x.syncAt + w ≤ s.now) && x.syncLow.isSome then [.resync h] else [])
def State.egressEvents (s : State) (e : Nat) : List CutEv :=
  if s.holdOver e && (elasticQueues e).any (fun n => !(s.queue n).ents.isEmpty) then [.linkFlush e] else []
def State.cutEvents (s : State) : List CutEv :=
  (List.range 256).flatMap s.portEvents ++ (List.range 128).flatMap s.carEvents ++ (List.range 32).flatMap s.sheafEvents ++
  (List.range 288).flatMap s.egressEvents ++ (if s.drainDone then [.planeDrain] else [])

/-- Enabled ports and carriers with HOLD 1 go into hold in TIMEKEEP (R77, R133, R166). -/
def State.holdAll (s : State) : State :=
  let s := (List.range 256).foldl (fun s p => if s.comB PRT_CFG.ENABLE p then s.portFollowHold p else s) s
  (List.range 128).foldl (fun s c => if s.comB SHF_CAR_CFG.ENABLE c then s.carFollowHold c else s) s

/-- What a switch reset clears of the switch die and the Grange. Rail 6 stays on, so the shadow and committed sets of the
PRT_, SHF_ and TWN_ blocks stay (R109, R488, R491; log entry 79). -/
def State.loseSwitch (s : State) : State :=
  let wdt := s.rd MBX_GRANGE_STAT.WDT_CNT
  let regs := s.regs
  let com := s.committed
  let s := (s.lose 6).optLevels
  let s := { s with regs := copySets 0x403 regs s.regs }
  { s with committed := copySets 0x403 com s.committed }.wr MBX_GRANGE_STAT.WDT_CNT 0 wdt

/-- The mode after a switch reset: TIMEKEEP from FORWARD and CALIBRATE, whatever the transition in progress, but that an
entry to ISOLATE goes on (R75, R87). -/
def State.resetMode (s : State) : State :=
  let s := s.wr PWR_MODE_CTL.CUR_MODE 0 mTIMEKEEP
  if s.pwr.trans = some 5 then s
  else
    let s := (s.updPwr fun p => { p with trans := none, oldRails := 0 }).wr PWR_MODE_CTL.IN_TRANSITION 0 0
    s.wr PWR_MODE_CTL.REQ_MODE 0 mTIMEKEEP

/-- The same in TIMEKEEP and ISOLATE, where the mode controller goes on. With the HBM contents gone, a transition from
ISOLATE to FORWARD is planned anew (R73; log entry 79). -/
def State.resetHeld (s : State) : State :=
  let s := [1, 2, 3].foldl State.lose s
  if s.mode = mISOLATE then
    let s := [1, 2, 3].foldl State.railOff s
    if s.pwr.trans = some 3 then ((s.updPwr fun p => { p with trans := none }).wr PWR_MODE_CTL.IN_TRANSITION 0 0).plan else s
  else s

/-- The switch reset (R87): switch die, Grange, endpoint and HBM contents; from FORWARD or CALIBRATE to TIMEKEEP, where
line references have no signal (R77). In DORMANT and WARMUP only the cause is noted. LAST_FROM and LAST_TO keep the last
transition (DESIGN CHOICE, log entry 78). -/
def State.switchReset (s : State) : State :=
  if s.mode = mDORMANT || s.mode = mWARMUP then
    s.setReg R.PWR_RESET_CAUSE 0 (s.reg R.PWR_RESET_CAUSE 0 ||| 8)
  else
    let s := s.resetCause 3
    let wasFwd := s.fwdMode
    let cut := if wasFwd then (s.now, s.cutEvents) else s.pwr.cut
    let s := if wasFwd then s.relinquish none else s
    let s := s.abortCal
    let s := s.wr PWR_MODE_STAT.HBM_RETAINED 0 0
    let s := s.loseSwitch
    let s := s.railOff 0
    let s := s.updPwr fun p => { p with lanes := [], held := [], cut := cut }
    let s := if wasFwd then ([1, 2, 3].foldl State.railOff s).resetMode.dropLineRefs else s.resetHeld
    let s := s.holdAll
    let s := if s.twinOn && s.mode = mTIMEKEEP then s.enterPairing.mirrorStart else s
    (s.startBoot true).updBoot fun b => { b with relink := true }

/-- A write of PWR_RESET_CTL (R94): only with the key; MODULE prevails over SWITCH. -/
def State.resetCtl (s : State) (data : Word) : State :=
  if PWR_RESET_CTL.KEY.get data ≠ 0xA5C3 then s
  else if PWR_RESET_CTL.MODULE.get data = 1 then s.moduleReset 2
  else if PWR_RESET_CTL.SWITCH.get data = 1 then s.switchReset
  else s

/-- SOFTWARE_MODULE_RESET (R87, R94): the write of PWR_RESET_CTL that sets MODULE. -/
def execSoftwareModuleReset (data : Word) (s : State) : Res :=
  if s.pwr.aon = .up && PWR_RESET_CTL.MODULE.get data = 1 then fin (s.resetCtl data) else fin s

/-- SOFTWARE_SWITCH_RESET (R87, R94): the write of PWR_RESET_CTL that sets SWITCH. -/
def execSoftwareSwitchReset (data : Word) (s : State) : Res :=
  if s.pwr.aon = .up && PWR_RESET_CTL.SWITCH.get data = 1 then fin (s.resetCtl data) else fin s

/-- GRANGE_WATCHDOG_RESET (R87, R88, R109): Grange and firmware only; Bawalo boots again and will read the journal. -/
def execGrangeWatchdogReset (s : State) : Res :=
  if s.railOk 6 && s.bootRunning then
    let s := (s.resetCause 4).addSat MBX_GRANGE_STAT.WDT_CNT 0 1
    fin (s.startBoot true)
  else fin s

/-- PCIE_FUNDAMENTAL_RESET (R87, R89): PERST_N falls, or rises and lets the endpoint train. -/
def execPcieFundamentalReset (low : Bool) (s : State) : Res :=
  if s.pwr.aon ≠ .up then fin s
  else if low then
    let s := (s.updPwr fun p => { p with perstLow := true }).resetCause 5
    fin (s.updGr fun g => { g with linkUp := false, masked := 0xFFFFFFFF, msixPend := 0 })
  else
    let s := s.updPwr fun p => { p with perstLow := false }
    fin (s.updGr fun g => { g with linkUp := s.railOk 6 && !s.boot.relink })

/-! ### Mode requests (R73-R76, R81, R82, R92) -/

/-- A write of REQ_MODE is refused (R74, R76, R81, R82, R92). After a critical temperature ISOLATE is not left before the
estimate has fallen to 93.0 °C, whatever its cause, and no request made before counts, be it made while ISOLATE is being
entered (R53). -/
def State.refusesMode (s : State) (v : Nat) : Bool :=
  let hot := decide (1488 < s.rdS PWR_TEMP.CASE)
  let entering : Bool := s.pwr.trans = some 5
  let iso : Bool := s.mode = mISOLATE || entering
  let cause := if entering then s.pwr.isoCause else s.rd PWR_MODE_STAT.ISO_CAUSE
  (v = mWARMUP && (s.mode = mTIMEKEEP || s.fwdMode || s.mode = mISOLATE)) ||
  (v = mISOLATE && s.mode = mDORMANT) ||
  (v ≠ mDORMANT && s.bit PWR_EVT_STAT.POWER_FAULT) ||
  (v ≠ mDORMANT && v ≠ mISOLATE && s.rd PWR_BOOT_STAT.STATE = 4) ||
  (iso && v ≠ mISOLATE && ((cause = 2 && hot) || !s.pwr.critArmed)) ||
  (iso && v ≠ mISOLATE && cause = 3 &&
    (List.range 11).any (fun c => testBit (s.rd EVT_LASTING.CLASS) c && s.faultAct c = 2)) ||
  (s.mode = mDORMANT && v ≠ mDORMANT && !s.pwr.critArmed && hot)

/-- A host request to leave FORWARD prevails over the automatic calibration that this tick started, which then waits in
CAL_PENDING (R76, log entry 80). -/
def State.deferCal (s : State) (v : Nat) : State :=
  if (v = mTIMEKEEP || v = mDORMANT) && s.pwr.trans = some 4 && s.pwr.calAt = some s.now then
    let s := (s.wr PWR_MODE_CTL.IN_TRANSITION 0 0).wr PWR_MODE_STAT.CAL_PENDING 0 1
    s.updPwr fun p => { p with trans := none }
  else s

/-- A host write of REQ_MODE, which waits during a calibration run (R430); in the tick of a fault or temperature trigger for ISOLATE it gives way, and so it does in that
of a module reset (R76). -/
def State.modeRequest (s : State) (v : Nat) (smbus : Bool) : State :=
  if 5 < v then s.reservedEnc (if smbus then 0x10 else 0x01D00010) smbus
  else if s.refusesMode v then s.wr PWR_MODE_STAT.REFUSED 0 1
  else if v = mISOLATE then s.isolate 1
  else if s.pwr.isoAt = some s.now || s.pwr.resetAt = some s.now then s
  else
    let s := (s.deferCal v).updCal fun c => { c with again := s.mode = mCALIBRATE && v = mCALIBRATE }
    (s.wr PWR_MODE_CTL.REQ_MODE 0 v).plan

/-- A write of OCXO_HOLD_WARM (R69): in DORMANT rail 5 and the heater follow at once. -/
def State.holdWarm (s : State) (v : Bool) : State :=
  let s := s.wrB PWR_MODE_CTL.OCXO_HOLD_WARM 0 v
  if s.mode = mDORMANT && s.pwr.trans.isNone then if v then s.rampRail 5 else s.railOff 5 else s

/-- OCXO_HOLD_WARM_WRITE (R69, R70). -/
def execOcxoHoldWarmWrite (v : Bool) (s : State) : Res :=
  if s.pwr.aon = .up then fin (s.holdWarm v) else fin s

/-! ### The always-on registers (R64-R67, R497) -/

/-- The period of the 25 MHz clock, 64 ticks (R16). -/
def aonClk : Nat := 64

/-- Notes an SMBus write of offset `o`. -/
def State.noteSmb (s : State) (o : Nat) (data : Word) : State :=
  s.updPwr fun p => { p with smbLast := some (s.now / aonClk, o, data) }

/-- Data that SMBus has written to offset `o` in this 25 MHz clock. -/
def State.smbData (s : State) (o : Nat) : Option Word := match s.pwr.smbLast with
  | some (k, o', d) => if k = s.now / aonClk ∧ o' = o then some d else none
  | none => none

/-- A request of mode `v` in a write of `data` to PWR_MODE_CTL. A PCIe write takes effect before an SMBus write of the same
25 MHz clock, so a request of SMBus that came first is repeated after it, unless that of PCIe is refused (R66, log entry
81). -/
def State.hostMode (s : State) (v : Nat) (data : Word) (smbus : Bool) : State :=
  if smbus then (s.modeRequest v true).noteSmb 0x10 data
  else
    let s' := s.modeRequest v false
    if 5 < v || s.refusesMode v then s'
    else match s.smbData 0x10 with
      | some d => s'.modeRequest (PWR_MODE_CTL.REQ_MODE.get d) true
      | none => s'

/-- A write of the always-on register at offset `o`, by itself; that of PWR_MODE_CTL has its own operation. -/
def State.aonPut (s : State) (row : RegRow) (i o : Nat) (data : Word) (smbus : Bool) : State :=
  if o = 0x4C then s.resetCtl data
  else s.writeReg row i data (if smbus then o else 0x01D00000 + o) smbus

/-- A write of the always-on register at offset `o`, by PCIe or SMBus, in the order of R66 (log entry 81). -/
def State.aonWrite (s : State) (row : RegRow) (i o : Nat) (data : Word) (smbus : Bool) : State :=
  if o = 0x10 then
    let s := s.holdWarm (PWR_MODE_CTL.OCXO_HOLD_WARM.get data = 1)
    let s' := s.hostMode (PWR_MODE_CTL.REQ_MODE.get data) data smbus
    match s.smbData o with
    | some d => if smbus then s' else s'.holdWarm (PWR_MODE_CTL.OCXO_HOLD_WARM.get d = 1)
    | none => s'
  else if smbus then (s.aonPut row i o data true).noteSmb o data
  else
    let s' := s.aonPut row i o data false
    match s.smbData o with
    | some d => if o = 0x4C then s' else s'.aonPut row i o d true
    | none => s'

def State.smbAddr (s : State) : Nat := s.rd PWR_SMB_STAT.ADDR

/-- The packet error code of a Block Write (R64, R65): CRC-8 over address, command, count and data. -/
def State.smbPec (s : State) (ofs : BitVec 16) (data : Word) : Byte :=
  BitVec.ofNat 8 (crc8 ([BitVec.ofNat 8 (2 * s.smbAddr), 0x10, 6] ++ leBytes 2 ofs.toNat ++ leBytes 4 data.toNat))

/-- SMB_REGISTER_WRITE (R64, R65). The packet error code is judged before the offset: a write with both wrong counts in
PEC_ERR_CNT alone (DESIGN CHOICE, log entry 82). -/
def execSmbRegisterWrite (count : Nat) (ofs : BitVec 16) (data : Word) (pec : Option Byte) (s : State) : Res :=
  if s.pwr.aon ≠ .up then fin s
  else if count ≠ 6 then fin (s.addSat PWR_SMB_STAT.BAD_COUNT_CNT 0 1)
  else
    let bad : Bool := match pec with
      | some p => !(p == s.smbPec ofs data)
      | none => s.bit PWR_SMB_CFG.PEC_REQ
    if bad then fin ((s.addSat PWR_SMB_STAT.PEC_ERR_CNT 0 1).raise EV.PWR_SMB_ERROR)
    else match regAt (0x01D00000 + ofs.toNat) with
      | some (row, i) => fin (s.aonWrite row i ofs.toNat data true)
      | none => fin (s.addSat PWR_SMB_STAT.BAD_OFFSET_CNT 0 1)

/-- The oven control error as OVEN_ERR shows it, updated every second: 0 with the heater off; as a command gave it in the
second after; otherwise open, within ±0.5 °C while OCXO_WARM is 1 (R84, R94, log entry 83). -/
def State.ovenErr (s : State) : Nat :=
  if s.pwr.heaterOn.isNone then 0
  else if s.pwr.ovenAt.any (fun t => decide (s.now < t + sT)) then s.rd PWR_OCXO_STAT.OVEN_ERR
  else
    let x := Config.ovenErr (s.now / sT)
    tc 16 (if s.bit PWR_CLK_STAT.OCXO_WARM then max (-512) (min 512 x) else x)

/-- What a read of an always-on register returns: WO fields read 0 (R10); RAIL_OK shows the rails in regulation (R46);
WARM_ELAPSED counts from the heater's start (R94); STATE shows checking once the read of an image is over (R519); the serial number comes from the fuses (R498). -/
def State.aonRead (s : State) (row : RegRow) (i : Nat) : Word :=
  let w := row.flds.foldl (fun w f => if f.acc = .wo then f.put w 0 else w) (s.reg row.reg i)
  if row.reg.base = R.PWR_OCXO_STAT.base then
    PWR_OCXO_STAT.OVEN_ERR.put (PWR_OCXO_STAT.WARM_ELAPSED.put w (match s.pwr.heaterOn with
      | some t => min 65535 ((s.now - t) / sT)
      | none => 0)) s.ovenErr
  else if row.reg.base = R.PWR_RAIL_STAT.base then PWR_RAIL_STAT.RAIL_OK.put w s.railOks
  else if row.reg.base = R.PWR_BOOT_STAT.base then
    if s.rd PWR_BOOT_STAT.STATE = 1 && s.boot.checkFrom ≤ s.now then PWR_BOOT_STAT.STATE.put w 2 else w
  else if row.reg = R.PWR_SERIAL_0 then BitVec.ofNat 32 (leNat (slice s.boot.serial 0 4))
  else if row.reg = R.PWR_SERIAL_1 then BitVec.ofNat 32 (leNat (slice s.boot.serial 4 4))
  else if row.reg = R.PWR_SERIAL_2 then BitVec.ofNat 32 (leNat (slice s.boot.serial 8 4))
  else w

/-- SMB_REGISTER_READ (R64, R65): the data, then the packet error code over the whole transaction. -/
def execSmbRegisterRead (count : Nat) (ofs : BitVec 16) (s : State) : Res :=
  if s.pwr.aon ≠ .up then fin s
  else if count ≠ 2 then fin (s.addSat PWR_SMB_STAT.BAD_COUNT_CNT 0 1)
  else
    let (w, s) := match regAt (0x01D00000 + ofs.toNat) with
      | some (row, i) => (s.aonRead row i, s)
      | none => ((0 : Word), s.addSat PWR_SMB_STAT.BAD_OFFSET_CNT 0 1)
    let d := leBytes 4 w.toNat
    let a := s.smbAddr
    let pec := crc8 ([BitVec.ofNat 8 (2 * a), 0x11, 2] ++ leBytes 2 ofs.toNat ++ [BitVec.ofNat 8 (2 * a + 1), 4] ++ d)
    fin (s.emit (.smbData (d ++ [BitVec.ofNat 8 pec])))

/-- SMB_ALERT_RESPONSE (R63, R67): the module answers with its address while SMB_ALERT_N is low. -/
def execSmbAlertResponse (s : State) : Res :=
  if s.pwr.aon = .up && s.smbAlert then fin (s.emit (.smbData [BitVec.ofNat 8 (2 * s.smbAddr)])) else fin s

/-- SMB_CLOCK_LOW_TIMEOUT (R63): the interface is reset. Every transaction of the model is whole, so none is left to
drop and no state changes. -/
def execSmbClockLowTimeout (s : State) : Res := fin s

/-! ### Boundary scan (R68) -/

/-- IDCODE of stepping B (R68). -/
def tapIdcode : Word := 0x29640A6F

/-- The data register that the TAP's instruction selects (R68): the one-bit bypass register, the identification code, or
the boundary register, whose cells the BSDL description lists. -/
inductive TapReg where
  | bypass
  | id (code : Word)
  | boundary
  deriving DecidableEq, Repr

def State.tapReg (s : State) : TapReg := match s.pwr.tap with
  | .bypass => .bypass
  | .clamp => .bypass
  | .highz => .bypass
  | .idcode => .id tapIdcode
  | .samplePreload => .boundary
  | .extest => .boundary

/-- TAP_INSTRUCTION: outside ISOLATE the test instructions load BYPASS and the capture reads 0b01. -/
def execTapInstruction (i : TapInstr) (s : State) : Res :=
  if s.pwr.aon ≠ .up then fin s
  else if s.mode = mISOLATE || i = .bypass || i = .idcode then fin (s.updPwr fun p => { p with tap := i })
  else fin ((s.updPwr fun p => { p with tap := .bypass }).emit (.tdo 1))

/-- TAP_RESET: IEEE 1149.1 selects IDCODE in a TAP that has it. -/
def execTapReset (s : State) : Res := fin (s.updPwr fun p => { p with tap := .idcode })

end Sys2Proof.Machine
end

