-- ==== Sys2Proof/Machine/Spares.lean ====
section
/-! DEFINITION. Sys2Proof/Machine/Spares.lean: spare rows and units (R442, R443) and their record in the retention SRAM
(R443, R455). -/
namespace Sys2Proof.Machine

def countOf {α : Type} [DecidableEq α] (l : List α) (x : α) : Nat := (l.filter (· = x)).length

/-- EVT_SPARE_STAT, as the retention SRAM holds it (R443, R455): spare rows and units in use, and the banks and groups
with none left. -/
def State.spareStat (s : State) : Word :=
  let rows := s.evt.rows
  let units := s.evt.units
  let full := (rows.dedup.filter (fun b => 2 ≤ countOf rows b)).length + units.dedup.length
  EVT_SPARE_STAT.BANKS_FULL.put (EVT_SPARE_STAT.UNITS_USED.put (EVT_SPARE_STAT.ROWS_USED.put 0 (min 65535 rows.length))
    (min 255 units.length)) (min 255 full)

/-- A lasting fault of a row: one of the bank's two spare rows takes over if there is one (R442, R443). DETAIL is the bank
times 512 plus the row (R455, log entry 62). -/
def State.rowFault (s : State) (c bank row : Nat) : State :=
  let d := 512 * bank + row
  if countOf s.evt.rows (c, bank) < 2 then
    (s.lastingFault c d false).updEvt fun e => { e with rows := e.rows ++ [(c, bank)], repairAt := s.now + 1024 }
  else s.lastingFault c d true

/-- A lasting fault of an arithmetic unit: the group's spare takes over if it is free. DETAIL is the group times 8 plus the
unit. -/
def State.unitFault (s : State) (c group unit : Nat) : State :=
  let d := 8 * group + unit
  if countOf s.evt.units (c, group) = 0 then
    (s.lastingFault c d false).updEvt fun e => { e with units := e.units ++ [(c, group)], repairAt := s.now + 1024 }
  else s.lastingFault c d true

/-- Fetches of a range of a table. -/
def State.issueFetches (s : State) (addr first count : Nat) : State :=
  (List.range count).foldl (fun s k => s.emit (.fetch (addr + 64 * (first + k)))) s

/-- Entries of table `t` are read again after a fault of their page or copy (R442, R443): from the bound table in host
memory, or, on a FOLLOW, from the LEAD, which is asked over the mirror (R480, log entry 121). -/
def State.reloadEntries (s : State) (t first count : Nat) : State :=
  let n := min count (s.rd MBX_DT_BIND.ENTRY_COUNT t - first)
  if n = 0 then s
  else if s.follow then s.emit (.mirrorReload t first n)
  else match (s.table t).addr with
    | some a => (s.updTable t fun x =>
        { x with queue := x.queue ++ [{ first := first, count := n, ord := s.nextOrd, reload := true }] }).issueFetches a first n
    | none => s

end Sys2Proof.Machine
end

