-- ==== Sys2Proof/Machine/Tdc.lean ====
section
/-! DEFINITION. Sys2Proof/Machine/Tdc.lean: the time-to-digital converter (chapter 14). -/
namespace Sys2Proof.Machine

/-! ### Bin table (R418, R419) -/

def nominalPos (b : Nat) : Nat := 256 * (2 * b + 1) / 10
def binPos (t : SMap Nat) (i : Nat) : Nat :=
  let v := SMap.get 0 t i
  if v = 0 then nominalPos (i % 512) else v - 1
def setBin (t : SMap Nat) (i v : Nat) : SMap Nat := SMap.set 0 t i (if v = nominalPos (i % 512) then 0 else v + 1)

/-! ### Records (R410-R414) -/

/-- Bits of FLAGS (R413). -/
def flVALID : Nat := 0
def flORDER : Nat := 1
def flUNRESOLVED : Nat := 2
def flNO_START : Nat := 3
def flNO_STOP : Nat := 4
def flWARM : Nat := 5
def flUNCAL : Nat := 6
def flABORTED : Nat := 7
def flMARK_LATE : Nat := 8
def flINT_ERR : Nat := 9
def flTRANSIENT : Nat := 10

/-- Path whose delay refers an edge of a source to its land; a sine input's delay enters no result (R405, R425). -/
def State.srcDelay (s : State) (src : Nat) : Int :=
  if src = 29 || 30 ≤ src then 0
  else if (2 ≤ src && src ≤ 5 && s.comB REF_IN_CFG.KIND (src - 2)) || (src = 6 && s.comB CAL_CFG.CALIN_KIND) then 0
  else if src ≤ 6 then (s.path (520 + src)).delay
  else (s.path (549 + src - 7)).delay

/-- UNCAL (R419). -/
def State.uncal (s : State) : Bool :=
  s.com TDC_BIN_TEMP.TEMP = 0x8000 ||
  decide ((s.com CAL_TEMP_STEP.STEP : Int) < ((s.caseTemp - s.comS TDC_BIN_TEMP.TEMP).natAbs : Int))

/-- An edge's time since MDLL lock, less a delay, in fifths of 2^-16 ns: coarse periods of 400 ps. -/
def TdcEdge.time5 (e : TdcEdge) (d : Int) : Int := (e.coarse : Int) * 131072 - 5 * e.pos - 5 * d

def flagBits (l : List (Nat × Bool)) : Nat := l.foldl (fun a e => if e.2 then setBit a e.1 else a) 0

def State.tdcInc (s : State) (k : Nat) (b : Bool) : State := if b then s.addWrap TDC_CNT.COUNT k 1 else s

/-- Writes a record and counts it; the run ends after REPEAT records (R413, R415, R422). -/
def State.tdcWrite (s : State) (interval : Int) (startT : Option Int) (dom flags : Nat) : State :=
  let (sec, ns, fr) := match startT with | some t => tsParts t | none => (0, 0, 0)
  let rec_ := leBytes 8 (tc 64 interval) ++ leBytes 6 sec ++ leBytes 4 ns ++ leBytes 2 fr ++ leBytes 2 flags ++
    leBytes 2 s.tdc.seq ++ leBytes 4 (tc 32 s.yNow) ++ leBytes 2 (tc 16 s.caseTemp) ++
    [BitVec.ofNat 8 dom, 0]
  let s := s.updTdc fun t => { t with fifo := t.fifo ++ [rec_], armed := none, seq := (t.seq + 1) % 65536,
                                      left := t.left - 1, endedAt := some s.now }
  let f (i : Nat) : Bool := testBit flags i
  let s := s.tdcInc 0 true
  let s := s.tdcInc 1 (f flNO_START || f flNO_STOP)
  let s := s.tdcInc 2 (f flUNRESOLVED)
  let s := s.tdcInc 3 (f flORDER)
  let s := s.tdcInc 4 (f flABORTED || f flMARK_LATE)
  let s := s.tdcInc 5 (f flTRANSIENT)
  let s := if f flUNRESOLVED then s.raise EV.TDC_UNRESOLVED else s
  let s := if f flABORTED then s.raise EV.TDC_ABORTED else s
  let s := if f flNO_START || f flNO_STOP then s.raise EV.TDC_TIMEOUT else s
  let s := if s.tdc.left = 0 && s.tdcRun then (s.wr TDC_STAT.RUN 0 0).raise EV.TDC_RUN_DONE else s
  s.tdcNote

/-- FLAGS that every record carries. -/
def State.tdcFlags (s : State) (l : List (Nat × Bool)) : Nat :=
  flagBits ([(flWARM, s.ocxoWarm), (flUNCAL, s.uncal)] ++ l)

/-- A tick in fifths of 2^-16 ns. -/
def tick5 : Int := 204800

/-- The value that Dn had `back` fifths of 2^-16 ns before this tick, on the course that it then ran (R311, R410). -/
def State.domBack (s : State) (n : Nat) (back : Int) : Int :=
  let x := tick5 * s.now - back
  match s.pastOf (x / tick5).toNat with
  | some p => let v := p.dom.getD n (0, 0); v.1 + v.2 * (x - tick5 * p.upTo) / tick5
  | none => s.domAt n s.now - back * s.incOf n / tick5

/-- START_TIME: the value of Dn at the land crossing of a start edge (R410). -/
def State.startTime (s : State) (n : Nat) (e : TdcEdge) : Int :=
  s.domBack n (tick5 * (s.tick : Int) - e.time5 (s.srcDelay (s.com TDC_CH_CFG.SOURCE 0)))

/-- START_TIME of a measurement that has taken its start edge. -/
def Armed.startTime (a : Armed) : Option Int := if a.start.isSome then some a.startT else none

/-- Ends an armed measurement without a result (R409, R412, R415, R416). -/
def State.tdcEnd (s : State) (l : List (Nat × Bool)) : State :=
  match s.tdc.armed with
  | some a => s.tdcWrite 0 a.startTime a.dom (s.tdcFlags l)
  | none => s

def State.tdcAbort (s : State) : State := s.tdcEnd [(flABORTED, true)]

/-- INTERVAL in fifths of 2^-16 ns (R410). -/
def State.interval5 (s : State) (start stop : TdcEdge) : Int :=
  stop.time5 (s.srcDelay (s.com TDC_CH_CFG.SOURCE 1)) - start.time5 (s.srcDelay (s.com TDC_CH_CFG.SOURCE 0))

/-- Both edges of the measurement `m` are taken (R410, R411, R414): an interval below 40 ps, 65,536 fifths of a fifth of
2^-16 ns, is unresolved. -/
def State.tdcResult (s : State) (m : Armed) (a b : TdcEdge) (x : Exec) : State :=
  let i5 := s.interval5 a b
  let bad := x = .failed || m.bad
  let fl := s.tdcFlags [(flVALID, !bad), (flORDER, decide (i5 < 0)), (flUNRESOLVED, decide (i5.natAbs * 5 < 65536)),
    (flINT_ERR, bad), (flTRANSIENT, x = .retried)]
  let s := match x with
    | .clean => s
    | .retried => s.transientFault 4
    | .failed => (s.raise EV.TDC_INT_FAULT).unitFault 4 0 0
  s.tdcWrite (i5 / 5) m.startTime m.dom fl

/-! ### Arming and edges (R406-R409, R412, R415, R430) -/

def State.sameSource (s : State) : Bool := s.com TDC_CH_CFG.SOURCE 0 = s.com TDC_CH_CFG.SOURCE 1

/-- The marker time of the measurement (R412), in 2^-40 ns. -/
def State.markTime (s : State) : Int :=
  ((s.com TDC_MARK_SLO.SLO + 2 ^ 32 * s.com TDC_MARK_SHI.SHI : Nat) : Int) * secU + s.com TDC_MARK_NS.NS * nsU +
    s.com TDC_MARK_SHI.FRAC * fracU +
    s.tdc.seq * (((s.com TDC_MARK_PERIOD_LO.PERIOD + 2 ^ 32 * s.com TDC_MARK_PERIOD_HI.PERIOD : Nat) : Int) * fracU)

/-- A channel listens to the marker, whose time lies less than 1.28 µs after now. -/
def State.markLate (s : State) : Bool :=
  (s.com TDC_CH_CFG.SOURCE 0 = 29 || s.com TDC_CH_CFG.SOURCE 1 = 29) &&
  decide (s.markTime < s.domAt (s.com TDC_MARK_CFG.DOMAIN) s.now + 2048 * s.incOf (s.com TDC_MARK_CFG.DOMAIN))

/-- Conditions of R415 for arming. -/
def State.canArm (s : State) : Bool :=
  s.tickRun && s.tdcRun && s.tdc.armed.isNone && s.tdc.test.isNone && !s.bit CAL_STAT.RUNNING &&
  s.tdc.fifo.length < 256 && decide (((SMap.get 0 s.tdc.hold 0 : Nat) : Int) ≤ tick5 * s.tick) &&
  decide (((SMap.get 0 s.tdc.hold 1 : Nat) : Int) ≤ tick5 * s.tick) &&
  decide (s.tdc.rearmFrom ≤ s.now) &&
  (match s.tdc.endedAt with | some t => decide (t + s.com TDC_TIMING.REARM_US * usT ≤ s.now) | none => true)

/-- Arms a measurement; a marker that is too near ends it at once. -/
def State.arm (s : State) : State :=
  let s := (s.updTdc fun t => { t with armed := some { at_ := s.now, dom := s.com TDC_CFG.TS_DOMAIN } }).tdcNote
  if s.markLate then s.tdcEnd [(flMARK_LATE, true)] else s

/-- TDC_ARM (R415). -/
def execTdcArm (s : State) : Res := if s.canArm then fin s.arm else fin s

/-- Hold-off of a channel after an edge taken or counted: HOLDOFF ns, the dead time of 2.0 ns at least (R406, R407). -/
def State.holdOff (s : State) (ch : Nat) (e : TdcEdge) : State :=
  let ns := max 2 (s.com TDC_CH_HOLDOFF.HOLDOFF ch)
  s.updTdc fun t => { t with hold := SMap.set 0 t.hold ch (e.time5 0 + (ns * 327680 : Nat)).toNat }

/-- The instant of the marker as an edge (R412): the domain reaches the marker's time in this tick or has reached it on
its course before, at the step that took it past that time where it did so by a step. -/
def State.markEdge (s : State) : TdcEdge :=
  let n := s.com TDC_MARK_CFG.DOMAIN
  let m := s.markTime
  let v := s.domAt n s.now
  let back : Int := if v ≤ m then (v - m) * tick5 / (max 1 (s.incOf n) : Nat)
    else match s.pastOf (s.now - 1) with
      | some p => let c := p.dom.getD n (0, 0); tick5 * ((s.now : Int) - p.upTo) + max 0 ((c.1 - m) * tick5 / (max 1 c.2 : Nat))
      | none => (v - m) * tick5 / (max 1 (s.incOf n) : Nat)
  let t5 := tick5 * (s.tick : Int) - back
  let c := ((t5 + 131071) / 131072).toNat
  { coarse := c, pos := (((c : Int) * 131072 - t5) / 5).toNat, at_ := s.now }

/-- The source of a channel gives no edges: an output that is quiescent (R405). -/
def State.srcQuiet (s : State) (ch : Nat) : Bool :=
  let k := s.com TDC_CH_CFG.SOURCE ch
  s.quiet && 7 ≤ k && k ≤ 28

/-- A stop edge comes after the start edge (R408): on the timing clock, and at its land, so that the interval is never
negative; one edge of one source that both channels see is not after itself (DEDUCED, log entry 101). -/
def State.isAfter (s : State) (start stop : TdcEdge) : Bool :=
  if s.sameSource then decide (start.coarse < stop.coarse)
  else decide (start.time5 0 < stop.time5 0) && decide (0 < s.interval5 start stop)

/-- The edge that a command reports: of the marker where the channel listens to it. -/
def State.edgeOf (s : State) (ch : Nat) (coarse bin : Nat) : TdcEdge :=
  if s.com TDC_CH_CFG.SOURCE ch = 29 then s.markEdge
  else { coarse := coarse, pos := binPos s.tdc.bins (512 * ch + bin), at_ := s.now }

/-- The marker of the measurement lies beyond this tick. -/
def State.markAhead (s : State) : Bool :=
  let n := s.com TDC_MARK_CFG.DOMAIN
  decide (s.domAt n s.now + s.incOf n ≤ s.markTime)

/-- TDC_EDGE (R405-R412): an edge of the channel's source, falling or rising, by the index of the timing-clock edge and the
interpolator bin; a channel takes those in the direction of its SLOPE; `x` is how the residue check of R414 goes. A marker channel takes the marker's instant. -/
def execTdcEdge (ch : Fin 2) (d : EdgeSeen) (bin : Fin 512) (x : Exec) (s : State) : Res :=
  match s.tdc.armed with
  | none => fin s
  | some a =>
    let e := s.edgeOf ch d.coarse bin
    if s.srcQuiet ch || (if s.com TDC_CH_CFG.SOURCE ch = 29 then s.markAhead else s.comB TDC_CH_CFG.SLOPE ch ≠ d.falling) ||
        e.time5 0 < ((SMap.get 0 s.tdc.hold ch : Nat) : Int) || a.at_ + s.com TDC_TIMING.TIMEOUT_MS * msT ≤ s.now then fin s
    else if ch = 0 then
      if a.start.isSome then fin s
      else
        let a := { a with start := some e, startT := s.startTime a.dom e }
        let s := (s.updTdc fun t => { t with armed := some a }).holdOff 0 e
        match a.stop with
        | some b => fin (s.tdcResult a e b x)
        | none => fin s
    else
      let after := match a.start with
        | some st => s.isAfter st e
        | none => false
      let counts := if s.sameSource || s.comB TDC_CFG.STOP_ARM then after else true
      if a.stop.isSome || !counts then fin s
      else
        let k := a.stops + 1
        let a := { a with stops := k, stop := if k = s.com TDC_CFG.STOP_N then some e else none }
        let s := (s.updTdc fun t => { t with armed := some a }).holdOff 1 e
        match a.start, a.stop with
        | some st, some b => fin (s.tdcResult a st b x)
        | _, _ => fin s

/-- TDC_TIMEOUT (R409). -/
def execTdcTimeout (s : State) : Res :=
  match s.tdc.armed with
  | some a =>
    if a.at_ + s.com TDC_TIMING.TIMEOUT_MS * msT ≤ s.now then
      fin (s.tdcEnd [(flNO_START, a.start.isNone), (flNO_STOP, a.stop.isNone)])
    else fin s
  | none => fin s

/-! ### The result FIFO and the bin window (R419, R422) -/

def State.showRes (s : State) (bs : List Byte) : State :=
  (List.range 8).foldl (fun s j => s.setReg R.TDC_RES j (BitVec.ofNat 32 (leNat (slice bs (4 * j) 4)))) s

/-- TDC_RESULT_LATCH: a read of TDC_RES_0. -/
def execTdcResultLatch (s : State) : Res :=
  if !s.gr.linkUp || !s.railOk 4 then fin s
  else match s.tdc.fifo with
    | r :: _ => fin (((s.updTdc fun t => { t with latched := true }).showRes r).emit
        (.readData (R.TDC_RES.at 0) (BitVec.ofNat 32 (leNat (slice r 0 4)))))
    | [] => fin ((s.showRes []).emit (.readData (R.TDC_RES.at 0) 0))

/-- TDC_RESULT_REMOVE: a read of TDC_RES_7. -/
def execTdcResultRemove (s : State) : Res :=
  if !s.gr.linkUp || !s.railOk 4 then fin s
  else
    let s := s.emit (.readData (R.TDC_RES.at 7) (s.reg R.TDC_RES 7))
    if !s.tdc.latched then fin s
    else fin ((s.updTdc fun t => { t with latched := false, fifo := t.fifo.drop 1 }).showRes []).tdcNote

/-- An access to TDC_BIN_DATA: a read, or a write of the shadow table; INDEX advances. -/
def State.binData (s : State) (w : Option Word) : State :=
  let i := s.rd TDC_BIN_SEL.INDEX
  let s := match w with
    | some d => s.updTdc fun t => { t with binsSh := setBin t.binsSh i (TDC_BIN_DATA.POS.get d) }
    | none => s.emit (.readData R.TDC_BIN_DATA.base (BitVec.ofNat 32 (binPos s.tdc.binsSh i)))
  s.wr TDC_BIN_SEL.INDEX 0 ((i + 1) % 1024)

/-! ### Commands (R415, R418, R421) -/

/-- Modes of the TDC: all in which rail 4 is up (R417). -/
def State.tdcMode (s : State) : Bool := s.mode ≠ mDORMANT

/-- CMD_TDC_RUN. -/
def execCmdTdcRun (m : Fin 16) (x : Exec) (s : State) : Res :=
  fin (s.cmd m 0x901 x
    (fun s => s.headChecks m (· = 4) ++
      [chk ST_ZERO_INVALID (s.pay m 0 4 = 0), chk ST_WRONG_MODE (!s.tdcMode),
       chk ST_BUSY (s.tdcRun || s.tdc.test.isSome || s.bit CAL_STAT.RUNNING)])
    (fun s =>
      let s := s.updTdc fun t => { t with left := s.pay m 0 4, seq := 0, endedAt := none }
      let s := s.wr TDC_STAT.RUN 0 1
      let s := if s.tdc.fifo.length < 256 && decide (s.tdc.rearmFrom ≤ s.now) then s.arm else s.tdcNote
      s.complete m ST_OK))

/-- Ends a run at once (R415). -/
def State.tdcStop (s : State) : State :=
  let s := s.tdcAbort
  (s.wr TDC_STAT.RUN 0 0).updTdc fun t => { t with left := 0 }

/-- CMD_TDC_STOP. -/
def execCmdTdcStop (m : Fin 16) (x : Exec) (s : State) : Res :=
  fin (s.cmd m 0x902 x
    (fun s => s.headChecks m (· = 0) ++ [chk ST_WRONG_MODE (!s.tdcMode)])
    (fun s => (if s.tdcRun then s.tdcStop.tdcNote else s).complete m ST_OK))

/-- Starts the code-density test (R418, R430): an armed measurement ends with ABORTED. -/
def State.startTest (s : State) (mbx : Option (Fin 16)) : State :=
  let s := s.tdcAbort
  (s.updTdc fun t => { t with test := some s.now, again := false, testMbx := mbx }).tdcNote

/-- CMD_TDC_BIN_CAL. -/
def execCmdTdcBinCal (m : Fin 16) (x : Exec) (s : State) : Res :=
  fin (s.cmd m 0x903 x
    (fun s => s.headChecks m (· = 0) ++
      [chk ST_WRONG_MODE (!s.tdcMode), chk ST_BUSY (s.tdc.test.isSome || s.bit CAL_STAT.RUNNING)])
    (fun s => (s.startTest (some m)).running m .binCal true))

/-- Positions from hit counts: pos(b) = Σ w_i + w_b / 2, w_b = 400 ps × h_b / 2^22, in 2^-16 ns. -/
def tableOf (base : Nat) (hits : List Nat) (t : SMap Nat) : SMap Nat :=
  ((List.range 512).foldl (fun (acc : Nat × SMap Nat) b =>
    let h := hits.getD b 0
    (acc.1 + h, setBin acc.2 (base + b) ((2 * acc.1 + h) / 320))) (0, t)).2

def binsHit (hits : List Nat) : Nat := (hits.filter (· ≠ 0)).length
/-- A channel's table is rejected (R418). -/
def badHits (hits : List Nat) : Bool := binsHit hits < 384 || hits.any (fun h => 40960 < h)

/-- End of a code-density test, outside and inside a run (R418, R429). -/
def State.testOver (s : State) (status : Nat) (h0 h1 : List Nat) : State :=
  let mbx := s.tdc.testMbx
  let s := (s.updTdc fun t => { t with test := none, again := false, testMbx := none }).raise EV.TDC_BIN_CAL_DONE
  let s := s.tdcNote
  let s := if s.bit CAL_STAT.RUNNING && s.rd CAL_STAT.PHASE = 2 then s.wr CAL_STAT.PHASE 0 3 else s
  match mbx with
  | some m => if s.mst m = mRUNNING then
      s.complete m status 0 (leBytes 2 (binsHit h0) ++ leBytes 2 (binsHit h1)) else s
  | none => s

/-- BIN_CAL_DONE (R418): the hits of each bin. -/
def execBinCalDone (h0 h1 : List Nat) (s : State) : Res :=
  if s.tdc.test.isNone then fin s
  else if badHits h0 || badHits h1 then
    if s.tdc.again then fin ((s.unitFault 4 1 0).testOver ST_LASTING_FAULT h0 h1)
    else fin (s.updTdc fun t => { t with again := true, test := some s.now })
  else
    let t := tableOf 512 h1 (tableOf 0 h0 [])
    let again := s.tdc.again
    let s := s.updTdc fun d => { d with bins := t, binsSh := t }
    let temp := BitVec.ofNat 32 (tc 16 s.caseTemp)
    let s := (s.setReg R.TDC_BIN_TEMP 0 temp).setCom R.TDC_BIN_TEMP 0 temp
    let s := if again then s.transientFault 4 else s
    fin (s.testOver (if again then ST_TRANSIENT_RECOVERED else ST_OK) h0 h1)

/-- An uncorrectable word of the bin table is handled as a failed test (R414): the test is made once more. -/
def State.retest (s : State) : State :=
  if s.tdc.test.isSome then s else (s.startTest none).updTdc fun t => { t with again := true }

/-- A commit of the TDC_ group at its apply tick (R416, R419): `b` is the module before, `bins` the table of its snapshot. -/
def State.tdcCommit (s b : State) (bins : SMap Nat) : State :=
  let thr := s.com TDC_CH_CFG.THRESH 0 ≠ b.com TDC_CH_CFG.THRESH 0 || s.com TDC_CH_CFG.THRESH 1 ≠ b.com TDC_CH_CFG.THRESH 1
  let s := s.updTdc fun t => { t with bins := bins, rearmFrom := if thr && t.armed.isSome then s.now + 10 * usT else t.rearmFrom }
  s.tdcAbort

end Sys2Proof.Machine
end

