-- ==== Sys2Proof/Machine/Calib.lean ====
section
/-! DEFINITION. Sys2Proof/Machine/Calib.lean: calibration runs, trims, OCXO tuning and CAL_IN (chapter 15). -/
namespace Sys2Proof.Machine

/-! ### Loading (R434) -/

/-- Nominal delay of a path, in 1/125 of 2^-16 ns: its manufacture delay at code 512 (R426). -/
def State.nominal (s : State) (k : Nat) : Int := (SMap.get (0, 512) s.boot.manuf k).1 * 125 + 512 * 2048

/-- STALE_CNT follows the paths. -/
def State.noteStale (s : State) : State :=
  s.wr CAL_STAT.STALE_CNT 0 (571 - (s.cal.paths.filter (fun p => !p.2.stale)).length)

/-- When rail 4 powers up: the manufacture record, the OCXO code, everything STALE (R434). -/
def State.loadCal (s : State) : State :=
  let paths := s.boot.manuf.foldl (fun (m : SMap Path) e =>
    SMap.set default m e.1 { base := e.2.1, baseSh := e.2.1, trim := e.2.2, target := e.2.2, targetSh := e.2.2 }) []
  let s := s.updCal fun _ => { paths := paths }
  let w := BitVec.ofNat 32 (s.boot.ocxo + 65536 * s.boot.ocxo)
  (s.setReg R.CAL_OCXO_TRIM 0 w).setCom R.CAL_OCXO_TRIM 0 w

/-! ### Trims (R426, R427) -/

/-- A timing-pin input path or launch path takes the trace correction (R426, R436). -/
def takesCorr (k : Nat) : Bool := (520 ≤ k && k ≤ 526) || (527 ≤ k && k ≤ 548)
/-- The trace correction of path `k` in 1/125 of 2^-16 ns. -/
def State.corrOf (s : State) (k : Nat) : Int := if takesCorr k then 125 * s.comS CAL_TRACE_CORR.CORR else 0

/-- Sets TARGET_k; with RAMP 0 the code follows in one step (R427). -/
def State.setTarget (s : State) (k c : Nat) : State :=
  let ramp := s.com CAL_CFG.RAMP
  s.updPath k fun p => { p with target := c, targetSh := c, trim := if ramp = 0 then c else p.trim, stepAt := if p.trim = p.target then s.now else p.stepAt }

/-- TRIM_RAMP_STEP (R427): one code of 0.25 ps, and one such step of the trace correction. -/
def execTrimRampStep (k : Fin 571) (s : State) : Res :=
  let p := s.path k
  let ramp := s.com CAL_CFG.RAMP
  let c := s.corrOf k
  if !s.railOk 4 || (p.trim = p.target && p.corr = c) then fin s
  else if ramp = 0 then fin (s.updPath k fun p => { p with trim := p.target, corr := c, stepAt := s.now })
  else if s.now < p.stepAt + 10 * msT / ramp then fin s
  else
    let trim := if p.trim < p.target then p.trim + 1 else if p.target < p.trim then p.trim - 1 else p.trim
    let corr := if p.corr < c then min c (p.corr + 2048) else max c (p.corr - 2048)
    fin (s.updPath k fun p => { p with trim := trim, corr := corr, stepAt := s.now })

/-! ### Measurements (R424-R426, R431, R432) -/

/-- A good measurement sets BASE_k and TARGET_k, clamped with RANGE (R426). -/
def State.measured (s : State) (k : Nat) (base : Int) : State :=
  let want := (s.nominal k - base * 125 - (s.path k).corr + 1024) / 2048
  let c := (max 0 (min want 1023)).toNat
  let range := decide (want ≠ (c : Int))
  let s := s.updPath k fun p => { p with base := base, baseSh := base, stale := false, failed := false, range := range }
  let s := s.setTarget k c
  let s := if range then s.raise EV.CAL_RANGE k else s
  s.noteStale

/-- Signal is present on lane `l`, which has power: that of its port, its carrier or its mirror link (R135, R189, R459). -/
def State.laneSignal (s : State) (l : Nat) : Bool :=
  s.pwr.lanes.contains l &&
  (if 256 ≤ l then 3 ≤ (s.mlane (l - 256)).st && (s.mlane (l - 256)).st ≤ 6
   else (List.range 256).any (fun p => s.comB PRT_CFG.ENABLE p && s.bit PRT_STAT.SIG_ALL p &&
      s.com PRT_CFG.FIRST_LANE p ≤ l && l < s.com PRT_CFG.FIRST_LANE p + 2 ^ s.com PRT_CFG.WIDTH p) ||
    (List.range 128).any (fun c => s.comB SHF_CAR_CFG.ENABLE c && (s.car c).signal &&
      s.com SHF_CAR_CFG.FIRST_LANE c ≤ l && l ≤ s.com SHF_CAR_CFG.FIRST_LANE c + s.com SHF_CAR_CFG.LANES_M1 c))

/-- A run is in its steps 3 and 4. -/
def State.measuring (s : State) : Bool := s.bit CAL_STAT.RUNNING && 3 ≤ s.rd CAL_STAT.PHASE

/-- Path `k` is measured now: a pin path in a run; a lane path, of a lane with signal, in a run, or within 50 ms of its lane's
lock (R424, R429, R432). -/
def State.measures (s : State) (k : Nat) : Bool :=
  if 520 ≤ k then s.measuring
  else s.laneSignal (k / 2) &&
    ((s.measuring && !s.cal.done.contains k) || s.cal.due.any (fun d => d.1 = k && decide (s.now ≤ d.2 + 50 * msT)))

/-- Path `k` has been measured, or has failed for good. The step of the run follows: 4 once the pin paths are done, 5 once every
lane path with signal is (R429). -/
def State.pathDone (s : State) (k : Nat) : State :=
  let s := s.updCal fun c => { c with due := c.due.filter (fun d => d.1 ≠ k) }
  if s.measuring then
    let s := s.updCal fun c => { c with done := if c.done.contains k then c.done else k :: c.done }
    if (List.range 51).all (fun i => s.cal.done.contains (520 + i)) then
      let all := (List.range 520).all (fun i => s.cal.done.contains i || !s.laneSignal (i / 2))
      s.wr CAL_STAT.PHASE 0 (if all then 5 else 4)
    else s
  else s

/-- PATH_MEASURED (R431): a result and whether its standard error passes 0.2 ps. -/
def execPathMeasured (k : Fin 571) (base : Int) (noisy : Bool) (s : State) : Res :=
  if !s.railOk 4 || !s.measures k then fin s
  else
    let p := s.path k
    let bad := noisy || decide (50 * 65536 < ((base - p.base).natAbs * 1000 : Nat))
    if !bad then
      let s := if p.failed then s.transientFault 8 else s
      fin ((s.measured k base).pathDone k)
    else if !p.failed then fin (s.updPath k fun p => { p with failed := true })
    else
      let s := s.updPath k fun p => { p with failed := false, stale := true }
      let s := (s.noteStale.raise EV.CAL_LASTING k).lastingFault 8 k true
      fin (s.pathDone k)

/-! ### Runs (R428-R430) -/

/-- The temperature trigger of R428. -/
def State.calTrigger (s : State) : Bool :=
  s.comB CAL_CFG.AUTO && s.railOk 4 &&
  (s.com CAL_LAST_TEMP.TEMP = 0x8000 ||
   decide ((s.com CAL_TEMP_STEP.STEP : Int) < ((s.caseTemp - s.comS CAL_LAST_TEMP.TEMP).natAbs : Int)))

/-- An automatic calibration starts its transition in this tick (R76). -/
def State.startCal (s : State) : State := (s.updPwr fun p => { p with calAt := some s.now }).startTrans 4

/-- A trigger enters CALIBRATE from FORWARD; elsewhere it waits in CAL_PENDING (R76, R428). -/
def State.trigger (s : State) : State :=
  if !s.calTrigger || s.mode = mCALIBRATE then s
  else if s.mode = mFORWARD && s.pwr.trans.isNone then s.startCal
  else if s.pwr.trans = some 4 then s
  else s.wr PWR_MODE_STAT.CAL_PENDING 0 1

/-- Step 1 and 2 of R429: the run begins in CALIBRATE with the code-density test. -/
def State.startRun (s : State) : State :=
  let s := (s.wr CAL_STAT.RUNNING 0 1).wr CAL_STAT.PHASE 0 2
  let s := s.updCal fun c => { c with
    ts := s.caseTemp, done := [], again := false, startAt := s.now,
    paths := c.paths.map (fun p => (p.1, { p.2 with failed := false })) }
  if s.tdc.test.isSome then s else s.startTest none

/-- OCXO check of R433. -/
def State.ocxoCheck (s : State) : State :=
  let w := s.wNow
  if s.comB CAL_OCXO_CFG.AUTO && !s.swMode && s.ocxoWarm &&
      decide ((s.com CAL_OCXO_CFG.W_THR * 655360 : Nat) < w.natAbs) then
    let want : Int := s.rd CAL_OCXO_TRIM.CODE + (w * 10 + 16384) / 32768
    let c := (max 0 (min want 65535)).toNat
    let s := (s.wr CAL_OCXO_TRIM.TARGET 0 c).wrCom CAL_OCXO_TRIM.TARGET 0 c
    let s := s.updCal fun x => { x with retune := true, ocxoAt := s.now }
    if want ≠ (c : Int) then s.raise EV.CAL_OCXO_LIMIT else s
  else s

/-- CAL_RUN_DONE (R429, R430): a write of CALIBRATE that the run kept waiting asks for another one; paths left unmeasured are STALE, the OCXO is checked, T_s recorded, back to FORWARD. -/
def execCalRunDone (s : State) : Res :=
  if !s.bit CAL_STAT.RUNNING || s.rd CAL_STAT.PHASE < 3 || s.mode ≠ mCALIBRATE then fin s
  else
    let left := (List.range 571).filter (fun k => !s.cal.done.contains k)
    let s := if left.isEmpty then s
      else ((s.each left (fun s k => s.updPath k fun p => { p with stale := true, failed := false })).noteStale).raise EV.CAL_STALE
    let s := s.ocxoCheck
    let t := BitVec.ofNat 32 (tc 16 s.cal.ts)
    let s := (s.setReg R.CAL_LAST_TEMP 0 t).setCom R.CAL_LAST_TEMP 0 t
    let s := ((s.wr CAL_STAT.RUNNING 0 0).wr CAL_STAT.PHASE 0 0).raise EV.CAL_RUN_DONE
    let s := (s.wr PWR_MODE_STAT.LAST_FROM 0 mCALIBRATE).wr PWR_MODE_STAT.LAST_TO 0 mFORWARD
    let s := s.wr PWR_MODE_CTL.CUR_MODE 0 mFORWARD
    let s := if s.rd PWR_MODE_CTL.REQ_MODE = mCALIBRATE && !s.cal.again then s.wr PWR_MODE_CTL.REQ_MODE 0 mFORWARD else s
    let s := (s.updCal fun c => { c with again := false }).tdcNote.plan
    fin s.trigger

/-! ### OCXO tuning (R433) -/

/-- Codes in 2^-16 ppb and in 2^-48 ppb, so that steps add up to 0.05 ppb each. -/
def ocxoW (c : Nat) : Int := (c * 16384 / 5 : Nat)
def ocxoM (c : Nat) : Int := (c * 16384 * 4294967296 / 5 : Nat)

/-- OCXO_RETUNE_STEP: the code moves by one; W, with the loop's integrator, and M0 move by 0.05 ppb the other way. -/
def execOcxoRetuneStep (s : State) : Res :=
  let c := s.rd CAL_OCXO_TRIM.CODE
  let t := s.com CAL_OCXO_TRIM.TARGET
  let rate := max 1 (s.com CAL_OCXO_CFG.RATE)
  if !s.railOk 4 || !s.cal.retune || s.swMode || c = t || s.now < s.cal.ocxoAt + 5 * sT / rate then fin s
  else
    let c' := if c < t then c + 1 else c - 1
    let s := (s.wr CAL_OCXO_TRIM.CODE 0 c').wrCom CAL_OCXO_TRIM.CODE 0 c'
    let dw := ocxoW c - ocxoW c'
    let s := s.shiftW dw
    let s := s.updRef fun r => { r with m0 := r.m0 + ocxoM c - ocxoM c', m := r.m + dw, loopI := r.loopI + ocxoM c - ocxoM c' }
    fin (s.updCal fun x => { x with ocxoAt := s.now, retune := c' ≠ t })

/-! ### The path window (R439) -/

/-- INDEX after an access of CAL_PATH_TRIM: it wraps from 570 to 0. -/
def nextPath (i : Nat) : Nat := if i = 570 then 0 else (i + 1) % 1024

/-- What CAL_PATH_TRIM reads. -/
def Path.word (p : Path) : Word :=
  BitVec.ofNat 32 (p.trim + 65536 * p.targetSh + (if p.stale then 2 ^ 26 else 0) + (if p.range then 2 ^ 27 else 0) +
    (if p.trim ≠ p.target then 2 ^ 28 else 0))

/-- An access to CAL_PATH_TRIM: path INDEX is read, or its shadow TARGET written; INDEX advances. -/
def State.pathTrim (s : State) (w : Option Word) : State :=
  let i := s.rd CAL_PATH_SEL.INDEX
  let s := match w with
    | some d => if i ≤ 570 then s.updPath i fun p => { p with targetSh := CAL_PATH_TRIM.TARGET.get d } else s
    | none => s.emit (.readData R.CAL_PATH_TRIM.base (if i ≤ 570 then (s.path i).word else 0))
  s.wr CAL_PATH_SEL.INDEX 0 (nextPath i)

/-! ### CAL_IN (R435-R438) -/

/-- TRIGk taken over for a trace (R436): pulses of 100 ns, 1 µs apart, at marker times of D0, the first at a whole microsecond
past the lead of R412 (DESIGN CHOICE, log entry 123). -/
def State.traceTrain (s : State) (k n : Nat) : Train :=
  let old := SMap.at! s.tb.trigs k
  let us : Int := 1000 * nsU
  { on := true, scale := 9, start := (s.domAt 0 s.now + 2048 * s.incOf 0 + us) / us * us, period := us, width := 100 * nsU,
    count := n, skipped := old.skipped, high := old.high }

/-- The pulses of a trace start; its command goes on until the last one is over. -/
def State.startTrace (s : State) (m k n : Nat) (loop err : Int) (apply_ : Bool) : State :=
  let t := s.traceTrain k n
  let s := (s.updTb fun b => { b with trigs := SMap.set default b.trigs k t }).driveTrig k
  s.running m (.trace k (t.timeOf (n - 1) + t.width) loop err apply_) false

/-- A trace is over (R436, R438): TRIGk is given back, and with APPLY the correction takes half of ERR. -/
def State.endTrace (s : State) (m k : Nat) (loop err : Int) (apply_ : Bool) : State :=
  let s := if (SMap.at! s.tb.trigs k).scale = 9 then
      (s.updTb fun b => { b with trigs := SMap.upd b.trigs k fun t =>
        { skipped := t.skipped, high := t.high, invert := s.comB TBS_TRIG_CFG.INVERT k } }).driveTrig k
    else s
  let s := if apply_ then
      let c := BitVec.ofNat 32 (tc 32 (s.comS CAL_TRACE_CORR.CORR + err / 2))
      (s.setReg R.CAL_TRACE_CORR 0 c).setCom R.CAL_TRACE_CORR 0 c
    else s
  (s.raise EV.CAL_TRACE_DONE).complete m ST_OK 0 (leBytes 4 (tc 32 loop) ++ leBytes 4 (tc 32 err))

/-- The traces whose last pulse ends by this tick. -/
def State.endTraces (s : State) : State :=
  (List.range 16).foldl (fun s m => match (s.mbxAt m).job with
    | some (.trace k u loop err a) => if s.mst m = mRUNNING && decide (u ≤ s.domAt 0 s.now) then s.endTrace m k loop err a else s
    | _ => s) s

/-- CMD_CAL_TRACE (R436): whether CAL_IN has a signal, and LOOP in 2^-16 ns. -/
def execCmdCalTrace (m : Fin 16) (x : Exec) (signal : Bool) (loop : Int) (s : State) : Res :=
  fin (s.cmd m 0xA01 x
    (fun s => s.headChecks m (· = 12) ++
      [chk ST_BAD_ARGUMENT (decide (1 < s.pay m 1 1) || s.pay m 8 4 ≠ 0),
       chk ST_ZERO_INVALID (s.pay m 2 2 = 0 || s.pay m 4 4 = 0),
       chk ST_BAD_ARGUMENT (decide (7 < s.pay m 0 1) || decide (10000000 < s.pay m 4 4)),
       chk (ST_BAD_ARGUMENT + 65536) (s.comB TBS_TRIG_CFG.ENABLE (s.pay m 0 1) || s.comB CAL_CFG.CALIN_KIND),
       chk (ST_BAD_ARGUMENT + 3 * 65536) (!s.ocxoWarm),
       chk ST_WRONG_MODE (!s.tkMode),
       chk ST_BUSY (s.tdcRun || s.bit CAL_STAT.RUNNING || s.mode = mCALIBRATE),
       chk (ST_BAD_ARGUMENT + 2 * 65536) (!signal)])
    (fun s => s.startTrace m (s.pay m 0 1) (s.pay m 2 2) loop (loop - psToQ (s.pay m 4 4)) (testBit (s.pay m 1 1) 0)))

/-- CMD_CAL_FREQ (R437). -/
def execCmdCalFreq (m : Fin 16) (x : Exec) (signal : Bool) (s : State) : Res :=
  fin (s.cmd m 0xA02 x
    (fun s => s.headChecks m (· = 4) ++
      [chk ST_BAD_ARGUMENT (s.pay m 2 2 ≠ 0), chk ST_ZERO_INVALID (s.pay m 0 2 = 0),
       chk ST_BAD_ARGUMENT (decide (10000 < s.pay m 0 2)),
       chk (ST_BAD_ARGUMENT + 65536) (!s.comB CAL_CFG.CALIN_KIND),
       chk (ST_BAD_ARGUMENT + 3 * 65536) (!s.ocxoWarm),
       chk ST_WRONG_MODE (!s.tkMode), chk (ST_BAD_ARGUMENT + 2 * 65536) (!signal)])
    (fun s => s.running m (.freq (s.now + s.pay m 0 2 * sT)) false))

/-- CAL_FREQ_INTERVAL_END (R437): FREQ_ERR in 2^-16 ppb as the comparison gives it. -/
def execCalFreqIntervalEnd (m : Fin 16) (err : Int) (s : State) : Res :=
  match (s.mbxAt m).job with
  | some (.freq t) =>
    if t ≤ s.now && s.mst m = mRUNNING then
      fin ((s.raise EV.CAL_FREQ_DONE).complete m ST_OK 0 (leBytes 4 (tc 32 err) ++ leBytes 4 (tc 32 s.yNow)))
    else fin s
  | _ => fin s

/-- A commit of the CAL_ group at its apply tick (R433, R434, R439): `b` is the module before, `paths` the shadow BASE and
TARGET of its snapshot. -/
def State.calCommit (s b : State) (paths : List (Nat × Int × Nat)) : State :=
  let s := s.each paths fun s e => s.updPath e.1 fun p =>
    { p with
      base := e.2.1, target := e.2.2, trim := if s.com CAL_CFG.RAMP = 0 then e.2.2 else p.trim,
      stepAt := if p.trim = p.target then s.now else p.stepAt }
  let moved := s.com CAL_OCXO_TRIM.TARGET ≠ b.com CAL_OCXO_TRIM.TARGET
  if moved then s.updCal fun c => { c with retune := true, ocxoAt := s.now } else s

end Sys2Proof.Machine
end

