-- ==== Sys2Proof/Machine/Silo.lean ====
section
/-! DEFINITION. Sys2Proof/Machine/Silo.lean: spill and recall, the Gleaner, retirement, and the commands of the Granary
(R253-R260, R265, R266, R268). -/
namespace Sys2Proof.Machine

/-! ### Spill (R253-R256) -/

/-- The entry that the spill writer of a queue takes next, with its place: the first of the spill part in packet SRAM that
is no multicast pointer; and the entry before it. -/
def nextSpill : Nat → Option QEnt → List QEnt → Option (Nat × Option QEnt × QEnt)
  | _, _, [] => none
  | i, prev, e :: r => if e.inSram && e.spill && !e.mcast then some (i, prev, e) else nextSpill (i + 1) (some e) r

/-- Replaces the entry at a place. -/
def State.setEnt (s : State) (n i : Nat) (e : QEnt) : State := s.updQueue n fun q => { q with ents := q.ents.set i e }

/-- An entry waits in packet SRAM; the first behind the head part, with no Silo segment ahead of it, joins the head part
(R255). -/
def State.waitEnt (s : State) (n i : Nat) (e : QEnt) : State :=
  (s.setEnt n i e).updQueue n fun q => { q with ents := joinHead q.ents }

/-- The segment that a frame behind entry `prev` continues: the last one, when `prev` lies in it and no entry in packet
SRAM stands between. -/
def EQueue.openSeg (q : EQueue) (prev : Option QEnt) : Option Seg :=
  match q.segs.getLast?, prev with
  | some g, some p => (match p.loc with | .silo k _ _ => if k = g.num && g.open_ then some g else none | .sram => none)
  | _, _ => none

/-- Takes `k` pages for queue `n`; the pages taken, fewer when the chain runs out. -/
def State.takePages (s : State) (n seg : Nat) : Nat → List Nat × State
  | 0 => ([], s)
  | k + 1 =>
    match s.nextPage with
    | none => ([], s)
    | some g =>
      let s := s.takePage g { kind := kQUEUE, id := n, refs := seg % 64 } n
      let (l, s) := s.takePages n seg k
      (g :: l, s)

/-- The 32-byte descriptor of a frame in the Silo (R256): its version handle is the order number of its capture (DESIGN
CHOICE, log entry 96). -/
def State.descriptor (s : State) (f : Frame) : List Byte :=
  let c := f.cap.getD {}
  leBytes 2 f.bytes.length ++ leBytes 8 (f.tIn - s.tickAt 0) ++ leBytes 2 c.gen ++
    [BitVec.ofNat 8 f.cls, BitVec.ofNat 8 (c.onestep + 4 * c.osDomain), 0, 0] ++ leBytes 4 c.ord ++
    leBytes 4 (c.tally.getD 0) ++ List.replicate 8 0

/-- A frame as it lies in the Silo: descriptor, bytes, padding to a multiple of 32. -/
def State.siloBytes (s : State) (f : Frame) : List Byte :=
  s.descriptor f ++ slice f.bytes 0 (32 * ceilDiv f.bytes.length 32)

/-- The 4,096 bytes of a page, and the CRC of its metadata: that of the FCS (R253, R256; DESIGN CHOICE, log entry 96). -/
def State.pageImage (s : State) (p : Page) : List Byte :=
  leBytes 2 p.count ++ leBytes 2 p.nextOfs ++ leBytes 8 (p.newest - s.tickAt 0) ++ leBytes 4 p.queue ++
    List.replicate 16 0 ++ slice p.data 0 pageRoom
def State.pageCrc (s : State) (p : Page) : Nat := fcs (s.pageImage p)

/-- The free-ring pointer of a page's metadata: the free page after it in the chain (R253). -/
def State.ringNext (s : State) (g : Nat) : Option Nat :=
  if (s.page g).tag.kind ≠ kFREE then none
  else if s.grn.pageFresh ≤ g then if g + 1 < spillPages then some (g + 1) else s.grn.pageFreed.head?
  else (s.grn.pageFreed.dropWhile (· ≠ g)).tail.head?

/-- Writes bytes into pages from place `o` of the first one on. -/
def State.writePages (s : State) : List Nat → Nat → List Byte → State
  | [], _, _ => s
  | g :: r, o, bs =>
    let p := s.page g
    (s.setPage g { p with data := slice p.data 0 o ++ bs.take (pageRoom - o) }).writePages r 0 (bs.drop (pageRoom - o))

/-- Free pages that a writer finds now. -/
def State.pagesFree (s : State) : Nat := min s.grn.cache (s.rd GRN_SILO_STAT.FREE_PAGES)

/-- Writes the entry `e` at place `i` of queue `n` behind `prev` into its segment. -/
def State.spillWrite (s : State) (n i : Nat) (prev : Option QEnt) (e : QEnt) : State :=
  let q := s.queue n
  let g := (q.openSeg prev).getD { num := q.nextSeg }
  let isNew : Bool := (q.openSeg prev).isNone
  let z := siloSize e.frame
  let start := if g.pages.isEmpty then 0 else (g.pages.length - 1) * pageRoom + g.fill
  let need := (start + z - 1) / pageRoom + 1 - g.pages.length
  if s.pagesFree < need then
    let s := (s.count (siloSlot 5)).raise EV.GRN_SILO_FULL
    (s.setEnt n i { e with spill := false }).updQueue n fun q =>
      { q with segs := q.segs.map (fun x => { x with open_ := false }) }
  else
    let (l, s) := s.takePages n g.num need
    let g := { g with pages := g.pages ++ l, fill := start + z - (g.pages.length + l.length - 1) * pageRoom }
    let first := g.base + start / pageRoom
    let last := g.base + (start + z - 1) / pageRoom
    let pg := g.pages.getD (start / pageRoom) 0
    let s := s.writePages (g.pages.drop (start / pageRoom)) (start % pageRoom) (s.siloBytes e.frame)
    let p := s.page pg
    let s := s.setPage pg { p with count := p.count + 1, newest := max p.newest e.frame.tIn,
                                   nextOfs := if p.count = 0 then 32 + start % pageRoom else p.nextOfs }
    let s := s.updQueue n fun q =>
      if isNew then { q with segs := q.segs.map (fun x => { x with open_ := false }) ++ [g], nextSeg := q.nextSeg + 1 }
      else { q with segs := q.segs.map (fun x => if x.num = g.num then g else x) }
    let s := s.freeFrame (qParty n) e.frame
    let s := s.setEnt n i { e with loc := .silo g.num first last, waits := false, frame := { e.frame with bufs := [] } }
    (s.count (siloSlot 0)).count (siloSlot 1) e.frame.bytes.length

/-- SPILL_WRITE_DONE (R253-R256): the spill writer of queue `q` of egress `e` is done with its next frame: written, or
left waiting because the Silo write share is in use (`bwHeld`), no page is free, or the queue has 64 segments. -/
def execSpillWriteDone (e : Fin 288) (q : Fin 16) (bwHeld : Bool) (s : State) : Res :=
  let n := 16 * e.val + q.val
  let s := s.pagesBack
  if !s.fwdMode then fin s
  else match nextSpill 0 none (s.queue n).ents with
    | none => fin s
    | some (i, prev, x) =>
      if bwHeld then
        let s := if x.heldBw then s else s.count (siloSlot 6)
        fin (s.waitEnt n i { x with heldBw := true, waits := true })
      else if ((s.queue n).openSeg prev).isNone && decide (64 ≤ (s.queue n).segs.length) then
        fin (s.waitEnt n i { x with waits := true })
      else fin (s.spillWrite n i prev x)

/-! ### Recall (R257-R259) -/

/-- Cells of entries in packet SRAM ahead of segment `num`. -/
def State.cellsBefore (s : State) (num : Nat) : List QEnt → Nat
  | [] => 0
  | e :: r => match e.loc with
    | .sram => s.cells e.frame.bufs + s.cellsBefore num r
    | .silo k _ _ => if k = num then 0 else s.cellsBefore num r

/-- Cells of the frames of queue `n` in packet SRAM ahead of segment `num`, the one in progress included (R258). -/
def State.cellsAhead (s : State) (n num : Nat) : Nat :=
  s.cellsBefore num (s.queue n).ents +
    (s.txsOf (n / 16)).foldl (fun a t => if t.queue = n then a + s.cells t.frame.bufs else a) 0

/-- The entry has bytes in page `o` of segment `num`; it ends there. -/
def QEnt.inPage (num o : Nat) (e : QEnt) : Bool := match e.loc with | .silo k a b => k = num && a ≤ o && o ≤ b | .sram => false
def QEnt.endsIn (num o : Nat) (e : QEnt) : Bool := match e.loc with | .silo k _ b => k = num && b = o | .sram => false

/-- Requests buffers of the recall pool, at most `k`, until `len` bytes have place; an empty result ends the requests. -/
def State.recallBufs (s : State) (e len : Nat) : Nat → List (Nat × Nat) → List (Nat × Nat) × State
  | 0, got => (got, s)
  | k + 1, got =>
    if len ≤ 256 * s.cells got then (got, s)
    else match s.request (s.com GRN_SILO_CFG.RECALL_POOL) { kind := kRECALL, id := e } with
      | (some b, s) => s.recallBufs e len k (got ++ [b])
      | (none, s) => (got, s)

/-- A recalled frame with its buffers is handed to queue `n` (R262). -/
def State.handRecalled (s : State) (n : Nat) (x : QEnt) (bs : List (Nat × Nat)) : State :=
  let s := s.each bs fun s b => s.setTag b.1 b.2 { kind := kQUEUE, id := n }
  let s := s.addIn x.frame.src x.frame.rxClass (s.cells bs)
  let s := s.updQueue n fun q => { q with
    recl := none
    ents := q.ents.map (fun y =>
      if y.frame.id = x.frame.id then { y with loc := .sram, spill := false, frame := { y.frame with bufs := bs } } else y) }
  (s.count (siloSlot 2)).count (siloSlot 3) x.frame.bytes.length

/-- The frames that end in the page read, in order: each is handed over once it has its buffers; one that gets an empty
result keeps what it has and asks again later (R244). Whether all of them have been handed over. -/
def State.recallFrames (s : State) (e n : Nat) : List QEnt → Bool × State
  | [] => (true, s)
  | x :: r =>
    let had := match (s.queue n).recl with | some (id, bs) => if id = x.frame.id then bs else [] | none => []
    let (bs, s) := s.recallBufs e x.frame.bytes.length (x.frame.bytes.length + 1) had
    if x.frame.bytes.length ≤ 256 * s.cells bs then (s.handRecalled n x bs).recallFrames e n r
    else (false, s.updQueue n fun q => { q with recl := some (x.frame.id, bs) })

/-- The first page of segment `num` of queue `n` is done with: it goes back unless it is retired. -/
def State.passPage (s : State) (n num pg : Nat) (free : Bool) : State :=
  let s := s.updQueue n fun q => { q with
    segs := q.segs.map (fun g => if g.num = num then
      { g with pages := g.pages.drop 1, base := g.base + 1, open_ := g.open_ && decide (1 < g.pages.length) } else g)
    ents := joinHead q.ents }
  let s := if free then s.freePage (qParty n) pg else s
  s.dropSegs n

/-- RECALL_PAGE_READ_DONE (R244, R258, R259): the next page of the front segment of queue `q` of egress `e` is read: good,
good at the second read, or bad twice; while a frame of a page read before waits for a buffer, its request is presented
again. -/
def execRecallPageReadDone (e : Fin 288) (q : Fin 16) (f : Fetch) (s : State) : Res :=
  let n := 16 * e.val + q.val
  if !s.fwdMode then fin s
  else match (s.queue n).segs.head? with
    | none => fin s
    | some g =>
      match g.pages.head? with
      | none => fin s
      | some pg =>
        let again := (s.queue n).recl.isSome
        if !again && decide (s.com GRN_SILO_CFG.RECALL_AHEAD ≤ s.cellsAhead n g.num) then fin s
        else
          let s := if f = .transient && !again then (s.count (siloSlot 8)).transientFault 2 else s
          if f = .lasting && !again then
            let bad := (s.queue n).ents.filter (QEnt.inPage g.num g.base)
            let s := s.updQueue n fun q => { q with ents := q.ents.filter (fun x => !x.inPage g.num g.base) }
            let s := (s.count (siloSlot 9) bad.length).raise EV.GRN_PAGE_CRC
            let s := (s.retirePage pg).lastingFault 2 pg false
            fin (s.passPage n g.num pg false)
          else
            let (all, s) := s.recallFrames e n ((s.queue n).ents.filter (QEnt.endsIn g.num g.base))
            fin (if all then s.passPage n g.num pg true else s)

/-- SILO_CACHE_REFILL (R253). -/
def execSiloCacheRefill (s : State) : Res :=
  let s := s.pagesBack
  if s.fwdMode && decide (s.grn.cache < 2048) then
    fin (s.updGrn fun g => { g with cache := min 8192 (s.rd GRN_SILO_STAT.FREE_PAGES) })
  else fin s

/-! ### The Gleaner (R265, R266) -/

/-- Buffers that a live holder reaches. -/
def State.liveBufs (s : State) : List (Nat × Nat) :=
  s.liveFrames.flatMap (·.bufs) ++ s.ports.flatMap (fun p => (p.2.asm.map (·.bufs)).getD []) ++
  s.fwd.queues.flatMap (fun q => (q.2.recl.map (·.2)).getD []) ++ s.sheaves.flatMap (fun h => h.2.partBufs ++ h.2.held.map (·.2.buf))
/-- Pages that a live holder reaches. -/
def State.livePages (s : State) : List Nat := s.fwd.queues.flatMap (fun q => q.2.segs.flatMap (·.pages)) ++ s.evt.remap ++
  s.grn.backlog.map (·.1)

/-- Allocated buffers, and pages, that no live holder reaches. -/
def State.unmarkedBufs (s : State) : List (Nat × Nat × Tag) :=
  let live := s.liveBufs
  s.grn.bufs.filterMap (fun e =>
    let b := (e.1 / 1048576, e.1 % 1048576)
    if e.2.kind = kFREE || e.2.kind = kRETIRED || live.contains b then none else some (b.1, b.2, e.2))
def State.unmarkedPages (s : State) : List (Nat × Nat × Tag) :=
  let live := s.livePages
  s.grn.pages.filterMap (fun e =>
    if e.2.tag.kind = kFREE || e.2.tag.kind = kRETIRED || live.contains e.1 then none else some (8, e.1, e.2.tag))

/-- The Gleaner frees a leak. -/
def State.reclaim (s : State) (l : Nat × Nat × Tag) : State :=
  if l.1 = 8 then s.freePage l.2.2 l.2.1 else (s.giveBack l.1 l.2.1 6000).count (poolSlot l.1 8)

/-- A leak: counted, recorded, raised, and freed when RECLAIM is 1; else when a later sweep finds RECLAIM at 1. -/
def State.leak (s : State) (l : Nat × Nat × Tag) : State :=
  let page : Bool := l.1 = 8
  let s := s.count (if page then siloSlot 12 else poolSlot l.1 7)
  let s := ((s.wrB GRN_GLEAN_LAST.SILO 0 page).wr GRN_GLEAN_LAST.POOL 0 (if page then 0 else l.1)).wr GRN_GLEAN_LAST.INDEX 0 l.2.1
  let s := (s.addSat GRN_GLEAN_STAT.LEAKS 0 1).raiseObj EV.GRN_LEAK 0 l.1
  if !s.bit GRN_GLEAN_CFG.RECLAIM then s.updGrn fun g => { g with leaks := l :: g.leaks }
  else s.reclaim l

/-- Judges the unmarked objects of a sweep against those of the sweep before. -/
def State.judgeLeaks (s : State) (now_ : List (Nat × Nat × Tag)) (isPage : Bool) : State :=
  let mine (l : Nat × Nat × Tag) : Bool := (l.1 = 8) = isPage
  let old := s.grn.suspects.filter mine
  let known := s.grn.leaks
  let found := now_.filter (fun l => old.contains l && !known.contains l)
  let left := if s.bit GRN_GLEAN_CFG.RECLAIM then now_.filter known.contains else []
  let s := s.updGrn fun g => { g with
    suspects := g.suspects.filter (fun l => !mine l) ++ now_
    leaks := g.leaks.filter (fun l => (!mine l || now_.contains l) && !left.contains l) }
  (s.each left State.reclaim).each found State.leak

/-- Free pages whose pointers were lost come back at the second sweep (R443). -/
def State.returnAstray (s : State) : State :=
  let back := (s.grn.astray.filter (fun a => a.2 ≤ 1)).map (·.1)
  let s := s.updGrn fun g => { g with
    astray := (g.astray.filter (fun a => decide (1 < a.2))).map (fun a => (a.1, a.2 - 1))
    pageFreed := g.pageFreed ++ back.filter (fun x => decide (x < g.pageFresh)) }
  s.wr GRN_SILO_STAT.FREE_PAGES 0 (s.rd GRN_SILO_STAT.FREE_PAGES + back.length)

/-- Mailboxes whose CMD_GRN_SWEEP has its sweep in progress, or waits for the end of one (R268). -/
def State.sweepJobs (s : State) (waits : Bool) : List Nat :=
  (List.range 16).filter (fun m => (s.mbxAt m).job = some (.sweep waits))

/-- The periodic sweep of packet SRAM, or that of the Silo (never more often than every 80 ms), has begun: its period has
passed since the last one. -/
def State.sweepDue (s : State) (silo : Bool) : Bool :=
  let per := s.rd GRN_GLEAN_CFG.PERIOD
  per ≠ 0 && (if silo then decide (s.grn.lastSilo + max 80 per * msT ≤ s.now) else decide (s.grn.lastSweep + per * msT ≤ s.now))

/-- GLEANER_SWEEP (R265, R268): the sweep in progress completes: that of a command, of packet SRAM and the Silo, or the
periodic one of what is due. The commands that waited for its end start theirs. -/
def execGleanerSweep (s : State) : Res :=
  let jobs := s.sweepJobs false
  let sram : Bool := !jobs.isEmpty || s.sweepDue false
  let silo : Bool := !jobs.isEmpty || s.sweepDue true
  if !s.fwdMode || !(sram || silo) then fin s
  else
    let s := if sram then (s.judgeLeaks s.unmarkedBufs false).updGrn fun g => { g with lastSweep := s.now } else s
    let s := if silo then ((s.judgeLeaks s.unmarkedPages true).returnAstray).updGrn fun g => { g with lastSilo := s.now } else s
    let s := (s.addWrap GRN_GLEAN_STAT.SWEEPS 0 1).raise EV.GRN_SWEEP_DONE
    let next := s.sweepJobs true
    let s := s.each next fun s m => s.updMbx m fun b => { b with job := some (.sweep false) }
    fin (s.each jobs fun s m => s.complete m ST_OK)

/-! ### Retirement (R266) -/

/-- A buffer holds a lasting fault: it is retired now if it is free, else when it is freed. -/
def State.condemnBuf (s : State) (p b : Nat) : State :=
  if s.poolSize p ≤ b || (s.pool p).retired.contains b then s
  else
    let s := s.updPool p fun o => { o with retired := b :: o.retired, freed := o.freed.filter (fun x => x.buf ≠ b) }
    if (s.tagOf p b).kind = kFREE then
      (s.wr GRN_POOL_STAT.FREE p (s.rd GRN_POOL_STAT.FREE p - 1)).retireBuf p b
    else s

/-- DETAIL of a packet-SRAM fault: the first cell of the buffer. -/
def State.cellNo (s : State) (p b : Nat) : Nat := s.com GRN_POOL_BASE.BASE p + b * s.cellsOf p

/-! ### Commands (R268) -/

/-- CMD_GRN_COUNTERS_READ. -/
def execCmdGrnCountersRead (m : Fin 16) (x : Exec) (s : State) : Res :=
  fin (s.cmd m 0x401 x
    (fun s =>
      let kind := s.pay m 0 1
      let last := s.pay m 3 1 + s.pay m 4 1
      s.headChecks m (· = 8) ++
      [chk ST_BAD_ARGUMENT (s.pay m 5 1 / 2 ≠ 0 || s.pay m 6 2 ≠ 0), chk ST_ZERO_INVALID (s.pay m 4 1 = 0),
       chk ST_BAD_ARGUMENT (decide (2 < kind) || (kind = 0 && decide (7 < s.pay m 1 2)) || (kind = 2 && decide (287 < s.pay m 1 2)) ||
         decide ((if kind = 2 then 16 else 64) < last)),
       chk ST_WRONG_MODE (!s.cntMode)])
    (fun s =>
      let i := s.pay m 1 2
      let base := match s.pay m 0 1 with | 0 => poolSlot i 0 | 1 => siloSlot 0 | _ => grnSrcSlot i 0
      s.readSlots m base (s.pay m 3 1) (s.pay m 4 1) (testBit (s.pay m 5 1) 0)))

/-- Up to `k` buffers of pool `p` for the Grange. -/
def State.testBufs (s : State) (m p : Nat) : Nat → List (Nat × Nat) → List (Nat × Nat) × State
  | 0, got => (got, s)
  | k + 1, got =>
    match s.request p { kind := kGRANGE, id := m } with
    | (some b, s) => s.testBufs m p k (got ++ [b])
    | (none, s) => (got, s)

/-- CMD_GRN_CELL_TEST: `bad` lists which of the granted buffers, counted from 0, read back wrong. -/
def execCmdGrnCellTest (m : Fin 16) (x : Exec) (bad : List (Fin 64)) (s : State) : Res :=
  fin (s.cmd m 0x402 x
    (fun s => s.headChecks m (· = 8) ++
      [chk ST_BAD_ARGUMENT (s.pay m 1 1 ≠ 0), chk ST_ZERO_INVALID (s.pay m 2 2 = 0),
       chk ST_BAD_ARGUMENT (decide (7 < s.pay m 0 1) || decide (64 < s.pay m 2 2)), chk ST_WRONG_MODE (!s.fwdMode)])
    (fun s =>
      let (got, s) := s.testBufs m (s.pay m 0 1) (s.pay m 2 2) []
      let wrong := (got.zipIdx.filter (fun b => bad.any (fun i => i.val = b.2))).map (·.1)
      let s := s.each wrong fun s b => (s.condemnBuf b.1 b.2).lastingFault 1 (s.cellNo b.1 b.2) false
      let s := s.each got fun s b => s.freeBuf { kind := kGRANGE, id := m } b
      s.complete m ST_OK 0 (leBytes 2 got.length ++ leBytes 2 wrong.length)))

/-- CMD_GRN_SWEEP: its sweep starts at once, or at the end of the one in progress (R268). -/
def execCmdGrnSweep (m : Fin 16) (x : Exec) (s : State) : Res :=
  fin (s.cmd m 0x403 x (fun s => s.headChecks m (· = 0) ++ [chk ST_WRONG_MODE (!s.fwdMode)])
    (fun s => s.running m (.sweep (s.sweepDue false || s.sweepDue true || !(s.sweepJobs false).isEmpty)) true))

end Sys2Proof.Machine
end

