-- ==== Sys2Proof/Machine/Integrity.lean ====
section
/-! DEFINITION. Sys2Proof/Machine/Integrity.lean: the end of a retry and what a lasting fault does, the die-to-die link, the
event log, vectors sent again and the EVT_ commands (R18, R441-R454). -/
namespace Sys2Proof.Machine

/-! ### Repairs (R442, R443) -/

/-- The spill pages that stand in for table, counter and metadata pages are out of the Silo's free ring (R443). -/
def State.remapNext (s : State) : Option Nat := (s.updGrn fun g => { g with cache := max 1 g.cache }).nextPage

/-- A page of HBM other than a spill page is replaced by a spill page from the free ring, the cache of its numbers being
empty or not (R442). -/
def State.remapPage (s : State) (detail : Nat) : State × Bool :=
  let s := s.pagesBack
  match s.remapNext with
  | none => (s.lastingFault 2 detail true, false)
  | some g =>
    let s := (s.takePage g { kind := kGRANGE } 0).updEvt fun e => { e with remap := e.remap ++ [g], repairAt := s.now + 1024 }
    (s.lastingFault 2 detail false, true)

/-- A Silo page holds a lasting fault (R266): it is retired now if it is free, else when it is freed. -/
def State.condemnPage (s : State) (g : Nat) : State :=
  if spillPages ≤ g || s.pagesOut.contains g then s
  else if (s.page g).tag.kind = kFREE then (s.wr GRN_SILO_STAT.FREE_PAGES 0 (s.rd GRN_SILO_STAT.FREE_PAGES - 1)).retirePage g
  else s.updGrn fun x => { x with pageRetired := g :: x.pageRetired }

/-- Free pages that lose their place in the chain with a metadata page. -/
def State.losePointers (s : State) (l : List Nat) : State :=
  let gone := l.dedup.filter (fun g => decide (g < spillPages) && (s.page g).tag.kind = kFREE && !s.pagesOut.contains g)
  let s := s.updGrn fun x => { x with astray := x.astray ++ gone.map (fun g => (g, 2)),
                                      pageFreed := x.pageFreed.filter (fun g => !gone.contains g) }
  s.wr GRN_SILO_STAT.FREE_PAGES 0 (s.rd GRN_SILO_STAT.FREE_PAGES - gone.length)

def faultCls : FaultPlace → Nat
  | .row t _ _ => if t then 4 else 0
  | .tableCopy .. => 0
  | .buffer _ _ => 1
  | .siloPage _ => 2
  | .tablePage _ => 2
  | .counterPage _ => 2
  | .metaPage _ _ => 2
  | .unit t _ _ => if t then 4 else 3
  | .binTable => 4
  | .grange => 7

/-- A lasting fault at a place, with the repair of its class. -/
def State.lastingAt (s : State) (p : FaultPlace) : State :=
  match p with
  | .row _ bank row => s.rowFault (faultCls p) bank row
  | .tableCopy t i bank row => (s.rowFault 0 bank row).reloadEntries t.toNat i 1
  | .unit _ g u => s.unitFault (faultCls p) g u
  | .buffer q b => (s.condemnBuf q b).lastingFault 1 (s.cellNo q b) false
  | .siloPage g => (s.condemnPage g).lastingFault 2 g false
  | .tablePage g =>
    match s.remapPage g with
    | (s, true) => s.reloadEntries 0x30 (64 * g) 64
    | (s, false) => s
  | .counterPage g =>
    match s.remapPage (512 * g) with
    | (s, true) => (s.each ((List.range 512).map (512 * g + ·)) State.clearSlot).raiseObj EV.EVT_COUNTERS_LOST 0 (512 * g)
    | (s, false) => s
  | .binTable => s.retest
  | .grange => s.lastingFault 7 0 true
  | .metaPage g l =>
    match s.remapPage g with
    | (s, true) => s.losePointers l
    | (s, false) => s

/-- Frames dropped under R443. -/
def State.arithDrop (s : State) (n : Nat) : State := s.addSat EVT_CNT.ARITH_DROP 0 n

/-- A lookup that acts as a miss of its table (R206, R443). -/
def State.missLookup (s : State) (k : Nat) (table : Nat) : State :=
  match SMap.at! s.fwd.pipeQ k with
  | [] => s
  | f :: rest =>
    let s := s.updFwd fun w => { w with pipeQ := SMap.set [] w.pipeQ k rest }
    if table = 0x30 then
      let en := s.com FWD_IN_CFG.FLOW_EN f.src
      ((s.wrCom FWD_IN_CFG.FLOW_EN f.src 0).classify f).wrCom FWD_IN_CFG.FLOW_EN f.src en
    else if table = 0x31 then s.failLookup f cNO_ROUTE
    else if table = 0x32 then s.failLookup f cL2_MISS
    else if table = 0x33 then s.failLookup f cMPLS_MISS
    else if table = 0x36 then s.failLookup f cMCAST_EMPTY
    else s.failLookup f cNO_NEXT_HOP

/-- A queue whose links are lost: its frames are gone, and what holds them is left to the Gleaner. -/
def State.loseQueue (s : State) (n : Nat) : State :=
  let l := (s.queue n).ents
  let s := s.updQueue n fun q => { q with ents := [], segs := [], recl := none }
  let s := s.each l fun s e =>
    let k := SMap.get 0 s.fwd.refs e.frame.id
    if 1 < k then s.updFwd fun w => { w with refs := SMap.set 0 w.refs e.frame.id (k - 1) }
    else s.subIn e.frame.src e.frame.rxClass (s.cells e.frame.bufs)
  s.arithDrop l.length

/-- Frames that a lost reference count or owner tag described are gone; what holds them is left to the Gleaner. -/
def State.loseFrames (s : State) (pick : Frame → Bool) : State :=
  let q := s.fwd
  let all := ((q.pipeQ.flatMap (·.2)) ++ (q.missQ.flatMap (·.2)) ++ (q.orderQ.flatMap (·.2)) ++ (q.ingress.flatMap (·.2)) ++
    (q.queues.flatMap (fun e => e.2.ents.map (·.frame)))).filter pick
  let gone := all.pwFilter (fun f g => f.id ≠ g.id)
  let cut (l : List Frame) : List Frame := l.filter (fun f => !pick f)
  let s := s.updFwd fun w => { w with
    pipeQ := (w.pipeQ.map (fun e => (e.1, cut e.2))).filter (fun e => !e.2.isEmpty)
    missQ := (w.missQ.map (fun e => (e.1, cut e.2))).filter (fun e => !e.2.isEmpty)
    orderQ := (w.orderQ.map (fun e => (e.1, cut e.2))).filter (fun e => !e.2.isEmpty)
    ingress := (w.ingress.map (fun e => (e.1, cut e.2))).filter (fun e => !e.2.isEmpty) }
  let s := s.each (q.queues.map (·.1)) fun s n =>
    s.updQueue n fun x => { x with ents := joinHead (x.ents.filter (fun e => !pick e.frame)) }
  let s := s.each gone fun s f =>
    (s.updFwd fun w => { w with refs := SMap.set 0 w.refs f.id 0 }).subIn f.src f.rxClass (s.cells f.bufs)
  let s := s.each (gone.map (·.src)) State.tryRelease
  s.arithDrop gone.length

/-- The first frame of a list is dropped before egress (R443). -/
def State.dropHead (s : State) : List Frame → State
  | [] => s
  | f :: _ => ((s.dropRx f).tryRelease f.src).arithDrop 1

/-- Work that a lasting fault leaves without a good result (R443). -/
def State.badWork (s : State) (w : FaultWork) : State :=
  match w with
  | .none => s
  | .egressFrame e =>
    if e.val < 256 then s.updPort e fun o => { o with tx := o.tx.map (fun t => { t with stomp := true }) }
    else s.updSheaf (e.val - 256) fun x => { x with tx := x.tx.map (fun t => { t with stomp := true }) }
  | .pipelineFrame k =>
    let l := SMap.at! s.fwd.pipeQ k
    (s.updFwd fun w => { w with pipeQ := SMap.set [] w.pipeQ k (l.drop 1) }).dropHead l
  | .ingressFrame a k j c =>
    let key := ingressKey a k j c
    let l := SMap.at! s.fwd.ingress key
    (s.updFwd fun w => { w with ingress := SMap.set [] w.ingress key (l.drop 1) }).dropHead l
  | .lostCount id => s.loseFrames (fun f => f.id = id)
  | .lostTag p b => s.loseFrames (fun f => f.bufs.contains (p.val, b))
  | .heldFrame e q =>
    let n := 16 * e.val + q.val
    match (s.queue n).ents with
    | [] => s
    | x :: _ => ((s.discardEnt n x).updQueue n fun q => { q with ents := joinHead (q.ents.drop 1) }).dropSegs n |>.arithDrop 1
  | .lostQueue e q => s.loseQueue (16 * e.val + q.val)
  | .grain lane =>
    match s.carOfLane lane with
    | some c => if s.cst c = cACTIVE then (s.nextGrain c).2.sendNulls c lane 8 else s
    | none => s
  | .lookup k t => s.missLookup k t.toNat
  | .measurement => s.updTdc fun t => { t with armed := t.armed.map (fun a => { a with bad := true }) }
  | .report p i => s.failReport p i

/-- RETRY_RESULT (R441-R444): a detected error is corrected in place, cured by its retry, or lasting. -/
def execRetryResult (p : FaultPlace) (r : FaultEnd) (w : FaultWork) (s : State) : Res :=
  match r with
  | .corrected => fin (s.addSat EVT_FCNT.CORRECTED (faultCls p) 1)
  | .transient => fin (match p with
      | .binTable => s.retest
      | .tableCopy t i _ _ => (s.transientFault 0).reloadEntries t.toNat i 1
      | _ => s.transientFault (faultCls p))
  | .lasting => fin ((s.lastingAt p).badWork w)

/-! ### The die-to-die link (R18, R446) -/

/-- The replicas freeze at their present values and increment words. -/
def State.freeze (s : State) : State :=
  if s.evt.frozen then s
  else
    let rep : SMap Dom := (List.range 8).map (fun n =>
      (n, { val := s.domAt n s.now, at_ := s.now, inc := s.incOf n, res := s.resAt n s.now, resAt := s.now,
            steps := (s.dom n).steps : Dom }))
    let s := s.noteDoms.updTb fun t => { t with rep := rep }
    (s.updEvt fun e => { e with frozen := true }).wr EVT_D2D_STAT.FROZEN 0 1

/-- A lasting fault of the link (R18, R446): the replicas freeze, and a reload that was on its way does not come. -/
def State.d2dFault (s : State) : State :=
  (s.freeze.updEvt fun e => { e with reloadAt := none }).lastingFault 5 0 true

/-- D2D_TRANSFER_FAIL (R18): a transfer fails its check; the one retry succeeds or fails. -/
def execD2dTransferFail (retryGood : Bool) (s : State) : Res :=
  if !s.tickRun then fin s
  else if retryGood then fin (s.transientFault 5)
  else fin s.d2dFault

/-- D2D_RESET (R446): a write of EVT_D2D_CTL; the retrain succeeds, and the reload's apply tick lies at least 64 ticks
ahead, or it fails. -/
def execD2dReset (data : Word) (trained : Bool) (s : State) : Res :=
  if !s.gr.linkUp || !s.tickRun || data.toNat % 2 = 0 then fin s
  else if trained then fin (s.updEvt fun e => { e with reloadAt := some (s.now + 64) })
  else fin s.d2dFault

/-- REPLICA_RELOAD (R446). -/
def execReplicaReload (s : State) : Res :=
  match s.evt.reloadAt with
  | none => fin s
  | some t =>
    if s.now < t then fin s
    else
      let gaps := (List.range 8).flatMap (fun n =>
        [s.domAt n s.now - s.swAt n s.now,
         if s.evt.frozen then s.resAt n s.now - (SMap.at! s.tb.rep n).res else 0]) ++ [s.outAt 8 s.now - s.swA s.now]
      let ps := gaps.foldl (fun a g => max a (uToPs g.natAbs).toNat) 0
      let s := (s.noteDoms.updEvt fun e => { e with frozen := false, reloadAt := none }).updTb fun t => { t with rep := [] }
      let s := (s.wr EVT_D2D_STAT.FROZEN 0 0).wr EVT_D2D_STAT.STEP_MAX 0 (min (2 ^ 31 - 1) ps)
      fin (s.raise EV.EVT_D2D_RELOADED)

/-! ### The event log (R451, R452, R455) -/

/-- The order of the log: tick, precedence, block, object, code. -/
def LogRec.le (a b : LogRec) : Bool :=
  a.tick < b.tick || (a.tick = b.tick && (a.prec < b.prec || (a.prec = b.prec && (a.block < b.block || (a.block = b.block &&
    (a.obj < b.obj || (a.obj = b.obj && a.code ≤ b.code)))))))

/-- The 16 bytes of a record. -/
def LogRec.toBytes (r : LogRec) : List Byte :=
  leBytes 6 r.tick ++ [BitVec.ofNat 8 r.prec, BitVec.ofNat 8 r.block, BitVec.ofNat 8 r.code, if r.gap then 1 else 0] ++
    leBytes 4 r.obj ++ leBytes 2 r.lost

def State.noteLog (s : State) : State := s.wr EVT_LOG_STAT.COUNT 0 s.evt.log.length

/-- A record enters the log, or is lost. -/
def State.logEnter (s : State) (r : LogRec) : State :=
  let p := s.rd EVT_LOG_STAT.LOST_PENDING
  if 1024 ≤ s.evt.log.length then
    let s := s.addSat EVT_LOG_STAT.LOST_PENDING 0 1
    if p = 0 then s.raise EV.EVT_LOG_LOST else s
  else
    let s := s.updEvt fun e => { e with log := e.log ++ [{ r with gap := p ≠ 0, lost := p }] }
    (s.wr EVT_LOG_STAT.LOST_PENDING 0 0).noteLog

/-- LOG_RECORD_ENTRY (R451, R452): the records of events 256 ticks ago or earlier enter. -/
def execLogRecordEntry (s : State) : Res :=
  let ripe (r : LogRec) : Bool := r.tick + 256 ≤ s.tick
  let l := (s.evt.due.filter ripe).insertionSort (fun a b => a.le b)
  let s := s.updEvt fun e => { e with due := e.due.filter (fun r => !ripe r) }
  fin (s.each l State.logEnter)

/-- Shows a record, or zeros, in EVT_LOG_0 to EVT_LOG_3. -/
def State.showLatch (s : State) (r : Option LogRec) : State :=
  let b := match r with | some r => r.toBytes | none => List.replicate 16 (0 : Byte)
  let s := s.updEvt fun e => { e with latch := r }
  (List.range 4).foldl (fun s j => s.setReg R.EVT_LOG j (BitVec.ofNat 32 (leNat (slice b (4 * j) 4)))) s


/-- LOG_LATCH (R455): a read of EVT_LOG_0. -/
def execLogLatch (s : State) : Res :=
  if !s.gr.linkUp then fin s
  else if !s.railOk 4 then fin (s.emit (.readData (R.EVT_LOG.at 0) 0))
  else
    let s := s.showLatch s.evt.log.head?
    fin (s.emit (.readData (R.EVT_LOG.at 0) (s.reg R.EVT_LOG 0)))

/-- LOG_REMOVE (R455): a read of EVT_LOG_3. -/
def execLogRemove (s : State) : Res :=
  let s' := s.emit (.readData (R.EVT_LOG.at 3) (if s.evt.latch.isSome then s.reg R.EVT_LOG 3 else 0))
  if !s.gr.linkUp then fin s
  else if s.evt.latch.isSome then
    fin (((s'.updEvt fun e => { e with log := e.log.drop 1 }).showLatch none).noteLog)
  else fin s'

/-- A write of EVT_REARM (R453). -/
def State.rearm (s : State) (data : Word) : State :=
  (List.range 14).foldl (fun s v =>
    if testBit data.toNat v && testBit s.vecLevel (18 + v) then s.msix (18 + v) else s) s

/-- VECTOR_REARM. -/
def execVectorRearm (data : Word) (s : State) : Res :=
  if s.gr.linkUp && s.railOk 4 then fin (s.rearm data) else fin s

/-! ### Commands (R454) -/

/-- CMD_EVT_LOG_READ. -/
def execCmdEvtLogRead (m : Fin 16) (x : Exec) (s : State) : Res :=
  fin (s.cmd m 0xB01 x
    (fun s => s.headChecks m (· = 4) ++
      [chk ST_BAD_ARGUMENT (s.pay m 2 1 / 2 ≠ 0 || s.pay m 3 1 ≠ 0), chk ST_ZERO_INVALID (s.pay m 0 2 = 0),
       chk ST_BAD_ARGUMENT (decide (250 < s.pay m 0 2)), chk ST_WRONG_MODE (s.mode = mDORMANT)])
    (fun s =>
      let l := s.evt.log.take (s.pay m 0 2)
      let keep := testBit (s.pay m 2 1) 0
      let s := if keep || l.isEmpty then s
        else ((s.updEvt fun e => { e with log := e.log.drop l.length }).showLatch none).noteLog
      s.complete m ST_OK 0 (l.flatMap LogRec.toBytes)))

/-- Repairs of classes 1 and 2 in force (R454): retired buffers; retired Silo pages and the pages that stand in for
others. -/
def State.retiredBufs (s : State) : Nat := (s.grn.bufs.filter (fun e => e.2.kind = kRETIRED)).length
def State.retiredPages (s : State) : Nat :=
  (s.grn.pageRetired.dedup.filter (fun g => (s.page g).tag.kind = kFREE || (s.page g).tag.kind = kRETIRED)).length +
    s.evt.remap.length

/-- CMD_EVT_SPARE_REPORT. -/
def execCmdEvtSpareReport (m : Fin 16) (x : Exec) (s : State) : Res :=
  fin (s.cmd m 0xB02 x (fun s => s.headChecks m (· = 0) ++ [chk ST_WRONG_MODE (s.mode = mDORMANT)])
    (fun s =>
      let rows (c : Nat) : Nat := (s.evt.rows.filter (fun r => r.1 = c)).length
      let units (c : Nat) : Nat := (s.evt.units.filter (fun r => r.1 = c)).length
      let used := [rows 0, s.retiredBufs, s.retiredPages, units 3, rows 4 + units 4]
      s.complete m ST_OK 0 ((used.zipIdx.flatMap (fun (u, c) => leBytes 4 u ++ leBytes 4 (SMap.get 0 s.evt.unrepaired c))) ++
        List.replicate 24 (0 : Byte))))

end Sys2Proof.Machine
end

