-- ==== Sys2Proof/Machine/Commit.lean ====
section
/-! DEFINITION. Sys2Proof/Machine/Commit.lean: the commit engine: snapshot, check, apply and result (R12, R19, R114-R119,
R128), the checks of every group (R131, R165, R238, R241, R279, R281, R305, R324, R348, R386, R394, R399, R402, R416,
R433, R488), and the commit commands. -/
namespace Sys2Proof.Machine

/-! ### Sets (R114, R116, R117) -/

/-- The shadow sets of the named groups, registers at reset left out. -/
def State.snapOf (s : State) (groups : Nat) : SMap Word := s.regs.filter (fun e => groupHit groups e.1 && rwcAt e.1 ≠ 0)

/-- Bins and paths of the shadow set. -/
def State.shadowPaths (s : State) : List (Nat × Int × Nat) := s.cal.paths.map (fun p => (p.1, p.2.baseSh, p.2.targetSh))

/-- DISCARD (R117). -/
def State.discard (s : State) (groups : Nat) : State :=
  let s := { s with regs := copySets groups s.committed s.regs }
  let s := if testBit groups 8 then s.updTdc fun t => { t with binsSh := t.bins } else s
  if testBit groups 9 then
    s.updCal fun c => { c with paths := c.paths.map (fun p => (p.1, { p.2 with baseSh := p.2.base, targetSh := p.2.target })) }
  else s

/-! ### The checks of the groups -/

/-- A lane tap set with c(0) below 32/64 (R131). -/
def badTaps (w : Word) : Bool :=
  64 - (sgn 4 (PRT_LANE_CFG.C_M2.get w)).natAbs - (sgn 6 (PRT_LANE_CFG.C_M1.get w)).natAbs -
    (sgn 5 (PRT_LANE_CFG.C_P1.get w)).natAbs < 32

/-- A reserved encoding of register `a` (R12), those that a single field's range does not show included. -/
def badEnc (a : Nat) (w : Word) : Bool :=
  match regAt a with
  | none => false
  | some (row, i) =>
    row.flds.any (fun f => f.acc = .rwc && !f.legal (f.get w)) ||
    ((row.reg = R.PRT_LANE_CFG || row.reg = R.SHF_LANE_CFG) && badTaps w) ||
    (row.reg = R.TBS_DOM_CFG && i = 0 && TBS_DOM_CFG.OUT_SLEW.get w = 0) ||
    (row.reg = R.TBS_TRIG_WIDTH && w = 0) ||
    ((row.reg = R.TDC_MARK_NS || row.reg = R.TBS_TRIG_START_NS) && decide (1000000000 ≤ w.toNat))

/-- Some lane is in both lists. -/
def meetsLanes (a b : List Nat) : Bool := a.any b.contains

/-- The lanes of enabled ports and carriers, by the offset of their register. -/
def State.portLanesBy (v : State) : List (Nat × List Nat) :=
  ((List.range 256).filter (fun p => v.comB PRT_CFG.ENABLE p)).map (fun p => (R.PRT_CFG.at p, v.portLanes p))
def State.carLanesBy (v : State) : List (Nat × List Nat) :=
  ((List.range 128).filter (fun c => v.comB SHF_CAR_CFG.ENABLE c)).map (fun c => (R.SHF_CAR_CFG.at c, v.carLanes c))
def sharing (own other : List (Nat × List Nat)) : List Nat :=
  (own.filter (fun x => (own ++ other).any (fun y => y.1 ≠ x.1 && meetsLanes x.2 y.2))).map (·.1)

/-- Instances below `n` of a register for which a rule is broken, as offsets. -/
def where_ (r : Reg) (n : Nat) (bad : Nat → Bool) : List Nat := ((List.range n).filter bad).map r.at

/-- R131. In each list of checks, `v` holds the set to be judged and `b` the committed set. -/
def prtChecks (v b : State) : List (List Nat) :=
  let on (s : State) (p : Nat) : Bool := s.comB PRT_CFG.ENABLE p
  [where_ R.PRT_CFG 256 (fun p => on v p && v.com PRT_CFG.FIRST_LANE p % 2 ^ v.com PRT_CFG.WIDTH p ≠ 0),
   sharing v.portLanesBy v.carLanesBy,
   where_ R.PRT_CFG 256 (fun p => on b p && (v.com PRT_CFG.WIDTH p ≠ b.com PRT_CFG.WIDTH p ||
     v.com PRT_CFG.FIRST_LANE p ≠ b.com PRT_CFG.FIRST_LANE p))]

/-- The sum of the rates of a Sheaf's enabled carriers: the larger leg, or the smaller one, in duplicate mode. -/
def State.planRate (v : State) (h : Nat) (larger : Bool) : Nat :=
  let cs := (List.range 128).filter (fun c => v.comB SHF_CAR_CFG.ENABLE c && v.com SHF_CAR_CFG.SHEAF c = h)
  let sum (l : List Nat) : Nat := l.foldl (fun a c => a + v.com SHF_CAR_CFG.RATE c) 0
  if v.comB SHF_CFG.DUP h then
    let a := sum (cs.filter (fun c => v.com SHF_CAR_CFG.LEG c = 0))
    let b := sum (cs.filter (fun c => v.com SHF_CAR_CFG.LEG c = 1))
    if larger then max a b else min a b
  else sum cs

/-- R165 and R348. -/
def shfChecks (v b : State) : List (List Nat) :=
  let on (s : State) (c : Nat) : Bool := s.comB SHF_CAR_CFG.ENABLE c
  let sheaf (s : State) (c : Nat) : Nat := s.com SHF_CAR_CFG.SHEAF c
  let n (c : Nat) : Nat := v.com SHF_CAR_CFG.LANES_M1 c + 1
  let cars (h : Nat) : List Nat := (List.range 128).filter (fun c => on v c && sheaf v c = h)
  let full (h : Nat) : Bool := decide (16 < (cars h).length) || decide (512 < v.planRate h true)
  let method (h : Nat) : Nat := v.com SHF_TT_CFG.METHOD h
  let line (h : Nat) : Nat := v.com SHF_TT_CFG.LINE_REF h
  let apart (h : Nat) : Bool := (cars h).any (fun c => (cars h).any (fun d =>
    let x := v.com SHF_CAR_FREQ.CENTRE_FREQ c
    let y := v.com SHF_CAR_FREQ.CENTRE_FREQ d
    x ≠ 0 && y ≠ 0 && decide (x + 2000000 ≤ y)))
  [where_ R.SHF_CAR_CFG 128 (fun c => on v c && (decide (16 < v.com SHF_CAR_CFG.FIRST_LANE c % 16 + n c) ||
     decide (4 * n c < v.com SHF_CAR_CFG.RATE c) || full (sheaf v c))),
   sharing v.carLanesBy v.portLanesBy,
   where_ R.SHF_CAR_CFG 128 (fun c => on v c && !v.comB SHF_CFG.ENABLE (sheaf v c)),
   where_ R.SHF_CFG 32 (fun h => b.comB SHF_CFG.ENABLE h && !v.comB SHF_CFG.ENABLE h && !(cars h).isEmpty),
   where_ R.SHF_CAR_CFG 128 (fun c => on b c && (sheaf v c ≠ sheaf b c ||
     v.com SHF_CAR_CFG.FIRST_LANE c ≠ b.com SHF_CAR_CFG.FIRST_LANE c ||
     v.com SHF_CAR_CFG.LANES_M1 c ≠ b.com SHF_CAR_CFG.LANES_M1 c || v.com SHF_CAR_CFG.LEG c ≠ b.com SHF_CAR_CFG.LEG c)),
   where_ R.SHF_CAR_CFG 128 (fun c => (b.cst c = cACTIVE || b.cst c = cDRAINING) &&
     v.com SHF_CAR_CFG.RATE c ≠ b.com SHF_CAR_CFG.RATE c),
   where_ R.SHF_TT_CFG 32 (fun h => line h ≠ 0 && (List.range 32).any (fun g => g ≠ h && line g = line h)),
   where_ R.SHF_TT_CFG 32 (fun h => line h ≠ 0 && method h = 0),
   where_ R.SHF_CFG 32 (fun h => decide (2 ≤ method h) && v.comB SHF_CFG.DUP h),
   where_ R.SHF_TT_CFG 32 (fun h => method h = 2 && !apart h),
   where_ R.SHF_TT_CFG 32 (fun h => method h = 3 && !(cars h).any (fun c => v.comB SHF_CAR_CFG.CP c))]

/-- R241. -/
def grnChecks (v b : State) : List (List Nat) :=
  let base (s : State) (p : Nat) : Nat := s.com GRN_POOL_BASE.BASE p
  let top (p : Nat) : Nat := base v p + v.poolSize p * v.cellsOf p
  let meets (p q : Nat) : Bool := decide (base v p < top q) && decide (base v q < top p)
  let granted (p : Nat) : Bool := b.grn.bufs.any (fun e => e.1 / 1048576 = p && e.2.kind ≠ kFREE && e.2.kind ≠ kRETIRED)
  let cfg (p : Nat) : Bool := v.poolSize p ≠ b.poolSize p || v.poolBuf p ≠ b.poolBuf p
  let xoff (n : Nat) : Nat := v.com GRN_IN_THR.XOFF n
  [where_ R.GRN_POOL_CFG 8 (fun p => v.poolOn p && (decide (655360 < top p) ||
     (List.range 8).any (fun q => q ≠ p && v.poolOn q && meets p q))),
   where_ R.GRN_POOL_BASE 8 (fun p => v.poolOn p && base v p % v.cellsOf p ≠ 0),
   where_ R.GRN_POOL_CFG 8 (fun p => granted p && cfg p) ++
     where_ R.GRN_POOL_BASE 8 (fun p => granted p && base v p ≠ base b p),
   where_ R.GRN_IN_CFG 288 (fun n => v.com GRN_IN_CFG.LIMIT n ≠ 0 && decide (v.com GRN_IN_CFG.LIMIT n ≤ xoff n)) ++
     where_ R.GRN_IN_THR 288 (fun n => xoff n ≠ 0 && decide (xoff n ≤ v.com GRN_IN_THR.XON n)),
   where_ R.GRN_QSILO 4608 (fun n => n % 2 = 1 && v.com GRN_QSILO.SILO_MAX n ≠ 0)]

/-- The calendar of a Sheaf changes. -/
def almChanged (v b : State) (h : Nat) : Bool :=
  v.com ALM_CAL_CFG.ENABLE h ≠ b.com ALM_CAL_CFG.ENABLE h || v.com ALM_CAL_CFG.BANK h ≠ b.com ALM_CAL_CFG.BANK h ||
  v.com ALM_CAL_CFG.PLAN_RATE h ≠ b.com ALM_CAL_CFG.PLAN_RATE h
def almLive (v b : State) (h : Nat) : Bool := v.comB ALM_CAL_CFG.ENABLE h || b.comB ALM_CAL_CFG.ENABLE h

/-- The first failing window of the bank that Sheaf `h` will run. -/
def almBad (v : State) (h : Nat) : Option (Nat × Nat) :=
  if v.comB ALM_CAL_CFG.ENABLE h then
    (badWin (v.com ALM_CAL_CFG.PLAN_RATE h) 0 (v.bank h (v.com ALM_CAL_CFG.BANK h))).map
      (fun x => (bankBase h (v.com ALM_CAL_CFG.BANK h) + x.1, x.2))
  else none

/-- R279 and R281. -/
def almChecks (when_ : Nat) (v b : State) : List (List Nat) :=
  [where_ R.ALM_CAL_CFG 32 (fun h => when_ ≠ 2 && almLive v b h && almChanged v b h),
   where_ R.ALM_CAL_CFG 32 (fun h => (almBad v h).isSome),
   where_ R.ALM_CAL_CFG 32 (fun h => v.comB ALM_CAL_CFG.ENABLE h &&
     decide (v.planRate h false < v.com ALM_CAL_CFG.PLAN_RATE h))]

/-- R305 and R324. -/
def tbsChecks (v : State) : List (List Nat) :=
  let period (k : Nat) : Nat := v.com TBS_TRIG_PERIOD_LO.PERIOD k + 2 ^ 32 * v.com TBS_TRIG_PERIOD_HI.PERIOD k
  let width (k : Nat) : Nat := v.com TBS_TRIG_WIDTH.WIDTH k
  let src (n : Nat) : Nat := v.com TBS_DOM_CFG.SOURCE n
  let par (n : Nat) : Nat := v.com TBS_DOM_CFG.PARENT n
  [where_ R.TBS_DOM_CFG 1 (fun n => src n ≠ srcROUTE),
   where_ R.TBS_DOM_CFG 8 (fun n => n ≠ 0 && src n = srcROUTE),
   where_ R.TBS_DOM_CFG 8 (fun n => src n = srcDERIVED && (par n = n || src (par n) = srcDERIVED)),
   where_ R.TBS_TRIG_PERIOD_LO 8 (fun k => period k ≠ 0 && decide (period k < 20 * 65536)),
   where_ R.TBS_TRIG_WIDTH 8 (fun k => decide (width k < 5) ||
     (period k ≠ 0 && decide (period k < (width k + 5) * 65536)))]

/-- R386. -/
def refChecks (v : State) : List (List Nat) :=
  let gnss (k : Nat) : Bool := v.com REF_IN_CFG.TOD_SRC k = 1
  [where_ R.REF_TOL_CFG 7 (fun j => decide (v.com REF_TOL_CFG.PHASE_TOL j ≤ v.com REF_TOL_CFG.DRIFT_THR j)),
   where_ R.REF_IN_CFG 4 (fun k => gnss k && (List.range 4).any (fun i => i ≠ k && gnss i)),
   where_ R.REF_IN_CFG 4 (fun k => gnss k && v.comB REF_IN_CFG.KIND k),
   if v.com REF_SRC_CFG.RANK 6 ≠ 0 && v.com TBS_DOM_CFG.SOURCE (v.com REF_PTP_CFG.DOMAIN) ≠ srcHOST then
     [R.REF_SRC_CFG.at 6] else []]

/-- R394, R399 and R402. -/
def synChecks (v b : State) : List (List Nat) :=
  [if b.ramping then
     where_ R.SYN_RAMP_RATE 16 (fun i => v.comReg R.SYN_RAMP_RATE i ≠ b.comReg R.SYN_RAMP_RATE i) ++
     where_ R.SYN_RAMP_DUR 16 (fun i => v.comReg R.SYN_RAMP_DUR i ≠ b.comReg R.SYN_RAMP_DUR i) ++
     where_ R.SYN_RAMP_CFG 1 (fun i => v.comReg R.SYN_RAMP_CFG i ≠ b.comReg R.SYN_RAMP_CFG i)
   else [],
   where_ R.SYN_CKO_CFG 12 (fun k => b.comB SYN_CKO_CFG.ENABLE k && v.com SYN_CKO_CFG.OPT k ≠ b.com SYN_CKO_CFG.OPT k),
   where_ R.SYN_CKO_CFG 12 (fun k => v.comB SYN_CKO_CFG.ENABLE k &&
     decide (v.com SYN_CKO_DIV.DIV_M1 k + 1 < [2, 7, 10].getD (v.com SYN_CKO_CFG.OPT k) 0)),
   where_ R.SYN_CKO_DLY 12 (fun k => decide (10000 < v.com SYN_CKO_DLY.FINE k))]

/-- R433. -/
def calChecks (v b : State) : List (List Nat) :=
  [where_ R.CAL_OCXO_TRIM 1 (fun i => v.swMode && v.com CAL_OCXO_TRIM.TARGET i ≠ b.com CAL_OCXO_TRIM.TARGET i)]

/-- R488. -/
def twnChecks (v b : State) : List (List Nat) :=
  [where_ R.TWN_CFG 1 (fun _ => (b.twSt = twRESYNC || b.twSt = twPAIRED) &&
    (v.com TWN_CFG.UNIT ≠ b.com TWN_CFG.UNIT || v.com TWN_CFG.PREF_UNIT ≠ b.com TWN_CFG.PREF_UNIT))]

def groupChecks (g when_ : Nat) (v b : State) : List (List Nat) :=
  if g = 0 then prtChecks v b else if g = 1 then shfChecks v b else if g = 3 then grnChecks v b
  else if g = 4 then almChecks when_ v b else if g = 5 then tbsChecks v else if g = 6 then refChecks v
  else if g = 7 then synChecks v b else if g = 9 then calChecks v b else if g = 10 then twnChecks v b else []

def leastOf (l : List Nat) : Option Nat := l.foldl (fun b a => match b with | some x => some (min x a) | none => some a) none

/-- The registers whose change starts a plane drain (R220). -/
def hashOffsets : List Nat :=
  [R.FWD_HASH_CFG.at 0, R.FWD_HASH_SEED.at 0, R.FWD_PLANE_MAP.at 0, R.FWD_PLANE_MAP.at 1, R.FWD_PLANE_MAP.at 2, R.FWD_PLANE_MAP.at 3]
def hashChanged (v b : State) : List Nat :=
  hashOffsets.filter (fun a => SMap.get (resetAt a) v.committed a ≠ SMap.get (resetAt a) b.committed a)

/-- The registers of a group that hold a reserved encoding; a segment of the ramp below COUNT has no DURATION 0 (R390). -/
def encFails (g : Nat) (v : State) : List Nat :=
  ((v.committed.filter (fun e => groupHit (2 ^ g) e.1)).filter (fun e => badEnc e.1 e.2)).map (·.1) ++
  (if g = 7 then where_ R.SYN_RAMP_DUR 16 (fun i => decide (i < v.com SYN_RAMP_CFG.COUNT) && v.com SYN_RAMP_DUR.DURATION i = 0)
   else [])

/-- The first failure of one group: status, offset, group, and whether it is a reserved encoding. -/
def groupFail (g when_ : Nat) (v b : State) : Option (Nat × Nat × Nat × Bool) :=
  match leastOf (encFails g v) with
  | some a => some (ST_REJECT_INCONSISTENT, a, g, true)
  | none =>
    match (groupChecks g when_ v b).findSome? leastOf with
    | some a => some (ST_REJECT_INCONSISTENT, a, g, false)
    | none =>
      if g = 2 && b.fwd.drain.isSome then (leastOf (hashChanged v b)).map (fun a => (ST_BUSY, a, g, false)) else none

/-- The mirrored registers of the named groups whose shadow differs from its committed value (R480). -/
def State.mirrorDiffs (s : State) (groups : Nat) : List Nat :=
  (((s.regs.map (·.1)) ++ s.committed.map (·.1)).filter (fun a => groupHit groups a &&
    ((SMap.get (resetAt a) s.regs a ^^^ SMap.get (resetAt a) s.committed a) &&& rwcAt a &&&
      BitVec.ofNat 32 (mirrorMask a)) ≠ 0))

/-- The group number in a verdict that concerns no group. -/
def noGroup : Nat := 16

/-- The check of R115: `v` is the module with the set in force. -/
def judge (groups when_ : Nat) (v b : State) : Option (Nat × Nat × Nat × Bool) :=
  (List.range 12).findSome? (fun g => if testBit groups g then groupFail g when_ v b else none)

def oneGroup (groups : Nat) : Bool := ((List.range 12).filter (testBit groups)).length = 1

/-! ### Requests (R105, R115, R118) -/

/-- The modes in which a group may be committed. -/
def State.groupMode (s : State) (g : Nat) : Bool :=
  if g ≤ 1 then s.tkMode
  else if g ≤ 4 then s.fwdMode
  else if g = 5 || g = 6 || g = 7 || g = 10 then s.timeMode
  else s.mode ≠ mDORMANT

def State.groupsMode (s : State) (groups : Nat) : Bool := (List.range 12).all (fun g => !testBit groups g || s.groupMode g)

/-- A group is held by an earlier commit, by a code-density test (R416) or by a calibration run (R430). -/
def State.groupsBusy (s : State) (groups : Nat) : Bool :=
  s.gr.commits.any (fun c => (List.range 12).any (fun g => testBit groups g && testBit c.groups g)) ||
  (testBit groups 8 && s.tdc.test.isSome) || (testBit groups 9 && s.bit CAL_STAT.RUNNING)

/-- ALM_BANK_STAT.PENDING from the snapshot of a commit under BOUNDARY until it ends (R280). -/
def State.notePending (s : State) (v : State) (on : Bool) : State :=
  (List.range 32).foldl (fun s h =>
    s.wrB ALM_BANK_STAT.PENDING h (on && v.com ALM_CAL_CFG.BANK h ≠ s.com ALM_CAL_CFG.BANK h)) s

/-- The module with a snapshot in force. -/
def State.withSets (s : State) (groups : Nat) (snap : SMap Word) : State :=
  { s with committed := copySets groups snap s.committed }

/-- What the check of a snapshot will find (step 2 of R115). -/
def State.verdictOf (s : State) (groups when_ : Nat) (snap : SMap Word) : Option (Nat × Nat × Nat × Bool) :=
  if when_ = 2 && !oneGroup groups then some (ST_REJECT_INCONSISTENT, R.MBX_COMMIT_GROUPS.base, noGroup, false)
  else match (if s.follow then leastOf (s.mirrorDiffs groups) else none) with
    | some a => some (ST_REJECT_INCONSISTENT, a, (groupOf (blockOf a)).getD noGroup, false)
    | none => judge groups when_ (s.withSets groups snap) s

/-- The snapshot of a commit, as the shadow copies stand (step 1 of R115). -/
def State.takeSnap (s : State) (c : Commit) : Commit :=
  let snap := s.snapOf c.groups
  { c with snap := snap, bins := s.tdc.binsSh, paths := s.shadowPaths, verdict := s.verdictOf c.groups c.when_ snap }

/-- The boundary of the TBS_ group, fixed at the snapshot from D0 and the INC in force: the first tick after the check in
which D0 enters a new second, and that second (R331). -/
def State.tbsEdge (s : State) : Nat × Nat :=
  let d := s.domAt 0 (s.now + 2047)
  let x := d / secU + 1
  (s.now + 2047 + ((x * secU - d + s.incOf 0 - 1) / max 1 (s.incOf 0 : Int)).toNat, (tsParts (x * secU)).1)

/-- Step 1 of R115 for a commit whose groups are powered and free: the snapshot, judged against the committed sets of this
tick. -/
def State.requestCommit (s : State) (groups when_ at_ : Nat) (path : Option (Fin 16)) (restore : Nat) : State :=
  let c := s.takeSnap { groups := groups, snap := [], path := path, when_ := when_, at_ := at_, restore := restore,
                        askedAt := s.now, edge := s.tbsEdge }
  let s := (s.updGr fun g => { g with commits := g.commits ++ [c] }).noteCommits
  if testBit groups 4 && when_ = 2 then s.notePending (s.withSets groups c.snap) true else s

/-- A shadow write in the tick of a snapshot belongs to it (R116). -/
def State.resnap (s : State) : State :=
  let hit (c : Commit) : Bool := c.stage = .checking && c.askedAt = s.now
  if !s.gr.commits.any hit then s
  else
    let l := s.gr.commits.map (fun c => if hit c then s.takeSnap c else c)
    let s := s.updGr fun g => { g with commits := l }
    s.each (l.filter (fun c => hit c && testBit c.groups 4 && c.when_ = 2)) fun s c =>
      s.notePending (s.withSets c.groups c.snap) true

/-- Whether a commit of these groups would change the bank in use of Sheaf `h` to `b` (R276). -/
def State.bankComing (s : State) (h b : Nat) : Bool :=
  s.gr.commits.any (fun c => testBit c.groups 4 &&
    (let v := s.withSets c.groups c.snap
     v.comB ALM_CAL_CFG.ENABLE h && v.com ALM_CAL_CFG.BANK h = b))

/-! ### Apply (R115, R119) -/

/-- The list of (offset, committed value) pairs that a commit changes, for the mirror (R461, R478). -/
def changedPairs (groups : Nat) (v b : State) : List Byte :=
  let keys := (((v.committed.map (·.1)) ++ b.committed.map (·.1)).filter (groupHit groups)).dedup
  keys.flatMap (fun a =>
    let m := BitVec.ofNat 32 (mirrorMask a)
    let x := SMap.get (resetAt a) v.committed a &&& m
    if x = SMap.get (resetAt a) b.committed a &&& m then [] else pairBytes a x)

/-- Some mirrored group is named (R478). -/
def mirrored (groups : Nat) : Bool := [0, 1, 2, 3, 4, 5, 6, 7, 11].any (testBit groups)

def State.applyGrn (s b : State) : State :=
  let s := (List.range 8).foldl (fun s p =>
    if s.com GRN_POOL_BASE.BASE p = b.com GRN_POOL_BASE.BASE p && s.poolSize p = b.poolSize p && s.poolBuf p = b.poolBuf p then s
    else
      let s := s.updGrn fun g => { g with pools := SMap.erase g.pools p, bufs := SMap.drop g.bufs (bufKey p 0) (bufKey (p + 1) 0) }
      (s.wr GRN_POOL_STAT.FREE p (s.poolSize p)).wr GRN_POOL_STAT.RETIRED p 0) s
  (List.range 256).foldl (fun s p =>
    if s.comReg R.GRN_IN_THR p = b.comReg R.GRN_IN_THR p then s
    else (List.range 8).foldl (fun s c => s.judgeIn p c) s) s

def State.applyAlm (s b : State) : State :=
  (List.range 32).foldl (fun s h =>
    let s := s.wrB ALM_BANK_STAT.PENDING h false
    if almLive s b h && almChanged s b h then s.almSwitched h else s.noteBank h) s

def State.applyFwd (s b : State) : State :=
  let s := if (hashChanged s b).isEmpty then s else s.startDrain
  (List.range 288).foldl (fun s e => if s.holdOver e then s.enterDrop e else s) s

/-- The committed copies become `set` of them. -/
def State.putCom (s : State) (set : SMap Word → SMap Word) : State := { s with committed := set s.committed }

/-- Brings sets of the named groups into force in this tick (step 3 of R115): `set` changes the committed copies. -/
def State.applyGroups (s : State) (groups : Nat) (set : SMap Word → SMap Word) (bins : SMap Nat)
    (paths : List (Nat × Int × Nat)) : State :=
  let s := if testBit groups 10 && s.twinOn && !(s.putCom set).twinOn then s.relinquish none else s
  let s := if testBit groups 6 || testBit groups 5 then s.refPrepare else s
  let s := if testBit groups 5 then s.tbsPrepare else s
  let b := s
  let s := s.putCom set
  let s := if testBit groups 5 then s.tbsCommit b else s
  let s := if testBit groups 6 then s.refCommit b else s
  let s := if testBit groups 6 && s.swMode && !b.swMode then s.updCal fun c => { c with retune := false } else s
  let s := if testBit groups 0 then s.prtCommit b else s
  let s := if testBit groups 1 then s.shfCommit b else s
  let s := if testBit groups 2 then s.applyFwd b else s
  let s := if testBit groups 3 then s.applyGrn b else s
  let s := if testBit groups 4 then s.applyAlm b else s
  let s := if testBit groups 7 then
      (List.range 12).foldl (fun s k => s.ckoCommit b k) s
    else s
  let s := if testBit groups 8 then s.tdcCommit b bins else s
  let s := if testBit groups 9 then s.calCommit b paths else s
  if testBit groups 10 then s.twnCommit b else s

/-! ### Results (R101, R103, R106, R115) -/

/-- The commit of ALM_ alone that ends CMD_CONFIG_RESTORE (R106). -/
def State.restoreAlm (s : State) (m : Fin 16) : State :=
  if !s.groupMode 4 then s.complete m ST_WRONG_MODE
  else if s.groupsBusy 0x10 then s.complete m ST_BUSY
  else s.requestCommit 0x10 2 0 (some m) 2

/-- After the first commit of a restore, or without one: table 0x50 is synced, then ALM_ is committed. -/
def State.restoreTail (s : State) (m : Fin 16) : State :=
  let n := s.rd MBX_DT_BIND.ENTRY_COUNT 0x50
  let s := s.running m .restore true
  if n = 0 || (s.table 0x50).addr.isNone then s.restoreAlm m
  else
    let o := s.nextOrd
    let s := s.issueFetches ((s.table 0x50).addr.getD 0) 0 n
    { s.updTable 0x50 fun t => { t with queue := t.queue ++ [{ first := 0, count := n, ord := o, mbx := some m }] } with
      nextOrd := o + 1 }

/-- A commit ends. -/
def State.endCommit (s : State) (c : Commit) (status detail : Nat) : State :=
  let s := s.updGr fun g => { g with commits := g.commits.filter (fun x => x ≠ c) }
  let s := s.noteCommits
  match c.path, status = ST_OK && c.restore = 1 with
  | some m, true => if s.mst m = mRUNNING then s.restoreTail m else s
  | p, _ => s.commitResult p status detail

/-- A commit of these groups may still end with ST_BUSY at its apply tick (R416, R430); it is mirrored when it applies
(log entry 136). -/
def mayBeBusy (groups : Nat) : Bool := testBit groups 8 || testBit groups 9

/-- Applies a commit in this tick. The mirror takes one that may be turned away here only now (DESIGN CHOICE, log entry
136). -/
def State.applyCommit (s : State) (c : Commit) : State :=
  if (testBit c.groups 8 && s.tdc.test.isSome) || (testBit c.groups 9 && s.bit CAL_STAT.RUNNING) then s.endCommit c ST_BUSY 0
  else
    let b := s
    let s := s.applyGroups c.groups (copySets c.groups c.snap) c.bins c.paths
    let s := (s.wr MBX_COMMIT_APPLIED_LO.TICK 0 s.tick).wr MBX_COMMIT_APPLIED_HI.TICK 0 (s.tick / 2 ^ 32)
    let s := if !mirrored c.groups then s
      else if c.stage = .checking then s.mirrorTxn 1 0 [] (changedPairs c.groups s b)
      else if mayBeBusy c.groups then s.mirrorTxn 1 1 (tsBE (tsQ (s.domAt 0 s.now))) (changedPairs c.groups s b) else s
    s.endCommit c ST_OK 0

/-- Cycle of A and second of D0 now (R271, R331). -/
def State.cycleNow (s : State) : Nat := s.absSlot s.now / 4096
def State.secondNow (s : State) : Nat := (tsParts (s.domAt 0 s.now)).1

/-- The commit waits for an instant (AT, cycle or second): the mirror carries it ahead (R479), unless its apply tick may
still turn it away. -/
def State.commitWaits (s : State) (c : Commit) (bound : Option Nat) (when_ : Nat) (apply : List Byte) : State :=
  let c' := { c with stage := .waiting, bound := bound }
  let s := s.updGr fun g => { g with commits := g.commits.map (fun x => if x = c then c' else x) }
  let v := { s with committed := copySets c.groups c.snap s.committed }
  let s := if mirrored c.groups && !mayBeBusy c.groups then s.mirrorTxn 1 when_ apply (changedPairs c.groups v s) else s
  s.noteCommits

/-- A check that fails (steps 2 and 4 of R115). A FWD_ commit that ends with ST_BUSY for a plane drain (R220) counts as
rejected by its check, with FAIL_OFFSET and FAIL_GROUP: R128 leaves it open (DESIGN CHOICE, log entry 131). -/
def State.commitFails (s : State) (c : Commit) (status ofs g : Nat) (enc : Bool) : State :=
  let v := { s with committed := copySets c.groups c.snap s.committed }
  let s := if enc then s.reservedEnc ofs else s
  let s := s.wr MBX_COMMIT_FAIL.FAIL_OFFSET 0 ofs
  let s := if g = noGroup then s else s.wr MBX_COMMIT_STAT.FAIL_GROUP 0 g
  let s := if testBit c.groups 4 then
      let s := if g = 4 && !enc then
          match (List.range 32).find? (fun h => R.ALM_CAL_CFG.at h = ofs) with
          | some h => match almBad v h with
            | some (i, k) => ((s.wr ALM_BAD_ENTRY.INDEX 0 i).wr ALM_BAD_ENTRY.CAUSE 0 k).almRaise EV.ALM_BAD_ENTRY h
            | none => s
          | none => s
        else s
      s.notePending v false
    else s
  s.endCommit c status (if status = ST_REJECT_INCONSISTENT then ofs else 0)

/-! ### Meanings -/

/-- The commit that holds group `g`. -/
def State.commitOf (s : State) (g : Nat) : Option Commit := s.gr.commits.find? (fun c => testBit c.groups g)

/-- COMMIT_CHECK_DONE (R115, R280, R331): the first tick after the check of the commit that names group `g` has ended
(log entry 16), in which an IMMEDIATE commit applies. -/
def execCommitCheckDone (g : Fin 12) (s : State) : Res :=
  match s.commitOf g with
  | none => fin s
  | some c =>
    if c.stage ≠ .checking || (testBit c.groups 5 && decide (s.now < c.askedAt + 2048)) then fin s
    else match c.verdict with
      | some (st, ofs, fg, enc) => fin (s.commitFails c st ofs fg enc)
      | none =>
        if c.when_ = 1 then
          if c.at_ < s.tick then fin (s.endCommit c ST_TOO_LATE 0)
          else fin (s.commitWaits c none 1 (tsBE (tsQ (s.domAt 0 (s.tickAt c.at_)))))
        else if c.when_ = 2 && testBit c.groups 4 then
          let v := s.withSets c.groups c.snap
          let n := s.absSlot (s.now - 1) / 4096
          let d := (v.com ALM_SWITCH_CYC.CYCLE + 2 ^ 32 - n % 2 ^ 32) % 2 ^ 32
          if c.restore ≠ 2 && v.comB ALM_SWITCH.MODE then
            if d = 0 || 2 ^ 31 ≤ d then fin ((s.notePending v false).endCommit c ST_TOO_LATE 0)
            else fin (s.commitWaits c (some (n + d)) 2 (List.replicate 8 (0 : Byte) ++ beBytes 4 (n + d)))
          else fin (s.commitWaits c (some (n + 1)) 2 (List.replicate 8 (0 : Byte) ++ beBytes 4 (n + 1)))
        else if c.when_ = 2 && testBit c.groups 5 then
          fin (s.commitWaits c (some c.edge.1) 3 (beBytes 6 c.edge.2 ++ List.replicate 6 (0 : Byte)))
        else if c.when_ = 2 && testBit c.groups 8 && s.tdc.armed.isSome then fin (s.commitWaits c none 0 [])
        else fin (s.applyCommit c)

/-- COMMIT_APPLY_AT (R115). -/
def execCommitApplyAt (g : Fin 12) (s : State) : Res :=
  match s.commitOf g with
  | none => fin s
  | some c => if c.stage = .waiting && c.when_ = 1 && decide (c.at_ ≤ s.tick) then fin (s.applyCommit c) else fin s

/-- COMMIT_APPLY_BOUNDARY (R115, R280, R331, R416). -/
def execCommitApplyBoundary (g : Fin 12) (s : State) : Res :=
  match s.commitOf g with
  | none => fin s
  | some c =>
    let due : Bool := match c.bound with
      | some n => decide (n ≤ (if testBit c.groups 4 then s.cycleNow else s.now))
      | none => s.tdc.armed.isNone && s.tdc.test.isNone
    if c.stage = .waiting && c.when_ = 2 && due then fin (s.applyCommit c) else fin s

/-- A write of MBX_COMMIT_CTL that holds a reserved encoding (R128). -/
def badCtl (w : Word) : Bool :=
  MBX_COMMIT_CTL.WHEN.get w = 3 || (MBX_COMMIT_CTL.GO.get w = 1 && MBX_COMMIT_CTL.DISCARD.get w = 1)

/-- The register path's result without a commit. -/
def State.goResult (s : State) (status : Nat) : State := s.commitResult none status 0

/-- A CMD_COMMIT of this tick gives way to a GO that names one of its groups (R118). -/
def State.yieldGo (s : State) (groups : Nat) : State :=
  let hit (c : Commit) : Bool := c.stage = .checking && c.askedAt = s.now && c.path.isSome && c.restore = 0 &&
    (List.range 12).any (fun g => testBit groups g && testBit c.groups g)
  s.each (s.gr.commits.filter hit) fun s c =>
    (if testBit c.groups 4 && c.when_ = 2 then s.notePending s false else s).endCommit c ST_BUSY 0

/-- GO in a write of MBX_COMMIT_CTL (R115, R118, R128). -/
def State.commitGo (s : State) (w : Word) : State :=
  if badCtl w then s.reservedEnc R.MBX_COMMIT_CTL.base
  else if MBX_COMMIT_CTL.GO.get w = 0 then s
  else
    let groups := s.rd MBX_COMMIT_GROUPS.GROUPS
    if groups = 0 then s.goResult ST_ZERO_INVALID
    else if !s.groupsMode groups then s.goResult ST_WRONG_MODE
    else
      let s' := s.yieldGo groups
      if s'.groupsBusy groups then s.goResult ST_BUSY
      else s'.requestCommit groups (MBX_COMMIT_CTL.WHEN.get w)
        (s.rd MBX_COMMIT_AT_LO.AT + 2 ^ 32 * s.rd MBX_COMMIT_AT_HI.AT) none 0

/-- DISCARD in a write of MBX_COMMIT_CTL (R117, R128). The snapshot of a commit that began in the same tick is not taken
again after it: R116 leaves open whether the DISCARD belongs to it (DESIGN CHOICE, log entry 130). -/
def State.commitDiscard (s : State) (w : Word) : State :=
  if badCtl w then s.reservedEnc R.MBX_COMMIT_CTL.base
  else if MBX_COMMIT_CTL.DISCARD.get w = 0 then s
  else s.discard (s.rd MBX_COMMIT_GROUPS.GROUPS)

/-- COMMIT_GO: a write of MBX_COMMIT_CTL with GO. -/
def execCommitGo (w : Word) (s : State) : Res := if s.gr.linkUp then fin (s.commitGo w) else fin s

/-- COMMIT_DISCARD: a write of MBX_COMMIT_CTL with DISCARD. -/
def execCommitDiscard (w : Word) (s : State) : Res := if s.gr.linkUp then fin (s.commitDiscard w) else fin s

/-- CMD_COMMIT (R105, R115, R118). -/
def execCmdCommit (m : Fin 16) (x : Exec) (s : State) : Res :=
  fin (s.cmd m 0x20 x
    (fun s =>
      let groups := s.pay m 0 4
      s.headChecks m (· = 16) ++
      [chk ST_BAD_ARGUMENT (groups / 4096 ≠ 0), chk ST_ZERO_INVALID (groups = 0),
       chk ST_BAD_ARGUMENT (decide (2 < s.pay m 4 4)), chk ST_WRONG_MODE (!s.groupsMode groups),
       chk ST_BUSY (s.groupsBusy groups)])
    (fun s => (s.running m .commit true).requestCommit (s.pay m 0 4) (s.pay m 4 4) (s.pay m 8 8) (some m) 0))

end Sys2Proof.Machine
end

