-- ==== Sys2Proof/Machine/Tables.lean ====
section
/-! DEFINITION. Sys2Proof/Machine/Tables.lean: descriptor tables: notifies, fetches, the checks at install, the version store
and the table commands (R120-R126, R204, R209-R216, R274-R277, R494, R514, R516, R517). -/
namespace Sys2Proof.Machine

/-! ### The checks at install (R208-R214, R275, R276) -/

def zeros (b : List Byte) (lo hi : Nat) : Bool := (slice b lo (hi - lo)).all (· = 0)
def fmtOf (b : List Byte) : Nat := leNat (slice b 0 2)
def genOf (b : List Byte) : Nat := leNat (slice b 2 2)

/-- ACTION, CLASS and TARGET (R208). -/
def actionOk (act cls tgt : Nat) : Bool :=
  decide (act < 4) && decide (cls < 16) && (act ≠ 1 || decide (tgt < 512)) && (act ≠ 2 || decide (tgt < 16384))

def flowOk (i : Nat) (b : List Byte) : Bool :=
  let key := slice b 4 40
  let act := byteAt b 44
  let one := byteAt b 51
  let tally := leNat (slice b 52 4)
  fmtOf b = 0x0301 && actionOk act (byteAt b 45) (leNat (slice b 46 2)) && decide (byteAt b 50 < 4) && decide (one < 32) &&
  one % 4 ≠ 3 && (!testBit (byteAt b 50) 1 || (tally % 2 = 0 && decide (262144 ≤ tally) && decide (tally ≤ 2097150))) &&
  zeros b 56 64 && decide (flowBase key ≤ i) && decide (i < flowBase key + 4) && !(act = 2 && leNat (slice b 48 2) ≠ 0)

/-- Bits beyond the first `n` are 0. -/
def prefixOk (bs : List Byte) (n : Nat) : Bool :=
  let k := n / 8
  (n % 8 = 0 || byteAt bs k % 2 ^ (8 - n % 8) = 0) && (bs.drop (ceilDiv n 8)).all (· = 0)

def routeOk (b : List Byte) : Bool :=
  let plen := byteAt b 4
  (fmtOf b = 0x0311 || fmtOf b = 0x0312) && decide (plen ≤ if fmtOf b = 0x0311 then 32 else 128) &&
  actionOk (byteAt b 5) (byteAt b 8) (leNat (slice b 6 2)) && zeros b 9 12 && zeros b 28 64 && prefixOk (slice b 12 16) plen

def l2Ok (i : Nat) (b : List Byte) : Bool :=
  let base := l2Base (slice b 4 8)
  fmtOf b = 0x0321 && decide (leNat (slice b 10 2) < 4096) && actionOk (byteAt b 12) (byteAt b 13) (leNat (slice b 14 2)) &&
  zeros b 16 64 && decide (base ≤ i) && decide (i < base + 4)

def mplsOk (b : List Byte) : Bool :=
  fmtOf b = 0x0331 && decide (byteAt b 4 < 3) && actionOk (byteAt b 5) (byteAt b 8) (leNat (slice b 6 2)) &&
  decide (byteAt b 11 < 16) && zeros b 12 64

def hopOk (b : List Byte) : Bool :=
  let vlan := leNat (slice b 18 2)
  let push := leNat (slice b 20 4)
  fmtOf b = 0x0341 && decide (nhEgress b < 288) && vlan / 4096 % 8 = 0 && push / 2 ^ 20 % 2 ^ 11 = 0 &&
  decide (nhFlags b < 8) && zeros b 25 64 && !(testBit vlan 15 && testBit (nhFlags b) 2)

def groupOk (b : List Byte) : Bool := fmtOf b = 0x0351 && decide (byteAt b 36 < 2) && zeros b 37 64
def mcastOk (b : List Byte) : Bool := fmtOf b = 0x0361 && decide (byteAt b 40 < 4) && zeros b 41 64

/-- R214. A GEN other than 0 with FORMAT 0x0000 does not name the table's format and is refused like any other that does
not, though R121 calls such an entry empty (DESIGN CHOICE, log entry 86). -/
def fwdOk (t i : Nat) (b : List Byte) : Bool :=
  if t = 0x30 then flowOk i b else if t = 0x31 then routeOk b else if t = 0x32 then l2Ok i b else if t = 0x33 then mplsOk b
  else if t = 0x34 then hopOk b else if t = 0x35 then groupOk b else mcastOk b

/-- The cause of R276 that refuses a window entry, 0 for none. -/
def State.almCause (s : State) (i : Nat) (b : List Byte) : Nat :=
  let w := winOf 0 b
  let h := i / 8192
  let bk := i / 4096 % 2
  if fmtOf b ≠ 0x0501 || !zeros b 16 64 then 1
  else if w.sched = 0 || w.slots = 0 || w.bytes = 0 || 4095 < w.first || 4096 < w.first + w.slots ||
      (4095 < w.land && w.land ≠ 0xFFFF) then 2
  else if w.land ≠ 0xFFFF && (w.first + 4096 - w.land) % 4096 < 2 then 3
  else if (s.comB ALM_CAL_CFG.ENABLE h && s.com ALM_CAL_CFG.BANK h = bk) || s.bankComing h bk then 4 else 0

/-- Route capacity used by an entry (R210). -/
def routeUnits (b : List Byte) : Nat := if fmtOf b = 0x0312 then 2 else 1
def State.routesFull (s : State) (i : Nat) (b : List Byte) : Bool :=
  let used := (s.table 0x31).entries.foldl (fun n e => if e.2.valid && e.1 ≠ i then n + routeUnits e.2.bytes else n) 0
  1048576 < used + routeUnits b

/-- Maximum entries of a table (R207, R274, R495). -/
def tableMax (t : Nat) : Nat :=
  if t = 0x30 then 4194304 else if t = 0x31 then 1048576 else if t = 0x32 || t = 0x33 then 131072
  else if t = 0x34 then 65536 else if t = 0x35 then 32768 else if t = 0x36 then 16384 else if t = 0x50 then 262144 else 0

/-! ### Installing one entry (R121-R126, R204, R214, R216, R276) -/

/-- A count of MBX_DT_STAT_t grows, and vector 17 is sent (R127). -/
def State.dtCount (s : State) (f : Fld) (t : Nat) : State :=
  let s' := s.addSat f t 1
  if s'.rd f t = s.rd f t then s else s'.msix 17

def State.notePinned (s : State) : State :=
  s.wr FWD_STAT.PINNED 0 ((s.table 0x30).entries.filter (fun e => e.2.pinned && e.2.valid)).length

/-- FWD_VER_STAT (R216): versions held, and whether an install waits. -/
def State.noteVersions (s : State) : State :=
  if !s.railOk 1 then s
  else
    let full : Bool := s.gr.tables.any (fun t => match t.2.queue with | i :: _ => i.waiting.isSome | [] => false)
    (s.wr FWD_VER_STAT.HELD 0 (min 16384 s.gr.store.length)).wrB FWD_VER_STAT.VER_FULL 0 full

/-- A frame in the module holds this version (R215). -/
def State.versionHeld (s : State) (t i ver : Nat) : Bool :=
  s.liveFrames.any (fun f => match f.cap with | some c => c.held.contains (t, i, ver) | none => false)

/-- A refused entry is recorded (R214, R276). -/
def State.refuseEntry (s : State) (t i cause : Nat) : State :=
  if t = 0x50 then
    let s := (s.wr ALM_BAD_ENTRY.INDEX 0 i).wr ALM_BAD_ENTRY.CAUSE 0 cause
    (s.addSat ALM_BAD_ENTRY_CNT.COUNT 0 1).almRaise EV.ALM_BAD_ENTRY (i / 8192)
  else
    let s := (s.wr FWD_BAD_ENTRY.TABLE_ID 0 t).wr FWD_BAD_ENTRY.INDEX 0 i
    (s.addSat FWD_BAD_ENTRY_CNT.COUNT 0 1).raise EV.FWD_BAD_ENTRY

/-- Puts an entry in place at one tick. -/
def State.placeEntry (s : State) (t i : Nat) (b : List Byte) (old : Entry) : State :=
  let gen := genOf b
  let wants : Bool := t = 0x30 && gen ≠ 0 && testBit (byteAt b 50) 0
  let others := ((s.table 0x30).entries.filter (fun e => e.2.pinned && e.1 ≠ i)).length
  let pin : Bool := wants && decide (others < 16384)
  let e : Entry := if gen = 0 then {} else
    { bytes := b, gen := gen, valid := true, ver := s.gr.nextVer, pinned := pin, cached := t = 0x30 && old.cached }
  let s := (s.updGr fun g => { g with nextVer := g.nextVer + 1 }).updEnt t i fun _ => e
  let s := if wants && !pin then s.raise EV.FWD_PIN_REFUSED else s
  let s := if t = 0x30 then s.notePinned else s
  if t = 0x50 then s.noteBank (i / 8192) else s

/-- The bytes of a table entry, zeros where none is valid. -/
def State.entBytes (s : State) (t i : Nat) : List Byte := match s.ent t i with
  | some e => slice e.bytes 0 64
  | none => List.replicate 64 0

/-- What became of a fetched entry: not installed, installed, or waiting for the version store. -/
inductive Took where
  | kept | installed | waits
  deriving DecidableEq, Repr

/-- Installs, refuses or keeps waiting a fetched entry. One that is read again (R443) counts no equal generation, and
what it holds takes the place of what was installed. -/
def State.tryInstall (s : State) (t i : Nat) (b : List Byte) (reload : Bool := false) : Took × State :=
  let old := SMap.at! (s.table t).entries i
  let gen := genOf b
  if reload && (slice b 0 64 = s.entBytes t i || (gen = 0 && !old.valid)) then (.kept, s)
  else if !reload && gen = (if old.valid then old.gen else 0) then (.kept, s.dtCount MBX_DT_STAT.SAME_GEN_CNT t)
  else if gen ≠ 0 && t = 0x50 && s.almCause i b ≠ 0 then (.kept, s.refuseEntry t i (s.almCause i b))
  else if gen ≠ 0 && t ≠ 0x50 && !fwdOk t i b then (.kept, s.refuseEntry t i 0)
  else if gen ≠ 0 && t = 0x31 && s.routesFull i b then (.kept, s.raise EV.FWD_RT_FULL)
  else if s.versionHeld t i old.ver then
    if 16384 ≤ s.gr.store.length then (.waits, s)
    else (.installed, ((s.updGr fun g => { g with store := g.store ++ [(t, i, old.ver)] }).placeEntry t i b old).noteVersions)
  else (.installed, s.placeEntry t i b old)

/-- A notify, a sync or a reload is whole (R119, R126). -/
def State.installDone (s : State) (t : Nat) (i : Install) : State :=
  let s := s.updTable t fun x => { x with queue := x.queue.drop 1 }
  let s := if i.took.isEmpty then s
    else s.mirrorTxns 2 14400000 (i.took.flatMap (fun k => beBytes 4 t ++ beBytes 4 k ++ s.entBytes t k))
  match i.mbx with
  | none => if i.reload then s else s.addWrap MBX_DT_DONE.COUNT t 1
  | some m =>
    if (s.mbxAt m).job = some .restore then s.restoreAlm m
    else match i.failed with
      | some k => s.complete m ST_LASTING_FAULT k
      | none => s.complete m (if i.anyRetry then ST_TRANSIENT_RECOVERED else ST_OK)

/-- The entry at the front of a table's work is dealt with. -/
def State.advance (s : State) (t : Nat) (i : Install) : State :=
  let i := { i with done := i.done + 1, waiting := none }
  let s := s.updTable t fun x => { x with queue := i :: x.queue.drop 1 }
  if i.count ≤ i.done then s.installDone t i else s

/-- Takes a fetched entry for the front of the queue. -/
def State.takeEntry (s : State) (t : Nat) (i : Install) (b : List Byte) : State :=
  match s.tryInstall t (i.first + i.done) b i.reload with
  | (.kept, s) => s.advance t i
  | (.installed, s) => s.advance t { i with took := i.took ++ [i.first + i.done] }
  | (.waits, s) =>
    let s := s.updTable t fun x => { x with queue := { i with waiting := some b } :: x.queue.drop 1 }
    (s.raise EV.FWD_VER_FULL).noteVersions

/-! ### Notifies and fetches -/

/-- The block of a table is powered (R105, R517). -/
def State.tableMode (s : State) : Bool := s.fwdMode

/-- A write of MBX_DT_NOTIFY_t (R123, R125, R480, R481, R517). -/
def State.notify (s : State) (t : Nat) (w : Word) : State :=
  if !tableIds.contains t then s.reservedEnc (4096 * t)
  else
    let first := MBX_DT_NOTIFY.FIRST.get w
    let n := MBX_DT_NOTIFY.COUNT.get w
    if n = 0 then s.dtCount MBX_DT_STAT.ZERO_CNT t
    else match (s.table t).addr, s.follow || !s.tableMode || decide (s.rd MBX_DT_BIND.ENTRY_COUNT t < first + n) with
      | some a, false =>
        if 64 ≤ ((s.table t).queue.filter (fun i => i.mbx.isNone && !i.reload)).length then s.dtCount MBX_DT_STAT.OVERFLOW_CNT t
        else
          let o := s.nextOrd
          let s := s.updTable t fun x => { x with queue := x.queue ++ [{ first := first, count := n, ord := o }] }
          ({ s with nextOrd := o + 1 }.addWrap MBX_DT_SEQ.COUNT t 1).issueFetches a first n
      | _, _ => s.dtCount MBX_DT_STAT.RANGE_CNT t

/-- TABLE_NOTIFY. -/
def execTableNotify (t : BitVec 8) (w : Word) (s : State) : Res :=
  if s.gr.linkUp then fin (s.notify t.toNat w) else fin s

/-- The read of entry `k` of table `t` failed twice (R126). -/
def State.fetchFailed (s : State) (t k : Nat) : State :=
  let was := s.bit MBX_DT_STAT.FETCH_FAIL t
  let s := (s.addSat MBX_RETRY_STAT.LASTING_CNT 0 1).wr MBX_DT_STAT.FETCH_FAIL t 1
  (if was then s else s.msix 17).lastingFault 7 k true

/-- ENTRY_FETCH_DONE (R123, R124, R126): the fetch of the next entry of the front of table `t`'s work ends. -/
def execEntryFetchDone (t : BitVec 8) (r : Fetch) (bytes : List Byte) (s : State) : Res :=
  let t := t.toNat
  match (s.table t).queue with
  | [] => fin s
  | i :: _ =>
    if i.waiting.isSome then fin s
    else match r with
      | .lasting => fin ((s.fetchFailed t (i.first + i.done)).advance t { i with failed := some (i.failed.getD (i.first + i.done)) })
      | .transient =>
        if bytes.length ≠ 64 then .fault .malformedOperand
        else fin (((s.addSat MBX_RETRY_STAT.TRANSIENT_CNT 0 1).transientFault 7).takeEntry t { i with anyRetry := true } bytes)
      | .good => if bytes.length ≠ 64 then .fault .malformedOperand else fin (s.takeEntry t i bytes)

/-- INSTALL_RESUME (R216): a waiting install of table `t` finds a place in the store. -/
def execInstallResume (t : BitVec 8) (s : State) : Res :=
  let t := t.toNat
  let s := s.freeVersions
  match (s.table t).queue with
  | i :: _ =>
    match i.waiting with
    | some b =>
      match s.tryInstall t (i.first + i.done) b i.reload with
      | (.waits, _) => fin s
      | (.kept, s) => fin (s.advance t i).noteVersions
      | (.installed, s) => fin (s.advance t { i with took := i.took ++ [i.first + i.done] }).noteVersions
    | none => fin s
  | [] => fin s

/-! ### Commands -/

/-- A bind takes effect at one tick (R122, R516): content stays only where a frame holds it. -/
def State.bindTable (s : State) (t : Nat) (addr : Option Nat) (count : Nat) : State :=
  let kept := (s.table t).entries.filterMap (fun e =>
    if s.versionHeld t e.1 e.2.ver then some (e.1, { e.2 with valid := false, pinned := false, cached := false }) else none)
  let s := s.updTable t fun _ => { addr := addr, entries := kept, queue := [] }
  let s := ((s.wr MBX_DT_BIND.ENTRY_COUNT t count).wr MBX_DT_SEQ.COUNT t 0).wr MBX_DT_DONE.COUNT t 0
  let s := if t = 0x30 then s.notePinned else s
  let s := if t = 0x50 then (List.range 32).foldl State.noteBank s else s
  s.noteVersions

/-- A sync of the table runs, or its calendar is in use (R277, R516). -/
def State.tableBusy (s : State) (t : Nat) : Bool :=
  (s.table t).queue.any (fun i => i.mbx.isSome) || (t = 0x50 && (List.range 32).any (fun h => s.comB ALM_CAL_CFG.ENABLE h))

/-- CMD_TABLE_BIND (R105, R122, R277, R480, R494, R516). -/
def execCmdTableBind (m : Fin 16) (x : Exec) (s : State) : Res :=
  fin (s.cmd m 0x10 x
    (fun s =>
      let t := s.pay m 0 1
      s.headChecks m (· = 16) ++
      [chk ST_BAD_ARGUMENT (s.pay m 1 3 ≠ 0),
       chk ST_BAD_ARGUMENT (!tableIds.contains t || decide (tableMax t < s.pay m 4 4) || s.pay m 8 8 % 64 ≠ 0),
       chk ST_WRONG_MODE (!s.tableMode), chk followDetail s.follow, chk ST_BUSY (s.tableBusy t)])
    (fun s =>
      let n := s.pay m 4 4
      let s := s.bindTable (s.pay m 0 1) (if n = 0 then none else some (s.pay m 8 8)) n
      (s.mirrorCmd 0x10 (s.payBytes m 0 16)).complete m ST_OK))

/-- The range of a sync or a read: its argument check (R514). -/
def State.badRange (s : State) (m : Nat) (bound : Bool) : Bool :=
  let t := s.pay m 0 1
  !tableIds.contains t || !bound || decide (s.rd MBX_DT_BIND.ENTRY_COUNT t < s.pay m 4 4 + s.pay m 8 4)

/-- CMD_TABLE_SYNC (R105, R123, R126, R514). -/
def execCmdTableSync (m : Fin 16) (x : Exec) (s : State) : Res :=
  fin (s.cmd m 0x11 x
    (fun s => s.headChecks m (· = 12) ++
      [chk ST_BAD_ARGUMENT (s.pay m 1 3 ≠ 0), chk ST_ZERO_INVALID (s.pay m 8 4 = 0),
       chk ST_BAD_ARGUMENT (s.badRange m (s.follow || (s.table (s.pay m 0 1)).addr.isSome)),
       chk ST_WRONG_MODE (!s.tableMode), chk followDetail s.follow])
    (fun s =>
      let t := s.pay m 0 1
      let first := s.pay m 4 4
      let n := s.pay m 8 4
      let o := s.nextOrd
      let s := (s.running m .sync true).updTable t fun y =>
        { y with queue := y.queue ++ [{ first := first, count := n, ord := o, mbx := some m }] }
      { s with nextOrd := o + 1 }.issueFetches ((s.table t).addr.getD 0) first n))

/-- CMD_TABLE_READ (R105, R113, R514): the entries are written with relaxed ordering. HOST_ADDR is taken as it is: R105 gives
no status for one that is no multiple of 64 (DESIGN CHOICE, log entry 84). -/
def execCmdTableRead (m : Fin 16) (x : Exec) (s : State) : Res :=
  fin (s.cmd m 0x12 x
    (fun s => s.headChecks m (· = 20) ++
      [chk ST_BAD_ARGUMENT (s.pay m 1 3 ≠ 0), chk ST_ZERO_INVALID (s.pay m 8 4 = 0),
       chk ST_BAD_ARGUMENT (s.badRange m (s.bit MBX_DT_BIND.ENTRY_COUNT (s.pay m 0 1))),
       chk ST_WRONG_MODE (!s.tableMode)])
    (fun s =>
      let t := s.pay m 0 1
      let first := s.pay m 4 4
      let data := (List.range (s.pay m 8 4)).flatMap (fun k => s.entBytes t (first + k))
      (s.emit (.hostWrite (s.pay m 12 8) data true)).complete m ST_OK))

end Sys2Proof.Machine
end

