-- ==== Sys2Proof/Machine/Modes.lean ====
section
/-! DEFINITION. Sys2Proof/Machine/Modes.lean: mode transitions, clocks, temperature, lane power and boot (chapter 3, R52,
R53, R389, R109). -/
namespace Sys2Proof.Machine

/-! ### Leaving FORWARD and CALIBRATE (R77, R78, R80) -/

/-- One more MODE_FLUSH of queue `n`. -/
def State.countFlush (s : State) (n : Nat) : State := s.count (queueSlot (n / 16) (n % 16) 8)

/-- Queues to which a frame that has been looked up is on its way. -/
def Frame.toQueues (f : Frame) : List Nat := match f.cap with
  | none => []
  | some c =>
    if c.action = 2 then c.targets.map (fun e => 16 * e + 2 * f.cls)
    else [16 * c.egress + 2 * f.cls + (if c.sched = 0 then 0 else 1)]

/-- A frame in progress ends with the mode: it counts in its queue, and a stamp report that it owes is written. -/
def State.flushTx (s : State) (t : Tx) : State :=
  (((s.each t.counts fun s n => s.count n).countFlush t.queue).releasing 2).letGo (qParty t.queue) t.frame |>.releasing 0

/-- Every frame in packet SRAM and in the Silo is discarded; each counts in its queue (R78, R80). Of a Sheaf's transmit
stream the numbers of grains run on, and the place of the last frame start sent (R24, R177); the record that is cut is
forgotten (DESIGN CHOICE, log entry 87). -/
def State.flush (s : State) : State :=
  let s := s.each (s.fwd.queues.map (·.1)) fun s n => s.purge n 8 (fun _ => true)
  let s := (List.range 256).foldl (fun s p =>
    let o := s.port p
    let s := s.updPort p fun o => { o with tx := none, preempted := none, asm := none, preDue := false, loop := [], loopP := [] }
    let s := match o.asm with
      | some a => s.dropAsm p a
      | none => s
    let s := match o.preempted with
      | some t => (s.txReport p t true).flushTx t
      | none => s
    match o.tx with
    | some t => ((s.emit (.cut p)).txReport p t true).flushTx t
    | none => s) s
  let s := (List.range 32).foldl (fun s h =>
    let x := s.sheaf h
    let s := match x.tx with
      | some t => s.flushTx t
      | none => s
    let s := s.each (x.partBufs ++ x.held.map (fun e => e.2.buf)) fun s b => s.freeBuf (shfParty h) b
    s.updSheaf h fun y =>
      let sent := y.txFrames.filter (posBefore y.nextSeq)
      { nextSeq := y.nextSeq, legSeq := (y.nextSeq, y.nextSeq), txLastStart := sent.head?, txFrames := sent }) s
  let inside := (s.fwd.pipeQ.flatMap (·.2)) ++ (s.fwd.missQ.flatMap (·.2)) ++ (s.fwd.orderQ.flatMap (·.2)) ++
    (s.fwd.ingress.flatMap (·.2))
  let s := s.each inside fun s f => (s.each f.toQueues State.countFlush).dropRx f
  (s.updFwd fun _ => {}).wr FWD_STAT.PLANE_DRAIN 0 0

/-- The powered lanes of a list go into hold. -/
def State.holdLanes (s : State) (l : List Nat) : State :=
  s.updPwr fun w => { w with held := w.held ++ l.filter (fun x => w.lanes.contains x && !w.held.contains x) }

/-- A port outside FORWARD: in hold in TIMEKEEP when HOLD is 1, otherwise without power (R77, R133). -/
def State.portQuiet (s : State) (p : Nat) : State :=
  if !s.comB PRT_CFG.ENABLE p then s
  else
    let hold := s.mode = mTIMEKEEP && s.comB PRT_CFG.HOLD p
    let lanes := s.portLanes p
    let s := s.updPort p fun _ => {}
    let s := ((s.setLink p (if hold then lsHELD else lsDISABLED)).wr PRT_STAT.RETRY p 0).wr PRT_STAT.SIG_ALL p 0
    let s := ((s.wr PRT_STAT.FEC_LOCK p 0).wr PRT_STAT.LOCAL_FAULT p 0).wr PRT_STAT.REMOTE_FAULT p 0
    let s := ((s.notePaused p).wr PRT_STAT.TX_XOFF p 0).wr PRT_STAT.PREEMPT_ACTIVE p 0
    if hold then s.holdLanes lanes else s.dropLanes lanes

/-- A carrier outside FORWARD, likewise (R77, R166); an operation on it ends. -/
def State.carQuiet (s : State) (c : Nat) : State :=
  if !s.comB SHF_CAR_CFG.ENABLE c then s
  else
    let hold := s.mode = mTIMEKEEP && s.comB SHF_CAR_CFG.HOLD c
    let lanes := s.carLanes c
    let s := (s.endOp c 2 0).setCar c (if hold then cHELD else cDISABLED)
    let s := s.updCar c fun _ => {}
    let s := (((s.wr SHF_CAR_STAT.LANES_LOCKED c 0).wr SHF_CAR_STAT.TG_OK c 0).wr SHF_CAR_STAT.ECHO_OK c 0).wr SHF_CAR_STAT.RETRY c 0
    if hold then s.holdLanes lanes else s.dropLanes lanes

/-- Ports, carriers and Sheaves after CUR_MODE has left FORWARD or CALIBRATE; line references lose their signal. -/
def State.quietLines (s : State) : State :=
  let s := (List.range 256).foldl State.portQuiet s
  let s := (List.range 128).foldl State.carQuiet s
  let s := (List.range 32).foldl (fun s h => s.wr SHF_SHEAF_STAT.RX_STATE h rxIDLE) s
  s.dropLineRefs

/-! ### The modes entered (R71, R73, R76, R515) -/

/-- CUR_MODE shows mode `m`; outside ISOLATE the TAP holds no test instruction (R68). The health word follows (R467). -/
def State.setMode (s : State) (m : Nat) : State :=
  let s := if m = mISOLATE then s else s.tapLeave
  let s := (s.wr PWR_MODE_STAT.LAST_FROM 0 s.mode).wr PWR_MODE_STAT.LAST_TO 0 m
  let s := s.wr PWR_MODE_STAT.ISO_CAUSE 0 (if m = mISOLATE then s.pwr.isoCause else 0)
  let s := s.wr PWR_MODE_CTL.CUR_MODE 0 m
  if s.twinOn then s.twinHealth else s

/-- Every lane loses its power. -/
def State.allLanesOff (s : State) : State := s.dropLanes s.pwr.lanes

/-- The core clock runs while rail 1 is in regulation and the MDLL is locked (R83). -/
def State.coreClock (s : State) : State :=
  s.wrB PWR_CLK_STAT.CORE_RUN 0 (s.railOk 1 && s.bit PWR_CLK_STAT.MDLL_LOCK)

def State.enterDormant (s : State) : State :=
  let s := (s.setMode mDORMANT).wr PWR_MODE_STAT.HBM_RETAINED 0 0
  let s := ((s.quietLines).mirrorStop).allLanesOff
  s.quiesce

/-- Rails 4, 5 and 6 are up: calibration values are loaded, the link trains, the boot starts (R89, R91, R434). -/
def State.enterWarmup (s : State) : State :=
  let s := (s.setMode mWARMUP).loadCal
  let s := s.updGr fun g => { g with linkUp := !s.pwr.perstLow }
  s.startBoot false

/-- TIMEKEEP, from WARMUP, FORWARD or ISOLATE (R77, R78, R80, R464). -/
def State.enterTimekeep (s : State) : State :=
  let was := s.mode
  let s := if s.fwdMode then s.flush else s
  let s := (s.setMode mTIMEKEEP).wr PWR_MODE_STAT.HBM_RETAINED 0 0
  let s := if was = mFORWARD || was = mCALIBRATE then s.quietLines else s
  let s := if was = mWARMUP || was = mISOLATE then s.unquiet else s
  let s := if was = mISOLATE then s.holdAll else s
  if s.twinOn then s.enterPairing.mirrorStart else s

/-- FORWARD, from TIMEKEEP or from ISOLATE with HBM retained (R79, R80, R517). -/
def State.enterForward (s : State) : State :=
  let was := s.mode
  let kept := s.bit PWR_MODE_STAT.HBM_RETAINED
  let s := s.setMode mFORWARD
  let s := if kept then (s.setReg R.MBX_DT_SEQ 0x30 (s.reg R.MBX_DT_DONE 0x30)).notePinned
    else { s with tally := [], tacc := [] }
  let s := s.wr PWR_MODE_STAT.HBM_RETAINED 0 0
  let s := s.coreClock.updGrn fun g => { g with bufs := [] }
  let s := (s.noteDoms.updEvt fun e => { e with frozen := false, reloadAt := none }).wr EVT_D2D_STAT.FROZEN 0 0
  let s := s.startRes
  let s := (s.wrB ALM_STAT.SLEWING 0 (s.resAt 0 s.now ≠ 0)).noteOfs
  let s := if was = mISOLATE then s.unquiet else s
  let s := (List.range 256).foldl (fun s p => if s.comB PRT_CFG.ENABLE p then (s.portStart p).noteLine s p else s) s
  let s := (List.range 128).foldl (fun s c => if s.comB SHF_CAR_CFG.ENABLE c then s.carStart c else s) s
  if s.twinOn then s.enterPairing.mirrorStart else s

/-- CALIBRATE: the run starts (R429). -/
def State.enterCalibrate (s : State) : State :=
  ((s.setMode mCALIBRATE).wr PWR_MODE_STAT.CAL_PENDING 0 0).startRun

/-- ISOLATE: outputs quiescent; frames counted and the Tally folded when HBM is retained (R76, R80, R515). -/
def State.enterIsolate (s : State) : State :=
  let was := s.mode
  let fwd := s.fwdMode
  let s := if fwd then s.flush else s
  let s := if was = mISOLATE then s else s.wrB PWR_MODE_STAT.HBM_RETAINED 0 fwd
  let s := (s.setMode mISOLATE).quiesce
  let s := if fwd || was = mTIMEKEEP then s.quietLines else s
  let s := if s.lead then s.handOver else s
  let s := s.mirrorStop.allLanesOff
  if fwd then s.fold else s

/-- A transition ends in mode `m`: rails of the old mode are noted for OLD_RAILS_OFF, and the next transition is planned;
a calibration run that waits starts on an entry to FORWARD (R73, R75, R76, R515). -/
def State.endTrans (s : State) (m : Nat) : State :=
  let s := (s.wr PWR_MODE_CTL.IN_TRANSITION 0 0).updPwr fun p => { p with trans := none }
  let need := modeRails m (s.bit PWR_MODE_CTL.OCXO_HOLD_WARM) (s.bit PWR_MODE_STAT.HBM_RETAINED)
  let old := clearBit (railsMinus (s.rd PWR_RAIL_STAT.RAIL_REQ) need) 0
  let s := s.updPwr fun p => { p with oldRails := old }
  let req := s.rd PWR_MODE_CTL.REQ_MODE
  if m = mFORWARD && s.bit PWR_MODE_STAT.CAL_PENDING && (req = mFORWARD || req = mCALIBRATE) then
    (s.wr PWR_MODE_STAT.CAL_PENDING 0 0).startCal
  else s.plan

/-- The old rails go off, but for one that the present mode has come to need; rails that a transition in progress needs
ramp again (R515). -/
def State.oldOff (s : State) : State :=
  let hw := s.bit PWR_MODE_CTL.OCXO_HOLD_WARM
  let kept := s.bit PWR_MODE_STAT.HBM_RETAINED
  let off := railsMinus s.pwr.oldRails (modeRails s.mode hw kept)
  let s := (List.range 8).foldl (fun s r => if testBit off r then s.railOff r else s) s
  let s := s.updPwr fun p => { p with oldRails := 0 }
  match s.pwr.trans with
  | some m =>
    if m.val = mISOLATE then s
    else (List.range 8).foldl (fun s r => if testBit (modeRails m hw kept) r then s.rampRail r else s) s
  | none => s

/-- The rails that ramp are in regulation, but for rail 0, which a lane's power-up brings up (R85). -/
def State.rampsDone (s : State) : State :=
  (List.range 8).foldl (fun s r => if r ≠ 0 && s.pwr.ramp.any (fun e => e.1 = r) then s.railUp r else s) s

/-! ### Meanings -/

/-- MODE_REQUEST (R66, R73-R76): a write of REQ_MODE by PCIe or by SMBus, the rest of PWR_MODE_CTL as it stands. -/
def execModeRequest (mode : BitVec 3) (smbus : Bool) (s : State) : Res :=
  if s.pwr.aon = .up && (smbus || s.gr.linkUp) then
    fin (s.hostMode mode.toNat (PWR_MODE_CTL.REQ_MODE.put (s.reg R.PWR_MODE_CTL 0) mode.toNat) smbus)
  else fin s

/-- TRANSITION_COMPLETE (R73, R515): the transition in progress ends; that from WARMUP to TIMEKEEP has its own row. -/
def execTransitionComplete (s : State) : Res :=
  match s.pwr.trans with
  | none => fin s
  | some m =>
    if s.mode = mWARMUP && m.val = mTIMEKEEP then fin s
    else if m.val = mISOLATE then fin (s.enterIsolate.endTrans mISOLATE)
    else
      let s := s.oldOff.rampsDone
      let s := match m.val with
        | 0 => s.enterDormant
        | 1 => s.enterWarmup
        | 2 => s.enterTimekeep
        | 3 => s.enterForward
        | _ => s.enterCalibrate
      fin (s.endTrans m.val)

/-- WARMUP_TO_TIMEKEEP (R73). -/
def execWarmupToTimekeep (s : State) : Res :=
  if s.mode = mWARMUP && s.pwr.trans = some 2 then fin (s.enterTimekeep.endTrans mTIMEKEEP) else fin s

/-- OLD_RAILS_OFF (R515). -/
def execOldRailsOff (s : State) : Res := fin s.oldOff

/-! ### Clocks (R83, R84, R306, R361, R379, R389) -/

/-- The first OCXO_WARM since rail 4 powered up lets outputs and reference selection start. -/
def State.firstWarm (s : State) : State :=
  if s.tickRun && s.ocxoWarm && !s.tb.warmed then
    ((s.updTb fun b => { b with warmed := true }).unquiet).select
  else s

/-- The heater has run for 60 s since its start, or since the oven control error last passed ±0.5 °C (R84). -/
def State.ovenHeld (s : State) : Bool := s.pwr.ovenFrom.all (fun t => decide (t + 60 * sT ≤ s.now))

/-- Notes the oven control error that a command gives (R94). -/
def State.noteOven (s : State) (err : BitVec 16) : State :=
  (s.wr PWR_OCXO_STAT.OVEN_ERR 0 err.toNat).updPwr fun p => { p with ovenAt := some s.now }

/-- OCXO_WARM_SET (R84): `err` is the oven control error in 1/1,024 °C, within ±0.05 °C and so for 60 s without a break. -/
def execOcxoWarmSet (err : BitVec 16) (s : State) : Res :=
  if !s.bit PWR_CLK_STAT.OCXO_HEATING || s.ocxoWarm || 51 < err.toInt.natAbs || !s.ovenHeld then fin s
  else
    let s := (s.railUp 5).noteOven err
    let s := (s.wr PWR_CLK_STAT.OCXO_WARM 0 1).firstWarm
    fin (if s.tickRun then s.select.plan else s.plan)

/-- OCXO_WARM_CLEAR (R84, R379): the oven control error passes ±0.5 °C; a stop of the heater clears the flag with its
rail. -/
def execOcxoWarmClear (err : BitVec 16) (s : State) : Res :=
  if !s.ocxoWarm || err.toInt.natAbs ≤ 512 then fin s
  else
    let s := (s.noteOven err).wr PWR_CLK_STAT.OCXO_WARM 0 0
    let s := s.updPwr fun p => { p with ovenFrom := some s.now }
    fin (if s.tickRun then s.select else s)

/-- MDLL_LOCK (R83, R306, R389): the first lock after rail 4 starts every domain at 0; a later one, after the host has left
ISOLATE, lets D0 realign to its time reference. -/
def execMdllLock (s : State) : Res :=
  if !s.railOk 4 then fin s
  else if s.pwr.mdllAt.isNone then
    let s := s.updPwr fun p => { p with mdllAt := some s.now, mdllHold := false }
    let s := ((s.wr PWR_CLK_STAT.MDLL_LOCK 0 1).wr PWR_CLK_STAT.TCLK_RUN 0 1).wr PWR_CLK_STAT.TICK_RUN 0 1
    let s := s.coreClock
    let s := (List.range 8).foldl (fun s n => s.updDom n fun _ => { at_ := s.now, resAt := s.now, cmdAt := s.now }) s
    let s := s.updRef fun r => { r with wAt := s.now, qAt := s.now }
    fin s.firstWarm
  else if s.pwr.mdllHold && s.mode ≠ mISOLATE && s.pwr.trans ≠ some 5 then
    let s := ((s.updPwr fun p => { p with mdllHold := false }).wr PWR_CLK_STAT.MDLL_LOCK 0 1).coreClock
    fin (if s.rstate = rsLOCKED then
        s.updRef fun r => { r with steps := r.steps ++ [(s.now + 64, s.stepOf s.selected)] }
      else s)
  else fin s

/-- LOCK_LOST (R389): the MDLL holds its control value; a lasting fault of class 9, which enters ISOLATE. -/
def execLockLost (s : State) : Res :=
  if s.tickRun && !s.pwr.mdllHold then
    let s := (s.updPwr fun p => { p with mdllHold := true }).wr PWR_CLK_STAT.MDLL_LOCK 0 0
    fin ((s.raise EV.SYN_LOCK_LOST).lastingFault 9 0 true)
  else fin s

/-! ### Temperature (R52, R53, R76, R428) -/

/-- TEMP_ESTIMATE: the estimate of the case and the hottest die sensor, in 1/16 °C. -/
def execTempEstimate (caseT dieMax : BitVec 16) (s : State) : Res :=
  if s.pwr.aon ≠ .up then fin s
  else
    let s := (s.wr PWR_TEMP.CASE 0 caseT.toNat).wr PWR_TEMP.DIE_MAX 0 dieMax.toNat
    let x := caseT.toInt
    let warn := s.rdS PWR_TEMP_THR.WARN
    let s := if s.pwr.warnArmed && warn ≤ x then (s.updPwr fun p => { p with warnArmed := false }).raise EV.PWR_TEMP_WARN
      else if x ≤ warn - 32 then s.updPwr fun p => { p with warnArmed := true } else s
    let s := if s.pwr.critArmed && 1520 ≤ x then
        ((s.updPwr fun p => { p with critArmed := false }).raise EV.PWR_TEMP_CRIT).isolate 2
      else if x ≤ 1488 then s.updPwr fun p => { p with critArmed := true } else s
    fin s.trigger

/-! ### Lane power (R77, R83, R85, R427) -/

/-- A lane is to be powered: its port, carrier or mirror lane waits for it. -/
def State.wantsLane (s : State) (l : Nat) : Bool :=
  if 256 ≤ l then (s.mlane (l - 256)).st = 1
  else
    (List.range 256).any (fun p => s.comB PRT_CFG.ENABLE p && (s.linkState p = lsPOWERING || s.linkState p = lsHELD) &&
      (s.portLanes p).contains l) ||
    (List.range 128).any (fun c => s.comB SHF_CAR_CFG.ENABLE c && (s.cst c = cPOWERING || s.cst c = cHELD) &&
      (s.carLanes c).contains l)

/-- Lane `l` belongs to a port or carrier in hold (R77, R133, R166). -/
def State.inHold (s : State) (l : Nat) : Bool :=
  (List.range 256).any (fun p => s.linkState p = lsHELD && (s.portLanes p).contains l) ||
  (List.range 128).any (fun c => s.cst c = cHELD && (s.carLanes c).contains l)

/-- LANE_POWERED (R85): with its reference and rail 0. The object goes on when its last lane is powered. -/
def execLanePowered (lane : Fin 260) (s : State) : Res :=
  let l := lane.val
  if !s.tkMode || s.pwr.lanes.contains l || !s.wantsLane l then fin s
  else
    let s := (s.rampRail 0).railUp 0
    let s := if l < 256 then s.wr PWR_CLK_STAT.SDREF_RUN 0 (setBit (s.rd PWR_CLK_STAT.SDREF_RUN) (l / 16)) else s
    let s := s.updPwr fun p => { p with lanes := p.lanes ++ [l] }
    let s := if s.inHold l then s.updPwr fun p => { p with held := p.held ++ [l] } else s
    let s := [2 * l, 2 * l + 1].foldl (fun s k => s.updPath k fun p => { p with trim := p.target }) s
    if 256 ≤ l then fin (s.updMlane (l - 256) fun m => { m with st := 2 })
    else
      let s := (List.range 256).foldl (fun s p =>
        if s.comB PRT_CFG.ENABLE p && s.linkState p = lsPOWERING && (s.portLanes p).all (fun x => s.pwr.lanes.contains x) then
          (s.toWait p).noteLine s p
        else s) s
      fin ((List.range 128).foldl (fun s c =>
        if s.comB SHF_CAR_CFG.ENABLE c && s.cst c = cPOWERING && (s.carLanes c).all (fun x => s.pwr.lanes.contains x) then
          (s.toCarWait c).updCar c fun k => { k with nextTg := s.now }
        else s) s)

/-! ### Boot (R91, R92, R107, R109, R519) -/

/-- What the journal leaves of the commands in progress at a watchdog reset (R109). -/
def State.readJournal (s : State) : State :=
  (List.range 16).foldl (fun s m =>
    let b := s.mbxAt m
    if s.mst m ≠ mRUNNING then s
    else match b.late, b.job with
      | some (st, d, r), _ => s.writeDone m st d r
      | none, some (.fence ..) => s
      | none, _ =>
        if b.final then s
        else if b.retry then s.cmdLasting m
        else s.updMbx m fun b => { b with job := none, retry := true }) s

/-- The recovery loader's reply to commands in progress whose outcome no hardware brings (R92). -/
def State.loaderReply (s : State) : State :=
  (List.range 16).foldl (fun s m =>
    let b := s.mbxAt m
    if s.mst m ≠ mRUNNING then s
    else match b.late with
      | some (st, d, r) => s.writeDone m st d r
      | none => if b.final then s else s.writeDone m ST_LASTING_FAULT 0 []) s

/-- The boot ends: the link that a switch reset took down trains again, and every lasting fault of the boot is
recorded, repaired when a slot has started (R87, R519). -/
def State.bootOver (s : State) (started : Bool) : State :=
  let bad := s.boot.lasting
  let journal := s.boot.journal
  let relink := s.boot.relink
  let s := s.wr PWR_BOOT_STAT.STATE 0 (if started then 3 else 4)
  let s := s.updBoot fun b => { b with running := false, second := false, lasting := 0, journal := false, relink := false }
  let s := if relink then s.updGr fun g => { g with linkUp := !s.pwr.perstLow } else s
  let s := [0, 1].foldl (fun s k => if testBit bad k then s.lastingFault 10 k (!started) else s) s
  if !journal then s else if started then s.readJournal else s.loaderReply

/-- A slot has failed: the other one is tried, or the recovery loader runs. -/
def State.slotFailed (s : State) (code : Nat) : State :=
  let s := (s.wr PWR_BOOT_STAT.FAIL_CODE 0 code).wr PWR_BOOT_STAT.FALLBACK 0 1
  if s.boot.slotsTried = 1 then s.bootOver false
  else
    let s := s.updBoot fun b => { b with slotsTried := 1, second := false }
    ((s.wr PWR_BOOT_STAT.SLOT 0 (1 - s.rd PWR_BOOT_STAT.SLOT)).wr PWR_BOOT_STAT.STATE 0 1).startRead

/-- A check of the slot failed: it is repeated once, then the slot fails with `code` (R91, R519). -/
def State.checkFailed (s : State) (code : Nat) : State :=
  if !s.boot.second then ((s.updBoot fun b => { b with second := true }).wr PWR_BOOT_STAT.STATE 0 1).startRead
  else (s.updBoot fun b => { b with lasting := setBit b.lasting (s.rd PWR_BOOT_STAT.SLOT) }).slotFailed code

/-- BOOT_CHECK_DONE. -/
def execBootCheckDone (r : ImageCheck) (s : State) : Res :=
  if !s.boot.running then fin s
  else
    match r with
    | .badHeader => fin (s.checkFailed 1)
    | .badSignature => fin (s.checkFailed 2)
    | .readError => fin (s.checkFailed 4)
    | .good rel =>
      let s := if s.boot.second then s.transientFault 10 else s
      if rel.toNat < s.boot.minRelease then fin (s.slotFailed 3)
      else fin ((s.wr PWR_BOOT_STAT.RELEASE 0 rel.toNat).bootOver true).plan

end Sys2Proof.Machine
end

