-- ==== Sys2Proof/Machine/RegCmd.lean ====
section
/-! DEFINITION. Sys2Proof/Machine/RegCmd.lean: the host's reads and writes of the BARs (R10-R12, R117, R127, R492-R496, R522),
and the commands of the configuration flash (R105-R107). -/
namespace Sys2Proof.Machine

/-! ### Reads (R10, R492, R493, R522) -/

/-- The _LO registers of the index. -/
def loRegs : List Reg :=
  [R.MBX_TICK_LO, R.MBX_COMMIT_AT_LO, R.MBX_COMMIT_APPLIED_LO, R.PRT_MAC_ADDR_LO, R.SHF_PEER_NODE_LO, R.SHF_TT_OFS_LO,
   R.SHF_NODE_ID_LO, R.ALM_CYCLE_LO, R.ALM_SLEW_LO, R.TBS_DOM_INC_LO, R.TBS_SNAP_TICK_LO, R.TBS_TRIG_PERIOD_LO, R.REF_PE_LO,
   R.TDC_MARK_PERIOD_LO]

/-- Those of pairs that only the module writes, and which have a latch; that of REF_PE has its own row (R382). -/
def latchedLo : List Reg :=
  [R.MBX_TICK_LO, R.MBX_COMMIT_APPLIED_LO, R.SHF_TT_OFS_LO, R.ALM_CYCLE_LO, R.ALM_SLEW_LO, R.TBS_DOM_INC_LO, R.TBS_SNAP_TICK_LO]
def latchedHi : List Reg :=
  [R.MBX_TICK_HI, R.MBX_COMMIT_APPLIED_HI, R.SHF_TT_OFS_HI, R.ALM_CYCLE_HI, R.ALM_SLEW_HI, R.TBS_DOM_INC_HI, R.TBS_SNAP_TICK_HI]

/-- The block of an offset is powered (R491, R493). -/
def State.present (s : State) (a : Nat) : Bool := s.railOk (blockRail (blockOf a))

/-- The present value of instance `i` of a register: the stored word, or what the state gives where a field follows it or
where the read itself brings the word (R382, R419, R422, R439, R455). -/
def State.liveReg (s : State) (row : RegRow) (i : Nat) : Word :=
  let r := row.reg
  let w := s.reg r i
  if r = R.MBX_TICK_LO then BitVec.ofNat 32 s.tick
  else if r = R.MBX_TICK_HI then BitVec.ofNat 32 (s.tick / 2 ^ 32)
  else if r = R.MBX_GRANGE_STAT then MBX_GRANGE_STAT.RECOVERY.put w (if s.recovery then 1 else 0)
  else if r = R.ALM_CYCLE_LO then BitVec.ofNat 32 s.cycleNow
  else if r = R.ALM_CYCLE_HI then BitVec.ofNat 32 (s.cycleNow / 2 ^ 32)
  else if r = R.ALM_SLEW_LO then BitVec.ofNat 32 (tc 64 (s.resAt 0 s.now / 2 ^ 24))
  else if r = R.ALM_SLEW_HI then BitVec.ofNat 32 (tc 64 (s.resAt 0 s.now / 2 ^ 24) / 2 ^ 32)
  else if r = R.ALM_STAT then ALM_STAT.OFS_OVER.put w (if s.ofsOver then 1 else 0)
  else if r = R.FWD_EGR_STAT then FWD_EGR_STAT.HOLD_LEFT.put w (min 1023 (s.holdLeft i))
  else if r = R.GRN_SILO_STAT then GRN_SILO_STAT.FREE_PAGES.put w
    (GRN_SILO_STAT.FREE_PAGES.get w + (s.grn.backlog.filter (fun e => decide (e.2 / 64 ≤ s.now))).length)
  else if r = R.TBS_DOM_STAT then TBS_DOM_STAT.FROZEN.put w (if s.evt.frozen then 1 else 0)
  else if r = R.REF_FREQ_WORD then if s.swMode then w else BitVec.ofInt 32 s.wNow
  else if r = R.SYN_STAT_STEER then BitVec.ofInt 32 s.yNow
  else if r = R.SYN_STAT then SYN_STAT.CLAMPED.put w (if s.clamped then 1 else 0)
  else if r = R.CAL_PATH_BASE then
    if s.rd CAL_PATH_SEL.INDEX ≤ 570 then BitVec.ofInt 32 (s.path (s.rd CAL_PATH_SEL.INDEX)).baseSh else 0
  else if r = R.CAL_PATH_TRIM then
    if s.rd CAL_PATH_SEL.INDEX ≤ 570 then (s.path (s.rd CAL_PATH_SEL.INDEX)).word else 0
  else if r = R.TDC_BIN_DATA then BitVec.ofNat 32 (binPos s.tdc.binsSh (s.rd TDC_BIN_SEL.INDEX))
  else if r = R.TDC_RES && decide (i = 0) then (s.showRes (s.tdc.fifo.head?.getD [])).reg r 0
  else if r = R.EVT_LOG && decide (i = 0) then (s.showLatch s.evt.log.head?).reg r 0
  else if r = R.REF_PE_LO then s.peRead.reg r 0
  else if r = R.TWN_HEALTH then if s.twinOn then TWN_HEALTH.OWN.put w s.health else w
  else if r = R.TWN_STAT then s.twinStat w
  else if r = R.EVT_SUM then BitVec.ofNat 32 s.evtSum
  else if r = R.EVT_SPARE_STAT then s.spareStat
  else if blockOf r.base = 0xD then s.aonRead row i
  else w

/-- A word of the MSI-X table: message address and data, and the mask bit of a vector's control word (R127, R496). -/
def State.msixTable (s : State) (k : Nat) : Word :=
  if k % 4 = 3 then (if testBit s.gr.masked (k / 4) then 1 else 0) else SMap.get 0 s.gr.msixTab k

/-- The committed copy of a register (R117): of the selected bin or path where the register is a window on a table (R419,
R439), without the fields that have no committed copy. -/
def State.comView (s : State) (row : RegRow) (i : Nat) : Word :=
  if row.reg = R.TDC_BIN_DATA then BitVec.ofNat 32 (binPos s.tdc.bins (s.rd TDC_BIN_SEL.INDEX))
  else if row.reg = R.CAL_PATH_TRIM || row.reg = R.CAL_PATH_BASE then
    let p := s.path (s.rd CAL_PATH_SEL.INDEX)
    if 570 < s.rd CAL_PATH_SEL.INDEX then 0
    else if row.reg = R.CAL_PATH_TRIM then CAL_PATH_TRIM.TARGET.put 0 p.target else BitVec.ofInt 32 p.base
  else s.comReg row.reg i &&& row.rwcMask

/-- What an aligned 4-byte read of BAR0 (or, from 2^32 on, BAR2) offset `a` returns, leaving aside its effect: mailbox
memory, the MSI-X table and its pending bits, and registers. WO fields read 0, the upper half of a read-only pair reads
its latch, an absent or unassigned offset reads 0, and offset + 0x0200_0000 reads a committed copy. -/
def State.hostRead (s : State) (a : Nat) : Word :=
  if a < 0x10000 then BitVec.ofNat 32 (leNat ((List.range 4).map (fun k => Memory.get s.mem (a + k))))
  else if a < 0x10200 then s.msixTable ((a - 0x10000) / 4)
  else if 0x11000 ≤ a ∧ a < 0x11008 then if a < 0x11004 then BitVec.ofNat 32 s.gr.msixPend else 0
  else if 0x03000000 ≤ a ∧ a < 0x03E00000 then
    match regAt (a - 0x02000000) with
    | some (row, i) =>
      if !s.present (a - 0x02000000) then 0 else s.comView row i
    | none => 0
  else
    match regAt a with
    | some (row, i) =>
      if !s.present a then 0
      else if latchedHi.contains row.reg then SMap.get 0 s.latches a
      else row.flds.foldl (fun w f => if f.acc = .wo then f.put w 0 else w) (s.liveReg row i)
    | none => 0

/-! ### PCIe identity (R489) -/

/-- A base address register: a 64-bit memory BAR, never prefetchable, of `size` bytes. -/
structure Bar where
  num : Nat
  size : Nat
  deriving DecidableEq, Repr
def bars : List Bar := [⟨0, 0x4000000⟩, ⟨2, 0x100000⟩]

def deviceId : BitVec 16 := 0x9640

/-- A word of the endpoint's configuration space, at the offsets of a type 0 header (PRESUMED, log entry 118): Device ID and
Vendor ID, Revision ID under a class code, BAR4 and the expansion ROM BAR, which read 0. The rest is open, and no row of the
table reads or writes it. -/
def State.configWord (s : State) (d : Nat) : Word :=
  if d = 0x00 then deviceId ++ Config.vendorId
  else if d = 0x08 then (Config.configSpace d &&& 0xFFFFFF00) ||| BitVec.ofNat 32 (s.rd PWR_IDENT.STEPPING)
  else if d = 0x20 || d = 0x30 then 0
  else Config.configSpace d

/-- The upper half that an 8-byte read of the pair at `a` returns: in a read-only pair that which its _LO half, read with it,
latches; in any other its present value, or its committed one (R522). -/
def State.highWith (s : State) (a : Nat) : Word :=
  match regAt (a + 4) with
  | some (row, i) => if !s.present a then 0 else if row.reg = R.REF_PE_HI then s.peRead.reg row.reg 0 else s.liveReg row i
  | none => s.hostRead (a + 4)

/-- Offset `a`, or the one whose committed view it is, holds a _LO register (R492). -/
def holdsLo (a : Nat) : Bool :=
  (regAt (if 0x03000000 ≤ a ∧ a < 0x03E00000 then a - 0x02000000 else a)).any (fun r => loRegs.contains r.1.reg)

/-- What a read of `len` bytes of BAR0 returns (R492): of mailbox memory any bytes within one mailbox; of a register one
word, or two of a _LO/_HI pair; 0 for any other access. -/
def State.hostReadBytes (s : State) (a len : Nat) : List Byte :=
  if a < 0x10000 then
    if len ≠ 0 && (a + len - 1) / 4096 ≠ a / 4096 then List.replicate len 0
    else (List.range len).map (fun k => Memory.get s.mem (a + k))
  else if len = 4 && a % 4 = 0 then leBytes 4 (s.hostRead a).toNat
  else if len = 8 && a % 8 = 0 && decide (a < 0x11008) then leBytes 4 (s.hostRead a).toNat ++ leBytes 4 (s.hostRead (a + 4)).toNat
  else if len = 8 && a % 8 = 0 && holdsLo a then leBytes 4 (s.hostRead a).toNat ++ leBytes 4 (s.highWith a).toNat
  else List.replicate len 0

/-- The latch of the _HI register at `a` takes `w` (R10). -/
def State.latch (s : State) (a : Nat) (w : Word) : State := { s with latches := SMap.set 0 s.latches a w }

/-- LO_READ_LATCH (R522): the read of _LO at `ofs` latches the value that _HI will return; that of ALM_CYCLE_LO latches
ALM_STAT.SLOT of the same tick too (R301). -/
def execLoReadLatch (ofs : BitVec 32) (s : State) : Res :=
  let a := ofs.toNat
  match regAt a with
  | some (row, i) =>
    if !s.gr.linkUp || !latchedLo.contains row.reg then fin s
    else if !s.present a then fin (s.emit (.readData a 0))
    else
      let hi := match regAt (a + 4) with
        | some (r, _) => s.liveReg r i
        | none => 0
      let s' := if row.reg = R.ALM_CYCLE_LO then s.wr ALM_STAT.SLOT 0 (s.absSlot s.now % 4096) else s
      fin ((s'.latch (a + 4) hi).emit (.readData a (s.liveReg row i)))
  | none => fin s

/-! ### MSI-X (R127, R496) -/

/-- Vector `v` is unmasked: a pending message is sent. -/
def State.unmask (s : State) (v : Nat) : State :=
  let s := s.updGr fun g => { g with masked := clearBit g.masked v }
  if testBit s.gr.msixPend v then (s.updGr fun g => { g with msixPend := clearBit g.msixPend v }).msix v else s

/-- MSIX_UNMASK. -/
def execMsixUnmask (v : Fin 32) (s : State) : Res := if s.gr.linkUp then fin (s.unmask v.val) else fin s

/-- A write of word `k` of the MSI-X table: word 3 of an entry is its vector control. -/
def State.msixWord (s : State) (k : Nat) (w : Word) : State :=
  if k % 4 = 3 then
    if w.toNat % 2 = 1 then s.updGr fun g => { g with masked := setBit g.masked (k / 4) } else s.unmask (k / 4)
  else s.updGr fun g => { g with msixTab := SMap.set (0 : Word) g.msixTab k w }

/-! ### Writes (R10-R12, R114, R117, R492-R494) -/

/-- A 4-byte write of the register at BAR offset `a` of a powered block. A register with a row of its own acts as that row
does; a retrain by EVT_D2D_CTL comes by its row, which carries its outcome. A shadow copy written in the tick of a snapshot
goes into it (R116). -/
def State.hostWord (s : State) (row : RegRow) (i a : Nat) (data : Word) : State :=
  let r := row.reg
  if blockOf a = 0xD then s.aonWrite row i (a - 0x01D00000) data false
  else if r = R.MBX_DOORBELL then s.doorbell data
  else if r = R.MBX_COMMIT_CTL then if MBX_COMMIT_CTL.GO.get data = 1 then s.commitGo data else s.commitDiscard data
  else if r = R.MBX_COMMIT_GROUPS && decide (4096 ≤ data.toNat) then s.reservedEnc a
  else if r = R.MBX_DT_NOTIFY then s.notify i data
  else if r = R.TBS_SNAP_CTL then s.snapshot data
  else if r = R.TBS_RPT_CONS then s.consWrite i data
  else if r = R.REF_FREQ_WORD then s.writeWord data
  else if r = R.TDC_BIN_DATA then (s.binData (some data)).resnap
  else if r = R.CAL_PATH_TRIM then (s.pathTrim (some data)).resnap
  else if r = R.CAL_PATH_BASE then
    if s.rd CAL_PATH_SEL.INDEX ≤ 570 then
      (s.updPath (s.rd CAL_PATH_SEL.INDEX) fun p => { p with baseSh := data.toInt }).resnap
    else s
  else if r = R.EVT_REARM then s.rearm data
  else
    let s := if r = R.ALM_CFG then s.noteOfs else s
    let s := (s.writeReg row i data (a % 2 ^ 32)).resnap
    if r = R.ALM_CFG then s.noteOfs else if r = R.REF_PTP_STAT then s.notePtp.select else s

/-- TDC_BIN_DATA_ACCESS (R419). -/
def execTdcBinDataAccess (w : Option Word) (s : State) : Res :=
  if s.gr.linkUp && s.railOk 4 then fin (s.binData w).resnap else fin s

/-- CAL_PATH_TRIM_ACCESS (R439). -/
def execCalPathTrimAccess (w : Option Word) (s : State) : Res :=
  if s.gr.linkUp && s.railOk 4 then fin (s.pathTrim w).resnap else fin s

/-- REGISTER_WRITE: an access of `len` bytes to BAR0 or BAR2. The pending-bit array takes no write (R496). -/
def execRegisterWrite (bar2 : Bool) (ofs : BitVec 32) (len : Nat) (data : BitVec 64) (s : State) : Res :=
  let o := ofs.toNat
  let a := if bar2 then 0x100000000 + o else o
  let lo := data.setWidth 32
  let hi := (data >>> 32).setWidth 32
  if !s.gr.linkUp then fin s
  else if a < 0x10000 then fin (s.mbxWrite o (leBytes (min len 8) data.toNat))
  else if 0x10000 ≤ a ∧ a < 0x10200 then
    let k := (o - 0x10000) / 4
    if len = 4 && o % 4 = 0 then fin (s.msixWord k lo)
    else if len = 8 && o % 8 = 0 then fin ((s.msixWord k lo).msixWord (k + 1) hi)
    else fin s
  else if 0x11000 ≤ a ∧ a < 0x11008 then fin s
  else match regAt a with
    | some (row, i) =>
      if !s.present a then fin (s.reservedEnc o)
      else if len = 4 && o % 4 = 0 then fin (s.hostWord row i a lo)
      else if len = 8 && o % 8 = 0 && loRegs.contains row.reg then
        let s := s.hostWord row i a lo
        match regAt (a + 4) with
        | some (rowH, iH) => fin (s.hostWord rowH iH (a + 4) hi)
        | none => fin s
      else fin (s.reservedEnc o)
    | none => fin (s.reservedEnc o)

/-- COMMITTED_VIEW_WRITE (R117, R447): discarded; `ofs` is the BAR0 offset written. -/
def execCommittedViewWrite (ofs : BitVec 32) (s : State) : Res :=
  if s.gr.linkUp && decide (0x03000000 ≤ ofs.toNat) && decide (ofs.toNat < 0x03E00000) then fin (s.reservedEnc ofs.toNat)
  else fin s

/-! ### The configuration flash (R90, R105-R107) -/

/-- The command takes the flash and waits for its operation. -/
def State.useFlash (s : State) (m : Fin 16) : State :=
  (s.updBoot fun b => { b with flashBusy := some m }).running m .flash false

/-- CMD_CONFIG_SAVE (R105, R106). -/
def execCmdConfigSave (m : Fin 16) (x : Exec) (s : State) : Res :=
  fin (s.cmd m 0x30 x (fun s => s.headChecks m (· = 0) ++ [chk ST_BUSY s.boot.flashBusy.isSome]) (fun s => s.useFlash m))

/-- The image slot that runs (R91). -/
def State.runSlot (s : State) : Nat := s.rd PWR_BOOT_STAT.SLOT

/-- A slot that may be written or activated: under Bawalo not the running one (R107). -/
def State.slotOk (s : State) (k : Nat) : Bool := decide (k ≤ 1) && (s.recovery || k ≠ s.runSlot)

/-- CMD_IMAGE_DOWNLOAD (R105, R107). With LENGTH 0 and bytes after the header both statuses of its row fit: the model
answers ST_ZERO_INVALID (DESIGN CHOICE, log entry 129). -/
def execCmdImageDownload (m : Fin 16) (x : Exec) (s : State) : Res :=
  fin (s.cmd m 0x40 x
    (fun s =>
      let n := s.pay m 8 4
      s.headChecks m (fun p => decide (12 ≤ p) && decide (p ≤ 4032) && (n = 0 || n = p - 12)) ++
      [chk ST_BAD_ARGUMENT (s.pay m 1 3 ≠ 0), chk ST_ZERO_INVALID (n = 0),
       chk ST_BAD_ARGUMENT (!s.slotOk (s.pay m 0 1) || s.pay m 4 4 % 16 ≠ 0 || decide (0x1800000 < s.pay m 4 4 + n)),
       chk ST_BUSY s.boot.flashBusy.isSome])
    (fun s => s.useFlash m))

/-- CMD_IMAGE_ACTIVATE (R105, R107). -/
def execCmdImageActivate (m : Fin 16) (x : Exec) (s : State) : Res :=
  fin (s.cmd m 0x41 x
    (fun s => s.headChecks m (· = 4) ++
      [chk ST_BAD_ARGUMENT (s.pay m 1 3 ≠ 0), chk ST_BAD_ARGUMENT (!s.slotOk (s.pay m 0 1)),
       chk ST_BUSY s.boot.flashBusy.isSome])
    (fun s => s.useFlash m))

/-- The binding of every descriptor table. -/
def State.bindings (s : State) : List (Nat × Nat × Nat) :=
  tableIds.map (fun t => (t, (s.table t).addr.getD 0, if (s.table t).addr.isSome then s.rd MBX_DT_BIND.ENTRY_COUNT t else 0))

/-- An image's release is not below the fused minimum (R91). -/
def State.checkPasses (s : State) : ImageCheck → Bool
  | .good rel => decide (s.boot.minRelease ≤ rel.toNat)
  | _ => false

/-- The check fails as such: a fault of class 10 (R519). -/
def checkFails : ImageCheck → Bool
  | .good _ => false
  | _ => true

/-- The end of a check of slot `k`: its first outcome and, when that fails, the outcome of its repetition (R91, R107). A check
that succeeds on its repetition is a transient fault of class 10, and the command, which ran once, completes with ST_OK
(DESIGN CHOICE, log entry 85). -/
def State.activate (s : State) (m : Fin 16) (k : Nat) (r1 r2 : ImageCheck) : State :=
  let s := if !checkFails r1 then s
    else if checkFails r2 then s.lastingFault 10 k false else s.transientFault 10
  let r := if checkFails r1 then r2 else r1
  match r, s.checkPasses r with
  | .good rel, true =>
    (s.updBoot fun b => { b with active := k, history := b.history ++ [(k, rel.toNat)] }).complete m ST_OK
  | _, _ => s.complete m ST_AUTH_FAIL

/-- The effect of a finished flash operation. -/
def State.flashEnd (s : State) (m : Fin 16) (r1 r2 : ImageCheck) : State :=
  if s.opcode m = 0x30 then
    let v : Saved := { sets := s.committed, bins := s.tdc.bins, paths := s.cal.paths.map (fun p => (p.1, p.2.base, p.2.target)),
                       binds := s.bindings }
    (s.updBoot fun b => { b with saved := some v }).complete m ST_OK
  else if s.opcode m = 0x40 then
    let bytes := s.payBytes m 12 (s.pay m 8 4)
    let o := s.pay m 4 4
    let put (x : Slot) : Slot := { x with data := Memory.setBytes x.data o bytes }
    (s.updBoot fun b => if s.pay m 0 1 = 0 then { b with slotA := put b.slotA } else { b with slotB := put b.slotB }).complete m ST_OK
  else s.activate m (s.pay m 0 1) r1 r2

/-- FLASH_OPERATION_DONE (R106-R108): the operation of mailbox `m`'s command ends, `x` saying whether a flash error
repeated it, `r1` and `r2` being the outcomes of an image check and of its repetition. -/
def execFlashOperationDone (m : Fin 16) (x : Exec) (r1 r2 : ImageCheck) (s : State) : Res :=
  if s.boot.flashBusy ≠ some m || (s.mbxAt m).job ≠ some .flash then fin s
  else
    let s := s.updBoot fun b => { b with flashBusy := none }
    match x, (s.mbxAt m).retry with
    | .clean, _ => fin (s.flashEnd m r1 r2)
    | .retried, false =>
      fin ((s.updMbx m fun b => { b with retry := true }).flashEnd m r1 r2)
    | _, _ => fin (s.cmdLasting m)

/-! ### CMD_CONFIG_RESTORE (R105, R106) -/

/-- The named groups: those of the payload, or all that a save holds. -/
def State.restoreGroups (s : State) (m : Nat) : Nat := if s.plen m = 0 then 0xFFF else s.pay m 0 4

/-- Group of a descriptor table. -/
def tableGroup (t : Nat) : Nat := if t = 0x50 then 4 else 2

/-- Some table of the named groups cannot be rebound (R277, R516). -/
def State.bindBlocked (s : State) (groups : Nat) : Bool := tableIds.any (fun t => testBit groups (tableGroup t) && s.tableBusy t)

/-- The saved sets go into the shadow copies of the named groups. -/
def State.loadSaved (s : State) (v : Saved) (groups : Nat) : State :=
  let s := { s with regs := copySets groups v.sets s.regs }
  let s := if testBit groups 8 then s.updTdc fun t => { t with binsSh := v.bins } else s
  if testBit groups 9 then
    let saved (k : Nat) : Int × Nat := match v.paths.find? (fun p => p.1 = k) with
      | some p => p.2
      | none => ((default : Path).base, (default : Path).target)
    (v.paths.map (·.1) ++ s.cal.paths.map (·.1)).foldl
      (fun s k => s.updPath k fun q => { q with baseSh := (saved k).1, targetSh := (saved k).2 }) s
  else s

/-- The saved bindings of the named groups' tables, each mirrored as CMD_TABLE_BIND is (R478); a FOLLOW keeps the LEAD's
(R480). -/
def State.rebindSaved (s : State) (v : Saved) (groups : Nat) : State :=
  if s.follow then s
  else v.binds.foldl (fun s b =>
    if testBit groups (tableGroup b.1) then
      (s.bindTable b.1 (if b.2.2 = 0 then none else some b.2.1) b.2.2).mirrorCmd 0x10
        (BitVec.ofNat 8 b.1 :: 0 :: 0 :: 0 :: leBytes 4 b.2.2 ++ leBytes 8 b.2.1)
    else s) s

/-- CMD_CONFIG_RESTORE: the first commit names every group but ALM_, which a second one brings into force. -/
def execCmdConfigRestore (m : Fin 16) (x : Exec) (s : State) : Res :=
  fin (s.cmd m 0x31 x
    (fun s =>
      let groups := s.restoreGroups m
      s.headChecks m (fun n => n = 0 || n = 4) ++
      [chk ST_BAD_ARGUMENT (groups / 4096 ≠ 0), chk ST_ZERO_INVALID (groups = 0),
       chk ST_BAD_ARGUMENT s.boot.saved.isNone, chk ST_WRONG_MODE (!s.groupsMode groups),
       chk ST_BUSY (s.groupsBusy groups || s.bindBlocked groups)])
    (fun s =>
      match s.boot.saved with
      | none => s
      | some v =>
        let groups := s.restoreGroups m
        let alm := testBit groups 4
        let first := clearBit groups 4
        let s := ((s.running m .restore true).loadSaved v groups).rebindSaved v groups
        if first = 0 then s.restoreTail m else s.requestCommit first 0 0 (some m) (if alm then 1 else 0)))

end Sys2Proof.Machine
end

