-- ==== Sys2Proof/Machine/Twin.lean ====
section
/-! DEFINITION. Sys2Proof/Machine/Twin.lean: heartbeats, roles, hand-over, the mirror's messages and transactions on both
sides, and the commands of the twin block (chapter 17). -/
namespace Sys2Proof.Machine

/-- Distance from `b` to `a` modulo 2^32 (R178, R460). -/
def ser32 (a b : Nat) : Nat := (a + 2 ^ 32 - b) % 2 ^ 32
def State.txnLast (s : State) : Nat := s.rd TWN_TXN_STAT.TXN_LAST

/-! ### Resync, on the LEAD (R465; the layout of KIND 4 data is log entry 34) -/

/-- The committed values of every mirrored register that is not at reset. -/
def State.mirrorImage (s : State) : List Byte := s.committed.flatMap (fun e =>
  let m := BitVec.ofNat 32 (mirrorMask e.1)
  if m = 0 then [] else pairBytes e.1 (e.2 &&& m))

def State.tableImage (s : State) (t : Nat) : List Byte :=
  (s.table t).entries.flatMap (fun e => if e.2.valid then beBytes 4 e.1 ++ slice e.2.bytes 0 64 else [])

/-- 128 carrier states, 4 bits each. -/
def State.carrierImage (s : State) : List Byte :=
  (List.range 64).map (fun i => BitVec.ofNat 8 (16 * s.cst (2 * i) + s.cst (2 * i + 1)))

def State.counterImage (s : State) : List Byte :=
  (((s.tally.map (·.1)) ++ s.tacc.map (·.1)).dedup).flatMap (fun n => beBytes 4 n ++ beBytes 8 (s.slot n))

def State.startResync (s : State) : State :=
  let s := s.updTwin fun t => { t with resyncing := true, partnerSt := 0, pairSeen := none }
  let cut (max : Nat) (head : List Byte) (bs : List Byte) : List (List Byte) :=
    (chunks max (bs.length / max + 1) bs).map (head ++ ·)
  let table (t : Nat) : List (List Byte) :=
    ((2 : Byte) :: beBytes 4 t ++ beBytes 4 (s.rd MBX_DT_BIND.ENTRY_COUNT t)) ::
      cut 13600000 ((6 : Byte) :: beBytes 4 t) (s.tableImage t)
  let parts := [(1 : Byte) :: s.mirrorImage] ++ tableIds.flatMap table ++
    [(3 : Byte) :: s.carrierImage, [(4 : Byte)]] ++ cut 14400000 [(7 : Byte)] s.counterImage ++ [[(5 : Byte)]]
  s.each parts fun s p => s.mirrorTxn 4 0 [] p

/-! ### Applying what the LEAD sends (R475, R478, R479, R482) -/

/-- Lists of (offset, value) pairs of 8 bytes. -/
def pairsOf : Nat → List Byte → List (Nat × Word)
  | 0, _ => []
  | k + 1, bs => if bs.length < 8 then [] else
    (beNat (bs.take 4), BitVec.ofNat 32 (beNat ((bs.drop 4).take 4))) :: pairsOf k (bs.drop 8)

/-- A set with the mirrored bits of the listed registers. -/
def setPairs (l : List (Nat × Word)) (m : SMap Word) : SMap Word := l.foldl (fun m e =>
  let k := BitVec.ofNat 32 (mirrorMask e.1) &&& rwcAt e.1
  let r := resetAt e.1
  if k = 0 then m else SMap.set r m e.1 ((SMap.get r m e.1 &&& ~~~k) ||| (e.2 &&& k))) m

/-- Commit groups of a list of offsets. -/
def pairGroups (l : List (Nat × Word)) : Nat :=
  l.foldl (fun g e => match groupOf (blockOf e.1) with | some n => setBit g n | none => g) 0

/-- A mirrored commit in shadow and committed sets, under the LEAD's checks: with WHEN 2 or 3 those of a commit under
BOUNDARY, with WHEN 1 those of one under AT. -/
def State.applyPairs (s : State) (when_ : Nat) (l : List (Nat × Word)) : State :=
  let g := pairGroups l
  let v := { s with committed := setPairs l s.committed }
  if (judge g (min 2 when_) v s).isSome then s.count (twnSlot 8)
  else (({ s with regs := setPairs l s.regs }).applyGroups g (setPairs l) s.tdc.bins []).count (twnSlot 7)

/-- The whole mirrored image: a register that it does not list is at reset. -/
def State.applyImage (s : State) (l : List (Nat × Word)) : State :=
  let other := (((s.committed.map (·.1)) ++ s.regs.map (·.1)).dedup.filter (fun a => mirrorMask a ≠ 0 && rwcAt a ≠ 0 &&
    !l.any (fun e => e.1 = a))).map (fun a => (a, resetAt a))
  let l := other ++ l
  ({ s with regs := setPairs l s.regs }).applyGroups (pairGroups l) (setPairs l) s.tdc.bins []

/-- Chunks of `n` bytes, the last one left out when it is short. -/
def records (n : Nat) (bs : List Byte) : List (List Byte) :=
  (chunks n (bs.length / n + 1) bs).filter (fun c => c.length = n)

/-- One installed entry of the LEAD. -/
def State.putEntry (s : State) (t i : Nat) (b : List Byte) : State := (s.tryInstall t i b).2

/-- A table of the LEAD: its bound count; and some of its entries. -/
def State.applyTable (s : State) (bs : List Byte) : State :=
  let t := beNat (slice bs 0 4)
  if !tableIds.contains t then s else s.bindTable t none (beNat (slice bs 4 4))
def State.applyEntries (s : State) (bs : List Byte) : State :=
  let t := beNat (slice bs 0 4)
  if !tableIds.contains t then s
  else s.each (records 68 (bs.drop 4)) fun s r => s.putEntry t (beNat (r.take 4)) (r.drop 4)

/-- Shared carriers take the LEAD's states (R475). -/
def State.applyCarriers (s : State) (bs : List Byte) : State :=
  (List.range 128).foldl (fun s c =>
    let b := byteAt bs (c / 2)
    let v := if c % 2 = 0 then b / 16 else b % 16
    let own := s.cst c
    if !s.comB SHF_CAR_CFG.ENABLE c || own < cSTANDBY || cPARKED < own || v < cSTANDBY || cPARKED < v || own = v then s
    else if v = cACTIVE then s.carActive c
    else if v = cPARKED then s.carParked c
    else s.setCar c v) s

/-- A slot takes the LEAD's value (R482). -/
def State.putSlot (s : State) (n v : Nat) : State :=
  if n < 2097152 && s.railOk 1 then
    { s with tally := SMap.set 0 s.tally n (v % 2 ^ 48), tacc := SMap.set 0 s.tacc n 0 }
  else s

/-- An adjustment of the LEAD takes effect (log entry 33). -/
def State.applyAdjust (s : State) (p : List Byte) : State :=
  let n := byteAt p 0 % 8
  let fl := byteAt p 1
  if s.domSource n ≠ srcHOST then s
  else
    let s := (s.updDom n fun d => { d with cmdAt := s.now }).wr TBS_DOM_STAT.FREE_RUN n 0
    s.adjustDom n (if testBit fl 0 then some (leNat (slice p 2 8)) else none)
      (if testBit fl 1 then some (sgn 64 (leNat (slice p 10 8))) else none) (testBit fl 2)

/-- The effect of a command of the LEAD (R478). -/
def State.applyEffect (s : State) (bs : List Byte) : State :=
  let p := bs.drop 2
  match beNat (slice bs 0 2) with
  | 0x010 => s.bindTable (byteAt p 0) none (leNat (slice p 4 4))
  | 0x303 => s.hostFlush (leNat (slice p 0 2)) (leNat (slice p 2 2))
  | 0x503 => s.realign
  | 0x601 => s.applyAdjust p
  | 0x602 => s.applyAdjust p
  | 0x701 => s.force (if byteAt p 0 = 0xFF then none else some (byteAt p 0))
  | 0x801 => s.rampStart
  | 0x802 => s.rampStop (testBit (byteAt p 0) 0)
  | _ => s

/-- One part of a resync. -/
def State.applyPart (s : State) (bs : List Byte) : State :=
  let d := bs.drop 1
  match byteAt bs 0 with
  | 1 => s.applyImage (pairsOf (d.length / 8) d)
  | 2 => s.applyTable d
  | 3 => s.applyCarriers d
  | 4 => if s.railOk 1 then { s with tally := [], tacc := [] } else s
  | 6 => s.applyEntries d
  | 7 => s.each (records 12 d) fun s r => s.putSlot (beNat (r.take 4)) (beNat (r.drop 4))
  | 5 => s.updTwin fun t => { t with resyncing := true }
  | _ => s

def TxnIn.data (x : TxnIn) : List Byte := x.got.flatMap (·.2)

/-- A complete transaction takes effect, whole, in this tick. -/
def State.applyTxn (s : State) (x : TxnIn) : State :=
  let d := x.data
  let s := match x.kind with
    | 1 => s.applyPairs x.when_ (pairsOf (d.length / 8) d)
    | 2 => (s.each (records 72 d) fun s r => s.putEntry (beNat (r.take 4)) (beNat (slice r 4 4)) (r.drop 8)).count (twnSlot 7)
    | 3 => (s.applyEffect d).count (twnSlot 7)
    | _ => (s.applyPart d).count (twnSlot 7)
  let s := s.wr TWN_TXN_STAT.TXN_LAST 0 x.txn
  (s.updInq fun l => l.filter (fun y => y.txn ≠ x.txn)).updTwin fun t => { t with naked := t.naked.filter (· ≠ x.txn) }

/-- Whether a transaction complete since `t` is due, and whether it was late (R479). -/
def State.txnDue (s : State) (x : TxnIn) (t : Nat) : Bool × Bool :=
  let cyc (u : Nat) : Nat := s.absSlot u / 4096
  let sec (u : Nat) : Nat := (tsParts (s.domAt 0 u)).1
  match x.when_ with
  | 1 =>
    let a := tsOfBE x.apply
    let late : Bool := a < tsQ (s.domAt 0 (t + 64))
    (if late then decide (t < s.now) else decide (a ≤ tsQ (s.domAt 0 s.now)), late)
  | 2 =>
    let n := beNat (slice x.apply 8 4)
    let late : Bool := ser32 (cyc (t + 64) % 2 ^ 32) n < 2 ^ 31
    (if late then decide (cyc t < cyc s.now) else decide (ser32 (cyc s.now % 2 ^ 32) n < 2 ^ 31), late)
  | 3 =>
    let n := beNat (slice x.apply 0 6)
    let late : Bool := n ≤ sec (t + 64)
    (if late then decide (sec t < sec s.now) else decide (n ≤ sec s.now), late)
  | _ => (decide (t < s.now), false)

/-- An install transaction that the version store has no place for waits (R216). -/
def State.txnRoom (s : State) (x : TxnIn) : Bool := x.kind ≠ 2 || s.gr.store.length + x.data.length / 72 ≤ 16384

/-! ### Receiving messages (R459-R461, R465, R468) -/

/-- Asks for the transactions that a gap shows to be lost; `top` is the latest of which a fragment has come, `all` that a
message has been declared lost, which may be the last fragment of any of them. -/
def State.nakGaps (s : State) (top : Nat) (all : Bool := false) : State :=
  let last := s.txnLast
  let bad (y : Nat) : Bool := match s.twin.inq.find? (fun x => x.txn = y) with
    | none => true
    | some x => x.doneAt.isNone && (all || y ≠ top || (List.range x.frags).any (fun f =>
        !x.got.any (fun g => g.1 = f) && x.got.any (fun g => f < g.1)))
  (List.range (min 1025 (ser32 top last))).foldl (fun s k =>
    let y := (last + 1 + k) % 2 ^ 32
    if bad y && !s.twin.naked.contains y then
      (s.updTwin fun t => { t with naked := t.naked ++ [y] }).sendMsg mtNAK (beBytes 4 y)
    else s) s

/-- A fragment of a transaction. -/
def State.takeFragment (s : State) (p : List Byte) : State :=
  let txn := beNat (slice p 0 4)
  let d := ser32 txn s.txnLast
  if !s.follow || d = 0 || 2 ^ 31 ≤ d then s
  else
    let frag := beNat (slice p 4 2)
    let x := (s.twin.inq.find? (fun x => x.txn = txn)).getD
      { txn := txn, frags := beNat (slice p 6 2), kind := byteAt p 8, when_ := byteAt p 9, apply := slice p 12 12 }
    if x.doneAt.isSome then s
    else
      let got := SMap.insert (p.drop 24) x.got frag
      let x := { x with got := got, doneAt := if (List.range x.frags).all (fun f => got.any (fun g => g.1 = f)) then some s.now else none }
      let s := s.updInq fun l => l.filter (fun y => y.txn ≠ txn) ++ [x]
      let s := if x.kind = 4 && s.twSt = twPAIRED then (s.setTwSt twRESYNC).updTwin fun t => { t with resyncing := false } else s
      s.nakGaps txn

/-- Counts of frames sent in the D0 second before the present one are complete. -/
def State.rollSec (s : State) : State :=
  let sec := s.secondNow
  s.updTwin fun t => if t.sec = sec then t
    else { t with sec := sec, sentLast := if t.sec + 1 = sec then t.sentNow else [], sentNow := [] }

/-- Frames sent differ by more than the tolerance (R468). -/
def State.sentDiffers (s : State) (own theirs : Nat) : Bool :=
  let u := (theirs + 65536 - own % 65536) % 65536
  let d := if u < 32768 then u else 65536 - u
  let larger := if u < 32768 then own + u else own
  decide (1000000000 + larger * s.com TWN_TOL.FWD_TOL < 1000000 * d)

def State.takeCheck (s : State) (p : List Byte) : State :=
  let sec := beNat (slice p 0 6)
  let s := s.rollSec
  if sec + 1 ≠ s.twin.sec then s
  else
    let bad := (records 4 (p.drop 6)).any (fun r => s.sentDiffers (SMap.get 0 s.twin.sentLast (beNat (r.take 2))) (beNat (r.drop 2)))
    s.updTwin fun t => { t with checkOk := (t.checkOk || t.checkAt ≠ sec) && !bad, checkAt := sec }

/-- A message whose turn has come. -/
def State.takeMessage (s : State) (bs : List Byte) : State :=
  let p := slice bs 8 (min 244 (beNat (slice bs 6 2)))
  let ty := byteAt bs 4
  if ty = mtTXN then s.takeFragment p
  else if ty = mtNAK then
    if !(s.twinOn && s.lead) then s
    else match s.twin.kept.find? (fun e => e.1 = beNat (slice p 0 4)) with
      | some e => s.each e.2 fun s m => s.sendMsg mtTXN m
      | none => s.startResync
  else if !s.follow then s
  else if ty = mtECHO then
    let l := (records 20 p).map (fun r => (byteAt r 0, beNat (slice r 4 4), tsOfBE (slice r 8 12)))
    s.updTwin fun t => { t with echoes := (l ++ t.echoes).take 8192 }
  else if ty = mtCARRIER then s.applyCarriers p
  else if ty = mtCOUNT then
    let first := beNat (slice p 0 4)
    (List.range 29).foldl (fun s i => s.putSlot (first + i) (beNat (slice p (12 + 8 * i) 8))) s
  else if ty = mtCHECK then s.takeCheck p
  else s

/-- Messages held in a row from the head are processed. -/
def State.drainHeld (s : State) : Nat → State
  | 0 => s
  | k + 1 => match s.twin.head with
    | none => s
    | some h => match s.twin.held.find? (fun e => e.1 = h) with
      | none => s
      | some e =>
        let s := s.updTwin fun t => { t with head := some ((h + 1) % 2 ^ 32), held := SMap.erase t.held h }
        (s.takeMessage e.2.2).drainHeld k

/-- A message other than a heartbeat in the order of MSEQ (R460). -/
def State.orderMessage (s : State) (bs : List Byte) : State :=
  let q := beNat (slice bs 0 4)
  let h := s.twin.head.getD q
  let d := ser32 q h
  if 2 ^ 31 ≤ d || s.twin.held.any (fun e => e.1 = q) then s.count (twnSlot 4)
  else if 65535 < d then s
  else
    let s := (s.count (twnSlot 3)).updTwin fun t => { t with head := some h, held := SMap.insert (s.now, bs) t.held q }
    s.drainHeld (s.twin.held.length)

/-- The block listens on a mirror lane. -/
def State.hears (s : State) (i : Nat) : Bool := s.twinOn && s.tkMode && s.laneTrained i

/-- A heartbeat that is valid on this module (R462). -/
def State.validHb (s : State) (i : Nat) (bytes : List Byte) : Bool :=
  bytes.length = 256 && s.hears i && fcsGood bytes && byteAt bytes 4 = mtHEARTBEAT &&
  byteAt bytes 8 % 2 ≠ s.com TWN_CFG.UNIT

/-- A valid heartbeat arrives later in this tick, on lane `l` or on any (R470). -/
def State.hbComes (s : State) (l : Option Nat) : Bool := s.pending.any fun
  | .heartbeatReceived i bytes _ => (match l with | some j => decide (i.val = j) | none => true) && s.validHb i bytes
  | _ => false

/-- TAKE arrives later in this tick (R471). -/
def State.takeComes (s : State) : Bool := s.pending.any fun
  | .heartbeatReceived i bytes _ => s.validHb i bytes && testBit (byteAt bytes 8) 3
  | _ => false

/-- MIRROR_MESSAGE_RECEIVED (R459-R461). -/
def execMirrorMessageReceived (lane : Fin 4) (bytes : List Byte) (s : State) : Res :=
  if bytes.length ≠ 256 then .fault .malformedOperand
  else if !s.hears lane then fin s
  else if !fcsGood bytes then fin (s.count (twnSlot 5))
  else if byteAt bytes 4 < mtTXN || mtCHECK < byteAt bytes 4 then fin s
  else fin (s.orderMessage bytes)

/-- MESSAGE_LOSS_TIMEOUT (R460, R461): the loss is declared, and a FOLLOW asks for every transaction that lacks a fragment. -/
def execMessageLossTimeout (s : State) : Res :=
  match s.twin.head with
  | none => fin s
  | some h =>
    if s.twin.held.any (fun e => decide (e.2.1 + 3200 ≤ s.now)) then
      let next := s.twin.held.foldl (fun d e => min d (ser32 e.1 h)) 65535
      let s := (s.count (twnSlot 6) next).updTwin fun t => { t with head := some ((h + next) % 2 ^ 32), naked := [], lost := true }
      let s := s.drainHeld s.twin.held.length
      let top := s.twin.inq.foldl (fun d x => max d (ser32 x.txn s.txnLast)) 0
      fin (if s.follow then s.nakGaps ((s.txnLast + top) % 2 ^ 32) true else s)
    else fin s

/-! ### Hand-over (R464, R466, R469-R472) -/

/-- The FOLLOW takes the privileged roles (R471 step 2, R475). -/
def State.takeOver (s : State) : State :=
  let s := (s.setRole true).setTwSt twSOLO
  let s := s.count (twnSlot 8) s.twin.inq.length
  let s := (s.updInq fun _ => []).updTwin fun t =>
    { t with held := [], naked := [], resyncing := false, echoes := [], digestBad := 0, digestOk := true
             settle := some (s.now + 12800) }
  let s := (List.range 128).foldl (fun s c =>
    if s.cst c = cDRAINING then s.updCar c fun k => { k with parkWait := some (s.now + s.lossTicks (s.carSheaf c)) } else s) s
  ((s.sendHb false true).raise EV.TWN_TAKEOVER).count (twnSlot 0)

/-- A table gets the bound count and the entries it once had. -/
def State.restoreTable (s : State) (o : Nat × Nat × List (Nat × List Byte)) : State :=
  (s.bindTable o.1 none o.2.1).each o.2.2 fun s e => s.putEntry o.1 e.1 e.2

/-- A LEAD that yields in DUAL_LEAD (R466): committed changes and installed entries since it became LEAD are discarded, and
transactions are taken from the partner's `txn` on. -/
def State.yieldLead (s : State) (txn : Nat) : State :=
  let old := s.twin.before.getD s.committed
  let tabs := s.twin.tabs.filter (fun o => !s.installed.contains o)
  let s := s.endRelq ST_TIMEOUT
  let s := s.setRole false
  let s := ({ s with regs := copySets 0xFFF old s.regs }).applyGroups 0xFFF (copySets 0xFFF old) s.tdc.bins []
  let s := (s.each tabs State.restoreTable).updInq fun _ => []
  let s := (s.updTwin fun t => { t with kept := [], resyncing := false, naked := [] }).wr TWN_TXN_STAT.TXN_LAST 0 txn
  ((s.setTwSt twRESYNC).raise EV.TWN_DUAL_LEAD).closeIfDone

/-- R474: the FOLLOW keeps its next SEQ ahead of the LEAD's, at the rates of the carriers, in duplicate mode of the leg that
makes the grains; `age` of the heartbeat in 2^-16 ns. -/
def State.seqAhead (s : State) (p : List Byte) (age : Int) : State :=
  (List.range 32).foldl (fun s h =>
    if !s.comB SHF_CFG.ENABLE h then s
    else
      let mine (c : Nat) : Bool := !s.comB SHF_CFG.DUP h || s.com SHF_CAR_CFG.LEG c = s.makingLeg h
      let u := ((s.carsOf h).filter mine).foldl (fun a c => a + s.com SHF_CAR_CFG.RATE c) 0
      let us : Int := max 0 age + s.com TWN_TIMING.SEQ_AHEAD_US * 65536000
      let n := (beNat (slice p (48 + 5 * h) 5) + (u * 3125 * us / (256 * 65536000)).toNat) % seqMod
      let d := seqDiff n (s.sheaf h).nextSeq
      if d = 0 || seqMod / 2 ≤ d then s
      else (s.updSheaf h fun x => { x with nextSeq := n, legSeq := (n, n), made := [] }).count (twnSlot 13)) s

/-- STATE_DIGEST compared where both TXN_LAST are equal; a second mismatch in a row starts a resync (R465, R468). -/
def State.compareDigest (s : State) (theirs txn : Nat) (partnerLead : Bool) : State :=
  if txn ≠ s.txnLast || s.lead = partnerLead then s
  else if theirs = s.digest then s.updTwin fun t => { t with digestOk := true, digestBad := 0 }
  else
    let n := s.twin.digestBad + 1
    let s := s.updTwin fun t => { t with digestBad := n, digestOk := s.lead }
    if s.lead then if n = 2 && !s.twin.resyncing then s.startResync else s
    else
      let s := s.count (twnSlot 11)
      if n = 2 && s.twSt = twPAIRED then (s.setTwSt twRESYNC).updTwin fun t => { t with resyncing := false } else s

/-- The LEAD saw the partner unpaired. The resync that pairing brings starts once the partner has heard a heartbeat sent after
this instant, so that it has taken over TXN_LAST (log entry 60). -/
def State.sawUnpaired (s : State) : State :=
  let t := tsQ (s.domAt 0 s.now)
  s.updTwin fun x => { x with pairSeen := some t }

/-- States of both modules after a valid heartbeat (R464-R466, R471, R472). For the 12,800 ticks after a hand-over has been
decided, the partner's claims to be LEAD belong to it: further copies of its RELINQUISH, and heartbeats sent before TAKE
reaches it (DESIGN CHOICE, log entry 60). -/
def State.pairStep (s : State) (p : List Byte) : State :=
  let id := byteAt p 0
  let lead : Bool := testBit id 1
  let relq : Bool := testBit id 2
  let take : Bool := testBit id 3
  let synced : Bool := testBit (beNat (slice p 2 2)) 7
  let txn := beNat (slice p 44 4)
  let pref : Bool := s.com TWN_CFG.UNIT = s.prefUnit
  if s.lead then
    if take then (s.handOver).wr TWN_TXN_STAT.TXN_LAST 0 txn
    else if lead then
      if relq && s.twin.relq.isSome then
        let s := (s.endRelq ST_TIMEOUT).updTwin fun t => { t with settle := some (s.now + 12800) }
        if pref then (s.sendHb false true).closeIfDone else s
      else if (match s.twin.settle with | some t => decide (s.now < t) | none => false) then s
      else
        let since := tsOfBE (slice p 208 12)
        if since < s.twin.leadSince || (since = s.twin.leadSince && !pref) then s.yieldLead txn else s.setTwSt twDUAL
    else
      let s := if s.twSt = twDUAL then s.setTwSt twSOLO else s
      if !synced then
        let s := match s.twin.pairSeen with
          | some t => if t < tsOfBE (slice p 16 12) && !s.twin.resyncing then s.startResync else s
          | none => if s.twSt = twSOLO && !s.twin.resyncing then s.sawUnpaired else s
        s.updTwin fun t => { t with partnerSt := 1 }
      else
        let s := if s.twin.resyncing && s.twin.partnerSt = 1 then
            ((s.updTwin fun t => { t with resyncing := false }).raise EV.TWN_RESYNC_DONE).count (twnSlot 12)
          else s
        let s := s.updTwin fun t => { t with pairSeen := none }
        if s.twSt = twSOLO then s.setTwSt twPAIRED else s
  else if lead then
    let s := if s.twSt = twPAIRING then
        ((s.setTwSt twRESYNC).wr TWN_TXN_STAT.TXN_LAST 0 txn).updTwin fun t => { t with resyncing := false }
      else s
    if relq && s.fwdMode then s.takeOver else s
  else if s.twSt = twPAIRING && !synced && byteAt p 1 = mFORWARD && s.mode = mFORWARD && pref then
    (s.setRole true).setTwSt twSOLO
  else s

/-- Wait-to-restore and WTR_LEFT (R483). -/
def State.noteWtr (s : State) : State :=
  let runs := s.lead && s.comB TWN_CFG.REVERTIVE && decide (s.com TWN_CFG.UNIT ≠ s.prefUnit) && s.partnerReady
  let s := s.updTwin fun t => { t with wtr := if runs then some (t.wtr.getD s.now) else none }
  s.wr TWN_STAT.WTR_LEFT 0 s.wtrLeft

/-- HEARTBEAT_RECEIVED (R459, R462-R464, R466, R468, R471, R474): message `bytes` on lane `lane`, its first bit at `rx`. -/
def execHeartbeatReceived (lane : Fin 4) (bytes : List Byte) (rx : Inst) (s : State) : Res :=
  if bytes.length ≠ 256 then .fault .malformedOperand
  else if !s.hears lane then fin s
  else if !fcsGood bytes then fin (s.count (twnSlot 5))
  else if byteAt bytes 4 ≠ mtHEARTBEAT then fin s
  else
    let p := slice bytes 8 244
    let id := byteAt p 0
    if id % 2 = s.com TWN_CFG.UNIT then fin (s.raise EV.TWN_PAIR_MISMATCH)
    else
      let same : Bool := id / 16 % 2 = s.com TWN_CFG.PREF_UNIT
      let s := if same then s else s.raise EV.TWN_PAIR_MISMATCH
      let s := s.count (twnSlot 3)
      let i := lane.val
      let t4 := tsQ (s.domInst 0 rx - s.rxDelay (256 + i))
      let t3 := tsOfBE (slice p 4 12)
      let s := s.updMlane i fun l => { l with last := some s.now, up := true, echoTx := t3, echoRx := t4, have_ := true }
      let s := s.wr TWN_STAT.LANES_UP 0 (setBit (s.rd TWN_STAT.LANES_UP) i)
      let s := if s.bit TWN_STAT.PARTNER then s else (s.wr TWN_STAT.PARTNER 0 1).raise EV.TWN_PARTNER_FOUND
      let h := beNat (slice p 2 2)
      let s := if s.rd TWN_HEALTH.PARTNER % 512 = 511 && h % 512 ≠ 511 then s.raise EV.TWN_PARTNER_NOT_READY else s
      let s := (s.wr TWN_HEALTH.PARTNER 0 h).wrB TWN_STAT.PARTNER_ROLE 0 (testBit id 1)
      let s := if s.lead && byteAt p 1 ≠ s.twin.partnerMode && (byteAt p 1 = mTIMEKEEP ||
          (byteAt p 1 = mFORWARD && s.twin.partnerMode ≠ mCALIBRATE)) then s.sawUnpaired else s
      let s := s.updTwin fun t => { t with lastHb := some s.now, prefOk := same, partnerMode := byteAt p 1,
                                           timed := Config.twinTimed s.nextFree }
      let s := { s with nextFree := s.nextFree + 1 }
      let t1 := tsOfBE (slice p 16 12)
      let t2 := tsOfBE (slice p 28 12)
      let s := if t1 = 0 && t2 = 0 then s
        else
          let x := ((t4 - t3) - (t2 - t1) - psToQ (s.comS TWN_MIRROR_ASYM.ASYM)) / 2
          let s := s.updTwin fun t => { t with diffs := x :: t.diffs.take 63 }
          s.wrS TWN_TIME_DIFF.DIFF 0 (satS 32 (qToPs ((s.twin.diffs.foldl (· + ·) 0) / (s.twin.diffs.length : Int))))
      let s := s.pairStep p
      let s := if testBit id 1 && s.follow && s.twin.lost then
          (s.nakGaps (beNat (slice p 44 4)) true).updTwin fun t => { t with lost := false }
        else s
      let s := if testBit id 1 && s.follow then
          s.seqAhead p (t4 - (t3 + psToQ (s.rdS TWN_TIME_DIFF.DIFF)))
        else s
      let s := s.compareDigest (beNat (slice p 40 4)) (beNat (slice p 44 4)) (testBit id 1)
      fin s.noteWtr.twinHealth

/-- HEARTBEAT_SEND (R461, R462, R473, R486): the grid of 3,200 ticks. -/
def execHeartbeatSend (s : State) : Res :=
  let due : Bool := match s.twin.hbAt with
    | some t => t + 3200 ≤ s.now
    | none => true
  if !s.twinOn || !s.tkMode || !due then fin s
  else
    let missed : Bool := match s.twin.lastHb with
      | some t => t + 3200 < s.now
      | none => true
    let s := s.count (twnSlot 10) (if missed then 1 else 0)
    let pin := s.twinPin
    let s := (s.noteWtr.twinHealth).sendHb false false
    let s := s.updTwin fun t => { t with hbAt := some s.now, sentHb := some s.now }
    fin (if s.twinPin && !pin then s.emit (.pin .twinRole 0 true) else s)

/-- HEARTBEAT_SILENCE (R473). -/
def execHeartbeatSilence (s : State) : Res :=
  match s.twin.sentHb with
  | some t =>
    if t + 6400 ≤ s.now then
      let s' := s.updTwin fun t => { t with sentHb := none }
      fin (if s.lead && s.fwdMode then s'.emit (.pin .twinRole 0 false) else s')
    else fin s
  | none => fin s

/-- PARTNER_LOST (R464, R469, R470): a heartbeat that arrives in this very tick keeps the partner. -/
def execPartnerLost (s : State) : Res :=
  let late : Bool := match s.twin.lastHb with
    | some t => t + 12800 ≤ s.now
    | none => false
  if !s.twinOn || !s.bit TWN_STAT.PARTNER || !late || s.hbComes none then fin s
  else
    let s := (s.wr TWN_STAT.PARTNER 0 0).raise EV.TWN_PARTNER_LOST
    let s := s.updTwin fun t => { t with wtr := none, degrade := none }
    let s := s.wr TWN_STAT.WTR_LEFT 0 0
    let st := s.twSt
    if s.lead then
      fin ((if st = twPAIRED || st = twDUAL then s.setTwSt twSOLO else s).updTwin fun t => { t with resyncing := false })
    else if st = twPAIRED then fin (if s.fwdMode then s.takeOver else s)
    else if st = twRESYNC || st = twPAIRING then fin s.enterPairing
    else fin s

/-- LANE_DOWN (R470). -/
def execLaneDown (lane : Fin 4) (s : State) : Res :=
  let l := s.mlane lane
  let late : Bool := match l.last with
    | some t => t + 12800 ≤ s.now
    | none => true
  if s.twinOn && l.up && late && !s.hbComes (some lane) then
    let s := s.updMlane lane fun l => { l with up := false, have_ := false, echoTx := 0, echoRx := 0 }
    fin ((s.wr TWN_STAT.LANES_UP 0 (clearBit (s.rd TWN_STAT.LANES_UP) lane)).raiseObj EV.TWN_LANE_DOWN 0 lane)
  else fin s

/-- PAIR_WAIT_EXPIRY (R464). -/
def execPairWaitExpiry (s : State) : Res :=
  let from_ := max s.twin.pairAt (s.twin.lastHb.getD 0)
  if s.twinOn && s.twSt = twPAIRING && s.mode = mFORWARD && from_ + s.com TWN_TIMING.PAIR_WAIT_MS * msT ≤ s.now then
    fin ((s.setRole true).setTwSt twSOLO)
  else fin s

/-- RELINQUISH_TIMEOUT (R471, R487): the relinquish is withdrawn; with ENABLE 0 the block then goes OFF. -/
def execRelinquishTimeout (s : State) : Res :=
  match s.twin.relq with
  | some (t, _) =>
    if t + 12800 ≤ s.now && !s.takeComes then fin (((s.endRelq ST_TIMEOUT).raise EV.TWN_NO_STANDBY).closeIfDone) else fin s
  | none => fin s

/-- DEGRADE_HOLD_EXPIRY (R469). -/
def execDegradeHoldExpiry (s : State) : Res :=
  match s.twin.degrade with
  | some t =>
    if s.lead && s.comB TWN_CFG.DEGRADE_SWITCH && s.partnerReady && t + s.com TWN_TIMING.DEGRADE_HOLD_MS * msT ≤ s.now then
      fin (s.relinquish none)
    else fin s
  | none => fin s

/-- WTR_EXPIRY (R483). -/
def execWtrExpiry (s : State) : Res :=
  match s.twin.wtr with
  | some t =>
    if s.lead && s.comB TWN_CFG.REVERTIVE && s.partnerReady && t + s.com TWN_CFG.WTR_S * sT ≤ s.now then
      let s := (s.raise EV.TWN_REVERT).updTwin fun t => { t with wtr := some s.now }
      fin (s.relinquish none)
    else fin s
  | none => fin s

/-! ### Transactions and resync on the FOLLOW -/

/-- TXN_APPLY (R479): the next transaction in TXN order at its instant. -/
def execTxnApply (s : State) : Res :=
  let next := (s.txnLast + 1) % 2 ^ 32
  match s.twin.inq.find? (fun x => x.txn = next) with
  | some x => match x.doneAt with
    | some t =>
      let (due, late) := s.txnDue x t
      if s.follow && due && s.txnRoom x then
        let s := if late then (s.count (twnSlot 9)).raise EV.TWN_LATE_APPLY else s
        fin (s.applyTxn x)
      else fin s
    | none => fin s
  | none => fin s

/-- RESYNC_DONE (R464, R465): the last part has been applied. -/
def execResyncDone (s : State) : Res :=
  if s.follow && s.twSt = twRESYNC && s.twin.resyncing then
    let s := (s.setTwSt twPAIRED).updTwin fun t => { t with resyncing := false, digestBad := 0, digestOk := true }
    fin (((s.raise EV.TWN_RESYNC_DONE).count (twnSlot 12)).twinHealth)
  else fin s

/-! ### What the LEAD sends on its own (R461) -/

/-- CARRIER_MESSAGE_SEND. -/
def execCarrierMessageSend (s : State) : Res :=
  if s.twinOn && s.lead && s.fwdMode then fin (s.sendMsg mtCARRIER s.carrierImage) else fin s

/-- COUNT_MESSAGE_SEND. -/
def execCountMessageSend (s : State) : Res :=
  if s.twinOn && s.lead && s.fwdMode then
    let first := s.twin.countNext
    let vals := (List.range 29).flatMap (fun i => beBytes 8 (if first + i < 2097152 then s.slot (first + i) else 0))
    let s := s.sendMsg mtCOUNT (beBytes 4 first ++ beBytes 8 s.tick ++ vals)
    fin (s.updTwin fun t => { t with countNext := if first + 29 < 2097152 then first + 29 else 0 })
  else fin s

/-- CHECK_MESSAGE_SEND: the frames sent in the D0 second that has ended. -/
def execCheckMessageSend (s : State) : Res :=
  if !(s.twinOn && s.lead && s.fwdMode) then fin s
  else
    let s := s.rollSec
    let sec := s.twin.sec - 1
    if s.twin.sec = 0 || s.twin.checkAt = sec then fin s
    else
      let es := (List.range 288).filter s.egrOn
      let data := es.flatMap (fun e => beBytes 2 e ++ beBytes 2 (SMap.get 0 s.twin.sentLast e % 65536))
      let s := s.updTwin fun t => { t with checkAt := sec }
      fin (s.each (chunks 236 (data.length / 236 + 1) data) fun s d => s.sendMsg mtCHECK (beBytes 6 sec ++ d))

/-! ### Commands (R487) -/

/-- CMD_TWN_SWITCH. -/
def execCmdTwnSwitch (m : Fin 16) (x : Exec) (s : State) : Res :=
  fin (s.cmd m 0xC01 x
    (fun s => s.headChecks m (· = 0) ++
      [chk (ST_BAD_ARGUMENT + 65536) (!s.lead), chk (ST_BAD_ARGUMENT + 2 * 65536) (!s.partnerReady),
       chk ST_WRONG_MODE (!s.fwdMode), chk ST_BUSY s.twin.relq.isSome])
    (fun s => (s.running m .twinSwitch true).relinquish (some m)))

/-- CMD_TWN_TABLE_ADOPT (R481). -/
def execCmdTwnTableAdopt (m : Fin 16) (x : Exec) (s : State) : Res :=
  fin (s.cmd m 0xC02 x
    (fun s =>
      let t := s.pay m 0 1
      s.headChecks m (· = 16) ++
      [chk ST_BAD_ARGUMENT (s.pay m 1 3 ≠ 0), chk ST_ZERO_INVALID (s.pay m 4 4 = 0),
       chk ST_BAD_ARGUMENT (!tableIds.contains t || decide (tableMax t < s.pay m 4 4) || s.pay m 8 8 % 64 ≠ 0),
       chk (ST_BAD_ARGUMENT + 65536) (!s.lead),
       chk (ST_REJECT_INCONSISTENT + 65536 * (4096 * t + 12)) (s.rd MBX_DT_BIND.ENTRY_COUNT t ≠ s.pay m 4 4),
       chk ST_WRONG_MODE (!s.fwdMode)])
    (fun s => (s.updTable (s.pay m 0 1) fun y => { y with addr := some (s.pay m 8 8) }).complete m ST_OK))

/-- The partner is in PAIRED or RESYNC: it has reported SYNCED and has not been seen unpaired since, or a resync runs. -/
def State.partnerPairs (s : State) : Bool :=
  s.bit TWN_STAT.PARTNER && !s.bit TWN_STAT.PARTNER_ROLE &&
  (s.twin.resyncing || (s.twSt = twPAIRED && s.twin.pairSeen.isNone))

/-- CMD_TWN_RESYNC (R465, R487): the resync goes on after the completion. -/
def execCmdTwnResync (m : Fin 16) (x : Exec) (s : State) : Res :=
  fin (s.cmd m 0xC03 x
    (fun s => s.headChecks m (· = 0) ++
      [chk (ST_BAD_ARGUMENT + 65536) (!s.lead),
       chk (ST_BAD_ARGUMENT + 2 * 65536) (!s.partnerPairs),
       chk ST_WRONG_MODE (!s.fwdMode)])
    (fun s => s.startResync.complete m ST_OK))

/-- CMD_TWN_COUNTERS_READ. -/
def execCmdTwnCountersRead (m : Fin 16) (x : Exec) (s : State) : Res :=
  fin (s.countersCmd m 0xC04 x 0 0 16 State.fwdMode (fun _ => twnSlot 0))

end Sys2Proof.Machine
end

