-- ==== Sys2Proof/Machine/Dispatch.lean ====
section
/-! DEFINITION. Sys2Proof/Machine/Dispatch.lean: one arm per command, each one call of its meaning. -/
namespace Sys2Proof.Machine

/-- The effect of a command on everything but the queue. -/
def exec (i : Instr) (s : State) : Host.Outcome State Fault Refusal :=
  match i with
  -- Power, reset, SMBus, boundary scan, modes, clocks and boot (chapters 2 and 3)
  | .feedConnect f volt => Sys2Proof.Machine.execFeedConnect f volt s
  | .feedDisconnect f overV load => Sys2Proof.Machine.execFeedDisconnect f overV load s
  | .rideThroughEnd => Sys2Proof.Machine.execRideThroughEnd s
  | .chargeComplete f => Sys2Proof.Machine.execChargeComplete f s
  | .powerOnReset straps => Sys2Proof.Machine.execPowerOnReset straps s
  | .railRampTimeout r => Sys2Proof.Machine.execRailRampTimeout r s
  | .railLeavesRegulation r => Sys2Proof.Machine.execRailLeavesRegulation r s
  | .tempEstimate caseT dieMax => Sys2Proof.Machine.execTempEstimate caseT dieMax s
  | .feedMonitorUpdate va ca vb cb revA revB => Sys2Proof.Machine.execFeedMonitorUpdate va ca vb cb revA revB s
  | .resetPin lowNs => Sys2Proof.Machine.execResetPin lowNs s
  | .softwareModuleReset data => Sys2Proof.Machine.execSoftwareModuleReset data s
  | .softwareSwitchReset data => Sys2Proof.Machine.execSoftwareSwitchReset data s
  | .grangeWatchdogReset => Sys2Proof.Machine.execGrangeWatchdogReset s
  | .pcieFundamentalReset low => Sys2Proof.Machine.execPcieFundamentalReset low s
  | .smbRegisterWrite count ofs data pec => Sys2Proof.Machine.execSmbRegisterWrite count ofs data pec s
  | .smbRegisterRead count ofs => Sys2Proof.Machine.execSmbRegisterRead count ofs s
  | .smbAlertResponse => Sys2Proof.Machine.execSmbAlertResponse s
  | .smbClockLowTimeout => Sys2Proof.Machine.execSmbClockLowTimeout s
  | .tapInstruction op => Sys2Proof.Machine.execTapInstruction op s
  | .tapReset => Sys2Proof.Machine.execTapReset s
  | .modeRequest mode smbus => Sys2Proof.Machine.execModeRequest mode smbus s
  | .ocxoHoldWarmWrite v => Sys2Proof.Machine.execOcxoHoldWarmWrite v s
  | .transitionComplete => Sys2Proof.Machine.execTransitionComplete s
  | .oldRailsOff => Sys2Proof.Machine.execOldRailsOff s
  | .warmupToTimekeep => Sys2Proof.Machine.execWarmupToTimekeep s
  | .ocxoWarmSet err => Sys2Proof.Machine.execOcxoWarmSet err s
  | .ocxoWarmClear err => Sys2Proof.Machine.execOcxoWarmClear err s
  | .mdllLock => Sys2Proof.Machine.execMdllLock s
  | .lanePowered lane => Sys2Proof.Machine.execLanePowered lane s
  | .bootCheckDone r => Sys2Proof.Machine.execBootCheckDone r s
  | .registerWrite bar2 ofs len data => Sys2Proof.Machine.execRegisterWrite bar2 ofs len data s
  | .d2dTransferFail retryGood => Sys2Proof.Machine.execD2dTransferFail retryGood s
  -- The Grange: mailboxes, commits, tables, registers (chapters 4 and 18)
  | .doorbell ring => Sys2Proof.Machine.execDoorbell ring s
  | .mailboxWrite ofs data => Sys2Proof.Machine.execMailboxWrite ofs data s
  | .fencedCommandStart m => Sys2Proof.Machine.execFencedCommandStart m s
  | .cmdNop m x => Sys2Proof.Machine.execCmdNop m x s
  | .cmdIdentify m x => Sys2Proof.Machine.execCmdIdentify m x s
  | .cmdFence m x => Sys2Proof.Machine.execCmdFence m x s
  | .fenceRelease m => Sys2Proof.Machine.execFenceRelease m s
  | .fenceTimeout m => Sys2Proof.Machine.execFenceTimeout m s
  | .cmdTableBind m x => Sys2Proof.Machine.execCmdTableBind m x s
  | .cmdTableSync m x => Sys2Proof.Machine.execCmdTableSync m x s
  | .cmdTableRead m x => Sys2Proof.Machine.execCmdTableRead m x s
  | .cmdCommit m x => Sys2Proof.Machine.execCmdCommit m x s
  | .cmdConfigSave m x => Sys2Proof.Machine.execCmdConfigSave m x s
  | .cmdConfigRestore m x => Sys2Proof.Machine.execCmdConfigRestore m x s
  | .cmdImageDownload m x => Sys2Proof.Machine.execCmdImageDownload m x s
  | .cmdImageActivate m x => Sys2Proof.Machine.execCmdImageActivate m x s
  | .commitGo w => Sys2Proof.Machine.execCommitGo w s
  | .commitDiscard w => Sys2Proof.Machine.execCommitDiscard w s
  | .commitCheckDone g => Sys2Proof.Machine.execCommitCheckDone g s
  | .commitApplyAt g => Sys2Proof.Machine.execCommitApplyAt g s
  | .commitApplyBoundary g => Sys2Proof.Machine.execCommitApplyBoundary g s
  | .committedViewWrite ofs => Sys2Proof.Machine.execCommittedViewWrite ofs s
  | .tableNotify t w => Sys2Proof.Machine.execTableNotify t w s
  | .entryFetchDone t r bytes => Sys2Proof.Machine.execEntryFetchDone t r bytes s
  | .msixUnmask v => Sys2Proof.Machine.execMsixUnmask v s
  | .flashOperationDone m x r1 r2 => Sys2Proof.Machine.execFlashOperationDone m x r1 r2 s
  | .loReadLatch ofs => Sys2Proof.Machine.execLoReadLatch ofs s
  -- Client ports (chapter 5)
  | .signalDetect o => Sys2Proof.Machine.execSignalDetect o s
  | .adaptDone o => Sys2Proof.Machine.execAdaptDone o s
  | .alignLock p localF remoteF => Sys2Proof.Machine.execAlignLock p localF remoteF s
  | .attemptTimeout p => Sys2Proof.Machine.execAttemptTimeout p s
  | .upDebounceExpiry p => Sys2Proof.Machine.execUpDebounceExpiry p s
  | .portLinkFault p sig lock loc rem => Sys2Proof.Machine.execPortLinkFault p sig lock loc rem s
  | .glitch p => Sys2Proof.Machine.execGlitch p s
  | .downDebounceExpiry p => Sys2Proof.Machine.execDownDebounceExpiry p s
  | .fecDegradeWindow p c => Sys2Proof.Machine.execFecDegradeWindow p c s
  | .receiveFrame p k bytes codeErr cut inst => Sys2Proof.Machine.execReceiveFrame p k bytes codeErr cut inst s
  | .receiveFragment p k last bytes mcrcOk codeErr inst => Sys2Proof.Machine.execReceiveFragment p k last bytes mcrcOk codeErr inst s
  | .pauseTakesEffect p => Sys2Proof.Machine.execPauseTakesEffect p s
  | .pauseTimerExpiry p c => Sys2Proof.Machine.execPauseTimerExpiry p c s
  | .pfcFrameSend p => Sys2Proof.Machine.execPfcFrameSend p s
  | .pfcRepeat p => Sys2Proof.Machine.execPfcRepeat p s
  | .verifyTimeout p => Sys2Proof.Machine.execVerifyTimeout p s
  | .optIntEdge bus low => Sys2Proof.Machine.execOptIntEdge bus low s
  | .tallyFold => Sys2Proof.Machine.execTallyFold s
  | .cmdPrtCountersRead m x => Sys2Proof.Machine.execCmdPrtCountersRead m x s
  | .cmdPrtOptXfer m x status idx data => Sys2Proof.Machine.execCmdPrtOptXfer m x status idx data s
  -- The Sheaf line interface (chapter 6)
  | .codewordLock w => Sys2Proof.Machine.execCodewordLock w s
  | .codewordLockLost lane l => Sys2Proof.Machine.execCodewordLockLost lane l s
  | .grainSlot lane dep => Sys2Proof.Machine.execGrainSlot lane dep s
  | .dataGrainReceived c bytes blocks badFec strays fec => Sys2Proof.Machine.execDataGrainReceived c bytes blocks badFec strays fec s
  | .timingGrainReceived c bytes e rx => Sys2Proof.Machine.execTimingGrainReceived c bytes e rx s
  | .grainLossTimeout h => Sys2Proof.Machine.execGrainLossTimeout h s
  | .syncWaitExpiry h => Sys2Proof.Machine.execSyncWaitExpiry h s
  | .keepaliveExpiry c => Sys2Proof.Machine.execKeepaliveExpiry c s
  | .carrierAttemptTimeout o => Sys2Proof.Machine.execCarrierAttemptTimeout o s
  | .parkLossWaitExpiry c => Sys2Proof.Machine.execParkLossWaitExpiry c s
  | .cmdShfCarrierOp m x => Sys2Proof.Machine.execCmdShfCarrierOp m x s
  | .carrierOpTimeout m => Sys2Proof.Machine.execCarrierOpTimeout m s
  | .cmdShfCountersRead m x => Sys2Proof.Machine.execCmdShfCountersRead m x s
  -- The forwarding core (chapter 7)
  | .installResume t => Sys2Proof.Machine.execInstallResume t s
  | .egressFrameStart p dep => Sys2Proof.Machine.execEgressFrameStart p dep s
  | .pipelineFrame k => Sys2Proof.Machine.execPipelineFrame k s
  | .bucketReadDone k => Sys2Proof.Machine.execBucketReadDone k s
  | .planeCrossing j => Sys2Proof.Machine.execPlaneCrossing j s
  | .planeDrainEnd => Sys2Proof.Machine.execPlaneDrainEnd s
  | .reaperVisit => Sys2Proof.Machine.execReaperVisit s
  | .linkHoldExpiry e => Sys2Proof.Machine.execLinkHoldExpiry e s
  | .cmdFwdCountersRead m x => Sys2Proof.Machine.execCmdFwdCountersRead m x s
  | .cmdFwdQueueStat m x => Sys2Proof.Machine.execCmdFwdQueueStat m x s
  | .cmdFwdFlush m x => Sys2Proof.Machine.execCmdFwdFlush m x s
  -- The Granary (chapter 8)
  | .txFrameComplete e bad => Sys2Proof.Machine.execTxFrameComplete e bad s
  | .spillWriteDone e q bwHeld => Sys2Proof.Machine.execSpillWriteDone e q bwHeld s
  | .recallPageReadDone e q f => Sys2Proof.Machine.execRecallPageReadDone e q f s
  | .siloCacheRefill => Sys2Proof.Machine.execSiloCacheRefill s
  | .gleanerSweep => Sys2Proof.Machine.execGleanerSweep s
  | .cmdGrnCountersRead m x => Sys2Proof.Machine.execCmdGrnCountersRead m x s
  | .cmdGrnCellTest m x bad => Sys2Proof.Machine.execCmdGrnCellTest m x bad s
  | .cmdGrnSweep m x => Sys2Proof.Machine.execCmdGrnSweep m x s
  -- The Almanac (chapter 9)
  | .slewResidueZero n => Sys2Proof.Machine.execSlewResidueZero n s
  | .sheafEgressDecision h => Sys2Proof.Machine.execSheafEgressDecision h s
  | .windowEnd h => Sys2Proof.Machine.execWindowEnd h s
  | .cmdAlmCountersRead m x => Sys2Proof.Machine.execCmdAlmCountersRead m x s
  | .cmdAlmBankCheck m x => Sys2Proof.Machine.execCmdAlmBankCheck m x s
  | .cmdAlmRealign m x => Sys2Proof.Machine.execCmdAlmRealign m x s
  -- Time bases (chapter 10)
  | .hostTimeoutExpiry n => Sys2Proof.Machine.execHostTimeoutExpiry n s
  | .adjustApply n => Sys2Proof.Machine.execAdjustApply n s
  | .snapshot data => Sys2Proof.Machine.execSnapshot data s
  | .rptConsWrite p data => Sys2Proof.Machine.execRptConsWrite p data s
  | .triggerPulse k => Sys2Proof.Machine.execTriggerPulse k s
  | .triggerPulseEnd k => Sys2Proof.Machine.execTriggerPulseEnd k s
  | .cmdTbsAdjust m x => Sys2Proof.Machine.execCmdTbsAdjust m x s
  | .cmdTbsSet m x => Sys2Proof.Machine.execCmdTbsSet m x s
  | .cmdTbsReportBind m x => Sys2Proof.Machine.execCmdTbsReportBind m x s
  | .cmdTbsCountersRead m x => Sys2Proof.Machine.execCmdTbsCountersRead m x s
  -- Time transfer (chapter 11)
  | .measSetEntry c => Sys2Proof.Machine.execMeasSetEntry c s
  | .ttWindowEnd h => Sys2Proof.Machine.execTtWindowEnd h s
  | .tcWindowEnd h => Sys2Proof.Machine.execTcWindowEnd h s
  | .cmdShfTtCarriers m x => Sys2Proof.Machine.execCmdShfTtCarriers m x s
  | .cmdShfTtCountersRead m x => Sys2Proof.Machine.execCmdShfTtCountersRead m x s
  -- References and holdover (chapter 12)
  | .refinEdge k falling inst => Sys2Proof.Machine.execRefinEdge k falling inst s
  | .refSignalTimeout k => Sys2Proof.Machine.execRefSignalTimeout k s
  | .nmeaSentence bs => Sys2Proof.Machine.execNmeaSentence bs s
  | .ptpSample => Sys2Proof.Machine.execPtpSample s
  | .qualifyExpiry j => Sys2Proof.Machine.execQualifyExpiry j s
  | .requalExpiry j => Sys2Proof.Machine.execRequalExpiry j s
  | .phaseStepApply => Sys2Proof.Machine.execPhaseStepApply s
  | .learnerRecord => Sys2Proof.Machine.execLearnerRecord s
  | .holdoverUpdate => Sys2Proof.Machine.execHoldoverUpdate s
  | .freqWordWrite w => Sys2Proof.Machine.execFreqWordWrite w s
  | .pePush => Sys2Proof.Machine.execPePush s
  | .peRead => Sys2Proof.Machine.execPeRead s
  | .swStale => Sys2Proof.Machine.execSwStale s
  | .cmdRefForce m x => Sys2Proof.Machine.execCmdRefForce m x s
  | .cmdRefGnssSend m x => Sys2Proof.Machine.execCmdRefGnssSend m x s
  | .cmdRefCountersRead m x => Sys2Proof.Machine.execCmdRefCountersRead m x s
  | .cmdRefModelClear m x => Sys2Proof.Machine.execCmdRefModelClear m x s
  | .ppsoPulse k => Sys2Proof.Machine.execPpsoPulse k s
  | .ppsoPulseEnd k => Sys2Proof.Machine.execPpsoPulseEnd k s
  -- Clock synthesis (chapter 13)
  | .lockLost => Sys2Proof.Machine.execLockLost s
  | .rampUpdate => Sys2Proof.Machine.execRampUpdate s
  | .ckoOutputStart k => Sys2Proof.Machine.execCkoOutputStart k s
  | .ckoSwitchEdge k => Sys2Proof.Machine.execCkoSwitchEdge k s
  | .ckoStepEdge k => Sys2Proof.Machine.execCkoStepEdge k s
  | .cmdSynRampStart m x => Sys2Proof.Machine.execCmdSynRampStart m x s
  | .cmdSynRampStop m x => Sys2Proof.Machine.execCmdSynRampStop m x s
  -- Interval measurement (chapter 14)
  | .tdcArm => Sys2Proof.Machine.execTdcArm s
  | .tdcEdge ch e bin x => Sys2Proof.Machine.execTdcEdge ch e bin x s
  | .tdcTimeout => Sys2Proof.Machine.execTdcTimeout s
  | .tdcResultLatch => Sys2Proof.Machine.execTdcResultLatch s
  | .tdcResultRemove => Sys2Proof.Machine.execTdcResultRemove s
  | .tdcBinDataAccess w => Sys2Proof.Machine.execTdcBinDataAccess w s
  | .cmdTdcRun m x => Sys2Proof.Machine.execCmdTdcRun m x s
  | .cmdTdcStop m x => Sys2Proof.Machine.execCmdTdcStop m x s
  | .cmdTdcBinCal m x => Sys2Proof.Machine.execCmdTdcBinCal m x s
  | .binCalDone h0 h1 => Sys2Proof.Machine.execBinCalDone h0 h1 s
  -- Calibration (chapter 15)
  | .pathMeasured k base noisy => Sys2Proof.Machine.execPathMeasured k base noisy s
  | .calRunDone => Sys2Proof.Machine.execCalRunDone s
  | .trimRampStep k => Sys2Proof.Machine.execTrimRampStep k s
  | .ocxoRetuneStep => Sys2Proof.Machine.execOcxoRetuneStep s
  | .calPathTrimAccess w => Sys2Proof.Machine.execCalPathTrimAccess w s
  | .cmdCalTrace m x signal loop => Sys2Proof.Machine.execCmdCalTrace m x signal loop s
  | .cmdCalFreq m x signal => Sys2Proof.Machine.execCmdCalFreq m x signal s
  | .calFreqIntervalEnd m err => Sys2Proof.Machine.execCalFreqIntervalEnd m err s
  -- Integrity and events (chapter 16)
  | .retryResult p r w => Sys2Proof.Machine.execRetryResult p r w s
  | .d2dReset data trained => Sys2Proof.Machine.execD2dReset data trained s
  | .replicaReload => Sys2Proof.Machine.execReplicaReload s
  | .logRecordEntry => Sys2Proof.Machine.execLogRecordEntry s
  | .logLatch => Sys2Proof.Machine.execLogLatch s
  | .logRemove => Sys2Proof.Machine.execLogRemove s
  | .vectorRearm data => Sys2Proof.Machine.execVectorRearm data s
  | .cmdEvtLogRead m x => Sys2Proof.Machine.execCmdEvtLogRead m x s
  | .cmdEvtSpareReport m x => Sys2Proof.Machine.execCmdEvtSpareReport m x s
  -- The twin pair (chapter 17)
  | .heartbeatSend => Sys2Proof.Machine.execHeartbeatSend s
  | .heartbeatReceived lane bytes rx => Sys2Proof.Machine.execHeartbeatReceived lane bytes rx s
  | .mirrorMessageReceived lane bytes => Sys2Proof.Machine.execMirrorMessageReceived lane bytes s
  | .messageLossTimeout => Sys2Proof.Machine.execMessageLossTimeout s
  | .partnerLost => Sys2Proof.Machine.execPartnerLost s
  | .laneDown lane => Sys2Proof.Machine.execLaneDown lane s
  | .pairWaitExpiry => Sys2Proof.Machine.execPairWaitExpiry s
  | .txnApply => Sys2Proof.Machine.execTxnApply s
  | .resyncDone => Sys2Proof.Machine.execResyncDone s
  | .relinquishTimeout => Sys2Proof.Machine.execRelinquishTimeout s
  | .degradeHoldExpiry => Sys2Proof.Machine.execDegradeHoldExpiry s
  | .wtrExpiry => Sys2Proof.Machine.execWtrExpiry s
  | .heartbeatSilence => Sys2Proof.Machine.execHeartbeatSilence s
  | .carrierMessageSend => Sys2Proof.Machine.execCarrierMessageSend s
  | .countMessageSend => Sys2Proof.Machine.execCountMessageSend s
  | .checkMessageSend => Sys2Proof.Machine.execCheckMessageSend s
  | .cmdTwnSwitch m x => Sys2Proof.Machine.execCmdTwnSwitch m x s
  | .cmdTwnTableAdopt m x => Sys2Proof.Machine.execCmdTwnTableAdopt m x s
  | .cmdTwnResync m x => Sys2Proof.Machine.execCmdTwnResync m x s
  | .cmdTwnCountersRead m x => Sys2Proof.Machine.execCmdTwnCountersRead m x s

end Sys2Proof.Machine
end

