-- ==== Sys2Proof/Machine/Tick.lean ====
section
/-! DEFINITION. Sys2Proof/Machine/Tick.lean: the end of a tick, which an empty queue brings (log entry 1): what the rules
judge over a whole tick, and the tick that follows. -/
namespace Sys2Proof.Machine

/-- CLAMPED rises or falls as W slews (R387). -/
def State.noteClamp (s : State) : State :=
  if s.railOk 4 && s.tickRun && s.clamped ≠ s.bit SYN_STAT.CLAMPED then s.noteSteer else s

/-- The end of the tick: the reports due are written (R318, R322), traces whose pulses are over end (R436), selection is
evaluated (R369), CLAMPED is judged (R387). -/
def State.endTick (s : State) : State :=
  let s := s.writeReports.endTraces
  let s := if s.ref.due then s.selectNow else s
  s.noteClamp.settle

/-- The tick after this one: in DORMANT each 40 ns period of the 25 MHz clock, 64 ticks of 625 ps, stands for one (R448). -/
def State.nextTick (s : State) : Nat := if s.mode = mDORMANT then (s.now / 64 + 1) * 64 else s.now + 1

/-- What a step on an empty queue does. -/
def State.idle (s : State) : State :=
  let s := s.endTick
  { s with now := s.nextTick }

end Sys2Proof.Machine
end

