-- ==== Sys2Proof/Machine/Pins.lean ====
section
/-! DEFINITION. Sys2Proof/Machine/Pins.lean: what the module's output pins are driven to (R45-R50, R54-R62, R68, R77). -/
namespace Sys2Proof.Machine

/-- What drives a pin: nothing, so that it is high-impedance (a transmitter is not driven, an open-drain output is
released); a pull-down to GND of so many kΩ; electrical idle; a level; the PRBS31 pattern of a held lane; its cell of
the boundary register; or the signal of its block. -/
inductive Drive where
  | undriven
  | pullDown (kohm : Nat)
  | idle
  | level (high : Bool)
  | prbs31
  | scanned
  | signal
  deriving DecidableEq, Repr

/-- The output pins. The lanes are L0-L255 and, from 256 on, M0-M3; `n` is the N leg of a clock output. -/
inductive OutPin where
  | lane (i : Fin 260)
  | pcie
  | cko (k : Fin 12) (n : Bool)
  | ppso (k : Fin 2)
  | trig (k : Fin 8)
  | twinRole
  | pgood
  | faultN
  | feedOk (f : Fin 2)
  | smbAlertN
  | gnssTxd
  | smbClk
  | smbDat
  | optScl (n : Fin 16)
  | optSda (n : Fin 16)
  deriving DecidableEq, Repr

/-- The boundary-scan chain covers the pin (R68). -/
def OutPin.onChain : OutPin → Bool
  | .lane _ => false
  | .pcie => false
  | _ => true

/-- The input pins on the chain (R54-R57, R68), which a test instruction observes and does not drive. -/
inductive InPin where
  | perstN
  | gnssRxd
  | optIntN (n : Fin 16)
  | resetN
  | smbAddr (n : Fin 3)
  | refin (k : Fin 4)
  | calIn
  | tdcStart
  | tdcStop
  deriving DecidableEq, Repr

/-- Levels of the input pins that the state holds; the others come with commands, as edges. -/
def State.inLevel (s : State) : InPin → Option Bool
  | .perstN => some (!s.pwr.perstLow)
  | .optIntN n => some (!testBit s.pwr.optLow n)
  | .smbAddr n => some (testBit s.pwr.straps n)
  | _ => none

/-- An open-drain output (R55): it pulls low or is released. -/
def openDrain (low : Bool) : Drive := if low then .level false else .undriven

/-- A lane with its module powered (R62, R77, R85): not driven in DORMANT, idle in ISOLATE; a held lane sends PRBS31; else
the signal of its port, carrier or mirror link while it has power. -/
def State.laneDrive (s : State) (i : Nat) : Drive :=
  if s.mode = mDORMANT then .undriven
  else if s.mode = mISOLATE then .idle
  else if s.pwr.held.contains i then .prbs31
  else if s.pwr.lanes.contains i then .signal
  else .undriven

/-- The N leg of an LVCMOS output is held low (R59). -/
def State.lvcmos (s : State) (k : Nat) : Bool := s.com SYN_CKO_CFG.OPT k = 2

/-- A leg of a clock output (R59, R62, R398): while it runs, its signal; else the inactive level, P low and N high. The N
leg of an LVCMOS output is low in ISOLATE too: R59 holds it low, and R62 gives N high (DESIGN CHOICE, log entry 120). -/
def State.ckoDrive (s : State) (k : Nat) (n : Bool) : Drive :=
  let c := s.cko k
  if s.mode = mDORMANT then .undriven
  else if n && s.lvcmos k then .level false
  else if !s.quiet && (c.run || decide (now5 s.now < c.rest5)) then .signal
  else .level n

/-- A pin of a powered module outside boundary scan (R46-R50, R62, R67). A pin that R62 does not list is high-impedance in
DORMANT, but for those of the always-on domain. -/
def State.pinState (s : State) : OutPin → Drive
  | .lane i => s.laneDrive i
  | .pcie => if s.mode = mDORMANT then .undriven else if s.mode = mISOLATE then .idle else
      if s.gr.linkUp then .signal else .idle
  | .cko k n => s.ckoDrive k n
  | .ppso k => .level (!s.quiet && (SMap.at! s.ref.ppso k).fall.isSome)
  | .trig k => .level (!s.quiet && (SMap.at! s.tb.trigs k).high)
  | .twinRole => .level s.twinPin
  | .pgood => .level s.pgood
  | .faultN => openDrain !s.faultN
  | .feedOk f => .level (s.feedOk f)
  | .smbAlertN => openDrain s.smbAlert
  | .gnssTxd => if s.mode = mDORMANT then .undriven else .signal
  | .smbClk => .signal
  | .smbDat => .signal
  | .optScl _ => if s.mode = mDORMANT then .undriven else .signal
  | .optSda _ => if s.mode = mDORMANT then .undriven else .signal

/-- The module unpowered (R46, R49, R62). -/
def OutPin.unpowered : OutPin → Drive
  | .ppso _ => .pullDown 100
  | .trig _ => .pullDown 100
  | .twinRole => .pullDown 10
  | .pgood => .pullDown 10
  | _ => .undriven

/-- What drives pin `p`. EXTEST and CLAMP drive the pins of the chain from the boundary register and HIGHZ releases them,
in ISOLATE only (R68). -/
def State.drive (s : State) (p : OutPin) : Drive :=
  if s.pwr.aon ≠ .up then p.unpowered
  else if s.mode = mISOLATE && p.onChain then
    match s.pwr.tap with
    | .extest => .scanned
    | .clamp => .scanned
    | .highz => .undriven
    | _ => s.pinState p
  else s.pinState p

end Sys2Proof.Machine
end

