-- ==== Sys2Proof/Safety.lean ====
section
/-! DEFINITION. Sys2Proof/Safety.lean: the terms in which claims speak of steps and runs. -/
namespace Sys2Proof.Machine

/-- Command `c` in state `s` answers the next state `t`. -/
def Gives (c : Instr) (s t : State) : Prop := exec c s = .next t

/-- Command `c` in state `s` answers a next state of which `P` holds. -/
def Yields (c : Instr) (s : State) (P : State → Prop) : Prop := ∃ t, exec c s = .next t ∧ P t

/-- `n` steps from `s` all answer a next state. -/
def SafeRun : Nat → State → Prop
  | 0, _ => True
  | n + 1, s => ∃ t, step s = .next t ∧ SafeRun n t

/-- Every waiting command can be sent. -/
def State.queueWf (s : State) : Prop := ∀ c ∈ s.pending, c.wf = true

/-! ### What a step leaves alone -/

/-- The parts of `State` beside the registers, the queue and the model time. -/
inductive Part where
  | nextOrd | nextFrame | nextFree | committed | latches | mem | pwr | boot | gr | evt | tally | tacc | ports | cars
  | sheaves | fwd | grn | alm | tb | tt | ref | syn | tdc | cal | twin | out
  deriving DecidableEq, Repr

/-- The two states agree in a part. -/
def Part.same : Part → State → State → Prop
  | .nextOrd, s, t => t.nextOrd = s.nextOrd
  | .nextFrame, s, t => t.nextFrame = s.nextFrame
  | .nextFree, s, t => t.nextFree = s.nextFree
  | .committed, s, t => t.committed = s.committed
  | .latches, s, t => t.latches = s.latches
  | .mem, s, t => t.mem = s.mem
  | .pwr, s, t => t.pwr = s.pwr
  | .boot, s, t => t.boot = s.boot
  | .gr, s, t => t.gr = s.gr
  | .evt, s, t => t.evt = s.evt
  | .tally, s, t => t.tally = s.tally
  | .tacc, s, t => t.tacc = s.tacc
  | .ports, s, t => t.ports = s.ports
  | .cars, s, t => t.cars = s.cars
  | .sheaves, s, t => t.sheaves = s.sheaves
  | .fwd, s, t => t.fwd = s.fwd
  | .grn, s, t => t.grn = s.grn
  | .alm, s, t => t.alm = s.alm
  | .tb, s, t => t.tb = s.tb
  | .tt, s, t => t.tt = s.tt
  | .ref, s, t => t.ref = s.ref
  | .syn, s, t => t.syn = s.syn
  | .tdc, s, t => t.tdc = s.tdc
  | .cal, s, t => t.cal = s.cal
  | .twin, s, t => t.twin = s.twin
  | .out, s, t => t.out = s.out

/-- What a command may change: parts of the state, registers by name, whole register blocks by number (R490). -/
structure Scope where
  parts : List Part := []
  regs : List Reg := []
  blocks : List Nat := []
  deriving DecidableEq, Repr

/-- `k` is the offset of an instance of `r`. -/
def Reg.hits (r : Reg) (k : Nat) : Prop := ∃ i, i < r.count ∧ k = r.at i

/-- Registers, committed copies and mailbox memory are in canonical form. -/
structure State.canon (s : State) : Prop where
  regs : SMap.rising s.regs
  committed : SMap.rising s.committed
  mem : Memory.wf s.mem = true

/-- `t` differs from `s` within `sc` at most: the queue, the model time, every part and every register outside `sc` are
as they were, a canonical form is kept, and what the module sent is only added to. -/
structure Within (sc : Scope) (s t : State) : Prop where
  pending : t.pending = s.pending
  now : t.now = s.now
  part : ∀ p, p ∉ sc.parts → p.same s t
  reg : ∀ k, (∀ r ∈ sc.regs, ¬ r.hits k) → blockOf k ∉ sc.blocks → ∀ d, SMap.get d t.regs k = SMap.get d s.regs k
  canon : s.canon → t.canon
  out : s.out <+: t.out

end Sys2Proof.Machine

namespace Sys2Proof
open Sys2Proof.Machine

/-- What each command may change: its own work, and what follows every command in its tick (versions freed, fences noted,
MBX_GRANGE_STAT.AWAKE, vectors sent). -/
def Instr.scope : Instr → Scope
  -- Power, reset, SMBus, boundary scan, modes, clocks and boot (chapters 2 and 3)
  | .feedConnect _ _ => ⟨[.nextOrd, .pwr, .gr, .evt, .out], [R.MBX_GRANGE_STAT, R.FWD_VER_STAT, R.PWR_FEED_STAT,
      R.PWR_EVT_STAT], []⟩
  | .feedDisconnect _ _ _ => ⟨[.nextOrd, .pwr, .gr, .evt, .out], [R.MBX_GRANGE_STAT, R.FWD_VER_STAT, R.PWR_FEED_STAT,
      R.PWR_EVT_STAT], []⟩
  | .rideThroughEnd => ⟨[.nextOrd, .committed, .latches, .mem, .pwr, .boot, .gr, .evt, .tally, .tacc, .ports, .cars,
      .sheaves, .fwd, .grn, .alm, .tb, .tt, .ref, .syn, .tdc, .cal, .twin, .out], [R.PWR_MODE_CTL, R.PWR_MODE_STAT,
      R.PWR_FEED_STAT, R.PWR_RAIL_STAT, R.PWR_EVT_STAT, R.PWR_CLK_STAT, R.PWR_OCXO_STAT, R.PWR_BOOT_STAT, R.EVT_FCNT],
      [0, 1, 2, 3, 4, 5, 6, 7, 8, 9, 10, 11, 12, 14]⟩
  | .chargeComplete _ => ⟨[.nextOrd, .pwr, .gr, .evt, .out], [R.MBX_GRANGE_STAT, R.FWD_VER_STAT], []⟩
  | .powerOnReset _ => ⟨[.nextOrd, .nextFrame, .nextFree, .committed, .latches, .mem, .pwr, .boot, .gr, .evt, .tally,
      .tacc, .ports, .cars, .sheaves, .fwd, .grn, .alm, .tb, .tt, .ref, .syn, .tdc, .cal, .twin, .out], [], [0, 1, 2,
      3, 4, 5, 6, 7, 8, 9, 10, 11, 12, 13, 14, 255]⟩
  | .railRampTimeout _ => ⟨[.nextOrd, .committed, .latches, .mem, .pwr, .boot, .gr, .evt, .tally, .tacc, .ports,
      .cars, .sheaves, .fwd, .grn, .alm, .tb, .tt, .ref, .syn, .tdc, .cal, .twin, .out], [R.PWR_MODE_CTL,
      R.PWR_MODE_STAT, R.PWR_RAIL_STAT, R.PWR_EVT_STAT, R.PWR_CLK_STAT, R.PWR_OCXO_STAT, R.PWR_BOOT_STAT, R.EVT_FCNT],
      [0, 1, 2, 3, 4, 5, 6, 7, 8, 9, 10, 11, 12, 14]⟩
  | .railLeavesRegulation _ => ⟨[.nextOrd, .committed, .latches, .mem, .pwr, .boot, .gr, .evt, .tally, .tacc, .ports,
      .cars, .sheaves, .fwd, .grn, .alm, .tb, .tt, .ref, .syn, .tdc, .cal, .twin, .out], [R.PWR_MODE_CTL,
      R.PWR_MODE_STAT, R.PWR_FEED_STAT, R.PWR_RAIL_STAT, R.PWR_EVT_STAT, R.PWR_CLK_STAT, R.PWR_OCXO_STAT,
      R.PWR_BOOT_STAT, R.EVT_FCNT], [0, 1, 2, 3, 4, 5, 6, 7, 8, 9, 10, 11, 12, 14]⟩
  | .tempEstimate _ _ => ⟨[.nextOrd, .pwr, .gr, .evt, .tacc, .tdc, .cal, .twin, .out], [R.MBX_GRANGE_STAT,
      R.FWD_VER_STAT, R.TDC_STAT, R.TDC_EVT_STAT, R.CAL_STAT, R.CAL_EVT_STAT, R.EVT_STAT, R.TWN_STAT, R.PWR_MODE_CTL,
      R.PWR_MODE_STAT, R.PWR_RAIL_STAT, R.PWR_EVT_STAT, R.PWR_TEMP, R.PWR_CLK_STAT], []⟩
  | .feedMonitorUpdate _ _ _ _ _ _ => ⟨[.nextOrd, .pwr, .gr, .evt, .out], [R.MBX_GRANGE_STAT, R.FWD_VER_STAT,
      R.PWR_FEED_STAT, R.PWR_FEED_MON_0, R.PWR_FEED_MON_1], []⟩
  | .resetPin _ => ⟨[.nextOrd, .nextFrame, .nextFree, .committed, .latches, .mem, .pwr, .boot, .gr, .evt, .tally,
      .tacc, .ports, .cars, .sheaves, .fwd, .grn, .alm, .tb, .tt, .ref, .syn, .tdc, .cal, .twin, .out], [], [0, 1, 2,
      3, 4, 5, 6, 7, 8, 9, 10, 11, 12, 13, 14, 255]⟩
  | .softwareModuleReset _ => ⟨[.nextOrd, .nextFrame, .nextFree, .committed, .latches, .mem, .pwr, .boot, .gr, .evt,
      .tally, .tacc, .ports, .cars, .sheaves, .fwd, .grn, .alm, .tb, .tt, .ref, .syn, .tdc, .cal, .twin, .out], [],
      [0, 1, 2, 3, 4, 5, 6, 7, 8, 9, 10, 11, 12, 13, 14, 255]⟩
  | .softwareSwitchReset _ => ⟨[.nextOrd, .nextFrame, .nextFree, .committed, .latches, .mem, .pwr, .boot, .gr, .evt,
      .tally, .tacc, .ports, .cars, .sheaves, .fwd, .grn, .alm, .tb, .tt, .ref, .syn, .tdc, .cal, .twin, .out], [],
      [0, 1, 2, 3, 4, 5, 6, 7, 8, 9, 10, 11, 12, 13, 14, 255]⟩
  | .grangeWatchdogReset => ⟨[.nextOrd, .nextFree, .boot, .gr, .evt, .out], [R.MBX_GRANGE_STAT, R.FWD_VER_STAT,
      R.PWR_RESET_CAUSE, R.PWR_BOOT_STAT], []⟩
  | .pcieFundamentalReset _ => ⟨[.nextOrd, .pwr, .gr, .evt, .out], [R.MBX_GRANGE_STAT, R.FWD_VER_STAT,
      R.PWR_RESET_CAUSE], []⟩
  | .smbRegisterWrite _ _ _ _ => ⟨[.nextOrd, .nextFrame, .nextFree, .committed, .latches, .mem, .pwr, .boot, .gr,
      .evt, .tally, .tacc, .ports, .cars, .sheaves, .fwd, .grn, .alm, .tb, .tt, .ref, .syn, .tdc, .cal, .twin, .out],
      [], [0, 1, 2, 3, 4, 5, 6, 7, 8, 9, 10, 11, 12, 13, 14, 255]⟩
  | .smbRegisterRead _ _ => ⟨[.nextOrd, .gr, .evt, .out], [R.MBX_GRANGE_STAT, R.FWD_VER_STAT, R.PWR_SMB_STAT], []⟩
  | .smbAlertResponse => ⟨[.nextOrd, .gr, .evt, .out], [R.MBX_GRANGE_STAT, R.FWD_VER_STAT], []⟩
  | .smbClockLowTimeout => ⟨[.nextOrd, .gr, .evt, .out], [R.MBX_GRANGE_STAT, R.FWD_VER_STAT], []⟩
  | .tapInstruction _ => ⟨[.nextOrd, .pwr, .gr, .evt, .out], [R.MBX_GRANGE_STAT, R.FWD_VER_STAT], []⟩
  | .tapReset => ⟨[.nextOrd, .pwr, .gr, .evt, .out], [R.MBX_GRANGE_STAT, R.FWD_VER_STAT], []⟩
  | .modeRequest _ _ => ⟨[.nextOrd, .pwr, .gr, .evt, .tacc, .tdc, .cal, .twin, .out], [R.MBX_GRANGE_STAT,
      R.FWD_VER_STAT, R.TDC_STAT, R.TDC_EVT_STAT, R.CAL_STAT, R.CAL_EVT_STAT, R.EVT_RESERVED_OFS, R.EVT_STAT,
      R.TWN_STAT, R.PWR_MODE_CTL, R.PWR_MODE_STAT, R.PWR_RAIL_STAT, R.PWR_CLK_STAT], []⟩
  | .ocxoHoldWarmWrite _ => ⟨[.nextOrd, .committed, .latches, .mem, .pwr, .boot, .gr, .evt, .tally, .tacc, .ports,
      .cars, .sheaves, .fwd, .grn, .alm, .tb, .tt, .ref, .syn, .tdc, .cal, .twin, .out], [R.PWR_MODE_CTL,
      R.PWR_RAIL_STAT, R.PWR_CLK_STAT, R.PWR_OCXO_STAT, R.PWR_BOOT_STAT, R.EVT_FCNT], [0, 1, 2, 3, 4, 5, 6, 7, 8, 9,
      10, 11, 12, 14]⟩
  | .transitionComplete => ⟨[.nextOrd, .nextFree, .committed, .latches, .mem, .pwr, .boot, .gr, .evt, .tally, .tacc,
      .ports, .cars, .sheaves, .fwd, .grn, .alm, .tb, .tt, .ref, .syn, .tdc, .cal, .twin, .out], [R.PWR_MODE_CTL,
      R.PWR_MODE_STAT, R.PWR_RAIL_STAT, R.PWR_CLK_STAT, R.PWR_OCXO_STAT, R.PWR_BOOT_STAT, R.EVT_FCNT], [0, 1, 2, 3, 4,
      5, 6, 7, 8, 9, 10, 11, 12, 14]⟩
  | .oldRailsOff => ⟨[.nextOrd, .committed, .latches, .mem, .pwr, .boot, .gr, .evt, .tally, .tacc, .ports, .cars,
      .sheaves, .fwd, .grn, .alm, .tb, .tt, .ref, .syn, .tdc, .cal, .twin, .out], [R.PWR_RAIL_STAT, R.PWR_CLK_STAT,
      R.PWR_OCXO_STAT, R.PWR_BOOT_STAT, R.EVT_FCNT], [0, 1, 2, 3, 4, 5, 6, 7, 8, 9, 10, 11, 12, 14]⟩
  | .warmupToTimekeep => ⟨[.nextOrd, .committed, .latches, .mem, .pwr, .boot, .gr, .evt, .tally, .tacc, .ports, .cars,
      .sheaves, .fwd, .grn, .alm, .tb, .tt, .ref, .syn, .tdc, .cal, .twin, .out], [R.PWR_MODE_CTL, R.PWR_MODE_STAT,
      R.PWR_RAIL_STAT, R.PWR_CLK_STAT, R.PWR_OCXO_STAT, R.PWR_BOOT_STAT, R.EVT_FCNT], [0, 1, 2, 3, 4, 5, 6, 7, 8, 9,
      10, 11, 12, 14]⟩
  | .ocxoWarmSet _ => ⟨[.nextOrd, .pwr, .gr, .evt, .tacc, .tb, .ref, .syn, .twin, .out], [R.MBX_GRANGE_STAT,
      R.PRT_OPT_STAT, R.FWD_VER_STAT, R.TBS_EVT_STAT, R.TBS_TRIG_SKIP, R.REF_EVT_STAT, R.CAL_STAT, R.EVT_STAT,
      R.TWN_STAT, R.PWR_MODE_CTL, R.PWR_RAIL_STAT, R.PWR_CLK_STAT, R.PWR_OCXO_STAT], []⟩
  | .ocxoWarmClear _ => ⟨[.nextOrd, .pwr, .gr, .evt, .ref, .out], [R.MBX_GRANGE_STAT, R.FWD_VER_STAT, R.PWR_CLK_STAT,
      R.PWR_OCXO_STAT], []⟩
  | .mdllLock => ⟨[.nextOrd, .pwr, .gr, .evt, .tb, .ref, .syn, .out], [R.MBX_GRANGE_STAT, R.FWD_VER_STAT,
      R.TBS_EVT_STAT, R.TBS_TRIG_SKIP, R.REF_EVT_STAT, R.PWR_CLK_STAT], []⟩
  | .lanePowered _ => ⟨[.nextOrd, .pwr, .gr, .evt, .tacc, .ports, .cars, .sheaves, .fwd, .grn, .alm, .tt, .ref, .cal,
      .twin, .out], [R.MBX_GRANGE_STAT, R.PRT_STAT, R.PRT_OPT_STAT, R.SHF_SHEAF_STAT, R.SHF_LOSS_WAIT, R.SHF_TT_STAT,
      R.SHF_TT_EVT_STAT, R.SHF_CAR_STAT, R.FWD_VER_STAT, R.FWD_EVT_STAT, R.FWD_EGR_STAT, R.GRN_POOL_STAT,
      R.GRN_SILO_STAT, R.GRN_EVT_STAT, R.ALM_EVT_STAT, R.ALM_EVT_SRC, R.REF_SRC_STAT, R.EVT_STAT, R.PWR_RAIL_STAT,
      R.PWR_CLK_STAT], []⟩
  | .bootCheckDone _ => ⟨[.nextOrd, .nextFree, .mem, .pwr, .boot, .gr, .evt, .tacc, .tdc, .cal, .twin, .out],
      [R.MBX_STATE, R.MBX_RETRY_STAT, R.MBX_GRANGE_STAT, R.FWD_VER_STAT, R.TDC_STAT, R.TDC_EVT_STAT, R.CAL_STAT,
      R.CAL_EVT_STAT, R.EVT_LAST_FAULT, R.EVT_STAT, R.TWN_STAT, R.PWR_MODE_CTL, R.PWR_MODE_STAT, R.PWR_RAIL_STAT,
      R.PWR_CLK_STAT, R.PWR_BOOT_STAT, R.EVT_LASTING, R.EVT_FCNT], []⟩
  | .registerWrite _ _ _ _ => ⟨[.nextOrd, .nextFrame, .nextFree, .committed, .latches, .mem, .pwr, .boot, .gr, .evt,
      .tally, .tacc, .ports, .cars, .sheaves, .fwd, .grn, .alm, .tb, .tt, .ref, .syn, .tdc, .cal, .twin, .out], [],
      [0, 1, 2, 3, 4, 5, 6, 7, 8, 9, 10, 11, 12, 13, 14, 255]⟩
  | .d2dTransferFail _ => ⟨[.nextOrd, .pwr, .gr, .evt, .tacc, .tb, .tdc, .cal, .twin, .out], [R.MBX_GRANGE_STAT,
      R.FWD_VER_STAT, R.TDC_STAT, R.TDC_EVT_STAT, R.CAL_STAT, R.CAL_EVT_STAT, R.EVT_LAST_FAULT, R.EVT_D2D_STAT,
      R.EVT_STAT, R.TWN_STAT, R.PWR_MODE_CTL, R.PWR_MODE_STAT, R.PWR_RAIL_STAT, R.PWR_CLK_STAT, R.EVT_LASTING,
      R.EVT_FCNT], []⟩
  -- The Grange: mailboxes, commits, tables, registers (chapters 4 and 18)
  | .doorbell _ => ⟨[.nextOrd, .mem, .gr, .evt, .out], [R.MBX_STATE, R.MBX_ERR_STAT, R.MBX_GRANGE_STAT,
      R.FWD_VER_STAT], []⟩
  | .mailboxWrite _ _ => ⟨[.nextOrd, .mem, .gr, .evt, .out], [R.MBX_ERR_STAT, R.MBX_GRANGE_STAT, R.FWD_VER_STAT,
      R.EVT_RESERVED_OFS, R.EVT_STAT], []⟩
  | .fencedCommandStart _ => ⟨[.nextOrd, .gr, .evt, .out], [R.MBX_GRANGE_STAT, R.FWD_VER_STAT], []⟩
  | .cmdNop _ _ => ⟨[.nextOrd, .mem, .pwr, .gr, .evt, .tacc, .tdc, .cal, .twin, .out], [R.MBX_STATE, R.MBX_RETRY_STAT,
      R.MBX_GRANGE_STAT, R.FWD_VER_STAT, R.TDC_STAT, R.TDC_EVT_STAT, R.CAL_STAT, R.CAL_EVT_STAT, R.EVT_LAST_FAULT,
      R.EVT_STAT, R.TWN_STAT, R.PWR_MODE_CTL, R.PWR_MODE_STAT, R.PWR_RAIL_STAT, R.PWR_CLK_STAT, R.EVT_LASTING,
      R.EVT_FCNT], []⟩
  | .cmdIdentify _ _ => ⟨[.nextOrd, .mem, .pwr, .gr, .evt, .tacc, .tdc, .cal, .twin, .out], [R.MBX_STATE,
      R.MBX_RETRY_STAT, R.MBX_GRANGE_STAT, R.FWD_VER_STAT, R.TDC_STAT, R.TDC_EVT_STAT, R.CAL_STAT, R.CAL_EVT_STAT,
      R.EVT_LAST_FAULT, R.EVT_STAT, R.TWN_STAT, R.PWR_MODE_CTL, R.PWR_MODE_STAT, R.PWR_RAIL_STAT, R.PWR_CLK_STAT,
      R.EVT_LASTING, R.EVT_FCNT], []⟩
  | .cmdFence _ _ => ⟨[.nextOrd, .mem, .pwr, .gr, .evt, .tacc, .tdc, .cal, .twin, .out], [R.MBX_STATE,
      R.MBX_RETRY_STAT, R.MBX_GRANGE_STAT, R.FWD_VER_STAT, R.TDC_STAT, R.TDC_EVT_STAT, R.CAL_STAT, R.CAL_EVT_STAT,
      R.EVT_LAST_FAULT, R.EVT_STAT, R.TWN_STAT, R.PWR_MODE_CTL, R.PWR_MODE_STAT, R.PWR_RAIL_STAT, R.PWR_CLK_STAT,
      R.EVT_LASTING, R.EVT_FCNT], []⟩
  | .fenceRelease _ => ⟨[.nextOrd, .mem, .gr, .evt, .out], [R.MBX_STATE, R.MBX_RETRY_STAT, R.MBX_GRANGE_STAT,
      R.FWD_VER_STAT, R.EVT_STAT, R.EVT_FCNT], []⟩
  | .fenceTimeout _ => ⟨[.nextOrd, .mem, .gr, .evt, .out], [R.MBX_STATE, R.MBX_RETRY_STAT, R.MBX_GRANGE_STAT,
      R.FWD_VER_STAT, R.EVT_STAT, R.EVT_FCNT], []⟩
  | .cmdTableBind _ _ => ⟨[.nextOrd, .mem, .pwr, .gr, .evt, .tacc, .tdc, .cal, .twin, .out], [R.MBX_STATE,
      R.MBX_RETRY_STAT, R.MBX_GRANGE_STAT, R.FWD_STAT, R.FWD_VER_STAT, R.ALM_BANK_STAT, R.TDC_STAT, R.TDC_EVT_STAT,
      R.CAL_STAT, R.CAL_EVT_STAT, R.EVT_LAST_FAULT, R.EVT_STAT, R.TWN_STAT, R.TWN_TXN_STAT, R.PWR_MODE_CTL,
      R.PWR_MODE_STAT, R.PWR_RAIL_STAT, R.PWR_CLK_STAT, R.EVT_LASTING, R.EVT_FCNT, R.MBX_DT_SEQ, R.MBX_DT_DONE,
      R.MBX_DT_BIND], []⟩
  | .cmdTableSync _ _ => ⟨[.nextOrd, .mem, .pwr, .gr, .evt, .tacc, .tdc, .cal, .twin, .out], [R.MBX_STATE,
      R.MBX_RETRY_STAT, R.MBX_GRANGE_STAT, R.FWD_VER_STAT, R.TDC_STAT, R.TDC_EVT_STAT, R.CAL_STAT, R.CAL_EVT_STAT,
      R.EVT_LAST_FAULT, R.EVT_STAT, R.TWN_STAT, R.PWR_MODE_CTL, R.PWR_MODE_STAT, R.PWR_RAIL_STAT, R.PWR_CLK_STAT,
      R.EVT_LASTING, R.EVT_FCNT], []⟩
  | .cmdTableRead _ _ => ⟨[.nextOrd, .mem, .pwr, .gr, .evt, .tacc, .tdc, .cal, .twin, .out], [R.MBX_STATE,
      R.MBX_RETRY_STAT, R.MBX_GRANGE_STAT, R.FWD_VER_STAT, R.TDC_STAT, R.TDC_EVT_STAT, R.CAL_STAT, R.CAL_EVT_STAT,
      R.EVT_LAST_FAULT, R.EVT_STAT, R.TWN_STAT, R.PWR_MODE_CTL, R.PWR_MODE_STAT, R.PWR_RAIL_STAT, R.PWR_CLK_STAT,
      R.EVT_LASTING, R.EVT_FCNT], []⟩
  | .cmdCommit _ _ => ⟨[.nextOrd, .mem, .pwr, .gr, .evt, .tacc, .tdc, .cal, .twin, .out], [R.MBX_STATE,
      R.MBX_RETRY_STAT, R.MBX_GRANGE_STAT, R.MBX_COMMIT_STAT, R.FWD_VER_STAT, R.ALM_BANK_STAT, R.TDC_STAT,
      R.TDC_EVT_STAT, R.CAL_STAT, R.CAL_EVT_STAT, R.EVT_LAST_FAULT, R.EVT_STAT, R.TWN_STAT, R.PWR_MODE_CTL,
      R.PWR_MODE_STAT, R.PWR_RAIL_STAT, R.PWR_CLK_STAT, R.EVT_LASTING, R.EVT_FCNT], []⟩
  | .cmdConfigSave _ _ => ⟨[.nextOrd, .mem, .pwr, .boot, .gr, .evt, .tacc, .tdc, .cal, .twin, .out], [R.MBX_STATE,
      R.MBX_RETRY_STAT, R.MBX_GRANGE_STAT, R.FWD_VER_STAT, R.TDC_STAT, R.TDC_EVT_STAT, R.CAL_STAT, R.CAL_EVT_STAT,
      R.EVT_LAST_FAULT, R.EVT_STAT, R.TWN_STAT, R.PWR_MODE_CTL, R.PWR_MODE_STAT, R.PWR_RAIL_STAT, R.PWR_CLK_STAT,
      R.EVT_LASTING, R.EVT_FCNT], []⟩
  | .cmdConfigRestore _ _ => ⟨[.nextOrd, .mem, .pwr, .gr, .evt, .tacc, .tdc, .cal, .twin, .out], [], [0, 1, 2, 3, 4,
      5, 6, 7, 8, 9, 10, 11, 12, 13, 14, 255]⟩
  | .cmdImageDownload _ _ => ⟨[.nextOrd, .mem, .pwr, .boot, .gr, .evt, .tacc, .tdc, .cal, .twin, .out], [R.MBX_STATE,
      R.MBX_RETRY_STAT, R.MBX_GRANGE_STAT, R.FWD_VER_STAT, R.TDC_STAT, R.TDC_EVT_STAT, R.CAL_STAT, R.CAL_EVT_STAT,
      R.EVT_LAST_FAULT, R.EVT_STAT, R.TWN_STAT, R.PWR_MODE_CTL, R.PWR_MODE_STAT, R.PWR_RAIL_STAT, R.PWR_CLK_STAT,
      R.EVT_LASTING, R.EVT_FCNT], []⟩
  | .cmdImageActivate _ _ => ⟨[.nextOrd, .mem, .pwr, .boot, .gr, .evt, .tacc, .tdc, .cal, .twin, .out], [R.MBX_STATE,
      R.MBX_RETRY_STAT, R.MBX_GRANGE_STAT, R.FWD_VER_STAT, R.TDC_STAT, R.TDC_EVT_STAT, R.CAL_STAT, R.CAL_EVT_STAT,
      R.EVT_LAST_FAULT, R.EVT_STAT, R.TWN_STAT, R.PWR_MODE_CTL, R.PWR_MODE_STAT, R.PWR_RAIL_STAT, R.PWR_CLK_STAT,
      R.EVT_LASTING, R.EVT_FCNT], []⟩
  | .commitGo _ => ⟨[.nextOrd, .mem, .gr, .evt, .out], [R.MBX_STATE, R.MBX_RETRY_STAT, R.MBX_GRANGE_STAT,
      R.MBX_COMMIT_STAT, R.FWD_VER_STAT, R.ALM_BANK_STAT, R.EVT_RESERVED_OFS, R.EVT_STAT, R.EVT_FCNT], []⟩
  | .commitDiscard _ => ⟨[.nextOrd, .gr, .evt, .tdc, .cal, .out], [], [0, 1, 2, 3, 4, 5, 6, 7, 8, 9, 10, 11, 12, 13,
      14, 255]⟩
  | .commitCheckDone _ => ⟨[.nextOrd, .nextFrame, .committed, .latches, .mem, .pwr, .boot, .gr, .evt, .tally, .tacc,
      .ports, .cars, .sheaves, .fwd, .grn, .alm, .tb, .tt, .ref, .syn, .tdc, .cal, .twin, .out], [R.PWR_RAIL_STAT,
      R.PWR_CLK_STAT, R.PWR_OCXO_STAT, R.PWR_BOOT_STAT, R.EVT_FCNT], [0, 1, 2, 3, 4, 5, 6, 7, 8, 9, 10, 11, 12, 14]⟩
  | .commitApplyAt _ => ⟨[.nextOrd, .nextFrame, .committed, .latches, .mem, .pwr, .boot, .gr, .evt, .tally, .tacc,
      .ports, .cars, .sheaves, .fwd, .grn, .alm, .tb, .tt, .ref, .syn, .tdc, .cal, .twin, .out], [R.PWR_RAIL_STAT,
      R.PWR_CLK_STAT, R.PWR_OCXO_STAT, R.PWR_BOOT_STAT, R.EVT_FCNT], [0, 1, 2, 3, 4, 5, 6, 7, 8, 9, 10, 11, 12, 14]⟩
  | .commitApplyBoundary _ => ⟨[.nextOrd, .nextFrame, .committed, .latches, .mem, .pwr, .boot, .gr, .evt, .tally,
      .tacc, .ports, .cars, .sheaves, .fwd, .grn, .alm, .tb, .tt, .ref, .syn, .tdc, .cal, .twin, .out],
      [R.PWR_RAIL_STAT, R.PWR_CLK_STAT, R.PWR_OCXO_STAT, R.PWR_BOOT_STAT, R.EVT_FCNT], [0, 1, 2, 3, 4, 5, 6, 7, 8, 9,
      10, 11, 12, 14]⟩
  | .committedViewWrite _ => ⟨[.nextOrd, .gr, .evt, .out], [R.MBX_GRANGE_STAT, R.FWD_VER_STAT, R.EVT_RESERVED_OFS,
      R.EVT_STAT], []⟩
  | .tableNotify _ _ => ⟨[.nextOrd, .gr, .evt, .out], [R.MBX_GRANGE_STAT, R.FWD_VER_STAT, R.EVT_RESERVED_OFS,
      R.EVT_STAT, R.MBX_DT_SEQ, R.MBX_DT_STAT], []⟩
  | .entryFetchDone _ _ _ => ⟨[.nextOrd, .mem, .pwr, .gr, .evt, .tacc, .tdc, .cal, .twin, .out], [R.MBX_STATE,
      R.MBX_RETRY_STAT, R.MBX_GRANGE_STAT, R.MBX_COMMIT_STAT, R.FWD_STAT, R.FWD_VER_STAT, R.FWD_BAD_ENTRY,
      R.FWD_BAD_ENTRY_CNT, R.FWD_EVT_STAT, R.ALM_BANK_STAT, R.ALM_BAD_ENTRY, R.ALM_BAD_ENTRY_CNT, R.ALM_EVT_STAT,
      R.ALM_EVT_SRC, R.TDC_STAT, R.TDC_EVT_STAT, R.CAL_STAT, R.CAL_EVT_STAT, R.EVT_LAST_FAULT, R.EVT_STAT, R.TWN_STAT,
      R.TWN_TXN_STAT, R.PWR_MODE_CTL, R.PWR_MODE_STAT, R.PWR_RAIL_STAT, R.PWR_CLK_STAT, R.EVT_LASTING, R.EVT_FCNT,
      R.MBX_DT_DONE, R.MBX_DT_STAT], []⟩
  | .msixUnmask _ => ⟨[.nextOrd, .gr, .evt, .out], [R.MBX_GRANGE_STAT, R.FWD_VER_STAT], []⟩
  | .flashOperationDone _ _ _ _ => ⟨[.nextOrd, .mem, .pwr, .boot, .gr, .evt, .tacc, .tdc, .cal, .twin, .out],
      [R.MBX_STATE, R.MBX_RETRY_STAT, R.MBX_GRANGE_STAT, R.FWD_VER_STAT, R.TDC_STAT, R.TDC_EVT_STAT, R.CAL_STAT,
      R.CAL_EVT_STAT, R.EVT_LAST_FAULT, R.EVT_STAT, R.TWN_STAT, R.PWR_MODE_CTL, R.PWR_MODE_STAT, R.PWR_RAIL_STAT,
      R.PWR_CLK_STAT, R.EVT_LASTING, R.EVT_FCNT], []⟩
  | .loReadLatch _ => ⟨[.nextOrd, .latches, .gr, .evt, .out], [R.MBX_GRANGE_STAT, R.FWD_VER_STAT, R.ALM_STAT], []⟩
  -- Client ports (chapter 5)
  | .signalDetect _ => ⟨[.nextOrd, .gr, .evt, .tacc, .ports, .cars, .sheaves, .fwd, .grn, .alm, .tt, .ref, .twin,
      .out], [R.MBX_GRANGE_STAT, R.PRT_STAT, R.SHF_SHEAF_STAT, R.SHF_LOSS_WAIT, R.SHF_TT_STAT, R.SHF_TT_EVT_STAT,
      R.SHF_CAR_STAT, R.FWD_VER_STAT, R.FWD_EVT_STAT, R.FWD_EGR_STAT, R.GRN_POOL_STAT, R.GRN_SILO_STAT,
      R.GRN_EVT_STAT, R.ALM_EVT_STAT, R.ALM_EVT_SRC, R.REF_SRC_STAT, R.EVT_STAT], []⟩
  | .adaptDone _ => ⟨[.nextOrd, .gr, .evt, .tacc, .ports, .cars, .sheaves, .fwd, .grn, .alm, .tt, .ref, .twin, .out],
      [R.MBX_GRANGE_STAT, R.PRT_STAT, R.SHF_SHEAF_STAT, R.SHF_LOSS_WAIT, R.SHF_TT_STAT, R.SHF_TT_EVT_STAT,
      R.SHF_CAR_STAT, R.SHF_CAR_EVT_STAT, R.FWD_VER_STAT, R.FWD_EVT_STAT, R.FWD_EGR_STAT, R.GRN_POOL_STAT,
      R.GRN_SILO_STAT, R.GRN_EVT_STAT, R.ALM_EVT_STAT, R.ALM_EVT_SRC, R.REF_SRC_STAT, R.EVT_STAT, R.EVT_FCNT], []⟩
  | .alignLock _ _ _ => ⟨[.nextOrd, .gr, .evt, .tacc, .ports, .fwd, .cal, .out], [R.MBX_GRANGE_STAT, R.PRT_STAT,
      R.PRT_EVT_STAT, R.FWD_VER_STAT, R.FWD_EGR_STAT, R.EVT_STAT, R.EVT_FCNT], []⟩
  | .attemptTimeout _ => ⟨[.nextOrd, .pwr, .gr, .evt, .tacc, .ports, .tdc, .cal, .twin, .out], [R.MBX_GRANGE_STAT,
      R.PRT_STAT, R.PRT_EVT_STAT, R.FWD_VER_STAT, R.TDC_STAT, R.TDC_EVT_STAT, R.CAL_STAT, R.CAL_EVT_STAT,
      R.EVT_LAST_FAULT, R.EVT_STAT, R.TWN_STAT, R.PWR_MODE_CTL, R.PWR_MODE_STAT, R.PWR_RAIL_STAT, R.PWR_CLK_STAT,
      R.EVT_LASTING, R.EVT_FCNT], []⟩
  | .upDebounceExpiry _ => ⟨[.nextOrd, .pwr, .gr, .evt, .tacc, .ports, .fwd, .out], [R.MBX_GRANGE_STAT, R.PRT_STAT,
      R.PRT_EVT_STAT, R.FWD_VER_STAT, R.FWD_EGR_STAT, R.EVT_STAT], []⟩
  | .portLinkFault _ _ _ _ _ => ⟨[.nextOrd, .nextFrame, .gr, .evt, .tacc, .ports, .fwd, .grn, .tb, .out],
      [R.MBX_GRANGE_STAT, R.PRT_STAT, R.PRT_EVT_STAT, R.FWD_VER_STAT, R.FWD_EVT_STAT, R.FWD_EGR_STAT, R.GRN_POOL_STAT,
      R.GRN_SILO_STAT, R.GRN_EVT_STAT, R.EVT_STAT, R.EVT_FCNT], []⟩
  | .glitch _ => ⟨[.nextOrd, .pwr, .gr, .evt, .ports, .out], [R.MBX_GRANGE_STAT, R.PRT_STAT, R.PRT_EVT_STAT,
      R.FWD_VER_STAT], []⟩
  | .downDebounceExpiry _ => ⟨[.nextOrd, .pwr, .gr, .evt, .tacc, .ports, .fwd, .grn, .out], [R.MBX_GRANGE_STAT,
      R.PRT_STAT, R.PRT_EVT_STAT, R.FWD_VER_STAT, R.FWD_EVT_STAT, R.FWD_EGR_STAT, R.GRN_POOL_STAT, R.GRN_SILO_STAT,
      R.GRN_EVT_STAT, R.EVT_STAT], []⟩
  | .fecDegradeWindow _ _ => ⟨[.nextOrd, .pwr, .gr, .evt, .tacc, .out], [R.MBX_GRANGE_STAT, R.PRT_EVT_STAT,
      R.FWD_VER_STAT, R.EVT_STAT], []⟩
  | .receiveFrame _ _ _ _ _ _ => ⟨[.nextOrd, .nextFrame, .gr, .evt, .tacc, .ports, .fwd, .grn, .tb, .out],
      [R.MBX_GRANGE_STAT, R.PRT_STAT, R.FWD_VER_STAT, R.GRN_POOL_STAT, R.GRN_EVT_STAT, R.EVT_STAT], []⟩
  | .receiveFragment _ _ _ _ _ _ _ => ⟨[.nextOrd, .nextFrame, .gr, .evt, .tacc, .ports, .fwd, .grn, .tb, .out],
      [R.MBX_GRANGE_STAT, R.PRT_STAT, R.FWD_VER_STAT, R.GRN_POOL_STAT, R.GRN_EVT_STAT, R.EVT_STAT], []⟩
  | .pauseTakesEffect _ => ⟨[.nextOrd, .gr, .evt, .ports, .out], [R.MBX_GRANGE_STAT, R.FWD_VER_STAT], []⟩
  | .pauseTimerExpiry _ _ => ⟨[.nextOrd, .gr, .evt, .ports, .out], [R.MBX_GRANGE_STAT, R.PRT_STAT, R.FWD_VER_STAT],
      []⟩
  | .pfcFrameSend _ => ⟨[.nextOrd, .gr, .evt, .tacc, .ports, .out], [R.MBX_GRANGE_STAT, R.PRT_STAT, R.FWD_VER_STAT,
      R.EVT_STAT], []⟩
  | .pfcRepeat _ => ⟨[.nextOrd, .gr, .evt, .tacc, .ports, .out], [R.MBX_GRANGE_STAT, R.PRT_STAT, R.FWD_VER_STAT,
      R.EVT_STAT], []⟩
  | .verifyTimeout _ => ⟨[.nextOrd, .gr, .evt, .ports, .out], [R.MBX_GRANGE_STAT, R.PRT_EVT_STAT, R.FWD_VER_STAT], []⟩
  | .optIntEdge _ _ => ⟨[.nextOrd, .pwr, .gr, .evt, .out], [R.MBX_GRANGE_STAT, R.PRT_OPT_STAT, R.FWD_VER_STAT], []⟩
  | .tallyFold => ⟨[.nextOrd, .gr, .evt, .tally, .tacc, .out], [R.MBX_GRANGE_STAT, R.FWD_VER_STAT], []⟩
  | .cmdPrtCountersRead _ _ => ⟨[.nextOrd, .mem, .pwr, .gr, .evt, .tally, .tacc, .tdc, .cal, .twin, .out],
      [R.MBX_STATE, R.MBX_RETRY_STAT, R.MBX_GRANGE_STAT, R.FWD_VER_STAT, R.TDC_STAT, R.TDC_EVT_STAT, R.CAL_STAT,
      R.CAL_EVT_STAT, R.EVT_LAST_FAULT, R.EVT_STAT, R.TWN_STAT, R.PWR_MODE_CTL, R.PWR_MODE_STAT, R.PWR_RAIL_STAT,
      R.PWR_CLK_STAT, R.EVT_LASTING, R.EVT_FCNT], []⟩
  | .cmdPrtOptXfer _ _ _ _ _ => ⟨[.nextOrd, .mem, .pwr, .gr, .evt, .tacc, .tdc, .cal, .twin, .out], [R.MBX_STATE,
      R.MBX_RETRY_STAT, R.MBX_GRANGE_STAT, R.FWD_VER_STAT, R.TDC_STAT, R.TDC_EVT_STAT, R.CAL_STAT, R.CAL_EVT_STAT,
      R.EVT_LAST_FAULT, R.EVT_STAT, R.TWN_STAT, R.PWR_MODE_CTL, R.PWR_MODE_STAT, R.PWR_RAIL_STAT, R.PWR_CLK_STAT,
      R.EVT_LASTING, R.EVT_FCNT], []⟩
  -- The Sheaf line interface (chapter 6)
  | .codewordLock _ => ⟨[.nextOrd, .gr, .evt, .tacc, .ports, .cars, .sheaves, .fwd, .grn, .alm, .tt, .ref, .cal,
      .twin, .out], [R.MBX_GRANGE_STAT, R.SHF_SHEAF_STAT, R.SHF_LOSS_WAIT, R.SHF_TT_STAT, R.SHF_TT_EVT_STAT,
      R.SHF_CAR_STAT, R.SHF_CAR_EVT_STAT, R.FWD_VER_STAT, R.FWD_EVT_STAT, R.FWD_EGR_STAT, R.GRN_POOL_STAT,
      R.GRN_SILO_STAT, R.GRN_EVT_STAT, R.ALM_EVT_STAT, R.ALM_EVT_SRC, R.REF_SRC_STAT, R.EVT_STAT, R.EVT_FCNT], []⟩
  | .codewordLockLost _ _ => ⟨[.nextOrd, .mem, .gr, .evt, .tacc, .ports, .cars, .sheaves, .fwd, .grn, .alm, .tt, .ref,
      .twin, .out], [R.MBX_STATE, R.MBX_RETRY_STAT, R.MBX_GRANGE_STAT, R.SHF_SHEAF_STAT, R.SHF_LOSS_WAIT,
      R.SHF_TT_STAT, R.SHF_TT_EVT_STAT, R.SHF_CAR_STAT, R.SHF_CAR_EVT_STAT, R.FWD_VER_STAT, R.FWD_EVT_STAT,
      R.FWD_EGR_STAT, R.GRN_POOL_STAT, R.GRN_SILO_STAT, R.GRN_EVT_STAT, R.ALM_EVT_STAT, R.ALM_EVT_SRC, R.REF_SRC_STAT,
      R.EVT_STAT, R.EVT_FCNT], []⟩
  | .grainSlot _ _ => ⟨[.nextOrd, .nextFree, .gr, .evt, .tacc, .ports, .cars, .sheaves, .fwd, .grn, .alm, .tt, .ref,
      .twin, .out], [R.MBX_GRANGE_STAT, R.SHF_SHEAF_STAT, R.SHF_LOSS_WAIT, R.SHF_TT_STAT, R.SHF_TT_EVT_STAT,
      R.SHF_CAR_STAT, R.SHF_CAR_EVT_STAT, R.FWD_VER_STAT, R.FWD_EVT_STAT, R.FWD_EGR_STAT, R.GRN_POOL_STAT,
      R.GRN_SILO_STAT, R.GRN_EVT_STAT, R.ALM_EVT_STAT, R.ALM_EVT_SRC, R.REF_SRC_STAT, R.EVT_STAT], []⟩
  | .dataGrainReceived _ _ _ _ _ _ => ⟨[.nextOrd, .nextFrame, .gr, .evt, .tacc, .ports, .sheaves, .fwd, .grn, .out],
      [R.MBX_GRANGE_STAT, R.SHF_SHEAF_STAT, R.SHF_EVT_STAT, R.SHF_CAR_EVT_STAT, R.FWD_VER_STAT, R.GRN_POOL_STAT,
      R.GRN_EVT_STAT, R.EVT_STAT], []⟩
  | .timingGrainReceived _ _ _ _ => ⟨[.nextOrd, .nextFree, .mem, .gr, .evt, .tacc, .ports, .cars, .sheaves, .fwd,
      .grn, .alm, .tt, .ref, .out], [R.MBX_STATE, R.MBX_RETRY_STAT, R.MBX_GRANGE_STAT, R.SHF_SHEAF_STAT,
      R.SHF_LOSS_WAIT, R.SHF_TT_STAT, R.SHF_TT_EVT_STAT, R.SHF_CAR_STAT, R.SHF_CAR_SKEW, R.SHF_CAR_RTT,
      R.SHF_CAR_EVT_STAT, R.FWD_VER_STAT, R.FWD_EVT_STAT, R.FWD_EGR_STAT, R.GRN_POOL_STAT, R.GRN_SILO_STAT,
      R.GRN_EVT_STAT, R.ALM_EVT_STAT, R.ALM_EVT_SRC, R.REF_SRC_STAT, R.EVT_STAT, R.EVT_FCNT], []⟩
  | .grainLossTimeout _ => ⟨[.nextOrd, .nextFrame, .pwr, .gr, .evt, .tacc, .ports, .sheaves, .fwd, .grn, .out],
      [R.MBX_GRANGE_STAT, R.SHF_SHEAF_STAT, R.SHF_EVT_STAT, R.FWD_VER_STAT, R.GRN_POOL_STAT, R.GRN_EVT_STAT,
      R.EVT_STAT], []⟩
  | .syncWaitExpiry _ => ⟨[.nextOrd, .nextFrame, .pwr, .gr, .evt, .tacc, .ports, .sheaves, .fwd, .grn, .out],
      [R.MBX_GRANGE_STAT, R.SHF_SHEAF_STAT, R.SHF_EVT_STAT, R.FWD_VER_STAT, R.GRN_POOL_STAT, R.GRN_EVT_STAT,
      R.EVT_STAT], []⟩
  | .keepaliveExpiry _ => ⟨[.nextOrd, .mem, .pwr, .gr, .evt, .tacc, .ports, .cars, .sheaves, .fwd, .grn, .alm, .tt,
      .ref, .out], [R.MBX_STATE, R.MBX_RETRY_STAT, R.MBX_GRANGE_STAT, R.SHF_SHEAF_STAT, R.SHF_LOSS_WAIT,
      R.SHF_TT_STAT, R.SHF_TT_EVT_STAT, R.SHF_CAR_STAT, R.SHF_CAR_EVT_STAT, R.FWD_VER_STAT, R.FWD_EVT_STAT,
      R.FWD_EGR_STAT, R.GRN_POOL_STAT, R.GRN_SILO_STAT, R.GRN_EVT_STAT, R.ALM_EVT_STAT, R.ALM_EVT_SRC, R.REF_SRC_STAT,
      R.EVT_STAT, R.EVT_FCNT], []⟩
  | .carrierAttemptTimeout _ => ⟨[.nextOrd, .pwr, .gr, .evt, .tacc, .ports, .cars, .sheaves, .fwd, .grn, .alm, .tt,
      .ref, .tdc, .cal, .twin, .out], [R.MBX_GRANGE_STAT, R.SHF_SHEAF_STAT, R.SHF_LOSS_WAIT, R.SHF_TT_STAT,
      R.SHF_TT_EVT_STAT, R.SHF_CAR_STAT, R.SHF_CAR_EVT_STAT, R.FWD_VER_STAT, R.FWD_EVT_STAT, R.FWD_EGR_STAT,
      R.GRN_POOL_STAT, R.GRN_SILO_STAT, R.GRN_EVT_STAT, R.ALM_EVT_STAT, R.ALM_EVT_SRC, R.REF_SRC_STAT, R.TDC_STAT,
      R.TDC_EVT_STAT, R.CAL_STAT, R.CAL_EVT_STAT, R.EVT_LAST_FAULT, R.EVT_STAT, R.TWN_STAT, R.PWR_MODE_CTL,
      R.PWR_MODE_STAT, R.PWR_RAIL_STAT, R.PWR_CLK_STAT, R.EVT_LASTING, R.EVT_FCNT], []⟩
  | .parkLossWaitExpiry _ => ⟨[.nextOrd, .mem, .gr, .evt, .tacc, .ports, .cars, .sheaves, .fwd, .grn, .alm, .tt, .ref,
      .out], [R.MBX_STATE, R.MBX_RETRY_STAT, R.MBX_GRANGE_STAT, R.SHF_SHEAF_STAT, R.SHF_LOSS_WAIT, R.SHF_TT_STAT,
      R.SHF_TT_EVT_STAT, R.SHF_CAR_STAT, R.SHF_CAR_EVT_STAT, R.FWD_VER_STAT, R.FWD_EVT_STAT, R.FWD_EGR_STAT,
      R.GRN_POOL_STAT, R.GRN_SILO_STAT, R.GRN_EVT_STAT, R.ALM_EVT_STAT, R.ALM_EVT_SRC, R.REF_SRC_STAT, R.EVT_STAT,
      R.EVT_FCNT], []⟩
  | .cmdShfCarrierOp _ _ => ⟨[.nextOrd, .mem, .pwr, .gr, .evt, .tacc, .ports, .cars, .sheaves, .fwd, .grn, .alm, .tt,
      .ref, .tdc, .cal, .twin, .out], [R.MBX_STATE, R.MBX_RETRY_STAT, R.MBX_GRANGE_STAT, R.SHF_SHEAF_STAT,
      R.SHF_LOSS_WAIT, R.SHF_TT_STAT, R.SHF_TT_EVT_STAT, R.SHF_CAR_STAT, R.FWD_VER_STAT, R.FWD_EVT_STAT,
      R.FWD_EGR_STAT, R.GRN_POOL_STAT, R.GRN_SILO_STAT, R.GRN_EVT_STAT, R.ALM_EVT_STAT, R.ALM_EVT_SRC, R.REF_SRC_STAT,
      R.TDC_STAT, R.TDC_EVT_STAT, R.CAL_STAT, R.CAL_EVT_STAT, R.EVT_LAST_FAULT, R.EVT_STAT, R.TWN_STAT,
      R.PWR_MODE_CTL, R.PWR_MODE_STAT, R.PWR_RAIL_STAT, R.PWR_CLK_STAT, R.EVT_LASTING, R.EVT_FCNT], []⟩
  | .carrierOpTimeout _ => ⟨[.nextOrd, .mem, .gr, .evt, .tacc, .ports, .cars, .sheaves, .fwd, .grn, .alm, .tt, .ref,
      .out], [R.MBX_STATE, R.MBX_RETRY_STAT, R.MBX_GRANGE_STAT, R.SHF_SHEAF_STAT, R.SHF_LOSS_WAIT, R.SHF_TT_STAT,
      R.SHF_TT_EVT_STAT, R.SHF_CAR_STAT, R.SHF_CAR_EVT_STAT, R.FWD_VER_STAT, R.FWD_EVT_STAT, R.FWD_EGR_STAT,
      R.GRN_POOL_STAT, R.GRN_SILO_STAT, R.GRN_EVT_STAT, R.ALM_EVT_STAT, R.ALM_EVT_SRC, R.REF_SRC_STAT, R.EVT_STAT,
      R.EVT_FCNT], []⟩
  | .cmdShfCountersRead _ _ => ⟨[.nextOrd, .mem, .pwr, .gr, .evt, .tally, .tacc, .tdc, .cal, .twin, .out],
      [R.MBX_STATE, R.MBX_RETRY_STAT, R.MBX_GRANGE_STAT, R.FWD_VER_STAT, R.TDC_STAT, R.TDC_EVT_STAT, R.CAL_STAT,
      R.CAL_EVT_STAT, R.EVT_LAST_FAULT, R.EVT_STAT, R.TWN_STAT, R.PWR_MODE_CTL, R.PWR_MODE_STAT, R.PWR_RAIL_STAT,
      R.PWR_CLK_STAT, R.EVT_LASTING, R.EVT_FCNT], []⟩
  -- The forwarding core (chapter 7)
  | .installResume _ => ⟨[.nextOrd, .mem, .gr, .evt, .tacc, .twin, .out], [R.MBX_STATE, R.MBX_RETRY_STAT,
      R.MBX_GRANGE_STAT, R.MBX_COMMIT_STAT, R.FWD_STAT, R.FWD_VER_STAT, R.FWD_BAD_ENTRY, R.FWD_BAD_ENTRY_CNT,
      R.FWD_EVT_STAT, R.ALM_BANK_STAT, R.ALM_BAD_ENTRY, R.ALM_BAD_ENTRY_CNT, R.ALM_EVT_STAT, R.ALM_EVT_SRC,
      R.EVT_STAT, R.TWN_TXN_STAT, R.EVT_FCNT, R.MBX_DT_DONE, R.MBX_DT_STAT], []⟩
  | .egressFrameStart _ _ => ⟨[.nextOrd, .gr, .evt, .tacc, .ports, .fwd, .grn, .out], [R.MBX_GRANGE_STAT,
      R.FWD_VER_STAT, R.GRN_POOL_STAT, R.GRN_SILO_STAT, R.GRN_EVT_STAT, R.EVT_STAT], []⟩
  | .pipelineFrame _ => ⟨[.nextOrd, .gr, .evt, .tacc, .ports, .fwd, .grn, .alm, .out], [R.MBX_GRANGE_STAT,
      R.FWD_VER_STAT, R.GRN_POOL_STAT, R.GRN_EVT_STAT, R.ALM_EVT_STAT, R.ALM_EVT_SRC, R.EVT_STAT], []⟩
  | .bucketReadDone _ => ⟨[.nextOrd, .gr, .evt, .tacc, .ports, .fwd, .grn, .alm, .out], [R.MBX_GRANGE_STAT,
      R.FWD_VER_STAT, R.GRN_POOL_STAT, R.GRN_EVT_STAT, R.ALM_EVT_STAT, R.ALM_EVT_SRC, R.EVT_STAT], []⟩
  | .planeCrossing _ => ⟨[.nextOrd, .gr, .evt, .tacc, .ports, .fwd, .grn, .alm, .out], [R.MBX_GRANGE_STAT,
      R.FWD_VER_STAT, R.GRN_POOL_STAT, R.GRN_EVT_STAT, R.ALM_EVT_STAT, R.ALM_EVT_SRC, R.EVT_STAT], []⟩
  | .planeDrainEnd => ⟨[.nextOrd, .pwr, .gr, .evt, .fwd, .out], [R.MBX_GRANGE_STAT, R.FWD_STAT, R.FWD_VER_STAT,
      R.FWD_EVT_STAT], []⟩
  | .reaperVisit => ⟨[.nextOrd, .gr, .evt, .tacc, .ports, .fwd, .grn, .out], [R.MBX_GRANGE_STAT, R.FWD_VER_STAT,
      R.GRN_POOL_STAT, R.GRN_SILO_STAT, R.GRN_EVT_STAT, R.EVT_STAT], []⟩
  | .linkHoldExpiry _ => ⟨[.nextOrd, .pwr, .gr, .evt, .tacc, .ports, .fwd, .grn, .out], [R.MBX_GRANGE_STAT,
      R.FWD_VER_STAT, R.FWD_EVT_STAT, R.FWD_EGR_STAT, R.GRN_POOL_STAT, R.GRN_SILO_STAT, R.GRN_EVT_STAT, R.EVT_STAT],
      []⟩
  | .cmdFwdCountersRead _ _ => ⟨[.nextOrd, .mem, .pwr, .gr, .evt, .tally, .tacc, .tdc, .cal, .twin, .out],
      [R.MBX_STATE, R.MBX_RETRY_STAT, R.MBX_GRANGE_STAT, R.FWD_VER_STAT, R.TDC_STAT, R.TDC_EVT_STAT, R.CAL_STAT,
      R.CAL_EVT_STAT, R.EVT_LAST_FAULT, R.EVT_STAT, R.TWN_STAT, R.PWR_MODE_CTL, R.PWR_MODE_STAT, R.PWR_RAIL_STAT,
      R.PWR_CLK_STAT, R.EVT_LASTING, R.EVT_FCNT], []⟩
  | .cmdFwdQueueStat _ _ => ⟨[.nextOrd, .mem, .pwr, .gr, .evt, .tacc, .tdc, .cal, .twin, .out], [R.MBX_STATE,
      R.MBX_RETRY_STAT, R.MBX_GRANGE_STAT, R.FWD_VER_STAT, R.TDC_STAT, R.TDC_EVT_STAT, R.CAL_STAT, R.CAL_EVT_STAT,
      R.EVT_LAST_FAULT, R.EVT_STAT, R.TWN_STAT, R.PWR_MODE_CTL, R.PWR_MODE_STAT, R.PWR_RAIL_STAT, R.PWR_CLK_STAT,
      R.EVT_LASTING, R.EVT_FCNT], []⟩
  | .cmdFwdFlush _ _ => ⟨[.nextOrd, .mem, .pwr, .gr, .evt, .tacc, .ports, .fwd, .grn, .tdc, .cal, .twin, .out],
      [R.MBX_STATE, R.MBX_RETRY_STAT, R.MBX_GRANGE_STAT, R.FWD_VER_STAT, R.GRN_POOL_STAT, R.GRN_SILO_STAT,
      R.GRN_EVT_STAT, R.TDC_STAT, R.TDC_EVT_STAT, R.CAL_STAT, R.CAL_EVT_STAT, R.EVT_LAST_FAULT, R.EVT_STAT,
      R.TWN_STAT, R.TWN_TXN_STAT, R.PWR_MODE_CTL, R.PWR_MODE_STAT, R.PWR_RAIL_STAT, R.PWR_CLK_STAT, R.EVT_LASTING,
      R.EVT_FCNT], []⟩
  -- The Granary (chapter 8)
  | .txFrameComplete _ _ => ⟨[.nextOrd, .gr, .evt, .tacc, .ports, .sheaves, .fwd, .grn, .alm, .tb, .twin, .out],
      [R.MBX_GRANGE_STAT, R.PRT_STAT, R.FWD_VER_STAT, R.GRN_POOL_STAT, R.GRN_EVT_STAT, R.ALM_EVT_STAT, R.ALM_EVT_SRC,
      R.EVT_STAT], []⟩
  | .spillWriteDone _ _ _ => ⟨[.nextOrd, .gr, .evt, .tacc, .ports, .fwd, .grn, .out], [R.MBX_GRANGE_STAT,
      R.FWD_VER_STAT, R.GRN_POOL_STAT, R.GRN_SILO_STAT, R.GRN_EVT_STAT, R.EVT_STAT], []⟩
  | .recallPageReadDone _ _ _ => ⟨[.nextOrd, .pwr, .gr, .evt, .tacc, .ports, .fwd, .grn, .tdc, .cal, .twin, .out],
      [R.MBX_GRANGE_STAT, R.FWD_VER_STAT, R.GRN_POOL_STAT, R.GRN_SILO_STAT, R.GRN_EVT_STAT, R.TDC_STAT,
      R.TDC_EVT_STAT, R.CAL_STAT, R.CAL_EVT_STAT, R.EVT_LAST_FAULT, R.EVT_STAT, R.TWN_STAT, R.PWR_MODE_CTL,
      R.PWR_MODE_STAT, R.PWR_RAIL_STAT, R.PWR_CLK_STAT, R.EVT_LASTING, R.EVT_FCNT], []⟩
  | .siloCacheRefill => ⟨[.nextOrd, .gr, .evt, .tacc, .grn, .out], [R.MBX_GRANGE_STAT, R.FWD_VER_STAT,
      R.GRN_SILO_STAT, R.GRN_EVT_STAT, R.EVT_STAT], []⟩
  | .gleanerSweep => ⟨[.nextOrd, .mem, .gr, .evt, .tacc, .grn, .out], [R.MBX_STATE, R.MBX_RETRY_STAT,
      R.MBX_GRANGE_STAT, R.FWD_VER_STAT, R.GRN_POOL_STAT, R.GRN_SILO_STAT, R.GRN_GLEAN_STAT, R.GRN_GLEAN_LAST,
      R.GRN_EVT_STAT, R.EVT_STAT, R.EVT_FCNT], []⟩
  | .cmdGrnCountersRead _ _ => ⟨[.nextOrd, .mem, .pwr, .gr, .evt, .tally, .tacc, .tdc, .cal, .twin, .out],
      [R.MBX_STATE, R.MBX_RETRY_STAT, R.MBX_GRANGE_STAT, R.FWD_VER_STAT, R.TDC_STAT, R.TDC_EVT_STAT, R.CAL_STAT,
      R.CAL_EVT_STAT, R.EVT_LAST_FAULT, R.EVT_STAT, R.TWN_STAT, R.PWR_MODE_CTL, R.PWR_MODE_STAT, R.PWR_RAIL_STAT,
      R.PWR_CLK_STAT, R.EVT_LASTING, R.EVT_FCNT], []⟩
  | .cmdGrnCellTest _ _ _ => ⟨[.nextOrd, .mem, .pwr, .gr, .evt, .tacc, .grn, .tdc, .cal, .twin, .out], [R.MBX_STATE,
      R.MBX_RETRY_STAT, R.MBX_GRANGE_STAT, R.FWD_VER_STAT, R.GRN_POOL_STAT, R.GRN_EVT_STAT, R.TDC_STAT,
      R.TDC_EVT_STAT, R.CAL_STAT, R.CAL_EVT_STAT, R.EVT_LAST_FAULT, R.EVT_STAT, R.TWN_STAT, R.PWR_MODE_CTL,
      R.PWR_MODE_STAT, R.PWR_RAIL_STAT, R.PWR_CLK_STAT, R.EVT_LASTING, R.EVT_FCNT], []⟩
  | .cmdGrnSweep _ _ => ⟨[.nextOrd, .mem, .pwr, .gr, .evt, .tacc, .tdc, .cal, .twin, .out], [R.MBX_STATE,
      R.MBX_RETRY_STAT, R.MBX_GRANGE_STAT, R.FWD_VER_STAT, R.TDC_STAT, R.TDC_EVT_STAT, R.CAL_STAT, R.CAL_EVT_STAT,
      R.EVT_LAST_FAULT, R.EVT_STAT, R.TWN_STAT, R.PWR_MODE_CTL, R.PWR_MODE_STAT, R.PWR_RAIL_STAT, R.PWR_CLK_STAT,
      R.EVT_LASTING, R.EVT_FCNT], []⟩
  -- The Almanac (chapter 9)
  | .slewResidueZero _ => ⟨[.nextOrd, .gr, .evt, .tb, .out], [R.MBX_GRANGE_STAT, R.FWD_VER_STAT, R.ALM_STAT,
      R.ALM_EVT_STAT, R.TBS_DOM_STAT], []⟩
  | .sheafEgressDecision _ => ⟨[.nextOrd, .gr, .evt, .tacc, .ports, .sheaves, .fwd, .grn, .alm, .out],
      [R.MBX_GRANGE_STAT, R.FWD_VER_STAT, R.GRN_POOL_STAT, R.GRN_SILO_STAT, R.GRN_EVT_STAT, R.EVT_STAT], []⟩
  | .windowEnd _ => ⟨[.nextOrd, .gr, .evt, .tacc, .ports, .sheaves, .fwd, .grn, .alm, .out], [R.MBX_GRANGE_STAT,
      R.FWD_VER_STAT, R.GRN_POOL_STAT, R.GRN_SILO_STAT, R.GRN_EVT_STAT, R.ALM_EVT_STAT, R.ALM_EVT_SRC, R.EVT_STAT],
      []⟩
  | .cmdAlmCountersRead _ _ => ⟨[.nextOrd, .mem, .pwr, .gr, .evt, .tally, .tacc, .tdc, .cal, .twin, .out],
      [R.MBX_STATE, R.MBX_RETRY_STAT, R.MBX_GRANGE_STAT, R.FWD_VER_STAT, R.TDC_STAT, R.TDC_EVT_STAT, R.CAL_STAT,
      R.CAL_EVT_STAT, R.EVT_LAST_FAULT, R.EVT_STAT, R.TWN_STAT, R.PWR_MODE_CTL, R.PWR_MODE_STAT, R.PWR_RAIL_STAT,
      R.PWR_CLK_STAT, R.EVT_LASTING, R.EVT_FCNT], []⟩
  | .cmdAlmBankCheck _ _ => ⟨[.nextOrd, .mem, .pwr, .gr, .evt, .tacc, .tdc, .cal, .twin, .out], [R.MBX_STATE,
      R.MBX_RETRY_STAT, R.MBX_GRANGE_STAT, R.FWD_VER_STAT, R.TDC_STAT, R.TDC_EVT_STAT, R.CAL_STAT, R.CAL_EVT_STAT,
      R.EVT_LAST_FAULT, R.EVT_STAT, R.TWN_STAT, R.PWR_MODE_CTL, R.PWR_MODE_STAT, R.PWR_RAIL_STAT, R.PWR_CLK_STAT,
      R.EVT_LASTING, R.EVT_FCNT], []⟩
  | .cmdAlmRealign _ _ => ⟨[.nextOrd, .mem, .pwr, .gr, .evt, .tacc, .ports, .sheaves, .fwd, .grn, .alm, .tb, .ref,
      .tdc, .cal, .twin, .out], [R.MBX_STATE, R.MBX_RETRY_STAT, R.MBX_GRANGE_STAT, R.FWD_VER_STAT, R.GRN_POOL_STAT,
      R.GRN_EVT_STAT, R.ALM_STAT, R.ALM_EVT_STAT, R.ALM_EVT_SRC, R.TBS_DOM_STAT, R.TBS_EVT_STAT, R.TBS_TRIG_SKIP,
      R.REF_EVT_STAT, R.TDC_STAT, R.TDC_EVT_STAT, R.CAL_STAT, R.CAL_EVT_STAT, R.EVT_LAST_FAULT, R.EVT_STAT,
      R.TWN_STAT, R.TWN_TXN_STAT, R.PWR_MODE_CTL, R.PWR_MODE_STAT, R.PWR_RAIL_STAT, R.PWR_CLK_STAT, R.EVT_LASTING,
      R.EVT_FCNT], []⟩
  -- Time bases (chapter 10)
  | .hostTimeoutExpiry _ => ⟨[.nextOrd, .gr, .evt, .tacc, .ref, .out], [R.MBX_GRANGE_STAT, R.FWD_VER_STAT,
      R.TBS_DOM_STAT, R.TBS_EVT_STAT, R.REF_SRC_STAT, R.EVT_STAT], []⟩
  | .adjustApply _ => ⟨[.nextOrd, .mem, .gr, .evt, .tacc, .tb, .ref, .syn, .twin, .out], [R.MBX_STATE,
      R.MBX_RETRY_STAT, R.MBX_GRANGE_STAT, R.FWD_VER_STAT, R.ALM_STAT, R.ALM_EVT_STAT, R.TBS_DOM_STAT,
      R.TBS_DOM_INC_LO, R.TBS_DOM_INC_HI, R.TBS_EVT_STAT, R.TBS_TRIG_SKIP, R.REF_EVT_STAT, R.EVT_STAT, R.TWN_TXN_STAT,
      R.EVT_FCNT], []⟩
  | .snapshot _ => ⟨[.nextOrd, .gr, .evt, .tb, .out], [R.MBX_GRANGE_STAT, R.FWD_VER_STAT, R.TBS_SNAP_TICK_LO,
      R.TBS_SNAP_TICK_HI, R.TBS_SNAP_NS, R.TBS_SNAP_SLO, R.TBS_SNAP_SHI], []⟩
  | .rptConsWrite _ _ => ⟨[.nextOrd, .gr, .evt, .tb, .out], [R.MBX_GRANGE_STAT, R.FWD_VER_STAT, R.TBS_RPT_PEND,
      R.TBS_EVT_STAT, R.TBS_RPT_CONS, R.EVT_RESERVED_OFS, R.EVT_STAT], []⟩
  | .triggerPulse _ => ⟨[.nextOrd, .gr, .evt, .tb, .out], [R.MBX_GRANGE_STAT, R.FWD_VER_STAT, R.TBS_EVT_STAT,
      R.TBS_TRIG_STAT, R.TBS_TRIG_SKIP], []⟩
  | .triggerPulseEnd _ => ⟨[.nextOrd, .gr, .evt, .tb, .out], [R.MBX_GRANGE_STAT, R.FWD_VER_STAT], []⟩
  | .cmdTbsAdjust _ _ => ⟨[.nextOrd, .mem, .pwr, .gr, .evt, .tacc, .tb, .tdc, .cal, .twin, .out], [R.MBX_STATE,
      R.MBX_RETRY_STAT, R.MBX_GRANGE_STAT, R.FWD_VER_STAT, R.TBS_DOM_STAT, R.TDC_STAT, R.TDC_EVT_STAT, R.CAL_STAT,
      R.CAL_EVT_STAT, R.EVT_LAST_FAULT, R.EVT_STAT, R.TWN_STAT, R.PWR_MODE_CTL, R.PWR_MODE_STAT, R.PWR_RAIL_STAT,
      R.PWR_CLK_STAT, R.EVT_LASTING, R.EVT_FCNT], []⟩
  | .cmdTbsSet _ _ => ⟨[.nextOrd, .mem, .pwr, .gr, .evt, .tacc, .tb, .tdc, .cal, .twin, .out], [R.MBX_STATE,
      R.MBX_RETRY_STAT, R.MBX_GRANGE_STAT, R.FWD_VER_STAT, R.TBS_DOM_STAT, R.TDC_STAT, R.TDC_EVT_STAT, R.CAL_STAT,
      R.CAL_EVT_STAT, R.EVT_LAST_FAULT, R.EVT_STAT, R.TWN_STAT, R.PWR_MODE_CTL, R.PWR_MODE_STAT, R.PWR_RAIL_STAT,
      R.PWR_CLK_STAT, R.EVT_LASTING, R.EVT_FCNT], []⟩
  | .cmdTbsReportBind _ _ => ⟨[.nextOrd, .mem, .pwr, .gr, .evt, .tacc, .tb, .tdc, .cal, .twin, .out], [R.MBX_STATE,
      R.MBX_RETRY_STAT, R.MBX_GRANGE_STAT, R.FWD_VER_STAT, R.TBS_RPT_PEND, R.TBS_EVT_STAT, R.TBS_RPT_PROD,
      R.TBS_RPT_CONS, R.TBS_RPT_STAT, R.TDC_STAT, R.TDC_EVT_STAT, R.CAL_STAT, R.CAL_EVT_STAT, R.EVT_LAST_FAULT,
      R.EVT_STAT, R.TWN_STAT, R.PWR_MODE_CTL, R.PWR_MODE_STAT, R.PWR_RAIL_STAT, R.PWR_CLK_STAT, R.EVT_LASTING,
      R.EVT_FCNT], []⟩
  | .cmdTbsCountersRead _ _ => ⟨[.nextOrd, .mem, .pwr, .gr, .evt, .tally, .tacc, .tdc, .cal, .twin, .out],
      [R.MBX_STATE, R.MBX_RETRY_STAT, R.MBX_GRANGE_STAT, R.FWD_VER_STAT, R.TDC_STAT, R.TDC_EVT_STAT, R.CAL_STAT,
      R.CAL_EVT_STAT, R.EVT_LAST_FAULT, R.EVT_STAT, R.TWN_STAT, R.PWR_MODE_CTL, R.PWR_MODE_STAT, R.PWR_RAIL_STAT,
      R.PWR_CLK_STAT, R.EVT_LASTING, R.EVT_FCNT], []⟩
  -- Time transfer (chapter 11)
  | .measSetEntry _ => ⟨[.nextOrd, .gr, .evt, .cars, .tt, .out], [R.MBX_GRANGE_STAT, R.SHF_TT_STAT, R.FWD_VER_STAT],
      []⟩
  | .ttWindowEnd _ => ⟨[.nextOrd, .nextFree, .gr, .evt, .tacc, .cars, .sheaves, .tt, .ref, .out], [R.MBX_GRANGE_STAT,
      R.SHF_TT_STAT, R.SHF_TT_OFS_LO, R.SHF_TT_OFS_HI, R.SHF_TT_F, R.SHF_TT_UNC, R.SHF_TT_HOP_TE, R.SHF_TT_EVT_STAT,
      R.FWD_VER_STAT, R.TBS_TE_STAT, R.REF_SRC_STAT, R.REF_SRC_DEP, R.REF_FREQ_WORD, R.REF_EVT_STAT, R.SYN_RAMP_Z,
      R.SYN_STAT_STEER, R.SYN_STAT, R.SYN_EVT_STAT, R.EVT_STAT], []⟩
  | .tcWindowEnd _ => ⟨[.nextOrd, .gr, .evt, .tacc, .sheaves, .tt, .out], [R.MBX_GRANGE_STAT, R.SHF_TT_STAT,
      R.SHF_TT_F, R.SHF_TT_UNC, R.SHF_TT_EVT_STAT, R.FWD_VER_STAT, R.EVT_STAT], []⟩
  | .cmdShfTtCarriers _ _ => ⟨[.nextOrd, .mem, .pwr, .gr, .evt, .tacc, .tdc, .cal, .twin, .out], [R.MBX_STATE,
      R.MBX_RETRY_STAT, R.MBX_GRANGE_STAT, R.FWD_VER_STAT, R.TDC_STAT, R.TDC_EVT_STAT, R.CAL_STAT, R.CAL_EVT_STAT,
      R.EVT_LAST_FAULT, R.EVT_STAT, R.TWN_STAT, R.PWR_MODE_CTL, R.PWR_MODE_STAT, R.PWR_RAIL_STAT, R.PWR_CLK_STAT,
      R.EVT_LASTING, R.EVT_FCNT], []⟩
  | .cmdShfTtCountersRead _ _ => ⟨[.nextOrd, .mem, .pwr, .gr, .evt, .tally, .tacc, .tdc, .cal, .twin, .out],
      [R.MBX_STATE, R.MBX_RETRY_STAT, R.MBX_GRANGE_STAT, R.FWD_VER_STAT, R.TDC_STAT, R.TDC_EVT_STAT, R.CAL_STAT,
      R.CAL_EVT_STAT, R.EVT_LAST_FAULT, R.EVT_STAT, R.TWN_STAT, R.PWR_MODE_CTL, R.PWR_MODE_STAT, R.PWR_RAIL_STAT,
      R.PWR_CLK_STAT, R.EVT_LASTING, R.EVT_FCNT], []⟩
  -- References and holdover (chapter 12)
  | .refinEdge _ _ _ => ⟨[.nextOrd, .nextFree, .gr, .evt, .tacc, .ref, .out], [R.MBX_GRANGE_STAT, R.FWD_VER_STAT,
      R.REF_SRC_STAT, R.REF_SRC_DEP, R.REF_FREQ_WORD, R.REF_EVT_STAT, R.SYN_RAMP_Z, R.SYN_STAT_STEER, R.SYN_STAT,
      R.SYN_EVT_STAT, R.EVT_STAT], []⟩
  | .refSignalTimeout _ => ⟨[.nextOrd, .gr, .evt, .tacc, .ref, .out], [R.MBX_GRANGE_STAT, R.FWD_VER_STAT,
      R.REF_SRC_STAT, R.REF_EVT_STAT, R.EVT_STAT], []⟩
  | .nmeaSentence _ => ⟨[.nextOrd, .nextFree, .gr, .evt, .tacc, .ref, .out], [R.MBX_GRANGE_STAT, R.FWD_VER_STAT,
      R.REF_SRC_STAT, R.REF_SRC_DEP, R.REF_FREQ_WORD, R.REF_EVT_STAT, R.SYN_RAMP_Z, R.SYN_STAT_STEER, R.SYN_STAT,
      R.SYN_EVT_STAT, R.EVT_STAT], []⟩
  | .ptpSample => ⟨[.nextOrd, .nextFree, .gr, .evt, .tacc, .ref, .out], [R.MBX_GRANGE_STAT, R.FWD_VER_STAT,
      R.REF_SRC_STAT, R.REF_SRC_DEP, R.REF_FREQ_WORD, R.REF_EVT_STAT, R.SYN_RAMP_Z, R.SYN_STAT_STEER, R.SYN_STAT,
      R.SYN_EVT_STAT, R.EVT_STAT], []⟩
  | .qualifyExpiry _ => ⟨[.nextOrd, .gr, .evt, .tacc, .ref, .out], [R.MBX_GRANGE_STAT, R.FWD_VER_STAT, R.REF_SRC_STAT,
      R.REF_EVT_STAT, R.EVT_STAT], []⟩
  | .requalExpiry _ => ⟨[.nextOrd, .gr, .evt, .ref, .out], [R.MBX_GRANGE_STAT, R.FWD_VER_STAT, R.REF_SRC_STAT], []⟩
  | .phaseStepApply => ⟨[.nextOrd, .gr, .evt, .tb, .ref, .syn, .out], [R.MBX_GRANGE_STAT, R.FWD_VER_STAT, R.ALM_STAT,
      R.ALM_EVT_STAT, R.TBS_DOM_STAT, R.TBS_EVT_STAT, R.TBS_TRIG_SKIP, R.REF_EVT_STAT], []⟩
  | .learnerRecord => ⟨[.nextOrd, .nextFree, .gr, .evt, .ref, .out], [R.MBX_GRANGE_STAT, R.FWD_VER_STAT, R.REF_STAT,
      R.REF_HO_STAT, R.REF_EVT_STAT], []⟩
  | .holdoverUpdate => ⟨[.nextOrd, .gr, .evt, .ref, .out], [R.MBX_GRANGE_STAT, R.FWD_VER_STAT, R.TBS_TE_STAT,
      R.REF_STAT, R.REF_FREQ_WORD, R.REF_HO_EST, R.REF_EVT_STAT, R.SYN_RAMP_Z, R.SYN_STAT_STEER, R.SYN_STAT,
      R.SYN_EVT_STAT], []⟩
  | .freqWordWrite _ => ⟨[.nextOrd, .gr, .evt, .ref, .out], [R.MBX_GRANGE_STAT, R.FWD_VER_STAT, R.REF_FREQ_WORD,
      R.SYN_RAMP_Z, R.SYN_STAT_STEER, R.SYN_STAT, R.SYN_EVT_STAT, R.EVT_RESERVED_OFS, R.EVT_STAT], []⟩
  | .pePush => ⟨[.nextOrd, .gr, .evt, .ref, .out], [R.MBX_GRANGE_STAT, R.FWD_VER_STAT, R.REF_PE_CNT, R.REF_EVT_STAT],
      []⟩
  | .peRead => ⟨[.nextOrd, .gr, .evt, .ref, .out], [R.MBX_GRANGE_STAT, R.FWD_VER_STAT, R.REF_PE_CNT, R.REF_PE_LO,
      R.REF_PE_HI], []⟩
  | .swStale => ⟨[.nextOrd, .gr, .evt, .ref, .out], [R.MBX_GRANGE_STAT, R.FWD_VER_STAT, R.REF_EVT_STAT], []⟩
  | .cmdRefForce _ _ => ⟨[.nextOrd, .mem, .pwr, .gr, .evt, .tacc, .ref, .tdc, .cal, .twin, .out], [R.MBX_STATE,
      R.MBX_RETRY_STAT, R.MBX_GRANGE_STAT, R.FWD_VER_STAT, R.REF_STAT, R.TDC_STAT, R.TDC_EVT_STAT, R.CAL_STAT,
      R.CAL_EVT_STAT, R.EVT_LAST_FAULT, R.EVT_STAT, R.TWN_STAT, R.TWN_TXN_STAT, R.PWR_MODE_CTL, R.PWR_MODE_STAT,
      R.PWR_RAIL_STAT, R.PWR_CLK_STAT, R.EVT_LASTING, R.EVT_FCNT], []⟩
  | .cmdRefGnssSend _ _ => ⟨[.nextOrd, .mem, .pwr, .gr, .evt, .tacc, .tdc, .cal, .twin, .out], [R.MBX_STATE,
      R.MBX_RETRY_STAT, R.MBX_GRANGE_STAT, R.FWD_VER_STAT, R.TDC_STAT, R.TDC_EVT_STAT, R.CAL_STAT, R.CAL_EVT_STAT,
      R.EVT_LAST_FAULT, R.EVT_STAT, R.TWN_STAT, R.PWR_MODE_CTL, R.PWR_MODE_STAT, R.PWR_RAIL_STAT, R.PWR_CLK_STAT,
      R.EVT_LASTING, R.EVT_FCNT], []⟩
  | .cmdRefCountersRead _ _ => ⟨[.nextOrd, .mem, .pwr, .gr, .evt, .tally, .tacc, .tdc, .cal, .twin, .out],
      [R.MBX_STATE, R.MBX_RETRY_STAT, R.MBX_GRANGE_STAT, R.FWD_VER_STAT, R.TDC_STAT, R.TDC_EVT_STAT, R.CAL_STAT,
      R.CAL_EVT_STAT, R.EVT_LAST_FAULT, R.EVT_STAT, R.TWN_STAT, R.PWR_MODE_CTL, R.PWR_MODE_STAT, R.PWR_RAIL_STAT,
      R.PWR_CLK_STAT, R.EVT_LASTING, R.EVT_FCNT], []⟩
  | .cmdRefModelClear _ _ => ⟨[.nextOrd, .mem, .pwr, .gr, .evt, .tacc, .ref, .tdc, .cal, .twin, .out], [R.MBX_STATE,
      R.MBX_RETRY_STAT, R.MBX_GRANGE_STAT, R.FWD_VER_STAT, R.REF_STAT, R.REF_HO_STAT, R.TDC_STAT, R.TDC_EVT_STAT,
      R.CAL_STAT, R.CAL_EVT_STAT, R.EVT_LAST_FAULT, R.EVT_STAT, R.TWN_STAT, R.PWR_MODE_CTL, R.PWR_MODE_STAT,
      R.PWR_RAIL_STAT, R.PWR_CLK_STAT, R.EVT_LASTING, R.EVT_FCNT], []⟩
  | .ppsoPulse _ => ⟨[.nextOrd, .gr, .evt, .ref, .out], [R.MBX_GRANGE_STAT, R.FWD_VER_STAT, R.REF_EVT_STAT], []⟩
  | .ppsoPulseEnd _ => ⟨[.nextOrd, .gr, .evt, .ref, .out], [R.MBX_GRANGE_STAT, R.FWD_VER_STAT], []⟩
  -- Clock synthesis (chapter 13)
  | .lockLost => ⟨[.nextOrd, .pwr, .gr, .evt, .tacc, .tdc, .cal, .twin, .out], [R.MBX_GRANGE_STAT, R.FWD_VER_STAT,
      R.SYN_EVT_STAT, R.TDC_STAT, R.TDC_EVT_STAT, R.CAL_STAT, R.CAL_EVT_STAT, R.EVT_LAST_FAULT, R.EVT_STAT,
      R.TWN_STAT, R.PWR_MODE_CTL, R.PWR_MODE_STAT, R.PWR_RAIL_STAT, R.PWR_CLK_STAT, R.EVT_LASTING, R.EVT_FCNT], []⟩
  | .rampUpdate => ⟨[.nextOrd, .gr, .evt, .ref, .syn, .out], [R.MBX_GRANGE_STAT, R.FWD_VER_STAT, R.SYN_RAMP_STAT,
      R.SYN_RAMP_Z, R.SYN_STAT_STEER, R.SYN_STAT, R.SYN_EVT_STAT], []⟩
  | .ckoOutputStart _ => ⟨[.nextOrd, .gr, .evt, .syn, .out], [R.MBX_GRANGE_STAT, R.FWD_VER_STAT, R.SYN_CKO_STAT,
      R.SYN_EVT_STAT], []⟩
  | .ckoSwitchEdge _ => ⟨[.nextOrd, .gr, .evt, .syn, .out], [R.MBX_GRANGE_STAT, R.FWD_VER_STAT, R.SYN_CKO_STAT,
      R.SYN_EVT_STAT], []⟩
  | .ckoStepEdge _ => ⟨[.nextOrd, .gr, .evt, .syn, .out], [R.MBX_GRANGE_STAT, R.FWD_VER_STAT, R.SYN_EVT_STAT], []⟩
  | .cmdSynRampStart _ _ => ⟨[.nextOrd, .mem, .pwr, .gr, .evt, .tacc, .ref, .syn, .tdc, .cal, .twin, .out],
      [R.MBX_STATE, R.MBX_RETRY_STAT, R.MBX_GRANGE_STAT, R.FWD_VER_STAT, R.SYN_RAMP_STAT, R.SYN_EVT_STAT, R.TDC_STAT,
      R.TDC_EVT_STAT, R.CAL_STAT, R.CAL_EVT_STAT, R.EVT_LAST_FAULT, R.EVT_STAT, R.TWN_STAT, R.TWN_TXN_STAT,
      R.PWR_MODE_CTL, R.PWR_MODE_STAT, R.PWR_RAIL_STAT, R.PWR_CLK_STAT, R.EVT_LASTING, R.EVT_FCNT], []⟩
  | .cmdSynRampStop _ _ => ⟨[.nextOrd, .mem, .pwr, .gr, .evt, .tacc, .syn, .tdc, .cal, .twin, .out], [R.MBX_STATE,
      R.MBX_RETRY_STAT, R.MBX_GRANGE_STAT, R.FWD_VER_STAT, R.SYN_RAMP_STAT, R.SYN_EVT_STAT, R.TDC_STAT,
      R.TDC_EVT_STAT, R.CAL_STAT, R.CAL_EVT_STAT, R.EVT_LAST_FAULT, R.EVT_STAT, R.TWN_STAT, R.TWN_TXN_STAT,
      R.PWR_MODE_CTL, R.PWR_MODE_STAT, R.PWR_RAIL_STAT, R.PWR_CLK_STAT, R.EVT_LASTING, R.EVT_FCNT], []⟩
  -- Interval measurement (chapter 14)
  | .tdcArm => ⟨[.nextOrd, .gr, .evt, .tdc, .out], [R.MBX_GRANGE_STAT, R.FWD_VER_STAT, R.TDC_STAT, R.TDC_EVT_STAT,
      R.TDC_CNT], []⟩
  | .tdcEdge _ _ _ _ => ⟨[.nextOrd, .pwr, .gr, .evt, .tacc, .tdc, .cal, .twin, .out], [R.MBX_GRANGE_STAT,
      R.FWD_VER_STAT, R.TDC_STAT, R.TDC_EVT_STAT, R.TDC_CNT, R.CAL_STAT, R.CAL_EVT_STAT, R.EVT_LAST_FAULT, R.EVT_STAT,
      R.TWN_STAT, R.PWR_MODE_CTL, R.PWR_MODE_STAT, R.PWR_RAIL_STAT, R.PWR_CLK_STAT, R.EVT_LASTING, R.EVT_FCNT], []⟩
  | .tdcTimeout => ⟨[.nextOrd, .gr, .evt, .tdc, .out], [R.MBX_GRANGE_STAT, R.FWD_VER_STAT, R.TDC_STAT, R.TDC_EVT_STAT,
      R.TDC_CNT], []⟩
  | .tdcResultLatch => ⟨[.nextOrd, .gr, .evt, .tdc, .out], [R.MBX_GRANGE_STAT, R.FWD_VER_STAT, R.TDC_RES], []⟩
  | .tdcResultRemove => ⟨[.nextOrd, .gr, .evt, .tdc, .out], [R.MBX_GRANGE_STAT, R.FWD_VER_STAT, R.TDC_STAT,
      R.TDC_EVT_STAT, R.TDC_RES], []⟩
  | .tdcBinDataAccess _ => ⟨[.nextOrd, .gr, .evt, .tdc, .out], [R.MBX_GRANGE_STAT, R.FWD_VER_STAT, R.ALM_BANK_STAT,
      R.TDC_BIN_SEL], []⟩
  | .cmdTdcRun _ _ => ⟨[.nextOrd, .mem, .pwr, .gr, .evt, .tacc, .tdc, .cal, .twin, .out], [R.MBX_STATE,
      R.MBX_RETRY_STAT, R.MBX_GRANGE_STAT, R.FWD_VER_STAT, R.TDC_STAT, R.TDC_EVT_STAT, R.TDC_CNT, R.CAL_STAT,
      R.CAL_EVT_STAT, R.EVT_LAST_FAULT, R.EVT_STAT, R.TWN_STAT, R.PWR_MODE_CTL, R.PWR_MODE_STAT, R.PWR_RAIL_STAT,
      R.PWR_CLK_STAT, R.EVT_LASTING, R.EVT_FCNT], []⟩
  | .cmdTdcStop _ _ => ⟨[.nextOrd, .mem, .pwr, .gr, .evt, .tacc, .tdc, .cal, .twin, .out], [R.MBX_STATE,
      R.MBX_RETRY_STAT, R.MBX_GRANGE_STAT, R.FWD_VER_STAT, R.TDC_STAT, R.TDC_EVT_STAT, R.TDC_CNT, R.CAL_STAT,
      R.CAL_EVT_STAT, R.EVT_LAST_FAULT, R.EVT_STAT, R.TWN_STAT, R.PWR_MODE_CTL, R.PWR_MODE_STAT, R.PWR_RAIL_STAT,
      R.PWR_CLK_STAT, R.EVT_LASTING, R.EVT_FCNT], []⟩
  | .cmdTdcBinCal _ _ => ⟨[.nextOrd, .mem, .pwr, .gr, .evt, .tacc, .tdc, .cal, .twin, .out], [R.MBX_STATE,
      R.MBX_RETRY_STAT, R.MBX_GRANGE_STAT, R.FWD_VER_STAT, R.TDC_STAT, R.TDC_EVT_STAT, R.TDC_CNT, R.CAL_STAT,
      R.CAL_EVT_STAT, R.EVT_LAST_FAULT, R.EVT_STAT, R.TWN_STAT, R.PWR_MODE_CTL, R.PWR_MODE_STAT, R.PWR_RAIL_STAT,
      R.PWR_CLK_STAT, R.EVT_LASTING, R.EVT_FCNT], []⟩
  | .binCalDone _ _ => ⟨[.nextOrd, .committed, .mem, .pwr, .gr, .evt, .tacc, .tdc, .cal, .twin, .out], [R.MBX_STATE,
      R.MBX_RETRY_STAT, R.MBX_GRANGE_STAT, R.FWD_VER_STAT, R.TDC_BIN_TEMP, R.TDC_STAT, R.TDC_EVT_STAT, R.CAL_STAT,
      R.CAL_EVT_STAT, R.EVT_LAST_FAULT, R.EVT_STAT, R.TWN_STAT, R.PWR_MODE_CTL, R.PWR_MODE_STAT, R.PWR_RAIL_STAT,
      R.PWR_CLK_STAT, R.EVT_LASTING, R.EVT_FCNT], []⟩
  -- Calibration (chapter 15)
  | .pathMeasured _ _ _ => ⟨[.nextOrd, .pwr, .gr, .evt, .tacc, .tdc, .cal, .twin, .out], [R.MBX_GRANGE_STAT,
      R.FWD_VER_STAT, R.TDC_STAT, R.TDC_EVT_STAT, R.CAL_STAT, R.CAL_EVT_STAT, R.EVT_LAST_FAULT, R.EVT_STAT,
      R.TWN_STAT, R.PWR_MODE_CTL, R.PWR_MODE_STAT, R.PWR_RAIL_STAT, R.PWR_CLK_STAT, R.EVT_LASTING, R.EVT_FCNT], []⟩
  | .calRunDone => ⟨[.nextOrd, .committed, .pwr, .gr, .evt, .tacc, .cal, .twin, .out], [R.MBX_GRANGE_STAT,
      R.FWD_VER_STAT, R.TDC_STAT, R.TDC_EVT_STAT, R.CAL_LAST_TEMP, R.CAL_STAT, R.CAL_OCXO_TRIM, R.CAL_EVT_STAT,
      R.EVT_STAT, R.TWN_STAT, R.PWR_MODE_CTL, R.PWR_MODE_STAT, R.PWR_RAIL_STAT, R.PWR_CLK_STAT], []⟩
  | .trimRampStep _ => ⟨[.nextOrd, .gr, .evt, .cal, .out], [R.MBX_GRANGE_STAT, R.FWD_VER_STAT], []⟩
  | .ocxoRetuneStep => ⟨[.nextOrd, .committed, .gr, .evt, .ref, .cal, .out], [R.MBX_GRANGE_STAT, R.FWD_VER_STAT,
      R.REF_FREQ_WORD, R.SYN_RAMP_Z, R.SYN_STAT_STEER, R.SYN_STAT, R.SYN_EVT_STAT, R.CAL_OCXO_TRIM], []⟩
  | .calPathTrimAccess _ => ⟨[.nextOrd, .gr, .evt, .cal, .out], [R.MBX_GRANGE_STAT, R.FWD_VER_STAT, R.ALM_BANK_STAT,
      R.CAL_PATH_SEL], []⟩
  | .cmdCalTrace _ _ _ _ => ⟨[.nextOrd, .mem, .pwr, .gr, .evt, .tacc, .tb, .tdc, .cal, .twin, .out], [R.MBX_STATE,
      R.MBX_RETRY_STAT, R.MBX_GRANGE_STAT, R.FWD_VER_STAT, R.TDC_STAT, R.TDC_EVT_STAT, R.CAL_STAT, R.CAL_EVT_STAT,
      R.EVT_LAST_FAULT, R.EVT_STAT, R.TWN_STAT, R.PWR_MODE_CTL, R.PWR_MODE_STAT, R.PWR_RAIL_STAT, R.PWR_CLK_STAT,
      R.EVT_LASTING, R.EVT_FCNT], []⟩
  | .cmdCalFreq _ _ _ => ⟨[.nextOrd, .mem, .pwr, .gr, .evt, .tacc, .tdc, .cal, .twin, .out], [R.MBX_STATE,
      R.MBX_RETRY_STAT, R.MBX_GRANGE_STAT, R.FWD_VER_STAT, R.TDC_STAT, R.TDC_EVT_STAT, R.CAL_STAT, R.CAL_EVT_STAT,
      R.EVT_LAST_FAULT, R.EVT_STAT, R.TWN_STAT, R.PWR_MODE_CTL, R.PWR_MODE_STAT, R.PWR_RAIL_STAT, R.PWR_CLK_STAT,
      R.EVT_LASTING, R.EVT_FCNT], []⟩
  | .calFreqIntervalEnd _ _ => ⟨[.nextOrd, .mem, .gr, .evt, .out], [R.MBX_STATE, R.MBX_RETRY_STAT, R.MBX_GRANGE_STAT,
      R.FWD_VER_STAT, R.CAL_EVT_STAT, R.EVT_STAT, R.EVT_FCNT], []⟩
  -- Integrity and events (chapter 16)
  | .retryResult _ _ _ => ⟨[.nextOrd, .committed, .pwr, .gr, .evt, .tally, .tacc, .ports, .cars, .sheaves, .fwd, .grn,
      .alm, .tb, .tdc, .cal, .twin, .out], [R.MBX_GRANGE_STAT, R.FWD_VER_STAT, R.GRN_POOL_STAT, R.GRN_SILO_STAT,
      R.GRN_EVT_STAT, R.ALM_EVT_STAT, R.ALM_EVT_SRC, R.TDC_STAT, R.TDC_EVT_STAT, R.TDC_CNT, R.CAL_STAT,
      R.CAL_EVT_STAT, R.EVT_LAST_FAULT, R.EVT_CNT, R.EVT_STAT, R.TWN_STAT, R.PWR_MODE_CTL, R.PWR_MODE_STAT,
      R.PWR_RAIL_STAT, R.PWR_CLK_STAT, R.EVT_LASTING, R.EVT_FCNT], []⟩
  | .d2dReset _ _ => ⟨[.nextOrd, .pwr, .gr, .evt, .tacc, .tb, .tdc, .cal, .twin, .out], [R.MBX_GRANGE_STAT,
      R.FWD_VER_STAT, R.TDC_STAT, R.TDC_EVT_STAT, R.CAL_STAT, R.CAL_EVT_STAT, R.EVT_LAST_FAULT, R.EVT_D2D_STAT,
      R.EVT_STAT, R.TWN_STAT, R.PWR_MODE_CTL, R.PWR_MODE_STAT, R.PWR_RAIL_STAT, R.PWR_CLK_STAT, R.EVT_LASTING,
      R.EVT_FCNT], []⟩
  | .replicaReload => ⟨[.nextOrd, .gr, .evt, .tb, .out], [R.MBX_GRANGE_STAT, R.FWD_VER_STAT, R.EVT_D2D_STAT,
      R.EVT_STAT], []⟩
  | .logRecordEntry => ⟨[.nextOrd, .gr, .evt, .out], [R.MBX_GRANGE_STAT, R.FWD_VER_STAT, R.EVT_LOG_STAT, R.EVT_STAT],
      []⟩
  | .logLatch => ⟨[.nextOrd, .gr, .evt, .out], [R.MBX_GRANGE_STAT, R.FWD_VER_STAT, R.EVT_LOG], []⟩
  | .logRemove => ⟨[.nextOrd, .gr, .evt, .out], [R.MBX_GRANGE_STAT, R.FWD_VER_STAT, R.EVT_LOG_STAT, R.EVT_LOG], []⟩
  | .vectorRearm _ => ⟨[.nextOrd, .gr, .evt, .out], [R.MBX_GRANGE_STAT, R.FWD_VER_STAT], []⟩
  | .cmdEvtLogRead _ _ => ⟨[.nextOrd, .mem, .pwr, .gr, .evt, .tacc, .tdc, .cal, .twin, .out], [R.MBX_STATE,
      R.MBX_RETRY_STAT, R.MBX_GRANGE_STAT, R.FWD_VER_STAT, R.TDC_STAT, R.TDC_EVT_STAT, R.CAL_STAT, R.CAL_EVT_STAT,
      R.EVT_LAST_FAULT, R.EVT_LOG_STAT, R.EVT_LOG, R.EVT_STAT, R.TWN_STAT, R.PWR_MODE_CTL, R.PWR_MODE_STAT,
      R.PWR_RAIL_STAT, R.PWR_CLK_STAT, R.EVT_LASTING, R.EVT_FCNT], []⟩
  | .cmdEvtSpareReport _ _ => ⟨[.nextOrd, .mem, .pwr, .gr, .evt, .tacc, .tdc, .cal, .twin, .out], [R.MBX_STATE,
      R.MBX_RETRY_STAT, R.MBX_GRANGE_STAT, R.FWD_VER_STAT, R.TDC_STAT, R.TDC_EVT_STAT, R.CAL_STAT, R.CAL_EVT_STAT,
      R.EVT_LAST_FAULT, R.EVT_STAT, R.TWN_STAT, R.PWR_MODE_CTL, R.PWR_MODE_STAT, R.PWR_RAIL_STAT, R.PWR_CLK_STAT,
      R.EVT_LASTING, R.EVT_FCNT], []⟩
  -- The twin pair (chapter 17)
  | .heartbeatSend => ⟨[.nextOrd, .gr, .evt, .tacc, .twin, .out], [R.MBX_GRANGE_STAT, R.FWD_VER_STAT, R.EVT_STAT,
      R.TWN_STAT, R.TWN_HEALTH, R.TWN_EVT_STAT], []⟩
  | .heartbeatReceived _ _ _ => ⟨[.nextOrd, .nextFrame, .nextFree, .committed, .latches, .mem, .pwr, .boot, .gr, .evt,
      .tally, .tacc, .ports, .cars, .sheaves, .fwd, .grn, .alm, .tb, .tt, .ref, .syn, .tdc, .cal, .twin, .out], [],
      [0, 1, 2, 3, 4, 5, 6, 7, 8, 9, 10, 11, 12, 13, 14, 255]⟩
  | .mirrorMessageReceived _ _ => ⟨[.nextOrd, .gr, .evt, .tally, .tacc, .ports, .cars, .sheaves, .fwd, .grn, .alm,
      .tt, .ref, .twin, .out], [R.MBX_GRANGE_STAT, R.SHF_SHEAF_STAT, R.SHF_LOSS_WAIT, R.SHF_TT_STAT,
      R.SHF_TT_EVT_STAT, R.SHF_CAR_STAT, R.SHF_CAR_EVT_STAT, R.FWD_VER_STAT, R.FWD_EVT_STAT, R.FWD_EGR_STAT,
      R.GRN_POOL_STAT, R.GRN_SILO_STAT, R.GRN_EVT_STAT, R.ALM_EVT_STAT, R.ALM_EVT_SRC, R.REF_SRC_STAT, R.EVT_STAT,
      R.TWN_STAT, R.TWN_TXN_STAT, R.TWN_MIRROR_STAT], []⟩
  | .messageLossTimeout => ⟨[.nextOrd, .gr, .evt, .tally, .tacc, .ports, .cars, .sheaves, .fwd, .grn, .alm, .tt, .ref,
      .twin, .out], [R.MBX_GRANGE_STAT, R.SHF_SHEAF_STAT, R.SHF_LOSS_WAIT, R.SHF_TT_STAT, R.SHF_TT_EVT_STAT,
      R.SHF_CAR_STAT, R.SHF_CAR_EVT_STAT, R.FWD_VER_STAT, R.FWD_EVT_STAT, R.FWD_EGR_STAT, R.GRN_POOL_STAT,
      R.GRN_SILO_STAT, R.GRN_EVT_STAT, R.ALM_EVT_STAT, R.ALM_EVT_SRC, R.REF_SRC_STAT, R.EVT_STAT, R.TWN_STAT,
      R.TWN_TXN_STAT, R.TWN_MIRROR_STAT], []⟩
  | .partnerLost => ⟨[.nextOrd, .committed, .latches, .mem, .pwr, .boot, .gr, .evt, .tally, .tacc, .ports, .cars,
      .sheaves, .fwd, .grn, .alm, .tb, .tt, .ref, .syn, .tdc, .cal, .twin, .out], [R.PWR_RAIL_STAT, R.PWR_CLK_STAT,
      R.PWR_OCXO_STAT, R.PWR_BOOT_STAT, R.EVT_FCNT], [0, 1, 2, 3, 4, 5, 6, 7, 8, 9, 10, 11, 12, 14]⟩
  | .laneDown _ => ⟨[.nextOrd, .gr, .evt, .twin, .out], [R.MBX_GRANGE_STAT, R.FWD_VER_STAT, R.TWN_STAT,
      R.TWN_EVT_STAT], []⟩
  | .pairWaitExpiry => ⟨[.nextOrd, .gr, .evt, .cars, .twin, .out], [R.MBX_GRANGE_STAT, R.FWD_VER_STAT, R.TWN_STAT],
      []⟩
  | .txnApply => ⟨[.nextOrd, .nextFrame, .committed, .latches, .mem, .pwr, .boot, .gr, .evt, .tally, .tacc, .ports,
      .cars, .sheaves, .fwd, .grn, .alm, .tb, .tt, .ref, .syn, .tdc, .cal, .twin, .out], [], [0, 1, 2, 3, 4, 5, 6, 7,
      8, 9, 10, 11, 12, 13, 14, 255]⟩
  | .resyncDone => ⟨[.nextOrd, .gr, .evt, .tacc, .twin, .out], [R.MBX_GRANGE_STAT, R.FWD_VER_STAT, R.EVT_STAT,
      R.TWN_STAT, R.TWN_HEALTH, R.TWN_EVT_STAT], []⟩
  | .relinquishTimeout => ⟨[.nextOrd, .committed, .latches, .mem, .pwr, .boot, .gr, .evt, .tally, .tacc, .ports,
      .cars, .sheaves, .fwd, .grn, .alm, .tb, .tt, .ref, .syn, .tdc, .cal, .twin, .out], [R.PWR_RAIL_STAT,
      R.PWR_CLK_STAT, R.PWR_OCXO_STAT, R.PWR_BOOT_STAT, R.EVT_FCNT], [0, 1, 2, 3, 4, 5, 6, 7, 8, 9, 10, 11, 12, 14]⟩
  | .degradeHoldExpiry => ⟨[.nextOrd, .gr, .evt, .tacc, .twin, .out], [R.MBX_GRANGE_STAT, R.FWD_VER_STAT, R.EVT_STAT,
      R.TWN_STAT], []⟩
  | .wtrExpiry => ⟨[.nextOrd, .gr, .evt, .tacc, .twin, .out], [R.MBX_GRANGE_STAT, R.FWD_VER_STAT, R.EVT_STAT,
      R.TWN_STAT, R.TWN_EVT_STAT], []⟩
  | .heartbeatSilence => ⟨[.nextOrd, .gr, .evt, .twin, .out], [R.MBX_GRANGE_STAT, R.FWD_VER_STAT], []⟩
  | .carrierMessageSend => ⟨[.nextOrd, .gr, .evt, .tacc, .twin, .out], [R.MBX_GRANGE_STAT, R.FWD_VER_STAT,
      R.EVT_STAT], []⟩
  | .countMessageSend => ⟨[.nextOrd, .gr, .evt, .tacc, .twin, .out], [R.MBX_GRANGE_STAT, R.FWD_VER_STAT, R.EVT_STAT],
      []⟩
  | .checkMessageSend => ⟨[.nextOrd, .gr, .evt, .tacc, .twin, .out], [R.MBX_GRANGE_STAT, R.FWD_VER_STAT, R.EVT_STAT],
      []⟩
  | .cmdTwnSwitch _ _ => ⟨[.nextOrd, .mem, .pwr, .gr, .evt, .tacc, .tdc, .cal, .twin, .out], [R.MBX_STATE,
      R.MBX_RETRY_STAT, R.MBX_GRANGE_STAT, R.FWD_VER_STAT, R.TDC_STAT, R.TDC_EVT_STAT, R.CAL_STAT, R.CAL_EVT_STAT,
      R.EVT_LAST_FAULT, R.EVT_STAT, R.TWN_STAT, R.PWR_MODE_CTL, R.PWR_MODE_STAT, R.PWR_RAIL_STAT, R.PWR_CLK_STAT,
      R.EVT_LASTING, R.EVT_FCNT], []⟩
  | .cmdTwnTableAdopt _ _ => ⟨[.nextOrd, .mem, .pwr, .gr, .evt, .tacc, .tdc, .cal, .twin, .out], [R.MBX_STATE,
      R.MBX_RETRY_STAT, R.MBX_GRANGE_STAT, R.FWD_VER_STAT, R.TDC_STAT, R.TDC_EVT_STAT, R.CAL_STAT, R.CAL_EVT_STAT,
      R.EVT_LAST_FAULT, R.EVT_STAT, R.TWN_STAT, R.PWR_MODE_CTL, R.PWR_MODE_STAT, R.PWR_RAIL_STAT, R.PWR_CLK_STAT,
      R.EVT_LASTING, R.EVT_FCNT], []⟩
  | .cmdTwnResync _ _ => ⟨[.nextOrd, .mem, .pwr, .gr, .evt, .tacc, .tdc, .cal, .twin, .out], [R.MBX_STATE,
      R.MBX_RETRY_STAT, R.MBX_GRANGE_STAT, R.FWD_VER_STAT, R.TDC_STAT, R.TDC_EVT_STAT, R.CAL_STAT, R.CAL_EVT_STAT,
      R.EVT_LAST_FAULT, R.EVT_STAT, R.TWN_STAT, R.TWN_TXN_STAT, R.PWR_MODE_CTL, R.PWR_MODE_STAT, R.PWR_RAIL_STAT,
      R.PWR_CLK_STAT, R.EVT_LASTING, R.EVT_FCNT], []⟩
  | .cmdTwnCountersRead _ _ => ⟨[.nextOrd, .mem, .pwr, .gr, .evt, .tally, .tacc, .tdc, .cal, .twin, .out],
      [R.MBX_STATE, R.MBX_RETRY_STAT, R.MBX_GRANGE_STAT, R.FWD_VER_STAT, R.TDC_STAT, R.TDC_EVT_STAT, R.CAL_STAT,
      R.CAL_EVT_STAT, R.EVT_LAST_FAULT, R.EVT_STAT, R.TWN_STAT, R.PWR_MODE_CTL, R.PWR_MODE_STAT, R.PWR_RAIL_STAT,
      R.PWR_CLK_STAT, R.EVT_LASTING, R.EVT_FCNT], []⟩

end Sys2Proof
end

