-- ==== Sys2Proof/Safety/Claims.lean ====
section
/-! DEFINITION. Sys2Proof/Safety/Claims.lean: the terms in which claims speak of mailbox commands. -/
namespace Sys2Proof.Machine

/-- A register whose write has no meaning of its own beyond its access codes (R10), and which no command's end updates. -/
def Reg.plain (r : Reg) : Bool :=
  !([R.MBX_DOORBELL, R.MBX_COMMIT_CTL, R.MBX_COMMIT_GROUPS, R.MBX_DT_NOTIFY, R.TBS_SNAP_CTL, R.TBS_RPT_CONS, R.REF_FREQ_WORD,
    R.TDC_BIN_DATA, R.CAL_PATH_TRIM, R.CAL_PATH_BASE, R.EVT_REARM, R.PWR_MODE_CTL, R.PWR_RESET_CTL, R.MBX_GRANGE_STAT,
    R.FWD_VER_STAT, R.ALM_BANK_STAT] : List Reg).contains r

/-- The registers that a write of `r` may change beside it: those of a reserved encoding (R13), the wake state, versions and
pending bank of whatever follows a command in its tick, and what the rules of `r` itself name (R297, R360). -/
def Reg.beside (r : Reg) : List Reg :=
  [R.EVT_RESERVED_OFS, R.EVT_STAT, R.MBX_GRANGE_STAT, R.FWD_VER_STAT, R.ALM_BANK_STAT] ++
    (if r = R.ALM_CFG then [R.ALM_STAT, R.ALM_EVT_STAT] else if r = R.REF_PTP_STAT then [R.REF_SRC_STAT] else [])

/-- From `s` to `t` every register but `r` of index `i`, and those beside it, keeps its value. -/
def State.otherRegs (s t : State) (r : Reg) (i : Nat) : Prop :=
  ∀ k, k ≠ r.at i → (∀ q ∈ r.beside, ∀ n, k ≠ q.at n) → ∀ d, SMap.get d t.regs k = SMap.get d s.regs k

/-- The bit of event `e`, object `i`, is set in its status register (R447, R453). -/
def State.raised (s : State) (e : Ev) (i : Nat := 0) : Bool := testBit (s.reg e.stat (e.inst i)).toNat e.bitNo

/-- Between `s` and `t` the module sent `o`. -/
def State.sends (s t : State) (o : Out) : Prop := ∃ l, t.out = s.out ++ l ∧ o ∈ l

/-! ### Mailbox commands -/

/-- Bawalo serves mailboxes with no reboot under way, mailbox `m` holds a command of opcode `opc` that may start (POSTED,
or RUNNING where a reboot repeats it), its FLAGS have no reserved bit, and this execution of it succeeds (R92, R99, R103, R104,
R108, R109, R111). -/
def State.accepts (s : State) (m : Fin 16) (opc : Nat) (x : Exec) : Bool :=
  s.ready m opc && !s.recovery && !s.boot.running && s.mflags m / 4 = 0 &&
  (x = .clean || (x = .retried && !(s.mbxAt m).retry))

/-- Mailbox `m` shows DONE, and its response gives the status and the result (R98, R101). -/
def State.answered (s : State) (m : Fin 16) (status : Nat) (result : List Byte) : Prop :=
  s.mst m = mDONE ∧ s.mf m 8 2 = status ∧ s.mf m 10 2 = result.length ∧ s.mbytes m 64 result.length = result

/-- `t` is `s` with the command in mailbox `m` completed and nothing more, the words sent apart (R98). -/
def State.onlyAnswers (s t : State) (m : Fin 16) (status detail : Nat) : Prop :=
  { t with out := [] } = { ((s.setMst m mRUNNING).complete m status detail).settle with out := [] }

/-- The same of a command that had an error twice, which is a lasting fault of class 7 (R108). -/
def State.onlyFails (s t : State) (m : Fin 16) : Prop :=
  { t with out := [] } = { ((s.setMst m mRUNNING).cmdLasting m).settle with out := [] }

/-- From `s` to `t` the command in mailbox `m` succeeds: ST_OK, or ST_TRANSIENT_RECOVERED where this execution, or the one
that a reboot repeats, had an error before (R108). -/
def State.succeeds (s t : State) (m : Fin 16) (x : Exec) (result : List Byte) : Prop :=
  t.answered m (if x = .clean && !(s.mbxAt m).retry then ST_OK else ST_TRANSIENT_RECOVERED) result

/-- From `s` to `t` the work of the command in mailbox `m` ends with a status and a result, written at once or, while the
Grange reboots, kept until it serves again (R101, R108, R109). -/
def State.ends (s t : State) (m : Fin 16) (status : Nat) (result : List Byte) : Prop :=
  if s.boot.running then (t.mbxAt m).job = none ∧ (t.mbxAt m).late.map (fun l => (l.1, l.2.2)) = some (status, result)
  else t.answered m (if status = ST_OK && (s.mbxAt m).retry then ST_TRANSIENT_RECOVERED else status) result

/-- The state with mailbox `m` marked as repeating its execution, where `x` says that this one had an error (R108). -/
def State.again (s : State) (m : Fin 16) (x : Exec) : State :=
  if x = .clean then s else s.updMbx m fun b => { b with retry := true }

/-- The tick at which the whole condition of the fence in mailbox `m` first held, the present one included (R111, R112). -/
def State.fenceHeld (s : State) (m : Fin 16) (drain : Bool) : Option Nat :=
  match (s.mbxAt m).heldAt, (s.mbxAt m).met with
  | some h, _ => some h
  | none, some n => if !drain || s.drained n then some s.now else none
  | none, none => if s.fenceCond m && (!drain || s.drained s.nextOrd) then some s.now else none

/-- From `s` to `t` the commit `c` ends with a status: it is taken off the engine, and the path that asked for it shows the
result (R103, R115). -/
def State.commitEnds (s t : State) (c : Commit) (status : Nat) : Prop :=
  c ∉ t.gr.commits ∧ (c.path = none → t.rd MBX_COMMIT_STAT.RESULT = status) ∧
  ∀ m, c.path = some m → s.mst m = mRUNNING → ((s.mbxAt m).job = some .commit ∨ (s.mbxAt m).job = some .restore) →
    s.ends t m status []

/-- Mailbox `m` is RUNNING with work to finish. -/
def State.works (s : State) (m : Fin 16) (j : Job) : Prop := s.mst m = mRUNNING ∧ (s.mbxAt m).job = some j

/-- The frame that RECEIVE_FRAME takes at port `p`, with the buffers that its receiver was granted (R142, R244). -/
def State.rxAsm (s : State) (p : Fin 256) (bytes : List Byte) (codeErr : Bool) (i : Inst) : Assembly :=
  let a := (s.echo p (.loopback p .frame bytes)).updPort p fun o => { o with loop := o.loop.drop 1 }
  (a.join p (a.newAsm p i) bytes codeErr).1

/-- The FCS of a frame received whole is good: its CRC leaves the residue of IEEE 802.3 (R141). -/
def crcGood (bytes : List Byte) : Bool := bytes.foldl (crcLsbByte 0xEDB88320) 0xFFFFFFFF = 0xDEBB20E3

/-- The counter of R161 that a received frame adds to, by the first row of R141 that matches; 0 for a frame that goes to its
pipeline, none for a PFC frame, which counts by class. -/
def State.rxRow (s : State) (p : Fin 256) (bytes : List Byte) (codeErr cut : Bool) (i : Inst) : Option Nat :=
  if cut then some 21
  else if codeErr then some 20
  else if bytes.length ≤ 63 then some (if crcGood bytes then 15 else 16)
  else if s.maxAt p i.tick < bytes.length then some (if crcGood bytes then 17 else 18)
  else if !crcGood bytes then some 19
  else if be16 bytes 12 = etCTRL then
    if bytes.take 6 ≠ [0x01, 0x80, 0xC2, 0x00, 0x00, 0x01] then some 14
    else if be16 bytes 14 = 1 && s.com PRT_CFG.FC_MODE p = 1 then some 5
    else if be16 bytes 14 = 0x101 && s.com PRT_CFG.FC_MODE p = 2 then none
    else some 14
  else if s.comB PRT_CFG.IP_CSUM_CHECK p && badIp4 (bytes.take (bytes.length - 4)) then some 22
  else some 0

/-- Pages that the spill of entry `e` behind `prev` needs beyond those of its segment (R255). -/
def State.spillNeed (s : State) (n : Nat) (prev : Option QEnt) (e : QEnt) : Nat :=
  let g := ((s.queue n).openSeg prev).getD { num := (s.queue n).nextSeg }
  let start := if g.pages.isEmpty then 0 else (g.pages.length - 1) * pageRoom + g.fill
  (start + siloSize e.frame - 1) / pageRoom + 1 - g.pages.length

/-- The result of a counter-read command: the tick, then `cnt` slots from `base + first` (R160). -/
def State.slotsAnswer (s : State) (base first cnt : Nat) : List Byte :=
  leBytes 8 s.tick ++ (List.range cnt).flatMap (fun i => leBytes 8 (s.slot (base + first + i)))

/-- CLEAR of a counter-read command sets each slot that it read to 0 (R160). -/
def State.slotsCleared (t : State) (clear : Bool) (base first cnt : Nat) : Prop :=
  clear = true → ∀ i < cnt, t.slot (base + first + i) = 0

end Sys2Proof.Machine

/-! ### Kinds of commands -/
namespace Sys2Proof

/-- The chapter that gives a command (of two chapters, the first; chapter 18 stands with chapter 4). -/
def Instr.chapter : Instr → Nat
  | .feedConnect _ _ => 2
  | .feedDisconnect _ _ _ => 2
  | .rideThroughEnd => 2
  | .chargeComplete _ => 2
  | .powerOnReset _ => 2
  | .railRampTimeout _ => 2
  | .railLeavesRegulation _ => 2
  | .tempEstimate _ _ => 2
  | .feedMonitorUpdate _ _ _ _ _ _ => 2
  | .resetPin _ => 2
  | .softwareModuleReset _ => 2
  | .softwareSwitchReset _ => 2
  | .grangeWatchdogReset => 2
  | .pcieFundamentalReset _ => 2
  | .smbRegisterWrite _ _ _ _ => 2
  | .smbRegisterRead _ _ => 2
  | .smbAlertResponse => 2
  | .smbClockLowTimeout => 2
  | .tapInstruction _ => 2
  | .tapReset => 2
  | .modeRequest _ _ => 2
  | .ocxoHoldWarmWrite _ => 2
  | .transitionComplete => 2
  | .oldRailsOff => 2
  | .warmupToTimekeep => 2
  | .ocxoWarmSet _ => 2
  | .ocxoWarmClear _ => 2
  | .mdllLock => 2
  | .lanePowered _ => 2
  | .bootCheckDone _ => 2
  | .registerWrite _ _ _ _ => 2
  | .d2dTransferFail _ => 2
  | .doorbell _ => 4
  | .mailboxWrite _ _ => 4
  | .fencedCommandStart _ => 4
  | .cmdNop _ _ => 4
  | .cmdIdentify _ _ => 4
  | .cmdFence _ _ => 4
  | .fenceRelease _ => 4
  | .fenceTimeout _ => 4
  | .cmdTableBind _ _ => 4
  | .cmdTableSync _ _ => 4
  | .cmdTableRead _ _ => 4
  | .cmdCommit _ _ => 4
  | .cmdConfigSave _ _ => 4
  | .cmdConfigRestore _ _ => 4
  | .cmdImageDownload _ _ => 4
  | .cmdImageActivate _ _ => 4
  | .commitGo _ => 4
  | .commitDiscard _ => 4
  | .commitCheckDone _ => 4
  | .commitApplyAt _ => 4
  | .commitApplyBoundary _ => 4
  | .committedViewWrite _ => 4
  | .tableNotify _ _ => 4
  | .entryFetchDone _ _ _ => 4
  | .msixUnmask _ => 4
  | .flashOperationDone _ _ _ _ => 4
  | .loReadLatch _ => 4
  | .signalDetect _ => 5
  | .adaptDone _ => 5
  | .alignLock _ _ _ => 5
  | .attemptTimeout _ => 5
  | .upDebounceExpiry _ => 5
  | .portLinkFault _ _ _ _ _ => 5
  | .glitch _ => 5
  | .downDebounceExpiry _ => 5
  | .fecDegradeWindow _ _ => 5
  | .receiveFrame _ _ _ _ _ _ => 5
  | .receiveFragment _ _ _ _ _ _ _ => 5
  | .pauseTakesEffect _ => 5
  | .pauseTimerExpiry _ _ => 5
  | .pfcFrameSend _ => 5
  | .pfcRepeat _ => 5
  | .verifyTimeout _ => 5
  | .optIntEdge _ _ => 5
  | .tallyFold => 5
  | .cmdPrtCountersRead _ _ => 5
  | .cmdPrtOptXfer _ _ _ _ _ => 5
  | .codewordLock _ => 6
  | .codewordLockLost _ _ => 6
  | .grainSlot _ _ => 6
  | .dataGrainReceived _ _ _ _ _ _ => 6
  | .timingGrainReceived _ _ _ _ => 6
  | .grainLossTimeout _ => 6
  | .syncWaitExpiry _ => 6
  | .keepaliveExpiry _ => 6
  | .carrierAttemptTimeout _ => 6
  | .parkLossWaitExpiry _ => 6
  | .cmdShfCarrierOp _ _ => 6
  | .carrierOpTimeout _ => 6
  | .cmdShfCountersRead _ _ => 6
  | .installResume _ => 7
  | .egressFrameStart _ _ => 7
  | .pipelineFrame _ => 7
  | .bucketReadDone _ => 7
  | .planeCrossing _ => 7
  | .planeDrainEnd => 7
  | .reaperVisit => 7
  | .linkHoldExpiry _ => 7
  | .cmdFwdCountersRead _ _ => 7
  | .cmdFwdQueueStat _ _ => 7
  | .cmdFwdFlush _ _ => 7
  | .txFrameComplete _ _ => 8
  | .spillWriteDone _ _ _ => 8
  | .recallPageReadDone _ _ _ => 8
  | .siloCacheRefill => 8
  | .gleanerSweep => 8
  | .cmdGrnCountersRead _ _ => 8
  | .cmdGrnCellTest _ _ _ => 8
  | .cmdGrnSweep _ _ => 8
  | .slewResidueZero _ => 9
  | .sheafEgressDecision _ => 9
  | .windowEnd _ => 9
  | .cmdAlmCountersRead _ _ => 9
  | .cmdAlmBankCheck _ _ => 9
  | .cmdAlmRealign _ _ => 9
  | .hostTimeoutExpiry _ => 10
  | .adjustApply _ => 10
  | .snapshot _ => 10
  | .rptConsWrite _ _ => 10
  | .triggerPulse _ => 10
  | .triggerPulseEnd _ => 10
  | .cmdTbsAdjust _ _ => 10
  | .cmdTbsSet _ _ => 10
  | .cmdTbsReportBind _ _ => 10
  | .cmdTbsCountersRead _ _ => 10
  | .measSetEntry _ => 11
  | .ttWindowEnd _ => 11
  | .tcWindowEnd _ => 11
  | .cmdShfTtCarriers _ _ => 11
  | .cmdShfTtCountersRead _ _ => 11
  | .refinEdge _ _ _ => 12
  | .refSignalTimeout _ => 12
  | .nmeaSentence _ => 12
  | .ptpSample => 12
  | .qualifyExpiry _ => 12
  | .requalExpiry _ => 12
  | .phaseStepApply => 12
  | .learnerRecord => 12
  | .holdoverUpdate => 12
  | .freqWordWrite _ => 12
  | .pePush => 12
  | .peRead => 12
  | .swStale => 12
  | .cmdRefForce _ _ => 12
  | .cmdRefGnssSend _ _ => 12
  | .cmdRefCountersRead _ _ => 12
  | .cmdRefModelClear _ _ => 12
  | .ppsoPulse _ => 12
  | .ppsoPulseEnd _ => 12
  | .lockLost => 13
  | .rampUpdate => 13
  | .ckoOutputStart _ => 13
  | .ckoSwitchEdge _ => 13
  | .ckoStepEdge _ => 13
  | .cmdSynRampStart _ _ => 13
  | .cmdSynRampStop _ _ => 13
  | .tdcArm => 14
  | .tdcEdge _ _ _ _ => 14
  | .tdcTimeout => 14
  | .tdcResultLatch => 14
  | .tdcResultRemove => 14
  | .tdcBinDataAccess _ => 14
  | .cmdTdcRun _ _ => 14
  | .cmdTdcStop _ _ => 14
  | .cmdTdcBinCal _ _ => 14
  | .binCalDone _ _ => 14
  | .pathMeasured _ _ _ => 15
  | .calRunDone => 15
  | .trimRampStep _ => 15
  | .ocxoRetuneStep => 15
  | .calPathTrimAccess _ => 15
  | .cmdCalTrace _ _ _ _ => 15
  | .cmdCalFreq _ _ _ => 15
  | .calFreqIntervalEnd _ _ => 15
  | .retryResult _ _ _ => 16
  | .d2dReset _ _ => 16
  | .replicaReload => 16
  | .logRecordEntry => 16
  | .logLatch => 16
  | .logRemove => 16
  | .vectorRearm _ => 16
  | .cmdEvtLogRead _ _ => 16
  | .cmdEvtSpareReport _ _ => 16
  | .heartbeatSend => 17
  | .heartbeatReceived _ _ _ => 17
  | .mirrorMessageReceived _ _ => 17
  | .messageLossTimeout => 17
  | .partnerLost => 17
  | .laneDown _ => 17
  | .pairWaitExpiry => 17
  | .txnApply => 17
  | .resyncDone => 17
  | .relinquishTimeout => 17
  | .degradeHoldExpiry => 17
  | .wtrExpiry => 17
  | .heartbeatSilence => 17
  | .carrierMessageSend => 17
  | .countMessageSend => 17
  | .checkMessageSend => 17
  | .cmdTwnSwitch _ _ => 17
  | .cmdTwnTableAdopt _ _ => 17
  | .cmdTwnResync _ _ => 17
  | .cmdTwnCountersRead _ _ => 17

/-- The mailbox command that a row serves: its mailbox, its opcode, and how its execution went (R103, R108). -/
def Instr.command : Instr → Option (Fin 16 × Nat × Exec)
  | .cmdNop m x => some (m, 0x1, x)
  | .cmdIdentify m x => some (m, 0x2, x)
  | .cmdFence m x => some (m, 0x3, x)
  | .cmdTableBind m x => some (m, 0x10, x)
  | .cmdTableSync m x => some (m, 0x11, x)
  | .cmdTableRead m x => some (m, 0x12, x)
  | .cmdCommit m x => some (m, 0x20, x)
  | .cmdConfigSave m x => some (m, 0x30, x)
  | .cmdConfigRestore m x => some (m, 0x31, x)
  | .cmdImageDownload m x => some (m, 0x40, x)
  | .cmdImageActivate m x => some (m, 0x41, x)
  | .cmdPrtCountersRead m x => some (m, 0x101, x)
  | .cmdPrtOptXfer m x _ _ _ => some (m, 0x102, x)
  | .cmdShfCarrierOp m x => some (m, 0x201, x)
  | .cmdShfCountersRead m x => some (m, 0x202, x)
  | .cmdFwdCountersRead m x => some (m, 0x301, x)
  | .cmdFwdQueueStat m x => some (m, 0x302, x)
  | .cmdFwdFlush m x => some (m, 0x303, x)
  | .cmdGrnCountersRead m x => some (m, 0x401, x)
  | .cmdGrnCellTest m x _ => some (m, 0x402, x)
  | .cmdGrnSweep m x => some (m, 0x403, x)
  | .cmdAlmCountersRead m x => some (m, 0x501, x)
  | .cmdAlmBankCheck m x => some (m, 0x502, x)
  | .cmdAlmRealign m x => some (m, 0x503, x)
  | .cmdTbsAdjust m x => some (m, 0x601, x)
  | .cmdTbsSet m x => some (m, 0x602, x)
  | .cmdTbsReportBind m x => some (m, 0x603, x)
  | .cmdTbsCountersRead m x => some (m, 0x604, x)
  | .cmdShfTtCarriers m x => some (m, 0x203, x)
  | .cmdShfTtCountersRead m x => some (m, 0x204, x)
  | .cmdRefForce m x => some (m, 0x701, x)
  | .cmdRefGnssSend m x => some (m, 0x702, x)
  | .cmdRefCountersRead m x => some (m, 0x703, x)
  | .cmdRefModelClear m x => some (m, 0x704, x)
  | .cmdSynRampStart m x => some (m, 0x801, x)
  | .cmdSynRampStop m x => some (m, 0x802, x)
  | .cmdTdcRun m x => some (m, 0x901, x)
  | .cmdTdcStop m x => some (m, 0x902, x)
  | .cmdTdcBinCal m x => some (m, 0x903, x)
  | .cmdCalTrace m x _ _ => some (m, 0xA01, x)
  | .cmdCalFreq m x _ => some (m, 0xA02, x)
  | .cmdEvtLogRead m x => some (m, 0xB01, x)
  | .cmdEvtSpareReport m x => some (m, 0xB02, x)
  | .cmdTwnSwitch m x => some (m, 0xC01, x)
  | .cmdTwnTableAdopt m x => some (m, 0xC02, x)
  | .cmdTwnResync m x => some (m, 0xC03, x)
  | .cmdTwnCountersRead m x => some (m, 0xC04, x)
  | _ => none

/-- An access of the host through the PCIe endpoint. -/
def Instr.hostAccess : Instr → Bool
  | .registerWrite .. | .doorbell _ | .mailboxWrite .. | .commitGo _ | .commitDiscard _ | .committedViewWrite _
  | .tableNotify .. | .msixUnmask _ | .loReadLatch _ | .snapshot _ | .rptConsWrite .. | .freqWordWrite _ | .peRead
  | .tdcResultLatch | .tdcResultRemove | .tdcBinDataAccess _ | .calPathTrimAccess _ | .d2dReset .. | .logLatch | .logRemove
  | .vectorRearm _ | .modeRequest _ false => true
  | _ => false

end Sys2Proof
end

