-- ==== Sys2Proof/Certificates/Slice0/Obligations.lean ====
section
/-! DEFINITION. Sys2Proof/Certificates/Slice0/Obligations.lean: the statements for the provers. -/
open Sys2Proof Sys2Proof.Machine

/-- A step runs the command at the front of the queue on the state with the queue's rest. The queue is the model's own
(log entry 67). Rests on R450. -/
def Obligations.StepRunsFront : Prop :=
  ∀ (c : Instr) (rest : List Instr) (s : State),
    step { s with pending := c :: rest } = exec c { s with pending := rest }

/-- On an empty queue a tick ends: finished traces complete, the due selection is made, and the next tick follows (log
entry 1). That an empty queue stands for the end of a tick is the model's choice, log entries 1, 41 and 81. Rests on
R7, R369, R370, R436, R448. -/
def Obligations.EmptyQueueIdles : Prop :=
  (∀ s : State, s.pending = [] → step s = .next s.idle) ∧
  (∀ s : State, s.idle.pending = s.pending ∧ s.idle.ref.due = false ∧
    s.idle.now = if s.endTick.mode = mDORMANT then (s.now / 64 + 1) * 64 else s.now + 1) ∧
  (∀ (m : Fin 16) (k : Nat) (u loop err : Int) (a : Bool) (s : State), (s.mbxAt m).job = some (.trace k u loop err a) →
    s.mst m = mRUNNING → u ≤ s.domAt 0 s.now → s.railOk 4 = true →
    s.ends s.idle m ST_OK (leBytes 4 (tc 32 loop) ++ leBytes 4 (tc 32 err)) ∧ s.idle.raised EV.CAL_TRACE_DONE = true) ∧
  (∀ u s : State, u = s.writeReports.endTraces → s.ref.due = true → s.tb.warmed = true → s.timeMode = true →
    ∀ v : State, v = (if u.selected ≠ 7 && u.qst u.selected ≠ qQUALIFIED then u.updRef fun r => { r with barred := [] } else u) →
    match v.choose.1 with
    | some j => s.idle.selected = j ∧ s.idle.rstate = if v.isTimeRef j then rsLOCKED else rsASSIST
    | none => s.idle.selected = 7 ∧ s.idle.rstate = if v.modelValid && v.ocxoWarm then rsHOLDOVER else rsFREERUN)

/-- At reset every register shows its reset value, live and committed, and the module is in DORMANT. Mailbox memory
reads 0 by log entry 6; values the spec gives with a dash are log entry 8. Rests on R491, R499, R500, R501, R502,
R503, R504, R505, R506, R508, R511, R512. -/
def Obligations.ResetValues : Prop :=
  (∀ (b : Nat) (row : RegRow), row ∈ blockRows b → ∀ i < row.reg.count,
      State.reset.reg row.reg i = BitVec.ofNat 32 (row.reg.reset i) ∧
      State.reset.comReg row.reg i = BitVec.ofNat 32 (row.reg.reset i)) ∧
  State.reset.mode = mDORMANT ∧ State.reset.smbAlert = false ∧ State.reset.gr.linkUp = false ∧
  State.reset.pending = [] ∧ (∀ n o, State.reset.mb n o = 0)

/-- The reset state is in canonical form and its queue can be run. The canonical form is the model's representation.
Rests on R491. -/
def Obligations.ResetCanon : Prop :=
  State.reset.canon ∧ State.reset.queueWf

/-- SMB_ALERT_N is low exactly while an event of PWR_EVT_STAT is set whose bit in PWR_ALERT_MASK is 1. Formalises R67.
-/
def Obligations.AlertPin : Prop :=
  ∀ s : State, s.smbAlert = true ↔
    ∃ n < 32, (s.reg R.PWR_EVT_STAT 0).getLsbD n = true ∧ (s.reg R.PWR_ALERT_MASK 0).getLsbD n = true

/-- Writes and doorbells to a POSTED or RUNNING mailbox are discarded and counted. Formalises R100. -/
def Obligations.LostWritesAndRings : Prop :=
  (∀ (ofs : BitVec 16) (data : List Byte) (s : State), s.gr.linkUp = true → data ≠ [] →
      (ofs.toNat + data.length - 1) / 4096 = ofs.toNat / 4096 →
      (s.mst (ofs.toNat / 4096) = mPOSTED ∨ s.mst (ofs.toNat / 4096) = mRUNNING) →
      Yields (.mailboxWrite ofs data) s fun t => t.mem = s.mem ∧ (∀ n, t.mst n = s.mst n) ∧
        t.rd MBX_ERR_STAT.WRITE_LOST_CNT = min (s.rd MBX_ERR_STAT.WRITE_LOST_CNT + 1) (2 ^ MBX_ERR_STAT.WRITE_LOST_CNT.w - 1)) ∧
  (∀ (ofs : BitVec 32) (len : Nat) (data : BitVec 64) (s : State), s.gr.linkUp = true → ofs.toNat < 0x10000 →
      0 < len → len ≤ 8 → (ofs.toNat + len - 1) / 4096 = ofs.toNat / 4096 →
      (s.mst (ofs.toNat / 4096) = mPOSTED ∨ s.mst (ofs.toNat / 4096) = mRUNNING) →
      Yields (.registerWrite false ofs len data) s fun t => t.mem = s.mem ∧ (∀ n, t.mst n = s.mst n) ∧
        t.rd MBX_ERR_STAT.WRITE_LOST_CNT = min (s.rd MBX_ERR_STAT.WRITE_LOST_CNT + 1) (2 ^ MBX_ERR_STAT.WRITE_LOST_CNT.w - 1)) ∧
  (∀ (ring : Word) (s : State), s.gr.linkUp = true →
      Yields (.doorbell ring) s fun t =>
        (∀ n : Fin 16, (s.mst n = mPOSTED ∨ s.mst n = mRUNNING) →
          t.mst n = s.mst n ∧ (t.mbxAt n).postAt = (s.mbxAt n).postAt ∧ (t.mbxAt n).ord = (s.mbxAt n).ord ∧
          ∀ o < 4096, t.mb n o = s.mb n o) ∧
        t.rd MBX_ERR_STAT.DOORBELL_LOST_CNT = min (s.rd MBX_ERR_STAT.DOORBELL_LOST_CNT +
          ((List.range 16).filter (fun n => testBit ring.toNat n && (s.mst n = mPOSTED || s.mst n = mRUNNING))).length)
          (2 ^ MBX_ERR_STAT.DOORBELL_LOST_CNT.w - 1))

/-- Mailboxes rung in one doorbell write are posted in one tick and in no order. Formalises R102. -/
def Obligations.RungTogether : Prop :=
  ∀ (ring : Word) (n k : Fin 16) (s : State), s.gr.linkUp = true →
    testBit ring.toNat n = true → testBit ring.toNat k = true →
    (s.mst n = mIDLE ∨ s.mst n = mDONE) → (s.mst k = mIDLE ∨ s.mst k = mDONE) →
    Yields (.doorbell ring) s fun t => t.mst n = mPOSTED ∧ t.mst k = mPOSTED ∧
      (t.mbxAt n).postAt = s.now ∧ (t.mbxAt k).postAt = s.now ∧ (t.mbxAt n).ord = (t.mbxAt k).ord

/-- A request for WARMUP from a running mode, and one for ISOLATE from DORMANT, is refused. Formalises R74. -/
def Obligations.RefusedModes : Prop :=
  (∀ (smbus : Bool) (s : State), s.pwr.aon = .up → (smbus = true ∨ s.gr.linkUp = true) →
      (s.mode = mTIMEKEEP ∨ s.mode = mFORWARD ∨ s.mode = mCALIBRATE ∨ s.mode = mISOLATE) →
      Yields (.modeRequest 1 smbus) s fun t => t.rd PWR_MODE_CTL.REQ_MODE = s.rd PWR_MODE_CTL.REQ_MODE ∧
        t.rd PWR_MODE_STAT.REFUSED = 1) ∧
  (∀ (smbus : Bool) (s : State), s.pwr.aon = .up → (smbus = true ∨ s.gr.linkUp = true) → s.mode = mDORMANT →
      Yields (.modeRequest 5 smbus) s fun t => t.rd PWR_MODE_CTL.REQ_MODE = s.rd PWR_MODE_CTL.REQ_MODE ∧
        t.rd PWR_MODE_STAT.REFUSED = 1) ∧
  (∀ (data : Word) (s : State), s.pwr.aon = .up →
      ((PWR_MODE_CTL.REQ_MODE.get data = 1 ∧
          (s.mode = mTIMEKEEP ∨ s.mode = mFORWARD ∨ s.mode = mCALIBRATE ∨ s.mode = mISOLATE)) ∨
        (PWR_MODE_CTL.REQ_MODE.get data = 5 ∧ s.mode = mDORMANT)) →
      Yields (.smbRegisterWrite 6 0x10 data (some (s.smbPec 0x10 data))) s fun t =>
        t.rd PWR_MODE_CTL.REQ_MODE = s.rd PWR_MODE_CTL.REQ_MODE ∧ t.rd PWR_MODE_STAT.REFUSED = 1) ∧
  (∀ (data : Word) (s : State), s.gr.linkUp = true → s.railOk 7 = true →
      ((PWR_MODE_CTL.REQ_MODE.get data = 1 ∧
          (s.mode = mTIMEKEEP ∨ s.mode = mFORWARD ∨ s.mode = mCALIBRATE ∨ s.mode = mISOLATE)) ∨
        (PWR_MODE_CTL.REQ_MODE.get data = 5 ∧ s.mode = mDORMANT)) →
      Yields (.registerWrite false 0x01D00010 4 (data.setWidth 64)) s fun t =>
        t.rd PWR_MODE_CTL.REQ_MODE = s.rd PWR_MODE_CTL.REQ_MODE ∧ t.rd PWR_MODE_STAT.REFUSED = 1)

/-- A fetched entry with the generation of the installed entry is not installed and is counted. Formalises R124. -/
def Obligations.SameGeneration : Prop :=
  ∀ (tb : BitVec 8) (r : Fetch) (bytes : List Byte) (i : Install) (rest : List Install) (e : Entry) (s : State),
    tableIds.contains tb.toNat = true → r ≠ .lasting → bytes.length = 64 →
    (s.table tb.toNat).queue = i :: rest → i.waiting = none → s.ent tb.toNat (i.first + i.done) = some e →
    e.gen = genOf bytes → i.reload = false →
    Yields (.entryFetchDone tb r bytes) s fun t => t.ent tb.toNat (i.first + i.done) = some e ∧
      t.rd MBX_DT_STAT.SAME_GEN_CNT tb.toNat = min (s.rd MBX_DT_STAT.SAME_GEN_CNT tb.toNat + 1) 255

/-- A register write that has a row of its own acts as that row. Rests on R99, R100, R115, R117, R123, R310, R320,
R382, R422, R439, R453, R492. -/
def Obligations.OwnRows : Prop :=
  (∀ (ofs : BitVec 16) (len : Nat) (data : BitVec 64) (s : State),
      exec (.registerWrite false (ofs.setWidth 32) len data) s =
        exec (.mailboxWrite ofs (leBytes (min len 8) data.toNat)) s) ∧
  (∀ (ofs : BitVec 32) (len : Nat) (data : BitVec 64) (s : State), 0x03000000 ≤ ofs.toNat → ofs.toNat < 0x03E00000 →
      exec (.registerWrite false ofs len data) s = exec (.committedViewWrite ofs) s) ∧
  (∀ (w : Word) (s : State), s.railOk 6 = true →
      exec (.registerWrite false (BitVec.ofNat 32 (R.MBX_DOORBELL.at 0)) 4 (w.setWidth 64)) s = exec (.doorbell w) s ∧
      exec (.registerWrite false (BitVec.ofNat 32 (R.MBX_COMMIT_CTL.at 0)) 4 (w.setWidth 64)) s =
        exec (if MBX_COMMIT_CTL.GO.get w = 1 then .commitGo w else .commitDiscard w) s ∧
      ∀ tb : BitVec 8, tableIds.contains tb.toNat = true →
        exec (.registerWrite true (BitVec.ofNat 32 (R.MBX_DT_NOTIFY.at tb.toNat)) 4 (w.setWidth 64)) s =
          exec (.tableNotify tb w) s) ∧
  (∀ (w : Word) (s : State), s.railOk 4 = true →
      exec (.registerWrite false (BitVec.ofNat 32 (R.TBS_SNAP_CTL.at 0)) 4 (w.setWidth 64)) s = exec (.snapshot w) s ∧
      (∀ p : Fin 256, exec (.registerWrite false (BitVec.ofNat 32 (R.TBS_RPT_CONS.at p)) 4 (w.setWidth 64)) s =
        exec (.rptConsWrite p w) s) ∧
      exec (.registerWrite false (BitVec.ofNat 32 (R.REF_FREQ_WORD.at 0)) 4 (w.setWidth 64)) s = exec (.freqWordWrite w) s ∧
      exec (.registerWrite false (BitVec.ofNat 32 (R.TDC_BIN_DATA.at 0)) 4 (w.setWidth 64)) s =
        exec (.tdcBinDataAccess (some w)) s ∧
      exec (.registerWrite false (BitVec.ofNat 32 (R.CAL_PATH_TRIM.at 0)) 4 (w.setWidth 64)) s =
        exec (.calPathTrimAccess (some w)) s ∧
      exec (.registerWrite false (BitVec.ofNat 32 (R.EVT_REARM.at 0)) 4 (w.setWidth 64)) s = exec (.vectorRearm w) s)

/-- While the PCIe endpoint is absent no access of the host over PCIe has an effect. Rests on R71, R89, R493. -/
def Obligations.NoLinkNoEffect : Prop :=
  ∀ (c : Instr) (s : State), c.hostAccess = true → s.gr.linkUp = false → exec c s = .next s.settle

/-- A write of MBX_COMMIT_CTL with WHEN 0b11 has no effect; a reserved encoding in an RW field leaves that field
alone. Rests on R10, R12, R447. -/
def Obligations.ReservedWrites : Prop :=
  (∀ (w : Word) (s : State), s.gr.linkUp = true → s.railOk 6 = true → MBX_COMMIT_CTL.WHEN.get w = 3 →
      Yields (.registerWrite false (BitVec.ofNat 32 (R.MBX_COMMIT_CTL.at 0)) 4 (w.setWidth 64)) s fun t =>
        t.gr.commits = s.gr.commits ∧ t.committed = s.committed ∧
        t.reg R.MBX_COMMIT_STAT 0 = s.reg R.MBX_COMMIT_STAT 0 ∧
        (s.railOk 4 = true → t.raised EV.EVT_RESERVED_ENC = true ∧
          t.reg R.EVT_RESERVED_OFS 0 = BitVec.ofNat 32 (R.MBX_COMMIT_CTL.at 0))) ∧
  (∀ (bar2 : Bool) (ofs : BitVec 32) (data : BitVec 64) (row : RegRow) (i : Nat) (s : State), s.gr.linkUp = true →
      (bar2 = true ∨ 0x10200 ≤ ofs.toNat) → ofs.toNat % 4 = 0 →
      regAt (if bar2 then 0x100000000 + ofs.toNat else ofs.toNat) = some (row, i) →
      s.present (if bar2 then 0x100000000 + ofs.toNat else ofs.toNat) = true → row.reg.plain = true →
      (bar2 = false → blockOf ofs.toNat = 0xD → s.smbData (ofs.toNat - 0x01D00000) = none) →
      badWo row.flds (data.setWidth 32) = false → badRw row.flds (data.setWidth 32) = true →
      Yields (.registerWrite bar2 ofs 4 data) s fun t =>
        (∀ f ∈ row.flds, f.acc = .rw → f.legal (f.get (data.setWidth 32)) = false →
          f.get (t.reg row.reg i) = f.get (s.reg row.reg i)) ∧
        (∀ f ∈ row.flds, f.acc = .rw → f.legal (f.get (data.setWidth 32)) = true →
          f.get (t.reg row.reg i) = f.get (data.setWidth 32)) ∧ s.otherRegs t row.reg i ∧
        (s.railOk 4 = true → t.raised EV.EVT_RESERVED_ENC = true ∧
          t.reg R.EVT_RESERVED_OFS 0 = BitVec.ofNat 32 (ofs.toNat % 2 ^ 31)))

/-- SMBus errors: a wrong byte count, a wrong PEC and an offset outside the space are counted, and nothing is written.
Rests on R63, R64, R65. -/
def Obligations.SmbErrors : Prop :=
  (∀ (count : Nat) (ofs : BitVec 16) (data : Word) (pec : Option Byte) (s : State), s.pwr.aon = .up → count ≠ 6 →
      Yields (.smbRegisterWrite count ofs data pec) s fun t =>
        t.rd PWR_SMB_STAT.BAD_COUNT_CNT = min (s.rd PWR_SMB_STAT.BAD_COUNT_CNT + 1) (2 ^ PWR_SMB_STAT.BAD_COUNT_CNT.w - 1) ∧
        ∀ k, blockOf k = 0xD → k ≠ R.PWR_SMB_STAT.at 0 → ∀ d, SMap.get d t.regs k = SMap.get d s.regs k) ∧
  (∀ (count : Nat) (ofs : BitVec 16) (s : State), s.pwr.aon = .up → count ≠ 2 →
      Yields (.smbRegisterRead count ofs) s fun t =>
        t.rd PWR_SMB_STAT.BAD_COUNT_CNT = min (s.rd PWR_SMB_STAT.BAD_COUNT_CNT + 1) (2 ^ PWR_SMB_STAT.BAD_COUNT_CNT.w - 1)) ∧
  (∀ (ofs : BitVec 16) (data : Word) (pec : Option Byte) (s : State), s.pwr.aon = .up →
      (pec = none ∧ s.bit PWR_SMB_CFG.PEC_REQ = true ∨ pec.isSome = true ∧ pec ≠ some (s.smbPec ofs data)) →
      Yields (.smbRegisterWrite 6 ofs data pec) s fun t =>
        t.rd PWR_SMB_STAT.PEC_ERR_CNT = min (s.rd PWR_SMB_STAT.PEC_ERR_CNT + 1) (2 ^ PWR_SMB_STAT.PEC_ERR_CNT.w - 1) ∧
        (s.railOk 7 = true → t.raised EV.PWR_SMB_ERROR = true) ∧
        ∀ k, blockOf k = 0xD → k ≠ R.PWR_SMB_STAT.at 0 → k ≠ R.PWR_EVT_STAT.at 0 →
          ∀ d, SMap.get d t.regs k = SMap.get d s.regs k) ∧
  (∀ (ofs : BitVec 16) (data : Word) (s : State), s.pwr.aon = .up → regAt (0x01D00000 + ofs.toNat) = none →
      Yields (.smbRegisterWrite 6 ofs data (some (s.smbPec ofs data))) s fun t =>
        t.rd PWR_SMB_STAT.BAD_OFFSET_CNT = min (s.rd PWR_SMB_STAT.BAD_OFFSET_CNT + 1) (2 ^ PWR_SMB_STAT.BAD_OFFSET_CNT.w - 1) ∧
        ∀ k, blockOf k = 0xD → k ≠ R.PWR_SMB_STAT.at 0 → ∀ d, SMap.get d t.regs k = SMap.get d s.regs k) ∧
  (∀ (ofs : BitVec 16) (s : State), s.pwr.aon = .up → regAt (0x01D00000 + ofs.toNat) = none →
      Yields (.smbRegisterRead 2 ofs) s fun t =>
        t.rd PWR_SMB_STAT.BAD_OFFSET_CNT = min (s.rd PWR_SMB_STAT.BAD_OFFSET_CNT + 1) (2 ^ PWR_SMB_STAT.BAD_OFFSET_CNT.w - 1) ∧
        ∃ pec, s.sends t (Out.smbData [0, 0, 0, 0, pec]))

/-- Feeds: connection, loss, ride-through, input charging and power-on reset have their effect. Rests on R37, R38,
R39, R40, R41, R45, R63, R87, R523. -/
def Obligations.FeedsAct : Prop :=
  (∀ (f : Fin 2) (v : BitVec 16) (s : State),
      Yields (.feedConnect f v) s fun t =>
        if (s.feed f).connects v.toNat then (t.feed f).connected = true ∧ (t.feed f).volt = v.toNat ∧
          (t.feed f).charging = true ∧ (s.pwr.aon = .off → t.pwr.aon = .charging) ∧
          (s.pwr.aon = .up → t.rd PWR_FEED_STAT.RIDE_THROUGH = 0 ∧
            t.rd (if f = 0 then PWR_FEED_STAT.A_OK else PWR_FEED_STAT.B_OK) = 1)
        else t = s.settle) ∧
  (∀ (f : Fin 2) (overV : Bool) (load : Nat) (s : State), (s.feed f).connected = true →
      Yields (.feedDisconnect f overV load) s fun t => (t.feed f).connected = false ∧ (t.feed f).lost = true ∧
        (t.feed f).overV = overV ∧
        (s.pwr.aon = .up → t.rd (if f = 0 then PWR_FEED_STAT.A_OK else PWR_FEED_STAT.B_OK) = 0) ∧
        ((s.feed (1 - f)).connected = false →
          if s.pwr.aon = .up then t.rd PWR_FEED_STAT.RIDE_THROUGH = 1 ∧ t.pwr.rideEnd = s.now + rideTicks load
          else t.pwr.aon = .off)) ∧
  (∀ s : State, s.bit PWR_FEED_STAT.RIDE_THROUGH = true → s.pwr.aon = .up → s.pwr.feedA.connected = false →
      s.pwr.feedB.connected = false → s.pwr.rideEnd ≤ s.now → s.feedComes = false →
      Yields .rideThroughEnd s fun t => t.pwr.aon = .off ∧ t.rd PWR_RAIL_STAT.RAIL_OK = 0 ∧ t.rd PWR_RAIL_STAT.RAIL_REQ = 0 ∧
        t.rd PWR_FEED_STAT.RIDE_THROUGH = 0) ∧
  (∀ (f : Fin 2) (s : State), (s.feed f).charging = true →
      Yields (.chargeComplete f) s fun t => (t.feed f).charging = false ∧ (s.pwr.aon = .charging → t.pwr.aon = .starting) ∧
        (s.pwr.aon ≠ .charging → t.pwr.aon = s.pwr.aon)) ∧
  (∀ (straps : BitVec 3) (s : State), s.pwr.aon = .starting →
      Yields (.powerOnReset straps) s fun t => t.pwr.aon = .up ∧ t.mode = mDORMANT ∧ t.mem = [] ∧ t.committed = [] ∧
        t.rd PWR_SMB_STAT.ADDR = 0x58 + straps.toNat ∧ t.boot.saved = s.boot.saved)

/-- Rail faults, feed and temperature measurements and the end of old rails have their effect. Rests on R37, R46, R47,
R52, R53, R69, R515. -/
def Obligations.PowerFaultsAct : Prop :=
  (∀ (r : Fin 8) (e : Nat × Nat) (s : State), s.pwr.ramp.find? (fun e => e.1 = r.val) = some e → s.railReq r = true →
      s.railOk r = false → e.2 + 2 * msT ≤ s.now →
      Yields (.railRampTimeout r) s fun t => t.mode = mDORMANT ∧ t.rd PWR_MODE_CTL.REQ_MODE = mDORMANT ∧
        t.rd PWR_MODE_CTL.IN_TRANSITION = 0 ∧ t.pwr.trans = none ∧ t.pwr.lanes = []) ∧
  (∀ (r : Fin 8) (s : State), s.railReq r = true → s.railOk r = true → s.pwr.aon = .up →
      Yields (.railLeavesRegulation r) s fun t => t.mode = mDORMANT ∧ t.rd PWR_MODE_CTL.REQ_MODE = mDORMANT ∧
        t.rd PWR_MODE_CTL.IN_TRANSITION = 0 ∧ t.pwr.trans = none ∧ t.pwr.lanes = [] ∧
        (r = 7 → t.pwr.aon = .starting ∧ t.rd PWR_RAIL_STAT.RAIL_OK = 0)) ∧
  (∀ (va ca vb cb : BitVec 16) (revA revB : Bool) (s : State), s.pwr.aon = .up →
      Yields (.feedMonitorUpdate va ca vb cb revA revB) s fun t =>
        if s.pwr.feedA.allows va.toNat revA && s.pwr.feedB.allows vb.toNat revB then
          t.rd PWR_FEED_MON_0.VOLT = va.toNat ∧ t.rd PWR_FEED_MON_0.CURR = ca.toNat ∧
          t.rd PWR_FEED_MON_1.VOLT = vb.toNat ∧ t.rd PWR_FEED_MON_1.CURR = cb.toNat ∧
          t.bit PWR_FEED_STAT.A_REVERSED = revA ∧ t.bit PWR_FEED_STAT.B_REVERSED = revB
        else t = s.settle) ∧
  (∀ (caseT dieMax : BitVec 16) (s : State), s.pwr.aon = .up →
      Yields (.tempEstimate caseT dieMax) s fun t =>
        t.rd PWR_TEMP.CASE = caseT.toNat ∧ t.rd PWR_TEMP.DIE_MAX = dieMax.toNat ∧
        (s.pwr.warnArmed = true → s.rdS PWR_TEMP_THR.WARN ≤ caseT.toInt → s.railOk 7 = true → t.raised EV.PWR_TEMP_WARN = true) ∧
        (s.pwr.critArmed = true → 1520 ≤ caseT.toInt → (s.railOk 7 = true → t.raised EV.PWR_TEMP_CRIT = true) ∧
          (s.mode ≠ mDORMANT → t.rd PWR_MODE_CTL.REQ_MODE = mISOLATE))) ∧
  (∀ s : State, s.pwr.trans = none →
      Yields .oldRailsOff s fun t => t.pwr.oldRails = 0 ∧ t.mode = s.mode)

/-- Every reset source has its effect. The pulse length that counts as a reset is log entry 65. Rests on R48, R87,
R88, R89, R108, R127. -/
def Obligations.ResetsAct : Prop :=
  (∀ (lowNs : Nat) (s : State), s.pwr.aon = .up →
      Yields (.resetPin lowNs) s fun t =>
        (1100 ≤ lowNs → t.mode = mDORMANT ∧ t.mem = [] ∧ t.committed = [] ∧
          t.reg R.PWR_RESET_CAUSE 0 = s.reg R.PWR_RESET_CAUSE 0 ||| 2 ∧ t.reg R.EVT_LASTING 0 = s.reg R.EVT_LASTING 0) ∧
        (lowNs ≤ 900 → t = s.settle)) ∧
  (∀ (data : Word) (s : State), s.pwr.aon = .up → PWR_RESET_CTL.KEY.get data = 0xA5C3 → PWR_RESET_CTL.MODULE.get data = 1 →
      Yields (.softwareModuleReset data) s fun t => t.mode = mDORMANT ∧ t.mem = [] ∧ t.committed = [] ∧
        t.reg R.PWR_RESET_CAUSE 0 = s.reg R.PWR_RESET_CAUSE 0 ||| 4 ∧ t.reg R.EVT_LASTING 0 = s.reg R.EVT_LASTING 0) ∧
  (∀ (data : Word) (s : State), s.pwr.aon = .up → PWR_RESET_CTL.KEY.get data = 0xA5C3 → PWR_RESET_CTL.MODULE.get data = 0 →
      PWR_RESET_CTL.SWITCH.get data = 1 →
      Yields (.softwareSwitchReset data) s fun t => t.reg R.PWR_RESET_CAUSE 0 = s.reg R.PWR_RESET_CAUSE 0 ||| 8 ∧
        (s.fwdMode = true → t.mode = mTIMEKEEP) ∧ (s.fwdMode = false → t.mode = s.mode) ∧
        (if s.mode = mDORMANT ∨ s.mode = mWARMUP then t.mem = s.mem ∧ t.boot.running = s.boot.running
          else t.mem = [] ∧ t.boot.running = true ∧ t.gr.linkUp = false)) ∧
  (∀ s : State, s.railOk 6 = true → s.bootRunning = true →
      Yields .grangeWatchdogReset s fun t => t.boot.running = true ∧ t.boot.journal = true ∧ t.rd PWR_BOOT_STAT.STATE = 1 ∧
        t.rd MBX_GRANGE_STAT.WDT_CNT = min (s.rd MBX_GRANGE_STAT.WDT_CNT + 1) 255 ∧
        t.reg R.PWR_RESET_CAUSE 0 = s.reg R.PWR_RESET_CAUSE 0 ||| 16) ∧
  (∀ (low : Bool) (s : State), s.pwr.aon = .up →
      Yields (.pcieFundamentalReset low) s fun t => t.pwr.perstLow = low ∧
        t.gr.linkUp = (!low && s.railOk 6 && !s.boot.relink) ∧
        (low = true → t.reg R.PWR_RESET_CAUSE 0 = s.reg R.PWR_RESET_CAUSE 0 ||| 32 ∧ t.gr.masked = 0xFFFFFFFF))

/-- Mode requests, OCXO_HOLD_WARM, the end of transitions and the test port have their effect. That IDCODE is loaded
at reset of the port is log entry 64. Rests on R66, R68, R69, R70, R73, R75, R76, R81, R515. -/
def Obligations.ModesAct : Prop :=
  (∀ (m : BitVec 3) (smbus : Bool) (s : State), s.pwr.aon = .up → (smbus || s.gr.linkUp) = true →
      (smbus = false → s.smbData 0x10 = none) → (m.toNat ≠ mISOLATE → s.pwr.isoAt ≠ some s.now ∧ s.pwr.resetAt ≠ some s.now) →
      Yields (.modeRequest m smbus) s fun t =>
        if 5 < m.toNat then t.rd PWR_MODE_CTL.REQ_MODE = s.rd PWR_MODE_CTL.REQ_MODE
        else if s.refusesMode m.toNat then t.rd PWR_MODE_STAT.REFUSED = 1 ∧ t.rd PWR_MODE_CTL.REQ_MODE = s.rd PWR_MODE_CTL.REQ_MODE
        else t.rd PWR_MODE_CTL.REQ_MODE = m.toNat) ∧
  (∀ (m : BitVec 3) (smbus : Bool) (s : State), s.pwr.aon = .up → (smbus || s.gr.linkUp) = true →
      (smbus = false → s.smbData 0x10 = none) → m.toNat < mISOLATE → (s.pwr.isoAt = some s.now ∨ s.pwr.resetAt = some s.now) →
      Yields (.modeRequest m smbus) s fun t => t.rd PWR_MODE_CTL.REQ_MODE = s.rd PWR_MODE_CTL.REQ_MODE ∧ t.mode = s.mode ∧
        (s.refusesMode m.toNat = true → t.rd PWR_MODE_STAT.REFUSED = 1)) ∧
  (∀ (v : Bool) (s : State), s.pwr.aon = .up →
      Yields (.ocxoHoldWarmWrite v) s fun t => t.bit PWR_MODE_CTL.OCXO_HOLD_WARM = v ∧ t.mode = s.mode) ∧
  (∀ (m : Fin 6) (s : State), s.pwr.trans = some m → ¬ (s.mode = mWARMUP ∧ m.val = mTIMEKEEP) →
      Yields .transitionComplete s fun t => t.mode = m.val) ∧
  (∀ s : State, s.mode = mWARMUP → s.pwr.trans = some 2 →
      Yields .warmupToTimekeep s fun t => t.mode = mTIMEKEEP) ∧
  (∀ (op : TapInstr) (s : State), s.pwr.aon = .up →
      Yields (.tapInstruction op) s fun t =>
        if s.mode = mISOLATE ∨ op = .bypass ∨ op = .idcode then t.pwr.tap = op else t.pwr.tap = .bypass ∧ s.sends t (Out.tdo 1)) ∧
  (∀ s : State, Yields .tapReset s fun t => t.pwr.tap = .idcode)

/-- OCXO, MDLL, lane power and boot checks have their effect. Rests on R77, R83, R84, R85, R90, R91, R389, R519. -/
def Obligations.ClocksAct : Prop :=
  (∀ (err : BitVec 16) (s : State), s.bit PWR_CLK_STAT.OCXO_HEATING = true → s.ocxoWarm = false → err.toInt.natAbs ≤ 51 →
      s.ovenHeld = true →
      Yields (.ocxoWarmSet err) s fun t => t.bit PWR_CLK_STAT.OCXO_WARM = true ∧ t.rd PWR_OCXO_STAT.OVEN_ERR = err.toNat ∧
        t.mode = s.mode ∧ (s.tickRun = true → t.tb.warmed = true) ∧
        (s.railReq 5 = true → testBit (t.rd PWR_RAIL_STAT.RAIL_OK) 5 = true)) ∧
  (∀ (err : BitVec 16) (s : State), s.ocxoWarm = true → 512 < err.toInt.natAbs →
      Yields (.ocxoWarmClear err) s fun t => t.bit PWR_CLK_STAT.OCXO_WARM = false ∧ t.rd PWR_OCXO_STAT.OVEN_ERR = err.toNat ∧
        t.pwr.ovenFrom = some s.now ∧ t.mode = s.mode) ∧
  (∀ s : State, s.railOk 4 = true → (s.pwr.mdllAt.isSome = true → s.pwr.mdllHold = true ∧ s.mode ≠ mISOLATE ∧ s.pwr.trans ≠ some 5) →
      Yields .mdllLock s fun t => t.bit PWR_CLK_STAT.MDLL_LOCK = true ∧ t.pwr.mdllHold = false ∧
        t.bit PWR_CLK_STAT.CORE_RUN = s.railOk 1 ∧
        (if s.pwr.mdllAt = none then t.pwr.mdllAt = some s.now ∧ t.bit PWR_CLK_STAT.TICK_RUN = true ∧
            t.bit PWR_CLK_STAT.TCLK_RUN = true ∧ t.tick = 0
          else t.pwr.mdllAt = s.pwr.mdllAt ∧ t.ref.steps = s.ref.steps ++
            (if s.rstate = rsLOCKED then [(s.now + 64, s.stepOf s.selected)] else []))) ∧
  (∀ s : State, s.tickRun = true → s.pwr.mdllHold = false →
      Yields .lockLost s fun t => t.bit PWR_CLK_STAT.MDLL_LOCK = false ∧ t.pwr.mdllHold = true ∧
        (s.railOk 4 = true → t.raised EV.SYN_LOCK_LOST = true) ∧ t.rd EVT_FCNT.LASTING 9 = min (s.rd EVT_FCNT.LASTING 9 + 1) 1023) ∧
  (∀ (lane : Fin 260) (s : State), s.tkMode = true → s.pwr.lanes.contains lane.val = false → s.wantsLane lane = true →
      Yields (.lanePowered lane) s fun t => t.pwr.lanes = s.pwr.lanes ++ [lane.val] ∧
        t.pwr.held = s.pwr.held ++ (if s.inHold lane then [lane.val] else []) ∧
        testBit (t.rd PWR_RAIL_STAT.RAIL_REQ) 0 = true ∧ testBit (t.rd PWR_RAIL_STAT.RAIL_OK) 0 = true ∧
        (if 256 ≤ lane.val then (t.mlane (lane.val - 256)).st = 2
          else testBit (t.rd PWR_CLK_STAT.SDREF_RUN) (lane.val / 16) = true ∧
            (∀ p : Fin 256, s.comB PRT_CFG.ENABLE p = true → s.linkState p = lsPOWERING →
              (s.portLanes p).all (fun x => (s.pwr.lanes ++ [lane.val]).contains x) = true → t.linkState p = lsWAIT_SIGNAL) ∧
            (∀ c : Fin 128, s.comB SHF_CAR_CFG.ENABLE c = true → s.cst c = cPOWERING →
              (s.carLanes c).all (fun x => (s.pwr.lanes ++ [lane.val]).contains x) = true → t.cst c = cWAIT_SIGNAL))) ∧
  (∀ (r : ImageCheck) (s : State), s.boot.running = true →
      Yields (.bootCheckDone r) s fun t =>
        (∀ rel, r = .good rel → s.boot.minRelease ≤ rel.toNat → t.boot.running = false ∧ t.rd PWR_BOOT_STAT.STATE = 3 ∧
          t.rd PWR_BOOT_STAT.RELEASE = rel.toNat) ∧
        ((∀ rel, r ≠ .good rel) → s.boot.second = false → t.boot.second = true ∧ t.boot.running = true ∧
          t.rd PWR_BOOT_STAT.STATE = 1 ∧ t.boot.slotsTried = s.boot.slotsTried ∧ t.rd PWR_BOOT_STAT.SLOT = s.rd PWR_BOOT_STAT.SLOT) ∧
        (((∀ rel, r ≠ .good rel) ∧ s.boot.second = true ∨ ∃ rel, r = .good rel ∧ rel.toNat < s.boot.minRelease) →
          t.rd PWR_BOOT_STAT.FAIL_CODE = (match r with | .badHeader => 1 | .badSignature => 2 | .good _ => 3 | .readError => 4) ∧
          t.rd PWR_BOOT_STAT.FALLBACK = 1 ∧
          (if s.boot.slotsTried = 1 then t.boot.running = false ∧ t.rd PWR_BOOT_STAT.STATE = 4
            else t.boot.running = true ∧ t.boot.second = false ∧ t.boot.slotsTried = 1 ∧ t.rd PWR_BOOT_STAT.STATE = 1 ∧
              t.rd PWR_BOOT_STAT.SLOT = 1 - s.rd PWR_BOOT_STAT.SLOT)))

/-- SMBus transactions, PCIe register writes and die-to-die errors have their effect. Rests on R10, R12, R18, R63,
R64, R65, R66, R439, R441, R442, R492. -/
def Obligations.BusActs : Prop :=
  (∀ (ofs : BitVec 16) (data : Word) (pec : Option Byte) (row : RegRow) (i : Nat) (s : State), s.pwr.aon = .up →
      regAt (0x01D00000 + ofs.toNat) = some (row, i) → ofs ≠ 0x10 → ofs ≠ 0x4C → badWo row.flds data = false →
      (pec = some (s.smbPec ofs data) ∨ (pec = none ∧ s.bit PWR_SMB_CFG.PEC_REQ = false)) →
      Yields (.smbRegisterWrite 6 ofs data pec) s fun t => 
        t.reg row.reg i = writeWord row.flds (s.reg row.reg i) data ∧ s.otherRegs t row.reg i ∧ t.committed = s.committed ∧ t.mem = s.mem) ∧
  (∀ (data : Word) (pec : Option Byte) (s : State), s.pwr.aon = .up → s.pwr.isoAt ≠ some s.now → s.pwr.resetAt ≠ some s.now →
      (pec = some (s.smbPec 0x10 data) ∨ (pec = none ∧ s.bit PWR_SMB_CFG.PEC_REQ = false)) →
      Yields (.smbRegisterWrite 6 0x10 data pec) s fun t => t.bit PWR_MODE_CTL.OCXO_HOLD_WARM = decide (PWR_MODE_CTL.OCXO_HOLD_WARM.get data = 1) ∧
        if 5 < PWR_MODE_CTL.REQ_MODE.get data then t.rd PWR_MODE_CTL.REQ_MODE = s.rd PWR_MODE_CTL.REQ_MODE
        else if s.refusesMode (PWR_MODE_CTL.REQ_MODE.get data) then
          t.rd PWR_MODE_STAT.REFUSED = 1 ∧ t.rd PWR_MODE_CTL.REQ_MODE = s.rd PWR_MODE_CTL.REQ_MODE
        else t.rd PWR_MODE_CTL.REQ_MODE = PWR_MODE_CTL.REQ_MODE.get data) ∧
  (∀ (data : Word) (pec : Option Byte) (s : State), s.pwr.aon = .up → PWR_RESET_CTL.KEY.get data = 0xA5C3 →
      (pec = some (s.smbPec 0x4C data) ∨ (pec = none ∧ s.bit PWR_SMB_CFG.PEC_REQ = false)) →
      Yields (.smbRegisterWrite 6 0x4C data pec) s fun t =>
        (PWR_RESET_CTL.MODULE.get data = 1 → t.mode = mDORMANT ∧ t.mem = [] ∧ t.committed = [] ∧
          t.reg R.PWR_RESET_CAUSE 0 = s.reg R.PWR_RESET_CAUSE 0 ||| 4) ∧
        (PWR_RESET_CTL.MODULE.get data = 0 → PWR_RESET_CTL.SWITCH.get data = 1 →
          t.reg R.PWR_RESET_CAUSE 0 = s.reg R.PWR_RESET_CAUSE 0 ||| 8 ∧ (s.fwdMode = true → t.mode = mTIMEKEEP))) ∧
  (∀ (ofs : BitVec 16) (row : RegRow) (i : Nat) (s : State), s.pwr.aon = .up →
      regAt (0x01D00000 + ofs.toNat) = some (row, i) →
      Yields (.smbRegisterRead 2 ofs) s fun t => s.sends t (Out.smbData (leBytes 4 (s.aonRead row i).toNat ++
        [BitVec.ofNat 8 (crc8 ([BitVec.ofNat 8 (2 * s.smbAddr), 0x11, 2] ++ leBytes 2 ofs.toNat ++
          [BitVec.ofNat 8 (2 * s.smbAddr + 1), 4] ++ leBytes 4 (s.aonRead row i).toNat))]))) ∧
  (∀ s : State, s.pwr.aon = .up → s.smbAlert = true →
      Yields .smbAlertResponse s fun t => s.sends t (Out.smbData [BitVec.ofNat 8 (2 * s.smbAddr)])) ∧
  (∀ s : State, Yields .smbClockLowTimeout s fun t => t = s.settle) ∧
  (∀ (bar2 : Bool) (ofs : BitVec 32) (data : BitVec 64) (row : RegRow) (i : Nat) (s : State), s.gr.linkUp = true →
      (bar2 = true ∨ 0x10200 ≤ ofs.toNat) → ofs.toNat % 4 = 0 →
      regAt (if bar2 then 0x100000000 + ofs.toNat else ofs.toNat) = some (row, i) →
      s.present (if bar2 then 0x100000000 + ofs.toNat else ofs.toNat) = true → row.reg.plain = true →
      (bar2 = false → blockOf ofs.toNat = 0xD → s.smbData (ofs.toNat - 0x01D00000) = none) →
      badWo row.flds (data.setWidth 32) = false →
      Yields (.registerWrite bar2 ofs 4 data) s fun t =>
        t.reg row.reg i = writeWord row.flds (s.reg row.reg i) (data.setWidth 32) ∧ s.otherRegs t row.reg i ∧
        t.committed = s.committed ∧ t.mem = s.mem) ∧
  (∀ (data : BitVec 64) (s : State), s.gr.linkUp = true → s.railOk 7 = true → s.pwr.isoAt ≠ some s.now →
      s.pwr.resetAt ≠ some s.now → s.smbData 0x10 = none →
      Yields (.registerWrite false 0x01D00010 4 data) s fun t => t.bit PWR_MODE_CTL.OCXO_HOLD_WARM = decide (PWR_MODE_CTL.OCXO_HOLD_WARM.get (data.setWidth 32) = 1) ∧
        if 5 < PWR_MODE_CTL.REQ_MODE.get (data.setWidth 32) then t.rd PWR_MODE_CTL.REQ_MODE = s.rd PWR_MODE_CTL.REQ_MODE
        else if s.refusesMode (PWR_MODE_CTL.REQ_MODE.get (data.setWidth 32)) then
          t.rd PWR_MODE_STAT.REFUSED = 1 ∧ t.rd PWR_MODE_CTL.REQ_MODE = s.rd PWR_MODE_CTL.REQ_MODE
        else t.rd PWR_MODE_CTL.REQ_MODE = PWR_MODE_CTL.REQ_MODE.get (data.setWidth 32)) ∧
  (∀ (ofs : BitVec 32) (data : BitVec 64) (row rowH : RegRow) (i j : Nat) (s : State), s.gr.linkUp = true →
      0x10200 ≤ ofs.toNat → ofs.toNat % 8 = 0 → regAt ofs.toNat = some (row, i) → loRegs.contains row.reg = true →
      regAt (ofs.toNat + 4) = some (rowH, j) → s.present ofs.toNat = true → row.reg.plain = true → rowH.reg.plain = true →
      badWo row.flds (data.setWidth 32) = false → badWo rowH.flds ((data >>> 32).setWidth 32) = false →
      Yields (.registerWrite false ofs 8 data) s fun t =>
        t.reg row.reg i = writeWord row.flds (s.reg row.reg i) (data.setWidth 32) ∧
        t.reg rowH.reg j = writeWord rowH.flds (s.reg rowH.reg j) ((data >>> 32).setWidth 32) ∧
        (∀ k, k ≠ row.reg.at i → k ≠ rowH.reg.at j → (∀ q ∈ row.reg.beside ++ rowH.reg.beside, ∀ n, k ≠ q.at n) →
          ∀ d, SMap.get d t.regs k = SMap.get d s.regs k) ∧ t.committed = s.committed ∧ t.mem = s.mem) ∧
  (∀ (w : Word) (s : State), s.gr.linkUp = true →
      (s.railOk 6 = true → w.toNat < 4096 →
        Yields (.registerWrite false (BitVec.ofNat 32 (R.MBX_COMMIT_GROUPS.at 0)) 4 (w.setWidth 64)) s fun t =>
          t.rd MBX_COMMIT_GROUPS.GROUPS = w.toNat) ∧
      (s.railOk 4 = true → s.rd CAL_PATH_SEL.INDEX ≤ 570 →
        Yields (.registerWrite false (BitVec.ofNat 32 (R.CAL_PATH_BASE.at 0)) 4 (w.setWidth 64)) s fun t =>
          (t.path (s.rd CAL_PATH_SEL.INDEX)).baseSh = w.toInt)) ∧
  (∀ (retryGood : Bool) (s : State), s.tickRun = true →
      Yields (.d2dTransferFail retryGood) s fun t =>
        if retryGood then t.rd EVT_FCNT.TRANSIENT 5 = min (s.rd EVT_FCNT.TRANSIENT 5 + 1) 1023
        else t.rd EVT_FCNT.LASTING 5 = min (s.rd EVT_FCNT.LASTING 5 + 1) 1023 ∧ t.evt.frozen = true ∧ t.evt.reloadAt = none)

/-- Doorbells, mailbox writes, fences, NOP, IDENTIFY and the flash commands have their effect. Rests on R98, R99,
R101, R104, R105, R106, R107, R108, R111, R112, R519. -/
def Obligations.MailboxActs : Prop :=
  (∀ (ring : Word) (n : Fin 16) (s : State), s.gr.linkUp = true → testBit ring.toNat n = true →
      (s.mst n = mIDLE ∨ s.mst n = mDONE) →
      Yields (.doorbell ring) s fun t => t.mst n = mPOSTED ∧ t.mf n 16 8 = s.tick % 2 ^ 64 ∧ (t.mbxAt n).postAt = s.now ∧
        (t.mbxAt n).ord = s.nextOrd) ∧
  (∀ (ring : Word) (s : State), s.gr.linkUp = true →
      Yields (.doorbell ring) s fun t => ∀ n o,
        (∀ m : Fin 16, testBit ring.toNat m = true → (s.mst m = mIDLE ∨ s.mst m = mDONE) →
          4096 * n + o < 4096 * m.val + 16 ∨ 4096 * m.val + 24 ≤ 4096 * n + o) → t.mb n o = s.mb n o) ∧
  (∀ (ofs : BitVec 16) (data : List Byte) (s : State), s.gr.linkUp = true → data ≠ [] →
      (ofs.toNat + data.length - 1) / 4096 = ofs.toNat / 4096 →
      (s.mst (ofs.toNat / 4096) = mIDLE ∨ s.mst (ofs.toNat / 4096) = mDONE) →
      Yields (.mailboxWrite ofs data) s fun t => t.mbytes 0 ofs.toNat data.length = data ∧
        ∀ n o, (4096 * n + o < ofs.toNat ∨ ofs.toNat + data.length ≤ 4096 * n + o) → t.mb n o = s.mb n o) ∧
  (∀ (m : Fin 16) (s : State), s.serving = true → s.mst m = mPOSTED → testBit (s.mflags m) 0 = true → s.opcode m ≠ 0x3 →
      s.fenceCond m = true →
      Yields (.fencedCommandStart m) s fun t => (t.mbxAt m).go = true) ∧
  (∀ (m : Fin 16) (ex : Exec) (s : State), s.accepts m 0x1 ex = true → s.plen m = 0 →
      Yields (.cmdNop m ex) s fun t => s.succeeds t m ex []) ∧
  (∀ (m : Fin 16) (ex : Exec) (s : State), s.accepts m 0x2 ex = true → s.plen m = 0 → s.boot.serial.length = 12 →
      Yields (.cmdIdentify m ex) s fun t => s.succeeds t m ex ([BitVec.ofNat 8 (s.rd PWR_IDENT.STEPPING), 0] ++
        leBytes 2 (s.rd PWR_BOOT_STAT.RELEASE) ++ s.boot.serial)) ∧
  (∀ (m : Fin 16) (ex : Exec) (s : State), s.accepts m 0x3 ex = true → (s.plen m = 0 ∨ s.plen m = 8 ∧ s.pay m 0 4 < 2) →
      (s.fenceDrain m = true → s.fwdMode = true) →
      Yields (.cmdFence m ex) s fun t =>
        if (s.fenceLim m).any (fun l => decide (l < (s.fenceHeld m (s.fenceDrain m)).getD s.now)) then t.answered m ST_TIMEOUT []
        else if s.fenceCond m && (s.fenceHeld m (s.fenceDrain m)).isSome then s.succeeds t m ex []
        else t.works m (.fence (s.fenceDrain m) (s.fenceLim m))) ∧
  (∀ (m : Fin 16) (drain : Bool) (lim : Option Nat) (h : Nat) (s : State), (s.mbxAt m).job = some (.fence drain lim) →
      s.fenceHeld m drain = some h →
      Yields (.fenceRelease m) s fun t => s.ends t m (if lim.any (fun l => decide (l < h)) then ST_TIMEOUT else ST_OK) []) ∧
  (∀ (m : Fin 16) (drain : Bool) (lim : Nat) (s : State), (s.mbxAt m).job = some (.fence drain (some lim)) → lim ≤ s.now →
      (s.mbxAt m).heldAt.all (fun h => decide (lim ≤ h)) = true →
      Yields (.fenceTimeout m) s fun t => s.ends t m ST_TIMEOUT []) ∧
  (∀ (m : Fin 16) (ex : Exec) (s : State), s.accepts m 0x30 ex = true → s.plen m = 0 → s.boot.flashBusy = none →
      Yields (.cmdConfigSave m ex) s fun t => t.works m .flash ∧ t.boot.flashBusy = some m) ∧
  (∀ (m : Fin 16) (ex : Exec) (s : State), s.accepts m 0x40 ex = true → 12 < s.plen m → s.plen m ≤ 4032 → s.pay m 8 4 = s.plen m - 12 →
      s.pay m 1 3 = 0 → s.slotOk (s.pay m 0 1) = true → s.pay m 4 4 % 16 = 0 → s.pay m 4 4 + s.pay m 8 4 ≤ 0x1800000 →
      s.boot.flashBusy = none →
      Yields (.cmdImageDownload m ex) s fun t => t.works m .flash ∧ t.boot.flashBusy = some m) ∧
  (∀ (m : Fin 16) (ex : Exec) (s : State), s.accepts m 0x41 ex = true → s.plen m = 4 → s.pay m 1 3 = 0 → s.slotOk (s.pay m 0 1) = true →
      s.boot.flashBusy = none →
      Yields (.cmdImageActivate m ex) s fun t => t.works m .flash ∧ t.boot.flashBusy = some m) ∧
  (∀ (m : Fin 16) (ex : Exec) (r1 r2 : ImageCheck) (s : State), s.boot.flashBusy = some m → (s.mbxAt m).job = some .flash →
      (ex = .clean ∨ ex = .retried ∧ (s.mbxAt m).retry = false) →
      Yields (.flashOperationDone m ex r1 r2) s fun t => t.boot.flashBusy = none ∧
        (s.opcode m = 0x30 → (s.again m ex).ends t m ST_OK [] ∧ t.boot.saved = some {
          sets := s.committed, bins := s.tdc.bins, paths := s.cal.paths.map (fun p => (p.1, p.2.base, p.2.target)),
          binds := s.bindings }) ∧
        (s.opcode m = 0x40 → (s.again m ex).ends t m ST_OK [] ∧
          if s.pay m 0 1 = 0 then
            t.boot.slotA.data = Memory.setBytes s.boot.slotA.data (s.pay m 4 4) (s.payBytes m 12 (s.pay m 8 4))
          else t.boot.slotB.data = Memory.setBytes s.boot.slotB.data (s.pay m 4 4) (s.payBytes m 12 (s.pay m 8 4))) ∧
        (s.opcode m ≠ 0x30 → s.opcode m ≠ 0x40 →
          if s.checkPasses (if checkFails r1 then r2 else r1) then (s.again m ex).ends t m ST_OK [] ∧ t.boot.active = s.pay m 0 1
          else (s.again m ex).ends t m ST_AUTH_FAIL [] ∧ t.boot.active = s.boot.active))

/-- Commits: requests, checks, application at each instant, discard and restore have their effect. Log entries 15 and
16 give the ticks of check and application. Rests on R103, R106, R114, R115, R116, R117, R118, R331, R447. -/
def Obligations.CommitsAct : Prop :=
  (∀ (w : Word) (s : State), s.gr.linkUp = true → badCtl w = false → MBX_COMMIT_CTL.GO.get w = 1 →
      Yields (.commitGo w) s fun t =>
        if s.rd MBX_COMMIT_GROUPS.GROUPS = 0 then t.rd MBX_COMMIT_STAT.RESULT = ST_ZERO_INVALID
        else if s.groupsMode (s.rd MBX_COMMIT_GROUPS.GROUPS) = false then t.rd MBX_COMMIT_STAT.RESULT = ST_WRONG_MODE
        else if (s.yieldGo (s.rd MBX_COMMIT_GROUPS.GROUPS)).groupsBusy (s.rd MBX_COMMIT_GROUPS.GROUPS) then
          t.rd MBX_COMMIT_STAT.RESULT = ST_BUSY
        else ∃ c, t.gr.commits = (s.yieldGo (s.rd MBX_COMMIT_GROUPS.GROUPS)).gr.commits ++ [c] ∧
          c.groups = s.rd MBX_COMMIT_GROUPS.GROUPS ∧ c.when_ = MBX_COMMIT_CTL.WHEN.get w ∧ c.stage = .checking ∧
          c.path = none ∧ c.askedAt = s.now ∧ c.snap = (s.yieldGo c.groups).snapOf c.groups ∧
          t.rd MBX_COMMIT_STAT.STATE = 1) ∧
  (∀ (w : Word) (c : Commit) (m : Fin 16) (g : Nat) (s : State), s.gr.linkUp = true → badCtl w = false →
      MBX_COMMIT_CTL.GO.get w = 1 → s.groupsMode (s.rd MBX_COMMIT_GROUPS.GROUPS) = true → g < 12 →
      testBit (s.rd MBX_COMMIT_GROUPS.GROUPS) g = true → c ∈ s.gr.commits → c.stage = .checking → c.askedAt = s.now →
      c.path = some m → c.restore = 0 → testBit c.groups g = true → s.mst m = mRUNNING →
      Yields (.commitGo w) s fun t => c ∉ t.gr.commits ∧ s.ends t m ST_BUSY []) ∧
  (∀ (w : Word) (row : RegRow) (i : Nat) (s : State), s.gr.linkUp = true → badCtl w = false → MBX_COMMIT_CTL.DISCARD.get w = 1 →
      regAt (row.reg.at i) = some (row, i) → groupHit (s.rd MBX_COMMIT_GROUPS.GROUPS) (row.reg.at i) = true →
      Yields (.commitDiscard w) s fun t => t.reg row.reg i &&& row.rwcMask = s.comReg row.reg i &&& row.rwcMask ∧
        t.committed = s.committed ∧ (testBit (s.rd MBX_COMMIT_GROUPS.GROUPS) 8 = true → t.tdc.binsSh = s.tdc.bins)) ∧
  (∀ (g : Fin 12) (c : Commit) (s : State), s.commitOf g = some c → c.stage = .checking →
      (testBit c.groups 5 = true → c.askedAt + 2048 ≤ s.now) → c.verdict = none →
      (c.when_ = 0 ∨ c.when_ = 2 ∧ testBit c.groups 4 = false ∧ testBit c.groups 5 = false ∧
        (testBit c.groups 8 = true → s.tdc.armed = none)) →
      Yields (.commitCheckDone g) s fun t =>
        if testBit c.groups 8 && s.tdc.test.isSome || testBit c.groups 9 && s.bit CAL_STAT.RUNNING then
          t.committed = s.committed ∧ s.commitEnds t c ST_BUSY
        else t.committed = copySets c.groups c.snap s.committed ∧ (c.restore ≠ 1 → s.commitEnds t c ST_OK)) ∧
  (∀ (g : Fin 12) (c : Commit) (s : State), s.commitOf g = some c → c.stage = .checking →
      (testBit c.groups 5 = true → c.askedAt + 2048 ≤ s.now) → c.verdict = none →
      Yields (.commitCheckDone g) s fun t =>
        (c.when_ = 1 → t.committed = s.committed ∧ if c.at_ < s.tick then s.commitEnds t c ST_TOO_LATE
          else { c with stage := .waiting, bound := none } ∈ t.gr.commits ∧ t.rd MBX_COMMIT_STAT.STATE ≠ 0) ∧
        (c.when_ = 2 → testBit c.groups 4 = true →
          (c.restore = 2 ∨ (s.withSets c.groups c.snap).comB ALM_SWITCH.MODE = false) → t.committed = s.committed ∧
            { c with stage := .waiting, bound := some (s.absSlot (s.now - 1) / 4096 + 1) } ∈ t.gr.commits) ∧
        (c.when_ = 2 → testBit c.groups 4 = true → c.restore ≠ 2 → (s.withSets c.groups c.snap).comB ALM_SWITCH.MODE = true →
          ∀ d, d = ((s.withSets c.groups c.snap).com ALM_SWITCH_CYC.CYCLE + 2 ^ 32 -
              s.absSlot (s.now - 1) / 4096 % 2 ^ 32) % 2 ^ 32 →
            t.committed = s.committed ∧ if d = 0 ∨ 2 ^ 31 ≤ d then s.commitEnds t c ST_TOO_LATE
              else { c with stage := .waiting, bound := some (s.absSlot (s.now - 1) / 4096 + d) } ∈ t.gr.commits) ∧
        (c.when_ = 2 → testBit c.groups 4 = false → testBit c.groups 5 = true → t.committed = s.committed ∧
          { c with stage := .waiting, bound := some c.edge.1 } ∈ t.gr.commits)) ∧
  (∀ (g : Fin 12) (c : Commit) (ofs fg : Nat) (enc : Bool) (s : State), s.commitOf g = some c → c.stage = .checking →
      (testBit c.groups 5 = true → c.askedAt + 2048 ≤ s.now) → c.verdict = some (ST_REJECT_INCONSISTENT, ofs, fg, enc) →
      Yields (.commitCheckDone g) s fun t => t.committed = s.committed ∧ s.commitEnds t c ST_REJECT_INCONSISTENT ∧
        t.rd MBX_COMMIT_FAIL.FAIL_OFFSET = ofs % 2 ^ 32 ∧ (fg < 12 → t.rd MBX_COMMIT_STAT.FAIL_GROUP = fg)) ∧
  (∀ (g : Fin 12) (c : Commit) (s : State), s.commitOf g = some c → c.stage = .waiting → c.when_ = 1 → c.at_ ≤ s.tick →
      Yields (.commitApplyAt g) s fun t =>
        if testBit c.groups 8 && s.tdc.test.isSome || testBit c.groups 9 && s.bit CAL_STAT.RUNNING then
          t.committed = s.committed ∧ s.commitEnds t c ST_BUSY
        else t.committed = copySets c.groups c.snap s.committed ∧ (c.restore ≠ 1 → s.commitEnds t c ST_OK)) ∧
  (∀ (g : Fin 12) (c : Commit) (s : State), s.commitOf g = some c → c.stage = .waiting → c.when_ = 2 →
      (match c.bound with
        | some n => decide (n ≤ if testBit c.groups 4 then s.cycleNow else s.now)
        | none => s.tdc.armed.isNone && s.tdc.test.isNone) = true →
      Yields (.commitApplyBoundary g) s fun t =>
        if testBit c.groups 8 && s.tdc.test.isSome || testBit c.groups 9 && s.bit CAL_STAT.RUNNING then
          t.committed = s.committed ∧ s.commitEnds t c ST_BUSY
        else t.committed = copySets c.groups c.snap s.committed ∧ (c.restore ≠ 1 → s.commitEnds t c ST_OK)) ∧
  (∀ (ofs : BitVec 32) (s : State), s.gr.linkUp = true → 0x03000000 ≤ ofs.toNat → ofs.toNat < 0x03E00000 →
      s.railOk 4 = true →
      Yields (.committedViewWrite ofs) s fun t => t.committed = s.committed ∧ t.reg R.EVT_RESERVED_OFS 0 = ofs ∧
        t.raised EV.EVT_RESERVED_ENC = true) ∧
  (∀ (m : Fin 16) (ex : Exec) (s : State), s.accepts m 0x20 ex = true → s.plen m = 16 → s.pay m 0 4 ≠ 0 → s.pay m 0 4 < 4096 →
      s.pay m 4 4 ≤ 2 → s.groupsMode (s.pay m 0 4) = true → s.groupsBusy (s.pay m 0 4) = false →
      Yields (.cmdCommit m ex) s fun t => t.works m .commit ∧ ∃ c, t.gr.commits = s.gr.commits ++ [c] ∧
        c.groups = s.pay m 0 4 ∧ c.when_ = s.pay m 4 4 ∧ c.at_ = s.pay m 8 8 ∧ c.path = some m ∧ c.stage = .checking ∧
        c.askedAt = s.now ∧ c.snap = s.snapOf c.groups) ∧
  (∀ (m : Fin 16) (ex : Exec) (s : State), s.accepts m 0x31 ex = true → (s.plen m = 0 ∨ s.plen m = 4) → s.restoreGroups m ≠ 0 →
      s.restoreGroups m < 4096 → s.boot.saved.isSome = true → s.groupsMode (s.restoreGroups m) = true →
      s.groupsBusy (s.restoreGroups m) = false → s.bindBlocked (s.restoreGroups m) = false →
      Yields (.cmdConfigRestore m ex) s fun t => t.works m .restore ∧
        (clearBit (s.restoreGroups m) 4 ≠ 0 → ∃ c, t.gr.commits = s.gr.commits ++ [c] ∧ c.path = some m ∧ c.when_ = 0 ∧
          c.groups = clearBit (s.restoreGroups m) 4))

/-- Descriptor tables: notify, fetched entries, bind, sync, read and resumed installs have their effect. Rests on
R105, R119, R121, R122, R123, R124, R125, R126, R216, R281, R442, R516. -/
def Obligations.TablesAct : Prop :=
  (∀ (tb : BitVec 8) (w : Word) (a : Nat) (s : State), s.gr.linkUp = true → tableIds.contains tb.toNat = true →
      MBX_DT_NOTIFY.COUNT.get w ≠ 0 → (s.table tb.toNat).addr = some a → s.follow = false → s.tableMode = true →
      MBX_DT_NOTIFY.FIRST.get w + MBX_DT_NOTIFY.COUNT.get w ≤ s.rd MBX_DT_BIND.ENTRY_COUNT tb.toNat →
      ((s.table tb.toNat).queue.filter (fun i => i.mbx.isNone && !i.reload)).length < 64 →
      Yields (.tableNotify tb w) s fun t => (t.table tb.toNat).queue = (s.table tb.toNat).queue ++
          [{ first := MBX_DT_NOTIFY.FIRST.get w, count := MBX_DT_NOTIFY.COUNT.get w, ord := s.nextOrd }] ∧
        t.rd MBX_DT_SEQ.COUNT tb.toNat = (s.rd MBX_DT_SEQ.COUNT tb.toNat + 1) % 2 ^ 32 ∧
        ∀ k < MBX_DT_NOTIFY.COUNT.get w, s.sends t (Out.fetch (a + 64 * (MBX_DT_NOTIFY.FIRST.get w + k)))) ∧
  (∀ (tb : BitVec 8) (w : Word) (s : State), s.gr.linkUp = true → tableIds.contains tb.toNat = true →
      Yields (.tableNotify tb w) s fun t =>
        (MBX_DT_NOTIFY.COUNT.get w = 0 → (t.table tb.toNat).queue = (s.table tb.toNat).queue ∧
          t.rd MBX_DT_STAT.ZERO_CNT tb.toNat = min (s.rd MBX_DT_STAT.ZERO_CNT tb.toNat + 1) 255) ∧
        (MBX_DT_NOTIFY.COUNT.get w ≠ 0 → ((s.table tb.toNat).addr = none ∨ s.follow = true ∨ s.tableMode = false ∨
            s.rd MBX_DT_BIND.ENTRY_COUNT tb.toNat < MBX_DT_NOTIFY.FIRST.get w + MBX_DT_NOTIFY.COUNT.get w) →
          (t.table tb.toNat).queue = (s.table tb.toNat).queue ∧
          t.rd MBX_DT_STAT.RANGE_CNT tb.toNat = min (s.rd MBX_DT_STAT.RANGE_CNT tb.toNat + 1) 255) ∧
        (MBX_DT_NOTIFY.COUNT.get w ≠ 0 → (s.table tb.toNat).addr.isSome = true → s.follow = false → s.tableMode = true →
          MBX_DT_NOTIFY.FIRST.get w + MBX_DT_NOTIFY.COUNT.get w ≤ s.rd MBX_DT_BIND.ENTRY_COUNT tb.toNat →
          64 ≤ ((s.table tb.toNat).queue.filter (fun i => i.mbx.isNone && !i.reload)).length →
          (t.table tb.toNat).queue = (s.table tb.toNat).queue ∧
          t.rd MBX_DT_STAT.OVERFLOW_CNT tb.toNat = min (s.rd MBX_DT_STAT.OVERFLOW_CNT tb.toNat + 1) 63)) ∧
  (∀ (tb : BitVec 8) (r : Fetch) (bytes : List Byte) (i : Install) (rest : List Install) (s : State),
      (s.table tb.toNat).queue = i :: rest → i.waiting = none → bytes.length = 64 → r ≠ .lasting →
      (s.versionHeld tb.toNat (i.first + i.done) (SMap.at! (s.table tb.toNat).entries (i.first + i.done)).ver = true →
        s.gr.store.length < 16384) →
      Yields (.entryFetchDone tb r bytes) s fun t =>
        (if i.count ≤ i.done + 1 then (t.table tb.toNat).queue = rest
          else ∃ j, (t.table tb.toNat).queue = j :: rest ∧ j.done = i.done + 1 ∧ j.waiting = none) ∧
        (i.reload = false → genOf bytes = ((s.ent tb.toNat (i.first + i.done)).map (·.gen)).getD 0 →
          t.ent tb.toNat (i.first + i.done) = s.ent tb.toNat (i.first + i.done)) ∧
        (genOf bytes = 0 → (s.ent tb.toNat (i.first + i.done)).all (fun e => e.gen ≠ 0) = true → t.ent tb.toNat (i.first + i.done) = none) ∧
        ((i.reload = true ∨ genOf bytes ≠ ((s.ent tb.toNat (i.first + i.done)).map (·.gen)).getD 0) → genOf bytes ≠ 0 →
          (tb.toNat = 0x50 → s.almCause (i.first + i.done) bytes = 0) →
          (tb.toNat ≠ 0x50 → fwdOk tb.toNat (i.first + i.done) bytes = true) →
          (tb.toNat = 0x31 → s.routesFull (i.first + i.done) bytes = false) →
          (t.ent tb.toNat (i.first + i.done)).map (fun e => (e.bytes, e.gen)) = some (bytes, genOf bytes))) ∧
  (∀ (tb : BitVec 8) (r : Fetch) (bytes : List Byte) (i : Install) (rest : List Install) (s : State),
      (s.table tb.toNat).queue = i :: rest → i.waiting = none → bytes.length = 64 → r ≠ .lasting →
      s.versionHeld tb.toNat (i.first + i.done) (SMap.at! (s.table tb.toNat).entries (i.first + i.done)).ver = true →
      16384 ≤ s.gr.store.length → tb.toNat ≠ 0x50 → tb.toNat ≠ 0x31 →
      genOf bytes ≠ ((s.ent tb.toNat (i.first + i.done)).map (·.gen)).getD 0 →
      (genOf bytes = 0 ∨ fwdOk tb.toNat (i.first + i.done) bytes = true) →
      Yields (.entryFetchDone tb r bytes) s fun t =>
        (∃ j, (t.table tb.toNat).queue = j :: rest ∧ j.done = i.done ∧ j.waiting = some bytes) ∧
        t.ent tb.toNat (i.first + i.done) = s.ent tb.toNat (i.first + i.done) ∧ (s.railOk 1 = true → t.raised EV.FWD_VER_FULL = true)) ∧
  (∀ (tb : BitVec 8) (r : Fetch) (bytes : List Byte) (i : Install) (rest : List Install) (s : State),
      (s.table tb.toNat).queue = i :: rest → i.waiting = none → bytes.length = 64 → r ≠ .lasting →
      genOf bytes ≠ ((s.ent tb.toNat (i.first + i.done)).map (·.gen)).getD 0 → genOf bytes ≠ 0 →
      Yields (.entryFetchDone tb r bytes) s fun t =>
        (tb.toNat = 0x50 → s.almCause (i.first + i.done) bytes ≠ 0 →
          t.ent tb.toNat (i.first + i.done) = s.ent tb.toNat (i.first + i.done) ∧
          t.rd ALM_BAD_ENTRY.INDEX = (i.first + i.done) % 2 ^ 18 ∧
          t.rd ALM_BAD_ENTRY.CAUSE = s.almCause (i.first + i.done) bytes) ∧
        (tb.toNat ≠ 0x50 → fwdOk tb.toNat (i.first + i.done) bytes = false →
          t.ent tb.toNat (i.first + i.done) = s.ent tb.toNat (i.first + i.done) ∧
          t.rd FWD_BAD_ENTRY.TABLE_ID = tb.toNat ∧ t.rd FWD_BAD_ENTRY.INDEX = (i.first + i.done) % 2 ^ 23 ∧
          t.rd FWD_BAD_ENTRY_CNT.COUNT = min (s.rd FWD_BAD_ENTRY_CNT.COUNT + 1) 65535) ∧
        (tb.toNat = 0x31 → fwdOk tb.toNat (i.first + i.done) bytes = true → s.routesFull (i.first + i.done) bytes = true →
          t.ent tb.toNat (i.first + i.done) = s.ent tb.toNat (i.first + i.done) ∧
          (s.railOk 1 = true → t.raised EV.FWD_RT_FULL = true))) ∧
  (∀ (tb : BitVec 8) (bytes : List Byte) (i : Install) (rest : List Install) (s : State),
      (s.table tb.toNat).queue = i :: rest → i.waiting = none →
      Yields (.entryFetchDone tb .lasting bytes) s fun t => t.bit MBX_DT_STAT.FETCH_FAIL tb.toNat = true ∧
        t.ent tb.toNat (i.first + i.done) = s.ent tb.toNat (i.first + i.done) ∧
        t.rd MBX_RETRY_STAT.LASTING_CNT = min (s.rd MBX_RETRY_STAT.LASTING_CNT + 1) (2 ^ MBX_RETRY_STAT.LASTING_CNT.w - 1) ∧
        (i.done + 1 < i.count → ∃ j, (t.table tb.toNat).queue = j :: rest ∧ j.done = i.done + 1 ∧ j.waiting = none)) ∧
  (∀ (tb : BitVec 8) (r : Fetch) (bytes : List Byte) (i : Install) (rest : List Install) (m : Fin 16) (s : State),
      (s.table tb.toNat).queue = i :: rest → i.waiting = none → (r = .lasting ∨ bytes.length = 64) → i.mbx = some m →
      (s.mbxAt m).job = some .sync → i.count ≤ i.done + 1 →
      (s.versionHeld tb.toNat (i.first + i.done) (SMap.at! (s.table tb.toNat).entries (i.first + i.done)).ver = true →
        s.gr.store.length < 16384) →
      Yields (.entryFetchDone tb r bytes) s fun t => (t.table tb.toNat).queue = rest ∧
        s.ends t m (if i.failed.isSome ∨ r = .lasting then ST_LASTING_FAULT
          else if i.anyRetry ∨ r = .transient then ST_TRANSIENT_RECOVERED else ST_OK) []) ∧
  (∀ (m : Fin 16) (ex : Exec) (s : State), s.accepts m 0x10 ex = true → s.plen m = 16 → s.pay m 1 3 = 0 →
      tableIds.contains (s.pay m 0 1) = true → s.pay m 4 4 ≤ tableMax (s.pay m 0 1) → s.pay m 8 8 % 64 = 0 →
      s.tableMode = true → s.follow = false → s.tableBusy (s.pay m 0 1) = false →
      Yields (.cmdTableBind m ex) s fun t => s.succeeds t m ex [] ∧
        t.rd MBX_DT_BIND.ENTRY_COUNT (s.pay m 0 1) = s.pay m 4 4 ∧ t.rd MBX_DT_SEQ.COUNT (s.pay m 0 1) = 0 ∧
        t.rd MBX_DT_DONE.COUNT (s.pay m 0 1) = 0 ∧
        (t.table (s.pay m 0 1)).addr = (if s.pay m 4 4 = 0 then none else some (s.pay m 8 8)) ∧
        ∀ k, t.ent (s.pay m 0 1) k = none) ∧
  (∀ (m : Fin 16) (ex : Exec) (a : Nat) (s : State), s.accepts m 0x11 ex = true → s.plen m = 12 → s.pay m 1 3 = 0 → s.pay m 8 4 ≠ 0 →
      tableIds.contains (s.pay m 0 1) = true → (s.table (s.pay m 0 1)).addr = some a →
      s.pay m 4 4 + s.pay m 8 4 ≤ s.rd MBX_DT_BIND.ENTRY_COUNT (s.pay m 0 1) → s.tableMode = true → s.follow = false →
      Yields (.cmdTableSync m ex) s fun t => t.works m .sync ∧
        (t.table (s.pay m 0 1)).queue = (s.table (s.pay m 0 1)).queue ++
          [{ first := s.pay m 4 4, count := s.pay m 8 4, ord := s.nextOrd, mbx := some m }] ∧
        ∀ k < s.pay m 8 4, s.sends t (Out.fetch (a + 64 * (s.pay m 4 4 + k)))) ∧
  (∀ (m : Fin 16) (ex : Exec) (s : State), s.accepts m 0x12 ex = true → s.plen m = 20 → s.pay m 1 3 = 0 → s.pay m 8 4 ≠ 0 →
      tableIds.contains (s.pay m 0 1) = true →
      s.pay m 4 4 + s.pay m 8 4 ≤ s.rd MBX_DT_BIND.ENTRY_COUNT (s.pay m 0 1) → s.tableMode = true →
      Yields (.cmdTableRead m ex) s fun t => s.succeeds t m ex [] ∧ s.sends t (Out.hostWrite (s.pay m 12 8)
        ((List.range (s.pay m 8 4)).flatMap (fun k => s.entBytes (s.pay m 0 1) (s.pay m 4 4 + k))) true)) ∧
  (∀ (tb : BitVec 8) (bytes : List Byte) (i : Install) (rest : List Install) (s : State),
      (s.freeVersions.table tb.toNat).queue = i :: rest → i.waiting = some bytes →
      Yields (.installResume tb) s fun t =>
        if (s.freeVersions.tryInstall tb.toNat (i.first + i.done) bytes i.reload).1 = .waits then
          (t.table tb.toNat).queue = i :: rest ∧ t.ent tb.toNat (i.first + i.done) = s.ent tb.toNat (i.first + i.done)
        else
          (if i.count ≤ i.done + 1 then (t.table tb.toNat).queue = rest
            else ∃ j, (t.table tb.toNat).queue = j :: rest ∧ j.done = i.done + 1 ∧ j.waiting = none) ∧
          ((s.freeVersions.tryInstall tb.toNat (i.first + i.done) bytes i.reload).1 = .installed → genOf bytes ≠ 0 →
            (t.ent tb.toNat (i.first + i.done)).map (fun e => (e.bytes, e.gen)) = some (bytes, genOf bytes)))

/-- Vector unmasking and latched reads have their effect. That ALM_CYCLE_LO latches ALM_STAT.SLOT as R522 latches a
pair is log entry 116. Rests on R127, R301, R496, R522. -/
def Obligations.HostReadsAct : Prop :=
  (∀ (v : Fin 32) (s : State), s.gr.linkUp = true → s.railOk 6 = true →
      Yields (.msixUnmask v) s fun t => testBit t.gr.masked v = false ∧
        (testBit s.gr.msixPend v = true → s.sends t (Out.msix v))) ∧
  (∀ (ofs : BitVec 32) (row rowH : RegRow) (i j : Nat) (s : State), s.gr.linkUp = true → regAt ofs.toNat = some (row, i) →
      latchedLo.contains row.reg = true → regAt (ofs.toNat + 4) = some (rowH, j) →
      Yields (.loReadLatch ofs) s fun t => if s.present ofs.toNat then
          SMap.get 0 t.latches (ofs.toNat + 4) = s.liveReg rowH i ∧ s.sends t (Out.readData ofs.toNat (s.liveReg row i)) ∧
          (row.reg = R.ALM_CYCLE_LO → t.rd ALM_STAT.SLOT = s.absSlot s.now % 4096)
        else t.latches = s.latches ∧ s.sends t (Out.readData ofs.toNat 0))

/-- Link training of ports, carriers and mirror lanes, and link faults of a port, have their effect. That UP_PENDING
and ALIGN fall back to ALIGN on a fault is the choice of log entry 88; the event after a reset is log entry 103. Rests
on R135, R136, R137, R138, R139, R140, R450. -/
def Obligations.PortsTrainAct : Prop :=
  (∀ (o : LineObj) (s : State),
      (match o with
        | .port p => s.fwdMode && s.linkState p = lsWAIT_SIGNAL
        | .carrier c => s.fwdMode && s.cst c = cWAIT_SIGNAL
        | .mirror i => s.twinOn && s.tkMode && (s.mlane i).st = 2) = true →
      Yields (.signalDetect o) s fun t => match o with
        | .port p => t.linkState p = lsADAPT ∧ (t.port p).timer = some (s.now + 50 * msT) ∧ t.bit PRT_STAT.SIG_ALL p = true
        | .carrier c => t.cst c = cADAPT ∧ (t.car c).timer = some (s.now + 50 * msT) ∧ (t.car c).signal = true
        | .mirror i => (t.mlane i).st = 3 ∧ (t.mlane i).timer = some (s.now + 50 * msT)) ∧
  (∀ (o : LineObj) (s : State),
      (match o with
        | .port p => s.fwdMode && s.linkState p = lsADAPT
        | .carrier c => s.fwdMode && s.cst c = cADAPT
        | .mirror i => s.twinOn && s.tkMode && (s.mlane i).st = 3) = true →
      Yields (.adaptDone o) s fun t => match o with
        | .port p => t.linkState p = lsALIGN ∧ (t.port p).timer = some (s.now + 2 * msT)
        | .carrier c => if s.allLocked c then t.cst c = cHANDSHAKE
          else t.cst c = cLOCK ∧ (t.car c).timer = some (s.now + 2 * msT)
        | .mirror i => (t.mlane i).st = 4 ∧ (t.mlane i).timer = some (s.now + 2 * msT)) ∧
  (∀ (p : Fin 256) (localF remoteF : Bool) (s : State), s.fwdMode = true → s.linkState p = lsALIGN →
      Yields (.alignLock p localF remoteF) s fun t => t.bit PRT_STAT.FEC_LOCK p = true ∧
        t.bit PRT_STAT.LOCAL_FAULT p = localF ∧ t.bit PRT_STAT.REMOTE_FAULT p = remoteF ∧
        t.linkState p = (if localF || remoteF then lsALIGN else if s.rd PRT_LINK_CFG.UP_DEB p = 0 then lsUP else lsUP_PENDING)) ∧
  (∀ (p : Fin 256) (s : State), s.fwdMode = true → (s.linkState p = lsADAPT ∨ s.linkState p = lsALIGN) → s.portDue p = true →
      s.railOk 6 = true →
      Yields (.attemptTimeout p) s fun t =>
        if (s.port p).retry then t.linkState p = lsFAILED ∧ t.raised EV.PRT_LINK_FAIL p = true ∧ (t.port p).timer = none
        else t.linkState p = lsADAPT ∧ t.bit PRT_STAT.RETRY p = true ∧ (t.port p).timer = some (s.now + 50 * msT)) ∧
  (∀ (p : Fin 256) (s : State), s.fwdMode = true → s.linkState p = lsUP_PENDING → s.portDue p = true → s.railOk 6 = true →
      Yields (.upDebounceExpiry p) s fun t => t.linkState p = lsUP ∧ t.raised EV.PRT_LINK_UP p = true ∧ (t.port p).timer = none) ∧
  (∀ (p : Fin 256) (sig lock loc rem : Bool) (s : State), s.fwdMode = true → lsADAPT ≤ s.linkState p →
      s.linkState p ≤ lsDOWN_PENDING →
      Yields (.portLinkFault p sig lock loc rem) s fun t =>
        (t.port p).faults = (if sig then 1 else 0) + (if lock then 2 else 0) + (if loc then 4 else 0) + (if rem then 8 else 0) ∧
        t.bit PRT_STAT.LOCAL_FAULT p = loc ∧ t.bit PRT_STAT.REMOTE_FAULT p = rem ∧
        (s.linkState p = lsUP → (sig || lock || loc || rem) = false → t.linkState p = lsUP) ∧
        (s.linkState p = lsUP → (sig || lock || loc || rem) = true → (t.port p).tx = none ∧ (t.port p).preempted = none ∧
          (t.port p).downAt = s.now ∧
          (s.rd PRT_LINK_CFG.DOWN_DEB p ≠ 0 → t.linkState p = lsDOWN_PENDING) ∧
          (s.rd PRT_LINK_CFG.DOWN_DEB p = 0 → t.rd PRT_STAT.DOWN_CAUSE p = causeOf (t.port p).faults ∧
            (s.railOk 6 = true → t.raised EV.PRT_LINK_DOWN p = true) ∧ t.linkState p = (if sig then lsWAIT_SIGNAL else lsALIGN))) ∧
        (s.linkState p = lsDOWN_PENDING → t.linkState p = lsDOWN_PENDING) ∧
        (s.linkState p < lsUP → sig = true → t.linkState p = lsWAIT_SIGNAL) ∧
        (s.linkState p = lsADAPT → sig = false → t.linkState p = lsADAPT) ∧
        (s.linkState p = lsUP_PENDING → sig = false → t.linkState p = (if lock || loc || rem then lsALIGN else lsUP_PENDING)) ∧
        (s.linkState p = lsALIGN → sig = false → t.linkState p =
          if lock || loc || rem || !s.bit PRT_STAT.FEC_LOCK p then lsALIGN
          else if s.rd PRT_LINK_CFG.UP_DEB p = 0 then lsUP else lsUP_PENDING)) ∧
  (∀ (p : Fin 256) (s : State), s.fwdMode = true → s.linkState p = lsDOWN_PENDING →
      s.now ≤ (s.port p).downAt + s.rd PRT_LINK_CFG.DOWN_DEB p * usT → s.railOk 6 = true →
      Yields (.glitch p) s fun t => t.linkState p = lsUP ∧ (t.port p).faults = 0 ∧ t.raised EV.PRT_GLITCH p = true) ∧
  (∀ (p : Fin 256) (s : State), s.fwdMode = true → s.linkState p = lsDOWN_PENDING → (s.port p).faults ≠ 0 →
      (s.port p).downAt + s.rd PRT_LINK_CFG.DOWN_DEB p * usT ≤ s.now → s.railOk 6 = true →
      Yields (.downDebounceExpiry p) s fun t => t.rd PRT_STAT.DOWN_CAUSE p = causeOf (s.port p).faults ∧
        t.raised EV.PRT_LINK_DOWN p = true ∧
        t.linkState p = (if testBit (s.port p).faults 0 then lsWAIT_SIGNAL else lsALIGN)) ∧
  (∀ (p : Fin 256) (s : State), (s.fwdMode && s.debEnds p) = false → s.wasCut (.portDown p) = true →
      s.railOk 6 = true → Yields (.downDebounceExpiry p) s fun t => t.raised EV.PRT_LINK_DOWN p = true ∧ t.linkState p = s.linkState p) ∧
  (∀ (p : Fin 256) (s : State), s.fwdMode = false → s.wasCut (.portUp p) = true → s.railOk 6 = true →
      Yields (.upDebounceExpiry p) s fun t => t.raised EV.PRT_LINK_UP p = true ∧ t.linkState p = s.linkState p) ∧
  (∀ (p : Fin 256) (s : State), s.fwdMode = false → s.wasCut (.portGlitch p) = true → s.railOk 6 = true →
      Yields (.glitch p) s fun t => t.raised EV.PRT_GLITCH p = true ∧ t.linkState p = s.linkState p) ∧
  (∀ (p : Fin 256) (s : State), s.fwdMode = false → s.wasCut (.portFail p) = true → s.railOk 6 = true →
      Yields (.attemptTimeout p) s fun t => t.raised EV.PRT_LINK_FAIL p = true ∧ t.linkState p = s.linkState p) ∧
  (∀ (p : Fin 256) (c : FecCounts) (s : State), s.fwdMode = true → lsALIGN ≤ s.linkState p → s.linkState p ≤ lsDOWN_PENDING →
      s.railOk 1 = true → s.railOk 6 = true →
      Yields (.fecDegradeWindow p c) s fun t =>
        t.slot (prtSlot p 38) = (s.slot (prtSlot p 38) + c.corrected) % 2 ^ 48 ∧
        t.slot (prtSlot p 39) = (s.slot (prtSlot p 39) + c.uncorrectable) % 2 ^ 48 ∧
        t.slot (prtSlot p 40) = (s.slot (prtSlot p 40) + c.symbols) % 2 ^ 48 ∧
        (s.rd PRT_FEC_CFG.DEGRADE_THR p ≠ 0 → s.rd PRT_FEC_CFG.DEGRADE_THR p < c.symbols → t.raised EV.PRT_FEC_DEGRADE p = true))

/-- Received frames and fragments, egress, pause, PFC, preemption verification and modules have their effect. What the
module on the I2C bus answers is an operand (log entry 4); the order of refusal and R141 is log entry 89. Rests on
R141, R142, R148, R149, R150, R151, R152, R157, R161, R162, R185, R225. -/
def Obligations.PortsFramesAct : Prop :=
  (∀ (p : Fin 256) (k : RxKind) (bytes : List Byte) (codeErr cut : Bool) (i : Inst) (s : State), s.portUp p = true →
      s.railOk 1 = true → s.looped p k bytes = true → (k = .verify → s.comB PRT_CFG.PREEMPT_EN p = true ∧ s.macTx p = true) →
      (k = .respond → (s.port p).verifyAt ≠ 0) →
      Yields (.receiveFrame p k bytes codeErr cut i) s fun t => match k with
        | .frame => t.slot (prtSlot p 26) = (s.slot (prtSlot p 26) + bytes.length) % 2 ^ 48 ∧
          ((s.rxAsm p bytes codeErr i).gone = false →
            (∀ n, s.rxRow p bytes codeErr cut i = some n → t.slot (prtSlot p n) = (s.slot (prtSlot p n) + 1) % 2 ^ 48) ∧
            (s.rxRow p bytes codeErr cut i = none → ∀ c < 8, testBit (be16 bytes 16) c = true →
              testBit (s.com PRT_PFC_CFG.RX_EN p) c = true →
              t.slot (prtSlot p (6 + c)) = (s.slot (prtSlot p (6 + c)) + 1) % 2 ^ 48) ∧
            (s.rxRow p bytes codeErr cut i = some 0 → t.slot (prtSlot p 1) = (s.slot (prtSlot p 1) + bytes.length) % 2 ^ 48 ∧
              ∃ f ∈ SMap.at! t.fwd.pipeQ (s.com PRT_CFG.FIRST_LANE p / 16), f.id = s.nextFrame ∧ f.bytes = bytes ∧ f.src = p))
        | .verify => s.sends t (.respond p)
        | .respond => t.bit PRT_STAT.PREEMPT_ACTIVE p = true ∧ (t.port p).verifyAt = 0) ∧
  (∀ (p : Fin 256) (k : FragKind) (last : Bool) (bytes : List Byte) (mcrcOk codeErr : Bool) (i : Inst) (s : State),
      s.portUp p = true → s.comB PRT_CFG.PREEMPT_EN p = true → s.railOk 1 = true →
      s.loopedFrag p (match k with | .start => 0 | .cont _ => ((s.port p).asm.map (·.len)).getD 0) last bytes = true →
      Yields (.receiveFragment p k last bytes mcrcOk codeErr i) s fun t =>
        t.slot (prtSlot p 24) = (s.slot (prtSlot p 24) + 1) % 2 ^ 48 ∧
        (k = .start → last = false → mcrcOk = true → ∃ a, (t.port p).asm = some a ∧ a.bytes = bytes.take (s.maxAt p i.tick) ∧
          a.len = bytes.length ∧ a.count = 0 ∧ a.bad = codeErr ∧ a.inst = i) ∧
        (k = .start → last = true → (t.port p).asm = none ∧ t.slot (prtSlot p 25) = (s.slot (prtSlot p 25) + 1) % 2 ^ 48) ∧
        (k = .start → last = false → mcrcOk = false → (t.port p).asm = none) ∧
        (k ≠ .start → (s.port p).asm = none → t.slot (prtSlot p 23) = (s.slot (prtSlot p 23) + 1) % 2 ^ 48) ∧
        (∀ (n : Fin 4) (a : Assembly), k = .cont n → (s.port p).asm = some a →
          (a.count % 4 ≠ n → (t.port p).asm = none ∧ t.slot (prtSlot p 23) = (s.slot (prtSlot p 23) + 1) % 2 ^ 48) ∧
          (a.count % 4 = n → last = true → (t.port p).asm = none ∧
            t.slot (prtSlot p 25) = (s.slot (prtSlot p 25) + 1) % 2 ^ 48) ∧
          (a.count % 4 = n → last = false → mcrcOk = false → (t.port p).asm = none ∧
            t.slot (prtSlot p 23) = (s.slot (prtSlot p 23) + 1) % 2 ^ 48) ∧
          (a.count % 4 = n → last = false → mcrcOk = true → ∃ b, (t.port p).asm = some b ∧
            b.bytes = (a.bytes ++ bytes).take a.max ∧ b.len = a.len + bytes.length ∧ b.count = a.count + 1 ∧
            b.bad = (a.bad || codeErr)))) ∧
  (∀ (p : Fin 256) (dep : Inst) (q : Nat) (d : Dwrr) (e : QEnt) (s : State), s.portUp p = true → s.egrState p = 0 →
      s.macTx p = true → (s.port p).pfcDue = false → s.macGap p = true → (∀ n < 16, s.oldIn (16 * p + n) = []) →
      s.portChoice p ((s.port p).tx.isSome || (s.port p).preempted.isSome) = some (q, d) → s.headEnt (16 * p + q) = some e →
      s.railOk 1 = true →
      Yields (.egressFrameStart p dep) s fun t =>
        (t.port p).preempted = (s.port p).preempted.or
          ((s.port p).tx.map fun x => { x with gone := x.gone + s.fragSent p x }) ∧
        match s.compose p e.frame dep with
        | some ed => ∃ x, (t.port p).tx = some x ∧ x.frame = e.frame ∧ x.queue = 16 * p + q ∧
            x.bytes = ed.bytes ++ fcsBytes ed.bytes ∧ x.start = s.now ∧ x.dep = dep
        | none => (t.port p).tx = none ∧ t.slot (prtSlot p 78) = (s.slot (prtSlot p 78) + 1) % 2 ^ 48) ∧
  (∀ (p : Fin 256) (dep : Inst) (x : Tx) (s : State), s.portUp p = true → s.egrState p = 0 → s.macTx p = true →
      (s.port p).pfcDue = false → (∀ n < 16, s.oldIn (16 * p + n) = []) → s.portChoice p true = none → (s.port p).tx = none →
      (s.port p).preempted = some x →
      Yields (.egressFrameStart p dep) s fun t => (t.port p).preempted = none ∧
        (t.port p).tx = some { x with frags := x.frags + 1, fragAt := s.now }) ∧
  (∀ (p : Fin 256) (s : State), Yields (.pauseTakesEffect p) s fun t => (t.port p).pauseFrom = [] ∧
      (t.port p).pauseEnd = (s.port p).pauseEnd) ∧
  (∀ (p : Fin 256) (c : Fin 8) (s : State),
      (s.port p).pauseEnd.any (fun e => e.1 = c.val && decide (e.2 < s.now)) = true →
      Yields (.pauseTimerExpiry p c) s fun t => (t.port p).pauseEnd = SMap.erase (s.port p).pauseEnd c ∧
        (t.port p).pauseFrom = SMap.erase (s.port p).pauseFrom c) ∧
  (∀ (p : Fin 256) (s : State), s.portUp p = true → (s.port p).pfcDue = true → s.macGap p = true → s.macTx p = true →
      Yields (.pfcFrameSend p) s fun t => (t.port p).pfcDue = false ∧ (t.port p).pfcAt = s.now ∧ (t.port p).sent = s.pfcMask p ∧
        t.rd PRT_STAT.TX_XOFF p = s.pfcMask p % 256 ∧
        (s.pfcMask p ≠ 0 ∨ (s.port p).sent ≠ 0 ∨ (s.port p).left ≠ 0 →
          (s.com PRT_CFG.FC_MODE p = 1 → s.sends t (.macControl p (s.controlFrame p (beBytes 2 0x0001 ++
            beBytes 2 (if s.pfcMask p = 0 then 0 else s.com PRT_PFC_CFG.TX_QUANTA p))))) ∧
          (s.com PRT_CFG.FC_MODE p = 2 → s.sends t (.macControl p (s.controlFrame p (beBytes 2 0x0101 ++
            beBytes 2 (s.pfcVector p) ++ (List.range 8).flatMap (fun c =>
              beBytes 2 (if testBit (s.pfcMask p) c then s.com PRT_PFC_CFG.TX_QUANTA p else 0))))))) ∧
        ∀ c < 8, testBit (s.pfcVector p) c = (testBit (s.pfcMask p) c ||
          ((testBit (s.port p).sent c || testBit (s.port p).left c) && testBit (s.com PRT_PFC_CFG.TX_EN p) c))) ∧
  (∀ (p : Fin 256) (s : State), s.portUp p = true → (s.port p).sent ≠ 0 →
      (s.port p).pfcAt + ceilDiv (s.quantaTicks p (s.com PRT_PFC_CFG.TX_QUANTA p)) 2 ≤ s.now →
      Yields (.pfcRepeat p) s fun t =>
        if s.macGap p && s.macTx p then (t.port p).pfcDue = false ∧ (t.port p).pfcAt = s.now ∧ (t.port p).sent = s.pfcMask p
        else (t.port p).pfcDue = true) ∧
  (∀ (p : Fin 256) (s : State), s.portUp p = true → (s.port p).verifyAt ≠ 0 → (s.port p).verifyAt ≤ s.now → s.railOk 6 = true →
      Yields (.verifyTimeout p) s fun t =>
        if (s.port p).verifyLeft = 0 then (t.port p).verifyFailed = true ∧ (t.port p).verifyAt = 0 ∧ t.raised EV.PRT_VERIFY_FAIL p = true
        else (t.port p).verifyLeft = (s.port p).verifyLeft - 1 ∧ (s.macTx p = true → s.sends t (.verify p)) ∧
          (t.port p).verifyAt = s.now + s.com PRT_PREEMPT_CFG.VERIFY_MS p * msT) ∧
  (∀ (bus : Fin 16) (low : Bool) (s : State),
      Yields (.optIntEdge bus low) s fun t => testBit t.pwr.optLow bus = low ∧
        (s.railOk 6 = true → testBit (t.rd PRT_OPT_STAT.INT_LVL) bus = low ∧
          (low = true → testBit s.pwr.optLow bus = false → testBit (t.rd PRT_OPT_STAT.INT_EVT) bus = true))) ∧
  (∀ s : State, s.railOk 1 = true → (s.tacc.map Prod.fst).Pairwise (· < ·) →
      Yields .tallyFold s fun t => t.tacc = [] ∧ ∀ n, t.slot n = s.slot n) ∧
  (∀ (m : Fin 16) (ex : Exec) (status : Fin 3) (idx : BitVec 16) (data : List Byte) (s : State), s.accepts m 0x102 ex = true →
      s.plen m = 8 + s.pay m 2 2 → s.pay m 6 2 = 0 → 0 < s.pay m 2 2 + s.pay m 4 2 → s.pay m 0 1 ≤ 15 → s.pay m 1 1 ≤ 127 →
      s.pay m 2 2 ≤ 256 → s.pay m 4 2 ≤ 256 → s.tkMode = true → s.follow = false →
      Yields (.cmdPrtOptXfer m ex status idx data) s fun t =>
        s.succeeds t m ex ([BitVec.ofNat 8 status.val, 0, 0, 0] ++ slice (if status = 0 then data else []) 0 (s.pay m 4 2)) ∧
        s.sends t (.i2c (s.pay m 0 1) (s.pay m 1 1) (s.payBytes m 8 (s.pay m 2 2)) (s.pay m 4 2)) ∧
        (ex = .retried → s.sends t (.i2cClocks (s.pay m 0 1))) ∧ (status = 2 → t.mf m 12 4 = idx.toNat))

/-- Carriers: codeword lock, grain slots, timing grains, keep-alive, parking and CARRIER_OP have their effect. The
event after a reset is log entry 103. Rests on R167, R168, R172, R177, R188, R190, R191, R192, R193, R194, R197, R450.
-/
def Obligations.CarriersAct : Prop :=
  (∀ (lane : Fin 260) (offset : Nat) (words : List Bool) (c : Nat) (s : State),
      (if lane.val < 256 then s.fwdMode && s.carOfLane lane = some c && s.cst c ≠ cDISABLED && s.cst c ≠ cPOWERING && s.cst c ≠ cHELD
        else s.twinOn && s.tkMode && (s.mlane (lane.val - 256)).st = 4) = true →
      Yields (.codewordLock ⟨lane, offset, words⟩) s fun t =>
        if searchOffsets.contains offset = false ∨ lockGained words = false then t = s.settle
        else if lane.val < 256 then lane.val ∈ (t.car c).locked ∧ t.bit SHF_CAR_STAT.LANES_LOCKED c = t.allLocked c ∧
          (s.cst c = cLOCK → t.allLocked c = true → t.cst c = cHANDSHAKE)
        else (t.mlane (lane.val - 256)).st = 6 ∧ (t.mlane (lane.val - 256)).timer = none) ∧
  (∀ (lane : Fin 260) (signal : Bool) (words : List Bool) (c : Nat) (s : State),
      (if lane.val < 256 then s.fwdMode && s.carOfLane lane = some c
        else s.twinOn && s.tkMode && 3 ≤ (s.mlane (lane.val - 256)).st && (s.mlane (lane.val - 256)).st ≤ 6 &&
          (!signal || (s.mlane (lane.val - 256)).st = 6)) = true →
      Yields (.codewordLockLost lane ⟨signal, words⟩) s fun t =>
        if signal = true ∧ lockLost words = false then t = s.settle
        else if lane.val < 256 then lane.val ∉ (t.car c).locked ∧ (signal = false → (t.car c).signal = false) ∧
          (cSTANDBY ≤ s.cst c → s.cst c ≤ cDRAINING → t.rd SHF_CAR_STAT.DOWN_CAUSE c = 4) ∧
          (s.cst c = cHANDSHAKE ∨ cSTANDBY ≤ s.cst c ∧ s.cst c ≤ cDRAINING →
            t.cst c = if (s.car c).signal && signal then cADAPT else cWAIT_SIGNAL)
        else (t.mlane (lane.val - 256)).st = if signal then 3 else 2) ∧
  (∀ (o : LineObj) (s : State),
      (match o with
        | .port _ => true
        | .carrier c => s.fwdMode && (s.cst c = cADAPT || s.cst c = cLOCK) && s.carDue c && s.railOk 6
        | .mirror i => s.twinOn && s.tkMode && ((s.mlane i).st = 3 || (s.mlane i).st = 4) &&
            (match (s.mlane i).timer with | some x => decide (x ≤ s.now) | none => false)) = true →
      Yields (.carrierAttemptTimeout o) s fun t => match o with
        | .port _ => t = s.settle
        | .carrier c => if (s.car c).retry then t.cst c = cFAILED ∧ t.raised EV.SHF_CAR_TRAIN_FAIL c = true
          else t.cst c = cADAPT ∧ t.bit SHF_CAR_STAT.RETRY c = true ∧ (t.car c).timer = some (s.now + 50 * msT)
        | .mirror i => if (s.mlane i).retry then (t.mlane i).st = 10 else (t.mlane i).st = 3 ∧ (t.mlane i).retry = true) ∧
  (∀ (lane : Fin 256) (dep : Inst) (c : Nat) (s : State), s.fwdMode = true → s.carOfLane lane = some c → s.cst c ≠ cDISABLED →
      s.cst c ≠ cHELD → s.cst c ≠ cPOWERING → s.slotDue c lane = true →
      Yields (.grainSlot lane dep) s fun t =>
        if lane.val = s.com SHF_CAR_CFG.FIRST_LANE c ∧ (s.car c).nextTg ≤ s.now then
          s.sends t (.grain lane (((s.noteSlot c lane).joined c).timingGrain c dep)) ∧
          (t.car c).nextTg = (s.car c).nextTg + 1600 ∧ (t.car c).cseq = ((s.car c).cseq + 1) % seqMod
        else if s.cst c = cACTIVE then match ((s.noteSlot c lane).nextGrain c).1 with
          | some g => s.sends t (.grain lane g)
          | none => s.comB SHF_CFG.DUP (s.carSheaf c) = true ∧ s.sends t (.nullBlocks lane 8)
        else s.sends t (.nullBlocks lane 8)) ∧
  (∀ (c : Fin 128) (bytes : List Byte) (strays : Nat) (fec : FecCounts) (rx : Inst) (s : State), s.fwdMode = true → cHANDSHAKE ≤ s.cst c → s.cst c ≤ cPARKED →
      bytes.length = 256 → crc8 (bytes.take 7) = byteAt bytes 7 → byteAt bytes 5 = 127 →
      bytes.drop 252 = fcsBytes (bytes.take 252) → byteAt bytes 6 / 8 = s.com SHF_CFG.PEER_SHEAF (s.carSheaf c) →
      (s.com SHF_PEER_NODE_HI.ID (s.carSheaf c) * 2 ^ 32 + s.com SHF_PEER_NODE_LO.ID (s.carSheaf c) = 0 ∨
        beNat (slice bytes 56 8) =
          s.com SHF_PEER_NODE_HI.ID (s.carSheaf c) * 2 ^ 32 + s.com SHF_PEER_NODE_LO.ID (s.carSheaf c)) →
      s.railOk 1 = true →
      Yields (.timingGrainReceived c bytes ⟨false, strays, fec⟩ rx) s fun t => t.bit SHF_CAR_STAT.TG_OK c = true ∧
        t.rd SHF_CAR_STAT.PEER_STATE c = byteAt bytes 48 % 16 ∧ (t.car c).rx.txTime = tsOfBE (slice bytes 8 12) ∧
        (t.car c).rx.rxTime = 
        tsQ (s.swInst 0 rx - s.rxDelay (s.com SHF_CAR_CFG.FIRST_LANE c)) ∧ (t.car c).rx.at_ = s.now ∧
        t.slot (carSlot c 1) = (s.slot (carSlot c 1) + 1) % 2 ^ 48) ∧
  (∀ (c : Fin 128) (bytes : List Byte) (bad : Bool) (strays : Nat) (fec : FecCounts) (rx : Inst) (s : State), s.fwdMode = true → cHANDSHAKE ≤ s.cst c → s.cst c ≤ cPARKED →
      (bad = false → bytes.length = 256) → s.railOk 1 = true →
      Yields (.timingGrainReceived c bytes ⟨bad, strays, fec⟩ rx) s fun t =>
        t.slot (carSlot c 5) = (s.slot (carSlot c 5) + strays) % 2 ^ 48 ∧
        t.slot (carSlot c 8) = (s.slot (carSlot c 8) + fec.corrected) % 2 ^ 48 ∧
        t.slot (carSlot c 9) = (s.slot (carSlot c 9) + fec.uncorrectable) % 2 ^ 48 ∧
        t.slot (carSlot c 10) = (s.slot (carSlot c 10) + fec.symbols) % 2 ^ 48 ∧ (bad = false →
        (crc8 (bytes.take 7) ≠ byteAt bytes 7 → t.slot (carSlot c 2) = (s.slot (carSlot c 2) + 1) % 2 ^ 48) ∧
        (crc8 (bytes.take 7) = byteAt bytes 7 → byteAt bytes 5 ≠ 127 →
          t.slot (carSlot c 3) = (s.slot (carSlot c 3) + 1) % 2 ^ 48) ∧
        (crc8 (bytes.take 7) = byteAt bytes 7 → byteAt bytes 5 = 127 → bytes.drop 252 ≠ fcsBytes (bytes.take 252) →
          t.slot (carSlot c 6) = (s.slot (carSlot c 6) + 1) % 2 ^ 48) ∧
        (crc8 (bytes.take 7) = byteAt bytes 7 → byteAt bytes 5 = 127 → bytes.drop 252 = fcsBytes (bytes.take 252) →
          byteAt bytes 6 / 8 ≠ s.com SHF_CFG.PEER_SHEAF (s.carSheaf c) →
          t.slot (carSlot c 7) = (s.slot (carSlot c 7) + 1) % 2 ^ 48 ∧
          t.slot (shfSlot (s.carSheaf c) 14) = (s.slot (shfSlot (s.carSheaf c) 14) + 1) % 2 ^ 48 ∧
          (s.railOk 6 = true → t.raised EV.SHF_CAR_MISCONNECT c = true)))) ∧
  (∀ (c : Fin 128) (s : State), s.fwdMode = true → (s.car c).rx.valid = true → (s.car c).rx.at_ + 12800 ≤ s.now →
      s.railOk 6 = true →
      Yields (.keepaliveExpiry c) s fun t => t.bit SHF_CAR_STAT.TG_OK c = false ∧ t.bit SHF_CAR_STAT.ECHO_OK c = false ∧
        (cSTANDBY ≤ s.cst c → s.cst c ≤ cDRAINING → t.rd SHF_CAR_STAT.DOWN_CAUSE c = 1 ∧ t.raised EV.SHF_CAR_DOWN c = true)) ∧
  (∀ (c : Fin 128) (s : State), (s.fwdMode && s.silent c) = false → s.wasCut (.carDown c) = true →
      s.railOk 6 = true → Yields (.keepaliveExpiry c) s fun t => t.raised EV.SHF_CAR_DOWN c = true ∧ t.cst c = s.cst c) ∧
  (∀ (c : Fin 128) (s : State), s.fwdMode = false → s.wasCut (.carFail c) = true → s.railOk 6 = true →
      Yields (.carrierAttemptTimeout (.carrier c)) s fun t => t.raised EV.SHF_CAR_TRAIN_FAIL c = true ∧ t.cst c = s.cst c) ∧
  (∀ (c : Fin 128) (x : Nat) (s : State), (s.car c).parkWait = some x → s.cst c = cDRAINING → x ≤ s.now → s.railOk 6 = true →
      Yields (.parkLossWaitExpiry c) s fun t => t.cst c = cPARKED ∧ (t.car c).parkWait = none ∧
        t.raised EV.SHF_CAR_PARKED c = true) ∧
  (∀ (m : Fin 16) (ex : Exec) (s : State), s.accepts m 0x201 ex = true → s.plen m = 8 → s.pay m 2 2 = 0 → s.pay m 4 4 ≠ 0 →
      s.pay m 4 4 ≤ 60000 → s.pay m 0 1 ≤ 127 → s.fwdMode = true → s.follow = false → s.carOp (s.pay m 0 1) = none →
      (if s.pay m 1 1 = 1 then s.cst (s.pay m 0 1) = cSTANDBY ∨ s.cst (s.pay m 0 1) = cPARKED
        else s.pay m 1 1 = 2 ∧ s.cst (s.pay m 0 1) = cACTIVE) →
      Yields (.cmdShfCarrierOp m ex) s fun t =>
        t.works m (.carrier (s.pay m 0 1) (s.pay m 1 1 = 1) (s.now + s.pay m 4 4 * msT)
          (s.car (s.pay m 0 1)).nextTxn) ∧
        (t.car (s.pay m 0 1)).req = (s.car (s.pay m 0 1)).req ++
          [(if s.pay m 1 1 = 1 then opJOIN_REQ else opPARK_REQ, (s.car (s.pay m 0 1)).nextTxn)] ∧
        t.cst (s.pay m 0 1) = (if s.pay m 1 1 = 1 then s.cst (s.pay m 0 1) else cDRAINING)) ∧
  (∀ (m : Fin 16) (c lim txn : Nat) (join : Bool) (s : State), (s.mbxAt m).job = some (.carrier c join lim txn) → lim ≤ s.now →
      Yields (.carrierOpTimeout m) s fun t => s.ends t m ST_TIMEOUT [] ∧ (t.car c).req = (s.car c).req.filter (fun r => r.2 ≠ txn) ∧
        (t.car c).parkWait = (if join then (s.car c).parkWait else none) ∧
        (c < 128 → t.cst c = if join = false ∧ s.cst c = cDRAINING then cPARKED else s.cst c))

/-- Sheaf reception: data grains, loss timeouts and synchronisation have their effect. Rests on R170, R172, R173,
R181, R182, R183, R184, R187. -/
def Obligations.SheafReceiveAct : Prop :=
  (∀ (c : Fin 128) (bytes : List Byte) (blocks strays : Nat) (badFec : Bool) (fec : FecCounts) (s : State), s.fwdMode = true →
      cHANDSHAKE ≤ s.cst c → s.cst c ≤ cPARKED → (8 ≤ blocks → badFec = false → bytes.length = 256) → s.railOk 1 = true →
      Yields (.dataGrainReceived c bytes blocks badFec strays fec) s fun t =>
        t.slot (carSlot c 5) = (s.slot (carSlot c 5) + strays) % 2 ^ 48 ∧
        t.slot (carSlot c 8) = (s.slot (carSlot c 8) + fec.corrected) % 2 ^ 48 ∧
        t.slot (carSlot c 9) = (s.slot (carSlot c 9) + fec.uncorrectable) % 2 ^ 48 ∧
        t.slot (carSlot c 10) = (s.slot (carSlot c 10) + fec.symbols) % 2 ^ 48 ∧
        (blocks < 8 → t.slot (carSlot c 4) = (s.slot (carSlot c 4) + 1) % 2 ^ 48) ∧
        (8 ≤ blocks → badFec = false → if crc8 (bytes.take 7) ≠ byteAt bytes 7 then
            t.slot (carSlot c 2) = (s.slot (carSlot c 2) + 1) % 2 ^ 48
          else if 128 ≤ byteAt bytes 5 ∨ byteAt bytes 5 % 64 = 62 then t.slot (carSlot c 3) = (s.slot (carSlot c 3) + 1) % 2 ^ 48
          else if byteAt bytes 6 / 8 ≠ s.com SHF_CFG.PEER_SHEAF (s.carSheaf c) then
            t.slot (shfSlot (s.carSheaf c) 14) = (s.slot (shfSlot (s.carSheaf c) 14) + 1) % 2 ^ 48 ∧
            (s.railOk 6 = true → t.raised EV.SHF_CAR_MISCONNECT c = true)
          else byteAt bytes 5 < 64 → s.cst c = cACTIVE ∨ s.cst c = cDRAINING →
            t.slot (carSlot c 0) = (s.slot (carSlot c 0) + 1) % 2 ^ 48 ∧
            (s.rxState (s.carSheaf c) = rxIDLE → (s.sheaf (s.carSheaf c)).held = [] → t.rxState (s.carSheaf c) = rxSYNC))) ∧
  (∀ (h : Fin 32) (q : Nat) (s : State), s.fwdMode = true → s.rxState h = rxRUN → (s.sheaf h).nearest = some q →
      seqDiff q (s.sheaf h).head ≠ 0 → (s.sheaf h).held.any (fun e => decide (e.2.at_ + s.lossTicks h ≤ s.now)) = true →
      s.railOk 6 = true →
      Yields (.grainLossTimeout h) s fun t => t.raised EV.SHF_GRAIN_LOST h = true ∧
        ((s.sheaf h).held.length = 1 → (t.sheaf h).head = (q + 1) % seqMod ∧ (t.sheaf h).held = [])) ∧
  (∀ (h : Fin 32) (s : State), s.fwdMode = false → s.wasCut (.grainLost h) = true → s.railOk 6 = true →
      Yields (.grainLossTimeout h) s fun t => t.raised EV.SHF_GRAIN_LOST h = true ∧ t.rxState h = s.rxState h) ∧
  (∀ (h : Fin 32) (q : Nat) (s : State), s.fwdMode = true → s.rxState h = rxSYNC → (s.sheaf h).syncAt + s.lossTicks h ≤ s.now →
      (s.sheaf h).syncLow = some q → s.railOk 6 = true →
      Yields (.syncWaitExpiry h) s fun t => t.raised EV.SHF_RESYNC h = true ∧
        ((s.activeOf h).isEmpty = false → t.rxState h = rxRUN)) ∧
  (∀ (h : Fin 32) (s : State), s.fwdMode = false → s.wasCut (.resync h) = true → s.railOk 6 = true →
      Yields (.syncWaitExpiry h) s fun t => t.raised EV.SHF_RESYNC h = true ∧ t.rxState h = s.rxState h)

/-- Every counter-read command answers the tick and the slots asked for, and CLEAR sets them to 0. Rests on R158,
R160, R162, R198, R237, R268, R300, R330, R355, R385, R486, R487. -/
def Obligations.CounterReads : Prop :=
  (∀ (m : Fin 16) (ex : Exec) (s : State), s.accepts m 0x101 ex = true → s.plen m = 8 → s.pay m 4 1 ≤ 1 → s.pay m 5 3 = 0 → s.pay m 3 1 ≠ 0 →
      s.pay m 0 2 ≤ 255 → s.pay m 2 1 + s.pay m 3 1 ≤ 128 → s.cntMode = true →
      Yields (.cmdPrtCountersRead m ex) s fun t => s.succeeds t m ex (s.slotsAnswer (prtSlot (s.pay m 0 2) 0) (s.pay m 2 1) (s.pay m 3 1)) ∧
        t.slotsCleared (testBit (s.pay m 4 1) 0) (prtSlot (s.pay m 0 2) 0) (s.pay m 2 1) (s.pay m 3 1)) ∧
  (∀ (m : Fin 16) (ex : Exec) (s : State), s.accepts m 0x204 ex = true → s.plen m = 8 → s.pay m 3 1 ≤ 1 → s.pay m 4 4 = 0 → s.pay m 2 1 ≠ 0 →
      s.pay m 0 1 ≤ 31 → s.pay m 1 1 + s.pay m 2 1 ≤ 16 → s.fwdMode = true →
      Yields (.cmdShfTtCountersRead m ex) s fun t => s.succeeds t m ex (s.slotsAnswer (ttSlot (s.pay m 0 1) 0) (s.pay m 1 1) (s.pay m 2 1)) ∧
        t.slotsCleared (testBit (s.pay m 3 1) 0) (ttSlot (s.pay m 0 1) 0) (s.pay m 1 1) (s.pay m 2 1)) ∧
  (∀ (m : Fin 16) (ex : Exec) (s : State), s.accepts m 0x501 ex = true → s.plen m = 8 → s.pay m 3 1 ≤ 1 → s.pay m 4 4 = 0 → s.pay m 2 1 ≠ 0 →
      s.pay m 0 1 ≤ 31 → s.pay m 1 1 + s.pay m 2 1 ≤ 32 → s.cntMode = true →
      Yields (.cmdAlmCountersRead m ex) s fun t => s.succeeds t m ex (s.slotsAnswer (almSlot (s.pay m 0 1) 0) (s.pay m 1 1) (s.pay m 2 1)) ∧
        t.slotsCleared (testBit (s.pay m 3 1) 0) (almSlot (s.pay m 0 1) 0) (s.pay m 1 1) (s.pay m 2 1)) ∧
  (∀ (m : Fin 16) (ex : Exec) (s : State), s.accepts m 0x604 ex = true → s.plen m = 8 → s.pay m 4 1 ≤ 1 → s.pay m 5 3 = 0 → s.pay m 3 1 ≠ 0 →
      s.pay m 0 2 ≤ 255 → s.pay m 2 1 + s.pay m 3 1 ≤ 16 → s.cntMode = true →
      Yields (.cmdTbsCountersRead m ex) s fun t => s.succeeds t m ex (s.slotsAnswer (stmpSlot (s.pay m 0 2) 0) (s.pay m 2 1) (s.pay m 3 1)) ∧
        t.slotsCleared (testBit (s.pay m 4 1) 0) (stmpSlot (s.pay m 0 2) 0) (s.pay m 2 1) (s.pay m 3 1)) ∧
  (∀ (m : Fin 16) (ex : Exec) (s : State), s.accepts m 0x703 ex = true → s.plen m = 8 → s.pay m 3 1 ≤ 1 → s.pay m 4 4 = 0 → s.pay m 2 1 ≠ 0 →
      s.pay m 0 1 ≤ 6 → s.pay m 1 1 + s.pay m 2 1 ≤ 16 → (s.tkMode || (s.mode = mISOLATE && s.bit PWR_MODE_STAT.HBM_RETAINED)) = true →
      Yields (.cmdRefCountersRead m ex) s fun t => s.succeeds t m ex (s.slotsAnswer (refSlot (s.pay m 0 1) 0) (s.pay m 1 1) (s.pay m 2 1)) ∧
        t.slotsCleared (testBit (s.pay m 3 1) 0) (refSlot (s.pay m 0 1) 0) (s.pay m 1 1) (s.pay m 2 1)) ∧
  (∀ (m : Fin 16) (ex : Exec) (s : State), s.accepts m 0xC04 ex = true → s.plen m = 8 → s.pay m 2 1 ≤ 1 → s.pay m 3 5 = 0 → s.pay m 1 1 ≠ 0 →
      s.pay m 0 1 + s.pay m 1 1 ≤ 16 → s.fwdMode = true →
      Yields (.cmdTwnCountersRead m ex) s fun t => s.succeeds t m ex (s.slotsAnswer (twnSlot 0) (s.pay m 0 1) (s.pay m 1 1)) ∧
        t.slotsCleared (testBit (s.pay m 2 1) 0) (twnSlot 0) (s.pay m 0 1) (s.pay m 1 1)) ∧
  (∀ (m : Fin 16) (ex : Exec) (s : State), s.accepts m 0x202 ex = true → s.plen m = 8 → s.pay m 4 1 ≤ 1 → s.pay m 5 3 = 0 → s.pay m 3 1 ≠ 0 →
      (if s.pay m 0 1 = 0 then s.pay m 1 1 ≤ 31 ∧ s.pay m 2 1 + s.pay m 3 1 ≤ 128
        else s.pay m 0 1 = 1 ∧ s.pay m 1 1 ≤ 127 ∧ s.pay m 2 1 + s.pay m 3 1 ≤ 64) → s.cntMode = true →
      Yields (.cmdShfCountersRead m ex) s fun t => s.succeeds t m ex (s.slotsAnswer (if s.pay m 0 1 = 0 then shfSlot (s.pay m 1 1) 0 else carSlot (s.pay m 1 1) 0) (s.pay m 2 1) (s.pay m 3 1)) ∧
        t.slotsCleared (testBit (s.pay m 4 1) 0) (if s.pay m 0 1 = 0 then shfSlot (s.pay m 1 1) 0 else carSlot (s.pay m 1 1) 0) (s.pay m 2 1) (s.pay m 3 1)) ∧
  (∀ (m : Fin 16) (ex : Exec) (s : State), s.accepts m 0x301 ex = true → s.plen m = 12 → s.pay m 1 1 ≤ 1 → s.pay m 10 2 = 0 → s.pay m 8 2 ≠ 0 →
      s.pay m 8 2 ≤ 256 →
      (if s.pay m 0 1 = 0 then s.pay m 2 2 ≤ 287 ∧ s.pay m 4 4 + s.pay m 8 2 ≤ 256
        else if s.pay m 0 1 = 1 then s.pay m 2 2 ≤ 287 ∧ s.pay m 4 4 + s.pay m 8 2 ≤ 32
        else s.pay m 0 1 = 2 ∧ 262144 ≤ s.pay m 4 4 ∧ s.pay m 4 4 + s.pay m 8 2 ≤ 2097152) → s.cntMode = true →
      Yields (.cmdFwdCountersRead m ex) s fun t => s.succeeds t m ex (s.slotsAnswer (if s.pay m 0 1 = 0 then queueSlot (s.pay m 2 2) 0 0 else if s.pay m 0 1 = 1 then srcSlot (s.pay m 2 2) 0 else 0) (s.pay m 4 4) (s.pay m 8 2)) ∧
        t.slotsCleared (testBit (s.pay m 1 1) 0) (if s.pay m 0 1 = 0 then queueSlot (s.pay m 2 2) 0 0 else if s.pay m 0 1 = 1 then srcSlot (s.pay m 2 2) 0 else 0) (s.pay m 4 4) (s.pay m 8 2)) ∧
  (∀ (m : Fin 16) (ex : Exec) (s : State), s.accepts m 0x401 ex = true → s.plen m = 8 → s.pay m 5 1 ≤ 1 → s.pay m 6 2 = 0 → s.pay m 4 1 ≠ 0 →
      (if s.pay m 0 1 = 0 then s.pay m 1 2 ≤ 7 ∧ s.pay m 3 1 + s.pay m 4 1 ≤ 64
        else if s.pay m 0 1 = 1 then s.pay m 3 1 + s.pay m 4 1 ≤ 64
        else s.pay m 0 1 = 2 ∧ s.pay m 1 2 ≤ 287 ∧ s.pay m 3 1 + s.pay m 4 1 ≤ 16) → s.cntMode = true →
      Yields (.cmdGrnCountersRead m ex) s fun t => s.succeeds t m ex (s.slotsAnswer (if s.pay m 0 1 = 0 then poolSlot (s.pay m 1 2) 0 else if s.pay m 0 1 = 1 then siloSlot 0 else grnSrcSlot (s.pay m 1 2) 0) (s.pay m 3 1) (s.pay m 4 1)) ∧
        t.slotsCleared (testBit (s.pay m 5 1) 0) (if s.pay m 0 1 = 0 then poolSlot (s.pay m 1 2) 0 else if s.pay m 0 1 = 1 then siloSlot 0 else grnSrcSlot (s.pay m 1 2) 0) (s.pay m 3 1) (s.pay m 4 1))

/-- The forwarding core: lookup, bucket reads, crossings, drains, the reaper, link hold and its commands have their
effect. The choices of queue and arbiter order the spec leaves open are log entries 38 and 40. Rests on R202, R203,
R204, R206, R217, R220, R226, R229, R232, R234, R237. -/
def Obligations.ForwardingAct : Prop :=
  (∀ (k : Fin 16) (f : Frame) (rest : List Frame) (s : State), SMap.at! s.fwd.pipeQ k = f :: rest →
      (SMap.at! s.fwd.missQ k).length < 512 → s.railOk 1 = true → (∀ b ∈ f.bufs, b.1 < 8) →
      (256 ≤ f.src → SMap.at! s.fwd.orderQ (f.src - 256) = []) →
      Yields (.pipelineFrame k) s fun t => SMap.at! t.fwd.pipeQ k = rest ∧
        (if s.needsRead f.src f.body || (SMap.at! s.fwd.missQ k).any (s.sameLane f) then
          SMap.at! t.fwd.missQ k = SMap.at! s.fwd.missQ k ++ [f]
        else SMap.at! t.fwd.missQ k = SMap.at! s.fwd.missQ k ∧
          match s.resolve f (s.hashOf f.src f.body) with
          | .error i => t.slot (srcSlot f.src i) = (s.slot (srcSlot f.src i) + 1) % 2 ^ 48
          | .ok r => r.1.sched = 0 → ∃ g, (g ∈ SMap.at! t.fwd.ingress (ingressKey f.src f.pipe g.plane g.cls) ∨
              256 ≤ f.src ∧ g ∈ SMap.at! t.fwd.orderQ (f.src - 256)) ∧
              g.id = f.id ∧ g.cap = some r.1 ∧ g.cls = r.2.1 ∧ g.plane = s.planeOf (s.hashOf f.src f.body))) ∧
  (∀ (k : Fin 16) (f : Frame) (rest : List Frame) (s : State), SMap.at! s.fwd.missQ k = f :: rest →
      Yields (.bucketReadDone k) s fun t =>
        SMap.at! t.fwd.missQ k =
          ((s.cacheBucket (s.keyOf f.src f.body)).splitMiss (flowBase (s.keyOf f.src f.body)) (f :: rest) ([], [])).2 ∧
        f ∉ SMap.at! t.fwd.missQ k) ∧
  (∀ (j : Fin 4) (c : Choice) (f : Frame) (rest : List Frame) (s : State), s.planeArbiter j = some c →
      SMap.at! s.fwd.ingress c.key = f :: rest → s.railOk 1 = true → (∀ b ∈ f.bufs, b.1 < 8) →
      Yields (.planeCrossing j) s fun t => SMap.at! t.fwd.ingress c.key = rest ∧
        (s.tooOld f f.cls = true → (f.cap.map (·.sched)) = some 0 →
          t.slot (srcSlot f.src cAGED_INGRESS) = (s.slot (srcSlot f.src cAGED_INGRESS) + 1) % 2 ^ 48)) ∧
  (∀ (ids : List Nat) (s : State), s.fwd.drain = some ids →
      s.fwd.ingress.any (fun e => e.2.any (fun f => ids.contains f.id)) = false → s.railOk 1 = true →
      Yields .planeDrainEnd s fun t => t.fwd.drain = none ∧ t.rd FWD_STAT.PLANE_DRAIN = 0 ∧
        t.raised EV.FWD_PLANE_DRAIN_DONE = true) ∧
  (∀ s : State, Yields .reaperVisit s fun t => ∀ k f rest, SMap.at! t.fwd.ingress k = f :: rest → s.tooOld f f.cls = false) ∧
  (∀ (e : Fin 288) (s : State), s.holdOver e = true → s.railOk 1 = true →
      Yields (.linkHoldExpiry e) s fun t => t.egrState e = 2 ∧
        ((elasticQueues e).any (fun n => !(s.queue n).ents.isEmpty) = true → t.raised EV.FWD_LINK_FLUSH e = true) ∧
        ∀ c < 8, (t.queue (16 * e + 2 * c)).ents = []) ∧
  (∀ (m : Fin 16) (ex : Exec) (s : State), s.accepts m 0x302 ex = true → s.plen m = 4 → s.pay m 2 2 = 0 → s.pay m 0 2 ≤ 287 → s.fwdMode = true →
      Yields (.cmdFwdQueueStat m ex) s fun t =>
        s.succeeds t m ex ((List.range 16).flatMap (fun q => s.queueStat (16 * s.pay m 0 2 + q)))) ∧
  (∀ (m : Fin 16) (ex : Exec) (s : State), s.accepts m 0x303 ex = true → s.plen m = 4 → s.pay m 2 2 ≠ 0 → s.pay m 0 2 ≤ 287 →
      s.fwdMode = true → s.follow = false →
      Yields (.cmdFwdFlush m ex) s fun t => s.succeeds t m ex [] ∧
        ∀ q < 16, testBit (s.pay m 2 2) q = true → (t.queue (16 * s.pay m 0 2 + q)).ents = [])

/-- The Granary: completed frames, spills, recalls, the page cache, the gleaner and its commands have their effect.
Rests on R244, R253, R254, R255, R256, R258, R259, R260, R263, R265, R268, R442. -/
def Obligations.GranaryAct : Prop :=
  (∀ (e : Fin 288) (bad : Bool) (x : Tx) (s : State),
      (if e.val < 256 then (s.port e).tx = some x ∧ s.portUp e = true
        else (s.sheaf (e.val - 256)).tx = some x ∧ s.fwdMode = true ∧ (s.sheaf (e.val - 256)).txBytes.length ≤ 248) →
      Yields (.txFrameComplete e bad) s fun t =>
        (if e.val < 256 then (t.port e).tx = none else (t.sheaf (e.val - 256)).tx = none) ∧
        (if bad || x.stomp then s.sends t (.stomped e) else s.sends t (.frame e (e.val ≥ 256 || x.express) x.bytes))) ∧
  (∀ (e : Fin 288) (q : Fin 16) (bwHeld : Bool) (i : Nat) (prev : Option QEnt) (x : QEnt) (s : State), s.fwdMode = true →
      nextSpill 0 none (s.queue (16 * e.val + q.val)).ents = some (i, prev, x) → s.railOk 1 = true → s.railOk 2 = true →
      (∀ b ∈ x.frame.bufs, b.1 < 8) →
      Yields (.spillWriteDone e q bwHeld) s fun t =>
        if bwHeld then
          (t.queue (16 * e.val + q.val)).ents = joinHead ((s.queue (16 * e.val + q.val)).ents.set i { x with heldBw := true, waits := true }) ∧
          (x.heldBw = false → t.slot (siloSlot 6) = (s.slot (siloSlot 6) + 1) % 2 ^ 48)
        else if ((s.queue (16 * e.val + q.val)).openSeg prev).isNone ∧ 64 ≤ (s.queue (16 * e.val + q.val)).segs.length then
          (t.queue (16 * e.val + q.val)).ents = joinHead ((s.queue (16 * e.val + q.val)).ents.set i { x with waits := true })
        else if s.pagesBack.pagesFree < s.spillNeed (16 * e.val + q.val) prev x then
          (t.queue (16 * e.val + q.val)).ents[i]? = some { x with spill := false } ∧ t.raised EV.GRN_SILO_FULL = true ∧
          t.slot (siloSlot 5) = (s.slot (siloSlot 5) + 1) % 2 ^ 48
        else t.slot (siloSlot 0) = (s.slot (siloSlot 0) + 1) % 2 ^ 48 ∧
          t.slot (siloSlot 1) = (s.slot (siloSlot 1) + x.frame.bytes.length) % 2 ^ 48) ∧
  (∀ (e : Fin 288) (q : Fin 16) (f : Fetch) (g : Seg) (pg : Nat) (again : Bool) (s : State), s.fwdMode = true →
      (s.queue (16 * e.val + q.val)).segs.head? = some g → g.pages.head? = some pg →
      (s.queue (16 * e.val + q.val)).recl.isSome = again →
      (again = false → s.cellsAhead (16 * e.val + q.val) g.num < s.com GRN_SILO_CFG.RECALL_AHEAD) → s.railOk 1 = true →
      s.railOk 2 = true →
      Yields (.recallPageReadDone e q f) s fun t =>
        (f = .transient → again = false → t.slot (siloSlot 8) = (s.slot (siloSlot 8) + 1) % 2 ^ 48) ∧
        (if f = .lasting ∧ again = false then t.raised EV.GRN_PAGE_CRC = true ∧
            t.rd EVT_FCNT.LASTING 2 = min (s.rd EVT_FCNT.LASTING 2 + 1) 1023 ∧ pg ∈ t.grn.pageRetired ∧
            t.slot (siloSlot 9) = (s.slot (siloSlot 9) +
              ((s.queue (16 * e.val + q.val)).ents.filter (QEnt.inPage g.num g.base)).length) % 2 ^ 48
          else if (s.recallFrames e (16 * e.val + q.val) ((s.queue (16 * e.val + q.val)).ents.filter (QEnt.endsIn g.num g.base))).1 then
            t.slot (siloSlot 2) = (s.slot (siloSlot 2) +
              ((s.queue (16 * e.val + q.val)).ents.filter (QEnt.endsIn g.num g.base)).length) % 2 ^ 48
          else (t.queue (16 * e.val + q.val)).recl.isSome = true)) ∧
  (∀ s : State, s.fwdMode = true → s.grn.cache < 2048 →
      Yields .siloCacheRefill s fun t => t.grn.cache = min 8192 (s.pagesBack.rd GRN_SILO_STAT.FREE_PAGES)) ∧
  (∀ (sram silo : Bool) (s : State), s.fwdMode = true → s.railOk 2 = true →
      sram = (!(s.sweepJobs false).isEmpty || (s.rd GRN_GLEAN_CFG.PERIOD ≠ 0 &&
        decide (s.grn.lastSweep + s.rd GRN_GLEAN_CFG.PERIOD * msT ≤ s.now))) →
      silo = (!(s.sweepJobs false).isEmpty || (s.rd GRN_GLEAN_CFG.PERIOD ≠ 0 &&
        decide (s.grn.lastSilo + max 80 (s.rd GRN_GLEAN_CFG.PERIOD) * msT ≤ s.now))) → (sram || silo) = true →
      Yields .gleanerSweep s fun t => t.rd GRN_GLEAN_STAT.SWEEPS = (s.rd GRN_GLEAN_STAT.SWEEPS + 1) % 65536 ∧
        t.raised EV.GRN_SWEEP_DONE = true ∧ t.grn.lastSweep = (if sram then s.now else s.grn.lastSweep) ∧
        t.grn.lastSilo = (if silo then s.now else s.grn.lastSilo) ∧
        ∀ m : Fin 16, ((s.mbxAt m).job = some (.sweep false) → s.ends t m ST_OK []) ∧
          ((s.mbxAt m).job = some (.sweep true) → (t.mbxAt m).job = some (.sweep false) ∧ t.mst m = s.mst m)) ∧
  (∀ (m : Fin 16) (ex : Exec) (bad : List (Fin 64)) (s : State), s.accepts m 0x402 ex = true → s.plen m = 8 → s.pay m 1 1 = 0 →
      s.pay m 2 2 ≠ 0 → s.pay m 2 2 ≤ 64 → s.pay m 0 1 ≤ 7 → s.fwdMode = true →
      Yields (.cmdGrnCellTest m ex bad) s fun t => ∃ k w, w ≤ k ∧ k ≤ s.pay m 2 2 ∧
        s.succeeds t m ex (leBytes 2 k ++ leBytes 2 w)) ∧
  (∀ (m : Fin 16) (ex : Exec) (s : State), s.accepts m 0x403 ex = true → s.plen m = 0 → s.fwdMode = true →
      Yields (.cmdGrnSweep m ex) s fun t => t.works m (.sweep (s.sweepDue false || s.sweepDue true || !(s.sweepJobs false).isEmpty)))

/-- The Almanac: Sheaf egress decisions, window ends and its commands have their effect. Rests on R280, R284, R285,
R287, R288, R290, R291, R295, R296, R300. -/
def Obligations.AlmanacAct : Prop :=
  (∀ (h : Fin 32) (s : State), s.fwdMode = true → s.comB SHF_CFG.ENABLE h = true → (s.sheaf h).tx = none →
      (s.sheaf h).txBytes.length < 248 → s.egrState (256 + h) = 0 →
      (∀ n < 16, s.oldIn (16 * (256 + h.val) + n) = []) → s.railOk 1 = true →
      Yields (.sheafEgressDecision h) s fun t =>
        (s.openWin h = none → s.elasticChoice (256 + h) (s.sheaf h).dwrr (fun _ => true) = none →
          (t.almSheaf h).guard = false ∧ (t.sheaf h).tx = none) ∧
        (∀ c d e, s.openWin h = none → s.elasticChoice (256 + h) (s.sheaf h).dwrr (fun _ => true) = some (c, d) →
          s.headEnt (16 * (256 + h) + 2 * c) = some e → (∀ b ∈ e.frame.bufs, b.1 < 8) →
          if s.fitsBefore h (leavingLen e.frame) = false then (t.almSheaf h).guard = true ∧ (t.sheaf h).tx = none
          else if (leavingBody e.frame).length + 4 ≤ s.com SHF_CFG.MAX_LEN h then
            ∃ x, (t.sheaf h).tx = some x ∧ x.frame = e.frame ∧ x.queue = 16 * (256 + h) + 2 * c
          else (t.sheaf h).tx = none ∧ t.slot (shfSlot h 68) = (s.slot (shfSlot h 68) + 1) % 2 ^ 48) ∧
        (∀ w f n e, s.openWin h = some (w, f) → s.boundHead h (w.w, f) = some (n, e) → (∀ b ∈ e.frame.bufs, b.1 < 8) →
          (leavingBody e.frame).length + 4 ≤ s.com SHF_CFG.MAX_LEN h →
          charge (leavingLen e.frame) ≤
            min (w.bytes - if (s.almSheaf h).inst = f + 1 then (s.almSheaf h).used else 0) (s.liveCap h (s.ticksTo (f + w.slots))) →
          t.slot (almSlot h 2) = (s.slot (almSlot h 2) + 1) % 2 ^ 48 ∧
          t.slot (almSlot h 3) = (s.slot (almSlot h 3) + leavingLen e.frame) % 2 ^ 48 ∧
          ∃ x, (t.sheaf h).tx = some x ∧ x.frame = e.frame ∧ x.queue = n)) ∧
  (∀ (h : Fin 32) (s : State), (s.wins h).isEmpty = false →
      Yields (.windowEnd h) s fun t => (t.almSheaf h).judged = max (s.almSheaf h).judged (s.absSlot (s.now + 1)) ∧
        ∀ n ∈ schedQueues h, ∀ e ∈ (t.queue n).ents, e.endedBy (s.wins h) (s.absSlot (s.now + 1)) = false) ∧
  (∀ (m : Fin 16) (ex : Exec) (s : State), s.accepts m 0x502 ex = true → s.plen m = 4 → s.pay m 0 1 ≤ 31 → s.pay m 1 1 ≤ 1 → 4 ≤ s.pay m 2 2 →
      s.pay m 2 2 ≤ 512 → s.fwdMode = true →
      Yields (.cmdAlmBankCheck m ex) s fun t =>
        s.succeeds t m ex (leBytes 2 (s.bank (s.pay m 0 1) (s.pay m 1 1)).length ++
          [BitVec.ofNat 8 ((badWin (s.pay m 2 2) 0 (s.bank (s.pay m 0 1) (s.pay m 1 1))).getD (0xFFFFFFFF, 0)).2, 0] ++
          leBytes 4 ((badWin (s.pay m 2 2) 0 (s.bank (s.pay m 0 1) (s.pay m 1 1))).getD (0xFFFFFFFF, 0)).1)) ∧
  (∀ (m : Fin 16) (ex : Exec) (s : State), s.accepts m 0x503 ex = true → s.plen m = 0 → s.fwdMode = true → s.follow = false →
      Yields (.cmdAlmRealign m ex) s fun t => s.succeeds t m ex [] ∧ t.resAt 0 s.now = 0)

/-- Time bases: slews, host domains, snapshots, report rings and triggers have their effect. Rests on R304, R305,
R307, R308, R309, R310, R320, R323, R324, R325, R328, R330. -/
def Obligations.TimeBasesAct : Prop :=
  (∀ (n : Fin 8) (s : State), s.tickRun = true → (s.dom n).res ≠ 0 → s.resAt n s.now = 0 →
      Yields (.slewResidueZero n) s fun t => (t.dom n).res = 0 ∧ t.bit TBS_DOM_STAT.SLEWING n = false) ∧
  (∀ (n : Fin 8) (s : State), s.tickRun = true → s.domSource n = srcHOST → s.com TBS_DOM_CFG.HOST_TIMEOUT n ≠ 0 →
      s.bit TBS_DOM_STAT.FREE_RUN n = false → (s.dom n).cmdAt + s.com TBS_DOM_CFG.HOST_TIMEOUT n * sT ≤ s.now →
      s.railOk 4 = true →
      Yields (.hostTimeoutExpiry n) s fun t => t.bit TBS_DOM_STAT.FREE_RUN n = true ∧ t.raised EV.TBS_FREE_RUN n = true) ∧
  (∀ (n : Fin 8) (m : Fin 16) (a : Adjust) (s : State), (s.dom n).adj = some a → a.mbx = m → a.at_ ≤ s.now →
      s.tickRun = true →
      Yields (.adjustApply n) s fun t => (t.dom n).adj = none ∧ t.bit TBS_DOM_STAT.PENDING n = false ∧
        (if s.sourceNow n = srcHOST then
          (∀ i, a.inc = some i → (t.dom n).inc = i) ∧
          (a.set = none → t.domAt n s.now = s.domAt n s.now + a.step.getD 0 * fracU) ∧
          (∀ x, a.set = some x → t.domAt n s.now = s.domAt n s.now + (x - tsQ (s.domAt n s.now)) * fracU) ∧
          (s.mst m = mRUNNING → a.set = none → s.ends t m ST_OK []) ∧
          (∀ x, s.mst m = mRUNNING → a.set = some x →
            s.ends t m ST_OK (leBytes 8 (tc 64 (x - tsQ (s.domAt n s.now)))))
        else (s.mst m = mRUNNING → s.ends t m ST_BAD_ARGUMENT []) ∧ (t.dom n).inc = (s.dom n).inc)) ∧
  (∀ (data : Word) (s : State), s.gr.linkUp = true → s.tickRun = true → TBS_SNAP_CTL.GO.get data ≠ 0 → s.tb.snapAt ≠ some s.now →
      Yields (.snapshot data) s fun t => t.reg R.TBS_SNAP_TICK_LO 0 = BitVec.ofNat 32 s.tick ∧
        ∀ x < 8, t.reg R.TBS_SNAP_NS x = BitVec.ofNat 32 (tsParts (s.domAt x s.now)).2.1 ∧
          t.reg R.TBS_SNAP_SLO x = BitVec.ofNat 32 (tsParts (s.domAt x s.now)).1) ∧
  (∀ (p : Fin 256) (data : Word) (s : State), s.gr.linkUp = true → s.railOk 4 = true →
      Yields (.rptConsWrite p data) s fun t =>
        if (s.rd TBS_RPT_PROD.INDEX p + 65536 - TBS_RPT_CONS.INDEX.get data) % 65536 ≤ 64 then
          t.rd TBS_RPT_CONS.INDEX p = TBS_RPT_CONS.INDEX.get data
        else t.rd TBS_RPT_CONS.INDEX p = s.rd TBS_RPT_CONS.INDEX p ∧ t.raised EV.EVT_RESERVED_ENC = true ∧
          t.reg R.EVT_RESERVED_OFS 0 = BitVec.ofNat 32 (R.TBS_RPT_CONS.at p % 2 ^ 31)) ∧
  (∀ (k : Fin 8) (x : Train) (s : State), SMap.at! s.tb.trigs k = x → s.tickRun = true → x.on = true → x.over = false →
      s.scaleDue x.scale x.edge = true →
      Yields (.triggerPulse k) s fun t =>
        if s.quiet then SMap.at! t.tb.trigs k = { x with next := x.next + 1, skipped := x.skipped + 1 }
        else SMap.at! t.tb.trigs k =
            { x with next := x.next + 1, fall := some x.fallAfter, high := !x.invert } ∧
          s.sends t (.pin .trig k (!x.invert)) ∧
          t.rd TBS_TRIG_STAT.ISSUED k = (s.rd TBS_TRIG_STAT.ISSUED k + if x.scale = 9 then 0 else 1) % 2 ^ TBS_TRIG_STAT.ISSUED.w) ∧
  (∀ (k : Fin 8) (x : Train) (f : Int) (sc : Nat) (s : State), SMap.at! s.tb.trigs k = x → x.fall = some (f, sc) →
      s.tickRun = true → s.scaleDue sc f = true →
      Yields (.triggerPulseEnd k) s fun t => (SMap.at! t.tb.trigs k).fall = none ∧
        (SMap.at! t.tb.trigs k).high = (if x.on then x.invert else s.comB TBS_TRIG_CFG.INVERT k) ∧
        s.sends t (.pin .trig k (if x.on then x.invert else s.comB TBS_TRIG_CFG.INVERT k))) ∧
  (∀ (m : Fin 16) (ex : Exec) (n : Fin 8) (s : State), s.accepts m 0x601 ex = true → s.plen m = 32 → s.pay m 0 1 = n → 0 < n →
      s.pay m 1 1 < 8 → s.pay m 1 1 % 4 ≠ 0 → s.pay m 2 6 = 0 → s.pay m 22 2 = 0 → s.domSource n = srcHOST →
      (testBit (s.pay m 1 1) 0 = true → 686851169976 ≤ s.pay m 16 6 ∧ s.pay m 16 6 ≤ 687538364744) →
      (testBit (s.pay m 1 1) 1 = true → 0 ≤ tsQ (s.domAt n (s.applyAt (s.pay m 8 8))) + sgn 64 (s.pay m 24 8)) →
      s.pay m 8 8 ≤ s.tick + 2 ^ 32 → (s.pay m 8 8 = 0 ∨ s.tick + 64 ≤ s.pay m 8 8) → s.timeMode = true → s.follow = false →
      (s.dom n).adj = none →
      Yields (.cmdTbsAdjust m ex) s fun t => t.works m (.adjust n) ∧ t.bit TBS_DOM_STAT.PENDING n = true ∧
        t.bit TBS_DOM_STAT.FREE_RUN n = false ∧ (t.dom n).cmdAt = s.now ∧
        (t.dom n).adj = some ⟨m, s.applyAt (s.pay m 8 8), if testBit (s.pay m 1 1) 0 then some (s.pay m 16 6) else none,
          if testBit (s.pay m 1 1) 1 then some (sgn 64 (s.pay m 24 8)) else none, none, testBit (s.pay m 1 1) 2⟩) ∧
  (∀ (m : Fin 16) (ex : Exec) (n : Fin 8) (s : State), s.accepts m 0x602 ex = true → s.plen m = 32 → s.pay m 0 1 = n → 0 < n →
      (s.pay m 1 1 = 0 ∨ s.pay m 1 1 = 4) → s.pay m 2 10 = 0 → s.pay m 26 4 < 1000000000 → s.domSource n = srcHOST →
      s.pay m 12 8 ≤ s.tick + 2 ^ 32 → (s.pay m 12 8 = 0 ∨ s.tick + 64 ≤ s.pay m 12 8) → s.timeMode = true → s.follow = false →
      (s.dom n).adj = none →
      Yields (.cmdTbsSet m ex) s fun t => t.works m (.adjust n) ∧ t.bit TBS_DOM_STAT.PENDING n = true ∧
        (t.dom n).adj = some ⟨m, s.applyAt (s.pay m 12 8), none, none,
          some (qOf (s.pay m 20 6) (s.pay m 26 4) (s.pay m 30 2)), testBit (s.pay m 1 1) 2⟩) ∧
  (∀ (m : Fin 16) (ex : Exec) (s : State), s.accepts m 0x603 ex = true → s.plen m = 12 → s.pay m 2 2 = 0 → s.pay m 0 2 ≤ 255 →
      s.pay m 4 8 % 64 = 0 → s.fwdMode = true →
      Yields (.cmdTbsReportBind m ex) s fun t => s.succeeds t m ex [] ∧ t.rd TBS_RPT_PROD.INDEX (s.pay m 0 2) = 0 ∧
        t.rd TBS_RPT_CONS.INDEX (s.pay m 0 2) = 0 ∧ t.bit TBS_RPT_STAT.BOUND (s.pay m 0 2) = (s.pay m 4 8 ≠ 0) ∧
        SMap.get 0 t.tb.rpt (s.pay m 0 2) = s.pay m 4 8)

/-- Time transfer: measurement set, averaging windows, TC windows and the carriers command have their effect. Log
entries 51, 71 and 73 give the choices it rests on. Rests on R334, R335, R336, R337, R341, R343, R344, R345, R355. -/
def Obligations.TimeTransferAct : Prop :=
  (∀ (c : Fin 128) (since : Nat) (s : State), (s.ttCar c).since = some since → since + 100 * msT ≤ s.now → s.measOk c = true →
      (s.ttCar c).inSet = false →
      Yields (.measSetEntry c) s fun t => (t.ttCar c).inSet = true ∧ (t.ttCar c).pairs = 0 ∧ (t.ttCar c).whole = false ∧
        t.rd SHF_TT_STAT.MEAS_CNT (s.carSheaf c) = (t.measSet (s.carSheaf c)).length) ∧
  (∀ (h : Fin 32) (len : Nat) (s : State), len = s.com SHF_TT_CFG.AVG_MS h * msT → len ≠ 0 → s.ttMethod h ≠ ttOFF →
      s.fwdMode = true → (s.ttSheaf h).winAt + len ≤ s.now + 1 →
      Yields (.ttWindowEnd h) s fun t =>
        (t.ttSheaf h).winAt = (s.ttSheaf h).winAt + (s.now + 1 - (s.ttSheaf h).winAt) / len * len ∧
        t.bit SHF_TT_STAT.SAMPLE_OK h =
          (s.carsOf h).any (fun c => (s.ttCar c).inSet && (s.ttCar c).whole && (s.ttCar c).pairs != 0) ∧
        ∀ c ∈ s.carsOf h, (t.ttCar c).whole = (s.ttCar c).inSet ∧ (t.ttCar c).pairs = 0 ∧ (t.ttCar c).sumX = 0) ∧
  (∀ (h : Fin 32) (len : Nat) (s : State), len = s.com SHF_TT_CFG.TC_WINDOW h * sT → len ≠ 0 → 2 ≤ s.ttMethod h →
      s.fwdMode = true → (s.ttSheaf h).tcAt + len ≤ s.now + 1 →
      Yields (.tcWindowEnd h) s fun t =>
        (t.ttSheaf h).tcAt = (s.ttSheaf h).tcAt + (s.now + 1 - (s.ttSheaf h).tcAt) / len * len ∧ (t.ttSheaf h).est = [] ∧
        (t.ttSheaf h).cpSeen = false ∧
        (s.ttMethod h = ttROUND_TRIP → t.bit SHF_TT_STAT.CP_SEEN h = (s.ttSheaf h).cpSeen) ∧
        (∀ a, s.ttMethod h = ttTWO_COLOUR → (s.ttSheaf h).anchor = some a → (s.ttSheaf h).estBad = false →
          (s.ttSheaf h).est ≠ [] →
          SMap.get 0 (t.ttSheaf h).f 128 = estMean (SMap.get (0, 0, 0) (s.ttSheaf h).est 128) - a)) ∧
  (∀ (m : Fin 16) (ex : Exec) (h : Fin 32) (s : State), s.accepts m 0x203 ex = true → s.plen m = 4 → s.pay m 1 3 = 0 → s.pay m 0 1 = h →
      s.fwdMode = true →
      Yields (.cmdShfTtCarriers m ex) s fun t =>
        s.succeeds t m ex ((leBytes 8 s.tick ++ (s.carsOf h).flatMap s.ttRecord).take 4032))

/-- Reference inputs: edges, signal loss, time-of-day sentences, PTP samples and qualification timers have their
effect. Rests on R338, R357, R358, R359, R360, R361, R362, R363, R364, R366. -/
def Obligations.ReferenceInputsAct : Prop :=
  (∀ (k : Fin 4) (falling : Bool) (i : Inst) (s : State), s.tickRun = true → s.com REF_SRC_CFG.RANK k ≠ 0 → s.tb.warmed = true →
      s.timeMode = true →
      Yields (.refinEdge k falling i) s fun t =>
        if s.isPps k = true ∧ s.comB REF_IN_CFG.EDGE k = falling then
          (s.com REF_IN_CFG.TOD_SRC k ≠ 1 → (t.src k).lastEdge = some s.now) ∧
          (s.com REF_IN_CFG.TOD_SRC k = 1 → s.comB REF_TOD_CFG.TOD_EDGE = true → (t.src k).lastEdge = some s.now ∧
            (t.src k).edgeWait.map (fun w => (w.1, w.2.1)) = some (s.now, s.refStamp k i) ∧ (t.src k).rmcBad = false) ∧
          (s.com REF_IN_CFG.TOD_SRC k = 1 → s.comB REF_TOD_CFG.TOD_EDGE = false → (s.src k).edgeWait = none → s.railOk 4 = true →
            (∀ a sec, (s.src k).zda.find? (fun z => decide (z.1 + 50 * msT ≤ s.now && s.now ≤ z.1 + 950 * msT)) = some (a, sec) →
              (s.src k).rmcBad = false → (∀ p, (s.src k).label = some p → p + 1 = sec + s.com REF_TOD_CFG.UTC_OFS) →
              (t.src k).label = some (sec + s.com REF_TOD_CFG.UTC_OFS) ∧ (t.src k).todErrs = 0 ∧ (t.src k).zda = []) ∧
            ((s.src k).zda.find? (fun z => decide (z.1 + 50 * msT ≤ s.now && s.now ≤ z.1 + 950 * msT)) = none →
              t.raised EV.REF_TOD_ERR k = true))
        else if s.isPps k = true ∨ falling = true then t.ref = s.ref
        else (t.src k).lastEdge = some s.now ∧ (t.src k).stamp0 = some ((s.src k).stamp0.getD (s.refStamp k i))) ∧
  (∀ (k : Fin 4) (a : Nat) (s : State), (s.src k).lastEdge = some a →
      a + (if s.isPps k then 1500 * msT else usT) ≤ s.now → s.qst k ≠ qDISABLED → s.qst k ≠ qNO_SIGNAL →
      Yields (.refSignalTimeout k) s fun t => t.qst k = qNO_SIGNAL ∧ (t.src k).lastEdge = none ∧
        (t.src k).hist = (if s.isTimeRef k then (s.src k).hist else []) ∧
        ∀ j, j ≠ k → j < 7 → t.qst j = s.qst j) ∧
  (∀ (bs : List Byte) (f : List (List Byte)) (k : Nat) (s : State), s.tickRun = true → nmeaFields bs = some f →
      s.gnssRef = some k →
      Yields (.nmeaSentence bs) s fun t =>
        ((f.headD []).drop 2 = [0x52, 0x4D, 0x43] → (t.src k).rmcBad = (f.getD 2 [] != [0x41])) ∧
        (∀ sec, (f.headD []).drop 2 = [0x5A, 0x44, 0x41] → zdaSeconds f = some sec → s.comB REF_TOD_CFG.TOD_EDGE = false →
          (t.src k).zda.head? = some (s.now, sec)) ∧
        (∀ sec a st dep, (f.headD []).drop 2 = [0x5A, 0x44, 0x41] → zdaSeconds f = some sec →
          s.comB REF_TOD_CFG.TOD_EDGE = true → (s.src k).edgeWait = some (a, st, dep) → s.now ≤ a + 950 * msT →
          (s.src k).rmcBad = false → (∀ p, (s.src k).label = some p → p + 1 = sec + s.com REF_TOD_CFG.UTC_OFS) →
          (t.src k).label = some (sec + s.com REF_TOD_CFG.UTC_OFS) ∧ (t.src k).edgeWait = none ∧ (t.src k).todErrs = 0)) ∧
  (∀ (s : State), s.tickRun = true → s.com REF_SRC_CFG.RANK 6 ≠ 0 →
      Yields .ptpSample s fun t =>
        (s.domSource (s.com REF_PTP_CFG.DOMAIN) = srcHOST → s.bit TBS_DOM_STAT.FREE_RUN (s.com REF_PTP_CFG.DOMAIN) = false →
          s.bit REF_PTP_STAT.HOST_OK = true → s.fwdMode = true →
          (∀ a, (s.src 6).lastEdge = some a → a + 100000000 ≤ s.now) → (t.src 6).lastEdge = some s.now) ∧
        ((s.domSource (s.com REF_PTP_CFG.DOMAIN) ≠ srcHOST ∨ s.bit TBS_DOM_STAT.FREE_RUN (s.com REF_PTP_CFG.DOMAIN) = true ∨
            s.bit REF_PTP_STAT.HOST_OK = false ∨ s.fwdMode = false) →
          s.qst 6 ≠ qDISABLED → t.qst 6 = qNO_SIGNAL)) ∧
  (∀ (j : Fin 7) (s : State), s.qst j = qQUALIFYING → (s.src j).qualAt + s.com REF_SRC_CFG.QUAL_S j * sT ≤ s.now →
      Yields (.qualifyExpiry j) s fun t =>
        if s.lineFlagged j then t = s.settle
        else t.ref.due = true ∧
          ((∀ k < 7, (s.setQ j qQUALIFIED).outvoted k = false) →
            t.qst j = qQUALIFIED ∧ ∀ k < 7, k ≠ j.val → t.qst k = s.qst k) ∧
          ((s.setQ j qQUALIFIED).outvoted j = true → (∀ k < j.val, (s.setQ j qQUALIFIED).outvoted k = false) →
            t.rd REF_SRC_STAT.CAUSE j = 4 ∧
            t.qst j = if s.com REF_SRC_CFG.REQUAL_S j = 0 then qQUALIFYING else qDISQUALIFIED)) ∧
  (∀ (j : Fin 7) (s : State), s.qst j = qDISQUALIFIED → (s.src j).disqAt + s.com REF_SRC_CFG.REQUAL_S j * sT ≤ s.now →
      Yields (.requalExpiry j) s fun t => t.qst j = qQUALIFYING ∧ (t.src j).hist = (s.src j).hist ∧ (t.src j).qualAt = s.now)

/-- The reference loop: steps, learning, holdover, the frequency word and the phase-error FIFO have their effect.
Rests on R371, R374, R376, R377, R382, R383, R386. -/
def Obligations.ReferenceLoopAct : Prop :=
  (∀ (a : Nat) (σ : Int) (l : List (Nat × Int)) (s : State), s.ref.steps = (a, σ) :: l → a ≤ s.now → s.tickRun = true →
      Yields .phaseStepApply s fun t => t.ref.steps = l ∧ t.ownAt 0 s.now = s.ownAt 0 s.now + σ * fracU ∧
        (t.dom 0).steps = (s.dom 0).steps + σ * fracU ∧ (s.railOk 4 = true → t.raised EV.TBS_STEP 0 = true)) ∧
  (∀ (s : State), s.tb.warmed = true → s.timeMode = true → s.ref.learnAt + sT ≤ s.now →
      Yields .learnerRecord s fun t => t.ref.learnAt = s.now ∧ (s.ocxoWarm = false → t.ref.recs = s.ref.recs) ∧
        (s.ocxoWarm = true → s.rstate ≠ rsLOCKED →
          t.ref.recs = s.ref.recs.filter (fun x => !decide (x.at_ + s.driftWin x.ref * sT ≤ s.now))) ∧
        (s.rstate = rsLOCKED → s.ocxoWarm = true → 0 < s.driftWin s.selected →
          2 * (s.src s.selected).drift < s.driftThr s.selected →
          (⟨s.now, s.selected, s.accQ.yNow, s.caseTemp⟩ : LRec) ∈ t.ref.recs)) ∧
  (∀ (s : State), (s.rstate = rsHOLDOVER ∨ s.rstate = rsASSIST) → s.ref.holdUpd + sT ≤ s.now →
      Yields .holdoverUpdate s fun t => t.ref.holdUpd = s.now ∧ t.rd REF_HO_EST.H = min s.holdEst 0xFFFFFFFF ∧
        t.bit REF_STAT.IN_SPEC = decide (s.holdEst ≤ s.com REF_HO_CFG.HO_SPEC * 1000)) ∧
  (∀ (w : Word) (s : State), s.gr.linkUp = true → s.railOk 4 = true →
      Yields (.freqWordWrite w) s fun t =>
        if w.toInt.natAbs ≤ steerMax.natAbs then
          (s.swMode = false → t.ref = s.ref) ∧
          (s.swMode = true → t.rd REF_FREQ_WORD.WORD = w.toNat ∧ t.ref.wTo = w.toInt ∧ t.ref.wWritten = s.now ∧
            t.ref.stale = false)
        else t.ref = s.ref ∧ t.raised EV.EVT_RESERVED_ENC = true ∧
          t.reg R.EVT_RESERVED_OFS 0 = BitVec.ofNat 32 (R.REF_FREQ_WORD.base % 2 ^ 31)) ∧
  (∀ (s : State), s.swMode = true → s.timeMode = true → s.ref.peAt + 100000000 ≤ s.now →
      Yields .pePush s fun t => t.ref.peAt = s.now ∧ t.ref.peSeq = (s.ref.peSeq + 1) % 4096 ∧
        ∃ v fresh, t.ref.pe = (if 64 ≤ s.ref.pe.length then s.ref.pe.drop 1 else s.ref.pe) ++ [⟨s.selected, v, fresh, s.ref.peSeq⟩] ∧
          (s.selected = 7 → v = 0 ∧ fresh = false) ∧
          (∀ a e o l, s.selected ≠ 7 → (s.src s.selected).hist = (a, e, o) :: l → v = o ∧ fresh = decide (s.ref.peUsed < a))) ∧
  (∀ (s : State), s.gr.linkUp = true → s.railOk 4 = true →
      Yields .peRead s fun t =>
        (s.ref.pe = [] → t.ref.pe = [] ∧ t.reg R.REF_PE_HI 0 = 0 ∧ s.sends t (.readData R.REF_PE_LO.base 0)) ∧
        (∀ e l, s.ref.pe = e :: l → t.ref.pe = l ∧ s.sends t (.readData R.REF_PE_LO.base (BitVec.ofNat 32 (tc 48 e.val))) ∧
          t.reg R.REF_PE_HI 0 = BitVec.ofNat 32 (tc 48 e.val / 2 ^ 32 + 65536 * e.ref + (if e.fresh then 524288 else 0) +
            1048576 * e.seq))) ∧
  (∀ (s : State), s.swMode = true → s.com REF_LOOP_CFG.SW_TIMEOUT ≠ 0 → s.ref.stale = false → s.tickRun = true →
      s.ref.wWritten + s.com REF_LOOP_CFG.SW_TIMEOUT * sT ≤ s.now → s.railOk 4 = true →
      Yields .swStale s fun t => t.ref.stale = true ∧ t.raised EV.REF_SW_STALE = true)

/-- Reference commands and PPS output pulses have their effect. Rests on R373, R375, R385. -/
def Obligations.ReferenceCommandsAct : Prop :=
  (∀ (m : Fin 16) (ex : Exec) (s : State), s.accepts m 0x701 ex = true → s.plen m = 4 → s.pay m 1 3 = 0 →
      (s.pay m 0 1 ≤ 6 ∨ s.pay m 0 1 = 0xFF) → s.timeMode = true → s.follow = false →
      Yields (.cmdRefForce m ex) s fun t => s.succeeds t m ex [] ∧
        t.ref.forced = (if s.pay m 0 1 = 0xFF then none else some (s.pay m 0 1)) ∧
        t.bit REF_STAT.FORCED = (s.pay m 0 1 != 0xFF)) ∧
  (∀ (m : Fin 16) (ex : Exec) (s : State), s.accepts m 0x702 ex = true → 4 ≤ s.plen m → s.pay m 2 2 = 0 → s.pay m 0 2 ≠ 0 →
      s.pay m 0 2 + 4 = s.plen m → s.pay m 0 2 ≤ 1024 → s.timeMode = true →
      Yields (.cmdRefGnssSend m ex) s fun t => s.succeeds t m ex [] ∧
        s.sends t (.uart (s.payBytes m 4 (s.pay m 0 2)))) ∧
  (∀ (m : Fin 16) (ex : Exec) (s : State), s.accepts m 0x704 ex = true → s.plen m = 0 → s.timeMode = true →
      Yields (.cmdRefModelClear m ex) s fun t => s.succeeds t m ex [] ∧ t.ref.recs = [] ∧ t.ref.fitted = [] ∧
        t.bit REF_STAT.MODEL_VALID = false ∧ t.rd REF_STAT.LEARN_HOURS = 0 ∧ t.reg R.REF_HO_STAT 0 = 0) ∧
  (∀ (k : Fin 2) (x : Train) (s : State), SMap.at! s.ref.ppso k = x → s.tickRun = true → x.on = true →
      s.scaleDue x.scale x.edge = true →
      Yields (.ppsoPulse k) s fun t =>
        if s.quiet then SMap.at! t.ref.ppso k = { x with next := x.next + 1, skipped := x.skipped + 1 }
        else SMap.at! t.ref.ppso k = { x with next := x.next + 1, fall := some x.fallAfter } ∧
          s.sends t (.pin .ppso k true)) ∧
  (∀ (k : Fin 2) (f : Int) (sc : Nat) (s : State), (SMap.at! s.ref.ppso k).fall = some (f, sc) → s.tickRun = true →
      s.scaleDue sc f = true →
      Yields (.ppsoPulseEnd k) s fun t => (SMap.at! t.ref.ppso k).fall = none ∧ s.sends t (.pin .ppso k false))

/-- The ramp generator and the clock outputs have their effect. Rests on R390, R391, R392, R396, R398, R399, R400,
R403. -/
def Obligations.SynthesizerAct : Prop :=
  (∀ (s : State), s.ramping = true → s.syn.nextUpd ≤ s.now →
      Yields .rampUpdate s fun t => t.syn.nextUpd = s.syn.nextUpd + usT ∧
        (s.bit SYN_RAMP_STAT.RUNNING = true →
          t.syn.zAcc = max (-(steerMax * 1000000000))
            (min (s.syn.zAcc + s.comS SYN_RAMP_RATE.RATE (s.rd SYN_RAMP_STAT.SEGMENT) * 65536) (steerMax * 1000000000)) ∧
          (1 < s.syn.left → t.syn.left = s.syn.left - 1 ∧ t.bit SYN_RAMP_STAT.RUNNING = true) ∧
          (s.syn.left = 1 → s.rd SYN_RAMP_STAT.SEGMENT + 1 < s.com SYN_RAMP_CFG.COUNT → t.bit SYN_RAMP_STAT.RUNNING = true ∧
            t.rd SYN_RAMP_STAT.SEGMENT = s.rd SYN_RAMP_STAT.SEGMENT + 1 ∧
            t.syn.left = 1000 * s.com SYN_RAMP_DUR.DURATION (s.rd SYN_RAMP_STAT.SEGMENT + 1)) ∧
          (s.syn.left = 1 → s.rd SYN_RAMP_STAT.SEGMENT + 1 = s.com SYN_RAMP_CFG.COUNT →
            t.bit SYN_RAMP_STAT.RUNNING = false)) ∧
        (s.bit SYN_RAMP_STAT.RUNNING = false → (t.bit SYN_RAMP_STAT.RETURNING = true ↔ t.syn.zAcc ≠ 0) ∧
          t.syn.zAcc = (if 0 ≤ s.syn.zAcc then max 0 (s.syn.zAcc - s.com REF_LOOP_CFG.FSLEW * 6553600)
            else min 0 (s.syn.zAcc + s.com REF_LOOP_CFG.FSLEW * 6553600)))) ∧
  (∀ (k : Fin 12) (a d : Nat) (e : Int) (s : State), (s.cko k).pend = some a → s.quiet = false →
      s.comB SYN_CKO_CFG.ENABLE k = true → d = (if (s.ckoTiming k).align then delta5 (s.ckoTiming k) (s.cko k).steps else 0) →
      e = (if (s.ckoTiming k).align then
          s.later (s.ckoTiming k) (s.nextEdge (s.ckoTiming k) 0 ((s.cko k).lead5 a) (s.cko k).steps) d
        else (s.cko k).lead5 a + (s.ckoTiming k).dly5) → s.due5 e = true →
      Yields (.ckoOutputStart k) s fun t => (t.cko k).run = true ∧ (t.cko k).pend = none ∧ (t.cko k).anchor5 = e ∧
        (t.cko k).t = s.ckoTiming k ∧ (t.cko k).steps = 0 ∧ t.bit SYN_CKO_STAT.RUNNING k = true ∧ s.sends t (.pin .cko k true) ∧
        (d ≠ 0 → s.railOk 4 = true → t.raised EV.SYN_STEP_APPLIED k = true)) ∧
  (∀ (k : Fin 12) (e : Int) (s : State), s.switchEdge k = some e → s.due5 e = true → (s.cko k).run = true →
      s.railOk 4 = true →
      Yields (.ckoSwitchEdge k) s fun t => (t.cko k).old = none ∧ (t.cko k).anchor5 = e ∧
        t.bit SYN_CKO_STAT.SWITCHING k = false ∧ t.raised EV.SYN_OUT_SWITCH k = true) ∧
  (∀ (k : Fin 12) (e : Int) (s : State), (s.cko k).run = true → (s.cko k).cur.align = true → (s.cko k).steps ≠ 0 →
      e = s.nextEdge (s.cko k).cur (s.cko k).anchor (now5 (s.cko k).stepAt) ((s.cko k).steps + (s.cko k).absorbed) →
      s.due5 e = true → (∀ o, (s.cko k).old = some o → e < now5 (o.2.2 + 2048)) →
      Yields (.ckoStepEdge k) s fun t => (t.cko k).steps = 0 ∧
        (t.cko k).lowTill5 = s.later (s.cko k).cur e (delta5 (s.cko k).cur (s.cko k).steps) ∧
        (delta5 (s.cko k).cur (s.cko k).steps ≠ 0 → s.sends t (.lengthen k (delta5 (s.cko k).cur (s.cko k).steps)) ∧
          (s.railOk 4 = true → t.raised EV.SYN_STEP_APPLIED k = true))) ∧
  (∀ (m : Fin 16) (ex : Exec) (s : State), s.accepts m 0x801 ex = true → s.plen m = 0 → s.com SYN_RAMP_CFG.COUNT ≠ 0 → s.timeMode = true →
      s.follow = false → s.ramping = false → (s.swMode = true ∨ s.rstate = rsFREERUN) →
      Yields (.cmdSynRampStart m ex) s fun t => s.succeeds t m ex [] ∧ t.bit SYN_RAMP_STAT.RUNNING = true ∧
        t.rd SYN_RAMP_STAT.SEGMENT = 0 ∧ t.syn.left = 1000 * s.com SYN_RAMP_DUR.DURATION 0 ∧ t.syn.nextUpd = s.now + usT) ∧
  (∀ (m : Fin 16) (ex : Exec) (s : State), s.accepts m 0x802 ex = true → (s.plen m = 0 ∨ (s.plen m = 4 ∧ s.pay m 0 4 ≤ 1)) → s.timeMode = true →
      s.follow = false →
      Yields (.cmdSynRampStop m ex) s fun t => s.succeeds t m ex [] ∧ t.bit SYN_RAMP_STAT.RUNNING = false ∧
        t.bit SYN_RAMP_STAT.RETURNING =
          (s.bit SYN_RAMP_STAT.RETURNING || (s.plen m == 4 && testBit (s.pay m 0 4) 0 && s.syn.zAcc != 0)))

/-- Interval measurement: arming, edges, results, the bin table and its commands have their effect. That a stop counts
as after the start only where it is later at the lands too is log entry 101. Rests on R405, R406, R407, R408, R409,
R410, R412, R413, R415, R416, R418, R422. -/
def Obligations.TdcAct : Prop :=
  (∀ (s : State), s.canArm = true →
      Yields .tdcArm s fun t =>
        (s.markLate = false → t.tdc.armed = some { at_ := s.now, dom := s.com TDC_CFG.TS_DOMAIN } ∧ t.rd TDC_STAT.STATE = 1 ∧ t.tdc.fifo = s.tdc.fifo) ∧
        (s.markLate = true → t.tdc.armed = none ∧ t.tdc.fifo.length = s.tdc.fifo.length + 1)) ∧
  (∀ (ch : Fin 2) (falling : Bool) (coarse : Nat) (bin : Fin 512) (x : Exec) (a : Armed) (e : TdcEdge) (s : State), s.tdc.armed = some a →
      e = s.edgeOf ch coarse bin → s.srcQuiet ch = false → (if s.com TDC_CH_CFG.SOURCE ch = 29 then s.markAhead = false else s.comB TDC_CH_CFG.SLOPE ch = falling) →
      ((SMap.get 0 s.tdc.hold ch : Nat) : Int) ≤ e.time5 0 → s.now < a.at_ + s.com TDC_TIMING.TIMEOUT_MS * msT →
      Yields (.tdcEdge ch ⟨falling, coarse⟩ bin x) s fun t =>
        if ch = 0 then
          (a.start ≠ none → t.tdc = s.tdc) ∧
          (a.start = none → a.stop = none → t.tdc.armed = some { a with start := some e, startT := s.startTime a.dom e }) ∧
          (∀ b, a.start = none → a.stop = some b → t.tdc.armed = none ∧ ∃ rec_, t.tdc.fifo = s.tdc.fifo ++ [rec_] ∧
            rec_.take 8 = leBytes 8 (tc 64 (s.interval5 e b / 5)))
        else if a.stop.isSome ||
            ((s.sameSource || s.comB TDC_CFG.STOP_ARM) && !(a.start.any (fun st => s.isAfter st e))) then t.tdc = s.tdc
        else
          (a.stops + 1 ≠ s.com TDC_CFG.STOP_N → t.tdc.armed = some { a with stops := a.stops + 1 }) ∧
          (a.stops + 1 = s.com TDC_CFG.STOP_N → a.start = none →
            t.tdc.armed = some { a with stops := a.stops + 1, stop := some e }) ∧
          (∀ st, a.stops + 1 = s.com TDC_CFG.STOP_N → a.start = some st → t.tdc.armed = none ∧
            ∃ rec_, t.tdc.fifo = s.tdc.fifo ++ [rec_] ∧ rec_.take 8 = leBytes 8 (tc 64 (s.interval5 st e / 5)))) ∧
  (∀ (ch : Fin 2) (falling : Bool) (coarse : Nat) (bin : Fin 512) (x : Exec) (s : State),
      (s.srcQuiet ch = true ∨ (s.com TDC_CH_CFG.SOURCE ch ≠ 29 ∧ s.comB TDC_CH_CFG.SLOPE ch ≠ falling)) →
      Yields (.tdcEdge ch ⟨falling, coarse⟩ bin x) s fun t => t.tdc = s.tdc) ∧
  (∀ (a : Armed) (s : State), s.tdc.armed = some a → a.at_ + s.com TDC_TIMING.TIMEOUT_MS * msT ≤ s.now →
      Yields .tdcTimeout s fun t => t.tdc.armed = none ∧ t.tdc.fifo.length = s.tdc.fifo.length + 1 ∧
        t.tdc.left = s.tdc.left - 1 ∧ ((a.start = none ∨ a.stop = none) → s.railOk 4 = true → t.raised EV.TDC_TIMEOUT = true)) ∧
  (∀ (s : State), s.gr.linkUp = true → s.railOk 4 = true →
      Yields .tdcResultLatch s fun t =>
        (∀ j < 8, t.reg R.TDC_RES j = BitVec.ofNat 32 (leNat (slice (s.tdc.fifo.headD []) (4 * j) 4))) ∧
        t.tdc.latched = (s.tdc.latched || !s.tdc.fifo.isEmpty) ∧ t.tdc.fifo = s.tdc.fifo ∧
        s.sends t (.readData (R.TDC_RES.at 0) (BitVec.ofNat 32 (leNat (slice (s.tdc.fifo.headD []) 0 4))))) ∧
  (∀ (s : State), s.gr.linkUp = true → s.railOk 4 = true → s.tdc.latched = true →
      Yields .tdcResultRemove s fun t => t.tdc.fifo = s.tdc.fifo.drop 1 ∧ t.tdc.latched = false ∧
        (∀ j < 8, t.reg R.TDC_RES j = 0) ∧ s.sends t (.readData (R.TDC_RES.at 7) (s.reg R.TDC_RES 7)) ∧ t.rd TDC_STAT.FIFO_CNT = (s.tdc.fifo.length - 1) % 2 ^ TDC_STAT.FIFO_CNT.w) ∧
  (∀ (w : Option Word) (s : State), s.gr.linkUp = true → s.railOk 4 = true →
      Yields (.tdcBinDataAccess w) s fun t =>
        t.rd TDC_BIN_SEL.INDEX = (s.rd TDC_BIN_SEL.INDEX + 1) % 1024 ∧
        (∀ d, w = some d → binPos t.tdc.binsSh (s.rd TDC_BIN_SEL.INDEX) = TDC_BIN_DATA.POS.get d) ∧
        (w = none → t.tdc.binsSh = s.tdc.binsSh ∧
          s.sends t (.readData R.TDC_BIN_DATA.base (BitVec.ofNat 32 (binPos s.tdc.binsSh (s.rd TDC_BIN_SEL.INDEX)))))) ∧
  (∀ (m : Fin 16) (ex : Exec) (s : State), s.accepts m 0x901 ex = true → s.plen m = 4 → s.pay m 0 4 ≠ 0 → s.tdcMode = true →
      s.tdcRun = false → s.tdc.test = none → s.bit CAL_STAT.RUNNING = false →
      Yields (.cmdTdcRun m ex) s fun t => s.succeeds t m ex [] ∧
        ((256 ≤ s.tdc.fifo.length ∨ s.now < s.tdc.rearmFrom) → t.tdc.left = s.pay m 0 4 ∧ t.tdc.seq = 0 ∧ t.bit TDC_STAT.RUN = true ∧
          t.tdc.armed = s.tdc.armed) ∧
        (s.tdc.fifo.length < 256 → s.tdc.rearmFrom ≤ s.now → s.com TDC_CH_CFG.SOURCE 0 ≠ 29 → s.com TDC_CH_CFG.SOURCE 1 ≠ 29 →
          t.tdc.left = s.pay m 0 4 ∧ t.tdc.seq = 0 ∧ t.bit TDC_STAT.RUN = true ∧ t.tdc.armed = some { at_ := s.now, dom := s.com TDC_CFG.TS_DOMAIN }) ∧
        (s.tdc.fifo.length < 256 → s.tdc.rearmFrom ≤ s.now → (s.com TDC_CH_CFG.SOURCE 0 = 29 ∨ s.com TDC_CH_CFG.SOURCE 1 = 29) →
          (t.tdc.armed = some { at_ := s.now, dom := s.com TDC_CFG.TS_DOMAIN } ∧ t.tdc.left = s.pay m 0 4) ∨
          (t.tdc.armed = none ∧ t.tdc.fifo.length = s.tdc.fifo.length + 1 ∧ t.tdc.left = s.pay m 0 4 - 1))) ∧
  (∀ (m : Fin 16) (ex : Exec) (s : State), s.accepts m 0x902 ex = true → s.plen m = 0 → s.tdcMode = true →
      Yields (.cmdTdcStop m ex) s fun t => s.succeeds t m ex [] ∧ t.bit TDC_STAT.RUN = false ∧
        (s.tdcRun = true → t.tdc.left = 0 ∧ t.tdc.armed = none ∧
          t.tdc.fifo.length = s.tdc.fifo.length + (if s.tdc.armed.isSome then 1 else 0)) ∧
        (s.tdcRun = false → t.tdc = s.tdc)) ∧
  (∀ (m : Fin 16) (ex : Exec) (s : State), s.accepts m 0x903 ex = true → s.plen m = 0 → s.tdcMode = true → s.tdc.test = none →
      s.bit CAL_STAT.RUNNING = false →
      Yields (.cmdTdcBinCal m ex) s fun t => t.works m .binCal ∧ t.tdc.test = some s.now ∧ t.tdc.testMbx = some m ∧
        t.tdc.armed = none ∧ t.rd TDC_STAT.STATE = 3) ∧
  (∀ (h0 h1 : List Nat) (s : State), s.tdc.test ≠ none →
      Yields (.binCalDone h0 h1) s fun t =>
        if badHits h0 || badHits h1 then t.tdc.bins = s.tdc.bins ∧
          (s.tdc.again = false → t.tdc.test = some s.now ∧ t.tdc.again = true) ∧
          (s.tdc.again = true → t.tdc.test = none ∧ ∀ m, s.tdc.testMbx = some m → s.mst m = mRUNNING →
            s.ends t m ST_LASTING_FAULT (leBytes 2 (binsHit h0) ++ leBytes 2 (binsHit h1)))
        else t.tdc.test = none ∧ t.tdc.again = false ∧ t.tdc.bins = tableOf 512 h1 (tableOf 0 h0 []) ∧ t.tdc.binsSh = t.tdc.bins ∧
          t.reg R.TDC_BIN_TEMP 0 = BitVec.ofNat 32 (tc 16 s.caseTemp) ∧
          ∀ m, s.tdc.testMbx = some m → s.mst m = mRUNNING →
            s.ends t m (if s.tdc.again then ST_TRANSIENT_RECOVERED else ST_OK) (leBytes 2 (binsHit h0) ++ leBytes 2 (binsHit h1)))

/-- Calibration: path measurements, runs, trims, the OCXO retune and its commands have their effect. Rests on R424,
R426, R427, R429, R430, R431, R432, R433, R436, R437, R439. -/
def Obligations.CalibrationAct : Prop :=
  (∀ (k : Fin 571) (base : Int) (noisy : Bool) (s : State), s.railOk 4 = true →
      Yields (.pathMeasured k base noisy) s fun t =>
        if s.measures k = false then t = s.settle else
        (noisy = false → (base - (s.path k).base).natAbs * 1000 ≤ 50 * 65536 →
          (t.path k).base = base ∧ (t.path k).stale = false ∧ (t.path k).failed = false ∧
          ((t.path k).target : Int) = max 0 (min ((s.nominal k - base * 125 - (s.path k).corr + 1024) / 2048) 1023)) ∧
        ((noisy = true ∨ 50 * 65536 < (base - (s.path k).base).natAbs * 1000) → (s.path k).failed = false →
          t.path k = { s.path k with failed := true }) ∧
        ((noisy = true ∨ 50 * 65536 < (base - (s.path k).base).natAbs * 1000) → (s.path k).failed = true →
          t.path k = { s.path k with failed := false, stale := true } ∧ t.raised EV.CAL_LASTING k = true)) ∧
  (∀ (s : State), s.bit CAL_STAT.RUNNING = true → 3 ≤ s.rd CAL_STAT.PHASE → s.mode = mCALIBRATE →
      Yields .calRunDone s fun t =>
        (∀ k < 571, k ∉ s.cal.done → (t.path k).stale = true) ∧ (∀ k < 571, k ∈ s.cal.done → t.path k = s.path k) ∧
        t.reg R.CAL_LAST_TEMP 0 = BitVec.ofNat 32 (tc 16 s.cal.ts) ∧ t.bit CAL_STAT.RUNNING = false ∧ t.mode = mFORWARD ∧
        (s.railOk 4 = true → t.raised EV.CAL_RUN_DONE = true)) ∧
  (∀ (k : Fin 571) (s : State), s.railOk 4 = true →
      Yields (.trimRampStep k) s fun t =>
        if s.com CAL_CFG.RAMP = 0 then (t.path k).trim = (s.path k).target ∧ (t.path k).corr = s.corrOf k
        else if s.now < (s.path k).stepAt + 10 * msT / s.com CAL_CFG.RAMP then t.path k = s.path k
        else (t.path k).trim = (if (s.path k).trim < (s.path k).target then (s.path k).trim + 1
            else if (s.path k).target < (s.path k).trim then (s.path k).trim - 1 else (s.path k).trim) ∧
          (t.path k).corr = (if (s.path k).corr < s.corrOf k then min (s.corrOf k) ((s.path k).corr + 2048)
            else max (s.corrOf k) ((s.path k).corr - 2048))) ∧
  (∀ (s : State), s.railOk 4 = true → s.cal.retune = true → s.swMode = false →
      s.rd CAL_OCXO_TRIM.CODE ≠ s.com CAL_OCXO_TRIM.TARGET →
      s.cal.ocxoAt + 5 * sT / max 1 (s.com CAL_OCXO_CFG.RATE) ≤ s.now →
      Yields .ocxoRetuneStep s fun t =>
        t.rd CAL_OCXO_TRIM.CODE = (if s.rd CAL_OCXO_TRIM.CODE < s.com CAL_OCXO_TRIM.TARGET then s.rd CAL_OCXO_TRIM.CODE + 1
          else s.rd CAL_OCXO_TRIM.CODE - 1) ∧ t.cal.ocxoAt = s.now ∧
        t.ref.wTo = clampS (s.ref.wTo + ocxoW (s.rd CAL_OCXO_TRIM.CODE) - ocxoW (t.rd CAL_OCXO_TRIM.CODE)) ∧
        t.ref.loopI = s.ref.loopI + ocxoM (s.rd CAL_OCXO_TRIM.CODE) - ocxoM (t.rd CAL_OCXO_TRIM.CODE) ∧
        t.ref.m0 = s.ref.m0 + ocxoM (s.rd CAL_OCXO_TRIM.CODE) - ocxoM (t.rd CAL_OCXO_TRIM.CODE)) ∧
  (∀ (w : Option Word) (s : State), s.gr.linkUp = true → s.railOk 4 = true →
      Yields (.calPathTrimAccess w) s fun t =>
        t.rd CAL_PATH_SEL.INDEX = nextPath (s.rd CAL_PATH_SEL.INDEX) ∧
        (∀ d, w = some d → s.rd CAL_PATH_SEL.INDEX ≤ 570 →
          (t.path (s.rd CAL_PATH_SEL.INDEX)).targetSh = CAL_PATH_TRIM.TARGET.get d) ∧
        (w = none → t.cal = s.cal ∧ s.sends t (.readData R.CAL_PATH_TRIM.base
          (if s.rd CAL_PATH_SEL.INDEX ≤ 570 then (s.path (s.rd CAL_PATH_SEL.INDEX)).word else 0)))) ∧
  (∀ (m : Fin 16) (ex : Exec) (loop : Int) (x : Train) (s : State), s.accepts m 0xA01 ex = true → s.plen m = 12 → s.pay m 1 1 ≤ 1 → s.pay m 8 4 = 0 →
      s.pay m 2 2 ≠ 0 → s.pay m 4 4 ≠ 0 → s.pay m 0 1 ≤ 7 → s.pay m 4 4 ≤ 10000000 →
      s.comB TBS_TRIG_CFG.ENABLE (s.pay m 0 1) = false → s.comB CAL_CFG.CALIN_KIND = false → s.ocxoWarm = true →
      s.tkMode = true → s.tdcRun = false → s.bit CAL_STAT.RUNNING = false → s.mode ≠ mCALIBRATE →
      x = s.traceTrain (s.pay m 0 1) (s.pay m 2 2) →
      Yields (.cmdCalTrace m ex true loop) s fun t =>
        t.works m (.trace (s.pay m 0 1) (x.timeOf (s.pay m 2 2 - 1) + x.width) loop (loop - psToQ (s.pay m 4 4))
          (testBit (s.pay m 1 1) 0)) ∧
        (∃ v, SMap.at! t.tb.trigs (s.pay m 0 1) = { x with high := v }) ∧ x.on = true ∧ x.scale = 9 ∧ x.width = 100 * nsU ∧
        x.period = 1000 * nsU ∧ x.start % (1000 * nsU) = 0 ∧ x.count = s.pay m 2 2) ∧
  (∀ (m : Fin 16) (ex : Exec) (s : State), s.accepts m 0xA02 ex = true → s.plen m = 4 → s.pay m 2 2 = 0 → s.pay m 0 2 ≠ 0 →
      s.pay m 0 2 ≤ 10000 → s.comB CAL_CFG.CALIN_KIND = true → s.ocxoWarm = true → s.tkMode = true →
      Yields (.cmdCalFreq m ex true) s fun t => t.works m (.freq (s.now + s.pay m 0 2 * sT))) ∧
  (∀ (m : Fin 16) (err : Int) (a : Nat) (s : State), (s.mbxAt m).job = some (.freq a) → a ≤ s.now → s.mst m = mRUNNING →
      s.railOk 4 = true →
      Yields (.calFreqIntervalEnd m err) s fun t => t.raised EV.CAL_FREQ_DONE = true ∧
        s.ends t m ST_OK (leBytes 4 (tc 32 err) ++ leBytes 4 (tc 32 s.yNow)))

/-- Integrity: errors, the die-to-die link, the event log, vectors and its commands have their effect. Rests on R414,
R441, R442, R443, R446, R451, R452, R453, R454, R455. -/
def Obligations.IntegrityAct : Prop :=
  (∀ (p : FaultPlace) (r : FaultEnd) (w : FaultWork) (s : State),
      Yields (.retryResult p r w) s fun t =>
        (r = .corrected → t.rd EVT_FCNT.CORRECTED (faultCls p) = min (s.rd EVT_FCNT.CORRECTED (faultCls p) + 1) 4095) ∧
        (r = .transient → p ≠ .binTable →
          t.rd EVT_FCNT.TRANSIENT (faultCls p) = min (s.rd EVT_FCNT.TRANSIENT (faultCls p) + 1) 1023 ∧
          (s.railOk 4 = true → t.raised EV.EVT_TRANSIENT = true)) ∧
        (r = .lasting → p ≠ .binTable →
          t.rd EVT_FCNT.LASTING (faultCls p) = min (s.rd EVT_FCNT.LASTING (faultCls p) + 1) 1023) ∧
        (r ≠ .corrected → p = .binTable → s.tdc.test = none → t.tdc.test = some s.now ∧ t.tdc.again = true) ∧
        (r = .lasting → p ≠ .binTable → s.faultAct (faultCls p) ≠ 2 → w = .measurement → t.tdc.armed = s.tdc.armed.map (fun a => { a with bad := true })) ∧
        (∀ e : Fin 288, r = .lasting → s.faultAct (faultCls p) ≠ 2 → w = .egressFrame e → e.val < 256 →
          (t.port e).tx = (s.port e).tx.map (fun x => { x with stomp := true }))) ∧
  (∀ (data : Word) (trained : Bool) (s : State), s.gr.linkUp = true → s.tickRun = true → data.toNat % 2 = 1 →
      Yields (.d2dReset data trained) s fun t =>
        (trained = true → t.evt.reloadAt = some (s.now + 64)) ∧
        (trained = false → t.evt.frozen = true ∧ t.evt.reloadAt = none ∧ (s.evt.frozen = false → t.bit EVT_D2D_STAT.FROZEN = true) ∧
          t.rd EVT_FCNT.LASTING 5 = min (s.rd EVT_FCNT.LASTING 5 + 1) 1023)) ∧
  (∀ (a : Nat) (s : State), s.evt.reloadAt = some a → a ≤ s.now → s.railOk 4 = true →
      Yields .replicaReload s fun t => t.evt.frozen = false ∧ t.evt.reloadAt = none ∧ t.tb.rep = [] ∧
        t.bit EVT_D2D_STAT.FROZEN = false ∧ t.raised EV.EVT_D2D_RELOADED = true) ∧
  (∀ (l : List LogRec) (s : State), l = (s.evt.due.filter (fun r => r.tick + 256 ≤ s.tick)).insertionSort (fun a b => a.le b) →
      Yields .logRecordEntry s fun t =>
        (s.evt.log.length + l.length ≤ 1024 → s.rd EVT_LOG_STAT.LOST_PENDING = 0 →
          t.evt.log = s.evt.log ++ l.map (fun r => { r with gap := false, lost := 0 }) ∧
          t.evt.due = s.evt.due.filter (fun r => s.tick < r.tick + 256)) ∧
        (1024 ≤ s.evt.log.length → t.evt.log = s.evt.log)) ∧
  (∀ (s : State), s.gr.linkUp = true →
      Yields .logLatch s fun t =>
        (s.railOk 4 = false → s.sends t (.readData (R.EVT_LOG.at 0) 0)) ∧
        (s.railOk 4 = true → t.evt.latch = s.evt.log.head? ∧ s.sends t (.readData (R.EVT_LOG.at 0) (t.reg R.EVT_LOG 0)) ∧
          ∀ j < 4, t.reg R.EVT_LOG j =
            BitVec.ofNat 32 (leNat (slice ((s.evt.log.head?.map LogRec.toBytes).getD (List.replicate 16 0)) (4 * j) 4)))) ∧
  (∀ (s : State), s.gr.linkUp = true →
      Yields .logRemove s fun t =>
        (s.evt.latch = none → t.evt.log = s.evt.log ∧ s.sends t (.readData (R.EVT_LOG.at 3) 0)) ∧
        (s.evt.latch ≠ none → t.evt.log = s.evt.log.drop 1 ∧ t.evt.latch = none ∧
          s.sends t (.readData (R.EVT_LOG.at 3) (s.reg R.EVT_LOG 3)) ∧ ∀ j < 4, t.reg R.EVT_LOG j = 0)) ∧
  (∀ (data : Word) (s : State), s.gr.linkUp = true → s.railOk 4 = true → s.railOk 6 = true →
      Yields (.vectorRearm data) s fun t =>
        ∀ v < 14, testBit data.toNat v = true → testBit s.vecLevel (18 + v) = true →
          (testBit s.gr.masked (18 + v) = true → testBit t.gr.msixPend (18 + v) = true) ∧
          (testBit s.gr.masked (18 + v) = false → s.sends t (.msix (18 + v)))) ∧
  (∀ (m : Fin 16) (ex : Exec) (s : State), s.accepts m 0xB01 ex = true → s.plen m = 4 → s.pay m 2 1 ≤ 1 → s.pay m 3 1 = 0 → s.pay m 0 2 ≠ 0 →
      s.pay m 0 2 ≤ 250 → s.mode ≠ mDORMANT →
      Yields (.cmdEvtLogRead m ex) s fun t =>
        s.succeeds t m ex ((s.evt.log.take (s.pay m 0 2)).flatMap LogRec.toBytes) ∧
        t.evt.log = (if testBit (s.pay m 2 1) 0 then s.evt.log else s.evt.log.drop (s.pay m 0 2))) ∧
  (∀ (m : Fin 16) (ex : Exec) (s : State), s.accepts m 0xB02 ex = true → s.plen m = 0 → s.mode ≠ mDORMANT →
      Yields (.cmdEvtSpareReport m ex) s fun t => ∃ r, s.succeeds t m ex r ∧ r.length = 64 ∧
        slice r 0 4 = leBytes 4 ((s.evt.rows.filter (fun x => x.1 = 0)).length) ∧
        slice r 8 4 = leBytes 4 s.retiredBufs ∧ slice r 16 4 = leBytes 4 s.retiredPages ∧
        slice r 24 4 = leBytes 4 ((s.evt.units.filter (fun x => x.1 = 3)).length) ∧
        slice r 32 4 = leBytes 4 ((s.evt.rows.filter (fun x => x.1 = 4)).length + (s.evt.units.filter (fun x => x.1 = 4)).length) ∧
        ∀ c < 5, slice r (8 * c + 4) 4 = leBytes 4 (SMap.get 0 s.evt.unrepaired c))

/-- The mirror link: heartbeats, messages, gaps, lanes, transactions and the periodic messages have their effect.
Layouts of messages that the spec leaves open are log entries 33 and 34. Rests on R459, R460, R461, R462, R465, R470,
R473, R477, R478, R479. -/
def Obligations.TwinLinkActs : Prop :=
  (∀ (s : State), s.twinOn = true → s.tkMode = true → (∀ a, s.twin.hbAt = some a → a + 3200 ≤ s.now) →
      Yields .heartbeatSend s fun t => t.twin.hbAt = some s.now ∧ t.twin.sentHb = some s.now ∧
        ∀ i < 4, s.laneTrained i = true → (t.mlane i).mseq = ((s.mlane i).mseq + 1) % 2 ^ 32 ∧
          ∃ b, s.sends t (.mirror i b) ∧ byteAt b 4 = mtHEARTBEAT) ∧
  (∀ (lane : Fin 4) (bytes : List Byte) (rx : Inst) (s : State), bytes.length = 256 → s.hears lane = true →
      fcsGood bytes = true → byteAt bytes 4 = mtHEARTBEAT → s.railOk 6 = true →
      Yields (.heartbeatReceived lane bytes rx) s fun t =>
        (byteAt bytes 8 % 2 = s.com TWN_CFG.UNIT → t.raised EV.TWN_PAIR_MISMATCH = true ∧ t.twin.lastHb = s.twin.lastHb ∧
          t.lead = s.lead ∧ t.twSt = s.twSt) ∧
        (byteAt bytes 8 % 2 ≠ s.com TWN_CFG.UNIT → (s.lead = false ∨ testBit (byteAt bytes 8) 1 = false) →
          s.twin.closing = false →
          t.twin.lastHb = some s.now ∧ (t.mlane lane).last = some s.now ∧ (t.mlane lane).up = true ∧
          t.bit TWN_STAT.PARTNER = true ∧ t.bit TWN_STAT.PARTNER_ROLE = testBit (byteAt bytes 8) 1 ∧
          t.twin.partnerMode = byteAt bytes 9 ∧ testBit (t.rd TWN_STAT.LANES_UP) lane = true)) ∧
  (∀ (lane : Fin 4) (bytes : List Byte) (h : Nat) (s : State), bytes.length = 256 → s.hears lane = true →
      fcsGood bytes = true → mtTXN ≤ byteAt bytes 4 → byteAt bytes 4 ≤ mtCHECK → s.twin.head.getD (beNat (slice bytes 0 4)) = h →
      Yields (.mirrorMessageReceived lane bytes) s fun t =>
        (2 ^ 31 ≤ ser32 (beNat (slice bytes 0 4)) h → t.twin = s.twin) ∧
        (0 < ser32 (beNat (slice bytes 0 4)) h → ser32 (beNat (slice bytes 0 4)) h ≤ 65535 →
          (∀ e ∈ s.twin.held, e.1 ≠ h ∧ e.1 ≠ beNat (slice bytes 0 4)) →
          t.twin.head = some h ∧ (beNat (slice bytes 0 4), s.now, bytes) ∈ t.twin.held) ∧
        (beNat (slice bytes 0 4) = h → s.twin.held = [] → t.twin.head = some ((h + 1) % 2 ^ 32) ∧ t.twin.held = []) ∧
        (beNat (slice bytes 0 4) = h → s.twin.held = [] → byteAt bytes 4 = mtCOUNT → s.follow = true → s.railOk 1 = true →
          244 ≤ beNat (slice bytes 6 2) →
          ∀ i < 29, beNat (slice bytes 8 4) + i < 2097152 →
            t.slot (beNat (slice bytes 8 4) + i) = beNat (slice bytes (20 + 8 * i) 8) % 2 ^ 48)) ∧
  (∀ (h q a : Nat) (bs : List Byte) (s : State), s.twin.head = some h → s.twin.held = [(q, a, bs)] → a + 3200 ≤ s.now →
      0 < ser32 q h → ser32 q h ≤ 65535 → q < 2 ^ 32 → h < 2 ^ 32 →
      Yields .messageLossTimeout s fun t => t.twin.head = some ((q + 1) % 2 ^ 32) ∧ t.twin.held = []) ∧
  (∀ (lane : Fin 4) (s : State), s.twinOn = true → (s.mlane lane).up = true →
      (∀ a, (s.mlane lane).last = some a → a + 12800 ≤ s.now) → s.hbComes (some lane) = false →
      s.railOk 6 = true →
      Yields (.laneDown lane) s fun t => (t.mlane lane).up = false ∧ testBit (t.rd TWN_STAT.LANES_UP) lane = false ∧
        t.raised EV.TWN_LANE_DOWN = true) ∧
  (∀ (x : TxnIn) (a : Nat) (late : Bool) (s : State), s.twin.inq.find? (fun y => y.txn = (s.txnLast + 1) % 2 ^ 32) = some x →
      x.doneAt = some a → s.follow = true → s.txnDue x a = (true, late) → s.txnRoom x = true →
      Yields .txnApply s fun t => t.txnLast = (s.txnLast + 1) % 2 ^ 32 ∧
        t.twin.inq = s.twin.inq.filter (fun y => y.txn ≠ x.txn) ∧
        (late = true → s.railOk 6 = true → t.raised EV.TWN_LATE_APPLY = true)) ∧
  (∀ (s : State), s.twinOn = true → s.lead = true → s.fwdMode = true →
      Yields .carrierMessageSend s fun t => t.twin.mseq = (s.twin.mseq + 1) % 2 ^ 32 ∧
        ∀ i ∈ s.twoLanes (s.twin.mseq % 4), s.sends t (.mirror i (message s.twin.mseq mtCARRIER s.carrierImage))) ∧
  (∀ (s : State), s.twinOn = true → s.lead = true → s.fwdMode = true →
      Yields .countMessageSend s fun t =>
        t.twin.countNext = (if s.twin.countNext + 29 < 2097152 then s.twin.countNext + 29 else 0) ∧
        ∀ i ∈ s.twoLanes (s.twin.mseq % 4), s.sends t (.mirror i (message s.twin.mseq mtCOUNT
          (beBytes 4 s.twin.countNext ++ beBytes 8 s.tick ++ (List.range 29).flatMap (fun i =>
            beBytes 8 (if s.twin.countNext + i < 2097152 then s.slot (s.twin.countNext + i) else 0)))))) ∧
  (∀ (r s : State), s.twinOn = true → s.lead = true → s.fwdMode = true → r = s.rollSec → r.twin.sec ≠ 0 →
      r.twin.checkAt ≠ r.twin.sec - 1 →
      Yields .checkMessageSend s fun t => t.twin.checkAt = r.twin.sec - 1 ∧ t.twin.sec = r.twin.sec ∧
        t.twin.sentLast = r.twin.sentLast)

/-- The twin pair: roles, resynchronisation, hand-over timers and its commands have their effect. The states of the
pair that the spec leaves open are log entry 60. Rests on R464, R465, R469, R470, R471, R473, R481, R483, R487. -/
def Obligations.TwinRolesAct : Prop :=
  (∀ (a : Nat) (s : State), s.twinOn = true → s.bit TWN_STAT.PARTNER = true → s.twin.lastHb = some a → a + 12800 ≤ s.now →
      s.hbComes none = false → s.railOk 6 = true →
      Yields .partnerLost s fun t => t.bit TWN_STAT.PARTNER = false ∧ t.raised EV.TWN_PARTNER_LOST = true ∧ t.twin.wtr = none ∧
        (s.lead = true → t.lead = true ∧ t.twSt = (if s.twSt = twPAIRED ∨ s.twSt = twDUAL then twSOLO else s.twSt)) ∧
        (s.lead = false → s.twSt = twPAIRED → s.fwdMode = true → t.lead = true ∧ t.twSt = twSOLO ∧
          t.raised EV.TWN_TAKEOVER = true) ∧
        (s.lead = false → (s.twSt = twRESYNC ∨ s.twSt = twPAIRING) → s.twin.closing = false → t.lead = false ∧ t.twSt = twPAIRING)) ∧
  (∀ (s : State), s.twinOn = true → s.twSt = twPAIRING → s.mode = mFORWARD →
      max s.twin.pairAt (s.twin.lastHb.getD 0) + s.com TWN_TIMING.PAIR_WAIT_MS * msT ≤ s.now →
      Yields .pairWaitExpiry s fun t => t.lead = true ∧ t.twSt = twSOLO ∧
        (s.lead = false → s.sends t (.pin .twinRole 0 true))) ∧
  (∀ (s : State), s.follow = true → s.twSt = twRESYNC → s.twin.resyncing = true → s.railOk 6 = true →
      Yields .resyncDone s fun t => t.twSt = twPAIRED ∧ t.twin.resyncing = false ∧ t.twin.digestOk = true ∧
        t.raised EV.TWN_RESYNC_DONE = true) ∧
  (∀ (a : Nat) (b : Option (Fin 16)) (s : State), s.twin.relq = some (a, b) → a + 12800 ≤ s.now → s.takeComes = false → s.railOk 6 = true →
      Yields .relinquishTimeout s fun t => t.twin.relq = none ∧ t.bit TWN_STAT.SWITCHING = false ∧
        t.raised EV.TWN_NO_STANDBY = true ∧
        ∀ m, b = some m → s.mst m = mRUNNING → (s.mbxAt m).job = some .twinSwitch → s.ends t m ST_TIMEOUT []) ∧
  (∀ (a : Nat) (s : State), s.twin.degrade = some a → s.lead = true → s.comB TWN_CFG.DEGRADE_SWITCH = true →
      s.partnerReady = true → a + s.com TWN_TIMING.DEGRADE_HOLD_MS * msT ≤ s.now → s.twin.relq = none →
      Yields .degradeHoldExpiry s fun t => t.twin.relq = some (s.now, none) ∧ t.bit TWN_STAT.SWITCHING = true) ∧
  (∀ (a : Nat) (s : State), s.twin.wtr = some a → s.lead = true → s.comB TWN_CFG.REVERTIVE = true → s.partnerReady = true →
      a + s.com TWN_CFG.WTR_S * sT ≤ s.now → s.railOk 6 = true →
      Yields .wtrExpiry s fun t => t.raised EV.TWN_REVERT = true ∧ t.twin.wtr = some s.now ∧
        (s.twin.relq = none → t.twin.relq = some (s.now, none) ∧ t.bit TWN_STAT.SWITCHING = true) ∧
        (s.twin.relq ≠ none → t.twin.relq = s.twin.relq)) ∧
  (∀ (a : Nat) (s : State), s.twin.sentHb = some a → a + 6400 ≤ s.now →
      Yields .heartbeatSilence s fun t => t.twin.sentHb = none ∧
        (s.lead = true → s.fwdMode = true → s.sends t (.pin .twinRole 0 false))) ∧
  (∀ (m : Fin 16) (ex : Exec) (s : State), s.accepts m 0xC01 ex = true → s.plen m = 0 → s.lead = true → s.partnerReady = true →
      s.fwdMode = true → s.twin.relq = none →
      Yields (.cmdTwnSwitch m ex) s fun t => t.works m .twinSwitch ∧ t.twin.relq = some (s.now, some m) ∧
        t.bit TWN_STAT.SWITCHING = true) ∧
  (∀ (m : Fin 16) (ex : Exec) (s : State), s.accepts m 0xC02 ex = true → s.plen m = 16 → s.pay m 1 3 = 0 → s.pay m 4 4 ≠ 0 →
      tableIds.contains (s.pay m 0 1) = true → s.pay m 4 4 ≤ tableMax (s.pay m 0 1) → s.pay m 8 8 % 64 = 0 →
      s.lead = true → s.rd MBX_DT_BIND.ENTRY_COUNT (s.pay m 0 1) = s.pay m 4 4 → s.fwdMode = true →
      Yields (.cmdTwnTableAdopt m ex) s fun t => s.succeeds t m ex [] ∧
        (t.table (s.pay m 0 1)).addr = some (s.pay m 8 8)) ∧
  (∀ (m : Fin 16) (ex : Exec) (s : State), s.accepts m 0xC03 ex = true → s.plen m = 0 → s.lead = true → s.partnerPairs = true → s.fwdMode = true →
      Yields (.cmdTwnResync m ex) s fun t => s.succeeds t m ex [] ∧ t.twin.resyncing = true ∧ t.twin.partnerSt = 0)

/-- A mailbox command that may not start has no effect. That a row without its occasion has no effect is log entry 3.
Rests on R96, R99, R109, R111. -/
def Obligations.CommandsWait : Prop :=
  ∀ (c : Instr) (m : Fin 16) (opc : Nat) (x : Exec) (s : State), c.command = some (m, opc, x) →
    (s.ready m (s.opcode m) = false ∨ (s.opcode m ≠ opc ∧ knownOpcodes.contains (s.opcode m) = true)) →
    exec c s = .next s.settle

/-- Recovery, reserved flags, an over-long payload and a lasting error complete every mailbox command with nothing but
that completion. Rests on R92, R98, R104, R107, R108. -/
def Obligations.CommandsRefused : Prop :=
  ∀ (c : Instr) (m : Fin 16) (opc : Nat) (x : Exec) (s : State), c.command = some (m, opc, x) →
    s.ready m opc = true → s.boot.running = false →
    (s.recovery = true → opc ≠ 0x40 → opc ≠ 0x41 →
      Yields c s fun t => t.answered m ST_LASTING_FAULT [] ∧ s.onlyAnswers t m ST_LASTING_FAULT 0) ∧
    (s.recovery = false → (4032 < s.plen m ∨ s.mflags m / 4 ≠ 0) →
      ∃ st ∈ [ST_ZERO_INVALID, ST_BAD_LENGTH, ST_BAD_ARGUMENT],
        Yields c s fun t => t.answered m st [] ∧ ∃ d, s.onlyAnswers t m st d) ∧
    (s.recovery = false → (x = .failed ∨ (x = .retried ∧ (s.mbxAt m).retry = true)) →
      ∃ st, st ≠ ST_OK ∧ st ≠ ST_TRANSIENT_RECOVERED ∧ Yields c s fun t => t.answered m st [] ∧
        (s.onlyFails t m ∨ ∃ d, s.onlyAnswers t m st d))

/-- A posted opcode that is no command completes with ST_UNKNOWN_OPCODE (served by the CMD_NOP row, log entry 7). That
the row CMD_NOP serves unknown opcodes is log entry 7. Rests on R92, R103, R104. -/
def Obligations.UnknownOpcode : Prop :=
  ∀ (m : Fin 16) (x : Exec) (s : State), s.ready m (s.opcode m) = true →
    knownOpcodes.contains (s.opcode m) = false → s.boot.running = false →
    Yields (.cmdNop m x) s fun t =>
      t.answered m (if s.recovery then ST_LASTING_FAULT else ST_UNKNOWN_OPCODE) []

/-- A mailbox command writes only the response of its mailbox, and that of a mailbox whose state it changes. Rests on
R98, R100, R101. -/
def Obligations.CommandMemory : Prop :=
  ∀ (c : Instr) (m : Fin 16) (opc : Nat) (x : Exec) (s t : State), c.command = some (m, opc, x) → Gives c s t →
    (∀ n o, o < 8 ∨ 16 ≤ o ∧ o < 24 → t.mb n o = s.mb n o) ∧
    (∀ n o, n ≠ m → o < 4096 → (64 ≤ o ∨ t.mst n = s.mst n) → t.mb n o = s.mb n o)

/-- Frame: a power, reset, SMBus, mode, clock and boot command leaves all but its scope unchanged. Rests on R10, R63,
R69, R73, R87, R491. -/
def Obligations.FrameModule : Prop :=
  ∀ (c : Instr) (s t : State), Instr.chapter c = 2 → Gives c s t → Within (Instr.scope c) s t

/-- Frame: a mailbox, commit, table and register command leaves all but its scope unchanged. Rests on R97, R98, R100,
R117, R121, R127. -/
def Obligations.FrameGrange : Prop :=
  ∀ (c : Instr) (s t : State), Instr.chapter c = 4 → Gives c s t → Within (Instr.scope c) s t

/-- Frame: a client port command leaves all but its scope unchanged. Rests on R133, R135, R141, R148, R162. -/
def Obligations.FramePorts : Prop :=
  ∀ (c : Instr) (s t : State), Instr.chapter c = 5 → Gives c s t → Within (Instr.scope c) s t

/-- Frame: a Sheaf line interface command leaves all but its scope unchanged. Rests on R166, R177, R181, R188, R198.
-/
def Obligations.FrameSheaf : Prop :=
  ∀ (c : Instr) (s t : State), Instr.chapter c = 6 → Gives c s t → Within (Instr.scope c) s t

/-- Frame: a forwarding core and Granary command leaves all but its scope unchanged. Rests on R202, R226, R237, R253,
R268. -/
def Obligations.FrameForwardingGranary : Prop :=
  ∀ (c : Instr) (s t : State), (Instr.chapter c = 7 ∨ Instr.chapter c = 8) → Gives c s t → Within (Instr.scope c) s t

/-- Frame: a Almanac and time base command leaves all but its scope unchanged. Rests on R290, R300, R304, R310, R330.
-/
def Obligations.FrameScheduleTime : Prop :=
  ∀ (c : Instr) (s t : State), (Instr.chapter c = 9 ∨ Instr.chapter c = 10) → Gives c s t → Within (Instr.scope c) s t

/-- Frame: a time transfer and reference command leaves all but its scope unchanged. Rests on R337, R355, R358, R382,
R385. -/
def Obligations.FrameRouteReference : Prop :=
  ∀ (c : Instr) (s t : State), (Instr.chapter c = 11 ∨ Instr.chapter c = 12) → Gives c s t → Within (Instr.scope c) s t

/-- Frame: a clock synthesis command leaves all but its scope unchanged. Rests on R390, R398, R403. -/
def Obligations.FrameSynthesis : Prop :=
  ∀ (c : Instr) (s t : State), Instr.chapter c = 13 → Gives c s t → Within (Instr.scope c) s t

/-- Frame: a interval measurement and calibration command leaves all but its scope unchanged. Rests on R408, R422,
R427, R439. -/
def Obligations.FrameMeasurement : Prop :=
  ∀ (c : Instr) (s t : State), (Instr.chapter c = 14 ∨ Instr.chapter c = 15) → Gives c s t → Within (Instr.scope c) s t

/-- Frame: a integrity and event command leaves all but its scope unchanged. Rests on R441, R451, R453, R455. -/
def Obligations.FrameIntegrity : Prop :=
  ∀ (c : Instr) (s t : State), Instr.chapter c = 16 → Gives c s t → Within (Instr.scope c) s t

/-- Frame: a twin pair command leaves all but its scope unchanged. Rests on R459, R462, R473, R487. -/
def Obligations.FrameTwin : Prop :=
  ∀ (c : Instr) (s t : State), Instr.chapter c = 17 → Gives c s t → Within (Instr.scope c) s t

/-- Every command that can be sent answers a next state in every state. The operands that can exist are the model's
Instr.wf. Rests on R10, R104, R181, R459. -/
def Obligations.WellFormedAnswers : Prop :=
  ∀ (c : Instr) (s : State), c.wf = true → ∃ t, exec c s = .next t

/-- Every step keeps registers, committed copies and mailbox memory in canonical form. The canonical form is the
model's representation of registers and mailbox memory. Rests on R98, R114, R491. -/
def Obligations.StepKeepsCanon : Prop :=
  ∀ s t : State, s.canon → step s = .next t → t.canon

/-- A run of any length on commands that can be sent never stops. The queue and the operands that can exist are the
model's (log entries 1 and 67). Rests on R10, R12, R104, R493. -/
def Obligations.RunsNeverStop : Prop :=
  ∀ (n : Nat) (s : State), s.queueWf → SafeRun n s
end

