-- ==== Sys2Proof/Laws/Maps.lean ====
section
/-! SUPPORT. Sys2Proof/Laws/Maps.lean: laws of the canonical maps, of mailbox memory and of register fields. -/
set_option Elab.async false
namespace Sys2Proof.Machine

variable {α : Type}

/-! ### Reading a map after a write -/

theorem SMap.get_erase_self (d : α) (m : SMap α) (i : Nat) : SMap.get d (SMap.erase m i) i = d := by
  induction m with
  | nil => rfl
  | cons e m ih =>
    obtain ⟨k, v⟩ := e
    by_cases h : k = i
    · simpa [SMap.erase, h] using ih
    · simpa [SMap.erase, h, SMap.get] using ih

theorem SMap.get_erase_ne (d : α) (m : SMap α) {i j : Nat} (h : j ≠ i) :
    SMap.get d (SMap.erase m i) j = SMap.get d m j := by
  induction m with
  | nil => rfl
  | cons e m ih =>
    obtain ⟨k, v⟩ := e
    by_cases hk : k = i
    · have : k ≠ j := fun hj => h (hj.symm.trans hk)
      simp only [SMap.get, if_neg this]
      simpa [SMap.erase, hk] using ih
    · by_cases hj : k = j
      · simp [SMap.erase, SMap.get, hj, h]
      · simpa [SMap.erase, hk, SMap.get, hj] using ih

theorem SMap.get_insert_self (d v : α) (m : SMap α) (i : Nat) : SMap.get d (SMap.insert v m i) i = v := by
  induction m with
  | nil => simp [SMap.insert, SMap.get]
  | cons e m ih =>
    obtain ⟨k, x⟩ := e
    unfold SMap.insert
    split
    · simp [SMap.get]
    · split
      · simp [SMap.get]
      · rename_i h; simp [SMap.get, h, ih]

theorem SMap.get_insert_ne (d v : α) (m : SMap α) {i j : Nat} (h : j ≠ i) :
    SMap.get d (SMap.insert v m i) j = SMap.get d m j := by
  induction m with
  | nil => simp [SMap.insert, SMap.get, h.symm]
  | cons e m ih =>
    obtain ⟨k, x⟩ := e
    unfold SMap.insert
    split
    · simp [SMap.get, h.symm]
    · split
      · rename_i hk; simp [SMap.get, hk, h.symm]
      · simp [SMap.get, ih]

section
variable [DecidableEq α]

@[simp] theorem SMap.get_set_self (d : α) (m : SMap α) (i : Nat) (v : α) : SMap.get d (SMap.set d m i v) i = v := by
  unfold SMap.set
  split
  · rename_i h; rw [SMap.get_erase_self, h]
  · exact SMap.get_insert_self d v m i

theorem SMap.get_set_ne (d d' : α) (m : SMap α) {i j : Nat} (v : α) (h : j ≠ i) :
    SMap.get d (SMap.set d' m i v) j = SMap.get d m j := by
  unfold SMap.set
  split
  · exact SMap.get_erase_ne d m h
  · exact SMap.get_insert_ne d v m h

theorem SMap.get_upd_self [Inhabited α] (m : SMap α) (i : Nat) (f : α → α) :
    SMap.at! (SMap.upd m i f) i = f (SMap.at! m i) := by
  unfold SMap.at! SMap.upd
  rw [SMap.get_set_self]; rfl

theorem SMap.get_upd_ne [Inhabited α] (m : SMap α) {i j : Nat} (f : α → α) (h : j ≠ i) :
    SMap.at! (SMap.upd m i f) j = SMap.at! m j := by
  unfold SMap.at! SMap.upd
  rw [SMap.get_set_ne _ _ _ _ h]

end

theorem SMap.get_filter (d : α) (m : SMap α) (q : Nat → Bool) (j : Nat) (h : q j = true) :
    SMap.get d (m.filter (fun e => q e.1)) j = SMap.get d m j := by
  induction m with
  | nil => rfl
  | cons e m ih =>
    obtain ⟨k, v⟩ := e
    by_cases hq : q k = true
    · by_cases hk : k = j
      · simp [SMap.get, hk, h]
      · simpa [hq, SMap.get, hk] using ih
    · have : k ≠ j := fun hk => hq (hk ▸ h)
      simpa [hq, SMap.get, this] using ih

theorem SMap.get_drop_out (d : α) (m : SMap α) {lo hi j : Nat} (h : j < lo ∨ hi ≤ j) :
    SMap.get d (SMap.drop m lo hi) j = SMap.get d m j :=
  SMap.get_filter d m (fun k => decide (k < lo) || decide (hi ≤ k)) j (by simpa using h)

/-! ### The canonical form -/

theorem SMap.rising_nil : SMap.rising ([] : SMap α) := List.Pairwise.nil

theorem SMap.rising_filter {m : SMap α} (h : SMap.rising m) (q : Nat × α → Bool) : SMap.rising (m.filter q) :=
  List.Pairwise.sublist ((List.filter_sublist (p := q) (l := m)).map Prod.fst) h

theorem SMap.mem_insert_key {v : α} {m : SMap α} {i k : Nat} (h : k ∈ (SMap.insert v m i).map Prod.fst) :
    k = i ∨ k ∈ m.map Prod.fst := by
  induction m with
  | nil => simpa [SMap.insert] using h
  | cons e m ih =>
    obtain ⟨a, x⟩ := e
    unfold SMap.insert at h
    split at h
    · simpa using h
    · split at h
      · rcases List.mem_cons.1 h with h | h
        · exact .inl h
        · exact .inr (List.mem_cons_of_mem _ h)
      · rcases List.mem_cons.1 h with h | h
        · exact .inr (by simp [h])
        · rcases ih h with h | h
          · exact .inl h
          · exact .inr (List.mem_cons_of_mem _ h)

theorem SMap.rising_insert {m : SMap α} (v : α) (i : Nat) (h : SMap.rising m) : SMap.rising (SMap.insert v m i) := by
  induction m with
  | nil => simp [SMap.insert, SMap.rising]
  | cons e m ih =>
    obtain ⟨k, x⟩ := e
    obtain ⟨hk, hm⟩ := List.pairwise_cons.1 h
    unfold SMap.insert
    split
    · rename_i hi
      refine List.pairwise_cons.2 ⟨fun a ha => ?_, h⟩
      rcases List.mem_cons.1 ha with ha | ha
      · exact ha ▸ hi
      · exact Nat.lt_trans hi (hk a ha)
    · split
      · rename_i hki
        exact List.pairwise_cons.2 ⟨fun a ha => hki ▸ hk a ha, hm⟩
      · rename_i h1 h2
        refine List.pairwise_cons.2 ⟨fun a ha => ?_, ih hm⟩
        rcases SMap.mem_insert_key ha with rfl | ha
        · omega
        · exact hk a ha

theorem SMap.rising_set [DecidableEq α] {m : SMap α} (d v : α) (i : Nat) (h : SMap.rising m) :
    SMap.rising (SMap.set d m i v) := by
  unfold SMap.set
  split
  · exact SMap.rising_filter h _
  · exact SMap.rising_insert v i h

theorem SMap.rising_drop {m : SMap α} (lo hi : Nat) (h : SMap.rising m) : SMap.rising (SMap.drop m lo hi) :=
  SMap.rising_filter h _

/-! ### Mailbox memory -/

theorem Memory.wf_iff (m : List Host.Cell) :
    Memory.wf m = true ↔ (∀ c ∈ m, c.2 ≠ 0) ∧ SMap.rising (α := Byte) m := by
  simp [Memory.wf, SMap.rising, List.all_eq_true]

theorem Memory.wf_set {m : List Host.Cell} (a : Nat) (b : Byte) (h : Memory.wf m = true) :
    Memory.wf (Memory.set m a b) = true := by
  rw [Memory.wf_iff] at h ⊢
  refine ⟨?_, SMap.rising_set (α := Byte) _ _ _ h.2⟩
  intro c hc
  unfold Memory.set SMap.set at hc
  split at hc
  · exact h.1 c (List.mem_of_mem_filter hc)
  · rename_i hb
    have key : ∀ l : SMap Byte, c ∈ SMap.insert b l a → c = (a, b) ∨ c ∈ l := by
      intro l
      induction l with
      | nil => intro hl; simpa [SMap.insert] using hl
      | cons e l ih =>
        obtain ⟨k, x⟩ := e
        intro hl
        unfold SMap.insert at hl
        split at hl
        · rcases List.mem_cons.1 hl with hl | hl
          · exact .inl hl
          · exact .inr hl
        · split at hl
          · rcases List.mem_cons.1 hl with hl | hl
            · exact .inl hl
            · exact .inr (List.mem_cons_of_mem _ hl)
          · rcases List.mem_cons.1 hl with hl | hl
            · exact .inr (by simp [hl])
            · rcases ih hl with hl | hl
              · exact .inl hl
              · exact .inr (List.mem_cons_of_mem _ hl)
    rcases key m hc with rfl | hc
    · exact hb
    · exact h.1 c hc

theorem Memory.wf_setBytes {m : List Host.Cell} (a : Nat) (bs : List Byte) (h : Memory.wf m = true) :
    Memory.wf (Memory.setBytes m a bs) = true := by
  induction bs generalizing m a with
  | nil => exact h
  | cons b bs ih => exact ih (a + 1) (Memory.wf_set a b h)

theorem Memory.get_eq (m : List Host.Cell) (a : Nat) : Memory.get m a = SMap.get (0 : Byte) m a := by
  induction m with
  | nil => rfl
  | cons e m ih => simp [Memory.get, SMap.get, ih]

@[simp] theorem Memory.get_set_self (m : List Host.Cell) (a : Nat) (b : Byte) : Memory.get (Memory.set m a b) a = b := by
  rw [Memory.get_eq]; exact SMap.get_set_self _ _ _ _

theorem Memory.get_set_ne (m : List Host.Cell) {a k : Nat} (b : Byte) (h : k ≠ a) :
    Memory.get (Memory.set m a b) k = Memory.get m k := by
  rw [Memory.get_eq, Memory.get_eq]; exact SMap.get_set_ne _ _ _ _ h

theorem Memory.get_setBytes_out (m : List Host.Cell) (a k : Nat) (bs : List Byte) (h : k < a ∨ a + bs.length ≤ k) :
    Memory.get (Memory.setBytes m a bs) k = Memory.get m k := by
  induction bs generalizing m a with
  | nil => rfl
  | cons b bs ih =>
    simp only [List.length_cons] at h
    rw [Memory.setBytes, ih _ _ (by omega), Memory.get_set_ne _ _ (by omega)]

theorem Memory.get_setBytes_in (m : List Host.Cell) (a i : Nat) (bs : List Byte) (h : i < bs.length) :
    Memory.get (Memory.setBytes m a bs) (a + i) = bs[i] := by
  induction bs generalizing m a i with
  | nil => simp at h
  | cons b bs ih =>
    rw [Memory.setBytes]
    cases i with
    | zero => rw [Memory.get_setBytes_out _ _ _ _ (by omega)]; simp
    | succ i =>
      have := ih (Memory.set m a b) (a + 1) i (by simpa using h)
      rw [show a + (i + 1) = a + 1 + i by omega, this]; rfl

/-! ### Fields of a register word -/

/-- A field that fits in 32 bits. -/
def Fld.fits (f : Fld) : Bool := 0 < f.w && f.lo + f.w ≤ 32

theorem Fld.get_lt (f : Fld) (x : Word) : f.get x < 2 ^ f.w := Nat.mod_lt _ (Nat.two_pow_pos _)

/-- The word that `put` forms, split at the field. -/
theorem Fld.put_toNat (f : Fld) (hf : f.fits = true) (x : Word) (v : Nat) :
    (f.put x v).toNat = x.toNat % 2 ^ f.lo + 2 ^ f.lo * (v % 2 ^ f.w) + 2 ^ (f.lo + f.w) * (x.toNat / 2 ^ (f.lo + f.w)) := by
  simp only [Fld.fits, Bool.and_eq_true, decide_eq_true_eq] at hf
  obtain ⟨_, h32⟩ := hf
  have hA : 0 < 2 ^ f.lo := Nat.two_pow_pos _
  have hB : 0 < 2 ^ f.w := Nat.two_pow_pos _
  have h1 : x.toNat = x.toNat % 2 ^ f.lo + 2 ^ f.lo * (x.toNat / 2 ^ f.lo) := (Nat.mod_add_div _ _).symm
  have h2 : x.toNat / 2 ^ f.lo = x.toNat / 2 ^ f.lo % 2 ^ f.w + 2 ^ f.w * (x.toNat / 2 ^ f.lo / 2 ^ f.w) :=
    (Nat.mod_add_div _ _).symm
  have h3 : x.toNat / 2 ^ f.lo / 2 ^ f.w = x.toNat / 2 ^ (f.lo + f.w) := by rw [Nat.div_div_eq_div_mul, ← Nat.pow_add]
  have hx : x.toNat = x.toNat % 2 ^ f.lo + 2 ^ f.lo * f.get x + 2 ^ (f.lo + f.w) * (x.toNat / 2 ^ (f.lo + f.w)) := by
    conv => lhs; rw [h1, h2, h3]
    rw [Nat.mul_add, ← Nat.mul_assoc, ← Nat.pow_add, Nat.add_assoc]; rfl
  have hsub : x.toNat - f.get x * 2 ^ f.lo = x.toNat % 2 ^ f.lo + 2 ^ (f.lo + f.w) * (x.toNat / 2 ^ (f.lo + f.w)) := by
    have : f.get x * 2 ^ f.lo = 2 ^ f.lo * f.get x := Nat.mul_comm _ _
    omega
  have hlt : x.toNat % 2 ^ f.lo + 2 ^ f.lo * (v % 2 ^ f.w) + 2 ^ (f.lo + f.w) * (x.toNat / 2 ^ (f.lo + f.w)) < 2 ^ 32 := by
    have ha : x.toNat % 2 ^ f.lo < 2 ^ f.lo := Nat.mod_lt _ hA
    have hb : v % 2 ^ f.w + 1 ≤ 2 ^ f.w := Nat.mod_lt _ hB
    have hm : 2 ^ f.lo * (v % 2 ^ f.w) + 2 ^ f.lo ≤ 2 ^ (f.lo + f.w) := by
      have := Nat.mul_le_mul_left (2 ^ f.lo) hb
      rwa [Nat.mul_add, Nat.mul_one, ← Nat.pow_add] at this
    have hc : x.toNat / 2 ^ (f.lo + f.w) + 1 ≤ 2 ^ (32 - (f.lo + f.w)) := by
      have : x.toNat < 2 ^ (f.lo + f.w) * 2 ^ (32 - (f.lo + f.w)) := by
        rw [← Nat.pow_add, show f.lo + f.w + (32 - (f.lo + f.w)) = 32 by omega]; exact x.isLt
      exact Nat.div_lt_of_lt_mul this
    have := Nat.mul_le_mul_left (2 ^ (f.lo + f.w)) hc
    rw [Nat.mul_add, Nat.mul_one, ← Nat.pow_add, show f.lo + f.w + (32 - (f.lo + f.w)) = 32 by omega] at this
    omega
  unfold Fld.put
  rw [BitVec.toNat_ofNat, hsub, Nat.mul_comm (v % 2 ^ f.w)]
  rw [Nat.mod_eq_of_lt (by omega)]
  omega

theorem Fld.get_put (f : Fld) (hf : f.fits = true) (x : Word) (v : Nat) : f.get (f.put x v) = v % 2 ^ f.w := by
  have hA : 0 < 2 ^ f.lo := Nat.two_pow_pos _
  unfold Fld.get
  rw [Fld.put_toNat f hf, Nat.pow_add, Nat.mul_assoc, Nat.add_assoc, ← Nat.mul_add,
    Nat.add_mul_div_left _ _ hA, Nat.div_eq_of_lt (Nat.mod_lt _ hA), Nat.zero_add, Nat.add_mul_mod_self_left,
    Nat.mod_mod]

/-- Fields of one register that share no bit. -/
def Fld.disjoint (f g : Fld) : Bool := f.lo + f.w ≤ g.lo || g.lo + g.w ≤ f.lo

theorem Fld.get_put_ne (f g : Fld) (hf : f.fits = true) (h : f.disjoint g = true) (x : Word) (v : Nat) :
    g.get (f.put x v) = g.get x := by
  have hA : 0 < 2 ^ f.lo := Nat.two_pow_pos _
  have hput := Fld.put_toNat f hf x v
  simp only [Fld.disjoint, Bool.or_eq_true, decide_eq_true_eq] at h
  unfold Fld.get
  rcases h with h | h
  · have hAB : 0 < 2 ^ (f.lo + f.w) := Nat.two_pow_pos _
    have hlt : x.toNat % 2 ^ f.lo + 2 ^ f.lo * (v % 2 ^ f.w) < 2 ^ (f.lo + f.w) := by
      have ha : x.toNat % 2 ^ f.lo < 2 ^ f.lo := Nat.mod_lt _ hA
      have hb : v % 2 ^ f.w + 1 ≤ 2 ^ f.w := Nat.mod_lt _ (Nat.two_pow_pos _)
      have := Nat.mul_le_mul_left (2 ^ f.lo) hb
      rw [Nat.mul_add, Nat.mul_one, ← Nat.pow_add] at this
      omega
    have hdiv : (f.put x v).toNat / 2 ^ (f.lo + f.w) = x.toNat / 2 ^ (f.lo + f.w) := by
      rw [hput, Nat.add_mul_div_left _ _ hAB, Nat.div_eq_of_lt hlt, Nat.zero_add]
    have e : 2 ^ g.lo = 2 ^ (f.lo + f.w) * 2 ^ (g.lo - (f.lo + f.w)) := by rw [← Nat.pow_add]; congr 1; omega
    rw [e, ← Nat.div_div_eq_div_mul, hdiv, Nat.div_div_eq_div_mul]
  · have hmod : (f.put x v).toNat % 2 ^ f.lo = x.toNat % 2 ^ f.lo := by
      rw [hput, Nat.pow_add, Nat.mul_assoc, Nat.add_assoc, ← Nat.mul_add, Nat.add_mul_mod_self_left, Nat.mod_mod]
    have key (y : Nat) : y / 2 ^ g.lo % 2 ^ g.w = y % 2 ^ f.lo / 2 ^ g.lo % 2 ^ g.w := by
      have e : 2 ^ f.lo = 2 ^ g.lo * 2 ^ (f.lo - g.lo) := by rw [← Nat.pow_add]; congr 1; omega
      rw [e, Nat.mod_mul_right_div_self]
      have e2 : 2 ^ (f.lo - g.lo) = 2 ^ g.w * 2 ^ (f.lo - g.lo - g.w) := by rw [← Nat.pow_add]; congr 1; omega
      rw [e2, Nat.mod_mul_right_mod]
    rw [key, hmod, ← key]

theorem copySets_rising (g : Nat) (src m : SMap Word) (h : SMap.rising m) : SMap.rising (copySets g src m) := by
  unfold copySets
  extract_lets keys
  clear_value keys
  induction keys generalizing m with
  | nil => exact h
  | cons a l ih => exact ih _ (SMap.rising_set _ _ _ h)

end Sys2Proof.Machine
end

