-- ==== Sys2Proof/Laws/Frames.lean ====
section
/-! SUPPORT. Sys2Proof/Laws/Frames.lean: what the basic operations may change (`Within`), how such bounds are put
together, and what they say of one register. -/

set_option Elab.async false
namespace Sys2Proof.Machine

/-! ### Scopes -/

def Reg.sameAs (r q : Reg) : Bool := r.base == q.base && r.stride == q.stride && r.count == q.count

/-- Every instance of `r` lies in block `b`. -/
def Reg.inBlock (r : Reg) (b : Nat) : Bool :=
  b ≤ 14 && (if b = 14 then 0x100000000 else 0x1000000 + b * 0x100000) ≤ r.base &&
  r.base + r.stride * (r.count - 1) < (if b = 14 then 0x100000000 else 0x1000000 + b * 0x100000) + 0x100000

/-- No instance of `r` is an instance of `q`. -/
def Reg.apart (r q : Reg) : Bool :=
  r.base + r.stride * r.count ≤ q.base || q.base + q.stride * q.count ≤ r.base ||
  (r.stride == q.stride && r.base % r.stride != q.base % r.stride)

def Scope.le (a b : Scope) : Bool :=
  a.parts.all (fun p => b.parts.contains p) &&
  a.regs.all (fun r => b.regs.any (fun q => r.sameAs q) || b.blocks.any (fun n => r.inBlock n)) &&
  a.blocks.all (fun n => b.blocks.contains n)

theorem Reg.hits_sameAs {r q : Reg} (h : r.sameAs q = true) {k : Nat} (hk : r.hits k) : q.hits k := by
  simp only [Reg.sameAs, Bool.and_eq_true, beq_iff_eq] at h
  obtain ⟨i, hi, rfl⟩ := hk
  exact ⟨i, h.2 ▸ hi, by simp [Reg.at, h.1.1, h.1.2]⟩

theorem Reg.lt_end {r : Reg} {i : Nat} (hi : i < r.count) : r.at i < r.base + r.stride * r.count ∨ r.stride = 0 := by
  rcases Nat.eq_zero_or_pos r.stride with h | h
  · exact .inr h
  · left
    have : r.stride * i < r.stride * r.count := Nat.mul_lt_mul_of_pos_left hi h
    unfold Reg.at; omega

theorem Reg.block_of_hits {r : Reg} {b : Nat} (h : r.inBlock b = true) {k : Nat} (hk : r.hits k) : blockOf k = b := by
  simp only [Reg.inBlock, Bool.and_eq_true, decide_eq_true_eq] at h
  obtain ⟨i, hi, rfl⟩ := hk
  obtain ⟨⟨hb, h1⟩, h2⟩ := h
  have h3 : r.stride * i ≤ r.stride * (r.count - 1) := Nat.mul_le_mul_left _ (by omega)
  have h4 : r.base ≤ r.at i := Nat.le_add_right _ _
  have h5 : r.at i ≤ r.base + r.stride * (r.count - 1) := Nat.add_le_add_left h3 _
  unfold blockOf
  by_cases e : b = 14
  · simp only [if_pos e] at h1 h2
    rw [if_pos (by omega)]; omega
  · simp only [if_neg e] at h1 h2
    rw [if_neg (by omega), if_pos (by omega)]; omega

theorem Reg.not_hits_of_apart {r q : Reg} (h : r.apart q = true) (hr : 0 < r.stride) (hq : 0 < q.stride) {i : Nat}
    (hi : i < r.count) : ¬ q.hits (r.at i) := by
  rintro ⟨j, hj, he⟩
  have h1 := (Reg.lt_end hi).resolve_right (by omega)
  have h2 := (Reg.lt_end hj).resolve_right (by omega)
  have h3 : r.base ≤ r.at i := Nat.le_add_right _ _
  have h4 : q.base ≤ q.at j := Nat.le_add_right _ _
  simp only [Reg.apart, Bool.or_eq_true, Bool.and_eq_true, decide_eq_true_eq, beq_iff_eq, bne_iff_ne] at h
  rcases h with (h | h) | ⟨hs, h⟩
  · omega
  · omega
  · apply h
    have : (r.base + r.stride * i) % r.stride = (q.base + r.stride * j) % r.stride := by
      unfold Reg.at at he; rw [he, hs]
    simpa using this

/-! ### Bounds put together -/

theorem Within.refl (sc : Scope) (s : State) : Within sc s s :=
  ⟨rfl, rfl, fun p _ => by cases p <;> rfl, fun _ _ _ _ => rfl, id, List.prefix_rfl⟩

theorem Part.same_trans {p : Part} {a b c : State} (h : p.same a b) (h' : p.same b c) : p.same a c := by
  cases p <;> exact Eq.trans h' h

/-- A step of a smaller scope after one within `b`. -/
theorem Within.step {a b : Scope} {s u t : State} (h : Within a u t) (h0 : Within b s u)
    (hs : (a.regs.all (fun r => decide (0 < r.stride)) && a.le b) = true) : Within b s t := by
  obtain ⟨hp, hs⟩ := Bool.and_eq_true_iff.1 hs
  simp only [Scope.le, Bool.and_eq_true, List.all_eq_true, List.contains_eq_mem, decide_eq_true_eq] at hs
  obtain ⟨⟨h1, h2⟩, h3⟩ := hs
  refine ⟨h.pending.trans h0.pending, h.now.trans h0.now, fun p hp => ?_, fun k hr hb d => ?_, fun hc => h.canon (h0.canon hc),
    h0.out.trans h.out⟩
  · exact Part.same_trans (h0.part p hp) (h.part p (fun hm => hp (h1 p hm)))
  · rw [← h0.reg k hr hb d]
    refine h.reg k (fun r hm hk => ?_) (fun hm => hb (h3 _ hm)) d
    have := h2 r hm
    rw [Bool.or_eq_true, List.any_eq_true, List.any_eq_true] at this
    rcases this with ⟨q, hq, hs⟩ | ⟨n, hn, hs⟩
    · exact hr q hq (Reg.hits_sameAs hs hk)
    · rw [Reg.block_of_hits hs hk] at hb
      exact hb hn

theorem Within.cut {p q : Prop} (h : p) (f : p → q) : q := f h

theorem Within.foldl {α : Type} {sc : Scope} {s u : State} {l : List α} {f : State → α → State}
    (h0 : Within sc s u) (hf : ∀ x a, Within sc s x → Within sc s (f x a)) : Within sc s (l.foldl f u) := by
  induction l generalizing u with
  | nil => exact h0
  | cons a l ih => exact ih (hf u a h0)

theorem Within.each {α : Type} {sc : Scope} {s u : State} {l : List α} {f : State → α → State}
    (h0 : Within sc s u) (hf : ∀ x a, Within sc s x → Within sc s (f x a)) : Within sc s (u.each l f) :=
  Within.foldl h0 hf

/-- A register outside the scope reads as before. -/
theorem Within.rd_eq {sc : Scope} {s t : State} (h : Within sc s t) {r : Reg} (hs : 0 < r.stride)
    (hr : sc.regs.all (fun q => r.apart q && decide (0 < q.stride)) = true) (hb : blockOf r.base ∉ sc.blocks)
    (hin : r.inBlock (blockOf r.base) = true) (i : Nat) : t.reg r i = s.reg r i := by
  unfold State.reg
  split
  · rename_i hi
    refine h.reg _ (fun q hq => ?_) ?_ _
    · have := List.all_eq_true.1 hr q hq
      rw [Bool.and_eq_true, decide_eq_true_eq] at this
      exact Reg.not_hits_of_apart this.1 hs this.2 hi
    · rw [Reg.block_of_hits hin ⟨i, hi, rfl⟩]; exact hb
  · rfl

/-! ### Single parts -/

theorem Within.ofPart {s t : State} (p : Part) (hp : t.pending = s.pending) (hn : t.now = s.now)
    (hq : ∀ q, q ≠ p → q.same s t) (hr : t.regs = s.regs) (hc : s.canon → t.canon)
    (ho : s.out <+: t.out) : Within ⟨[p], [], []⟩ s t :=
  ⟨hp, hn, fun q h => hq q (by simpa using h), fun _ _ _ _ => by rw [hr], hc, ho⟩

theorem Within.put_nextOrd (s : State) (v) : Within ⟨[.nextOrd], [], []⟩ s { s with nextOrd := v } :=
  .ofPart _ rfl rfl (fun q h => by cases q <;> first | rfl | exact absurd rfl h) rfl
    (fun c => ⟨c.regs, c.committed, c.mem⟩) List.prefix_rfl
theorem Within.put_nextFrame (s : State) (v) : Within ⟨[.nextFrame], [], []⟩ s { s with nextFrame := v } :=
  .ofPart _ rfl rfl (fun q h => by cases q <;> first | rfl | exact absurd rfl h) rfl
    (fun c => ⟨c.regs, c.committed, c.mem⟩) List.prefix_rfl
theorem Within.put_nextFree (s : State) (v) : Within ⟨[.nextFree], [], []⟩ s { s with nextFree := v } :=
  .ofPart _ rfl rfl (fun q h => by cases q <;> first | rfl | exact absurd rfl h) rfl
    (fun c => ⟨c.regs, c.committed, c.mem⟩) List.prefix_rfl
theorem Within.put_committed (s : State) (v : SMap Word) (h : SMap.rising s.committed → SMap.rising v) :
    Within ⟨[.committed], [], []⟩ s { s with committed := v } :=
  .ofPart _ rfl rfl (fun q h => by cases q <;> first | rfl | exact absurd rfl h) rfl
    (fun c => ⟨c.regs, h c.committed, c.mem⟩) List.prefix_rfl
theorem Within.put_latches (s : State) (v) : Within ⟨[.latches], [], []⟩ s { s with latches := v } :=
  .ofPart _ rfl rfl (fun q h => by cases q <;> first | rfl | exact absurd rfl h) rfl
    (fun c => ⟨c.regs, c.committed, c.mem⟩) List.prefix_rfl
theorem Within.put_mem (s : State) (v : List Host.Cell) (h : Memory.wf s.mem = true → Memory.wf v = true) :
    Within ⟨[.mem], [], []⟩ s { s with mem := v } :=
  .ofPart _ rfl rfl (fun q h => by cases q <;> first | rfl | exact absurd rfl h) rfl
    (fun c => ⟨c.regs, c.committed, h c.mem⟩) List.prefix_rfl
theorem Within.put_pwr (s : State) (v) : Within ⟨[.pwr], [], []⟩ s { s with pwr := v } :=
  .ofPart _ rfl rfl (fun q h => by cases q <;> first | rfl | exact absurd rfl h) rfl
    (fun c => ⟨c.regs, c.committed, c.mem⟩) List.prefix_rfl
theorem Within.put_boot (s : State) (v) : Within ⟨[.boot], [], []⟩ s { s with boot := v } :=
  .ofPart _ rfl rfl (fun q h => by cases q <;> first | rfl | exact absurd rfl h) rfl
    (fun c => ⟨c.regs, c.committed, c.mem⟩) List.prefix_rfl
theorem Within.put_gr (s : State) (v) : Within ⟨[.gr], [], []⟩ s { s with gr := v } :=
  .ofPart _ rfl rfl (fun q h => by cases q <;> first | rfl | exact absurd rfl h) rfl
    (fun c => ⟨c.regs, c.committed, c.mem⟩) List.prefix_rfl
theorem Within.put_evt (s : State) (v) : Within ⟨[.evt], [], []⟩ s { s with evt := v } :=
  .ofPart _ rfl rfl (fun q h => by cases q <;> first | rfl | exact absurd rfl h) rfl
    (fun c => ⟨c.regs, c.committed, c.mem⟩) List.prefix_rfl
theorem Within.put_tally (s : State) (v) : Within ⟨[.tally], [], []⟩ s { s with tally := v } :=
  .ofPart _ rfl rfl (fun q h => by cases q <;> first | rfl | exact absurd rfl h) rfl
    (fun c => ⟨c.regs, c.committed, c.mem⟩) List.prefix_rfl
theorem Within.put_tacc (s : State) (v) : Within ⟨[.tacc], [], []⟩ s { s with tacc := v } :=
  .ofPart _ rfl rfl (fun q h => by cases q <;> first | rfl | exact absurd rfl h) rfl
    (fun c => ⟨c.regs, c.committed, c.mem⟩) List.prefix_rfl
theorem Within.put_ports (s : State) (v) : Within ⟨[.ports], [], []⟩ s { s with ports := v } :=
  .ofPart _ rfl rfl (fun q h => by cases q <;> first | rfl | exact absurd rfl h) rfl
    (fun c => ⟨c.regs, c.committed, c.mem⟩) List.prefix_rfl
theorem Within.put_cars (s : State) (v) : Within ⟨[.cars], [], []⟩ s { s with cars := v } :=
  .ofPart _ rfl rfl (fun q h => by cases q <;> first | rfl | exact absurd rfl h) rfl
    (fun c => ⟨c.regs, c.committed, c.mem⟩) List.prefix_rfl
theorem Within.put_sheaves (s : State) (v) : Within ⟨[.sheaves], [], []⟩ s { s with sheaves := v } :=
  .ofPart _ rfl rfl (fun q h => by cases q <;> first | rfl | exact absurd rfl h) rfl
    (fun c => ⟨c.regs, c.committed, c.mem⟩) List.prefix_rfl
theorem Within.put_fwd (s : State) (v) : Within ⟨[.fwd], [], []⟩ s { s with fwd := v } :=
  .ofPart _ rfl rfl (fun q h => by cases q <;> first | rfl | exact absurd rfl h) rfl
    (fun c => ⟨c.regs, c.committed, c.mem⟩) List.prefix_rfl
theorem Within.put_grn (s : State) (v) : Within ⟨[.grn], [], []⟩ s { s with grn := v } :=
  .ofPart _ rfl rfl (fun q h => by cases q <;> first | rfl | exact absurd rfl h) rfl
    (fun c => ⟨c.regs, c.committed, c.mem⟩) List.prefix_rfl
theorem Within.put_alm (s : State) (v) : Within ⟨[.alm], [], []⟩ s { s with alm := v } :=
  .ofPart _ rfl rfl (fun q h => by cases q <;> first | rfl | exact absurd rfl h) rfl
    (fun c => ⟨c.regs, c.committed, c.mem⟩) List.prefix_rfl
theorem Within.put_tb (s : State) (v) : Within ⟨[.tb], [], []⟩ s { s with tb := v } :=
  .ofPart _ rfl rfl (fun q h => by cases q <;> first | rfl | exact absurd rfl h) rfl
    (fun c => ⟨c.regs, c.committed, c.mem⟩) List.prefix_rfl
theorem Within.put_tt (s : State) (v) : Within ⟨[.tt], [], []⟩ s { s with tt := v } :=
  .ofPart _ rfl rfl (fun q h => by cases q <;> first | rfl | exact absurd rfl h) rfl
    (fun c => ⟨c.regs, c.committed, c.mem⟩) List.prefix_rfl
theorem Within.put_ref (s : State) (v) : Within ⟨[.ref], [], []⟩ s { s with ref := v } :=
  .ofPart _ rfl rfl (fun q h => by cases q <;> first | rfl | exact absurd rfl h) rfl
    (fun c => ⟨c.regs, c.committed, c.mem⟩) List.prefix_rfl
theorem Within.put_syn (s : State) (v) : Within ⟨[.syn], [], []⟩ s { s with syn := v } :=
  .ofPart _ rfl rfl (fun q h => by cases q <;> first | rfl | exact absurd rfl h) rfl
    (fun c => ⟨c.regs, c.committed, c.mem⟩) List.prefix_rfl
theorem Within.put_tdc (s : State) (v) : Within ⟨[.tdc], [], []⟩ s { s with tdc := v } :=
  .ofPart _ rfl rfl (fun q h => by cases q <;> first | rfl | exact absurd rfl h) rfl
    (fun c => ⟨c.regs, c.committed, c.mem⟩) List.prefix_rfl
theorem Within.put_cal (s : State) (v) : Within ⟨[.cal], [], []⟩ s { s with cal := v } :=
  .ofPart _ rfl rfl (fun q h => by cases q <;> first | rfl | exact absurd rfl h) rfl
    (fun c => ⟨c.regs, c.committed, c.mem⟩) List.prefix_rfl
theorem Within.put_twin (s : State) (v) : Within ⟨[.twin], [], []⟩ s { s with twin := v } :=
  .ofPart _ rfl rfl (fun q h => by cases q <;> first | rfl | exact absurd rfl h) rfl
    (fun c => ⟨c.regs, c.committed, c.mem⟩) List.prefix_rfl
theorem Within.put_out (s : State) (v) (h : s.out <+: v) : Within ⟨[.out], [], []⟩ s { s with out := v } :=
  .ofPart _ rfl rfl (fun q h => by cases q <;> first | rfl | exact absurd rfl h) rfl
    (fun c => ⟨c.regs, c.committed, c.mem⟩) h

theorem Within.put_mem_nil (s : State) : Within ⟨[.mem], [], []⟩ s { s with mem := [] } := .put_mem s [] (fun _ => rfl)
theorem Within.put_counts (s : State) (v w) : Within ⟨[.tally, .tacc], [], []⟩ s { s with tally := v, tacc := w } :=
  (Within.put_tacc { s with tally := v } w).step ((Within.put_tally s v).step (.refl _ _) (by decide)) (by decide)
/-- The block numbers that `blockOf` gives. -/
theorem blockOf_mem (k : Nat) : blockOf k ∈ [0, 1, 2, 3, 4, 5, 6, 7, 8, 9, 10, 11, 12, 13, 14, 0xFF] := by
  unfold blockOf
  split
  · simp
  · split
    · have : (k - 0x1000000) / 0x100000 < 14 := by omega
      simp only [List.mem_cons, List.not_mem_nil]
      omega
    · simp

theorem Within.ite {sc : Scope} {s a b : State} {c : Prop} [Decidable c] (ha : Within sc s a) (hb : Within sc s b) :
    Within sc s (if c then a else b) := by
  split
  · exact ha
  · exact hb

theorem Within.put_regs (s : State) (v : SMap Word) (h : SMap.rising s.regs → SMap.rising v) :
    Within ⟨[], [], [0, 1, 2, 3, 4, 5, 6, 7, 8, 9, 10, 11, 12, 13, 14, 0xFF]⟩ s { s with regs := v } := by
  exact ⟨rfl, rfl, fun p _ => by cases p <;> rfl, fun k _ hb => absurd (blockOf_mem k) hb,
    fun c => ⟨h c.regs, c.committed, c.mem⟩, List.prefix_rfl⟩

/-! ### The operations of Ops.lean -/

theorem State.setReg_within (s : State) (r : Reg) (i : Nat) (w : Word) : Within ⟨[], [r], []⟩ s (s.setReg r i w) := by
  unfold State.setReg
  split
  · rename_i hi
    refine ⟨rfl, rfl, fun p _ => by cases p <;> rfl, fun k hr _ d => ?_,
      fun c => ⟨SMap.rising_set _ _ _ c.regs, c.committed, c.mem⟩, List.prefix_rfl⟩
    exact SMap.get_set_ne _ _ _ _ (fun he => hr r (by simp) ⟨i, hi, he⟩)
  · exact .refl _ _

theorem State.setCom_within (s : State) (r : Reg) (i : Nat) (w : Word) : Within ⟨[.committed], [], []⟩ s (s.setCom r i w) := by
  unfold State.setCom
  split
  · exact .put_committed s _ (fun h => SMap.rising_set _ _ _ h)
  · exact .refl _ _

theorem State.wr_within (s : State) (f : Fld) (i v : Nat) : Within ⟨[], [f.reg], []⟩ s (s.wr f i v) := State.setReg_within ..
theorem State.wrB_within (s : State) (f : Fld) (i : Nat) (b : Bool) : Within ⟨[], [f.reg], []⟩ s (s.wrB f i b) :=
  State.setReg_within ..
theorem State.wrS_within (s : State) (f : Fld) (i : Nat) (x : Int) : Within ⟨[], [f.reg], []⟩ s (s.wrS f i x) :=
  State.setReg_within ..
theorem State.addSat_within (s : State) (f : Fld) (i n : Nat) : Within ⟨[], [f.reg], []⟩ s (s.addSat f i n) :=
  State.setReg_within ..
theorem State.addWrap_within (s : State) (f : Fld) (i n : Nat) : Within ⟨[], [f.reg], []⟩ s (s.addWrap f i n) :=
  State.setReg_within ..
theorem State.wrCom_within (s : State) (f : Fld) (i v : Nat) : Within ⟨[.committed], [], []⟩ s (s.wrCom f i v) :=
  State.setCom_within ..
theorem State.setMb_within (s : State) (n o : Nat) (bs : List Byte) : Within ⟨[.mem], [], []⟩ s (s.setMb n o bs) :=
  .put_mem s _ (Memory.wf_setBytes _ _)
theorem State.emit_within (s : State) (o : Out) : Within ⟨[.out], [], []⟩ s (s.emit o) :=
  .put_out _ _ (List.prefix_append _ _)
theorem State.updMbx_within (s : State) (n : Nat) (f : Mbx → Mbx) : Within ⟨[.gr], [], []⟩ s (s.updMbx n f) := .put_gr ..
theorem State.updTable_within (s : State) (n : Nat) (f : Table → Table) : Within ⟨[.gr], [], []⟩ s (s.updTable n f) :=
  .put_gr ..
theorem State.updPort_within (s : State) (n : Nat) (f : Port → Port) : Within ⟨[.ports], [], []⟩ s (s.updPort n f) :=
  .put_ports ..
theorem State.updCar_within (s : State) (n : Nat) (f : Carrier → Carrier) : Within ⟨[.cars], [], []⟩ s (s.updCar n f) :=
  .put_cars ..
theorem State.updSheaf_within (s : State) (n : Nat) (f : Sheaf → Sheaf) : Within ⟨[.sheaves], [], []⟩ s (s.updSheaf n f) :=
  .put_sheaves ..
theorem State.updPwr_within (s : State) (f : Pwr → Pwr) : Within ⟨[.pwr], [], []⟩ s (s.updPwr f) := .put_pwr ..
theorem State.updBoot_within (s : State) (f : Boot → Boot) : Within ⟨[.boot], [], []⟩ s (s.updBoot f) := .put_boot ..
theorem State.updGr_within (s : State) (f : Grange → Grange) : Within ⟨[.gr], [], []⟩ s (s.updGr f) := .put_gr ..
theorem State.updEvt_within (s : State) (f : Evt → Evt) : Within ⟨[.evt], [], []⟩ s (s.updEvt f) := .put_evt ..
theorem State.updFwd_within (s : State) (f : Fwd → Fwd) : Within ⟨[.fwd], [], []⟩ s (s.updFwd f) := .put_fwd ..
theorem State.updGrn_within (s : State) (f : Grn → Grn) : Within ⟨[.grn], [], []⟩ s (s.updGrn f) := .put_grn ..
theorem State.updAlm_within (s : State) (f : Alm → Alm) : Within ⟨[.alm], [], []⟩ s (s.updAlm f) := .put_alm ..

/-! ### Events and counters (Flags.lean) -/

theorem State.logAdd_within (s : State) (prec block code obj : Nat) :
    Within ⟨[.evt], [], []⟩ s (s.logAdd prec block code obj) := by
  unfold State.logAdd
  split
  · exact State.updEvt_within ..
  · exact .refl _ _

theorem State.raiseObj_within (s : State) (e : Ev) (i obj : Nat) :
    Within ⟨[.evt], [e.stat], []⟩ s (s.raiseObj e i obj) := by
  unfold State.raiseObj
  extract_lets a
  have h1 : Within ⟨[], [e.stat], []⟩ s a := by
    unfold a
    split
    · exact State.setReg_within ..
    · exact .refl _ _
  clear_value a
  have h2 := State.logAdd_within a e.prec e.block (e.sub * 32 + e.bitNo) obj
  exact ⟨h2.pending.trans h1.pending, h2.now.trans h1.now,
    fun p hp => Part.same_trans (h1.part p (by simp)) (h2.part p hp),
    fun k hr hb d => (h2.reg k (by simp) hb d).trans (h1.reg k hr hb d), fun c => h2.canon (h1.canon c),
    h1.out.trans h2.out⟩

theorem State.raise_within (s : State) (e : Ev) (i : Nat) : Within ⟨[.evt], [e.stat], []⟩ s (s.raise e i) :=
  State.raiseObj_within ..

end Sys2Proof.Machine
end

