-- ==== Sys2Proof/Laws/FramesFlags.lean ====
section
/-! SUPPORT. Sys2Proof/Laws/FramesFlags.lean: what each operation of Machine/Flags.lean may change. -/
set_option Elab.async false
set_option linter.unusedTactic false
set_option linter.unreachableTactic false
set_option linter.unnecessarySeqFocus false
namespace Sys2Proof.Machine

def State.reservedEnc_scope : Scope := ⟨[.evt], [R.EVT_RESERVED_OFS, R.EVT_STAT], []⟩
theorem State.reservedEnc_within (s : State) (ofs : Nat) (smbus : Bool) : Within State.reservedEnc_scope s
    (State.reservedEnc s ofs smbus) := by
  unfold State.reservedEnc
  repeat' first
    | (with_reducible assumption) | (with_reducible apply Within.refl) | lift_lets
    | (intro v; refine Within.cut (p := Within State.reservedEnc_scope s v) ?_ ?_; unfold v; rotate_left; clear_value v; intro hv)
    | (intro v; clear_value v) | intro v
    | (with_reducible apply Within.step (State.setReg_within ..); rotate_left; decide +kernel)
    | (with_reducible apply Within.step (State.raise_within ..); rotate_left; decide +kernel) | split

def State.msix_scope : Scope := ⟨[.gr, .out], [], []⟩
theorem State.msix_within (s : State) (v : Nat) : Within State.msix_scope s (State.msix s v) := by
  unfold State.msix
  repeat' first
    | (with_reducible assumption) | (with_reducible apply Within.refl)
    | (with_reducible apply Within.step (State.updGr_within ..); rotate_left; decide +kernel)
    | (with_reducible apply Within.step (State.emit_within ..); rotate_left; decide +kernel) | split

def State.vectors_scope : Scope := ⟨[.gr, .evt, .out], [], []⟩
theorem State.vectors_within (s : State) : Within State.vectors_scope s (State.vectors s) := by
  unfold State.vectors
  repeat' first
    | (with_reducible assumption) | (with_reducible apply Within.refl) | lift_lets
    | (intro v; refine Within.cut (p := Within State.vectors_scope s v) ?_ ?_; unfold v; rotate_left; clear_value v; intro hv)
    | (intro v; clear_value v) | intro v
    | (with_reducible apply Within.step (State.updEvt_within ..); rotate_left; decide +kernel)
    | (with_reducible apply Within.step (State.msix_within ..); rotate_left; decide +kernel)
    | (with_reducible apply Within.each; rotate_left; intro x a hx; try beta_reduce; rotate_left)
    | (with_reducible apply Within.foldl; rotate_left; intro x a hx; try beta_reduce; rotate_left) | split

def State.count_scope : Scope := ⟨[.evt, .tacc], [R.EVT_STAT], []⟩
theorem State.count_within (s : State) (n : Nat) (k : Nat) : Within State.count_scope s (State.count s n k) := by
  unfold State.count
  repeat' first
    | (with_reducible assumption) | (with_reducible apply Within.refl) | lift_lets
    | (intro v; refine Within.cut (p := Within State.count_scope s v) ?_ ?_; unfold v; rotate_left; clear_value v; intro hv)
    | (intro v; clear_value v) | intro v
    | (with_reducible apply Within.step (State.raiseObj_within ..); rotate_left; decide +kernel) | split
    | (with_reducible apply Within.step (Within.put_tacc ..); rotate_left; decide +kernel)

def State.fold_scope : Scope := ⟨[.tally, .tacc], [], []⟩
theorem State.fold_within (s : State) : Within State.fold_scope s (State.fold s) := by
  unfold State.fold
  repeat' first
    | (with_reducible assumption) | (with_reducible apply Within.refl) | lift_lets
    | (intro v; refine Within.cut (p := Within State.fold_scope s v) ?_ ?_; unfold v; rotate_left; clear_value v; intro hv)
    | (intro v; clear_value v) | intro v
    | (with_reducible apply Within.each; rotate_left; intro x a hx; try beta_reduce; rotate_left)
    | (with_reducible apply Within.foldl; rotate_left; intro x a hx; try beta_reduce; rotate_left) | split
    | (with_reducible apply Within.step (Within.put_counts ..); rotate_left; decide +kernel)

def State.clearSlot_scope : Scope := ⟨[.tally, .tacc], [], []⟩
theorem State.clearSlot_within (s : State) (n : Nat) : Within State.clearSlot_scope s (State.clearSlot s n) := by
  unfold State.clearSlot
  repeat' first
    | (with_reducible assumption) | (with_reducible apply Within.refl) | split
    | (with_reducible apply Within.step (Within.put_counts ..); rotate_left; decide +kernel)

end Sys2Proof.Machine
end

