-- ==== Sys2Proof/Laws/FramesTimeBase.lean ====
section
/-! SUPPORT. Sys2Proof/Laws/FramesTimeBase.lean: what each operation of Machine/TimeBase.lean may change. -/
set_option Elab.async false
set_option linter.unusedTactic false
set_option linter.unreachableTactic false
set_option linter.unnecessarySeqFocus false
namespace Sys2Proof.Machine

def State.updTb_scope : Scope := ⟨[.tb], [], []⟩
theorem State.updTb_within (s : State) (f : Tb → Tb) : Within State.updTb_scope s (State.updTb s f) := by
  unfold State.updTb
  repeat' first
    | (with_reducible assumption) | (with_reducible apply Within.refl) | split
    | (with_reducible apply Within.step (Within.put_tb ..); rotate_left; decide +kernel)

def State.updRef_scope : Scope := ⟨[.ref], [], []⟩
theorem State.updRef_within (s : State) (f : RefSel → RefSel) : Within State.updRef_scope s (State.updRef s f) := by
  unfold State.updRef
  repeat' first
    | (with_reducible assumption) | (with_reducible apply Within.refl) | split
    | (with_reducible apply Within.step (Within.put_ref ..); rotate_left; decide +kernel)

def State.updSyn_scope : Scope := ⟨[.syn], [], []⟩
theorem State.updSyn_within (s : State) (f : Syn → Syn) : Within State.updSyn_scope s (State.updSyn s f) := by
  unfold State.updSyn
  repeat' first
    | (with_reducible assumption) | (with_reducible apply Within.refl) | split
    | (with_reducible apply Within.step (Within.put_syn ..); rotate_left; decide +kernel)

def State.updTdc_scope : Scope := ⟨[.tdc], [], []⟩
theorem State.updTdc_within (s : State) (f : Tdc → Tdc) : Within State.updTdc_scope s (State.updTdc s f) := by
  unfold State.updTdc
  repeat' first
    | (with_reducible assumption) | (with_reducible apply Within.refl) | split
    | (with_reducible apply Within.step (Within.put_tdc ..); rotate_left; decide +kernel)

def State.updCal_scope : Scope := ⟨[.cal], [], []⟩
theorem State.updCal_within (s : State) (f : Cal → Cal) : Within State.updCal_scope s (State.updCal s f) := by
  unfold State.updCal
  repeat' first
    | (with_reducible assumption) | (with_reducible apply Within.refl) | split
    | (with_reducible apply Within.step (Within.put_cal ..); rotate_left; decide +kernel)

def State.updTwin_scope : Scope := ⟨[.twin], [], []⟩
theorem State.updTwin_within (s : State) (f : Twin → Twin) : Within State.updTwin_scope s (State.updTwin s f) := by
  unfold State.updTwin
  repeat' first
    | (with_reducible assumption) | (with_reducible apply Within.refl) | split
    | (with_reducible apply Within.step (Within.put_twin ..); rotate_left; decide +kernel)

def State.updTt_scope : Scope := ⟨[.tt], [], []⟩
theorem State.updTt_within (s : State) (f : Tt → Tt) : Within State.updTt_scope s (State.updTt s f) := by
  unfold State.updTt
  repeat' first
    | (with_reducible assumption) | (with_reducible apply Within.refl) | split
    | (with_reducible apply Within.step (Within.put_tt ..); rotate_left; decide +kernel)

def State.updDom_scope : Scope := ⟨[.tb], [], []⟩
theorem State.updDom_within (s : State) (n : Nat) (f : Dom → Dom) : Within State.updDom_scope s (State.updDom s n f)
    := by
  unfold State.updDom
  repeat' first
    | (with_reducible assumption) | (with_reducible apply Within.refl)
    | (with_reducible apply Within.step (State.updTb_within ..); rotate_left; decide +kernel) | split

def State.noteDoms_scope : Scope := ⟨[.tb], [], []⟩
theorem State.noteDoms_within (s : State) : Within State.noteDoms_scope s (State.noteDoms s) := by
  unfold State.noteDoms
  repeat' first
    | (with_reducible assumption) | (with_reducible apply Within.refl) | lift_lets
    | (intro v; refine Within.cut (p := Within State.noteDoms_scope s v) ?_ ?_; unfold v; rotate_left; clear_value v; intro hv)
    | (intro v; clear_value v) | intro v
    | (with_reducible apply Within.step (State.updTb_within ..); rotate_left; decide +kernel) | split

def State.noteOfs_scope : Scope := ⟨[.evt], [R.ALM_STAT, R.ALM_EVT_STAT], []⟩
theorem State.noteOfs_within (s : State) : Within State.noteOfs_scope s (State.noteOfs s) := by
  unfold State.noteOfs
  repeat' first
    | (with_reducible assumption) | (with_reducible apply Within.refl) | lift_lets
    | (intro v; refine Within.cut (p := Within State.noteOfs_scope s v) ?_ ?_; unfold v; rotate_left; clear_value v; intro hv)
    | (intro v; clear_value v) | intro v
    | (with_reducible apply Within.step (State.wrB_within ..); rotate_left; decide +kernel)
    | (with_reducible apply Within.step (State.raise_within ..); rotate_left; decide +kernel) | split

def State.updPath_scope : Scope := ⟨[.cal], [], []⟩
theorem State.updPath_within (s : State) (k : Nat) (f : Path → Path) : Within State.updPath_scope s (State.updPath s k
    f) := by
  unfold State.updPath
  repeat' first
    | (with_reducible assumption) | (with_reducible apply Within.refl)
    | (with_reducible apply Within.step (State.updCal_within ..); rotate_left; decide +kernel) | split

def State.setRes_scope : Scope := ⟨[.evt, .tb], [R.ALM_STAT, R.ALM_EVT_STAT, R.TBS_DOM_STAT], []⟩
theorem State.setRes_within (s : State) (n : Nat) (r : Int) : Within State.setRes_scope s (State.setRes s n r) := by
  unfold State.setRes
  repeat' first
    | (with_reducible assumption) | (with_reducible apply Within.refl) | lift_lets
    | (intro v; refine Within.cut (p := Within State.setRes_scope s v) ?_ ?_; unfold v; rotate_left; clear_value v; intro hv)
    | (intro v; clear_value v) | intro v
    | (with_reducible apply Within.step (State.noteOfs_within ..); rotate_left; decide +kernel)
    | (with_reducible apply Within.step (State.updDom_within ..); rotate_left; decide +kernel)
    | (with_reducible apply Within.step (State.wrB_within ..); rotate_left; decide +kernel) | split

def State.rebase_scope : Scope := ⟨[.tb], [R.TBS_DOM_INC_LO, R.TBS_DOM_INC_HI], []⟩
theorem State.rebase_within (s : State) (n : Nat) (val : Int) (inc : Nat) : Within State.rebase_scope s (State.rebase
    s n val inc) := by
  unfold State.rebase
  repeat' first
    | (with_reducible assumption) | (with_reducible apply Within.refl) | lift_lets
    | (intro v; refine Within.cut (p := Within State.rebase_scope s v) ?_ ?_; unfold v; rotate_left; clear_value v; intro hv)
    | (intro v; clear_value v) | intro v
    | (with_reducible apply Within.step (State.noteDoms_within ..); rotate_left; decide +kernel)
    | (with_reducible apply Within.step (State.updDom_within ..); rotate_left; decide +kernel)
    | (with_reducible apply Within.step (State.setReg_within ..); rotate_left; decide +kernel) | split

def State.setInc_scope : Scope := ⟨[.tb], [R.TBS_DOM_INC_LO, R.TBS_DOM_INC_HI], []⟩
theorem State.setInc_within (s : State) (n inc : Nat) : Within State.setInc_scope s (State.setInc s n inc) := by
  unfold State.setInc
  repeat' first
    | (with_reducible assumption) | (with_reducible apply Within.refl) | lift_lets
    | (intro v; refine Within.cut (p := Within State.setInc_scope s v) ?_ ?_; unfold v; rotate_left; clear_value v; intro hv)
    | (intro v; clear_value v) | intro v
    | (with_reducible apply Within.step (State.rebase_within ..); rotate_left; decide +kernel)
    | (with_reducible apply Within.step (State.setReg_within ..); rotate_left; decide +kernel)
    | (with_reducible apply Within.each; rotate_left; intro x a hx; try beta_reduce; rotate_left)
    | (with_reducible apply Within.foldl; rotate_left; intro x a hx; try beta_reduce; rotate_left) | split

def State.setTrig_scope : Scope := ⟨[.evt, .tb], [R.TBS_EVT_STAT, R.TBS_TRIG_SKIP], []⟩
theorem State.setTrig_within (s : State) (k : Nat) (t : Train) (ev : Option Ev)
    (he : ∀ e, ev = some e → e.stat = R.TBS_EVT_STAT) : Within State.setTrig_scope s (s.setTrig k t ev) := by
  have h : Within State.setTrig_scope s (s.setTrig k t none) := by
    unfold State.setTrig
    extract_lets old n a b
    have ha : Within State.setTrig_scope s a := (State.updTb_within ..).step (.refl _ _) (by decide +kernel)
    split
    · exact ha
    · exact (State.addSat_within ..).step ha (by decide +kernel)
  cases ev with
  | none => exact h
  | some e =>
    unfold State.setTrig at h ⊢
    dsimp only at h ⊢
    split
    · rw [if_pos ‹_›] at h; exact h
    · rw [if_neg ‹_›] at h; exact (State.raise_within ..).step h (by rw [he e rfl]; decide +kernel)

def State.setPpso_scope : Scope := ⟨[.evt, .ref], [R.REF_EVT_STAT], []⟩
theorem State.setPpso_within (s : State) (k : Nat) (t : Train) (event : Bool) : Within State.setPpso_scope s
    (State.setPpso s k t event) := by
  unfold State.setPpso
  repeat' first
    | (with_reducible assumption) | (with_reducible apply Within.refl) | lift_lets
    | (intro v; refine Within.cut (p := Within State.setPpso_scope s v) ?_ ?_; unfold v; rotate_left; clear_value v; intro hv)
    | (intro v; clear_value v) | intro v
    | (with_reducible apply Within.step (State.updRef_within ..); rotate_left; decide +kernel)
    | (with_reducible apply Within.step (State.raise_within ..); rotate_left; decide +kernel) | split

def State.jumpTrains_scope : Scope := ⟨[.evt, .tb, .ref], [R.TBS_EVT_STAT, R.TBS_TRIG_SKIP, R.REF_EVT_STAT], []⟩
theorem State.jumpTrains_within (s : State) (n : Nat) (σ : Int) : Within State.jumpTrains_scope s (State.jumpTrains s
    n σ) := by
  unfold State.jumpTrains
  repeat' first
    | (with_reducible assumption) | (with_reducible apply Within.refl) | lift_lets
    | (intro v; refine Within.cut (p := Within State.jumpTrains_scope s v) ?_ ?_; unfold v; rotate_left; clear_value v; intro hv)
    | (intro v; clear_value v) | intro v
    | (with_reducible apply Within.step (State.setTrig_within (he := by intro e he; (repeat' split at he) <;> first | (cases he; with_unfolding_all rfl) | (cases he; done)) ..); rotate_left; decide +kernel)
    | (with_reducible apply Within.step (State.setPpso_within ..); rotate_left; decide +kernel)
    | (with_reducible apply Within.each; rotate_left; intro x a hx; try beta_reduce; rotate_left)
    | (with_reducible apply Within.foldl; rotate_left; intro x a hx; try beta_reduce; rotate_left) | split

def State.startRes_scope : Scope := ⟨[.evt, .tb, .ref], [R.ALM_STAT, R.ALM_EVT_STAT, R.TBS_DOM_STAT, R.TBS_EVT_STAT,
    R.TBS_TRIG_SKIP, R.REF_EVT_STAT], []⟩
theorem State.startRes_within (s : State) : Within State.startRes_scope s (State.startRes s) := by
  unfold State.startRes
  repeat' first
    | (with_reducible assumption) | (with_reducible apply Within.refl) | lift_lets
    | (intro v; refine Within.cut (p := Within State.startRes_scope s v) ?_ ?_; unfold v; rotate_left; clear_value v; intro hv)
    | (intro v; clear_value v) | intro v
    | (with_reducible apply Within.step (State.updTb_within ..); rotate_left; decide +kernel)
    | (with_reducible apply Within.step (State.setRes_within ..); rotate_left; decide +kernel)
    | (with_reducible apply Within.step (State.jumpTrains_within ..); rotate_left; decide +kernel) | split

def State.driveTrig_scope : Scope := ⟨[.tb, .out], [], []⟩
theorem State.driveTrig_within (s : State) (k : Nat) : Within State.driveTrig_scope s (State.driveTrig s k) := by
  unfold State.driveTrig
  repeat' first
    | (with_reducible assumption) | (with_reducible apply Within.refl) | lift_lets
    | (intro v; refine Within.cut (p := Within State.driveTrig_scope s v) ?_ ?_; unfold v; rotate_left; clear_value v; intro hv)
    | (intro v; clear_value v) | intro v
    | (with_reducible apply Within.step (State.updTb_within ..); rotate_left; decide +kernel)
    | (with_reducible apply Within.step (State.emit_within ..); rotate_left; decide +kernel) | split

def State.driveTrigs_scope : Scope := ⟨[.tb, .out], [], []⟩
theorem State.driveTrigs_within (s : State) : Within State.driveTrigs_scope s (State.driveTrigs s) := by
  unfold State.driveTrigs
  repeat' first
    | (with_reducible assumption) | (with_reducible apply Within.refl)
    | (with_reducible apply Within.step (State.driveTrig_within ..); rotate_left; decide +kernel)
    | (with_reducible apply Within.each; rotate_left; intro x a hx; try beta_reduce; rotate_left)
    | (with_reducible apply Within.foldl; rotate_left; intro x a hx; try beta_reduce; rotate_left) | split

def State.startTrig_scope : Scope := ⟨[.evt, .tb], [R.TBS_EVT_STAT, R.TBS_TRIG_STAT, R.TBS_TRIG_SKIP], []⟩
theorem State.startTrig_within (s : State) (k : Nat) (event : Bool) : Within State.startTrig_scope s (State.startTrig
    s k event) := by
  unfold State.startTrig
  repeat' first
    | (with_reducible assumption) | (with_reducible apply Within.refl) | lift_lets
    | (intro v; refine Within.cut (p := Within State.startTrig_scope s v) ?_ ?_; unfold v; rotate_left; clear_value v; intro hv)
    | (intro v; clear_value v) | intro v
    | (with_reducible apply Within.step (State.setReg_within ..); rotate_left; decide +kernel)
    | (with_reducible apply Within.step (State.setTrig_within (he := by intro e he; (repeat' split at he) <;> first | (cases he; with_unfolding_all rfl) | (cases he; done)) ..); rotate_left; decide +kernel)
    | split

def State.startPpso_scope : Scope := ⟨[.evt, .ref], [R.REF_EVT_STAT], []⟩
theorem State.startPpso_within (s : State) (k : Nat) (event : Bool) : Within State.startPpso_scope s (State.startPpso
    s k event) := by
  unfold State.startPpso
  repeat' first
    | (with_reducible assumption) | (with_reducible apply Within.refl) | lift_lets
    | (intro v; refine Within.cut (p := Within State.startPpso_scope s v) ?_ ?_; unfold v; rotate_left; clear_value v; intro hv)
    | (intro v; clear_value v) | intro v
    | (with_reducible apply Within.step (State.setPpso_within ..); rotate_left; decide +kernel) | split

def State.quiesce_scope : Scope := ⟨[.tb, .ref, .syn, .out], [R.SYN_CKO_STAT], []⟩
theorem State.quiesce_within (s : State) : Within State.quiesce_scope s (State.quiesce s) := by
  unfold State.quiesce
  repeat' first
    | (with_reducible assumption) | (with_reducible apply Within.refl) | lift_lets
    | (intro v; refine Within.cut (p := Within State.quiesce_scope s v) ?_ ?_; unfold v; rotate_left; clear_value v; intro hv)
    | (intro v; clear_value v) | intro v
    | (with_reducible apply Within.step (State.updTb_within ..); rotate_left; decide +kernel)
    | (with_reducible apply Within.step (State.emit_within ..); rotate_left; decide +kernel)
    | (with_reducible apply Within.step (State.updRef_within ..); rotate_left; decide +kernel)
    | (with_reducible apply Within.step (State.updSyn_within ..); rotate_left; decide +kernel)
    | (with_reducible apply Within.step (State.setReg_within ..); rotate_left; decide +kernel)
    | (with_reducible apply Within.each; rotate_left; intro x a hx; try beta_reduce; rotate_left)
    | (with_reducible apply Within.foldl; rotate_left; intro x a hx; try beta_reduce; rotate_left) | split

def State.unquiet_scope : Scope := ⟨[.evt, .tb, .ref, .syn, .out], [R.TBS_EVT_STAT, R.TBS_TRIG_SKIP, R.REF_EVT_STAT],
    []⟩
theorem State.unquiet_within (s : State) : Within State.unquiet_scope s (State.unquiet s) := by
  unfold State.unquiet
  repeat' first
    | (with_reducible assumption) | (with_reducible apply Within.refl) | lift_lets
    | (intro v; refine Within.cut (p := Within State.unquiet_scope s v) ?_ ?_; unfold v; rotate_left; clear_value v; intro hv)
    | (intro v; clear_value v) | intro v
    | (with_reducible apply Within.step (State.setTrig_within (he := by intro e he; (repeat' split at he) <;> first | (cases he; with_unfolding_all rfl) | (cases he; done)) ..); rotate_left; decide +kernel)
    | (with_reducible apply Within.step (State.driveTrigs_within ..); rotate_left; decide +kernel)
    | (with_reducible apply Within.step (State.setPpso_within ..); rotate_left; decide +kernel)
    | (with_reducible apply Within.step (State.updSyn_within ..); rotate_left; decide +kernel)
    | (with_reducible apply Within.each; rotate_left; intro x a hx; try beta_reduce; rotate_left)
    | (with_reducible apply Within.foldl; rotate_left; intro x a hx; try beta_reduce; rotate_left) | split

def State.stepCkos_scope : Scope := ⟨[.syn], [], []⟩
theorem State.stepCkos_within (s : State) (n : Nat) (σ : Int) : Within State.stepCkos_scope s (State.stepCkos s n σ)
    := by
  unfold State.stepCkos
  repeat' first
    | (with_reducible assumption) | (with_reducible apply Within.refl) | lift_lets
    | (intro v; refine Within.cut (p := Within State.stepCkos_scope s v) ?_ ?_; unfold v; rotate_left; clear_value v; intro hv)
    | (intro v; clear_value v) | intro v
    | (with_reducible apply Within.step (State.updSyn_within ..); rotate_left; decide +kernel)
    | (with_reducible apply Within.each; rotate_left; intro x a hx; try beta_reduce; rotate_left)
    | (with_reducible apply Within.foldl; rotate_left; intro x a hx; try beta_reduce; rotate_left) | split

def State.moveTrace_scope : Scope := ⟨[.tb], [], []⟩
theorem State.moveTrace_within (s : State) (σ : Int) : Within State.moveTrace_scope s (State.moveTrace s σ) := by
  unfold State.moveTrace
  repeat' first
    | (with_reducible assumption) | (with_reducible apply Within.refl)
    | (with_reducible apply Within.step (State.updTb_within ..); rotate_left; decide +kernel) | split

def State.stepped_scope : Scope := ⟨[.evt, .tb, .ref, .syn], [R.ALM_STAT, R.ALM_EVT_STAT, R.TBS_DOM_STAT,
    R.TBS_EVT_STAT, R.TBS_TRIG_SKIP, R.REF_EVT_STAT], []⟩
theorem State.stepped_within (s : State) (n : Nat) (σ : Int) (noSlew : Bool) : Within State.stepped_scope s
    (State.stepped s n σ noSlew) := by
  unfold State.stepped
  repeat' first
    | (with_reducible assumption) | (with_reducible apply Within.refl) | lift_lets
    | (intro v; refine Within.cut (p := Within State.stepped_scope s v) ?_ ?_; unfold v; rotate_left; clear_value v; intro hv)
    | (intro v; clear_value v) | intro v
    | (with_reducible apply Within.step (State.updDom_within ..); rotate_left; decide +kernel)
    | (with_reducible apply Within.step (State.moveTrace_within ..); rotate_left; decide +kernel)
    | (with_reducible apply Within.step (State.setRes_within ..); rotate_left; decide +kernel)
    | (with_reducible apply Within.step (State.jumpTrains_within ..); rotate_left; decide +kernel)
    | (with_reducible apply Within.step (State.stepCkos_within ..); rotate_left; decide +kernel)
    | (with_reducible apply Within.step (State.raise_within ..); rotate_left; decide +kernel) | split

def State.stepDom_scope : Scope := ⟨[.evt, .tb, .ref, .syn], [R.ALM_STAT, R.ALM_EVT_STAT, R.TBS_DOM_STAT,
    R.TBS_EVT_STAT, R.TBS_TRIG_SKIP, R.REF_EVT_STAT], []⟩
theorem State.stepDom_within (s : State) (n : Nat) (σ : Int) (noSlew : Bool) : Within State.stepDom_scope s
    (State.stepDom s n σ noSlew) := by
  unfold State.stepDom
  repeat' first
    | (with_reducible assumption) | (with_reducible apply Within.refl) | lift_lets
    | (intro v; refine Within.cut (p := Within State.stepDom_scope s v) ?_ ?_; unfold v; rotate_left; clear_value v; intro hv)
    | (intro v; clear_value v) | intro v
    | (with_reducible apply Within.step (State.noteDoms_within ..); rotate_left; decide +kernel)
    | (with_reducible apply Within.step (State.updDom_within ..); rotate_left; decide +kernel)
    | (with_reducible apply Within.step (State.stepped_within ..); rotate_left; decide +kernel)
    | (with_reducible apply Within.each; rotate_left; intro x a hx; try beta_reduce; rotate_left)
    | (with_reducible apply Within.foldl; rotate_left; intro x a hx; try beta_reduce; rotate_left) | split

def State.setPend_scope : Scope := ⟨[.evt], [R.TBS_RPT_PEND, R.TBS_EVT_STAT], []⟩
theorem State.setPend_within (s : State) (p : Nat) (b : Bool) : Within State.setPend_scope s (State.setPend s p b) :=
    by
  unfold State.setPend
  repeat' first
    | (with_reducible assumption) | (with_reducible apply Within.refl) | lift_lets
    | (intro v; refine Within.cut (p := Within State.setPend_scope s v) ?_ ?_; unfold v; rotate_left; clear_value v; intro hv)
    | (intro v; clear_value v) | intro v
    | (with_reducible apply Within.step (State.setReg_within ..); rotate_left; decide +kernel)
    | (with_reducible apply Within.step (State.raise_within ..); rotate_left; decide +kernel) | split

def State.loseReport_scope : Scope := ⟨[.evt, .tacc], [R.TBS_EVT_STAT, R.TBS_RPT_STAT, R.EVT_STAT], []⟩
theorem State.loseReport_within (s : State) (p : Nat) : Within State.loseReport_scope s (State.loseReport s p) := by
  unfold State.loseReport
  repeat' first
    | (with_reducible assumption) | (with_reducible apply Within.refl) | lift_lets
    | (intro v; refine Within.cut (p := Within State.loseReport_scope s v) ?_ ?_; unfold v; rotate_left; clear_value v; intro hv)
    | (intro v; clear_value v) | intro v
    | (with_reducible apply Within.step (State.addSat_within ..); rotate_left; decide +kernel)
    | (with_reducible apply Within.step (State.count_within ..); rotate_left; decide +kernel)
    | (with_reducible apply Within.step (State.raise_within ..); rotate_left; decide +kernel) | split

def State.writeReport_scope : Scope := ⟨[.evt, .tacc, .out], [R.TBS_RPT_PEND, R.TBS_EVT_STAT, R.TBS_RPT_PROD,
    R.TBS_RPT_STAT, R.EVT_STAT], []⟩
theorem State.writeReport_within (s : State) (r : RptDue) : Within State.writeReport_scope s (State.writeReport s r)
    := by
  unfold State.writeReport
  repeat' first
    | (with_reducible assumption) | (with_reducible apply Within.refl) | lift_lets
    | (intro v; refine Within.cut (p := Within State.writeReport_scope s v) ?_ ?_; unfold v; rotate_left; clear_value v; intro hv)
    | (intro v; clear_value v) | intro v
    | (with_reducible apply Within.step (State.loseReport_within ..); rotate_left; decide +kernel)
    | (with_reducible apply Within.step (State.emit_within ..); rotate_left; decide +kernel)
    | (with_reducible apply Within.step (State.wr_within ..); rotate_left; decide +kernel)
    | (with_reducible apply Within.step (State.count_within ..); rotate_left; decide +kernel)
    | (with_reducible apply Within.step (State.setPend_within ..); rotate_left; decide +kernel) | split

def State.writeReports_scope : Scope := ⟨[.evt, .tacc, .tb, .out], [R.TBS_RPT_PEND, R.TBS_EVT_STAT, R.TBS_RPT_PROD,
    R.TBS_RPT_STAT, R.EVT_STAT], []⟩
theorem State.writeReports_within (s : State) : Within State.writeReports_scope s (State.writeReports s) := by
  unfold State.writeReports
  repeat' first
    | (with_reducible assumption) | (with_reducible apply Within.refl) | lift_lets
    | (intro v; refine Within.cut (p := Within State.writeReports_scope s v) ?_ ?_; unfold v; rotate_left; clear_value v; intro hv)
    | (intro v; clear_value v) | intro v
    | (with_reducible apply Within.step (State.updTb_within ..); rotate_left; decide +kernel)
    | (with_reducible apply Within.step (State.loseReport_within ..); rotate_left; decide +kernel)
    | (with_reducible apply Within.step (State.writeReport_within ..); rotate_left; decide +kernel)
    | (with_reducible apply Within.each; rotate_left; intro x a hx; try beta_reduce; rotate_left)
    | (with_reducible apply Within.foldl; rotate_left; intro x a hx; try beta_reduce; rotate_left) | split

def State.failReport_scope : Scope := ⟨[.tb], [], []⟩
theorem State.failReport_within (s : State) (p i : Nat) : Within State.failReport_scope s (State.failReport s p i) :=
    by
  unfold State.failReport
  repeat' first
    | (with_reducible assumption) | (with_reducible apply Within.refl)
    | (with_reducible apply Within.step (State.updTb_within ..); rotate_left; decide +kernel) | split

def State.report_scope : Scope := ⟨[.tb], [], []⟩
theorem State.report_within (s : State) (p dir : Nat) (ptp : List Byte) (stamp : Int) (aborted : Bool) (began : Inst)
    : Within State.report_scope s (State.report s p dir ptp stamp aborted began) := by
  unfold State.report
  repeat' first
    | (with_reducible assumption) | (with_reducible apply Within.refl)
    | (with_reducible apply Within.step (State.updTb_within ..); rotate_left; decide +kernel) | split

end Sys2Proof.Machine
end

