-- ==== Sys2Proof/Laws/FramesTwinOps.lean ====
section
/-! SUPPORT. Sys2Proof/Laws/FramesTwinOps.lean: what each operation of Machine/TwinOps.lean may change. -/
set_option Elab.async false
set_option linter.unusedTactic false
set_option linter.unreachableTactic false
set_option linter.unnecessarySeqFocus false
namespace Sys2Proof.Machine

def State.setTwSt_scope : Scope := ⟨[], [R.TWN_STAT], []⟩
theorem State.setTwSt_within (s : State) (v : Nat) : Within State.setTwSt_scope s (State.setTwSt s v) := by
  unfold State.setTwSt
  repeat' first
    | (with_reducible assumption) | (with_reducible apply Within.refl)
    | (with_reducible apply Within.step (State.wr_within ..); rotate_left; decide +kernel) | split

def State.updMlane_scope : Scope := ⟨[.twin], [], []⟩
theorem State.updMlane_within (s : State) (i : Nat) (f : MLane → MLane) : Within State.updMlane_scope s
    (State.updMlane s i f) := by
  unfold State.updMlane
  repeat' first
    | (with_reducible assumption) | (with_reducible apply Within.refl)
    | (with_reducible apply Within.step (State.updTwin_within ..); rotate_left; decide +kernel) | split

def State.updInq_scope : Scope := ⟨[.twin], [R.TWN_MIRROR_STAT], []⟩
theorem State.updInq_within (s : State) (f : List TxnIn → List TxnIn) : Within State.updInq_scope s (State.updInq s f)
    := by
  unfold State.updInq
  repeat' first
    | (with_reducible assumption) | (with_reducible apply Within.refl) | lift_lets
    | (intro v; refine Within.cut (p := Within State.updInq_scope s v) ?_ ?_; unfold v; rotate_left; clear_value v; intro hv)
    | (intro v; clear_value v) | intro v
    | (with_reducible apply Within.step (State.updTwin_within ..); rotate_left; decide +kernel)
    | (with_reducible apply Within.step (State.wr_within ..); rotate_left; decide +kernel) | split

def State.dropAddrs_scope : Scope := ⟨[.gr], [], []⟩
theorem State.dropAddrs_within (s : State) : Within State.dropAddrs_scope s (State.dropAddrs s) := by
  unfold State.dropAddrs
  repeat' first
    | (with_reducible assumption) | (with_reducible apply Within.refl)
    | (with_reducible apply Within.step (State.updTable_within ..); rotate_left; decide +kernel)
    | (with_reducible apply Within.each; rotate_left; intro x a hx; try beta_reduce; rotate_left)
    | (with_reducible apply Within.foldl; rotate_left; intro x a hx; try beta_reduce; rotate_left) | split

def State.dropRequests_scope : Scope := ⟨[.cars], [], []⟩
theorem State.dropRequests_within (s : State) : Within State.dropRequests_scope s (State.dropRequests s) := by
  unfold State.dropRequests
  repeat' first
    | (with_reducible assumption) | (with_reducible apply Within.refl)
    | (with_reducible apply Within.step (State.updCar_within ..); rotate_left; decide +kernel)
    | (with_reducible apply Within.each; rotate_left; intro x a hx; try beta_reduce; rotate_left)
    | (with_reducible apply Within.foldl; rotate_left; intro x a hx; try beta_reduce; rotate_left) | split

def State.setRole_scope : Scope := ⟨[.gr, .cars, .twin, .out], [R.TWN_STAT], []⟩
theorem State.setRole_within (s : State) (lead : Bool) : Within State.setRole_scope s (State.setRole s lead) := by
  unfold State.setRole
  repeat' first
    | (with_reducible assumption) | (with_reducible apply Within.refl) | lift_lets
    | (intro v; refine Within.cut (p := Within State.setRole_scope s v) ?_ ?_; unfold v; rotate_left; clear_value v; intro hv)
    | (intro v; clear_value v) | intro v
    | (with_reducible apply Within.step (State.wrB_within ..); rotate_left; decide +kernel)
    | (with_reducible apply Within.step (State.emit_within ..); rotate_left; decide +kernel)
    | (with_reducible apply Within.step (State.dropAddrs_within ..); rotate_left; decide +kernel)
    | (with_reducible apply Within.step (State.updTwin_within ..); rotate_left; decide +kernel)
    | (with_reducible apply Within.step (State.dropRequests_within ..); rotate_left; decide +kernel) | split

def State.twinHealth_scope : Scope := ⟨[.evt, .twin], [R.TWN_STAT, R.TWN_HEALTH, R.TWN_EVT_STAT], []⟩
theorem State.twinHealth_within (s : State) : Within State.twinHealth_scope s (State.twinHealth s) := by
  unfold State.twinHealth
  repeat' first
    | (with_reducible assumption) | (with_reducible apply Within.refl) | lift_lets
    | (intro v; refine Within.cut (p := Within State.twinHealth_scope s v) ?_ ?_; unfold v; rotate_left; clear_value v; intro hv)
    | (intro v; clear_value v) | intro v
    | (with_reducible apply Within.step (State.wr_within ..); rotate_left; decide +kernel)
    | (with_reducible apply Within.step (State.wrB_within ..); rotate_left; decide +kernel)
    | (with_reducible apply Within.step (State.raise_within ..); rotate_left; decide +kernel)
    | (with_reducible apply Within.step (State.updTwin_within ..); rotate_left; decide +kernel) | split

def State.onMirror_scope : Scope := ⟨[.twin, .out], [], []⟩
theorem State.onMirror_within (s : State) (i : Nat) (m : List Byte) : Within State.onMirror_scope s (State.onMirror s
    i m) := by
  unfold State.onMirror
  repeat' first
    | (with_reducible assumption) | (with_reducible apply Within.refl) | lift_lets
    | (intro v; refine Within.cut (p := Within State.onMirror_scope s v) ?_ ?_; unfold v; rotate_left; clear_value v; intro hv)
    | (intro v; clear_value v) | intro v
    | (with_reducible apply Within.step (State.emit_within ..); rotate_left; decide +kernel)
    | (with_reducible apply Within.step (State.updMlane_within ..); rotate_left; decide +kernel)
    | (with_reducible apply Within.each; rotate_left; intro x a hx; try beta_reduce; rotate_left)
    | (with_reducible apply Within.foldl; rotate_left; intro x a hx; try beta_reduce; rotate_left) | split

def State.sendMsg_scope : Scope := ⟨[.evt, .tacc, .twin, .out], [R.EVT_STAT], []⟩
theorem State.sendMsg_within (s : State) (ty : Nat) (payload : List Byte) : Within State.sendMsg_scope s
    (State.sendMsg s ty payload) := by
  unfold State.sendMsg
  repeat' first
    | (with_reducible assumption) | (with_reducible apply Within.refl) | lift_lets
    | (intro v; refine Within.cut (p := Within State.sendMsg_scope s v) ?_ ?_; unfold v; rotate_left; clear_value v; intro hv)
    | (intro v; clear_value v) | intro v
    | (with_reducible apply Within.step (State.updTwin_within ..); rotate_left; decide +kernel)
    | (with_reducible apply Within.step (State.onMirror_within ..); rotate_left; decide +kernel)
    | (with_reducible apply Within.step (State.count_within ..); rotate_left; decide +kernel)
    | (with_reducible apply Within.each; rotate_left; intro x a hx; try beta_reduce; rotate_left)
    | (with_reducible apply Within.foldl; rotate_left; intro x a hx; try beta_reduce; rotate_left) | split

def State.sendHb_scope : Scope := ⟨[.evt, .tacc, .twin, .out], [R.EVT_STAT], []⟩
theorem State.sendHb_within (s : State) (relq take : Bool) : Within State.sendHb_scope s (State.sendHb s relq take) :=
    by
  unfold State.sendHb
  repeat' first
    | (with_reducible assumption) | (with_reducible apply Within.refl) | lift_lets
    | (intro v; refine Within.cut (p := Within State.sendHb_scope s v) ?_ ?_; unfold v; rotate_left; clear_value v; intro hv)
    | (intro v; clear_value v) | intro v
    | (with_reducible apply Within.step (State.onMirror_within ..); rotate_left; decide +kernel)
    | (with_reducible apply Within.step (State.updMlane_within ..); rotate_left; decide +kernel)
    | (with_reducible apply Within.step (State.count_within ..); rotate_left; decide +kernel)
    | (with_reducible apply Within.step (State.updTwin_within ..); rotate_left; decide +kernel)
    | (with_reducible apply Within.each; rotate_left; intro x a hx; try beta_reduce; rotate_left)
    | (with_reducible apply Within.foldl; rotate_left; intro x a hx; try beta_reduce; rotate_left) | split

def State.noteSent_scope : Scope := ⟨[.twin], [], []⟩
theorem State.noteSent_within (s : State) (e : Nat) : Within State.noteSent_scope s (State.noteSent s e) := by
  unfold State.noteSent
  repeat' first
    | (with_reducible assumption) | (with_reducible apply Within.refl) | lift_lets
    | (intro v; refine Within.cut (p := Within State.noteSent_scope s v) ?_ ?_; unfold v; rotate_left; clear_value v; intro hv)
    | (intro v; clear_value v) | intro v
    | (with_reducible apply Within.step (State.updTwin_within ..); rotate_left; decide +kernel) | split

def State.relinquish_scope : Scope := ⟨[.evt, .tacc, .twin, .out], [R.EVT_STAT, R.TWN_STAT], []⟩
theorem State.relinquish_within (s : State) (mbx : Option (Fin 16)) : Within State.relinquish_scope s
    (State.relinquish s mbx) := by
  unfold State.relinquish
  repeat' first
    | (with_reducible assumption) | (with_reducible apply Within.refl) | lift_lets
    | (intro v; refine Within.cut (p := Within State.relinquish_scope s v) ?_ ?_; unfold v; rotate_left; clear_value v; intro hv)
    | (intro v; clear_value v) | intro v
    | (with_reducible apply Within.step (State.updTwin_within ..); rotate_left; decide +kernel)
    | (with_reducible apply Within.step (State.wr_within ..); rotate_left; decide +kernel)
    | (with_reducible apply Within.step (State.sendHb_within ..); rotate_left; decide +kernel) | split

def State.mirrorTxn_scope : Scope := ⟨[.evt, .tacc, .twin, .out], [R.EVT_STAT, R.TWN_TXN_STAT], []⟩
theorem State.mirrorTxn_within (s : State) (kind when_ : Nat) (apply data : List Byte) : Within State.mirrorTxn_scope
    s (State.mirrorTxn s kind when_ apply data) := by
  unfold State.mirrorTxn
  repeat' first
    | (with_reducible assumption) | (with_reducible apply Within.refl) | lift_lets
    | (intro v; refine Within.cut (p := Within State.mirrorTxn_scope s v) ?_ ?_; unfold v; rotate_left; clear_value v; intro hv)
    | (intro v; clear_value v) | intro v
    | (with_reducible apply Within.step (State.wr_within ..); rotate_left; decide +kernel)
    | (with_reducible apply Within.step (State.updTwin_within ..); rotate_left; decide +kernel)
    | (with_reducible apply Within.step (State.sendMsg_within ..); rotate_left; decide +kernel)
    | (with_reducible apply Within.each; rotate_left; intro x a hx; try beta_reduce; rotate_left)
    | (with_reducible apply Within.foldl; rotate_left; intro x a hx; try beta_reduce; rotate_left) | split

def State.mirrorTxns_scope : Scope := ⟨[.evt, .tacc, .twin, .out], [R.EVT_STAT, R.TWN_TXN_STAT], []⟩
theorem State.mirrorTxns_within (s : State) (kind max : Nat) (data : List Byte) : Within State.mirrorTxns_scope s
    (State.mirrorTxns s kind max data) := by
  unfold State.mirrorTxns
  repeat' first
    | (with_reducible assumption) | (with_reducible apply Within.refl)
    | (with_reducible apply Within.step (State.mirrorTxn_within ..); rotate_left; decide +kernel)
    | (with_reducible apply Within.each; rotate_left; intro x a hx; try beta_reduce; rotate_left)
    | (with_reducible apply Within.foldl; rotate_left; intro x a hx; try beta_reduce; rotate_left) | split

def State.mirrorCmd_scope : Scope := ⟨[.evt, .tacc, .twin, .out], [R.EVT_STAT, R.TWN_TXN_STAT], []⟩
theorem State.mirrorCmd_within (s : State) (opc : Nat) (payload : List Byte) : Within State.mirrorCmd_scope s
    (State.mirrorCmd s opc payload) := by
  unfold State.mirrorCmd
  repeat' first
    | (with_reducible assumption) | (with_reducible apply Within.refl)
    | (with_reducible apply Within.step (State.mirrorTxn_within ..); rotate_left; decide +kernel) | split

end Sys2Proof.Machine
end

