-- ==== Sys2Proof/Laws/FramesControl.lean ====
section
/-! SUPPORT. Sys2Proof/Laws/FramesControl.lean: what each operation of Machine/Control.lean may change. -/
set_option Elab.async false
set_option linter.unusedTactic false
set_option linter.unreachableTactic false
set_option linter.unnecessarySeqFocus false
namespace Sys2Proof.Machine

def State.rampRail_scope : Scope := ⟨[.pwr], [R.PWR_RAIL_STAT, R.PWR_CLK_STAT], []⟩
theorem State.rampRail_within (s : State) (r : Nat) : Within State.rampRail_scope s (State.rampRail s r) := by
  unfold State.rampRail
  repeat' first
    | (with_reducible assumption) | (with_reducible apply Within.refl) | lift_lets
    | (intro v; refine Within.cut (p := Within State.rampRail_scope s v) ?_ ?_; unfold v; rotate_left; clear_value v; intro hv)
    | (intro v; clear_value v) | intro v
    | (with_reducible apply Within.step (State.wr_within ..); rotate_left; decide +kernel)
    | (with_reducible apply Within.step (State.updPwr_within ..); rotate_left; decide +kernel) | split

def State.optLevels_scope : Scope := ⟨[], [R.PRT_OPT_STAT], []⟩
theorem State.optLevels_within (s : State) : Within State.optLevels_scope s (State.optLevels s) := by
  unfold State.optLevels
  repeat' first
    | (with_reducible assumption) | (with_reducible apply Within.refl)
    | (with_reducible apply Within.step (State.wr_within ..); rotate_left; decide +kernel) | split

def State.railUp_scope : Scope := ⟨[.pwr], [R.PRT_OPT_STAT, R.PWR_RAIL_STAT], []⟩
theorem State.railUp_within (s : State) (r : Nat) : Within State.railUp_scope s (State.railUp s r) := by
  unfold State.railUp
  repeat' first
    | (with_reducible assumption) | (with_reducible apply Within.refl) | lift_lets
    | (intro v; refine Within.cut (p := Within State.railUp_scope s v) ?_ ?_; unfold v; rotate_left; clear_value v; intro hv)
    | (intro v; clear_value v) | intro v
    | (with_reducible apply Within.step (State.wr_within ..); rotate_left; decide +kernel)
    | (with_reducible apply Within.step (State.updPwr_within ..); rotate_left; decide +kernel)
    | (with_reducible apply Within.step (State.optLevels_within ..); rotate_left; decide +kernel) | split

def State.startTrans_scope : Scope := ⟨[.pwr, .evt, .tacc, .twin, .out], [R.CAL_STAT, R.EVT_STAT, R.TWN_STAT,
    R.PWR_MODE_CTL, R.PWR_RAIL_STAT, R.PWR_CLK_STAT], []⟩
theorem State.startTrans_within (s : State) (m : Fin 6) : Within State.startTrans_scope s (State.startTrans s m) := by
  unfold State.startTrans
  repeat' first
    | (with_reducible assumption) | (with_reducible apply Within.refl) | lift_lets
    | (intro v; refine Within.cut (p := Within State.startTrans_scope s v) ?_ ?_; unfold v; rotate_left; clear_value v; intro hv)
    | (intro v; clear_value v) | intro v
    | (with_reducible apply Within.step (State.relinquish_within ..); rotate_left; decide +kernel)
    | (with_reducible apply Within.step (State.wr_within ..); rotate_left; decide +kernel)
    | (with_reducible apply Within.step (State.updPwr_within ..); rotate_left; decide +kernel)
    | (with_reducible apply Within.step (State.rampRail_within ..); rotate_left; decide +kernel)
    | (with_reducible apply Within.each; rotate_left; intro x a hx; try beta_reduce; rotate_left)
    | (with_reducible apply Within.foldl; rotate_left; intro x a hx; try beta_reduce; rotate_left) | split

def State.plan_scope : Scope := ⟨[.pwr, .evt, .tacc, .twin, .out], [R.CAL_STAT, R.EVT_STAT, R.TWN_STAT,
    R.PWR_MODE_CTL, R.PWR_RAIL_STAT, R.PWR_CLK_STAT], []⟩
theorem State.plan_within (s : State) : Within State.plan_scope s (State.plan s) := by
  unfold State.plan
  repeat' first
    | (with_reducible assumption) | (with_reducible apply Within.refl)
    | (with_reducible apply Within.step (State.startTrans_within ..); rotate_left; decide +kernel) | split

def State.tdcNote_scope : Scope := ⟨[.evt], [R.TDC_STAT, R.TDC_EVT_STAT], []⟩
theorem State.tdcNote_within (s : State) : Within State.tdcNote_scope s (State.tdcNote s) := by
  unfold State.tdcNote
  repeat' first
    | (with_reducible assumption) | (with_reducible apply Within.refl) | lift_lets
    | (intro v; refine Within.cut (p := Within State.tdcNote_scope s v) ?_ ?_; unfold v; rotate_left; clear_value v; intro hv)
    | (intro v; clear_value v) | intro v
    | (with_reducible apply Within.step (State.wr_within ..); rotate_left; decide +kernel)
    | (with_reducible apply Within.step (State.wrB_within ..); rotate_left; decide +kernel)
    | (with_reducible apply Within.step (State.raise_within ..); rotate_left; decide +kernel) | split

def State.abortCal_scope : Scope := ⟨[.evt, .tdc, .cal], [R.TDC_STAT, R.TDC_EVT_STAT, R.CAL_STAT, R.CAL_EVT_STAT,
    R.PWR_MODE_STAT], []⟩
theorem State.abortCal_within (s : State) : Within State.abortCal_scope s (State.abortCal s) := by
  unfold State.abortCal
  repeat' first
    | (with_reducible assumption) | (with_reducible apply Within.refl) | lift_lets
    | (intro v; refine Within.cut (p := Within State.abortCal_scope s v) ?_ ?_; unfold v; rotate_left; clear_value v; intro hv)
    | (intro v; clear_value v) | intro v
    | (with_reducible apply Within.step (State.wr_within ..); rotate_left; decide +kernel)
    | (with_reducible apply Within.step (State.updTdc_within ..); rotate_left; decide +kernel)
    | (with_reducible apply Within.step (State.updCal_within ..); rotate_left; decide +kernel)
    | (with_reducible apply Within.step (State.updPath_within ..); rotate_left; decide +kernel)
    | (with_reducible apply Within.step (State.tdcNote_within ..); rotate_left; decide +kernel)
    | (with_reducible apply Within.step (State.raise_within ..); rotate_left; decide +kernel)
    | (with_reducible apply Within.each; rotate_left; intro x a hx; try beta_reduce; rotate_left)
    | (with_reducible apply Within.foldl; rotate_left; intro x a hx; try beta_reduce; rotate_left) | split

def State.isolate_scope : Scope := ⟨[.pwr, .evt, .tacc, .tdc, .cal, .twin, .out], [R.TDC_STAT, R.TDC_EVT_STAT,
    R.CAL_STAT, R.CAL_EVT_STAT, R.EVT_STAT, R.TWN_STAT, R.PWR_MODE_CTL, R.PWR_MODE_STAT, R.PWR_RAIL_STAT,
    R.PWR_CLK_STAT], []⟩
theorem State.isolate_within (s : State) (cause : Nat) : Within State.isolate_scope s (State.isolate s cause) := by
  unfold State.isolate
  repeat' first
    | (with_reducible assumption) | (with_reducible apply Within.refl) | lift_lets
    | (intro v; refine Within.cut (p := Within State.isolate_scope s v) ?_ ?_; unfold v; rotate_left; clear_value v; intro hv)
    | (intro v; clear_value v) | intro v
    | (with_reducible apply Within.step (State.wr_within ..); rotate_left; decide +kernel)
    | (with_reducible apply Within.step (State.updPwr_within ..); rotate_left; decide +kernel)
    | (with_reducible apply Within.step (State.abortCal_within ..); rotate_left; decide +kernel)
    | (with_reducible apply Within.step (State.startTrans_within ..); rotate_left; decide +kernel) | split

def State.tapLeave_scope : Scope := ⟨[.pwr], [], []⟩
theorem State.tapLeave_within (s : State) : Within State.tapLeave_scope s (State.tapLeave s) := by
  unfold State.tapLeave
  repeat' first
    | (with_reducible assumption) | (with_reducible apply Within.refl)
    | (with_reducible apply Within.step (State.updPwr_within ..); rotate_left; decide +kernel) | split

def State.transientFault_scope : Scope := ⟨[.evt], [R.EVT_STAT, R.EVT_FCNT], []⟩
theorem State.transientFault_within (s : State) (c : Nat) : Within State.transientFault_scope s (State.transientFault
    s c) := by
  unfold State.transientFault
  repeat' first
    | (with_reducible assumption) | (with_reducible apply Within.refl)
    | (with_reducible apply Within.step (State.addSat_within ..); rotate_left; decide +kernel)
    | (with_reducible apply Within.step (State.raise_within ..); rotate_left; decide +kernel) | split

def State.lastingFault_scope : Scope := ⟨[.pwr, .evt, .tacc, .tdc, .cal, .twin, .out], [R.TDC_STAT, R.TDC_EVT_STAT,
    R.CAL_STAT, R.CAL_EVT_STAT, R.EVT_LAST_FAULT, R.EVT_STAT, R.TWN_STAT, R.PWR_MODE_CTL, R.PWR_MODE_STAT,
    R.PWR_RAIL_STAT, R.PWR_CLK_STAT, R.EVT_LASTING, R.EVT_FCNT], []⟩
theorem State.lastingFault_within (s : State) (c detail : Nat) (unrepaired : Bool) : Within State.lastingFault_scope s
    (State.lastingFault s c detail unrepaired) := by
  unfold State.lastingFault
  repeat' first
    | (with_reducible assumption) | (with_reducible apply Within.refl) | lift_lets
    | (intro v; refine Within.cut (p := Within State.lastingFault_scope s v) ?_ ?_; unfold v; rotate_left; clear_value v; intro hv)
    | (intro v; clear_value v) | intro v
    | (with_reducible apply Within.step (State.addSat_within ..); rotate_left; decide +kernel)
    | (with_reducible apply Within.step (State.setReg_within ..); rotate_left; decide +kernel)
    | (with_reducible apply Within.step (State.raiseObj_within ..); rotate_left; decide +kernel)
    | (with_reducible apply Within.step (State.updEvt_within ..); rotate_left; decide +kernel)
    | (with_reducible apply Within.step (State.wr_within ..); rotate_left; decide +kernel)
    | (with_reducible apply Within.step (State.isolate_within ..); rotate_left; decide +kernel) | split

end Sys2Proof.Machine
end

