-- ==== Sys2Proof/Laws/FramesMailbox.lean ====
section
/-! SUPPORT. Sys2Proof/Laws/FramesMailbox.lean: what each operation of Machine/Mailbox.lean may change. -/
set_option Elab.async false
set_option linter.unusedTactic false
set_option linter.unreachableTactic false
set_option linter.unnecessarySeqFocus false
namespace Sys2Proof.Machine

def State.setMst_scope : Scope := ⟨[], [R.MBX_STATE], []⟩
theorem State.setMst_within (s : State) (m v : Nat) : Within State.setMst_scope s (State.setMst s m v) := by
  unfold State.setMst
  repeat' first
    | (with_reducible assumption) | (with_reducible apply Within.refl)
    | (with_reducible apply Within.step (State.setReg_within ..); rotate_left; decide +kernel) | split

def State.freeVersions_scope : Scope := ⟨[.gr], [R.FWD_VER_STAT], []⟩
theorem State.freeVersions_within (s : State) : Within State.freeVersions_scope s (State.freeVersions s) := by
  unfold State.freeVersions
  repeat' first
    | (with_reducible assumption) | (with_reducible apply Within.refl) | lift_lets
    | (intro v; refine Within.cut (p := Within State.freeVersions_scope s v) ?_ ?_; unfold v; rotate_left; clear_value v; intro hv)
    | (intro v; clear_value v) | intro v
    | (with_reducible apply Within.step (State.updGr_within ..); rotate_left; decide +kernel)
    | (with_reducible apply Within.step (State.wr_within ..); rotate_left; decide +kernel) | split

def State.takeOrd_scope : Scope := ⟨[.nextOrd], [], []⟩
theorem State.takeOrd_within (s : State) : Within State.takeOrd_scope s (State.takeOrd s) := by
  unfold State.takeOrd
  repeat' first
    | (with_reducible assumption) | (with_reducible apply Within.refl) | split
    | (with_reducible apply Within.step (Within.put_nextOrd ..); rotate_left; decide +kernel)

def State.noteFence_scope : Scope := ⟨[.nextOrd, .gr], [], []⟩
theorem State.noteFence_within (s : State) (m : Nat) (drain : Bool) : Within State.noteFence_scope s (State.noteFence
    s m drain) := by
  unfold State.noteFence
  repeat' first
    | (with_reducible assumption) | (with_reducible apply Within.refl) | lift_lets
    | (intro v; refine Within.cut (p := Within State.noteFence_scope s v) ?_ ?_; unfold v; rotate_left; clear_value v; intro hv)
    | (intro v; clear_value v) | intro v
    | (with_reducible apply Within.step (State.updMbx_within ..); rotate_left; decide +kernel)
    | (with_reducible apply Within.step (State.takeOrd_within ..); rotate_left; decide +kernel) | split

def State.noteFences_scope : Scope := ⟨[.nextOrd, .gr], [], []⟩
theorem State.noteFences_within (s : State) : Within State.noteFences_scope s (State.noteFences s) := by
  unfold State.noteFences
  repeat' first
    | (with_reducible assumption) | (with_reducible apply Within.refl)
    | (with_reducible apply Within.step (State.noteFence_within ..); rotate_left; decide +kernel)
    | (with_reducible apply Within.each; rotate_left; intro x a hx; try beta_reduce; rotate_left)
    | (with_reducible apply Within.foldl; rotate_left; intro x a hx; try beta_reduce; rotate_left) | split

def State.noteAwake_scope : Scope := ⟨[], [R.MBX_GRANGE_STAT], []⟩
theorem State.noteAwake_within (s : State) : Within State.noteAwake_scope s (State.noteAwake s) := by
  unfold State.noteAwake
  repeat' first
    | (with_reducible assumption) | (with_reducible apply Within.refl) | lift_lets
    | (intro v; refine Within.cut (p := Within State.noteAwake_scope s v) ?_ ?_; unfold v; rotate_left; clear_value v; intro hv)
    | (intro v; clear_value v) | intro v
    | (with_reducible apply Within.step (State.running_within ..); rotate_left; decide +kernel)
    | (with_reducible apply Within.step (State.wrB_within ..); rotate_left; decide +kernel) | split

def State.settle_scope : Scope := ⟨[.nextOrd, .gr, .evt, .out], [R.MBX_GRANGE_STAT, R.FWD_VER_STAT], []⟩
theorem State.settle_within (s : State) : Within State.settle_scope s (State.settle s) := by
  unfold State.settle
  repeat' first
    | (with_reducible assumption) | (with_reducible apply Within.refl)
    | (with_reducible apply Within.step (State.freeVersions_within ..); rotate_left; decide +kernel)
    | (with_reducible apply Within.step (State.noteFences_within ..); rotate_left; decide +kernel)
    | (with_reducible apply Within.step (State.noteAwake_within ..); rotate_left; decide +kernel)
    | (with_reducible apply Within.step (State.vectors_within ..); rotate_left; decide +kernel) | split

def State.writeDone_scope : Scope := ⟨[.mem, .gr, .evt, .out], [R.MBX_STATE, R.MBX_RETRY_STAT, R.EVT_STAT,
    R.EVT_FCNT], []⟩
theorem State.writeDone_within (s : State) (m : Nat) (status : Nat) (detail : Nat) (result : List Byte) : Within
    State.writeDone_scope s (State.writeDone s m status detail result) := by
  unfold State.writeDone
  repeat' first
    | (with_reducible assumption) | (with_reducible apply Within.refl) | lift_lets
    | (intro v; refine Within.cut (p := Within State.writeDone_scope s v) ?_ ?_; unfold v; rotate_left; clear_value v; intro hv)
    | (intro v; clear_value v) | intro v
    | (with_reducible apply Within.step (State.addSat_within ..); rotate_left; decide +kernel)
    | (with_reducible apply Within.step (State.transientFault_within ..); rotate_left; decide +kernel)
    | (with_reducible apply Within.step (State.take_within ..); rotate_left; decide +kernel)
    | (with_reducible apply Within.step (State.setMb_within ..); rotate_left; decide +kernel)
    | (with_reducible apply Within.step (State.setMst_within ..); rotate_left; decide +kernel)
    | (with_reducible apply Within.step (State.updMbx_within ..); rotate_left; decide +kernel)
    | (with_reducible apply Within.step (State.msix_within ..); rotate_left; decide +kernel) | split

def State.complete_scope : Scope := ⟨[.mem, .gr, .evt, .out], [R.MBX_STATE, R.MBX_RETRY_STAT, R.EVT_STAT, R.EVT_FCNT],
    []⟩
theorem State.complete_within (s : State) (m : Nat) (status : Nat) (detail : Nat) (result : List Byte) : Within
    State.complete_scope s (State.complete s m status detail result) := by
  unfold State.complete
  repeat' first
    | (with_reducible assumption) | (with_reducible apply Within.refl)
    | (with_reducible apply Within.step (State.running_within ..); rotate_left; decide +kernel)
    | (with_reducible apply Within.step (State.updMbx_within ..); rotate_left; decide +kernel)
    | (with_reducible apply Within.step (State.writeDone_within ..); rotate_left; decide +kernel) | split

def State.running_scope : Scope := ⟨[.gr], [], []⟩
theorem State.running_within (s : State) (m : Nat) (j : Job) (final : Bool) : Within State.running_scope s
    (State.running s m j final) := by
  unfold State.running
  repeat' first
    | (with_reducible assumption) | (with_reducible apply Within.refl)
    | (with_reducible apply Within.step (State.updMbx_within ..); rotate_left; decide +kernel) | split

def State.cmdLasting_scope : Scope := ⟨[.mem, .pwr, .gr, .evt, .tacc, .tdc, .cal, .twin, .out], [R.MBX_STATE,
    R.MBX_RETRY_STAT, R.TDC_STAT, R.TDC_EVT_STAT, R.CAL_STAT, R.CAL_EVT_STAT, R.EVT_LAST_FAULT, R.EVT_STAT,
    R.TWN_STAT, R.PWR_MODE_CTL, R.PWR_MODE_STAT, R.PWR_RAIL_STAT, R.PWR_CLK_STAT, R.EVT_LASTING, R.EVT_FCNT], []⟩
theorem State.cmdLasting_within (s : State) (m : Nat) : Within State.cmdLasting_scope s (State.cmdLasting s m) := by
  unfold State.cmdLasting
  repeat' first
    | (with_reducible assumption) | (with_reducible apply Within.refl) | lift_lets
    | (intro v; refine Within.cut (p := Within State.cmdLasting_scope s v) ?_ ?_; unfold v; rotate_left; clear_value v; intro hv)
    | (intro v; clear_value v) | intro v
    | (with_reducible apply Within.step (State.addSat_within ..); rotate_left; decide +kernel)
    | (with_reducible apply Within.step (State.lastingFault_within ..); rotate_left; decide +kernel)
    | (with_reducible apply Within.step (State.complete_within ..); rotate_left; decide +kernel) | split

def State.cmd_scope : Scope := ⟨[.mem, .pwr, .gr, .evt, .tacc, .tdc, .cal, .twin, .out], [R.MBX_STATE,
    R.MBX_RETRY_STAT, R.TDC_STAT, R.TDC_EVT_STAT, R.CAL_STAT, R.CAL_EVT_STAT, R.EVT_LAST_FAULT, R.EVT_STAT,
    R.TWN_STAT, R.PWR_MODE_CTL, R.PWR_MODE_STAT, R.PWR_RAIL_STAT, R.PWR_CLK_STAT, R.EVT_LASTING, R.EVT_FCNT], []⟩
/-- The frame of a mailbox command changes what its scope says, and what its body does. -/
theorem State.cmd_within {sc : Scope} (s : State) (m : Fin 16) (opc : Nat) (x : Exec) (checks : State → List Check)
    (body : State → State) (hb : ∀ u, Within sc s u → Within sc s (body u))
    (hs : (State.cmd_scope.regs.all (fun r => decide (0 < r.stride)) && State.cmd_scope.le sc) = true) :
    Within sc s (s.cmd m opc x checks body) := by
  have up : ∀ u, Within State.cmd_scope s u → Within sc s u := fun u h => h.step (.refl _ _) hs
  unfold State.cmd
  split
  · exact .refl _ _
  · have h1 : Within State.cmd_scope s (s.setMst m mRUNNING) := (State.setMst_within ..).step (.refl _ _) (by decide +kernel)
    generalize s.setMst m mRUNNING = a at h1
    extract_lets a'
    split
    · exact up _ ((State.complete_within ..).step h1 (by decide +kernel))
    · split
      · exact up _ ((State.complete_within ..).step h1 (by decide +kernel))
      · split
        · exact hb _ (up _ h1)
        · exact up _ ((State.cmdLasting_within ..).step h1 (by decide +kernel))
        · exact up _ ((State.cmdLasting_within ..).step h1 (by decide +kernel))
        · exact hb _ (up _ ((State.updMbx_within ..).step h1 (by decide +kernel)))

def State.doorbell_scope : Scope := ⟨[.nextOrd, .mem, .gr], [R.MBX_STATE, R.MBX_ERR_STAT], []⟩
theorem State.doorbell_within (s : State) (ring : Word) : Within State.doorbell_scope s (State.doorbell s ring) := by
  unfold State.doorbell
  repeat' first
    | (with_reducible assumption) | (with_reducible apply Within.refl) | lift_lets
    | (intro v; refine Within.cut (p := Within State.doorbell_scope s v) ?_ ?_; unfold v; rotate_left; clear_value v; intro hv)
    | (intro v; clear_value v) | intro v
    | (with_reducible apply Within.step (State.setMb_within ..); rotate_left; decide +kernel)
    | (with_reducible apply Within.step (State.setMst_within ..); rotate_left; decide +kernel)
    | (with_reducible apply Within.step (State.updMbx_within ..); rotate_left; decide +kernel)
    | (with_reducible apply Within.step (State.addSat_within ..); rotate_left; decide +kernel)
    | (with_reducible apply Within.each; rotate_left; intro x a hx; try beta_reduce; rotate_left)
    | (with_reducible apply Within.foldl; rotate_left; intro x a hx; try beta_reduce; rotate_left) | split
    | (with_reducible apply Within.step (Within.put_nextOrd ..); rotate_left; decide +kernel)

def State.mbxWrite_scope : Scope := ⟨[.mem, .evt], [R.MBX_ERR_STAT, R.EVT_RESERVED_OFS, R.EVT_STAT], []⟩
theorem State.mbxWrite_within (s : State) (o : Nat) (data : List Byte) : Within State.mbxWrite_scope s (State.mbxWrite
    s o data) := by
  unfold State.mbxWrite
  repeat' first
    | (with_reducible assumption) | (with_reducible apply Within.refl) | lift_lets
    | (intro v; refine Within.cut (p := Within State.mbxWrite_scope s v) ?_ ?_; unfold v; rotate_left; clear_value v; intro hv)
    | (intro v; clear_value v) | intro v
    | (with_reducible apply Within.step (State.reservedEnc_within ..); rotate_left; decide +kernel)
    | (with_reducible apply Within.step (State.addSat_within ..); rotate_left; decide +kernel)
    | (with_reducible apply Within.step (State.setMb_within ..); rotate_left; decide +kernel) | split

end Sys2Proof.Machine
end

