-- ==== Sys2Proof/Laws/FramesGranary.lean ====
section
/-! SUPPORT. Sys2Proof/Laws/FramesGranary.lean: what each operation of Machine/Granary.lean may change. -/
set_option Elab.async false
set_option linter.unusedTactic false
set_option linter.unreachableTactic false
set_option linter.unnecessarySeqFocus false
namespace Sys2Proof.Machine

def State.setTag_scope : Scope := ⟨[.grn], [], []⟩
theorem State.setTag_within (s : State) (p b : Nat) (t : Tag) : Within State.setTag_scope s (State.setTag s p b t) :=
    by
  unfold State.setTag
  repeat' first
    | (with_reducible assumption) | (with_reducible apply Within.refl)
    | (with_reducible apply Within.step (State.updGrn_within ..); rotate_left; decide +kernel) | split

def State.updPool_scope : Scope := ⟨[.grn], [], []⟩
theorem State.updPool_within (s : State) (p : Nat) (f : Pool → Pool) : Within State.updPool_scope s (State.updPool s p
    f) := by
  unfold State.updPool
  repeat' first
    | (with_reducible assumption) | (with_reducible apply Within.refl)
    | (with_reducible apply Within.step (State.updGrn_within ..); rotate_left; decide +kernel) | split

def State.take_scope : Scope := ⟨[.evt, .tacc, .grn], [R.GRN_POOL_STAT, R.EVT_STAT], []⟩
theorem State.take_within (s : State) (p b : Nat) (t : Tag) (at_ : Nat) : Within State.take_scope s (State.take s p b
    t at_) := by
  unfold State.take
  repeat' first
    | (with_reducible assumption) | (with_reducible apply Within.refl) | lift_lets
    | (intro v; refine Within.cut (p := Within State.take_scope s v) ?_ ?_; unfold v; rotate_left; clear_value v; intro hv)
    | (intro v; clear_value v) | intro v
    | (with_reducible apply Within.step (State.updGrn_within ..); rotate_left; decide +kernel)
    | (with_reducible apply Within.step (State.updPool_within ..); rotate_left; decide +kernel)
    | (with_reducible apply Within.step (State.wr_within ..); rotate_left; decide +kernel)
    | (with_reducible apply Within.step (State.setTag_within ..); rotate_left; decide +kernel)
    | (with_reducible apply Within.step (State.count_within ..); rotate_left; decide +kernel) | split

def State.emptyResult_scope : Scope := ⟨[.evt, .tacc], [R.GRN_EVT_STAT, R.EVT_STAT], []⟩
theorem State.emptyResult_within (s : State) (p : Nat) : Within State.emptyResult_scope s (State.emptyResult s p) :=
    by
  unfold State.emptyResult
  repeat' first
    | (with_reducible assumption) | (with_reducible apply Within.refl)
    | (with_reducible apply Within.step (State.count_within ..); rotate_left; decide +kernel)
    | (with_reducible apply Within.step (State.raise_within ..); rotate_left; decide +kernel) | split

def State.countLost_scope : Scope := ⟨[.evt, .tacc], [R.EVT_STAT], []⟩
theorem State.countLost_within (s : State) (p t : Nat) : Within State.countLost_scope s (State.countLost s p t) := by
  unfold State.countLost
  repeat' first
    | (with_reducible assumption) | (with_reducible apply Within.refl)
    | (with_reducible apply Within.step (State.count_within ..); rotate_left; decide +kernel) | split

def State.request_scope : Scope := ⟨[.evt, .tacc, .grn], [R.GRN_POOL_STAT, R.GRN_EVT_STAT, R.EVT_STAT], []⟩
theorem State.request_snd (s : State) (p : Nat) (t : Tag) : Within State.request_scope s (State.request s p t).2 := by
    unfold State.request
    repeat' first
      | (with_reducible assumption) | (with_reducible apply Within.refl)
      | (with_reducible apply Within.step (State.take_within ..); rotate_left; decide +kernel)
      | (with_reducible apply Within.step (State.emptyResult_within ..); rotate_left; decide +kernel)
      | (with_reducible apply Within.step (State.countLost_within ..); rotate_left; decide +kernel)
      | (with_reducible apply Within.step (State.count_within ..); rotate_left; decide +kernel) | split | dsimp only


theorem State.request_within {s s' : State} {p : Nat} {t : Tag} {r} (h : State.request s p t = (r, s')) :
    Within State.request_scope s s' := by
  have := State.request_snd s p t
  rwa [h] at this


def State.retireBuf_scope : Scope := ⟨[.evt, .grn], [R.GRN_POOL_STAT, R.GRN_EVT_STAT], []⟩
theorem State.retireBuf_within (s : State) (p b : Nat) : Within State.retireBuf_scope s (State.retireBuf s p b) := by
  unfold State.retireBuf
  repeat' first
    | (with_reducible assumption) | (with_reducible apply Within.refl)
    | (with_reducible apply Within.step (State.setTag_within ..); rotate_left; decide +kernel)
    | (with_reducible apply Within.step (State.addSat_within ..); rotate_left; decide +kernel)
    | (with_reducible apply Within.step (State.raise_within ..); rotate_left; decide +kernel) | split

def State.giveBack_scope : Scope := ⟨[.evt, .grn], [R.GRN_POOL_STAT, R.GRN_EVT_STAT], []⟩
theorem State.giveBack_within (s : State) (p b k : Nat) : Within State.giveBack_scope s (State.giveBack s p b k) := by
  unfold State.giveBack
  repeat' first
    | (with_reducible assumption) | (with_reducible apply Within.refl) | lift_lets
    | (intro v; refine Within.cut (p := Within State.giveBack_scope s v) ?_ ?_; unfold v; rotate_left; clear_value v; intro hv)
    | (intro v; clear_value v) | intro v
    | (with_reducible apply Within.step (State.retireBuf_within ..); rotate_left; decide +kernel)
    | (with_reducible apply Within.step (State.setTag_within ..); rotate_left; decide +kernel)
    | (with_reducible apply Within.step (State.updPool_within ..); rotate_left; decide +kernel)
    | (with_reducible apply Within.step (State.wr_within ..); rotate_left; decide +kernel) | split

def State.freeBuf_scope : Scope := ⟨[.evt, .tacc, .grn], [R.GRN_POOL_STAT, R.GRN_EVT_STAT, R.EVT_STAT], []⟩
theorem State.freeBuf_within (s : State) (party : Tag) (b : Nat × Nat) : Within State.freeBuf_scope s (State.freeBuf s
    party b) := by
  unfold State.freeBuf
  repeat' first
    | (with_reducible assumption) | (with_reducible apply Within.refl) | lift_lets
    | (intro v; refine Within.cut (p := Within State.freeBuf_scope s v) ?_ ?_; unfold v; rotate_left; clear_value v; intro hv)
    | (intro v; clear_value v) | intro v
    | (with_reducible apply Within.step (State.count_within ..); rotate_left; decide +kernel)
    | (with_reducible apply Within.step (State.raise_within ..); rotate_left; decide +kernel)
    | (with_reducible apply Within.step (State.giveBack_within ..); rotate_left; decide +kernel)
    | (with_reducible apply Within.step (State.setTag_within ..); rotate_left; decide +kernel) | split

def State.setXoff_scope : Scope := ⟨[.evt, .tacc, .ports], [R.EVT_STAT], []⟩
theorem State.setXoff_within (s : State) (p c : Nat) (on : Bool) : Within State.setXoff_scope s (State.setXoff s p c
    on) := by
  unfold State.setXoff
  repeat' first
    | (with_reducible assumption) | (with_reducible apply Within.refl) | lift_lets
    | (intro v; refine Within.cut (p := Within State.setXoff_scope s v) ?_ ?_; unfold v; rotate_left; clear_value v; intro hv)
    | (intro v; clear_value v) | intro v
    | (with_reducible apply Within.step (State.count_within ..); rotate_left; decide +kernel)
    | (with_reducible apply Within.step (State.updPort_within ..); rotate_left; decide +kernel) | split

def State.judgeIn_scope : Scope := ⟨[.evt, .tacc, .ports], [R.EVT_STAT], []⟩
theorem State.judgeIn_within (s : State) (src c : Nat) : Within State.judgeIn_scope s (State.judgeIn s src c) := by
  unfold State.judgeIn
  repeat' first
    | (with_reducible assumption) | (with_reducible apply Within.refl) | lift_lets
    | (intro v; refine Within.cut (p := Within State.judgeIn_scope s v) ?_ ?_; unfold v; rotate_left; clear_value v; intro hv)
    | (intro v; clear_value v) | intro v
    | (with_reducible apply Within.step (State.setXoff_within ..); rotate_left; decide +kernel) | split

def State.addIn_scope : Scope := ⟨[.evt, .tacc, .ports, .grn], [R.EVT_STAT], []⟩
theorem State.addIn_within (s : State) (src c n : Nat) : Within State.addIn_scope s (State.addIn s src c n) := by
  unfold State.addIn
  repeat' first
    | (with_reducible assumption) | (with_reducible apply Within.refl)
    | (with_reducible apply Within.step (State.updGrn_within ..); rotate_left; decide +kernel)
    | (with_reducible apply Within.step (State.judgeIn_within ..); rotate_left; decide +kernel) | split

def State.subIn_scope : Scope := ⟨[.evt, .tacc, .ports, .grn], [R.EVT_STAT], []⟩
theorem State.subIn_within (s : State) (src c n : Nat) : Within State.subIn_scope s (State.subIn s src c n) := by
  unfold State.subIn
  repeat' first
    | (with_reducible assumption) | (with_reducible apply Within.refl)
    | (with_reducible apply Within.step (State.updGrn_within ..); rotate_left; decide +kernel)
    | (with_reducible apply Within.step (State.judgeIn_within ..); rotate_left; decide +kernel) | split

def State.freeFrame_scope : Scope := ⟨[.evt, .tacc, .ports, .grn], [R.GRN_POOL_STAT, R.GRN_EVT_STAT, R.EVT_STAT], []⟩
theorem State.freeFrame_within (s : State) (party : Tag) (f : Frame) : Within State.freeFrame_scope s (State.freeFrame
    s party f) := by
  unfold State.freeFrame
  repeat' first
    | (with_reducible assumption) | (with_reducible apply Within.refl)
    | (with_reducible apply Within.step (State.freeBuf_within ..); rotate_left; decide +kernel)
    | (with_reducible apply Within.step (State.subIn_within ..); rotate_left; decide +kernel)
    | (with_reducible apply Within.each; rotate_left; intro x a hx; try beta_reduce; rotate_left)
    | (with_reducible apply Within.foldl; rotate_left; intro x a hx; try beta_reduce; rotate_left) | split

def State.letGo_scope : Scope := ⟨[.evt, .tacc, .ports, .fwd, .grn], [R.GRN_POOL_STAT, R.GRN_EVT_STAT, R.EVT_STAT],
    []⟩
theorem State.letGo_within (s : State) (party : Tag) (f : Frame) : Within State.letGo_scope s (State.letGo s party f)
    := by
  unfold State.letGo
  repeat' first
    | (with_reducible assumption) | (with_reducible apply Within.refl) | lift_lets
    | (intro v; refine Within.cut (p := Within State.letGo_scope s v) ?_ ?_; unfold v; rotate_left; clear_value v; intro hv)
    | (intro v; clear_value v) | intro v
    | (with_reducible apply Within.step (State.freeBuf_within ..); rotate_left; decide +kernel)
    | (with_reducible apply Within.step (State.updFwd_within ..); rotate_left; decide +kernel)
    | (with_reducible apply Within.step (State.freeFrame_within ..); rotate_left; decide +kernel)
    | (with_reducible apply Within.each; rotate_left; intro x a hx; try beta_reduce; rotate_left)
    | (with_reducible apply Within.foldl; rotate_left; intro x a hx; try beta_reduce; rotate_left) | split

def State.dropRx_scope : Scope := ⟨[.evt, .tacc, .ports, .grn], [R.GRN_POOL_STAT, R.GRN_EVT_STAT, R.EVT_STAT], []⟩
theorem State.dropRx_within (s : State) (f : Frame) : Within State.dropRx_scope s (State.dropRx s f) := by
  unfold State.dropRx
  repeat' first
    | (with_reducible assumption) | (with_reducible apply Within.refl)
    | (with_reducible apply Within.step (State.freeFrame_within ..); rotate_left; decide +kernel) | split

def State.updQueue_scope : Scope := ⟨[.fwd], [], []⟩
theorem State.updQueue_within (s : State) (n : Nat) (f : EQueue → EQueue) : Within State.updQueue_scope s
    (State.updQueue s n f) := by
  unfold State.updQueue
  repeat' first
    | (with_reducible assumption) | (with_reducible apply Within.refl)
    | (with_reducible apply Within.step (State.updFwd_within ..); rotate_left; decide +kernel) | split

def State.enqueue_scope : Scope := ⟨[.evt, .tacc, .fwd, .grn], [R.EVT_STAT], []⟩
theorem State.enqueue_within (s : State) (n : Nat) (e : QEnt) : Within State.enqueue_scope s (State.enqueue s n e) :=
    by
  unfold State.enqueue
  repeat' first
    | (with_reducible assumption) | (with_reducible apply Within.refl) | lift_lets
    | (intro v; refine Within.cut (p := Within State.enqueue_scope s v) ?_ ?_; unfold v; rotate_left; clear_value v; intro hv)
    | (intro v; clear_value v) | intro v
    | (with_reducible apply Within.step (State.setTag_within ..); rotate_left; decide +kernel)
    | (with_reducible apply Within.step (State.updQueue_within ..); rotate_left; decide +kernel)
    | (with_reducible apply Within.step (State.count_within ..); rotate_left; decide +kernel)
    | (with_reducible apply Within.each; rotate_left; intro x a hx; try beta_reduce; rotate_left)
    | (with_reducible apply Within.foldl; rotate_left; intro x a hx; try beta_reduce; rotate_left) | split

def State.setPage_scope : Scope := ⟨[.grn], [], []⟩
theorem State.setPage_within (s : State) (g : Nat) (p : Page) : Within State.setPage_scope s (State.setPage s g p) :=
    by
  unfold State.setPage
  repeat' first
    | (with_reducible assumption) | (with_reducible apply Within.refl)
    | (with_reducible apply Within.step (State.updGrn_within ..); rotate_left; decide +kernel) | split

def State.takePage_scope : Scope := ⟨[.evt, .tacc, .grn], [R.GRN_SILO_STAT, R.EVT_STAT], []⟩
theorem State.takePage_within (s : State) (g : Nat) (t : Tag) (n : Nat) : Within State.takePage_scope s
    (State.takePage s g t n) := by
  unfold State.takePage
  repeat' first
    | (with_reducible assumption) | (with_reducible apply Within.refl) | lift_lets
    | (intro v; refine Within.cut (p := Within State.takePage_scope s v) ?_ ?_; unfold v; rotate_left; clear_value v; intro hv)
    | (intro v; clear_value v) | intro v
    | (with_reducible apply Within.step (State.updGrn_within ..); rotate_left; decide +kernel)
    | (with_reducible apply Within.step (State.wr_within ..); rotate_left; decide +kernel)
    | (with_reducible apply Within.step (State.setPage_within ..); rotate_left; decide +kernel)
    | (with_reducible apply Within.step (State.count_within ..); rotate_left; decide +kernel) | split

def State.retirePage_scope : Scope := ⟨[.evt, .tacc, .grn], [R.GRN_EVT_STAT, R.EVT_STAT], []⟩
theorem State.retirePage_within (s : State) (g : Nat) : Within State.retirePage_scope s (State.retirePage s g) := by
  unfold State.retirePage
  repeat' first
    | (with_reducible assumption) | (with_reducible apply Within.refl) | lift_lets
    | (intro v; refine Within.cut (p := Within State.retirePage_scope s v) ?_ ?_; unfold v; rotate_left; clear_value v; intro hv)
    | (intro v; clear_value v) | intro v
    | (with_reducible apply Within.step (State.setPage_within ..); rotate_left; decide +kernel)
    | (with_reducible apply Within.step (State.updGrn_within ..); rotate_left; decide +kernel)
    | (with_reducible apply Within.step (State.count_within ..); rotate_left; decide +kernel)
    | (with_reducible apply Within.step (State.raise_within ..); rotate_left; decide +kernel) | split

def State.returnPage_scope : Scope := ⟨[.grn], [R.GRN_SILO_STAT], []⟩
theorem State.returnPage_within (s : State) (g : Nat) : Within State.returnPage_scope s (State.returnPage s g) := by
  unfold State.returnPage
  repeat' first
    | (with_reducible assumption) | (with_reducible apply Within.refl) | lift_lets
    | (intro v; refine Within.cut (p := Within State.returnPage_scope s v) ?_ ?_; unfold v; rotate_left; clear_value v; intro hv)
    | (intro v; clear_value v) | intro v
    | (with_reducible apply Within.step (State.setPage_within ..); rotate_left; decide +kernel)
    | (with_reducible apply Within.step (State.updGrn_within ..); rotate_left; decide +kernel)
    | (with_reducible apply Within.step (State.wr_within ..); rotate_left; decide +kernel) | split

def State.freePage_scope : Scope := ⟨[.evt, .tacc, .grn], [R.GRN_SILO_STAT, R.GRN_EVT_STAT, R.EVT_STAT], []⟩
theorem State.freePage_within (s : State) (party : Tag) (g : Nat) : Within State.freePage_scope s (State.freePage s
    party g) := by
  unfold State.freePage
  repeat' first
    | (with_reducible assumption) | (with_reducible apply Within.refl) | lift_lets
    | (intro v; refine Within.cut (p := Within State.freePage_scope s v) ?_ ?_; unfold v; rotate_left; clear_value v; intro hv)
    | (intro v; clear_value v) | intro v
    | (with_reducible apply Within.step (State.count_within ..); rotate_left; decide +kernel)
    | (with_reducible apply Within.step (State.raise_within ..); rotate_left; decide +kernel)
    | (with_reducible apply Within.step (State.setPage_within ..); rotate_left; decide +kernel)
    | (with_reducible apply Within.step (State.returnPage_within ..); rotate_left; decide +kernel) | split

def State.pagesBack_scope : Scope := ⟨[.evt, .tacc, .grn], [R.GRN_SILO_STAT, R.GRN_EVT_STAT, R.EVT_STAT], []⟩
theorem State.pagesBack_within (s : State) : Within State.pagesBack_scope s (State.pagesBack s) := by
  unfold State.pagesBack
  repeat' first
    | (with_reducible assumption) | (with_reducible apply Within.refl) | lift_lets
    | (intro v; refine Within.cut (p := Within State.pagesBack_scope s v) ?_ ?_; unfold v; rotate_left; clear_value v; intro hv)
    | (intro v; clear_value v) | intro v
    | (with_reducible apply Within.step (State.updGrn_within ..); rotate_left; decide +kernel)
    | (with_reducible apply Within.step (State.freePage_within ..); rotate_left; decide +kernel)
    | (with_reducible apply Within.each; rotate_left; intro x a hx; try beta_reduce; rotate_left)
    | (with_reducible apply Within.foldl; rotate_left; intro x a hx; try beta_reduce; rotate_left) | split

def State.backPages_scope : Scope := ⟨[.evt, .tacc, .grn], [R.GRN_SILO_STAT, R.GRN_EVT_STAT, R.EVT_STAT], []⟩
theorem State.backPages_within (s : State) (l : List Nat) : Within State.backPages_scope s (State.backPages s l) := by
  unfold State.backPages
  repeat' first
    | (with_reducible assumption) | (with_reducible apply Within.refl) | lift_lets
    | (intro v; refine Within.cut (p := Within State.backPages_scope s v) ?_ ?_; unfold v; rotate_left; clear_value v; intro hv)
    | (intro v; clear_value v) | intro v
    | (with_reducible apply Within.step (State.updGrn_within ..); rotate_left; decide +kernel)
    | (with_reducible apply Within.step (State.pagesBack_within ..); rotate_left; decide +kernel) | split

def State.discardEnt_scope : Scope := ⟨[.evt, .tacc, .ports, .fwd, .grn], [R.GRN_POOL_STAT, R.GRN_EVT_STAT,
    R.EVT_STAT], []⟩
theorem State.discardEnt_within (s : State) (n : Nat) (e : QEnt) : Within State.discardEnt_scope s (State.discardEnt s
    n e) := by
  unfold State.discardEnt
  repeat' first
    | (with_reducible assumption) | (with_reducible apply Within.refl)
    | (with_reducible apply Within.step (State.letGo_within ..); rotate_left; decide +kernel) | split

def State.tidyRecall_scope : Scope := ⟨[.evt, .tacc, .fwd, .grn], [R.GRN_POOL_STAT, R.GRN_EVT_STAT, R.EVT_STAT], []⟩
theorem State.tidyRecall_within (s : State) (n : Nat) : Within State.tidyRecall_scope s (State.tidyRecall s n) := by
  unfold State.tidyRecall
  repeat' first
    | (with_reducible assumption) | (with_reducible apply Within.refl)
    | (with_reducible apply Within.step (State.freeBuf_within ..); rotate_left; decide +kernel)
    | (with_reducible apply Within.step (State.updQueue_within ..); rotate_left; decide +kernel)
    | (with_reducible apply Within.each; rotate_left; intro x a hx; try beta_reduce; rotate_left)
    | (with_reducible apply Within.foldl; rotate_left; intro x a hx; try beta_reduce; rotate_left) | split

def State.dropSegs_scope : Scope := ⟨[.evt, .tacc, .fwd, .grn], [R.GRN_POOL_STAT, R.GRN_SILO_STAT, R.GRN_EVT_STAT,
    R.EVT_STAT], []⟩
theorem State.dropSegs_within (s : State) (n : Nat) (flush : Bool) : Within State.dropSegs_scope s (State.dropSegs s n
    flush) := by
  unfold State.dropSegs
  repeat' first
    | (with_reducible assumption) | (with_reducible apply Within.refl) | lift_lets
    | (intro v; refine Within.cut (p := Within State.dropSegs_scope s v) ?_ ?_; unfold v; rotate_left; clear_value v; intro hv)
    | (intro v; clear_value v) | intro v
    | (with_reducible apply Within.step (State.tidyRecall_within ..); rotate_left; decide +kernel)
    | (with_reducible apply Within.step (State.updQueue_within ..); rotate_left; decide +kernel)
    | (with_reducible apply Within.step (State.backPages_within ..); rotate_left; decide +kernel)
    | (with_reducible apply Within.step (State.freePage_within ..); rotate_left; decide +kernel)
    | (with_reducible apply Within.each; rotate_left; intro x a hx; try beta_reduce; rotate_left)
    | (with_reducible apply Within.foldl; rotate_left; intro x a hx; try beta_reduce; rotate_left) | split

def State.releasing_scope : Scope := ⟨[.grn], [], []⟩
theorem State.releasing_within (s : State) (k : Nat) : Within State.releasing_scope s (State.releasing s k) := by
  unfold State.releasing
  repeat' first
    | (with_reducible assumption) | (with_reducible apply Within.refl)
    | (with_reducible apply Within.step (State.updGrn_within ..); rotate_left; decide +kernel) | split

def State.purge_scope : Scope := ⟨[.evt, .tacc, .ports, .fwd, .grn], [R.GRN_POOL_STAT, R.GRN_SILO_STAT,
    R.GRN_EVT_STAT, R.EVT_STAT], []⟩
theorem State.purge_within (s : State) (n i : Nat) (pick : QEnt → Bool) : Within State.purge_scope s (State.purge s n
    i pick) := by
  unfold State.purge
  repeat' first
    | (with_reducible assumption) | (with_reducible apply Within.refl) | lift_lets
    | (intro v; refine Within.cut (p := Within State.purge_scope s v) ?_ ?_; unfold v; rotate_left; clear_value v; intro hv)
    | (intro v; clear_value v) | intro v
    | (with_reducible apply Within.step (State.releasing_within ..); rotate_left; decide +kernel)
    | (with_reducible apply Within.step (State.discardEnt_within ..); rotate_left; decide +kernel)
    | (with_reducible apply Within.step (State.updQueue_within ..); rotate_left; decide +kernel)
    | (with_reducible apply Within.step (State.count_within ..); rotate_left; decide +kernel)
    | (with_reducible apply Within.step (State.dropSegs_within ..); rotate_left; decide +kernel)
    | (with_reducible apply Within.each; rotate_left; intro x a hx; try beta_reduce; rotate_left)
    | (with_reducible apply Within.foldl; rotate_left; intro x a hx; try beta_reduce; rotate_left) | split

end Sys2Proof.Machine
end

