-- ==== Sys2Proof/Laws/FramesCounters.lean ====
section
/-! SUPPORT. Sys2Proof/Laws/FramesCounters.lean: what each operation of Machine/Counters.lean may change. -/
set_option Elab.async false
set_option linter.unusedTactic false
set_option linter.unreachableTactic false
set_option linter.unnecessarySeqFocus false
namespace Sys2Proof.Machine

def State.readSlots_scope : Scope := ⟨[.mem, .gr, .evt, .tally, .tacc, .out], [R.MBX_STATE, R.MBX_RETRY_STAT,
    R.EVT_STAT, R.EVT_FCNT], []⟩
theorem State.readSlots_within (s : State) (m base first cnt : Nat) (clear : Bool) : Within State.readSlots_scope s
    (State.readSlots s m base first cnt clear) := by
  unfold State.readSlots
  repeat' first
    | (with_reducible assumption) | (with_reducible apply Within.refl) | lift_lets
    | (intro v; refine Within.cut (p := Within State.readSlots_scope s v) ?_ ?_; unfold v; rotate_left; clear_value v; intro hv)
    | (intro v; clear_value v) | intro v
    | (with_reducible apply Within.step (State.clearSlot_within ..); rotate_left; decide +kernel)
    | (with_reducible apply Within.step (State.complete_within ..); rotate_left; decide +kernel)
    | (with_reducible apply Within.each; rotate_left; intro x a hx; try beta_reduce; rotate_left)
    | (with_reducible apply Within.foldl; rotate_left; intro x a hx; try beta_reduce; rotate_left) | split

def State.countersCmd_scope : Scope := ⟨[.mem, .pwr, .gr, .evt, .tally, .tacc, .tdc, .cal, .twin, .out], [R.MBX_STATE,
    R.MBX_RETRY_STAT, R.TDC_STAT, R.TDC_EVT_STAT, R.CAL_STAT, R.CAL_EVT_STAT, R.EVT_LAST_FAULT, R.EVT_STAT,
    R.TWN_STAT, R.PWR_MODE_CTL, R.PWR_MODE_STAT, R.PWR_RAIL_STAT, R.PWR_CLK_STAT, R.EVT_LASTING, R.EVT_FCNT], []⟩
theorem State.countersCmd_within (s : State) (m : Fin 16) (opc : Nat) (x : Exec) (w objMax lim : Nat) (modeOk : State
    → Bool) (base : Nat → Nat) : Within State.countersCmd_scope s (State.countersCmd s m opc x w objMax lim modeOk
    base) := by
  unfold State.countersCmd
  repeat' first
    | (with_reducible assumption) | (with_reducible apply Within.refl)
    | (with_reducible apply State.cmd_within; rotate_left; decide +kernel; intro u hu; try beta_reduce)
    | (with_reducible apply Within.step (State.readSlots_within ..); rotate_left; decide +kernel) | split

end Sys2Proof.Machine
end

