-- ==== Sys2Proof/Laws/FramesRails.lean ====
section
/-! SUPPORT. Sys2Proof/Laws/FramesRails.lean: what each operation of Machine/Rails.lean may change. -/
set_option Elab.async false
set_option linter.unusedTactic false
set_option linter.unreachableTactic false
set_option linter.unnecessarySeqFocus false
namespace Sys2Proof.Machine

def State.clearBlock_scope : Scope := ⟨[.committed, .latches], [], []⟩
theorem State.clearBlock_within (s : State) (b : Nat) (hb : b ≤ 14) :
    Within ⟨[.committed, .latches], [], [b]⟩ s (s.clearBlock b) := by
  refine ⟨rfl, rfl, fun p hp => by cases p <;> first | rfl | exact absurd (by simp) hp, fun k _ hk d => ?_,
    fun c => ⟨SMap.rising_drop _ _ c.regs, SMap.rising_drop _ _ c.committed, c.mem⟩, List.prefix_rfl⟩
  refine SMap.get_drop_out _ _ ?_
  by_contra hc
  refine hk (List.mem_singleton.2 ?_)
  unfold blockOf
  split at hc
  · rw [if_pos (by omega)]; omega
  · rw [if_neg (by omega), if_pos (by omega)]; omega

def State.commitResult_scope : Scope := ⟨[.mem, .gr, .evt, .out], [R.MBX_STATE, R.MBX_RETRY_STAT, R.MBX_COMMIT_STAT,
    R.EVT_STAT, R.EVT_FCNT], []⟩
theorem State.commitResult_within (s : State) (path : Option (Fin 16)) (status detail : Nat) : Within
    State.commitResult_scope s (State.commitResult s path status detail) := by
  unfold State.commitResult
  repeat' first
    | (with_reducible assumption) | (with_reducible apply Within.refl)
    | (with_reducible apply Within.step (State.complete_within ..); rotate_left; decide +kernel)
    | (with_reducible apply Within.step (State.wr_within ..); rotate_left; decide +kernel)
    | (with_reducible apply Within.step (State.msix_within ..); rotate_left; decide +kernel) | split

def State.noteCommits_scope : Scope := ⟨[], [R.MBX_COMMIT_STAT], []⟩
theorem State.noteCommits_within (s : State) : Within State.noteCommits_scope s (State.noteCommits s) := by
  unfold State.noteCommits
  repeat' first
    | (with_reducible assumption) | (with_reducible apply Within.refl)
    | (with_reducible apply Within.step (State.wr_within ..); rotate_left; decide +kernel) | split

def State.abortCommits_scope : Scope := ⟨[.mem, .gr, .evt, .out], [R.MBX_STATE, R.MBX_RETRY_STAT, R.MBX_COMMIT_STAT,
    R.EVT_STAT, R.EVT_FCNT], []⟩
theorem State.abortCommits_within (s : State) (rail : Nat) : Within State.abortCommits_scope s (State.abortCommits s
    rail) := by
  unfold State.abortCommits
  repeat' first
    | (with_reducible assumption) | (with_reducible apply Within.refl) | lift_lets
    | (intro v; refine Within.cut (p := Within State.abortCommits_scope s v) ?_ ?_; unfold v; rotate_left; clear_value v; intro hv)
    | (intro v; clear_value v) | intro v
    | (with_reducible apply Within.step (State.updGr_within ..); rotate_left; decide +kernel)
    | (with_reducible apply Within.step (State.commitResult_within ..); rotate_left; decide +kernel)
    | (with_reducible apply Within.step (State.noteCommits_within ..); rotate_left; decide +kernel)
    | (with_reducible apply Within.each; rotate_left; intro x a hx; try beta_reduce; rotate_left)
    | (with_reducible apply Within.foldl; rotate_left; intro x a hx; try beta_reduce; rotate_left) | split

def State.clearReg_scope : Scope := ⟨[], [], []⟩
theorem State.clearReg_within (s : State) (r : Reg) (i : Nat) : Within ⟨[], [r], []⟩ s (s.clearReg r i) :=
  State.setReg_within ..

def State.unbind_scope : Scope := ⟨[.mem, .gr, .evt, .out], [R.MBX_STATE, R.MBX_RETRY_STAT, R.EVT_STAT, R.EVT_FCNT,
    R.MBX_DT_BIND], []⟩
theorem State.unbind_within (s : State) (t : Nat) (keep : Bool) : Within State.unbind_scope s (State.unbind s t keep)
    := by
  unfold State.unbind
  repeat' first
    | (with_reducible assumption) | (with_reducible apply Within.refl) | lift_lets
    | (intro v; refine Within.cut (p := Within State.unbind_scope s v) ?_ ?_; unfold v; rotate_left; clear_value v; intro hv)
    | (intro v; clear_value v) | intro v
    | (with_reducible apply Within.step (State.updTable_within ..); rotate_left; decide +kernel)
    | (with_reducible apply Within.step (State.clearReg_within ..); rotate_left; decide +kernel)
    | (with_reducible apply Within.step (State.complete_within ..); rotate_left; decide +kernel)
    | (with_reducible apply Within.each; rotate_left; intro x a hx; try beta_reduce; rotate_left)
    | (with_reducible apply Within.foldl; rotate_left; intro x a hx; try beta_reduce; rotate_left) | split

def State.loseTiming_scope : Scope := ⟨[.tb, .tt, .ref, .syn, .tdc, .cal, .out], [R.SYN_CKO_STAT], []⟩
theorem State.loseTiming_within (s : State) : Within State.loseTiming_scope s (State.loseTiming s) := by
  unfold State.loseTiming
  repeat' first
    | (with_reducible assumption) | (with_reducible apply Within.refl) | lift_lets
    | (intro v; refine Within.cut (p := Within State.loseTiming_scope s v) ?_ ?_; unfold v; rotate_left; clear_value v; intro hv)
    | (intro v; clear_value v) | intro v
    | (with_reducible apply Within.step (State.quiesce_within ..); rotate_left; decide +kernel) | split
    | (with_reducible apply Within.step (Within.put_tb ..); rotate_left; decide +kernel)
    | (with_reducible apply Within.step (Within.put_tt ..); rotate_left; decide +kernel)
    | (with_reducible apply Within.step (Within.put_ref ..); rotate_left; decide +kernel)
    | (with_reducible apply Within.step (Within.put_syn ..); rotate_left; decide +kernel)
    | (with_reducible apply Within.step (Within.put_tdc ..); rotate_left; decide +kernel)
    | (with_reducible apply Within.step (Within.put_cal ..); rotate_left; decide +kernel)

def State.loseTwin_scope : Scope := ⟨[.gr, .cars, .twin, .out], [R.TWN_STAT], []⟩
theorem State.loseTwin_within (s : State) : Within State.loseTwin_scope s (State.loseTwin s) := by
  unfold State.loseTwin
  repeat' first
    | (with_reducible assumption) | (with_reducible apply Within.refl) | lift_lets
    | (intro v; refine Within.cut (p := Within State.loseTwin_scope s v) ?_ ?_; unfold v; rotate_left; clear_value v; intro hv)
    | (intro v; clear_value v) | intro v
    | (with_reducible apply Within.step (State.setRole_within ..); rotate_left; decide +kernel) | split
    | (with_reducible apply Within.step (Within.put_twin ..); rotate_left; decide +kernel)

def State.loseFwd_scope : Scope := ⟨[.committed, .latches, .mem, .gr, .evt, .tacc, .ports, .sheaves, .fwd, .alm,
    .out], [R.MBX_STATE, R.MBX_RETRY_STAT, R.EVT_STAT, R.PWR_CLK_STAT, R.EVT_FCNT, R.MBX_DT_BIND], [3, 5]⟩
theorem State.loseFwd_within (s : State) : Within State.loseFwd_scope s (State.loseFwd s) := by
  unfold State.loseFwd
  repeat' first
    | (with_reducible assumption) | (with_reducible apply Within.refl) | lift_lets
    | (intro v; refine Within.cut (p := Within State.loseFwd_scope s v) ?_ ?_; unfold v; rotate_left; clear_value v; intro hv)
    | (intro v; clear_value v) | intro v
    | (with_reducible apply Within.step (State.unbind_within ..); rotate_left; decide +kernel)
    | (with_reducible apply Within.step (State.clearBlock_within _ _ (by decide)); rotate_left; decide +kernel)
    | (with_reducible apply Within.step (State.wr_within ..); rotate_left; decide +kernel)
    | (with_reducible apply Within.step (State.updGr_within ..); rotate_left; decide +kernel)
    | (with_reducible apply Within.each; rotate_left; intro x a hx; try beta_reduce; rotate_left)
    | (with_reducible apply Within.foldl; rotate_left; intro x a hx; try beta_reduce; rotate_left) | split
    | (with_reducible apply Within.step (Within.put_fwd ..); rotate_left; decide +kernel)
    | (with_reducible apply Within.step (Within.put_alm ..); rotate_left; decide +kernel)
    | (with_reducible apply Within.step (Within.put_tacc ..); rotate_left; decide +kernel)
    | (with_reducible apply Within.step (Within.put_ports ..); rotate_left; decide +kernel)
    | (with_reducible apply Within.step (Within.put_sheaves ..); rotate_left; decide +kernel)

def State.loseGranary_scope : Scope := ⟨[.committed, .latches, .mem, .gr, .evt, .grn, .out], [R.MBX_STATE,
    R.MBX_RETRY_STAT, R.EVT_STAT, R.EVT_FCNT], [4]⟩
theorem State.loseGranary_within (s : State) : Within State.loseGranary_scope s (State.loseGranary s) := by
  unfold State.loseGranary
  repeat' first
    | (with_reducible assumption) | (with_reducible apply Within.refl) | lift_lets
    | (intro v; refine Within.cut (p := Within State.loseGranary_scope s v) ?_ ?_; unfold v; rotate_left; clear_value v; intro hv)
    | (intro v; clear_value v) | intro v
    | (with_reducible apply Within.step (State.complete_within ..); rotate_left; decide +kernel)
    | (with_reducible apply Within.step (State.clearBlock_within _ _ (by decide)); rotate_left; decide +kernel)
    | (with_reducible apply Within.step (State.wr_within ..); rotate_left; decide +kernel)
    | (with_reducible apply Within.each; rotate_left; intro x a hx; try beta_reduce; rotate_left)
    | (with_reducible apply Within.foldl; rotate_left; intro x a hx; try beta_reduce; rotate_left) | split
    | (with_reducible apply Within.step (Within.put_grn ..); rotate_left; decide +kernel)

def State.loseTally_scope : Scope := ⟨[.mem, .gr, .evt, .tally, .tacc, .out], [R.MBX_STATE, R.MBX_RETRY_STAT,
    R.EVT_STAT, R.EVT_FCNT, R.MBX_DT_BIND], []⟩
theorem State.loseTally_within (s : State) : Within State.loseTally_scope s (State.loseTally s) := by
  unfold State.loseTally
  repeat' first
    | (with_reducible assumption) | (with_reducible apply Within.refl)
    | (with_reducible apply Within.step (State.unbind_within ..); rotate_left; decide +kernel) | split
    | (with_reducible apply Within.step (Within.put_counts ..); rotate_left; decide +kernel)

def State.loseTimeDie_scope : Scope := ⟨[.committed, .latches, .pwr, .evt, .tb, .tt, .ref, .syn, .tdc, .cal, .out],
    [R.PWR_CLK_STAT], [6, 7, 8, 9, 10, 11]⟩
theorem State.loseTimeDie_within (s : State) : Within State.loseTimeDie_scope s (State.loseTimeDie s) := by
  unfold State.loseTimeDie
  repeat' first
    | (with_reducible assumption) | (with_reducible apply Within.refl) | lift_lets
    | (intro v; refine Within.cut (p := Within State.loseTimeDie_scope s v) ?_ ?_; unfold v; rotate_left; clear_value v; intro hv)
    | (intro v; clear_value v) | intro v
    | (with_reducible apply Within.step (State.loseTiming_within ..); rotate_left; decide +kernel)
    | (with_reducible apply Within.step (State.clearBlock_within _ _ (by decide)); rotate_left; decide +kernel)
    | (with_reducible apply Within.step (State.wr_within ..); rotate_left; decide +kernel)
    | (with_reducible apply Within.step (State.updPwr_within ..); rotate_left; decide +kernel)
    | (with_reducible apply Within.step (State.updEvt_within ..); rotate_left; decide +kernel) | split

def State.loseOcxo_scope : Scope := ⟨[.pwr], [R.PWR_CLK_STAT, R.PWR_OCXO_STAT], []⟩
theorem State.loseOcxo_within (s : State) : Within State.loseOcxo_scope s (State.loseOcxo s) := by
  unfold State.loseOcxo
  repeat' first
    | (with_reducible assumption) | (with_reducible apply Within.refl) | lift_lets
    | (intro v; refine Within.cut (p := Within State.loseOcxo_scope s v) ?_ ?_; unfold v; rotate_left; clear_value v; intro hv)
    | (intro v; clear_value v) | intro v
    | (with_reducible apply Within.step (State.wr_within ..); rotate_left; decide +kernel)
    | (with_reducible apply Within.step (State.updPwr_within ..); rotate_left; decide +kernel) | split

def State.loseGrange_scope : Scope := ⟨[.committed, .latches, .mem, .boot, .gr, .ports, .cars, .sheaves, .tt, .twin,
    .out], [R.PWR_BOOT_STAT], [0, 1, 2, 12, 14]⟩
theorem State.loseGrange_within (s : State) : Within State.loseGrange_scope s (State.loseGrange s) := by
  unfold State.loseGrange
  repeat' first
    | (with_reducible assumption) | (with_reducible apply Within.refl) | lift_lets
    | (intro v; refine Within.cut (p := Within State.loseGrange_scope s v) ?_ ?_; unfold v; rotate_left; clear_value v; intro hv)
    | (intro v; clear_value v) | intro v
    | (with_reducible apply Within.step (State.loseTwin_within ..); rotate_left; decide +kernel)
    | (with_reducible apply Within.step (State.clearBlock_within _ _ (by decide)); rotate_left; decide +kernel)
    | (with_reducible apply Within.step (State.wr_within ..); rotate_left; decide +kernel)
    | (with_reducible apply Within.step (State.updBoot_within ..); rotate_left; decide +kernel) | split
    | (with_reducible apply Within.step (Within.put_mem_nil ..); rotate_left; decide +kernel)
    | (with_reducible apply Within.step (Within.put_gr ..); rotate_left; decide +kernel)
    | (with_reducible apply Within.step (Within.put_ports ..); rotate_left; decide +kernel)
    | (with_reducible apply Within.step (Within.put_cars ..); rotate_left; decide +kernel)
    | (with_reducible apply Within.step (Within.put_sheaves ..); rotate_left; decide +kernel)
    | (with_reducible apply Within.step (Within.put_tt ..); rotate_left; decide +kernel)

def State.lose_scope : Scope := ⟨[.committed, .latches, .mem, .pwr, .boot, .gr, .evt, .tally, .tacc, .ports, .cars,
    .sheaves, .fwd, .grn, .alm, .tb, .tt, .ref, .syn, .tdc, .cal, .twin, .out], [R.PWR_CLK_STAT, R.PWR_OCXO_STAT,
    R.PWR_BOOT_STAT, R.EVT_FCNT], [0, 1, 2, 3, 4, 5, 6, 7, 8, 9, 10, 11, 12, 14]⟩
theorem State.lose_within (s : State) (r : Nat) : Within State.lose_scope s (State.lose s r) := by
  unfold State.lose
  repeat' first
    | (with_reducible assumption) | (with_reducible apply Within.refl)
    | (with_reducible apply Within.step (State.wr_within ..); rotate_left; decide +kernel)
    | (with_reducible apply Within.step (State.loseFwd_within ..); rotate_left; decide +kernel)
    | (with_reducible apply Within.step (State.loseGranary_within ..); rotate_left; decide +kernel)
    | (with_reducible apply Within.step (State.loseTally_within ..); rotate_left; decide +kernel)
    | (with_reducible apply Within.step (State.loseTimeDie_within ..); rotate_left; decide +kernel)
    | (with_reducible apply Within.step (State.loseOcxo_within ..); rotate_left; decide +kernel)
    | (with_reducible apply Within.step (State.loseGrange_within ..); rotate_left; decide +kernel) | split

def State.railOff_scope : Scope := ⟨[.committed, .latches, .mem, .pwr, .boot, .gr, .evt, .tally, .tacc, .ports, .cars,
    .sheaves, .fwd, .grn, .alm, .tb, .tt, .ref, .syn, .tdc, .cal, .twin, .out], [R.PWR_RAIL_STAT, R.PWR_CLK_STAT,
    R.PWR_OCXO_STAT, R.PWR_BOOT_STAT, R.EVT_FCNT], [0, 1, 2, 3, 4, 5, 6, 7, 8, 9, 10, 11, 12, 14]⟩
theorem State.railOff_within (s : State) (r : Nat) : Within State.railOff_scope s (State.railOff s r) := by
  unfold State.railOff
  repeat' first
    | (with_reducible assumption) | (with_reducible apply Within.refl) | lift_lets
    | (intro v; refine Within.cut (p := Within State.railOff_scope s v) ?_ ?_; unfold v; rotate_left; clear_value v; intro hv)
    | (intro v; clear_value v) | intro v
    | (with_reducible apply Within.step (State.wr_within ..); rotate_left; decide +kernel)
    | (with_reducible apply Within.step (State.updPwr_within ..); rotate_left; decide +kernel)
    | (with_reducible apply Within.step (State.abortCommits_within ..); rotate_left; decide +kernel)
    | (with_reducible apply Within.step (State.lose_within ..); rotate_left; decide +kernel) | split

def State.pastCut_scope : Scope := ⟨[.pwr], [], []⟩
theorem State.pastCut_within (s : State) (e : CutEv) : Within State.pastCut_scope s (State.pastCut s e) := by
  unfold State.pastCut
  repeat' first
    | (with_reducible assumption) | (with_reducible apply Within.refl)
    | (with_reducible apply Within.step (State.updPwr_within ..); rotate_left; decide +kernel) | split

def State.resetCause_scope : Scope := ⟨[.evt], [R.PWR_RESET_CAUSE], []⟩
theorem State.resetCause_within (s : State) (b : Nat) : Within State.resetCause_scope s (State.resetCause s b) := by
  unfold State.resetCause
  repeat' first
    | (with_reducible assumption) | (with_reducible apply Within.refl) | lift_lets
    | (intro v; refine Within.cut (p := Within State.resetCause_scope s v) ?_ ?_; unfold v; rotate_left; clear_value v; intro hv)
    | (intro v; clear_value v) | intro v
    | (with_reducible apply Within.step (State.setReg_within ..); rotate_left; decide +kernel)
    | (with_reducible apply Within.step (State.logAdd_within ..); rotate_left; decide +kernel) | split

def State.feedRegs_scope : Scope := ⟨[], [R.PWR_FEED_STAT], []⟩
theorem State.feedRegs_within (s : State) : Within State.feedRegs_scope s (State.feedRegs s) := by
  unfold State.feedRegs
  repeat' first
    | (with_reducible assumption) | (with_reducible apply Within.refl) | lift_lets
    | (intro v; refine Within.cut (p := Within State.feedRegs_scope s v) ?_ ?_; unfold v; rotate_left; clear_value v; intro hv)
    | (intro v; clear_value v) | intro v
    | (with_reducible apply Within.step (State.wrB_within ..); rotate_left; decide +kernel) | split

def State.fromReset_scope : Scope := ⟨[.nextOrd, .nextFrame, .nextFree, .committed, .latches, .mem, .pwr, .boot, .gr,
    .evt, .tally, .tacc, .ports, .cars, .sheaves, .fwd, .grn, .alm, .tb, .tt, .ref, .syn, .tdc, .cal, .twin, .out],
    [], [0, 1, 2, 3, 4, 5, 6, 7, 8, 9, 10, 11, 12, 13, 14, 255]⟩
theorem State.fromReset_within (s : State) (straps : Nat) : Within State.fromReset_scope s (s.fromReset straps) := by
  unfold State.fromReset
  extract_lets r
  refine (State.feedRegs_within ..).step ((State.wr_within ..).step ?_ (by decide +kernel)) (by decide +kernel)
  refine ⟨rfl, rfl, fun p hp => absurd (by cases p <;> decide) hp, fun k _ hk => absurd ?_ hk, fun _ =>
    ⟨SMap.rising_nil, SMap.rising_nil, rfl⟩, List.prefix_rfl⟩
  exact blockOf_mem k

def State.moduleReset_scope : Scope := ⟨[.nextOrd, .nextFrame, .nextFree, .committed, .latches, .mem, .pwr, .boot,
    .gr, .evt, .tally, .tacc, .ports, .cars, .sheaves, .fwd, .grn, .alm, .tb, .tt, .ref, .syn, .tdc, .cal, .twin,
    .out], [], [0, 1, 2, 3, 4, 5, 6, 7, 8, 9, 10, 11, 12, 13, 14, 255]⟩
theorem State.moduleReset_within (s : State) (cause : Nat) : Within State.moduleReset_scope s (State.moduleReset s
    cause) := by
  unfold State.moduleReset
  repeat' first
    | (with_reducible assumption) | (with_reducible apply Within.refl) | lift_lets
    | (intro v; refine Within.cut (p := Within State.moduleReset_scope s v) ?_ ?_; unfold v; rotate_left; clear_value v; intro hv)
    | (intro v; clear_value v) | intro v
    | (with_reducible apply Within.step (State.fromReset_within ..); rotate_left; decide +kernel)
    | (with_reducible apply Within.step (State.tapLeave_within ..); rotate_left; decide +kernel)
    | (with_reducible apply Within.step (State.updPwr_within ..); rotate_left; decide +kernel)
    | (with_reducible apply Within.step (State.setReg_within ..); rotate_left; decide +kernel)
    | (with_reducible apply Within.step (State.wrB_within ..); rotate_left; decide +kernel)
    | (with_reducible apply Within.step (State.updBoot_within ..); rotate_left; decide +kernel)
    | (with_reducible apply Within.step (State.wr_within ..); rotate_left; decide +kernel)
    | (with_reducible apply Within.step (State.updEvt_within ..); rotate_left; decide +kernel)
    | (with_reducible apply Within.each; rotate_left; intro x a hx; try beta_reduce; rotate_left)
    | (with_reducible apply Within.foldl; rotate_left; intro x a hx; try beta_reduce; rotate_left) | split

def State.startRead_scope : Scope := ⟨[.nextFree, .boot], [], []⟩
theorem State.startRead_within (s : State) : Within State.startRead_scope s (State.startRead s) := by
  unfold State.startRead
  repeat' first
    | (with_reducible assumption) | (with_reducible apply Within.refl) | lift_lets
    | (intro v; refine Within.cut (p := Within State.startRead_scope s v) ?_ ?_; unfold v; rotate_left; clear_value v; intro hv)
    | (intro v; clear_value v) | intro v
    | (with_reducible apply Within.step (State.updBoot_within ..); rotate_left; decide +kernel) | split
    | (with_reducible apply Within.step (Within.put_nextFree ..); rotate_left; decide +kernel)

def State.startBoot_scope : Scope := ⟨[.nextFree, .boot], [R.PWR_BOOT_STAT], []⟩
theorem State.startBoot_within (s : State) (journal : Bool) : Within State.startBoot_scope s (State.startBoot s
    journal) := by
  unfold State.startBoot
  repeat' first
    | (with_reducible assumption) | (with_reducible apply Within.refl) | lift_lets
    | (intro v; refine Within.cut (p := Within State.startBoot_scope s v) ?_ ?_; unfold v; rotate_left; clear_value v; intro hv)
    | (intro v; clear_value v) | intro v
    | (with_reducible apply Within.step (State.setReg_within ..); rotate_left; decide +kernel)
    | (with_reducible apply Within.step (State.updBoot_within ..); rotate_left; decide +kernel)
    | (with_reducible apply Within.step (State.startRead_within ..); rotate_left; decide +kernel) | split

def State.powerFault_scope : Scope := ⟨[.committed, .latches, .mem, .pwr, .boot, .gr, .evt, .tally, .tacc, .ports,
    .cars, .sheaves, .fwd, .grn, .alm, .tb, .tt, .ref, .syn, .tdc, .cal, .twin, .out], [R.PWR_MODE_CTL,
    R.PWR_MODE_STAT, R.PWR_RAIL_STAT, R.PWR_EVT_STAT, R.PWR_CLK_STAT, R.PWR_OCXO_STAT, R.PWR_BOOT_STAT, R.EVT_FCNT],
    [0, 1, 2, 3, 4, 5, 6, 7, 8, 9, 10, 11, 12, 14]⟩
theorem State.powerFault_within (s : State) (rail : Option Nat) : Within State.powerFault_scope s (State.powerFault s
    rail) := by
  unfold State.powerFault
  repeat' first
    | (with_reducible assumption) | (with_reducible apply Within.refl) | lift_lets
    | (intro v; refine Within.cut (p := Within State.powerFault_scope s v) ?_ ?_; unfold v; rotate_left; clear_value v; intro hv)
    | (intro v; clear_value v) | intro v
    | (with_reducible apply Within.step (State.raise_within ..); rotate_left; decide +kernel)
    | (with_reducible apply Within.step (State.tapLeave_within ..); rotate_left; decide +kernel)
    | (with_reducible apply Within.step (State.updPwr_within ..); rotate_left; decide +kernel)
    | (with_reducible apply Within.step (State.wr_within ..); rotate_left; decide +kernel)
    | (with_reducible apply Within.step (State.railOff_within ..); rotate_left; decide +kernel)
    | (with_reducible apply Within.each; rotate_left; intro x a hx; try beta_reduce; rotate_left)
    | (with_reducible apply Within.foldl; rotate_left; intro x a hx; try beta_reduce; rotate_left) | split

end Sys2Proof.Machine
end

