-- ==== Sys2Proof/Laws/FramesSynth.lean ====
section
/-! SUPPORT. Sys2Proof/Laws/FramesSynth.lean: what each operation of Machine/Synth.lean may change. -/
set_option Elab.async false
set_option linter.unusedTactic false
set_option linter.unreachableTactic false
set_option linter.unnecessarySeqFocus false
namespace Sys2Proof.Machine

def State.accQ_scope : Scope := ⟨[.ref], [], []⟩
theorem State.accQ_within (s : State) : Within State.accQ_scope s (State.accQ s) := by
  unfold State.accQ
  repeat' first
    | (with_reducible assumption) | (with_reducible apply Within.refl) | lift_lets
    | (intro v; refine Within.cut (p := Within State.accQ_scope s v) ?_ ?_; unfold v; rotate_left; clear_value v; intro hv)
    | (intro v; clear_value v) | intro v
    | (with_reducible apply Within.step (State.updRef_within ..); rotate_left; decide +kernel) | split

def State.noteSteer_scope : Scope := ⟨[.evt], [R.SYN_RAMP_Z, R.SYN_STAT_STEER, R.SYN_STAT, R.SYN_EVT_STAT], []⟩
theorem State.noteSteer_within (s : State) : Within State.noteSteer_scope s (State.noteSteer s) := by
  unfold State.noteSteer
  repeat' first
    | (with_reducible assumption) | (with_reducible apply Within.refl) | lift_lets
    | (intro v; refine Within.cut (p := Within State.noteSteer_scope s v) ?_ ?_; unfold v; rotate_left; clear_value v; intro hv)
    | (intro v; clear_value v) | intro v
    | (with_reducible apply Within.step (State.wrS_within ..); rotate_left; decide +kernel)
    | (with_reducible apply Within.step (State.wrB_within ..); rotate_left; decide +kernel)
    | (with_reducible apply Within.step (State.raise_within ..); rotate_left; decide +kernel) | split

def State.setW_scope : Scope := ⟨[.evt, .ref], [R.REF_FREQ_WORD, R.SYN_RAMP_Z, R.SYN_STAT_STEER, R.SYN_STAT,
    R.SYN_EVT_STAT], []⟩
theorem State.setW_within (s : State) (target : Int) : Within State.setW_scope s (State.setW s target) := by
  unfold State.setW
  repeat' first
    | (with_reducible assumption) | (with_reducible apply Within.refl) | lift_lets
    | (intro v; refine Within.cut (p := Within State.setW_scope s v) ?_ ?_; unfold v; rotate_left; clear_value v; intro hv)
    | (intro v; clear_value v) | intro v
    | (with_reducible apply Within.step (State.accQ_within ..); rotate_left; decide +kernel)
    | (with_reducible apply Within.step (State.noteSteer_within ..); rotate_left; decide +kernel)
    | (with_reducible apply Within.step (State.updRef_within ..); rotate_left; decide +kernel)
    | (with_reducible apply Within.step (State.wrS_within ..); rotate_left; decide +kernel) | split

def State.putW_scope : Scope := ⟨[.evt, .ref], [R.REF_FREQ_WORD, R.SYN_RAMP_Z, R.SYN_STAT_STEER, R.SYN_STAT,
    R.SYN_EVT_STAT], []⟩
theorem State.putW_within (s : State) (w : Int) : Within State.putW_scope s (State.putW s w) := by
  unfold State.putW
  repeat' first
    | (with_reducible assumption) | (with_reducible apply Within.refl) | lift_lets
    | (intro v; refine Within.cut (p := Within State.putW_scope s v) ?_ ?_; unfold v; rotate_left; clear_value v; intro hv)
    | (intro v; clear_value v) | intro v
    | (with_reducible apply Within.step (State.accQ_within ..); rotate_left; decide +kernel)
    | (with_reducible apply Within.step (State.updRef_within ..); rotate_left; decide +kernel)
    | (with_reducible apply Within.step (State.wrS_within ..); rotate_left; decide +kernel)
    | (with_reducible apply Within.step (State.noteSteer_within ..); rotate_left; decide +kernel) | split

def State.shiftW_scope : Scope := ⟨[.evt, .ref], [R.REF_FREQ_WORD, R.SYN_RAMP_Z, R.SYN_STAT_STEER, R.SYN_STAT,
    R.SYN_EVT_STAT], []⟩
theorem State.shiftW_within (s : State) (d : Int) : Within State.shiftW_scope s (State.shiftW s d) := by
  unfold State.shiftW
  repeat' first
    | (with_reducible assumption) | (with_reducible apply Within.refl) | lift_lets
    | (intro v; refine Within.cut (p := Within State.shiftW_scope s v) ?_ ?_; unfold v; rotate_left; clear_value v; intro hv)
    | (intro v; clear_value v) | intro v
    | (with_reducible apply Within.step (State.accQ_within ..); rotate_left; decide +kernel)
    | (with_reducible apply Within.step (State.updRef_within ..); rotate_left; decide +kernel)
    | (with_reducible apply Within.step (State.wrS_within ..); rotate_left; decide +kernel)
    | (with_reducible apply Within.step (State.noteSteer_within ..); rotate_left; decide +kernel) | split

def State.foldRamp_scope : Scope := ⟨[.evt, .ref, .syn], [R.REF_FREQ_WORD, R.SYN_RAMP_STAT, R.SYN_RAMP_Z,
    R.SYN_STAT_STEER, R.SYN_STAT, R.SYN_EVT_STAT], []⟩
theorem State.foldRamp_within (s : State) : Within State.foldRamp_scope s (State.foldRamp s) := by
  unfold State.foldRamp
  repeat' first
    | (with_reducible assumption) | (with_reducible apply Within.refl) | lift_lets
    | (intro v; refine Within.cut (p := Within State.foldRamp_scope s v) ?_ ?_; unfold v; rotate_left; clear_value v; intro hv)
    | (intro v; clear_value v) | intro v
    | (with_reducible apply Within.step (State.accQ_within ..); rotate_left; decide +kernel)
    | (with_reducible apply Within.step (State.updSyn_within ..); rotate_left; decide +kernel)
    | (with_reducible apply Within.step (State.setReg_within ..); rotate_left; decide +kernel)
    | (with_reducible apply Within.step (State.putW_within ..); rotate_left; decide +kernel)
    | (with_reducible apply Within.step (State.raise_within ..); rotate_left; decide +kernel) | split

def State.rampSeg_scope : Scope := ⟨[.evt, .syn], [R.SYN_RAMP_STAT, R.SYN_EVT_STAT], []⟩
theorem State.rampSeg_within (s : State) (i : Nat) : Within State.rampSeg_scope s (State.rampSeg s i) := by
  unfold State.rampSeg
  repeat' first
    | (with_reducible assumption) | (with_reducible apply Within.refl) | lift_lets
    | (intro v; refine Within.cut (p := Within State.rampSeg_scope s v) ?_ ?_; unfold v; rotate_left; clear_value v; intro hv)
    | (intro v; clear_value v) | intro v
    | (with_reducible apply Within.step (State.wr_within ..); rotate_left; decide +kernel)
    | (with_reducible apply Within.step (State.updSyn_within ..); rotate_left; decide +kernel)
    | (with_reducible apply Within.step (State.raise_within ..); rotate_left; decide +kernel) | split

def State.rampStart_scope : Scope := ⟨[.evt, .ref, .syn], [R.SYN_RAMP_STAT, R.SYN_EVT_STAT], []⟩
theorem State.rampStart_within (s : State) : Within State.rampStart_scope s (State.rampStart s) := by
  unfold State.rampStart
  repeat' first
    | (with_reducible assumption) | (with_reducible apply Within.refl) | lift_lets
    | (intro v; refine Within.cut (p := Within State.rampStart_scope s v) ?_ ?_; unfold v; rotate_left; clear_value v; intro hv)
    | (intro v; clear_value v) | intro v
    | (with_reducible apply Within.step (State.accQ_within ..); rotate_left; decide +kernel)
    | (with_reducible apply Within.step (State.updSyn_within ..); rotate_left; decide +kernel)
    | (with_reducible apply Within.step (State.rampSeg_within ..); rotate_left; decide +kernel) | split

def State.rampStop_scope : Scope := ⟨[.evt, .syn], [R.SYN_RAMP_STAT, R.SYN_EVT_STAT], []⟩
theorem State.rampStop_within (s : State) (ret : Bool) : Within State.rampStop_scope s (State.rampStop s ret) := by
  unfold State.rampStop
  repeat' first
    | (with_reducible assumption) | (with_reducible apply Within.refl) | lift_lets
    | (intro v; refine Within.cut (p := Within State.rampStop_scope s v) ?_ ?_; unfold v; rotate_left; clear_value v; intro hv)
    | (intro v; clear_value v) | intro v
    | (with_reducible apply Within.step (State.wr_within ..); rotate_left; decide +kernel)
    | (with_reducible apply Within.step (State.updSyn_within ..); rotate_left; decide +kernel)
    | (with_reducible apply Within.step (State.raise_within ..); rotate_left; decide +kernel) | split

def State.updCko_scope : Scope := ⟨[.syn], [], []⟩
theorem State.updCko_within (s : State) (k : Nat) (f : Cko → Cko) : Within State.updCko_scope s (State.updCko s k f)
    := by
  unfold State.updCko
  repeat' first
    | (with_reducible assumption) | (with_reducible apply Within.refl)
    | (with_reducible apply Within.step (State.updSyn_within ..); rotate_left; decide +kernel) | split

def State.ckoCommit_scope : Scope := ⟨[.syn, .out], [R.SYN_CKO_STAT], []⟩
theorem State.ckoCommit_within (s b : State) (k : Nat) : Within State.ckoCommit_scope s (State.ckoCommit s b k) := by
  unfold State.ckoCommit
  repeat' first
    | (with_reducible assumption) | (with_reducible apply Within.refl) | lift_lets
    | (intro v; refine Within.cut (p := Within State.ckoCommit_scope s v) ?_ ?_; unfold v; rotate_left; clear_value v; intro hv)
    | (intro v; clear_value v) | intro v
    | (with_reducible apply Within.step (State.updCko_within ..); rotate_left; decide +kernel)
    | (with_reducible apply Within.step (State.emit_within ..); rotate_left; decide +kernel)
    | (with_reducible apply Within.step (State.setReg_within ..); rotate_left; decide +kernel)
    | (with_reducible apply Within.step (State.wr_within ..); rotate_left; decide +kernel) | split

end Sys2Proof.Machine
end

