-- ==== Sys2Proof/Laws/FramesReference.lean ====
section
/-! SUPPORT. Sys2Proof/Laws/FramesReference.lean: what each operation of Machine/Reference.lean may change. -/
set_option Elab.async false
set_option linter.unusedTactic false
set_option linter.unreachableTactic false
set_option linter.unnecessarySeqFocus false
namespace Sys2Proof.Machine

def State.updSrc_scope : Scope := ⟨[.ref], [], []⟩
theorem State.updSrc_within (s : State) (j : Nat) (f : RefSrc → RefSrc) : Within State.updSrc_scope s (State.updSrc s
    j f) := by
  unfold State.updSrc
  repeat' first
    | (with_reducible assumption) | (with_reducible apply Within.refl)
    | (with_reducible apply Within.step (State.updRef_within ..); rotate_left; decide +kernel) | split

def State.noteTe_scope : Scope := ⟨[], [R.TBS_TE_STAT], []⟩
theorem State.noteTe_within (s : State) : Within State.noteTe_scope s (State.noteTe s) := by
  unfold State.noteTe
  repeat' first
    | (with_reducible assumption) | (with_reducible apply Within.refl)
    | (with_reducible apply Within.step (State.wr_within ..); rotate_left; decide +kernel) | split

def State.noteHold_scope : Scope := ⟨[.evt], [R.TBS_TE_STAT, R.REF_STAT, R.REF_HO_EST, R.REF_EVT_STAT], []⟩
theorem State.noteHold_within (s : State) : Within State.noteHold_scope s (State.noteHold s) := by
  unfold State.noteHold
  repeat' first
    | (with_reducible assumption) | (with_reducible apply Within.refl) | lift_lets
    | (intro v; refine Within.cut (p := Within State.noteHold_scope s v) ?_ ?_; unfold v; rotate_left; clear_value v; intro hv)
    | (intro v; clear_value v) | intro v
    | (with_reducible apply Within.step (State.wr_within ..); rotate_left; decide +kernel)
    | (with_reducible apply Within.step (State.wrB_within ..); rotate_left; decide +kernel)
    | (with_reducible apply Within.step (State.raise_within ..); rotate_left; decide +kernel)
    | (with_reducible apply Within.step (State.noteTe_within ..); rotate_left; decide +kernel) | split

def State.followModel_scope : Scope := ⟨[.evt, .ref], [R.REF_FREQ_WORD, R.SYN_RAMP_Z, R.SYN_STAT_STEER, R.SYN_STAT,
    R.SYN_EVT_STAT], []⟩
theorem State.followModel_within (s : State) : Within State.followModel_scope s (State.followModel s) := by
  unfold State.followModel
  repeat' first
    | (with_reducible assumption) | (with_reducible apply Within.refl) | lift_lets
    | (intro v; refine Within.cut (p := Within State.followModel_scope s v) ?_ ?_; unfold v; rotate_left; clear_value v; intro hv)
    | (intro v; clear_value v) | intro v
    | (with_reducible apply Within.step (State.accQ_within ..); rotate_left; decide +kernel)
    | (with_reducible apply Within.step (State.updRef_within ..); rotate_left; decide +kernel)
    | (with_reducible apply Within.step (State.setW_within ..); rotate_left; decide +kernel) | split

def State.startLoop_scope : Scope := ⟨[.ref], [], []⟩
theorem State.startLoop_within (s : State) : Within State.startLoop_scope s (State.startLoop s) := by
  unfold State.startLoop
  repeat' first
    | (with_reducible assumption) | (with_reducible apply Within.refl) | lift_lets
    | (intro v; refine Within.cut (p := Within State.startLoop_scope s v) ?_ ?_; unfold v; rotate_left; clear_value v; intro hv)
    | (intro v; clear_value v) | intro v
    | (with_reducible apply Within.step (State.updRef_within ..); rotate_left; decide +kernel) | split

def State.enterRef_scope : Scope := ⟨[.evt, .ref, .syn], [R.TBS_TE_STAT, R.REF_STAT, R.REF_FREQ_WORD, R.REF_HO_EST,
    R.REF_EVT_STAT, R.SYN_RAMP_STAT, R.SYN_RAMP_Z, R.SYN_STAT_STEER, R.SYN_STAT, R.SYN_EVT_STAT], []⟩
theorem State.enterRef_within (s : State) (st sel : Nat) : Within State.enterRef_scope s (State.enterRef s st sel) :=
    by
  unfold State.enterRef
  repeat' first
    | (with_reducible assumption) | (with_reducible apply Within.refl) | lift_lets
    | (intro v; refine Within.cut (p := Within State.enterRef_scope s v) ?_ ?_; unfold v; rotate_left; clear_value v; intro hv)
    | (intro v; clear_value v) | intro v
    | (with_reducible apply Within.step (State.wr_within ..); rotate_left; decide +kernel)
    | (with_reducible apply Within.step (State.raise_within ..); rotate_left; decide +kernel)
    | (with_reducible apply Within.step (State.updRef_within ..); rotate_left; decide +kernel)
    | (with_reducible apply Within.step (State.foldRamp_within ..); rotate_left; decide +kernel)
    | (with_reducible apply Within.step (State.putW_within ..); rotate_left; decide +kernel)
    | (with_reducible apply Within.step (State.followModel_within ..); rotate_left; decide +kernel)
    | (with_reducible apply Within.step (State.noteHold_within ..); rotate_left; decide +kernel)
    | (with_reducible apply Within.step (State.startLoop_within ..); rotate_left; decide +kernel) | split

def State.selectNow_scope : Scope := ⟨[.evt, .tacc, .ref, .syn], [R.TBS_TE_STAT, R.REF_STAT, R.REF_FREQ_WORD,
    R.REF_HO_EST, R.REF_EVT_STAT, R.SYN_RAMP_STAT, R.SYN_RAMP_Z, R.SYN_STAT_STEER, R.SYN_STAT, R.SYN_EVT_STAT,
    R.EVT_STAT], []⟩
theorem State.selectNow_within (s : State) : Within State.selectNow_scope s (State.selectNow s) := by
  unfold State.selectNow
  repeat' first
    | (with_reducible assumption) | (with_reducible apply Within.refl) | lift_lets
    | (intro v; refine Within.cut (p := Within State.selectNow_scope s v) ?_ ?_; unfold v; rotate_left; clear_value v; intro hv)
    | (intro v; clear_value v) | intro v
    | (with_reducible apply Within.step (State.updRef_within ..); rotate_left; decide +kernel)
    | (with_reducible apply Within.step (State.raiseObj_within ..); rotate_left; decide +kernel)
    | (with_reducible apply Within.step (State.raise_within ..); rotate_left; decide +kernel)
    | (with_reducible apply Within.step (State.count_within ..); rotate_left; decide +kernel)
    | (with_reducible apply Within.step (State.enterRef_within ..); rotate_left; decide +kernel) | split

def State.select_scope : Scope := ⟨[.ref], [], []⟩
theorem State.select_within (s : State) : Within State.select_scope s (State.select s) := by
  unfold State.select
  repeat' first
    | (with_reducible assumption) | (with_reducible apply Within.refl)
    | (with_reducible apply Within.step (State.updRef_within ..); rotate_left; decide +kernel) | split

def State.setQ_scope : Scope := ⟨[], [R.REF_SRC_STAT], []⟩
theorem State.setQ_within (s : State) (j v : Nat) : Within State.setQ_scope s (State.setQ s j v) := by
  unfold State.setQ
  repeat' first
    | (with_reducible assumption) | (with_reducible apply Within.refl)
    | (with_reducible apply Within.step (State.wr_within ..); rotate_left; decide +kernel) | split

def State.dropPairs_scope : Scope := ⟨[.ref], [], []⟩
theorem State.dropPairs_within (s : State) (j : Nat) : Within State.dropPairs_scope s (State.dropPairs s j) := by
  unfold State.dropPairs
  repeat' first
    | (with_reducible assumption) | (with_reducible apply Within.refl)
    | (with_reducible apply Within.step (State.updRef_within ..); rotate_left; decide +kernel) | split

def State.startQual_scope : Scope := ⟨[.ref], [R.REF_SRC_STAT], []⟩
theorem State.startQual_within (s : State) (j : Nat) : Within State.startQual_scope s (State.startQual s j) := by
  unfold State.startQual
  repeat' first
    | (with_reducible assumption) | (with_reducible apply Within.refl)
    | (with_reducible apply Within.step (State.setQ_within ..); rotate_left; decide +kernel)
    | (with_reducible apply Within.step (State.updSrc_within ..); rotate_left; decide +kernel) | split

def State.agree_scope : Scope := ⟨[.ref], [], []⟩
theorem State.agree_within (s : State) (j : Nat) : Within State.agree_scope s (State.agree s j) := by
  unfold State.agree
  repeat' first
    | (with_reducible assumption) | (with_reducible apply Within.refl)
    | (with_reducible apply Within.step (State.updRef_within ..); rotate_left; decide +kernel) | split

def State.enterNoSignal_scope : Scope := ⟨[.evt, .tacc], [R.REF_SRC_STAT, R.EVT_STAT], []⟩
theorem State.enterNoSignal_within (s : State) (j : Nat) : Within State.enterNoSignal_scope s (State.enterNoSignal s
    j) := by
  unfold State.enterNoSignal
  repeat' first
    | (with_reducible assumption) | (with_reducible apply Within.refl)
    | (with_reducible apply Within.step (State.setQ_within ..); rotate_left; decide +kernel)
    | (with_reducible apply Within.step (State.count_within ..); rotate_left; decide +kernel) | split

def State.lostSignal_scope : Scope := ⟨[.evt, .tacc, .ref], [R.REF_SRC_STAT, R.EVT_STAT], []⟩
theorem State.lostSignal_within (s : State) (j : Nat) : Within State.lostSignal_scope s (State.lostSignal s j) := by
  unfold State.lostSignal
  repeat' first
    | (with_reducible assumption) | (with_reducible apply Within.refl) | lift_lets
    | (intro v; refine Within.cut (p := Within State.lostSignal_scope s v) ?_ ?_; unfold v; rotate_left; clear_value v; intro hv)
    | (intro v; clear_value v) | intro v
    | (with_reducible apply Within.step (State.agree_within ..); rotate_left; decide +kernel)
    | (with_reducible apply Within.step (State.enterNoSignal_within ..); rotate_left; decide +kernel)
    | (with_reducible apply Within.step (State.dropPairs_within ..); rotate_left; decide +kernel)
    | (with_reducible apply Within.step (State.updSrc_within ..); rotate_left; decide +kernel) | split

def State.signalBack_scope : Scope := ⟨[.ref], [R.REF_SRC_STAT], []⟩
theorem State.signalBack_within (s : State) (j : Nat) : Within State.signalBack_scope s (State.signalBack s j) := by
  unfold State.signalBack
  repeat' first
    | (with_reducible assumption) | (with_reducible apply Within.refl) | lift_lets
    | (intro v; refine Within.cut (p := Within State.signalBack_scope s v) ?_ ?_; unfold v; rotate_left; clear_value v; intro hv)
    | (intro v; clear_value v) | intro v
    | (with_reducible apply Within.step (State.updSrc_within ..); rotate_left; decide +kernel)
    | (with_reducible apply Within.step (State.updRef_within ..); rotate_left; decide +kernel)
    | (with_reducible apply Within.step (State.startQual_within ..); rotate_left; decide +kernel) | split

def State.noSignal_scope : Scope := ⟨[.evt, .tacc, .ref], [R.REF_SRC_STAT, R.EVT_STAT], []⟩
theorem State.noSignal_within (s : State) (j : Nat) : Within State.noSignal_scope s (State.noSignal s j) := by
  unfold State.noSignal
  repeat' first
    | (with_reducible assumption) | (with_reducible apply Within.refl)
    | (with_reducible apply Within.step (State.lostSignal_within ..); rotate_left; decide +kernel)
    | (with_reducible apply Within.step (State.select_within ..); rotate_left; decide +kernel) | split

def State.disqualify_scope : Scope := ⟨[.evt, .tacc, .ref], [R.REF_SRC_STAT, R.REF_EVT_STAT, R.EVT_STAT], []⟩
theorem State.disqualify_within (s : State) (j cause : Nat) : Within State.disqualify_scope s (State.disqualify s j
    cause) := by
  unfold State.disqualify
  repeat' first
    | (with_reducible assumption) | (with_reducible apply Within.refl) | lift_lets
    | (intro v; refine Within.cut (p := Within State.disqualify_scope s v) ?_ ?_; unfold v; rotate_left; clear_value v; intro hv)
    | (intro v; clear_value v) | intro v
    | (with_reducible apply Within.step (State.setQ_within ..); rotate_left; decide +kernel)
    | (with_reducible apply Within.step (State.wr_within ..); rotate_left; decide +kernel)
    | (with_reducible apply Within.step (State.updSrc_within ..); rotate_left; decide +kernel)
    | (with_reducible apply Within.step (State.count_within ..); rotate_left; decide +kernel)
    | (with_reducible apply Within.step (State.raise_within ..); rotate_left; decide +kernel)
    | (with_reducible apply Within.step (State.agree_within ..); rotate_left; decide +kernel)
    | (with_reducible apply Within.step (State.updRef_within ..); rotate_left; decide +kernel)
    | (with_reducible apply Within.step (State.select_within ..); rotate_left; decide +kernel)
    | (with_reducible apply Within.step (State.startQual_within ..); rotate_left; decide +kernel) | split

def State.comparePair_scope : Scope := ⟨[.evt, .ref], [R.REF_EVT_STAT], []⟩
theorem State.comparePair_within (s : State) (j k : Nat) (d : Int) : Within State.comparePair_scope s
    (State.comparePair s j k d) := by
  unfold State.comparePair
  repeat' first
    | (with_reducible assumption) | (with_reducible apply Within.refl) | lift_lets
    | (intro v; refine Within.cut (p := Within State.comparePair_scope s v) ?_ ?_; unfold v; rotate_left; clear_value v; intro hv)
    | (intro v; clear_value v) | intro v
    | (with_reducible apply Within.step (State.updRef_within ..); rotate_left; decide +kernel)
    | (with_reducible apply Within.step (State.raise_within ..); rotate_left; decide +kernel) | split

def State.comparePairs_scope : Scope := ⟨[.evt, .ref], [R.REF_EVT_STAT], []⟩
theorem State.comparePairs_within (s : State) (j : Nat) (e : Int) : Within State.comparePairs_scope s
    (State.comparePairs s j e) := by
  unfold State.comparePairs
  repeat' first
    | (with_reducible assumption) | (with_reducible apply Within.refl)
    | (with_reducible apply Within.step (State.comparePair_within ..); rotate_left; decide +kernel)
    | (with_reducible apply Within.each; rotate_left; intro x a hx; try beta_reduce; rotate_left)
    | (with_reducible apply Within.foldl; rotate_left; intro x a hx; try beta_reduce; rotate_left) | split

def State.vote_scope : Scope := ⟨[.evt, .tacc, .ref], [R.REF_SRC_STAT, R.REF_EVT_STAT, R.EVT_STAT], []⟩
theorem State.vote_within (s : State) : Within State.vote_scope s (State.vote s) := by
  unfold State.vote
  repeat' first
    | (with_reducible assumption) | (with_reducible apply Within.refl)
    | (with_reducible apply Within.step (State.disqualify_within ..); rotate_left; decide +kernel)
    | (with_reducible apply Within.each; rotate_left; intro x a hx; try beta_reduce; rotate_left)
    | (with_reducible apply Within.foldl; rotate_left; intro x a hx; try beta_reduce; rotate_left) | split

def State.loopTake_scope : Scope := ⟨[.nextFree, .evt, .ref], [R.REF_FREQ_WORD, R.SYN_RAMP_Z, R.SYN_STAT_STEER,
    R.SYN_STAT, R.SYN_EVT_STAT], []⟩
theorem State.loopTake_within (s : State) (j : Nat) (ofs : Int) : Within State.loopTake_scope s (State.loopTake s j
    ofs) := by
  unfold State.loopTake
  repeat' first
    | (with_reducible assumption) | (with_reducible apply Within.refl) | lift_lets
    | (intro v; refine Within.cut (p := Within State.loopTake_scope s v) ?_ ?_; unfold v; rotate_left; clear_value v; intro hv)
    | (intro v; clear_value v) | intro v
    | (with_reducible apply Within.step (State.updRef_within ..); rotate_left; decide +kernel)
    | (with_reducible apply Within.step (State.setW_within ..); rotate_left; decide +kernel) | split
    | (with_reducible apply Within.step (Within.put_nextFree ..); rotate_left; decide +kernel)

def State.offsetSample_scope : Scope := ⟨[.nextFree, .evt, .tacc, .ref], [R.REF_SRC_STAT, R.REF_SRC_DEP,
    R.REF_FREQ_WORD, R.REF_EVT_STAT, R.SYN_RAMP_Z, R.SYN_STAT_STEER, R.SYN_STAT, R.SYN_EVT_STAT, R.EVT_STAT], []⟩
theorem State.offsetSample_within (s : State) (j : Nat) (ofs toDep : Int) : Within State.offsetSample_scope s
    (State.offsetSample s j ofs toDep) := by
  unfold State.offsetSample
  repeat' first
    | (with_reducible assumption) | (with_reducible apply Within.refl) | lift_lets
    | (intro v; refine Within.cut (p := Within State.offsetSample_scope s v) ?_ ?_; unfold v; rotate_left; clear_value v; intro hv)
    | (intro v; clear_value v) | intro v
    | (with_reducible apply Within.step (State.signalBack_within ..); rotate_left; decide +kernel)
    | (with_reducible apply Within.step (State.accQ_within ..); rotate_left; decide +kernel)
    | (with_reducible apply Within.step (State.wr_within ..); rotate_left; decide +kernel)
    | (with_reducible apply Within.step (State.wrS_within ..); rotate_left; decide +kernel)
    | (with_reducible apply Within.step (State.count_within ..); rotate_left; decide +kernel)
    | (with_reducible apply Within.step (State.updSrc_within ..); rotate_left; decide +kernel)
    | (with_reducible apply Within.step (State.disqualify_within ..); rotate_left; decide +kernel)
    | (with_reducible apply Within.step (State.vote_within ..); rotate_left; decide +kernel)
    | (with_reducible apply Within.step (State.comparePairs_within ..); rotate_left; decide +kernel)
    | (with_reducible apply Within.step (State.loopTake_within ..); rotate_left; decide +kernel)
    | (with_reducible apply Within.step (State.select_within ..); rotate_left; decide +kernel) | split

def State.todError_scope : Scope := ⟨[.evt, .tacc, .ref], [R.REF_SRC_STAT, R.REF_EVT_STAT, R.EVT_STAT], []⟩
theorem State.todError_within (s : State) (k : Nat) : Within State.todError_scope s (State.todError s k) := by
  unfold State.todError
  repeat' first
    | (with_reducible assumption) | (with_reducible apply Within.refl) | lift_lets
    | (intro v; refine Within.cut (p := Within State.todError_scope s v) ?_ ?_; unfold v; rotate_left; clear_value v; intro hv)
    | (intro v; clear_value v) | intro v
    | (with_reducible apply Within.step (State.count_within ..); rotate_left; decide +kernel)
    | (with_reducible apply Within.step (State.raise_within ..); rotate_left; decide +kernel)
    | (with_reducible apply Within.step (State.updSrc_within ..); rotate_left; decide +kernel)
    | (with_reducible apply Within.step (State.noSignal_within ..); rotate_left; decide +kernel) | split

def State.labelled_scope : Scope := ⟨[.nextFree, .evt, .tacc, .ref], [R.REF_SRC_STAT, R.REF_SRC_DEP, R.REF_FREQ_WORD,
    R.REF_EVT_STAT, R.SYN_RAMP_Z, R.SYN_STAT_STEER, R.SYN_STAT, R.SYN_EVT_STAT, R.EVT_STAT], []⟩
theorem State.labelled_within (s : State) (k label : Nat) (stamp toDep : Int) : Within State.labelled_scope s
    (State.labelled s k label stamp toDep) := by
  unfold State.labelled
  repeat' first
    | (with_reducible assumption) | (with_reducible apply Within.refl) | lift_lets
    | (intro v; refine Within.cut (p := Within State.labelled_scope s v) ?_ ?_; unfold v; rotate_left; clear_value v; intro hv)
    | (intro v; clear_value v) | intro v
    | (with_reducible apply Within.step (State.updSrc_within ..); rotate_left; decide +kernel)
    | (with_reducible apply Within.step (State.todError_within ..); rotate_left; decide +kernel)
    | (with_reducible apply Within.step (State.offsetSample_within ..); rotate_left; decide +kernel) | split

def State.tardyTod_scope : Scope := ⟨[.evt, .tacc, .ref], [R.REF_SRC_STAT, R.REF_EVT_STAT, R.EVT_STAT], []⟩
theorem State.tardyTod_within (s : State) (k : Nat) : Within State.tardyTod_scope s (State.tardyTod s k) := by
  unfold State.tardyTod
  repeat' first
    | (with_reducible assumption) | (with_reducible apply Within.refl)
    | (with_reducible apply Within.step (State.updSrc_within ..); rotate_left; decide +kernel)
    | (with_reducible apply Within.step (State.todError_within ..); rotate_left; decide +kernel) | split

def State.freqCycle_scope : Scope := ⟨[.nextFree, .evt, .tacc, .ref], [R.REF_SRC_STAT, R.REF_SRC_DEP, R.REF_FREQ_WORD,
    R.REF_EVT_STAT, R.SYN_RAMP_Z, R.SYN_STAT_STEER, R.SYN_STAT, R.SYN_EVT_STAT, R.EVT_STAT], []⟩
theorem State.freqCycle_within (s : State) (k : Nat) (stamp : Int) : Within State.freqCycle_scope s (State.freqCycle s
    k stamp) := by
  unfold State.freqCycle
  repeat' first
    | (with_reducible assumption) | (with_reducible apply Within.refl) | lift_lets
    | (intro v; refine Within.cut (p := Within State.freqCycle_scope s v) ?_ ?_; unfold v; rotate_left; clear_value v; intro hv)
    | (intro v; clear_value v) | intro v
    | (with_reducible apply Within.step (State.updSrc_within ..); rotate_left; decide +kernel)
    | (with_reducible apply Within.step (State.offsetSample_within ..); rotate_left; decide +kernel) | split

def State.notePtp_scope : Scope := ⟨[.evt, .tacc, .ref], [R.REF_SRC_STAT, R.EVT_STAT], []⟩
theorem State.notePtp_within (s : State) : Within State.notePtp_scope s (State.notePtp s) := by
  unfold State.notePtp
  repeat' first
    | (with_reducible assumption) | (with_reducible apply Within.refl)
    | (with_reducible apply Within.step (State.noSignal_within ..); rotate_left; decide +kernel) | split

def State.refJump_scope : Scope := ⟨[.ref], [], []⟩
theorem State.refJump_within (s : State) (k : Nat) (jump : Int) : Within State.refJump_scope s (State.refJump s k
    jump) := by
  unfold State.refJump
  repeat' first
    | (with_reducible assumption) | (with_reducible apply Within.refl) | lift_lets
    | (intro v; refine Within.cut (p := Within State.refJump_scope s v) ?_ ?_; unfold v; rotate_left; clear_value v; intro hv)
    | (intro v; clear_value v) | intro v
    | (with_reducible apply Within.step (State.updSrc_within ..); rotate_left; decide +kernel)
    | (with_reducible apply Within.step (State.updRef_within ..); rotate_left; decide +kernel) | split

def State.meanOffset_scope : Scope := ⟨[.nextFree, .evt, .tacc, .ref], [R.REF_SRC_STAT, R.REF_SRC_DEP,
    R.REF_FREQ_WORD, R.REF_EVT_STAT, R.SYN_RAMP_Z, R.SYN_STAT_STEER, R.SYN_STAT, R.SYN_EVT_STAT, R.EVT_STAT], []⟩
theorem State.meanOffset_within (s : State) (j : Nat) : Within State.meanOffset_scope s (State.meanOffset s j) := by
  unfold State.meanOffset
  repeat' first
    | (with_reducible assumption) | (with_reducible apply Within.refl) | lift_lets
    | (intro v; refine Within.cut (p := Within State.meanOffset_scope s v) ?_ ?_; unfold v; rotate_left; clear_value v; intro hv)
    | (intro v; clear_value v) | intro v
    | (with_reducible apply Within.step (State.updSrc_within ..); rotate_left; decide +kernel)
    | (with_reducible apply Within.step (State.offsetSample_within ..); rotate_left; decide +kernel) | split

def State.lineOffset_scope : Scope := ⟨[.nextFree, .evt, .tacc, .ref], [R.REF_SRC_STAT, R.REF_SRC_DEP,
    R.REF_FREQ_WORD, R.REF_EVT_STAT, R.SYN_RAMP_Z, R.SYN_STAT_STEER, R.SYN_STAT, R.SYN_EVT_STAT, R.EVT_STAT], []⟩
theorem State.lineOffset_within (s : State) (j len : Nat) (ofs : Int) : Within State.lineOffset_scope s
    (State.lineOffset s j len ofs) := by
  unfold State.lineOffset
  repeat' first
    | (with_reducible assumption) | (with_reducible apply Within.refl) | lift_lets
    | (intro v; refine Within.cut (p := Within State.lineOffset_scope s v) ?_ ?_; unfold v; rotate_left; clear_value v; intro hv)
    | (intro v; clear_value v) | intro v
    | (with_reducible apply Within.step (State.meanOffset_within ..); rotate_left; decide +kernel)
    | (with_reducible apply Within.step (State.updSrc_within ..); rotate_left; decide +kernel) | split

def State.lineHeld_scope : Scope := ⟨[.ref], [R.REF_SRC_STAT], []⟩
theorem State.lineHeld_within (s : State) (j : Nat) : Within State.lineHeld_scope s (State.lineHeld s j) := by
  unfold State.lineHeld
  repeat' first
    | (with_reducible assumption) | (with_reducible apply Within.refl) | lift_lets
    | (intro v; refine Within.cut (p := Within State.lineHeld_scope s v) ?_ ?_; unfold v; rotate_left; clear_value v; intro hv)
    | (intro v; clear_value v) | intro v
    | (with_reducible apply Within.step (State.startQual_within ..); rotate_left; decide +kernel)
    | (with_reducible apply Within.step (State.select_within ..); rotate_left; decide +kernel)
    | (with_reducible apply Within.step (State.updSrc_within ..); rotate_left; decide +kernel) | split

def State.dropLineRefs_scope : Scope := ⟨[.evt, .tacc, .ref], [R.REF_SRC_STAT, R.EVT_STAT], []⟩
theorem State.dropLineRefs_within (s : State) : Within State.dropLineRefs_scope s (State.dropLineRefs s) := by
  unfold State.dropLineRefs
  repeat' first
    | (with_reducible assumption) | (with_reducible apply Within.refl)
    | (with_reducible apply Within.step (State.lostSignal_within ..); rotate_left; decide +kernel)
    | (with_reducible apply Within.step (State.select_within ..); rotate_left; decide +kernel) | split

def State.writeWord_scope : Scope := ⟨[.evt, .ref], [R.REF_FREQ_WORD, R.SYN_RAMP_Z, R.SYN_STAT_STEER, R.SYN_STAT,
    R.SYN_EVT_STAT, R.EVT_RESERVED_OFS, R.EVT_STAT], []⟩
theorem State.writeWord_within (s : State) (w : Word) : Within State.writeWord_scope s (State.writeWord s w) := by
  unfold State.writeWord
  repeat' first
    | (with_reducible assumption) | (with_reducible apply Within.refl)
    | (with_reducible apply Within.step (State.reservedEnc_within ..); rotate_left; decide +kernel)
    | (with_reducible apply Within.step (State.setW_within ..); rotate_left; decide +kernel)
    | (with_reducible apply Within.step (State.updRef_within ..); rotate_left; decide +kernel) | split

def State.peRead_scope : Scope := ⟨[.ref, .out], [R.REF_PE_CNT, R.REF_PE_LO, R.REF_PE_HI], []⟩
theorem State.peRead_within (s : State) : Within State.peRead_scope s (State.peRead s) := by
  unfold State.peRead
  repeat' first
    | (with_reducible assumption) | (with_reducible apply Within.refl) | split | lift_lets
    | (intro v; refine Within.cut (p := Within State.peRead_scope s v) ?_ ?_; unfold v; rotate_left; clear_value v; intro hv)
    | (intro v; clear_value v) | intro v
    | (with_reducible apply Within.step (State.setReg_within ..); rotate_left; decide +kernel)
    | (with_reducible apply Within.step (State.updRef_within ..); rotate_left; decide +kernel)
    | (with_reducible apply Within.step (State.wr_within ..); rotate_left; decide +kernel)
    | (with_reducible apply Within.step (State.emit_within ..); rotate_left; decide +kernel) | split

def State.force_scope : Scope := ⟨[.ref], [R.REF_STAT], []⟩
theorem State.force_within (s : State) (f : Option Nat) : Within State.force_scope s (State.force s f) := by
  unfold State.force
  repeat' first
    | (with_reducible assumption) | (with_reducible apply Within.refl)
    | (with_reducible apply Within.step (State.updRef_within ..); rotate_left; decide +kernel)
    | (with_reducible apply Within.step (State.wrB_within ..); rotate_left; decide +kernel)
    | (with_reducible apply Within.step (State.select_within ..); rotate_left; decide +kernel) | split

def State.refPrepare_scope : Scope := ⟨[.evt, .tb, .ref], [R.ALM_STAT, R.ALM_EVT_STAT, R.TBS_DOM_STAT], []⟩
theorem State.refPrepare_within (s : State) : Within State.refPrepare_scope s (State.refPrepare s) := by
  unfold State.refPrepare
  repeat' first
    | (with_reducible assumption) | (with_reducible apply Within.refl) | lift_lets
    | (intro v; refine Within.cut (p := Within State.refPrepare_scope s v) ?_ ?_; unfold v; rotate_left; clear_value v; intro hv)
    | (intro v; clear_value v) | intro v
    | (with_reducible apply Within.step (State.accQ_within ..); rotate_left; decide +kernel)
    | (with_reducible apply Within.step (State.updRef_within ..); rotate_left; decide +kernel)
    | (with_reducible apply Within.step (State.setRes_within ..); rotate_left; decide +kernel)
    | (with_reducible apply Within.each; rotate_left; intro x a hx; try beta_reduce; rotate_left)
    | (with_reducible apply Within.foldl; rotate_left; intro x a hx; try beta_reduce; rotate_left) | split

def State.refCommit_scope : Scope := ⟨[.evt, .tacc, .ref, .syn], [R.TBS_TE_STAT, R.REF_SRC_STAT, R.REF_STAT,
    R.REF_FREQ_WORD, R.REF_HO_EST, R.REF_EVT_STAT, R.SYN_RAMP_STAT, R.SYN_RAMP_Z, R.SYN_STAT_STEER, R.SYN_STAT,
    R.SYN_EVT_STAT, R.EVT_STAT], []⟩
theorem State.refCommit_within (s b : State) : Within State.refCommit_scope s (State.refCommit s b) := by
  unfold State.refCommit
  repeat' first
    | (with_reducible assumption) | (with_reducible apply Within.refl) | lift_lets
    | (intro v; refine Within.cut (p := Within State.refCommit_scope s v) ?_ ?_; unfold v; rotate_left; clear_value v; intro hv)
    | (intro v; clear_value v) | intro v
    | (with_reducible apply Within.step (State.setQ_within ..); rotate_left; decide +kernel)
    | (with_reducible apply Within.step (State.dropPairs_within ..); rotate_left; decide +kernel)
    | (with_reducible apply Within.step (State.updSrc_within ..); rotate_left; decide +kernel)
    | (with_reducible apply Within.step (State.enterNoSignal_within ..); rotate_left; decide +kernel)
    | (with_reducible apply Within.step (State.refJump_within ..); rotate_left; decide +kernel)
    | (with_reducible apply Within.step (State.putW_within ..); rotate_left; decide +kernel)
    | (with_reducible apply Within.step (State.updRef_within ..); rotate_left; decide +kernel)
    | (with_reducible apply Within.step (State.foldRamp_within ..); rotate_left; decide +kernel)
    | (with_reducible apply Within.step (State.startLoop_within ..); rotate_left; decide +kernel)
    | (with_reducible apply Within.step (State.startPpso_within ..); rotate_left; decide +kernel)
    | (with_reducible apply Within.step (State.select_within ..); rotate_left; decide +kernel)
    | (with_reducible apply Within.step (State.noteHold_within ..); rotate_left; decide +kernel)
    | (with_reducible apply Within.each; rotate_left; intro x a hx; try beta_reduce; rotate_left)
    | (with_reducible apply Within.foldl; rotate_left; intro x a hx; try beta_reduce; rotate_left) | split

end Sys2Proof.Machine
end

