-- ==== Sys2Proof/Laws/FramesTimeCmd.lean ====
section
/-! SUPPORT. Sys2Proof/Laws/FramesTimeCmd.lean: what each operation of Machine/TimeCmd.lean may change. -/
set_option Elab.async false
set_option linter.unusedTactic false
set_option linter.unreachableTactic false
set_option linter.unnecessarySeqFocus false
namespace Sys2Proof.Machine

def State.adjustDom_scope : Scope := ⟨[.evt, .tb, .ref, .syn], [R.ALM_STAT, R.ALM_EVT_STAT, R.TBS_DOM_STAT,
    R.TBS_DOM_INC_LO, R.TBS_DOM_INC_HI, R.TBS_EVT_STAT, R.TBS_TRIG_SKIP, R.REF_EVT_STAT], []⟩
theorem State.adjustDom_within (s : State) (n : Nat) (inc : Option Nat) (step : Option Int) (noSlew : Bool) : Within
    State.adjustDom_scope s (State.adjustDom s n inc step noSlew) := by
  unfold State.adjustDom
  repeat' first
    | (with_reducible assumption) | (with_reducible apply Within.refl) | lift_lets
    | (intro v; refine Within.cut (p := Within State.adjustDom_scope s v) ?_ ?_; unfold v; rotate_left; clear_value v; intro hv)
    | (intro v; clear_value v) | intro v
    | (with_reducible apply Within.step (State.setInc_within ..); rotate_left; decide +kernel)
    | (with_reducible apply Within.step (State.stepDom_within ..); rotate_left; decide +kernel) | split

def State.schedule_scope : Scope := ⟨[.gr, .tb], [R.TBS_DOM_STAT], []⟩
theorem State.schedule_within (s : State) (m n : Nat) (a : Adjust) : Within State.schedule_scope s (State.schedule s m
    n a) := by
  unfold State.schedule
  repeat' first
    | (with_reducible assumption) | (with_reducible apply Within.refl) | lift_lets
    | (intro v; refine Within.cut (p := Within State.schedule_scope s v) ?_ ?_; unfold v; rotate_left; clear_value v; intro hv)
    | (intro v; clear_value v) | intro v
    | (with_reducible apply Within.step (State.updDom_within ..); rotate_left; decide +kernel)
    | (with_reducible apply Within.step (State.wr_within ..); rotate_left; decide +kernel)
    | (with_reducible apply Within.step (State.running_within ..); rotate_left; decide +kernel) | split

def State.snapshot_scope : Scope := ⟨[.tb], [R.TBS_SNAP_TICK_LO, R.TBS_SNAP_TICK_HI, R.TBS_SNAP_NS, R.TBS_SNAP_SLO,
    R.TBS_SNAP_SHI], []⟩
theorem State.snapshot_within (s : State) (data : Word) : Within State.snapshot_scope s (State.snapshot s data) := by
  unfold State.snapshot
  repeat' first
    | (with_reducible assumption) | (with_reducible apply Within.refl) | lift_lets
    | (intro v; refine Within.cut (p := Within State.snapshot_scope s v) ?_ ?_; unfold v; rotate_left; clear_value v; intro hv)
    | (intro v; clear_value v) | intro v
    | (with_reducible apply Within.step (State.updTb_within ..); rotate_left; decide +kernel)
    | (with_reducible apply Within.step (State.setReg_within ..); rotate_left; decide +kernel)
    | (with_reducible apply Within.each; rotate_left; intro x a hx; try beta_reduce; rotate_left)
    | (with_reducible apply Within.foldl; rotate_left; intro x a hx; try beta_reduce; rotate_left) | split

def State.consWrite_scope : Scope := ⟨[.evt, .tb], [R.TBS_RPT_PEND, R.TBS_EVT_STAT, R.TBS_RPT_CONS,
    R.EVT_RESERVED_OFS, R.EVT_STAT], []⟩
theorem State.consWrite_within (s : State) (p : Nat) (data : Word) : Within State.consWrite_scope s (State.consWrite s
    p data) := by
  unfold State.consWrite
  repeat' first
    | (with_reducible assumption) | (with_reducible apply Within.refl) | lift_lets
    | (intro v; refine Within.cut (p := Within State.consWrite_scope s v) ?_ ?_; unfold v; rotate_left; clear_value v; intro hv)
    | (intro v; clear_value v) | intro v
    | (with_reducible apply Within.step (State.reservedEnc_within ..); rotate_left; decide +kernel)
    | (with_reducible apply Within.step (State.updTb_within ..); rotate_left; decide +kernel)
    | (with_reducible apply Within.step (State.wr_within ..); rotate_left; decide +kernel)
    | (with_reducible apply Within.step (State.setPend_within ..); rotate_left; decide +kernel) | split

def State.tbsPrepare_scope : Scope := ⟨[.tb], [], []⟩
theorem State.tbsPrepare_within (s : State) : Within State.tbsPrepare_scope s (State.tbsPrepare s) := by
  unfold State.tbsPrepare
  repeat' first
    | (with_reducible assumption) | (with_reducible apply Within.refl) | lift_lets
    | (intro v; refine Within.cut (p := Within State.tbsPrepare_scope s v) ?_ ?_; unfold v; rotate_left; clear_value v; intro hv)
    | (intro v; clear_value v) | intro v
    | (with_reducible apply Within.step (State.noteDoms_within ..); rotate_left; decide +kernel)
    | (with_reducible apply Within.step (State.updDom_within ..); rotate_left; decide +kernel)
    | (with_reducible apply Within.each; rotate_left; intro x a hx; try beta_reduce; rotate_left)
    | (with_reducible apply Within.foldl; rotate_left; intro x a hx; try beta_reduce; rotate_left) | split

def State.tbsCommit_scope : Scope := ⟨[.evt, .tacc, .tb, .ref, .syn, .out], [R.ALM_STAT, R.ALM_EVT_STAT,
    R.TBS_DOM_STAT, R.TBS_DOM_INC_LO, R.TBS_DOM_INC_HI, R.TBS_EVT_STAT, R.TBS_TRIG_STAT, R.TBS_TRIG_SKIP,
    R.REF_SRC_STAT, R.REF_EVT_STAT, R.EVT_STAT], []⟩
theorem State.tbsCommit_within (s b : State) : Within State.tbsCommit_scope s (State.tbsCommit s b) := by
  unfold State.tbsCommit
  repeat' first
    | (with_reducible assumption) | (with_reducible apply Within.refl) | lift_lets
    | (intro v; refine Within.cut (p := Within State.tbsCommit_scope s v) ?_ ?_; unfold v; rotate_left; clear_value v; intro hv)
    | (intro v; clear_value v) | intro v
    | (with_reducible apply Within.step (State.wr_within ..); rotate_left; decide +kernel)
    | (with_reducible apply Within.step (State.updDom_within ..); rotate_left; decide +kernel)
    | (with_reducible apply Within.step (State.setReg_within ..); rotate_left; decide +kernel)
    | (with_reducible apply Within.step (State.stepped_within ..); rotate_left; decide +kernel)
    | (with_reducible apply Within.step (State.startTrig_within ..); rotate_left; decide +kernel)
    | (with_reducible apply Within.step (State.driveTrigs_within ..); rotate_left; decide +kernel)
    | (with_reducible apply Within.step (State.notePtp_within ..); rotate_left; decide +kernel)
    | (with_reducible apply Within.each; rotate_left; intro x a hx; try beta_reduce; rotate_left)
    | (with_reducible apply Within.foldl; rotate_left; intro x a hx; try beta_reduce; rotate_left) | split

end Sys2Proof.Machine
end

