-- ==== Sys2Proof/Laws/FramesTimeTransfer.lean ====
section
/-! SUPPORT. Sys2Proof/Laws/FramesTimeTransfer.lean: what each operation of Machine/TimeTransfer.lean may change. -/
set_option Elab.async false
set_option linter.unusedTactic false
set_option linter.unreachableTactic false
set_option linter.unnecessarySeqFocus false
namespace Sys2Proof.Machine

def State.updTtCar_scope : Scope := ⟨[.cars, .tt], [], []⟩
theorem State.updTtCar_within (s : State) (c : Nat) (f : TtCar → TtCar) : Within State.updTtCar_scope s
    (State.updTtCar s c f) := by
  unfold State.updTtCar
  repeat' first
    | (with_reducible assumption) | (with_reducible apply Within.refl)
    | (with_reducible apply Within.step (State.updTt_within ..); rotate_left; decide +kernel) | split
    | (with_reducible apply Within.step (Within.put_cars ..); rotate_left; decide +kernel)

def State.updTtSheaf_scope : Scope := ⟨[.sheaves, .tt], [], []⟩
theorem State.updTtSheaf_within (s : State) (h : Nat) (f : TtSheaf → TtSheaf) : Within State.updTtSheaf_scope s
    (State.updTtSheaf s h f) := by
  unfold State.updTtSheaf
  repeat' first
    | (with_reducible assumption) | (with_reducible apply Within.refl)
    | (with_reducible apply Within.step (State.updTt_within ..); rotate_left; decide +kernel) | split
    | (with_reducible apply Within.step (Within.put_sheaves ..); rotate_left; decide +kernel)

def State.noteMeas_scope : Scope := ⟨[], [R.SHF_TT_STAT], []⟩
theorem State.noteMeas_within (s : State) (h : Nat) : Within State.noteMeas_scope s (State.noteMeas s h) := by
  unfold State.noteMeas
  repeat' first
    | (with_reducible assumption) | (with_reducible apply Within.refl)
    | (with_reducible apply Within.step (State.wr_within ..); rotate_left; decide +kernel) | split

def State.setCurrent_scope : Scope := ⟨[.evt], [R.SHF_TT_STAT, R.SHF_TT_EVT_STAT], []⟩
theorem State.setCurrent_within (s : State) (h : Nat) (b : Bool) : Within State.setCurrent_scope s (State.setCurrent s
    h b) := by
  unfold State.setCurrent
  repeat' first
    | (with_reducible assumption) | (with_reducible apply Within.refl) | lift_lets
    | (intro v; refine Within.cut (p := Within State.setCurrent_scope s v) ?_ ?_; unfold v; rotate_left; clear_value v; intro hv)
    | (intro v; clear_value v) | intro v
    | (with_reducible apply Within.step (State.wrB_within ..); rotate_left; decide +kernel)
    | (with_reducible apply Within.step (State.raise_within ..); rotate_left; decide +kernel) | split

def State.leaveSet_scope : Scope := ⟨[.evt, .tacc, .cars, .sheaves, .tt, .ref], [R.SHF_TT_STAT, R.SHF_TT_EVT_STAT,
    R.REF_SRC_STAT, R.EVT_STAT], []⟩
theorem State.leaveSet_within (s : State) (c : Nat) : Within State.leaveSet_scope s (State.leaveSet s c) := by
  unfold State.leaveSet
  repeat' first
    | (with_reducible assumption) | (with_reducible apply Within.refl) | lift_lets
    | (intro v; refine Within.cut (p := Within State.leaveSet_scope s v) ?_ ?_; unfold v; rotate_left; clear_value v; intro hv)
    | (intro v; clear_value v) | intro v
    | (with_reducible apply Within.step (State.updTtCar_within ..); rotate_left; decide +kernel)
    | (with_reducible apply Within.step (State.noteMeas_within ..); rotate_left; decide +kernel)
    | (with_reducible apply Within.step (State.updTtSheaf_within ..); rotate_left; decide +kernel)
    | (with_reducible apply Within.step (State.setCurrent_within ..); rotate_left; decide +kernel)
    | (with_reducible apply Within.step (State.raise_within ..); rotate_left; decide +kernel)
    | (with_reducible apply Within.step (State.noSignal_within ..); rotate_left; decide +kernel) | split

def State.ttNote_scope : Scope := ⟨[.evt, .tacc, .cars, .sheaves, .tt, .ref], [R.SHF_TT_STAT, R.SHF_TT_EVT_STAT,
    R.REF_SRC_STAT, R.EVT_STAT], []⟩
theorem State.ttNote_within (s : State) (c : Nat) : Within State.ttNote_scope s (State.ttNote s c) := by
  unfold State.ttNote
  repeat' first
    | (with_reducible assumption) | (with_reducible apply Within.refl)
    | (with_reducible apply Within.step (State.updTtCar_within ..); rotate_left; decide +kernel)
    | (with_reducible apply Within.step (State.leaveSet_within ..); rotate_left; decide +kernel) | split

def State.putEst_scope : Scope := ⟨[.sheaves, .tt], [], []⟩
theorem State.putEst_within (s : State) (h k : Nat) (v : Int) : Within State.putEst_scope s (State.putEst s h k v) :=
    by
  unfold State.putEst
  repeat' first
    | (with_reducible assumption) | (with_reducible apply Within.refl)
    | (with_reducible apply Within.step (State.updTtSheaf_within ..); rotate_left; decide +kernel) | split

def State.estimate_scope : Scope := ⟨[.nextFree, .sheaves, .tt], [], []⟩
theorem State.estimate_within (s : State) (c : Nat) : Within State.estimate_scope s (State.estimate s c) := by
  unfold State.estimate
  repeat' first
    | (with_reducible assumption) | (with_reducible apply Within.refl) | lift_lets
    | (intro v; refine Within.cut (p := Within State.estimate_scope s v) ?_ ?_; unfold v; rotate_left; clear_value v; intro hv)
    | (intro v; clear_value v) | intro v
    | (with_reducible apply Within.step (State.updTtSheaf_within ..); rotate_left; decide +kernel)
    | (with_reducible apply Within.step (State.putEst_within ..); rotate_left; decide +kernel) | split
    | (with_reducible apply Within.step (Within.put_nextFree ..); rotate_left; decide +kernel)

def State.noteCp_scope : Scope := ⟨[.evt, .cars, .tt], [R.SHF_TT_EVT_STAT], []⟩
theorem State.noteCp_within (s : State) (c : Nat) : Within State.noteCp_scope s (State.noteCp s c) := by
  unfold State.noteCp
  repeat' first
    | (with_reducible assumption) | (with_reducible apply Within.refl) | lift_lets
    | (intro v; refine Within.cut (p := Within State.noteCp_scope s v) ?_ ?_; unfold v; rotate_left; clear_value v; intro hv)
    | (intro v; clear_value v) | intro v
    | (with_reducible apply Within.step (State.updTtCar_within ..); rotate_left; decide +kernel)
    | (with_reducible apply Within.step (State.raise_within ..); rotate_left; decide +kernel) | split

def State.ttGrain_scope : Scope := ⟨[.evt, .tacc, .cars, .sheaves, .tt, .ref], [R.SHF_TT_STAT, R.SHF_TT_EVT_STAT,
    R.REF_SRC_STAT, R.EVT_STAT], []⟩
theorem State.ttGrain_within (s : State) (c : Nat) : Within State.ttGrain_scope s (State.ttGrain s c) := by
  unfold State.ttGrain
  repeat' first
    | (with_reducible assumption) | (with_reducible apply Within.refl) | lift_lets
    | (intro v; refine Within.cut (p := Within State.ttGrain_scope s v) ?_ ?_; unfold v; rotate_left; clear_value v; intro hv)
    | (intro v; clear_value v) | intro v
    | (with_reducible apply Within.step (State.noteCp_within ..); rotate_left; decide +kernel)
    | (with_reducible apply Within.step (State.leaveSet_within ..); rotate_left; decide +kernel) | split

def State.echoPair_scope : Scope := ⟨[.nextFree, .evt, .tacc, .cars, .sheaves, .tt], [R.SHF_CAR_RTT, R.EVT_STAT], []⟩
theorem State.echoPair_within (s : State) (c : Nat) (t1 t2 t3 t4 : Int) (rx : Inst) : Within State.echoPair_scope s
    (State.echoPair s c t1 t2 t3 t4 rx) := by
  unfold State.echoPair
  repeat' first
    | (with_reducible assumption) | (with_reducible apply Within.refl) | lift_lets
    | (intro v; refine Within.cut (p := Within State.echoPair_scope s v) ?_ ?_; unfold v; rotate_left; clear_value v; intro hv)
    | (intro v; clear_value v) | intro v
    | (with_reducible apply Within.step (State.wr_within ..); rotate_left; decide +kernel)
    | (with_reducible apply Within.step (State.updTtCar_within ..); rotate_left; decide +kernel)
    | (with_reducible apply Within.step (State.count_within ..); rotate_left; decide +kernel)
    | (with_reducible apply Within.step (State.estimate_within ..); rotate_left; decide +kernel) | split

def State.giveLine_scope : Scope := ⟨[.nextFree, .evt, .tacc, .sheaves, .tt, .ref], [R.TBS_TE_STAT, R.REF_SRC_STAT,
    R.REF_SRC_DEP, R.REF_FREQ_WORD, R.REF_EVT_STAT, R.SYN_RAMP_Z, R.SYN_STAT_STEER, R.SYN_STAT, R.SYN_EVT_STAT,
    R.EVT_STAT], []⟩
theorem State.giveLine_within (s : State) (h j : Nat) (ofs : Int) (rx : TimingRx) (hop : Nat) (hold : Bool) : Within
    State.giveLine_scope s (State.giveLine s h j ofs rx hop hold) := by
  unfold State.giveLine
  repeat' first
    | (with_reducible assumption) | (with_reducible apply Within.refl) | lift_lets
    | (intro v; refine Within.cut (p := Within State.giveLine_scope s v) ?_ ?_; unfold v; rotate_left; clear_value v; intro hv)
    | (intro v; clear_value v) | intro v
    | (with_reducible apply Within.step (State.updRef_within ..); rotate_left; decide +kernel)
    | (with_reducible apply Within.step (State.lineHeld_within ..); rotate_left; decide +kernel)
    | (with_reducible apply Within.step (State.updTtSheaf_within ..); rotate_left; decide +kernel)
    | (with_reducible apply Within.step (State.refJump_within ..); rotate_left; decide +kernel)
    | (with_reducible apply Within.step (State.lineOffset_within ..); rotate_left; decide +kernel)
    | (with_reducible apply Within.step (State.noteTe_within ..); rotate_left; decide +kernel) | split

def State.lineSample_scope : Scope := ⟨[.nextFree, .evt, .tacc, .cars, .sheaves, .tt, .ref], [R.SHF_TT_STAT,
    R.SHF_TT_OFS_LO, R.SHF_TT_OFS_HI, R.SHF_TT_UNC, R.SHF_TT_HOP_TE, R.SHF_TT_EVT_STAT, R.TBS_TE_STAT, R.REF_SRC_STAT,
    R.REF_SRC_DEP, R.REF_FREQ_WORD, R.REF_EVT_STAT, R.SYN_RAMP_Z, R.SYN_STAT_STEER, R.SYN_STAT, R.SYN_EVT_STAT,
    R.EVT_STAT], []⟩
theorem State.lineSample_within (s : State) (h tEnd : Nat) (xs : List (Nat × Int)) : Within State.lineSample_scope s
    (State.lineSample s h tEnd xs) := by
  unfold State.lineSample
  repeat' first
    | (with_reducible assumption) | (with_reducible apply Within.refl) | lift_lets
    | (intro v; refine Within.cut (p := Within State.lineSample_scope s v) ?_ ?_; unfold v; rotate_left; clear_value v; intro hv)
    | (intro v; clear_value v) | intro v
    | (with_reducible apply Within.step (State.count_within ..); rotate_left; decide +kernel)
    | (with_reducible apply Within.step (State.updTtCar_within ..); rotate_left; decide +kernel)
    | (with_reducible apply Within.step (State.raise_within ..); rotate_left; decide +kernel)
    | (with_reducible apply Within.step (State.updTtSheaf_within ..); rotate_left; decide +kernel)
    | (with_reducible apply Within.step (State.take_within ..); rotate_left; decide +kernel)
    | (with_reducible apply Within.step (State.setReg_within ..); rotate_left; decide +kernel)
    | (with_reducible apply Within.step (State.wr_within ..); rotate_left; decide +kernel)
    | (with_reducible apply Within.step (State.wrB_within ..); rotate_left; decide +kernel)
    | (with_reducible apply Within.step (State.giveLine_within ..); rotate_left; decide +kernel)
    | (with_reducible apply Within.each; rotate_left; intro x a hx; try beta_reduce; rotate_left)
    | (with_reducible apply Within.foldl; rotate_left; intro x a hx; try beta_reduce; rotate_left) | split

def State.takeF_scope : Scope := ⟨[.evt, .tacc, .sheaves, .tt], [R.SHF_TT_STAT, R.SHF_TT_F, R.SHF_TT_UNC,
    R.SHF_TT_EVT_STAT, R.EVT_STAT], []⟩
theorem State.takeF_within (s : State) (h : Nat) (f : SMap Int) (ell : Option Int) (ref_ : Int) (unc : Nat) : Within
    State.takeF_scope s (State.takeF s h f ell ref_ unc) := by
  unfold State.takeF
  repeat' first
    | (with_reducible assumption) | (with_reducible apply Within.refl) | lift_lets
    | (intro v; refine Within.cut (p := Within State.takeF_scope s v) ?_ ?_; unfold v; rotate_left; clear_value v; intro hv)
    | (intro v; clear_value v) | intro v
    | (with_reducible apply Within.step (State.updTtSheaf_within ..); rotate_left; decide +kernel)
    | (with_reducible apply Within.step (State.count_within ..); rotate_left; decide +kernel)
    | (with_reducible apply Within.step (State.wrS_within ..); rotate_left; decide +kernel)
    | (with_reducible apply Within.step (State.wr_within ..); rotate_left; decide +kernel)
    | (with_reducible apply Within.step (State.raise_within ..); rotate_left; decide +kernel)
    | (with_reducible apply Within.step (State.setCurrent_within ..); rotate_left; decide +kernel) | split

def State.tcWindow_scope : Scope := ⟨[.evt, .tacc, .sheaves, .tt], [R.SHF_TT_STAT, R.SHF_TT_F, R.SHF_TT_UNC,
    R.SHF_TT_EVT_STAT, R.EVT_STAT], []⟩
theorem State.tcWindow_within (s : State) (h : Nat) : Within State.tcWindow_scope s (State.tcWindow s h) := by
  unfold State.tcWindow
  repeat' first
    | (with_reducible assumption) | (with_reducible apply Within.refl) | lift_lets
    | (intro v; refine Within.cut (p := Within State.tcWindow_scope s v) ?_ ?_; unfold v; rotate_left; clear_value v; intro hv)
    | (intro v; clear_value v) | intro v
    | (with_reducible apply Within.step (State.updTtSheaf_within ..); rotate_left; decide +kernel)
    | (with_reducible apply Within.step (State.takeF_within ..); rotate_left; decide +kernel)
    | (with_reducible apply Within.step (State.wrB_within ..); rotate_left; decide +kernel)
    | (with_reducible apply Within.step (State.setCurrent_within ..); rotate_left; decide +kernel)
    | (with_reducible apply Within.each; rotate_left; intro x a hx; try beta_reduce; rotate_left)
    | (with_reducible apply Within.foldl; rotate_left; intro x a hx; try beta_reduce; rotate_left) | split

def State.lineWindow_scope : Scope := ⟨[.nextFree, .evt, .tacc, .cars, .sheaves, .tt, .ref], [R.SHF_TT_STAT,
    R.SHF_TT_OFS_LO, R.SHF_TT_OFS_HI, R.SHF_TT_F, R.SHF_TT_UNC, R.SHF_TT_HOP_TE, R.SHF_TT_EVT_STAT, R.TBS_TE_STAT,
    R.REF_SRC_STAT, R.REF_SRC_DEP, R.REF_FREQ_WORD, R.REF_EVT_STAT, R.SYN_RAMP_Z, R.SYN_STAT_STEER, R.SYN_STAT,
    R.SYN_EVT_STAT, R.EVT_STAT], []⟩
theorem State.lineWindow_within (s : State) (h : Nat) : Within State.lineWindow_scope s (State.lineWindow s h) := by
  unfold State.lineWindow
  repeat' first
    | (with_reducible assumption) | (with_reducible apply Within.refl) | lift_lets
    | (intro v; refine Within.cut (p := Within State.lineWindow_scope s v) ?_ ?_; unfold v; rotate_left; clear_value v; intro hv)
    | (intro v; clear_value v) | intro v
    | (with_reducible apply Within.step (State.tcWindow_within ..); rotate_left; decide +kernel)
    | (with_reducible apply Within.step (State.updTtCar_within ..); rotate_left; decide +kernel)
    | (with_reducible apply Within.step (State.updTtSheaf_within ..); rotate_left; decide +kernel)
    | (with_reducible apply Within.step (State.count_within ..); rotate_left; decide +kernel)
    | (with_reducible apply Within.step (State.wr_within ..); rotate_left; decide +kernel)
    | (with_reducible apply Within.step (State.noSignal_within ..); rotate_left; decide +kernel)
    | (with_reducible apply Within.step (State.lineSample_within ..); rotate_left; decide +kernel)
    | (with_reducible apply Within.each; rotate_left; intro x a hx; try beta_reduce; rotate_left)
    | (with_reducible apply Within.foldl; rotate_left; intro x a hx; try beta_reduce; rotate_left) | split

def State.ttRestart_scope : Scope := ⟨[.evt, .tacc, .cars, .sheaves, .tt, .ref], [R.SHF_TT_STAT, R.SHF_TT_F,
    R.SHF_TT_UNC, R.SHF_TT_EVT_STAT, R.REF_SRC_STAT, R.EVT_STAT], []⟩
theorem State.ttRestart_within (s b : State) (h : Nat) : Within State.ttRestart_scope s (State.ttRestart s b h) := by
  unfold State.ttRestart
  repeat' first
    | (with_reducible assumption) | (with_reducible apply Within.refl) | lift_lets
    | (intro v; refine Within.cut (p := Within State.ttRestart_scope s v) ?_ ?_; unfold v; rotate_left; clear_value v; intro hv)
    | (intro v; clear_value v) | intro v
    | (with_reducible apply Within.step (State.leaveSet_within ..); rotate_left; decide +kernel)
    | (with_reducible apply Within.step (State.updTtCar_within ..); rotate_left; decide +kernel)
    | (with_reducible apply Within.step (State.updTtSheaf_within ..); rotate_left; decide +kernel)
    | (with_reducible apply Within.step (State.wr_within ..); rotate_left; decide +kernel)
    | (with_reducible apply Within.step (State.setCurrent_within ..); rotate_left; decide +kernel)
    | (with_reducible apply Within.each; rotate_left; intro x a hx; try beta_reduce; rotate_left)
    | (with_reducible apply Within.foldl; rotate_left; intro x a hx; try beta_reduce; rotate_left) | split

def State.ttCommit_scope : Scope := ⟨[.evt, .tacc, .cars, .sheaves, .tt, .ref], [R.SHF_TT_STAT, R.SHF_TT_F,
    R.SHF_TT_UNC, R.SHF_TT_EVT_STAT, R.REF_SRC_STAT, R.EVT_STAT], []⟩
theorem State.ttCommit_within (s b : State) : Within State.ttCommit_scope s (State.ttCommit s b) := by
  unfold State.ttCommit
  repeat' first
    | (with_reducible assumption) | (with_reducible apply Within.refl) | lift_lets
    | (intro v; refine Within.cut (p := Within State.ttCommit_scope s v) ?_ ?_; unfold v; rotate_left; clear_value v; intro hv)
    | (intro v; clear_value v) | intro v
    | (with_reducible apply Within.step (State.ttRestart_within ..); rotate_left; decide +kernel)
    | (with_reducible apply Within.step (State.noSignal_within ..); rotate_left; decide +kernel)
    | (with_reducible apply Within.each; rotate_left; intro x a hx; try beta_reduce; rotate_left)
    | (with_reducible apply Within.foldl; rotate_left; intro x a hx; try beta_reduce; rotate_left) | split

end Sys2Proof.Machine
end

