-- ==== Sys2Proof/Laws/FramesAlmanac.lean ====
section
/-! SUPPORT. Sys2Proof/Laws/FramesAlmanac.lean: what each operation of Machine/Almanac.lean may change. -/
set_option Elab.async false
set_option linter.unusedTactic false
set_option linter.unreachableTactic false
set_option linter.unnecessarySeqFocus false
namespace Sys2Proof.Machine

def State.updAlmSheaf_scope : Scope := ⟨[.sheaves, .alm], [], []⟩
theorem State.updAlmSheaf_within (s : State) (h : Nat) (f : AlmSheaf → AlmSheaf) : Within State.updAlmSheaf_scope s
    (State.updAlmSheaf s h f) := by
  unfold State.updAlmSheaf
  repeat' first
    | (with_reducible assumption) | (with_reducible apply Within.refl)
    | (with_reducible apply Within.step (State.updAlm_within ..); rotate_left; decide +kernel) | split
    | (with_reducible apply Within.step (Within.put_sheaves ..); rotate_left; decide +kernel)

def State.almRaise_scope : Scope := ⟨[.evt], [R.ALM_EVT_STAT, R.ALM_EVT_SRC], []⟩
theorem State.almRaise_within (s : State) (e : Ev) (h : Nat) (he : e.stat = R.ALM_EVT_STAT) :
    Within State.almRaise_scope s (s.almRaise e h) :=
  (State.raiseObj_within ..).step ((State.wr_within ..).step (.refl _ _) (by decide +kernel)) (by rw [he]; decide +kernel)

def State.noteBank_scope : Scope := ⟨[], [R.ALM_BANK_STAT], []⟩
theorem State.noteBank_within (s : State) (h : Nat) : Within State.noteBank_scope s (State.noteBank s h) := by
  unfold State.noteBank
  repeat' first
    | (with_reducible assumption) | (with_reducible apply Within.refl)
    | (with_reducible apply Within.step (State.wr_within ..); rotate_left; decide +kernel) | split

def State.noteRate_scope : Scope := ⟨[.evt, .sheaves, .alm], [R.ALM_EVT_STAT, R.ALM_EVT_SRC], []⟩
theorem State.noteRate_within (s : State) (h : Nat) : Within State.noteRate_scope s (State.noteRate s h) := by
  unfold State.noteRate
  repeat' first
    | (with_reducible assumption) | (with_reducible apply Within.refl) | lift_lets
    | (intro v; refine Within.cut (p := Within State.noteRate_scope s v) ?_ ?_; unfold v; rotate_left; clear_value v; intro hv)
    | (intro v; clear_value v) | intro v
    | (with_reducible apply Within.step (State.updAlmSheaf_within ..); rotate_left; decide +kernel)
    | (with_reducible apply Within.step (State.almRaise_within _ _ _ rfl); rotate_left; decide +kernel) | split

def State.checkLand_scope : Scope := ⟨[.evt, .tacc], [R.ALM_EVT_STAT, R.ALM_EVT_SRC, R.EVT_STAT], []⟩
theorem State.checkLand_within (s : State) (h : Nat) (w : Win) (f : Nat) (fr : Frame) : Within State.checkLand_scope s
    (State.checkLand s h w f fr) := by
  unfold State.checkLand
  repeat' first
    | (with_reducible assumption) | (with_reducible apply Within.refl) | lift_lets
    | (intro v; refine Within.cut (p := Within State.checkLand_scope s v) ?_ ?_; unfold v; rotate_left; clear_value v; intro hv)
    | (intro v; clear_value v) | intro v
    | (with_reducible apply Within.step (State.count_within ..); rotate_left; decide +kernel)
    | (with_reducible apply Within.step (State.almRaise_within _ _ _ rfl); rotate_left; decide +kernel) | split

def State.dropEnt_scope : Scope := ⟨[.evt, .tacc, .ports, .fwd, .grn], [R.GRN_POOL_STAT, R.GRN_EVT_STAT, R.EVT_STAT],
    []⟩
theorem State.dropEnt_within (s : State) (n id : Nat) : Within State.dropEnt_scope s (State.dropEnt s n id) := by
  unfold State.dropEnt
  repeat' first
    | (with_reducible assumption) | (with_reducible apply Within.refl)
    | (with_reducible apply Within.step (State.discardEnt_within ..); rotate_left; decide +kernel)
    | (with_reducible apply Within.step (State.updQueue_within ..); rotate_left; decide +kernel) | split

def State.bindEnt_scope : Scope := ⟨[.evt, .tacc, .ports, .fwd, .grn, .alm], [R.GRN_POOL_STAT, R.GRN_EVT_STAT,
    R.ALM_EVT_STAT, R.ALM_EVT_SRC, R.EVT_STAT], []⟩
theorem State.bindEnt_within (s : State) (h n id : Nat) : Within State.bindEnt_scope s (State.bindEnt s h n id) := by
  unfold State.bindEnt
  repeat' first
    | (with_reducible assumption) | (with_reducible apply Within.refl) | lift_lets
    | (intro v; refine Within.cut (p := Within State.bindEnt_scope s v) ?_ ?_; unfold v; rotate_left; clear_value v; intro hv)
    | (intro v; clear_value v) | intro v
    | (with_reducible apply Within.step (State.dropEnt_within ..); rotate_left; decide +kernel)
    | (with_reducible apply Within.step (State.count_within ..); rotate_left; decide +kernel)
    | (with_reducible apply Within.step (State.updQueue_within ..); rotate_left; decide +kernel)
    | (with_reducible apply Within.step (State.updAlm_within ..); rotate_left; decide +kernel)
    | (with_reducible apply Within.step (State.checkLand_within ..); rotate_left; decide +kernel) | split

def State.moveTo_scope : Scope := ⟨[.fwd, .grn], [], []⟩
theorem State.moveTo_within (s : State) (n : Nat) (e : QEnt) : Within State.moveTo_scope s (State.moveTo s n e) := by
  unfold State.moveTo
  repeat' first
    | (with_reducible assumption) | (with_reducible apply Within.refl) | lift_lets
    | (intro v; refine Within.cut (p := Within State.moveTo_scope s v) ?_ ?_; unfold v; rotate_left; clear_value v; intro hv)
    | (intro v; clear_value v) | intro v
    | (with_reducible apply Within.step (State.setTag_within ..); rotate_left; decide +kernel)
    | (with_reducible apply Within.step (State.updQueue_within ..); rotate_left; decide +kernel)
    | (with_reducible apply Within.each; rotate_left; intro x a hx; try beta_reduce; rotate_left)
    | (with_reducible apply Within.foldl; rotate_left; intro x a hx; try beta_reduce; rotate_left) | split

def State.rebind_scope : Scope := ⟨[.evt, .tacc, .ports, .fwd, .grn, .alm], [R.GRN_POOL_STAT, R.GRN_EVT_STAT,
    R.ALM_EVT_STAT, R.ALM_EVT_SRC, R.EVT_STAT], []⟩
theorem State.rebind_within (s : State) (h : Nat) : Within State.rebind_scope s (State.rebind s h) := by
  unfold State.rebind
  repeat' first
    | (with_reducible assumption) | (with_reducible apply Within.refl) | lift_lets
    | (intro v; refine Within.cut (p := Within State.rebind_scope s v) ?_ ?_; unfold v; rotate_left; clear_value v; intro hv)
    | (intro v; clear_value v) | intro v
    | (with_reducible apply Within.step (State.updQueue_within ..); rotate_left; decide +kernel)
    | (with_reducible apply Within.step (State.moveTo_within ..); rotate_left; decide +kernel)
    | (with_reducible apply Within.step (State.count_within ..); rotate_left; decide +kernel)
    | (with_reducible apply Within.step (State.bindEnt_within ..); rotate_left; decide +kernel)
    | (with_reducible apply Within.each; rotate_left; intro x a hx; try beta_reduce; rotate_left)
    | (with_reducible apply Within.foldl; rotate_left; intro x a hx; try beta_reduce; rotate_left) | split

def State.endWindows_scope : Scope := ⟨[.evt, .tacc, .ports, .sheaves, .fwd, .grn, .alm], [R.GRN_POOL_STAT,
    R.GRN_SILO_STAT, R.GRN_EVT_STAT, R.ALM_EVT_STAT, R.ALM_EVT_SRC, R.EVT_STAT], []⟩
theorem State.endWindows_within (s : State) (h upTo : Nat) : Within State.endWindows_scope s (State.endWindows s h
    upTo) := by
  unfold State.endWindows
  repeat' first
    | (with_reducible assumption) | (with_reducible apply Within.refl) | lift_lets
    | (intro v; refine Within.cut (p := Within State.endWindows_scope s v) ?_ ?_; unfold v; rotate_left; clear_value v; intro hv)
    | (intro v; clear_value v) | intro v
    | (with_reducible apply Within.step (State.count_within ..); rotate_left; decide +kernel)
    | (with_reducible apply Within.step (State.almRaise_within _ _ _ rfl); rotate_left; decide +kernel)
    | (with_reducible apply Within.step (State.purge_within ..); rotate_left; decide +kernel)
    | (with_reducible apply Within.step (State.updAlmSheaf_within ..); rotate_left; decide +kernel)
    | (with_reducible apply Within.each; rotate_left; intro x a hx; try beta_reduce; rotate_left)
    | (with_reducible apply Within.foldl; rotate_left; intro x a hx; try beta_reduce; rotate_left) | split

def State.noteOverrun_scope : Scope := ⟨[.evt, .tacc, .sheaves, .alm], [R.ALM_EVT_STAT, R.ALM_EVT_SRC, R.EVT_STAT],
    []⟩
theorem State.noteOverrun_within (s : State) (h : Nat) : Within State.noteOverrun_scope s (State.noteOverrun s h) :=
    by
  unfold State.noteOverrun
  repeat' first
    | (with_reducible assumption) | (with_reducible apply Within.refl) | lift_lets
    | (intro v; refine Within.cut (p := Within State.noteOverrun_scope s v) ?_ ?_; unfold v; rotate_left; clear_value v; intro hv)
    | (intro v; clear_value v) | intro v
    | (with_reducible apply Within.step (State.updAlmSheaf_within ..); rotate_left; decide +kernel)
    | (with_reducible apply Within.step (State.count_within ..); rotate_left; decide +kernel)
    | (with_reducible apply Within.step (State.almRaise_within _ _ _ rfl); rotate_left; decide +kernel) | split

def State.almSwitched_scope : Scope := ⟨[.evt, .tacc, .ports, .sheaves, .fwd, .grn, .alm], [R.GRN_POOL_STAT,
    R.GRN_EVT_STAT, R.ALM_BANK_STAT, R.ALM_EVT_STAT, R.ALM_EVT_SRC, R.EVT_STAT], []⟩
theorem State.almSwitched_within (s : State) (h : Nat) : Within State.almSwitched_scope s (State.almSwitched s h) :=
    by
  unfold State.almSwitched
  repeat' first
    | (with_reducible assumption) | (with_reducible apply Within.refl) | lift_lets
    | (intro v; refine Within.cut (p := Within State.almSwitched_scope s v) ?_ ?_; unfold v; rotate_left; clear_value v; intro hv)
    | (intro v; clear_value v) | intro v
    | (with_reducible apply Within.step (State.updAlmSheaf_within ..); rotate_left; decide +kernel)
    | (with_reducible apply Within.step (State.rebind_within ..); rotate_left; decide +kernel)
    | (with_reducible apply Within.step (State.wrB_within ..); rotate_left; decide +kernel)
    | (with_reducible apply Within.step (State.noteBank_within ..); rotate_left; decide +kernel)
    | (with_reducible apply Within.step (State.almRaise_within _ _ _ rfl); rotate_left; decide +kernel)
    | (with_reducible apply Within.step (State.noteRate_within ..); rotate_left; decide +kernel) | split

def State.realign_scope : Scope := ⟨[.evt, .tacc, .ports, .sheaves, .fwd, .grn, .alm, .tb, .ref], [R.GRN_POOL_STAT,
    R.GRN_EVT_STAT, R.ALM_STAT, R.ALM_EVT_STAT, R.ALM_EVT_SRC, R.TBS_DOM_STAT, R.TBS_EVT_STAT, R.TBS_TRIG_SKIP,
    R.REF_EVT_STAT, R.EVT_STAT], []⟩
theorem State.realign_within (s : State) : Within State.realign_scope s (State.realign s) := by
  unfold State.realign
  repeat' first
    | (with_reducible assumption) | (with_reducible apply Within.refl) | lift_lets
    | (intro v; refine Within.cut (p := Within State.realign_scope s v) ?_ ?_; unfold v; rotate_left; clear_value v; intro hv)
    | (intro v; clear_value v) | intro v
    | (with_reducible apply Within.step (State.count_within ..); rotate_left; decide +kernel)
    | (with_reducible apply Within.step (State.setRes_within ..); rotate_left; decide +kernel)
    | (with_reducible apply Within.step (State.jumpTrains_within ..); rotate_left; decide +kernel)
    | (with_reducible apply Within.step (State.updAlmSheaf_within ..); rotate_left; decide +kernel)
    | (with_reducible apply Within.step (State.rebind_within ..); rotate_left; decide +kernel)
    | (with_reducible apply Within.step (State.raise_within ..); rotate_left; decide +kernel)
    | (with_reducible apply Within.each; rotate_left; intro x a hx; try beta_reduce; rotate_left)
    | (with_reducible apply Within.foldl; rotate_left; intro x a hx; try beta_reduce; rotate_left) | split

end Sys2Proof.Machine
end

