-- ==== Sys2Proof/Laws/FramesSpares.lean ====
section
/-! SUPPORT. Sys2Proof/Laws/FramesSpares.lean: what each operation of Machine/Spares.lean may change. -/
set_option Elab.async false
set_option linter.unusedTactic false
set_option linter.unreachableTactic false
set_option linter.unnecessarySeqFocus false
namespace Sys2Proof.Machine

def State.rowFault_scope : Scope := ⟨[.pwr, .evt, .tacc, .tdc, .cal, .twin, .out], [R.TDC_STAT, R.TDC_EVT_STAT,
    R.CAL_STAT, R.CAL_EVT_STAT, R.EVT_LAST_FAULT, R.EVT_STAT, R.TWN_STAT, R.PWR_MODE_CTL, R.PWR_MODE_STAT,
    R.PWR_RAIL_STAT, R.PWR_CLK_STAT, R.EVT_LASTING, R.EVT_FCNT], []⟩
theorem State.rowFault_within (s : State) (c bank row : Nat) : Within State.rowFault_scope s (State.rowFault s c bank
    row) := by
  unfold State.rowFault
  repeat' first
    | (with_reducible assumption) | (with_reducible apply Within.refl) | lift_lets
    | (intro v; refine Within.cut (p := Within State.rowFault_scope s v) ?_ ?_; unfold v; rotate_left; clear_value v; intro hv)
    | (intro v; clear_value v) | intro v
    | (with_reducible apply Within.step (State.lastingFault_within ..); rotate_left; decide +kernel)
    | (with_reducible apply Within.step (State.updEvt_within ..); rotate_left; decide +kernel) | split

def State.unitFault_scope : Scope := ⟨[.pwr, .evt, .tacc, .tdc, .cal, .twin, .out], [R.TDC_STAT, R.TDC_EVT_STAT,
    R.CAL_STAT, R.CAL_EVT_STAT, R.EVT_LAST_FAULT, R.EVT_STAT, R.TWN_STAT, R.PWR_MODE_CTL, R.PWR_MODE_STAT,
    R.PWR_RAIL_STAT, R.PWR_CLK_STAT, R.EVT_LASTING, R.EVT_FCNT], []⟩
theorem State.unitFault_within (s : State) (c group unit : Nat) : Within State.unitFault_scope s (State.unitFault s c
    group unit) := by
  unfold State.unitFault
  repeat' first
    | (with_reducible assumption) | (with_reducible apply Within.refl) | lift_lets
    | (intro v; refine Within.cut (p := Within State.unitFault_scope s v) ?_ ?_; unfold v; rotate_left; clear_value v; intro hv)
    | (intro v; clear_value v) | intro v
    | (with_reducible apply Within.step (State.lastingFault_within ..); rotate_left; decide +kernel)
    | (with_reducible apply Within.step (State.updEvt_within ..); rotate_left; decide +kernel) | split

def State.issueFetches_scope : Scope := ⟨[.out], [], []⟩
theorem State.issueFetches_within (s : State) (addr first count : Nat) : Within State.issueFetches_scope s
    (State.issueFetches s addr first count) := by
  unfold State.issueFetches
  repeat' first
    | (with_reducible assumption) | (with_reducible apply Within.refl)
    | (with_reducible apply Within.step (State.emit_within ..); rotate_left; decide +kernel)
    | (with_reducible apply Within.each; rotate_left; intro x a hx; try beta_reduce; rotate_left)
    | (with_reducible apply Within.foldl; rotate_left; intro x a hx; try beta_reduce; rotate_left) | split

def State.reloadEntries_scope : Scope := ⟨[.gr, .out], [], []⟩
theorem State.reloadEntries_within (s : State) (t first count : Nat) : Within State.reloadEntries_scope s
    (State.reloadEntries s t first count) := by
  unfold State.reloadEntries
  repeat' first
    | (with_reducible assumption) | (with_reducible apply Within.refl) | lift_lets
    | (intro v; refine Within.cut (p := Within State.reloadEntries_scope s v) ?_ ?_; unfold v; rotate_left; clear_value v; intro hv)
    | (intro v; clear_value v) | intro v
    | (with_reducible apply Within.step (State.emit_within ..); rotate_left; decide +kernel)
    | (with_reducible apply Within.step (State.updTable_within ..); rotate_left; decide +kernel)
    | (with_reducible apply Within.step (State.issueFetches_within ..); rotate_left; decide +kernel) | split

end Sys2Proof.Machine
end

