-- ==== Sys2Proof/Laws/FramesTdc.lean ====
section
/-! SUPPORT. Sys2Proof/Laws/FramesTdc.lean: what each operation of Machine/Tdc.lean may change. -/
set_option Elab.async false
set_option linter.unusedTactic false
set_option linter.unreachableTactic false
set_option linter.unnecessarySeqFocus false
namespace Sys2Proof.Machine

def State.tdcInc_scope : Scope := ⟨[], [R.TDC_CNT], []⟩
theorem State.tdcInc_within (s : State) (k : Nat) (b : Bool) : Within State.tdcInc_scope s (State.tdcInc s k b) := by
  unfold State.tdcInc
  repeat' first
    | (with_reducible assumption) | (with_reducible apply Within.refl)
    | (with_reducible apply Within.step (State.addWrap_within ..); rotate_left; decide +kernel) | split

def State.tdcWrite_scope : Scope := ⟨[.evt, .tdc], [R.TDC_STAT, R.TDC_EVT_STAT, R.TDC_CNT], []⟩
theorem State.tdcWrite_within (s : State) (interval : Int) (startT : Option Int) (dom flags : Nat) : Within
    State.tdcWrite_scope s (State.tdcWrite s interval startT dom flags) := by
  unfold State.tdcWrite
  repeat' first
    | (with_reducible assumption) | (with_reducible apply Within.refl) | lift_lets
    | (intro v; refine Within.cut (p := Within State.tdcWrite_scope s v) ?_ ?_; unfold v; rotate_left; clear_value v; intro hv)
    | (intro v; clear_value v) | intro v
    | (with_reducible apply Within.step (State.updTdc_within ..); rotate_left; decide +kernel)
    | (with_reducible apply Within.step (State.tdcInc_within ..); rotate_left; decide +kernel)
    | (with_reducible apply Within.step (State.raise_within ..); rotate_left; decide +kernel)
    | (with_reducible apply Within.step (State.wr_within ..); rotate_left; decide +kernel)
    | (with_reducible apply Within.step (State.tdcNote_within ..); rotate_left; decide +kernel) | split

def State.tdcEnd_scope : Scope := ⟨[.evt, .tdc], [R.TDC_STAT, R.TDC_EVT_STAT, R.TDC_CNT], []⟩
theorem State.tdcEnd_within (s : State) (l : List (Nat × Bool)) : Within State.tdcEnd_scope s (State.tdcEnd s l) := by
  unfold State.tdcEnd
  repeat' first
    | (with_reducible assumption) | (with_reducible apply Within.refl)
    | (with_reducible apply Within.step (State.tdcWrite_within ..); rotate_left; decide +kernel) | split

def State.tdcAbort_scope : Scope := ⟨[.evt, .tdc], [R.TDC_STAT, R.TDC_EVT_STAT, R.TDC_CNT], []⟩
theorem State.tdcAbort_within (s : State) : Within State.tdcAbort_scope s (State.tdcAbort s) := by
  unfold State.tdcAbort
  repeat' first
    | (with_reducible assumption) | (with_reducible apply Within.refl)
    | (with_reducible apply Within.step (State.tdcEnd_within ..); rotate_left; decide +kernel) | split

def State.tdcResult_scope : Scope := ⟨[.pwr, .evt, .tacc, .tdc, .cal, .twin, .out], [R.TDC_STAT, R.TDC_EVT_STAT,
    R.TDC_CNT, R.CAL_STAT, R.CAL_EVT_STAT, R.EVT_LAST_FAULT, R.EVT_STAT, R.TWN_STAT, R.PWR_MODE_CTL, R.PWR_MODE_STAT,
    R.PWR_RAIL_STAT, R.PWR_CLK_STAT, R.EVT_LASTING, R.EVT_FCNT], []⟩
theorem State.tdcResult_within (s : State) (m : Armed) (a b : TdcEdge) (x : Exec) : Within State.tdcResult_scope s
    (State.tdcResult s m a b x) := by
  unfold State.tdcResult
  repeat' first
    | (with_reducible assumption) | (with_reducible apply Within.refl) | lift_lets
    | (intro v; refine Within.cut (p := Within State.tdcResult_scope s v) ?_ ?_; unfold v; rotate_left; clear_value v; intro hv)
    | (intro v; clear_value v) | intro v
    | (with_reducible apply Within.step (State.transientFault_within ..); rotate_left; decide +kernel)
    | (with_reducible apply Within.step (State.raise_within ..); rotate_left; decide +kernel)
    | (with_reducible apply Within.step (State.unitFault_within ..); rotate_left; decide +kernel)
    | (with_reducible apply Within.step (State.tdcWrite_within ..); rotate_left; decide +kernel) | split

def State.arm_scope : Scope := ⟨[.evt, .tdc], [R.TDC_STAT, R.TDC_EVT_STAT, R.TDC_CNT], []⟩
theorem State.arm_within (s : State) : Within State.arm_scope s (State.arm s) := by
  unfold State.arm
  repeat' first
    | (with_reducible assumption) | (with_reducible apply Within.refl) | lift_lets
    | (intro v; refine Within.cut (p := Within State.arm_scope s v) ?_ ?_; unfold v; rotate_left; clear_value v; intro hv)
    | (intro v; clear_value v) | intro v
    | (with_reducible apply Within.step (State.updTdc_within ..); rotate_left; decide +kernel)
    | (with_reducible apply Within.step (State.tdcNote_within ..); rotate_left; decide +kernel)
    | (with_reducible apply Within.step (State.tdcEnd_within ..); rotate_left; decide +kernel) | split

def State.holdOff_scope : Scope := ⟨[.tdc], [], []⟩
theorem State.holdOff_within (s : State) (ch : Nat) (e : TdcEdge) : Within State.holdOff_scope s (State.holdOff s ch
    e) := by
  unfold State.holdOff
  repeat' first
    | (with_reducible assumption) | (with_reducible apply Within.refl) | lift_lets
    | (intro v; refine Within.cut (p := Within State.holdOff_scope s v) ?_ ?_; unfold v; rotate_left; clear_value v; intro hv)
    | (intro v; clear_value v) | intro v
    | (with_reducible apply Within.step (State.updTdc_within ..); rotate_left; decide +kernel) | split

def State.showRes_scope : Scope := ⟨[], [R.TDC_RES], []⟩
theorem State.showRes_within (s : State) (bs : List Byte) : Within State.showRes_scope s (State.showRes s bs) := by
  unfold State.showRes
  repeat' first
    | (with_reducible assumption) | (with_reducible apply Within.refl)
    | (with_reducible apply Within.step (State.setReg_within ..); rotate_left; decide +kernel)
    | (with_reducible apply Within.each; rotate_left; intro x a hx; try beta_reduce; rotate_left)
    | (with_reducible apply Within.foldl; rotate_left; intro x a hx; try beta_reduce; rotate_left) | split

def State.binData_scope : Scope := ⟨[.tdc, .out], [R.TDC_BIN_SEL], []⟩
theorem State.binData_within (s : State) (w : Option Word) : Within State.binData_scope s (State.binData s w) := by
  unfold State.binData
  repeat' first
    | (with_reducible assumption) | (with_reducible apply Within.refl) | lift_lets
    | (intro v; refine Within.cut (p := Within State.binData_scope s v) ?_ ?_; unfold v; rotate_left; clear_value v; intro hv)
    | (intro v; clear_value v) | intro v
    | (with_reducible apply Within.step (State.updTdc_within ..); rotate_left; decide +kernel)
    | (with_reducible apply Within.step (State.emit_within ..); rotate_left; decide +kernel)
    | (with_reducible apply Within.step (State.wr_within ..); rotate_left; decide +kernel) | split

def State.tdcStop_scope : Scope := ⟨[.evt, .tdc], [R.TDC_STAT, R.TDC_EVT_STAT, R.TDC_CNT], []⟩
theorem State.tdcStop_within (s : State) : Within State.tdcStop_scope s (State.tdcStop s) := by
  unfold State.tdcStop
  repeat' first
    | (with_reducible assumption) | (with_reducible apply Within.refl) | lift_lets
    | (intro v; refine Within.cut (p := Within State.tdcStop_scope s v) ?_ ?_; unfold v; rotate_left; clear_value v; intro hv)
    | (intro v; clear_value v) | intro v
    | (with_reducible apply Within.step (State.tdcAbort_within ..); rotate_left; decide +kernel)
    | (with_reducible apply Within.step (State.wr_within ..); rotate_left; decide +kernel)
    | (with_reducible apply Within.step (State.updTdc_within ..); rotate_left; decide +kernel) | split

def State.startTest_scope : Scope := ⟨[.evt, .tdc], [R.TDC_STAT, R.TDC_EVT_STAT, R.TDC_CNT], []⟩
theorem State.startTest_within (s : State) (mbx : Option (Fin 16)) : Within State.startTest_scope s (State.startTest s
    mbx) := by
  unfold State.startTest
  repeat' first
    | (with_reducible assumption) | (with_reducible apply Within.refl) | lift_lets
    | (intro v; refine Within.cut (p := Within State.startTest_scope s v) ?_ ?_; unfold v; rotate_left; clear_value v; intro hv)
    | (intro v; clear_value v) | intro v
    | (with_reducible apply Within.step (State.tdcAbort_within ..); rotate_left; decide +kernel)
    | (with_reducible apply Within.step (State.updTdc_within ..); rotate_left; decide +kernel)
    | (with_reducible apply Within.step (State.tdcNote_within ..); rotate_left; decide +kernel) | split

def State.testOver_scope : Scope := ⟨[.mem, .gr, .evt, .tdc, .out], [R.MBX_STATE, R.MBX_RETRY_STAT, R.TDC_STAT,
    R.TDC_EVT_STAT, R.CAL_STAT, R.EVT_STAT, R.EVT_FCNT], []⟩
theorem State.testOver_within (s : State) (status : Nat) (h0 h1 : List Nat) : Within State.testOver_scope s
    (State.testOver s status h0 h1) := by
  unfold State.testOver
  repeat' first
    | (with_reducible assumption) | (with_reducible apply Within.refl) | lift_lets
    | (intro v; refine Within.cut (p := Within State.testOver_scope s v) ?_ ?_; unfold v; rotate_left; clear_value v; intro hv)
    | (intro v; clear_value v) | intro v
    | (with_reducible apply Within.step (State.updTdc_within ..); rotate_left; decide +kernel)
    | (with_reducible apply Within.step (State.raise_within ..); rotate_left; decide +kernel)
    | (with_reducible apply Within.step (State.tdcNote_within ..); rotate_left; decide +kernel)
    | (with_reducible apply Within.step (State.wr_within ..); rotate_left; decide +kernel)
    | (with_reducible apply Within.step (State.complete_within ..); rotate_left; decide +kernel) | split

def State.retest_scope : Scope := ⟨[.evt, .tdc], [R.TDC_STAT, R.TDC_EVT_STAT, R.TDC_CNT], []⟩
theorem State.retest_within (s : State) : Within State.retest_scope s (State.retest s) := by
  unfold State.retest
  repeat' first
    | (with_reducible assumption) | (with_reducible apply Within.refl)
    | (with_reducible apply Within.step (State.startTest_within ..); rotate_left; decide +kernel)
    | (with_reducible apply Within.step (State.updTdc_within ..); rotate_left; decide +kernel) | split

def State.tdcCommit_scope : Scope := ⟨[.evt, .tdc], [R.TDC_STAT, R.TDC_EVT_STAT, R.TDC_CNT], []⟩
theorem State.tdcCommit_within (s b : State) (bins : SMap Nat) : Within State.tdcCommit_scope s (State.tdcCommit s b
    bins) := by
  unfold State.tdcCommit
  repeat' first
    | (with_reducible assumption) | (with_reducible apply Within.refl) | lift_lets
    | (intro v; refine Within.cut (p := Within State.tdcCommit_scope s v) ?_ ?_; unfold v; rotate_left; clear_value v; intro hv)
    | (intro v; clear_value v) | intro v
    | (with_reducible apply Within.step (State.updTdc_within ..); rotate_left; decide +kernel)
    | (with_reducible apply Within.step (State.tdcAbort_within ..); rotate_left; decide +kernel) | split

end Sys2Proof.Machine
end

