-- ==== Sys2Proof/Laws/FramesCalib.lean ====
section
/-! SUPPORT. Sys2Proof/Laws/FramesCalib.lean: what each operation of Machine/Calib.lean may change. -/
set_option Elab.async false
set_option linter.unusedTactic false
set_option linter.unreachableTactic false
set_option linter.unnecessarySeqFocus false
namespace Sys2Proof.Machine

def State.noteStale_scope : Scope := ⟨[], [R.CAL_STAT], []⟩
theorem State.noteStale_within (s : State) : Within State.noteStale_scope s (State.noteStale s) := by
  unfold State.noteStale
  repeat' first
    | (with_reducible assumption) | (with_reducible apply Within.refl)
    | (with_reducible apply Within.step (State.wr_within ..); rotate_left; decide +kernel) | split

def State.loadCal_scope : Scope := ⟨[.committed, .cal], [R.CAL_OCXO_TRIM], []⟩
theorem State.loadCal_within (s : State) : Within State.loadCal_scope s (State.loadCal s) := by
  unfold State.loadCal
  repeat' first
    | (with_reducible assumption) | (with_reducible apply Within.refl) | lift_lets
    | (intro v; refine Within.cut (p := Within State.loadCal_scope s v) ?_ ?_; unfold v; rotate_left; clear_value v; intro hv)
    | (intro v; clear_value v) | intro v
    | (with_reducible apply Within.step (State.updCal_within ..); rotate_left; decide +kernel)
    | (with_reducible apply Within.step (State.setReg_within ..); rotate_left; decide +kernel)
    | (with_reducible apply Within.step (State.setCom_within ..); rotate_left; decide +kernel)
    | (with_reducible apply Within.each; rotate_left; intro x a hx; try beta_reduce; rotate_left)
    | (with_reducible apply Within.foldl; rotate_left; intro x a hx; try beta_reduce; rotate_left) | split

def State.setTarget_scope : Scope := ⟨[.cal], [], []⟩
theorem State.setTarget_within (s : State) (k c : Nat) : Within State.setTarget_scope s (State.setTarget s k c) := by
  unfold State.setTarget
  repeat' first
    | (with_reducible assumption) | (with_reducible apply Within.refl) | lift_lets
    | (intro v; refine Within.cut (p := Within State.setTarget_scope s v) ?_ ?_; unfold v; rotate_left; clear_value v; intro hv)
    | (intro v; clear_value v) | intro v
    | (with_reducible apply Within.step (State.updPath_within ..); rotate_left; decide +kernel) | split

def State.measured_scope : Scope := ⟨[.evt, .cal], [R.CAL_STAT, R.CAL_EVT_STAT], []⟩
theorem State.measured_within (s : State) (k : Nat) (base : Int) : Within State.measured_scope s (State.measured s k
    base) := by
  unfold State.measured
  repeat' first
    | (with_reducible assumption) | (with_reducible apply Within.refl) | lift_lets
    | (intro v; refine Within.cut (p := Within State.measured_scope s v) ?_ ?_; unfold v; rotate_left; clear_value v; intro hv)
    | (intro v; clear_value v) | intro v
    | (with_reducible apply Within.step (State.updPath_within ..); rotate_left; decide +kernel)
    | (with_reducible apply Within.step (State.setTarget_within ..); rotate_left; decide +kernel)
    | (with_reducible apply Within.step (State.raise_within ..); rotate_left; decide +kernel)
    | (with_reducible apply Within.step (State.noteStale_within ..); rotate_left; decide +kernel) | split

def State.pathDone_scope : Scope := ⟨[.cal], [R.CAL_STAT], []⟩
theorem State.pathDone_within (s : State) (k : Nat) : Within State.pathDone_scope s (State.pathDone s k) := by
  unfold State.pathDone
  repeat' first
    | (with_reducible assumption) | (with_reducible apply Within.refl) | lift_lets
    | (intro v; refine Within.cut (p := Within State.pathDone_scope s v) ?_ ?_; unfold v; rotate_left; clear_value v; intro hv)
    | (intro v; clear_value v) | intro v
    | (with_reducible apply Within.step (State.updCal_within ..); rotate_left; decide +kernel)
    | (with_reducible apply Within.step (State.wr_within ..); rotate_left; decide +kernel) | split

def State.startCal_scope : Scope := ⟨[.pwr, .evt, .tacc, .twin, .out], [R.CAL_STAT, R.EVT_STAT, R.TWN_STAT,
    R.PWR_MODE_CTL, R.PWR_RAIL_STAT, R.PWR_CLK_STAT], []⟩
theorem State.startCal_within (s : State) : Within State.startCal_scope s (State.startCal s) := by
  unfold State.startCal
  repeat' first
    | (with_reducible assumption) | (with_reducible apply Within.refl)
    | (with_reducible apply Within.step (State.updPwr_within ..); rotate_left; decide +kernel)
    | (with_reducible apply Within.step (State.startTrans_within ..); rotate_left; decide +kernel) | split

def State.trigger_scope : Scope := ⟨[.pwr, .evt, .tacc, .twin, .out], [R.CAL_STAT, R.EVT_STAT, R.TWN_STAT,
    R.PWR_MODE_CTL, R.PWR_MODE_STAT, R.PWR_RAIL_STAT, R.PWR_CLK_STAT], []⟩
theorem State.trigger_within (s : State) : Within State.trigger_scope s (State.trigger s) := by
  unfold State.trigger
  repeat' first
    | (with_reducible assumption) | (with_reducible apply Within.refl)
    | (with_reducible apply Within.step (State.startCal_within ..); rotate_left; decide +kernel)
    | (with_reducible apply Within.step (State.wr_within ..); rotate_left; decide +kernel) | split

def State.startRun_scope : Scope := ⟨[.evt, .tdc, .cal], [R.TDC_STAT, R.TDC_EVT_STAT, R.TDC_CNT, R.CAL_STAT], []⟩
theorem State.startRun_within (s : State) : Within State.startRun_scope s (State.startRun s) := by
  unfold State.startRun
  repeat' first
    | (with_reducible assumption) | (with_reducible apply Within.refl) | lift_lets
    | (intro v; refine Within.cut (p := Within State.startRun_scope s v) ?_ ?_; unfold v; rotate_left; clear_value v; intro hv)
    | (intro v; clear_value v) | intro v
    | (with_reducible apply Within.step (State.wr_within ..); rotate_left; decide +kernel)
    | (with_reducible apply Within.step (State.updCal_within ..); rotate_left; decide +kernel)
    | (with_reducible apply Within.step (State.startTest_within ..); rotate_left; decide +kernel) | split

def State.ocxoCheck_scope : Scope := ⟨[.committed, .evt, .cal], [R.CAL_OCXO_TRIM, R.CAL_EVT_STAT], []⟩
theorem State.ocxoCheck_within (s : State) : Within State.ocxoCheck_scope s (State.ocxoCheck s) := by
  unfold State.ocxoCheck
  repeat' first
    | (with_reducible assumption) | (with_reducible apply Within.refl) | lift_lets
    | (intro v; refine Within.cut (p := Within State.ocxoCheck_scope s v) ?_ ?_; unfold v; rotate_left; clear_value v; intro hv)
    | (intro v; clear_value v) | intro v
    | (with_reducible apply Within.step (State.wr_within ..); rotate_left; decide +kernel)
    | (with_reducible apply Within.step (State.wrCom_within ..); rotate_left; decide +kernel)
    | (with_reducible apply Within.step (State.updCal_within ..); rotate_left; decide +kernel)
    | (with_reducible apply Within.step (State.raise_within ..); rotate_left; decide +kernel) | split

def State.pathTrim_scope : Scope := ⟨[.cal, .out], [R.CAL_PATH_SEL], []⟩
theorem State.pathTrim_within (s : State) (w : Option Word) : Within State.pathTrim_scope s (State.pathTrim s w) := by
  unfold State.pathTrim
  repeat' first
    | (with_reducible assumption) | (with_reducible apply Within.refl) | lift_lets
    | (intro v; refine Within.cut (p := Within State.pathTrim_scope s v) ?_ ?_; unfold v; rotate_left; clear_value v; intro hv)
    | (intro v; clear_value v) | intro v
    | (with_reducible apply Within.step (State.updPath_within ..); rotate_left; decide +kernel)
    | (with_reducible apply Within.step (State.emit_within ..); rotate_left; decide +kernel)
    | (with_reducible apply Within.step (State.wr_within ..); rotate_left; decide +kernel) | split

def State.startTrace_scope : Scope := ⟨[.gr, .tb, .out], [], []⟩
theorem State.startTrace_within (s : State) (m k n : Nat) (loop err : Int) (apply_ : Bool) : Within
    State.startTrace_scope s (State.startTrace s m k n loop err apply_) := by
  unfold State.startTrace
  repeat' first
    | (with_reducible assumption) | (with_reducible apply Within.refl) | lift_lets
    | (intro v; refine Within.cut (p := Within State.startTrace_scope s v) ?_ ?_; unfold v; rotate_left; clear_value v; intro hv)
    | (intro v; clear_value v) | intro v
    | (with_reducible apply Within.step (State.updTb_within ..); rotate_left; decide +kernel)
    | (with_reducible apply Within.step (State.driveTrig_within ..); rotate_left; decide +kernel)
    | (with_reducible apply Within.step (State.running_within ..); rotate_left; decide +kernel) | split

def State.endTrace_scope : Scope := ⟨[.committed, .mem, .gr, .evt, .tb, .out], [R.MBX_STATE, R.MBX_RETRY_STAT,
    R.CAL_TRACE_CORR, R.CAL_EVT_STAT, R.EVT_STAT, R.EVT_FCNT], []⟩
theorem State.endTrace_within (s : State) (m k : Nat) (loop err : Int) (apply_ : Bool) : Within State.endTrace_scope s
    (State.endTrace s m k loop err apply_) := by
  unfold State.endTrace
  repeat' first
    | (with_reducible assumption) | (with_reducible apply Within.refl) | lift_lets
    | (intro v; refine Within.cut (p := Within State.endTrace_scope s v) ?_ ?_; unfold v; rotate_left; clear_value v; intro hv)
    | (intro v; clear_value v) | intro v
    | (with_reducible apply Within.step (State.updTb_within ..); rotate_left; decide +kernel)
    | (with_reducible apply Within.step (State.driveTrig_within ..); rotate_left; decide +kernel)
    | (with_reducible apply Within.step (State.setReg_within ..); rotate_left; decide +kernel)
    | (with_reducible apply Within.step (State.setCom_within ..); rotate_left; decide +kernel)
    | (with_reducible apply Within.step (State.raise_within ..); rotate_left; decide +kernel)
    | (with_reducible apply Within.step (State.complete_within ..); rotate_left; decide +kernel) | split

def State.endTraces_scope : Scope := ⟨[.committed, .mem, .gr, .evt, .tb, .out], [R.MBX_STATE, R.MBX_RETRY_STAT,
    R.CAL_TRACE_CORR, R.CAL_EVT_STAT, R.EVT_STAT, R.EVT_FCNT], []⟩
theorem State.endTraces_within (s : State) : Within State.endTraces_scope s (State.endTraces s) := by
  unfold State.endTraces
  repeat' first
    | (with_reducible assumption) | (with_reducible apply Within.refl)
    | (with_reducible apply Within.step (State.endTrace_within ..); rotate_left; decide +kernel)
    | (with_reducible apply Within.each; rotate_left; intro x a hx; try beta_reduce; rotate_left)
    | (with_reducible apply Within.foldl; rotate_left; intro x a hx; try beta_reduce; rotate_left) | split

def State.calCommit_scope : Scope := ⟨[.cal], [], []⟩
theorem State.calCommit_within (s b : State) (paths : List (Nat × Int × Nat)) : Within State.calCommit_scope s
    (State.calCommit s b paths) := by
  unfold State.calCommit
  repeat' first
    | (with_reducible assumption) | (with_reducible apply Within.refl) | lift_lets
    | (intro v; refine Within.cut (p := Within State.calCommit_scope s v) ?_ ?_; unfold v; rotate_left; clear_value v; intro hv)
    | (intro v; clear_value v) | intro v
    | (with_reducible apply Within.step (State.updPath_within ..); rotate_left; decide +kernel)
    | (with_reducible apply Within.step (State.updCal_within ..); rotate_left; decide +kernel)
    | (with_reducible apply Within.each; rotate_left; intro x a hx; try beta_reduce; rotate_left)
    | (with_reducible apply Within.foldl; rotate_left; intro x a hx; try beta_reduce; rotate_left) | split

end Sys2Proof.Machine
end

