-- ==== Sys2Proof/Laws/FramesForward.lean ====
section
/-! SUPPORT. Sys2Proof/Laws/FramesForward.lean: what each operation of Machine/Forward.lean may change. -/
set_option Elab.async false
set_option linter.unusedTactic false
set_option linter.unreachableTactic false
set_option linter.unnecessarySeqFocus false
namespace Sys2Proof.Machine

def State.updEnt_scope : Scope := ⟨[.gr], [], []⟩
theorem State.updEnt_within (s : State) (t i : Nat) (f : Entry → Entry) : Within State.updEnt_scope s (State.updEnt s
    t i f) := by
  unfold State.updEnt
  repeat' first
    | (with_reducible assumption) | (with_reducible apply Within.refl)
    | (with_reducible apply Within.step (State.updTable_within ..); rotate_left; decide +kernel) | split

def State.cacheBucket_scope : Scope := ⟨[.gr], [], []⟩
theorem State.cacheBucket_within (s : State) (key : List Byte) : Within State.cacheBucket_scope s (State.cacheBucket s
    key) := by
  unfold State.cacheBucket
  repeat' first
    | (with_reducible assumption) | (with_reducible apply Within.refl) | lift_lets
    | (intro v; refine Within.cut (p := Within State.cacheBucket_scope s v) ?_ ?_; unfold v; rotate_left; clear_value v; intro hv)
    | (intro v; clear_value v) | intro v
    | (with_reducible apply Within.step (State.updTable_within ..); rotate_left; decide +kernel)
    | (with_reducible apply Within.step (State.updEnt_within ..); rotate_left; decide +kernel)
    | (with_reducible apply Within.each; rotate_left; intro x a hx; try beta_reduce; rotate_left)
    | (with_reducible apply Within.foldl; rotate_left; intro x a hx; try beta_reduce; rotate_left) | split

def State.arrive_scope : Scope := ⟨[.evt, .tacc, .fwd, .grn], [R.EVT_STAT], []⟩
theorem State.arrive_snd (s : State) (n : Nat) (f : Frame) (mcast : Bool) : Within State.arrive_scope s (State.arrive s n f mcast).2 := by
    unfold State.arrive
    repeat' first
      | (with_reducible assumption) | (with_reducible apply Within.refl)
      | (with_reducible apply Within.step (State.count_within ..); rotate_left; decide +kernel)
      | (with_reducible apply Within.step (State.enqueue_within ..); rotate_left; decide +kernel) | split | dsimp only


theorem State.arrive_within {s s' : State} {n : Nat} {f : Frame} {mcast : Bool} {r} (h : State.arrive s n f mcast = (r, s')) :
    Within State.arrive_scope s s' := by
  have := State.arrive_snd s n f mcast
  rwa [h] at this


def State.shareBufs_scope : Scope := ⟨[.grn], [], []⟩
theorem State.shareBufs_within (s : State) (f : Frame) (k : Nat) : Within State.shareBufs_scope s (State.shareBufs s f
    k) := by
  unfold State.shareBufs
  repeat' first
    | (with_reducible assumption) | (with_reducible apply Within.refl) | lift_lets
    | (intro v; refine Within.cut (p := Within State.shareBufs_scope s v) ?_ ?_; unfold v; rotate_left; clear_value v; intro hv)
    | (intro v; clear_value v) | intro v
    | (with_reducible apply Within.step (State.setTag_within ..); rotate_left; decide +kernel)
    | (with_reducible apply Within.each; rotate_left; intro x a hx; try beta_reduce; rotate_left)
    | (with_reducible apply Within.foldl; rotate_left; intro x a hx; try beta_reduce; rotate_left) | split

def State.admitFrame_scope : Scope := ⟨[.evt, .tacc, .ports, .fwd, .grn, .alm], [R.GRN_POOL_STAT, R.GRN_EVT_STAT,
    R.ALM_EVT_STAT, R.ALM_EVT_SRC, R.EVT_STAT], []⟩
theorem State.admitFrame_within (s : State) (f : Frame) : Within State.admitFrame_scope s (s.admitFrame f) := by
  have fan : ∀ (l : List Nat) (a : Nat × State), Within State.admitFrame_scope s a.2 → Within State.admitFrame_scope s (l.foldl (fun (a : Nat × State) e =>
      let n := 16 * e + 2 * f.cls
      let (ok, s) := a.2.arrive n f true
      if ok then (a.1 + 1, s.count (queueSlot e (2 * f.cls) 12)) else (a.1, s)) a).2 := by
    intro l
    induction l with
    | nil => intro a h; exact h
    | cons e l ih =>
      intro a h
      rw [List.foldl_cons]
      refine ih _ ?_
      extract_lets n
      have h2 := (State.arrive_snd a.2 n f true).step h (by decide +kernel : _ = true)
      split
      rename_i ok s' he
      rw [he] at h2
      split
      · exact (State.count_within ..).step h2 (by decide +kernel)
      · exact h2
  have h0 := fun l => fan l (0, s) (.refl _ _)
  unfold State.admitFrame
  split
  · exact (State.dropRx_within ..).step (.refl _ _) (by decide +kernel)
  · rename_i c _
    split
    · have h1 := h0 c.targets
      split
      rename_i k s' he
      rw [he] at h1
      repeat' first
        | (with_reducible assumption) | (with_reducible apply Within.refl)
        | (with_reducible apply Within.step (State.dropRx_within ..); rotate_left; decide +kernel)
        | (with_reducible apply Within.step (State.updFwd_within ..); rotate_left; decide +kernel)
        | (with_reducible apply Within.step (State.shareBufs_within ..); rotate_left; decide +kernel) | split
    · extract_lets n h
      repeat' first
        | (with_reducible assumption) | (with_reducible apply Within.refl)
        | (with_reducible apply Within.step (State.arrive_within (h := ?h)); (case h => assumption); rotate_left; decide +kernel)
        | (with_reducible apply Within.step (State.dropRx_within ..); rotate_left; decide +kernel)
        | (with_reducible apply Within.step (State.bindEnt_within ..); rotate_left; decide +kernel)
        | (with_reducible apply Within.step (State.count_within ..); rotate_left; decide +kernel) | split

def State.cross_scope : Scope := ⟨[.evt, .tacc, .ports, .fwd, .grn, .alm], [R.GRN_POOL_STAT, R.GRN_EVT_STAT,
    R.ALM_EVT_STAT, R.ALM_EVT_SRC, R.EVT_STAT], []⟩
theorem State.cross_within (s : State) (f : Frame) : Within State.cross_scope s (State.cross s f) := by
  unfold State.cross
  repeat' first
    | (with_reducible assumption) | (with_reducible apply Within.refl)
    | (with_reducible apply Within.step (State.count_within ..); rotate_left; decide +kernel)
    | (with_reducible apply Within.step (State.dropRx_within ..); rotate_left; decide +kernel)
    | (with_reducible apply Within.step (State.admitFrame_within ..); rotate_left; decide +kernel) | split

def State.strictPath_scope : Scope := ⟨[.evt, .tacc, .fwd], [R.EVT_STAT], []⟩
theorem State.strictPath_within (s : State) (f : Frame) (egress : Nat) : Within State.strictPath_scope s
    (State.strictPath s f egress) := by
  unfold State.strictPath
  repeat' first
    | (with_reducible assumption) | (with_reducible apply Within.refl) | lift_lets
    | (intro v; refine Within.cut (p := Within State.strictPath_scope s v) ?_ ?_; unfold v; rotate_left; clear_value v; intro hv)
    | (intro v; clear_value v) | intro v
    | (with_reducible apply Within.step (State.updFwd_within ..); rotate_left; decide +kernel)
    | (with_reducible apply Within.step (State.count_within ..); rotate_left; decide +kernel) | split

def State.toPlane_scope : Scope := ⟨[.evt, .tacc, .ports, .fwd, .grn, .alm], [R.GRN_POOL_STAT, R.GRN_EVT_STAT,
    R.ALM_EVT_STAT, R.ALM_EVT_SRC, R.EVT_STAT], []⟩
theorem State.toPlane_within (s : State) (f : Frame) : Within State.toPlane_scope s (State.toPlane s f) := by
  unfold State.toPlane
  repeat' first
    | (with_reducible assumption) | (with_reducible apply Within.refl)
    | (with_reducible apply Within.step (State.strictPath_within ..); rotate_left; decide +kernel)
    | (with_reducible apply Within.step (State.cross_within ..); rotate_left; decide +kernel)
    | (with_reducible apply Within.step (State.updFwd_within ..); rotate_left; decide +kernel)
    | (with_reducible apply Within.step (State.dropRx_within ..); rotate_left; decide +kernel) | split

def State.releaseOrder_scope : Scope := ⟨[.evt, .tacc, .ports, .fwd, .grn, .alm], [R.GRN_POOL_STAT, R.GRN_EVT_STAT,
    R.ALM_EVT_STAT, R.ALM_EVT_SRC, R.EVT_STAT], []⟩
theorem State.releaseOrder_within (s : State) (h k : Nat) : Within State.releaseOrder_scope s (State.releaseOrder s h k) := by
  induction k generalizing s h with
  | zero => unfold State.releaseOrder; exact .refl _ _
  | succ k ih =>
    unfold State.releaseOrder
    repeat' first
      | (with_reducible assumption) | (with_reducible apply Within.refl) | lift_lets
      | (intro v; refine Within.cut (p := Within State.releaseOrder_scope s v) ?_ ?_; unfold v; rotate_left; clear_value v; intro hv)
      | (intro v; clear_value v)
      | (with_reducible apply Within.step (State.updFwd_within ..); rotate_left; decide +kernel)
      | (with_reducible apply Within.step (State.toPlane_within ..); rotate_left; decide +kernel)
      | (with_reducible apply Within.step (ih ..); rotate_left; decide +kernel)
      | (with_reducible apply Within.each; rotate_left; intro x a hx; try beta_reduce; rotate_left)
      | (with_reducible apply Within.foldl; rotate_left; intro x a hx; try beta_reduce; rotate_left) | split


def State.tryRelease_scope : Scope := ⟨[.evt, .tacc, .ports, .fwd, .grn, .alm], [R.GRN_POOL_STAT, R.GRN_EVT_STAT,
    R.ALM_EVT_STAT, R.ALM_EVT_SRC, R.EVT_STAT], []⟩
theorem State.tryRelease_within (s : State) (src : Nat) : Within State.tryRelease_scope s (State.tryRelease s src) :=
    by
  unfold State.tryRelease
  repeat' first
    | (with_reducible assumption) | (with_reducible apply Within.refl)
    | (with_reducible apply Within.step (State.releaseOrder_within ..); rotate_left; decide +kernel) | split

def State.captured_scope : Scope := ⟨[.nextOrd, .evt, .tacc, .ports, .fwd, .grn, .alm], [R.GRN_POOL_STAT,
    R.GRN_EVT_STAT, R.ALM_EVT_STAT, R.ALM_EVT_SRC, R.EVT_STAT], []⟩
theorem State.captured_within (s : State) (f : Frame) (moved : Nat) : Within State.captured_scope s (State.captured s
    f moved) := by
  unfold State.captured
  repeat' first
    | (with_reducible assumption) | (with_reducible apply Within.refl) | lift_lets
    | (intro v; refine Within.cut (p := Within State.captured_scope s v) ?_ ?_; unfold v; rotate_left; clear_value v; intro hv)
    | (intro v; clear_value v) | intro v
    | (with_reducible apply Within.step (State.count_within ..); rotate_left; decide +kernel)
    | (with_reducible apply Within.step (State.toPlane_within ..); rotate_left; decide +kernel)
    | (with_reducible apply Within.step (State.updFwd_within ..); rotate_left; decide +kernel)
    | (with_reducible apply Within.step (State.tryRelease_within ..); rotate_left; decide +kernel) | split
    | (with_reducible apply Within.step (Within.put_nextOrd ..); rotate_left; decide +kernel)

def State.failLookup_scope : Scope := ⟨[.evt, .tacc, .ports, .fwd, .grn, .alm], [R.GRN_POOL_STAT, R.GRN_EVT_STAT,
    R.ALM_EVT_STAT, R.ALM_EVT_SRC, R.EVT_STAT], []⟩
theorem State.failLookup_within (s : State) (f : Frame) (i : Nat) : Within State.failLookup_scope s (State.failLookup
    s f i) := by
  unfold State.failLookup
  repeat' first
    | (with_reducible assumption) | (with_reducible apply Within.refl)
    | (with_reducible apply Within.step (State.count_within ..); rotate_left; decide +kernel)
    | (with_reducible apply Within.step (State.dropRx_within ..); rotate_left; decide +kernel)
    | (with_reducible apply Within.step (State.tryRelease_within ..); rotate_left; decide +kernel) | split

def State.classify_scope : Scope := ⟨[.nextOrd, .evt, .tacc, .ports, .fwd, .grn, .alm], [R.GRN_POOL_STAT,
    R.GRN_EVT_STAT, R.ALM_EVT_STAT, R.ALM_EVT_SRC, R.EVT_STAT], []⟩
theorem State.classify_within (s : State) (f : Frame) : Within State.classify_scope s (State.classify s f) := by
  unfold State.classify
  repeat' first
    | (with_reducible assumption) | (with_reducible apply Within.refl) | lift_lets
    | (intro v; refine Within.cut (p := Within State.classify_scope s v) ?_ ?_; unfold v; rotate_left; clear_value v; intro hv)
    | (intro v; clear_value v) | intro v
    | (with_reducible apply Within.step (State.count_within ..); rotate_left; decide +kernel)
    | (with_reducible apply Within.step (State.failLookup_within ..); rotate_left; decide +kernel)
    | (with_reducible apply Within.step (State.captured_within ..); rotate_left; decide +kernel) | split

def State.accept_scope : Scope := ⟨[.fwd], [], []⟩
theorem State.accept_within (s : State) (f : Frame) : Within State.accept_scope s (State.accept s f) := by
  unfold State.accept
  repeat' first
    | (with_reducible assumption) | (with_reducible apply Within.refl)
    | (with_reducible apply Within.step (State.updFwd_within ..); rotate_left; decide +kernel) | split

def State.startDrain_scope : Scope := ⟨[.nextOrd, .fwd], [R.FWD_STAT], []⟩
theorem State.startDrain_within (s : State) : Within State.startDrain_scope s (State.startDrain s) := by
  unfold State.startDrain
  repeat' first
    | (with_reducible assumption) | (with_reducible apply Within.refl) | lift_lets
    | (intro v; refine Within.cut (p := Within State.startDrain_scope s v) ?_ ?_; unfold v; rotate_left; clear_value v; intro hv)
    | (intro v; clear_value v) | intro v
    | (with_reducible apply Within.step (State.updFwd_within ..); rotate_left; decide +kernel)
    | (with_reducible apply Within.step (State.wr_within ..); rotate_left; decide +kernel) | split
    | (with_reducible apply Within.step (Within.put_nextOrd ..); rotate_left; decide +kernel)

def State.reapHeads_scope : Scope := ⟨[.evt, .tacc, .ports, .fwd, .grn], [R.GRN_POOL_STAT, R.GRN_SILO_STAT,
    R.GRN_EVT_STAT, R.EVT_STAT], []⟩
theorem State.reapHeads_within (s : State) (n : Nat) : Within State.reapHeads_scope s (State.reapHeads s n) := by
  unfold State.reapHeads
  repeat' first
    | (with_reducible assumption) | (with_reducible apply Within.refl) | lift_lets
    | (intro v; refine Within.cut (p := Within State.reapHeads_scope s v) ?_ ?_; unfold v; rotate_left; clear_value v; intro hv)
    | (intro v; clear_value v) | intro v
    | (with_reducible apply Within.step (State.purge_within ..); rotate_left; decide +kernel) | split

def State.trimSegs_scope : Scope := ⟨[.evt, .tacc, .fwd, .grn], [R.GRN_SILO_STAT, R.GRN_EVT_STAT, R.EVT_STAT], []⟩
theorem State.trimSegs_within (s : State) (n : Nat) : Within State.trimSegs_scope s (State.trimSegs s n) := by
  unfold State.trimSegs
  repeat' first
    | (with_reducible assumption) | (with_reducible apply Within.refl) | lift_lets
    | (intro v; refine Within.cut (p := Within State.trimSegs_scope s v) ?_ ?_; unfold v; rotate_left; clear_value v; intro hv)
    | (intro v; clear_value v) | intro v
    | (with_reducible apply Within.step (State.updQueue_within ..); rotate_left; decide +kernel)
    | (with_reducible apply Within.step (State.freePage_within ..); rotate_left; decide +kernel)
    | (with_reducible apply Within.each; rotate_left; intro x a hx; try beta_reduce; rotate_left)
    | (with_reducible apply Within.foldl; rotate_left; intro x a hx; try beta_reduce; rotate_left) | split

def State.reapPage_scope : Scope := ⟨[.evt, .tacc, .ports, .fwd, .grn], [R.GRN_POOL_STAT, R.GRN_SILO_STAT,
    R.GRN_EVT_STAT, R.EVT_STAT], []⟩
theorem State.reapPage_within (s : State) (n : Nat) : Within State.reapPage_scope s (State.reapPage s n) := by
  unfold State.reapPage
  repeat' first
    | (with_reducible assumption) | (with_reducible apply Within.refl) | lift_lets
    | (intro v; refine Within.cut (p := Within State.reapPage_scope s v) ?_ ?_; unfold v; rotate_left; clear_value v; intro hv)
    | (intro v; clear_value v) | intro v
    | (with_reducible apply Within.step (State.purge_within ..); rotate_left; decide +kernel)
    | (with_reducible apply Within.step (State.count_within ..); rotate_left; decide +kernel)
    | (with_reducible apply Within.step (State.trimSegs_within ..); rotate_left; decide +kernel) | split

def State.reapFrom_scope : Scope := ⟨[.evt, .tacc, .ports, .fwd, .grn], [R.GRN_POOL_STAT, R.GRN_SILO_STAT,
    R.GRN_EVT_STAT, R.EVT_STAT], []⟩
theorem State.reapFrom_within (s : State) (n k : Nat) : Within State.reapFrom_scope s (s.reapFrom n k) := by
  induction k generalizing s with
  | zero => exact (State.reapHeads_within ..).step (.refl _ _) (by decide +kernel)
  | succ k ih =>
    unfold State.reapFrom
    extract_lets a
    have h : Within State.reapFrom_scope s a := (State.reapHeads_within ..).step (.refl _ _) (by decide +kernel)
    split
    · exact (ih _).step ((State.reapPage_within ..).step h (by decide +kernel)) (by decide +kernel)
    · exact h


def State.reapQueue_scope : Scope := ⟨[.evt, .tacc, .ports, .fwd, .grn], [R.GRN_POOL_STAT, R.GRN_SILO_STAT,
    R.GRN_EVT_STAT, R.EVT_STAT], []⟩
theorem State.reapQueue_within (s : State) (n : Nat) : Within State.reapQueue_scope s (State.reapQueue s n) := by
  unfold State.reapQueue
  repeat' first
    | (with_reducible assumption) | (with_reducible apply Within.refl)
    | (with_reducible apply Within.step (State.reapFrom_within ..); rotate_left; decide +kernel) | split

def State.reapIngress_scope : Scope := ⟨[.evt, .tacc, .ports, .fwd, .grn], [R.GRN_POOL_STAT, R.GRN_EVT_STAT,
    R.EVT_STAT], []⟩
theorem State.reapIngress_within (s : State) (k : Nat) : Within State.reapIngress_scope s (State.reapIngress s k) :=
    by
  unfold State.reapIngress
  repeat' first
    | (with_reducible assumption) | (with_reducible apply Within.refl) | lift_lets
    | (intro v; refine Within.cut (p := Within State.reapIngress_scope s v) ?_ ?_; unfold v; rotate_left; clear_value v; intro hv)
    | (intro v; clear_value v) | intro v
    | (with_reducible apply Within.step (State.updFwd_within ..); rotate_left; decide +kernel)
    | (with_reducible apply Within.step (State.count_within ..); rotate_left; decide +kernel)
    | (with_reducible apply Within.step (State.dropRx_within ..); rotate_left; decide +kernel)
    | (with_reducible apply Within.each; rotate_left; intro x a hx; try beta_reduce; rotate_left)
    | (with_reducible apply Within.foldl; rotate_left; intro x a hx; try beta_reduce; rotate_left) | split

def State.enterDrop_scope : Scope := ⟨[.evt, .tacc, .ports, .fwd, .grn], [R.FWD_EVT_STAT, R.FWD_EGR_STAT,
    R.GRN_POOL_STAT, R.GRN_SILO_STAT, R.GRN_EVT_STAT, R.EVT_STAT], []⟩
theorem State.enterDrop_within (s : State) (e : Nat) : Within State.enterDrop_scope s (State.enterDrop s e) := by
  unfold State.enterDrop
  repeat' first
    | (with_reducible assumption) | (with_reducible apply Within.refl) | lift_lets
    | (intro v; refine Within.cut (p := Within State.enterDrop_scope s v) ?_ ?_; unfold v; rotate_left; clear_value v; intro hv)
    | (intro v; clear_value v) | intro v
    | (with_reducible apply Within.step (State.purge_within ..); rotate_left; decide +kernel)
    | (with_reducible apply Within.step (State.wr_within ..); rotate_left; decide +kernel)
    | (with_reducible apply Within.step (State.updFwd_within ..); rotate_left; decide +kernel)
    | (with_reducible apply Within.step (State.raise_within ..); rotate_left; decide +kernel)
    | (with_reducible apply Within.each; rotate_left; intro x a hx; try beta_reduce; rotate_left)
    | (with_reducible apply Within.foldl; rotate_left; intro x a hx; try beta_reduce; rotate_left) | split

def State.egressDown_scope : Scope := ⟨[.evt, .tacc, .ports, .fwd, .grn], [R.FWD_EVT_STAT, R.FWD_EGR_STAT,
    R.GRN_POOL_STAT, R.GRN_SILO_STAT, R.GRN_EVT_STAT, R.EVT_STAT], []⟩
theorem State.egressDown_within (s : State) (e : Nat) : Within State.egressDown_scope s (State.egressDown s e) := by
  unfold State.egressDown
  repeat' first
    | (with_reducible assumption) | (with_reducible apply Within.refl) | lift_lets
    | (intro v; refine Within.cut (p := Within State.egressDown_scope s v) ?_ ?_; unfold v; rotate_left; clear_value v; intro hv)
    | (intro v; clear_value v) | intro v
    | (with_reducible apply Within.step (State.raise_within ..); rotate_left; decide +kernel)
    | (with_reducible apply Within.step (State.purge_within ..); rotate_left; decide +kernel)
    | (with_reducible apply Within.step (State.enterDrop_within ..); rotate_left; decide +kernel)
    | (with_reducible apply Within.step (State.wr_within ..); rotate_left; decide +kernel)
    | (with_reducible apply Within.step (State.updFwd_within ..); rotate_left; decide +kernel)
    | (with_reducible apply Within.each; rotate_left; intro x a hx; try beta_reduce; rotate_left)
    | (with_reducible apply Within.foldl; rotate_left; intro x a hx; try beta_reduce; rotate_left) | split

def State.egressUp_scope : Scope := ⟨[.fwd], [R.FWD_EGR_STAT], []⟩
theorem State.egressUp_within (s : State) (e : Nat) : Within State.egressUp_scope s (State.egressUp s e) := by
  unfold State.egressUp
  repeat' first
    | (with_reducible assumption) | (with_reducible apply Within.refl)
    | (with_reducible apply Within.step (State.wr_within ..); rotate_left; decide +kernel)
    | (with_reducible apply Within.step (State.updFwd_within ..); rotate_left; decide +kernel) | split

def State.egressOff_scope : Scope := ⟨[.evt, .tacc, .ports, .fwd, .grn], [R.FWD_EVT_STAT, R.FWD_EGR_STAT,
    R.GRN_POOL_STAT, R.GRN_SILO_STAT, R.GRN_EVT_STAT, R.EVT_STAT], []⟩
theorem State.egressOff_within (s : State) (e : Nat) : Within State.egressOff_scope s (State.egressOff s e) := by
  unfold State.egressOff
  repeat' first
    | (with_reducible assumption) | (with_reducible apply Within.refl) | lift_lets
    | (intro v; refine Within.cut (p := Within State.egressOff_scope s v) ?_ ?_; unfold v; rotate_left; clear_value v; intro hv)
    | (intro v; clear_value v) | intro v
    | (with_reducible apply Within.step (State.raise_within ..); rotate_left; decide +kernel)
    | (with_reducible apply Within.step (State.enterDrop_within ..); rotate_left; decide +kernel) | split

def State.hostFlush_scope : Scope := ⟨[.evt, .tacc, .ports, .fwd, .grn], [R.GRN_POOL_STAT, R.GRN_SILO_STAT,
    R.GRN_EVT_STAT, R.EVT_STAT], []⟩
theorem State.hostFlush_within (s : State) (e mask : Nat) : Within State.hostFlush_scope s (State.hostFlush s e mask)
    := by
  unfold State.hostFlush
  repeat' first
    | (with_reducible assumption) | (with_reducible apply Within.refl)
    | (with_reducible apply Within.step (State.purge_within ..); rotate_left; decide +kernel)
    | (with_reducible apply Within.each; rotate_left; intro x a hx; try beta_reduce; rotate_left)
    | (with_reducible apply Within.foldl; rotate_left; intro x a hx; try beta_reduce; rotate_left) | split

end Sys2Proof.Machine
end

