-- ==== Sys2Proof/Laws/FramesMac.lean ====
section
/-! SUPPORT. Sys2Proof/Laws/FramesMac.lean: what each operation of Machine/Mac.lean may change. -/
set_option Elab.async false
set_option linter.unusedTactic false
set_option linter.unreachableTactic false
set_option linter.unnecessarySeqFocus false
namespace Sys2Proof.Machine

def State.countFrame_scope : Scope := ⟨[.evt, .tacc], [R.EVT_STAT], []⟩
theorem State.countFrame_within (s : State) (p base sizes : Nat) (bs : List Byte) : Within State.countFrame_scope s
    (State.countFrame s p base sizes bs) := by
  unfold State.countFrame
  repeat' first
    | (with_reducible assumption) | (with_reducible apply Within.refl) | lift_lets
    | (intro v; refine Within.cut (p := Within State.countFrame_scope s v) ?_ ?_; unfold v; rotate_left; clear_value v; intro hv)
    | (intro v; clear_value v) | intro v
    | (with_reducible apply Within.step (State.count_within ..); rotate_left; decide +kernel) | split

def State.notePaused_scope : Scope := ⟨[], [R.PRT_STAT], []⟩
theorem State.notePaused_within (s : State) (p : Nat) : Within State.notePaused_scope s (State.notePaused s p) := by
  unfold State.notePaused
  repeat' first
    | (with_reducible assumption) | (with_reducible apply Within.refl)
    | (with_reducible apply Within.step (State.wr_within ..); rotate_left; decide +kernel)
    | (with_reducible apply Within.each; rotate_left; intro x a hx; try beta_reduce; rotate_left)
    | (with_reducible apply Within.foldl; rotate_left; intro x a hx; try beta_reduce; rotate_left) | split

def State.setPause_scope : Scope := ⟨[.ports], [], []⟩
theorem State.setPause_within (s : State) (p c quanta : Nat) : Within State.setPause_scope s (State.setPause s p c
    quanta) := by
  unfold State.setPause
  repeat' first
    | (with_reducible assumption) | (with_reducible apply Within.refl) | lift_lets
    | (intro v; refine Within.cut (p := Within State.setPause_scope s v) ?_ ?_; unfold v; rotate_left; clear_value v; intro hv)
    | (intro v; clear_value v) | intro v
    | (with_reducible apply Within.step (State.updPort_within ..); rotate_left; decide +kernel) | split

def State.macSend_scope : Scope := ⟨[.ports, .out], [], []⟩
theorem State.macSend_within (s : State) (p : Nat) (o : Out) (k : RxKind) (bs : List Byte) : Within
    State.macSend_scope s (State.macSend s p o k bs) := by
  unfold State.macSend
  repeat' first
    | (with_reducible assumption) | (with_reducible apply Within.refl)
    | (with_reducible apply Within.step (State.updPort_within ..); rotate_left; decide +kernel)
    | (with_reducible apply Within.step (State.emit_within ..); rotate_left; decide +kernel) | split

def State.sendPfc_scope : Scope := ⟨[.evt, .tacc, .ports, .out], [R.PRT_STAT, R.EVT_STAT], []⟩
theorem State.sendPfc_within (s : State) (p : Nat) : Within State.sendPfc_scope s (State.sendPfc s p) := by
  unfold State.sendPfc
  repeat' first
    | (with_reducible assumption) | (with_reducible apply Within.refl) | lift_lets
    | (intro v; refine Within.cut (p := Within State.sendPfc_scope s v) ?_ ?_; unfold v; rotate_left; clear_value v; intro hv)
    | (intro v; clear_value v) | intro v
    | (with_reducible apply Within.step (State.updPort_within ..); rotate_left; decide +kernel)
    | (with_reducible apply Within.step (State.wr_within ..); rotate_left; decide +kernel)
    | (with_reducible apply Within.step (State.count_within ..); rotate_left; decide +kernel)
    | (with_reducible apply Within.step (State.countFrame_within ..); rotate_left; decide +kernel)
    | (with_reducible apply Within.step (State.macSend_within ..); rotate_left; decide +kernel)
    | (with_reducible apply Within.each; rotate_left; intro x a hx; try beta_reduce; rotate_left)
    | (with_reducible apply Within.foldl; rotate_left; intro x a hx; try beta_reduce; rotate_left) | split

def State.splitTx_scope : Scope := ⟨[.ports], [], []⟩
theorem State.splitTx_within (s : State) (p : Nat) : Within State.splitTx_scope s (State.splitTx s p) := by
  unfold State.splitTx
  repeat' first
    | (with_reducible assumption) | (with_reducible apply Within.refl)
    | (with_reducible apply Within.step (State.updPort_within ..); rotate_left; decide +kernel) | split

def State.startVerify_scope : Scope := ⟨[.ports, .out], [R.PRT_STAT], []⟩
theorem State.startVerify_within (s : State) (p : Nat) : Within State.startVerify_scope s (State.startVerify s p) :=
    by
  unfold State.startVerify
  repeat' first
    | (with_reducible assumption) | (with_reducible apply Within.refl)
    | (with_reducible apply Within.step (State.wr_within ..); rotate_left; decide +kernel)
    | (with_reducible apply Within.step (State.updPort_within ..); rotate_left; decide +kernel)
    | (with_reducible apply Within.step (State.macSend_within ..); rotate_left; decide +kernel) | split

def State.frameEdge_scope : Scope := ⟨[.ports, .out], [R.PRT_STAT], []⟩
theorem State.frameEdge_within (s : State) (p : Nat) : Within State.frameEdge_scope s (State.frameEdge s p) := by
  unfold State.frameEdge
  repeat' first
    | (with_reducible assumption) | (with_reducible apply Within.refl)
    | (with_reducible apply Within.step (State.updPort_within ..); rotate_left; decide +kernel)
    | (with_reducible apply Within.step (State.startVerify_within ..); rotate_left; decide +kernel) | split

def State.popHead_scope : Scope := ⟨[.fwd], [], []⟩
theorem State.popHead_within (s : State) (n : Nat) : Within State.popHead_scope s (State.popHead s n) := by
  unfold State.popHead
  repeat' first
    | (with_reducible assumption) | (with_reducible apply Within.refl)
    | (with_reducible apply Within.step (State.updQueue_within ..); rotate_left; decide +kernel) | split

def State.dequeued_scope : Scope := ⟨[.evt, .tacc, .ports, .fwd, .grn], [R.GRN_POOL_STAT, R.GRN_EVT_STAT, R.EVT_STAT],
    []⟩
theorem State.dequeued_within (s : State) (n : Nat) (f : Frame) : Within State.dequeued_scope s (State.dequeued s n f)
    := by
  unfold State.dequeued
  repeat' first
    | (with_reducible assumption) | (with_reducible apply Within.refl) | lift_lets
    | (intro v; refine Within.cut (p := Within State.dequeued_scope s v) ?_ ?_; unfold v; rotate_left; clear_value v; intro hv)
    | (intro v; clear_value v) | intro v
    | (with_reducible apply Within.step (State.count_within ..); rotate_left; decide +kernel)
    | (with_reducible apply Within.step (State.letGo_within ..); rotate_left; decide +kernel) | split

def State.startTx_scope : Scope := ⟨[.evt, .tacc, .ports, .fwd, .grn], [R.GRN_POOL_STAT, R.GRN_EVT_STAT, R.EVT_STAT],
    []⟩
theorem State.startTx_within (s : State) (p q : Nat) (e : QEnt) (dep : Inst) : Within State.startTx_scope s
    (State.startTx s p q e dep) := by
  unfold State.startTx
  repeat' first
    | (with_reducible assumption) | (with_reducible apply Within.refl) | lift_lets
    | (intro v; refine Within.cut (p := Within State.startTx_scope s v) ?_ ?_; unfold v; rotate_left; clear_value v; intro hv)
    | (intro v; clear_value v) | intro v
    | (with_reducible apply Within.step (State.popHead_within ..); rotate_left; decide +kernel)
    | (with_reducible apply Within.step (State.count_within ..); rotate_left; decide +kernel)
    | (with_reducible apply Within.step (State.dequeued_within ..); rotate_left; decide +kernel)
    | (with_reducible apply Within.step (State.updPort_within ..); rotate_left; decide +kernel) | split

def State.txReport_scope : Scope := ⟨[.tb], [], []⟩
theorem State.txReport_within (s : State) (p : Nat) (t : Tx) (aborted : Bool) : Within State.txReport_scope s
    (State.txReport s p t aborted) := by
  unfold State.txReport
  repeat' first
    | (with_reducible assumption) | (with_reducible apply Within.refl)
    | (with_reducible apply Within.step (State.report_within ..); rotate_left; decide +kernel) | split

def State.flowTally_scope : Scope := ⟨[.evt, .tacc], [R.EVT_STAT], []⟩
theorem State.flowTally_within (s : State) (f : Frame) (len : Nat) : Within State.flowTally_scope s (State.flowTally s
    f len) := by
  unfold State.flowTally
  repeat' first
    | (with_reducible assumption) | (with_reducible apply Within.refl)
    | (with_reducible apply Within.step (State.count_within ..); rotate_left; decide +kernel) | split

def State.loopTx_scope : Scope := ⟨[.ports], [], []⟩
theorem State.loopTx_within (s : State) (p : Nat) (t : Tx) (bs : List Byte) : Within State.loopTx_scope s
    (State.loopTx s p t bs) := by
  unfold State.loopTx
  repeat' first
    | (with_reducible assumption) | (with_reducible apply Within.refl)
    | (with_reducible apply Within.step (State.updPort_within ..); rotate_left; decide +kernel) | split

def State.txDone_scope : Scope := ⟨[.evt, .tacc, .ports, .fwd, .grn, .tb, .twin, .out], [R.PRT_STAT, R.GRN_POOL_STAT,
    R.GRN_EVT_STAT, R.EVT_STAT], []⟩
theorem State.txDone_within (s : State) (p : Nat) (t : Tx) (bad : Bool) : Within State.txDone_scope s (State.txDone s
    p t bad) := by
  unfold State.txDone
  repeat' first
    | (with_reducible assumption) | (with_reducible apply Within.refl) | lift_lets
    | (intro v; refine Within.cut (p := Within State.txDone_scope s v) ?_ ?_; unfold v; rotate_left; clear_value v; intro hv)
    | (intro v; clear_value v) | intro v
    | (with_reducible apply Within.step (State.updPort_within ..); rotate_left; decide +kernel)
    | (with_reducible apply Within.step (State.count_within ..); rotate_left; decide +kernel)
    | (with_reducible apply Within.step (State.emit_within ..); rotate_left; decide +kernel)
    | (with_reducible apply Within.step (State.loopTx_within ..); rotate_left; decide +kernel)
    | (with_reducible apply Within.step (State.countFrame_within ..); rotate_left; decide +kernel)
    | (with_reducible apply Within.step (State.flowTally_within ..); rotate_left; decide +kernel)
    | (with_reducible apply Within.step (State.txReport_within ..); rotate_left; decide +kernel)
    | (with_reducible apply Within.step (State.noteSent_within ..); rotate_left; decide +kernel)
    | (with_reducible apply Within.step (State.dequeued_within ..); rotate_left; decide +kernel)
    | (with_reducible apply Within.step (State.frameEdge_within ..); rotate_left; decide +kernel)
    | (with_reducible apply Within.each; rotate_left; intro x a hx; try beta_reduce; rotate_left)
    | (with_reducible apply Within.foldl; rotate_left; intro x a hx; try beta_reduce; rotate_left) | split

def State.cutOne_scope : Scope := ⟨[.evt, .tacc, .ports, .fwd, .grn, .tb], [R.GRN_POOL_STAT, R.GRN_EVT_STAT,
    R.EVT_STAT], []⟩
theorem State.cutOne_within (s : State) (p : Nat) (t : Tx) (whole : Nat) : Within State.cutOne_scope s (State.cutOne s
    p t whole) := by
  unfold State.cutOne
  repeat' first
    | (with_reducible assumption) | (with_reducible apply Within.refl) | lift_lets
    | (intro v; refine Within.cut (p := Within State.cutOne_scope s v) ?_ ?_; unfold v; rotate_left; clear_value v; intro hv)
    | (intro v; clear_value v) | intro v
    | (with_reducible apply Within.step (State.count_within ..); rotate_left; decide +kernel)
    | (with_reducible apply Within.step (State.txReport_within ..); rotate_left; decide +kernel)
    | (with_reducible apply Within.step (State.dequeued_within ..); rotate_left; decide +kernel)
    | (with_reducible apply Within.each; rotate_left; intro x a hx; try beta_reduce; rotate_left)
    | (with_reducible apply Within.foldl; rotate_left; intro x a hx; try beta_reduce; rotate_left) | split

def State.cutTx_scope : Scope := ⟨[.evt, .tacc, .ports, .fwd, .grn, .tb, .out], [R.GRN_POOL_STAT, R.GRN_EVT_STAT,
    R.EVT_STAT], []⟩
theorem State.cutTx_within (s : State) (p : Nat) : Within State.cutTx_scope s (State.cutTx s p) := by
  unfold State.cutTx
  repeat' first
    | (with_reducible assumption) | (with_reducible apply Within.refl) | lift_lets
    | (intro v; refine Within.cut (p := Within State.cutTx_scope s v) ?_ ?_; unfold v; rotate_left; clear_value v; intro hv)
    | (intro v; clear_value v) | intro v
    | (with_reducible apply Within.step (State.updPort_within ..); rotate_left; decide +kernel)
    | (with_reducible apply Within.step (State.cutOne_within ..); rotate_left; decide +kernel)
    | (with_reducible apply Within.step (State.emit_within ..); rotate_left; decide +kernel) | split

def State.rxControl_scope : Scope := ⟨[.evt, .tacc, .ports], [R.PRT_STAT, R.EVT_STAT], []⟩
theorem State.rxControl_within (s : State) (p : Nat) (bs : List Byte) : Within State.rxControl_scope s
    (State.rxControl s p bs) := by
  unfold State.rxControl
  repeat' first
    | (with_reducible assumption) | (with_reducible apply Within.refl) | lift_lets
    | (intro v; refine Within.cut (p := Within State.rxControl_scope s v) ?_ ?_; unfold v; rotate_left; clear_value v; intro hv)
    | (intro v; clear_value v) | intro v
    | (with_reducible apply Within.step (State.take_within ..); rotate_left; decide +kernel)
    | (with_reducible apply Within.step (State.count_within ..); rotate_left; decide +kernel)
    | (with_reducible apply Within.step (State.setPause_within ..); rotate_left; decide +kernel)
    | (with_reducible apply Within.step (State.notePaused_within ..); rotate_left; decide +kernel)
    | (with_reducible apply Within.each; rotate_left; intro x a hx; try beta_reduce; rotate_left)
    | (with_reducible apply Within.foldl; rotate_left; intro x a hx; try beta_reduce; rotate_left) | split

def State.dropAsm_scope : Scope := ⟨[.evt, .tacc, .ports, .grn], [R.GRN_POOL_STAT, R.GRN_EVT_STAT, R.EVT_STAT], []⟩
theorem State.dropAsm_within (s : State) (p : Nat) (a : Assembly) : Within State.dropAsm_scope s (State.dropAsm s p a)
    := by
  unfold State.dropAsm
  repeat' first
    | (with_reducible assumption) | (with_reducible apply Within.refl) | lift_lets
    | (intro v; refine Within.cut (p := Within State.dropAsm_scope s v) ?_ ?_; unfold v; rotate_left; clear_value v; intro hv)
    | (intro v; clear_value v) | intro v
    | (with_reducible apply Within.step (State.freeBuf_within ..); rotate_left; decide +kernel)
    | (with_reducible apply Within.step (State.subIn_within ..); rotate_left; decide +kernel)
    | (with_reducible apply Within.each; rotate_left; intro x a hx; try beta_reduce; rotate_left)
    | (with_reducible apply Within.foldl; rotate_left; intro x a hx; try beta_reduce; rotate_left) | split

def State.refuse_scope : Scope := ⟨[.evt, .tacc, .ports, .grn], [R.GRN_POOL_STAT, R.GRN_EVT_STAT, R.EVT_STAT], []⟩
theorem State.refuse_snd (s : State) (p i : Nat) (a : Assembly) : Within State.refuse_scope s (State.refuse s p i a).2 := by
    unfold State.refuse
    repeat' first
      | (with_reducible assumption) | (with_reducible apply Within.refl)
      | (with_reducible apply Within.step (State.dropAsm_within ..); rotate_left; decide +kernel)
      | (with_reducible apply Within.step (State.count_within ..); rotate_left; decide +kernel) | split | dsimp only


theorem State.refuse_within {s s' : State} {p i : Nat} {a : Assembly} {r} (h : State.refuse s p i a = (r, s')) :
    Within State.refuse_scope s s' := by
  have := State.refuse_snd s p i a
  rwa [h] at this


def State.moreBuf_scope : Scope := ⟨[.evt, .tacc, .ports, .grn], [R.GRN_POOL_STAT, R.GRN_EVT_STAT, R.EVT_STAT], []⟩
theorem State.moreBuf_snd (s : State) (p : Nat) (a : Assembly) : Within State.moreBuf_scope s (State.moreBuf s p a).2 := by
    unfold State.moreBuf
    repeat' first
      | (with_reducible assumption) | (with_reducible apply Within.refl)
      | (with_reducible apply Within.step (State.request_within (h := ?h)); (case h => assumption); rotate_left; decide +kernel)
      | (with_reducible apply Within.step (State.addIn_within ..); rotate_left; decide +kernel)
      | (with_reducible apply Within.step (State.refuse_within (h := ?h)); (case h => assumption); rotate_left; decide +kernel)
      | (with_reducible apply Within.step (State.refuse_snd ..); rotate_left; decide +kernel) | split | dsimp only


theorem State.moreBuf_within {s s' : State} {p : Nat} {a : Assembly} {r} (h : State.moreBuf s p a = (r, s')) :
    Within State.moreBuf_scope s s' := by
  have := State.moreBuf_snd s p a
  rwa [h] at this


def State.fillAsm_scope : Scope := ⟨[.evt, .tacc, .ports, .grn], [R.GRN_POOL_STAT, R.GRN_EVT_STAT, R.EVT_STAT], []⟩
theorem State.fillAsm_snd (s : State) (p k : Nat) (a : Assembly) : Within State.fillAsm_scope s (State.fillAsm s p k a).2 := by
  induction k generalizing s p a with
  | zero => unfold State.fillAsm; exact .refl _ _
  | succ k ih =>
    unfold State.fillAsm
    repeat' first
      | (with_reducible assumption) | (with_reducible apply Within.refl) | lift_lets
      | (intro v; refine Within.cut (p := Within State.fillAsm_scope s v) ?_ ?_; unfold v; rotate_left; clear_value v; intro hv)
      | (intro v; clear_value v)
      | (with_reducible apply Within.step (State.moreBuf_within (h := ?h)); (case h => assumption); rotate_left; decide +kernel)
      | (with_reducible apply Within.step (State.moreBuf_snd ..); rotate_left; decide +kernel)
      | (with_reducible apply Within.step (State.refuse_snd ..); rotate_left; decide +kernel)
      | (with_reducible apply Within.step (State.addIn_within ..); rotate_left; decide +kernel)
      | (with_reducible apply Within.step (ih ..); rotate_left; decide +kernel)
      | (with_reducible apply Within.each; rotate_left; intro x a hx; try beta_reduce; rotate_left)
      | (with_reducible apply Within.foldl; rotate_left; intro x a hx; try beta_reduce; rotate_left) | split
      | dsimp only

theorem State.fillAsm_within {s s' : State} {p k : Nat} {a : Assembly} {r} (h : State.fillAsm s p k a = (r, s')) :
    Within State.fillAsm_scope s s' := by
  have := State.fillAsm_snd s p k a
  rwa [h] at this


def State.join_scope : Scope := ⟨[.evt, .tacc, .ports, .grn], [R.GRN_POOL_STAT, R.GRN_EVT_STAT, R.EVT_STAT], []⟩
theorem State.join_snd (s : State) (p : Nat) (a : Assembly) (bs : List Byte) (bad : Bool) : Within State.join_scope s (State.join s p a bs bad).2 := by
    unfold State.join
    repeat' first
      | (with_reducible assumption) | (with_reducible apply Within.refl)
      | (with_reducible apply Within.step (State.fillAsm_within (h := ?h)); (case h => assumption); rotate_left; decide +kernel)
      | (with_reducible apply Within.step (State.fillAsm_snd ..); rotate_left; decide +kernel)
      | (with_reducible apply Within.step (State.dropAsm_within ..); rotate_left; decide +kernel) | split | dsimp only


theorem State.join_within {s s' : State} {p : Nat} {a : Assembly} {bs : List Byte} {bad : Bool} {r} (h : State.join s p a bs bad = (r, s')) :
    Within State.join_scope s s' := by
  have := State.join_snd s p a bs bad
  rwa [h] at this


def State.rxReport_scope : Scope := ⟨[.evt, .tacc, .tb], [R.EVT_STAT], []⟩
theorem State.rxReport_within (s : State) (p : Nat) (bs : List Byte) (i : Inst) : Within State.rxReport_scope s
    (State.rxReport s p bs i) := by
  unfold State.rxReport
  repeat' first
    | (with_reducible assumption) | (with_reducible apply Within.refl) | lift_lets
    | (intro v; refine Within.cut (p := Within State.rxReport_scope s v) ?_ ?_; unfold v; rotate_left; clear_value v; intro hv)
    | (intro v; clear_value v) | intro v
    | (with_reducible apply Within.step (State.count_within ..); rotate_left; decide +kernel)
    | (with_reducible apply Within.step (State.report_within ..); rotate_left; decide +kernel) | split

def State.admitRx_scope : Scope := ⟨[.nextFrame, .evt, .tacc, .fwd, .tb], [R.EVT_STAT], []⟩
theorem State.admitRx_within (s : State) (p c : Nat) (bs : List Byte) (i : Inst) (got : List (Nat × Nat)) : Within
    State.admitRx_scope s (State.admitRx s p c bs i got) := by
  unfold State.admitRx
  repeat' first
    | (with_reducible assumption) | (with_reducible apply Within.refl) | lift_lets
    | (intro v; refine Within.cut (p := Within State.admitRx_scope s v) ?_ ?_; unfold v; rotate_left; clear_value v; intro hv)
    | (intro v; clear_value v) | intro v
    | (with_reducible apply Within.step (State.countFrame_within ..); rotate_left; decide +kernel)
    | (with_reducible apply Within.step (State.rxReport_within ..); rotate_left; decide +kernel)
    | (with_reducible apply Within.step (State.accept_within ..); rotate_left; decide +kernel) | split
    | (with_reducible apply Within.step (Within.put_nextFrame ..); rotate_left; decide +kernel)

def State.endAsm_scope : Scope := ⟨[.evt, .tacc, .ports, .grn], [R.GRN_POOL_STAT, R.GRN_EVT_STAT, R.EVT_STAT], []⟩
theorem State.endAsm_within (s : State) (p : Nat) (a : Assembly) (i : Nat) : Within State.endAsm_scope s (State.endAsm
    s p a i) := by
  unfold State.endAsm
  repeat' first
    | (with_reducible assumption) | (with_reducible apply Within.refl)
    | (with_reducible apply Within.step (State.dropAsm_within ..); rotate_left; decide +kernel)
    | (with_reducible apply Within.step (State.count_within ..); rotate_left; decide +kernel) | split

def State.rxEnd_scope : Scope := ⟨[.nextFrame, .evt, .tacc, .ports, .fwd, .grn, .tb], [R.PRT_STAT, R.GRN_POOL_STAT,
    R.GRN_EVT_STAT, R.EVT_STAT], []⟩
theorem State.rxEnd_within (s : State) (p : Nat) (a : Assembly) (cut : Bool) : Within State.rxEnd_scope s (State.rxEnd
    s p a cut) := by
  unfold State.rxEnd
  repeat' first
    | (with_reducible assumption) | (with_reducible apply Within.refl) | lift_lets
    | (intro v; refine Within.cut (p := Within State.rxEnd_scope s v) ?_ ?_; unfold v; rotate_left; clear_value v; intro hv)
    | (intro v; clear_value v) | intro v
    | (with_reducible apply Within.step (State.count_within ..); rotate_left; decide +kernel)
    | (with_reducible apply Within.step (State.endAsm_within ..); rotate_left; decide +kernel)
    | (with_reducible apply Within.step (State.dropAsm_within ..); rotate_left; decide +kernel)
    | (with_reducible apply Within.step (State.rxControl_within ..); rotate_left; decide +kernel)
    | (with_reducible apply Within.step (State.take_within ..); rotate_left; decide +kernel)
    | (with_reducible apply Within.step (State.admitRx_within ..); rotate_left; decide +kernel) | split

def State.echo_scope : Scope := ⟨[.out], [], []⟩
theorem State.echo_within (s : State) (p : Nat) (o : Out) : Within State.echo_scope s (State.echo s p o) := by
  unfold State.echo
  repeat' first
    | (with_reducible assumption) | (with_reducible apply Within.refl) | lift_lets
    | (intro v; refine Within.cut (p := Within State.echo_scope s v) ?_ ?_; unfold v; rotate_left; clear_value v; intro hv)
    | (intro v; clear_value v) | intro v
    | (with_reducible apply Within.step (State.emit_within ..); rotate_left; decide +kernel) | split

def State.dropAssy_scope : Scope := ⟨[.evt, .tacc, .ports, .grn], [R.GRN_POOL_STAT, R.GRN_EVT_STAT, R.EVT_STAT], []⟩
theorem State.dropAssy_within (s : State) (p : Nat) (a : Assembly) : Within State.dropAssy_scope s (State.dropAssy s p
    a) := by
  unfold State.dropAssy
  repeat' first
    | (with_reducible assumption) | (with_reducible apply Within.refl)
    | (with_reducible apply Within.step (State.dropAsm_within ..); rotate_left; decide +kernel)
    | (with_reducible apply Within.step (State.count_within ..); rotate_left; decide +kernel) | split

def State.assemble_scope : Scope := ⟨[.nextFrame, .evt, .tacc, .ports, .fwd, .grn, .tb], [R.PRT_STAT, R.GRN_POOL_STAT,
    R.GRN_EVT_STAT, R.EVT_STAT], []⟩
theorem State.assemble_within (s : State) (p : Nat) (last mcrcOk : Bool) (a : Assembly) : Within State.assemble_scope
    s (State.assemble s p last mcrcOk a) := by
  unfold State.assemble
  repeat' first
    | (with_reducible assumption) | (with_reducible apply Within.refl)
    | (with_reducible apply Within.step (State.updPort_within ..); rotate_left; decide +kernel)
    | (with_reducible apply Within.step (State.count_within ..); rotate_left; decide +kernel)
    | (with_reducible apply Within.step (State.rxEnd_within ..); rotate_left; decide +kernel)
    | (with_reducible apply Within.step (State.dropAssy_within ..); rotate_left; decide +kernel) | split

end Sys2Proof.Machine
end

