-- ==== Sys2Proof/Laws/FramesPorts.lean ====
section
/-! SUPPORT. Sys2Proof/Laws/FramesPorts.lean: what each operation of Machine/Ports.lean may change. -/
set_option Elab.async false
set_option linter.unusedTactic false
set_option linter.unreachableTactic false
set_option linter.unnecessarySeqFocus false
namespace Sys2Proof.Machine

def State.setLink_scope : Scope := ⟨[], [R.PRT_STAT], []⟩
theorem State.setLink_within (s : State) (p v : Nat) : Within State.setLink_scope s (State.setLink s p v) := by
  unfold State.setLink
  repeat' first
    | (with_reducible assumption) | (with_reducible apply Within.refl)
    | (with_reducible apply Within.step (State.wr_within ..); rotate_left; decide +kernel) | split

def State.portTimer_scope : Scope := ⟨[.ports], [], []⟩
theorem State.portTimer_within (s : State) (p : Nat) (t : Option Nat) : Within State.portTimer_scope s
    (State.portTimer s p t) := by
  unfold State.portTimer
  repeat' first
    | (with_reducible assumption) | (with_reducible apply Within.refl)
    | (with_reducible apply Within.step (State.updPort_within ..); rotate_left; decide +kernel) | split

def State.dropLanes_scope : Scope := ⟨[.committed, .latches, .mem, .pwr, .boot, .gr, .evt, .tally, .tacc, .ports,
    .cars, .sheaves, .fwd, .grn, .alm, .tb, .tt, .ref, .syn, .tdc, .cal, .twin, .out], [R.PWR_RAIL_STAT,
    R.PWR_CLK_STAT, R.PWR_OCXO_STAT, R.PWR_BOOT_STAT, R.EVT_FCNT], [0, 1, 2, 3, 4, 5, 6, 7, 8, 9, 10, 11, 12, 14]⟩
theorem State.dropLanes_within (s : State) (l : List Nat) : Within State.dropLanes_scope s (State.dropLanes s l) := by
  unfold State.dropLanes
  repeat' first
    | (with_reducible assumption) | (with_reducible apply Within.refl) | lift_lets
    | (intro v; refine Within.cut (p := Within State.dropLanes_scope s v) ?_ ?_; unfold v; rotate_left; clear_value v; intro hv)
    | (intro v; clear_value v) | intro v
    | (with_reducible apply Within.step (State.updPwr_within ..); rotate_left; decide +kernel)
    | (with_reducible apply Within.step (State.wr_within ..); rotate_left; decide +kernel)
    | (with_reducible apply Within.step (State.railOff_within ..); rotate_left; decide +kernel)
    | (with_reducible apply Within.each; rotate_left; intro x a hx; try beta_reduce; rotate_left)
    | (with_reducible apply Within.foldl; rotate_left; intro x a hx; try beta_reduce; rotate_left) | split

def State.goUp_scope : Scope := ⟨[.evt, .tacc, .ports, .fwd, .out], [R.PRT_STAT, R.PRT_EVT_STAT, R.FWD_EGR_STAT,
    R.EVT_STAT], []⟩
theorem State.goUp_within (s : State) (p : Nat) : Within State.goUp_scope s (State.goUp s p) := by
  unfold State.goUp
  repeat' first
    | (with_reducible assumption) | (with_reducible apply Within.refl) | lift_lets
    | (intro v; refine Within.cut (p := Within State.goUp_scope s v) ?_ ?_; unfold v; rotate_left; clear_value v; intro hv)
    | (intro v; clear_value v) | intro v
    | (with_reducible apply Within.step (State.setLink_within ..); rotate_left; decide +kernel)
    | (with_reducible apply Within.step (State.wr_within ..); rotate_left; decide +kernel)
    | (with_reducible apply Within.step (State.updPort_within ..); rotate_left; decide +kernel)
    | (with_reducible apply Within.step (State.raise_within ..); rotate_left; decide +kernel)
    | (with_reducible apply Within.step (State.egressUp_within ..); rotate_left; decide +kernel)
    | (with_reducible apply Within.step (State.startVerify_within ..); rotate_left; decide +kernel)
    | (with_reducible apply Within.step (State.sendPfc_within ..); rotate_left; decide +kernel) | split

def State.alignOk_scope : Scope := ⟨[.evt, .tacc, .ports, .fwd, .out], [R.PRT_STAT, R.PRT_EVT_STAT, R.FWD_EGR_STAT,
    R.EVT_STAT, R.EVT_FCNT], []⟩
theorem State.alignOk_within (s : State) (p : Nat) : Within State.alignOk_scope s (State.alignOk s p) := by
  unfold State.alignOk
  repeat' first
    | (with_reducible assumption) | (with_reducible apply Within.refl) | lift_lets
    | (intro v; refine Within.cut (p := Within State.alignOk_scope s v) ?_ ?_; unfold v; rotate_left; clear_value v; intro hv)
    | (intro v; clear_value v) | intro v
    | (with_reducible apply Within.step (State.wr_within ..); rotate_left; decide +kernel)
    | (with_reducible apply Within.step (State.raise_within ..); rotate_left; decide +kernel)
    | (with_reducible apply Within.step (State.transientFault_within ..); rotate_left; decide +kernel)
    | (with_reducible apply Within.step (State.setLink_within ..); rotate_left; decide +kernel)
    | (with_reducible apply Within.step (State.portTimer_within ..); rotate_left; decide +kernel)
    | (with_reducible apply Within.step (State.goUp_within ..); rotate_left; decide +kernel) | split

def State.toWait_scope : Scope := ⟨[.ports], [R.PRT_STAT], []⟩
theorem State.toWait_within (s : State) (p : Nat) : Within State.toWait_scope s (State.toWait s p) := by
  unfold State.toWait
  repeat' first
    | (with_reducible assumption) | (with_reducible apply Within.refl) | lift_lets
    | (intro v; refine Within.cut (p := Within State.toWait_scope s v) ?_ ?_; unfold v; rotate_left; clear_value v; intro hv)
    | (intro v; clear_value v) | intro v
    | (with_reducible apply Within.step (State.setLink_within ..); rotate_left; decide +kernel)
    | (with_reducible apply Within.step (State.updPort_within ..); rotate_left; decide +kernel)
    | (with_reducible apply Within.step (State.wr_within ..); rotate_left; decide +kernel) | split

def State.toAlign_scope : Scope := ⟨[.ports], [R.PRT_STAT], []⟩
theorem State.toAlign_within (s : State) (p : Nat) (locked : Bool) : Within State.toAlign_scope s (State.toAlign s p
    locked) := by
  unfold State.toAlign
  repeat' first
    | (with_reducible assumption) | (with_reducible apply Within.refl)
    | (with_reducible apply Within.step (State.setLink_within ..); rotate_left; decide +kernel)
    | (with_reducible apply Within.step (State.wrB_within ..); rotate_left; decide +kernel)
    | (with_reducible apply Within.step (State.portTimer_within ..); rotate_left; decide +kernel) | split

def State.portDown_scope : Scope := ⟨[.evt, .tacc, .ports, .fwd, .grn], [R.PRT_STAT, R.PRT_EVT_STAT, R.FWD_EVT_STAT,
    R.FWD_EGR_STAT, R.GRN_POOL_STAT, R.GRN_SILO_STAT, R.GRN_EVT_STAT, R.EVT_STAT], []⟩
theorem State.portDown_within (s : State) (p cause : Nat) : Within State.portDown_scope s (State.portDown s p cause)
    := by
  unfold State.portDown
  repeat' first
    | (with_reducible assumption) | (with_reducible apply Within.refl) | lift_lets
    | (intro v; refine Within.cut (p := Within State.portDown_scope s v) ?_ ?_; unfold v; rotate_left; clear_value v; intro hv)
    | (intro v; clear_value v) | intro v
    | (with_reducible apply Within.step (State.wr_within ..); rotate_left; decide +kernel)
    | (with_reducible apply Within.step (State.raise_within ..); rotate_left; decide +kernel)
    | (with_reducible apply Within.step (State.updPort_within ..); rotate_left; decide +kernel)
    | (with_reducible apply Within.step (State.notePaused_within ..); rotate_left; decide +kernel)
    | (with_reducible apply Within.step (State.count_within ..); rotate_left; decide +kernel)
    | (with_reducible apply Within.step (State.egressDown_within ..); rotate_left; decide +kernel) | split

def State.cutRx_scope : Scope := ⟨[.nextFrame, .evt, .tacc, .ports, .fwd, .grn, .tb], [R.PRT_STAT, R.GRN_POOL_STAT,
    R.GRN_EVT_STAT, R.EVT_STAT], []⟩
theorem State.cutRx_within (s : State) (p : Nat) : Within State.cutRx_scope s (State.cutRx s p) := by
  unfold State.cutRx
  repeat' first
    | (with_reducible assumption) | (with_reducible apply Within.refl)
    | (with_reducible apply Within.step (State.updPort_within ..); rotate_left; decide +kernel)
    | (with_reducible apply Within.step (State.rxEnd_within ..); rotate_left; decide +kernel) | split

def State.noteLine_scope : Scope := ⟨[.out], [], []⟩
theorem State.noteLine_within (s b : State) (p : Nat) : Within State.noteLine_scope s (State.noteLine s b p) := by
  unfold State.noteLine
  repeat' first
    | (with_reducible assumption) | (with_reducible apply Within.refl)
    | (with_reducible apply Within.step (State.emit_within ..); rotate_left; decide +kernel) | split

def State.debounced_scope : Scope := ⟨[.evt, .tacc, .ports, .fwd, .grn], [R.PRT_STAT, R.PRT_EVT_STAT, R.FWD_EVT_STAT,
    R.FWD_EGR_STAT, R.GRN_POOL_STAT, R.GRN_SILO_STAT, R.GRN_EVT_STAT, R.EVT_STAT], []⟩
theorem State.debounced_within (s : State) (p : Nat) : Within State.debounced_scope s (State.debounced s p) := by
  unfold State.debounced
  repeat' first
    | (with_reducible assumption) | (with_reducible apply Within.refl) | lift_lets
    | (intro v; refine Within.cut (p := Within State.debounced_scope s v) ?_ ?_; unfold v; rotate_left; clear_value v; intro hv)
    | (intro v; clear_value v) | intro v
    | (with_reducible apply Within.step (State.portDown_within ..); rotate_left; decide +kernel)
    | (with_reducible apply Within.step (State.toWait_within ..); rotate_left; decide +kernel)
    | (with_reducible apply Within.step (State.toAlign_within ..); rotate_left; decide +kernel) | split

def State.portSignal_scope : Scope := ⟨[.ports, .out], [R.PRT_STAT], []⟩
theorem State.portSignal_within (s : State) (p : Nat) : Within State.portSignal_scope s (State.portSignal s p) := by
  unfold State.portSignal
  repeat' first
    | (with_reducible assumption) | (with_reducible apply Within.refl)
    | (with_reducible apply Within.step (State.wr_within ..); rotate_left; decide +kernel)
    | (with_reducible apply Within.step (State.setLink_within ..); rotate_left; decide +kernel)
    | (with_reducible apply Within.step (State.portTimer_within ..); rotate_left; decide +kernel)
    | (with_reducible apply Within.step (State.noteLine_within ..); rotate_left; decide +kernel) | split

def State.portAdapted_scope : Scope := ⟨[.ports], [R.PRT_STAT], []⟩
theorem State.portAdapted_within (s : State) (p : Nat) : Within State.portAdapted_scope s (State.portAdapted s p) :=
    by
  unfold State.portAdapted
  repeat' first
    | (with_reducible assumption) | (with_reducible apply Within.refl)
    | (with_reducible apply Within.step (State.toAlign_within ..); rotate_left; decide +kernel) | split

def State.dueLanes_scope : Scope := ⟨[.cal], [], []⟩
theorem State.dueLanes_within (s : State) (l : List Nat) : Within State.dueLanes_scope s (State.dueLanes s l) := by
  unfold State.dueLanes
  repeat' first
    | (with_reducible assumption) | (with_reducible apply Within.refl) | lift_lets
    | (intro v; refine Within.cut (p := Within State.dueLanes_scope s v) ?_ ?_; unfold v; rotate_left; clear_value v; intro hv)
    | (intro v; clear_value v) | intro v
    | (with_reducible apply Within.step (State.updCal_within ..); rotate_left; decide +kernel) | split

def State.alignLock_scope : Scope := ⟨[.evt, .tacc, .ports, .fwd, .out], [R.PRT_STAT, R.PRT_EVT_STAT, R.FWD_EGR_STAT,
    R.EVT_STAT, R.EVT_FCNT], []⟩
theorem State.alignLock_within (s : State) (p : Nat) (localF remoteF : Bool) : Within State.alignLock_scope s
    (State.alignLock s p localF remoteF) := by
  unfold State.alignLock
  repeat' first
    | (with_reducible assumption) | (with_reducible apply Within.refl) | lift_lets
    | (intro v; refine Within.cut (p := Within State.alignLock_scope s v) ?_ ?_; unfold v; rotate_left; clear_value v; intro hv)
    | (intro v; clear_value v) | intro v
    | (with_reducible apply Within.step (State.toAlign_within ..); rotate_left; decide +kernel)
    | (with_reducible apply Within.step (State.wrB_within ..); rotate_left; decide +kernel)
    | (with_reducible apply Within.step (State.alignOk_within ..); rotate_left; decide +kernel) | split

def State.linkFault_scope : Scope := ⟨[.nextFrame, .evt, .tacc, .ports, .fwd, .grn, .tb, .out], [R.PRT_STAT,
    R.PRT_EVT_STAT, R.FWD_EVT_STAT, R.FWD_EGR_STAT, R.GRN_POOL_STAT, R.GRN_SILO_STAT, R.GRN_EVT_STAT, R.EVT_STAT,
    R.EVT_FCNT], []⟩
theorem State.linkFault_within (s : State) (p f : Nat) : Within State.linkFault_scope s (State.linkFault s p f) := by
  unfold State.linkFault
  repeat' first
    | (with_reducible assumption) | (with_reducible apply Within.refl) | lift_lets
    | (intro v; refine Within.cut (p := Within State.linkFault_scope s v) ?_ ?_; unfold v; rotate_left; clear_value v; intro hv)
    | (intro v; clear_value v) | intro v
    | (with_reducible apply Within.step (State.wrB_within ..); rotate_left; decide +kernel)
    | (with_reducible apply Within.step (State.updPort_within ..); rotate_left; decide +kernel)
    | (with_reducible apply Within.step (State.cutTx_within ..); rotate_left; decide +kernel)
    | (with_reducible apply Within.step (State.cutRx_within ..); rotate_left; decide +kernel)
    | (with_reducible apply Within.step (State.setLink_within ..); rotate_left; decide +kernel)
    | (with_reducible apply Within.step (State.debounced_within ..); rotate_left; decide +kernel)
    | (with_reducible apply Within.step (State.toWait_within ..); rotate_left; decide +kernel)
    | (with_reducible apply Within.step (State.toAlign_within ..); rotate_left; decide +kernel)
    | (with_reducible apply Within.step (State.alignOk_within ..); rotate_left; decide +kernel) | split

def State.portStart_scope : Scope := ⟨[.pwr, .ports], [R.PRT_STAT, R.PWR_RAIL_STAT, R.PWR_CLK_STAT], []⟩
theorem State.portStart_within (s : State) (p : Nat) : Within State.portStart_scope s (State.portStart s p) := by
  unfold State.portStart
  repeat' first
    | (with_reducible assumption) | (with_reducible apply Within.refl) | lift_lets
    | (intro v; refine Within.cut (p := Within State.portStart_scope s v) ?_ ?_; unfold v; rotate_left; clear_value v; intro hv)
    | (intro v; clear_value v) | intro v
    | (with_reducible apply Within.step (State.updPwr_within ..); rotate_left; decide +kernel)
    | (with_reducible apply Within.step (State.toWait_within ..); rotate_left; decide +kernel)
    | (with_reducible apply Within.step (State.rampRail_within ..); rotate_left; decide +kernel)
    | (with_reducible apply Within.step (State.setLink_within ..); rotate_left; decide +kernel) | split

def State.portHold_scope : Scope := ⟨[.pwr], [R.PRT_STAT, R.PWR_RAIL_STAT, R.PWR_CLK_STAT], []⟩
theorem State.portHold_within (s : State) (p : Nat) : Within State.portHold_scope s (State.portHold s p) := by
  unfold State.portHold
  repeat' first
    | (with_reducible assumption) | (with_reducible apply Within.refl)
    | (with_reducible apply Within.step (State.rampRail_within ..); rotate_left; decide +kernel)
    | (with_reducible apply Within.step (State.setLink_within ..); rotate_left; decide +kernel) | split

def State.portStop_scope : Scope := ⟨[.nextFrame, .committed, .latches, .mem, .pwr, .boot, .gr, .evt, .tally, .tacc,
    .ports, .cars, .sheaves, .fwd, .grn, .alm, .tb, .tt, .ref, .syn, .tdc, .cal, .twin, .out], [R.PWR_RAIL_STAT,
    R.PWR_CLK_STAT, R.PWR_OCXO_STAT, R.PWR_BOOT_STAT, R.EVT_FCNT], [0, 1, 2, 3, 4, 5, 6, 7, 8, 9, 10, 11, 12, 14]⟩
theorem State.portStop_within (s : State) (p : Nat) : Within State.portStop_scope s (State.portStop s p) := by
  unfold State.portStop
  repeat' first
    | (with_reducible assumption) | (with_reducible apply Within.refl) | lift_lets
    | (intro v; refine Within.cut (p := Within State.portStop_scope s v) ?_ ?_; unfold v; rotate_left; clear_value v; intro hv)
    | (intro v; clear_value v) | intro v
    | (with_reducible apply Within.step (State.cutTx_within ..); rotate_left; decide +kernel)
    | (with_reducible apply Within.step (State.cutRx_within ..); rotate_left; decide +kernel)
    | (with_reducible apply Within.step (State.portDown_within ..); rotate_left; decide +kernel)
    | (with_reducible apply Within.step (State.updPort_within ..); rotate_left; decide +kernel)
    | (with_reducible apply Within.step (State.setLink_within ..); rotate_left; decide +kernel)
    | (with_reducible apply Within.step (State.wr_within ..); rotate_left; decide +kernel)
    | (with_reducible apply Within.step (State.dropLanes_within ..); rotate_left; decide +kernel)
    | (with_reducible apply Within.step (State.egressOff_within ..); rotate_left; decide +kernel) | split

def State.portSettings_scope : Scope := ⟨[.ports, .out], [R.PRT_STAT], []⟩
theorem State.portSettings_within (s b : State) (p : Nat) : Within State.portSettings_scope s (State.portSettings s b
    p) := by
  unfold State.portSettings
  repeat' first
    | (with_reducible assumption) | (with_reducible apply Within.refl) | lift_lets
    | (intro v; refine Within.cut (p := Within State.portSettings_scope s v) ?_ ?_; unfold v; rotate_left; clear_value v; intro hv)
    | (intro v; clear_value v) | intro v
    | (with_reducible apply Within.step (State.updPort_within ..); rotate_left; decide +kernel)
    | (with_reducible apply Within.step (State.frameEdge_within ..); rotate_left; decide +kernel) | split

def State.portFollowHold_scope : Scope := ⟨[.committed, .latches, .mem, .pwr, .boot, .gr, .evt, .tally, .tacc, .ports,
    .cars, .sheaves, .fwd, .grn, .alm, .tb, .tt, .ref, .syn, .tdc, .cal, .twin, .out], [R.PWR_RAIL_STAT,
    R.PWR_CLK_STAT, R.PWR_OCXO_STAT, R.PWR_BOOT_STAT, R.EVT_FCNT], [0, 1, 2, 3, 4, 5, 6, 7, 8, 9, 10, 11, 12, 14]⟩
theorem State.portFollowHold_within (s : State) (p : Nat) : Within State.portFollowHold_scope s (State.portFollowHold
    s p) := by
  unfold State.portFollowHold
  repeat' first
    | (with_reducible assumption) | (with_reducible apply Within.refl)
    | (with_reducible apply Within.step (State.portHold_within ..); rotate_left; decide +kernel)
    | (with_reducible apply Within.step (State.setLink_within ..); rotate_left; decide +kernel)
    | (with_reducible apply Within.step (State.dropLanes_within ..); rotate_left; decide +kernel) | split

def State.prtCommit_scope : Scope := ⟨[.nextFrame, .committed, .latches, .mem, .pwr, .boot, .gr, .evt, .tally, .tacc,
    .ports, .cars, .sheaves, .fwd, .grn, .alm, .tb, .tt, .ref, .syn, .tdc, .cal, .twin, .out], [R.PWR_RAIL_STAT,
    R.PWR_CLK_STAT, R.PWR_OCXO_STAT, R.PWR_BOOT_STAT, R.EVT_FCNT], [0, 1, 2, 3, 4, 5, 6, 7, 8, 9, 10, 11, 12, 14]⟩
theorem State.prtCommit_within (s b : State) : Within State.prtCommit_scope s (State.prtCommit s b) := by
  unfold State.prtCommit
  repeat' first
    | (with_reducible assumption) | (with_reducible apply Within.refl) | lift_lets
    | (intro v; refine Within.cut (p := Within State.prtCommit_scope s v) ?_ ?_; unfold v; rotate_left; clear_value v; intro hv)
    | (intro v; clear_value v) | intro v
    | (with_reducible apply Within.step (State.portStop_within ..); rotate_left; decide +kernel)
    | (with_reducible apply Within.step (State.portStart_within ..); rotate_left; decide +kernel)
    | (with_reducible apply Within.step (State.portFollowHold_within ..); rotate_left; decide +kernel)
    | (with_reducible apply Within.step (State.portSettings_within ..); rotate_left; decide +kernel)
    | (with_reducible apply Within.step (State.noteLine_within ..); rotate_left; decide +kernel)
    | (with_reducible apply Within.each; rotate_left; intro x a hx; try beta_reduce; rotate_left)
    | (with_reducible apply Within.foldl; rotate_left; intro x a hx; try beta_reduce; rotate_left) | split

def State.optXfer_scope : Scope := ⟨[.out], [], []⟩
theorem State.optXfer_within (s : State) (m : Nat) : Within State.optXfer_scope s (State.optXfer s m) := by
  unfold State.optXfer
  repeat' first
    | (with_reducible assumption) | (with_reducible apply Within.refl)
    | (with_reducible apply Within.step (State.emit_within ..); rotate_left; decide +kernel) | split

def State.optRecover_scope : Scope := ⟨[.out], [], []⟩
theorem State.optRecover_within (s : State) (m : Nat) : Within State.optRecover_scope s (State.optRecover s m) := by
  unfold State.optRecover
  repeat' first
    | (with_reducible assumption) | (with_reducible apply Within.refl)
    | (with_reducible apply Within.step (State.optXfer_within ..); rotate_left; decide +kernel)
    | (with_reducible apply Within.step (State.emit_within ..); rotate_left; decide +kernel) | split

end Sys2Proof.Machine
end

