-- ==== Sys2Proof/Laws/FramesSheaf.lean ====
section
/-! SUPPORT. Sys2Proof/Laws/FramesSheaf.lean: what each operation of Machine/Sheaf.lean may change. -/
set_option Elab.async false
set_option linter.unusedTactic false
set_option linter.unreachableTactic false
set_option linter.unnecessarySeqFocus false
namespace Sys2Proof.Machine

def State.noteLossWait_scope : Scope := ⟨[], [R.SHF_LOSS_WAIT], []⟩
theorem State.noteLossWait_within (s : State) (h : Nat) : Within State.noteLossWait_scope s (State.noteLossWait s h)
    := by
  unfold State.noteLossWait
  repeat' first
    | (with_reducible assumption) | (with_reducible apply Within.refl) | lift_lets
    | (intro v; refine Within.cut (p := Within State.noteLossWait_scope s v) ?_ ?_; unfold v; rotate_left; clear_value v; intro hv)
    | (intro v; clear_value v) | intro v
    | (with_reducible apply Within.step (State.wr_within ..); rotate_left; decide +kernel)
    | (with_reducible apply Within.each; rotate_left; intro x a hx; try beta_reduce; rotate_left)
    | (with_reducible apply Within.foldl; rotate_left; intro x a hx; try beta_reduce; rotate_left) | split

def State.rxIdle_scope : Scope := ⟨[.sheaves], [R.SHF_SHEAF_STAT], []⟩
theorem State.rxIdle_within (s : State) (h : Nat) : Within State.rxIdle_scope s (State.rxIdle s h) := by
  unfold State.rxIdle
  repeat' first
    | (with_reducible assumption) | (with_reducible apply Within.refl)
    | (with_reducible apply Within.step (State.wr_within ..); rotate_left; decide +kernel)
    | (with_reducible apply Within.step (State.updSheaf_within ..); rotate_left; decide +kernel) | split

def State.noteSheaf_scope : Scope := ⟨[.evt, .tacc, .ports, .sheaves, .fwd, .grn, .alm], [R.SHF_SHEAF_STAT,
    R.SHF_LOSS_WAIT, R.FWD_EVT_STAT, R.FWD_EGR_STAT, R.GRN_POOL_STAT, R.GRN_SILO_STAT, R.GRN_EVT_STAT, R.ALM_EVT_STAT,
    R.ALM_EVT_SRC, R.EVT_STAT], []⟩
theorem State.noteSheaf_within (s : State) (h : Nat) : Within State.noteSheaf_scope s (State.noteSheaf s h) := by
  unfold State.noteSheaf
  repeat' first
    | (with_reducible assumption) | (with_reducible apply Within.refl) | lift_lets
    | (intro v; refine Within.cut (p := Within State.noteSheaf_scope s v) ?_ ?_; unfold v; rotate_left; clear_value v; intro hv)
    | (intro v; clear_value v) | intro v
    | (with_reducible apply Within.step (State.wr_within ..); rotate_left; decide +kernel)
    | (with_reducible apply Within.step (State.noteLossWait_within ..); rotate_left; decide +kernel)
    | (with_reducible apply Within.step (State.updSheaf_within ..); rotate_left; decide +kernel)
    | (with_reducible apply Within.step (State.egressUp_within ..); rotate_left; decide +kernel)
    | (with_reducible apply Within.step (State.rxIdle_within ..); rotate_left; decide +kernel)
    | (with_reducible apply Within.step (State.egressDown_within ..); rotate_left; decide +kernel)
    | (with_reducible apply Within.step (State.noteRate_within ..); rotate_left; decide +kernel)
    | (with_reducible apply Within.each; rotate_left; intro x a hx; try beta_reduce; rotate_left)
    | (with_reducible apply Within.foldl; rotate_left; intro x a hx; try beta_reduce; rotate_left) | split

def State.setCar_scope : Scope := ⟨[.evt, .tacc, .ports, .cars, .sheaves, .fwd, .grn, .alm, .tt, .ref],
    [R.SHF_SHEAF_STAT, R.SHF_LOSS_WAIT, R.SHF_TT_STAT, R.SHF_TT_EVT_STAT, R.SHF_CAR_STAT, R.FWD_EVT_STAT,
    R.FWD_EGR_STAT, R.GRN_POOL_STAT, R.GRN_SILO_STAT, R.GRN_EVT_STAT, R.ALM_EVT_STAT, R.ALM_EVT_SRC, R.REF_SRC_STAT,
    R.EVT_STAT], []⟩
theorem State.setCar_within (s : State) (c v : Nat) : Within State.setCar_scope s (State.setCar s c v) := by
  unfold State.setCar
  repeat' first
    | (with_reducible assumption) | (with_reducible apply Within.refl)
    | (with_reducible apply Within.step (State.wr_within ..); rotate_left; decide +kernel)
    | (with_reducible apply Within.step (State.ttNote_within ..); rotate_left; decide +kernel)
    | (with_reducible apply Within.step (State.noteSheaf_within ..); rotate_left; decide +kernel) | split

def State.startSheafTx_scope : Scope := ⟨[.evt, .tacc, .ports, .sheaves, .fwd, .grn], [R.GRN_POOL_STAT,
    R.GRN_EVT_STAT, R.EVT_STAT], []⟩
theorem State.startSheafTx_within (s : State) (h n : Nat) (e : QEnt) : Within State.startSheafTx_scope s
    (State.startSheafTx s h n e) := by
  unfold State.startSheafTx
  repeat' first
    | (with_reducible assumption) | (with_reducible apply Within.refl) | lift_lets
    | (intro v; refine Within.cut (p := Within State.startSheafTx_scope s v) ?_ ?_; unfold v; rotate_left; clear_value v; intro hv)
    | (intro v; clear_value v) | intro v
    | (with_reducible apply Within.step (State.updQueue_within ..); rotate_left; decide +kernel)
    | (with_reducible apply Within.step (State.count_within ..); rotate_left; decide +kernel)
    | (with_reducible apply Within.step (State.dequeued_within ..); rotate_left; decide +kernel)
    | (with_reducible apply Within.step (State.updSheaf_within ..); rotate_left; decide +kernel) | split

def State.elasticTurn_scope : Scope := ⟨[.evt, .tacc, .ports, .sheaves, .fwd, .grn, .alm], [R.GRN_POOL_STAT,
    R.GRN_EVT_STAT, R.EVT_STAT], []⟩
theorem State.elasticTurn_within (s : State) (h : Nat) (dw : Dwrr) (inWin : Bool) : Within State.elasticTurn_scope s
    (State.elasticTurn s h dw inWin) := by
  unfold State.elasticTurn
  repeat' first
    | (with_reducible assumption) | (with_reducible apply Within.refl) | split | lift_lets
    | (intro v; refine Within.cut (p := Within State.elasticTurn_scope s v) ?_ ?_; unfold v; rotate_left; clear_value v; intro hv)
    | (intro v; clear_value v) | intro v
    | (with_reducible apply Within.step (State.updAlmSheaf_within ..); rotate_left; decide +kernel)
    | (with_reducible apply Within.step (State.updSheaf_within ..); rotate_left; decide +kernel)
    | (with_reducible apply Within.step (State.count_within ..); rotate_left; decide +kernel)
    | (with_reducible apply Within.step (State.startSheafTx_within ..); rotate_left; decide +kernel) | split

def State.makeGrain_scope : Scope := ⟨[.evt, .tacc, .sheaves, .alm], [R.ALM_EVT_STAT, R.ALM_EVT_SRC, R.EVT_STAT], []⟩
theorem State.makeGrain_snd (s : State) (h : Nat) : Within State.makeGrain_scope s (State.makeGrain s h).2 := by
  unfold State.makeGrain
  repeat' first
    | (with_reducible assumption) | (with_reducible apply Within.refl)
    | (with_reducible apply Within.step (State.count_within ..); rotate_left; decide +kernel)
    | (with_reducible apply Within.step (State.updSheaf_within ..); rotate_left; decide +kernel)
    | (with_reducible apply Within.step (State.noteOverrun_within ..); rotate_left; decide +kernel) | split
    | dsimp only

theorem State.makeGrain_within {s s' : State} {g : Nat} {r} (h : State.makeGrain s g = (r, s')) : Within State.makeGrain_scope s s' := by
  have := State.makeGrain_snd s g
  rwa [h] at this


def State.pullLeg_scope : Scope := ⟨[.evt, .tacc, .sheaves, .alm], [R.ALM_EVT_STAT, R.ALM_EVT_SRC, R.EVT_STAT], []⟩
theorem State.pullLeg_snd (s : State) (h g : Nat) : Within State.pullLeg_scope s (State.pullLeg s h g).2 := by
  unfold State.pullLeg
  repeat' first
    | (with_reducible assumption) | (with_reducible apply Within.refl)
    | (with_reducible apply Within.step (State.makeGrain_within (h := ?h)); (case h => assumption); rotate_left; decide +kernel)
    | (with_reducible apply Within.step (State.makeGrain_snd ..); rotate_left; decide +kernel)
    | (with_reducible apply Within.step (State.updSheaf_within ..); rotate_left; decide +kernel) | split | dsimp only

theorem State.pullLeg_within {s s' : State} {a g : Nat} {r} (h : State.pullLeg s a g = (r, s')) : Within State.pullLeg_scope s s' := by
  have := State.pullLeg_snd s a g
  rwa [h] at this


def State.nextGrain_scope : Scope := ⟨[.evt, .tacc, .sheaves, .alm], [R.ALM_EVT_STAT, R.ALM_EVT_SRC, R.EVT_STAT], []⟩
theorem State.nextGrain_snd (s : State) (c : Nat) : Within State.nextGrain_scope s (State.nextGrain s c).2 := by
  unfold State.nextGrain
  extract_lets h g r
  have hr : Within State.nextGrain_scope s r.2 := by
    unfold r
    split
    · exact (State.pullLeg_snd ..).step (.refl _ _) (by decide +kernel)
    · exact (State.makeGrain_snd ..).step (.refl _ _) (by decide +kernel)
  clear_value r
  obtain ⟨o, s'⟩ := r
  cases o with
  | none => exact hr
  | some v => exact (State.count_within ..).step hr (by decide +kernel)

theorem State.nextGrain_within {s s' : State} {c : Nat} {r} (h : State.nextGrain s c = (r, s')) : Within State.nextGrain_scope s s' := by
  have := State.nextGrain_snd s c
  rwa [h] at this


def State.sheafDone_scope : Scope := ⟨[.evt, .tacc, .ports, .sheaves, .fwd, .grn, .alm, .twin, .out],
    [R.GRN_POOL_STAT, R.GRN_EVT_STAT, R.ALM_EVT_STAT, R.ALM_EVT_SRC, R.EVT_STAT], []⟩
theorem State.sheafDone_within (s : State) (h : Nat) (t : Tx) (bad : Bool) : Within State.sheafDone_scope s
    (State.sheafDone s h t bad) := by
  unfold State.sheafDone
  repeat' first
    | (with_reducible assumption) | (with_reducible apply Within.refl) | lift_lets
    | (intro v; refine Within.cut (p := Within State.sheafDone_scope s v) ?_ ?_; unfold v; rotate_left; clear_value v; intro hv)
    | (intro v; clear_value v) | intro v
    | (with_reducible apply Within.step (State.noteOverrun_within ..); rotate_left; decide +kernel)
    | (with_reducible apply Within.step (State.updSheaf_within ..); rotate_left; decide +kernel)
    | (with_reducible apply Within.step (State.updAlmSheaf_within ..); rotate_left; decide +kernel)
    | (with_reducible apply Within.step (State.count_within ..); rotate_left; decide +kernel)
    | (with_reducible apply Within.step (State.emit_within ..); rotate_left; decide +kernel)
    | (with_reducible apply Within.step (State.flowTally_within ..); rotate_left; decide +kernel)
    | (with_reducible apply Within.step (State.noteSent_within ..); rotate_left; decide +kernel)
    | (with_reducible apply Within.step (State.dequeued_within ..); rotate_left; decide +kernel)
    | (with_reducible apply Within.each; rotate_left; intro x a hx; try beta_reduce; rotate_left)
    | (with_reducible apply Within.foldl; rotate_left; intro x a hx; try beta_reduce; rotate_left) | split

def State.dropPart_scope : Scope := ⟨[.evt, .tacc, .sheaves, .grn], [R.GRN_POOL_STAT, R.GRN_EVT_STAT, R.EVT_STAT], []⟩
theorem State.dropPart_within (s : State) (h : Nat) : Within State.dropPart_scope s (State.dropPart s h) := by
  unfold State.dropPart
  repeat' first
    | (with_reducible assumption) | (with_reducible apply Within.refl) | lift_lets
    | (intro v; refine Within.cut (p := Within State.dropPart_scope s v) ?_ ?_; unfold v; rotate_left; clear_value v; intro hv)
    | (intro v; clear_value v) | intro v
    | (with_reducible apply Within.step (State.updSheaf_within ..); rotate_left; decide +kernel)
    | (with_reducible apply Within.step (State.freeBuf_within ..); rotate_left; decide +kernel)
    | (with_reducible apply Within.step (State.count_within ..); rotate_left; decide +kernel)
    | (with_reducible apply Within.each; rotate_left; intro x a hx; try beta_reduce; rotate_left)
    | (with_reducible apply Within.foldl; rotate_left; intro x a hx; try beta_reduce; rotate_left) | split

def State.freeRec_scope : Scope := ⟨[.evt, .tacc, .grn], [R.GRN_POOL_STAT, R.GRN_EVT_STAT, R.EVT_STAT], []⟩
theorem State.freeRec_within (s : State) (h : Nat) (r : Rec) : Within State.freeRec_scope s (State.freeRec s h r) :=
    by
  unfold State.freeRec
  repeat' first
    | (with_reducible assumption) | (with_reducible apply Within.refl)
    | (with_reducible apply Within.step (State.freeBuf_within ..); rotate_left; decide +kernel)
    | (with_reducible apply Within.each; rotate_left; intro x a hx; try beta_reduce; rotate_left)
    | (with_reducible apply Within.foldl; rotate_left; intro x a hx; try beta_reduce; rotate_left) | split

def State.admitRec_scope : Scope := ⟨[.nextFrame, .evt, .tacc, .ports, .sheaves, .fwd, .grn], [R.EVT_STAT], []⟩
theorem State.admitRec_within (s : State) (h c cells : Nat) (r : Rec) : Within State.admitRec_scope s (State.admitRec
    s h c cells r) := by
  unfold State.admitRec
  repeat' first
    | (with_reducible assumption) | (with_reducible apply Within.refl) | lift_lets
    | (intro v; refine Within.cut (p := Within State.admitRec_scope s v) ?_ ?_; unfold v; rotate_left; clear_value v; intro hv)
    | (intro v; clear_value v) | intro v
    | (with_reducible apply Within.step (State.addIn_within ..); rotate_left; decide +kernel)
    | (with_reducible apply Within.step (State.updSheaf_within ..); rotate_left; decide +kernel)
    | (with_reducible apply Within.step (State.accept_within ..); rotate_left; decide +kernel) | split
    | (with_reducible apply Within.step (Within.put_nextFrame ..); rotate_left; decide +kernel)

def State.classifyRec_scope : Scope := ⟨[.nextFrame, .evt, .tacc, .ports, .sheaves, .fwd, .grn], [R.SHF_EVT_STAT,
    R.GRN_POOL_STAT, R.GRN_EVT_STAT, R.EVT_STAT], []⟩
theorem State.classifyRec_within (s : State) (h : Nat) (r : Rec) : Within State.classifyRec_scope s (State.classifyRec
    s h r) := by
  unfold State.classifyRec
  repeat' first
    | (with_reducible assumption) | (with_reducible apply Within.refl) | lift_lets
    | (intro v; refine Within.cut (p := Within State.classifyRec_scope s v) ?_ ?_; unfold v; rotate_left; clear_value v; intro hv)
    | (intro v; clear_value v) | intro v
    | (with_reducible apply Within.step (State.count_within ..); rotate_left; decide +kernel)
    | (with_reducible apply Within.step (State.raise_within ..); rotate_left; decide +kernel)
    | (with_reducible apply Within.step (State.freeRec_within ..); rotate_left; decide +kernel)
    | (with_reducible apply Within.step (State.take_within ..); rotate_left; decide +kernel)
    | (with_reducible apply Within.step (State.admitRec_within ..); rotate_left; decide +kernel) | split

def State.releaseGrain_scope : Scope := ⟨[.nextFrame, .evt, .tacc, .ports, .sheaves, .fwd, .grn], [R.SHF_EVT_STAT,
    R.GRN_POOL_STAT, R.GRN_EVT_STAT, R.EVT_STAT], []⟩
theorem State.releaseGrain_within (s : State) (h q : Nat) (g : Held) : Within State.releaseGrain_scope s
    (State.releaseGrain s h q g) := by
  unfold State.releaseGrain
  repeat' first
    | (with_reducible assumption) | (with_reducible apply Within.refl) | lift_lets
    | (intro v; refine Within.cut (p := Within State.releaseGrain_scope s v) ?_ ?_; unfold v; rotate_left; clear_value v; intro hv)
    | (intro v; clear_value v) | intro v
    | (with_reducible apply Within.step (State.updSheaf_within ..); rotate_left; decide +kernel)
    | (with_reducible apply Within.step (State.count_within ..); rotate_left; decide +kernel)
    | (with_reducible apply Within.step (State.freeBuf_within ..); rotate_left; decide +kernel)
    | (with_reducible apply Within.step (State.setTag_within ..); rotate_left; decide +kernel)
    | (with_reducible apply Within.step (State.classifyRec_within ..); rotate_left; decide +kernel)
    | (with_reducible apply Within.step (State.raise_within ..); rotate_left; decide +kernel)
    | (with_reducible apply Within.each; rotate_left; intro x a hx; try beta_reduce; rotate_left)
    | (with_reducible apply Within.foldl; rotate_left; intro x a hx; try beta_reduce; rotate_left) | split

def State.releaseRun_scope : Scope := ⟨[.nextFrame, .evt, .tacc, .ports, .sheaves, .fwd, .grn], [R.SHF_EVT_STAT,
    R.GRN_POOL_STAT, R.GRN_EVT_STAT, R.EVT_STAT], []⟩
theorem State.releaseRun_within (s : State) (h k : Nat) : Within State.releaseRun_scope s (State.releaseRun s h k) := by
  induction k generalizing s h with
  | zero => unfold State.releaseRun; exact .refl _ _
  | succ k ih =>
    unfold State.releaseRun
    repeat' first
      | (with_reducible assumption) | (with_reducible apply Within.refl) | lift_lets
      | (intro v; refine Within.cut (p := Within State.releaseRun_scope s v) ?_ ?_; unfold v; rotate_left; clear_value v; intro hv)
      | (intro v; clear_value v)
      | (with_reducible apply Within.step (State.updSheaf_within ..); rotate_left; decide +kernel)
      | (with_reducible apply Within.step (State.releaseGrain_within ..); rotate_left; decide +kernel)
      | (with_reducible apply Within.step (ih ..); rotate_left; decide +kernel)
      | (with_reducible apply Within.each; rotate_left; intro x a hx; try beta_reduce; rotate_left)
      | (with_reducible apply Within.foldl; rotate_left; intro x a hx; try beta_reduce; rotate_left) | split


def State.loseGap_scope : Scope := ⟨[.nextFrame, .evt, .tacc, .ports, .sheaves, .fwd, .grn], [R.SHF_EVT_STAT,
    R.GRN_POOL_STAT, R.GRN_EVT_STAT, R.EVT_STAT], []⟩
theorem State.loseGap_within (s : State) (h : Nat) : Within State.loseGap_scope s (State.loseGap s h) := by
  unfold State.loseGap
  repeat' first
    | (with_reducible assumption) | (with_reducible apply Within.refl) | lift_lets
    | (intro v; refine Within.cut (p := Within State.loseGap_scope s v) ?_ ?_; unfold v; rotate_left; clear_value v; intro hv)
    | (intro v; clear_value v) | intro v
    | (with_reducible apply Within.step (State.dropPart_within ..); rotate_left; decide +kernel)
    | (with_reducible apply Within.step (State.count_within ..); rotate_left; decide +kernel)
    | (with_reducible apply Within.step (State.updSheaf_within ..); rotate_left; decide +kernel)
    | (with_reducible apply Within.step (State.raise_within ..); rotate_left; decide +kernel)
    | (with_reducible apply Within.step (State.releaseRun_within ..); rotate_left; decide +kernel) | split

def State.loseGaps_scope : Scope := ⟨[.nextFrame, .evt, .tacc, .ports, .sheaves, .fwd, .grn], [R.SHF_EVT_STAT,
    R.GRN_POOL_STAT, R.GRN_EVT_STAT, R.EVT_STAT], []⟩
theorem State.loseGaps_within (s : State) (h : Nat) (ok : State → Bool) (k : Nat) : Within State.loseGaps_scope s (State.loseGaps s h ok k) := by
  induction k generalizing s h ok with
  | zero => unfold State.loseGaps; exact .refl _ _
  | succ k ih =>
    unfold State.loseGaps
    repeat' first
      | (with_reducible assumption) | (with_reducible apply Within.refl) | lift_lets
      | (intro v; refine Within.cut (p := Within State.loseGaps_scope s v) ?_ ?_; unfold v; rotate_left; clear_value v; intro hv)
      | (intro v; clear_value v)
      | (with_reducible apply Within.step (State.loseGap_within ..); rotate_left; decide +kernel)
      | (with_reducible apply Within.step (ih ..); rotate_left; decide +kernel)
      | (with_reducible apply Within.each; rotate_left; intro x a hx; try beta_reduce; rotate_left)
      | (with_reducible apply Within.foldl; rotate_left; intro x a hx; try beta_reduce; rotate_left) | split


def State.resumeRx_scope : Scope := ⟨[.nextFrame, .evt, .tacc, .ports, .sheaves, .fwd, .grn], [R.SHF_SHEAF_STAT,
    R.SHF_EVT_STAT, R.GRN_POOL_STAT, R.GRN_EVT_STAT, R.EVT_STAT], []⟩
theorem State.resumeRx_within (s : State) (h low : Nat) : Within State.resumeRx_scope s (State.resumeRx s h low) := by
  unfold State.resumeRx
  repeat' first
    | (with_reducible assumption) | (with_reducible apply Within.refl) | lift_lets
    | (intro v; refine Within.cut (p := Within State.resumeRx_scope s v) ?_ ?_; unfold v; rotate_left; clear_value v; intro hv)
    | (intro v; clear_value v) | intro v
    | (with_reducible apply Within.step (State.dropPart_within ..); rotate_left; decide +kernel)
    | (with_reducible apply Within.step (State.wr_within ..); rotate_left; decide +kernel)
    | (with_reducible apply Within.step (State.raise_within ..); rotate_left; decide +kernel)
    | (with_reducible apply Within.step (State.freeBuf_within ..); rotate_left; decide +kernel)
    | (with_reducible apply Within.step (State.count_within ..); rotate_left; decide +kernel)
    | (with_reducible apply Within.step (State.updSheaf_within ..); rotate_left; decide +kernel)
    | (with_reducible apply Within.step (State.releaseRun_within ..); rotate_left; decide +kernel)
    | (with_reducible apply Within.step (State.rxIdle_within ..); rotate_left; decide +kernel)
    | (with_reducible apply Within.each; rotate_left; intro x a hx; try beta_reduce; rotate_left)
    | (with_reducible apply Within.foldl; rotate_left; intro x a hx; try beta_reduce; rotate_left) | split

def State.holdGrain_scope : Scope := ⟨[.evt, .tacc, .sheaves, .grn], [R.GRN_POOL_STAT, R.GRN_EVT_STAT, R.EVT_STAT],
    []⟩
theorem State.holdGrain_within (s : State) (h q fsp : Nat) (bs : List Byte) (rate : Nat) : Within
    State.holdGrain_scope s (State.holdGrain s h q fsp bs rate) := by
  unfold State.holdGrain
  repeat' first
    | (with_reducible assumption) | (with_reducible apply Within.refl) | lift_lets
    | (intro v; refine Within.cut (p := Within State.holdGrain_scope s v) ?_ ?_; unfold v; rotate_left; clear_value v; intro hv)
    | (intro v; clear_value v) | intro v
    | (with_reducible apply Within.step (State.request_within (h := ?h)); (case h => assumption); rotate_left; decide +kernel)
    | (with_reducible apply Within.step (State.count_within ..); rotate_left; decide +kernel)
    | (with_reducible apply Within.step (State.updSheaf_within ..); rotate_left; decide +kernel) | split

def State.takeGrain_scope : Scope := ⟨[.nextFrame, .evt, .tacc, .ports, .sheaves, .fwd, .grn], [R.SHF_SHEAF_STAT,
    R.SHF_EVT_STAT, R.GRN_POOL_STAT, R.GRN_EVT_STAT, R.EVT_STAT], []⟩
theorem State.takeGrain_within (s : State) (h q fsp : Nat) (bs : List Byte) (rate : Nat) : Within
    State.takeGrain_scope s (State.takeGrain s h q fsp bs rate) := by
  unfold State.takeGrain
  repeat' first
    | (with_reducible assumption) | (with_reducible apply Within.refl) | lift_lets
    | (intro v; refine Within.cut (p := Within State.takeGrain_scope s v) ?_ ?_; unfold v; rotate_left; clear_value v; intro hv)
    | (intro v; clear_value v) | intro v
    | (with_reducible apply Within.step (State.count_within ..); rotate_left; decide +kernel)
    | (with_reducible apply Within.step (State.wr_within ..); rotate_left; decide +kernel)
    | (with_reducible apply Within.step (State.updSheaf_within ..); rotate_left; decide +kernel)
    | (with_reducible apply Within.step (State.holdGrain_within ..); rotate_left; decide +kernel)
    | (with_reducible apply Within.step (State.releaseRun_within ..); rotate_left; decide +kernel)
    | (with_reducible apply Within.step (State.rxIdle_within ..); rotate_left; decide +kernel) | split

def State.countLine_scope : Scope := ⟨[.evt, .tacc], [R.EVT_STAT], []⟩
theorem State.countLine_within (s : State) (c strays : Nat) (fec : FecCounts) : Within State.countLine_scope s
    (State.countLine s c strays fec) := by
  unfold State.countLine
  repeat' first
    | (with_reducible assumption) | (with_reducible apply Within.refl)
    | (with_reducible apply Within.step (State.count_within ..); rotate_left; decide +kernel) | split

end Sys2Proof.Machine
end

