-- ==== Sys2Proof/Laws/FramesCarriers.lean ====
section
/-! SUPPORT. Sys2Proof/Laws/FramesCarriers.lean: what each operation of Machine/Carriers.lean may change. -/
set_option Elab.async false
set_option linter.unusedTactic false
set_option linter.unreachableTactic false
set_option linter.unnecessarySeqFocus false
namespace Sys2Proof.Machine

def State.noteLocked_scope : Scope := ⟨[], [R.SHF_CAR_STAT], []⟩
theorem State.noteLocked_within (s : State) (c : Nat) : Within State.noteLocked_scope s (State.noteLocked s c) := by
  unfold State.noteLocked
  repeat' first
    | (with_reducible assumption) | (with_reducible apply Within.refl)
    | (with_reducible apply Within.step (State.wrB_within ..); rotate_left; decide +kernel) | split

def State.endOp_scope : Scope := ⟨[.mem, .gr, .evt, .out], [R.MBX_STATE, R.MBX_RETRY_STAT, R.EVT_STAT, R.EVT_FCNT],
    []⟩
theorem State.endOp_within (s : State) (c outcome reason : Nat) : Within State.endOp_scope s (State.endOp s c outcome
    reason) := by
  unfold State.endOp
  repeat' first
    | (with_reducible assumption) | (with_reducible apply Within.refl)
    | (with_reducible apply Within.step (State.complete_within ..); rotate_left; decide +kernel) | split

def State.endOpOf_scope : Scope := ⟨[.mem, .gr, .evt, .out], [R.MBX_STATE, R.MBX_RETRY_STAT, R.EVT_STAT, R.EVT_FCNT],
    []⟩
theorem State.endOpOf_within (s : State) (c : Nat) (mine : Bool → Nat → Bool) (outcome reason : Nat) : Within
    State.endOpOf_scope s (State.endOpOf s c mine outcome reason) := by
  unfold State.endOpOf
  repeat' first
    | (with_reducible assumption) | (with_reducible apply Within.refl)
    | (with_reducible apply Within.step (State.endOp_within ..); rotate_left; decide +kernel) | split

def State.askPeer_scope : Scope := ⟨[.cars], [], []⟩
theorem State.askPeer_within (s : State) (c op : Nat) : Within State.askPeer_scope s (State.askPeer s c op) := by
  unfold State.askPeer
  repeat' first
    | (with_reducible assumption) | (with_reducible apply Within.refl)
    | (with_reducible apply Within.step (State.updCar_within ..); rotate_left; decide +kernel) | split

def State.carActive_scope : Scope := ⟨[.evt, .tacc, .ports, .cars, .sheaves, .fwd, .grn, .alm, .tt, .ref],
    [R.SHF_SHEAF_STAT, R.SHF_LOSS_WAIT, R.SHF_TT_STAT, R.SHF_TT_EVT_STAT, R.SHF_CAR_STAT, R.SHF_CAR_EVT_STAT,
    R.FWD_EVT_STAT, R.FWD_EGR_STAT, R.GRN_POOL_STAT, R.GRN_SILO_STAT, R.GRN_EVT_STAT, R.ALM_EVT_STAT, R.ALM_EVT_SRC,
    R.REF_SRC_STAT, R.EVT_STAT], []⟩
theorem State.carActive_within (s : State) (c : Nat) : Within State.carActive_scope s (State.carActive s c) := by
  unfold State.carActive
  repeat' first
    | (with_reducible assumption) | (with_reducible apply Within.refl)
    | (with_reducible apply Within.step (State.setCar_within ..); rotate_left; decide +kernel)
    | (with_reducible apply Within.step (State.raise_within ..); rotate_left; decide +kernel) | split

def State.carParked_scope : Scope := ⟨[.evt, .tacc, .ports, .cars, .sheaves, .fwd, .grn, .alm, .tt, .ref],
    [R.SHF_SHEAF_STAT, R.SHF_LOSS_WAIT, R.SHF_TT_STAT, R.SHF_TT_EVT_STAT, R.SHF_CAR_STAT, R.SHF_CAR_EVT_STAT,
    R.FWD_EVT_STAT, R.FWD_EGR_STAT, R.GRN_POOL_STAT, R.GRN_SILO_STAT, R.GRN_EVT_STAT, R.ALM_EVT_STAT, R.ALM_EVT_SRC,
    R.REF_SRC_STAT, R.EVT_STAT], []⟩
theorem State.carParked_within (s : State) (c : Nat) : Within State.carParked_scope s (State.carParked s c) := by
  unfold State.carParked
  repeat' first
    | (with_reducible assumption) | (with_reducible apply Within.refl)
    | (with_reducible apply Within.step (State.setCar_within ..); rotate_left; decide +kernel)
    | (with_reducible apply Within.step (State.raise_within ..); rotate_left; decide +kernel)
    | (with_reducible apply Within.step (State.updCar_within ..); rotate_left; decide +kernel) | split

def State.startPark_scope : Scope := ⟨[.evt, .tacc, .ports, .cars, .sheaves, .fwd, .grn, .alm, .tt, .ref],
    [R.SHF_SHEAF_STAT, R.SHF_LOSS_WAIT, R.SHF_TT_STAT, R.SHF_TT_EVT_STAT, R.SHF_CAR_STAT, R.FWD_EVT_STAT,
    R.FWD_EGR_STAT, R.GRN_POOL_STAT, R.GRN_SILO_STAT, R.GRN_EVT_STAT, R.ALM_EVT_STAT, R.ALM_EVT_SRC, R.REF_SRC_STAT,
    R.EVT_STAT], []⟩
theorem State.startPark_within (s : State) (c : Nat) : Within State.startPark_scope s (State.startPark s c) := by
  unfold State.startPark
  repeat' first
    | (with_reducible assumption) | (with_reducible apply Within.refl)
    | (with_reducible apply Within.step (State.setCar_within ..); rotate_left; decide +kernel)
    | (with_reducible apply Within.step (State.askPeer_within ..); rotate_left; decide +kernel) | split

def State.toCarWait_scope : Scope := ⟨[.evt, .tacc, .ports, .cars, .sheaves, .fwd, .grn, .alm, .tt, .ref],
    [R.SHF_SHEAF_STAT, R.SHF_LOSS_WAIT, R.SHF_TT_STAT, R.SHF_TT_EVT_STAT, R.SHF_CAR_STAT, R.FWD_EVT_STAT,
    R.FWD_EGR_STAT, R.GRN_POOL_STAT, R.GRN_SILO_STAT, R.GRN_EVT_STAT, R.ALM_EVT_STAT, R.ALM_EVT_SRC, R.REF_SRC_STAT,
    R.EVT_STAT], []⟩
theorem State.toCarWait_within (s : State) (c : Nat) : Within State.toCarWait_scope s (State.toCarWait s c) := by
  unfold State.toCarWait
  repeat' first
    | (with_reducible assumption) | (with_reducible apply Within.refl)
    | (with_reducible apply Within.step (State.setCar_within ..); rotate_left; decide +kernel)
    | (with_reducible apply Within.step (State.wr_within ..); rotate_left; decide +kernel)
    | (with_reducible apply Within.step (State.updCar_within ..); rotate_left; decide +kernel) | split

def State.toCarAdapt_scope : Scope := ⟨[.evt, .tacc, .ports, .cars, .sheaves, .fwd, .grn, .alm, .tt, .ref],
    [R.SHF_SHEAF_STAT, R.SHF_LOSS_WAIT, R.SHF_TT_STAT, R.SHF_TT_EVT_STAT, R.SHF_CAR_STAT, R.FWD_EVT_STAT,
    R.FWD_EGR_STAT, R.GRN_POOL_STAT, R.GRN_SILO_STAT, R.GRN_EVT_STAT, R.ALM_EVT_STAT, R.ALM_EVT_SRC, R.REF_SRC_STAT,
    R.EVT_STAT], []⟩
theorem State.toCarAdapt_within (s : State) (c : Nat) : Within State.toCarAdapt_scope s (State.toCarAdapt s c) := by
  unfold State.toCarAdapt
  repeat' first
    | (with_reducible assumption) | (with_reducible apply Within.refl)
    | (with_reducible apply Within.step (State.setCar_within ..); rotate_left; decide +kernel)
    | (with_reducible apply Within.step (State.updCar_within ..); rotate_left; decide +kernel) | split

def State.toHandshake_scope : Scope := ⟨[.evt, .tacc, .ports, .cars, .sheaves, .fwd, .grn, .alm, .tt, .ref],
    [R.SHF_SHEAF_STAT, R.SHF_LOSS_WAIT, R.SHF_TT_STAT, R.SHF_TT_EVT_STAT, R.SHF_CAR_STAT, R.SHF_CAR_EVT_STAT,
    R.FWD_EVT_STAT, R.FWD_EGR_STAT, R.GRN_POOL_STAT, R.GRN_SILO_STAT, R.GRN_EVT_STAT, R.ALM_EVT_STAT, R.ALM_EVT_SRC,
    R.REF_SRC_STAT, R.EVT_STAT, R.EVT_FCNT], []⟩
theorem State.toHandshake_within (s : State) (c : Nat) : Within State.toHandshake_scope s (State.toHandshake s c) :=
    by
  unfold State.toHandshake
  repeat' first
    | (with_reducible assumption) | (with_reducible apply Within.refl) | lift_lets
    | (intro v; refine Within.cut (p := Within State.toHandshake_scope s v) ?_ ?_; unfold v; rotate_left; clear_value v; intro hv)
    | (intro v; clear_value v) | intro v
    | (with_reducible apply Within.step (State.raise_within ..); rotate_left; decide +kernel)
    | (with_reducible apply Within.step (State.transientFault_within ..); rotate_left; decide +kernel)
    | (with_reducible apply Within.step (State.setCar_within ..); rotate_left; decide +kernel)
    | (with_reducible apply Within.step (State.wr_within ..); rotate_left; decide +kernel)
    | (with_reducible apply Within.step (State.updCar_within ..); rotate_left; decide +kernel) | split

def State.fallBack_scope : Scope := ⟨[.evt, .tacc, .ports, .cars, .sheaves, .fwd, .grn, .alm, .tt, .ref],
    [R.SHF_SHEAF_STAT, R.SHF_LOSS_WAIT, R.SHF_TT_STAT, R.SHF_TT_EVT_STAT, R.SHF_CAR_STAT, R.SHF_CAR_EVT_STAT,
    R.FWD_EVT_STAT, R.FWD_EGR_STAT, R.GRN_POOL_STAT, R.GRN_SILO_STAT, R.GRN_EVT_STAT, R.ALM_EVT_STAT, R.ALM_EVT_SRC,
    R.REF_SRC_STAT, R.EVT_STAT, R.EVT_FCNT], []⟩
theorem State.fallBack_within (s : State) (c : Nat) : Within State.fallBack_scope s (State.fallBack s c) := by
  unfold State.fallBack
  repeat' first
    | (with_reducible assumption) | (with_reducible apply Within.refl)
    | (with_reducible apply Within.step (State.toCarWait_within ..); rotate_left; decide +kernel)
    | (with_reducible apply Within.step (State.toHandshake_within ..); rotate_left; decide +kernel)
    | (with_reducible apply Within.step (State.toCarAdapt_within ..); rotate_left; decide +kernel) | split

def State.carDown_scope : Scope := ⟨[.mem, .gr, .evt, .tacc, .cars, .out], [R.MBX_STATE, R.MBX_RETRY_STAT,
    R.SHF_CAR_STAT, R.SHF_CAR_EVT_STAT, R.EVT_STAT, R.EVT_FCNT], []⟩
theorem State.carDown_within (s : State) (c cause : Nat) : Within State.carDown_scope s (State.carDown s c cause) :=
    by
  unfold State.carDown
  repeat' first
    | (with_reducible assumption) | (with_reducible apply Within.refl) | lift_lets
    | (intro v; refine Within.cut (p := Within State.carDown_scope s v) ?_ ?_; unfold v; rotate_left; clear_value v; intro hv)
    | (intro v; clear_value v) | intro v
    | (with_reducible apply Within.step (State.wr_within ..); rotate_left; decide +kernel)
    | (with_reducible apply Within.step (State.count_within ..); rotate_left; decide +kernel)
    | (with_reducible apply Within.step (State.raise_within ..); rotate_left; decide +kernel)
    | (with_reducible apply Within.step (State.updCar_within ..); rotate_left; decide +kernel)
    | (with_reducible apply Within.step (State.endOp_within ..); rotate_left; decide +kernel) | split

def State.carLost_scope : Scope := ⟨[.mem, .gr, .evt, .tacc, .ports, .cars, .sheaves, .fwd, .grn, .alm, .tt, .ref,
    .out], [R.MBX_STATE, R.MBX_RETRY_STAT, R.SHF_SHEAF_STAT, R.SHF_LOSS_WAIT, R.SHF_TT_STAT, R.SHF_TT_EVT_STAT,
    R.SHF_CAR_STAT, R.SHF_CAR_EVT_STAT, R.FWD_EVT_STAT, R.FWD_EGR_STAT, R.GRN_POOL_STAT, R.GRN_SILO_STAT,
    R.GRN_EVT_STAT, R.ALM_EVT_STAT, R.ALM_EVT_SRC, R.REF_SRC_STAT, R.EVT_STAT, R.EVT_FCNT], []⟩
theorem State.carLost_within (s : State) (c : Nat) : Within State.carLost_scope s (State.carLost s c) := by
  unfold State.carLost
  repeat' first
    | (with_reducible assumption) | (with_reducible apply Within.refl) | lift_lets
    | (intro v; refine Within.cut (p := Within State.carLost_scope s v) ?_ ?_; unfold v; rotate_left; clear_value v; intro hv)
    | (intro v; clear_value v) | intro v
    | (with_reducible apply Within.step (State.carDown_within ..); rotate_left; decide +kernel)
    | (with_reducible apply Within.step (State.fallBack_within ..); rotate_left; decide +kernel) | split

def State.mirrorLost_scope : Scope := ⟨[.twin], [], []⟩
theorem State.mirrorLost_within (s : State) (i : Nat) (signal : Bool) : Within State.mirrorLost_scope s
    (State.mirrorLost s i signal) := by
  unfold State.mirrorLost
  repeat' first
    | (with_reducible assumption) | (with_reducible apply Within.refl) | lift_lets
    | (intro v; refine Within.cut (p := Within State.mirrorLost_scope s v) ?_ ?_; unfold v; rotate_left; clear_value v; intro hv)
    | (intro v; clear_value v) | intro v
    | (with_reducible apply Within.step (State.updMlane_within ..); rotate_left; decide +kernel) | split

def State.onLane_scope : Scope := ⟨[.cars, .out], [], []⟩
theorem State.onLane_within (s : State) (c lane : Nat) (what : Out) (bs : List Block) : Within State.onLane_scope s
    (State.onLane s c lane what bs) := by
  unfold State.onLane
  repeat' first
    | (with_reducible assumption) | (with_reducible apply Within.refl) | lift_lets
    | (intro v; refine Within.cut (p := Within State.onLane_scope s v) ?_ ?_; unfold v; rotate_left; clear_value v; intro hv)
    | (intro v; clear_value v) | intro v
    | (with_reducible apply Within.step (State.emit_within ..); rotate_left; decide +kernel)
    | (with_reducible apply Within.step (State.updCar_within ..); rotate_left; decide +kernel)
    | (with_reducible apply Within.each; rotate_left; intro x a hx; try beta_reduce; rotate_left)
    | (with_reducible apply Within.foldl; rotate_left; intro x a hx; try beta_reduce; rotate_left) | split

def State.sendGrain_scope : Scope := ⟨[.cars, .out], [], []⟩
theorem State.sendGrain_within (s : State) (c lane : Nat) (g : List Byte) : Within State.sendGrain_scope s
    (State.sendGrain s c lane g) := by
  unfold State.sendGrain
  repeat' first
    | (with_reducible assumption) | (with_reducible apply Within.refl)
    | (with_reducible apply Within.step (State.onLane_within ..); rotate_left; decide +kernel) | split

def State.sendNulls_scope : Scope := ⟨[.cars, .out], [], []⟩
theorem State.sendNulls_within (s : State) (c lane n : Nat) : Within State.sendNulls_scope s (State.sendNulls s c lane
    n) := by
  unfold State.sendNulls
  repeat' first
    | (with_reducible assumption) | (with_reducible apply Within.refl)
    | (with_reducible apply Within.step (State.onLane_within ..); rotate_left; decide +kernel) | split

def State.joined_scope : Scope := ⟨[.evt, .tacc, .ports, .cars, .sheaves, .fwd, .grn, .alm, .tt, .ref],
    [R.SHF_SHEAF_STAT, R.SHF_LOSS_WAIT, R.SHF_TT_STAT, R.SHF_TT_EVT_STAT, R.SHF_CAR_STAT, R.SHF_CAR_EVT_STAT,
    R.FWD_EVT_STAT, R.FWD_EGR_STAT, R.GRN_POOL_STAT, R.GRN_SILO_STAT, R.GRN_EVT_STAT, R.ALM_EVT_STAT, R.ALM_EVT_SRC,
    R.REF_SRC_STAT, R.EVT_STAT], []⟩
theorem State.joined_within (s : State) (c : Nat) : Within State.joined_scope s (State.joined s c) := by
  unfold State.joined
  repeat' first
    | (with_reducible assumption) | (with_reducible apply Within.refl)
    | (with_reducible apply Within.step (State.carActive_within ..); rotate_left; decide +kernel) | split

def State.sendTiming_scope : Scope := ⟨[.nextFree, .evt, .tacc, .ports, .cars, .sheaves, .fwd, .grn, .alm, .tt, .ref,
    .twin, .out], [R.SHF_SHEAF_STAT, R.SHF_LOSS_WAIT, R.SHF_TT_STAT, R.SHF_TT_EVT_STAT, R.SHF_CAR_STAT,
    R.SHF_CAR_EVT_STAT, R.FWD_EVT_STAT, R.FWD_EGR_STAT, R.GRN_POOL_STAT, R.GRN_SILO_STAT, R.GRN_EVT_STAT,
    R.ALM_EVT_STAT, R.ALM_EVT_SRC, R.REF_SRC_STAT, R.EVT_STAT], []⟩
theorem State.sendTiming_within (s : State) (c : Nat) (lane : Nat) (dep : Inst) : Within State.sendTiming_scope s
    (State.sendTiming s c lane dep) := by
  unfold State.sendTiming
  repeat' first
    | (with_reducible assumption) | (with_reducible apply Within.refl) | lift_lets
    | (intro v; refine Within.cut (p := Within State.sendTiming_scope s v) ?_ ?_; unfold v; rotate_left; clear_value v; intro hv)
    | (intro v; clear_value v) | intro v
    | (with_reducible apply Within.step (State.joined_within ..); rotate_left; decide +kernel)
    | (with_reducible apply Within.step (State.count_within ..); rotate_left; decide +kernel)
    | (with_reducible apply Within.step (State.updCar_within ..); rotate_left; decide +kernel)
    | (with_reducible apply Within.step (State.take_within ..); rotate_left; decide +kernel)
    | (with_reducible apply Within.step (State.sendMsg_within ..); rotate_left; decide +kernel)
    | (with_reducible apply Within.step (State.sendGrain_within ..); rotate_left; decide +kernel) | split
    | (with_reducible apply Within.step (Within.put_nextFree ..); rotate_left; decide +kernel)

def State.noteSlot_scope : Scope := ⟨[.cars, .out], [], []⟩
theorem State.noteSlot_within (s : State) (c lane : Nat) : Within State.noteSlot_scope s (State.noteSlot s c lane) :=
    by
  unfold State.noteSlot
  repeat' first
    | (with_reducible assumption) | (with_reducible apply Within.refl) | lift_lets
    | (intro v; refine Within.cut (p := Within State.noteSlot_scope s v) ?_ ?_; unfold v; rotate_left; clear_value v; intro hv)
    | (intro v; clear_value v) | intro v
    | (with_reducible apply Within.step (State.updCar_within ..); rotate_left; decide +kernel)
    | (with_reducible apply Within.step (State.sendNulls_within ..); rotate_left; decide +kernel) | split

def State.answer_scope : Scope := ⟨[.cars], [], []⟩
theorem State.answer_within (s : State) (c op reason txn : Nat) : Within State.answer_scope s (State.answer s c op
    reason txn) := by
  unfold State.answer
  repeat' first
    | (with_reducible assumption) | (with_reducible apply Within.refl)
    | (with_reducible apply Within.step (State.updCar_within ..); rotate_left; decide +kernel)
    | (with_reducible apply Within.step (State.take_within ..); rotate_left; decide +kernel) | split

def State.answerAgain_scope : Scope := ⟨[.cars], [], []⟩
theorem State.answerAgain_within (s : State) (c txn : Nat) (park : Bool) : Within State.answerAgain_scope s
    (State.answerAgain s c txn park) := by
  unfold State.answerAgain
  repeat' first
    | (with_reducible assumption) | (with_reducible apply Within.refl)
    | (with_reducible apply Within.step (State.updCar_within ..); rotate_left; decide +kernel) | split

def State.mgmt_scope : Scope := ⟨[.mem, .gr, .evt, .tacc, .ports, .cars, .sheaves, .fwd, .grn, .alm, .tt, .ref, .out],
    [R.MBX_STATE, R.MBX_RETRY_STAT, R.SHF_SHEAF_STAT, R.SHF_LOSS_WAIT, R.SHF_TT_STAT, R.SHF_TT_EVT_STAT,
    R.SHF_CAR_STAT, R.SHF_CAR_EVT_STAT, R.FWD_EVT_STAT, R.FWD_EGR_STAT, R.GRN_POOL_STAT, R.GRN_SILO_STAT,
    R.GRN_EVT_STAT, R.ALM_EVT_STAT, R.ALM_EVT_SRC, R.REF_SRC_STAT, R.EVT_STAT, R.EVT_FCNT], []⟩
theorem State.mgmt_within (s : State) (c : Nat) (w : List Byte) : Within State.mgmt_scope s (State.mgmt s c w) := by
  unfold State.mgmt
  repeat' first
    | (with_reducible assumption) | (with_reducible apply Within.refl) | lift_lets
    | (intro v; refine Within.cut (p := Within State.mgmt_scope s v) ?_ ?_; unfold v; rotate_left; clear_value v; intro hv)
    | (intro v; clear_value v) | intro v
    | (with_reducible apply Within.step (State.count_within ..); rotate_left; decide +kernel)
    | (with_reducible apply Within.step (State.answerAgain_within ..); rotate_left; decide +kernel)
    | (with_reducible apply Within.step (State.answer_within ..); rotate_left; decide +kernel)
    | (with_reducible apply Within.step (State.carParked_within ..); rotate_left; decide +kernel)
    | (with_reducible apply Within.step (State.updCar_within ..); rotate_left; decide +kernel)
    | (with_reducible apply Within.step (State.carActive_within ..); rotate_left; decide +kernel)
    | (with_reducible apply Within.step (State.endOpOf_within ..); rotate_left; decide +kernel)
    | (with_reducible apply Within.step (State.raise_within ..); rotate_left; decide +kernel) | split

def State.takeEcho_scope : Scope := ⟨[.nextFree, .evt, .tacc, .ports, .cars, .sheaves, .fwd, .grn, .alm, .tt, .ref],
    [R.SHF_SHEAF_STAT, R.SHF_LOSS_WAIT, R.SHF_TT_STAT, R.SHF_TT_EVT_STAT, R.SHF_CAR_STAT, R.SHF_CAR_RTT,
    R.FWD_EVT_STAT, R.FWD_EGR_STAT, R.GRN_POOL_STAT, R.GRN_SILO_STAT, R.GRN_EVT_STAT, R.ALM_EVT_STAT, R.ALM_EVT_SRC,
    R.REF_SRC_STAT, R.EVT_STAT], []⟩
theorem State.takeEcho_within (s : State) (c : Nat) (bytes : List Byte) (tx rx : Int) (at_ : Inst) : Within
    State.takeEcho_scope s (State.takeEcho s c bytes tx rx at_) := by
  unfold State.takeEcho
  repeat' first
    | (with_reducible assumption) | (with_reducible apply Within.refl) | lift_lets
    | (intro v; refine Within.cut (p := Within State.takeEcho_scope s v) ?_ ?_; unfold v; rotate_left; clear_value v; intro hv)
    | (intro v; clear_value v) | intro v
    | (with_reducible apply Within.step (State.wr_within ..); rotate_left; decide +kernel)
    | (with_reducible apply Within.step (State.count_within ..); rotate_left; decide +kernel)
    | (with_reducible apply Within.step (State.setCar_within ..); rotate_left; decide +kernel)
    | (with_reducible apply Within.step (State.askPeer_within ..); rotate_left; decide +kernel)
    | (with_reducible apply Within.step (State.echoPair_within ..); rotate_left; decide +kernel) | split

def State.carStart_scope : Scope := ⟨[.pwr, .evt, .tacc, .ports, .cars, .sheaves, .fwd, .grn, .alm, .tt, .ref],
    [R.SHF_SHEAF_STAT, R.SHF_LOSS_WAIT, R.SHF_TT_STAT, R.SHF_TT_EVT_STAT, R.SHF_CAR_STAT, R.FWD_EVT_STAT,
    R.FWD_EGR_STAT, R.GRN_POOL_STAT, R.GRN_SILO_STAT, R.GRN_EVT_STAT, R.ALM_EVT_STAT, R.ALM_EVT_SRC, R.REF_SRC_STAT,
    R.EVT_STAT, R.PWR_RAIL_STAT, R.PWR_CLK_STAT], []⟩
theorem State.carStart_within (s : State) (c : Nat) : Within State.carStart_scope s (State.carStart s c) := by
  unfold State.carStart
  repeat' first
    | (with_reducible assumption) | (with_reducible apply Within.refl) | lift_lets
    | (intro v; refine Within.cut (p := Within State.carStart_scope s v) ?_ ?_; unfold v; rotate_left; clear_value v; intro hv)
    | (intro v; clear_value v) | intro v
    | (with_reducible apply Within.step (State.updPwr_within ..); rotate_left; decide +kernel)
    | (with_reducible apply Within.step (State.toCarWait_within ..); rotate_left; decide +kernel)
    | (with_reducible apply Within.step (State.updCar_within ..); rotate_left; decide +kernel)
    | (with_reducible apply Within.step (State.rampRail_within ..); rotate_left; decide +kernel)
    | (with_reducible apply Within.step (State.setCar_within ..); rotate_left; decide +kernel) | split

def State.carFollowHold_scope : Scope := ⟨[.committed, .latches, .mem, .pwr, .boot, .gr, .evt, .tally, .tacc, .ports,
    .cars, .sheaves, .fwd, .grn, .alm, .tb, .tt, .ref, .syn, .tdc, .cal, .twin, .out], [R.PWR_RAIL_STAT,
    R.PWR_CLK_STAT, R.PWR_OCXO_STAT, R.PWR_BOOT_STAT, R.EVT_FCNT], [0, 1, 2, 3, 4, 5, 6, 7, 8, 9, 10, 11, 12, 14]⟩
theorem State.carFollowHold_within (s : State) (c : Nat) : Within State.carFollowHold_scope s (State.carFollowHold s
    c) := by
  unfold State.carFollowHold
  repeat' first
    | (with_reducible assumption) | (with_reducible apply Within.refl)
    | (with_reducible apply Within.step (State.rampRail_within ..); rotate_left; decide +kernel)
    | (with_reducible apply Within.step (State.setCar_within ..); rotate_left; decide +kernel)
    | (with_reducible apply Within.step (State.dropLanes_within ..); rotate_left; decide +kernel) | split

def State.carStop_scope : Scope := ⟨[.committed, .latches, .mem, .pwr, .boot, .gr, .evt, .tally, .tacc, .ports, .cars,
    .sheaves, .fwd, .grn, .alm, .tb, .tt, .ref, .syn, .tdc, .cal, .twin, .out], [R.PWR_RAIL_STAT, R.PWR_CLK_STAT,
    R.PWR_OCXO_STAT, R.PWR_BOOT_STAT, R.EVT_FCNT], [0, 1, 2, 3, 4, 5, 6, 7, 8, 9, 10, 11, 12, 14]⟩
theorem State.carStop_within (s : State) (c : Nat) : Within State.carStop_scope s (State.carStop s c) := by
  unfold State.carStop
  repeat' first
    | (with_reducible assumption) | (with_reducible apply Within.refl) | lift_lets
    | (intro v; refine Within.cut (p := Within State.carStop_scope s v) ?_ ?_; unfold v; rotate_left; clear_value v; intro hv)
    | (intro v; clear_value v) | intro v
    | (with_reducible apply Within.step (State.carDown_within ..); rotate_left; decide +kernel)
    | (with_reducible apply Within.step (State.endOp_within ..); rotate_left; decide +kernel)
    | (with_reducible apply Within.step (State.setCar_within ..); rotate_left; decide +kernel)
    | (with_reducible apply Within.step (State.updCar_within ..); rotate_left; decide +kernel)
    | (with_reducible apply Within.step (State.wr_within ..); rotate_left; decide +kernel)
    | (with_reducible apply Within.step (State.dropLanes_within ..); rotate_left; decide +kernel) | split

def State.sheafStop_scope : Scope := ⟨[.evt, .tacc, .ports, .sheaves, .fwd, .grn], [R.SHF_SHEAF_STAT, R.FWD_EVT_STAT,
    R.FWD_EGR_STAT, R.GRN_POOL_STAT, R.GRN_SILO_STAT, R.GRN_EVT_STAT, R.EVT_STAT], []⟩
theorem State.sheafStop_within (s : State) (h : Nat) : Within State.sheafStop_scope s (State.sheafStop s h) := by
  unfold State.sheafStop
  repeat' first
    | (with_reducible assumption) | (with_reducible apply Within.refl) | lift_lets
    | (intro v; refine Within.cut (p := Within State.sheafStop_scope s v) ?_ ?_; unfold v; rotate_left; clear_value v; intro hv)
    | (intro v; clear_value v) | intro v
    | (with_reducible apply Within.step (State.dropPart_within ..); rotate_left; decide +kernel)
    | (with_reducible apply Within.step (State.freeBuf_within ..); rotate_left; decide +kernel)
    | (with_reducible apply Within.step (State.letGo_within ..); rotate_left; decide +kernel)
    | (with_reducible apply Within.step (State.count_within ..); rotate_left; decide +kernel)
    | (with_reducible apply Within.step (State.updSheaf_within ..); rotate_left; decide +kernel)
    | (with_reducible apply Within.step (State.wr_within ..); rotate_left; decide +kernel)
    | (with_reducible apply Within.step (State.egressOff_within ..); rotate_left; decide +kernel)
    | (with_reducible apply Within.each; rotate_left; intro x a hx; try beta_reduce; rotate_left)
    | (with_reducible apply Within.foldl; rotate_left; intro x a hx; try beta_reduce; rotate_left) | split

def State.shfCommit_scope : Scope := ⟨[.committed, .latches, .mem, .pwr, .boot, .gr, .evt, .tally, .tacc, .ports,
    .cars, .sheaves, .fwd, .grn, .alm, .tb, .tt, .ref, .syn, .tdc, .cal, .twin, .out], [R.PWR_RAIL_STAT,
    R.PWR_CLK_STAT, R.PWR_OCXO_STAT, R.PWR_BOOT_STAT, R.EVT_FCNT], [0, 1, 2, 3, 4, 5, 6, 7, 8, 9, 10, 11, 12, 14]⟩
theorem State.shfCommit_within (s b : State) : Within State.shfCommit_scope s (State.shfCommit s b) := by
  unfold State.shfCommit
  repeat' first
    | (with_reducible assumption) | (with_reducible apply Within.refl) | lift_lets
    | (intro v; refine Within.cut (p := Within State.shfCommit_scope s v) ?_ ?_; unfold v; rotate_left; clear_value v; intro hv)
    | (intro v; clear_value v) | intro v
    | (with_reducible apply Within.step (State.carStop_within ..); rotate_left; decide +kernel)
    | (with_reducible apply Within.step (State.carStart_within ..); rotate_left; decide +kernel)
    | (with_reducible apply Within.step (State.updCar_within ..); rotate_left; decide +kernel)
    | (with_reducible apply Within.step (State.carFollowHold_within ..); rotate_left; decide +kernel)
    | (with_reducible apply Within.step (State.sheafStop_within ..); rotate_left; decide +kernel)
    | (with_reducible apply Within.step (State.updSheaf_within ..); rotate_left; decide +kernel)
    | (with_reducible apply Within.step (State.noteRate_within ..); rotate_left; decide +kernel)
    | (with_reducible apply Within.step (State.ttCommit_within ..); rotate_left; decide +kernel)
    | (with_reducible apply Within.each; rotate_left; intro x a hx; try beta_reduce; rotate_left)
    | (with_reducible apply Within.foldl; rotate_left; intro x a hx; try beta_reduce; rotate_left) | split

end Sys2Proof.Machine
end

