-- ==== Sys2Proof/Laws/FramesTwinPair.lean ====
section
/-! SUPPORT. Sys2Proof/Laws/FramesTwinPair.lean: what each operation of Machine/TwinPair.lean may change. -/
set_option Elab.async false
set_option linter.unusedTactic false
set_option linter.unreachableTactic false
set_option linter.unnecessarySeqFocus false
namespace Sys2Proof.Machine

def State.mirrorStart_scope : Scope := ⟨[.pwr, .twin], [R.PWR_RAIL_STAT, R.PWR_CLK_STAT], []⟩
theorem State.mirrorStart_within (s : State) : Within State.mirrorStart_scope s (State.mirrorStart s) := by
  unfold State.mirrorStart
  repeat' first
    | (with_reducible assumption) | (with_reducible apply Within.refl)
    | (with_reducible apply Within.step (State.rampRail_within ..); rotate_left; decide +kernel)
    | (with_reducible apply Within.step (State.updMlane_within ..); rotate_left; decide +kernel)
    | (with_reducible apply Within.each; rotate_left; intro x a hx; try beta_reduce; rotate_left)
    | (with_reducible apply Within.foldl; rotate_left; intro x a hx; try beta_reduce; rotate_left) | split

def State.mirrorStop_scope : Scope := ⟨[.committed, .latches, .mem, .pwr, .boot, .gr, .evt, .tally, .tacc, .ports,
    .cars, .sheaves, .fwd, .grn, .alm, .tb, .tt, .ref, .syn, .tdc, .cal, .twin, .out], [R.PWR_RAIL_STAT,
    R.PWR_CLK_STAT, R.PWR_OCXO_STAT, R.PWR_BOOT_STAT, R.EVT_FCNT], [0, 1, 2, 3, 4, 5, 6, 7, 8, 9, 10, 11, 12, 14]⟩
theorem State.mirrorStop_within (s : State) : Within State.mirrorStop_scope s (State.mirrorStop s) := by
  unfold State.mirrorStop
  repeat' first
    | (with_reducible assumption) | (with_reducible apply Within.refl) | lift_lets
    | (intro v; refine Within.cut (p := Within State.mirrorStop_scope s v) ?_ ?_; unfold v; rotate_left; clear_value v; intro hv)
    | (intro v; clear_value v) | intro v
    | (with_reducible apply Within.step (State.updMlane_within ..); rotate_left; decide +kernel)
    | (with_reducible apply Within.step (State.dropLanes_within ..); rotate_left; decide +kernel)
    | (with_reducible apply Within.step (State.wr_within ..); rotate_left; decide +kernel)
    | (with_reducible apply Within.each; rotate_left; intro x a hx; try beta_reduce; rotate_left)
    | (with_reducible apply Within.foldl; rotate_left; intro x a hx; try beta_reduce; rotate_left) | split

def State.endRelq_scope : Scope := ⟨[.mem, .gr, .evt, .twin, .out], [R.MBX_STATE, R.MBX_RETRY_STAT, R.EVT_STAT,
    R.TWN_STAT, R.EVT_FCNT], []⟩
theorem State.endRelq_within (s : State) (status : Nat) : Within State.endRelq_scope s (State.endRelq s status) := by
  unfold State.endRelq
  repeat' first
    | (with_reducible assumption) | (with_reducible apply Within.refl) | lift_lets
    | (intro v; refine Within.cut (p := Within State.endRelq_scope s v) ?_ ?_; unfold v; rotate_left; clear_value v; intro hv)
    | (intro v; clear_value v) | intro v
    | (with_reducible apply Within.step (State.updTwin_within ..); rotate_left; decide +kernel)
    | (with_reducible apply Within.step (State.wr_within ..); rotate_left; decide +kernel)
    | (with_reducible apply Within.step (State.complete_within ..); rotate_left; decide +kernel) | split

def State.twinOff_scope : Scope := ⟨[.committed, .latches, .mem, .pwr, .boot, .gr, .evt, .tally, .tacc, .ports, .cars,
    .sheaves, .fwd, .grn, .alm, .tb, .tt, .ref, .syn, .tdc, .cal, .twin, .out], [R.PWR_RAIL_STAT, R.PWR_CLK_STAT,
    R.PWR_OCXO_STAT, R.PWR_BOOT_STAT, R.EVT_FCNT], [0, 1, 2, 3, 4, 5, 6, 7, 8, 9, 10, 11, 12, 14]⟩
theorem State.twinOff_within (s : State) : Within State.twinOff_scope s (State.twinOff s) := by
  unfold State.twinOff
  repeat' first
    | (with_reducible assumption) | (with_reducible apply Within.refl) | lift_lets
    | (intro v; refine Within.cut (p := Within State.twinOff_scope s v) ?_ ?_; unfold v; rotate_left; clear_value v; intro hv)
    | (intro v; clear_value v) | intro v
    | (with_reducible apply Within.step (State.setRole_within ..); rotate_left; decide +kernel)
    | (with_reducible apply Within.step (State.mirrorStop_within ..); rotate_left; decide +kernel)
    | (with_reducible apply Within.step (State.setTwSt_within ..); rotate_left; decide +kernel)
    | (with_reducible apply Within.step (State.endRelq_within ..); rotate_left; decide +kernel)
    | (with_reducible apply Within.step (State.wr_within ..); rotate_left; decide +kernel)
    | (with_reducible apply Within.step (State.updInq_within ..); rotate_left; decide +kernel)
    | (with_reducible apply Within.step (State.updTwin_within ..); rotate_left; decide +kernel) | split

def State.closeIfDone_scope : Scope := ⟨[.committed, .latches, .mem, .pwr, .boot, .gr, .evt, .tally, .tacc, .ports,
    .cars, .sheaves, .fwd, .grn, .alm, .tb, .tt, .ref, .syn, .tdc, .cal, .twin, .out], [R.PWR_RAIL_STAT,
    R.PWR_CLK_STAT, R.PWR_OCXO_STAT, R.PWR_BOOT_STAT, R.EVT_FCNT], [0, 1, 2, 3, 4, 5, 6, 7, 8, 9, 10, 11, 12, 14]⟩
theorem State.closeIfDone_within (s : State) : Within State.closeIfDone_scope s (State.closeIfDone s) := by
  unfold State.closeIfDone
  repeat' first
    | (with_reducible assumption) | (with_reducible apply Within.refl)
    | (with_reducible apply Within.step (State.twinOff_within ..); rotate_left; decide +kernel) | split

def State.handOver_scope : Scope := ⟨[.committed, .latches, .mem, .pwr, .boot, .gr, .evt, .tally, .tacc, .ports,
    .cars, .sheaves, .fwd, .grn, .alm, .tb, .tt, .ref, .syn, .tdc, .cal, .twin, .out], [R.PWR_RAIL_STAT,
    R.PWR_CLK_STAT, R.PWR_OCXO_STAT, R.PWR_BOOT_STAT, R.EVT_FCNT], [0, 1, 2, 3, 4, 5, 6, 7, 8, 9, 10, 11, 12, 14]⟩
theorem State.handOver_within (s : State) : Within State.handOver_scope s (State.handOver s) := by
  unfold State.handOver
  repeat' first
    | (with_reducible assumption) | (with_reducible apply Within.refl) | lift_lets
    | (intro v; refine Within.cut (p := Within State.handOver_scope s v) ?_ ?_; unfold v; rotate_left; clear_value v; intro hv)
    | (intro v; clear_value v) | intro v
    | (with_reducible apply Within.step (State.setRole_within ..); rotate_left; decide +kernel)
    | (with_reducible apply Within.step (State.setTwSt_within ..); rotate_left; decide +kernel)
    | (with_reducible apply Within.step (State.raise_within ..); rotate_left; decide +kernel)
    | (with_reducible apply Within.step (State.count_within ..); rotate_left; decide +kernel)
    | (with_reducible apply Within.step (State.updTwin_within ..); rotate_left; decide +kernel)
    | (with_reducible apply Within.step (State.endRelq_within ..); rotate_left; decide +kernel)
    | (with_reducible apply Within.step (State.closeIfDone_within ..); rotate_left; decide +kernel) | split

def State.enterPairing_scope : Scope := ⟨[.committed, .latches, .mem, .pwr, .boot, .gr, .evt, .tally, .tacc, .ports,
    .cars, .sheaves, .fwd, .grn, .alm, .tb, .tt, .ref, .syn, .tdc, .cal, .twin, .out], [R.PWR_RAIL_STAT,
    R.PWR_CLK_STAT, R.PWR_OCXO_STAT, R.PWR_BOOT_STAT, R.EVT_FCNT], [0, 1, 2, 3, 4, 5, 6, 7, 8, 9, 10, 11, 12, 14]⟩
theorem State.enterPairing_within (s : State) : Within State.enterPairing_scope s (State.enterPairing s) := by
  unfold State.enterPairing
  repeat' first
    | (with_reducible assumption) | (with_reducible apply Within.refl) | lift_lets
    | (intro v; refine Within.cut (p := Within State.enterPairing_scope s v) ?_ ?_; unfold v; rotate_left; clear_value v; intro hv)
    | (intro v; clear_value v) | intro v
    | (with_reducible apply Within.step (State.handOver_within ..); rotate_left; decide +kernel)
    | (with_reducible apply Within.step (State.closeIfDone_within ..); rotate_left; decide +kernel)
    | (with_reducible apply Within.step (State.setRole_within ..); rotate_left; decide +kernel)
    | (with_reducible apply Within.step (State.dropAddrs_within ..); rotate_left; decide +kernel)
    | (with_reducible apply Within.step (State.dropRequests_within ..); rotate_left; decide +kernel)
    | (with_reducible apply Within.step (State.setTwSt_within ..); rotate_left; decide +kernel)
    | (with_reducible apply Within.step (State.endRelq_within ..); rotate_left; decide +kernel)
    | (with_reducible apply Within.step (State.updInq_within ..); rotate_left; decide +kernel)
    | (with_reducible apply Within.step (State.updTwin_within ..); rotate_left; decide +kernel) | split

def State.twnCommit_scope : Scope := ⟨[.committed, .latches, .mem, .pwr, .boot, .gr, .evt, .tally, .tacc, .ports,
    .cars, .sheaves, .fwd, .grn, .alm, .tb, .tt, .ref, .syn, .tdc, .cal, .twin, .out], [R.PWR_RAIL_STAT,
    R.PWR_CLK_STAT, R.PWR_OCXO_STAT, R.PWR_BOOT_STAT, R.EVT_FCNT], [0, 1, 2, 3, 4, 5, 6, 7, 8, 9, 10, 11, 12, 14]⟩
theorem State.twnCommit_within (s b : State) : Within State.twnCommit_scope s (State.twnCommit s b) := by
  unfold State.twnCommit
  repeat' first
    | (with_reducible assumption) | (with_reducible apply Within.refl)
    | (with_reducible apply Within.step (State.updTwin_within ..); rotate_left; decide +kernel)
    | (with_reducible apply Within.step (State.enterPairing_within ..); rotate_left; decide +kernel)
    | (with_reducible apply Within.step (State.mirrorStart_within ..); rotate_left; decide +kernel)
    | (with_reducible apply Within.step (State.twinOff_within ..); rotate_left; decide +kernel) | split

end Sys2Proof.Machine
end

