-- ==== Sys2Proof/Laws/FramesSilo.lean ====
section
/-! SUPPORT. Sys2Proof/Laws/FramesSilo.lean: what each operation of Machine/Silo.lean may change. -/
set_option Elab.async false
set_option linter.unusedTactic false
set_option linter.unreachableTactic false
set_option linter.unnecessarySeqFocus false
namespace Sys2Proof.Machine

def State.setEnt_scope : Scope := ⟨[.fwd], [], []⟩
theorem State.setEnt_within (s : State) (n i : Nat) (e : QEnt) : Within State.setEnt_scope s (State.setEnt s n i e) :=
    by
  unfold State.setEnt
  repeat' first
    | (with_reducible assumption) | (with_reducible apply Within.refl)
    | (with_reducible apply Within.step (State.updQueue_within ..); rotate_left; decide +kernel) | split

def State.waitEnt_scope : Scope := ⟨[.fwd], [], []⟩
theorem State.waitEnt_within (s : State) (n i : Nat) (e : QEnt) : Within State.waitEnt_scope s (State.waitEnt s n i e)
    := by
  unfold State.waitEnt
  repeat' first
    | (with_reducible assumption) | (with_reducible apply Within.refl)
    | (with_reducible apply Within.step (State.setEnt_within ..); rotate_left; decide +kernel)
    | (with_reducible apply Within.step (State.updQueue_within ..); rotate_left; decide +kernel) | split

def State.takePages_scope : Scope := ⟨[.evt, .tacc, .grn], [R.GRN_SILO_STAT, R.EVT_STAT], []⟩
theorem State.takePages_snd (s : State) (n seg k : Nat) : Within State.takePages_scope s (State.takePages s n seg k).2 := by
  induction k generalizing s with
  | zero => exact .refl _ _
  | succ k ih =>
    unfold State.takePages
    split
    · exact .refl _ _
    · exact (ih _).step ((State.takePage_within ..).step (.refl _ _) (by decide +kernel)) (by decide +kernel)

theorem State.takePages_within {s s' : State} {n seg k : Nat} {r} (h : State.takePages s n seg k = (r, s')) :
    Within State.takePages_scope s s' := by
  have := State.takePages_snd s n seg k
  rwa [h] at this


def State.writePages_scope : Scope := ⟨[.grn], [], []⟩
theorem State.writePages_within (s : State) (l : List Nat) (o : Nat) (bs : List Byte) : Within State.writePages_scope s (State.writePages s l o bs) := by
  induction l generalizing s o bs with
  | nil => unfold State.writePages; exact .refl _ _
  | cons x r ih =>
    unfold State.writePages
    repeat' first
      | (with_reducible assumption) | (with_reducible apply Within.refl) | lift_lets
      | (intro v; refine Within.cut (p := Within State.writePages_scope s v) ?_ ?_; unfold v; rotate_left; clear_value v; intro hv)
      | (intro v; clear_value v)
      | (with_reducible apply Within.step (State.setPage_within ..); rotate_left; decide +kernel)
      | (with_reducible apply Within.step (ih ..); rotate_left; decide +kernel)
      | (with_reducible apply Within.each; rotate_left; intro x a hx; try beta_reduce; rotate_left)
      | (with_reducible apply Within.foldl; rotate_left; intro x a hx; try beta_reduce; rotate_left) | split


def State.spillWrite_scope : Scope := ⟨[.evt, .tacc, .ports, .fwd, .grn], [R.GRN_POOL_STAT, R.GRN_SILO_STAT,
    R.GRN_EVT_STAT, R.EVT_STAT], []⟩
theorem State.spillWrite_within (s : State) (n i : Nat) (prev : Option QEnt) (e : QEnt) : Within
    State.spillWrite_scope s (State.spillWrite s n i prev e) := by
  unfold State.spillWrite
  repeat' first
    | (with_reducible assumption) | (with_reducible apply Within.refl) | lift_lets
    | (intro v; refine Within.cut (p := Within State.spillWrite_scope s v) ?_ ?_; unfold v; rotate_left; clear_value v; intro hv)
    | (intro v; clear_value v) | intro v
    | (with_reducible apply Within.step (State.count_within ..); rotate_left; decide +kernel)
    | (with_reducible apply Within.step (State.raise_within ..); rotate_left; decide +kernel)
    | (with_reducible apply Within.step (State.setEnt_within ..); rotate_left; decide +kernel)
    | (with_reducible apply Within.step (State.updQueue_within ..); rotate_left; decide +kernel)
    | (with_reducible apply Within.step (State.takePages_within (h := ?h)); (case h => assumption); rotate_left; decide +kernel)
    | (with_reducible apply Within.step (State.writePages_within ..); rotate_left; decide +kernel)
    | (with_reducible apply Within.step (State.setPage_within ..); rotate_left; decide +kernel)
    | (with_reducible apply Within.step (State.freeFrame_within ..); rotate_left; decide +kernel)
    | (with_reducible apply Within.step (State.takePages_snd ..); rotate_left; decide +kernel) | split

def State.recallBufs_scope : Scope := ⟨[.evt, .tacc, .grn], [R.GRN_POOL_STAT, R.GRN_EVT_STAT, R.EVT_STAT], []⟩
theorem State.recallBufs_snd (s : State) (e len k : Nat) (got : List (Nat × Nat)) : Within State.recallBufs_scope s (State.recallBufs s e len k got).2 := by
  induction k generalizing s e len got with
  | zero => unfold State.recallBufs; exact .refl _ _
  | succ k ih =>
    unfold State.recallBufs
    repeat' first
      | (with_reducible assumption) | (with_reducible apply Within.refl) | lift_lets
      | (intro v; refine Within.cut (p := Within State.recallBufs_scope s v) ?_ ?_; unfold v; rotate_left; clear_value v; intro hv)
      | (intro v; clear_value v)
      | (with_reducible apply Within.step (State.request_within (h := ?h)); (case h => assumption); rotate_left; decide +kernel)
      | (with_reducible apply Within.step (ih ..); rotate_left; decide +kernel)
      | (with_reducible apply Within.each; rotate_left; intro x a hx; try beta_reduce; rotate_left)
      | (with_reducible apply Within.foldl; rotate_left; intro x a hx; try beta_reduce; rotate_left) | split
      | dsimp only

theorem State.recallBufs_within {s s' : State} {e len k : Nat} {got : List (Nat × Nat)} {r} (h : State.recallBufs s e len k got = (r, s')) :
    Within State.recallBufs_scope s s' := by
  have := State.recallBufs_snd s e len k got
  rwa [h] at this


def State.handRecalled_scope : Scope := ⟨[.evt, .tacc, .ports, .fwd, .grn], [R.EVT_STAT], []⟩
theorem State.handRecalled_within (s : State) (n : Nat) (x : QEnt) (bs : List (Nat × Nat)) : Within
    State.handRecalled_scope s (State.handRecalled s n x bs) := by
  unfold State.handRecalled
  repeat' first
    | (with_reducible assumption) | (with_reducible apply Within.refl) | lift_lets
    | (intro v; refine Within.cut (p := Within State.handRecalled_scope s v) ?_ ?_; unfold v; rotate_left; clear_value v; intro hv)
    | (intro v; clear_value v) | intro v
    | (with_reducible apply Within.step (State.setTag_within ..); rotate_left; decide +kernel)
    | (with_reducible apply Within.step (State.addIn_within ..); rotate_left; decide +kernel)
    | (with_reducible apply Within.step (State.updQueue_within ..); rotate_left; decide +kernel)
    | (with_reducible apply Within.step (State.count_within ..); rotate_left; decide +kernel)
    | (with_reducible apply Within.each; rotate_left; intro x a hx; try beta_reduce; rotate_left)
    | (with_reducible apply Within.foldl; rotate_left; intro x a hx; try beta_reduce; rotate_left) | split

def State.recallFrames_scope : Scope := ⟨[.evt, .tacc, .ports, .fwd, .grn], [R.GRN_POOL_STAT, R.GRN_EVT_STAT,
    R.EVT_STAT], []⟩
theorem State.recallFrames_snd (s : State) (e n : Nat) (l : List QEnt) : Within State.recallFrames_scope s (State.recallFrames s e n l).2 := by
  induction l generalizing s e n with
  | nil => unfold State.recallFrames; exact .refl _ _
  | cons x r ih =>
    unfold State.recallFrames
    repeat' first
      | (with_reducible assumption) | (with_reducible apply Within.refl) | lift_lets
      | (intro v; refine Within.cut (p := Within State.recallFrames_scope s v) ?_ ?_; unfold v; rotate_left; clear_value v; intro hv)
      | (intro v; clear_value v)
      | (with_reducible apply Within.step (State.recallBufs_within (h := ?h)); (case h => assumption); rotate_left; decide +kernel)
      | (with_reducible apply Within.step (State.handRecalled_within ..); rotate_left; decide +kernel)
      | (with_reducible apply Within.step (State.updQueue_within ..); rotate_left; decide +kernel)
      | (with_reducible apply Within.step (ih ..); rotate_left; decide +kernel)
      | (with_reducible apply Within.each; rotate_left; intro x a hx; try beta_reduce; rotate_left)
      | (with_reducible apply Within.foldl; rotate_left; intro x a hx; try beta_reduce; rotate_left) | split
      | dsimp only

theorem State.recallFrames_within {s s' : State} {e n : Nat} {l : List QEnt} {r} (h : State.recallFrames s e n l = (r, s')) :
    Within State.recallFrames_scope s s' := by
  have := State.recallFrames_snd s e n l
  rwa [h] at this


def State.passPage_scope : Scope := ⟨[.evt, .tacc, .fwd, .grn], [R.GRN_POOL_STAT, R.GRN_SILO_STAT, R.GRN_EVT_STAT,
    R.EVT_STAT], []⟩
theorem State.passPage_within (s : State) (n num pg : Nat) (free : Bool) : Within State.passPage_scope s
    (State.passPage s n num pg free) := by
  unfold State.passPage
  repeat' first
    | (with_reducible assumption) | (with_reducible apply Within.refl) | lift_lets
    | (intro v; refine Within.cut (p := Within State.passPage_scope s v) ?_ ?_; unfold v; rotate_left; clear_value v; intro hv)
    | (intro v; clear_value v) | intro v
    | (with_reducible apply Within.step (State.updQueue_within ..); rotate_left; decide +kernel)
    | (with_reducible apply Within.step (State.freePage_within ..); rotate_left; decide +kernel)
    | (with_reducible apply Within.step (State.dropSegs_within ..); rotate_left; decide +kernel) | split

def State.reclaim_scope : Scope := ⟨[.evt, .tacc, .grn], [R.GRN_POOL_STAT, R.GRN_SILO_STAT, R.GRN_EVT_STAT,
    R.EVT_STAT], []⟩
theorem State.reclaim_within (s : State) (l : Nat × Nat × Tag) : Within State.reclaim_scope s (State.reclaim s l) :=
    by
  unfold State.reclaim
  repeat' first
    | (with_reducible assumption) | (with_reducible apply Within.refl)
    | (with_reducible apply Within.step (State.freePage_within ..); rotate_left; decide +kernel)
    | (with_reducible apply Within.step (State.giveBack_within ..); rotate_left; decide +kernel)
    | (with_reducible apply Within.step (State.count_within ..); rotate_left; decide +kernel) | split

def State.leak_scope : Scope := ⟨[.evt, .tacc, .grn], [R.GRN_POOL_STAT, R.GRN_SILO_STAT, R.GRN_GLEAN_STAT,
    R.GRN_GLEAN_LAST, R.GRN_EVT_STAT, R.EVT_STAT], []⟩
theorem State.leak_within (s : State) (l : Nat × Nat × Tag) : Within State.leak_scope s (State.leak s l) := by
  unfold State.leak
  repeat' first
    | (with_reducible assumption) | (with_reducible apply Within.refl) | lift_lets
    | (intro v; refine Within.cut (p := Within State.leak_scope s v) ?_ ?_; unfold v; rotate_left; clear_value v; intro hv)
    | (intro v; clear_value v) | intro v
    | (with_reducible apply Within.step (State.count_within ..); rotate_left; decide +kernel)
    | (with_reducible apply Within.step (State.wrB_within ..); rotate_left; decide +kernel)
    | (with_reducible apply Within.step (State.wr_within ..); rotate_left; decide +kernel)
    | (with_reducible apply Within.step (State.addSat_within ..); rotate_left; decide +kernel)
    | (with_reducible apply Within.step (State.raiseObj_within ..); rotate_left; decide +kernel)
    | (with_reducible apply Within.step (State.updGrn_within ..); rotate_left; decide +kernel)
    | (with_reducible apply Within.step (State.reclaim_within ..); rotate_left; decide +kernel) | split

def State.judgeLeaks_scope : Scope := ⟨[.evt, .tacc, .grn], [R.GRN_POOL_STAT, R.GRN_SILO_STAT, R.GRN_GLEAN_STAT,
    R.GRN_GLEAN_LAST, R.GRN_EVT_STAT, R.EVT_STAT], []⟩
theorem State.judgeLeaks_within (s : State) (now_ : List (Nat × Nat × Tag)) (isPage : Bool) : Within
    State.judgeLeaks_scope s (State.judgeLeaks s now_ isPage) := by
  unfold State.judgeLeaks
  repeat' first
    | (with_reducible assumption) | (with_reducible apply Within.refl) | lift_lets
    | (intro v; refine Within.cut (p := Within State.judgeLeaks_scope s v) ?_ ?_; unfold v; rotate_left; clear_value v; intro hv)
    | (intro v; clear_value v) | intro v
    | (with_reducible apply Within.step (State.updGrn_within ..); rotate_left; decide +kernel)
    | (with_reducible apply Within.step (State.reclaim_within ..); rotate_left; decide +kernel)
    | (with_reducible apply Within.step (State.leak_within ..); rotate_left; decide +kernel)
    | (with_reducible apply Within.each; rotate_left; intro x a hx; try beta_reduce; rotate_left)
    | (with_reducible apply Within.foldl; rotate_left; intro x a hx; try beta_reduce; rotate_left) | split

def State.returnAstray_scope : Scope := ⟨[.grn], [R.GRN_SILO_STAT], []⟩
theorem State.returnAstray_within (s : State) : Within State.returnAstray_scope s (State.returnAstray s) := by
  unfold State.returnAstray
  repeat' first
    | (with_reducible assumption) | (with_reducible apply Within.refl) | lift_lets
    | (intro v; refine Within.cut (p := Within State.returnAstray_scope s v) ?_ ?_; unfold v; rotate_left; clear_value v; intro hv)
    | (intro v; clear_value v) | intro v
    | (with_reducible apply Within.step (State.updGrn_within ..); rotate_left; decide +kernel)
    | (with_reducible apply Within.step (State.wr_within ..); rotate_left; decide +kernel) | split

def State.condemnBuf_scope : Scope := ⟨[.evt, .grn], [R.GRN_POOL_STAT, R.GRN_EVT_STAT], []⟩
theorem State.condemnBuf_within (s : State) (p b : Nat) : Within State.condemnBuf_scope s (State.condemnBuf s p b) :=
    by
  unfold State.condemnBuf
  repeat' first
    | (with_reducible assumption) | (with_reducible apply Within.refl) | lift_lets
    | (intro v; refine Within.cut (p := Within State.condemnBuf_scope s v) ?_ ?_; unfold v; rotate_left; clear_value v; intro hv)
    | (intro v; clear_value v) | intro v
    | (with_reducible apply Within.step (State.updPool_within ..); rotate_left; decide +kernel)
    | (with_reducible apply Within.step (State.wr_within ..); rotate_left; decide +kernel)
    | (with_reducible apply Within.step (State.retireBuf_within ..); rotate_left; decide +kernel) | split

def State.testBufs_scope : Scope := ⟨[.evt, .tacc, .grn], [R.GRN_POOL_STAT, R.GRN_EVT_STAT, R.EVT_STAT], []⟩
theorem State.testBufs_snd (s : State) (m p k : Nat) (got : List (Nat × Nat)) : Within State.testBufs_scope s (State.testBufs s m p k got).2 := by
  induction k generalizing s m p got with
  | zero => unfold State.testBufs; exact .refl _ _
  | succ k ih =>
    unfold State.testBufs
    repeat' first
      | (with_reducible assumption) | (with_reducible apply Within.refl) | lift_lets
      | (intro v; refine Within.cut (p := Within State.testBufs_scope s v) ?_ ?_; unfold v; rotate_left; clear_value v; intro hv)
      | (intro v; clear_value v)
      | (with_reducible apply Within.step (State.request_within (h := ?h)); (case h => assumption); rotate_left; decide +kernel)
      | (with_reducible apply Within.step (ih ..); rotate_left; decide +kernel)
      | (with_reducible apply Within.each; rotate_left; intro x a hx; try beta_reduce; rotate_left)
      | (with_reducible apply Within.foldl; rotate_left; intro x a hx; try beta_reduce; rotate_left) | split
      | dsimp only

theorem State.testBufs_within {s s' : State} {m p k : Nat} {got : List (Nat × Nat)} {r} (h : State.testBufs s m p k got = (r, s')) :
    Within State.testBufs_scope s s' := by
  have := State.testBufs_snd s m p k got
  rwa [h] at this


end Sys2Proof.Machine
end

