-- ==== Sys2Proof/Laws/FramesIntegrity.lean ====
section
/-! SUPPORT. Sys2Proof/Laws/FramesIntegrity.lean: what each operation of Machine/Integrity.lean may change. -/
set_option Elab.async false
set_option linter.unusedTactic false
set_option linter.unreachableTactic false
set_option linter.unnecessarySeqFocus false
namespace Sys2Proof.Machine

def State.remapPage_scope : Scope := ⟨[.pwr, .evt, .tacc, .grn, .tdc, .cal, .twin, .out], [R.GRN_SILO_STAT,
    R.GRN_EVT_STAT, R.TDC_STAT, R.TDC_EVT_STAT, R.CAL_STAT, R.CAL_EVT_STAT, R.EVT_LAST_FAULT, R.EVT_STAT, R.TWN_STAT,
    R.PWR_MODE_CTL, R.PWR_MODE_STAT, R.PWR_RAIL_STAT, R.PWR_CLK_STAT, R.EVT_LASTING, R.EVT_FCNT], []⟩
theorem State.remapPage_fst (s : State) (detail : Nat) : Within State.remapPage_scope s (State.remapPage s detail).1 := by
    unfold State.remapPage
    repeat' first
      | (with_reducible assumption) | (with_reducible apply Within.refl)
      | (with_reducible apply Within.step (State.lastingFault_within ..); rotate_left; decide +kernel)
      | (with_reducible apply Within.step (State.updEvt_within ..); rotate_left; decide +kernel)
      | (with_reducible apply Within.step (State.takePage_within ..); rotate_left; decide +kernel)
      | (with_reducible apply Within.step (State.pagesBack_within ..); rotate_left; decide +kernel) | split
      | dsimp only


theorem State.remapPage_within {s s' : State} {detail : Nat} {r} (h : State.remapPage s detail = (s', r)) :
    Within State.remapPage_scope s s' := by
  have := State.remapPage_fst s detail
  rwa [h] at this


def State.condemnPage_scope : Scope := ⟨[.evt, .tacc, .grn], [R.GRN_SILO_STAT, R.GRN_EVT_STAT, R.EVT_STAT], []⟩
theorem State.condemnPage_within (s : State) (g : Nat) : Within State.condemnPage_scope s (State.condemnPage s g) :=
    by
  unfold State.condemnPage
  repeat' first
    | (with_reducible assumption) | (with_reducible apply Within.refl)
    | (with_reducible apply Within.step (State.wr_within ..); rotate_left; decide +kernel)
    | (with_reducible apply Within.step (State.retirePage_within ..); rotate_left; decide +kernel)
    | (with_reducible apply Within.step (State.updGrn_within ..); rotate_left; decide +kernel) | split

def State.losePointers_scope : Scope := ⟨[.grn], [R.GRN_SILO_STAT], []⟩
theorem State.losePointers_within (s : State) (l : List Nat) : Within State.losePointers_scope s (State.losePointers s
    l) := by
  unfold State.losePointers
  repeat' first
    | (with_reducible assumption) | (with_reducible apply Within.refl) | lift_lets
    | (intro v; refine Within.cut (p := Within State.losePointers_scope s v) ?_ ?_; unfold v; rotate_left; clear_value v; intro hv)
    | (intro v; clear_value v) | intro v
    | (with_reducible apply Within.step (State.updGrn_within ..); rotate_left; decide +kernel)
    | (with_reducible apply Within.step (State.wr_within ..); rotate_left; decide +kernel) | split

def State.lastingAt_scope : Scope := ⟨[.pwr, .gr, .evt, .tally, .tacc, .grn, .tdc, .cal, .twin, .out],
    [R.GRN_POOL_STAT, R.GRN_SILO_STAT, R.GRN_EVT_STAT, R.TDC_STAT, R.TDC_EVT_STAT, R.TDC_CNT, R.CAL_STAT,
    R.CAL_EVT_STAT, R.EVT_LAST_FAULT, R.EVT_STAT, R.TWN_STAT, R.PWR_MODE_CTL, R.PWR_MODE_STAT, R.PWR_RAIL_STAT,
    R.PWR_CLK_STAT, R.EVT_LASTING, R.EVT_FCNT], []⟩
theorem State.lastingAt_within (s : State) (p : FaultPlace) : Within State.lastingAt_scope s (State.lastingAt s p) :=
    by
  unfold State.lastingAt
  repeat' first
    | (with_reducible assumption) | (with_reducible apply Within.refl)
    | (with_reducible apply Within.step (State.rowFault_within ..); rotate_left; decide +kernel)
    | (with_reducible apply Within.step (State.reloadEntries_within ..); rotate_left; decide +kernel)
    | (with_reducible apply Within.step (State.unitFault_within ..); rotate_left; decide +kernel)
    | (with_reducible apply Within.step (State.condemnBuf_within ..); rotate_left; decide +kernel)
    | (with_reducible apply Within.step (State.lastingFault_within ..); rotate_left; decide +kernel)
    | (with_reducible apply Within.step (State.condemnPage_within ..); rotate_left; decide +kernel)
    | (with_reducible apply Within.step (State.remapPage_within (h := ?h)); (case h => assumption); rotate_left; decide +kernel)
    | (with_reducible apply Within.step (State.clearSlot_within ..); rotate_left; decide +kernel)
    | (with_reducible apply Within.step (State.raiseObj_within ..); rotate_left; decide +kernel)
    | (with_reducible apply Within.step (State.retest_within ..); rotate_left; decide +kernel)
    | (with_reducible apply Within.step (State.losePointers_within ..); rotate_left; decide +kernel)
    | (with_reducible apply Within.step (State.remapPage_fst ..); rotate_left; decide +kernel)
    | (with_reducible apply Within.each; rotate_left; intro x a hx; try beta_reduce; rotate_left)
    | (with_reducible apply Within.foldl; rotate_left; intro x a hx; try beta_reduce; rotate_left) | split

def State.arithDrop_scope : Scope := ⟨[], [R.EVT_CNT], []⟩
theorem State.arithDrop_within (s : State) (n : Nat) : Within State.arithDrop_scope s (State.arithDrop s n) := by
  unfold State.arithDrop
  repeat' first
    | (with_reducible assumption) | (with_reducible apply Within.refl)
    | (with_reducible apply Within.step (State.addSat_within ..); rotate_left; decide +kernel) | split

def State.missLookup_scope : Scope := ⟨[.nextOrd, .committed, .evt, .tacc, .ports, .fwd, .grn, .alm],
    [R.GRN_POOL_STAT, R.GRN_EVT_STAT, R.ALM_EVT_STAT, R.ALM_EVT_SRC, R.EVT_STAT], []⟩
theorem State.missLookup_within (s : State) (k : Nat) (table : Nat) : Within State.missLookup_scope s
    (State.missLookup s k table) := by
  unfold State.missLookup
  repeat' first
    | (with_reducible assumption) | (with_reducible apply Within.refl) | lift_lets
    | (intro v; refine Within.cut (p := Within State.missLookup_scope s v) ?_ ?_; unfold v; rotate_left; clear_value v; intro hv)
    | (intro v; clear_value v) | intro v
    | (with_reducible apply Within.step (State.updFwd_within ..); rotate_left; decide +kernel)
    | (with_reducible apply Within.step (State.wrCom_within ..); rotate_left; decide +kernel)
    | (with_reducible apply Within.step (State.classify_within ..); rotate_left; decide +kernel)
    | (with_reducible apply Within.step (State.failLookup_within ..); rotate_left; decide +kernel) | split

def State.loseQueue_scope : Scope := ⟨[.evt, .tacc, .ports, .fwd, .grn], [R.EVT_CNT, R.EVT_STAT], []⟩
theorem State.loseQueue_within (s : State) (n : Nat) : Within State.loseQueue_scope s (State.loseQueue s n) := by
  unfold State.loseQueue
  repeat' first
    | (with_reducible assumption) | (with_reducible apply Within.refl) | lift_lets
    | (intro v; refine Within.cut (p := Within State.loseQueue_scope s v) ?_ ?_; unfold v; rotate_left; clear_value v; intro hv)
    | (intro v; clear_value v) | intro v
    | (with_reducible apply Within.step (State.updQueue_within ..); rotate_left; decide +kernel)
    | (with_reducible apply Within.step (State.updFwd_within ..); rotate_left; decide +kernel)
    | (with_reducible apply Within.step (State.subIn_within ..); rotate_left; decide +kernel)
    | (with_reducible apply Within.step (State.arithDrop_within ..); rotate_left; decide +kernel)
    | (with_reducible apply Within.each; rotate_left; intro x a hx; try beta_reduce; rotate_left)
    | (with_reducible apply Within.foldl; rotate_left; intro x a hx; try beta_reduce; rotate_left) | split

def State.loseFrames_scope : Scope := ⟨[.evt, .tacc, .ports, .fwd, .grn, .alm], [R.GRN_POOL_STAT, R.GRN_EVT_STAT,
    R.ALM_EVT_STAT, R.ALM_EVT_SRC, R.EVT_CNT, R.EVT_STAT], []⟩
theorem State.loseFrames_within (s : State) (pick : Frame → Bool) : Within State.loseFrames_scope s (State.loseFrames
    s pick) := by
  unfold State.loseFrames
  repeat' first
    | (with_reducible assumption) | (with_reducible apply Within.refl) | lift_lets
    | (intro v; refine Within.cut (p := Within State.loseFrames_scope s v) ?_ ?_; unfold v; rotate_left; clear_value v; intro hv)
    | (intro v; clear_value v) | intro v
    | (with_reducible apply Within.step (State.updFwd_within ..); rotate_left; decide +kernel)
    | (with_reducible apply Within.step (State.updQueue_within ..); rotate_left; decide +kernel)
    | (with_reducible apply Within.step (State.subIn_within ..); rotate_left; decide +kernel)
    | (with_reducible apply Within.step (State.tryRelease_within ..); rotate_left; decide +kernel)
    | (with_reducible apply Within.step (State.arithDrop_within ..); rotate_left; decide +kernel)
    | (with_reducible apply Within.each; rotate_left; intro x a hx; try beta_reduce; rotate_left)
    | (with_reducible apply Within.foldl; rotate_left; intro x a hx; try beta_reduce; rotate_left) | split

def State.badWork_scope : Scope := ⟨[.nextOrd, .committed, .evt, .tacc, .ports, .cars, .sheaves, .fwd, .grn, .alm,
    .tb, .tdc, .out], [R.GRN_POOL_STAT, R.GRN_SILO_STAT, R.GRN_EVT_STAT, R.ALM_EVT_STAT, R.ALM_EVT_SRC, R.EVT_CNT,
    R.EVT_STAT], []⟩
theorem State.dropHead_within (s : State) (l : List Frame) : Within State.badWork_scope s (s.dropHead l) := by
  cases l with
  | nil => exact .refl _ _
  | cons f r =>
    exact (State.arithDrop_within ..).step ((State.tryRelease_within ..).step
      ((State.dropRx_within ..).step (.refl _ _) (by decide +kernel)) (by decide +kernel)) (by decide +kernel)

theorem State.badWork_within (s : State) (w : FaultWork) : Within State.badWork_scope s (s.badWork w) := by
  unfold State.badWork
  repeat' first
    | (with_reducible assumption) | (with_reducible apply Within.refl) | lift_lets
    | (intro v; refine Within.cut (p := Within State.badWork_scope s v) ?_ ?_; unfold v; rotate_left; clear_value v; intro hv)
    | (intro v; clear_value v) | intro v
    | (with_reducible apply Within.step (State.updPort_within ..); rotate_left; decide +kernel)
    | (with_reducible apply Within.step (State.updSheaf_within ..); rotate_left; decide +kernel)
    | (with_reducible apply Within.step (State.updFwd_within ..); rotate_left; decide +kernel)
    | (with_reducible apply Within.step (State.loseFrames_within ..); rotate_left; decide +kernel)
    | (with_reducible apply Within.step (State.discardEnt_within ..); rotate_left; decide +kernel)
    | (with_reducible apply Within.step (State.updQueue_within ..); rotate_left; decide +kernel)
    | (with_reducible apply Within.step (State.dropSegs_within ..); rotate_left; decide +kernel)
    | (with_reducible apply Within.step (State.arithDrop_within ..); rotate_left; decide +kernel)
    | (with_reducible apply Within.step (State.loseQueue_within ..); rotate_left; decide +kernel)
    | (with_reducible apply Within.step (State.nextGrain_within (h := ?h)); (case h => assumption); rotate_left; decide +kernel)
    | (with_reducible apply Within.step (State.missLookup_within ..); rotate_left; decide +kernel)
    | (with_reducible apply Within.step (State.updTdc_within ..); rotate_left; decide +kernel)
    | (with_reducible apply Within.step (State.report_within ..); rotate_left; decide +kernel)
    | (with_reducible apply Within.step (State.failReport_within ..); rotate_left; decide +kernel)
    | (with_reducible apply Within.step (State.nextGrain_snd ..); rotate_left; decide +kernel)
    | (with_reducible apply Within.step (State.emit_within ..); rotate_left; decide +kernel)
    | (with_reducible apply Within.step (State.dropHead_within ..); rotate_left; decide +kernel)
    | (with_reducible apply Within.step (State.sendNulls_within ..); rotate_left; decide +kernel) | split

def State.freeze_scope : Scope := ⟨[.evt, .tb], [R.EVT_D2D_STAT], []⟩
theorem State.freeze_within (s : State) : Within State.freeze_scope s (State.freeze s) := by
  unfold State.freeze
  repeat' first
    | (with_reducible assumption) | (with_reducible apply Within.refl) | lift_lets
    | (intro v; refine Within.cut (p := Within State.freeze_scope s v) ?_ ?_; unfold v; rotate_left; clear_value v; intro hv)
    | (intro v; clear_value v) | intro v
    | (with_reducible apply Within.step (State.noteDoms_within ..); rotate_left; decide +kernel)
    | (with_reducible apply Within.step (State.updTb_within ..); rotate_left; decide +kernel)
    | (with_reducible apply Within.step (State.updEvt_within ..); rotate_left; decide +kernel)
    | (with_reducible apply Within.step (State.wr_within ..); rotate_left; decide +kernel) | split

def State.d2dFault_scope : Scope := ⟨[.pwr, .evt, .tacc, .tb, .tdc, .cal, .twin, .out], [R.TDC_STAT, R.TDC_EVT_STAT,
    R.CAL_STAT, R.CAL_EVT_STAT, R.EVT_LAST_FAULT, R.EVT_D2D_STAT, R.EVT_STAT, R.TWN_STAT, R.PWR_MODE_CTL,
    R.PWR_MODE_STAT, R.PWR_RAIL_STAT, R.PWR_CLK_STAT, R.EVT_LASTING, R.EVT_FCNT], []⟩
theorem State.d2dFault_within (s : State) : Within State.d2dFault_scope s (State.d2dFault s) := by
  unfold State.d2dFault
  repeat' first
    | (with_reducible assumption) | (with_reducible apply Within.refl)
    | (with_reducible apply Within.step (State.freeze_within ..); rotate_left; decide +kernel)
    | (with_reducible apply Within.step (State.updEvt_within ..); rotate_left; decide +kernel)
    | (with_reducible apply Within.step (State.lastingFault_within ..); rotate_left; decide +kernel) | split

def State.noteLog_scope : Scope := ⟨[], [R.EVT_LOG_STAT], []⟩
theorem State.noteLog_within (s : State) : Within State.noteLog_scope s (State.noteLog s) := by
  unfold State.noteLog
  repeat' first
    | (with_reducible assumption) | (with_reducible apply Within.refl)
    | (with_reducible apply Within.step (State.wr_within ..); rotate_left; decide +kernel) | split

def State.logEnter_scope : Scope := ⟨[.evt], [R.EVT_LOG_STAT, R.EVT_STAT], []⟩
theorem State.logEnter_within (s : State) (r : LogRec) : Within State.logEnter_scope s (State.logEnter s r) := by
  unfold State.logEnter
  repeat' first
    | (with_reducible assumption) | (with_reducible apply Within.refl) | lift_lets
    | (intro v; refine Within.cut (p := Within State.logEnter_scope s v) ?_ ?_; unfold v; rotate_left; clear_value v; intro hv)
    | (intro v; clear_value v) | intro v
    | (with_reducible apply Within.step (State.addSat_within ..); rotate_left; decide +kernel)
    | (with_reducible apply Within.step (State.raise_within ..); rotate_left; decide +kernel)
    | (with_reducible apply Within.step (State.updEvt_within ..); rotate_left; decide +kernel)
    | (with_reducible apply Within.step (State.wr_within ..); rotate_left; decide +kernel)
    | (with_reducible apply Within.step (State.noteLog_within ..); rotate_left; decide +kernel) | split

def State.showLatch_scope : Scope := ⟨[.evt], [R.EVT_LOG], []⟩
theorem State.showLatch_within (s : State) (r : Option LogRec) : Within State.showLatch_scope s (State.showLatch s r)
    := by
  unfold State.showLatch
  repeat' first
    | (with_reducible assumption) | (with_reducible apply Within.refl) | lift_lets
    | (intro v; refine Within.cut (p := Within State.showLatch_scope s v) ?_ ?_; unfold v; rotate_left; clear_value v; intro hv)
    | (intro v; clear_value v) | intro v
    | (with_reducible apply Within.step (State.updEvt_within ..); rotate_left; decide +kernel)
    | (with_reducible apply Within.step (State.setReg_within ..); rotate_left; decide +kernel)
    | (with_reducible apply Within.each; rotate_left; intro x a hx; try beta_reduce; rotate_left)
    | (with_reducible apply Within.foldl; rotate_left; intro x a hx; try beta_reduce; rotate_left) | split

def State.rearm_scope : Scope := ⟨[.gr, .out], [], []⟩
theorem State.rearm_within (s : State) (data : Word) : Within State.rearm_scope s (State.rearm s data) := by
  unfold State.rearm
  repeat' first
    | (with_reducible assumption) | (with_reducible apply Within.refl)
    | (with_reducible apply Within.step (State.msix_within ..); rotate_left; decide +kernel)
    | (with_reducible apply Within.each; rotate_left; intro x a hx; try beta_reduce; rotate_left)
    | (with_reducible apply Within.foldl; rotate_left; intro x a hx; try beta_reduce; rotate_left) | split

end Sys2Proof.Machine
end

