-- ==== Sys2Proof/Laws/FramesCommit.lean ====
section
/-! SUPPORT. Sys2Proof/Laws/FramesCommit.lean: what each operation of Machine/Commit.lean may change. -/
set_option Elab.async false
set_option linter.unusedTactic false
set_option linter.unreachableTactic false
set_option linter.unnecessarySeqFocus false
namespace Sys2Proof.Machine

def State.discard_scope : Scope := ⟨[.tdc, .cal], [], [0, 1, 2, 3, 4, 5, 6, 7, 8, 9, 10, 11, 12, 13, 14, 255]⟩
theorem State.discard_within (s : State) (groups : Nat) : Within State.discard_scope s (s.discard groups) := by
  have h : Within State.discard_scope s { s with regs := copySets groups s.committed s.regs } :=
    (Within.put_regs s _ (copySets_rising _ _ _)).step (.refl _ _) (by decide +kernel)
  unfold State.discard
  generalize ({ s with regs := copySets groups s.committed s.regs } : State) = a at h
  repeat' first
    | (with_reducible assumption) | (with_reducible apply Within.refl) | lift_lets
    | (intro v; refine Within.cut (p := Within State.discard_scope s v) ?_ ?_; unfold v; rotate_left; clear_value v; intro hv)
    | (intro v; clear_value v) | intro v
    | (with_reducible apply Within.step (State.updTdc_within ..); rotate_left; decide +kernel)
    | (with_reducible apply Within.step (State.updCal_within ..); rotate_left; decide +kernel) | split
    | (with_reducible apply Within.step (Within.put_regs _ _ (copySets_rising _ _ _)); rotate_left; decide +kernel)

def State.notePending_scope : Scope := ⟨[], [R.ALM_BANK_STAT], []⟩
theorem State.notePending_within (s : State) (v : State) (on : Bool) : Within State.notePending_scope s
    (State.notePending s v on) := by
  unfold State.notePending
  repeat' first
    | (with_reducible assumption) | (with_reducible apply Within.refl)
    | (with_reducible apply Within.step (State.wrB_within ..); rotate_left; decide +kernel)
    | (with_reducible apply Within.each; rotate_left; intro x a hx; try beta_reduce; rotate_left)
    | (with_reducible apply Within.foldl; rotate_left; intro x a hx; try beta_reduce; rotate_left) | split

def State.withSets_scope : Scope := ⟨[.committed], [], []⟩
theorem State.withSets_within (s : State) (groups : Nat) (snap : SMap Word) : Within State.withSets_scope s
    (State.withSets s groups snap) := by
  unfold State.withSets
  repeat' first
    | (with_reducible assumption) | (with_reducible apply Within.refl) | split
    | (with_reducible apply Within.step (Within.put_committed _ _ (copySets_rising _ _ _)); rotate_left; decide +kernel)

def State.requestCommit_scope : Scope := ⟨[.gr], [R.MBX_COMMIT_STAT, R.ALM_BANK_STAT], []⟩
theorem State.requestCommit_within (s : State) (groups when_ at_ : Nat) (path : Option (Fin 16)) (restore : Nat) :
    Within State.requestCommit_scope s (s.requestCommit groups when_ at_ path restore) := by
  unfold State.requestCommit
  extract_lets c s'
  have h : Within State.requestCommit_scope s s' :=
    (State.noteCommits_within ..).step ((State.updGr_within ..).step (.refl _ _) (by decide +kernel)) (by decide +kernel)
  split
  · exact (State.notePending_within ..).step h (by decide +kernel)
  · exact h

def State.resnap_scope : Scope := ⟨[.gr], [R.ALM_BANK_STAT], []⟩
theorem State.resnap_within (s : State) : Within State.resnap_scope s (State.resnap s) := by
  unfold State.resnap
  repeat' first
    | (with_reducible assumption) | (with_reducible apply Within.refl) | lift_lets
    | (intro v; refine Within.cut (p := Within State.resnap_scope s v) ?_ ?_; unfold v; rotate_left; clear_value v; intro hv)
    | (intro v; clear_value v) | intro v
    | (with_reducible apply Within.step (State.updGr_within ..); rotate_left; decide +kernel)
    | (with_reducible apply Within.step (State.notePending_within ..); rotate_left; decide +kernel)
    | (with_reducible apply Within.step (State.withSets_within ..); rotate_left; decide +kernel)
    | (with_reducible apply Within.each; rotate_left; intro x a hx; try beta_reduce; rotate_left)
    | (with_reducible apply Within.foldl; rotate_left; intro x a hx; try beta_reduce; rotate_left) | split

def State.applyGrn_scope : Scope := ⟨[.evt, .tacc, .ports, .grn], [R.GRN_POOL_STAT, R.EVT_STAT], []⟩
theorem State.applyGrn_within (s b : State) : Within State.applyGrn_scope s (State.applyGrn s b) := by
  unfold State.applyGrn
  repeat' first
    | (with_reducible assumption) | (with_reducible apply Within.refl) | lift_lets
    | (intro v; refine Within.cut (p := Within State.applyGrn_scope s v) ?_ ?_; unfold v; rotate_left; clear_value v; intro hv)
    | (intro v; clear_value v) | intro v
    | (with_reducible apply Within.step (State.updGrn_within ..); rotate_left; decide +kernel)
    | (with_reducible apply Within.step (State.wr_within ..); rotate_left; decide +kernel)
    | (with_reducible apply Within.step (State.judgeIn_within ..); rotate_left; decide +kernel)
    | (with_reducible apply Within.each; rotate_left; intro x a hx; try beta_reduce; rotate_left)
    | (with_reducible apply Within.foldl; rotate_left; intro x a hx; try beta_reduce; rotate_left) | split

def State.applyAlm_scope : Scope := ⟨[.evt, .tacc, .ports, .sheaves, .fwd, .grn, .alm], [R.GRN_POOL_STAT,
    R.GRN_EVT_STAT, R.ALM_BANK_STAT, R.ALM_EVT_STAT, R.ALM_EVT_SRC, R.EVT_STAT], []⟩
theorem State.applyAlm_within (s b : State) : Within State.applyAlm_scope s (State.applyAlm s b) := by
  unfold State.applyAlm
  repeat' first
    | (with_reducible assumption) | (with_reducible apply Within.refl) | lift_lets
    | (intro v; refine Within.cut (p := Within State.applyAlm_scope s v) ?_ ?_; unfold v; rotate_left; clear_value v; intro hv)
    | (intro v; clear_value v) | intro v
    | (with_reducible apply Within.step (State.wrB_within ..); rotate_left; decide +kernel)
    | (with_reducible apply Within.step (State.almSwitched_within ..); rotate_left; decide +kernel)
    | (with_reducible apply Within.step (State.noteBank_within ..); rotate_left; decide +kernel)
    | (with_reducible apply Within.each; rotate_left; intro x a hx; try beta_reduce; rotate_left)
    | (with_reducible apply Within.foldl; rotate_left; intro x a hx; try beta_reduce; rotate_left) | split

def State.applyFwd_scope : Scope := ⟨[.nextOrd, .evt, .tacc, .ports, .fwd, .grn], [R.FWD_STAT, R.FWD_EVT_STAT,
    R.FWD_EGR_STAT, R.GRN_POOL_STAT, R.GRN_SILO_STAT, R.GRN_EVT_STAT, R.EVT_STAT], []⟩
theorem State.applyFwd_within (s b : State) : Within State.applyFwd_scope s (State.applyFwd s b) := by
  unfold State.applyFwd
  repeat' first
    | (with_reducible assumption) | (with_reducible apply Within.refl) | lift_lets
    | (intro v; refine Within.cut (p := Within State.applyFwd_scope s v) ?_ ?_; unfold v; rotate_left; clear_value v; intro hv)
    | (intro v; clear_value v) | intro v
    | (with_reducible apply Within.step (State.startDrain_within ..); rotate_left; decide +kernel)
    | (with_reducible apply Within.step (State.enterDrop_within ..); rotate_left; decide +kernel)
    | (with_reducible apply Within.each; rotate_left; intro x a hx; try beta_reduce; rotate_left)
    | (with_reducible apply Within.foldl; rotate_left; intro x a hx; try beta_reduce; rotate_left) | split

theorem State.putCom_within (s : State) (set : SMap Word → SMap Word) (h : ∀ m, SMap.rising m → SMap.rising (set m)) :
    Within ⟨[.committed], [], []⟩ s (s.putCom set) := Within.put_committed s _ (h _)


def State.applyGroups_scope : Scope := ⟨[.nextOrd, .nextFrame, .committed, .latches, .mem, .pwr, .boot, .gr, .evt,
    .tally, .tacc, .ports, .cars, .sheaves, .fwd, .grn, .alm, .tb, .tt, .ref, .syn, .tdc, .cal, .twin, .out],
    [R.PWR_RAIL_STAT, R.PWR_CLK_STAT, R.PWR_OCXO_STAT, R.PWR_BOOT_STAT, R.EVT_FCNT], [0, 1, 2, 3, 4, 5, 6, 7, 8, 9,
    10, 11, 12, 14]⟩
theorem State.applyGroups_within (s : State) (groups : Nat) (set : SMap Word → SMap Word) (bins : SMap Nat)
    (paths : List (Nat × Int × Nat)) (hset : ∀ m, SMap.rising m → SMap.rising (set m)) :
    Within State.applyGroups_scope s (s.applyGroups groups set bins paths) := by
  unfold State.applyGroups
  repeat' first
    | (with_reducible assumption) | (with_reducible apply Within.refl) | lift_lets
    | (intro v; refine Within.cut (p := Within State.applyGroups_scope s v) ?_ ?_; unfold v; rotate_left; clear_value v; intro hv)
    | (intro v; clear_value v) | intro v
    | (with_reducible apply Within.step (State.relinquish_within ..); rotate_left; decide +kernel)
    | (with_reducible apply Within.step (State.refPrepare_within ..); rotate_left; decide +kernel)
    | (with_reducible apply Within.step (State.tbsPrepare_within ..); rotate_left; decide +kernel)
    | (with_reducible apply Within.step (State.tbsCommit_within ..); rotate_left; decide +kernel)
    | (with_reducible apply Within.step (State.refCommit_within ..); rotate_left; decide +kernel)
    | (with_reducible apply Within.step (State.updCal_within ..); rotate_left; decide +kernel)
    | (with_reducible apply Within.step (State.prtCommit_within ..); rotate_left; decide +kernel)
    | (with_reducible apply Within.step (State.shfCommit_within ..); rotate_left; decide +kernel)
    | (with_reducible apply Within.step (State.applyFwd_within ..); rotate_left; decide +kernel)
    | (with_reducible apply Within.step (State.applyGrn_within ..); rotate_left; decide +kernel)
    | (with_reducible apply Within.step (State.applyAlm_within ..); rotate_left; decide +kernel)
    | (with_reducible apply Within.step (State.ckoCommit_within ..); rotate_left; decide +kernel)
    | (with_reducible apply Within.step (State.tdcCommit_within ..); rotate_left; decide +kernel)
    | (with_reducible apply Within.step (State.calCommit_within ..); rotate_left; decide +kernel)
    | (with_reducible apply Within.step (State.twnCommit_within ..); rotate_left; decide +kernel)
    | (with_reducible apply Within.step (State.putCom_within _ _ hset); rotate_left; decide +kernel)
    | (with_reducible apply Within.each; rotate_left; intro x a hx; try beta_reduce; rotate_left)
    | (with_reducible apply Within.foldl; rotate_left; intro x a hx; try beta_reduce; rotate_left) | split

def State.restoreAlm_scope : Scope := ⟨[.mem, .gr, .evt, .out], [R.MBX_STATE, R.MBX_RETRY_STAT, R.MBX_COMMIT_STAT,
    R.ALM_BANK_STAT, R.EVT_STAT, R.EVT_FCNT], []⟩
theorem State.restoreAlm_within (s : State) (m : Fin 16) : Within State.restoreAlm_scope s (State.restoreAlm s m) :=
    by
  unfold State.restoreAlm
  repeat' first
    | (with_reducible assumption) | (with_reducible apply Within.refl)
    | (with_reducible apply Within.step (State.complete_within ..); rotate_left; decide +kernel)
    | (with_reducible apply Within.step (State.requestCommit_within ..); rotate_left; decide +kernel) | split

def State.restoreTail_scope : Scope := ⟨[.nextOrd, .mem, .gr, .evt, .out], [R.MBX_STATE, R.MBX_RETRY_STAT,
    R.MBX_COMMIT_STAT, R.ALM_BANK_STAT, R.EVT_STAT, R.EVT_FCNT], []⟩
theorem State.restoreTail_within (s : State) (m : Fin 16) : Within State.restoreTail_scope s (State.restoreTail s m)
    := by
  unfold State.restoreTail
  repeat' first
    | (with_reducible assumption) | (with_reducible apply Within.refl) | lift_lets
    | (intro v; refine Within.cut (p := Within State.restoreTail_scope s v) ?_ ?_; unfold v; rotate_left; clear_value v; intro hv)
    | (intro v; clear_value v) | intro v
    | (with_reducible apply Within.step (State.running_within ..); rotate_left; decide +kernel)
    | (with_reducible apply Within.step (State.restoreAlm_within ..); rotate_left; decide +kernel)
    | (with_reducible apply Within.step (State.issueFetches_within ..); rotate_left; decide +kernel)
    | (with_reducible apply Within.step (State.updTable_within ..); rotate_left; decide +kernel) | split
    | (with_reducible apply Within.step (Within.put_nextOrd .. ); rotate_left; decide +kernel)

def State.endCommit_scope : Scope := ⟨[.nextOrd, .mem, .gr, .evt, .out], [R.MBX_STATE, R.MBX_RETRY_STAT,
    R.MBX_COMMIT_STAT, R.ALM_BANK_STAT, R.EVT_STAT, R.EVT_FCNT], []⟩
theorem State.endCommit_within (s : State) (c : Commit) (status detail : Nat) : Within State.endCommit_scope s
    (State.endCommit s c status detail) := by
  unfold State.endCommit
  repeat' first
    | (with_reducible assumption) | (with_reducible apply Within.refl) | lift_lets
    | (intro v; refine Within.cut (p := Within State.endCommit_scope s v) ?_ ?_; unfold v; rotate_left; clear_value v; intro hv)
    | (intro v; clear_value v) | intro v
    | (with_reducible apply Within.step (State.updGr_within ..); rotate_left; decide +kernel)
    | (with_reducible apply Within.step (State.noteCommits_within ..); rotate_left; decide +kernel)
    | (with_reducible apply Within.step (State.restoreTail_within ..); rotate_left; decide +kernel)
    | (with_reducible apply Within.step (State.commitResult_within ..); rotate_left; decide +kernel) | split

def State.applyCommit_scope : Scope := ⟨[.nextOrd, .nextFrame, .committed, .latches, .mem, .pwr, .boot, .gr, .evt,
    .tally, .tacc, .ports, .cars, .sheaves, .fwd, .grn, .alm, .tb, .tt, .ref, .syn, .tdc, .cal, .twin, .out],
    [R.PWR_RAIL_STAT, R.PWR_CLK_STAT, R.PWR_OCXO_STAT, R.PWR_BOOT_STAT, R.EVT_FCNT], [0, 1, 2, 3, 4, 5, 6, 7, 8, 9,
    10, 11, 12, 14]⟩
theorem State.applyCommit_within (s : State) (c : Commit) : Within State.applyCommit_scope s (State.applyCommit s c)
    := by
  unfold State.applyCommit
  repeat' first
    | (with_reducible assumption) | (with_reducible apply Within.refl) | lift_lets
    | (intro v; refine Within.cut (p := Within State.applyCommit_scope s v) ?_ ?_; unfold v; rotate_left; clear_value v; intro hv)
    | (intro v; clear_value v) | intro v
    | (with_reducible apply Within.step (State.endCommit_within ..); rotate_left; decide +kernel)
    | (with_reducible apply Within.step (State.wr_within ..); rotate_left; decide +kernel)
    | (with_reducible apply Within.step (State.mirrorTxn_within ..); rotate_left; decide +kernel)
    | (with_reducible apply Within.step (State.applyGroups_within _ _ _ _ _ (copySets_rising _ _)); rotate_left; decide +kernel)
    | split

def State.commitWaits_scope : Scope := ⟨[.gr, .evt, .tacc, .twin, .out], [R.MBX_COMMIT_STAT, R.EVT_STAT,
    R.TWN_TXN_STAT], []⟩
theorem State.commitWaits_within (s : State) (c : Commit) (bound : Option Nat) (when_ : Nat) (apply : List Byte) :
    Within State.commitWaits_scope s (s.commitWaits c bound when_ apply) := by
  unfold State.commitWaits
  extract_lets c' a v b
  have ha : Within State.commitWaits_scope s a := (State.updGr_within ..).step (.refl _ _) (by decide +kernel)
  have hb : Within State.commitWaits_scope s b := by
    unfold b
    split
    · exact (State.mirrorTxn_within ..).step ha (by decide +kernel)
    · exact ha
  exact (State.noteCommits_within ..).step hb (by decide +kernel)

def State.commitFails_scope : Scope := ⟨[.nextOrd, .mem, .gr, .evt, .out], [R.MBX_STATE, R.MBX_RETRY_STAT,
    R.MBX_COMMIT_STAT, R.MBX_COMMIT_FAIL, R.ALM_BANK_STAT, R.ALM_BAD_ENTRY, R.ALM_EVT_STAT, R.ALM_EVT_SRC,
    R.EVT_RESERVED_OFS, R.EVT_STAT, R.EVT_FCNT], []⟩
theorem State.commitFails_within (s : State) (c : Commit) (status ofs g : Nat) (enc : Bool) :
    Within State.commitFails_scope s (s.commitFails c status ofs g enc) := by
  unfold State.commitFails
  lift_lets
  intro v
  clear_value v
  repeat' first
    | (with_reducible assumption) | (with_reducible apply Within.refl) | lift_lets
    | (intro v; refine Within.cut (p := Within State.commitFails_scope s v) ?_ ?_; unfold v; rotate_left; clear_value v; intro hv)
    | (intro v; clear_value v)
    | (with_reducible apply Within.step (State.almRaise_within _ _ _ rfl); rotate_left; decide +kernel)
    | (with_reducible apply Within.step (State.endCommit_within ..); rotate_left; decide +kernel)
    | (with_reducible apply Within.step (State.wr_within ..); rotate_left; decide +kernel)
    | (with_reducible apply Within.step (State.notePending_within ..); rotate_left; decide +kernel)
    | (with_reducible apply Within.step (State.reservedEnc_within ..); rotate_left; decide +kernel) | split

def State.goResult_scope : Scope := ⟨[.mem, .gr, .evt, .out], [R.MBX_STATE, R.MBX_RETRY_STAT, R.MBX_COMMIT_STAT,
    R.EVT_STAT, R.EVT_FCNT], []⟩
theorem State.goResult_within (s : State) (status : Nat) : Within State.goResult_scope s (State.goResult s status) :=
    by
  unfold State.goResult
  repeat' first
    | (with_reducible assumption) | (with_reducible apply Within.refl)
    | (with_reducible apply Within.step (State.commitResult_within ..); rotate_left; decide +kernel) | split

def State.yieldGo_scope : Scope := ⟨[.nextOrd, .mem, .gr, .evt, .out], [R.MBX_STATE, R.MBX_RETRY_STAT,
    R.MBX_COMMIT_STAT, R.ALM_BANK_STAT, R.EVT_STAT, R.EVT_FCNT], []⟩
theorem State.yieldGo_within (s : State) (groups : Nat) : Within State.yieldGo_scope s (State.yieldGo s groups) := by
  unfold State.yieldGo
  repeat' first
    | (with_reducible assumption) | (with_reducible apply Within.refl) | lift_lets
    | (intro v; refine Within.cut (p := Within State.yieldGo_scope s v) ?_ ?_; unfold v; rotate_left; clear_value v; intro hv)
    | (intro v; clear_value v) | intro v
    | (with_reducible apply Within.step (State.notePending_within ..); rotate_left; decide +kernel)
    | (with_reducible apply Within.step (State.endCommit_within ..); rotate_left; decide +kernel)
    | (with_reducible apply Within.each; rotate_left; intro x a hx; try beta_reduce; rotate_left)
    | (with_reducible apply Within.foldl; rotate_left; intro x a hx; try beta_reduce; rotate_left) | split

def State.commitGo_scope : Scope := ⟨[.nextOrd, .mem, .gr, .evt, .out], [R.MBX_STATE, R.MBX_RETRY_STAT,
    R.MBX_COMMIT_STAT, R.ALM_BANK_STAT, R.EVT_RESERVED_OFS, R.EVT_STAT, R.EVT_FCNT], []⟩
theorem State.commitGo_within (s : State) (w : Word) : Within State.commitGo_scope s (State.commitGo s w) := by
  unfold State.commitGo
  repeat' first
    | (with_reducible assumption) | (with_reducible apply Within.refl) | lift_lets
    | (intro v; refine Within.cut (p := Within State.commitGo_scope s v) ?_ ?_; unfold v; rotate_left; clear_value v; intro hv)
    | (intro v; clear_value v) | intro v
    | (with_reducible apply Within.step (State.reservedEnc_within ..); rotate_left; decide +kernel)
    | (with_reducible apply Within.step (State.goResult_within ..); rotate_left; decide +kernel)
    | (with_reducible apply Within.step (State.yieldGo_within ..); rotate_left; decide +kernel)
    | (with_reducible apply Within.step (State.requestCommit_within ..); rotate_left; decide +kernel) | split

def State.commitDiscard_scope : Scope := ⟨[.evt, .tdc, .cal], [], [0, 1, 2, 3, 4, 5, 6, 7, 8, 9, 10, 11, 12, 13, 14,
    255]⟩
theorem State.commitDiscard_within (s : State) (w : Word) : Within State.commitDiscard_scope s (State.commitDiscard s
    w) := by
  unfold State.commitDiscard
  repeat' first
    | (with_reducible assumption) | (with_reducible apply Within.refl)
    | (with_reducible apply Within.step (State.reservedEnc_within ..); rotate_left; decide +kernel)
    | (with_reducible apply Within.step (State.discard_within ..); rotate_left; decide +kernel) | split

end Sys2Proof.Machine
end

