-- ==== Sys2Proof/Laws/FramesTables.lean ====
section
/-! SUPPORT. Sys2Proof/Laws/FramesTables.lean: what each operation of Machine/Tables.lean may change. -/
set_option Elab.async false
set_option linter.unusedTactic false
set_option linter.unreachableTactic false
set_option linter.unnecessarySeqFocus false
namespace Sys2Proof.Machine

def State.dtCount_scope : Scope := ⟨[.gr, .out], [R.MBX_DT_STAT], []⟩
theorem State.dtCount_within (s : State) (f : Fld) (t : Nat) (hf : f.reg = R.MBX_DT_STAT) :
    Within State.dtCount_scope s (s.dtCount f t) := by
  have h : Within State.dtCount_scope s (s.addSat f t 1) := (State.addSat_within ..).step (.refl _ _) (by rw [hf]; decide +kernel)
  unfold State.dtCount
  extract_lets s'
  split
  · exact .refl _ _
  · exact (State.msix_within ..).step h (by decide +kernel)

def State.notePinned_scope : Scope := ⟨[], [R.FWD_STAT], []⟩
theorem State.notePinned_within (s : State) : Within State.notePinned_scope s (State.notePinned s) := by
  unfold State.notePinned
  repeat' first
    | (with_reducible assumption) | (with_reducible apply Within.refl)
    | (with_reducible apply Within.step (State.wr_within ..); rotate_left; decide +kernel) | split

def State.noteVersions_scope : Scope := ⟨[], [R.FWD_VER_STAT], []⟩
theorem State.noteVersions_within (s : State) : Within State.noteVersions_scope s (State.noteVersions s) := by
  unfold State.noteVersions
  repeat' first
    | (with_reducible assumption) | (with_reducible apply Within.refl) | lift_lets
    | (intro v; refine Within.cut (p := Within State.noteVersions_scope s v) ?_ ?_; unfold v; rotate_left; clear_value v; intro hv)
    | (intro v; clear_value v) | intro v
    | (with_reducible apply Within.step (State.wr_within ..); rotate_left; decide +kernel)
    | (with_reducible apply Within.step (State.wrB_within ..); rotate_left; decide +kernel) | split

def State.refuseEntry_scope : Scope := ⟨[.evt], [R.FWD_BAD_ENTRY, R.FWD_BAD_ENTRY_CNT, R.FWD_EVT_STAT,
    R.ALM_BAD_ENTRY, R.ALM_BAD_ENTRY_CNT, R.ALM_EVT_STAT, R.ALM_EVT_SRC], []⟩
theorem State.refuseEntry_within (s : State) (t i cause : Nat) : Within State.refuseEntry_scope s (State.refuseEntry s
    t i cause) := by
  unfold State.refuseEntry
  repeat' first
    | (with_reducible assumption) | (with_reducible apply Within.refl) | lift_lets
    | (intro v; refine Within.cut (p := Within State.refuseEntry_scope s v) ?_ ?_; unfold v; rotate_left; clear_value v; intro hv)
    | (intro v; clear_value v) | intro v
    | (with_reducible apply Within.step (State.wr_within ..); rotate_left; decide +kernel)
    | (with_reducible apply Within.step (State.addSat_within ..); rotate_left; decide +kernel)
    | (with_reducible apply Within.step (State.almRaise_within _ _ _ rfl); rotate_left; decide +kernel)
    | (with_reducible apply Within.step (State.raise_within ..); rotate_left; decide +kernel) | split

def State.placeEntry_scope : Scope := ⟨[.gr, .evt], [R.FWD_STAT, R.FWD_EVT_STAT, R.ALM_BANK_STAT], []⟩
theorem State.placeEntry_within (s : State) (t i : Nat) (b : List Byte) (old : Entry) : Within State.placeEntry_scope
    s (State.placeEntry s t i b old) := by
  unfold State.placeEntry
  repeat' first
    | (with_reducible assumption) | (with_reducible apply Within.refl) | lift_lets
    | (intro v; refine Within.cut (p := Within State.placeEntry_scope s v) ?_ ?_; unfold v; rotate_left; clear_value v; intro hv)
    | (intro v; clear_value v) | intro v
    | (with_reducible apply Within.step (State.updGr_within ..); rotate_left; decide +kernel)
    | (with_reducible apply Within.step (State.updEnt_within ..); rotate_left; decide +kernel)
    | (with_reducible apply Within.step (State.raise_within ..); rotate_left; decide +kernel)
    | (with_reducible apply Within.step (State.notePinned_within ..); rotate_left; decide +kernel)
    | (with_reducible apply Within.step (State.noteBank_within ..); rotate_left; decide +kernel) | split

def State.tryInstall_scope : Scope := ⟨[.gr, .evt, .out], [R.FWD_STAT, R.FWD_VER_STAT, R.FWD_BAD_ENTRY,
    R.FWD_BAD_ENTRY_CNT, R.FWD_EVT_STAT, R.ALM_BANK_STAT, R.ALM_BAD_ENTRY, R.ALM_BAD_ENTRY_CNT, R.ALM_EVT_STAT,
    R.ALM_EVT_SRC, R.MBX_DT_STAT], []⟩
theorem State.tryInstall_snd (s : State) (t i : Nat) (b : List Byte) (reload : Bool) : Within State.tryInstall_scope s (State.tryInstall s t i b reload).2 := by
    unfold State.tryInstall
    repeat' first
      | (with_reducible assumption) | (with_reducible apply Within.refl)
      | (with_reducible apply Within.step (State.dtCount_within ..); rotate_left; decide +kernel)
      | (with_reducible apply Within.step (State.refuseEntry_within ..); rotate_left; decide +kernel)
      | (with_reducible apply Within.step (State.raise_within ..); rotate_left; decide +kernel)
      | (with_reducible apply Within.step (State.noteVersions_within ..); rotate_left; decide +kernel)
      | (with_reducible apply Within.step (State.placeEntry_within ..); rotate_left; decide +kernel)
      | (with_reducible apply Within.step (State.updGr_within ..); rotate_left; decide +kernel) | exact rfl | split
      | dsimp only


theorem State.tryInstall_within {s s' : State} {t i : Nat} {b : List Byte} {reload : Bool} {r} (h : State.tryInstall s t i b reload = (r, s')) :
    Within State.tryInstall_scope s s' := by
  have := State.tryInstall_snd s t i b reload
  rwa [h] at this


def State.installDone_scope : Scope := ⟨[.mem, .gr, .evt, .tacc, .twin, .out], [R.MBX_STATE, R.MBX_RETRY_STAT,
    R.MBX_COMMIT_STAT, R.ALM_BANK_STAT, R.EVT_STAT, R.TWN_TXN_STAT, R.EVT_FCNT, R.MBX_DT_DONE], []⟩
theorem State.installDone_within (s : State) (t : Nat) (i : Install) : Within State.installDone_scope s
    (State.installDone s t i) := by
  unfold State.installDone
  repeat' first
    | (with_reducible assumption) | (with_reducible apply Within.refl) | lift_lets
    | (intro v; refine Within.cut (p := Within State.installDone_scope s v) ?_ ?_; unfold v; rotate_left; clear_value v; intro hv)
    | (intro v; clear_value v) | intro v
    | (with_reducible apply Within.step (State.updTable_within ..); rotate_left; decide +kernel)
    | (with_reducible apply Within.step (State.mirrorTxns_within ..); rotate_left; decide +kernel)
    | (with_reducible apply Within.step (State.addWrap_within ..); rotate_left; decide +kernel)
    | (with_reducible apply Within.step (State.restoreAlm_within ..); rotate_left; decide +kernel)
    | (with_reducible apply Within.step (State.complete_within ..); rotate_left; decide +kernel) | split

def State.advance_scope : Scope := ⟨[.mem, .gr, .evt, .tacc, .twin, .out], [R.MBX_STATE, R.MBX_RETRY_STAT,
    R.MBX_COMMIT_STAT, R.ALM_BANK_STAT, R.EVT_STAT, R.TWN_TXN_STAT, R.EVT_FCNT, R.MBX_DT_DONE], []⟩
theorem State.advance_within (s : State) (t : Nat) (i : Install) : Within State.advance_scope s (State.advance s t i)
    := by
  unfold State.advance
  repeat' first
    | (with_reducible assumption) | (with_reducible apply Within.refl) | lift_lets
    | (intro v; refine Within.cut (p := Within State.advance_scope s v) ?_ ?_; unfold v; rotate_left; clear_value v; intro hv)
    | (intro v; clear_value v) | intro v
    | (with_reducible apply Within.step (State.updTable_within ..); rotate_left; decide +kernel)
    | (with_reducible apply Within.step (State.count_within ..); rotate_left; decide +kernel)
    | (with_reducible apply Within.step (State.installDone_within ..); rotate_left; decide +kernel) | split

def State.takeEntry_scope : Scope := ⟨[.mem, .gr, .evt, .tacc, .twin, .out], [R.MBX_STATE, R.MBX_RETRY_STAT,
    R.MBX_COMMIT_STAT, R.FWD_STAT, R.FWD_VER_STAT, R.FWD_BAD_ENTRY, R.FWD_BAD_ENTRY_CNT, R.FWD_EVT_STAT,
    R.ALM_BANK_STAT, R.ALM_BAD_ENTRY, R.ALM_BAD_ENTRY_CNT, R.ALM_EVT_STAT, R.ALM_EVT_SRC, R.EVT_STAT, R.TWN_TXN_STAT,
    R.EVT_FCNT, R.MBX_DT_DONE, R.MBX_DT_STAT], []⟩
theorem State.takeEntry_within (s : State) (t : Nat) (i : Install) (b : List Byte) : Within State.takeEntry_scope s
    (State.takeEntry s t i b) := by
  unfold State.takeEntry
  repeat' first
    | (with_reducible assumption) | (with_reducible apply Within.refl) | lift_lets
    | (intro v; refine Within.cut (p := Within State.takeEntry_scope s v) ?_ ?_; unfold v; rotate_left; clear_value v; intro hv)
    | (intro v; clear_value v) | intro v
    | (with_reducible apply Within.step (State.tryInstall_within (h := ?h)); (case h => assumption); rotate_left; decide +kernel)
    | (with_reducible apply Within.step (State.advance_within ..); rotate_left; decide +kernel)
    | (with_reducible apply Within.step (State.updTable_within ..); rotate_left; decide +kernel)
    | (with_reducible apply Within.step (State.raise_within ..); rotate_left; decide +kernel)
    | (with_reducible apply Within.step (State.noteVersions_within ..); rotate_left; decide +kernel) | split

def State.notify_scope : Scope := ⟨[.nextOrd, .gr, .evt, .out], [R.EVT_RESERVED_OFS, R.EVT_STAT, R.MBX_DT_SEQ,
    R.MBX_DT_STAT], []⟩
theorem State.notify_within (s : State) (t : Nat) (w : Word) : Within State.notify_scope s (State.notify s t w) := by
  unfold State.notify
  repeat' first
    | (with_reducible assumption) | (with_reducible apply Within.refl) | lift_lets
    | (intro v; refine Within.cut (p := Within State.notify_scope s v) ?_ ?_; unfold v; rotate_left; clear_value v; intro hv)
    | (intro v; clear_value v) | intro v
    | (with_reducible apply Within.step (State.reservedEnc_within ..); rotate_left; decide +kernel)
    | (with_reducible apply Within.step (State.dtCount_within _ _ _ rfl); rotate_left; decide +kernel)
    | (with_reducible apply Within.step (State.updTable_within ..); rotate_left; decide +kernel)
    | (with_reducible apply Within.step (State.addWrap_within ..); rotate_left; decide +kernel)
    | (with_reducible apply Within.step (State.issueFetches_within ..); rotate_left; decide +kernel) | split
    | (with_reducible apply Within.step (Within.put_nextOrd ..); rotate_left; decide +kernel)

def State.fetchFailed_scope : Scope := ⟨[.pwr, .gr, .evt, .tacc, .tdc, .cal, .twin, .out], [R.MBX_RETRY_STAT,
    R.TDC_STAT, R.TDC_EVT_STAT, R.CAL_STAT, R.CAL_EVT_STAT, R.EVT_LAST_FAULT, R.EVT_STAT, R.TWN_STAT, R.PWR_MODE_CTL,
    R.PWR_MODE_STAT, R.PWR_RAIL_STAT, R.PWR_CLK_STAT, R.EVT_LASTING, R.EVT_FCNT, R.MBX_DT_STAT], []⟩
theorem State.fetchFailed_within (s : State) (t k : Nat) : Within State.fetchFailed_scope s (State.fetchFailed s t k)
    := by
  unfold State.fetchFailed
  repeat' first
    | (with_reducible assumption) | (with_reducible apply Within.refl) | lift_lets
    | (intro v; refine Within.cut (p := Within State.fetchFailed_scope s v) ?_ ?_; unfold v; rotate_left; clear_value v; intro hv)
    | (intro v; clear_value v) | intro v
    | (with_reducible apply Within.step (State.addSat_within ..); rotate_left; decide +kernel)
    | (with_reducible apply Within.step (State.wr_within ..); rotate_left; decide +kernel)
    | (with_reducible apply Within.step (State.msix_within ..); rotate_left; decide +kernel)
    | (with_reducible apply Within.step (State.lastingFault_within ..); rotate_left; decide +kernel) | split

def State.bindTable_scope : Scope := ⟨[.gr], [R.FWD_STAT, R.FWD_VER_STAT, R.ALM_BANK_STAT, R.MBX_DT_SEQ,
    R.MBX_DT_DONE, R.MBX_DT_BIND], []⟩
theorem State.bindTable_within (s : State) (t : Nat) (addr : Option Nat) (count : Nat) : Within State.bindTable_scope
    s (State.bindTable s t addr count) := by
  unfold State.bindTable
  repeat' first
    | (with_reducible assumption) | (with_reducible apply Within.refl) | lift_lets
    | (intro v; refine Within.cut (p := Within State.bindTable_scope s v) ?_ ?_; unfold v; rotate_left; clear_value v; intro hv)
    | (intro v; clear_value v) | intro v
    | (with_reducible apply Within.step (State.updTable_within ..); rotate_left; decide +kernel)
    | (with_reducible apply Within.step (State.wr_within ..); rotate_left; decide +kernel)
    | (with_reducible apply Within.step (State.notePinned_within ..); rotate_left; decide +kernel)
    | (with_reducible apply Within.step (State.noteBank_within ..); rotate_left; decide +kernel)
    | (with_reducible apply Within.step (State.noteVersions_within ..); rotate_left; decide +kernel)
    | (with_reducible apply Within.each; rotate_left; intro x a hx; try beta_reduce; rotate_left)
    | (with_reducible apply Within.foldl; rotate_left; intro x a hx; try beta_reduce; rotate_left) | split

end Sys2Proof.Machine
end

