-- ==== Sys2Proof/Laws/FramesRegWrite.lean ====
section
/-! SUPPORT. Sys2Proof/Laws/FramesRegWrite.lean: what each operation of Machine/RegWrite.lean may change. -/
set_option Elab.async false
set_option linter.unusedTactic false
set_option linter.unreachableTactic false
set_option linter.unnecessarySeqFocus false
namespace Sys2Proof.Machine

theorem State.writeReg_within (s : State) (row : RegRow) (i : Nat) (data : Word) (ofs : Nat) (smbus : Bool)
    (b : Nat) (hb : row.reg.inBlock b = true) (hp : 0 < row.reg.stride) :
    Within ⟨[.evt], [R.EVT_RESERVED_OFS, R.EVT_STAT], [b]⟩ s (s.writeReg row i data ofs smbus) := by
  have h : Within ⟨[.evt], [R.EVT_RESERVED_OFS, R.EVT_STAT], [b]⟩ s
      (s.setReg row.reg i (Machine.writeWord row.flds (s.reg row.reg i) data)) :=
    (State.setReg_within ..).step (.refl _ _) (by simp [Scope.le, hp, hb])
  have hle : ((State.reservedEnc_scope.regs.all (fun r => decide (0 < r.stride))) &&
      State.reservedEnc_scope.le ⟨[.evt], [R.EVT_RESERVED_OFS, R.EVT_STAT], [b]⟩) = true := by
    simp [Scope.le, State.reservedEnc_scope, Reg.sameAs, R.EVT_RESERVED_OFS, R.EVT_STAT]
  unfold State.writeReg
  extract_lets s'
  split
  · exact (State.reservedEnc_within ..).step (.refl _ _) hle
  · split
    · exact (State.reservedEnc_within ..).step h hle
    · exact h

/-- Every register of the map lies in its block. -/
theorem blockRows_in (b : Nat) : ∀ row ∈ blockRows b, row.reg.inBlock b = true ∧ 0 < row.reg.stride := by
  rcases Nat.lt_or_ge b 15 with h | h
  · have : ∀ b < 15, (blockRows b).all (fun row => row.reg.inBlock b && decide (0 < row.reg.stride)) = true := by
      decide +kernel
    intro row hr
    simpa using List.all_eq_true.1 (this b h) row hr
  · intro row hr
    have : blockRows b = [] := by
      unfold blockRows
      split <;> first | omega | rfl
    rw [this] at hr
    cases hr

theorem findRow_mem {l : List RegRow} {a i : Nat} {row : RegRow} (h : findRow l a = some (row, i)) : row ∈ l := by
  induction l with
  | nil => cases h
  | cons x l ih =>
    unfold findRow at h
    split at h
    · cases h; exact List.mem_cons_self
    · exact List.mem_cons_of_mem _ (ih h)

theorem regAt_in {a i : Nat} {row : RegRow} (h : regAt a = some (row, i)) :
    row.reg.inBlock (blockOf a) = true ∧ 0 < row.reg.stride := by
  unfold regAt at h
  split at h
  · rename_i r j he
    split at h
    · cases h
    · cases h; exact blockRows_in _ _ (findRow_mem he)
  · cases h


end Sys2Proof.Machine
end

