-- ==== Sys2Proof/Laws/FramesPower.lean ====
section
/-! SUPPORT. Sys2Proof/Laws/FramesPower.lean: what each operation of Machine/Power.lean may change. -/
set_option Elab.async false
set_option linter.unusedTactic false
set_option linter.unreachableTactic false
set_option linter.unnecessarySeqFocus false
namespace Sys2Proof.Machine

def State.updFeed_scope : Scope := ⟨[.pwr], [], []⟩
theorem State.updFeed_within (s : State) (f : Fin 2) (g : Feed → Feed) : Within State.updFeed_scope s (State.updFeed s
    f g) := by
  unfold State.updFeed
  repeat' first
    | (with_reducible assumption) | (with_reducible apply Within.refl)
    | (with_reducible apply Within.step (State.updPwr_within ..); rotate_left; decide +kernel) | split

def State.stop_scope : Scope := ⟨[.committed, .latches, .mem, .pwr, .boot, .gr, .evt, .tally, .tacc, .ports, .cars,
    .sheaves, .fwd, .grn, .alm, .tb, .tt, .ref, .syn, .tdc, .cal, .twin, .out], [R.PWR_FEED_STAT, R.PWR_RAIL_STAT,
    R.PWR_CLK_STAT, R.PWR_OCXO_STAT, R.PWR_BOOT_STAT, R.EVT_FCNT], [0, 1, 2, 3, 4, 5, 6, 7, 8, 9, 10, 11, 12, 14]⟩
theorem State.stop_within (s : State) : Within State.stop_scope s (State.stop s) := by
  unfold State.stop
  repeat' first
    | (with_reducible assumption) | (with_reducible apply Within.refl) | lift_lets
    | (intro v; refine Within.cut (p := Within State.stop_scope s v) ?_ ?_; unfold v; rotate_left; clear_value v; intro hv)
    | (intro v; clear_value v) | intro v
    | (with_reducible apply Within.step (State.railOff_within ..); rotate_left; decide +kernel)
    | (with_reducible apply Within.step (State.wr_within ..); rotate_left; decide +kernel)
    | (with_reducible apply Within.step (State.updPwr_within ..); rotate_left; decide +kernel)
    | (with_reducible apply Within.each; rotate_left; intro x a hx; try beta_reduce; rotate_left)
    | (with_reducible apply Within.foldl; rotate_left; intro x a hx; try beta_reduce; rotate_left) | split

def State.holdAll_scope : Scope := ⟨[.committed, .latches, .mem, .pwr, .boot, .gr, .evt, .tally, .tacc, .ports, .cars,
    .sheaves, .fwd, .grn, .alm, .tb, .tt, .ref, .syn, .tdc, .cal, .twin, .out], [R.PWR_RAIL_STAT, R.PWR_CLK_STAT,
    R.PWR_OCXO_STAT, R.PWR_BOOT_STAT, R.EVT_FCNT], [0, 1, 2, 3, 4, 5, 6, 7, 8, 9, 10, 11, 12, 14]⟩
theorem State.holdAll_within (s : State) : Within State.holdAll_scope s (State.holdAll s) := by
  unfold State.holdAll
  repeat' first
    | (with_reducible assumption) | (with_reducible apply Within.refl) | lift_lets
    | (intro v; refine Within.cut (p := Within State.holdAll_scope s v) ?_ ?_; unfold v; rotate_left; clear_value v; intro hv)
    | (intro v; clear_value v) | intro v
    | (with_reducible apply Within.step (State.portFollowHold_within ..); rotate_left; decide +kernel)
    | (with_reducible apply Within.step (State.carFollowHold_within ..); rotate_left; decide +kernel)
    | (with_reducible apply Within.each; rotate_left; intro x a hx; try beta_reduce; rotate_left)
    | (with_reducible apply Within.foldl; rotate_left; intro x a hx; try beta_reduce; rotate_left) | split

def State.loseSwitch_scope : Scope := ⟨[.committed, .latches, .mem, .pwr, .boot, .gr, .evt, .tally, .tacc, .ports,
    .cars, .sheaves, .fwd, .grn, .alm, .tb, .tt, .ref, .syn, .tdc, .cal, .twin, .out], [], [0, 1, 2, 3, 4, 5, 6, 7, 8,
    9, 10, 11, 12, 13, 14, 255]⟩
theorem State.loseSwitch_within (s : State) : Within State.loseSwitch_scope s s.loseSwitch := by
  unfold State.loseSwitch
  extract_lets wdt regs com a b
  have ha : Within State.loseSwitch_scope s a :=
    (State.optLevels_within ..).step ((State.lose_within ..).step (.refl _ _) (by decide +kernel)) (by decide +kernel)
  clear_value a
  have hb : Within State.loseSwitch_scope s b := (Within.put_regs a _ (copySets_rising _ _ _)).step ha (by decide +kernel)
  clear_value b
  exact (State.wr_within ..).step ((Within.put_committed b _ (copySets_rising _ _ _)).step hb (by decide +kernel))
    (by decide +kernel)

def State.resetMode_scope : Scope := ⟨[.pwr], [R.PWR_MODE_CTL], []⟩
theorem State.resetMode_within (s : State) : Within State.resetMode_scope s (State.resetMode s) := by
  unfold State.resetMode
  repeat' first
    | (with_reducible assumption) | (with_reducible apply Within.refl) | lift_lets
    | (intro v; refine Within.cut (p := Within State.resetMode_scope s v) ?_ ?_; unfold v; rotate_left; clear_value v; intro hv)
    | (intro v; clear_value v) | intro v
    | (with_reducible apply Within.step (State.wr_within ..); rotate_left; decide +kernel)
    | (with_reducible apply Within.step (State.updPwr_within ..); rotate_left; decide +kernel) | split

def State.resetHeld_scope : Scope := ⟨[.committed, .latches, .mem, .pwr, .boot, .gr, .evt, .tally, .tacc, .ports,
    .cars, .sheaves, .fwd, .grn, .alm, .tb, .tt, .ref, .syn, .tdc, .cal, .twin, .out], [R.PWR_MODE_CTL,
    R.PWR_RAIL_STAT, R.PWR_CLK_STAT, R.PWR_OCXO_STAT, R.PWR_BOOT_STAT, R.EVT_FCNT], [0, 1, 2, 3, 4, 5, 6, 7, 8, 9, 10,
    11, 12, 14]⟩
theorem State.resetHeld_within (s : State) : Within State.resetHeld_scope s (State.resetHeld s) := by
  unfold State.resetHeld
  repeat' first
    | (with_reducible assumption) | (with_reducible apply Within.refl) | lift_lets
    | (intro v; refine Within.cut (p := Within State.resetHeld_scope s v) ?_ ?_; unfold v; rotate_left; clear_value v; intro hv)
    | (intro v; clear_value v) | intro v
    | (with_reducible apply Within.step (State.lose_within ..); rotate_left; decide +kernel)
    | (with_reducible apply Within.step (State.railOff_within ..); rotate_left; decide +kernel)
    | (with_reducible apply Within.step (State.updPwr_within ..); rotate_left; decide +kernel)
    | (with_reducible apply Within.step (State.wr_within ..); rotate_left; decide +kernel)
    | (with_reducible apply Within.step (State.plan_within ..); rotate_left; decide +kernel)
    | (with_reducible apply Within.each; rotate_left; intro x a hx; try beta_reduce; rotate_left)
    | (with_reducible apply Within.foldl; rotate_left; intro x a hx; try beta_reduce; rotate_left) | split

def State.switchReset_scope : Scope := ⟨[.nextFree, .committed, .latches, .mem, .pwr, .boot, .gr, .evt, .tally, .tacc,
    .ports, .cars, .sheaves, .fwd, .grn, .alm, .tb, .tt, .ref, .syn, .tdc, .cal, .twin, .out], [], [0, 1, 2, 3, 4, 5,
    6, 7, 8, 9, 10, 11, 12, 13, 14, 255]⟩
theorem State.switchReset_within (s : State) : Within State.switchReset_scope s (State.switchReset s) := by
  unfold State.switchReset
  repeat' first
    | (with_reducible assumption) | (with_reducible apply Within.refl) | lift_lets
    | (intro v; refine Within.cut (p := Within State.switchReset_scope s v) ?_ ?_; unfold v; rotate_left; clear_value v; intro hv)
    | (intro v; clear_value v) | intro v
    | (with_reducible apply Within.step (State.setReg_within ..); rotate_left; decide +kernel)
    | (with_reducible apply Within.step (State.resetCause_within ..); rotate_left; decide +kernel)
    | (with_reducible apply Within.step (State.relinquish_within ..); rotate_left; decide +kernel)
    | (with_reducible apply Within.step (State.abortCal_within ..); rotate_left; decide +kernel)
    | (with_reducible apply Within.step (State.wr_within ..); rotate_left; decide +kernel)
    | (with_reducible apply Within.step (State.loseSwitch_within ..); rotate_left; decide +kernel)
    | (with_reducible apply Within.step (State.railOff_within ..); rotate_left; decide +kernel)
    | (with_reducible apply Within.step (State.updPwr_within ..); rotate_left; decide +kernel)
    | (with_reducible apply Within.step (State.resetMode_within ..); rotate_left; decide +kernel)
    | (with_reducible apply Within.step (State.dropLineRefs_within ..); rotate_left; decide +kernel)
    | (with_reducible apply Within.step (State.resetHeld_within ..); rotate_left; decide +kernel)
    | (with_reducible apply Within.step (State.holdAll_within ..); rotate_left; decide +kernel)
    | (with_reducible apply Within.step (State.enterPairing_within ..); rotate_left; decide +kernel)
    | (with_reducible apply Within.step (State.mirrorStart_within ..); rotate_left; decide +kernel)
    | (with_reducible apply Within.step (State.startBoot_within ..); rotate_left; decide +kernel)
    | (with_reducible apply Within.step (State.updBoot_within ..); rotate_left; decide +kernel)
    | (with_reducible apply Within.each; rotate_left; intro x a hx; try beta_reduce; rotate_left)
    | (with_reducible apply Within.foldl; rotate_left; intro x a hx; try beta_reduce; rotate_left) | split

def State.resetCtl_scope : Scope := ⟨[.nextOrd, .nextFrame, .nextFree, .committed, .latches, .mem, .pwr, .boot, .gr,
    .evt, .tally, .tacc, .ports, .cars, .sheaves, .fwd, .grn, .alm, .tb, .tt, .ref, .syn, .tdc, .cal, .twin, .out],
    [], [0, 1, 2, 3, 4, 5, 6, 7, 8, 9, 10, 11, 12, 13, 14, 255]⟩
theorem State.resetCtl_within (s : State) (data : Word) : Within State.resetCtl_scope s (State.resetCtl s data) := by
  unfold State.resetCtl
  repeat' first
    | (with_reducible assumption) | (with_reducible apply Within.refl)
    | (with_reducible apply Within.step (State.moduleReset_within ..); rotate_left; decide +kernel)
    | (with_reducible apply Within.step (State.switchReset_within ..); rotate_left; decide +kernel) | split

def State.deferCal_scope : Scope := ⟨[.pwr], [R.PWR_MODE_CTL, R.PWR_MODE_STAT], []⟩
theorem State.deferCal_within (s : State) (v : Nat) : Within State.deferCal_scope s (State.deferCal s v) := by
  unfold State.deferCal
  repeat' first
    | (with_reducible assumption) | (with_reducible apply Within.refl) | lift_lets
    | (intro v; refine Within.cut (p := Within State.deferCal_scope s v) ?_ ?_; unfold v; rotate_left; clear_value v; intro hv)
    | (intro v; clear_value v) | intro v
    | (with_reducible apply Within.step (State.wr_within ..); rotate_left; decide +kernel)
    | (with_reducible apply Within.step (State.updPwr_within ..); rotate_left; decide +kernel) | split

def State.modeRequest_scope : Scope := ⟨[.pwr, .evt, .tacc, .tdc, .cal, .twin, .out], [R.TDC_STAT, R.TDC_EVT_STAT,
    R.CAL_STAT, R.CAL_EVT_STAT, R.EVT_RESERVED_OFS, R.EVT_STAT, R.TWN_STAT, R.PWR_MODE_CTL, R.PWR_MODE_STAT,
    R.PWR_RAIL_STAT, R.PWR_CLK_STAT], []⟩
theorem State.modeRequest_within (s : State) (v : Nat) (smbus : Bool) : Within State.modeRequest_scope s
    (State.modeRequest s v smbus) := by
  unfold State.modeRequest
  repeat' first
    | (with_reducible assumption) | (with_reducible apply Within.refl) | lift_lets
    | (intro v; refine Within.cut (p := Within State.modeRequest_scope s v) ?_ ?_; unfold v; rotate_left; clear_value v; intro hv)
    | (intro v; clear_value v) | intro v
    | (with_reducible apply Within.step (State.reservedEnc_within ..); rotate_left; decide +kernel)
    | (with_reducible apply Within.step (State.wr_within ..); rotate_left; decide +kernel)
    | (with_reducible apply Within.step (State.isolate_within ..); rotate_left; decide +kernel)
    | (with_reducible apply Within.step (State.deferCal_within ..); rotate_left; decide +kernel)
    | (with_reducible apply Within.step (State.updCal_within ..); rotate_left; decide +kernel)
    | (with_reducible apply Within.step (State.plan_within ..); rotate_left; decide +kernel) | split

def State.holdWarm_scope : Scope := ⟨[.committed, .latches, .mem, .pwr, .boot, .gr, .evt, .tally, .tacc, .ports,
    .cars, .sheaves, .fwd, .grn, .alm, .tb, .tt, .ref, .syn, .tdc, .cal, .twin, .out], [R.PWR_MODE_CTL,
    R.PWR_RAIL_STAT, R.PWR_CLK_STAT, R.PWR_OCXO_STAT, R.PWR_BOOT_STAT, R.EVT_FCNT], [0, 1, 2, 3, 4, 5, 6, 7, 8, 9, 10,
    11, 12, 14]⟩
theorem State.holdWarm_within (s : State) (v : Bool) : Within State.holdWarm_scope s (State.holdWarm s v) := by
  unfold State.holdWarm
  repeat' first
    | (with_reducible assumption) | (with_reducible apply Within.refl) | lift_lets
    | (intro v; refine Within.cut (p := Within State.holdWarm_scope s v) ?_ ?_; unfold v; rotate_left; clear_value v; intro hv)
    | (intro v; clear_value v) | intro v
    | (with_reducible apply Within.step (State.wrB_within ..); rotate_left; decide +kernel)
    | (with_reducible apply Within.step (State.rampRail_within ..); rotate_left; decide +kernel)
    | (with_reducible apply Within.step (State.railOff_within ..); rotate_left; decide +kernel) | split

def State.noteSmb_scope : Scope := ⟨[.pwr], [], []⟩
theorem State.noteSmb_within (s : State) (o : Nat) (data : Word) : Within State.noteSmb_scope s (State.noteSmb s o
    data) := by
  unfold State.noteSmb
  repeat' first
    | (with_reducible assumption) | (with_reducible apply Within.refl)
    | (with_reducible apply Within.step (State.updPwr_within ..); rotate_left; decide +kernel) | split

def State.hostMode_scope : Scope := ⟨[.pwr, .evt, .tacc, .tdc, .cal, .twin, .out], [R.TDC_STAT, R.TDC_EVT_STAT,
    R.CAL_STAT, R.CAL_EVT_STAT, R.EVT_RESERVED_OFS, R.EVT_STAT, R.TWN_STAT, R.PWR_MODE_CTL, R.PWR_MODE_STAT,
    R.PWR_RAIL_STAT, R.PWR_CLK_STAT], []⟩
theorem State.hostMode_within (s : State) (v : Nat) (data : Word) (smbus : Bool) : Within State.hostMode_scope s
    (State.hostMode s v data smbus) := by
  unfold State.hostMode
  repeat' first
    | (with_reducible assumption) | (with_reducible apply Within.refl) | lift_lets
    | (intro v; refine Within.cut (p := Within State.hostMode_scope s v) ?_ ?_; unfold v; rotate_left; clear_value v; intro hv)
    | (intro v; clear_value v) | intro v
    | (with_reducible apply Within.step (State.modeRequest_within ..); rotate_left; decide +kernel)
    | (with_reducible apply Within.step (State.noteSmb_within ..); rotate_left; decide +kernel) | split

def State.aonPut_scope : Scope := ⟨[.nextOrd, .nextFrame, .nextFree, .committed, .latches, .mem, .pwr, .boot, .gr,
    .evt, .tally, .tacc, .ports, .cars, .sheaves, .fwd, .grn, .alm, .tb, .tt, .ref, .syn, .tdc, .cal, .twin, .out],
    [], [0, 1, 2, 3, 4, 5, 6, 7, 8, 9, 10, 11, 12, 13, 14, 255]⟩
theorem State.aonPut_within (s : State) (row : RegRow) (i o : Nat) (data : Word) (smbus : Bool)
    (hb : row.reg.inBlock 13 = true) (hp : 0 < row.reg.stride) : Within State.aonPut_scope s (s.aonPut row i o data smbus) := by
  unfold State.aonPut
  repeat' first
    | (with_reducible assumption) | (with_reducible apply Within.refl)
    | (with_reducible apply Within.step (State.writeReg_within _ _ _ _ _ _ 13 hb hp); rotate_left; decide +kernel)
    | (with_reducible apply Within.step (State.resetCtl_within ..); rotate_left; decide +kernel) | split

def State.aonWrite_scope : Scope := ⟨[.nextOrd, .nextFrame, .nextFree, .committed, .latches, .mem, .pwr, .boot, .gr,
    .evt, .tally, .tacc, .ports, .cars, .sheaves, .fwd, .grn, .alm, .tb, .tt, .ref, .syn, .tdc, .cal, .twin, .out],
    [], [0, 1, 2, 3, 4, 5, 6, 7, 8, 9, 10, 11, 12, 13, 14, 255]⟩
theorem State.aonWrite_within (s : State) (row : RegRow) (i o : Nat) (data : Word) (smbus : Bool)
    (hb : row.reg.inBlock 13 = true) (hp : 0 < row.reg.stride) : Within State.aonWrite_scope s (s.aonWrite row i o data smbus) := by
  unfold State.aonWrite
  dsimp only
  repeat' first
    | (with_reducible assumption) | (with_reducible apply Within.refl)
    | (with_reducible apply Within.step (State.aonPut_within _ _ _ _ _ _ hb hp); rotate_left; decide +kernel)
    | (with_reducible apply Within.step (State.hostMode_within ..); rotate_left; decide +kernel)
    | (with_reducible apply Within.step (State.holdWarm_within ..); rotate_left; decide +kernel)
    | (with_reducible apply Within.step (State.noteSmb_within ..); rotate_left; decide +kernel) | split

end Sys2Proof.Machine
end

