-- ==== Sys2Proof/Laws/FramesModes.lean ====
section
/-! SUPPORT. Sys2Proof/Laws/FramesModes.lean: what each operation of Machine/Modes.lean may change. -/
set_option Elab.async false
set_option linter.unusedTactic false
set_option linter.unreachableTactic false
set_option linter.unnecessarySeqFocus false
namespace Sys2Proof.Machine

def State.countFlush_scope : Scope := ⟨[.evt, .tacc], [R.EVT_STAT], []⟩
theorem State.countFlush_within (s : State) (n : Nat) : Within State.countFlush_scope s (State.countFlush s n) := by
  unfold State.countFlush
  repeat' first
    | (with_reducible assumption) | (with_reducible apply Within.refl)
    | (with_reducible apply Within.step (State.count_within ..); rotate_left; decide +kernel) | split

def State.flushTx_scope : Scope := ⟨[.evt, .tacc, .ports, .fwd, .grn], [R.GRN_POOL_STAT, R.GRN_EVT_STAT, R.EVT_STAT],
    []⟩
theorem State.flushTx_within (s : State) (t : Tx) : Within State.flushTx_scope s (State.flushTx s t) := by
  unfold State.flushTx
  repeat' first
    | (with_reducible assumption) | (with_reducible apply Within.refl)
    | (with_reducible apply Within.step (State.count_within ..); rotate_left; decide +kernel)
    | (with_reducible apply Within.step (State.countFlush_within ..); rotate_left; decide +kernel)
    | (with_reducible apply Within.step (State.releasing_within ..); rotate_left; decide +kernel)
    | (with_reducible apply Within.step (State.letGo_within ..); rotate_left; decide +kernel)
    | (with_reducible apply Within.each; rotate_left; intro x a hx; try beta_reduce; rotate_left)
    | (with_reducible apply Within.foldl; rotate_left; intro x a hx; try beta_reduce; rotate_left) | split

def State.flush_scope : Scope := ⟨[.evt, .tacc, .ports, .sheaves, .fwd, .grn, .tb, .out], [R.FWD_STAT,
    R.GRN_POOL_STAT, R.GRN_SILO_STAT, R.GRN_EVT_STAT, R.EVT_STAT], []⟩
theorem State.flush_within (s : State) : Within State.flush_scope s (State.flush s) := by
  unfold State.flush
  repeat' first
    | (with_reducible assumption) | (with_reducible apply Within.refl) | lift_lets
    | (intro v; refine Within.cut (p := Within State.flush_scope s v) ?_ ?_; unfold v; rotate_left; clear_value v; intro hv)
    | (intro v; clear_value v) | intro v
    | (with_reducible apply Within.step (State.purge_within ..); rotate_left; decide +kernel)
    | (with_reducible apply Within.step (State.updPort_within ..); rotate_left; decide +kernel)
    | (with_reducible apply Within.step (State.dropAsm_within ..); rotate_left; decide +kernel)
    | (with_reducible apply Within.step (State.txReport_within ..); rotate_left; decide +kernel)
    | (with_reducible apply Within.step (State.flushTx_within ..); rotate_left; decide +kernel)
    | (with_reducible apply Within.step (State.emit_within ..); rotate_left; decide +kernel)
    | (with_reducible apply Within.step (State.freeBuf_within ..); rotate_left; decide +kernel)
    | (with_reducible apply Within.step (State.updSheaf_within ..); rotate_left; decide +kernel)
    | (with_reducible apply Within.step (State.countFlush_within ..); rotate_left; decide +kernel)
    | (with_reducible apply Within.step (State.dropRx_within ..); rotate_left; decide +kernel)
    | (with_reducible apply Within.step (State.updFwd_within ..); rotate_left; decide +kernel)
    | (with_reducible apply Within.step (State.wr_within ..); rotate_left; decide +kernel)
    | (with_reducible apply Within.each; rotate_left; intro x a hx; try beta_reduce; rotate_left)
    | (with_reducible apply Within.foldl; rotate_left; intro x a hx; try beta_reduce; rotate_left) | split

def State.holdLanes_scope : Scope := ⟨[.pwr], [], []⟩
theorem State.holdLanes_within (s : State) (l : List Nat) : Within State.holdLanes_scope s (State.holdLanes s l) := by
  unfold State.holdLanes
  repeat' first
    | (with_reducible assumption) | (with_reducible apply Within.refl)
    | (with_reducible apply Within.step (State.updPwr_within ..); rotate_left; decide +kernel) | split

def State.portQuiet_scope : Scope := ⟨[.committed, .latches, .mem, .pwr, .boot, .gr, .evt, .tally, .tacc, .ports,
    .cars, .sheaves, .fwd, .grn, .alm, .tb, .tt, .ref, .syn, .tdc, .cal, .twin, .out], [R.PWR_RAIL_STAT,
    R.PWR_CLK_STAT, R.PWR_OCXO_STAT, R.PWR_BOOT_STAT, R.EVT_FCNT], [0, 1, 2, 3, 4, 5, 6, 7, 8, 9, 10, 11, 12, 14]⟩
theorem State.portQuiet_within (s : State) (p : Nat) : Within State.portQuiet_scope s (State.portQuiet s p) := by
  unfold State.portQuiet
  repeat' first
    | (with_reducible assumption) | (with_reducible apply Within.refl) | lift_lets
    | (intro v; refine Within.cut (p := Within State.portQuiet_scope s v) ?_ ?_; unfold v; rotate_left; clear_value v; intro hv)
    | (intro v; clear_value v) | intro v
    | (with_reducible apply Within.step (State.updPort_within ..); rotate_left; decide +kernel)
    | (with_reducible apply Within.step (State.setLink_within ..); rotate_left; decide +kernel)
    | (with_reducible apply Within.step (State.wr_within ..); rotate_left; decide +kernel)
    | (with_reducible apply Within.step (State.notePaused_within ..); rotate_left; decide +kernel)
    | (with_reducible apply Within.step (State.holdLanes_within ..); rotate_left; decide +kernel)
    | (with_reducible apply Within.step (State.dropLanes_within ..); rotate_left; decide +kernel) | split

def State.carQuiet_scope : Scope := ⟨[.committed, .latches, .mem, .pwr, .boot, .gr, .evt, .tally, .tacc, .ports,
    .cars, .sheaves, .fwd, .grn, .alm, .tb, .tt, .ref, .syn, .tdc, .cal, .twin, .out], [R.PWR_RAIL_STAT,
    R.PWR_CLK_STAT, R.PWR_OCXO_STAT, R.PWR_BOOT_STAT, R.EVT_FCNT], [0, 1, 2, 3, 4, 5, 6, 7, 8, 9, 10, 11, 12, 14]⟩
theorem State.carQuiet_within (s : State) (c : Nat) : Within State.carQuiet_scope s (State.carQuiet s c) := by
  unfold State.carQuiet
  repeat' first
    | (with_reducible assumption) | (with_reducible apply Within.refl) | lift_lets
    | (intro v; refine Within.cut (p := Within State.carQuiet_scope s v) ?_ ?_; unfold v; rotate_left; clear_value v; intro hv)
    | (intro v; clear_value v) | intro v
    | (with_reducible apply Within.step (State.endOp_within ..); rotate_left; decide +kernel)
    | (with_reducible apply Within.step (State.setCar_within ..); rotate_left; decide +kernel)
    | (with_reducible apply Within.step (State.updCar_within ..); rotate_left; decide +kernel)
    | (with_reducible apply Within.step (State.wr_within ..); rotate_left; decide +kernel)
    | (with_reducible apply Within.step (State.holdLanes_within ..); rotate_left; decide +kernel)
    | (with_reducible apply Within.step (State.dropLanes_within ..); rotate_left; decide +kernel) | split

def State.quietLines_scope : Scope := ⟨[.committed, .latches, .mem, .pwr, .boot, .gr, .evt, .tally, .tacc, .ports,
    .cars, .sheaves, .fwd, .grn, .alm, .tb, .tt, .ref, .syn, .tdc, .cal, .twin, .out], [R.PWR_RAIL_STAT,
    R.PWR_CLK_STAT, R.PWR_OCXO_STAT, R.PWR_BOOT_STAT, R.EVT_FCNT], [0, 1, 2, 3, 4, 5, 6, 7, 8, 9, 10, 11, 12, 14]⟩
theorem State.quietLines_within (s : State) : Within State.quietLines_scope s (State.quietLines s) := by
  unfold State.quietLines
  repeat' first
    | (with_reducible assumption) | (with_reducible apply Within.refl) | lift_lets
    | (intro v; refine Within.cut (p := Within State.quietLines_scope s v) ?_ ?_; unfold v; rotate_left; clear_value v; intro hv)
    | (intro v; clear_value v) | intro v
    | (with_reducible apply Within.step (State.portQuiet_within ..); rotate_left; decide +kernel)
    | (with_reducible apply Within.step (State.carQuiet_within ..); rotate_left; decide +kernel)
    | (with_reducible apply Within.step (State.wr_within ..); rotate_left; decide +kernel)
    | (with_reducible apply Within.step (State.dropLineRefs_within ..); rotate_left; decide +kernel)
    | (with_reducible apply Within.each; rotate_left; intro x a hx; try beta_reduce; rotate_left)
    | (with_reducible apply Within.foldl; rotate_left; intro x a hx; try beta_reduce; rotate_left) | split

def State.setMode_scope : Scope := ⟨[.pwr, .evt, .twin], [R.TWN_STAT, R.TWN_HEALTH, R.TWN_EVT_STAT, R.PWR_MODE_CTL,
    R.PWR_MODE_STAT], []⟩
theorem State.setMode_within (s : State) (m : Nat) : Within State.setMode_scope s (State.setMode s m) := by
  unfold State.setMode
  repeat' first
    | (with_reducible assumption) | (with_reducible apply Within.refl) | lift_lets
    | (intro v; refine Within.cut (p := Within State.setMode_scope s v) ?_ ?_; unfold v; rotate_left; clear_value v; intro hv)
    | (intro v; clear_value v) | intro v
    | (with_reducible apply Within.step (State.tapLeave_within ..); rotate_left; decide +kernel)
    | (with_reducible apply Within.step (State.wr_within ..); rotate_left; decide +kernel)
    | (with_reducible apply Within.step (State.twinHealth_within ..); rotate_left; decide +kernel) | split

def State.allLanesOff_scope : Scope := ⟨[.committed, .latches, .mem, .pwr, .boot, .gr, .evt, .tally, .tacc, .ports,
    .cars, .sheaves, .fwd, .grn, .alm, .tb, .tt, .ref, .syn, .tdc, .cal, .twin, .out], [R.PWR_RAIL_STAT,
    R.PWR_CLK_STAT, R.PWR_OCXO_STAT, R.PWR_BOOT_STAT, R.EVT_FCNT], [0, 1, 2, 3, 4, 5, 6, 7, 8, 9, 10, 11, 12, 14]⟩
theorem State.allLanesOff_within (s : State) : Within State.allLanesOff_scope s (State.allLanesOff s) := by
  unfold State.allLanesOff
  repeat' first
    | (with_reducible assumption) | (with_reducible apply Within.refl)
    | (with_reducible apply Within.step (State.dropLanes_within ..); rotate_left; decide +kernel) | split

def State.coreClock_scope : Scope := ⟨[], [R.PWR_CLK_STAT], []⟩
theorem State.coreClock_within (s : State) : Within State.coreClock_scope s (State.coreClock s) := by
  unfold State.coreClock
  repeat' first
    | (with_reducible assumption) | (with_reducible apply Within.refl)
    | (with_reducible apply Within.step (State.wrB_within ..); rotate_left; decide +kernel) | split

def State.enterDormant_scope : Scope := ⟨[.committed, .latches, .mem, .pwr, .boot, .gr, .evt, .tally, .tacc, .ports,
    .cars, .sheaves, .fwd, .grn, .alm, .tb, .tt, .ref, .syn, .tdc, .cal, .twin, .out], [R.PWR_MODE_CTL,
    R.PWR_MODE_STAT, R.PWR_RAIL_STAT, R.PWR_CLK_STAT, R.PWR_OCXO_STAT, R.PWR_BOOT_STAT, R.EVT_FCNT], [0, 1, 2, 3, 4,
    5, 6, 7, 8, 9, 10, 11, 12, 14]⟩
theorem State.enterDormant_within (s : State) : Within State.enterDormant_scope s (State.enterDormant s) := by
  unfold State.enterDormant
  repeat' first
    | (with_reducible assumption) | (with_reducible apply Within.refl) | lift_lets
    | (intro v; refine Within.cut (p := Within State.enterDormant_scope s v) ?_ ?_; unfold v; rotate_left; clear_value v; intro hv)
    | (intro v; clear_value v) | intro v
    | (with_reducible apply Within.step (State.setMode_within ..); rotate_left; decide +kernel)
    | (with_reducible apply Within.step (State.wr_within ..); rotate_left; decide +kernel)
    | (with_reducible apply Within.step (State.quietLines_within ..); rotate_left; decide +kernel)
    | (with_reducible apply Within.step (State.mirrorStop_within ..); rotate_left; decide +kernel)
    | (with_reducible apply Within.step (State.allLanesOff_within ..); rotate_left; decide +kernel)
    | (with_reducible apply Within.step (State.quiesce_within ..); rotate_left; decide +kernel) | split

def State.enterWarmup_scope : Scope := ⟨[.nextFree, .committed, .pwr, .boot, .gr, .evt, .cal, .twin],
    [R.CAL_OCXO_TRIM, R.TWN_STAT, R.TWN_HEALTH, R.TWN_EVT_STAT, R.PWR_MODE_CTL, R.PWR_MODE_STAT, R.PWR_BOOT_STAT], []⟩
theorem State.enterWarmup_within (s : State) : Within State.enterWarmup_scope s (State.enterWarmup s) := by
  unfold State.enterWarmup
  repeat' first
    | (with_reducible assumption) | (with_reducible apply Within.refl) | lift_lets
    | (intro v; refine Within.cut (p := Within State.enterWarmup_scope s v) ?_ ?_; unfold v; rotate_left; clear_value v; intro hv)
    | (intro v; clear_value v) | intro v
    | (with_reducible apply Within.step (State.setMode_within ..); rotate_left; decide +kernel)
    | (with_reducible apply Within.step (State.loadCal_within ..); rotate_left; decide +kernel)
    | (with_reducible apply Within.step (State.updGr_within ..); rotate_left; decide +kernel)
    | (with_reducible apply Within.step (State.startBoot_within ..); rotate_left; decide +kernel) | split

def State.enterTimekeep_scope : Scope := ⟨[.committed, .latches, .mem, .pwr, .boot, .gr, .evt, .tally, .tacc, .ports,
    .cars, .sheaves, .fwd, .grn, .alm, .tb, .tt, .ref, .syn, .tdc, .cal, .twin, .out], [R.PWR_MODE_CTL,
    R.PWR_MODE_STAT, R.PWR_RAIL_STAT, R.PWR_CLK_STAT, R.PWR_OCXO_STAT, R.PWR_BOOT_STAT, R.EVT_FCNT], [0, 1, 2, 3, 4,
    5, 6, 7, 8, 9, 10, 11, 12, 14]⟩
theorem State.enterTimekeep_within (s : State) : Within State.enterTimekeep_scope s (State.enterTimekeep s) := by
  unfold State.enterTimekeep
  repeat' first
    | (with_reducible assumption) | (with_reducible apply Within.refl) | lift_lets
    | (intro v; refine Within.cut (p := Within State.enterTimekeep_scope s v) ?_ ?_; unfold v; rotate_left; clear_value v; intro hv)
    | (intro v; clear_value v) | intro v
    | (with_reducible apply Within.step (State.flush_within ..); rotate_left; decide +kernel)
    | (with_reducible apply Within.step (State.setMode_within ..); rotate_left; decide +kernel)
    | (with_reducible apply Within.step (State.wr_within ..); rotate_left; decide +kernel)
    | (with_reducible apply Within.step (State.quietLines_within ..); rotate_left; decide +kernel)
    | (with_reducible apply Within.step (State.unquiet_within ..); rotate_left; decide +kernel)
    | (with_reducible apply Within.step (State.holdAll_within ..); rotate_left; decide +kernel)
    | (with_reducible apply Within.step (State.enterPairing_within ..); rotate_left; decide +kernel)
    | (with_reducible apply Within.step (State.mirrorStart_within ..); rotate_left; decide +kernel) | split

def State.enterForward_scope : Scope := ⟨[.committed, .latches, .mem, .pwr, .boot, .gr, .evt, .tally, .tacc, .ports,
    .cars, .sheaves, .fwd, .grn, .alm, .tb, .tt, .ref, .syn, .tdc, .cal, .twin, .out], [R.PWR_MODE_CTL,
    R.PWR_MODE_STAT, R.PWR_RAIL_STAT, R.PWR_CLK_STAT, R.PWR_OCXO_STAT, R.PWR_BOOT_STAT, R.EVT_FCNT], [0, 1, 2, 3, 4,
    5, 6, 7, 8, 9, 10, 11, 12, 14]⟩
theorem State.enterForward_within (s : State) : Within State.enterForward_scope s (State.enterForward s) := by
  unfold State.enterForward
  repeat' first
    | (with_reducible assumption) | (with_reducible apply Within.refl) | lift_lets
    | (intro v; refine Within.cut (p := Within State.enterForward_scope s v) ?_ ?_; unfold v; rotate_left; clear_value v; intro hv)
    | (intro v; clear_value v) | intro v
    | (with_reducible apply Within.step (State.setMode_within ..); rotate_left; decide +kernel)
    | (with_reducible apply Within.step (State.setReg_within ..); rotate_left; decide +kernel)
    | (with_reducible apply Within.step (State.notePinned_within ..); rotate_left; decide +kernel)
    | (with_reducible apply Within.step (State.wr_within ..); rotate_left; decide +kernel)
    | (with_reducible apply Within.step (State.coreClock_within ..); rotate_left; decide +kernel)
    | (with_reducible apply Within.step (State.updGrn_within ..); rotate_left; decide +kernel)
    | (with_reducible apply Within.step (State.noteDoms_within ..); rotate_left; decide +kernel)
    | (with_reducible apply Within.step (State.updEvt_within ..); rotate_left; decide +kernel)
    | (with_reducible apply Within.step (State.startRes_within ..); rotate_left; decide +kernel)
    | (with_reducible apply Within.step (State.wrB_within ..); rotate_left; decide +kernel)
    | (with_reducible apply Within.step (State.noteOfs_within ..); rotate_left; decide +kernel)
    | (with_reducible apply Within.step (State.unquiet_within ..); rotate_left; decide +kernel)
    | (with_reducible apply Within.step (State.portStart_within ..); rotate_left; decide +kernel)
    | (with_reducible apply Within.step (State.noteLine_within ..); rotate_left; decide +kernel)
    | (with_reducible apply Within.step (State.carStart_within ..); rotate_left; decide +kernel)
    | (with_reducible apply Within.step (State.enterPairing_within ..); rotate_left; decide +kernel)
    | (with_reducible apply Within.step (State.mirrorStart_within ..); rotate_left; decide +kernel)
    | (with_reducible apply Within.each; rotate_left; intro x a hx; try beta_reduce; rotate_left)
    | (with_reducible apply Within.foldl; rotate_left; intro x a hx; try beta_reduce; rotate_left) | split
    | (with_reducible apply Within.step (Within.put_counts ..); rotate_left; decide +kernel)

def State.enterCalibrate_scope : Scope := ⟨[.pwr, .evt, .tdc, .cal, .twin], [R.TDC_STAT, R.TDC_EVT_STAT, R.TDC_CNT,
    R.CAL_STAT, R.TWN_STAT, R.TWN_HEALTH, R.TWN_EVT_STAT, R.PWR_MODE_CTL, R.PWR_MODE_STAT], []⟩
theorem State.enterCalibrate_within (s : State) : Within State.enterCalibrate_scope s (State.enterCalibrate s) := by
  unfold State.enterCalibrate
  repeat' first
    | (with_reducible assumption) | (with_reducible apply Within.refl)
    | (with_reducible apply Within.step (State.setMode_within ..); rotate_left; decide +kernel)
    | (with_reducible apply Within.step (State.wr_within ..); rotate_left; decide +kernel)
    | (with_reducible apply Within.step (State.startRun_within ..); rotate_left; decide +kernel) | split

def State.enterIsolate_scope : Scope := ⟨[.committed, .latches, .mem, .pwr, .boot, .gr, .evt, .tally, .tacc, .ports,
    .cars, .sheaves, .fwd, .grn, .alm, .tb, .tt, .ref, .syn, .tdc, .cal, .twin, .out], [R.PWR_MODE_CTL,
    R.PWR_MODE_STAT, R.PWR_RAIL_STAT, R.PWR_CLK_STAT, R.PWR_OCXO_STAT, R.PWR_BOOT_STAT, R.EVT_FCNT], [0, 1, 2, 3, 4,
    5, 6, 7, 8, 9, 10, 11, 12, 14]⟩
theorem State.enterIsolate_within (s : State) : Within State.enterIsolate_scope s (State.enterIsolate s) := by
  unfold State.enterIsolate
  repeat' first
    | (with_reducible assumption) | (with_reducible apply Within.refl) | lift_lets
    | (intro v; refine Within.cut (p := Within State.enterIsolate_scope s v) ?_ ?_; unfold v; rotate_left; clear_value v; intro hv)
    | (intro v; clear_value v) | intro v
    | (with_reducible apply Within.step (State.flush_within ..); rotate_left; decide +kernel)
    | (with_reducible apply Within.step (State.wrB_within ..); rotate_left; decide +kernel)
    | (with_reducible apply Within.step (State.setMode_within ..); rotate_left; decide +kernel)
    | (with_reducible apply Within.step (State.quiesce_within ..); rotate_left; decide +kernel)
    | (with_reducible apply Within.step (State.quietLines_within ..); rotate_left; decide +kernel)
    | (with_reducible apply Within.step (State.handOver_within ..); rotate_left; decide +kernel)
    | (with_reducible apply Within.step (State.mirrorStop_within ..); rotate_left; decide +kernel)
    | (with_reducible apply Within.step (State.allLanesOff_within ..); rotate_left; decide +kernel)
    | (with_reducible apply Within.step (State.fold_within ..); rotate_left; decide +kernel) | split

def State.endTrans_scope : Scope := ⟨[.pwr, .evt, .tacc, .twin, .out], [R.CAL_STAT, R.EVT_STAT, R.TWN_STAT,
    R.PWR_MODE_CTL, R.PWR_MODE_STAT, R.PWR_RAIL_STAT, R.PWR_CLK_STAT], []⟩
theorem State.endTrans_within (s : State) (m : Nat) : Within State.endTrans_scope s (State.endTrans s m) := by
  unfold State.endTrans
  repeat' first
    | (with_reducible assumption) | (with_reducible apply Within.refl) | lift_lets
    | (intro v; refine Within.cut (p := Within State.endTrans_scope s v) ?_ ?_; unfold v; rotate_left; clear_value v; intro hv)
    | (intro v; clear_value v) | intro v
    | (with_reducible apply Within.step (State.wr_within ..); rotate_left; decide +kernel)
    | (with_reducible apply Within.step (State.updPwr_within ..); rotate_left; decide +kernel)
    | (with_reducible apply Within.step (State.startCal_within ..); rotate_left; decide +kernel)
    | (with_reducible apply Within.step (State.plan_within ..); rotate_left; decide +kernel) | split

def State.oldOff_scope : Scope := ⟨[.committed, .latches, .mem, .pwr, .boot, .gr, .evt, .tally, .tacc, .ports, .cars,
    .sheaves, .fwd, .grn, .alm, .tb, .tt, .ref, .syn, .tdc, .cal, .twin, .out], [R.PWR_RAIL_STAT, R.PWR_CLK_STAT,
    R.PWR_OCXO_STAT, R.PWR_BOOT_STAT, R.EVT_FCNT], [0, 1, 2, 3, 4, 5, 6, 7, 8, 9, 10, 11, 12, 14]⟩
theorem State.oldOff_within (s : State) : Within State.oldOff_scope s (State.oldOff s) := by
  unfold State.oldOff
  repeat' first
    | (with_reducible assumption) | (with_reducible apply Within.refl) | lift_lets
    | (intro v; refine Within.cut (p := Within State.oldOff_scope s v) ?_ ?_; unfold v; rotate_left; clear_value v; intro hv)
    | (intro v; clear_value v) | intro v
    | (with_reducible apply Within.step (State.railOff_within ..); rotate_left; decide +kernel)
    | (with_reducible apply Within.step (State.updPwr_within ..); rotate_left; decide +kernel)
    | (with_reducible apply Within.step (State.rampRail_within ..); rotate_left; decide +kernel)
    | (with_reducible apply Within.each; rotate_left; intro x a hx; try beta_reduce; rotate_left)
    | (with_reducible apply Within.foldl; rotate_left; intro x a hx; try beta_reduce; rotate_left) | split

def State.rampsDone_scope : Scope := ⟨[.pwr], [R.PRT_OPT_STAT, R.PWR_RAIL_STAT], []⟩
theorem State.rampsDone_within (s : State) : Within State.rampsDone_scope s (State.rampsDone s) := by
  unfold State.rampsDone
  repeat' first
    | (with_reducible assumption) | (with_reducible apply Within.refl)
    | (with_reducible apply Within.step (State.railUp_within ..); rotate_left; decide +kernel)
    | (with_reducible apply Within.each; rotate_left; intro x a hx; try beta_reduce; rotate_left)
    | (with_reducible apply Within.foldl; rotate_left; intro x a hx; try beta_reduce; rotate_left) | split

def State.firstWarm_scope : Scope := ⟨[.evt, .tb, .ref, .syn, .out], [R.TBS_EVT_STAT, R.TBS_TRIG_SKIP,
    R.REF_EVT_STAT], []⟩
theorem State.firstWarm_within (s : State) : Within State.firstWarm_scope s (State.firstWarm s) := by
  unfold State.firstWarm
  repeat' first
    | (with_reducible assumption) | (with_reducible apply Within.refl)
    | (with_reducible apply Within.step (State.updTb_within ..); rotate_left; decide +kernel)
    | (with_reducible apply Within.step (State.unquiet_within ..); rotate_left; decide +kernel)
    | (with_reducible apply Within.step (State.select_within ..); rotate_left; decide +kernel) | split

def State.noteOven_scope : Scope := ⟨[.pwr], [R.PWR_OCXO_STAT], []⟩
theorem State.noteOven_within (s : State) (err : BitVec 16) : Within State.noteOven_scope s (State.noteOven s err) :=
    by
  unfold State.noteOven
  repeat' first
    | (with_reducible assumption) | (with_reducible apply Within.refl)
    | (with_reducible apply Within.step (State.wr_within ..); rotate_left; decide +kernel)
    | (with_reducible apply Within.step (State.updPwr_within ..); rotate_left; decide +kernel) | split

def State.readJournal_scope : Scope := ⟨[.mem, .pwr, .gr, .evt, .tacc, .tdc, .cal, .twin, .out], [R.MBX_STATE,
    R.MBX_RETRY_STAT, R.TDC_STAT, R.TDC_EVT_STAT, R.CAL_STAT, R.CAL_EVT_STAT, R.EVT_LAST_FAULT, R.EVT_STAT,
    R.TWN_STAT, R.PWR_MODE_CTL, R.PWR_MODE_STAT, R.PWR_RAIL_STAT, R.PWR_CLK_STAT, R.EVT_LASTING, R.EVT_FCNT], []⟩
theorem State.readJournal_within (s : State) : Within State.readJournal_scope s (State.readJournal s) := by
  unfold State.readJournal
  repeat' first
    | (with_reducible assumption) | (with_reducible apply Within.refl) | lift_lets
    | (intro v; refine Within.cut (p := Within State.readJournal_scope s v) ?_ ?_; unfold v; rotate_left; clear_value v; intro hv)
    | (intro v; clear_value v) | intro v
    | (with_reducible apply Within.step (State.writeDone_within ..); rotate_left; decide +kernel)
    | (with_reducible apply Within.step (State.cmdLasting_within ..); rotate_left; decide +kernel)
    | (with_reducible apply Within.step (State.updMbx_within ..); rotate_left; decide +kernel)
    | (with_reducible apply Within.each; rotate_left; intro x a hx; try beta_reduce; rotate_left)
    | (with_reducible apply Within.foldl; rotate_left; intro x a hx; try beta_reduce; rotate_left) | split

def State.loaderReply_scope : Scope := ⟨[.mem, .gr, .evt, .out], [R.MBX_STATE, R.MBX_RETRY_STAT, R.EVT_STAT,
    R.EVT_FCNT], []⟩
theorem State.loaderReply_within (s : State) : Within State.loaderReply_scope s (State.loaderReply s) := by
  unfold State.loaderReply
  repeat' first
    | (with_reducible assumption) | (with_reducible apply Within.refl) | lift_lets
    | (intro v; refine Within.cut (p := Within State.loaderReply_scope s v) ?_ ?_; unfold v; rotate_left; clear_value v; intro hv)
    | (intro v; clear_value v) | intro v
    | (with_reducible apply Within.step (State.writeDone_within ..); rotate_left; decide +kernel)
    | (with_reducible apply Within.each; rotate_left; intro x a hx; try beta_reduce; rotate_left)
    | (with_reducible apply Within.foldl; rotate_left; intro x a hx; try beta_reduce; rotate_left) | split

def State.bootOver_scope : Scope := ⟨[.mem, .pwr, .boot, .gr, .evt, .tacc, .tdc, .cal, .twin, .out], [R.MBX_STATE,
    R.MBX_RETRY_STAT, R.TDC_STAT, R.TDC_EVT_STAT, R.CAL_STAT, R.CAL_EVT_STAT, R.EVT_LAST_FAULT, R.EVT_STAT,
    R.TWN_STAT, R.PWR_MODE_CTL, R.PWR_MODE_STAT, R.PWR_RAIL_STAT, R.PWR_CLK_STAT, R.PWR_BOOT_STAT, R.EVT_LASTING,
    R.EVT_FCNT], []⟩
theorem State.bootOver_within (s : State) (started : Bool) : Within State.bootOver_scope s (State.bootOver s started)
    := by
  unfold State.bootOver
  repeat' first
    | (with_reducible assumption) | (with_reducible apply Within.refl) | lift_lets
    | (intro v; refine Within.cut (p := Within State.bootOver_scope s v) ?_ ?_; unfold v; rotate_left; clear_value v; intro hv)
    | (intro v; clear_value v) | intro v
    | (with_reducible apply Within.step (State.wr_within ..); rotate_left; decide +kernel)
    | (with_reducible apply Within.step (State.updBoot_within ..); rotate_left; decide +kernel)
    | (with_reducible apply Within.step (State.updGr_within ..); rotate_left; decide +kernel)
    | (with_reducible apply Within.step (State.lastingFault_within ..); rotate_left; decide +kernel)
    | (with_reducible apply Within.step (State.readJournal_within ..); rotate_left; decide +kernel)
    | (with_reducible apply Within.step (State.loaderReply_within ..); rotate_left; decide +kernel)
    | (with_reducible apply Within.each; rotate_left; intro x a hx; try beta_reduce; rotate_left)
    | (with_reducible apply Within.foldl; rotate_left; intro x a hx; try beta_reduce; rotate_left) | split

def State.slotFailed_scope : Scope := ⟨[.nextFree, .mem, .pwr, .boot, .gr, .evt, .tacc, .tdc, .cal, .twin, .out],
    [R.MBX_STATE, R.MBX_RETRY_STAT, R.TDC_STAT, R.TDC_EVT_STAT, R.CAL_STAT, R.CAL_EVT_STAT, R.EVT_LAST_FAULT,
    R.EVT_STAT, R.TWN_STAT, R.PWR_MODE_CTL, R.PWR_MODE_STAT, R.PWR_RAIL_STAT, R.PWR_CLK_STAT, R.PWR_BOOT_STAT,
    R.EVT_LASTING, R.EVT_FCNT], []⟩
theorem State.slotFailed_within (s : State) (code : Nat) : Within State.slotFailed_scope s (State.slotFailed s code)
    := by
  unfold State.slotFailed
  repeat' first
    | (with_reducible assumption) | (with_reducible apply Within.refl) | lift_lets
    | (intro v; refine Within.cut (p := Within State.slotFailed_scope s v) ?_ ?_; unfold v; rotate_left; clear_value v; intro hv)
    | (intro v; clear_value v) | intro v
    | (with_reducible apply Within.step (State.wr_within ..); rotate_left; decide +kernel)
    | (with_reducible apply Within.step (State.bootOver_within ..); rotate_left; decide +kernel)
    | (with_reducible apply Within.step (State.updBoot_within ..); rotate_left; decide +kernel)
    | (with_reducible apply Within.step (State.startRead_within ..); rotate_left; decide +kernel) | split

def State.checkFailed_scope : Scope := ⟨[.nextFree, .mem, .pwr, .boot, .gr, .evt, .tacc, .tdc, .cal, .twin, .out],
    [R.MBX_STATE, R.MBX_RETRY_STAT, R.TDC_STAT, R.TDC_EVT_STAT, R.CAL_STAT, R.CAL_EVT_STAT, R.EVT_LAST_FAULT,
    R.EVT_STAT, R.TWN_STAT, R.PWR_MODE_CTL, R.PWR_MODE_STAT, R.PWR_RAIL_STAT, R.PWR_CLK_STAT, R.PWR_BOOT_STAT,
    R.EVT_LASTING, R.EVT_FCNT], []⟩
theorem State.checkFailed_within (s : State) (code : Nat) : Within State.checkFailed_scope s (State.checkFailed s
    code) := by
  unfold State.checkFailed
  repeat' first
    | (with_reducible assumption) | (with_reducible apply Within.refl)
    | (with_reducible apply Within.step (State.updBoot_within ..); rotate_left; decide +kernel)
    | (with_reducible apply Within.step (State.wr_within ..); rotate_left; decide +kernel)
    | (with_reducible apply Within.step (State.startRead_within ..); rotate_left; decide +kernel)
    | (with_reducible apply Within.step (State.slotFailed_within ..); rotate_left; decide +kernel) | split

end Sys2Proof.Machine
end

