-- ==== Sys2Proof/Laws/FramesRegCmd.lean ====
section
/-! SUPPORT. Sys2Proof/Laws/FramesRegCmd.lean: what each operation of Machine/RegCmd.lean may change. -/
set_option Elab.async false
set_option linter.unusedTactic false
set_option linter.unreachableTactic false
set_option linter.unnecessarySeqFocus false
namespace Sys2Proof.Machine

def State.latch_scope : Scope := ⟨[.latches], [], []⟩
theorem State.latch_within (s : State) (a : Nat) (w : Word) : Within State.latch_scope s (State.latch s a w) := by
  unfold State.latch
  repeat' first
    | (with_reducible assumption) | (with_reducible apply Within.refl) | split
    | (with_reducible apply Within.step (Within.put_latches ..); rotate_left; decide +kernel)

def State.unmask_scope : Scope := ⟨[.gr, .out], [], []⟩
theorem State.unmask_within (s : State) (v : Nat) : Within State.unmask_scope s (State.unmask s v) := by
  unfold State.unmask
  repeat' first
    | (with_reducible assumption) | (with_reducible apply Within.refl) | lift_lets
    | (intro v; refine Within.cut (p := Within State.unmask_scope s v) ?_ ?_; unfold v; rotate_left; clear_value v; intro hv)
    | (intro v; clear_value v) | intro v
    | (with_reducible apply Within.step (State.updGr_within ..); rotate_left; decide +kernel)
    | (with_reducible apply Within.step (State.msix_within ..); rotate_left; decide +kernel) | split

def State.msixWord_scope : Scope := ⟨[.gr, .out], [], []⟩
theorem State.msixWord_within (s : State) (k : Nat) (w : Word) : Within State.msixWord_scope s (State.msixWord s k w)
    := by
  unfold State.msixWord
  repeat' first
    | (with_reducible assumption) | (with_reducible apply Within.refl)
    | (with_reducible apply Within.step (State.updGr_within ..); rotate_left; decide +kernel)
    | (with_reducible apply Within.step (State.unmask_within ..); rotate_left; decide +kernel) | split

def State.hostWord_scope : Scope := ⟨[.nextOrd, .nextFrame, .nextFree, .committed, .latches, .mem, .pwr, .boot, .gr,
    .evt, .tally, .tacc, .ports, .cars, .sheaves, .fwd, .grn, .alm, .tb, .tt, .ref, .syn, .tdc, .cal, .twin, .out],
    [], [0, 1, 2, 3, 4, 5, 6, 7, 8, 9, 10, 11, 12, 13, 14, 255]⟩
theorem State.hostWord_within (s : State) (row : RegRow) (i a : Nat) (data : Word)
    (hb : row.reg.inBlock (blockOf a) = true) (hp : 0 < row.reg.stride) : Within State.hostWord_scope s (s.hostWord row i a data) := by
  have hw : ∀ u, Within State.hostWord_scope s u → Within State.hostWord_scope s (u.writeReg row i data (a % 2 ^ 32)) := by
    intro u hu
    refine (State.writeReg_within _ _ _ _ _ _ (blockOf a) hb hp).step hu ?_
    have hlt : blockOf a ∈ (State.hostWord_scope).blocks := by
      have : blockOf a < 0xE + 1 := by
        simp only [Reg.inBlock, Bool.and_eq_true, decide_eq_true_eq] at hb
        omega
      revert this
      generalize blockOf a = b
      revert b
      decide +kernel
    have he : ∀ b ∈ (State.hostWord_scope).blocks, (([R.EVT_RESERVED_OFS, R.EVT_STAT].all (fun r => decide (0 < r.stride))) &&
        (⟨[.evt], [R.EVT_RESERVED_OFS, R.EVT_STAT], [b]⟩ : Scope).le State.hostWord_scope) = true := by decide +kernel
    exact he _ hlt
  unfold State.hostWord
  extract_lets r s1 s'
  have h1 : Within State.hostWord_scope s s1 := by
    unfold s1
    split
    · exact (State.noteOfs_within ..).step (.refl _ _) (by decide +kernel)
    · exact .refl _ _
  have hw' : Within State.hostWord_scope s s' := (State.resnap_within ..).step (hw s1 h1) (by decide +kernel)
  clear_value r s' s1
  by_cases h13 : blockOf a = 0xD
  · rw [if_pos h13]
    rw [h13] at hb
    exact (State.aonWrite_within _ _ _ _ _ _ hb hp).step (.refl _ _) (by decide +kernel)
  · rw [if_neg h13]
    repeat' first
      | (with_reducible assumption) | (with_reducible apply Within.refl) | (with_reducible apply Within.step (State.doorbell_within ..); rotate_left; decide +kernel) | (with_reducible apply Within.step (State.commitGo_within ..); rotate_left; decide +kernel) | (with_reducible apply Within.step (State.commitDiscard_within ..); rotate_left; decide +kernel) | (with_reducible apply Within.step (State.reservedEnc_within ..); rotate_left; decide +kernel) | (with_reducible apply Within.step (State.notify_within ..); rotate_left; decide +kernel) | (with_reducible apply Within.step (State.snapshot_within ..); rotate_left; decide +kernel) | (with_reducible apply Within.step (State.consWrite_within ..); rotate_left; decide +kernel) | (with_reducible apply Within.step (State.writeWord_within ..); rotate_left; decide +kernel) | (with_reducible apply Within.step (State.binData_within ..); rotate_left; decide +kernel) | (with_reducible apply Within.step (State.resnap_within ..); rotate_left; decide +kernel) | (with_reducible apply Within.step (State.pathTrim_within ..); rotate_left; decide +kernel) | (with_reducible apply Within.step (State.updPath_within ..); rotate_left; decide +kernel) | (with_reducible apply Within.step (State.rearm_within ..); rotate_left; decide +kernel) | (with_reducible apply Within.step (State.noteOfs_within ..); rotate_left; decide +kernel) | (with_reducible apply Within.step (State.notePtp_within ..); rotate_left; decide +kernel) | (with_reducible apply Within.step (State.select_within ..); rotate_left; decide +kernel) | (with_reducible apply Within.ite)


def State.useFlash_scope : Scope := ⟨[.boot, .gr], [], []⟩
theorem State.useFlash_within (s : State) (m : Fin 16) : Within State.useFlash_scope s (State.useFlash s m) := by
  unfold State.useFlash
  repeat' first
    | (with_reducible assumption) | (with_reducible apply Within.refl)
    | (with_reducible apply Within.step (State.updBoot_within ..); rotate_left; decide +kernel)
    | (with_reducible apply Within.step (State.running_within ..); rotate_left; decide +kernel) | split

def State.activate_scope : Scope := ⟨[.mem, .pwr, .boot, .gr, .evt, .tacc, .tdc, .cal, .twin, .out], [R.MBX_STATE,
    R.MBX_RETRY_STAT, R.TDC_STAT, R.TDC_EVT_STAT, R.CAL_STAT, R.CAL_EVT_STAT, R.EVT_LAST_FAULT, R.EVT_STAT,
    R.TWN_STAT, R.PWR_MODE_CTL, R.PWR_MODE_STAT, R.PWR_RAIL_STAT, R.PWR_CLK_STAT, R.EVT_LASTING, R.EVT_FCNT], []⟩
theorem State.activate_within (s : State) (m : Fin 16) (k : Nat) (r1 r2 : ImageCheck) : Within State.activate_scope s
    (State.activate s m k r1 r2) := by
  unfold State.activate
  repeat' first
    | (with_reducible assumption) | (with_reducible apply Within.refl) | lift_lets
    | (intro v; refine Within.cut (p := Within State.activate_scope s v) ?_ ?_; unfold v; rotate_left; clear_value v; intro hv)
    | (intro v; clear_value v) | intro v
    | (with_reducible apply Within.step (State.lastingFault_within ..); rotate_left; decide +kernel)
    | (with_reducible apply Within.step (State.transientFault_within ..); rotate_left; decide +kernel)
    | (with_reducible apply Within.step (State.updBoot_within ..); rotate_left; decide +kernel)
    | (with_reducible apply Within.step (State.complete_within ..); rotate_left; decide +kernel) | split

def State.flashEnd_scope : Scope := ⟨[.mem, .pwr, .boot, .gr, .evt, .tacc, .tdc, .cal, .twin, .out], [R.MBX_STATE,
    R.MBX_RETRY_STAT, R.TDC_STAT, R.TDC_EVT_STAT, R.CAL_STAT, R.CAL_EVT_STAT, R.EVT_LAST_FAULT, R.EVT_STAT,
    R.TWN_STAT, R.PWR_MODE_CTL, R.PWR_MODE_STAT, R.PWR_RAIL_STAT, R.PWR_CLK_STAT, R.EVT_LASTING, R.EVT_FCNT], []⟩
theorem State.flashEnd_within (s : State) (m : Fin 16) (r1 r2 : ImageCheck) : Within State.flashEnd_scope s
    (State.flashEnd s m r1 r2) := by
  unfold State.flashEnd
  repeat' first
    | (with_reducible assumption) | (with_reducible apply Within.refl) | lift_lets
    | (intro v; refine Within.cut (p := Within State.flashEnd_scope s v) ?_ ?_; unfold v; rotate_left; clear_value v; intro hv)
    | (intro v; clear_value v) | intro v
    | (with_reducible apply Within.step (State.updBoot_within ..); rotate_left; decide +kernel)
    | (with_reducible apply Within.step (State.complete_within ..); rotate_left; decide +kernel)
    | (with_reducible apply Within.step (State.activate_within ..); rotate_left; decide +kernel) | split

def State.loadSaved_scope : Scope := ⟨[.tdc, .cal], [], [0, 1, 2, 3, 4, 5, 6, 7, 8, 9, 10, 11, 12, 13, 14, 255]⟩
theorem State.loadSaved_within (s : State) (v : Saved) (groups : Nat) : Within State.loadSaved_scope s
    (State.loadSaved s v groups) := by
  unfold State.loadSaved
  repeat' first
    | (with_reducible assumption) | (with_reducible apply Within.refl) | lift_lets
    | (intro v; refine Within.cut (p := Within State.loadSaved_scope s v) ?_ ?_; unfold v; rotate_left; clear_value v; intro hv)
    | (intro v; clear_value v) | intro v
    | (with_reducible apply Within.step (State.updTdc_within ..); rotate_left; decide +kernel)
    | (with_reducible apply Within.step (State.updPath_within ..); rotate_left; decide +kernel)
    | (with_reducible apply Within.each; rotate_left; intro x a hx; try beta_reduce; rotate_left)
    | (with_reducible apply Within.foldl; rotate_left; intro x a hx; try beta_reduce; rotate_left) | split
    | (with_reducible apply Within.step (Within.put_regs _ _ (copySets_rising _ _ _)); rotate_left; decide +kernel)

def State.rebindSaved_scope : Scope := ⟨[.gr, .evt, .tacc, .twin, .out], [R.FWD_STAT, R.FWD_VER_STAT, R.ALM_BANK_STAT,
    R.EVT_STAT, R.TWN_TXN_STAT, R.MBX_DT_SEQ, R.MBX_DT_DONE, R.MBX_DT_BIND], []⟩
theorem State.rebindSaved_within (s : State) (v : Saved) (groups : Nat) : Within State.rebindSaved_scope s
    (State.rebindSaved s v groups) := by
  unfold State.rebindSaved
  repeat' first
    | (with_reducible assumption) | (with_reducible apply Within.refl)
    | (with_reducible apply Within.step (State.bindTable_within ..); rotate_left; decide +kernel)
    | (with_reducible apply Within.step (State.mirrorCmd_within ..); rotate_left; decide +kernel)
    | (with_reducible apply Within.each; rotate_left; intro x a hx; try beta_reduce; rotate_left)
    | (with_reducible apply Within.foldl; rotate_left; intro x a hx; try beta_reduce; rotate_left) | split

end Sys2Proof.Machine
end

