-- ==== Sys2Proof/Laws/FramesTwin.lean ====
section
/-! SUPPORT. Sys2Proof/Laws/FramesTwin.lean: what each operation of Machine/Twin.lean may change. -/
set_option Elab.async false
set_option linter.unusedTactic false
set_option linter.unreachableTactic false
set_option linter.unnecessarySeqFocus false
namespace Sys2Proof.Machine

def State.startResync_scope : Scope := ⟨[.evt, .tacc, .twin, .out], [R.EVT_STAT, R.TWN_TXN_STAT], []⟩
theorem State.startResync_within (s : State) : Within State.startResync_scope s (State.startResync s) := by
  unfold State.startResync
  repeat' first
    | (with_reducible assumption) | (with_reducible apply Within.refl) | lift_lets
    | (intro v; refine Within.cut (p := Within State.startResync_scope s v) ?_ ?_; unfold v; rotate_left; clear_value v; intro hv)
    | (intro v; clear_value v) | intro v
    | (with_reducible apply Within.step (State.updTwin_within ..); rotate_left; decide +kernel)
    | (with_reducible apply Within.step (State.mirrorTxn_within ..); rotate_left; decide +kernel)
    | (with_reducible apply Within.each; rotate_left; intro x a hx; try beta_reduce; rotate_left)
    | (with_reducible apply Within.foldl; rotate_left; intro x a hx; try beta_reduce; rotate_left) | split

def State.applyPairs_scope : Scope := ⟨[.nextOrd, .nextFrame, .committed, .latches, .mem, .pwr, .boot, .gr, .evt,
    .tally, .tacc, .ports, .cars, .sheaves, .fwd, .grn, .alm, .tb, .tt, .ref, .syn, .tdc, .cal, .twin, .out], [], [0,
    1, 2, 3, 4, 5, 6, 7, 8, 9, 10, 11, 12, 13, 14, 255]⟩
theorem setPairs_rising (l : List (Nat × Word)) (m : SMap Word) (h : SMap.rising m) : SMap.rising (setPairs l m) := by
  unfold setPairs
  induction l generalizing m with
  | nil => exact h
  | cons e l ih =>
    rw [List.foldl_cons]
    refine ih _ ?_
    extract_lets k r
    split
    · exact h
    · exact SMap.rising_set _ _ _ h

theorem State.applyPairs_within (s : State) (when_ : Nat) (l : List (Nat × Word)) : Within State.applyPairs_scope s (s.applyPairs when_ l) := by
  unfold State.applyPairs
  extract_lets g v
  clear_value v
  repeat' first
    | (with_reducible assumption) | (with_reducible apply Within.refl)
    | (with_reducible apply Within.step (State.count_within ..); rotate_left; decide +kernel)
    | (with_reducible apply Within.step (State.applyGroups_within _ _ _ _ _ (setPairs_rising _)); rotate_left; decide +kernel)
    | (with_reducible apply Within.step (Within.put_regs _ _ (setPairs_rising _ _)); rotate_left; decide +kernel)
    | split

def State.applyImage_scope : Scope := ⟨[.nextOrd, .nextFrame, .committed, .latches, .mem, .pwr, .boot, .gr, .evt,
    .tally, .tacc, .ports, .cars, .sheaves, .fwd, .grn, .alm, .tb, .tt, .ref, .syn, .tdc, .cal, .twin, .out], [], [0,
    1, 2, 3, 4, 5, 6, 7, 8, 9, 10, 11, 12, 13, 14, 255]⟩
theorem State.applyImage_within (s : State) (l : List (Nat × Word)) : Within State.applyImage_scope s (s.applyImage l) := by
  unfold State.applyImage
  extract_lets other l'
  exact (State.applyGroups_within _ _ _ _ _ (setPairs_rising _)).step
    ((Within.put_regs _ _ (setPairs_rising _ _)).step (.refl _ _) (by decide +kernel)) (by decide +kernel)

def State.putEntry_scope : Scope := ⟨[.gr, .evt, .out], [R.FWD_STAT, R.FWD_VER_STAT, R.FWD_BAD_ENTRY,
    R.FWD_BAD_ENTRY_CNT, R.FWD_EVT_STAT, R.ALM_BANK_STAT, R.ALM_BAD_ENTRY, R.ALM_BAD_ENTRY_CNT, R.ALM_EVT_STAT,
    R.ALM_EVT_SRC, R.MBX_DT_STAT], []⟩
theorem State.putEntry_within (s : State) (t i : Nat) (b : List Byte) : Within State.putEntry_scope s (s.putEntry t i b) :=
  State.tryInstall_snd s t i b false

def State.applyTable_scope : Scope := ⟨[.gr], [R.FWD_STAT, R.FWD_VER_STAT, R.ALM_BANK_STAT, R.MBX_DT_SEQ,
    R.MBX_DT_DONE, R.MBX_DT_BIND], []⟩
theorem State.applyTable_within (s : State) (bs : List Byte) : Within State.applyTable_scope s (State.applyTable s bs)
    := by
  unfold State.applyTable
  repeat' first
    | (with_reducible assumption) | (with_reducible apply Within.refl) | lift_lets
    | (intro v; refine Within.cut (p := Within State.applyTable_scope s v) ?_ ?_; unfold v; rotate_left; clear_value v; intro hv)
    | (intro v; clear_value v) | intro v
    | (with_reducible apply Within.step (State.bindTable_within ..); rotate_left; decide +kernel) | split

def State.applyEntries_scope : Scope := ⟨[.gr, .evt, .out], [R.FWD_STAT, R.FWD_VER_STAT, R.FWD_BAD_ENTRY,
    R.FWD_BAD_ENTRY_CNT, R.FWD_EVT_STAT, R.ALM_BANK_STAT, R.ALM_BAD_ENTRY, R.ALM_BAD_ENTRY_CNT, R.ALM_EVT_STAT,
    R.ALM_EVT_SRC, R.MBX_DT_STAT], []⟩
theorem State.applyEntries_within (s : State) (bs : List Byte) : Within State.applyEntries_scope s (State.applyEntries
    s bs) := by
  unfold State.applyEntries
  repeat' first
    | (with_reducible assumption) | (with_reducible apply Within.refl) | lift_lets
    | (intro v; refine Within.cut (p := Within State.applyEntries_scope s v) ?_ ?_; unfold v; rotate_left; clear_value v; intro hv)
    | (intro v; clear_value v) | intro v
    | (with_reducible apply Within.step (State.putEntry_within ..); rotate_left; decide +kernel)
    | (with_reducible apply Within.step (State.take_within ..); rotate_left; decide +kernel)
    | (with_reducible apply Within.each; rotate_left; intro x a hx; try beta_reduce; rotate_left)
    | (with_reducible apply Within.foldl; rotate_left; intro x a hx; try beta_reduce; rotate_left) | split

def State.applyCarriers_scope : Scope := ⟨[.evt, .tacc, .ports, .cars, .sheaves, .fwd, .grn, .alm, .tt, .ref],
    [R.SHF_SHEAF_STAT, R.SHF_LOSS_WAIT, R.SHF_TT_STAT, R.SHF_TT_EVT_STAT, R.SHF_CAR_STAT, R.SHF_CAR_EVT_STAT,
    R.FWD_EVT_STAT, R.FWD_EGR_STAT, R.GRN_POOL_STAT, R.GRN_SILO_STAT, R.GRN_EVT_STAT, R.ALM_EVT_STAT, R.ALM_EVT_SRC,
    R.REF_SRC_STAT, R.EVT_STAT], []⟩
theorem State.applyCarriers_within (s : State) (bs : List Byte) : Within State.applyCarriers_scope s
    (State.applyCarriers s bs) := by
  unfold State.applyCarriers
  repeat' first
    | (with_reducible assumption) | (with_reducible apply Within.refl) | lift_lets
    | (intro v; refine Within.cut (p := Within State.applyCarriers_scope s v) ?_ ?_; unfold v; rotate_left; clear_value v; intro hv)
    | (intro v; clear_value v) | intro v
    | (with_reducible apply Within.step (State.carActive_within ..); rotate_left; decide +kernel)
    | (with_reducible apply Within.step (State.carParked_within ..); rotate_left; decide +kernel)
    | (with_reducible apply Within.step (State.setCar_within ..); rotate_left; decide +kernel)
    | (with_reducible apply Within.each; rotate_left; intro x a hx; try beta_reduce; rotate_left)
    | (with_reducible apply Within.foldl; rotate_left; intro x a hx; try beta_reduce; rotate_left) | split

def State.putSlot_scope : Scope := ⟨[.tally, .tacc], [], []⟩
theorem State.putSlot_within (s : State) (n v : Nat) : Within State.putSlot_scope s (State.putSlot s n v) := by
  unfold State.putSlot
  repeat' first
    | (with_reducible assumption) | (with_reducible apply Within.refl) | split
    | (with_reducible apply Within.step (Within.put_counts ..); rotate_left; decide +kernel)

def State.applyAdjust_scope : Scope := ⟨[.evt, .tb, .ref, .syn], [R.ALM_STAT, R.ALM_EVT_STAT, R.TBS_DOM_STAT,
    R.TBS_DOM_INC_LO, R.TBS_DOM_INC_HI, R.TBS_EVT_STAT, R.TBS_TRIG_SKIP, R.REF_EVT_STAT], []⟩
theorem State.applyAdjust_within (s : State) (p : List Byte) : Within State.applyAdjust_scope s (State.applyAdjust s
    p) := by
  unfold State.applyAdjust
  repeat' first
    | (with_reducible assumption) | (with_reducible apply Within.refl) | lift_lets
    | (intro v; refine Within.cut (p := Within State.applyAdjust_scope s v) ?_ ?_; unfold v; rotate_left; clear_value v; intro hv)
    | (intro v; clear_value v) | intro v
    | (with_reducible apply Within.step (State.updDom_within ..); rotate_left; decide +kernel)
    | (with_reducible apply Within.step (State.wr_within ..); rotate_left; decide +kernel)
    | (with_reducible apply Within.step (State.adjustDom_within ..); rotate_left; decide +kernel) | split

def State.applyEffect_scope : Scope := ⟨[.gr, .evt, .tacc, .ports, .sheaves, .fwd, .grn, .alm, .tb, .ref, .syn],
    [R.FWD_STAT, R.FWD_VER_STAT, R.GRN_POOL_STAT, R.GRN_SILO_STAT, R.GRN_EVT_STAT, R.ALM_BANK_STAT, R.ALM_STAT,
    R.ALM_EVT_STAT, R.ALM_EVT_SRC, R.TBS_DOM_STAT, R.TBS_DOM_INC_LO, R.TBS_DOM_INC_HI, R.TBS_EVT_STAT,
    R.TBS_TRIG_SKIP, R.REF_STAT, R.REF_EVT_STAT, R.SYN_RAMP_STAT, R.SYN_EVT_STAT, R.EVT_STAT, R.MBX_DT_SEQ,
    R.MBX_DT_DONE, R.MBX_DT_BIND], []⟩
theorem State.applyEffect_within (s : State) (bs : List Byte) : Within State.applyEffect_scope s (State.applyEffect s
    bs) := by
  unfold State.applyEffect
  repeat' first
    | (with_reducible assumption) | (with_reducible apply Within.refl) | lift_lets
    | (intro v; refine Within.cut (p := Within State.applyEffect_scope s v) ?_ ?_; unfold v; rotate_left; clear_value v; intro hv)
    | (intro v; clear_value v) | intro v
    | (with_reducible apply Within.step (State.bindTable_within ..); rotate_left; decide +kernel)
    | (with_reducible apply Within.step (State.hostFlush_within ..); rotate_left; decide +kernel)
    | (with_reducible apply Within.step (State.realign_within ..); rotate_left; decide +kernel)
    | (with_reducible apply Within.step (State.applyAdjust_within ..); rotate_left; decide +kernel)
    | (with_reducible apply Within.step (State.force_within ..); rotate_left; decide +kernel)
    | (with_reducible apply Within.step (State.rampStart_within ..); rotate_left; decide +kernel)
    | (with_reducible apply Within.step (State.rampStop_within ..); rotate_left; decide +kernel) | split

def State.applyPart_scope : Scope := ⟨[.nextOrd, .nextFrame, .committed, .latches, .mem, .pwr, .boot, .gr, .evt,
    .tally, .tacc, .ports, .cars, .sheaves, .fwd, .grn, .alm, .tb, .tt, .ref, .syn, .tdc, .cal, .twin, .out], [], [0,
    1, 2, 3, 4, 5, 6, 7, 8, 9, 10, 11, 12, 13, 14, 255]⟩
theorem State.applyPart_within (s : State) (bs : List Byte) : Within State.applyPart_scope s (State.applyPart s bs) :=
    by
  unfold State.applyPart
  repeat' first
    | (with_reducible assumption) | (with_reducible apply Within.refl) | lift_lets
    | (intro v; refine Within.cut (p := Within State.applyPart_scope s v) ?_ ?_; unfold v; rotate_left; clear_value v; intro hv)
    | (intro v; clear_value v) | intro v
    | (with_reducible apply Within.step (State.applyImage_within ..); rotate_left; decide +kernel)
    | (with_reducible apply Within.step (State.applyTable_within ..); rotate_left; decide +kernel)
    | (with_reducible apply Within.step (State.applyCarriers_within ..); rotate_left; decide +kernel)
    | (with_reducible apply Within.step (State.applyEntries_within ..); rotate_left; decide +kernel)
    | (with_reducible apply Within.step (State.putSlot_within ..); rotate_left; decide +kernel)
    | (with_reducible apply Within.step (State.take_within ..); rotate_left; decide +kernel)
    | (with_reducible apply Within.step (State.updTwin_within ..); rotate_left; decide +kernel)
    | (with_reducible apply Within.each; rotate_left; intro x a hx; try beta_reduce; rotate_left)
    | (with_reducible apply Within.foldl; rotate_left; intro x a hx; try beta_reduce; rotate_left) | split
    | (with_reducible apply Within.step (Within.put_counts ..); rotate_left; decide +kernel)

def State.applyTxn_scope : Scope := ⟨[.nextOrd, .nextFrame, .committed, .latches, .mem, .pwr, .boot, .gr, .evt,
    .tally, .tacc, .ports, .cars, .sheaves, .fwd, .grn, .alm, .tb, .tt, .ref, .syn, .tdc, .cal, .twin, .out], [], [0,
    1, 2, 3, 4, 5, 6, 7, 8, 9, 10, 11, 12, 13, 14, 255]⟩
theorem State.applyTxn_within (s : State) (x : TxnIn) : Within State.applyTxn_scope s (State.applyTxn s x) := by
  unfold State.applyTxn
  repeat' first
    | (with_reducible assumption) | (with_reducible apply Within.refl) | lift_lets
    | (intro v; refine Within.cut (p := Within State.applyTxn_scope s v) ?_ ?_; unfold v; rotate_left; clear_value v; intro hv)
    | (intro v; clear_value v) | intro v
    | (with_reducible apply Within.step (State.applyPairs_within ..); rotate_left; decide +kernel)
    | (with_reducible apply Within.step (State.putEntry_within ..); rotate_left; decide +kernel)
    | (with_reducible apply Within.step (State.take_within ..); rotate_left; decide +kernel)
    | (with_reducible apply Within.step (State.count_within ..); rotate_left; decide +kernel)
    | (with_reducible apply Within.step (State.applyEffect_within ..); rotate_left; decide +kernel)
    | (with_reducible apply Within.step (State.applyPart_within ..); rotate_left; decide +kernel)
    | (with_reducible apply Within.step (State.wr_within ..); rotate_left; decide +kernel)
    | (with_reducible apply Within.step (State.updInq_within ..); rotate_left; decide +kernel)
    | (with_reducible apply Within.step (State.updTwin_within ..); rotate_left; decide +kernel)
    | (with_reducible apply Within.each; rotate_left; intro x a hx; try beta_reduce; rotate_left)
    | (with_reducible apply Within.foldl; rotate_left; intro x a hx; try beta_reduce; rotate_left) | split

def State.nakGaps_scope : Scope := ⟨[.evt, .tacc, .twin, .out], [R.EVT_STAT], []⟩
theorem State.nakGaps_within (s : State) (top : Nat) (all : Bool) : Within State.nakGaps_scope s (State.nakGaps s top
    all) := by
  unfold State.nakGaps
  repeat' first
    | (with_reducible assumption) | (with_reducible apply Within.refl) | lift_lets
    | (intro v; refine Within.cut (p := Within State.nakGaps_scope s v) ?_ ?_; unfold v; rotate_left; clear_value v; intro hv)
    | (intro v; clear_value v) | intro v
    | (with_reducible apply Within.step (State.updTwin_within ..); rotate_left; decide +kernel)
    | (with_reducible apply Within.step (State.sendMsg_within ..); rotate_left; decide +kernel)
    | (with_reducible apply Within.each; rotate_left; intro x a hx; try beta_reduce; rotate_left)
    | (with_reducible apply Within.foldl; rotate_left; intro x a hx; try beta_reduce; rotate_left) | split

def State.takeFragment_scope : Scope := ⟨[.evt, .tacc, .twin, .out], [R.EVT_STAT, R.TWN_STAT, R.TWN_MIRROR_STAT], []⟩
theorem State.takeFragment_within (s : State) (p : List Byte) : Within State.takeFragment_scope s (State.takeFragment
    s p) := by
  unfold State.takeFragment
  repeat' first
    | (with_reducible assumption) | (with_reducible apply Within.refl) | lift_lets
    | (intro v; refine Within.cut (p := Within State.takeFragment_scope s v) ?_ ?_; unfold v; rotate_left; clear_value v; intro hv)
    | (intro v; clear_value v) | intro v
    | (with_reducible apply Within.step (State.updInq_within ..); rotate_left; decide +kernel)
    | (with_reducible apply Within.step (State.setTwSt_within ..); rotate_left; decide +kernel)
    | (with_reducible apply Within.step (State.updTwin_within ..); rotate_left; decide +kernel)
    | (with_reducible apply Within.step (State.nakGaps_within ..); rotate_left; decide +kernel) | split

def State.rollSec_scope : Scope := ⟨[.twin], [], []⟩
theorem State.rollSec_within (s : State) : Within State.rollSec_scope s (State.rollSec s) := by
  unfold State.rollSec
  repeat' first
    | (with_reducible assumption) | (with_reducible apply Within.refl) | lift_lets
    | (intro v; refine Within.cut (p := Within State.rollSec_scope s v) ?_ ?_; unfold v; rotate_left; clear_value v; intro hv)
    | (intro v; clear_value v) | intro v
    | (with_reducible apply Within.step (State.updTwin_within ..); rotate_left; decide +kernel) | split

def State.takeCheck_scope : Scope := ⟨[.twin], [], []⟩
theorem State.takeCheck_within (s : State) (p : List Byte) : Within State.takeCheck_scope s (State.takeCheck s p) :=
    by
  unfold State.takeCheck
  repeat' first
    | (with_reducible assumption) | (with_reducible apply Within.refl) | lift_lets
    | (intro v; refine Within.cut (p := Within State.takeCheck_scope s v) ?_ ?_; unfold v; rotate_left; clear_value v; intro hv)
    | (intro v; clear_value v) | intro v
    | (with_reducible apply Within.step (State.rollSec_within ..); rotate_left; decide +kernel)
    | (with_reducible apply Within.step (State.take_within ..); rotate_left; decide +kernel)
    | (with_reducible apply Within.step (State.updTwin_within ..); rotate_left; decide +kernel) | split

def State.takeMessage_scope : Scope := ⟨[.evt, .tally, .tacc, .ports, .cars, .sheaves, .fwd, .grn, .alm, .tt, .ref,
    .twin, .out], [R.SHF_SHEAF_STAT, R.SHF_LOSS_WAIT, R.SHF_TT_STAT, R.SHF_TT_EVT_STAT, R.SHF_CAR_STAT,
    R.SHF_CAR_EVT_STAT, R.FWD_EVT_STAT, R.FWD_EGR_STAT, R.GRN_POOL_STAT, R.GRN_SILO_STAT, R.GRN_EVT_STAT,
    R.ALM_EVT_STAT, R.ALM_EVT_SRC, R.REF_SRC_STAT, R.EVT_STAT, R.TWN_STAT, R.TWN_TXN_STAT, R.TWN_MIRROR_STAT], []⟩
theorem State.takeMessage_within (s : State) (bs : List Byte) : Within State.takeMessage_scope s (State.takeMessage s
    bs) := by
  unfold State.takeMessage
  repeat' first
    | (with_reducible assumption) | (with_reducible apply Within.refl) | lift_lets
    | (intro v; refine Within.cut (p := Within State.takeMessage_scope s v) ?_ ?_; unfold v; rotate_left; clear_value v; intro hv)
    | (intro v; clear_value v) | intro v
    | (with_reducible apply Within.step (State.takeFragment_within ..); rotate_left; decide +kernel)
    | (with_reducible apply Within.step (State.sendMsg_within ..); rotate_left; decide +kernel)
    | (with_reducible apply Within.step (State.startResync_within ..); rotate_left; decide +kernel)
    | (with_reducible apply Within.step (State.updTwin_within ..); rotate_left; decide +kernel)
    | (with_reducible apply Within.step (State.take_within ..); rotate_left; decide +kernel)
    | (with_reducible apply Within.step (State.applyCarriers_within ..); rotate_left; decide +kernel)
    | (with_reducible apply Within.step (State.putSlot_within ..); rotate_left; decide +kernel)
    | (with_reducible apply Within.step (State.takeCheck_within ..); rotate_left; decide +kernel)
    | (with_reducible apply Within.each; rotate_left; intro x a hx; try beta_reduce; rotate_left)
    | (with_reducible apply Within.foldl; rotate_left; intro x a hx; try beta_reduce; rotate_left) | split

def State.drainHeld_scope : Scope := ⟨[.evt, .tally, .tacc, .ports, .cars, .sheaves, .fwd, .grn, .alm, .tt, .ref,
    .twin, .out], [R.SHF_SHEAF_STAT, R.SHF_LOSS_WAIT, R.SHF_TT_STAT, R.SHF_TT_EVT_STAT, R.SHF_CAR_STAT,
    R.SHF_CAR_EVT_STAT, R.FWD_EVT_STAT, R.FWD_EGR_STAT, R.GRN_POOL_STAT, R.GRN_SILO_STAT, R.GRN_EVT_STAT,
    R.ALM_EVT_STAT, R.ALM_EVT_SRC, R.REF_SRC_STAT, R.EVT_STAT, R.TWN_STAT, R.TWN_TXN_STAT, R.TWN_MIRROR_STAT], []⟩
theorem State.drainHeld_within (s : State) (k : Nat) : Within State.drainHeld_scope s (State.drainHeld s k) := by
  induction k generalizing s  with
  | zero => unfold State.drainHeld; exact .refl _ _
  | succ k ih =>
    unfold State.drainHeld
    repeat' first
      | (with_reducible assumption) | (with_reducible apply Within.refl) | lift_lets
      | (intro v; refine Within.cut (p := Within State.drainHeld_scope s v) ?_ ?_; unfold v; rotate_left; clear_value v; intro hv)
      | (intro v; clear_value v)
      | (with_reducible apply Within.step (State.updTwin_within ..); rotate_left; decide +kernel)
      | (with_reducible apply Within.step (State.takeMessage_within ..); rotate_left; decide +kernel)
      | (with_reducible apply Within.step (ih ..); rotate_left; decide +kernel)
      | (with_reducible apply Within.each; rotate_left; intro x a hx; try beta_reduce; rotate_left)
      | (with_reducible apply Within.foldl; rotate_left; intro x a hx; try beta_reduce; rotate_left) | split


def State.orderMessage_scope : Scope := ⟨[.evt, .tally, .tacc, .ports, .cars, .sheaves, .fwd, .grn, .alm, .tt, .ref,
    .twin, .out], [R.SHF_SHEAF_STAT, R.SHF_LOSS_WAIT, R.SHF_TT_STAT, R.SHF_TT_EVT_STAT, R.SHF_CAR_STAT,
    R.SHF_CAR_EVT_STAT, R.FWD_EVT_STAT, R.FWD_EGR_STAT, R.GRN_POOL_STAT, R.GRN_SILO_STAT, R.GRN_EVT_STAT,
    R.ALM_EVT_STAT, R.ALM_EVT_SRC, R.REF_SRC_STAT, R.EVT_STAT, R.TWN_STAT, R.TWN_TXN_STAT, R.TWN_MIRROR_STAT], []⟩
theorem State.orderMessage_within (s : State) (bs : List Byte) : Within State.orderMessage_scope s (State.orderMessage
    s bs) := by
  unfold State.orderMessage
  repeat' first
    | (with_reducible assumption) | (with_reducible apply Within.refl) | lift_lets
    | (intro v; refine Within.cut (p := Within State.orderMessage_scope s v) ?_ ?_; unfold v; rotate_left; clear_value v; intro hv)
    | (intro v; clear_value v) | intro v
    | (with_reducible apply Within.step (State.count_within ..); rotate_left; decide +kernel)
    | (with_reducible apply Within.step (State.updTwin_within ..); rotate_left; decide +kernel)
    | (with_reducible apply Within.step (State.drainHeld_within ..); rotate_left; decide +kernel) | split

def State.takeOver_scope : Scope := ⟨[.gr, .evt, .tacc, .cars, .twin, .out], [R.EVT_STAT, R.TWN_STAT,
    R.TWN_MIRROR_STAT, R.TWN_EVT_STAT], []⟩
theorem State.takeOver_within (s : State) : Within State.takeOver_scope s (State.takeOver s) := by
  unfold State.takeOver
  repeat' first
    | (with_reducible assumption) | (with_reducible apply Within.refl) | lift_lets
    | (intro v; refine Within.cut (p := Within State.takeOver_scope s v) ?_ ?_; unfold v; rotate_left; clear_value v; intro hv)
    | (intro v; clear_value v) | intro v
    | (with_reducible apply Within.step (State.setRole_within ..); rotate_left; decide +kernel)
    | (with_reducible apply Within.step (State.setTwSt_within ..); rotate_left; decide +kernel)
    | (with_reducible apply Within.step (State.count_within ..); rotate_left; decide +kernel)
    | (with_reducible apply Within.step (State.updInq_within ..); rotate_left; decide +kernel)
    | (with_reducible apply Within.step (State.updTwin_within ..); rotate_left; decide +kernel)
    | (with_reducible apply Within.step (State.updCar_within ..); rotate_left; decide +kernel)
    | (with_reducible apply Within.step (State.sendHb_within ..); rotate_left; decide +kernel)
    | (with_reducible apply Within.step (State.raise_within ..); rotate_left; decide +kernel)
    | (with_reducible apply Within.each; rotate_left; intro x a hx; try beta_reduce; rotate_left)
    | (with_reducible apply Within.foldl; rotate_left; intro x a hx; try beta_reduce; rotate_left) | split

def State.restoreTable_scope : Scope := ⟨[.gr, .evt, .out], [R.FWD_STAT, R.FWD_VER_STAT, R.FWD_BAD_ENTRY,
    R.FWD_BAD_ENTRY_CNT, R.FWD_EVT_STAT, R.ALM_BANK_STAT, R.ALM_BAD_ENTRY, R.ALM_BAD_ENTRY_CNT, R.ALM_EVT_STAT,
    R.ALM_EVT_SRC, R.MBX_DT_SEQ, R.MBX_DT_DONE, R.MBX_DT_BIND, R.MBX_DT_STAT], []⟩
theorem State.restoreTable_within (s : State) (o : Nat × Nat × List (Nat × List Byte)) : Within
    State.restoreTable_scope s (State.restoreTable s o) := by
  unfold State.restoreTable
  repeat' first
    | (with_reducible assumption) | (with_reducible apply Within.refl)
    | (with_reducible apply Within.step (State.bindTable_within ..); rotate_left; decide +kernel)
    | (with_reducible apply Within.step (State.putEntry_within ..); rotate_left; decide +kernel)
    | (with_reducible apply Within.each; rotate_left; intro x a hx; try beta_reduce; rotate_left)
    | (with_reducible apply Within.foldl; rotate_left; intro x a hx; try beta_reduce; rotate_left) | split

def State.yieldLead_scope : Scope := ⟨[.nextOrd, .nextFrame, .committed, .latches, .mem, .pwr, .boot, .gr, .evt,
    .tally, .tacc, .ports, .cars, .sheaves, .fwd, .grn, .alm, .tb, .tt, .ref, .syn, .tdc, .cal, .twin, .out], [], [0,
    1, 2, 3, 4, 5, 6, 7, 8, 9, 10, 11, 12, 13, 14, 255]⟩
theorem State.yieldLead_within (s : State) (txn : Nat) : Within State.yieldLead_scope s (s.yieldLead txn) := by
  unfold State.yieldLead
  extract_lets old tabs s1 s2 s3 s4 s5
  have h1 : Within State.yieldLead_scope s s1 := (State.endRelq_within ..).step (.refl _ _) (by decide +kernel)
  have h2 : Within State.yieldLead_scope s s2 := (State.setRole_within ..).step h1 (by decide +kernel)
  clear_value s1 s2 old tabs
  have h3 : Within State.yieldLead_scope s { s2 with regs := copySets 0xFFF old s2.regs } :=
    (Within.put_regs s2 _ (copySets_rising _ _ _)).step h2 (by decide +kernel)
  have h3 : Within State.yieldLead_scope s s3 :=
    (State.applyGroups_within _ _ _ _ _ (copySets_rising _ _)).step h3 (by decide +kernel)
  clear_value s3
  have h4 : Within State.yieldLead_scope s s4 :=
    (State.updInq_within ..).step (Within.each h3 (fun x a ha => (State.restoreTable_within ..).step ha (by decide +kernel)))
      (by decide +kernel)
  clear_value s4
  have h5 : Within State.yieldLead_scope s s5 :=
    (State.wr_within ..).step ((State.updTwin_within ..).step h4 (by decide +kernel)) (by decide +kernel)
  clear_value s5
  exact (State.closeIfDone_within ..).step ((State.raise_within ..).step ((State.setTwSt_within ..).step h5 (by decide +kernel))
    (by decide +kernel)) (by decide +kernel)

def State.seqAhead_scope : Scope := ⟨[.evt, .tacc, .sheaves], [R.EVT_STAT], []⟩
theorem State.seqAhead_within (s : State) (p : List Byte) (age : Int) : Within State.seqAhead_scope s (State.seqAhead
    s p age) := by
  unfold State.seqAhead
  repeat' first
    | (with_reducible assumption) | (with_reducible apply Within.refl) | lift_lets
    | (intro v; refine Within.cut (p := Within State.seqAhead_scope s v) ?_ ?_; unfold v; rotate_left; clear_value v; intro hv)
    | (intro v; clear_value v) | intro v
    | (with_reducible apply Within.step (State.updSheaf_within ..); rotate_left; decide +kernel)
    | (with_reducible apply Within.step (State.count_within ..); rotate_left; decide +kernel)
    | (with_reducible apply Within.each; rotate_left; intro x a hx; try beta_reduce; rotate_left)
    | (with_reducible apply Within.foldl; rotate_left; intro x a hx; try beta_reduce; rotate_left) | split

def State.compareDigest_scope : Scope := ⟨[.evt, .tacc, .twin, .out], [R.EVT_STAT, R.TWN_STAT, R.TWN_TXN_STAT], []⟩
theorem State.compareDigest_within (s : State) (theirs txn : Nat) (partnerLead : Bool) : Within
    State.compareDigest_scope s (State.compareDigest s theirs txn partnerLead) := by
  unfold State.compareDigest
  repeat' first
    | (with_reducible assumption) | (with_reducible apply Within.refl) | lift_lets
    | (intro v; refine Within.cut (p := Within State.compareDigest_scope s v) ?_ ?_; unfold v; rotate_left; clear_value v; intro hv)
    | (intro v; clear_value v) | intro v
    | (with_reducible apply Within.step (State.updTwin_within ..); rotate_left; decide +kernel)
    | (with_reducible apply Within.step (State.startResync_within ..); rotate_left; decide +kernel)
    | (with_reducible apply Within.step (State.count_within ..); rotate_left; decide +kernel)
    | (with_reducible apply Within.step (State.setTwSt_within ..); rotate_left; decide +kernel) | split

def State.sawUnpaired_scope : Scope := ⟨[.twin], [], []⟩
theorem State.sawUnpaired_within (s : State) : Within State.sawUnpaired_scope s (State.sawUnpaired s) := by
  unfold State.sawUnpaired
  repeat' first
    | (with_reducible assumption) | (with_reducible apply Within.refl) | lift_lets
    | (intro v; refine Within.cut (p := Within State.sawUnpaired_scope s v) ?_ ?_; unfold v; rotate_left; clear_value v; intro hv)
    | (intro v; clear_value v) | intro v
    | (with_reducible apply Within.step (State.updTwin_within ..); rotate_left; decide +kernel) | split

def State.pairStep_scope : Scope := ⟨[.nextOrd, .nextFrame, .committed, .latches, .mem, .pwr, .boot, .gr, .evt,
    .tally, .tacc, .ports, .cars, .sheaves, .fwd, .grn, .alm, .tb, .tt, .ref, .syn, .tdc, .cal, .twin, .out], [], [0,
    1, 2, 3, 4, 5, 6, 7, 8, 9, 10, 11, 12, 13, 14, 255]⟩
theorem State.pairStep_within (s : State) (p : List Byte) : Within State.pairStep_scope s (State.pairStep s p) := by
  unfold State.pairStep
  repeat' first
    | (with_reducible assumption) | (with_reducible apply Within.refl) | lift_lets
    | (intro v; refine Within.cut (p := Within State.pairStep_scope s v) ?_ ?_; unfold v; rotate_left; clear_value v; intro hv)
    | (intro v; clear_value v) | intro v
    | (with_reducible apply Within.step (State.handOver_within ..); rotate_left; decide +kernel)
    | (with_reducible apply Within.step (State.wr_within ..); rotate_left; decide +kernel)
    | (with_reducible apply Within.step (State.endRelq_within ..); rotate_left; decide +kernel)
    | (with_reducible apply Within.step (State.updTwin_within ..); rotate_left; decide +kernel)
    | (with_reducible apply Within.step (State.sendHb_within ..); rotate_left; decide +kernel)
    | (with_reducible apply Within.step (State.closeIfDone_within ..); rotate_left; decide +kernel)
    | (with_reducible apply Within.step (State.settle_within ..); rotate_left; decide +kernel)
    | (with_reducible apply Within.step (State.yieldLead_within ..); rotate_left; decide +kernel)
    | (with_reducible apply Within.step (State.setTwSt_within ..); rotate_left; decide +kernel)
    | (with_reducible apply Within.step (State.startResync_within ..); rotate_left; decide +kernel)
    | (with_reducible apply Within.step (State.sawUnpaired_within ..); rotate_left; decide +kernel)
    | (with_reducible apply Within.step (State.raise_within ..); rotate_left; decide +kernel)
    | (with_reducible apply Within.step (State.count_within ..); rotate_left; decide +kernel)
    | (with_reducible apply Within.step (State.takeOver_within ..); rotate_left; decide +kernel)
    | (with_reducible apply Within.step (State.setRole_within ..); rotate_left; decide +kernel) | split

def State.noteWtr_scope : Scope := ⟨[.twin], [R.TWN_STAT], []⟩
theorem State.noteWtr_within (s : State) : Within State.noteWtr_scope s (State.noteWtr s) := by
  unfold State.noteWtr
  repeat' first
    | (with_reducible assumption) | (with_reducible apply Within.refl) | lift_lets
    | (intro v; refine Within.cut (p := Within State.noteWtr_scope s v) ?_ ?_; unfold v; rotate_left; clear_value v; intro hv)
    | (intro v; clear_value v) | intro v
    | (with_reducible apply Within.step (State.updTwin_within ..); rotate_left; decide +kernel)
    | (with_reducible apply Within.step (State.wr_within ..); rotate_left; decide +kernel) | split

end Sys2Proof.Machine
end

