-- ==== Sys2Proof/Laws/Exec.lean ====
section
/-! SUPPORT. Sys2Proof/Laws/Exec.lean: what the outcome of a command may change (`Bounds`). -/
set_option Elab.async false
namespace Sys2Proof.Machine

/-- Where the outcome is a next state, it differs from `s` within `sc` at most. -/
structure Bounds (sc : Scope) (s : State) (r : Res) : Prop where
  within : ∀ t, r = .next t → Within sc s t

theorem Bounds.fin {sc : Scope} {s a : State} (h : Within sc s a)
    (hs : (State.settle_scope.regs.all (fun r => decide (0 < r.stride)) && State.settle_scope.le sc) = true) :
    Bounds sc s (Machine.fin a) := by
  refine ⟨fun t ht => ?_⟩
  have e : a.settle = t := by simpa only [Machine.fin, Host.Outcome.next.injEq] using ht
  rw [← e]
  exact (State.settle_within a).step h hs

theorem Bounds.fault {sc : Scope} {s : State} {f : Fault} : Bounds sc s (.fault f) := by
  refine ⟨fun t ht => ?_⟩
  exact absurd ht (by simp)

/-- The SMBus reaches registers of the always-on block alone. -/
theorem regAt_aon {ofs : BitVec 16} {i : Nat} {row : RegRow} (h : regAt (0x01D00000 + ofs.toNat) = some (row, i)) :
    row.reg.inBlock 13 = true ∧ 0 < row.reg.stride := by
  have hb : blockOf (0x01D00000 + ofs.toNat) = 13 := by
    have := ofs.isLt
    unfold blockOf
    rw [if_neg (by omega), if_pos (by omega)]
    omega
  have := regAt_in h
  rwa [hb] at this

end Sys2Proof.Machine
end

