-- ==== Sys2Proof/Laws/State.lean ====
section
/-! SUPPORT. Sys2Proof/Laws/State.lean: each field of the state after each plain update. -/
set_option Elab.async false
namespace Sys2Proof.Machine

/-! emit -/
@[simp] theorem State.emit_pending (s : State) (o : Out) : (s.emit o).pending = s.pending := rfl
@[simp] theorem State.emit_now (s : State) (o : Out) : (s.emit o).now = s.now := rfl
@[simp] theorem State.emit_nextOrd (s : State) (o : Out) : (s.emit o).nextOrd = s.nextOrd := rfl
@[simp] theorem State.emit_nextFrame (s : State) (o : Out) : (s.emit o).nextFrame = s.nextFrame := rfl
@[simp] theorem State.emit_nextFree (s : State) (o : Out) : (s.emit o).nextFree = s.nextFree := rfl
@[simp] theorem State.emit_regs (s : State) (o : Out) : (s.emit o).regs = s.regs := rfl
@[simp] theorem State.emit_committed (s : State) (o : Out) : (s.emit o).committed = s.committed := rfl
@[simp] theorem State.emit_latches (s : State) (o : Out) : (s.emit o).latches = s.latches := rfl
@[simp] theorem State.emit_mem (s : State) (o : Out) : (s.emit o).mem = s.mem := rfl
@[simp] theorem State.emit_pwr (s : State) (o : Out) : (s.emit o).pwr = s.pwr := rfl
@[simp] theorem State.emit_boot (s : State) (o : Out) : (s.emit o).boot = s.boot := rfl
@[simp] theorem State.emit_gr (s : State) (o : Out) : (s.emit o).gr = s.gr := rfl
@[simp] theorem State.emit_evt (s : State) (o : Out) : (s.emit o).evt = s.evt := rfl
@[simp] theorem State.emit_tally (s : State) (o : Out) : (s.emit o).tally = s.tally := rfl
@[simp] theorem State.emit_tacc (s : State) (o : Out) : (s.emit o).tacc = s.tacc := rfl
@[simp] theorem State.emit_ports (s : State) (o : Out) : (s.emit o).ports = s.ports := rfl
@[simp] theorem State.emit_cars (s : State) (o : Out) : (s.emit o).cars = s.cars := rfl
@[simp] theorem State.emit_sheaves (s : State) (o : Out) : (s.emit o).sheaves = s.sheaves := rfl
@[simp] theorem State.emit_fwd (s : State) (o : Out) : (s.emit o).fwd = s.fwd := rfl
@[simp] theorem State.emit_grn (s : State) (o : Out) : (s.emit o).grn = s.grn := rfl
@[simp] theorem State.emit_alm (s : State) (o : Out) : (s.emit o).alm = s.alm := rfl
@[simp] theorem State.emit_tb (s : State) (o : Out) : (s.emit o).tb = s.tb := rfl
@[simp] theorem State.emit_tt (s : State) (o : Out) : (s.emit o).tt = s.tt := rfl
@[simp] theorem State.emit_ref (s : State) (o : Out) : (s.emit o).ref = s.ref := rfl
@[simp] theorem State.emit_syn (s : State) (o : Out) : (s.emit o).syn = s.syn := rfl
@[simp] theorem State.emit_tdc (s : State) (o : Out) : (s.emit o).tdc = s.tdc := rfl
@[simp] theorem State.emit_cal (s : State) (o : Out) : (s.emit o).cal = s.cal := rfl
@[simp] theorem State.emit_twin (s : State) (o : Out) : (s.emit o).twin = s.twin := rfl
@[simp] theorem State.emit_out (s : State) (o : Out) : (s.emit o).out = s.out ++ [o] := rfl
/-! setMb -/
@[simp] theorem State.setMb_pending (s : State) (n o : Nat) (bs : List Byte) : (s.setMb n o bs).pending = s.pending := rfl
@[simp] theorem State.setMb_now (s : State) (n o : Nat) (bs : List Byte) : (s.setMb n o bs).now = s.now := rfl
@[simp] theorem State.setMb_nextOrd (s : State) (n o : Nat) (bs : List Byte) : (s.setMb n o bs).nextOrd = s.nextOrd := rfl
@[simp] theorem State.setMb_nextFrame (s : State) (n o : Nat) (bs : List Byte) : (s.setMb n o bs).nextFrame = s.nextFrame := rfl
@[simp] theorem State.setMb_nextFree (s : State) (n o : Nat) (bs : List Byte) : (s.setMb n o bs).nextFree = s.nextFree := rfl
@[simp] theorem State.setMb_regs (s : State) (n o : Nat) (bs : List Byte) : (s.setMb n o bs).regs = s.regs := rfl
@[simp] theorem State.setMb_committed (s : State) (n o : Nat) (bs : List Byte) : (s.setMb n o bs).committed = s.committed := rfl
@[simp] theorem State.setMb_latches (s : State) (n o : Nat) (bs : List Byte) : (s.setMb n o bs).latches = s.latches := rfl
@[simp] theorem State.setMb_mem (s : State) (n o : Nat) (bs : List Byte) : (s.setMb n o bs).mem = Memory.setBytes s.mem (4096 * n + o) bs := rfl
@[simp] theorem State.setMb_pwr (s : State) (n o : Nat) (bs : List Byte) : (s.setMb n o bs).pwr = s.pwr := rfl
@[simp] theorem State.setMb_boot (s : State) (n o : Nat) (bs : List Byte) : (s.setMb n o bs).boot = s.boot := rfl
@[simp] theorem State.setMb_gr (s : State) (n o : Nat) (bs : List Byte) : (s.setMb n o bs).gr = s.gr := rfl
@[simp] theorem State.setMb_evt (s : State) (n o : Nat) (bs : List Byte) : (s.setMb n o bs).evt = s.evt := rfl
@[simp] theorem State.setMb_tally (s : State) (n o : Nat) (bs : List Byte) : (s.setMb n o bs).tally = s.tally := rfl
@[simp] theorem State.setMb_tacc (s : State) (n o : Nat) (bs : List Byte) : (s.setMb n o bs).tacc = s.tacc := rfl
@[simp] theorem State.setMb_ports (s : State) (n o : Nat) (bs : List Byte) : (s.setMb n o bs).ports = s.ports := rfl
@[simp] theorem State.setMb_cars (s : State) (n o : Nat) (bs : List Byte) : (s.setMb n o bs).cars = s.cars := rfl
@[simp] theorem State.setMb_sheaves (s : State) (n o : Nat) (bs : List Byte) : (s.setMb n o bs).sheaves = s.sheaves := rfl
@[simp] theorem State.setMb_fwd (s : State) (n o : Nat) (bs : List Byte) : (s.setMb n o bs).fwd = s.fwd := rfl
@[simp] theorem State.setMb_grn (s : State) (n o : Nat) (bs : List Byte) : (s.setMb n o bs).grn = s.grn := rfl
@[simp] theorem State.setMb_alm (s : State) (n o : Nat) (bs : List Byte) : (s.setMb n o bs).alm = s.alm := rfl
@[simp] theorem State.setMb_tb (s : State) (n o : Nat) (bs : List Byte) : (s.setMb n o bs).tb = s.tb := rfl
@[simp] theorem State.setMb_tt (s : State) (n o : Nat) (bs : List Byte) : (s.setMb n o bs).tt = s.tt := rfl
@[simp] theorem State.setMb_ref (s : State) (n o : Nat) (bs : List Byte) : (s.setMb n o bs).ref = s.ref := rfl
@[simp] theorem State.setMb_syn (s : State) (n o : Nat) (bs : List Byte) : (s.setMb n o bs).syn = s.syn := rfl
@[simp] theorem State.setMb_tdc (s : State) (n o : Nat) (bs : List Byte) : (s.setMb n o bs).tdc = s.tdc := rfl
@[simp] theorem State.setMb_cal (s : State) (n o : Nat) (bs : List Byte) : (s.setMb n o bs).cal = s.cal := rfl
@[simp] theorem State.setMb_twin (s : State) (n o : Nat) (bs : List Byte) : (s.setMb n o bs).twin = s.twin := rfl
@[simp] theorem State.setMb_out (s : State) (n o : Nat) (bs : List Byte) : (s.setMb n o bs).out = s.out := rfl
/-! updPwr -/
@[simp] theorem State.updPwr_pending (s : State) (f : Pwr → Pwr) : (s.updPwr f).pending = s.pending := rfl
@[simp] theorem State.updPwr_now (s : State) (f : Pwr → Pwr) : (s.updPwr f).now = s.now := rfl
@[simp] theorem State.updPwr_nextOrd (s : State) (f : Pwr → Pwr) : (s.updPwr f).nextOrd = s.nextOrd := rfl
@[simp] theorem State.updPwr_nextFrame (s : State) (f : Pwr → Pwr) : (s.updPwr f).nextFrame = s.nextFrame := rfl
@[simp] theorem State.updPwr_nextFree (s : State) (f : Pwr → Pwr) : (s.updPwr f).nextFree = s.nextFree := rfl
@[simp] theorem State.updPwr_regs (s : State) (f : Pwr → Pwr) : (s.updPwr f).regs = s.regs := rfl
@[simp] theorem State.updPwr_committed (s : State) (f : Pwr → Pwr) : (s.updPwr f).committed = s.committed := rfl
@[simp] theorem State.updPwr_latches (s : State) (f : Pwr → Pwr) : (s.updPwr f).latches = s.latches := rfl
@[simp] theorem State.updPwr_mem (s : State) (f : Pwr → Pwr) : (s.updPwr f).mem = s.mem := rfl
@[simp] theorem State.updPwr_pwr (s : State) (f : Pwr → Pwr) : (s.updPwr f).pwr = f s.pwr := rfl
@[simp] theorem State.updPwr_boot (s : State) (f : Pwr → Pwr) : (s.updPwr f).boot = s.boot := rfl
@[simp] theorem State.updPwr_gr (s : State) (f : Pwr → Pwr) : (s.updPwr f).gr = s.gr := rfl
@[simp] theorem State.updPwr_evt (s : State) (f : Pwr → Pwr) : (s.updPwr f).evt = s.evt := rfl
@[simp] theorem State.updPwr_tally (s : State) (f : Pwr → Pwr) : (s.updPwr f).tally = s.tally := rfl
@[simp] theorem State.updPwr_tacc (s : State) (f : Pwr → Pwr) : (s.updPwr f).tacc = s.tacc := rfl
@[simp] theorem State.updPwr_ports (s : State) (f : Pwr → Pwr) : (s.updPwr f).ports = s.ports := rfl
@[simp] theorem State.updPwr_cars (s : State) (f : Pwr → Pwr) : (s.updPwr f).cars = s.cars := rfl
@[simp] theorem State.updPwr_sheaves (s : State) (f : Pwr → Pwr) : (s.updPwr f).sheaves = s.sheaves := rfl
@[simp] theorem State.updPwr_fwd (s : State) (f : Pwr → Pwr) : (s.updPwr f).fwd = s.fwd := rfl
@[simp] theorem State.updPwr_grn (s : State) (f : Pwr → Pwr) : (s.updPwr f).grn = s.grn := rfl
@[simp] theorem State.updPwr_alm (s : State) (f : Pwr → Pwr) : (s.updPwr f).alm = s.alm := rfl
@[simp] theorem State.updPwr_tb (s : State) (f : Pwr → Pwr) : (s.updPwr f).tb = s.tb := rfl
@[simp] theorem State.updPwr_tt (s : State) (f : Pwr → Pwr) : (s.updPwr f).tt = s.tt := rfl
@[simp] theorem State.updPwr_ref (s : State) (f : Pwr → Pwr) : (s.updPwr f).ref = s.ref := rfl
@[simp] theorem State.updPwr_syn (s : State) (f : Pwr → Pwr) : (s.updPwr f).syn = s.syn := rfl
@[simp] theorem State.updPwr_tdc (s : State) (f : Pwr → Pwr) : (s.updPwr f).tdc = s.tdc := rfl
@[simp] theorem State.updPwr_cal (s : State) (f : Pwr → Pwr) : (s.updPwr f).cal = s.cal := rfl
@[simp] theorem State.updPwr_twin (s : State) (f : Pwr → Pwr) : (s.updPwr f).twin = s.twin := rfl
@[simp] theorem State.updPwr_out (s : State) (f : Pwr → Pwr) : (s.updPwr f).out = s.out := rfl
/-! updBoot -/
@[simp] theorem State.updBoot_pending (s : State) (f : Boot → Boot) : (s.updBoot f).pending = s.pending := rfl
@[simp] theorem State.updBoot_now (s : State) (f : Boot → Boot) : (s.updBoot f).now = s.now := rfl
@[simp] theorem State.updBoot_nextOrd (s : State) (f : Boot → Boot) : (s.updBoot f).nextOrd = s.nextOrd := rfl
@[simp] theorem State.updBoot_nextFrame (s : State) (f : Boot → Boot) : (s.updBoot f).nextFrame = s.nextFrame := rfl
@[simp] theorem State.updBoot_nextFree (s : State) (f : Boot → Boot) : (s.updBoot f).nextFree = s.nextFree := rfl
@[simp] theorem State.updBoot_regs (s : State) (f : Boot → Boot) : (s.updBoot f).regs = s.regs := rfl
@[simp] theorem State.updBoot_committed (s : State) (f : Boot → Boot) : (s.updBoot f).committed = s.committed := rfl
@[simp] theorem State.updBoot_latches (s : State) (f : Boot → Boot) : (s.updBoot f).latches = s.latches := rfl
@[simp] theorem State.updBoot_mem (s : State) (f : Boot → Boot) : (s.updBoot f).mem = s.mem := rfl
@[simp] theorem State.updBoot_pwr (s : State) (f : Boot → Boot) : (s.updBoot f).pwr = s.pwr := rfl
@[simp] theorem State.updBoot_boot (s : State) (f : Boot → Boot) : (s.updBoot f).boot = f s.boot := rfl
@[simp] theorem State.updBoot_gr (s : State) (f : Boot → Boot) : (s.updBoot f).gr = s.gr := rfl
@[simp] theorem State.updBoot_evt (s : State) (f : Boot → Boot) : (s.updBoot f).evt = s.evt := rfl
@[simp] theorem State.updBoot_tally (s : State) (f : Boot → Boot) : (s.updBoot f).tally = s.tally := rfl
@[simp] theorem State.updBoot_tacc (s : State) (f : Boot → Boot) : (s.updBoot f).tacc = s.tacc := rfl
@[simp] theorem State.updBoot_ports (s : State) (f : Boot → Boot) : (s.updBoot f).ports = s.ports := rfl
@[simp] theorem State.updBoot_cars (s : State) (f : Boot → Boot) : (s.updBoot f).cars = s.cars := rfl
@[simp] theorem State.updBoot_sheaves (s : State) (f : Boot → Boot) : (s.updBoot f).sheaves = s.sheaves := rfl
@[simp] theorem State.updBoot_fwd (s : State) (f : Boot → Boot) : (s.updBoot f).fwd = s.fwd := rfl
@[simp] theorem State.updBoot_grn (s : State) (f : Boot → Boot) : (s.updBoot f).grn = s.grn := rfl
@[simp] theorem State.updBoot_alm (s : State) (f : Boot → Boot) : (s.updBoot f).alm = s.alm := rfl
@[simp] theorem State.updBoot_tb (s : State) (f : Boot → Boot) : (s.updBoot f).tb = s.tb := rfl
@[simp] theorem State.updBoot_tt (s : State) (f : Boot → Boot) : (s.updBoot f).tt = s.tt := rfl
@[simp] theorem State.updBoot_ref (s : State) (f : Boot → Boot) : (s.updBoot f).ref = s.ref := rfl
@[simp] theorem State.updBoot_syn (s : State) (f : Boot → Boot) : (s.updBoot f).syn = s.syn := rfl
@[simp] theorem State.updBoot_tdc (s : State) (f : Boot → Boot) : (s.updBoot f).tdc = s.tdc := rfl
@[simp] theorem State.updBoot_cal (s : State) (f : Boot → Boot) : (s.updBoot f).cal = s.cal := rfl
@[simp] theorem State.updBoot_twin (s : State) (f : Boot → Boot) : (s.updBoot f).twin = s.twin := rfl
@[simp] theorem State.updBoot_out (s : State) (f : Boot → Boot) : (s.updBoot f).out = s.out := rfl
/-! updGr -/
@[simp] theorem State.updGr_pending (s : State) (f : Grange → Grange) : (s.updGr f).pending = s.pending := rfl
@[simp] theorem State.updGr_now (s : State) (f : Grange → Grange) : (s.updGr f).now = s.now := rfl
@[simp] theorem State.updGr_nextOrd (s : State) (f : Grange → Grange) : (s.updGr f).nextOrd = s.nextOrd := rfl
@[simp] theorem State.updGr_nextFrame (s : State) (f : Grange → Grange) : (s.updGr f).nextFrame = s.nextFrame := rfl
@[simp] theorem State.updGr_nextFree (s : State) (f : Grange → Grange) : (s.updGr f).nextFree = s.nextFree := rfl
@[simp] theorem State.updGr_regs (s : State) (f : Grange → Grange) : (s.updGr f).regs = s.regs := rfl
@[simp] theorem State.updGr_committed (s : State) (f : Grange → Grange) : (s.updGr f).committed = s.committed := rfl
@[simp] theorem State.updGr_latches (s : State) (f : Grange → Grange) : (s.updGr f).latches = s.latches := rfl
@[simp] theorem State.updGr_mem (s : State) (f : Grange → Grange) : (s.updGr f).mem = s.mem := rfl
@[simp] theorem State.updGr_pwr (s : State) (f : Grange → Grange) : (s.updGr f).pwr = s.pwr := rfl
@[simp] theorem State.updGr_boot (s : State) (f : Grange → Grange) : (s.updGr f).boot = s.boot := rfl
@[simp] theorem State.updGr_gr (s : State) (f : Grange → Grange) : (s.updGr f).gr = f s.gr := rfl
@[simp] theorem State.updGr_evt (s : State) (f : Grange → Grange) : (s.updGr f).evt = s.evt := rfl
@[simp] theorem State.updGr_tally (s : State) (f : Grange → Grange) : (s.updGr f).tally = s.tally := rfl
@[simp] theorem State.updGr_tacc (s : State) (f : Grange → Grange) : (s.updGr f).tacc = s.tacc := rfl
@[simp] theorem State.updGr_ports (s : State) (f : Grange → Grange) : (s.updGr f).ports = s.ports := rfl
@[simp] theorem State.updGr_cars (s : State) (f : Grange → Grange) : (s.updGr f).cars = s.cars := rfl
@[simp] theorem State.updGr_sheaves (s : State) (f : Grange → Grange) : (s.updGr f).sheaves = s.sheaves := rfl
@[simp] theorem State.updGr_fwd (s : State) (f : Grange → Grange) : (s.updGr f).fwd = s.fwd := rfl
@[simp] theorem State.updGr_grn (s : State) (f : Grange → Grange) : (s.updGr f).grn = s.grn := rfl
@[simp] theorem State.updGr_alm (s : State) (f : Grange → Grange) : (s.updGr f).alm = s.alm := rfl
@[simp] theorem State.updGr_tb (s : State) (f : Grange → Grange) : (s.updGr f).tb = s.tb := rfl
@[simp] theorem State.updGr_tt (s : State) (f : Grange → Grange) : (s.updGr f).tt = s.tt := rfl
@[simp] theorem State.updGr_ref (s : State) (f : Grange → Grange) : (s.updGr f).ref = s.ref := rfl
@[simp] theorem State.updGr_syn (s : State) (f : Grange → Grange) : (s.updGr f).syn = s.syn := rfl
@[simp] theorem State.updGr_tdc (s : State) (f : Grange → Grange) : (s.updGr f).tdc = s.tdc := rfl
@[simp] theorem State.updGr_cal (s : State) (f : Grange → Grange) : (s.updGr f).cal = s.cal := rfl
@[simp] theorem State.updGr_twin (s : State) (f : Grange → Grange) : (s.updGr f).twin = s.twin := rfl
@[simp] theorem State.updGr_out (s : State) (f : Grange → Grange) : (s.updGr f).out = s.out := rfl
/-! updEvt -/
@[simp] theorem State.updEvt_pending (s : State) (f : Evt → Evt) : (s.updEvt f).pending = s.pending := rfl
@[simp] theorem State.updEvt_now (s : State) (f : Evt → Evt) : (s.updEvt f).now = s.now := rfl
@[simp] theorem State.updEvt_nextOrd (s : State) (f : Evt → Evt) : (s.updEvt f).nextOrd = s.nextOrd := rfl
@[simp] theorem State.updEvt_nextFrame (s : State) (f : Evt → Evt) : (s.updEvt f).nextFrame = s.nextFrame := rfl
@[simp] theorem State.updEvt_nextFree (s : State) (f : Evt → Evt) : (s.updEvt f).nextFree = s.nextFree := rfl
@[simp] theorem State.updEvt_regs (s : State) (f : Evt → Evt) : (s.updEvt f).regs = s.regs := rfl
@[simp] theorem State.updEvt_committed (s : State) (f : Evt → Evt) : (s.updEvt f).committed = s.committed := rfl
@[simp] theorem State.updEvt_latches (s : State) (f : Evt → Evt) : (s.updEvt f).latches = s.latches := rfl
@[simp] theorem State.updEvt_mem (s : State) (f : Evt → Evt) : (s.updEvt f).mem = s.mem := rfl
@[simp] theorem State.updEvt_pwr (s : State) (f : Evt → Evt) : (s.updEvt f).pwr = s.pwr := rfl
@[simp] theorem State.updEvt_boot (s : State) (f : Evt → Evt) : (s.updEvt f).boot = s.boot := rfl
@[simp] theorem State.updEvt_gr (s : State) (f : Evt → Evt) : (s.updEvt f).gr = s.gr := rfl
@[simp] theorem State.updEvt_evt (s : State) (f : Evt → Evt) : (s.updEvt f).evt = f s.evt := rfl
@[simp] theorem State.updEvt_tally (s : State) (f : Evt → Evt) : (s.updEvt f).tally = s.tally := rfl
@[simp] theorem State.updEvt_tacc (s : State) (f : Evt → Evt) : (s.updEvt f).tacc = s.tacc := rfl
@[simp] theorem State.updEvt_ports (s : State) (f : Evt → Evt) : (s.updEvt f).ports = s.ports := rfl
@[simp] theorem State.updEvt_cars (s : State) (f : Evt → Evt) : (s.updEvt f).cars = s.cars := rfl
@[simp] theorem State.updEvt_sheaves (s : State) (f : Evt → Evt) : (s.updEvt f).sheaves = s.sheaves := rfl
@[simp] theorem State.updEvt_fwd (s : State) (f : Evt → Evt) : (s.updEvt f).fwd = s.fwd := rfl
@[simp] theorem State.updEvt_grn (s : State) (f : Evt → Evt) : (s.updEvt f).grn = s.grn := rfl
@[simp] theorem State.updEvt_alm (s : State) (f : Evt → Evt) : (s.updEvt f).alm = s.alm := rfl
@[simp] theorem State.updEvt_tb (s : State) (f : Evt → Evt) : (s.updEvt f).tb = s.tb := rfl
@[simp] theorem State.updEvt_tt (s : State) (f : Evt → Evt) : (s.updEvt f).tt = s.tt := rfl
@[simp] theorem State.updEvt_ref (s : State) (f : Evt → Evt) : (s.updEvt f).ref = s.ref := rfl
@[simp] theorem State.updEvt_syn (s : State) (f : Evt → Evt) : (s.updEvt f).syn = s.syn := rfl
@[simp] theorem State.updEvt_tdc (s : State) (f : Evt → Evt) : (s.updEvt f).tdc = s.tdc := rfl
@[simp] theorem State.updEvt_cal (s : State) (f : Evt → Evt) : (s.updEvt f).cal = s.cal := rfl
@[simp] theorem State.updEvt_twin (s : State) (f : Evt → Evt) : (s.updEvt f).twin = s.twin := rfl
@[simp] theorem State.updEvt_out (s : State) (f : Evt → Evt) : (s.updEvt f).out = s.out := rfl
/-! updFwd -/
@[simp] theorem State.updFwd_pending (s : State) (f : Fwd → Fwd) : (s.updFwd f).pending = s.pending := rfl
@[simp] theorem State.updFwd_now (s : State) (f : Fwd → Fwd) : (s.updFwd f).now = s.now := rfl
@[simp] theorem State.updFwd_nextOrd (s : State) (f : Fwd → Fwd) : (s.updFwd f).nextOrd = s.nextOrd := rfl
@[simp] theorem State.updFwd_nextFrame (s : State) (f : Fwd → Fwd) : (s.updFwd f).nextFrame = s.nextFrame := rfl
@[simp] theorem State.updFwd_nextFree (s : State) (f : Fwd → Fwd) : (s.updFwd f).nextFree = s.nextFree := rfl
@[simp] theorem State.updFwd_regs (s : State) (f : Fwd → Fwd) : (s.updFwd f).regs = s.regs := rfl
@[simp] theorem State.updFwd_committed (s : State) (f : Fwd → Fwd) : (s.updFwd f).committed = s.committed := rfl
@[simp] theorem State.updFwd_latches (s : State) (f : Fwd → Fwd) : (s.updFwd f).latches = s.latches := rfl
@[simp] theorem State.updFwd_mem (s : State) (f : Fwd → Fwd) : (s.updFwd f).mem = s.mem := rfl
@[simp] theorem State.updFwd_pwr (s : State) (f : Fwd → Fwd) : (s.updFwd f).pwr = s.pwr := rfl
@[simp] theorem State.updFwd_boot (s : State) (f : Fwd → Fwd) : (s.updFwd f).boot = s.boot := rfl
@[simp] theorem State.updFwd_gr (s : State) (f : Fwd → Fwd) : (s.updFwd f).gr = s.gr := rfl
@[simp] theorem State.updFwd_evt (s : State) (f : Fwd → Fwd) : (s.updFwd f).evt = s.evt := rfl
@[simp] theorem State.updFwd_tally (s : State) (f : Fwd → Fwd) : (s.updFwd f).tally = s.tally := rfl
@[simp] theorem State.updFwd_tacc (s : State) (f : Fwd → Fwd) : (s.updFwd f).tacc = s.tacc := rfl
@[simp] theorem State.updFwd_ports (s : State) (f : Fwd → Fwd) : (s.updFwd f).ports = s.ports := rfl
@[simp] theorem State.updFwd_cars (s : State) (f : Fwd → Fwd) : (s.updFwd f).cars = s.cars := rfl
@[simp] theorem State.updFwd_sheaves (s : State) (f : Fwd → Fwd) : (s.updFwd f).sheaves = s.sheaves := rfl
@[simp] theorem State.updFwd_fwd (s : State) (f : Fwd → Fwd) : (s.updFwd f).fwd = f s.fwd := rfl
@[simp] theorem State.updFwd_grn (s : State) (f : Fwd → Fwd) : (s.updFwd f).grn = s.grn := rfl
@[simp] theorem State.updFwd_alm (s : State) (f : Fwd → Fwd) : (s.updFwd f).alm = s.alm := rfl
@[simp] theorem State.updFwd_tb (s : State) (f : Fwd → Fwd) : (s.updFwd f).tb = s.tb := rfl
@[simp] theorem State.updFwd_tt (s : State) (f : Fwd → Fwd) : (s.updFwd f).tt = s.tt := rfl
@[simp] theorem State.updFwd_ref (s : State) (f : Fwd → Fwd) : (s.updFwd f).ref = s.ref := rfl
@[simp] theorem State.updFwd_syn (s : State) (f : Fwd → Fwd) : (s.updFwd f).syn = s.syn := rfl
@[simp] theorem State.updFwd_tdc (s : State) (f : Fwd → Fwd) : (s.updFwd f).tdc = s.tdc := rfl
@[simp] theorem State.updFwd_cal (s : State) (f : Fwd → Fwd) : (s.updFwd f).cal = s.cal := rfl
@[simp] theorem State.updFwd_twin (s : State) (f : Fwd → Fwd) : (s.updFwd f).twin = s.twin := rfl
@[simp] theorem State.updFwd_out (s : State) (f : Fwd → Fwd) : (s.updFwd f).out = s.out := rfl
/-! updGrn -/
@[simp] theorem State.updGrn_pending (s : State) (f : Grn → Grn) : (s.updGrn f).pending = s.pending := rfl
@[simp] theorem State.updGrn_now (s : State) (f : Grn → Grn) : (s.updGrn f).now = s.now := rfl
@[simp] theorem State.updGrn_nextOrd (s : State) (f : Grn → Grn) : (s.updGrn f).nextOrd = s.nextOrd := rfl
@[simp] theorem State.updGrn_nextFrame (s : State) (f : Grn → Grn) : (s.updGrn f).nextFrame = s.nextFrame := rfl
@[simp] theorem State.updGrn_nextFree (s : State) (f : Grn → Grn) : (s.updGrn f).nextFree = s.nextFree := rfl
@[simp] theorem State.updGrn_regs (s : State) (f : Grn → Grn) : (s.updGrn f).regs = s.regs := rfl
@[simp] theorem State.updGrn_committed (s : State) (f : Grn → Grn) : (s.updGrn f).committed = s.committed := rfl
@[simp] theorem State.updGrn_latches (s : State) (f : Grn → Grn) : (s.updGrn f).latches = s.latches := rfl
@[simp] theorem State.updGrn_mem (s : State) (f : Grn → Grn) : (s.updGrn f).mem = s.mem := rfl
@[simp] theorem State.updGrn_pwr (s : State) (f : Grn → Grn) : (s.updGrn f).pwr = s.pwr := rfl
@[simp] theorem State.updGrn_boot (s : State) (f : Grn → Grn) : (s.updGrn f).boot = s.boot := rfl
@[simp] theorem State.updGrn_gr (s : State) (f : Grn → Grn) : (s.updGrn f).gr = s.gr := rfl
@[simp] theorem State.updGrn_evt (s : State) (f : Grn → Grn) : (s.updGrn f).evt = s.evt := rfl
@[simp] theorem State.updGrn_tally (s : State) (f : Grn → Grn) : (s.updGrn f).tally = s.tally := rfl
@[simp] theorem State.updGrn_tacc (s : State) (f : Grn → Grn) : (s.updGrn f).tacc = s.tacc := rfl
@[simp] theorem State.updGrn_ports (s : State) (f : Grn → Grn) : (s.updGrn f).ports = s.ports := rfl
@[simp] theorem State.updGrn_cars (s : State) (f : Grn → Grn) : (s.updGrn f).cars = s.cars := rfl
@[simp] theorem State.updGrn_sheaves (s : State) (f : Grn → Grn) : (s.updGrn f).sheaves = s.sheaves := rfl
@[simp] theorem State.updGrn_fwd (s : State) (f : Grn → Grn) : (s.updGrn f).fwd = s.fwd := rfl
@[simp] theorem State.updGrn_grn (s : State) (f : Grn → Grn) : (s.updGrn f).grn = f s.grn := rfl
@[simp] theorem State.updGrn_alm (s : State) (f : Grn → Grn) : (s.updGrn f).alm = s.alm := rfl
@[simp] theorem State.updGrn_tb (s : State) (f : Grn → Grn) : (s.updGrn f).tb = s.tb := rfl
@[simp] theorem State.updGrn_tt (s : State) (f : Grn → Grn) : (s.updGrn f).tt = s.tt := rfl
@[simp] theorem State.updGrn_ref (s : State) (f : Grn → Grn) : (s.updGrn f).ref = s.ref := rfl
@[simp] theorem State.updGrn_syn (s : State) (f : Grn → Grn) : (s.updGrn f).syn = s.syn := rfl
@[simp] theorem State.updGrn_tdc (s : State) (f : Grn → Grn) : (s.updGrn f).tdc = s.tdc := rfl
@[simp] theorem State.updGrn_cal (s : State) (f : Grn → Grn) : (s.updGrn f).cal = s.cal := rfl
@[simp] theorem State.updGrn_twin (s : State) (f : Grn → Grn) : (s.updGrn f).twin = s.twin := rfl
@[simp] theorem State.updGrn_out (s : State) (f : Grn → Grn) : (s.updGrn f).out = s.out := rfl
/-! updAlm -/
@[simp] theorem State.updAlm_pending (s : State) (f : Alm → Alm) : (s.updAlm f).pending = s.pending := rfl
@[simp] theorem State.updAlm_now (s : State) (f : Alm → Alm) : (s.updAlm f).now = s.now := rfl
@[simp] theorem State.updAlm_nextOrd (s : State) (f : Alm → Alm) : (s.updAlm f).nextOrd = s.nextOrd := rfl
@[simp] theorem State.updAlm_nextFrame (s : State) (f : Alm → Alm) : (s.updAlm f).nextFrame = s.nextFrame := rfl
@[simp] theorem State.updAlm_nextFree (s : State) (f : Alm → Alm) : (s.updAlm f).nextFree = s.nextFree := rfl
@[simp] theorem State.updAlm_regs (s : State) (f : Alm → Alm) : (s.updAlm f).regs = s.regs := rfl
@[simp] theorem State.updAlm_committed (s : State) (f : Alm → Alm) : (s.updAlm f).committed = s.committed := rfl
@[simp] theorem State.updAlm_latches (s : State) (f : Alm → Alm) : (s.updAlm f).latches = s.latches := rfl
@[simp] theorem State.updAlm_mem (s : State) (f : Alm → Alm) : (s.updAlm f).mem = s.mem := rfl
@[simp] theorem State.updAlm_pwr (s : State) (f : Alm → Alm) : (s.updAlm f).pwr = s.pwr := rfl
@[simp] theorem State.updAlm_boot (s : State) (f : Alm → Alm) : (s.updAlm f).boot = s.boot := rfl
@[simp] theorem State.updAlm_gr (s : State) (f : Alm → Alm) : (s.updAlm f).gr = s.gr := rfl
@[simp] theorem State.updAlm_evt (s : State) (f : Alm → Alm) : (s.updAlm f).evt = s.evt := rfl
@[simp] theorem State.updAlm_tally (s : State) (f : Alm → Alm) : (s.updAlm f).tally = s.tally := rfl
@[simp] theorem State.updAlm_tacc (s : State) (f : Alm → Alm) : (s.updAlm f).tacc = s.tacc := rfl
@[simp] theorem State.updAlm_ports (s : State) (f : Alm → Alm) : (s.updAlm f).ports = s.ports := rfl
@[simp] theorem State.updAlm_cars (s : State) (f : Alm → Alm) : (s.updAlm f).cars = s.cars := rfl
@[simp] theorem State.updAlm_sheaves (s : State) (f : Alm → Alm) : (s.updAlm f).sheaves = s.sheaves := rfl
@[simp] theorem State.updAlm_fwd (s : State) (f : Alm → Alm) : (s.updAlm f).fwd = s.fwd := rfl
@[simp] theorem State.updAlm_grn (s : State) (f : Alm → Alm) : (s.updAlm f).grn = s.grn := rfl
@[simp] theorem State.updAlm_alm (s : State) (f : Alm → Alm) : (s.updAlm f).alm = f s.alm := rfl
@[simp] theorem State.updAlm_tb (s : State) (f : Alm → Alm) : (s.updAlm f).tb = s.tb := rfl
@[simp] theorem State.updAlm_tt (s : State) (f : Alm → Alm) : (s.updAlm f).tt = s.tt := rfl
@[simp] theorem State.updAlm_ref (s : State) (f : Alm → Alm) : (s.updAlm f).ref = s.ref := rfl
@[simp] theorem State.updAlm_syn (s : State) (f : Alm → Alm) : (s.updAlm f).syn = s.syn := rfl
@[simp] theorem State.updAlm_tdc (s : State) (f : Alm → Alm) : (s.updAlm f).tdc = s.tdc := rfl
@[simp] theorem State.updAlm_cal (s : State) (f : Alm → Alm) : (s.updAlm f).cal = s.cal := rfl
@[simp] theorem State.updAlm_twin (s : State) (f : Alm → Alm) : (s.updAlm f).twin = s.twin := rfl
@[simp] theorem State.updAlm_out (s : State) (f : Alm → Alm) : (s.updAlm f).out = s.out := rfl
/-! updTb -/
@[simp] theorem State.updTb_pending (s : State) (f : Tb → Tb) : (s.updTb f).pending = s.pending := rfl
@[simp] theorem State.updTb_now (s : State) (f : Tb → Tb) : (s.updTb f).now = s.now := rfl
@[simp] theorem State.updTb_nextOrd (s : State) (f : Tb → Tb) : (s.updTb f).nextOrd = s.nextOrd := rfl
@[simp] theorem State.updTb_nextFrame (s : State) (f : Tb → Tb) : (s.updTb f).nextFrame = s.nextFrame := rfl
@[simp] theorem State.updTb_nextFree (s : State) (f : Tb → Tb) : (s.updTb f).nextFree = s.nextFree := rfl
@[simp] theorem State.updTb_regs (s : State) (f : Tb → Tb) : (s.updTb f).regs = s.regs := rfl
@[simp] theorem State.updTb_committed (s : State) (f : Tb → Tb) : (s.updTb f).committed = s.committed := rfl
@[simp] theorem State.updTb_latches (s : State) (f : Tb → Tb) : (s.updTb f).latches = s.latches := rfl
@[simp] theorem State.updTb_mem (s : State) (f : Tb → Tb) : (s.updTb f).mem = s.mem := rfl
@[simp] theorem State.updTb_pwr (s : State) (f : Tb → Tb) : (s.updTb f).pwr = s.pwr := rfl
@[simp] theorem State.updTb_boot (s : State) (f : Tb → Tb) : (s.updTb f).boot = s.boot := rfl
@[simp] theorem State.updTb_gr (s : State) (f : Tb → Tb) : (s.updTb f).gr = s.gr := rfl
@[simp] theorem State.updTb_evt (s : State) (f : Tb → Tb) : (s.updTb f).evt = s.evt := rfl
@[simp] theorem State.updTb_tally (s : State) (f : Tb → Tb) : (s.updTb f).tally = s.tally := rfl
@[simp] theorem State.updTb_tacc (s : State) (f : Tb → Tb) : (s.updTb f).tacc = s.tacc := rfl
@[simp] theorem State.updTb_ports (s : State) (f : Tb → Tb) : (s.updTb f).ports = s.ports := rfl
@[simp] theorem State.updTb_cars (s : State) (f : Tb → Tb) : (s.updTb f).cars = s.cars := rfl
@[simp] theorem State.updTb_sheaves (s : State) (f : Tb → Tb) : (s.updTb f).sheaves = s.sheaves := rfl
@[simp] theorem State.updTb_fwd (s : State) (f : Tb → Tb) : (s.updTb f).fwd = s.fwd := rfl
@[simp] theorem State.updTb_grn (s : State) (f : Tb → Tb) : (s.updTb f).grn = s.grn := rfl
@[simp] theorem State.updTb_alm (s : State) (f : Tb → Tb) : (s.updTb f).alm = s.alm := rfl
@[simp] theorem State.updTb_tb (s : State) (f : Tb → Tb) : (s.updTb f).tb = f s.tb := rfl
@[simp] theorem State.updTb_tt (s : State) (f : Tb → Tb) : (s.updTb f).tt = s.tt := rfl
@[simp] theorem State.updTb_ref (s : State) (f : Tb → Tb) : (s.updTb f).ref = s.ref := rfl
@[simp] theorem State.updTb_syn (s : State) (f : Tb → Tb) : (s.updTb f).syn = s.syn := rfl
@[simp] theorem State.updTb_tdc (s : State) (f : Tb → Tb) : (s.updTb f).tdc = s.tdc := rfl
@[simp] theorem State.updTb_cal (s : State) (f : Tb → Tb) : (s.updTb f).cal = s.cal := rfl
@[simp] theorem State.updTb_twin (s : State) (f : Tb → Tb) : (s.updTb f).twin = s.twin := rfl
@[simp] theorem State.updTb_out (s : State) (f : Tb → Tb) : (s.updTb f).out = s.out := rfl
/-! updRef -/
@[simp] theorem State.updRef_pending (s : State) (f : RefSel → RefSel) : (s.updRef f).pending = s.pending := rfl
@[simp] theorem State.updRef_now (s : State) (f : RefSel → RefSel) : (s.updRef f).now = s.now := rfl
@[simp] theorem State.updRef_nextOrd (s : State) (f : RefSel → RefSel) : (s.updRef f).nextOrd = s.nextOrd := rfl
@[simp] theorem State.updRef_nextFrame (s : State) (f : RefSel → RefSel) : (s.updRef f).nextFrame = s.nextFrame := rfl
@[simp] theorem State.updRef_nextFree (s : State) (f : RefSel → RefSel) : (s.updRef f).nextFree = s.nextFree := rfl
@[simp] theorem State.updRef_regs (s : State) (f : RefSel → RefSel) : (s.updRef f).regs = s.regs := rfl
@[simp] theorem State.updRef_committed (s : State) (f : RefSel → RefSel) : (s.updRef f).committed = s.committed := rfl
@[simp] theorem State.updRef_latches (s : State) (f : RefSel → RefSel) : (s.updRef f).latches = s.latches := rfl
@[simp] theorem State.updRef_mem (s : State) (f : RefSel → RefSel) : (s.updRef f).mem = s.mem := rfl
@[simp] theorem State.updRef_pwr (s : State) (f : RefSel → RefSel) : (s.updRef f).pwr = s.pwr := rfl
@[simp] theorem State.updRef_boot (s : State) (f : RefSel → RefSel) : (s.updRef f).boot = s.boot := rfl
@[simp] theorem State.updRef_gr (s : State) (f : RefSel → RefSel) : (s.updRef f).gr = s.gr := rfl
@[simp] theorem State.updRef_evt (s : State) (f : RefSel → RefSel) : (s.updRef f).evt = s.evt := rfl
@[simp] theorem State.updRef_tally (s : State) (f : RefSel → RefSel) : (s.updRef f).tally = s.tally := rfl
@[simp] theorem State.updRef_tacc (s : State) (f : RefSel → RefSel) : (s.updRef f).tacc = s.tacc := rfl
@[simp] theorem State.updRef_ports (s : State) (f : RefSel → RefSel) : (s.updRef f).ports = s.ports := rfl
@[simp] theorem State.updRef_cars (s : State) (f : RefSel → RefSel) : (s.updRef f).cars = s.cars := rfl
@[simp] theorem State.updRef_sheaves (s : State) (f : RefSel → RefSel) : (s.updRef f).sheaves = s.sheaves := rfl
@[simp] theorem State.updRef_fwd (s : State) (f : RefSel → RefSel) : (s.updRef f).fwd = s.fwd := rfl
@[simp] theorem State.updRef_grn (s : State) (f : RefSel → RefSel) : (s.updRef f).grn = s.grn := rfl
@[simp] theorem State.updRef_alm (s : State) (f : RefSel → RefSel) : (s.updRef f).alm = s.alm := rfl
@[simp] theorem State.updRef_tb (s : State) (f : RefSel → RefSel) : (s.updRef f).tb = s.tb := rfl
@[simp] theorem State.updRef_tt (s : State) (f : RefSel → RefSel) : (s.updRef f).tt = s.tt := rfl
@[simp] theorem State.updRef_ref (s : State) (f : RefSel → RefSel) : (s.updRef f).ref = f s.ref := rfl
@[simp] theorem State.updRef_syn (s : State) (f : RefSel → RefSel) : (s.updRef f).syn = s.syn := rfl
@[simp] theorem State.updRef_tdc (s : State) (f : RefSel → RefSel) : (s.updRef f).tdc = s.tdc := rfl
@[simp] theorem State.updRef_cal (s : State) (f : RefSel → RefSel) : (s.updRef f).cal = s.cal := rfl
@[simp] theorem State.updRef_twin (s : State) (f : RefSel → RefSel) : (s.updRef f).twin = s.twin := rfl
@[simp] theorem State.updRef_out (s : State) (f : RefSel → RefSel) : (s.updRef f).out = s.out := rfl
/-! updSyn -/
@[simp] theorem State.updSyn_pending (s : State) (f : Syn → Syn) : (s.updSyn f).pending = s.pending := rfl
@[simp] theorem State.updSyn_now (s : State) (f : Syn → Syn) : (s.updSyn f).now = s.now := rfl
@[simp] theorem State.updSyn_nextOrd (s : State) (f : Syn → Syn) : (s.updSyn f).nextOrd = s.nextOrd := rfl
@[simp] theorem State.updSyn_nextFrame (s : State) (f : Syn → Syn) : (s.updSyn f).nextFrame = s.nextFrame := rfl
@[simp] theorem State.updSyn_nextFree (s : State) (f : Syn → Syn) : (s.updSyn f).nextFree = s.nextFree := rfl
@[simp] theorem State.updSyn_regs (s : State) (f : Syn → Syn) : (s.updSyn f).regs = s.regs := rfl
@[simp] theorem State.updSyn_committed (s : State) (f : Syn → Syn) : (s.updSyn f).committed = s.committed := rfl
@[simp] theorem State.updSyn_latches (s : State) (f : Syn → Syn) : (s.updSyn f).latches = s.latches := rfl
@[simp] theorem State.updSyn_mem (s : State) (f : Syn → Syn) : (s.updSyn f).mem = s.mem := rfl
@[simp] theorem State.updSyn_pwr (s : State) (f : Syn → Syn) : (s.updSyn f).pwr = s.pwr := rfl
@[simp] theorem State.updSyn_boot (s : State) (f : Syn → Syn) : (s.updSyn f).boot = s.boot := rfl
@[simp] theorem State.updSyn_gr (s : State) (f : Syn → Syn) : (s.updSyn f).gr = s.gr := rfl
@[simp] theorem State.updSyn_evt (s : State) (f : Syn → Syn) : (s.updSyn f).evt = s.evt := rfl
@[simp] theorem State.updSyn_tally (s : State) (f : Syn → Syn) : (s.updSyn f).tally = s.tally := rfl
@[simp] theorem State.updSyn_tacc (s : State) (f : Syn → Syn) : (s.updSyn f).tacc = s.tacc := rfl
@[simp] theorem State.updSyn_ports (s : State) (f : Syn → Syn) : (s.updSyn f).ports = s.ports := rfl
@[simp] theorem State.updSyn_cars (s : State) (f : Syn → Syn) : (s.updSyn f).cars = s.cars := rfl
@[simp] theorem State.updSyn_sheaves (s : State) (f : Syn → Syn) : (s.updSyn f).sheaves = s.sheaves := rfl
@[simp] theorem State.updSyn_fwd (s : State) (f : Syn → Syn) : (s.updSyn f).fwd = s.fwd := rfl
@[simp] theorem State.updSyn_grn (s : State) (f : Syn → Syn) : (s.updSyn f).grn = s.grn := rfl
@[simp] theorem State.updSyn_alm (s : State) (f : Syn → Syn) : (s.updSyn f).alm = s.alm := rfl
@[simp] theorem State.updSyn_tb (s : State) (f : Syn → Syn) : (s.updSyn f).tb = s.tb := rfl
@[simp] theorem State.updSyn_tt (s : State) (f : Syn → Syn) : (s.updSyn f).tt = s.tt := rfl
@[simp] theorem State.updSyn_ref (s : State) (f : Syn → Syn) : (s.updSyn f).ref = s.ref := rfl
@[simp] theorem State.updSyn_syn (s : State) (f : Syn → Syn) : (s.updSyn f).syn = f s.syn := rfl
@[simp] theorem State.updSyn_tdc (s : State) (f : Syn → Syn) : (s.updSyn f).tdc = s.tdc := rfl
@[simp] theorem State.updSyn_cal (s : State) (f : Syn → Syn) : (s.updSyn f).cal = s.cal := rfl
@[simp] theorem State.updSyn_twin (s : State) (f : Syn → Syn) : (s.updSyn f).twin = s.twin := rfl
@[simp] theorem State.updSyn_out (s : State) (f : Syn → Syn) : (s.updSyn f).out = s.out := rfl
/-! updTdc -/
@[simp] theorem State.updTdc_pending (s : State) (f : Tdc → Tdc) : (s.updTdc f).pending = s.pending := rfl
@[simp] theorem State.updTdc_now (s : State) (f : Tdc → Tdc) : (s.updTdc f).now = s.now := rfl
@[simp] theorem State.updTdc_nextOrd (s : State) (f : Tdc → Tdc) : (s.updTdc f).nextOrd = s.nextOrd := rfl
@[simp] theorem State.updTdc_nextFrame (s : State) (f : Tdc → Tdc) : (s.updTdc f).nextFrame = s.nextFrame := rfl
@[simp] theorem State.updTdc_nextFree (s : State) (f : Tdc → Tdc) : (s.updTdc f).nextFree = s.nextFree := rfl
@[simp] theorem State.updTdc_regs (s : State) (f : Tdc → Tdc) : (s.updTdc f).regs = s.regs := rfl
@[simp] theorem State.updTdc_committed (s : State) (f : Tdc → Tdc) : (s.updTdc f).committed = s.committed := rfl
@[simp] theorem State.updTdc_latches (s : State) (f : Tdc → Tdc) : (s.updTdc f).latches = s.latches := rfl
@[simp] theorem State.updTdc_mem (s : State) (f : Tdc → Tdc) : (s.updTdc f).mem = s.mem := rfl
@[simp] theorem State.updTdc_pwr (s : State) (f : Tdc → Tdc) : (s.updTdc f).pwr = s.pwr := rfl
@[simp] theorem State.updTdc_boot (s : State) (f : Tdc → Tdc) : (s.updTdc f).boot = s.boot := rfl
@[simp] theorem State.updTdc_gr (s : State) (f : Tdc → Tdc) : (s.updTdc f).gr = s.gr := rfl
@[simp] theorem State.updTdc_evt (s : State) (f : Tdc → Tdc) : (s.updTdc f).evt = s.evt := rfl
@[simp] theorem State.updTdc_tally (s : State) (f : Tdc → Tdc) : (s.updTdc f).tally = s.tally := rfl
@[simp] theorem State.updTdc_tacc (s : State) (f : Tdc → Tdc) : (s.updTdc f).tacc = s.tacc := rfl
@[simp] theorem State.updTdc_ports (s : State) (f : Tdc → Tdc) : (s.updTdc f).ports = s.ports := rfl
@[simp] theorem State.updTdc_cars (s : State) (f : Tdc → Tdc) : (s.updTdc f).cars = s.cars := rfl
@[simp] theorem State.updTdc_sheaves (s : State) (f : Tdc → Tdc) : (s.updTdc f).sheaves = s.sheaves := rfl
@[simp] theorem State.updTdc_fwd (s : State) (f : Tdc → Tdc) : (s.updTdc f).fwd = s.fwd := rfl
@[simp] theorem State.updTdc_grn (s : State) (f : Tdc → Tdc) : (s.updTdc f).grn = s.grn := rfl
@[simp] theorem State.updTdc_alm (s : State) (f : Tdc → Tdc) : (s.updTdc f).alm = s.alm := rfl
@[simp] theorem State.updTdc_tb (s : State) (f : Tdc → Tdc) : (s.updTdc f).tb = s.tb := rfl
@[simp] theorem State.updTdc_tt (s : State) (f : Tdc → Tdc) : (s.updTdc f).tt = s.tt := rfl
@[simp] theorem State.updTdc_ref (s : State) (f : Tdc → Tdc) : (s.updTdc f).ref = s.ref := rfl
@[simp] theorem State.updTdc_syn (s : State) (f : Tdc → Tdc) : (s.updTdc f).syn = s.syn := rfl
@[simp] theorem State.updTdc_tdc (s : State) (f : Tdc → Tdc) : (s.updTdc f).tdc = f s.tdc := rfl
@[simp] theorem State.updTdc_cal (s : State) (f : Tdc → Tdc) : (s.updTdc f).cal = s.cal := rfl
@[simp] theorem State.updTdc_twin (s : State) (f : Tdc → Tdc) : (s.updTdc f).twin = s.twin := rfl
@[simp] theorem State.updTdc_out (s : State) (f : Tdc → Tdc) : (s.updTdc f).out = s.out := rfl
/-! updCal -/
@[simp] theorem State.updCal_pending (s : State) (f : Cal → Cal) : (s.updCal f).pending = s.pending := rfl
@[simp] theorem State.updCal_now (s : State) (f : Cal → Cal) : (s.updCal f).now = s.now := rfl
@[simp] theorem State.updCal_nextOrd (s : State) (f : Cal → Cal) : (s.updCal f).nextOrd = s.nextOrd := rfl
@[simp] theorem State.updCal_nextFrame (s : State) (f : Cal → Cal) : (s.updCal f).nextFrame = s.nextFrame := rfl
@[simp] theorem State.updCal_nextFree (s : State) (f : Cal → Cal) : (s.updCal f).nextFree = s.nextFree := rfl
@[simp] theorem State.updCal_regs (s : State) (f : Cal → Cal) : (s.updCal f).regs = s.regs := rfl
@[simp] theorem State.updCal_committed (s : State) (f : Cal → Cal) : (s.updCal f).committed = s.committed := rfl
@[simp] theorem State.updCal_latches (s : State) (f : Cal → Cal) : (s.updCal f).latches = s.latches := rfl
@[simp] theorem State.updCal_mem (s : State) (f : Cal → Cal) : (s.updCal f).mem = s.mem := rfl
@[simp] theorem State.updCal_pwr (s : State) (f : Cal → Cal) : (s.updCal f).pwr = s.pwr := rfl
@[simp] theorem State.updCal_boot (s : State) (f : Cal → Cal) : (s.updCal f).boot = s.boot := rfl
@[simp] theorem State.updCal_gr (s : State) (f : Cal → Cal) : (s.updCal f).gr = s.gr := rfl
@[simp] theorem State.updCal_evt (s : State) (f : Cal → Cal) : (s.updCal f).evt = s.evt := rfl
@[simp] theorem State.updCal_tally (s : State) (f : Cal → Cal) : (s.updCal f).tally = s.tally := rfl
@[simp] theorem State.updCal_tacc (s : State) (f : Cal → Cal) : (s.updCal f).tacc = s.tacc := rfl
@[simp] theorem State.updCal_ports (s : State) (f : Cal → Cal) : (s.updCal f).ports = s.ports := rfl
@[simp] theorem State.updCal_cars (s : State) (f : Cal → Cal) : (s.updCal f).cars = s.cars := rfl
@[simp] theorem State.updCal_sheaves (s : State) (f : Cal → Cal) : (s.updCal f).sheaves = s.sheaves := rfl
@[simp] theorem State.updCal_fwd (s : State) (f : Cal → Cal) : (s.updCal f).fwd = s.fwd := rfl
@[simp] theorem State.updCal_grn (s : State) (f : Cal → Cal) : (s.updCal f).grn = s.grn := rfl
@[simp] theorem State.updCal_alm (s : State) (f : Cal → Cal) : (s.updCal f).alm = s.alm := rfl
@[simp] theorem State.updCal_tb (s : State) (f : Cal → Cal) : (s.updCal f).tb = s.tb := rfl
@[simp] theorem State.updCal_tt (s : State) (f : Cal → Cal) : (s.updCal f).tt = s.tt := rfl
@[simp] theorem State.updCal_ref (s : State) (f : Cal → Cal) : (s.updCal f).ref = s.ref := rfl
@[simp] theorem State.updCal_syn (s : State) (f : Cal → Cal) : (s.updCal f).syn = s.syn := rfl
@[simp] theorem State.updCal_tdc (s : State) (f : Cal → Cal) : (s.updCal f).tdc = s.tdc := rfl
@[simp] theorem State.updCal_cal (s : State) (f : Cal → Cal) : (s.updCal f).cal = f s.cal := rfl
@[simp] theorem State.updCal_twin (s : State) (f : Cal → Cal) : (s.updCal f).twin = s.twin := rfl
@[simp] theorem State.updCal_out (s : State) (f : Cal → Cal) : (s.updCal f).out = s.out := rfl
/-! updTwin -/
@[simp] theorem State.updTwin_pending (s : State) (f : Twin → Twin) : (s.updTwin f).pending = s.pending := rfl
@[simp] theorem State.updTwin_now (s : State) (f : Twin → Twin) : (s.updTwin f).now = s.now := rfl
@[simp] theorem State.updTwin_nextOrd (s : State) (f : Twin → Twin) : (s.updTwin f).nextOrd = s.nextOrd := rfl
@[simp] theorem State.updTwin_nextFrame (s : State) (f : Twin → Twin) : (s.updTwin f).nextFrame = s.nextFrame := rfl
@[simp] theorem State.updTwin_nextFree (s : State) (f : Twin → Twin) : (s.updTwin f).nextFree = s.nextFree := rfl
@[simp] theorem State.updTwin_regs (s : State) (f : Twin → Twin) : (s.updTwin f).regs = s.regs := rfl
@[simp] theorem State.updTwin_committed (s : State) (f : Twin → Twin) : (s.updTwin f).committed = s.committed := rfl
@[simp] theorem State.updTwin_latches (s : State) (f : Twin → Twin) : (s.updTwin f).latches = s.latches := rfl
@[simp] theorem State.updTwin_mem (s : State) (f : Twin → Twin) : (s.updTwin f).mem = s.mem := rfl
@[simp] theorem State.updTwin_pwr (s : State) (f : Twin → Twin) : (s.updTwin f).pwr = s.pwr := rfl
@[simp] theorem State.updTwin_boot (s : State) (f : Twin → Twin) : (s.updTwin f).boot = s.boot := rfl
@[simp] theorem State.updTwin_gr (s : State) (f : Twin → Twin) : (s.updTwin f).gr = s.gr := rfl
@[simp] theorem State.updTwin_evt (s : State) (f : Twin → Twin) : (s.updTwin f).evt = s.evt := rfl
@[simp] theorem State.updTwin_tally (s : State) (f : Twin → Twin) : (s.updTwin f).tally = s.tally := rfl
@[simp] theorem State.updTwin_tacc (s : State) (f : Twin → Twin) : (s.updTwin f).tacc = s.tacc := rfl
@[simp] theorem State.updTwin_ports (s : State) (f : Twin → Twin) : (s.updTwin f).ports = s.ports := rfl
@[simp] theorem State.updTwin_cars (s : State) (f : Twin → Twin) : (s.updTwin f).cars = s.cars := rfl
@[simp] theorem State.updTwin_sheaves (s : State) (f : Twin → Twin) : (s.updTwin f).sheaves = s.sheaves := rfl
@[simp] theorem State.updTwin_fwd (s : State) (f : Twin → Twin) : (s.updTwin f).fwd = s.fwd := rfl
@[simp] theorem State.updTwin_grn (s : State) (f : Twin → Twin) : (s.updTwin f).grn = s.grn := rfl
@[simp] theorem State.updTwin_alm (s : State) (f : Twin → Twin) : (s.updTwin f).alm = s.alm := rfl
@[simp] theorem State.updTwin_tb (s : State) (f : Twin → Twin) : (s.updTwin f).tb = s.tb := rfl
@[simp] theorem State.updTwin_tt (s : State) (f : Twin → Twin) : (s.updTwin f).tt = s.tt := rfl
@[simp] theorem State.updTwin_ref (s : State) (f : Twin → Twin) : (s.updTwin f).ref = s.ref := rfl
@[simp] theorem State.updTwin_syn (s : State) (f : Twin → Twin) : (s.updTwin f).syn = s.syn := rfl
@[simp] theorem State.updTwin_tdc (s : State) (f : Twin → Twin) : (s.updTwin f).tdc = s.tdc := rfl
@[simp] theorem State.updTwin_cal (s : State) (f : Twin → Twin) : (s.updTwin f).cal = s.cal := rfl
@[simp] theorem State.updTwin_twin (s : State) (f : Twin → Twin) : (s.updTwin f).twin = f s.twin := rfl
@[simp] theorem State.updTwin_out (s : State) (f : Twin → Twin) : (s.updTwin f).out = s.out := rfl
/-! updTt -/
@[simp] theorem State.updTt_pending (s : State) (f : Tt → Tt) : (s.updTt f).pending = s.pending := rfl
@[simp] theorem State.updTt_now (s : State) (f : Tt → Tt) : (s.updTt f).now = s.now := rfl
@[simp] theorem State.updTt_nextOrd (s : State) (f : Tt → Tt) : (s.updTt f).nextOrd = s.nextOrd := rfl
@[simp] theorem State.updTt_nextFrame (s : State) (f : Tt → Tt) : (s.updTt f).nextFrame = s.nextFrame := rfl
@[simp] theorem State.updTt_nextFree (s : State) (f : Tt → Tt) : (s.updTt f).nextFree = s.nextFree := rfl
@[simp] theorem State.updTt_regs (s : State) (f : Tt → Tt) : (s.updTt f).regs = s.regs := rfl
@[simp] theorem State.updTt_committed (s : State) (f : Tt → Tt) : (s.updTt f).committed = s.committed := rfl
@[simp] theorem State.updTt_latches (s : State) (f : Tt → Tt) : (s.updTt f).latches = s.latches := rfl
@[simp] theorem State.updTt_mem (s : State) (f : Tt → Tt) : (s.updTt f).mem = s.mem := rfl
@[simp] theorem State.updTt_pwr (s : State) (f : Tt → Tt) : (s.updTt f).pwr = s.pwr := rfl
@[simp] theorem State.updTt_boot (s : State) (f : Tt → Tt) : (s.updTt f).boot = s.boot := rfl
@[simp] theorem State.updTt_gr (s : State) (f : Tt → Tt) : (s.updTt f).gr = s.gr := rfl
@[simp] theorem State.updTt_evt (s : State) (f : Tt → Tt) : (s.updTt f).evt = s.evt := rfl
@[simp] theorem State.updTt_tally (s : State) (f : Tt → Tt) : (s.updTt f).tally = s.tally := rfl
@[simp] theorem State.updTt_tacc (s : State) (f : Tt → Tt) : (s.updTt f).tacc = s.tacc := rfl
@[simp] theorem State.updTt_ports (s : State) (f : Tt → Tt) : (s.updTt f).ports = s.ports := rfl
@[simp] theorem State.updTt_cars (s : State) (f : Tt → Tt) : (s.updTt f).cars = s.cars := rfl
@[simp] theorem State.updTt_sheaves (s : State) (f : Tt → Tt) : (s.updTt f).sheaves = s.sheaves := rfl
@[simp] theorem State.updTt_fwd (s : State) (f : Tt → Tt) : (s.updTt f).fwd = s.fwd := rfl
@[simp] theorem State.updTt_grn (s : State) (f : Tt → Tt) : (s.updTt f).grn = s.grn := rfl
@[simp] theorem State.updTt_alm (s : State) (f : Tt → Tt) : (s.updTt f).alm = s.alm := rfl
@[simp] theorem State.updTt_tb (s : State) (f : Tt → Tt) : (s.updTt f).tb = s.tb := rfl
@[simp] theorem State.updTt_tt (s : State) (f : Tt → Tt) : (s.updTt f).tt = f s.tt := rfl
@[simp] theorem State.updTt_ref (s : State) (f : Tt → Tt) : (s.updTt f).ref = s.ref := rfl
@[simp] theorem State.updTt_syn (s : State) (f : Tt → Tt) : (s.updTt f).syn = s.syn := rfl
@[simp] theorem State.updTt_tdc (s : State) (f : Tt → Tt) : (s.updTt f).tdc = s.tdc := rfl
@[simp] theorem State.updTt_cal (s : State) (f : Tt → Tt) : (s.updTt f).cal = s.cal := rfl
@[simp] theorem State.updTt_twin (s : State) (f : Tt → Tt) : (s.updTt f).twin = s.twin := rfl
@[simp] theorem State.updTt_out (s : State) (f : Tt → Tt) : (s.updTt f).out = s.out := rfl
/-! updPort -/
@[simp] theorem State.updPort_pending (s : State) (n : Nat) (f : Port → Port) : (s.updPort n f).pending = s.pending := rfl
@[simp] theorem State.updPort_now (s : State) (n : Nat) (f : Port → Port) : (s.updPort n f).now = s.now := rfl
@[simp] theorem State.updPort_nextOrd (s : State) (n : Nat) (f : Port → Port) : (s.updPort n f).nextOrd = s.nextOrd := rfl
@[simp] theorem State.updPort_nextFrame (s : State) (n : Nat) (f : Port → Port) : (s.updPort n f).nextFrame = s.nextFrame := rfl
@[simp] theorem State.updPort_nextFree (s : State) (n : Nat) (f : Port → Port) : (s.updPort n f).nextFree = s.nextFree := rfl
@[simp] theorem State.updPort_regs (s : State) (n : Nat) (f : Port → Port) : (s.updPort n f).regs = s.regs := rfl
@[simp] theorem State.updPort_committed (s : State) (n : Nat) (f : Port → Port) : (s.updPort n f).committed = s.committed := rfl
@[simp] theorem State.updPort_latches (s : State) (n : Nat) (f : Port → Port) : (s.updPort n f).latches = s.latches := rfl
@[simp] theorem State.updPort_mem (s : State) (n : Nat) (f : Port → Port) : (s.updPort n f).mem = s.mem := rfl
@[simp] theorem State.updPort_pwr (s : State) (n : Nat) (f : Port → Port) : (s.updPort n f).pwr = s.pwr := rfl
@[simp] theorem State.updPort_boot (s : State) (n : Nat) (f : Port → Port) : (s.updPort n f).boot = s.boot := rfl
@[simp] theorem State.updPort_gr (s : State) (n : Nat) (f : Port → Port) : (s.updPort n f).gr = s.gr := rfl
@[simp] theorem State.updPort_evt (s : State) (n : Nat) (f : Port → Port) : (s.updPort n f).evt = s.evt := rfl
@[simp] theorem State.updPort_tally (s : State) (n : Nat) (f : Port → Port) : (s.updPort n f).tally = s.tally := rfl
@[simp] theorem State.updPort_tacc (s : State) (n : Nat) (f : Port → Port) : (s.updPort n f).tacc = s.tacc := rfl
@[simp] theorem State.updPort_ports (s : State) (n : Nat) (f : Port → Port) : (s.updPort n f).ports = SMap.upd s.ports n f := rfl
@[simp] theorem State.updPort_cars (s : State) (n : Nat) (f : Port → Port) : (s.updPort n f).cars = s.cars := rfl
@[simp] theorem State.updPort_sheaves (s : State) (n : Nat) (f : Port → Port) : (s.updPort n f).sheaves = s.sheaves := rfl
@[simp] theorem State.updPort_fwd (s : State) (n : Nat) (f : Port → Port) : (s.updPort n f).fwd = s.fwd := rfl
@[simp] theorem State.updPort_grn (s : State) (n : Nat) (f : Port → Port) : (s.updPort n f).grn = s.grn := rfl
@[simp] theorem State.updPort_alm (s : State) (n : Nat) (f : Port → Port) : (s.updPort n f).alm = s.alm := rfl
@[simp] theorem State.updPort_tb (s : State) (n : Nat) (f : Port → Port) : (s.updPort n f).tb = s.tb := rfl
@[simp] theorem State.updPort_tt (s : State) (n : Nat) (f : Port → Port) : (s.updPort n f).tt = s.tt := rfl
@[simp] theorem State.updPort_ref (s : State) (n : Nat) (f : Port → Port) : (s.updPort n f).ref = s.ref := rfl
@[simp] theorem State.updPort_syn (s : State) (n : Nat) (f : Port → Port) : (s.updPort n f).syn = s.syn := rfl
@[simp] theorem State.updPort_tdc (s : State) (n : Nat) (f : Port → Port) : (s.updPort n f).tdc = s.tdc := rfl
@[simp] theorem State.updPort_cal (s : State) (n : Nat) (f : Port → Port) : (s.updPort n f).cal = s.cal := rfl
@[simp] theorem State.updPort_twin (s : State) (n : Nat) (f : Port → Port) : (s.updPort n f).twin = s.twin := rfl
@[simp] theorem State.updPort_out (s : State) (n : Nat) (f : Port → Port) : (s.updPort n f).out = s.out := rfl
/-! updCar -/
@[simp] theorem State.updCar_pending (s : State) (n : Nat) (f : Carrier → Carrier) : (s.updCar n f).pending = s.pending := rfl
@[simp] theorem State.updCar_now (s : State) (n : Nat) (f : Carrier → Carrier) : (s.updCar n f).now = s.now := rfl
@[simp] theorem State.updCar_nextOrd (s : State) (n : Nat) (f : Carrier → Carrier) : (s.updCar n f).nextOrd = s.nextOrd := rfl
@[simp] theorem State.updCar_nextFrame (s : State) (n : Nat) (f : Carrier → Carrier) : (s.updCar n f).nextFrame = s.nextFrame := rfl
@[simp] theorem State.updCar_nextFree (s : State) (n : Nat) (f : Carrier → Carrier) : (s.updCar n f).nextFree = s.nextFree := rfl
@[simp] theorem State.updCar_regs (s : State) (n : Nat) (f : Carrier → Carrier) : (s.updCar n f).regs = s.regs := rfl
@[simp] theorem State.updCar_committed (s : State) (n : Nat) (f : Carrier → Carrier) : (s.updCar n f).committed = s.committed := rfl
@[simp] theorem State.updCar_latches (s : State) (n : Nat) (f : Carrier → Carrier) : (s.updCar n f).latches = s.latches := rfl
@[simp] theorem State.updCar_mem (s : State) (n : Nat) (f : Carrier → Carrier) : (s.updCar n f).mem = s.mem := rfl
@[simp] theorem State.updCar_pwr (s : State) (n : Nat) (f : Carrier → Carrier) : (s.updCar n f).pwr = s.pwr := rfl
@[simp] theorem State.updCar_boot (s : State) (n : Nat) (f : Carrier → Carrier) : (s.updCar n f).boot = s.boot := rfl
@[simp] theorem State.updCar_gr (s : State) (n : Nat) (f : Carrier → Carrier) : (s.updCar n f).gr = s.gr := rfl
@[simp] theorem State.updCar_evt (s : State) (n : Nat) (f : Carrier → Carrier) : (s.updCar n f).evt = s.evt := rfl
@[simp] theorem State.updCar_tally (s : State) (n : Nat) (f : Carrier → Carrier) : (s.updCar n f).tally = s.tally := rfl
@[simp] theorem State.updCar_tacc (s : State) (n : Nat) (f : Carrier → Carrier) : (s.updCar n f).tacc = s.tacc := rfl
@[simp] theorem State.updCar_ports (s : State) (n : Nat) (f : Carrier → Carrier) : (s.updCar n f).ports = s.ports := rfl
@[simp] theorem State.updCar_cars (s : State) (n : Nat) (f : Carrier → Carrier) : (s.updCar n f).cars = SMap.upd s.cars n f := rfl
@[simp] theorem State.updCar_sheaves (s : State) (n : Nat) (f : Carrier → Carrier) : (s.updCar n f).sheaves = s.sheaves := rfl
@[simp] theorem State.updCar_fwd (s : State) (n : Nat) (f : Carrier → Carrier) : (s.updCar n f).fwd = s.fwd := rfl
@[simp] theorem State.updCar_grn (s : State) (n : Nat) (f : Carrier → Carrier) : (s.updCar n f).grn = s.grn := rfl
@[simp] theorem State.updCar_alm (s : State) (n : Nat) (f : Carrier → Carrier) : (s.updCar n f).alm = s.alm := rfl
@[simp] theorem State.updCar_tb (s : State) (n : Nat) (f : Carrier → Carrier) : (s.updCar n f).tb = s.tb := rfl
@[simp] theorem State.updCar_tt (s : State) (n : Nat) (f : Carrier → Carrier) : (s.updCar n f).tt = s.tt := rfl
@[simp] theorem State.updCar_ref (s : State) (n : Nat) (f : Carrier → Carrier) : (s.updCar n f).ref = s.ref := rfl
@[simp] theorem State.updCar_syn (s : State) (n : Nat) (f : Carrier → Carrier) : (s.updCar n f).syn = s.syn := rfl
@[simp] theorem State.updCar_tdc (s : State) (n : Nat) (f : Carrier → Carrier) : (s.updCar n f).tdc = s.tdc := rfl
@[simp] theorem State.updCar_cal (s : State) (n : Nat) (f : Carrier → Carrier) : (s.updCar n f).cal = s.cal := rfl
@[simp] theorem State.updCar_twin (s : State) (n : Nat) (f : Carrier → Carrier) : (s.updCar n f).twin = s.twin := rfl
@[simp] theorem State.updCar_out (s : State) (n : Nat) (f : Carrier → Carrier) : (s.updCar n f).out = s.out := rfl
/-! updSheaf -/
@[simp] theorem State.updSheaf_pending (s : State) (n : Nat) (f : Sheaf → Sheaf) : (s.updSheaf n f).pending = s.pending := rfl
@[simp] theorem State.updSheaf_now (s : State) (n : Nat) (f : Sheaf → Sheaf) : (s.updSheaf n f).now = s.now := rfl
@[simp] theorem State.updSheaf_nextOrd (s : State) (n : Nat) (f : Sheaf → Sheaf) : (s.updSheaf n f).nextOrd = s.nextOrd := rfl
@[simp] theorem State.updSheaf_nextFrame (s : State) (n : Nat) (f : Sheaf → Sheaf) : (s.updSheaf n f).nextFrame = s.nextFrame := rfl
@[simp] theorem State.updSheaf_nextFree (s : State) (n : Nat) (f : Sheaf → Sheaf) : (s.updSheaf n f).nextFree = s.nextFree := rfl
@[simp] theorem State.updSheaf_regs (s : State) (n : Nat) (f : Sheaf → Sheaf) : (s.updSheaf n f).regs = s.regs := rfl
@[simp] theorem State.updSheaf_committed (s : State) (n : Nat) (f : Sheaf → Sheaf) : (s.updSheaf n f).committed = s.committed := rfl
@[simp] theorem State.updSheaf_latches (s : State) (n : Nat) (f : Sheaf → Sheaf) : (s.updSheaf n f).latches = s.latches := rfl
@[simp] theorem State.updSheaf_mem (s : State) (n : Nat) (f : Sheaf → Sheaf) : (s.updSheaf n f).mem = s.mem := rfl
@[simp] theorem State.updSheaf_pwr (s : State) (n : Nat) (f : Sheaf → Sheaf) : (s.updSheaf n f).pwr = s.pwr := rfl
@[simp] theorem State.updSheaf_boot (s : State) (n : Nat) (f : Sheaf → Sheaf) : (s.updSheaf n f).boot = s.boot := rfl
@[simp] theorem State.updSheaf_gr (s : State) (n : Nat) (f : Sheaf → Sheaf) : (s.updSheaf n f).gr = s.gr := rfl
@[simp] theorem State.updSheaf_evt (s : State) (n : Nat) (f : Sheaf → Sheaf) : (s.updSheaf n f).evt = s.evt := rfl
@[simp] theorem State.updSheaf_tally (s : State) (n : Nat) (f : Sheaf → Sheaf) : (s.updSheaf n f).tally = s.tally := rfl
@[simp] theorem State.updSheaf_tacc (s : State) (n : Nat) (f : Sheaf → Sheaf) : (s.updSheaf n f).tacc = s.tacc := rfl
@[simp] theorem State.updSheaf_ports (s : State) (n : Nat) (f : Sheaf → Sheaf) : (s.updSheaf n f).ports = s.ports := rfl
@[simp] theorem State.updSheaf_cars (s : State) (n : Nat) (f : Sheaf → Sheaf) : (s.updSheaf n f).cars = s.cars := rfl
@[simp] theorem State.updSheaf_sheaves (s : State) (n : Nat) (f : Sheaf → Sheaf) : (s.updSheaf n f).sheaves = SMap.upd s.sheaves n f := rfl
@[simp] theorem State.updSheaf_fwd (s : State) (n : Nat) (f : Sheaf → Sheaf) : (s.updSheaf n f).fwd = s.fwd := rfl
@[simp] theorem State.updSheaf_grn (s : State) (n : Nat) (f : Sheaf → Sheaf) : (s.updSheaf n f).grn = s.grn := rfl
@[simp] theorem State.updSheaf_alm (s : State) (n : Nat) (f : Sheaf → Sheaf) : (s.updSheaf n f).alm = s.alm := rfl
@[simp] theorem State.updSheaf_tb (s : State) (n : Nat) (f : Sheaf → Sheaf) : (s.updSheaf n f).tb = s.tb := rfl
@[simp] theorem State.updSheaf_tt (s : State) (n : Nat) (f : Sheaf → Sheaf) : (s.updSheaf n f).tt = s.tt := rfl
@[simp] theorem State.updSheaf_ref (s : State) (n : Nat) (f : Sheaf → Sheaf) : (s.updSheaf n f).ref = s.ref := rfl
@[simp] theorem State.updSheaf_syn (s : State) (n : Nat) (f : Sheaf → Sheaf) : (s.updSheaf n f).syn = s.syn := rfl
@[simp] theorem State.updSheaf_tdc (s : State) (n : Nat) (f : Sheaf → Sheaf) : (s.updSheaf n f).tdc = s.tdc := rfl
@[simp] theorem State.updSheaf_cal (s : State) (n : Nat) (f : Sheaf → Sheaf) : (s.updSheaf n f).cal = s.cal := rfl
@[simp] theorem State.updSheaf_twin (s : State) (n : Nat) (f : Sheaf → Sheaf) : (s.updSheaf n f).twin = s.twin := rfl
@[simp] theorem State.updSheaf_out (s : State) (n : Nat) (f : Sheaf → Sheaf) : (s.updSheaf n f).out = s.out := rfl
/-! updMbx -/
@[simp] theorem State.updMbx_pending (s : State) (n : Nat) (f : Mbx → Mbx) : (s.updMbx n f).pending = s.pending := rfl
@[simp] theorem State.updMbx_now (s : State) (n : Nat) (f : Mbx → Mbx) : (s.updMbx n f).now = s.now := rfl
@[simp] theorem State.updMbx_nextOrd (s : State) (n : Nat) (f : Mbx → Mbx) : (s.updMbx n f).nextOrd = s.nextOrd := rfl
@[simp] theorem State.updMbx_nextFrame (s : State) (n : Nat) (f : Mbx → Mbx) : (s.updMbx n f).nextFrame = s.nextFrame := rfl
@[simp] theorem State.updMbx_nextFree (s : State) (n : Nat) (f : Mbx → Mbx) : (s.updMbx n f).nextFree = s.nextFree := rfl
@[simp] theorem State.updMbx_regs (s : State) (n : Nat) (f : Mbx → Mbx) : (s.updMbx n f).regs = s.regs := rfl
@[simp] theorem State.updMbx_committed (s : State) (n : Nat) (f : Mbx → Mbx) : (s.updMbx n f).committed = s.committed := rfl
@[simp] theorem State.updMbx_latches (s : State) (n : Nat) (f : Mbx → Mbx) : (s.updMbx n f).latches = s.latches := rfl
@[simp] theorem State.updMbx_mem (s : State) (n : Nat) (f : Mbx → Mbx) : (s.updMbx n f).mem = s.mem := rfl
@[simp] theorem State.updMbx_pwr (s : State) (n : Nat) (f : Mbx → Mbx) : (s.updMbx n f).pwr = s.pwr := rfl
@[simp] theorem State.updMbx_boot (s : State) (n : Nat) (f : Mbx → Mbx) : (s.updMbx n f).boot = s.boot := rfl
@[simp] theorem State.updMbx_gr (s : State) (n : Nat) (f : Mbx → Mbx) : (s.updMbx n f).gr = { s.gr with mbx := SMap.upd s.gr.mbx n f } := rfl
@[simp] theorem State.updMbx_evt (s : State) (n : Nat) (f : Mbx → Mbx) : (s.updMbx n f).evt = s.evt := rfl
@[simp] theorem State.updMbx_tally (s : State) (n : Nat) (f : Mbx → Mbx) : (s.updMbx n f).tally = s.tally := rfl
@[simp] theorem State.updMbx_tacc (s : State) (n : Nat) (f : Mbx → Mbx) : (s.updMbx n f).tacc = s.tacc := rfl
@[simp] theorem State.updMbx_ports (s : State) (n : Nat) (f : Mbx → Mbx) : (s.updMbx n f).ports = s.ports := rfl
@[simp] theorem State.updMbx_cars (s : State) (n : Nat) (f : Mbx → Mbx) : (s.updMbx n f).cars = s.cars := rfl
@[simp] theorem State.updMbx_sheaves (s : State) (n : Nat) (f : Mbx → Mbx) : (s.updMbx n f).sheaves = s.sheaves := rfl
@[simp] theorem State.updMbx_fwd (s : State) (n : Nat) (f : Mbx → Mbx) : (s.updMbx n f).fwd = s.fwd := rfl
@[simp] theorem State.updMbx_grn (s : State) (n : Nat) (f : Mbx → Mbx) : (s.updMbx n f).grn = s.grn := rfl
@[simp] theorem State.updMbx_alm (s : State) (n : Nat) (f : Mbx → Mbx) : (s.updMbx n f).alm = s.alm := rfl
@[simp] theorem State.updMbx_tb (s : State) (n : Nat) (f : Mbx → Mbx) : (s.updMbx n f).tb = s.tb := rfl
@[simp] theorem State.updMbx_tt (s : State) (n : Nat) (f : Mbx → Mbx) : (s.updMbx n f).tt = s.tt := rfl
@[simp] theorem State.updMbx_ref (s : State) (n : Nat) (f : Mbx → Mbx) : (s.updMbx n f).ref = s.ref := rfl
@[simp] theorem State.updMbx_syn (s : State) (n : Nat) (f : Mbx → Mbx) : (s.updMbx n f).syn = s.syn := rfl
@[simp] theorem State.updMbx_tdc (s : State) (n : Nat) (f : Mbx → Mbx) : (s.updMbx n f).tdc = s.tdc := rfl
@[simp] theorem State.updMbx_cal (s : State) (n : Nat) (f : Mbx → Mbx) : (s.updMbx n f).cal = s.cal := rfl
@[simp] theorem State.updMbx_twin (s : State) (n : Nat) (f : Mbx → Mbx) : (s.updMbx n f).twin = s.twin := rfl
@[simp] theorem State.updMbx_out (s : State) (n : Nat) (f : Mbx → Mbx) : (s.updMbx n f).out = s.out := rfl
/-! updTable -/
@[simp] theorem State.updTable_pending (s : State) (n : Nat) (f : Table → Table) : (s.updTable n f).pending = s.pending := rfl
@[simp] theorem State.updTable_now (s : State) (n : Nat) (f : Table → Table) : (s.updTable n f).now = s.now := rfl
@[simp] theorem State.updTable_nextOrd (s : State) (n : Nat) (f : Table → Table) : (s.updTable n f).nextOrd = s.nextOrd := rfl
@[simp] theorem State.updTable_nextFrame (s : State) (n : Nat) (f : Table → Table) : (s.updTable n f).nextFrame = s.nextFrame := rfl
@[simp] theorem State.updTable_nextFree (s : State) (n : Nat) (f : Table → Table) : (s.updTable n f).nextFree = s.nextFree := rfl
@[simp] theorem State.updTable_regs (s : State) (n : Nat) (f : Table → Table) : (s.updTable n f).regs = s.regs := rfl
@[simp] theorem State.updTable_committed (s : State) (n : Nat) (f : Table → Table) : (s.updTable n f).committed = s.committed := rfl
@[simp] theorem State.updTable_latches (s : State) (n : Nat) (f : Table → Table) : (s.updTable n f).latches = s.latches := rfl
@[simp] theorem State.updTable_mem (s : State) (n : Nat) (f : Table → Table) : (s.updTable n f).mem = s.mem := rfl
@[simp] theorem State.updTable_pwr (s : State) (n : Nat) (f : Table → Table) : (s.updTable n f).pwr = s.pwr := rfl
@[simp] theorem State.updTable_boot (s : State) (n : Nat) (f : Table → Table) : (s.updTable n f).boot = s.boot := rfl
@[simp] theorem State.updTable_gr (s : State) (n : Nat) (f : Table → Table) : (s.updTable n f).gr = { s.gr with tables := SMap.upd s.gr.tables n f } := rfl
@[simp] theorem State.updTable_evt (s : State) (n : Nat) (f : Table → Table) : (s.updTable n f).evt = s.evt := rfl
@[simp] theorem State.updTable_tally (s : State) (n : Nat) (f : Table → Table) : (s.updTable n f).tally = s.tally := rfl
@[simp] theorem State.updTable_tacc (s : State) (n : Nat) (f : Table → Table) : (s.updTable n f).tacc = s.tacc := rfl
@[simp] theorem State.updTable_ports (s : State) (n : Nat) (f : Table → Table) : (s.updTable n f).ports = s.ports := rfl
@[simp] theorem State.updTable_cars (s : State) (n : Nat) (f : Table → Table) : (s.updTable n f).cars = s.cars := rfl
@[simp] theorem State.updTable_sheaves (s : State) (n : Nat) (f : Table → Table) : (s.updTable n f).sheaves = s.sheaves := rfl
@[simp] theorem State.updTable_fwd (s : State) (n : Nat) (f : Table → Table) : (s.updTable n f).fwd = s.fwd := rfl
@[simp] theorem State.updTable_grn (s : State) (n : Nat) (f : Table → Table) : (s.updTable n f).grn = s.grn := rfl
@[simp] theorem State.updTable_alm (s : State) (n : Nat) (f : Table → Table) : (s.updTable n f).alm = s.alm := rfl
@[simp] theorem State.updTable_tb (s : State) (n : Nat) (f : Table → Table) : (s.updTable n f).tb = s.tb := rfl
@[simp] theorem State.updTable_tt (s : State) (n : Nat) (f : Table → Table) : (s.updTable n f).tt = s.tt := rfl
@[simp] theorem State.updTable_ref (s : State) (n : Nat) (f : Table → Table) : (s.updTable n f).ref = s.ref := rfl
@[simp] theorem State.updTable_syn (s : State) (n : Nat) (f : Table → Table) : (s.updTable n f).syn = s.syn := rfl
@[simp] theorem State.updTable_tdc (s : State) (n : Nat) (f : Table → Table) : (s.updTable n f).tdc = s.tdc := rfl
@[simp] theorem State.updTable_cal (s : State) (n : Nat) (f : Table → Table) : (s.updTable n f).cal = s.cal := rfl
@[simp] theorem State.updTable_twin (s : State) (n : Nat) (f : Table → Table) : (s.updTable n f).twin = s.twin := rfl
@[simp] theorem State.updTable_out (s : State) (n : Nat) (f : Table → Table) : (s.updTable n f).out = s.out := rfl
/-! setReg -/
@[simp] theorem State.setReg_pending (s : State) (r : Reg) (i : Nat) (w : Word) : (s.setReg r i w).pending = s.pending := by
  unfold State.setReg; split <;> rfl
@[simp] theorem State.setReg_now (s : State) (r : Reg) (i : Nat) (w : Word) : (s.setReg r i w).now = s.now := by
  unfold State.setReg; split <;> rfl
@[simp] theorem State.setReg_nextOrd (s : State) (r : Reg) (i : Nat) (w : Word) : (s.setReg r i w).nextOrd = s.nextOrd := by
  unfold State.setReg; split <;> rfl
@[simp] theorem State.setReg_nextFrame (s : State) (r : Reg) (i : Nat) (w : Word) : (s.setReg r i w).nextFrame = s.nextFrame := by
  unfold State.setReg; split <;> rfl
@[simp] theorem State.setReg_nextFree (s : State) (r : Reg) (i : Nat) (w : Word) : (s.setReg r i w).nextFree = s.nextFree := by
  unfold State.setReg; split <;> rfl
@[simp] theorem State.setReg_committed (s : State) (r : Reg) (i : Nat) (w : Word) : (s.setReg r i w).committed = s.committed := by
  unfold State.setReg; split <;> rfl
@[simp] theorem State.setReg_latches (s : State) (r : Reg) (i : Nat) (w : Word) : (s.setReg r i w).latches = s.latches := by
  unfold State.setReg; split <;> rfl
@[simp] theorem State.setReg_mem (s : State) (r : Reg) (i : Nat) (w : Word) : (s.setReg r i w).mem = s.mem := by
  unfold State.setReg; split <;> rfl
@[simp] theorem State.setReg_pwr (s : State) (r : Reg) (i : Nat) (w : Word) : (s.setReg r i w).pwr = s.pwr := by
  unfold State.setReg; split <;> rfl
@[simp] theorem State.setReg_boot (s : State) (r : Reg) (i : Nat) (w : Word) : (s.setReg r i w).boot = s.boot := by
  unfold State.setReg; split <;> rfl
@[simp] theorem State.setReg_gr (s : State) (r : Reg) (i : Nat) (w : Word) : (s.setReg r i w).gr = s.gr := by
  unfold State.setReg; split <;> rfl
@[simp] theorem State.setReg_evt (s : State) (r : Reg) (i : Nat) (w : Word) : (s.setReg r i w).evt = s.evt := by
  unfold State.setReg; split <;> rfl
@[simp] theorem State.setReg_tally (s : State) (r : Reg) (i : Nat) (w : Word) : (s.setReg r i w).tally = s.tally := by
  unfold State.setReg; split <;> rfl
@[simp] theorem State.setReg_tacc (s : State) (r : Reg) (i : Nat) (w : Word) : (s.setReg r i w).tacc = s.tacc := by
  unfold State.setReg; split <;> rfl
@[simp] theorem State.setReg_ports (s : State) (r : Reg) (i : Nat) (w : Word) : (s.setReg r i w).ports = s.ports := by
  unfold State.setReg; split <;> rfl
@[simp] theorem State.setReg_cars (s : State) (r : Reg) (i : Nat) (w : Word) : (s.setReg r i w).cars = s.cars := by
  unfold State.setReg; split <;> rfl
@[simp] theorem State.setReg_sheaves (s : State) (r : Reg) (i : Nat) (w : Word) : (s.setReg r i w).sheaves = s.sheaves := by
  unfold State.setReg; split <;> rfl
@[simp] theorem State.setReg_fwd (s : State) (r : Reg) (i : Nat) (w : Word) : (s.setReg r i w).fwd = s.fwd := by
  unfold State.setReg; split <;> rfl
@[simp] theorem State.setReg_grn (s : State) (r : Reg) (i : Nat) (w : Word) : (s.setReg r i w).grn = s.grn := by
  unfold State.setReg; split <;> rfl
@[simp] theorem State.setReg_alm (s : State) (r : Reg) (i : Nat) (w : Word) : (s.setReg r i w).alm = s.alm := by
  unfold State.setReg; split <;> rfl
@[simp] theorem State.setReg_tb (s : State) (r : Reg) (i : Nat) (w : Word) : (s.setReg r i w).tb = s.tb := by
  unfold State.setReg; split <;> rfl
@[simp] theorem State.setReg_tt (s : State) (r : Reg) (i : Nat) (w : Word) : (s.setReg r i w).tt = s.tt := by
  unfold State.setReg; split <;> rfl
@[simp] theorem State.setReg_ref (s : State) (r : Reg) (i : Nat) (w : Word) : (s.setReg r i w).ref = s.ref := by
  unfold State.setReg; split <;> rfl
@[simp] theorem State.setReg_syn (s : State) (r : Reg) (i : Nat) (w : Word) : (s.setReg r i w).syn = s.syn := by
  unfold State.setReg; split <;> rfl
@[simp] theorem State.setReg_tdc (s : State) (r : Reg) (i : Nat) (w : Word) : (s.setReg r i w).tdc = s.tdc := by
  unfold State.setReg; split <;> rfl
@[simp] theorem State.setReg_cal (s : State) (r : Reg) (i : Nat) (w : Word) : (s.setReg r i w).cal = s.cal := by
  unfold State.setReg; split <;> rfl
@[simp] theorem State.setReg_twin (s : State) (r : Reg) (i : Nat) (w : Word) : (s.setReg r i w).twin = s.twin := by
  unfold State.setReg; split <;> rfl
@[simp] theorem State.setReg_out (s : State) (r : Reg) (i : Nat) (w : Word) : (s.setReg r i w).out = s.out := by
  unfold State.setReg; split <;> rfl
/-! setCom -/
@[simp] theorem State.setCom_pending (s : State) (r : Reg) (i : Nat) (w : Word) : (s.setCom r i w).pending = s.pending := by
  unfold State.setCom; split <;> rfl
@[simp] theorem State.setCom_now (s : State) (r : Reg) (i : Nat) (w : Word) : (s.setCom r i w).now = s.now := by
  unfold State.setCom; split <;> rfl
@[simp] theorem State.setCom_nextOrd (s : State) (r : Reg) (i : Nat) (w : Word) : (s.setCom r i w).nextOrd = s.nextOrd := by
  unfold State.setCom; split <;> rfl
@[simp] theorem State.setCom_nextFrame (s : State) (r : Reg) (i : Nat) (w : Word) : (s.setCom r i w).nextFrame = s.nextFrame := by
  unfold State.setCom; split <;> rfl
@[simp] theorem State.setCom_nextFree (s : State) (r : Reg) (i : Nat) (w : Word) : (s.setCom r i w).nextFree = s.nextFree := by
  unfold State.setCom; split <;> rfl
@[simp] theorem State.setCom_regs (s : State) (r : Reg) (i : Nat) (w : Word) : (s.setCom r i w).regs = s.regs := by
  unfold State.setCom; split <;> rfl
@[simp] theorem State.setCom_latches (s : State) (r : Reg) (i : Nat) (w : Word) : (s.setCom r i w).latches = s.latches := by
  unfold State.setCom; split <;> rfl
@[simp] theorem State.setCom_mem (s : State) (r : Reg) (i : Nat) (w : Word) : (s.setCom r i w).mem = s.mem := by
  unfold State.setCom; split <;> rfl
@[simp] theorem State.setCom_pwr (s : State) (r : Reg) (i : Nat) (w : Word) : (s.setCom r i w).pwr = s.pwr := by
  unfold State.setCom; split <;> rfl
@[simp] theorem State.setCom_boot (s : State) (r : Reg) (i : Nat) (w : Word) : (s.setCom r i w).boot = s.boot := by
  unfold State.setCom; split <;> rfl
@[simp] theorem State.setCom_gr (s : State) (r : Reg) (i : Nat) (w : Word) : (s.setCom r i w).gr = s.gr := by
  unfold State.setCom; split <;> rfl
@[simp] theorem State.setCom_evt (s : State) (r : Reg) (i : Nat) (w : Word) : (s.setCom r i w).evt = s.evt := by
  unfold State.setCom; split <;> rfl
@[simp] theorem State.setCom_tally (s : State) (r : Reg) (i : Nat) (w : Word) : (s.setCom r i w).tally = s.tally := by
  unfold State.setCom; split <;> rfl
@[simp] theorem State.setCom_tacc (s : State) (r : Reg) (i : Nat) (w : Word) : (s.setCom r i w).tacc = s.tacc := by
  unfold State.setCom; split <;> rfl
@[simp] theorem State.setCom_ports (s : State) (r : Reg) (i : Nat) (w : Word) : (s.setCom r i w).ports = s.ports := by
  unfold State.setCom; split <;> rfl
@[simp] theorem State.setCom_cars (s : State) (r : Reg) (i : Nat) (w : Word) : (s.setCom r i w).cars = s.cars := by
  unfold State.setCom; split <;> rfl
@[simp] theorem State.setCom_sheaves (s : State) (r : Reg) (i : Nat) (w : Word) : (s.setCom r i w).sheaves = s.sheaves := by
  unfold State.setCom; split <;> rfl
@[simp] theorem State.setCom_fwd (s : State) (r : Reg) (i : Nat) (w : Word) : (s.setCom r i w).fwd = s.fwd := by
  unfold State.setCom; split <;> rfl
@[simp] theorem State.setCom_grn (s : State) (r : Reg) (i : Nat) (w : Word) : (s.setCom r i w).grn = s.grn := by
  unfold State.setCom; split <;> rfl
@[simp] theorem State.setCom_alm (s : State) (r : Reg) (i : Nat) (w : Word) : (s.setCom r i w).alm = s.alm := by
  unfold State.setCom; split <;> rfl
@[simp] theorem State.setCom_tb (s : State) (r : Reg) (i : Nat) (w : Word) : (s.setCom r i w).tb = s.tb := by
  unfold State.setCom; split <;> rfl
@[simp] theorem State.setCom_tt (s : State) (r : Reg) (i : Nat) (w : Word) : (s.setCom r i w).tt = s.tt := by
  unfold State.setCom; split <;> rfl
@[simp] theorem State.setCom_ref (s : State) (r : Reg) (i : Nat) (w : Word) : (s.setCom r i w).ref = s.ref := by
  unfold State.setCom; split <;> rfl
@[simp] theorem State.setCom_syn (s : State) (r : Reg) (i : Nat) (w : Word) : (s.setCom r i w).syn = s.syn := by
  unfold State.setCom; split <;> rfl
@[simp] theorem State.setCom_tdc (s : State) (r : Reg) (i : Nat) (w : Word) : (s.setCom r i w).tdc = s.tdc := by
  unfold State.setCom; split <;> rfl
@[simp] theorem State.setCom_cal (s : State) (r : Reg) (i : Nat) (w : Word) : (s.setCom r i w).cal = s.cal := by
  unfold State.setCom; split <;> rfl
@[simp] theorem State.setCom_twin (s : State) (r : Reg) (i : Nat) (w : Word) : (s.setCom r i w).twin = s.twin := by
  unfold State.setCom; split <;> rfl
@[simp] theorem State.setCom_out (s : State) (r : Reg) (i : Nat) (w : Word) : (s.setCom r i w).out = s.out := by
  unfold State.setCom; split <;> rfl
/-! wr -/
@[simp] theorem State.wr_pending (s : State) (f : Fld) (i v : Nat) : (s.wr f i v).pending = s.pending := State.setReg_pending ..
@[simp] theorem State.wr_now (s : State) (f : Fld) (i v : Nat) : (s.wr f i v).now = s.now := State.setReg_now ..
@[simp] theorem State.wr_nextOrd (s : State) (f : Fld) (i v : Nat) : (s.wr f i v).nextOrd = s.nextOrd := State.setReg_nextOrd ..
@[simp] theorem State.wr_nextFrame (s : State) (f : Fld) (i v : Nat) : (s.wr f i v).nextFrame = s.nextFrame := State.setReg_nextFrame ..
@[simp] theorem State.wr_nextFree (s : State) (f : Fld) (i v : Nat) : (s.wr f i v).nextFree = s.nextFree := State.setReg_nextFree ..
@[simp] theorem State.wr_committed (s : State) (f : Fld) (i v : Nat) : (s.wr f i v).committed = s.committed := State.setReg_committed ..
@[simp] theorem State.wr_latches (s : State) (f : Fld) (i v : Nat) : (s.wr f i v).latches = s.latches := State.setReg_latches ..
@[simp] theorem State.wr_mem (s : State) (f : Fld) (i v : Nat) : (s.wr f i v).mem = s.mem := State.setReg_mem ..
@[simp] theorem State.wr_pwr (s : State) (f : Fld) (i v : Nat) : (s.wr f i v).pwr = s.pwr := State.setReg_pwr ..
@[simp] theorem State.wr_boot (s : State) (f : Fld) (i v : Nat) : (s.wr f i v).boot = s.boot := State.setReg_boot ..
@[simp] theorem State.wr_gr (s : State) (f : Fld) (i v : Nat) : (s.wr f i v).gr = s.gr := State.setReg_gr ..
@[simp] theorem State.wr_evt (s : State) (f : Fld) (i v : Nat) : (s.wr f i v).evt = s.evt := State.setReg_evt ..
@[simp] theorem State.wr_tally (s : State) (f : Fld) (i v : Nat) : (s.wr f i v).tally = s.tally := State.setReg_tally ..
@[simp] theorem State.wr_tacc (s : State) (f : Fld) (i v : Nat) : (s.wr f i v).tacc = s.tacc := State.setReg_tacc ..
@[simp] theorem State.wr_ports (s : State) (f : Fld) (i v : Nat) : (s.wr f i v).ports = s.ports := State.setReg_ports ..
@[simp] theorem State.wr_cars (s : State) (f : Fld) (i v : Nat) : (s.wr f i v).cars = s.cars := State.setReg_cars ..
@[simp] theorem State.wr_sheaves (s : State) (f : Fld) (i v : Nat) : (s.wr f i v).sheaves = s.sheaves := State.setReg_sheaves ..
@[simp] theorem State.wr_fwd (s : State) (f : Fld) (i v : Nat) : (s.wr f i v).fwd = s.fwd := State.setReg_fwd ..
@[simp] theorem State.wr_grn (s : State) (f : Fld) (i v : Nat) : (s.wr f i v).grn = s.grn := State.setReg_grn ..
@[simp] theorem State.wr_alm (s : State) (f : Fld) (i v : Nat) : (s.wr f i v).alm = s.alm := State.setReg_alm ..
@[simp] theorem State.wr_tb (s : State) (f : Fld) (i v : Nat) : (s.wr f i v).tb = s.tb := State.setReg_tb ..
@[simp] theorem State.wr_tt (s : State) (f : Fld) (i v : Nat) : (s.wr f i v).tt = s.tt := State.setReg_tt ..
@[simp] theorem State.wr_ref (s : State) (f : Fld) (i v : Nat) : (s.wr f i v).ref = s.ref := State.setReg_ref ..
@[simp] theorem State.wr_syn (s : State) (f : Fld) (i v : Nat) : (s.wr f i v).syn = s.syn := State.setReg_syn ..
@[simp] theorem State.wr_tdc (s : State) (f : Fld) (i v : Nat) : (s.wr f i v).tdc = s.tdc := State.setReg_tdc ..
@[simp] theorem State.wr_cal (s : State) (f : Fld) (i v : Nat) : (s.wr f i v).cal = s.cal := State.setReg_cal ..
@[simp] theorem State.wr_twin (s : State) (f : Fld) (i v : Nat) : (s.wr f i v).twin = s.twin := State.setReg_twin ..
@[simp] theorem State.wr_out (s : State) (f : Fld) (i v : Nat) : (s.wr f i v).out = s.out := State.setReg_out ..
/-! wrB -/
@[simp] theorem State.wrB_pending (s : State) (f : Fld) (i : Nat) (b : Bool) : (s.wrB f i b).pending = s.pending := State.setReg_pending ..
@[simp] theorem State.wrB_now (s : State) (f : Fld) (i : Nat) (b : Bool) : (s.wrB f i b).now = s.now := State.setReg_now ..
@[simp] theorem State.wrB_nextOrd (s : State) (f : Fld) (i : Nat) (b : Bool) : (s.wrB f i b).nextOrd = s.nextOrd := State.setReg_nextOrd ..
@[simp] theorem State.wrB_nextFrame (s : State) (f : Fld) (i : Nat) (b : Bool) : (s.wrB f i b).nextFrame = s.nextFrame := State.setReg_nextFrame ..
@[simp] theorem State.wrB_nextFree (s : State) (f : Fld) (i : Nat) (b : Bool) : (s.wrB f i b).nextFree = s.nextFree := State.setReg_nextFree ..
@[simp] theorem State.wrB_committed (s : State) (f : Fld) (i : Nat) (b : Bool) : (s.wrB f i b).committed = s.committed := State.setReg_committed ..
@[simp] theorem State.wrB_latches (s : State) (f : Fld) (i : Nat) (b : Bool) : (s.wrB f i b).latches = s.latches := State.setReg_latches ..
@[simp] theorem State.wrB_mem (s : State) (f : Fld) (i : Nat) (b : Bool) : (s.wrB f i b).mem = s.mem := State.setReg_mem ..
@[simp] theorem State.wrB_pwr (s : State) (f : Fld) (i : Nat) (b : Bool) : (s.wrB f i b).pwr = s.pwr := State.setReg_pwr ..
@[simp] theorem State.wrB_boot (s : State) (f : Fld) (i : Nat) (b : Bool) : (s.wrB f i b).boot = s.boot := State.setReg_boot ..
@[simp] theorem State.wrB_gr (s : State) (f : Fld) (i : Nat) (b : Bool) : (s.wrB f i b).gr = s.gr := State.setReg_gr ..
@[simp] theorem State.wrB_evt (s : State) (f : Fld) (i : Nat) (b : Bool) : (s.wrB f i b).evt = s.evt := State.setReg_evt ..
@[simp] theorem State.wrB_tally (s : State) (f : Fld) (i : Nat) (b : Bool) : (s.wrB f i b).tally = s.tally := State.setReg_tally ..
@[simp] theorem State.wrB_tacc (s : State) (f : Fld) (i : Nat) (b : Bool) : (s.wrB f i b).tacc = s.tacc := State.setReg_tacc ..
@[simp] theorem State.wrB_ports (s : State) (f : Fld) (i : Nat) (b : Bool) : (s.wrB f i b).ports = s.ports := State.setReg_ports ..
@[simp] theorem State.wrB_cars (s : State) (f : Fld) (i : Nat) (b : Bool) : (s.wrB f i b).cars = s.cars := State.setReg_cars ..
@[simp] theorem State.wrB_sheaves (s : State) (f : Fld) (i : Nat) (b : Bool) : (s.wrB f i b).sheaves = s.sheaves := State.setReg_sheaves ..
@[simp] theorem State.wrB_fwd (s : State) (f : Fld) (i : Nat) (b : Bool) : (s.wrB f i b).fwd = s.fwd := State.setReg_fwd ..
@[simp] theorem State.wrB_grn (s : State) (f : Fld) (i : Nat) (b : Bool) : (s.wrB f i b).grn = s.grn := State.setReg_grn ..
@[simp] theorem State.wrB_alm (s : State) (f : Fld) (i : Nat) (b : Bool) : (s.wrB f i b).alm = s.alm := State.setReg_alm ..
@[simp] theorem State.wrB_tb (s : State) (f : Fld) (i : Nat) (b : Bool) : (s.wrB f i b).tb = s.tb := State.setReg_tb ..
@[simp] theorem State.wrB_tt (s : State) (f : Fld) (i : Nat) (b : Bool) : (s.wrB f i b).tt = s.tt := State.setReg_tt ..
@[simp] theorem State.wrB_ref (s : State) (f : Fld) (i : Nat) (b : Bool) : (s.wrB f i b).ref = s.ref := State.setReg_ref ..
@[simp] theorem State.wrB_syn (s : State) (f : Fld) (i : Nat) (b : Bool) : (s.wrB f i b).syn = s.syn := State.setReg_syn ..
@[simp] theorem State.wrB_tdc (s : State) (f : Fld) (i : Nat) (b : Bool) : (s.wrB f i b).tdc = s.tdc := State.setReg_tdc ..
@[simp] theorem State.wrB_cal (s : State) (f : Fld) (i : Nat) (b : Bool) : (s.wrB f i b).cal = s.cal := State.setReg_cal ..
@[simp] theorem State.wrB_twin (s : State) (f : Fld) (i : Nat) (b : Bool) : (s.wrB f i b).twin = s.twin := State.setReg_twin ..
@[simp] theorem State.wrB_out (s : State) (f : Fld) (i : Nat) (b : Bool) : (s.wrB f i b).out = s.out := State.setReg_out ..
/-! wrS -/
@[simp] theorem State.wrS_pending (s : State) (f : Fld) (i : Nat) (x : Int) : (s.wrS f i x).pending = s.pending := State.setReg_pending ..
@[simp] theorem State.wrS_now (s : State) (f : Fld) (i : Nat) (x : Int) : (s.wrS f i x).now = s.now := State.setReg_now ..
@[simp] theorem State.wrS_nextOrd (s : State) (f : Fld) (i : Nat) (x : Int) : (s.wrS f i x).nextOrd = s.nextOrd := State.setReg_nextOrd ..
@[simp] theorem State.wrS_nextFrame (s : State) (f : Fld) (i : Nat) (x : Int) : (s.wrS f i x).nextFrame = s.nextFrame := State.setReg_nextFrame ..
@[simp] theorem State.wrS_nextFree (s : State) (f : Fld) (i : Nat) (x : Int) : (s.wrS f i x).nextFree = s.nextFree := State.setReg_nextFree ..
@[simp] theorem State.wrS_committed (s : State) (f : Fld) (i : Nat) (x : Int) : (s.wrS f i x).committed = s.committed := State.setReg_committed ..
@[simp] theorem State.wrS_latches (s : State) (f : Fld) (i : Nat) (x : Int) : (s.wrS f i x).latches = s.latches := State.setReg_latches ..
@[simp] theorem State.wrS_mem (s : State) (f : Fld) (i : Nat) (x : Int) : (s.wrS f i x).mem = s.mem := State.setReg_mem ..
@[simp] theorem State.wrS_pwr (s : State) (f : Fld) (i : Nat) (x : Int) : (s.wrS f i x).pwr = s.pwr := State.setReg_pwr ..
@[simp] theorem State.wrS_boot (s : State) (f : Fld) (i : Nat) (x : Int) : (s.wrS f i x).boot = s.boot := State.setReg_boot ..
@[simp] theorem State.wrS_gr (s : State) (f : Fld) (i : Nat) (x : Int) : (s.wrS f i x).gr = s.gr := State.setReg_gr ..
@[simp] theorem State.wrS_evt (s : State) (f : Fld) (i : Nat) (x : Int) : (s.wrS f i x).evt = s.evt := State.setReg_evt ..
@[simp] theorem State.wrS_tally (s : State) (f : Fld) (i : Nat) (x : Int) : (s.wrS f i x).tally = s.tally := State.setReg_tally ..
@[simp] theorem State.wrS_tacc (s : State) (f : Fld) (i : Nat) (x : Int) : (s.wrS f i x).tacc = s.tacc := State.setReg_tacc ..
@[simp] theorem State.wrS_ports (s : State) (f : Fld) (i : Nat) (x : Int) : (s.wrS f i x).ports = s.ports := State.setReg_ports ..
@[simp] theorem State.wrS_cars (s : State) (f : Fld) (i : Nat) (x : Int) : (s.wrS f i x).cars = s.cars := State.setReg_cars ..
@[simp] theorem State.wrS_sheaves (s : State) (f : Fld) (i : Nat) (x : Int) : (s.wrS f i x).sheaves = s.sheaves := State.setReg_sheaves ..
@[simp] theorem State.wrS_fwd (s : State) (f : Fld) (i : Nat) (x : Int) : (s.wrS f i x).fwd = s.fwd := State.setReg_fwd ..
@[simp] theorem State.wrS_grn (s : State) (f : Fld) (i : Nat) (x : Int) : (s.wrS f i x).grn = s.grn := State.setReg_grn ..
@[simp] theorem State.wrS_alm (s : State) (f : Fld) (i : Nat) (x : Int) : (s.wrS f i x).alm = s.alm := State.setReg_alm ..
@[simp] theorem State.wrS_tb (s : State) (f : Fld) (i : Nat) (x : Int) : (s.wrS f i x).tb = s.tb := State.setReg_tb ..
@[simp] theorem State.wrS_tt (s : State) (f : Fld) (i : Nat) (x : Int) : (s.wrS f i x).tt = s.tt := State.setReg_tt ..
@[simp] theorem State.wrS_ref (s : State) (f : Fld) (i : Nat) (x : Int) : (s.wrS f i x).ref = s.ref := State.setReg_ref ..
@[simp] theorem State.wrS_syn (s : State) (f : Fld) (i : Nat) (x : Int) : (s.wrS f i x).syn = s.syn := State.setReg_syn ..
@[simp] theorem State.wrS_tdc (s : State) (f : Fld) (i : Nat) (x : Int) : (s.wrS f i x).tdc = s.tdc := State.setReg_tdc ..
@[simp] theorem State.wrS_cal (s : State) (f : Fld) (i : Nat) (x : Int) : (s.wrS f i x).cal = s.cal := State.setReg_cal ..
@[simp] theorem State.wrS_twin (s : State) (f : Fld) (i : Nat) (x : Int) : (s.wrS f i x).twin = s.twin := State.setReg_twin ..
@[simp] theorem State.wrS_out (s : State) (f : Fld) (i : Nat) (x : Int) : (s.wrS f i x).out = s.out := State.setReg_out ..
/-! addSat -/
@[simp] theorem State.addSat_pending (s : State) (f : Fld) (i n : Nat) : (s.addSat f i n).pending = s.pending := State.setReg_pending ..
@[simp] theorem State.addSat_now (s : State) (f : Fld) (i n : Nat) : (s.addSat f i n).now = s.now := State.setReg_now ..
@[simp] theorem State.addSat_nextOrd (s : State) (f : Fld) (i n : Nat) : (s.addSat f i n).nextOrd = s.nextOrd := State.setReg_nextOrd ..
@[simp] theorem State.addSat_nextFrame (s : State) (f : Fld) (i n : Nat) : (s.addSat f i n).nextFrame = s.nextFrame := State.setReg_nextFrame ..
@[simp] theorem State.addSat_nextFree (s : State) (f : Fld) (i n : Nat) : (s.addSat f i n).nextFree = s.nextFree := State.setReg_nextFree ..
@[simp] theorem State.addSat_committed (s : State) (f : Fld) (i n : Nat) : (s.addSat f i n).committed = s.committed := State.setReg_committed ..
@[simp] theorem State.addSat_latches (s : State) (f : Fld) (i n : Nat) : (s.addSat f i n).latches = s.latches := State.setReg_latches ..
@[simp] theorem State.addSat_mem (s : State) (f : Fld) (i n : Nat) : (s.addSat f i n).mem = s.mem := State.setReg_mem ..
@[simp] theorem State.addSat_pwr (s : State) (f : Fld) (i n : Nat) : (s.addSat f i n).pwr = s.pwr := State.setReg_pwr ..
@[simp] theorem State.addSat_boot (s : State) (f : Fld) (i n : Nat) : (s.addSat f i n).boot = s.boot := State.setReg_boot ..
@[simp] theorem State.addSat_gr (s : State) (f : Fld) (i n : Nat) : (s.addSat f i n).gr = s.gr := State.setReg_gr ..
@[simp] theorem State.addSat_evt (s : State) (f : Fld) (i n : Nat) : (s.addSat f i n).evt = s.evt := State.setReg_evt ..
@[simp] theorem State.addSat_tally (s : State) (f : Fld) (i n : Nat) : (s.addSat f i n).tally = s.tally := State.setReg_tally ..
@[simp] theorem State.addSat_tacc (s : State) (f : Fld) (i n : Nat) : (s.addSat f i n).tacc = s.tacc := State.setReg_tacc ..
@[simp] theorem State.addSat_ports (s : State) (f : Fld) (i n : Nat) : (s.addSat f i n).ports = s.ports := State.setReg_ports ..
@[simp] theorem State.addSat_cars (s : State) (f : Fld) (i n : Nat) : (s.addSat f i n).cars = s.cars := State.setReg_cars ..
@[simp] theorem State.addSat_sheaves (s : State) (f : Fld) (i n : Nat) : (s.addSat f i n).sheaves = s.sheaves := State.setReg_sheaves ..
@[simp] theorem State.addSat_fwd (s : State) (f : Fld) (i n : Nat) : (s.addSat f i n).fwd = s.fwd := State.setReg_fwd ..
@[simp] theorem State.addSat_grn (s : State) (f : Fld) (i n : Nat) : (s.addSat f i n).grn = s.grn := State.setReg_grn ..
@[simp] theorem State.addSat_alm (s : State) (f : Fld) (i n : Nat) : (s.addSat f i n).alm = s.alm := State.setReg_alm ..
@[simp] theorem State.addSat_tb (s : State) (f : Fld) (i n : Nat) : (s.addSat f i n).tb = s.tb := State.setReg_tb ..
@[simp] theorem State.addSat_tt (s : State) (f : Fld) (i n : Nat) : (s.addSat f i n).tt = s.tt := State.setReg_tt ..
@[simp] theorem State.addSat_ref (s : State) (f : Fld) (i n : Nat) : (s.addSat f i n).ref = s.ref := State.setReg_ref ..
@[simp] theorem State.addSat_syn (s : State) (f : Fld) (i n : Nat) : (s.addSat f i n).syn = s.syn := State.setReg_syn ..
@[simp] theorem State.addSat_tdc (s : State) (f : Fld) (i n : Nat) : (s.addSat f i n).tdc = s.tdc := State.setReg_tdc ..
@[simp] theorem State.addSat_cal (s : State) (f : Fld) (i n : Nat) : (s.addSat f i n).cal = s.cal := State.setReg_cal ..
@[simp] theorem State.addSat_twin (s : State) (f : Fld) (i n : Nat) : (s.addSat f i n).twin = s.twin := State.setReg_twin ..
@[simp] theorem State.addSat_out (s : State) (f : Fld) (i n : Nat) : (s.addSat f i n).out = s.out := State.setReg_out ..
/-! addWrap -/
@[simp] theorem State.addWrap_pending (s : State) (f : Fld) (i n : Nat) : (s.addWrap f i n).pending = s.pending := State.setReg_pending ..
@[simp] theorem State.addWrap_now (s : State) (f : Fld) (i n : Nat) : (s.addWrap f i n).now = s.now := State.setReg_now ..
@[simp] theorem State.addWrap_nextOrd (s : State) (f : Fld) (i n : Nat) : (s.addWrap f i n).nextOrd = s.nextOrd := State.setReg_nextOrd ..
@[simp] theorem State.addWrap_nextFrame (s : State) (f : Fld) (i n : Nat) : (s.addWrap f i n).nextFrame = s.nextFrame := State.setReg_nextFrame ..
@[simp] theorem State.addWrap_nextFree (s : State) (f : Fld) (i n : Nat) : (s.addWrap f i n).nextFree = s.nextFree := State.setReg_nextFree ..
@[simp] theorem State.addWrap_committed (s : State) (f : Fld) (i n : Nat) : (s.addWrap f i n).committed = s.committed := State.setReg_committed ..
@[simp] theorem State.addWrap_latches (s : State) (f : Fld) (i n : Nat) : (s.addWrap f i n).latches = s.latches := State.setReg_latches ..
@[simp] theorem State.addWrap_mem (s : State) (f : Fld) (i n : Nat) : (s.addWrap f i n).mem = s.mem := State.setReg_mem ..
@[simp] theorem State.addWrap_pwr (s : State) (f : Fld) (i n : Nat) : (s.addWrap f i n).pwr = s.pwr := State.setReg_pwr ..
@[simp] theorem State.addWrap_boot (s : State) (f : Fld) (i n : Nat) : (s.addWrap f i n).boot = s.boot := State.setReg_boot ..
@[simp] theorem State.addWrap_gr (s : State) (f : Fld) (i n : Nat) : (s.addWrap f i n).gr = s.gr := State.setReg_gr ..
@[simp] theorem State.addWrap_evt (s : State) (f : Fld) (i n : Nat) : (s.addWrap f i n).evt = s.evt := State.setReg_evt ..
@[simp] theorem State.addWrap_tally (s : State) (f : Fld) (i n : Nat) : (s.addWrap f i n).tally = s.tally := State.setReg_tally ..
@[simp] theorem State.addWrap_tacc (s : State) (f : Fld) (i n : Nat) : (s.addWrap f i n).tacc = s.tacc := State.setReg_tacc ..
@[simp] theorem State.addWrap_ports (s : State) (f : Fld) (i n : Nat) : (s.addWrap f i n).ports = s.ports := State.setReg_ports ..
@[simp] theorem State.addWrap_cars (s : State) (f : Fld) (i n : Nat) : (s.addWrap f i n).cars = s.cars := State.setReg_cars ..
@[simp] theorem State.addWrap_sheaves (s : State) (f : Fld) (i n : Nat) : (s.addWrap f i n).sheaves = s.sheaves := State.setReg_sheaves ..
@[simp] theorem State.addWrap_fwd (s : State) (f : Fld) (i n : Nat) : (s.addWrap f i n).fwd = s.fwd := State.setReg_fwd ..
@[simp] theorem State.addWrap_grn (s : State) (f : Fld) (i n : Nat) : (s.addWrap f i n).grn = s.grn := State.setReg_grn ..
@[simp] theorem State.addWrap_alm (s : State) (f : Fld) (i n : Nat) : (s.addWrap f i n).alm = s.alm := State.setReg_alm ..
@[simp] theorem State.addWrap_tb (s : State) (f : Fld) (i n : Nat) : (s.addWrap f i n).tb = s.tb := State.setReg_tb ..
@[simp] theorem State.addWrap_tt (s : State) (f : Fld) (i n : Nat) : (s.addWrap f i n).tt = s.tt := State.setReg_tt ..
@[simp] theorem State.addWrap_ref (s : State) (f : Fld) (i n : Nat) : (s.addWrap f i n).ref = s.ref := State.setReg_ref ..
@[simp] theorem State.addWrap_syn (s : State) (f : Fld) (i n : Nat) : (s.addWrap f i n).syn = s.syn := State.setReg_syn ..
@[simp] theorem State.addWrap_tdc (s : State) (f : Fld) (i n : Nat) : (s.addWrap f i n).tdc = s.tdc := State.setReg_tdc ..
@[simp] theorem State.addWrap_cal (s : State) (f : Fld) (i n : Nat) : (s.addWrap f i n).cal = s.cal := State.setReg_cal ..
@[simp] theorem State.addWrap_twin (s : State) (f : Fld) (i n : Nat) : (s.addWrap f i n).twin = s.twin := State.setReg_twin ..
@[simp] theorem State.addWrap_out (s : State) (f : Fld) (i n : Nat) : (s.addWrap f i n).out = s.out := State.setReg_out ..
/-! wrCom -/
@[simp] theorem State.wrCom_pending (s : State) (f : Fld) (i v : Nat) : (s.wrCom f i v).pending = s.pending := State.setCom_pending ..
@[simp] theorem State.wrCom_now (s : State) (f : Fld) (i v : Nat) : (s.wrCom f i v).now = s.now := State.setCom_now ..
@[simp] theorem State.wrCom_nextOrd (s : State) (f : Fld) (i v : Nat) : (s.wrCom f i v).nextOrd = s.nextOrd := State.setCom_nextOrd ..
@[simp] theorem State.wrCom_nextFrame (s : State) (f : Fld) (i v : Nat) : (s.wrCom f i v).nextFrame = s.nextFrame := State.setCom_nextFrame ..
@[simp] theorem State.wrCom_nextFree (s : State) (f : Fld) (i v : Nat) : (s.wrCom f i v).nextFree = s.nextFree := State.setCom_nextFree ..
@[simp] theorem State.wrCom_regs (s : State) (f : Fld) (i v : Nat) : (s.wrCom f i v).regs = s.regs := State.setCom_regs ..
@[simp] theorem State.wrCom_latches (s : State) (f : Fld) (i v : Nat) : (s.wrCom f i v).latches = s.latches := State.setCom_latches ..
@[simp] theorem State.wrCom_mem (s : State) (f : Fld) (i v : Nat) : (s.wrCom f i v).mem = s.mem := State.setCom_mem ..
@[simp] theorem State.wrCom_pwr (s : State) (f : Fld) (i v : Nat) : (s.wrCom f i v).pwr = s.pwr := State.setCom_pwr ..
@[simp] theorem State.wrCom_boot (s : State) (f : Fld) (i v : Nat) : (s.wrCom f i v).boot = s.boot := State.setCom_boot ..
@[simp] theorem State.wrCom_gr (s : State) (f : Fld) (i v : Nat) : (s.wrCom f i v).gr = s.gr := State.setCom_gr ..
@[simp] theorem State.wrCom_evt (s : State) (f : Fld) (i v : Nat) : (s.wrCom f i v).evt = s.evt := State.setCom_evt ..
@[simp] theorem State.wrCom_tally (s : State) (f : Fld) (i v : Nat) : (s.wrCom f i v).tally = s.tally := State.setCom_tally ..
@[simp] theorem State.wrCom_tacc (s : State) (f : Fld) (i v : Nat) : (s.wrCom f i v).tacc = s.tacc := State.setCom_tacc ..
@[simp] theorem State.wrCom_ports (s : State) (f : Fld) (i v : Nat) : (s.wrCom f i v).ports = s.ports := State.setCom_ports ..
@[simp] theorem State.wrCom_cars (s : State) (f : Fld) (i v : Nat) : (s.wrCom f i v).cars = s.cars := State.setCom_cars ..
@[simp] theorem State.wrCom_sheaves (s : State) (f : Fld) (i v : Nat) : (s.wrCom f i v).sheaves = s.sheaves := State.setCom_sheaves ..
@[simp] theorem State.wrCom_fwd (s : State) (f : Fld) (i v : Nat) : (s.wrCom f i v).fwd = s.fwd := State.setCom_fwd ..
@[simp] theorem State.wrCom_grn (s : State) (f : Fld) (i v : Nat) : (s.wrCom f i v).grn = s.grn := State.setCom_grn ..
@[simp] theorem State.wrCom_alm (s : State) (f : Fld) (i v : Nat) : (s.wrCom f i v).alm = s.alm := State.setCom_alm ..
@[simp] theorem State.wrCom_tb (s : State) (f : Fld) (i v : Nat) : (s.wrCom f i v).tb = s.tb := State.setCom_tb ..
@[simp] theorem State.wrCom_tt (s : State) (f : Fld) (i v : Nat) : (s.wrCom f i v).tt = s.tt := State.setCom_tt ..
@[simp] theorem State.wrCom_ref (s : State) (f : Fld) (i v : Nat) : (s.wrCom f i v).ref = s.ref := State.setCom_ref ..
@[simp] theorem State.wrCom_syn (s : State) (f : Fld) (i v : Nat) : (s.wrCom f i v).syn = s.syn := State.setCom_syn ..
@[simp] theorem State.wrCom_tdc (s : State) (f : Fld) (i v : Nat) : (s.wrCom f i v).tdc = s.tdc := State.setCom_tdc ..
@[simp] theorem State.wrCom_cal (s : State) (f : Fld) (i v : Nat) : (s.wrCom f i v).cal = s.cal := State.setCom_cal ..
@[simp] theorem State.wrCom_twin (s : State) (f : Fld) (i v : Nat) : (s.wrCom f i v).twin = s.twin := State.setCom_twin ..
@[simp] theorem State.wrCom_out (s : State) (f : Fld) (i v : Nat) : (s.wrCom f i v).out = s.out := State.setCom_out ..

end Sys2Proof.Machine
end

