-- ==== Sys2Proof/Laws/Reads.lean ====
section
/-! SUPPORT. Sys2Proof/Laws/Reads.lean: what registers, committed copies and mailbox memory read as after a write, and what
the end of every command (`settle`) leaves alone. -/
set_option Elab.async false
namespace Sys2Proof.Machine

/-! ### Registers -/

theorem Reg.at_inj {r : Reg} (hs : 0 < r.stride) {i j : Nat} (h : r.at i = r.at j) : i = j := by
  unfold Reg.at at h
  exact Nat.eq_of_mul_eq_mul_left hs (by omega)

theorem State.reg_setReg_self (s : State) {r : Reg} {i : Nat} (hi : i < r.count) (w : Word) : (s.setReg r i w).reg r i = w := by
  simp [State.reg, State.setReg, hi]

theorem State.reg_setReg_inst (s : State) {r : Reg} {i j : Nat} (hs : 0 < r.stride) (h : j ≠ i) (w : Word) :
    (s.setReg r i w).reg r j = s.reg r j := by
  unfold State.reg State.setReg
  split
  · split
    · exact SMap.get_set_ne _ _ _ _ (fun he => h (Reg.at_inj hs he))
    · rfl
  · rfl

/-- No change within `sc` reaches register `r`. -/
def Scope.spares (sc : Scope) (r : Reg) : Bool :=
  decide (0 < r.stride) && sc.regs.all (fun q => r.apart q && decide (0 < q.stride)) &&
    !sc.blocks.contains (blockOf r.base) && r.inBlock (blockOf r.base)

theorem Within.reg_same {sc : Scope} {s t : State} (h : Within sc s t) {r : Reg} (hr : sc.spares r = true) (i : Nat) :
    t.reg r i = s.reg r i := by
  simp only [Scope.spares, Bool.and_eq_true, decide_eq_true_eq, Bool.not_eq_true', List.contains_eq_mem,
    decide_eq_false_iff_not] at hr
  obtain ⟨⟨⟨h1, h2⟩, h3⟩, h4⟩ := hr
  exact h.rd_eq h1 h2 h3 h4 i

theorem Within.rd_same {sc : Scope} {s t : State} (h : Within sc s t) {f : Fld} (hf : sc.spares f.reg = true) (i : Nat) :
    t.rd f i = s.rd f i := by
  unfold State.rd
  rw [h.reg_same hf]

/-- A register apart from the written one reads as before. -/
theorem State.reg_setReg_ne (s : State) {r q : Reg} (h : Scope.spares ⟨[], [r], []⟩ q = true) (i j : Nat) (w : Word) :
    (s.setReg r i w).reg q j = s.reg q j := (State.setReg_within s r i w).reg_same h j

theorem State.rd_wr_self (s : State) {f : Fld} {i : Nat} (hf : f.fits = true) (hi : i < f.reg.count) (v : Nat) :
    (s.wr f i v).rd f i = v % 2 ^ f.w := by
  unfold State.rd State.wr
  rw [State.reg_setReg_self s hi, Fld.get_put f hf]

/-- A disjoint field of the written register reads as before. -/
theorem State.rd_wr_disj (s : State) {f g : Fld} (hf : f.fits = true) (hd : f.disjoint g = true) (hr : f.reg = g.reg)
    (hs : 0 < f.reg.stride) (i j v : Nat) : (s.wr f i v).rd g j = s.rd g j := by
  unfold State.rd State.wr
  rw [← hr]
  by_cases h : j = i
  · subst h
    by_cases hi : j < f.reg.count
    · rw [State.reg_setReg_self s hi, Fld.get_put_ne f g hf hd]
    · simp [State.setReg, hi]
  · rw [State.reg_setReg_inst s hs h]

/-- Another instance of the written register reads as before. -/
theorem State.rd_wr_inst (s : State) {f g : Fld} (hr : f.reg = g.reg) (hs : 0 < f.reg.stride) {i j : Nat} (h : j ≠ i)
    (v : Nat) : (s.wr f i v).rd g j = s.rd g j := by
  unfold State.rd State.wr
  rw [← hr, State.reg_setReg_inst s hs h]

theorem State.rd_wr_ne (s : State) {f g : Fld} (h : Scope.spares ⟨[], [f.reg], []⟩ g.reg = true) (i j v : Nat) :
    (s.wr f i v).rd g j = s.rd g j := (State.wr_within s f i v).rd_same h j

/-! ### Committed copies -/

theorem State.com_wrCom_self (s : State) {f : Fld} {i : Nat} (hf : f.fits = true) (hi : i < f.reg.count) (v : Nat) :
    (s.wrCom f i v).com f i = v % 2 ^ f.w := by
  unfold State.com State.wrCom
  rw [show (s.setCom f.reg i (f.put (s.comReg f.reg i) v)).comReg f.reg i = f.put (s.comReg f.reg i) v by
    simp [State.comReg, State.setCom, hi], Fld.get_put f hf]

theorem State.com_eq {s t : State} (h : t.committed = s.committed) (f : Fld) (i : Nat) : t.com f i = s.com f i := by
  unfold State.com State.comReg
  rw [h]

theorem State.rd_eq {s t : State} (h : t.regs = s.regs) (f : Fld) (i : Nat) : t.rd f i = s.rd f i := by
  unfold State.rd State.reg
  rw [h]

/-! ### Mailbox memory -/

theorem State.mb_setMb_in (s : State) (n o i : Nat) (bs : List Byte) (h : i < bs.length) :
    (s.setMb n o bs).mb n (o + i) = bs.getD i 0 := by
  have := Memory.get_setBytes_in s.mem (4096 * n + o) i bs h
  unfold State.mb
  rw [State.setMb_mem, ← Nat.add_assoc, this]
  simp [List.getD, h]

theorem State.mb_setMb_out (s : State) (n k o j : Nat) (bs : List Byte)
    (h : 4096 * k + j < 4096 * n + o ∨ 4096 * n + o + bs.length ≤ 4096 * k + j) : (s.setMb n o bs).mb k j = s.mb k j :=
  Memory.get_setBytes_out s.mem (4096 * n + o) (4096 * k + j) bs h

theorem State.mb_eq {s t : State} (h : t.mem = s.mem) (n o : Nat) : t.mb n o = s.mb n o := by
  unfold State.mb
  rw [h]

theorem State.mf_eq {s t : State} (h : t.mem = s.mem) (n o len : Nat) : t.mf n o len = s.mf n o len := by
  unfold State.mf State.mbytes State.mb
  rw [h]

/-! ### The end of every command -/

theorem State.settle_rd (s : State) {f : Fld} (hf : State.settle_scope.spares f.reg = true) (i : Nat) :
    s.settle.rd f i = s.rd f i := s.settle_within.rd_same hf i
theorem State.settle_reg (s : State) {r : Reg} (hr : State.settle_scope.spares r = true) (i : Nat) :
    s.settle.reg r i = s.reg r i := s.settle_within.reg_same hr i
theorem State.settle_com (s : State) (f : Fld) (i : Nat) : s.settle.com f i = s.com f i :=
  State.com_eq (s.settle_within.part .committed (by decide)) f i
theorem State.settle_out {s : State} {o : Out} (h : o ∈ s.out) : o ∈ s.settle.out := s.settle_within.out.subset h
@[simp] theorem State.settle_pending (s : State) : s.settle.pending = s.pending := s.settle_within.pending
@[simp] theorem State.settle_now (s : State) : s.settle.now = s.now := s.settle_within.now
@[simp] theorem State.settle_nextFrame (s : State) : s.settle.nextFrame = s.nextFrame := s.settle_within.part .nextFrame (by decide)
@[simp] theorem State.settle_nextFree (s : State) : s.settle.nextFree = s.nextFree := s.settle_within.part .nextFree (by decide)
@[simp] theorem State.settle_committed (s : State) : s.settle.committed = s.committed := s.settle_within.part .committed (by decide)
@[simp] theorem State.settle_latches (s : State) : s.settle.latches = s.latches := s.settle_within.part .latches (by decide)
@[simp] theorem State.settle_mem (s : State) : s.settle.mem = s.mem := s.settle_within.part .mem (by decide)
@[simp] theorem State.settle_pwr (s : State) : s.settle.pwr = s.pwr := s.settle_within.part .pwr (by decide)
@[simp] theorem State.settle_boot (s : State) : s.settle.boot = s.boot := s.settle_within.part .boot (by decide)
@[simp] theorem State.settle_tally (s : State) : s.settle.tally = s.tally := s.settle_within.part .tally (by decide)
@[simp] theorem State.settle_tacc (s : State) : s.settle.tacc = s.tacc := s.settle_within.part .tacc (by decide)
@[simp] theorem State.settle_ports (s : State) : s.settle.ports = s.ports := s.settle_within.part .ports (by decide)
@[simp] theorem State.settle_cars (s : State) : s.settle.cars = s.cars := s.settle_within.part .cars (by decide)
@[simp] theorem State.settle_sheaves (s : State) : s.settle.sheaves = s.sheaves := s.settle_within.part .sheaves (by decide)
@[simp] theorem State.settle_fwd (s : State) : s.settle.fwd = s.fwd := s.settle_within.part .fwd (by decide)
@[simp] theorem State.settle_grn (s : State) : s.settle.grn = s.grn := s.settle_within.part .grn (by decide)
@[simp] theorem State.settle_alm (s : State) : s.settle.alm = s.alm := s.settle_within.part .alm (by decide)
@[simp] theorem State.settle_tb (s : State) : s.settle.tb = s.tb := s.settle_within.part .tb (by decide)
@[simp] theorem State.settle_tt (s : State) : s.settle.tt = s.tt := s.settle_within.part .tt (by decide)
@[simp] theorem State.settle_ref (s : State) : s.settle.ref = s.ref := s.settle_within.part .ref (by decide)
@[simp] theorem State.settle_syn (s : State) : s.settle.syn = s.syn := s.settle_within.part .syn (by decide)
@[simp] theorem State.settle_tdc (s : State) : s.settle.tdc = s.tdc := s.settle_within.part .tdc (by decide)
@[simp] theorem State.settle_cal (s : State) : s.settle.cal = s.cal := s.settle_within.part .cal (by decide)
@[simp] theorem State.settle_twin (s : State) : s.settle.twin = s.twin := s.settle_within.part .twin (by decide)
/-! ### Outcomes -/

/-- The outcome is a next state of which `P` holds. -/
def Ends (r : Res) (P : State → Prop) : Prop := ∃ t, r = .next t ∧ P t

theorem yields_iff {c : Instr} {s : State} {P : State → Prop} : Yields c s P ↔ Ends (exec c s) P := Iff.rfl

theorem ends_fin {a : State} {P : State → Prop} : Ends (fin a) P ↔ P a.settle := by
  unfold Ends fin
  simp only [Host.Outcome.next.injEq]
  exact ⟨fun ⟨_, h, hp⟩ => h ▸ hp, fun h => ⟨_, rfl, h⟩⟩

theorem ends_ite {c : Prop} [Decidable c] {a b : Res} {P : State → Prop} :
    Ends (if c then a else b) P ↔ (c → Ends a P) ∧ (¬c → Ends b P) := by
  split <;> simp [*]

/-! ### Events -/

theorem State.raise_rd (s : State) (e : Ev) {f : Fld} (hf : Scope.spares ⟨[.evt], [e.stat], []⟩ f.reg = true) (i j : Nat) :
    (s.raise e i).rd f j = s.rd f j := (s.raise_within e i).rd_same hf j

end Sys2Proof.Machine
end

