-- ==== Sys2Proof/Laws/Command.lean ====
section
/-! SUPPORT. Sys2Proof/Laws/Command.lean: what the frame of a mailbox command does (R98-R104), for the proofs about commands. -/
set_option Elab.async false
namespace Sys2Proof.Machine

/-! ### Mailbox states -/

theorem mst_arith (x p k q v : Nat) (hp : 0 < p) (hx : x = q * (4 * p) + k * p + v) (hv : v < p) (hk : k < 4) : x / p % 4 = k := by
  subst hx
  have : q * (4 * p) + k * p + v = p * (4 * q + k) + v := by ring
  rw [this, Nat.mul_add_div hp, Nat.div_eq_of_lt hv, Nat.add_zero, Nat.mul_add_mod, Nat.mod_eq_of_lt hk]

theorem State.mst_setMst_self (s : State) (m : Fin 16) (v : Nat) (hv : v < 4) : (s.setMst m v).mst m = v := by
  have hreg : (s.setMst m v).reg R.MBX_STATE 0 =
      BitVec.ofNat 32 ((s.reg R.MBX_STATE 0).toNat - s.mst m * 4 ^ m.val + v % 4 * 4 ^ m.val) := by
    unfold State.setMst; exact State.reg_setReg_self _ (by decide) _
  unfold State.mst
  rw [hreg, BitVec.toNat_ofNat, Nat.mod_eq_of_lt hv]
  unfold State.mst
  generalize hX : (s.reg R.MBX_STATE 0).toNat = X
  have hX32 : X < 2 ^ 32 := by rw [← hX]; exact (s.reg R.MBX_STATE 0).isLt
  clear hX hreg
  have hp : 0 < 4 ^ m.val := Nat.pos_of_ne_zero (by positivity)
  have hpw : 4 ^ 16 = 4 ^ (15 - m.val) * (4 * 4 ^ m.val) := by
    rw [← Nat.pow_succ', ← Nat.pow_add]; congr 1; omega
  generalize 4 ^ m.val = p at hp hpw ⊢
  have h1 := Nat.div_add_mod X p
  have h2 := Nat.div_add_mod (X / p) 4
  have h3 := Nat.mod_lt X hp
  have h4 := Nat.mod_lt (X / p) (by decide : 0 < 4)
  generalize X / p % 4 = k at *
  generalize hq : X / p / 4 = q at *
  generalize X % p = r at *
  have hXe : X = q * (4 * p) + k * p + r := by rw [← h1, ← h2]; ring
  have hql : q < 4 ^ (15 - m.val) := by
    by_contra hc
    have := Nat.mul_le_mul_right (4 * p) (Nat.le_of_not_lt hc)
    have : 2 ^ 32 = 4 ^ 16 := by decide
    omega
  have hvp : v * p ≤ 3 * p := Nat.mul_le_mul_right p (by omega)
  have hub : q * (4 * p) + v * p + r < 2 ^ 32 := by
    have : (q + 1) * (4 * p) ≤ 4 ^ (15 - m.val) * (4 * p) := Nat.mul_le_mul_right _ hql
    have h32 : 2 ^ 32 = 4 ^ 16 := by decide
    rw [h32, hpw]
    have : (q + 1) * (4 * p) = q * (4 * p) + 4 * p := by ring
    omega
  have : X - k * p + v * p = q * (4 * p) + v * p + r := by omega
  rw [this, Nat.mod_eq_of_lt hub]
  exact mst_arith _ p v q r hp rfl h3 hv

@[simp] theorem State.setMst_mem (s : State) (m v : Nat) : (s.setMst m v).mem = s.mem := rfl
@[simp] theorem State.setMst_gr (s : State) (m v : Nat) : (s.setMst m v).gr = s.gr := rfl
@[simp] theorem State.setMst_boot (s : State) (m v : Nat) : (s.setMst m v).boot = s.boot := rfl

@[simp] theorem State.updMbx_mst (s : State) (n k : Nat) (f : Mbx → Mbx) : (s.updMbx n f).mst k = s.mst k := rfl
@[simp] theorem State.mbxAt_updMbx_self (s : State) (n : Nat) (f : Mbx → Mbx) : (s.updMbx n f).mbxAt n = f (s.mbxAt n) :=
  SMap.get_upd_self ..
@[simp] theorem State.setMst_mbxAt (s : State) (m v k : Nat) : (s.setMst m v).mbxAt k = s.mbxAt k := rfl
@[simp] theorem State.setMst_mf (s : State) (m v k o n : Nat) : (s.setMst m v).mf k o n = s.mf k o n := rfl
@[simp] theorem State.setMst_pay (s : State) (m v k o n : Nat) : (s.setMst m v).pay k o n = s.pay k o n := rfl
@[simp] theorem State.setMst_plen (s : State) (m v k : Nat) : (s.setMst m v).plen k = s.plen k := rfl
@[simp] theorem State.setMst_opcode (s : State) (m v k : Nat) : (s.setMst m v).opcode k = s.opcode k := rfl
@[simp] theorem State.setMst_mflags (s : State) (m v k : Nat) : (s.setMst m v).mflags k = s.mflags k := rfl
@[simp] theorem State.setMst_payBytes (s : State) (m v k o n : Nat) : (s.setMst m v).payBytes k o n = s.payBytes k o n := rfl
theorem State.setMst_rd (s : State) (m v : Nat) {f : Fld} (h : Scope.spares ⟨[], [R.MBX_STATE], []⟩ f.reg = true) (i : Nat) :
    (s.setMst m v).rd f i = s.rd f i := (State.setReg_within s R.MBX_STATE 0 _).rd_same h i

/-! ### The frame of a command -/

theorem State.setMst_recovery (s : State) (m v : Nat) : (s.setMst m v).recovery = s.recovery := by
  unfold State.recovery; rw [State.setMst_rd _ _ _ (by decide +kernel)]

/-- A command that the mailbox accepts and no check refuses runs its body, marked as a repetition where an error came first
(R104, R108). -/
theorem State.cmd_runs {s : State} {m : Fin 16} {opc : Nat} {x : Exec} (h : s.accepts m opc x = true)
    {checks : State → List Check} (hc : firstFail (checks (s.setMst m mRUNNING)) = none) (body : State → State) :
    s.cmd m opc x checks body = body (if x = .clean && !(s.mbxAt m).retry then s.setMst m mRUNNING
      else (s.setMst m mRUNNING).updMbx m fun b => { b with retry := true }) := by
  simp only [State.accepts, Bool.and_eq_true, Bool.not_eq_true', Bool.or_eq_true] at h
  obtain ⟨⟨⟨⟨h1, h2⟩, -⟩, -⟩, h5⟩ := h
  unfold State.cmd
  simp only [h1, Bool.not_true, Bool.false_eq_true, if_false, State.setMst_recovery, h2, hc, State.setMst_mbxAt,
    Bool.false_and]
  cases x <;> cases hr : (s.mbxAt m).retry <;> simp_all

theorem leBytes_length (n x : Nat) : (leBytes n x).length = n := by
  induction n generalizing x with
  | zero => rfl
  | succ n ih => simp [leBytes, ih]

theorem leNat_leBytes (n x : Nat) (h : x < 256 ^ n) : leNat (leBytes n x) = x := by
  induction n generalizing x with
  | zero => simp [leBytes, leNat] at h ⊢; omega
  | succ n ih =>
    have : x / 256 < 256 ^ n := Nat.div_lt_of_lt_mul (by rw [Nat.pow_succ] at h; omega)
    simp only [leBytes, leNat, ih _ this, BitVec.toNat_ofNat]
    omega

theorem State.mbytes_eq {s : State} {n o : Nat} {bs : List Byte} (h : ∀ i, i < bs.length → s.mb n (o + i) = bs.getD i 0) :
    s.mbytes n o bs.length = bs := by
  unfold State.mbytes
  refine List.ext_getElem (by simp) fun i h1 h2 => ?_
  have := h i h2
  simp [this, h2, List.getD]

/-- A command that completes while no reboot is under way has its answer in its mailbox. -/
theorem State.complete_answered (s : State) (m : Fin 16) (st d : Nat) (res : List Byte) (hb : s.boot.running = false)
    (hr : (s.mbxAt m).retry = false) (hs : st < 65536) (hl : res.length ≤ 4032) : (s.complete m st d res).answered m st res := by
  unfold State.complete
  rw [hb]
  unfold State.writeDone
  simp only [hr, Bool.and_false, Bool.false_eq_true, if_false, List.take_of_length_le hl]
  generalize ha : leBytes 2 st ++ leBytes 2 res.length ++ leBytes 4 d = A
  have hA : A.length = 8 := by rw [← ha]; simp [leBytes_length]
  generalize hu : s.setMb m 8 A = u
  generalize hB : leBytes 8 u.tick ++ List.replicate 32 0 ++ res = B
  have hBl : B.length = 40 + res.length := by rw [← hB]; simp [leBytes_length]; omega
  generalize hw : u.setMb m 24 B = w
  suffices H : ((w.setMst m mDONE).updMbx m fun b =>
      { b with job := none, retry := false, final := false, go := false, late := none, met := none, heldAt := none }).answered m st res by
    split
    · generalize hz : ((w.setMst m mDONE).updMbx m fun b =>
        { b with job := none, retry := false, final := false, go := false, late := none, met := none, heldAt := none }) = z at H ⊢
      have hm := (State.msix_within z m).part .mem (by decide)
      have hx : (z.msix m).mst m = z.mst m := by
        unfold State.mst; rw [(State.msix_within z m).reg_same (by decide +kernel)]
      obtain ⟨h1, h2, h3, h4⟩ := H
      refine ⟨hx.trans h1, (State.mf_eq hm _ _ _).trans h2, (State.mf_eq hm _ _ _).trans h3, ?_⟩
      have hb : (z.msix m).mbytes m 64 res.length = z.mbytes m 64 res.length := by unfold State.mbytes State.mb; rw [hm]
      exact hb.trans h4
    · exact H
  have hin : ∀ i, i < 8 → w.mb m (8 + i) = A.getD i 0 := by
    intro i hi
    rw [← hw, State.mb_setMb_out _ _ _ _ _ _ (by omega), ← hu, State.mb_setMb_in _ _ _ _ _ (by omega)]
  have hrs : ∀ i, i < res.length → w.mb m (64 + i) = res.getD i 0 := by
    intro i hi
    have : 64 + i = 24 + (40 + i) := by omega
    rw [← hw, this, State.mb_setMb_in _ _ _ _ _ (by omega), ← hB]
    have h40 : (leBytes 8 u.tick ++ List.replicate 32 (0 : Byte)).length = 40 := by
      rw [List.length_append, leBytes_length, List.length_replicate]
    rw [List.getD, List.getD, List.getElem?_append_right (by omega), h40, Nat.add_sub_cancel_left]
  refine ⟨?_, ?_, ?_, ?_⟩
  · rw [State.updMbx_mst, State.mst_setMst_self _ _ _ (by decide)]
  · show leNat (w.mbytes m 8 2) = st
    have : w.mbytes m 8 2 = leBytes 2 st := by
      have := State.mbytes_eq (s := w) (n := m) (o := 8) (bs := leBytes 2 st) (by
        intro i hi
        rw [leBytes_length] at hi
        rw [hin i (by omega), ← ha]
        simp [List.getD, leBytes_length, List.getElem?_append_left, hi])
      rwa [leBytes_length] at this
    rw [this, leNat_leBytes _ _ (by omega)]
  · show leNat (w.mbytes m 10 2) = res.length
    have : w.mbytes m 10 2 = leBytes 2 res.length := by
      have := State.mbytes_eq (s := w) (n := m) (o := 10) (bs := leBytes 2 res.length) (by
        intro i hi
        rw [leBytes_length] at hi
        have : 10 + i = 8 + (2 + i) := by omega
        rw [this, hin (2 + i) (by omega), ← ha]
        have : 2 + i = (leBytes 2 st).length + i := by rw [leBytes_length]
        rw [List.append_assoc, List.getD, List.getD, this, List.getElem?_append_right (by omega), Nat.add_sub_cancel_left,
          List.getElem?_append_left (by rw [leBytes_length]; exact hi)])
      rwa [leBytes_length] at this
    rw [this, leNat_leBytes _ _ (by omega)]
  · exact State.mbytes_eq hrs

/-- What ends every command leaves an answer as it is. -/
theorem State.settle_answered {s : State} {m : Fin 16} {st : Nat} {res : List Byte} (h : s.answered m st res) :
    s.settle.answered m st res := by
  have hm : s.settle.mem = s.mem := State.settle_mem s
  have hx : s.settle.mst m = s.mst m := by
    unfold State.mst; rw [State.settle_reg _ (by decide +kernel)]
  obtain ⟨h1, h2, h3, h4⟩ := h
  refine ⟨hx.trans h1, (State.mf_eq hm _ _ _).trans h2, (State.mf_eq hm _ _ _).trans h3, ?_⟩
  have hb : s.settle.mbytes m 64 res.length = s.mbytes m 64 res.length := by unfold State.mbytes State.mb; rw [hm]
  exact hb.trans h4

end Sys2Proof.Machine
end

