-- ==== Sys2Proof/Laws/ExecMailbox.lean ====
section
/-! SUPPORT. Sys2Proof/Laws/ExecMailbox.lean: what each command of Machine/Mailbox.lean may change. -/
set_option Elab.async false
set_option linter.unusedTactic false
set_option linter.unreachableTactic false
set_option linter.unnecessarySeqFocus false
namespace Sys2Proof.Machine

def execDoorbell_scope : Scope := ⟨[.nextOrd, .mem, .gr, .evt, .out], [R.MBX_STATE, R.MBX_ERR_STAT, R.MBX_GRANGE_STAT,
    R.FWD_VER_STAT], []⟩
theorem execDoorbell_bounds (ring : Word) (s : State) : Bounds execDoorbell_scope s (execDoorbell ring s) := by
  unfold execDoorbell
  repeat' first
    | (with_reducible exact Bounds.fault) | (with_reducible refine Bounds.fin ?_ (by decide +kernel))
    | (with_reducible assumption) | (with_reducible apply Within.refl)
    | (with_reducible apply Within.step (State.doorbell_within ..); rotate_left; decide +kernel) | split

def execMailboxWrite_scope : Scope := ⟨[.nextOrd, .mem, .gr, .evt, .out], [R.MBX_ERR_STAT, R.MBX_GRANGE_STAT,
    R.FWD_VER_STAT, R.EVT_RESERVED_OFS, R.EVT_STAT], []⟩
theorem execMailboxWrite_bounds (ofs : BitVec 16) (data : List Byte) (s : State) : Bounds execMailboxWrite_scope s
    (execMailboxWrite ofs data s) := by
  unfold execMailboxWrite
  repeat' first
    | (with_reducible exact Bounds.fault) | (with_reducible refine Bounds.fin ?_ (by decide +kernel))
    | (with_reducible assumption) | (with_reducible apply Within.refl)
    | (with_reducible apply Within.step (State.mbxWrite_within ..); rotate_left; decide +kernel) | split

def execFencedCommandStart_scope : Scope := ⟨[.nextOrd, .gr, .evt, .out], [R.MBX_GRANGE_STAT, R.FWD_VER_STAT], []⟩
theorem execFencedCommandStart_bounds (m : Fin 16) (s : State) : Bounds execFencedCommandStart_scope s
    (execFencedCommandStart m s) := by
  unfold execFencedCommandStart
  repeat' first
    | (with_reducible exact Bounds.fault) | (with_reducible refine Bounds.fin ?_ (by decide +kernel))
    | (with_reducible assumption) | (with_reducible apply Within.refl)
    | (with_reducible apply Within.step (State.updMbx_within ..); rotate_left; decide +kernel) | split

def execCmdNop_scope : Scope := ⟨[.nextOrd, .mem, .pwr, .gr, .evt, .tacc, .tdc, .cal, .twin, .out], [R.MBX_STATE,
    R.MBX_RETRY_STAT, R.MBX_GRANGE_STAT, R.FWD_VER_STAT, R.TDC_STAT, R.TDC_EVT_STAT, R.CAL_STAT, R.CAL_EVT_STAT,
    R.EVT_LAST_FAULT, R.EVT_STAT, R.TWN_STAT, R.PWR_MODE_CTL, R.PWR_MODE_STAT, R.PWR_RAIL_STAT, R.PWR_CLK_STAT,
    R.EVT_LASTING, R.EVT_FCNT], []⟩
theorem execCmdNop_bounds (m : Fin 16) (x : Exec) (s : State) : Bounds execCmdNop_scope s (execCmdNop m x s) := by
  unfold execCmdNop
  repeat' first
    | (with_reducible exact Bounds.fault) | (with_reducible refine Bounds.fin ?_ (by decide +kernel))
    | (with_reducible assumption) | (with_reducible apply Within.refl) | lift_lets
    | (intro v; refine Within.cut (p := Within execCmdNop_scope s v) ?_ ?_; unfold v; rotate_left; clear_value v; intro hv)
    | (intro v; clear_value v) | intro v
    | (with_reducible apply Within.step (State.setMst_within ..); rotate_left; decide +kernel)
    | (with_reducible apply Within.step (State.complete_within ..); rotate_left; decide +kernel)
    | (with_reducible apply State.cmd_within; rotate_left; decide +kernel; intro u hu; try beta_reduce) | split

def execCmdIdentify_scope : Scope := ⟨[.nextOrd, .mem, .pwr, .gr, .evt, .tacc, .tdc, .cal, .twin, .out], [R.MBX_STATE,
    R.MBX_RETRY_STAT, R.MBX_GRANGE_STAT, R.FWD_VER_STAT, R.TDC_STAT, R.TDC_EVT_STAT, R.CAL_STAT, R.CAL_EVT_STAT,
    R.EVT_LAST_FAULT, R.EVT_STAT, R.TWN_STAT, R.PWR_MODE_CTL, R.PWR_MODE_STAT, R.PWR_RAIL_STAT, R.PWR_CLK_STAT,
    R.EVT_LASTING, R.EVT_FCNT], []⟩
theorem execCmdIdentify_bounds (m : Fin 16) (x : Exec) (s : State) : Bounds execCmdIdentify_scope s (execCmdIdentify m
    x s) := by
  unfold execCmdIdentify
  repeat' first
    | (with_reducible exact Bounds.fault) | (with_reducible refine Bounds.fin ?_ (by decide +kernel))
    | (with_reducible assumption) | (with_reducible apply Within.refl)
    | (with_reducible apply State.cmd_within; rotate_left; decide +kernel; intro u hu; try beta_reduce)
    | (with_reducible apply Within.step (State.complete_within ..); rotate_left; decide +kernel) | split

def execCmdFence_scope : Scope := ⟨[.nextOrd, .mem, .pwr, .gr, .evt, .tacc, .tdc, .cal, .twin, .out], [R.MBX_STATE,
    R.MBX_RETRY_STAT, R.MBX_GRANGE_STAT, R.FWD_VER_STAT, R.TDC_STAT, R.TDC_EVT_STAT, R.CAL_STAT, R.CAL_EVT_STAT,
    R.EVT_LAST_FAULT, R.EVT_STAT, R.TWN_STAT, R.PWR_MODE_CTL, R.PWR_MODE_STAT, R.PWR_RAIL_STAT, R.PWR_CLK_STAT,
    R.EVT_LASTING, R.EVT_FCNT], []⟩
theorem execCmdFence_bounds (m : Fin 16) (x : Exec) (s : State) : Bounds execCmdFence_scope s (execCmdFence m x s) :=
    by
  unfold execCmdFence
  repeat' first
    | (with_reducible exact Bounds.fault) | (with_reducible refine Bounds.fin ?_ (by decide +kernel))
    | (with_reducible assumption) | (with_reducible apply Within.refl) | lift_lets
    | (intro v; refine Within.cut (p := Within execCmdFence_scope s v) ?_ ?_; unfold v; rotate_left; clear_value v; intro hv)
    | (intro v; clear_value v) | intro v
    | (with_reducible apply State.cmd_within; rotate_left; decide +kernel; intro u hu; try beta_reduce)
    | (with_reducible apply Within.step (State.noteFence_within ..); rotate_left; decide +kernel)
    | (with_reducible apply Within.step (State.complete_within ..); rotate_left; decide +kernel)
    | (with_reducible apply Within.step (State.running_within ..); rotate_left; decide +kernel) | split

def execFenceRelease_scope : Scope := ⟨[.nextOrd, .mem, .gr, .evt, .out], [R.MBX_STATE, R.MBX_RETRY_STAT,
    R.MBX_GRANGE_STAT, R.FWD_VER_STAT, R.EVT_STAT, R.EVT_FCNT], []⟩
theorem execFenceRelease_bounds (m : Fin 16) (s : State) : Bounds execFenceRelease_scope s (execFenceRelease m s) :=
    by
  unfold execFenceRelease
  repeat' first
    | (with_reducible exact Bounds.fault) | (with_reducible refine Bounds.fin ?_ (by decide +kernel))
    | (with_reducible assumption) | (with_reducible apply Within.refl) | split | lift_lets
    | (intro v; refine Within.cut (p := Within execFenceRelease_scope s v) ?_ ?_; unfold v; rotate_left; clear_value v; intro hv)
    | (intro v; clear_value v) | intro v
    | (with_reducible apply Within.step (State.noteFence_within ..); rotate_left; decide +kernel)
    | (with_reducible apply Within.step (State.complete_within ..); rotate_left; decide +kernel) | split

def execFenceTimeout_scope : Scope := ⟨[.nextOrd, .mem, .gr, .evt, .out], [R.MBX_STATE, R.MBX_RETRY_STAT,
    R.MBX_GRANGE_STAT, R.FWD_VER_STAT, R.EVT_STAT, R.EVT_FCNT], []⟩
theorem execFenceTimeout_bounds (m : Fin 16) (s : State) : Bounds execFenceTimeout_scope s (execFenceTimeout m s) :=
    by
  unfold execFenceTimeout
  repeat' first
    | (with_reducible exact Bounds.fault) | (with_reducible refine Bounds.fin ?_ (by decide +kernel))
    | (with_reducible assumption) | (with_reducible apply Within.refl)
    | (with_reducible apply Within.step (State.complete_within ..); rotate_left; decide +kernel) | split

end Sys2Proof.Machine
end

