-- ==== Sys2Proof/Laws/ExecSynth.lean ====
section
/-! SUPPORT. Sys2Proof/Laws/ExecSynth.lean: what each command of Machine/Synth.lean may change. -/
set_option Elab.async false
set_option linter.unusedTactic false
set_option linter.unreachableTactic false
set_option linter.unnecessarySeqFocus false
namespace Sys2Proof.Machine

def execRampUpdate_scope : Scope := ⟨[.nextOrd, .gr, .evt, .ref, .syn, .out], [R.MBX_GRANGE_STAT, R.FWD_VER_STAT,
    R.SYN_RAMP_STAT, R.SYN_RAMP_Z, R.SYN_STAT_STEER, R.SYN_STAT, R.SYN_EVT_STAT], []⟩
theorem execRampUpdate_bounds (s : State) : Bounds execRampUpdate_scope s (execRampUpdate s) := by
  unfold execRampUpdate
  repeat' first
    | (with_reducible exact Bounds.fault) | (with_reducible refine Bounds.fin ?_ (by decide +kernel))
    | (with_reducible assumption) | (with_reducible apply Within.refl) | lift_lets
    | (intro v; refine Within.cut (p := Within execRampUpdate_scope s v) ?_ ?_; unfold v; rotate_left; clear_value v; intro hv)
    | (intro v; clear_value v) | intro v
    | (with_reducible apply Within.step (State.accQ_within ..); rotate_left; decide +kernel)
    | (with_reducible apply Within.step (State.updSyn_within ..); rotate_left; decide +kernel)
    | (with_reducible apply Within.step (State.noteSteer_within ..); rotate_left; decide +kernel)
    | (with_reducible apply Within.step (State.raise_within ..); rotate_left; decide +kernel)
    | (with_reducible apply Within.step (State.rampSeg_within ..); rotate_left; decide +kernel)
    | (with_reducible apply Within.step (State.wr_within ..); rotate_left; decide +kernel) | split

def execCmdSynRampStart_scope : Scope := ⟨[.nextOrd, .mem, .pwr, .gr, .evt, .tacc, .ref, .syn, .tdc, .cal, .twin,
    .out], [R.MBX_STATE, R.MBX_RETRY_STAT, R.MBX_GRANGE_STAT, R.FWD_VER_STAT, R.SYN_RAMP_STAT, R.SYN_EVT_STAT,
    R.TDC_STAT, R.TDC_EVT_STAT, R.CAL_STAT, R.CAL_EVT_STAT, R.EVT_LAST_FAULT, R.EVT_STAT, R.TWN_STAT, R.TWN_TXN_STAT,
    R.PWR_MODE_CTL, R.PWR_MODE_STAT, R.PWR_RAIL_STAT, R.PWR_CLK_STAT, R.EVT_LASTING, R.EVT_FCNT], []⟩
theorem execCmdSynRampStart_bounds (m : Fin 16) (x : Exec) (s : State) : Bounds execCmdSynRampStart_scope s
    (execCmdSynRampStart m x s) := by
  unfold execCmdSynRampStart
  repeat' first
    | (with_reducible exact Bounds.fault) | (with_reducible refine Bounds.fin ?_ (by decide +kernel))
    | (with_reducible assumption) | (with_reducible apply Within.refl)
    | (with_reducible apply State.cmd_within; rotate_left; decide +kernel; intro u hu; try beta_reduce)
    | (with_reducible apply Within.step (State.rampStart_within ..); rotate_left; decide +kernel)
    | (with_reducible apply Within.step (State.mirrorCmd_within ..); rotate_left; decide +kernel)
    | (with_reducible apply Within.step (State.complete_within ..); rotate_left; decide +kernel) | split

def execCmdSynRampStop_scope : Scope := ⟨[.nextOrd, .mem, .pwr, .gr, .evt, .tacc, .syn, .tdc, .cal, .twin, .out],
    [R.MBX_STATE, R.MBX_RETRY_STAT, R.MBX_GRANGE_STAT, R.FWD_VER_STAT, R.SYN_RAMP_STAT, R.SYN_EVT_STAT, R.TDC_STAT,
    R.TDC_EVT_STAT, R.CAL_STAT, R.CAL_EVT_STAT, R.EVT_LAST_FAULT, R.EVT_STAT, R.TWN_STAT, R.TWN_TXN_STAT,
    R.PWR_MODE_CTL, R.PWR_MODE_STAT, R.PWR_RAIL_STAT, R.PWR_CLK_STAT, R.EVT_LASTING, R.EVT_FCNT], []⟩
theorem execCmdSynRampStop_bounds (m : Fin 16) (x : Exec) (s : State) : Bounds execCmdSynRampStop_scope s
    (execCmdSynRampStop m x s) := by
  unfold execCmdSynRampStop
  repeat' first
    | (with_reducible exact Bounds.fault) | (with_reducible refine Bounds.fin ?_ (by decide +kernel))
    | (with_reducible assumption) | (with_reducible apply Within.refl) | lift_lets
    | (intro v; refine Within.cut (p := Within execCmdSynRampStop_scope s v) ?_ ?_; unfold v; rotate_left; clear_value v; intro hv)
    | (intro v; clear_value v) | intro v
    | (with_reducible apply State.cmd_within; rotate_left; decide +kernel; intro u hu; try beta_reduce)
    | (with_reducible apply Within.step (State.rampStop_within ..); rotate_left; decide +kernel)
    | (with_reducible apply Within.step (State.mirrorCmd_within ..); rotate_left; decide +kernel)
    | (with_reducible apply Within.step (State.complete_within ..); rotate_left; decide +kernel) | split

def execCkoOutputStart_scope : Scope := ⟨[.nextOrd, .gr, .evt, .syn, .out], [R.MBX_GRANGE_STAT, R.FWD_VER_STAT,
    R.SYN_CKO_STAT, R.SYN_EVT_STAT], []⟩
theorem execCkoOutputStart_bounds (k : Fin 12) (s : State) : Bounds execCkoOutputStart_scope s (execCkoOutputStart k
    s) := by
  unfold execCkoOutputStart
  repeat' first
    | (with_reducible exact Bounds.fault) | (with_reducible refine Bounds.fin ?_ (by decide +kernel))
    | (with_reducible assumption) | (with_reducible apply Within.refl) | lift_lets
    | (intro v; refine Within.cut (p := Within execCkoOutputStart_scope s v) ?_ ?_; unfold v; rotate_left; clear_value v; intro hv)
    | (intro v; clear_value v) | intro v
    | (with_reducible apply Within.step (State.updCko_within ..); rotate_left; decide +kernel)
    | (with_reducible apply Within.step (State.wr_within ..); rotate_left; decide +kernel)
    | (with_reducible apply Within.step (State.emit_within ..); rotate_left; decide +kernel)
    | (with_reducible apply Within.step (State.raise_within ..); rotate_left; decide +kernel) | split

def execCkoSwitchEdge_scope : Scope := ⟨[.nextOrd, .gr, .evt, .syn, .out], [R.MBX_GRANGE_STAT, R.FWD_VER_STAT,
    R.SYN_CKO_STAT, R.SYN_EVT_STAT], []⟩
theorem execCkoSwitchEdge_bounds (k : Fin 12) (s : State) : Bounds execCkoSwitchEdge_scope s (execCkoSwitchEdge k s)
    := by
  unfold execCkoSwitchEdge
  repeat' first
    | (with_reducible exact Bounds.fault) | (with_reducible refine Bounds.fin ?_ (by decide +kernel))
    | (with_reducible assumption) | (with_reducible apply Within.refl) | lift_lets
    | (intro v; refine Within.cut (p := Within execCkoSwitchEdge_scope s v) ?_ ?_; unfold v; rotate_left; clear_value v; intro hv)
    | (intro v; clear_value v) | intro v
    | (with_reducible apply Within.step (State.updCko_within ..); rotate_left; decide +kernel)
    | (with_reducible apply Within.step (State.wr_within ..); rotate_left; decide +kernel)
    | (with_reducible apply Within.step (State.raise_within ..); rotate_left; decide +kernel) | split

def execCkoStepEdge_scope : Scope := ⟨[.nextOrd, .gr, .evt, .syn, .out], [R.MBX_GRANGE_STAT, R.FWD_VER_STAT,
    R.SYN_EVT_STAT], []⟩
theorem execCkoStepEdge_bounds (k : Fin 12) (s : State) : Bounds execCkoStepEdge_scope s (execCkoStepEdge k s) := by
  unfold execCkoStepEdge
  repeat' first
    | (with_reducible exact Bounds.fault) | (with_reducible refine Bounds.fin ?_ (by decide +kernel))
    | (with_reducible assumption) | (with_reducible apply Within.refl) | lift_lets
    | (intro v; refine Within.cut (p := Within execCkoStepEdge_scope s v) ?_ ?_; unfold v; rotate_left; clear_value v; intro hv)
    | (intro v; clear_value v) | intro v
    | (with_reducible apply Within.step (State.updCko_within ..); rotate_left; decide +kernel)
    | (with_reducible apply Within.step (State.emit_within ..); rotate_left; decide +kernel)
    | (with_reducible apply Within.step (State.raise_within ..); rotate_left; decide +kernel) | split

end Sys2Proof.Machine
end

