-- ==== Sys2Proof/Laws/ExecReference.lean ====
section
/-! SUPPORT. Sys2Proof/Laws/ExecReference.lean: what each command of Machine/Reference.lean may change. -/
set_option Elab.async false
set_option linter.unusedTactic false
set_option linter.unreachableTactic false
set_option linter.unnecessarySeqFocus false
namespace Sys2Proof.Machine

def execQualifyExpiry_scope : Scope := ⟨[.nextOrd, .gr, .evt, .tacc, .ref, .out], [R.MBX_GRANGE_STAT, R.FWD_VER_STAT,
    R.REF_SRC_STAT, R.REF_EVT_STAT, R.EVT_STAT], []⟩
theorem execQualifyExpiry_bounds (j : Fin 7) (s : State) : Bounds execQualifyExpiry_scope s (execQualifyExpiry j s) :=
    by
  unfold execQualifyExpiry
  repeat' first
    | (with_reducible exact Bounds.fault) | (with_reducible refine Bounds.fin ?_ (by decide +kernel))
    | (with_reducible assumption) | (with_reducible apply Within.refl) | lift_lets
    | (intro v; refine Within.cut (p := Within execQualifyExpiry_scope s v) ?_ ?_; unfold v; rotate_left; clear_value v; intro hv)
    | (intro v; clear_value v) | intro v
    | (with_reducible apply Within.step (State.setQ_within ..); rotate_left; decide +kernel)
    | (with_reducible apply Within.step (State.updRef_within ..); rotate_left; decide +kernel)
    | (with_reducible apply Within.step (State.vote_within ..); rotate_left; decide +kernel)
    | (with_reducible apply Within.step (State.select_within ..); rotate_left; decide +kernel) | split

def execRequalExpiry_scope : Scope := ⟨[.nextOrd, .gr, .evt, .ref, .out], [R.MBX_GRANGE_STAT, R.FWD_VER_STAT,
    R.REF_SRC_STAT], []⟩
theorem execRequalExpiry_bounds (j : Fin 7) (s : State) : Bounds execRequalExpiry_scope s (execRequalExpiry j s) := by
  unfold execRequalExpiry
  repeat' first
    | (with_reducible exact Bounds.fault) | (with_reducible refine Bounds.fin ?_ (by decide +kernel))
    | (with_reducible assumption) | (with_reducible apply Within.refl)
    | (with_reducible apply Within.step (State.startQual_within ..); rotate_left; decide +kernel) | split

def execRefinEdge_scope : Scope := ⟨[.nextOrd, .nextFree, .gr, .evt, .tacc, .ref, .out], [R.MBX_GRANGE_STAT,
    R.FWD_VER_STAT, R.REF_SRC_STAT, R.REF_SRC_DEP, R.REF_FREQ_WORD, R.REF_EVT_STAT, R.SYN_RAMP_Z, R.SYN_STAT_STEER,
    R.SYN_STAT, R.SYN_EVT_STAT, R.EVT_STAT], []⟩
theorem execRefinEdge_bounds (k : Fin 4) (falling : Bool) (i : Inst) (s : State) : Bounds execRefinEdge_scope s
    (execRefinEdge k falling i s) := by
  unfold execRefinEdge
  repeat' first
    | (with_reducible exact Bounds.fault) | (with_reducible refine Bounds.fin ?_ (by decide +kernel))
    | (with_reducible assumption) | (with_reducible apply Within.refl) | lift_lets
    | (intro v; refine Within.cut (p := Within execRefinEdge_scope s v) ?_ ?_; unfold v; rotate_left; clear_value v; intro hv)
    | (intro v; clear_value v) | intro v
    | (with_reducible apply Within.step (State.todError_within ..); rotate_left; decide +kernel)
    | (with_reducible apply Within.step (State.updSrc_within ..); rotate_left; decide +kernel)
    | (with_reducible apply Within.step (State.offsetSample_within ..); rotate_left; decide +kernel)
    | (with_reducible apply Within.step (State.labelled_within ..); rotate_left; decide +kernel)
    | (with_reducible apply Within.step (State.freqCycle_within ..); rotate_left; decide +kernel) | split

def execRefSignalTimeout_scope : Scope := ⟨[.nextOrd, .gr, .evt, .tacc, .ref, .out], [R.MBX_GRANGE_STAT,
    R.FWD_VER_STAT, R.REF_SRC_STAT, R.REF_EVT_STAT, R.EVT_STAT], []⟩
theorem execRefSignalTimeout_bounds (k : Fin 4) (s : State) : Bounds execRefSignalTimeout_scope s
    (execRefSignalTimeout k s) := by
  unfold execRefSignalTimeout
  repeat' first
    | (with_reducible exact Bounds.fault) | (with_reducible refine Bounds.fin ?_ (by decide +kernel))
    | (with_reducible assumption) | (with_reducible apply Within.refl) | lift_lets
    | (intro v; refine Within.cut (p := Within execRefSignalTimeout_scope s v) ?_ ?_; unfold v; rotate_left; clear_value v; intro hv)
    | (intro v; clear_value v) | intro v
    | (with_reducible apply Within.step (State.tardyTod_within ..); rotate_left; decide +kernel)
    | (with_reducible apply Within.step (State.noSignal_within ..); rotate_left; decide +kernel) | split

def execNmeaSentence_scope : Scope := ⟨[.nextOrd, .nextFree, .gr, .evt, .tacc, .ref, .out], [R.MBX_GRANGE_STAT,
    R.FWD_VER_STAT, R.REF_SRC_STAT, R.REF_SRC_DEP, R.REF_FREQ_WORD, R.REF_EVT_STAT, R.SYN_RAMP_Z, R.SYN_STAT_STEER,
    R.SYN_STAT, R.SYN_EVT_STAT, R.EVT_STAT], []⟩
theorem execNmeaSentence_bounds (bs : List Byte) (s : State) : Bounds execNmeaSentence_scope s (execNmeaSentence bs s)
    := by
  unfold execNmeaSentence
  repeat' first
    | (with_reducible exact Bounds.fault) | (with_reducible refine Bounds.fin ?_ (by decide +kernel))
    | (with_reducible assumption) | (with_reducible apply Within.refl) | split | lift_lets
    | (intro v; refine Within.cut (p := Within execNmeaSentence_scope s v) ?_ ?_; unfold v; rotate_left; clear_value v; intro hv)
    | (intro v; clear_value v) | intro v
    | (with_reducible apply Within.step (State.updSrc_within ..); rotate_left; decide +kernel)
    | (with_reducible apply Within.step (State.labelled_within ..); rotate_left; decide +kernel)
    | (with_reducible apply Within.step (State.tardyTod_within ..); rotate_left; decide +kernel) | split

def execPtpSample_scope : Scope := ⟨[.nextOrd, .nextFree, .gr, .evt, .tacc, .ref, .out], [R.MBX_GRANGE_STAT,
    R.FWD_VER_STAT, R.REF_SRC_STAT, R.REF_SRC_DEP, R.REF_FREQ_WORD, R.REF_EVT_STAT, R.SYN_RAMP_Z, R.SYN_STAT_STEER,
    R.SYN_STAT, R.SYN_EVT_STAT, R.EVT_STAT], []⟩
theorem execPtpSample_bounds (s : State) : Bounds execPtpSample_scope s (execPtpSample s) := by
  unfold execPtpSample
  repeat' first
    | (with_reducible exact Bounds.fault) | (with_reducible refine Bounds.fin ?_ (by decide +kernel))
    | (with_reducible assumption) | (with_reducible apply Within.refl) | lift_lets
    | (intro v; refine Within.cut (p := Within execPtpSample_scope s v) ?_ ?_; unfold v; rotate_left; clear_value v; intro hv)
    | (intro v; clear_value v) | intro v
    | (with_reducible apply Within.step (State.noSignal_within ..); rotate_left; decide +kernel)
    | (with_reducible apply Within.step (State.updSrc_within ..); rotate_left; decide +kernel)
    | (with_reducible apply Within.step (State.offsetSample_within ..); rotate_left; decide +kernel) | split

def execPhaseStepApply_scope : Scope := ⟨[.nextOrd, .gr, .evt, .tb, .ref, .syn, .out], [R.MBX_GRANGE_STAT,
    R.FWD_VER_STAT, R.ALM_STAT, R.ALM_EVT_STAT, R.TBS_DOM_STAT, R.TBS_EVT_STAT, R.TBS_TRIG_SKIP, R.REF_EVT_STAT], []⟩
theorem execPhaseStepApply_bounds (s : State) : Bounds execPhaseStepApply_scope s (execPhaseStepApply s) := by
  unfold execPhaseStepApply
  repeat' first
    | (with_reducible exact Bounds.fault) | (with_reducible refine Bounds.fin ?_ (by decide +kernel))
    | (with_reducible assumption) | (with_reducible apply Within.refl)
    | (with_reducible apply Within.step (State.updRef_within ..); rotate_left; decide +kernel)
    | (with_reducible apply Within.step (State.stepDom_within ..); rotate_left; decide +kernel) | split

def execLearnerRecord_scope : Scope := ⟨[.nextOrd, .nextFree, .gr, .evt, .ref, .out], [R.MBX_GRANGE_STAT,
    R.FWD_VER_STAT, R.REF_STAT, R.REF_HO_STAT, R.REF_EVT_STAT], []⟩
theorem execLearnerRecord_bounds (s : State) : Bounds execLearnerRecord_scope s (execLearnerRecord s) := by
  unfold execLearnerRecord
  repeat' first
    | (with_reducible exact Bounds.fault) | (with_reducible refine Bounds.fin ?_ (by decide +kernel))
    | (with_reducible assumption) | (with_reducible apply Within.refl) | lift_lets
    | (intro v; refine Within.cut (p := Within execLearnerRecord_scope s v) ?_ ?_; unfold v; rotate_left; clear_value v; intro hv)
    | (intro v; clear_value v) | intro v
    | (with_reducible apply Within.step (State.accQ_within ..); rotate_left; decide +kernel)
    | (with_reducible apply Within.step (State.updRef_within ..); rotate_left; decide +kernel)
    | (with_reducible apply Within.step (State.wr_within ..); rotate_left; decide +kernel)
    | (with_reducible apply Within.step (State.raise_within ..); rotate_left; decide +kernel)
    | (with_reducible apply Within.step (State.select_within ..); rotate_left; decide +kernel) | split
    | (with_reducible apply Within.step (Within.put_nextFree ..); rotate_left; decide +kernel)

def execHoldoverUpdate_scope : Scope := ⟨[.nextOrd, .gr, .evt, .ref, .out], [R.MBX_GRANGE_STAT, R.FWD_VER_STAT,
    R.TBS_TE_STAT, R.REF_STAT, R.REF_FREQ_WORD, R.REF_HO_EST, R.REF_EVT_STAT, R.SYN_RAMP_Z, R.SYN_STAT_STEER,
    R.SYN_STAT, R.SYN_EVT_STAT], []⟩
theorem execHoldoverUpdate_bounds (s : State) : Bounds execHoldoverUpdate_scope s (execHoldoverUpdate s) := by
  unfold execHoldoverUpdate
  repeat' first
    | (with_reducible exact Bounds.fault) | (with_reducible refine Bounds.fin ?_ (by decide +kernel))
    | (with_reducible assumption) | (with_reducible apply Within.refl)
    | (with_reducible apply Within.step (State.updRef_within ..); rotate_left; decide +kernel)
    | (with_reducible apply Within.step (State.followModel_within ..); rotate_left; decide +kernel)
    | (with_reducible apply Within.step (State.noteHold_within ..); rotate_left; decide +kernel) | split

def execFreqWordWrite_scope : Scope := ⟨[.nextOrd, .gr, .evt, .ref, .out], [R.MBX_GRANGE_STAT, R.FWD_VER_STAT,
    R.REF_FREQ_WORD, R.SYN_RAMP_Z, R.SYN_STAT_STEER, R.SYN_STAT, R.SYN_EVT_STAT, R.EVT_RESERVED_OFS, R.EVT_STAT], []⟩
theorem execFreqWordWrite_bounds (w : Word) (s : State) : Bounds execFreqWordWrite_scope s (execFreqWordWrite w s) :=
    by
  unfold execFreqWordWrite
  repeat' first
    | (with_reducible exact Bounds.fault) | (with_reducible refine Bounds.fin ?_ (by decide +kernel))
    | (with_reducible assumption) | (with_reducible apply Within.refl)
    | (with_reducible apply Within.step (State.writeWord_within ..); rotate_left; decide +kernel) | split

def execPePush_scope : Scope := ⟨[.nextOrd, .gr, .evt, .ref, .out], [R.MBX_GRANGE_STAT, R.FWD_VER_STAT, R.REF_PE_CNT,
    R.REF_EVT_STAT], []⟩
theorem execPePush_bounds (s : State) : Bounds execPePush_scope s (execPePush s) := by
  unfold execPePush
  repeat' first
    | (with_reducible exact Bounds.fault) | (with_reducible refine Bounds.fin ?_ (by decide +kernel))
    | (with_reducible assumption) | (with_reducible apply Within.refl) | lift_lets
    | (intro v; refine Within.cut (p := Within execPePush_scope s v) ?_ ?_; unfold v; rotate_left; clear_value v; intro hv)
    | (intro v; clear_value v) | intro v
    | (with_reducible apply Within.step (State.updRef_within ..); rotate_left; decide +kernel)
    | (with_reducible apply Within.step (State.addSat_within ..); rotate_left; decide +kernel)
    | (with_reducible apply Within.step (State.raise_within ..); rotate_left; decide +kernel)
    | (with_reducible apply Within.step (State.wr_within ..); rotate_left; decide +kernel) | split

def execPeRead_scope : Scope := ⟨[.nextOrd, .gr, .evt, .ref, .out], [R.MBX_GRANGE_STAT, R.FWD_VER_STAT, R.REF_PE_CNT,
    R.REF_PE_LO, R.REF_PE_HI], []⟩
theorem execPeRead_bounds (s : State) : Bounds execPeRead_scope s (execPeRead s) := by
  unfold execPeRead
  repeat' first
    | (with_reducible exact Bounds.fault) | (with_reducible refine Bounds.fin ?_ (by decide +kernel))
    | (with_reducible assumption) | (with_reducible apply Within.refl)
    | (with_reducible apply Within.step (State.peRead_within ..); rotate_left; decide +kernel) | split

def execSwStale_scope : Scope := ⟨[.nextOrd, .gr, .evt, .ref, .out], [R.MBX_GRANGE_STAT, R.FWD_VER_STAT,
    R.REF_EVT_STAT], []⟩
theorem execSwStale_bounds (s : State) : Bounds execSwStale_scope s (execSwStale s) := by
  unfold execSwStale
  repeat' first
    | (with_reducible exact Bounds.fault) | (with_reducible refine Bounds.fin ?_ (by decide +kernel))
    | (with_reducible assumption) | (with_reducible apply Within.refl) | lift_lets
    | (intro v; refine Within.cut (p := Within execSwStale_scope s v) ?_ ?_; unfold v; rotate_left; clear_value v; intro hv)
    | (intro v; clear_value v) | intro v
    | (with_reducible apply Within.step (State.updRef_within ..); rotate_left; decide +kernel)
    | (with_reducible apply Within.step (State.raise_within ..); rotate_left; decide +kernel) | split

def execCmdRefForce_scope : Scope := ⟨[.nextOrd, .mem, .pwr, .gr, .evt, .tacc, .ref, .tdc, .cal, .twin, .out],
    [R.MBX_STATE, R.MBX_RETRY_STAT, R.MBX_GRANGE_STAT, R.FWD_VER_STAT, R.REF_STAT, R.TDC_STAT, R.TDC_EVT_STAT,
    R.CAL_STAT, R.CAL_EVT_STAT, R.EVT_LAST_FAULT, R.EVT_STAT, R.TWN_STAT, R.TWN_TXN_STAT, R.PWR_MODE_CTL,
    R.PWR_MODE_STAT, R.PWR_RAIL_STAT, R.PWR_CLK_STAT, R.EVT_LASTING, R.EVT_FCNT], []⟩
theorem execCmdRefForce_bounds (m : Fin 16) (x : Exec) (s : State) : Bounds execCmdRefForce_scope s (execCmdRefForce m
    x s) := by
  unfold execCmdRefForce
  repeat' first
    | (with_reducible exact Bounds.fault) | (with_reducible refine Bounds.fin ?_ (by decide +kernel))
    | (with_reducible assumption) | (with_reducible apply Within.refl) | lift_lets
    | (intro v; refine Within.cut (p := Within execCmdRefForce_scope s v) ?_ ?_; unfold v; rotate_left; clear_value v; intro hv)
    | (intro v; clear_value v) | intro v
    | (with_reducible apply State.cmd_within; rotate_left; decide +kernel; intro u hu; try beta_reduce)
    | (with_reducible apply Within.step (State.force_within ..); rotate_left; decide +kernel)
    | (with_reducible apply Within.step (State.mirrorCmd_within ..); rotate_left; decide +kernel)
    | (with_reducible apply Within.step (State.complete_within ..); rotate_left; decide +kernel) | split

def execCmdRefGnssSend_scope : Scope := ⟨[.nextOrd, .mem, .pwr, .gr, .evt, .tacc, .tdc, .cal, .twin, .out],
    [R.MBX_STATE, R.MBX_RETRY_STAT, R.MBX_GRANGE_STAT, R.FWD_VER_STAT, R.TDC_STAT, R.TDC_EVT_STAT, R.CAL_STAT,
    R.CAL_EVT_STAT, R.EVT_LAST_FAULT, R.EVT_STAT, R.TWN_STAT, R.PWR_MODE_CTL, R.PWR_MODE_STAT, R.PWR_RAIL_STAT,
    R.PWR_CLK_STAT, R.EVT_LASTING, R.EVT_FCNT], []⟩
theorem execCmdRefGnssSend_bounds (m : Fin 16) (x : Exec) (s : State) : Bounds execCmdRefGnssSend_scope s
    (execCmdRefGnssSend m x s) := by
  unfold execCmdRefGnssSend
  repeat' first
    | (with_reducible exact Bounds.fault) | (with_reducible refine Bounds.fin ?_ (by decide +kernel))
    | (with_reducible assumption) | (with_reducible apply Within.refl)
    | (with_reducible apply State.cmd_within; rotate_left; decide +kernel; intro u hu; try beta_reduce)
    | (with_reducible apply Within.step (State.emit_within ..); rotate_left; decide +kernel)
    | (with_reducible apply Within.step (State.complete_within ..); rotate_left; decide +kernel) | split

def execCmdRefCountersRead_scope : Scope := ⟨[.nextOrd, .mem, .pwr, .gr, .evt, .tally, .tacc, .tdc, .cal, .twin,
    .out], [R.MBX_STATE, R.MBX_RETRY_STAT, R.MBX_GRANGE_STAT, R.FWD_VER_STAT, R.TDC_STAT, R.TDC_EVT_STAT, R.CAL_STAT,
    R.CAL_EVT_STAT, R.EVT_LAST_FAULT, R.EVT_STAT, R.TWN_STAT, R.PWR_MODE_CTL, R.PWR_MODE_STAT, R.PWR_RAIL_STAT,
    R.PWR_CLK_STAT, R.EVT_LASTING, R.EVT_FCNT], []⟩
theorem execCmdRefCountersRead_bounds (m : Fin 16) (x : Exec) (s : State) : Bounds execCmdRefCountersRead_scope s
    (execCmdRefCountersRead m x s) := by
  unfold execCmdRefCountersRead
  repeat' first
    | (with_reducible exact Bounds.fault) | (with_reducible refine Bounds.fin ?_ (by decide +kernel))
    | (with_reducible assumption) | (with_reducible apply Within.refl)
    | (with_reducible apply Within.step (State.countersCmd_within ..); rotate_left; decide +kernel) | split

def execCmdRefModelClear_scope : Scope := ⟨[.nextOrd, .mem, .pwr, .gr, .evt, .tacc, .ref, .tdc, .cal, .twin, .out],
    [R.MBX_STATE, R.MBX_RETRY_STAT, R.MBX_GRANGE_STAT, R.FWD_VER_STAT, R.REF_STAT, R.REF_HO_STAT, R.TDC_STAT,
    R.TDC_EVT_STAT, R.CAL_STAT, R.CAL_EVT_STAT, R.EVT_LAST_FAULT, R.EVT_STAT, R.TWN_STAT, R.PWR_MODE_CTL,
    R.PWR_MODE_STAT, R.PWR_RAIL_STAT, R.PWR_CLK_STAT, R.EVT_LASTING, R.EVT_FCNT], []⟩
theorem execCmdRefModelClear_bounds (m : Fin 16) (x : Exec) (s : State) : Bounds execCmdRefModelClear_scope s
    (execCmdRefModelClear m x s) := by
  unfold execCmdRefModelClear
  repeat' first
    | (with_reducible exact Bounds.fault) | (with_reducible refine Bounds.fin ?_ (by decide +kernel))
    | (with_reducible assumption) | (with_reducible apply Within.refl) | lift_lets
    | (intro v; refine Within.cut (p := Within execCmdRefModelClear_scope s v) ?_ ?_; unfold v; rotate_left; clear_value v; intro hv)
    | (intro v; clear_value v) | intro v
    | (with_reducible apply State.cmd_within; rotate_left; decide +kernel; intro u hu; try beta_reduce)
    | (with_reducible apply Within.step (State.accQ_within ..); rotate_left; decide +kernel)
    | (with_reducible apply Within.step (State.updRef_within ..); rotate_left; decide +kernel)
    | (with_reducible apply Within.step (State.wr_within ..); rotate_left; decide +kernel)
    | (with_reducible apply Within.step (State.setReg_within ..); rotate_left; decide +kernel)
    | (with_reducible apply Within.step (State.select_within ..); rotate_left; decide +kernel)
    | (with_reducible apply Within.step (State.complete_within ..); rotate_left; decide +kernel) | split

end Sys2Proof.Machine
end

