-- ==== Sys2Proof/Laws/ExecTimeCmd.lean ====
section
/-! SUPPORT. Sys2Proof/Laws/ExecTimeCmd.lean: what each command of Machine/TimeCmd.lean may change. -/
set_option Elab.async false
set_option linter.unusedTactic false
set_option linter.unreachableTactic false
set_option linter.unnecessarySeqFocus false
namespace Sys2Proof.Machine

def execSlewResidueZero_scope : Scope := ⟨[.nextOrd, .gr, .evt, .tb, .out], [R.MBX_GRANGE_STAT, R.FWD_VER_STAT,
    R.ALM_STAT, R.ALM_EVT_STAT, R.TBS_DOM_STAT], []⟩
theorem execSlewResidueZero_bounds (n : Fin 8) (s : State) : Bounds execSlewResidueZero_scope s (execSlewResidueZero n
    s) := by
  unfold execSlewResidueZero
  repeat' first
    | (with_reducible exact Bounds.fault) | (with_reducible refine Bounds.fin ?_ (by decide +kernel))
    | (with_reducible assumption) | (with_reducible apply Within.refl)
    | (with_reducible apply Within.step (State.setRes_within ..); rotate_left; decide +kernel) | split

def execHostTimeoutExpiry_scope : Scope := ⟨[.nextOrd, .gr, .evt, .tacc, .ref, .out], [R.MBX_GRANGE_STAT,
    R.FWD_VER_STAT, R.TBS_DOM_STAT, R.TBS_EVT_STAT, R.REF_SRC_STAT, R.EVT_STAT], []⟩
theorem execHostTimeoutExpiry_bounds (n : Fin 8) (s : State) : Bounds execHostTimeoutExpiry_scope s
    (execHostTimeoutExpiry n s) := by
  unfold execHostTimeoutExpiry
  repeat' first
    | (with_reducible exact Bounds.fault) | (with_reducible refine Bounds.fin ?_ (by decide +kernel))
    | (with_reducible assumption) | (with_reducible apply Within.refl) | lift_lets
    | (intro v; refine Within.cut (p := Within execHostTimeoutExpiry_scope s v) ?_ ?_; unfold v; rotate_left; clear_value v; intro hv)
    | (intro v; clear_value v) | intro v
    | (with_reducible apply Within.step (State.wr_within ..); rotate_left; decide +kernel)
    | (with_reducible apply Within.step (State.raise_within ..); rotate_left; decide +kernel)
    | (with_reducible apply Within.step (State.notePtp_within ..); rotate_left; decide +kernel) | split

def execAdjustApply_scope : Scope := ⟨[.nextOrd, .mem, .gr, .evt, .tacc, .tb, .ref, .syn, .twin, .out], [R.MBX_STATE,
    R.MBX_RETRY_STAT, R.MBX_GRANGE_STAT, R.FWD_VER_STAT, R.ALM_STAT, R.ALM_EVT_STAT, R.TBS_DOM_STAT, R.TBS_DOM_INC_LO,
    R.TBS_DOM_INC_HI, R.TBS_EVT_STAT, R.TBS_TRIG_SKIP, R.REF_EVT_STAT, R.EVT_STAT, R.TWN_TXN_STAT, R.EVT_FCNT], []⟩
theorem execAdjustApply_bounds (n : Fin 8) (s : State) : Bounds execAdjustApply_scope s (execAdjustApply n s) := by
  unfold execAdjustApply
  repeat' first
    | (with_reducible exact Bounds.fault) | (with_reducible refine Bounds.fin ?_ (by decide +kernel))
    | (with_reducible assumption) | (with_reducible apply Within.refl) | lift_lets
    | (intro v; refine Within.cut (p := Within execAdjustApply_scope s v) ?_ ?_; unfold v; rotate_left; clear_value v; intro hv)
    | (intro v; clear_value v) | intro v
    | (with_reducible apply Within.step (State.updDom_within ..); rotate_left; decide +kernel)
    | (with_reducible apply Within.step (State.wr_within ..); rotate_left; decide +kernel)
    | (with_reducible apply Within.step (State.complete_within ..); rotate_left; decide +kernel)
    | (with_reducible apply Within.step (State.adjustDom_within ..); rotate_left; decide +kernel)
    | (with_reducible apply Within.step (State.mirrorCmd_within ..); rotate_left; decide +kernel) | split

def execCmdTbsAdjust_scope : Scope := ⟨[.nextOrd, .mem, .pwr, .gr, .evt, .tacc, .tb, .tdc, .cal, .twin, .out],
    [R.MBX_STATE, R.MBX_RETRY_STAT, R.MBX_GRANGE_STAT, R.FWD_VER_STAT, R.TBS_DOM_STAT, R.TDC_STAT, R.TDC_EVT_STAT,
    R.CAL_STAT, R.CAL_EVT_STAT, R.EVT_LAST_FAULT, R.EVT_STAT, R.TWN_STAT, R.PWR_MODE_CTL, R.PWR_MODE_STAT,
    R.PWR_RAIL_STAT, R.PWR_CLK_STAT, R.EVT_LASTING, R.EVT_FCNT], []⟩
theorem execCmdTbsAdjust_bounds (m : Fin 16) (x : Exec) (s : State) : Bounds execCmdTbsAdjust_scope s
    (execCmdTbsAdjust m x s) := by
  unfold execCmdTbsAdjust
  repeat' first
    | (with_reducible exact Bounds.fault) | (with_reducible refine Bounds.fin ?_ (by decide +kernel))
    | (with_reducible assumption) | (with_reducible apply Within.refl) | lift_lets
    | (intro v; refine Within.cut (p := Within execCmdTbsAdjust_scope s v) ?_ ?_; unfold v; rotate_left; clear_value v; intro hv)
    | (intro v; clear_value v) | intro v
    | (with_reducible apply State.cmd_within; rotate_left; decide +kernel; intro u hu; try beta_reduce)
    | (with_reducible apply Within.step (State.schedule_within ..); rotate_left; decide +kernel) | split

def execCmdTbsSet_scope : Scope := ⟨[.nextOrd, .mem, .pwr, .gr, .evt, .tacc, .tb, .tdc, .cal, .twin, .out],
    [R.MBX_STATE, R.MBX_RETRY_STAT, R.MBX_GRANGE_STAT, R.FWD_VER_STAT, R.TBS_DOM_STAT, R.TDC_STAT, R.TDC_EVT_STAT,
    R.CAL_STAT, R.CAL_EVT_STAT, R.EVT_LAST_FAULT, R.EVT_STAT, R.TWN_STAT, R.PWR_MODE_CTL, R.PWR_MODE_STAT,
    R.PWR_RAIL_STAT, R.PWR_CLK_STAT, R.EVT_LASTING, R.EVT_FCNT], []⟩
theorem execCmdTbsSet_bounds (m : Fin 16) (x : Exec) (s : State) : Bounds execCmdTbsSet_scope s (execCmdTbsSet m x s)
    := by
  unfold execCmdTbsSet
  repeat' first
    | (with_reducible exact Bounds.fault) | (with_reducible refine Bounds.fin ?_ (by decide +kernel))
    | (with_reducible assumption) | (with_reducible apply Within.refl) | lift_lets
    | (intro v; refine Within.cut (p := Within execCmdTbsSet_scope s v) ?_ ?_; unfold v; rotate_left; clear_value v; intro hv)
    | (intro v; clear_value v) | intro v
    | (with_reducible apply State.cmd_within; rotate_left; decide +kernel; intro u hu; try beta_reduce)
    | (with_reducible apply Within.step (State.schedule_within ..); rotate_left; decide +kernel) | split

def execSnapshot_scope : Scope := ⟨[.nextOrd, .gr, .evt, .tb, .out], [R.MBX_GRANGE_STAT, R.FWD_VER_STAT,
    R.TBS_SNAP_TICK_LO, R.TBS_SNAP_TICK_HI, R.TBS_SNAP_NS, R.TBS_SNAP_SLO, R.TBS_SNAP_SHI], []⟩
theorem execSnapshot_bounds (data : Word) (s : State) : Bounds execSnapshot_scope s (execSnapshot data s) := by
  unfold execSnapshot
  repeat' first
    | (with_reducible exact Bounds.fault) | (with_reducible refine Bounds.fin ?_ (by decide +kernel))
    | (with_reducible assumption) | (with_reducible apply Within.refl)
    | (with_reducible apply Within.step (State.snapshot_within ..); rotate_left; decide +kernel) | split

def execRptConsWrite_scope : Scope := ⟨[.nextOrd, .gr, .evt, .tb, .out], [R.MBX_GRANGE_STAT, R.FWD_VER_STAT,
    R.TBS_RPT_PEND, R.TBS_EVT_STAT, R.TBS_RPT_CONS, R.EVT_RESERVED_OFS, R.EVT_STAT], []⟩
theorem execRptConsWrite_bounds (p : Fin 256) (data : Word) (s : State) : Bounds execRptConsWrite_scope s
    (execRptConsWrite p data s) := by
  unfold execRptConsWrite
  repeat' first
    | (with_reducible exact Bounds.fault) | (with_reducible refine Bounds.fin ?_ (by decide +kernel))
    | (with_reducible assumption) | (with_reducible apply Within.refl)
    | (with_reducible apply Within.step (State.consWrite_within ..); rotate_left; decide +kernel) | split

def execCmdTbsReportBind_scope : Scope := ⟨[.nextOrd, .mem, .pwr, .gr, .evt, .tacc, .tb, .tdc, .cal, .twin, .out],
    [R.MBX_STATE, R.MBX_RETRY_STAT, R.MBX_GRANGE_STAT, R.FWD_VER_STAT, R.TBS_RPT_PEND, R.TBS_EVT_STAT, R.TBS_RPT_PROD,
    R.TBS_RPT_CONS, R.TBS_RPT_STAT, R.TDC_STAT, R.TDC_EVT_STAT, R.CAL_STAT, R.CAL_EVT_STAT, R.EVT_LAST_FAULT,
    R.EVT_STAT, R.TWN_STAT, R.PWR_MODE_CTL, R.PWR_MODE_STAT, R.PWR_RAIL_STAT, R.PWR_CLK_STAT, R.EVT_LASTING,
    R.EVT_FCNT], []⟩
theorem execCmdTbsReportBind_bounds (m : Fin 16) (x : Exec) (s : State) : Bounds execCmdTbsReportBind_scope s
    (execCmdTbsReportBind m x s) := by
  unfold execCmdTbsReportBind
  repeat' first
    | (with_reducible exact Bounds.fault) | (with_reducible refine Bounds.fin ?_ (by decide +kernel))
    | (with_reducible assumption) | (with_reducible apply Within.refl) | lift_lets
    | (intro v; refine Within.cut (p := Within execCmdTbsReportBind_scope s v) ?_ ?_; unfold v; rotate_left; clear_value v; intro hv)
    | (intro v; clear_value v) | intro v
    | (with_reducible apply State.cmd_within; rotate_left; decide +kernel; intro u hu; try beta_reduce)
    | (with_reducible apply Within.step (State.updTb_within ..); rotate_left; decide +kernel)
    | (with_reducible apply Within.step (State.clearReg_within ..); rotate_left; decide +kernel)
    | (with_reducible apply Within.step (State.wrB_within ..); rotate_left; decide +kernel)
    | (with_reducible apply Within.step (State.setPend_within ..); rotate_left; decide +kernel)
    | (with_reducible apply Within.step (State.complete_within ..); rotate_left; decide +kernel) | split

def execCmdTbsCountersRead_scope : Scope := ⟨[.nextOrd, .mem, .pwr, .gr, .evt, .tally, .tacc, .tdc, .cal, .twin,
    .out], [R.MBX_STATE, R.MBX_RETRY_STAT, R.MBX_GRANGE_STAT, R.FWD_VER_STAT, R.TDC_STAT, R.TDC_EVT_STAT, R.CAL_STAT,
    R.CAL_EVT_STAT, R.EVT_LAST_FAULT, R.EVT_STAT, R.TWN_STAT, R.PWR_MODE_CTL, R.PWR_MODE_STAT, R.PWR_RAIL_STAT,
    R.PWR_CLK_STAT, R.EVT_LASTING, R.EVT_FCNT], []⟩
theorem execCmdTbsCountersRead_bounds (m : Fin 16) (x : Exec) (s : State) : Bounds execCmdTbsCountersRead_scope s
    (execCmdTbsCountersRead m x s) := by
  unfold execCmdTbsCountersRead
  repeat' first
    | (with_reducible exact Bounds.fault) | (with_reducible refine Bounds.fin ?_ (by decide +kernel))
    | (with_reducible assumption) | (with_reducible apply Within.refl)
    | (with_reducible apply Within.step (State.countersCmd_within ..); rotate_left; decide +kernel) | split

def execTriggerPulse_scope : Scope := ⟨[.nextOrd, .gr, .evt, .tb, .out], [R.MBX_GRANGE_STAT, R.FWD_VER_STAT,
    R.TBS_EVT_STAT, R.TBS_TRIG_STAT, R.TBS_TRIG_SKIP], []⟩
theorem execTriggerPulse_bounds (k : Fin 8) (s : State) : Bounds execTriggerPulse_scope s (execTriggerPulse k s) := by
  unfold execTriggerPulse
  repeat' first
    | (with_reducible exact Bounds.fault) | (with_reducible refine Bounds.fin ?_ (by decide +kernel))
    | (with_reducible assumption) | (with_reducible apply Within.refl) | lift_lets
    | (intro v; refine Within.cut (p := Within execTriggerPulse_scope s v) ?_ ?_; unfold v; rotate_left; clear_value v; intro hv)
    | (intro v; clear_value v) | intro v
    | (with_reducible apply Within.step (State.setTrig_within (he := by intro e he; (repeat' split at he) <;> first | (cases he; with_unfolding_all rfl) | (cases he; done)) ..); rotate_left; decide +kernel)
    | (with_reducible apply Within.step (State.addWrap_within ..); rotate_left; decide +kernel)
    | (with_reducible apply Within.step (State.emit_within ..); rotate_left; decide +kernel) | split

def execTriggerPulseEnd_scope : Scope := ⟨[.nextOrd, .gr, .evt, .tb, .out], [R.MBX_GRANGE_STAT, R.FWD_VER_STAT], []⟩
theorem execTriggerPulseEnd_bounds (k : Fin 8) (s : State) : Bounds execTriggerPulseEnd_scope s (execTriggerPulseEnd k
    s) := by
  unfold execTriggerPulseEnd
  repeat' first
    | (with_reducible exact Bounds.fault) | (with_reducible refine Bounds.fin ?_ (by decide +kernel))
    | (with_reducible assumption) | (with_reducible apply Within.refl) | lift_lets
    | (intro v; refine Within.cut (p := Within execTriggerPulseEnd_scope s v) ?_ ?_; unfold v; rotate_left; clear_value v; intro hv)
    | (intro v; clear_value v) | intro v
    | (with_reducible apply Within.step (State.updTb_within ..); rotate_left; decide +kernel)
    | (with_reducible apply Within.step (State.emit_within ..); rotate_left; decide +kernel) | split

def execPpsoPulse_scope : Scope := ⟨[.nextOrd, .gr, .evt, .ref, .out], [R.MBX_GRANGE_STAT, R.FWD_VER_STAT,
    R.REF_EVT_STAT], []⟩
theorem execPpsoPulse_bounds (k : Fin 2) (s : State) : Bounds execPpsoPulse_scope s (execPpsoPulse k s) := by
  unfold execPpsoPulse
  repeat' first
    | (with_reducible exact Bounds.fault) | (with_reducible refine Bounds.fin ?_ (by decide +kernel))
    | (with_reducible assumption) | (with_reducible apply Within.refl) | lift_lets
    | (intro v; refine Within.cut (p := Within execPpsoPulse_scope s v) ?_ ?_; unfold v; rotate_left; clear_value v; intro hv)
    | (intro v; clear_value v) | intro v
    | (with_reducible apply Within.step (State.setPpso_within ..); rotate_left; decide +kernel)
    | (with_reducible apply Within.step (State.emit_within ..); rotate_left; decide +kernel) | split

def execPpsoPulseEnd_scope : Scope := ⟨[.nextOrd, .gr, .evt, .ref, .out], [R.MBX_GRANGE_STAT, R.FWD_VER_STAT], []⟩
theorem execPpsoPulseEnd_bounds (k : Fin 2) (s : State) : Bounds execPpsoPulseEnd_scope s (execPpsoPulseEnd k s) := by
  unfold execPpsoPulseEnd
  repeat' first
    | (with_reducible exact Bounds.fault) | (with_reducible refine Bounds.fin ?_ (by decide +kernel))
    | (with_reducible assumption) | (with_reducible apply Within.refl) | lift_lets
    | (intro v; refine Within.cut (p := Within execPpsoPulseEnd_scope s v) ?_ ?_; unfold v; rotate_left; clear_value v; intro hv)
    | (intro v; clear_value v) | intro v
    | (with_reducible apply Within.step (State.updRef_within ..); rotate_left; decide +kernel)
    | (with_reducible apply Within.step (State.emit_within ..); rotate_left; decide +kernel) | split

end Sys2Proof.Machine
end

