-- ==== Sys2Proof/Laws/ExecTimeTransfer.lean ====
section
/-! SUPPORT. Sys2Proof/Laws/ExecTimeTransfer.lean: what each command of Machine/TimeTransfer.lean may change. -/
set_option Elab.async false
set_option linter.unusedTactic false
set_option linter.unreachableTactic false
set_option linter.unnecessarySeqFocus false
namespace Sys2Proof.Machine

def execMeasSetEntry_scope : Scope := ⟨[.nextOrd, .gr, .evt, .cars, .tt, .out], [R.MBX_GRANGE_STAT, R.SHF_TT_STAT,
    R.FWD_VER_STAT], []⟩
theorem execMeasSetEntry_bounds (c : Fin 128) (s : State) : Bounds execMeasSetEntry_scope s (execMeasSetEntry c s) :=
    by
  unfold execMeasSetEntry
  repeat' first
    | (with_reducible exact Bounds.fault) | (with_reducible refine Bounds.fin ?_ (by decide +kernel))
    | (with_reducible assumption) | (with_reducible apply Within.refl) | lift_lets
    | (intro v; refine Within.cut (p := Within execMeasSetEntry_scope s v) ?_ ?_; unfold v; rotate_left; clear_value v; intro hv)
    | (intro v; clear_value v) | intro v
    | (with_reducible apply Within.step (State.updTtCar_within ..); rotate_left; decide +kernel)
    | (with_reducible apply Within.step (State.noteMeas_within ..); rotate_left; decide +kernel) | split

def execTcWindowEnd_scope : Scope := ⟨[.nextOrd, .gr, .evt, .tacc, .sheaves, .tt, .out], [R.MBX_GRANGE_STAT,
    R.SHF_TT_STAT, R.SHF_TT_F, R.SHF_TT_UNC, R.SHF_TT_EVT_STAT, R.FWD_VER_STAT, R.EVT_STAT], []⟩
theorem execTcWindowEnd_bounds (h : Fin 32) (s : State) : Bounds execTcWindowEnd_scope s (execTcWindowEnd h s) := by
  unfold execTcWindowEnd
  repeat' first
    | (with_reducible exact Bounds.fault) | (with_reducible refine Bounds.fin ?_ (by decide +kernel))
    | (with_reducible assumption) | (with_reducible apply Within.refl)
    | (with_reducible apply Within.step (State.tcWindow_within ..); rotate_left; decide +kernel) | split

def execTtWindowEnd_scope : Scope := ⟨[.nextOrd, .nextFree, .gr, .evt, .tacc, .cars, .sheaves, .tt, .ref, .out],
    [R.MBX_GRANGE_STAT, R.SHF_TT_STAT, R.SHF_TT_OFS_LO, R.SHF_TT_OFS_HI, R.SHF_TT_F, R.SHF_TT_UNC, R.SHF_TT_HOP_TE,
    R.SHF_TT_EVT_STAT, R.FWD_VER_STAT, R.TBS_TE_STAT, R.REF_SRC_STAT, R.REF_SRC_DEP, R.REF_FREQ_WORD, R.REF_EVT_STAT,
    R.SYN_RAMP_Z, R.SYN_STAT_STEER, R.SYN_STAT, R.SYN_EVT_STAT, R.EVT_STAT], []⟩
theorem execTtWindowEnd_bounds (h : Fin 32) (s : State) : Bounds execTtWindowEnd_scope s (execTtWindowEnd h s) := by
  unfold execTtWindowEnd
  repeat' first
    | (with_reducible exact Bounds.fault) | (with_reducible refine Bounds.fin ?_ (by decide +kernel))
    | (with_reducible assumption) | (with_reducible apply Within.refl)
    | (with_reducible apply Within.step (State.lineWindow_within ..); rotate_left; decide +kernel) | split

def execCmdShfTtCarriers_scope : Scope := ⟨[.nextOrd, .mem, .pwr, .gr, .evt, .tacc, .tdc, .cal, .twin, .out],
    [R.MBX_STATE, R.MBX_RETRY_STAT, R.MBX_GRANGE_STAT, R.FWD_VER_STAT, R.TDC_STAT, R.TDC_EVT_STAT, R.CAL_STAT,
    R.CAL_EVT_STAT, R.EVT_LAST_FAULT, R.EVT_STAT, R.TWN_STAT, R.PWR_MODE_CTL, R.PWR_MODE_STAT, R.PWR_RAIL_STAT,
    R.PWR_CLK_STAT, R.EVT_LASTING, R.EVT_FCNT], []⟩
theorem execCmdShfTtCarriers_bounds (m : Fin 16) (x : Exec) (s : State) : Bounds execCmdShfTtCarriers_scope s
    (execCmdShfTtCarriers m x s) := by
  unfold execCmdShfTtCarriers
  repeat' first
    | (with_reducible exact Bounds.fault) | (with_reducible refine Bounds.fin ?_ (by decide +kernel))
    | (with_reducible assumption) | (with_reducible apply Within.refl)
    | (with_reducible apply State.cmd_within; rotate_left; decide +kernel; intro u hu; try beta_reduce)
    | (with_reducible apply Within.step (State.complete_within ..); rotate_left; decide +kernel) | split

def execCmdShfTtCountersRead_scope : Scope := ⟨[.nextOrd, .mem, .pwr, .gr, .evt, .tally, .tacc, .tdc, .cal, .twin,
    .out], [R.MBX_STATE, R.MBX_RETRY_STAT, R.MBX_GRANGE_STAT, R.FWD_VER_STAT, R.TDC_STAT, R.TDC_EVT_STAT, R.CAL_STAT,
    R.CAL_EVT_STAT, R.EVT_LAST_FAULT, R.EVT_STAT, R.TWN_STAT, R.PWR_MODE_CTL, R.PWR_MODE_STAT, R.PWR_RAIL_STAT,
    R.PWR_CLK_STAT, R.EVT_LASTING, R.EVT_FCNT], []⟩
theorem execCmdShfTtCountersRead_bounds (m : Fin 16) (x : Exec) (s : State) : Bounds execCmdShfTtCountersRead_scope s
    (execCmdShfTtCountersRead m x s) := by
  unfold execCmdShfTtCountersRead
  repeat' first
    | (with_reducible exact Bounds.fault) | (with_reducible refine Bounds.fin ?_ (by decide +kernel))
    | (with_reducible assumption) | (with_reducible apply Within.refl)
    | (with_reducible apply Within.step (State.countersCmd_within ..); rotate_left; decide +kernel) | split

end Sys2Proof.Machine
end

