-- ==== Sys2Proof/Laws/ExecAlmanac.lean ====
section
/-! SUPPORT. Sys2Proof/Laws/ExecAlmanac.lean: what each command of Machine/Almanac.lean may change. -/
set_option Elab.async false
set_option linter.unusedTactic false
set_option linter.unreachableTactic false
set_option linter.unnecessarySeqFocus false
namespace Sys2Proof.Machine

def execWindowEnd_scope : Scope := ⟨[.nextOrd, .gr, .evt, .tacc, .ports, .sheaves, .fwd, .grn, .alm, .out],
    [R.MBX_GRANGE_STAT, R.FWD_VER_STAT, R.GRN_POOL_STAT, R.GRN_SILO_STAT, R.GRN_EVT_STAT, R.ALM_EVT_STAT,
    R.ALM_EVT_SRC, R.EVT_STAT], []⟩
theorem execWindowEnd_bounds (h : Fin 32) (s : State) : Bounds execWindowEnd_scope s (execWindowEnd h s) := by
  unfold execWindowEnd
  repeat' first
    | (with_reducible exact Bounds.fault) | (with_reducible refine Bounds.fin ?_ (by decide +kernel))
    | (with_reducible assumption) | (with_reducible apply Within.refl)
    | (with_reducible apply Within.step (State.endWindows_within ..); rotate_left; decide +kernel) | split

def execCmdAlmCountersRead_scope : Scope := ⟨[.nextOrd, .mem, .pwr, .gr, .evt, .tally, .tacc, .tdc, .cal, .twin,
    .out], [R.MBX_STATE, R.MBX_RETRY_STAT, R.MBX_GRANGE_STAT, R.FWD_VER_STAT, R.TDC_STAT, R.TDC_EVT_STAT, R.CAL_STAT,
    R.CAL_EVT_STAT, R.EVT_LAST_FAULT, R.EVT_STAT, R.TWN_STAT, R.PWR_MODE_CTL, R.PWR_MODE_STAT, R.PWR_RAIL_STAT,
    R.PWR_CLK_STAT, R.EVT_LASTING, R.EVT_FCNT], []⟩
theorem execCmdAlmCountersRead_bounds (m : Fin 16) (x : Exec) (s : State) : Bounds execCmdAlmCountersRead_scope s
    (execCmdAlmCountersRead m x s) := by
  unfold execCmdAlmCountersRead
  repeat' first
    | (with_reducible exact Bounds.fault) | (with_reducible refine Bounds.fin ?_ (by decide +kernel))
    | (with_reducible assumption) | (with_reducible apply Within.refl)
    | (with_reducible apply Within.step (State.countersCmd_within ..); rotate_left; decide +kernel) | split

def execCmdAlmBankCheck_scope : Scope := ⟨[.nextOrd, .mem, .pwr, .gr, .evt, .tacc, .tdc, .cal, .twin, .out],
    [R.MBX_STATE, R.MBX_RETRY_STAT, R.MBX_GRANGE_STAT, R.FWD_VER_STAT, R.TDC_STAT, R.TDC_EVT_STAT, R.CAL_STAT,
    R.CAL_EVT_STAT, R.EVT_LAST_FAULT, R.EVT_STAT, R.TWN_STAT, R.PWR_MODE_CTL, R.PWR_MODE_STAT, R.PWR_RAIL_STAT,
    R.PWR_CLK_STAT, R.EVT_LASTING, R.EVT_FCNT], []⟩
theorem execCmdAlmBankCheck_bounds (m : Fin 16) (x : Exec) (s : State) : Bounds execCmdAlmBankCheck_scope s
    (execCmdAlmBankCheck m x s) := by
  unfold execCmdAlmBankCheck
  repeat' first
    | (with_reducible exact Bounds.fault) | (with_reducible refine Bounds.fin ?_ (by decide +kernel))
    | (with_reducible assumption) | (with_reducible apply Within.refl) | lift_lets
    | (intro v; refine Within.cut (p := Within execCmdAlmBankCheck_scope s v) ?_ ?_; unfold v; rotate_left; clear_value v; intro hv)
    | (intro v; clear_value v) | intro v
    | (with_reducible apply State.cmd_within; rotate_left; decide +kernel; intro u hu; try beta_reduce)
    | (with_reducible apply Within.step (State.complete_within ..); rotate_left; decide +kernel) | split

def execCmdAlmRealign_scope : Scope := ⟨[.nextOrd, .mem, .pwr, .gr, .evt, .tacc, .ports, .sheaves, .fwd, .grn, .alm,
    .tb, .ref, .tdc, .cal, .twin, .out], [R.MBX_STATE, R.MBX_RETRY_STAT, R.MBX_GRANGE_STAT, R.FWD_VER_STAT,
    R.GRN_POOL_STAT, R.GRN_EVT_STAT, R.ALM_STAT, R.ALM_EVT_STAT, R.ALM_EVT_SRC, R.TBS_DOM_STAT, R.TBS_EVT_STAT,
    R.TBS_TRIG_SKIP, R.REF_EVT_STAT, R.TDC_STAT, R.TDC_EVT_STAT, R.CAL_STAT, R.CAL_EVT_STAT, R.EVT_LAST_FAULT,
    R.EVT_STAT, R.TWN_STAT, R.TWN_TXN_STAT, R.PWR_MODE_CTL, R.PWR_MODE_STAT, R.PWR_RAIL_STAT, R.PWR_CLK_STAT,
    R.EVT_LASTING, R.EVT_FCNT], []⟩
theorem execCmdAlmRealign_bounds (m : Fin 16) (x : Exec) (s : State) : Bounds execCmdAlmRealign_scope s
    (execCmdAlmRealign m x s) := by
  unfold execCmdAlmRealign
  repeat' first
    | (with_reducible exact Bounds.fault) | (with_reducible refine Bounds.fin ?_ (by decide +kernel))
    | (with_reducible assumption) | (with_reducible apply Within.refl)
    | (with_reducible apply State.cmd_within; rotate_left; decide +kernel; intro u hu; try beta_reduce)
    | (with_reducible apply Within.step (State.realign_within ..); rotate_left; decide +kernel)
    | (with_reducible apply Within.step (State.mirrorCmd_within ..); rotate_left; decide +kernel)
    | (with_reducible apply Within.step (State.complete_within ..); rotate_left; decide +kernel) | split

end Sys2Proof.Machine
end

