-- ==== Sys2Proof/Laws/ExecTdc.lean ====
section
/-! SUPPORT. Sys2Proof/Laws/ExecTdc.lean: what each command of Machine/Tdc.lean may change. -/
set_option Elab.async false
set_option linter.unusedTactic false
set_option linter.unreachableTactic false
set_option linter.unnecessarySeqFocus false
namespace Sys2Proof.Machine

def execTdcArm_scope : Scope := ⟨[.nextOrd, .gr, .evt, .tdc, .out], [R.MBX_GRANGE_STAT, R.FWD_VER_STAT, R.TDC_STAT,
    R.TDC_EVT_STAT, R.TDC_CNT], []⟩
theorem execTdcArm_bounds (s : State) : Bounds execTdcArm_scope s (execTdcArm s) := by
  unfold execTdcArm
  repeat' first
    | (with_reducible exact Bounds.fault) | (with_reducible refine Bounds.fin ?_ (by decide +kernel))
    | (with_reducible assumption) | (with_reducible apply Within.refl)
    | (with_reducible apply Within.step (State.arm_within ..); rotate_left; decide +kernel) | split

def execTdcEdge_scope : Scope := ⟨[.nextOrd, .pwr, .gr, .evt, .tacc, .tdc, .cal, .twin, .out], [R.MBX_GRANGE_STAT,
    R.FWD_VER_STAT, R.TDC_STAT, R.TDC_EVT_STAT, R.TDC_CNT, R.CAL_STAT, R.CAL_EVT_STAT, R.EVT_LAST_FAULT, R.EVT_STAT,
    R.TWN_STAT, R.PWR_MODE_CTL, R.PWR_MODE_STAT, R.PWR_RAIL_STAT, R.PWR_CLK_STAT, R.EVT_LASTING, R.EVT_FCNT], []⟩
theorem execTdcEdge_bounds (ch : Fin 2) (d : EdgeSeen) (bin : Fin 512) (x : Exec) (s : State) : Bounds
    execTdcEdge_scope s (execTdcEdge ch d bin x s) := by
  unfold execTdcEdge
  repeat' first
    | (with_reducible exact Bounds.fault) | (with_reducible refine Bounds.fin ?_ (by decide +kernel))
    | (with_reducible assumption) | (with_reducible apply Within.refl) | lift_lets
    | (intro v; refine Within.cut (p := Within execTdcEdge_scope s v) ?_ ?_; unfold v; rotate_left; clear_value v; intro hv)
    | (intro v; clear_value v) | intro v
    | (with_reducible apply Within.step (State.updTdc_within ..); rotate_left; decide +kernel)
    | (with_reducible apply Within.step (State.holdOff_within ..); rotate_left; decide +kernel)
    | (with_reducible apply Within.step (State.stop_within ..); rotate_left; decide +kernel)
    | (with_reducible apply Within.step (State.tdcResult_within ..); rotate_left; decide +kernel) | split

def execTdcTimeout_scope : Scope := ⟨[.nextOrd, .gr, .evt, .tdc, .out], [R.MBX_GRANGE_STAT, R.FWD_VER_STAT,
    R.TDC_STAT, R.TDC_EVT_STAT, R.TDC_CNT], []⟩
theorem execTdcTimeout_bounds (s : State) : Bounds execTdcTimeout_scope s (execTdcTimeout s) := by
  unfold execTdcTimeout
  repeat' first
    | (with_reducible exact Bounds.fault) | (with_reducible refine Bounds.fin ?_ (by decide +kernel))
    | (with_reducible assumption) | (with_reducible apply Within.refl)
    | (with_reducible apply Within.step (State.tdcEnd_within ..); rotate_left; decide +kernel)
    | (with_reducible apply Within.step (State.stop_within ..); rotate_left; decide +kernel) | split

def execTdcResultLatch_scope : Scope := ⟨[.nextOrd, .gr, .evt, .tdc, .out], [R.MBX_GRANGE_STAT, R.FWD_VER_STAT,
    R.TDC_RES], []⟩
theorem execTdcResultLatch_bounds (s : State) : Bounds execTdcResultLatch_scope s (execTdcResultLatch s) := by
  unfold execTdcResultLatch
  repeat' first
    | (with_reducible exact Bounds.fault) | (with_reducible refine Bounds.fin ?_ (by decide +kernel))
    | (with_reducible assumption) | (with_reducible apply Within.refl)
    | (with_reducible apply Within.step (State.updTdc_within ..); rotate_left; decide +kernel)
    | (with_reducible apply Within.step (State.showRes_within ..); rotate_left; decide +kernel)
    | (with_reducible apply Within.step (State.emit_within ..); rotate_left; decide +kernel) | split

def execTdcResultRemove_scope : Scope := ⟨[.nextOrd, .gr, .evt, .tdc, .out], [R.MBX_GRANGE_STAT, R.FWD_VER_STAT,
    R.TDC_STAT, R.TDC_EVT_STAT, R.TDC_RES], []⟩
theorem execTdcResultRemove_bounds (s : State) : Bounds execTdcResultRemove_scope s (execTdcResultRemove s) := by
  unfold execTdcResultRemove
  repeat' first
    | (with_reducible exact Bounds.fault) | (with_reducible refine Bounds.fin ?_ (by decide +kernel))
    | (with_reducible assumption) | (with_reducible apply Within.refl) | lift_lets
    | (intro v; refine Within.cut (p := Within execTdcResultRemove_scope s v) ?_ ?_; unfold v; rotate_left; clear_value v; intro hv)
    | (intro v; clear_value v) | intro v
    | (with_reducible apply Within.step (State.emit_within ..); rotate_left; decide +kernel)
    | (with_reducible apply Within.step (State.updTdc_within ..); rotate_left; decide +kernel)
    | (with_reducible apply Within.step (State.showRes_within ..); rotate_left; decide +kernel)
    | (with_reducible apply Within.step (State.tdcNote_within ..); rotate_left; decide +kernel) | split

def execCmdTdcRun_scope : Scope := ⟨[.nextOrd, .mem, .pwr, .gr, .evt, .tacc, .tdc, .cal, .twin, .out], [R.MBX_STATE,
    R.MBX_RETRY_STAT, R.MBX_GRANGE_STAT, R.FWD_VER_STAT, R.TDC_STAT, R.TDC_EVT_STAT, R.TDC_CNT, R.CAL_STAT,
    R.CAL_EVT_STAT, R.EVT_LAST_FAULT, R.EVT_STAT, R.TWN_STAT, R.PWR_MODE_CTL, R.PWR_MODE_STAT, R.PWR_RAIL_STAT,
    R.PWR_CLK_STAT, R.EVT_LASTING, R.EVT_FCNT], []⟩
theorem execCmdTdcRun_bounds (m : Fin 16) (x : Exec) (s : State) : Bounds execCmdTdcRun_scope s (execCmdTdcRun m x s)
    := by
  unfold execCmdTdcRun
  repeat' first
    | (with_reducible exact Bounds.fault) | (with_reducible refine Bounds.fin ?_ (by decide +kernel))
    | (with_reducible assumption) | (with_reducible apply Within.refl) | lift_lets
    | (intro v; refine Within.cut (p := Within execCmdTdcRun_scope s v) ?_ ?_; unfold v; rotate_left; clear_value v; intro hv)
    | (intro v; clear_value v) | intro v
    | (with_reducible apply State.cmd_within; rotate_left; decide +kernel; intro u hu; try beta_reduce)
    | (with_reducible apply Within.step (State.updTdc_within ..); rotate_left; decide +kernel)
    | (with_reducible apply Within.step (State.wr_within ..); rotate_left; decide +kernel)
    | (with_reducible apply Within.step (State.arm_within ..); rotate_left; decide +kernel)
    | (with_reducible apply Within.step (State.tdcNote_within ..); rotate_left; decide +kernel)
    | (with_reducible apply Within.step (State.complete_within ..); rotate_left; decide +kernel) | split

def execCmdTdcStop_scope : Scope := ⟨[.nextOrd, .mem, .pwr, .gr, .evt, .tacc, .tdc, .cal, .twin, .out], [R.MBX_STATE,
    R.MBX_RETRY_STAT, R.MBX_GRANGE_STAT, R.FWD_VER_STAT, R.TDC_STAT, R.TDC_EVT_STAT, R.TDC_CNT, R.CAL_STAT,
    R.CAL_EVT_STAT, R.EVT_LAST_FAULT, R.EVT_STAT, R.TWN_STAT, R.PWR_MODE_CTL, R.PWR_MODE_STAT, R.PWR_RAIL_STAT,
    R.PWR_CLK_STAT, R.EVT_LASTING, R.EVT_FCNT], []⟩
theorem execCmdTdcStop_bounds (m : Fin 16) (x : Exec) (s : State) : Bounds execCmdTdcStop_scope s (execCmdTdcStop m x
    s) := by
  unfold execCmdTdcStop
  repeat' first
    | (with_reducible exact Bounds.fault) | (with_reducible refine Bounds.fin ?_ (by decide +kernel))
    | (with_reducible assumption) | (with_reducible apply Within.refl)
    | (with_reducible apply State.cmd_within; rotate_left; decide +kernel; intro u hu; try beta_reduce)
    | (with_reducible apply Within.step (State.tdcStop_within ..); rotate_left; decide +kernel)
    | (with_reducible apply Within.step (State.tdcNote_within ..); rotate_left; decide +kernel)
    | (with_reducible apply Within.step (State.complete_within ..); rotate_left; decide +kernel) | split

def execCmdTdcBinCal_scope : Scope := ⟨[.nextOrd, .mem, .pwr, .gr, .evt, .tacc, .tdc, .cal, .twin, .out],
    [R.MBX_STATE, R.MBX_RETRY_STAT, R.MBX_GRANGE_STAT, R.FWD_VER_STAT, R.TDC_STAT, R.TDC_EVT_STAT, R.TDC_CNT,
    R.CAL_STAT, R.CAL_EVT_STAT, R.EVT_LAST_FAULT, R.EVT_STAT, R.TWN_STAT, R.PWR_MODE_CTL, R.PWR_MODE_STAT,
    R.PWR_RAIL_STAT, R.PWR_CLK_STAT, R.EVT_LASTING, R.EVT_FCNT], []⟩
theorem execCmdTdcBinCal_bounds (m : Fin 16) (x : Exec) (s : State) : Bounds execCmdTdcBinCal_scope s
    (execCmdTdcBinCal m x s) := by
  unfold execCmdTdcBinCal
  repeat' first
    | (with_reducible exact Bounds.fault) | (with_reducible refine Bounds.fin ?_ (by decide +kernel))
    | (with_reducible assumption) | (with_reducible apply Within.refl)
    | (with_reducible apply State.cmd_within; rotate_left; decide +kernel; intro u hu; try beta_reduce)
    | (with_reducible apply Within.step (State.startTest_within ..); rotate_left; decide +kernel)
    | (with_reducible apply Within.step (State.running_within ..); rotate_left; decide +kernel) | split

def execBinCalDone_scope : Scope := ⟨[.nextOrd, .committed, .mem, .pwr, .gr, .evt, .tacc, .tdc, .cal, .twin, .out],
    [R.MBX_STATE, R.MBX_RETRY_STAT, R.MBX_GRANGE_STAT, R.FWD_VER_STAT, R.TDC_BIN_TEMP, R.TDC_STAT, R.TDC_EVT_STAT,
    R.CAL_STAT, R.CAL_EVT_STAT, R.EVT_LAST_FAULT, R.EVT_STAT, R.TWN_STAT, R.PWR_MODE_CTL, R.PWR_MODE_STAT,
    R.PWR_RAIL_STAT, R.PWR_CLK_STAT, R.EVT_LASTING, R.EVT_FCNT], []⟩
theorem execBinCalDone_bounds (h0 h1 : List Nat) (s : State) : Bounds execBinCalDone_scope s (execBinCalDone h0 h1 s)
    := by
  unfold execBinCalDone
  repeat' first
    | (with_reducible exact Bounds.fault) | (with_reducible refine Bounds.fin ?_ (by decide +kernel))
    | (with_reducible assumption) | (with_reducible apply Within.refl) | lift_lets
    | (intro v; refine Within.cut (p := Within execBinCalDone_scope s v) ?_ ?_; unfold v; rotate_left; clear_value v; intro hv)
    | (intro v; clear_value v) | intro v
    | (with_reducible apply Within.step (State.unitFault_within ..); rotate_left; decide +kernel)
    | (with_reducible apply Within.step (State.testOver_within ..); rotate_left; decide +kernel)
    | (with_reducible apply Within.step (State.updTdc_within ..); rotate_left; decide +kernel)
    | (with_reducible apply Within.step (State.setReg_within ..); rotate_left; decide +kernel)
    | (with_reducible apply Within.step (State.setCom_within ..); rotate_left; decide +kernel)
    | (with_reducible apply Within.step (State.transientFault_within ..); rotate_left; decide +kernel) | split

end Sys2Proof.Machine
end

