-- ==== Sys2Proof/Laws/ExecCalib.lean ====
section
/-! SUPPORT. Sys2Proof/Laws/ExecCalib.lean: what each command of Machine/Calib.lean may change. -/
set_option Elab.async false
set_option linter.unusedTactic false
set_option linter.unreachableTactic false
set_option linter.unnecessarySeqFocus false
namespace Sys2Proof.Machine

def execTrimRampStep_scope : Scope := ⟨[.nextOrd, .gr, .evt, .cal, .out], [R.MBX_GRANGE_STAT, R.FWD_VER_STAT], []⟩
theorem execTrimRampStep_bounds (k : Fin 571) (s : State) : Bounds execTrimRampStep_scope s (execTrimRampStep k s) :=
    by
  unfold execTrimRampStep
  repeat' first
    | (with_reducible exact Bounds.fault) | (with_reducible refine Bounds.fin ?_ (by decide +kernel))
    | (with_reducible assumption) | (with_reducible apply Within.refl) | lift_lets
    | (intro v; refine Within.cut (p := Within execTrimRampStep_scope s v) ?_ ?_; unfold v; rotate_left; clear_value v; intro hv)
    | (intro v; clear_value v) | intro v
    | (with_reducible apply Within.step (State.updPath_within ..); rotate_left; decide +kernel) | split

def execPathMeasured_scope : Scope := ⟨[.nextOrd, .pwr, .gr, .evt, .tacc, .tdc, .cal, .twin, .out],
    [R.MBX_GRANGE_STAT, R.FWD_VER_STAT, R.TDC_STAT, R.TDC_EVT_STAT, R.CAL_STAT, R.CAL_EVT_STAT, R.EVT_LAST_FAULT,
    R.EVT_STAT, R.TWN_STAT, R.PWR_MODE_CTL, R.PWR_MODE_STAT, R.PWR_RAIL_STAT, R.PWR_CLK_STAT, R.EVT_LASTING,
    R.EVT_FCNT], []⟩
theorem execPathMeasured_bounds (k : Fin 571) (base : Int) (noisy : Bool) (s : State) : Bounds execPathMeasured_scope
    s (execPathMeasured k base noisy s) := by
  unfold execPathMeasured
  repeat' first
    | (with_reducible exact Bounds.fault) | (with_reducible refine Bounds.fin ?_ (by decide +kernel))
    | (with_reducible assumption) | (with_reducible apply Within.refl) | lift_lets
    | (intro v; refine Within.cut (p := Within execPathMeasured_scope s v) ?_ ?_; unfold v; rotate_left; clear_value v; intro hv)
    | (intro v; clear_value v) | intro v
    | (with_reducible apply Within.step (State.transientFault_within ..); rotate_left; decide +kernel)
    | (with_reducible apply Within.step (State.measured_within ..); rotate_left; decide +kernel)
    | (with_reducible apply Within.step (State.pathDone_within ..); rotate_left; decide +kernel)
    | (with_reducible apply Within.step (State.updPath_within ..); rotate_left; decide +kernel)
    | (with_reducible apply Within.step (State.noteStale_within ..); rotate_left; decide +kernel)
    | (with_reducible apply Within.step (State.raise_within ..); rotate_left; decide +kernel)
    | (with_reducible apply Within.step (State.lastingFault_within ..); rotate_left; decide +kernel) | split

def execCalRunDone_scope : Scope := ⟨[.nextOrd, .committed, .pwr, .gr, .evt, .tacc, .cal, .twin, .out],
    [R.MBX_GRANGE_STAT, R.FWD_VER_STAT, R.TDC_STAT, R.TDC_EVT_STAT, R.CAL_LAST_TEMP, R.CAL_STAT, R.CAL_OCXO_TRIM,
    R.CAL_EVT_STAT, R.EVT_STAT, R.TWN_STAT, R.PWR_MODE_CTL, R.PWR_MODE_STAT, R.PWR_RAIL_STAT, R.PWR_CLK_STAT], []⟩
theorem execCalRunDone_bounds (s : State) : Bounds execCalRunDone_scope s (execCalRunDone s) := by
  unfold execCalRunDone
  repeat' first
    | (with_reducible exact Bounds.fault) | (with_reducible refine Bounds.fin ?_ (by decide +kernel))
    | (with_reducible assumption) | (with_reducible apply Within.refl) | lift_lets
    | (intro v; refine Within.cut (p := Within execCalRunDone_scope s v) ?_ ?_; unfold v; rotate_left; clear_value v; intro hv)
    | (intro v; clear_value v) | intro v
    | (with_reducible apply Within.step (State.updPath_within ..); rotate_left; decide +kernel)
    | (with_reducible apply Within.step (State.noteStale_within ..); rotate_left; decide +kernel)
    | (with_reducible apply Within.step (State.raise_within ..); rotate_left; decide +kernel)
    | (with_reducible apply Within.step (State.ocxoCheck_within ..); rotate_left; decide +kernel)
    | (with_reducible apply Within.step (State.setReg_within ..); rotate_left; decide +kernel)
    | (with_reducible apply Within.step (State.setCom_within ..); rotate_left; decide +kernel)
    | (with_reducible apply Within.step (State.wr_within ..); rotate_left; decide +kernel)
    | (with_reducible apply Within.step (State.updCal_within ..); rotate_left; decide +kernel)
    | (with_reducible apply Within.step (State.tdcNote_within ..); rotate_left; decide +kernel)
    | (with_reducible apply Within.step (State.plan_within ..); rotate_left; decide +kernel)
    | (with_reducible apply Within.step (State.trigger_within ..); rotate_left; decide +kernel)
    | (with_reducible apply Within.each; rotate_left; intro x a hx; try beta_reduce; rotate_left)
    | (with_reducible apply Within.foldl; rotate_left; intro x a hx; try beta_reduce; rotate_left) | split

def execOcxoRetuneStep_scope : Scope := ⟨[.nextOrd, .committed, .gr, .evt, .ref, .cal, .out], [R.MBX_GRANGE_STAT,
    R.FWD_VER_STAT, R.REF_FREQ_WORD, R.SYN_RAMP_Z, R.SYN_STAT_STEER, R.SYN_STAT, R.SYN_EVT_STAT, R.CAL_OCXO_TRIM], []⟩
theorem execOcxoRetuneStep_bounds (s : State) : Bounds execOcxoRetuneStep_scope s (execOcxoRetuneStep s) := by
  unfold execOcxoRetuneStep
  repeat' first
    | (with_reducible exact Bounds.fault) | (with_reducible refine Bounds.fin ?_ (by decide +kernel))
    | (with_reducible assumption) | (with_reducible apply Within.refl) | lift_lets
    | (intro v; refine Within.cut (p := Within execOcxoRetuneStep_scope s v) ?_ ?_; unfold v; rotate_left; clear_value v; intro hv)
    | (intro v; clear_value v) | intro v
    | (with_reducible apply Within.step (State.wr_within ..); rotate_left; decide +kernel)
    | (with_reducible apply Within.step (State.wrCom_within ..); rotate_left; decide +kernel)
    | (with_reducible apply Within.step (State.shiftW_within ..); rotate_left; decide +kernel)
    | (with_reducible apply Within.step (State.updRef_within ..); rotate_left; decide +kernel)
    | (with_reducible apply Within.step (State.updCal_within ..); rotate_left; decide +kernel) | split

def execCmdCalTrace_scope : Scope := ⟨[.nextOrd, .mem, .pwr, .gr, .evt, .tacc, .tb, .tdc, .cal, .twin, .out],
    [R.MBX_STATE, R.MBX_RETRY_STAT, R.MBX_GRANGE_STAT, R.FWD_VER_STAT, R.TDC_STAT, R.TDC_EVT_STAT, R.CAL_STAT,
    R.CAL_EVT_STAT, R.EVT_LAST_FAULT, R.EVT_STAT, R.TWN_STAT, R.PWR_MODE_CTL, R.PWR_MODE_STAT, R.PWR_RAIL_STAT,
    R.PWR_CLK_STAT, R.EVT_LASTING, R.EVT_FCNT], []⟩
theorem execCmdCalTrace_bounds (m : Fin 16) (x : Exec) (signal : Bool) (loop : Int) (s : State) : Bounds
    execCmdCalTrace_scope s (execCmdCalTrace m x signal loop s) := by
  unfold execCmdCalTrace
  repeat' first
    | (with_reducible exact Bounds.fault) | (with_reducible refine Bounds.fin ?_ (by decide +kernel))
    | (with_reducible assumption) | (with_reducible apply Within.refl)
    | (with_reducible apply State.cmd_within; rotate_left; decide +kernel; intro u hu; try beta_reduce)
    | (with_reducible apply Within.step (State.startTrace_within ..); rotate_left; decide +kernel) | split

def execCmdCalFreq_scope : Scope := ⟨[.nextOrd, .mem, .pwr, .gr, .evt, .tacc, .tdc, .cal, .twin, .out], [R.MBX_STATE,
    R.MBX_RETRY_STAT, R.MBX_GRANGE_STAT, R.FWD_VER_STAT, R.TDC_STAT, R.TDC_EVT_STAT, R.CAL_STAT, R.CAL_EVT_STAT,
    R.EVT_LAST_FAULT, R.EVT_STAT, R.TWN_STAT, R.PWR_MODE_CTL, R.PWR_MODE_STAT, R.PWR_RAIL_STAT, R.PWR_CLK_STAT,
    R.EVT_LASTING, R.EVT_FCNT], []⟩
theorem execCmdCalFreq_bounds (m : Fin 16) (x : Exec) (signal : Bool) (s : State) : Bounds execCmdCalFreq_scope s
    (execCmdCalFreq m x signal s) := by
  unfold execCmdCalFreq
  repeat' first
    | (with_reducible exact Bounds.fault) | (with_reducible refine Bounds.fin ?_ (by decide +kernel))
    | (with_reducible assumption) | (with_reducible apply Within.refl)
    | (with_reducible apply State.cmd_within; rotate_left; decide +kernel; intro u hu; try beta_reduce)
    | (with_reducible apply Within.step (State.running_within ..); rotate_left; decide +kernel) | split

def execCalFreqIntervalEnd_scope : Scope := ⟨[.nextOrd, .mem, .gr, .evt, .out], [R.MBX_STATE, R.MBX_RETRY_STAT,
    R.MBX_GRANGE_STAT, R.FWD_VER_STAT, R.CAL_EVT_STAT, R.EVT_STAT, R.EVT_FCNT], []⟩
theorem execCalFreqIntervalEnd_bounds (m : Fin 16) (err : Int) (s : State) : Bounds execCalFreqIntervalEnd_scope s
    (execCalFreqIntervalEnd m err s) := by
  unfold execCalFreqIntervalEnd
  repeat' first
    | (with_reducible exact Bounds.fault) | (with_reducible refine Bounds.fin ?_ (by decide +kernel))
    | (with_reducible assumption) | (with_reducible apply Within.refl)
    | (with_reducible apply Within.step (State.raise_within ..); rotate_left; decide +kernel)
    | (with_reducible apply Within.step (State.complete_within ..); rotate_left; decide +kernel) | split

end Sys2Proof.Machine
end

