-- ==== Sys2Proof/Laws/ExecForward.lean ====
section
/-! SUPPORT. Sys2Proof/Laws/ExecForward.lean: what each command of Machine/Forward.lean may change. -/
set_option Elab.async false
set_option linter.unusedTactic false
set_option linter.unreachableTactic false
set_option linter.unnecessarySeqFocus false
namespace Sys2Proof.Machine

def execPipelineFrame_scope : Scope := ⟨[.nextOrd, .gr, .evt, .tacc, .ports, .fwd, .grn, .alm, .out],
    [R.MBX_GRANGE_STAT, R.FWD_VER_STAT, R.GRN_POOL_STAT, R.GRN_EVT_STAT, R.ALM_EVT_STAT, R.ALM_EVT_SRC, R.EVT_STAT],
    []⟩
theorem execPipelineFrame_bounds (k : Fin 16) (s : State) : Bounds execPipelineFrame_scope s (execPipelineFrame k s)
    := by
  unfold execPipelineFrame
  repeat' first
    | (with_reducible exact Bounds.fault) | (with_reducible refine Bounds.fin ?_ (by decide +kernel))
    | (with_reducible assumption) | (with_reducible apply Within.refl) | lift_lets
    | (intro v; refine Within.cut (p := Within execPipelineFrame_scope s v) ?_ ?_; unfold v; rotate_left; clear_value v; intro hv)
    | (intro v; clear_value v) | intro v
    | (with_reducible apply Within.step (State.updFwd_within ..); rotate_left; decide +kernel)
    | (with_reducible apply Within.step (State.count_within ..); rotate_left; decide +kernel)
    | (with_reducible apply Within.step (State.classify_within ..); rotate_left; decide +kernel) | split

def execBucketReadDone_scope : Scope := ⟨[.nextOrd, .gr, .evt, .tacc, .ports, .fwd, .grn, .alm, .out],
    [R.MBX_GRANGE_STAT, R.FWD_VER_STAT, R.GRN_POOL_STAT, R.GRN_EVT_STAT, R.ALM_EVT_STAT, R.ALM_EVT_SRC, R.EVT_STAT],
    []⟩
theorem execBucketReadDone_bounds (k : Fin 16) (s : State) : Bounds execBucketReadDone_scope s (execBucketReadDone k
    s) := by
  unfold execBucketReadDone
  repeat' first
    | (with_reducible exact Bounds.fault) | (with_reducible refine Bounds.fin ?_ (by decide +kernel))
    | (with_reducible assumption) | (with_reducible apply Within.refl) | split | lift_lets
    | (intro v; refine Within.cut (p := Within execBucketReadDone_scope s v) ?_ ?_; unfold v; rotate_left; clear_value v; intro hv)
    | (intro v; clear_value v) | intro v
    | (with_reducible apply Within.step (State.cacheBucket_within ..); rotate_left; decide +kernel)
    | (with_reducible apply Within.step (State.updFwd_within ..); rotate_left; decide +kernel)
    | (with_reducible apply Within.step (State.classify_within ..); rotate_left; decide +kernel)
    | (with_reducible apply Within.each; rotate_left; intro x a hx; try beta_reduce; rotate_left)
    | (with_reducible apply Within.foldl; rotate_left; intro x a hx; try beta_reduce; rotate_left) | split

def execPlaneCrossing_scope : Scope := ⟨[.nextOrd, .gr, .evt, .tacc, .ports, .fwd, .grn, .alm, .out],
    [R.MBX_GRANGE_STAT, R.FWD_VER_STAT, R.GRN_POOL_STAT, R.GRN_EVT_STAT, R.ALM_EVT_STAT, R.ALM_EVT_SRC, R.EVT_STAT],
    []⟩
theorem execPlaneCrossing_bounds (j : Fin 4) (s : State) : Bounds execPlaneCrossing_scope s (execPlaneCrossing j s) :=
    by
  unfold execPlaneCrossing
  repeat' first
    | (with_reducible exact Bounds.fault) | (with_reducible refine Bounds.fin ?_ (by decide +kernel))
    | (with_reducible assumption) | (with_reducible apply Within.refl) | lift_lets
    | (intro v; refine Within.cut (p := Within execPlaneCrossing_scope s v) ?_ ?_; unfold v; rotate_left; clear_value v; intro hv)
    | (intro v; clear_value v) | intro v
    | (with_reducible apply Within.step (State.updFwd_within ..); rotate_left; decide +kernel)
    | (with_reducible apply Within.step (State.cross_within ..); rotate_left; decide +kernel)
    | (with_reducible apply Within.each; rotate_left; intro x a hx; try beta_reduce; rotate_left)
    | (with_reducible apply Within.foldl; rotate_left; intro x a hx; try beta_reduce; rotate_left) | split

def execPlaneDrainEnd_scope : Scope := ⟨[.nextOrd, .pwr, .gr, .evt, .fwd, .out], [R.MBX_GRANGE_STAT, R.FWD_STAT,
    R.FWD_VER_STAT, R.FWD_EVT_STAT], []⟩
theorem execPlaneDrainEnd_bounds (s : State) : Bounds execPlaneDrainEnd_scope s (execPlaneDrainEnd s) := by
  unfold execPlaneDrainEnd
  repeat' first
    | (with_reducible exact Bounds.fault) | (with_reducible refine Bounds.fin ?_ (by decide +kernel))
    | (with_reducible assumption) | (with_reducible apply Within.refl)
    | (with_reducible apply Within.step (State.pastCut_within ..); rotate_left; decide +kernel)
    | (with_reducible apply Within.step (State.raise_within ..); rotate_left; decide +kernel)
    | (with_reducible apply Within.step (State.updFwd_within ..); rotate_left; decide +kernel)
    | (with_reducible apply Within.step (State.wr_within ..); rotate_left; decide +kernel) | split

def execReaperVisit_scope : Scope := ⟨[.nextOrd, .gr, .evt, .tacc, .ports, .fwd, .grn, .out], [R.MBX_GRANGE_STAT,
    R.FWD_VER_STAT, R.GRN_POOL_STAT, R.GRN_SILO_STAT, R.GRN_EVT_STAT, R.EVT_STAT], []⟩
theorem execReaperVisit_bounds (s : State) : Bounds execReaperVisit_scope s (execReaperVisit s) := by
  unfold execReaperVisit
  repeat' first
    | (with_reducible exact Bounds.fault) | (with_reducible refine Bounds.fin ?_ (by decide +kernel))
    | (with_reducible assumption) | (with_reducible apply Within.refl) | lift_lets
    | (intro v; refine Within.cut (p := Within execReaperVisit_scope s v) ?_ ?_; unfold v; rotate_left; clear_value v; intro hv)
    | (intro v; clear_value v) | intro v
    | (with_reducible apply Within.step (State.reapIngress_within ..); rotate_left; decide +kernel)
    | (with_reducible apply Within.step (State.reapQueue_within ..); rotate_left; decide +kernel)
    | (with_reducible apply Within.each; rotate_left; intro x a hx; try beta_reduce; rotate_left)
    | (with_reducible apply Within.foldl; rotate_left; intro x a hx; try beta_reduce; rotate_left) | split

def execLinkHoldExpiry_scope : Scope := ⟨[.nextOrd, .pwr, .gr, .evt, .tacc, .ports, .fwd, .grn, .out],
    [R.MBX_GRANGE_STAT, R.FWD_VER_STAT, R.FWD_EVT_STAT, R.FWD_EGR_STAT, R.GRN_POOL_STAT, R.GRN_SILO_STAT,
    R.GRN_EVT_STAT, R.EVT_STAT], []⟩
theorem execLinkHoldExpiry_bounds (e : Fin 288) (s : State) : Bounds execLinkHoldExpiry_scope s (execLinkHoldExpiry e
    s) := by
  unfold execLinkHoldExpiry
  repeat' first
    | (with_reducible exact Bounds.fault) | (with_reducible refine Bounds.fin ?_ (by decide +kernel))
    | (with_reducible assumption) | (with_reducible apply Within.refl)
    | (with_reducible apply Within.step (State.enterDrop_within ..); rotate_left; decide +kernel)
    | (with_reducible apply Within.step (State.pastCut_within ..); rotate_left; decide +kernel)
    | (with_reducible apply Within.step (State.raise_within ..); rotate_left; decide +kernel) | split

def execCmdFwdCountersRead_scope : Scope := ⟨[.nextOrd, .mem, .pwr, .gr, .evt, .tally, .tacc, .tdc, .cal, .twin,
    .out], [R.MBX_STATE, R.MBX_RETRY_STAT, R.MBX_GRANGE_STAT, R.FWD_VER_STAT, R.TDC_STAT, R.TDC_EVT_STAT, R.CAL_STAT,
    R.CAL_EVT_STAT, R.EVT_LAST_FAULT, R.EVT_STAT, R.TWN_STAT, R.PWR_MODE_CTL, R.PWR_MODE_STAT, R.PWR_RAIL_STAT,
    R.PWR_CLK_STAT, R.EVT_LASTING, R.EVT_FCNT], []⟩
theorem execCmdFwdCountersRead_bounds (m : Fin 16) (x : Exec) (s : State) : Bounds execCmdFwdCountersRead_scope s
    (execCmdFwdCountersRead m x s) := by
  unfold execCmdFwdCountersRead
  repeat' first
    | (with_reducible exact Bounds.fault) | (with_reducible refine Bounds.fin ?_ (by decide +kernel))
    | (with_reducible assumption) | (with_reducible apply Within.refl) | lift_lets
    | (intro v; refine Within.cut (p := Within execCmdFwdCountersRead_scope s v) ?_ ?_; unfold v; rotate_left; clear_value v; intro hv)
    | (intro v; clear_value v) | intro v
    | (with_reducible apply State.cmd_within; rotate_left; decide +kernel; intro u hu; try beta_reduce)
    | (with_reducible apply Within.step (State.readSlots_within ..); rotate_left; decide +kernel) | split

def execCmdFwdQueueStat_scope : Scope := ⟨[.nextOrd, .mem, .pwr, .gr, .evt, .tacc, .tdc, .cal, .twin, .out],
    [R.MBX_STATE, R.MBX_RETRY_STAT, R.MBX_GRANGE_STAT, R.FWD_VER_STAT, R.TDC_STAT, R.TDC_EVT_STAT, R.CAL_STAT,
    R.CAL_EVT_STAT, R.EVT_LAST_FAULT, R.EVT_STAT, R.TWN_STAT, R.PWR_MODE_CTL, R.PWR_MODE_STAT, R.PWR_RAIL_STAT,
    R.PWR_CLK_STAT, R.EVT_LASTING, R.EVT_FCNT], []⟩
theorem execCmdFwdQueueStat_bounds (m : Fin 16) (x : Exec) (s : State) : Bounds execCmdFwdQueueStat_scope s
    (execCmdFwdQueueStat m x s) := by
  unfold execCmdFwdQueueStat
  repeat' first
    | (with_reducible exact Bounds.fault) | (with_reducible refine Bounds.fin ?_ (by decide +kernel))
    | (with_reducible assumption) | (with_reducible apply Within.refl)
    | (with_reducible apply State.cmd_within; rotate_left; decide +kernel; intro u hu; try beta_reduce)
    | (with_reducible apply Within.step (State.complete_within ..); rotate_left; decide +kernel) | split

def execCmdFwdFlush_scope : Scope := ⟨[.nextOrd, .mem, .pwr, .gr, .evt, .tacc, .ports, .fwd, .grn, .tdc, .cal, .twin,
    .out], [R.MBX_STATE, R.MBX_RETRY_STAT, R.MBX_GRANGE_STAT, R.FWD_VER_STAT, R.GRN_POOL_STAT, R.GRN_SILO_STAT,
    R.GRN_EVT_STAT, R.TDC_STAT, R.TDC_EVT_STAT, R.CAL_STAT, R.CAL_EVT_STAT, R.EVT_LAST_FAULT, R.EVT_STAT, R.TWN_STAT,
    R.TWN_TXN_STAT, R.PWR_MODE_CTL, R.PWR_MODE_STAT, R.PWR_RAIL_STAT, R.PWR_CLK_STAT, R.EVT_LASTING, R.EVT_FCNT], []⟩
theorem execCmdFwdFlush_bounds (m : Fin 16) (x : Exec) (s : State) : Bounds execCmdFwdFlush_scope s (execCmdFwdFlush m
    x s) := by
  unfold execCmdFwdFlush
  repeat' first
    | (with_reducible exact Bounds.fault) | (with_reducible refine Bounds.fin ?_ (by decide +kernel))
    | (with_reducible assumption) | (with_reducible apply Within.refl)
    | (with_reducible apply State.cmd_within; rotate_left; decide +kernel; intro u hu; try beta_reduce)
    | (with_reducible apply Within.step (State.hostFlush_within ..); rotate_left; decide +kernel)
    | (with_reducible apply Within.step (State.mirrorCmd_within ..); rotate_left; decide +kernel)
    | (with_reducible apply Within.step (State.complete_within ..); rotate_left; decide +kernel) | split

end Sys2Proof.Machine
end

