-- ==== Sys2Proof/Laws/ExecMac.lean ====
section
/-! SUPPORT. Sys2Proof/Laws/ExecMac.lean: what each command of Machine/Mac.lean may change. -/
set_option Elab.async false
set_option linter.unusedTactic false
set_option linter.unreachableTactic false
set_option linter.unnecessarySeqFocus false
namespace Sys2Proof.Machine

def execPauseTakesEffect_scope : Scope := ⟨[.nextOrd, .gr, .evt, .ports, .out], [R.MBX_GRANGE_STAT, R.FWD_VER_STAT],
    []⟩
theorem execPauseTakesEffect_bounds (p : Fin 256) (s : State) : Bounds execPauseTakesEffect_scope s
    (execPauseTakesEffect p s) := by
  unfold execPauseTakesEffect
  repeat' first
    | (with_reducible exact Bounds.fault) | (with_reducible refine Bounds.fin ?_ (by decide +kernel))
    | (with_reducible assumption) | (with_reducible apply Within.refl)
    | (with_reducible apply Within.step (State.updPort_within ..); rotate_left; decide +kernel) | split

def execPauseTimerExpiry_scope : Scope := ⟨[.nextOrd, .gr, .evt, .ports, .out], [R.MBX_GRANGE_STAT, R.PRT_STAT,
    R.FWD_VER_STAT], []⟩
theorem execPauseTimerExpiry_bounds (p : Fin 256) (c : Fin 8) (s : State) : Bounds execPauseTimerExpiry_scope s
    (execPauseTimerExpiry p c s) := by
  unfold execPauseTimerExpiry
  repeat' first
    | (with_reducible exact Bounds.fault) | (with_reducible refine Bounds.fin ?_ (by decide +kernel))
    | (with_reducible assumption) | (with_reducible apply Within.refl)
    | (with_reducible apply Within.step (State.updPort_within ..); rotate_left; decide +kernel)
    | (with_reducible apply Within.step (State.notePaused_within ..); rotate_left; decide +kernel) | split

def execPfcFrameSend_scope : Scope := ⟨[.nextOrd, .gr, .evt, .tacc, .ports, .out], [R.MBX_GRANGE_STAT, R.PRT_STAT,
    R.FWD_VER_STAT, R.EVT_STAT], []⟩
theorem execPfcFrameSend_bounds (p : Fin 256) (s : State) : Bounds execPfcFrameSend_scope s (execPfcFrameSend p s) :=
    by
  unfold execPfcFrameSend
  repeat' first
    | (with_reducible exact Bounds.fault) | (with_reducible refine Bounds.fin ?_ (by decide +kernel))
    | (with_reducible assumption) | (with_reducible apply Within.refl)
    | (with_reducible apply Within.step (State.splitTx_within ..); rotate_left; decide +kernel)
    | (with_reducible apply Within.step (State.sendPfc_within ..); rotate_left; decide +kernel) | split

def execPfcRepeat_scope : Scope := ⟨[.nextOrd, .gr, .evt, .tacc, .ports, .out], [R.MBX_GRANGE_STAT, R.PRT_STAT,
    R.FWD_VER_STAT, R.EVT_STAT], []⟩
theorem execPfcRepeat_bounds (p : Fin 256) (s : State) : Bounds execPfcRepeat_scope s (execPfcRepeat p s) := by
  unfold execPfcRepeat
  repeat' first
    | (with_reducible exact Bounds.fault) | (with_reducible refine Bounds.fin ?_ (by decide +kernel))
    | (with_reducible assumption) | (with_reducible apply Within.refl)
    | (with_reducible apply Within.step (State.splitTx_within ..); rotate_left; decide +kernel)
    | (with_reducible apply Within.step (State.sendPfc_within ..); rotate_left; decide +kernel)
    | (with_reducible apply Within.step (State.updPort_within ..); rotate_left; decide +kernel) | split

def execVerifyTimeout_scope : Scope := ⟨[.nextOrd, .gr, .evt, .ports, .out], [R.MBX_GRANGE_STAT, R.PRT_EVT_STAT,
    R.FWD_VER_STAT], []⟩
theorem execVerifyTimeout_bounds (p : Fin 256) (s : State) : Bounds execVerifyTimeout_scope s (execVerifyTimeout p s)
    := by
  unfold execVerifyTimeout
  repeat' first
    | (with_reducible exact Bounds.fault) | (with_reducible refine Bounds.fin ?_ (by decide +kernel))
    | (with_reducible assumption) | (with_reducible apply Within.refl) | lift_lets
    | (intro v; refine Within.cut (p := Within execVerifyTimeout_scope s v) ?_ ?_; unfold v; rotate_left; clear_value v; intro hv)
    | (intro v; clear_value v) | intro v
    | (with_reducible apply Within.step (State.updPort_within ..); rotate_left; decide +kernel)
    | (with_reducible apply Within.step (State.raise_within ..); rotate_left; decide +kernel)
    | (with_reducible apply Within.step (State.macSend_within ..); rotate_left; decide +kernel) | split

def execEgressFrameStart_scope : Scope := ⟨[.nextOrd, .gr, .evt, .tacc, .ports, .fwd, .grn, .out], [R.MBX_GRANGE_STAT,
    R.FWD_VER_STAT, R.GRN_POOL_STAT, R.GRN_SILO_STAT, R.GRN_EVT_STAT, R.EVT_STAT], []⟩
theorem execEgressFrameStart_bounds (p : Fin 256) (dep : Inst) (s : State) : Bounds execEgressFrameStart_scope s
    (execEgressFrameStart p dep s) := by
  unfold execEgressFrameStart
  repeat' first
    | (with_reducible exact Bounds.fault) | (with_reducible refine Bounds.fin ?_ (by decide +kernel))
    | (with_reducible assumption) | (with_reducible apply Within.refl) | lift_lets
    | (intro v; refine Within.cut (p := Within execEgressFrameStart_scope s v) ?_ ?_; unfold v; rotate_left; clear_value v; intro hv)
    | (intro v; clear_value v) | intro v
    | (with_reducible apply Within.step (State.reapHeads_within ..); rotate_left; decide +kernel)
    | (with_reducible apply Within.step (State.updPort_within ..); rotate_left; decide +kernel)
    | (with_reducible apply Within.step (State.startTx_within ..); rotate_left; decide +kernel)
    | (with_reducible apply Within.each; rotate_left; intro x a hx; try beta_reduce; rotate_left)
    | (with_reducible apply Within.foldl; rotate_left; intro x a hx; try beta_reduce; rotate_left) | split

def execReceiveFrame_scope : Scope := ⟨[.nextOrd, .nextFrame, .gr, .evt, .tacc, .ports, .fwd, .grn, .tb, .out],
    [R.MBX_GRANGE_STAT, R.PRT_STAT, R.FWD_VER_STAT, R.GRN_POOL_STAT, R.GRN_EVT_STAT, R.EVT_STAT], []⟩
theorem execReceiveFrame_bounds (p : Fin 256) (k : RxKind) (bytes : List Byte) (codeErr cut : Bool) (i : Inst) (s :
    State) : Bounds execReceiveFrame_scope s (execReceiveFrame p k bytes codeErr cut i s) := by
  unfold execReceiveFrame
  repeat' first
    | (with_reducible exact Bounds.fault) | (with_reducible refine Bounds.fin ?_ (by decide +kernel))
    | (with_reducible assumption) | (with_reducible apply Within.refl) | lift_lets
    | (intro v; refine Within.cut (p := Within execReceiveFrame_scope s v) ?_ ?_; unfold v; rotate_left; clear_value v; intro hv)
    | (intro v; clear_value v) | intro v
    | (with_reducible apply Within.step (State.echo_within ..); rotate_left; decide +kernel)
    | (with_reducible apply Within.step (State.updPort_within ..); rotate_left; decide +kernel)
    | (with_reducible apply Within.step (State.join_within (h := ?h)); (case h => assumption); rotate_left; decide +kernel)
    | (with_reducible apply Within.step (State.rxEnd_within ..); rotate_left; decide +kernel)
    | (with_reducible apply Within.step (State.macSend_within ..); rotate_left; decide +kernel)
    | (with_reducible apply Within.step (State.wr_within ..); rotate_left; decide +kernel)
    | (with_reducible apply Within.step (State.join_snd ..); rotate_left; decide +kernel) | split

def execReceiveFragment_scope : Scope := ⟨[.nextOrd, .nextFrame, .gr, .evt, .tacc, .ports, .fwd, .grn, .tb, .out],
    [R.MBX_GRANGE_STAT, R.PRT_STAT, R.FWD_VER_STAT, R.GRN_POOL_STAT, R.GRN_EVT_STAT, R.EVT_STAT], []⟩
theorem execReceiveFragment_bounds (p : Fin 256) (k : FragKind) (last : Bool) (bytes : List Byte) (mcrcOk codeErr :
    Bool) (i : Inst) (s : State) : Bounds execReceiveFragment_scope s (execReceiveFragment p k last bytes mcrcOk
    codeErr i s) := by
  unfold execReceiveFragment
  repeat' first
    | (with_reducible exact Bounds.fault) | (with_reducible refine Bounds.fin ?_ (by decide +kernel))
    | (with_reducible assumption) | (with_reducible apply Within.refl) | lift_lets
    | (intro v; refine Within.cut (p := Within execReceiveFragment_scope s v) ?_ ?_; unfold v; rotate_left; clear_value v; intro hv)
    | (intro v; clear_value v) | intro v
    | (with_reducible apply Within.step (State.echo_within ..); rotate_left; decide +kernel)
    | (with_reducible apply Within.step (State.count_within ..); rotate_left; decide +kernel)
    | (with_reducible apply Within.step (State.updPort_within ..); rotate_left; decide +kernel)
    | (with_reducible apply Within.step (State.dropAssy_within ..); rotate_left; decide +kernel)
    | (with_reducible apply Within.step (State.join_within (h := ?h)); (case h => assumption); rotate_left; decide +kernel)
    | (with_reducible apply Within.step (State.assemble_within ..); rotate_left; decide +kernel)
    | (with_reducible apply Within.step (State.join_snd ..); rotate_left; decide +kernel) | split

end Sys2Proof.Machine
end

