-- ==== Sys2Proof/Laws/ExecPorts.lean ====
section
/-! SUPPORT. Sys2Proof/Laws/ExecPorts.lean: what each command of Machine/Ports.lean may change. -/
set_option Elab.async false
set_option linter.unusedTactic false
set_option linter.unreachableTactic false
set_option linter.unnecessarySeqFocus false
namespace Sys2Proof.Machine

def execAlignLock_scope : Scope := ⟨[.nextOrd, .gr, .evt, .tacc, .ports, .fwd, .cal, .out], [R.MBX_GRANGE_STAT,
    R.PRT_STAT, R.PRT_EVT_STAT, R.FWD_VER_STAT, R.FWD_EGR_STAT, R.EVT_STAT, R.EVT_FCNT], []⟩
theorem execAlignLock_bounds (p : Fin 256) (localF remoteF : Bool) (s : State) : Bounds execAlignLock_scope s
    (execAlignLock p localF remoteF s) := by
  unfold execAlignLock
  repeat' first
    | (with_reducible exact Bounds.fault) | (with_reducible refine Bounds.fin ?_ (by decide +kernel))
    | (with_reducible assumption) | (with_reducible apply Within.refl)
    | (with_reducible apply Within.step (State.alignLock_within ..); rotate_left; decide +kernel)
    | (with_reducible apply Within.step (State.dueLanes_within ..); rotate_left; decide +kernel)
    | (with_reducible apply Within.step (State.noteLine_within ..); rotate_left; decide +kernel) | split

def execAttemptTimeout_scope : Scope := ⟨[.nextOrd, .pwr, .gr, .evt, .tacc, .ports, .tdc, .cal, .twin, .out],
    [R.MBX_GRANGE_STAT, R.PRT_STAT, R.PRT_EVT_STAT, R.FWD_VER_STAT, R.TDC_STAT, R.TDC_EVT_STAT, R.CAL_STAT,
    R.CAL_EVT_STAT, R.EVT_LAST_FAULT, R.EVT_STAT, R.TWN_STAT, R.PWR_MODE_CTL, R.PWR_MODE_STAT, R.PWR_RAIL_STAT,
    R.PWR_CLK_STAT, R.EVT_LASTING, R.EVT_FCNT], []⟩
theorem execAttemptTimeout_bounds (p : Fin 256) (s : State) : Bounds execAttemptTimeout_scope s (execAttemptTimeout p
    s) := by
  unfold execAttemptTimeout
  repeat' first
    | (with_reducible exact Bounds.fault) | (with_reducible refine Bounds.fin ?_ (by decide +kernel))
    | (with_reducible assumption) | (with_reducible apply Within.refl) | lift_lets
    | (intro v; refine Within.cut (p := Within execAttemptTimeout_scope s v) ?_ ?_; unfold v; rotate_left; clear_value v; intro hv)
    | (intro v; clear_value v) | intro v
    | (with_reducible apply Within.step (State.pastCut_within ..); rotate_left; decide +kernel)
    | (with_reducible apply Within.step (State.raise_within ..); rotate_left; decide +kernel)
    | (with_reducible apply Within.step (State.lastingFault_within ..); rotate_left; decide +kernel)
    | (with_reducible apply Within.step (State.updPort_within ..); rotate_left; decide +kernel)
    | (with_reducible apply Within.step (State.wr_within ..); rotate_left; decide +kernel)
    | (with_reducible apply Within.step (State.setLink_within ..); rotate_left; decide +kernel)
    | (with_reducible apply Within.step (State.noteLine_within ..); rotate_left; decide +kernel)
    | (with_reducible apply Within.step (State.portTimer_within ..); rotate_left; decide +kernel) | split

def execUpDebounceExpiry_scope : Scope := ⟨[.nextOrd, .pwr, .gr, .evt, .tacc, .ports, .fwd, .out], [R.MBX_GRANGE_STAT,
    R.PRT_STAT, R.PRT_EVT_STAT, R.FWD_VER_STAT, R.FWD_EGR_STAT, R.EVT_STAT], []⟩
theorem execUpDebounceExpiry_bounds (p : Fin 256) (s : State) : Bounds execUpDebounceExpiry_scope s
    (execUpDebounceExpiry p s) := by
  unfold execUpDebounceExpiry
  repeat' first
    | (with_reducible exact Bounds.fault) | (with_reducible refine Bounds.fin ?_ (by decide +kernel))
    | (with_reducible assumption) | (with_reducible apply Within.refl)
    | (with_reducible apply Within.step (State.goUp_within ..); rotate_left; decide +kernel)
    | (with_reducible apply Within.step (State.pastCut_within ..); rotate_left; decide +kernel)
    | (with_reducible apply Within.step (State.raise_within ..); rotate_left; decide +kernel) | split

def execPortLinkFault_scope : Scope := ⟨[.nextOrd, .nextFrame, .gr, .evt, .tacc, .ports, .fwd, .grn, .tb, .out],
    [R.MBX_GRANGE_STAT, R.PRT_STAT, R.PRT_EVT_STAT, R.FWD_VER_STAT, R.FWD_EVT_STAT, R.FWD_EGR_STAT, R.GRN_POOL_STAT,
    R.GRN_SILO_STAT, R.GRN_EVT_STAT, R.EVT_STAT, R.EVT_FCNT], []⟩
theorem execPortLinkFault_bounds (p : Fin 256) (sig lock loc rem : Bool) (s : State) : Bounds execPortLinkFault_scope
    s (execPortLinkFault p sig lock loc rem s) := by
  unfold execPortLinkFault
  repeat' first
    | (with_reducible exact Bounds.fault) | (with_reducible refine Bounds.fin ?_ (by decide +kernel))
    | (with_reducible assumption) | (with_reducible apply Within.refl) | lift_lets
    | (intro v; refine Within.cut (p := Within execPortLinkFault_scope s v) ?_ ?_; unfold v; rotate_left; clear_value v; intro hv)
    | (intro v; clear_value v) | intro v
    | (with_reducible apply Within.step (State.linkFault_within ..); rotate_left; decide +kernel)
    | (with_reducible apply Within.step (State.noteLine_within ..); rotate_left; decide +kernel) | split

def execGlitch_scope : Scope := ⟨[.nextOrd, .pwr, .gr, .evt, .ports, .out], [R.MBX_GRANGE_STAT, R.PRT_STAT,
    R.PRT_EVT_STAT, R.FWD_VER_STAT], []⟩
theorem execGlitch_bounds (p : Fin 256) (s : State) : Bounds execGlitch_scope s (execGlitch p s) := by
  unfold execGlitch
  repeat' first
    | (with_reducible exact Bounds.fault) | (with_reducible refine Bounds.fin ?_ (by decide +kernel))
    | (with_reducible assumption) | (with_reducible apply Within.refl) | lift_lets
    | (intro v; refine Within.cut (p := Within execGlitch_scope s v) ?_ ?_; unfold v; rotate_left; clear_value v; intro hv)
    | (intro v; clear_value v) | intro v
    | (with_reducible apply Within.step (State.setLink_within ..); rotate_left; decide +kernel)
    | (with_reducible apply Within.step (State.updPort_within ..); rotate_left; decide +kernel)
    | (with_reducible apply Within.step (State.wr_within ..); rotate_left; decide +kernel)
    | (with_reducible apply Within.step (State.raise_within ..); rotate_left; decide +kernel)
    | (with_reducible apply Within.step (State.frameEdge_within ..); rotate_left; decide +kernel)
    | (with_reducible apply Within.step (State.noteLine_within ..); rotate_left; decide +kernel)
    | (with_reducible apply Within.step (State.pastCut_within ..); rotate_left; decide +kernel) | split

def execDownDebounceExpiry_scope : Scope := ⟨[.nextOrd, .pwr, .gr, .evt, .tacc, .ports, .fwd, .grn, .out],
    [R.MBX_GRANGE_STAT, R.PRT_STAT, R.PRT_EVT_STAT, R.FWD_VER_STAT, R.FWD_EVT_STAT, R.FWD_EGR_STAT, R.GRN_POOL_STAT,
    R.GRN_SILO_STAT, R.GRN_EVT_STAT, R.EVT_STAT], []⟩
theorem execDownDebounceExpiry_bounds (p : Fin 256) (s : State) : Bounds execDownDebounceExpiry_scope s
    (execDownDebounceExpiry p s) := by
  unfold execDownDebounceExpiry
  repeat' first
    | (with_reducible exact Bounds.fault) | (with_reducible refine Bounds.fin ?_ (by decide +kernel))
    | (with_reducible assumption) | (with_reducible apply Within.refl)
    | (with_reducible apply Within.step (State.debounced_within ..); rotate_left; decide +kernel)
    | (with_reducible apply Within.step (State.noteLine_within ..); rotate_left; decide +kernel)
    | (with_reducible apply Within.step (State.portDown_within ..); rotate_left; decide +kernel)
    | (with_reducible apply Within.step (State.pastCut_within ..); rotate_left; decide +kernel)
    | (with_reducible apply Within.step (State.raise_within ..); rotate_left; decide +kernel) | split

def execFecDegradeWindow_scope : Scope := ⟨[.nextOrd, .pwr, .gr, .evt, .tacc, .out], [R.MBX_GRANGE_STAT,
    R.PRT_EVT_STAT, R.FWD_VER_STAT, R.EVT_STAT], []⟩
theorem execFecDegradeWindow_bounds (p : Fin 256) (c : FecCounts) (s : State) : Bounds execFecDegradeWindow_scope s
    (execFecDegradeWindow p c s) := by
  unfold execFecDegradeWindow
  repeat' first
    | (with_reducible exact Bounds.fault) | (with_reducible refine Bounds.fin ?_ (by decide +kernel))
    | (with_reducible assumption) | (with_reducible apply Within.refl) | lift_lets
    | (intro v; refine Within.cut (p := Within execFecDegradeWindow_scope s v) ?_ ?_; unfold v; rotate_left; clear_value v; intro hv)
    | (intro v; clear_value v) | intro v
    | (with_reducible apply Within.step (State.pastCut_within ..); rotate_left; decide +kernel)
    | (with_reducible apply Within.step (State.raise_within ..); rotate_left; decide +kernel)
    | (with_reducible apply Within.step (State.count_within ..); rotate_left; decide +kernel) | split

def execOptIntEdge_scope : Scope := ⟨[.nextOrd, .pwr, .gr, .evt, .out], [R.MBX_GRANGE_STAT, R.PRT_OPT_STAT,
    R.FWD_VER_STAT], []⟩
theorem execOptIntEdge_bounds (bus : Fin 16) (low : Bool) (s : State) : Bounds execOptIntEdge_scope s (execOptIntEdge
    bus low s) := by
  unfold execOptIntEdge
  repeat' first
    | (with_reducible exact Bounds.fault) | (with_reducible refine Bounds.fin ?_ (by decide +kernel))
    | (with_reducible assumption) | (with_reducible apply Within.refl) | lift_lets
    | (intro v; refine Within.cut (p := Within execOptIntEdge_scope s v) ?_ ?_; unfold v; rotate_left; clear_value v; intro hv)
    | (intro v; clear_value v) | intro v
    | (with_reducible apply Within.step (State.updPwr_within ..); rotate_left; decide +kernel)
    | (with_reducible apply Within.step (State.wr_within ..); rotate_left; decide +kernel) | split

def execTallyFold_scope : Scope := ⟨[.nextOrd, .gr, .evt, .tally, .tacc, .out], [R.MBX_GRANGE_STAT, R.FWD_VER_STAT],
    []⟩
theorem execTallyFold_bounds (s : State) : Bounds execTallyFold_scope s (execTallyFold s) := by
  unfold execTallyFold
  repeat' first
    | (with_reducible exact Bounds.fault) | (with_reducible refine Bounds.fin ?_ (by decide +kernel))
    | (with_reducible assumption) | (with_reducible apply Within.refl)
    | (with_reducible apply Within.step (State.fold_within ..); rotate_left; decide +kernel) | split

def execCmdPrtCountersRead_scope : Scope := ⟨[.nextOrd, .mem, .pwr, .gr, .evt, .tally, .tacc, .tdc, .cal, .twin,
    .out], [R.MBX_STATE, R.MBX_RETRY_STAT, R.MBX_GRANGE_STAT, R.FWD_VER_STAT, R.TDC_STAT, R.TDC_EVT_STAT, R.CAL_STAT,
    R.CAL_EVT_STAT, R.EVT_LAST_FAULT, R.EVT_STAT, R.TWN_STAT, R.PWR_MODE_CTL, R.PWR_MODE_STAT, R.PWR_RAIL_STAT,
    R.PWR_CLK_STAT, R.EVT_LASTING, R.EVT_FCNT], []⟩
theorem execCmdPrtCountersRead_bounds (m : Fin 16) (x : Exec) (s : State) : Bounds execCmdPrtCountersRead_scope s
    (execCmdPrtCountersRead m x s) := by
  unfold execCmdPrtCountersRead
  repeat' first
    | (with_reducible exact Bounds.fault) | (with_reducible refine Bounds.fin ?_ (by decide +kernel))
    | (with_reducible assumption) | (with_reducible apply Within.refl)
    | (with_reducible apply Within.step (State.countersCmd_within ..); rotate_left; decide +kernel) | split

def execCmdPrtOptXfer_scope : Scope := ⟨[.nextOrd, .mem, .pwr, .gr, .evt, .tacc, .tdc, .cal, .twin, .out],
    [R.MBX_STATE, R.MBX_RETRY_STAT, R.MBX_GRANGE_STAT, R.FWD_VER_STAT, R.TDC_STAT, R.TDC_EVT_STAT, R.CAL_STAT,
    R.CAL_EVT_STAT, R.EVT_LAST_FAULT, R.EVT_STAT, R.TWN_STAT, R.PWR_MODE_CTL, R.PWR_MODE_STAT, R.PWR_RAIL_STAT,
    R.PWR_CLK_STAT, R.EVT_LASTING, R.EVT_FCNT], []⟩
theorem execCmdPrtOptXfer_bounds (m : Fin 16) (x : Exec) (status : Fin 3) (idx : BitVec 16) (data : List Byte) (s :
    State) : Bounds execCmdPrtOptXfer_scope s (execCmdPrtOptXfer m x status idx data s) := by
  unfold execCmdPrtOptXfer
  extract_lets runs again s1
  have h1 : Within execCmdPrtOptXfer_scope s s1 := by
    unfold s1
    repeat' first
      | (with_reducible apply Within.refl) | (with_reducible apply Within.step (State.optXfer_within ..); rotate_left; decide +kernel)
      | (with_reducible apply Within.step (State.optRecover_within ..); rotate_left; decide +kernel) | split
  refine Bounds.fin (Within.step (State.cmd_within (sc := execCmdPrtOptXfer_scope) _ _ _ _ _ _ (fun u hu => ?_) (by decide +kernel)) h1
    (by decide +kernel)) (by decide +kernel)
  exact (State.complete_within ..).step ((State.optXfer_within ..).step hu (by decide +kernel)) (by decide +kernel)


end Sys2Proof.Machine
end

