-- ==== Sys2Proof/Laws/ExecSheaf.lean ====
section
/-! SUPPORT. Sys2Proof/Laws/ExecSheaf.lean: what each command of Machine/Sheaf.lean may change. -/
set_option Elab.async false
set_option linter.unusedTactic false
set_option linter.unreachableTactic false
set_option linter.unnecessarySeqFocus false
namespace Sys2Proof.Machine

def execSheafEgressDecision_scope : Scope := ⟨[.nextOrd, .gr, .evt, .tacc, .ports, .sheaves, .fwd, .grn, .alm, .out],
    [R.MBX_GRANGE_STAT, R.FWD_VER_STAT, R.GRN_POOL_STAT, R.GRN_SILO_STAT, R.GRN_EVT_STAT, R.EVT_STAT], []⟩
theorem execSheafEgressDecision_bounds (h : Fin 32) (s : State) : Bounds execSheafEgressDecision_scope s
    (execSheafEgressDecision h s) := by
  unfold execSheafEgressDecision
  repeat' first
    | (with_reducible exact Bounds.fault) | (with_reducible refine Bounds.fin ?_ (by decide +kernel))
    | (with_reducible assumption) | (with_reducible apply Within.refl) | lift_lets
    | (intro v; refine Within.cut (p := Within execSheafEgressDecision_scope s v) ?_ ?_; unfold v; rotate_left; clear_value v; intro hv)
    | (intro v; clear_value v) | intro v
    | (with_reducible apply Within.step (State.reapHeads_within ..); rotate_left; decide +kernel)
    | (with_reducible apply Within.step (State.elasticTurn_within ..); rotate_left; decide +kernel)
    | (with_reducible apply Within.step (State.startSheafTx_within ..); rotate_left; decide +kernel)
    | (with_reducible apply Within.step (State.updAlmSheaf_within ..); rotate_left; decide +kernel)
    | (with_reducible apply Within.step (State.count_within ..); rotate_left; decide +kernel)
    | (with_reducible apply Within.each; rotate_left; intro x a hx; try beta_reduce; rotate_left)
    | (with_reducible apply Within.foldl; rotate_left; intro x a hx; try beta_reduce; rotate_left) | split

def execTxFrameComplete_scope : Scope := ⟨[.nextOrd, .gr, .evt, .tacc, .ports, .sheaves, .fwd, .grn, .alm, .tb, .twin,
    .out], [R.MBX_GRANGE_STAT, R.PRT_STAT, R.FWD_VER_STAT, R.GRN_POOL_STAT, R.GRN_EVT_STAT, R.ALM_EVT_STAT,
    R.ALM_EVT_SRC, R.EVT_STAT], []⟩
theorem execTxFrameComplete_bounds (e : Fin 288) (bad : Bool) (s : State) : Bounds execTxFrameComplete_scope s
    (execTxFrameComplete e bad s) := by
  unfold execTxFrameComplete
  repeat' first
    | (with_reducible exact Bounds.fault) | (with_reducible refine Bounds.fin ?_ (by decide +kernel))
    | (with_reducible assumption) | (with_reducible apply Within.refl) | lift_lets
    | (intro v; refine Within.cut (p := Within execTxFrameComplete_scope s v) ?_ ?_; unfold v; rotate_left; clear_value v; intro hv)
    | (intro v; clear_value v) | intro v
    | (with_reducible apply Within.step (State.txDone_within ..); rotate_left; decide +kernel)
    | (with_reducible apply Within.step (State.sheafDone_within ..); rotate_left; decide +kernel) | split

def execGrainLossTimeout_scope : Scope := ⟨[.nextOrd, .nextFrame, .pwr, .gr, .evt, .tacc, .ports, .sheaves, .fwd,
    .grn, .out], [R.MBX_GRANGE_STAT, R.SHF_SHEAF_STAT, R.SHF_EVT_STAT, R.FWD_VER_STAT, R.GRN_POOL_STAT,
    R.GRN_EVT_STAT, R.EVT_STAT], []⟩
theorem execGrainLossTimeout_bounds (h : Fin 32) (s : State) : Bounds execGrainLossTimeout_scope s
    (execGrainLossTimeout h s) := by
  unfold execGrainLossTimeout
  repeat' first
    | (with_reducible exact Bounds.fault) | (with_reducible refine Bounds.fin ?_ (by decide +kernel))
    | (with_reducible assumption) | (with_reducible apply Within.refl) | lift_lets
    | (intro v; refine Within.cut (p := Within execGrainLossTimeout_scope s v) ?_ ?_; unfold v; rotate_left; clear_value v; intro hv)
    | (intro v; clear_value v) | intro v
    | (with_reducible apply Within.step (State.pastCut_within ..); rotate_left; decide +kernel)
    | (with_reducible apply Within.step (State.raise_within ..); rotate_left; decide +kernel)
    | (with_reducible apply Within.step (State.loseGaps_within ..); rotate_left; decide +kernel)
    | (with_reducible apply Within.step (State.rxIdle_within ..); rotate_left; decide +kernel) | split

def execSyncWaitExpiry_scope : Scope := ⟨[.nextOrd, .nextFrame, .pwr, .gr, .evt, .tacc, .ports, .sheaves, .fwd, .grn,
    .out], [R.MBX_GRANGE_STAT, R.SHF_SHEAF_STAT, R.SHF_EVT_STAT, R.FWD_VER_STAT, R.GRN_POOL_STAT, R.GRN_EVT_STAT,
    R.EVT_STAT], []⟩
theorem execSyncWaitExpiry_bounds (h : Fin 32) (s : State) : Bounds execSyncWaitExpiry_scope s (execSyncWaitExpiry h
    s) := by
  unfold execSyncWaitExpiry
  repeat' first
    | (with_reducible exact Bounds.fault) | (with_reducible refine Bounds.fin ?_ (by decide +kernel))
    | (with_reducible assumption) | (with_reducible apply Within.refl)
    | (with_reducible apply Within.step (State.pastCut_within ..); rotate_left; decide +kernel)
    | (with_reducible apply Within.step (State.raise_within ..); rotate_left; decide +kernel)
    | (with_reducible apply Within.step (State.resumeRx_within ..); rotate_left; decide +kernel) | split

def execDataGrainReceived_scope : Scope := ⟨[.nextOrd, .nextFrame, .gr, .evt, .tacc, .ports, .sheaves, .fwd, .grn,
    .out], [R.MBX_GRANGE_STAT, R.SHF_SHEAF_STAT, R.SHF_EVT_STAT, R.SHF_CAR_EVT_STAT, R.FWD_VER_STAT, R.GRN_POOL_STAT,
    R.GRN_EVT_STAT, R.EVT_STAT], []⟩
theorem execDataGrainReceived_bounds (c : Fin 128) (bytes : List Byte) (blocks : Nat) (badFec : Bool) (strays : Nat)
    (fec : FecCounts) (s : State) : Bounds execDataGrainReceived_scope s (execDataGrainReceived c bytes blocks badFec
    strays fec s) := by
  unfold execDataGrainReceived
  repeat' first
    | (with_reducible exact Bounds.fault) | (with_reducible refine Bounds.fin ?_ (by decide +kernel))
    | (with_reducible assumption) | (with_reducible apply Within.refl) | lift_lets
    | (intro v; refine Within.cut (p := Within execDataGrainReceived_scope s v) ?_ ?_; unfold v; rotate_left; clear_value v; intro hv)
    | (intro v; clear_value v) | intro v
    | (with_reducible apply Within.step (State.countLine_within ..); rotate_left; decide +kernel)
    | (with_reducible apply Within.step (State.count_within ..); rotate_left; decide +kernel)
    | (with_reducible apply Within.step (State.take_within ..); rotate_left; decide +kernel)
    | (with_reducible apply Within.step (State.raise_within ..); rotate_left; decide +kernel)
    | (with_reducible apply Within.step (State.takeGrain_within ..); rotate_left; decide +kernel) | split

end Sys2Proof.Machine
end

