-- ==== Sys2Proof/Laws/ExecCarriers.lean ====
section
/-! SUPPORT. Sys2Proof/Laws/ExecCarriers.lean: what each command of Machine/Carriers.lean may change. -/
set_option Elab.async false
set_option linter.unusedTactic false
set_option linter.unreachableTactic false
set_option linter.unnecessarySeqFocus false
namespace Sys2Proof.Machine

def execSignalDetect_scope : Scope := ⟨[.nextOrd, .gr, .evt, .tacc, .ports, .cars, .sheaves, .fwd, .grn, .alm, .tt,
    .ref, .twin, .out], [R.MBX_GRANGE_STAT, R.PRT_STAT, R.SHF_SHEAF_STAT, R.SHF_LOSS_WAIT, R.SHF_TT_STAT,
    R.SHF_TT_EVT_STAT, R.SHF_CAR_STAT, R.FWD_VER_STAT, R.FWD_EVT_STAT, R.FWD_EGR_STAT, R.GRN_POOL_STAT,
    R.GRN_SILO_STAT, R.GRN_EVT_STAT, R.ALM_EVT_STAT, R.ALM_EVT_SRC, R.REF_SRC_STAT, R.EVT_STAT], []⟩
theorem execSignalDetect_bounds (o : LineObj) (s : State) : Bounds execSignalDetect_scope s (execSignalDetect o s) :=
    by
  unfold execSignalDetect
  repeat' first
    | (with_reducible exact Bounds.fault) | (with_reducible refine Bounds.fin ?_ (by decide +kernel))
    | (with_reducible assumption) | (with_reducible apply Within.refl) | lift_lets
    | (intro v; refine Within.cut (p := Within execSignalDetect_scope s v) ?_ ?_; unfold v; rotate_left; clear_value v; intro hv)
    | (intro v; clear_value v) | intro v
    | (with_reducible apply Within.step (State.portSignal_within ..); rotate_left; decide +kernel)
    | (with_reducible apply Within.step (State.updCar_within ..); rotate_left; decide +kernel)
    | (with_reducible apply Within.step (State.toCarAdapt_within ..); rotate_left; decide +kernel)
    | (with_reducible apply Within.step (State.updMlane_within ..); rotate_left; decide +kernel) | split

def execAdaptDone_scope : Scope := ⟨[.nextOrd, .gr, .evt, .tacc, .ports, .cars, .sheaves, .fwd, .grn, .alm, .tt, .ref,
    .twin, .out], [R.MBX_GRANGE_STAT, R.PRT_STAT, R.SHF_SHEAF_STAT, R.SHF_LOSS_WAIT, R.SHF_TT_STAT, R.SHF_TT_EVT_STAT,
    R.SHF_CAR_STAT, R.SHF_CAR_EVT_STAT, R.FWD_VER_STAT, R.FWD_EVT_STAT, R.FWD_EGR_STAT, R.GRN_POOL_STAT,
    R.GRN_SILO_STAT, R.GRN_EVT_STAT, R.ALM_EVT_STAT, R.ALM_EVT_SRC, R.REF_SRC_STAT, R.EVT_STAT, R.EVT_FCNT], []⟩
theorem execAdaptDone_bounds (o : LineObj) (s : State) : Bounds execAdaptDone_scope s (execAdaptDone o s) := by
  unfold execAdaptDone
  repeat' first
    | (with_reducible exact Bounds.fault) | (with_reducible refine Bounds.fin ?_ (by decide +kernel))
    | (with_reducible assumption) | (with_reducible apply Within.refl) | lift_lets
    | (intro v; refine Within.cut (p := Within execAdaptDone_scope s v) ?_ ?_; unfold v; rotate_left; clear_value v; intro hv)
    | (intro v; clear_value v) | intro v
    | (with_reducible apply Within.step (State.portAdapted_within ..); rotate_left; decide +kernel)
    | (with_reducible apply Within.step (State.setCar_within ..); rotate_left; decide +kernel)
    | (with_reducible apply Within.step (State.updCar_within ..); rotate_left; decide +kernel)
    | (with_reducible apply Within.step (State.toHandshake_within ..); rotate_left; decide +kernel)
    | (with_reducible apply Within.step (State.updMlane_within ..); rotate_left; decide +kernel) | split

def execCodewordLock_scope : Scope := ⟨[.nextOrd, .gr, .evt, .tacc, .ports, .cars, .sheaves, .fwd, .grn, .alm, .tt,
    .ref, .cal, .twin, .out], [R.MBX_GRANGE_STAT, R.SHF_SHEAF_STAT, R.SHF_LOSS_WAIT, R.SHF_TT_STAT, R.SHF_TT_EVT_STAT,
    R.SHF_CAR_STAT, R.SHF_CAR_EVT_STAT, R.FWD_VER_STAT, R.FWD_EVT_STAT, R.FWD_EGR_STAT, R.GRN_POOL_STAT,
    R.GRN_SILO_STAT, R.GRN_EVT_STAT, R.ALM_EVT_STAT, R.ALM_EVT_SRC, R.REF_SRC_STAT, R.EVT_STAT, R.EVT_FCNT], []⟩
theorem execCodewordLock_bounds (w : LaneWords) (s : State) : Bounds execCodewordLock_scope s (execCodewordLock w s)
    := by
  unfold execCodewordLock
  repeat' first
    | (with_reducible exact Bounds.fault) | (with_reducible refine Bounds.fin ?_ (by decide +kernel))
    | (with_reducible assumption) | (with_reducible apply Within.refl) | lift_lets
    | (intro v; refine Within.cut (p := Within execCodewordLock_scope s v) ?_ ?_; unfold v; rotate_left; clear_value v; intro hv)
    | (intro v; clear_value v) | intro v
    | (with_reducible apply Within.step (State.transientFault_within ..); rotate_left; decide +kernel)
    | (with_reducible apply Within.step (State.updMlane_within ..); rotate_left; decide +kernel)
    | (with_reducible apply Within.step (State.dueLanes_within ..); rotate_left; decide +kernel)
    | (with_reducible apply Within.step (State.updCar_within ..); rotate_left; decide +kernel)
    | (with_reducible apply Within.step (State.noteLocked_within ..); rotate_left; decide +kernel)
    | (with_reducible apply Within.step (State.toHandshake_within ..); rotate_left; decide +kernel) | split

def execCodewordLockLost_scope : Scope := ⟨[.nextOrd, .mem, .gr, .evt, .tacc, .ports, .cars, .sheaves, .fwd, .grn,
    .alm, .tt, .ref, .twin, .out], [R.MBX_STATE, R.MBX_RETRY_STAT, R.MBX_GRANGE_STAT, R.SHF_SHEAF_STAT,
    R.SHF_LOSS_WAIT, R.SHF_TT_STAT, R.SHF_TT_EVT_STAT, R.SHF_CAR_STAT, R.SHF_CAR_EVT_STAT, R.FWD_VER_STAT,
    R.FWD_EVT_STAT, R.FWD_EGR_STAT, R.GRN_POOL_STAT, R.GRN_SILO_STAT, R.GRN_EVT_STAT, R.ALM_EVT_STAT, R.ALM_EVT_SRC,
    R.REF_SRC_STAT, R.EVT_STAT, R.EVT_FCNT], []⟩
theorem execCodewordLockLost_bounds (lane : Fin 260) (l : LaneLoss) (s : State) : Bounds execCodewordLockLost_scope s
    (execCodewordLockLost lane l s) := by
  unfold execCodewordLockLost
  repeat' first
    | (with_reducible exact Bounds.fault) | (with_reducible refine Bounds.fin ?_ (by decide +kernel))
    | (with_reducible assumption) | (with_reducible apply Within.refl) | lift_lets
    | (intro v; refine Within.cut (p := Within execCodewordLockLost_scope s v) ?_ ?_; unfold v; rotate_left; clear_value v; intro hv)
    | (intro v; clear_value v) | intro v
    | (with_reducible apply Within.step (State.mirrorLost_within ..); rotate_left; decide +kernel)
    | (with_reducible apply Within.step (State.updCar_within ..); rotate_left; decide +kernel)
    | (with_reducible apply Within.step (State.noteLocked_within ..); rotate_left; decide +kernel)
    | (with_reducible apply Within.step (State.carLost_within ..); rotate_left; decide +kernel) | split

def execCarrierAttemptTimeout_scope : Scope := ⟨[.nextOrd, .pwr, .gr, .evt, .tacc, .ports, .cars, .sheaves, .fwd,
    .grn, .alm, .tt, .ref, .tdc, .cal, .twin, .out], [R.MBX_GRANGE_STAT, R.SHF_SHEAF_STAT, R.SHF_LOSS_WAIT,
    R.SHF_TT_STAT, R.SHF_TT_EVT_STAT, R.SHF_CAR_STAT, R.SHF_CAR_EVT_STAT, R.FWD_VER_STAT, R.FWD_EVT_STAT,
    R.FWD_EGR_STAT, R.GRN_POOL_STAT, R.GRN_SILO_STAT, R.GRN_EVT_STAT, R.ALM_EVT_STAT, R.ALM_EVT_SRC, R.REF_SRC_STAT,
    R.TDC_STAT, R.TDC_EVT_STAT, R.CAL_STAT, R.CAL_EVT_STAT, R.EVT_LAST_FAULT, R.EVT_STAT, R.TWN_STAT, R.PWR_MODE_CTL,
    R.PWR_MODE_STAT, R.PWR_RAIL_STAT, R.PWR_CLK_STAT, R.EVT_LASTING, R.EVT_FCNT], []⟩
theorem execCarrierAttemptTimeout_bounds (o : LineObj) (s : State) : Bounds execCarrierAttemptTimeout_scope s
    (execCarrierAttemptTimeout o s) := by
  unfold execCarrierAttemptTimeout
  repeat' first
    | (with_reducible exact Bounds.fault) | (with_reducible refine Bounds.fin ?_ (by decide +kernel))
    | (with_reducible assumption) | (with_reducible apply Within.refl) | lift_lets
    | (intro v; refine Within.cut (p := Within execCarrierAttemptTimeout_scope s v) ?_ ?_; unfold v; rotate_left; clear_value v; intro hv)
    | (intro v; clear_value v) | intro v
    | (with_reducible apply Within.step (State.pastCut_within ..); rotate_left; decide +kernel)
    | (with_reducible apply Within.step (State.raise_within ..); rotate_left; decide +kernel)
    | (with_reducible apply Within.step (State.lastingFault_within ..); rotate_left; decide +kernel)
    | (with_reducible apply Within.step (State.toCarAdapt_within ..); rotate_left; decide +kernel)
    | (with_reducible apply Within.step (State.wr_within ..); rotate_left; decide +kernel)
    | (with_reducible apply Within.step (State.updCar_within ..); rotate_left; decide +kernel)
    | (with_reducible apply Within.step (State.setCar_within ..); rotate_left; decide +kernel)
    | (with_reducible apply Within.step (State.updMlane_within ..); rotate_left; decide +kernel) | split

def execGrainSlot_scope : Scope := ⟨[.nextOrd, .nextFree, .gr, .evt, .tacc, .ports, .cars, .sheaves, .fwd, .grn, .alm,
    .tt, .ref, .twin, .out], [R.MBX_GRANGE_STAT, R.SHF_SHEAF_STAT, R.SHF_LOSS_WAIT, R.SHF_TT_STAT, R.SHF_TT_EVT_STAT,
    R.SHF_CAR_STAT, R.SHF_CAR_EVT_STAT, R.FWD_VER_STAT, R.FWD_EVT_STAT, R.FWD_EGR_STAT, R.GRN_POOL_STAT,
    R.GRN_SILO_STAT, R.GRN_EVT_STAT, R.ALM_EVT_STAT, R.ALM_EVT_SRC, R.REF_SRC_STAT, R.EVT_STAT], []⟩
theorem execGrainSlot_bounds (lane : Fin 256) (dep : Inst) (s : State) : Bounds execGrainSlot_scope s (execGrainSlot
    lane dep s) := by
  unfold execGrainSlot
  repeat' first
    | (with_reducible exact Bounds.fault) | (with_reducible refine Bounds.fin ?_ (by decide +kernel))
    | (with_reducible assumption) | (with_reducible apply Within.refl) | lift_lets
    | (intro v; refine Within.cut (p := Within execGrainSlot_scope s v) ?_ ?_; unfold v; rotate_left; clear_value v; intro hv)
    | (intro v; clear_value v) | intro v
    | (with_reducible apply Within.step (State.noteSlot_within ..); rotate_left; decide +kernel)
    | (with_reducible apply Within.step (State.sendTiming_within ..); rotate_left; decide +kernel)
    | (with_reducible apply Within.step (State.sendNulls_within ..); rotate_left; decide +kernel)
    | (with_reducible apply Within.step (State.nextGrain_within (h := ?h)); (case h => assumption); rotate_left; decide +kernel)
    | (with_reducible apply Within.step (State.sendGrain_within ..); rotate_left; decide +kernel) | split

def execTimingGrainReceived_scope : Scope := ⟨[.nextOrd, .nextFree, .mem, .gr, .evt, .tacc, .ports, .cars, .sheaves,
    .fwd, .grn, .alm, .tt, .ref, .out], [R.MBX_STATE, R.MBX_RETRY_STAT, R.MBX_GRANGE_STAT, R.SHF_SHEAF_STAT,
    R.SHF_LOSS_WAIT, R.SHF_TT_STAT, R.SHF_TT_EVT_STAT, R.SHF_CAR_STAT, R.SHF_CAR_SKEW, R.SHF_CAR_RTT,
    R.SHF_CAR_EVT_STAT, R.FWD_VER_STAT, R.FWD_EVT_STAT, R.FWD_EGR_STAT, R.GRN_POOL_STAT, R.GRN_SILO_STAT,
    R.GRN_EVT_STAT, R.ALM_EVT_STAT, R.ALM_EVT_SRC, R.REF_SRC_STAT, R.EVT_STAT, R.EVT_FCNT], []⟩
theorem execTimingGrainReceived_bounds (c : Fin 128) (bytes : List Byte) (e : GrainErrors) (rx : Inst) (s : State) :
    Bounds execTimingGrainReceived_scope s (execTimingGrainReceived c bytes e rx s) := by
  unfold execTimingGrainReceived
  repeat' first
    | (with_reducible exact Bounds.fault) | (with_reducible refine Bounds.fin ?_ (by decide +kernel))
    | (with_reducible assumption) | (with_reducible apply Within.refl) | lift_lets
    | (intro v; refine Within.cut (p := Within execTimingGrainReceived_scope s v) ?_ ?_; unfold v; rotate_left; clear_value v; intro hv)
    | (intro v; clear_value v) | intro v
    | (with_reducible apply Within.step (State.countLine_within ..); rotate_left; decide +kernel)
    | (with_reducible apply Within.step (State.take_within ..); rotate_left; decide +kernel)
    | (with_reducible apply Within.step (State.count_within ..); rotate_left; decide +kernel)
    | (with_reducible apply Within.step (State.raise_within ..); rotate_left; decide +kernel)
    | (with_reducible apply Within.step (State.updCar_within ..); rotate_left; decide +kernel)
    | (with_reducible apply Within.step (State.wr_within ..); rotate_left; decide +kernel)
    | (with_reducible apply Within.step (State.noteLossWait_within ..); rotate_left; decide +kernel)
    | (with_reducible apply Within.step (State.ttGrain_within ..); rotate_left; decide +kernel)
    | (with_reducible apply Within.step (State.takeEcho_within ..); rotate_left; decide +kernel)
    | (with_reducible apply Within.step (State.carDown_within ..); rotate_left; decide +kernel)
    | (with_reducible apply Within.step (State.fallBack_within ..); rotate_left; decide +kernel)
    | (with_reducible apply Within.step (State.startPark_within ..); rotate_left; decide +kernel)
    | (with_reducible apply Within.step (State.mgmt_within ..); rotate_left; decide +kernel)
    | (with_reducible apply Within.each; rotate_left; intro x a hx; try beta_reduce; rotate_left)
    | (with_reducible apply Within.foldl; rotate_left; intro x a hx; try beta_reduce; rotate_left) | split

def execKeepaliveExpiry_scope : Scope := ⟨[.nextOrd, .mem, .pwr, .gr, .evt, .tacc, .ports, .cars, .sheaves, .fwd,
    .grn, .alm, .tt, .ref, .out], [R.MBX_STATE, R.MBX_RETRY_STAT, R.MBX_GRANGE_STAT, R.SHF_SHEAF_STAT,
    R.SHF_LOSS_WAIT, R.SHF_TT_STAT, R.SHF_TT_EVT_STAT, R.SHF_CAR_STAT, R.SHF_CAR_EVT_STAT, R.FWD_VER_STAT,
    R.FWD_EVT_STAT, R.FWD_EGR_STAT, R.GRN_POOL_STAT, R.GRN_SILO_STAT, R.GRN_EVT_STAT, R.ALM_EVT_STAT, R.ALM_EVT_SRC,
    R.REF_SRC_STAT, R.EVT_STAT, R.EVT_FCNT], []⟩
theorem execKeepaliveExpiry_bounds (c : Fin 128) (s : State) : Bounds execKeepaliveExpiry_scope s (execKeepaliveExpiry
    c s) := by
  unfold execKeepaliveExpiry
  repeat' first
    | (with_reducible exact Bounds.fault) | (with_reducible refine Bounds.fin ?_ (by decide +kernel))
    | (with_reducible assumption) | (with_reducible apply Within.refl) | lift_lets
    | (intro v; refine Within.cut (p := Within execKeepaliveExpiry_scope s v) ?_ ?_; unfold v; rotate_left; clear_value v; intro hv)
    | (intro v; clear_value v) | intro v
    | (with_reducible apply Within.step (State.wr_within ..); rotate_left; decide +kernel)
    | (with_reducible apply Within.step (State.carDown_within ..); rotate_left; decide +kernel)
    | (with_reducible apply Within.step (State.fallBack_within ..); rotate_left; decide +kernel)
    | (with_reducible apply Within.step (State.pastCut_within ..); rotate_left; decide +kernel)
    | (with_reducible apply Within.step (State.raise_within ..); rotate_left; decide +kernel) | split

def execParkLossWaitExpiry_scope : Scope := ⟨[.nextOrd, .mem, .gr, .evt, .tacc, .ports, .cars, .sheaves, .fwd, .grn,
    .alm, .tt, .ref, .out], [R.MBX_STATE, R.MBX_RETRY_STAT, R.MBX_GRANGE_STAT, R.SHF_SHEAF_STAT, R.SHF_LOSS_WAIT,
    R.SHF_TT_STAT, R.SHF_TT_EVT_STAT, R.SHF_CAR_STAT, R.SHF_CAR_EVT_STAT, R.FWD_VER_STAT, R.FWD_EVT_STAT,
    R.FWD_EGR_STAT, R.GRN_POOL_STAT, R.GRN_SILO_STAT, R.GRN_EVT_STAT, R.ALM_EVT_STAT, R.ALM_EVT_SRC, R.REF_SRC_STAT,
    R.EVT_STAT, R.EVT_FCNT], []⟩
theorem execParkLossWaitExpiry_bounds (c : Fin 128) (s : State) : Bounds execParkLossWaitExpiry_scope s
    (execParkLossWaitExpiry c s) := by
  unfold execParkLossWaitExpiry
  repeat' first
    | (with_reducible exact Bounds.fault) | (with_reducible refine Bounds.fin ?_ (by decide +kernel))
    | (with_reducible assumption) | (with_reducible apply Within.refl)
    | (with_reducible apply Within.step (State.carParked_within ..); rotate_left; decide +kernel)
    | (with_reducible apply Within.step (State.endOpOf_within ..); rotate_left; decide +kernel) | split

def execCmdShfCarrierOp_scope : Scope := ⟨[.nextOrd, .mem, .pwr, .gr, .evt, .tacc, .ports, .cars, .sheaves, .fwd,
    .grn, .alm, .tt, .ref, .tdc, .cal, .twin, .out], [R.MBX_STATE, R.MBX_RETRY_STAT, R.MBX_GRANGE_STAT,
    R.SHF_SHEAF_STAT, R.SHF_LOSS_WAIT, R.SHF_TT_STAT, R.SHF_TT_EVT_STAT, R.SHF_CAR_STAT, R.FWD_VER_STAT,
    R.FWD_EVT_STAT, R.FWD_EGR_STAT, R.GRN_POOL_STAT, R.GRN_SILO_STAT, R.GRN_EVT_STAT, R.ALM_EVT_STAT, R.ALM_EVT_SRC,
    R.REF_SRC_STAT, R.TDC_STAT, R.TDC_EVT_STAT, R.CAL_STAT, R.CAL_EVT_STAT, R.EVT_LAST_FAULT, R.EVT_STAT, R.TWN_STAT,
    R.PWR_MODE_CTL, R.PWR_MODE_STAT, R.PWR_RAIL_STAT, R.PWR_CLK_STAT, R.EVT_LASTING, R.EVT_FCNT], []⟩
theorem execCmdShfCarrierOp_bounds (m : Fin 16) (x : Exec) (s : State) : Bounds execCmdShfCarrierOp_scope s
    (execCmdShfCarrierOp m x s) := by
  unfold execCmdShfCarrierOp
  repeat' first
    | (with_reducible exact Bounds.fault) | (with_reducible refine Bounds.fin ?_ (by decide +kernel))
    | (with_reducible assumption) | (with_reducible apply Within.refl) | lift_lets
    | (intro v; refine Within.cut (p := Within execCmdShfCarrierOp_scope s v) ?_ ?_; unfold v; rotate_left; clear_value v; intro hv)
    | (intro v; clear_value v) | intro v
    | (with_reducible apply State.cmd_within; rotate_left; decide +kernel; intro u hu; try beta_reduce)
    | (with_reducible apply Within.step (State.running_within ..); rotate_left; decide +kernel)
    | (with_reducible apply Within.step (State.askPeer_within ..); rotate_left; decide +kernel)
    | (with_reducible apply Within.step (State.startPark_within ..); rotate_left; decide +kernel) | split

def execCarrierOpTimeout_scope : Scope := ⟨[.nextOrd, .mem, .gr, .evt, .tacc, .ports, .cars, .sheaves, .fwd, .grn,
    .alm, .tt, .ref, .out], [R.MBX_STATE, R.MBX_RETRY_STAT, R.MBX_GRANGE_STAT, R.SHF_SHEAF_STAT, R.SHF_LOSS_WAIT,
    R.SHF_TT_STAT, R.SHF_TT_EVT_STAT, R.SHF_CAR_STAT, R.SHF_CAR_EVT_STAT, R.FWD_VER_STAT, R.FWD_EVT_STAT,
    R.FWD_EGR_STAT, R.GRN_POOL_STAT, R.GRN_SILO_STAT, R.GRN_EVT_STAT, R.ALM_EVT_STAT, R.ALM_EVT_SRC, R.REF_SRC_STAT,
    R.EVT_STAT, R.EVT_FCNT], []⟩
theorem execCarrierOpTimeout_bounds (m : Fin 16) (s : State) : Bounds execCarrierOpTimeout_scope s
    (execCarrierOpTimeout m s) := by
  unfold execCarrierOpTimeout
  repeat' first
    | (with_reducible exact Bounds.fault) | (with_reducible refine Bounds.fin ?_ (by decide +kernel))
    | (with_reducible assumption) | (with_reducible apply Within.refl) | split | lift_lets
    | (intro v; refine Within.cut (p := Within execCarrierOpTimeout_scope s v) ?_ ?_; unfold v; rotate_left; clear_value v; intro hv)
    | (intro v; clear_value v) | intro v
    | (with_reducible apply Within.step (State.updCar_within ..); rotate_left; decide +kernel)
    | (with_reducible apply Within.step (State.complete_within ..); rotate_left; decide +kernel)
    | (with_reducible apply Within.step (State.carParked_within ..); rotate_left; decide +kernel) | split

def execCmdShfCountersRead_scope : Scope := ⟨[.nextOrd, .mem, .pwr, .gr, .evt, .tally, .tacc, .tdc, .cal, .twin,
    .out], [R.MBX_STATE, R.MBX_RETRY_STAT, R.MBX_GRANGE_STAT, R.FWD_VER_STAT, R.TDC_STAT, R.TDC_EVT_STAT, R.CAL_STAT,
    R.CAL_EVT_STAT, R.EVT_LAST_FAULT, R.EVT_STAT, R.TWN_STAT, R.PWR_MODE_CTL, R.PWR_MODE_STAT, R.PWR_RAIL_STAT,
    R.PWR_CLK_STAT, R.EVT_LASTING, R.EVT_FCNT], []⟩
theorem execCmdShfCountersRead_bounds (m : Fin 16) (x : Exec) (s : State) : Bounds execCmdShfCountersRead_scope s
    (execCmdShfCountersRead m x s) := by
  unfold execCmdShfCountersRead
  repeat' first
    | (with_reducible exact Bounds.fault) | (with_reducible refine Bounds.fin ?_ (by decide +kernel))
    | (with_reducible assumption) | (with_reducible apply Within.refl) | lift_lets
    | (intro v; refine Within.cut (p := Within execCmdShfCountersRead_scope s v) ?_ ?_; unfold v; rotate_left; clear_value v; intro hv)
    | (intro v; clear_value v) | intro v
    | (with_reducible apply State.cmd_within; rotate_left; decide +kernel; intro u hu; try beta_reduce)
    | (with_reducible apply Within.step (State.readSlots_within ..); rotate_left; decide +kernel) | split

end Sys2Proof.Machine
end

