-- ==== Sys2Proof/Laws/ExecSilo.lean ====
section
/-! SUPPORT. Sys2Proof/Laws/ExecSilo.lean: what each command of Machine/Silo.lean may change. -/
set_option Elab.async false
set_option linter.unusedTactic false
set_option linter.unreachableTactic false
set_option linter.unnecessarySeqFocus false
namespace Sys2Proof.Machine

def execSpillWriteDone_scope : Scope := ⟨[.nextOrd, .gr, .evt, .tacc, .ports, .fwd, .grn, .out], [R.MBX_GRANGE_STAT,
    R.FWD_VER_STAT, R.GRN_POOL_STAT, R.GRN_SILO_STAT, R.GRN_EVT_STAT, R.EVT_STAT], []⟩
theorem execSpillWriteDone_bounds (e : Fin 288) (q : Fin 16) (bwHeld : Bool) (s : State) : Bounds
    execSpillWriteDone_scope s (execSpillWriteDone e q bwHeld s) := by
  unfold execSpillWriteDone
  repeat' first
    | (with_reducible exact Bounds.fault) | (with_reducible refine Bounds.fin ?_ (by decide +kernel))
    | (with_reducible assumption) | (with_reducible apply Within.refl) | lift_lets
    | (intro v; refine Within.cut (p := Within execSpillWriteDone_scope s v) ?_ ?_; unfold v; rotate_left; clear_value v; intro hv)
    | (intro v; clear_value v) | intro v
    | (with_reducible apply Within.step (State.pagesBack_within ..); rotate_left; decide +kernel)
    | (with_reducible apply Within.step (State.count_within ..); rotate_left; decide +kernel)
    | (with_reducible apply Within.step (State.waitEnt_within ..); rotate_left; decide +kernel)
    | (with_reducible apply Within.step (State.spillWrite_within ..); rotate_left; decide +kernel) | split

def execRecallPageReadDone_scope : Scope := ⟨[.nextOrd, .pwr, .gr, .evt, .tacc, .ports, .fwd, .grn, .tdc, .cal, .twin,
    .out], [R.MBX_GRANGE_STAT, R.FWD_VER_STAT, R.GRN_POOL_STAT, R.GRN_SILO_STAT, R.GRN_EVT_STAT, R.TDC_STAT,
    R.TDC_EVT_STAT, R.CAL_STAT, R.CAL_EVT_STAT, R.EVT_LAST_FAULT, R.EVT_STAT, R.TWN_STAT, R.PWR_MODE_CTL,
    R.PWR_MODE_STAT, R.PWR_RAIL_STAT, R.PWR_CLK_STAT, R.EVT_LASTING, R.EVT_FCNT], []⟩
theorem execRecallPageReadDone_bounds (e : Fin 288) (q : Fin 16) (f : Fetch) (s : State) : Bounds
    execRecallPageReadDone_scope s (execRecallPageReadDone e q f s) := by
  unfold execRecallPageReadDone
  repeat' first
    | (with_reducible exact Bounds.fault) | (with_reducible refine Bounds.fin ?_ (by decide +kernel))
    | (with_reducible assumption) | (with_reducible apply Within.refl) | lift_lets
    | (intro v; refine Within.cut (p := Within execRecallPageReadDone_scope s v) ?_ ?_; unfold v; rotate_left; clear_value v; intro hv)
    | (intro v; clear_value v) | intro v
    | (with_reducible apply Within.step (State.count_within ..); rotate_left; decide +kernel)
    | (with_reducible apply Within.step (State.transientFault_within ..); rotate_left; decide +kernel)
    | (with_reducible apply Within.step (State.updQueue_within ..); rotate_left; decide +kernel)
    | (with_reducible apply Within.step (State.raise_within ..); rotate_left; decide +kernel)
    | (with_reducible apply Within.step (State.retirePage_within ..); rotate_left; decide +kernel)
    | (with_reducible apply Within.step (State.lastingFault_within ..); rotate_left; decide +kernel)
    | (with_reducible apply Within.step (State.passPage_within ..); rotate_left; decide +kernel)
    | (with_reducible apply Within.step (State.recallFrames_within (h := ?h)); (case h => assumption); rotate_left; decide +kernel)
    | (with_reducible apply Within.step (State.recallFrames_snd ..); rotate_left; decide +kernel) | split

def execSiloCacheRefill_scope : Scope := ⟨[.nextOrd, .gr, .evt, .tacc, .grn, .out], [R.MBX_GRANGE_STAT,
    R.FWD_VER_STAT, R.GRN_SILO_STAT, R.GRN_EVT_STAT, R.EVT_STAT], []⟩
theorem execSiloCacheRefill_bounds (s : State) : Bounds execSiloCacheRefill_scope s (execSiloCacheRefill s) := by
  unfold execSiloCacheRefill
  repeat' first
    | (with_reducible exact Bounds.fault) | (with_reducible refine Bounds.fin ?_ (by decide +kernel))
    | (with_reducible assumption) | (with_reducible apply Within.refl) | lift_lets
    | (intro v; refine Within.cut (p := Within execSiloCacheRefill_scope s v) ?_ ?_; unfold v; rotate_left; clear_value v; intro hv)
    | (intro v; clear_value v) | intro v
    | (with_reducible apply Within.step (State.pagesBack_within ..); rotate_left; decide +kernel)
    | (with_reducible apply Within.step (State.updGrn_within ..); rotate_left; decide +kernel) | split

def execGleanerSweep_scope : Scope := ⟨[.nextOrd, .mem, .gr, .evt, .tacc, .grn, .out], [R.MBX_STATE, R.MBX_RETRY_STAT,
    R.MBX_GRANGE_STAT, R.FWD_VER_STAT, R.GRN_POOL_STAT, R.GRN_SILO_STAT, R.GRN_GLEAN_STAT, R.GRN_GLEAN_LAST,
    R.GRN_EVT_STAT, R.EVT_STAT, R.EVT_FCNT], []⟩
theorem execGleanerSweep_bounds (s : State) : Bounds execGleanerSweep_scope s (execGleanerSweep s) := by
  unfold execGleanerSweep
  repeat' first
    | (with_reducible exact Bounds.fault) | (with_reducible refine Bounds.fin ?_ (by decide +kernel))
    | (with_reducible assumption) | (with_reducible apply Within.refl) | lift_lets
    | (intro v; refine Within.cut (p := Within execGleanerSweep_scope s v) ?_ ?_; unfold v; rotate_left; clear_value v; intro hv)
    | (intro v; clear_value v) | intro v
    | (with_reducible apply Within.step (State.judgeLeaks_within ..); rotate_left; decide +kernel)
    | (with_reducible apply Within.step (State.updGrn_within ..); rotate_left; decide +kernel)
    | (with_reducible apply Within.step (State.returnAstray_within ..); rotate_left; decide +kernel)
    | (with_reducible apply Within.step (State.addWrap_within ..); rotate_left; decide +kernel)
    | (with_reducible apply Within.step (State.raise_within ..); rotate_left; decide +kernel)
    | (with_reducible apply Within.step (State.updMbx_within ..); rotate_left; decide +kernel)
    | (with_reducible apply Within.step (State.complete_within ..); rotate_left; decide +kernel)
    | (with_reducible apply Within.each; rotate_left; intro x a hx; try beta_reduce; rotate_left)
    | (with_reducible apply Within.foldl; rotate_left; intro x a hx; try beta_reduce; rotate_left) | split

def execCmdGrnCountersRead_scope : Scope := ⟨[.nextOrd, .mem, .pwr, .gr, .evt, .tally, .tacc, .tdc, .cal, .twin,
    .out], [R.MBX_STATE, R.MBX_RETRY_STAT, R.MBX_GRANGE_STAT, R.FWD_VER_STAT, R.TDC_STAT, R.TDC_EVT_STAT, R.CAL_STAT,
    R.CAL_EVT_STAT, R.EVT_LAST_FAULT, R.EVT_STAT, R.TWN_STAT, R.PWR_MODE_CTL, R.PWR_MODE_STAT, R.PWR_RAIL_STAT,
    R.PWR_CLK_STAT, R.EVT_LASTING, R.EVT_FCNT], []⟩
theorem execCmdGrnCountersRead_bounds (m : Fin 16) (x : Exec) (s : State) : Bounds execCmdGrnCountersRead_scope s
    (execCmdGrnCountersRead m x s) := by
  unfold execCmdGrnCountersRead
  repeat' first
    | (with_reducible exact Bounds.fault) | (with_reducible refine Bounds.fin ?_ (by decide +kernel))
    | (with_reducible assumption) | (with_reducible apply Within.refl) | lift_lets
    | (intro v; refine Within.cut (p := Within execCmdGrnCountersRead_scope s v) ?_ ?_; unfold v; rotate_left; clear_value v; intro hv)
    | (intro v; clear_value v) | intro v
    | (with_reducible apply State.cmd_within; rotate_left; decide +kernel; intro u hu; try beta_reduce)
    | (with_reducible apply Within.step (State.readSlots_within ..); rotate_left; decide +kernel) | split

def execCmdGrnCellTest_scope : Scope := ⟨[.nextOrd, .mem, .pwr, .gr, .evt, .tacc, .grn, .tdc, .cal, .twin, .out],
    [R.MBX_STATE, R.MBX_RETRY_STAT, R.MBX_GRANGE_STAT, R.FWD_VER_STAT, R.GRN_POOL_STAT, R.GRN_EVT_STAT, R.TDC_STAT,
    R.TDC_EVT_STAT, R.CAL_STAT, R.CAL_EVT_STAT, R.EVT_LAST_FAULT, R.EVT_STAT, R.TWN_STAT, R.PWR_MODE_CTL,
    R.PWR_MODE_STAT, R.PWR_RAIL_STAT, R.PWR_CLK_STAT, R.EVT_LASTING, R.EVT_FCNT], []⟩
theorem execCmdGrnCellTest_bounds (m : Fin 16) (x : Exec) (bad : List (Fin 64)) (s : State) : Bounds
    execCmdGrnCellTest_scope s (execCmdGrnCellTest m x bad s) := by
  unfold execCmdGrnCellTest
  repeat' first
    | (with_reducible exact Bounds.fault) | (with_reducible refine Bounds.fin ?_ (by decide +kernel))
    | (with_reducible assumption) | (with_reducible apply Within.refl) | lift_lets
    | (intro v; refine Within.cut (p := Within execCmdGrnCellTest_scope s v) ?_ ?_; unfold v; rotate_left; clear_value v; intro hv)
    | (intro v; clear_value v) | intro v
    | (with_reducible apply State.cmd_within; rotate_left; decide +kernel; intro u hu; try beta_reduce)
    | (with_reducible apply Within.step (State.testBufs_within (h := ?h)); (case h => assumption); rotate_left; decide +kernel)
    | (with_reducible apply Within.step (State.condemnBuf_within ..); rotate_left; decide +kernel)
    | (with_reducible apply Within.step (State.lastingFault_within ..); rotate_left; decide +kernel)
    | (with_reducible apply Within.step (State.freeBuf_within ..); rotate_left; decide +kernel)
    | (with_reducible apply Within.step (State.complete_within ..); rotate_left; decide +kernel)
    | (with_reducible apply Within.step (State.testBufs_snd ..); rotate_left; decide +kernel)
    | (with_reducible apply Within.each; rotate_left; intro x a hx; try beta_reduce; rotate_left)
    | (with_reducible apply Within.foldl; rotate_left; intro x a hx; try beta_reduce; rotate_left) | split

def execCmdGrnSweep_scope : Scope := ⟨[.nextOrd, .mem, .pwr, .gr, .evt, .tacc, .tdc, .cal, .twin, .out], [R.MBX_STATE,
    R.MBX_RETRY_STAT, R.MBX_GRANGE_STAT, R.FWD_VER_STAT, R.TDC_STAT, R.TDC_EVT_STAT, R.CAL_STAT, R.CAL_EVT_STAT,
    R.EVT_LAST_FAULT, R.EVT_STAT, R.TWN_STAT, R.PWR_MODE_CTL, R.PWR_MODE_STAT, R.PWR_RAIL_STAT, R.PWR_CLK_STAT,
    R.EVT_LASTING, R.EVT_FCNT], []⟩
theorem execCmdGrnSweep_bounds (m : Fin 16) (x : Exec) (s : State) : Bounds execCmdGrnSweep_scope s (execCmdGrnSweep m
    x s) := by
  unfold execCmdGrnSweep
  repeat' first
    | (with_reducible exact Bounds.fault) | (with_reducible refine Bounds.fin ?_ (by decide +kernel))
    | (with_reducible assumption) | (with_reducible apply Within.refl)
    | (with_reducible apply State.cmd_within; rotate_left; decide +kernel; intro u hu; try beta_reduce)
    | (with_reducible apply Within.step (State.running_within ..); rotate_left; decide +kernel) | split

end Sys2Proof.Machine
end

