-- ==== Sys2Proof/Laws/ExecIntegrity.lean ====
section
/-! SUPPORT. Sys2Proof/Laws/ExecIntegrity.lean: what each command of Machine/Integrity.lean may change. -/
set_option Elab.async false
set_option linter.unusedTactic false
set_option linter.unreachableTactic false
set_option linter.unnecessarySeqFocus false
namespace Sys2Proof.Machine

def execRetryResult_scope : Scope := ⟨[.nextOrd, .committed, .pwr, .gr, .evt, .tally, .tacc, .ports, .cars, .sheaves,
    .fwd, .grn, .alm, .tb, .tdc, .cal, .twin, .out], [R.MBX_GRANGE_STAT, R.FWD_VER_STAT, R.GRN_POOL_STAT,
    R.GRN_SILO_STAT, R.GRN_EVT_STAT, R.ALM_EVT_STAT, R.ALM_EVT_SRC, R.TDC_STAT, R.TDC_EVT_STAT, R.TDC_CNT, R.CAL_STAT,
    R.CAL_EVT_STAT, R.EVT_LAST_FAULT, R.EVT_CNT, R.EVT_STAT, R.TWN_STAT, R.PWR_MODE_CTL, R.PWR_MODE_STAT,
    R.PWR_RAIL_STAT, R.PWR_CLK_STAT, R.EVT_LASTING, R.EVT_FCNT], []⟩
theorem execRetryResult_bounds (p : FaultPlace) (r : FaultEnd) (w : FaultWork) (s : State) : Bounds
    execRetryResult_scope s (execRetryResult p r w s) := by
  unfold execRetryResult
  repeat' first
    | (with_reducible exact Bounds.fault) | (with_reducible refine Bounds.fin ?_ (by decide +kernel))
    | (with_reducible assumption) | (with_reducible apply Within.refl)
    | (with_reducible apply Within.step (State.addSat_within ..); rotate_left; decide +kernel)
    | (with_reducible apply Within.step (State.retest_within ..); rotate_left; decide +kernel)
    | (with_reducible apply Within.step (State.transientFault_within ..); rotate_left; decide +kernel)
    | (with_reducible apply Within.step (State.reloadEntries_within ..); rotate_left; decide +kernel)
    | (with_reducible apply Within.step (State.lastingAt_within ..); rotate_left; decide +kernel)
    | (with_reducible apply Within.step (State.badWork_within ..); rotate_left; decide +kernel) | split

def execD2dTransferFail_scope : Scope := ⟨[.nextOrd, .pwr, .gr, .evt, .tacc, .tb, .tdc, .cal, .twin, .out],
    [R.MBX_GRANGE_STAT, R.FWD_VER_STAT, R.TDC_STAT, R.TDC_EVT_STAT, R.CAL_STAT, R.CAL_EVT_STAT, R.EVT_LAST_FAULT,
    R.EVT_D2D_STAT, R.EVT_STAT, R.TWN_STAT, R.PWR_MODE_CTL, R.PWR_MODE_STAT, R.PWR_RAIL_STAT, R.PWR_CLK_STAT,
    R.EVT_LASTING, R.EVT_FCNT], []⟩
theorem execD2dTransferFail_bounds (retryGood : Bool) (s : State) : Bounds execD2dTransferFail_scope s
    (execD2dTransferFail retryGood s) := by
  unfold execD2dTransferFail
  repeat' first
    | (with_reducible exact Bounds.fault) | (with_reducible refine Bounds.fin ?_ (by decide +kernel))
    | (with_reducible assumption) | (with_reducible apply Within.refl)
    | (with_reducible apply Within.step (State.transientFault_within ..); rotate_left; decide +kernel)
    | (with_reducible apply Within.step (State.d2dFault_within ..); rotate_left; decide +kernel) | split

def execD2dReset_scope : Scope := ⟨[.nextOrd, .pwr, .gr, .evt, .tacc, .tb, .tdc, .cal, .twin, .out],
    [R.MBX_GRANGE_STAT, R.FWD_VER_STAT, R.TDC_STAT, R.TDC_EVT_STAT, R.CAL_STAT, R.CAL_EVT_STAT, R.EVT_LAST_FAULT,
    R.EVT_D2D_STAT, R.EVT_STAT, R.TWN_STAT, R.PWR_MODE_CTL, R.PWR_MODE_STAT, R.PWR_RAIL_STAT, R.PWR_CLK_STAT,
    R.EVT_LASTING, R.EVT_FCNT], []⟩
theorem execD2dReset_bounds (data : Word) (trained : Bool) (s : State) : Bounds execD2dReset_scope s (execD2dReset
    data trained s) := by
  unfold execD2dReset
  repeat' first
    | (with_reducible exact Bounds.fault) | (with_reducible refine Bounds.fin ?_ (by decide +kernel))
    | (with_reducible assumption) | (with_reducible apply Within.refl)
    | (with_reducible apply Within.step (State.updEvt_within ..); rotate_left; decide +kernel)
    | (with_reducible apply Within.step (State.d2dFault_within ..); rotate_left; decide +kernel) | split

def execReplicaReload_scope : Scope := ⟨[.nextOrd, .gr, .evt, .tb, .out], [R.MBX_GRANGE_STAT, R.FWD_VER_STAT,
    R.EVT_D2D_STAT, R.EVT_STAT], []⟩
theorem execReplicaReload_bounds (s : State) : Bounds execReplicaReload_scope s (execReplicaReload s) := by
  unfold execReplicaReload
  repeat' first
    | (with_reducible exact Bounds.fault) | (with_reducible refine Bounds.fin ?_ (by decide +kernel))
    | (with_reducible assumption) | (with_reducible apply Within.refl) | lift_lets
    | (intro v; refine Within.cut (p := Within execReplicaReload_scope s v) ?_ ?_; unfold v; rotate_left; clear_value v; intro hv)
    | (intro v; clear_value v) | intro v
    | (with_reducible apply Within.step (State.noteDoms_within ..); rotate_left; decide +kernel)
    | (with_reducible apply Within.step (State.updEvt_within ..); rotate_left; decide +kernel)
    | (with_reducible apply Within.step (State.updTb_within ..); rotate_left; decide +kernel)
    | (with_reducible apply Within.step (State.wr_within ..); rotate_left; decide +kernel)
    | (with_reducible apply Within.step (State.raise_within ..); rotate_left; decide +kernel)
    | (with_reducible apply Within.each; rotate_left; intro x a hx; try beta_reduce; rotate_left)
    | (with_reducible apply Within.foldl; rotate_left; intro x a hx; try beta_reduce; rotate_left) | split

def execLogRecordEntry_scope : Scope := ⟨[.nextOrd, .gr, .evt, .out], [R.MBX_GRANGE_STAT, R.FWD_VER_STAT,
    R.EVT_LOG_STAT, R.EVT_STAT], []⟩
theorem execLogRecordEntry_bounds (s : State) : Bounds execLogRecordEntry_scope s (execLogRecordEntry s) := by
  unfold execLogRecordEntry
  repeat' first
    | (with_reducible exact Bounds.fault) | (with_reducible refine Bounds.fin ?_ (by decide +kernel))
    | (with_reducible assumption) | (with_reducible apply Within.refl) | lift_lets
    | (intro v; refine Within.cut (p := Within execLogRecordEntry_scope s v) ?_ ?_; unfold v; rotate_left; clear_value v; intro hv)
    | (intro v; clear_value v) | intro v
    | (with_reducible apply Within.step (State.updEvt_within ..); rotate_left; decide +kernel)
    | (with_reducible apply Within.step (State.logEnter_within ..); rotate_left; decide +kernel)
    | (with_reducible apply Within.each; rotate_left; intro x a hx; try beta_reduce; rotate_left)
    | (with_reducible apply Within.foldl; rotate_left; intro x a hx; try beta_reduce; rotate_left) | split

def execLogLatch_scope : Scope := ⟨[.nextOrd, .gr, .evt, .out], [R.MBX_GRANGE_STAT, R.FWD_VER_STAT, R.EVT_LOG], []⟩
theorem execLogLatch_bounds (s : State) : Bounds execLogLatch_scope s (execLogLatch s) := by
  unfold execLogLatch
  repeat' first
    | (with_reducible exact Bounds.fault) | (with_reducible refine Bounds.fin ?_ (by decide +kernel))
    | (with_reducible assumption) | (with_reducible apply Within.refl) | lift_lets
    | (intro v; refine Within.cut (p := Within execLogLatch_scope s v) ?_ ?_; unfold v; rotate_left; clear_value v; intro hv)
    | (intro v; clear_value v) | intro v
    | (with_reducible apply Within.step (State.emit_within ..); rotate_left; decide +kernel)
    | (with_reducible apply Within.step (State.showLatch_within ..); rotate_left; decide +kernel) | split

def execLogRemove_scope : Scope := ⟨[.nextOrd, .gr, .evt, .out], [R.MBX_GRANGE_STAT, R.FWD_VER_STAT, R.EVT_LOG_STAT,
    R.EVT_LOG], []⟩
theorem execLogRemove_bounds (s : State) : Bounds execLogRemove_scope s (execLogRemove s) := by
  unfold execLogRemove
  repeat' first
    | (with_reducible exact Bounds.fault) | (with_reducible refine Bounds.fin ?_ (by decide +kernel))
    | (with_reducible assumption) | (with_reducible apply Within.refl) | lift_lets
    | (intro v; refine Within.cut (p := Within execLogRemove_scope s v) ?_ ?_; unfold v; rotate_left; clear_value v; intro hv)
    | (intro v; clear_value v) | intro v
    | (with_reducible apply Within.step (State.emit_within ..); rotate_left; decide +kernel)
    | (with_reducible apply Within.step (State.latch_within ..); rotate_left; decide +kernel)
    | (with_reducible apply Within.step (State.updEvt_within ..); rotate_left; decide +kernel)
    | (with_reducible apply Within.step (State.showLatch_within ..); rotate_left; decide +kernel)
    | (with_reducible apply Within.step (State.noteLog_within ..); rotate_left; decide +kernel) | split

def execVectorRearm_scope : Scope := ⟨[.nextOrd, .gr, .evt, .out], [R.MBX_GRANGE_STAT, R.FWD_VER_STAT], []⟩
theorem execVectorRearm_bounds (data : Word) (s : State) : Bounds execVectorRearm_scope s (execVectorRearm data s) :=
    by
  unfold execVectorRearm
  repeat' first
    | (with_reducible exact Bounds.fault) | (with_reducible refine Bounds.fin ?_ (by decide +kernel))
    | (with_reducible assumption) | (with_reducible apply Within.refl)
    | (with_reducible apply Within.step (State.rearm_within ..); rotate_left; decide +kernel) | split

def execCmdEvtLogRead_scope : Scope := ⟨[.nextOrd, .mem, .pwr, .gr, .evt, .tacc, .tdc, .cal, .twin, .out],
    [R.MBX_STATE, R.MBX_RETRY_STAT, R.MBX_GRANGE_STAT, R.FWD_VER_STAT, R.TDC_STAT, R.TDC_EVT_STAT, R.CAL_STAT,
    R.CAL_EVT_STAT, R.EVT_LAST_FAULT, R.EVT_LOG_STAT, R.EVT_LOG, R.EVT_STAT, R.TWN_STAT, R.PWR_MODE_CTL,
    R.PWR_MODE_STAT, R.PWR_RAIL_STAT, R.PWR_CLK_STAT, R.EVT_LASTING, R.EVT_FCNT], []⟩
theorem execCmdEvtLogRead_bounds (m : Fin 16) (x : Exec) (s : State) : Bounds execCmdEvtLogRead_scope s
    (execCmdEvtLogRead m x s) := by
  unfold execCmdEvtLogRead
  repeat' first
    | (with_reducible exact Bounds.fault) | (with_reducible refine Bounds.fin ?_ (by decide +kernel))
    | (with_reducible assumption) | (with_reducible apply Within.refl) | lift_lets
    | (intro v; refine Within.cut (p := Within execCmdEvtLogRead_scope s v) ?_ ?_; unfold v; rotate_left; clear_value v; intro hv)
    | (intro v; clear_value v) | intro v
    | (with_reducible apply State.cmd_within; rotate_left; decide +kernel; intro u hu; try beta_reduce)
    | (with_reducible apply Within.step (State.take_within ..); rotate_left; decide +kernel)
    | (with_reducible apply Within.step (State.updEvt_within ..); rotate_left; decide +kernel)
    | (with_reducible apply Within.step (State.showLatch_within ..); rotate_left; decide +kernel)
    | (with_reducible apply Within.step (State.noteLog_within ..); rotate_left; decide +kernel)
    | (with_reducible apply Within.step (State.complete_within ..); rotate_left; decide +kernel) | split

def execCmdEvtSpareReport_scope : Scope := ⟨[.nextOrd, .mem, .pwr, .gr, .evt, .tacc, .tdc, .cal, .twin, .out],
    [R.MBX_STATE, R.MBX_RETRY_STAT, R.MBX_GRANGE_STAT, R.FWD_VER_STAT, R.TDC_STAT, R.TDC_EVT_STAT, R.CAL_STAT,
    R.CAL_EVT_STAT, R.EVT_LAST_FAULT, R.EVT_STAT, R.TWN_STAT, R.PWR_MODE_CTL, R.PWR_MODE_STAT, R.PWR_RAIL_STAT,
    R.PWR_CLK_STAT, R.EVT_LASTING, R.EVT_FCNT], []⟩
theorem execCmdEvtSpareReport_bounds (m : Fin 16) (x : Exec) (s : State) : Bounds execCmdEvtSpareReport_scope s
    (execCmdEvtSpareReport m x s) := by
  unfold execCmdEvtSpareReport
  repeat' first
    | (with_reducible exact Bounds.fault) | (with_reducible refine Bounds.fin ?_ (by decide +kernel))
    | (with_reducible assumption) | (with_reducible apply Within.refl) | lift_lets
    | (intro v; refine Within.cut (p := Within execCmdEvtSpareReport_scope s v) ?_ ?_; unfold v; rotate_left; clear_value v; intro hv)
    | (intro v; clear_value v) | intro v
    | (with_reducible apply State.cmd_within; rotate_left; decide +kernel; intro u hu; try beta_reduce)
    | (with_reducible apply Within.step (State.complete_within ..); rotate_left; decide +kernel) | split

end Sys2Proof.Machine
end

