-- ==== Sys2Proof/Laws/ExecCommit.lean ====
section
/-! SUPPORT. Sys2Proof/Laws/ExecCommit.lean: what each command of Machine/Commit.lean may change. -/
set_option Elab.async false
set_option linter.unusedTactic false
set_option linter.unreachableTactic false
set_option linter.unnecessarySeqFocus false
namespace Sys2Proof.Machine

def execCommitCheckDone_scope : Scope := ⟨[.nextOrd, .nextFrame, .committed, .latches, .mem, .pwr, .boot, .gr, .evt,
    .tally, .tacc, .ports, .cars, .sheaves, .fwd, .grn, .alm, .tb, .tt, .ref, .syn, .tdc, .cal, .twin, .out],
    [R.PWR_RAIL_STAT, R.PWR_CLK_STAT, R.PWR_OCXO_STAT, R.PWR_BOOT_STAT, R.EVT_FCNT], [0, 1, 2, 3, 4, 5, 6, 7, 8, 9,
    10, 11, 12, 14]⟩
theorem execCommitCheckDone_bounds (g : Fin 12) (s : State) : Bounds execCommitCheckDone_scope s (execCommitCheckDone
    g s) := by
  unfold execCommitCheckDone
  repeat' first
    | (with_reducible exact Bounds.fault) | (with_reducible refine Bounds.fin ?_ (by decide +kernel))
    | (with_reducible assumption) | (with_reducible apply Within.refl) | lift_lets
    | (intro v; refine Within.cut (p := Within execCommitCheckDone_scope s v) ?_ ?_; unfold v; rotate_left; clear_value v; intro hv)
    | (intro v; clear_value v) | intro v
    | (with_reducible apply Within.step (State.commitFails_within ..); rotate_left; decide +kernel)
    | (with_reducible apply Within.step (State.endCommit_within ..); rotate_left; decide +kernel)
    | (with_reducible apply Within.step (State.commitWaits_within ..); rotate_left; decide +kernel)
    | (with_reducible apply Within.step (State.withSets_within ..); rotate_left; decide +kernel)
    | (with_reducible apply Within.step (State.notePending_within ..); rotate_left; decide +kernel)
    | (with_reducible apply Within.step (State.applyCommit_within ..); rotate_left; decide +kernel) | split
    | (with_reducible apply Within.step (Within.put_committed _ _ (copySets_rising _ _ _)); rotate_left; decide +kernel)

def execCommitApplyAt_scope : Scope := ⟨[.nextOrd, .nextFrame, .committed, .latches, .mem, .pwr, .boot, .gr, .evt,
    .tally, .tacc, .ports, .cars, .sheaves, .fwd, .grn, .alm, .tb, .tt, .ref, .syn, .tdc, .cal, .twin, .out],
    [R.PWR_RAIL_STAT, R.PWR_CLK_STAT, R.PWR_OCXO_STAT, R.PWR_BOOT_STAT, R.EVT_FCNT], [0, 1, 2, 3, 4, 5, 6, 7, 8, 9,
    10, 11, 12, 14]⟩
theorem execCommitApplyAt_bounds (g : Fin 12) (s : State) : Bounds execCommitApplyAt_scope s (execCommitApplyAt g s)
    := by
  unfold execCommitApplyAt
  repeat' first
    | (with_reducible exact Bounds.fault) | (with_reducible refine Bounds.fin ?_ (by decide +kernel))
    | (with_reducible assumption) | (with_reducible apply Within.refl)
    | (with_reducible apply Within.step (State.applyCommit_within ..); rotate_left; decide +kernel) | split

def execCommitApplyBoundary_scope : Scope := ⟨[.nextOrd, .nextFrame, .committed, .latches, .mem, .pwr, .boot, .gr,
    .evt, .tally, .tacc, .ports, .cars, .sheaves, .fwd, .grn, .alm, .tb, .tt, .ref, .syn, .tdc, .cal, .twin, .out],
    [R.PWR_RAIL_STAT, R.PWR_CLK_STAT, R.PWR_OCXO_STAT, R.PWR_BOOT_STAT, R.EVT_FCNT], [0, 1, 2, 3, 4, 5, 6, 7, 8, 9,
    10, 11, 12, 14]⟩
theorem execCommitApplyBoundary_bounds (g : Fin 12) (s : State) : Bounds execCommitApplyBoundary_scope s
    (execCommitApplyBoundary g s) := by
  unfold execCommitApplyBoundary
  repeat' first
    | (with_reducible exact Bounds.fault) | (with_reducible refine Bounds.fin ?_ (by decide +kernel))
    | (with_reducible assumption) | (with_reducible apply Within.refl) | lift_lets
    | (intro v; refine Within.cut (p := Within execCommitApplyBoundary_scope s v) ?_ ?_; unfold v; rotate_left; clear_value v; intro hv)
    | (intro v; clear_value v) | intro v
    | (with_reducible apply Within.step (State.applyCommit_within ..); rotate_left; decide +kernel) | split

def execCommitGo_scope : Scope := ⟨[.nextOrd, .mem, .gr, .evt, .out], [R.MBX_STATE, R.MBX_RETRY_STAT,
    R.MBX_GRANGE_STAT, R.MBX_COMMIT_STAT, R.FWD_VER_STAT, R.ALM_BANK_STAT, R.EVT_RESERVED_OFS, R.EVT_STAT,
    R.EVT_FCNT], []⟩
theorem execCommitGo_bounds (w : Word) (s : State) : Bounds execCommitGo_scope s (execCommitGo w s) := by
  unfold execCommitGo
  repeat' first
    | (with_reducible exact Bounds.fault) | (with_reducible refine Bounds.fin ?_ (by decide +kernel))
    | (with_reducible assumption) | (with_reducible apply Within.refl)
    | (with_reducible apply Within.step (State.commitGo_within ..); rotate_left; decide +kernel) | split

def execCommitDiscard_scope : Scope := ⟨[.nextOrd, .gr, .evt, .tdc, .cal, .out], [], [0, 1, 2, 3, 4, 5, 6, 7, 8, 9,
    10, 11, 12, 13, 14, 255]⟩
theorem execCommitDiscard_bounds (w : Word) (s : State) : Bounds execCommitDiscard_scope s (execCommitDiscard w s) :=
    by
  unfold execCommitDiscard
  repeat' first
    | (with_reducible exact Bounds.fault) | (with_reducible refine Bounds.fin ?_ (by decide +kernel))
    | (with_reducible assumption) | (with_reducible apply Within.refl)
    | (with_reducible apply Within.step (State.commitDiscard_within ..); rotate_left; decide +kernel) | split

def execCmdCommit_scope : Scope := ⟨[.nextOrd, .mem, .pwr, .gr, .evt, .tacc, .tdc, .cal, .twin, .out], [R.MBX_STATE,
    R.MBX_RETRY_STAT, R.MBX_GRANGE_STAT, R.MBX_COMMIT_STAT, R.FWD_VER_STAT, R.ALM_BANK_STAT, R.TDC_STAT,
    R.TDC_EVT_STAT, R.CAL_STAT, R.CAL_EVT_STAT, R.EVT_LAST_FAULT, R.EVT_STAT, R.TWN_STAT, R.PWR_MODE_CTL,
    R.PWR_MODE_STAT, R.PWR_RAIL_STAT, R.PWR_CLK_STAT, R.EVT_LASTING, R.EVT_FCNT], []⟩
theorem execCmdCommit_bounds (m : Fin 16) (x : Exec) (s : State) : Bounds execCmdCommit_scope s (execCmdCommit m x s)
    := by
  unfold execCmdCommit
  repeat' first
    | (with_reducible exact Bounds.fault) | (with_reducible refine Bounds.fin ?_ (by decide +kernel))
    | (with_reducible assumption) | (with_reducible apply Within.refl) | lift_lets
    | (intro v; refine Within.cut (p := Within execCmdCommit_scope s v) ?_ ?_; unfold v; rotate_left; clear_value v; intro hv)
    | (intro v; clear_value v) | intro v
    | (with_reducible apply State.cmd_within; rotate_left; decide +kernel; intro u hu; try beta_reduce)
    | (with_reducible apply Within.step (State.running_within ..); rotate_left; decide +kernel)
    | (with_reducible apply Within.step (State.requestCommit_within ..); rotate_left; decide +kernel) | split

end Sys2Proof.Machine
end

