-- ==== Sys2Proof/Laws/ExecTables.lean ====
section
/-! SUPPORT. Sys2Proof/Laws/ExecTables.lean: what each command of Machine/Tables.lean may change. -/
set_option Elab.async false
set_option linter.unusedTactic false
set_option linter.unreachableTactic false
set_option linter.unnecessarySeqFocus false
namespace Sys2Proof.Machine

def execTableNotify_scope : Scope := ⟨[.nextOrd, .gr, .evt, .out], [R.MBX_GRANGE_STAT, R.FWD_VER_STAT,
    R.EVT_RESERVED_OFS, R.EVT_STAT, R.MBX_DT_SEQ, R.MBX_DT_STAT], []⟩
theorem execTableNotify_bounds (t : BitVec 8) (w : Word) (s : State) : Bounds execTableNotify_scope s (execTableNotify
    t w s) := by
  unfold execTableNotify
  repeat' first
    | (with_reducible exact Bounds.fault) | (with_reducible refine Bounds.fin ?_ (by decide +kernel))
    | (with_reducible assumption) | (with_reducible apply Within.refl)
    | (with_reducible apply Within.step (State.notify_within ..); rotate_left; decide +kernel) | split

def execEntryFetchDone_scope : Scope := ⟨[.nextOrd, .mem, .pwr, .gr, .evt, .tacc, .tdc, .cal, .twin, .out],
    [R.MBX_STATE, R.MBX_RETRY_STAT, R.MBX_GRANGE_STAT, R.MBX_COMMIT_STAT, R.FWD_STAT, R.FWD_VER_STAT, R.FWD_BAD_ENTRY,
    R.FWD_BAD_ENTRY_CNT, R.FWD_EVT_STAT, R.ALM_BANK_STAT, R.ALM_BAD_ENTRY, R.ALM_BAD_ENTRY_CNT, R.ALM_EVT_STAT,
    R.ALM_EVT_SRC, R.TDC_STAT, R.TDC_EVT_STAT, R.CAL_STAT, R.CAL_EVT_STAT, R.EVT_LAST_FAULT, R.EVT_STAT, R.TWN_STAT,
    R.TWN_TXN_STAT, R.PWR_MODE_CTL, R.PWR_MODE_STAT, R.PWR_RAIL_STAT, R.PWR_CLK_STAT, R.EVT_LASTING, R.EVT_FCNT,
    R.MBX_DT_DONE, R.MBX_DT_STAT], []⟩
theorem execEntryFetchDone_bounds (t : BitVec 8) (r : Fetch) (bytes : List Byte) (s : State) : Bounds
    execEntryFetchDone_scope s (execEntryFetchDone t r bytes s) := by
  unfold execEntryFetchDone
  repeat' first
    | (with_reducible exact Bounds.fault) | (with_reducible refine Bounds.fin ?_ (by decide +kernel))
    | (with_reducible assumption) | (with_reducible apply Within.refl) | lift_lets
    | (intro v; refine Within.cut (p := Within execEntryFetchDone_scope s v) ?_ ?_; unfold v; rotate_left; clear_value v; intro hv)
    | (intro v; clear_value v) | intro v
    | (with_reducible apply Within.step (State.fetchFailed_within ..); rotate_left; decide +kernel)
    | (with_reducible apply Within.step (State.advance_within ..); rotate_left; decide +kernel)
    | (with_reducible apply Within.step (State.addSat_within ..); rotate_left; decide +kernel)
    | (with_reducible apply Within.step (State.transientFault_within ..); rotate_left; decide +kernel)
    | (with_reducible apply Within.step (State.takeEntry_within ..); rotate_left; decide +kernel) | split

def execInstallResume_scope : Scope := ⟨[.nextOrd, .mem, .gr, .evt, .tacc, .twin, .out], [R.MBX_STATE,
    R.MBX_RETRY_STAT, R.MBX_GRANGE_STAT, R.MBX_COMMIT_STAT, R.FWD_STAT, R.FWD_VER_STAT, R.FWD_BAD_ENTRY,
    R.FWD_BAD_ENTRY_CNT, R.FWD_EVT_STAT, R.ALM_BANK_STAT, R.ALM_BAD_ENTRY, R.ALM_BAD_ENTRY_CNT, R.ALM_EVT_STAT,
    R.ALM_EVT_SRC, R.EVT_STAT, R.TWN_TXN_STAT, R.EVT_FCNT, R.MBX_DT_DONE, R.MBX_DT_STAT], []⟩
theorem execInstallResume_bounds (t : BitVec 8) (s : State) : Bounds execInstallResume_scope s (execInstallResume t s)
    := by
  unfold execInstallResume
  repeat' first
    | (with_reducible exact Bounds.fault) | (with_reducible refine Bounds.fin ?_ (by decide +kernel))
    | (with_reducible assumption) | (with_reducible apply Within.refl) | lift_lets
    | (intro v; refine Within.cut (p := Within execInstallResume_scope s v) ?_ ?_; unfold v; rotate_left; clear_value v; intro hv)
    | (intro v; clear_value v) | intro v
    | (with_reducible apply Within.step (State.freeVersions_within ..); rotate_left; decide +kernel)
    | (with_reducible apply Within.step (State.tryInstall_within (h := ?h)); (case h => assumption); rotate_left; decide +kernel)
    | (with_reducible apply Within.step (State.advance_within ..); rotate_left; decide +kernel)
    | (with_reducible apply Within.step (State.noteVersions_within ..); rotate_left; decide +kernel) | split

def execCmdTableBind_scope : Scope := ⟨[.nextOrd, .mem, .pwr, .gr, .evt, .tacc, .tdc, .cal, .twin, .out],
    [R.MBX_STATE, R.MBX_RETRY_STAT, R.MBX_GRANGE_STAT, R.FWD_STAT, R.FWD_VER_STAT, R.ALM_BANK_STAT, R.TDC_STAT,
    R.TDC_EVT_STAT, R.CAL_STAT, R.CAL_EVT_STAT, R.EVT_LAST_FAULT, R.EVT_STAT, R.TWN_STAT, R.TWN_TXN_STAT,
    R.PWR_MODE_CTL, R.PWR_MODE_STAT, R.PWR_RAIL_STAT, R.PWR_CLK_STAT, R.EVT_LASTING, R.EVT_FCNT, R.MBX_DT_SEQ,
    R.MBX_DT_DONE, R.MBX_DT_BIND], []⟩
theorem execCmdTableBind_bounds (m : Fin 16) (x : Exec) (s : State) : Bounds execCmdTableBind_scope s
    (execCmdTableBind m x s) := by
  unfold execCmdTableBind
  repeat' first
    | (with_reducible exact Bounds.fault) | (with_reducible refine Bounds.fin ?_ (by decide +kernel))
    | (with_reducible assumption) | (with_reducible apply Within.refl) | lift_lets
    | (intro v; refine Within.cut (p := Within execCmdTableBind_scope s v) ?_ ?_; unfold v; rotate_left; clear_value v; intro hv)
    | (intro v; clear_value v) | intro v
    | (with_reducible apply State.cmd_within; rotate_left; decide +kernel; intro u hu; try beta_reduce)
    | (with_reducible apply Within.step (State.bindTable_within ..); rotate_left; decide +kernel)
    | (with_reducible apply Within.step (State.mirrorCmd_within ..); rotate_left; decide +kernel)
    | (with_reducible apply Within.step (State.complete_within ..); rotate_left; decide +kernel) | split

def execCmdTableSync_scope : Scope := ⟨[.nextOrd, .mem, .pwr, .gr, .evt, .tacc, .tdc, .cal, .twin, .out],
    [R.MBX_STATE, R.MBX_RETRY_STAT, R.MBX_GRANGE_STAT, R.FWD_VER_STAT, R.TDC_STAT, R.TDC_EVT_STAT, R.CAL_STAT,
    R.CAL_EVT_STAT, R.EVT_LAST_FAULT, R.EVT_STAT, R.TWN_STAT, R.PWR_MODE_CTL, R.PWR_MODE_STAT, R.PWR_RAIL_STAT,
    R.PWR_CLK_STAT, R.EVT_LASTING, R.EVT_FCNT], []⟩
theorem execCmdTableSync_bounds (m : Fin 16) (x : Exec) (s : State) : Bounds execCmdTableSync_scope s
    (execCmdTableSync m x s) := by
  unfold execCmdTableSync
  repeat' first
    | (with_reducible exact Bounds.fault) | (with_reducible refine Bounds.fin ?_ (by decide +kernel))
    | (with_reducible assumption) | (with_reducible apply Within.refl) | lift_lets
    | (intro v; refine Within.cut (p := Within execCmdTableSync_scope s v) ?_ ?_; unfold v; rotate_left; clear_value v; intro hv)
    | (intro v; clear_value v) | intro v
    | (with_reducible apply State.cmd_within; rotate_left; decide +kernel; intro u hu; try beta_reduce)
    | (with_reducible apply Within.step (State.running_within ..); rotate_left; decide +kernel)
    | (with_reducible apply Within.step (State.updTable_within ..); rotate_left; decide +kernel)
    | (with_reducible apply Within.step (State.issueFetches_within ..); rotate_left; decide +kernel) | split
    | (with_reducible apply Within.step (Within.put_nextOrd ..); rotate_left; decide +kernel)

def execCmdTableRead_scope : Scope := ⟨[.nextOrd, .mem, .pwr, .gr, .evt, .tacc, .tdc, .cal, .twin, .out],
    [R.MBX_STATE, R.MBX_RETRY_STAT, R.MBX_GRANGE_STAT, R.FWD_VER_STAT, R.TDC_STAT, R.TDC_EVT_STAT, R.CAL_STAT,
    R.CAL_EVT_STAT, R.EVT_LAST_FAULT, R.EVT_STAT, R.TWN_STAT, R.PWR_MODE_CTL, R.PWR_MODE_STAT, R.PWR_RAIL_STAT,
    R.PWR_CLK_STAT, R.EVT_LASTING, R.EVT_FCNT], []⟩
theorem execCmdTableRead_bounds (m : Fin 16) (x : Exec) (s : State) : Bounds execCmdTableRead_scope s
    (execCmdTableRead m x s) := by
  unfold execCmdTableRead
  repeat' first
    | (with_reducible exact Bounds.fault) | (with_reducible refine Bounds.fin ?_ (by decide +kernel))
    | (with_reducible assumption) | (with_reducible apply Within.refl) | lift_lets
    | (intro v; refine Within.cut (p := Within execCmdTableRead_scope s v) ?_ ?_; unfold v; rotate_left; clear_value v; intro hv)
    | (intro v; clear_value v) | intro v
    | (with_reducible apply State.cmd_within; rotate_left; decide +kernel; intro u hu; try beta_reduce)
    | (with_reducible apply Within.step (State.emit_within ..); rotate_left; decide +kernel)
    | (with_reducible apply Within.step (State.complete_within ..); rotate_left; decide +kernel) | split

end Sys2Proof.Machine
end

