-- ==== Sys2Proof/Laws/ExecPower.lean ====
section
/-! SUPPORT. Sys2Proof/Laws/ExecPower.lean: what each command of Machine/Power.lean may change. -/
set_option Elab.async false
set_option linter.unusedTactic false
set_option linter.unreachableTactic false
set_option linter.unnecessarySeqFocus false
namespace Sys2Proof.Machine

def execFeedConnect_scope : Scope := ⟨[.nextOrd, .pwr, .gr, .evt, .out], [R.MBX_GRANGE_STAT, R.FWD_VER_STAT,
    R.PWR_FEED_STAT, R.PWR_EVT_STAT], []⟩
theorem execFeedConnect_bounds (f : Fin 2) (volt : BitVec 16) (s : State) : Bounds execFeedConnect_scope s
    (execFeedConnect f volt s) := by
  unfold execFeedConnect
  repeat' first
    | (with_reducible exact Bounds.fault) | (with_reducible refine Bounds.fin ?_ (by decide +kernel))
    | (with_reducible assumption) | (with_reducible apply Within.refl) | lift_lets
    | (intro v; refine Within.cut (p := Within execFeedConnect_scope s v) ?_ ?_; unfold v; rotate_left; clear_value v; intro hv)
    | (intro v; clear_value v) | intro v
    | (with_reducible apply Within.step (State.updFeed_within ..); rotate_left; decide +kernel)
    | (with_reducible apply Within.step (State.wr_within ..); rotate_left; decide +kernel)
    | (with_reducible apply Within.step (State.raise_within ..); rotate_left; decide +kernel)
    | (with_reducible apply Within.step (State.feedRegs_within ..); rotate_left; decide +kernel)
    | (with_reducible apply Within.step (State.updPwr_within ..); rotate_left; decide +kernel) | split

def execFeedDisconnect_scope : Scope := ⟨[.nextOrd, .pwr, .gr, .evt, .out], [R.MBX_GRANGE_STAT, R.FWD_VER_STAT,
    R.PWR_FEED_STAT, R.PWR_EVT_STAT], []⟩
theorem execFeedDisconnect_bounds (f : Fin 2) (overV : Bool) (load : Nat) (s : State) : Bounds
    execFeedDisconnect_scope s (execFeedDisconnect f overV load s) := by
  unfold execFeedDisconnect
  repeat' first
    | (with_reducible exact Bounds.fault) | (with_reducible refine Bounds.fin ?_ (by decide +kernel))
    | (with_reducible assumption) | (with_reducible apply Within.refl) | lift_lets
    | (intro v; refine Within.cut (p := Within execFeedDisconnect_scope s v) ?_ ?_; unfold v; rotate_left; clear_value v; intro hv)
    | (intro v; clear_value v) | intro v
    | (with_reducible apply Within.step (State.updFeed_within ..); rotate_left; decide +kernel)
    | (with_reducible apply Within.step (State.raise_within ..); rotate_left; decide +kernel)
    | (with_reducible apply Within.step (State.feedRegs_within ..); rotate_left; decide +kernel)
    | (with_reducible apply Within.step (State.wr_within ..); rotate_left; decide +kernel)
    | (with_reducible apply Within.step (State.updPwr_within ..); rotate_left; decide +kernel) | split

def execRideThroughEnd_scope : Scope := ⟨[.nextOrd, .committed, .latches, .mem, .pwr, .boot, .gr, .evt, .tally, .tacc,
    .ports, .cars, .sheaves, .fwd, .grn, .alm, .tb, .tt, .ref, .syn, .tdc, .cal, .twin, .out], [R.PWR_MODE_CTL,
    R.PWR_MODE_STAT, R.PWR_FEED_STAT, R.PWR_RAIL_STAT, R.PWR_EVT_STAT, R.PWR_CLK_STAT, R.PWR_OCXO_STAT,
    R.PWR_BOOT_STAT, R.EVT_FCNT], [0, 1, 2, 3, 4, 5, 6, 7, 8, 9, 10, 11, 12, 14]⟩
theorem execRideThroughEnd_bounds (s : State) : Bounds execRideThroughEnd_scope s (execRideThroughEnd s) := by
  unfold execRideThroughEnd
  repeat' first
    | (with_reducible exact Bounds.fault) | (with_reducible refine Bounds.fin ?_ (by decide +kernel))
    | (with_reducible assumption) | (with_reducible apply Within.refl)
    | (with_reducible apply Within.step (State.powerFault_within ..); rotate_left; decide +kernel)
    | (with_reducible apply Within.step (State.stop_within ..); rotate_left; decide +kernel) | split

def execChargeComplete_scope : Scope := ⟨[.nextOrd, .pwr, .gr, .evt, .out], [R.MBX_GRANGE_STAT, R.FWD_VER_STAT], []⟩
theorem execChargeComplete_bounds (f : Fin 2) (s : State) : Bounds execChargeComplete_scope s (execChargeComplete f s)
    := by
  unfold execChargeComplete
  repeat' first
    | (with_reducible exact Bounds.fault) | (with_reducible refine Bounds.fin ?_ (by decide +kernel))
    | (with_reducible assumption) | (with_reducible apply Within.refl) | lift_lets
    | (intro v; refine Within.cut (p := Within execChargeComplete_scope s v) ?_ ?_; unfold v; rotate_left; clear_value v; intro hv)
    | (intro v; clear_value v) | intro v
    | (with_reducible apply Within.step (State.updFeed_within ..); rotate_left; decide +kernel)
    | (with_reducible apply Within.step (State.updPwr_within ..); rotate_left; decide +kernel) | split

def execPowerOnReset_scope : Scope := ⟨[.nextOrd, .nextFrame, .nextFree, .committed, .latches, .mem, .pwr, .boot, .gr,
    .evt, .tally, .tacc, .ports, .cars, .sheaves, .fwd, .grn, .alm, .tb, .tt, .ref, .syn, .tdc, .cal, .twin, .out],
    [], [0, 1, 2, 3, 4, 5, 6, 7, 8, 9, 10, 11, 12, 13, 14, 255]⟩
theorem execPowerOnReset_bounds (straps : BitVec 3) (s : State) : Bounds execPowerOnReset_scope s (execPowerOnReset
    straps s) := by
  unfold execPowerOnReset
  repeat' first
    | (with_reducible exact Bounds.fault) | (with_reducible refine Bounds.fin ?_ (by decide +kernel))
    | (with_reducible assumption) | (with_reducible apply Within.refl) | lift_lets
    | (intro v; refine Within.cut (p := Within execPowerOnReset_scope s v) ?_ ?_; unfold v; rotate_left; clear_value v; intro hv)
    | (intro v; clear_value v) | intro v
    | (with_reducible apply Within.step (State.updPwr_within ..); rotate_left; decide +kernel)
    | (with_reducible apply Within.step (State.fromReset_within ..); rotate_left; decide +kernel) | split

def execRailRampTimeout_scope : Scope := ⟨[.nextOrd, .committed, .latches, .mem, .pwr, .boot, .gr, .evt, .tally,
    .tacc, .ports, .cars, .sheaves, .fwd, .grn, .alm, .tb, .tt, .ref, .syn, .tdc, .cal, .twin, .out], [R.PWR_MODE_CTL,
    R.PWR_MODE_STAT, R.PWR_RAIL_STAT, R.PWR_EVT_STAT, R.PWR_CLK_STAT, R.PWR_OCXO_STAT, R.PWR_BOOT_STAT, R.EVT_FCNT],
    [0, 1, 2, 3, 4, 5, 6, 7, 8, 9, 10, 11, 12, 14]⟩
theorem execRailRampTimeout_bounds (r : Fin 8) (s : State) : Bounds execRailRampTimeout_scope s (execRailRampTimeout r
    s) := by
  unfold execRailRampTimeout
  repeat' first
    | (with_reducible exact Bounds.fault) | (with_reducible refine Bounds.fin ?_ (by decide +kernel))
    | (with_reducible assumption) | (with_reducible apply Within.refl)
    | (with_reducible apply Within.step (State.raise_within ..); rotate_left; decide +kernel)
    | (with_reducible apply Within.step (State.powerFault_within ..); rotate_left; decide +kernel) | split

def execRailLeavesRegulation_scope : Scope := ⟨[.nextOrd, .committed, .latches, .mem, .pwr, .boot, .gr, .evt, .tally,
    .tacc, .ports, .cars, .sheaves, .fwd, .grn, .alm, .tb, .tt, .ref, .syn, .tdc, .cal, .twin, .out], [R.PWR_MODE_CTL,
    R.PWR_MODE_STAT, R.PWR_FEED_STAT, R.PWR_RAIL_STAT, R.PWR_EVT_STAT, R.PWR_CLK_STAT, R.PWR_OCXO_STAT,
    R.PWR_BOOT_STAT, R.EVT_FCNT], [0, 1, 2, 3, 4, 5, 6, 7, 8, 9, 10, 11, 12, 14]⟩
theorem execRailLeavesRegulation_bounds (r : Fin 8) (s : State) : Bounds execRailLeavesRegulation_scope s
    (execRailLeavesRegulation r s) := by
  unfold execRailLeavesRegulation
  repeat' first
    | (with_reducible exact Bounds.fault) | (with_reducible refine Bounds.fin ?_ (by decide +kernel))
    | (with_reducible assumption) | (with_reducible apply Within.refl) | lift_lets
    | (intro v; refine Within.cut (p := Within execRailLeavesRegulation_scope s v) ?_ ?_; unfold v; rotate_left; clear_value v; intro hv)
    | (intro v; clear_value v) | intro v
    | (with_reducible apply Within.step (State.wr_within ..); rotate_left; decide +kernel)
    | (with_reducible apply Within.step (State.raise_within ..); rotate_left; decide +kernel)
    | (with_reducible apply Within.step (State.powerFault_within ..); rotate_left; decide +kernel)
    | (with_reducible apply Within.step (State.stop_within ..); rotate_left; decide +kernel)
    | (with_reducible apply Within.step (State.updPwr_within ..); rotate_left; decide +kernel) | split

def execFeedMonitorUpdate_scope : Scope := ⟨[.nextOrd, .pwr, .gr, .evt, .out], [R.MBX_GRANGE_STAT, R.FWD_VER_STAT,
    R.PWR_FEED_STAT, R.PWR_FEED_MON_0, R.PWR_FEED_MON_1], []⟩
theorem execFeedMonitorUpdate_bounds (va ca vb cb : BitVec 16) (revA revB : Bool) (s : State) : Bounds
    execFeedMonitorUpdate_scope s (execFeedMonitorUpdate va ca vb cb revA revB s) := by
  unfold execFeedMonitorUpdate
  repeat' first
    | (with_reducible exact Bounds.fault) | (with_reducible refine Bounds.fin ?_ (by decide +kernel))
    | (with_reducible assumption) | (with_reducible apply Within.refl) | lift_lets
    | (intro v; refine Within.cut (p := Within execFeedMonitorUpdate_scope s v) ?_ ?_; unfold v; rotate_left; clear_value v; intro hv)
    | (intro v; clear_value v) | intro v
    | (with_reducible apply Within.step (State.wr_within ..); rotate_left; decide +kernel)
    | (with_reducible apply Within.step (State.updPwr_within ..); rotate_left; decide +kernel)
    | (with_reducible apply Within.step (State.feedRegs_within ..); rotate_left; decide +kernel) | split

def execResetPin_scope : Scope := ⟨[.nextOrd, .nextFrame, .nextFree, .committed, .latches, .mem, .pwr, .boot, .gr,
    .evt, .tally, .tacc, .ports, .cars, .sheaves, .fwd, .grn, .alm, .tb, .tt, .ref, .syn, .tdc, .cal, .twin, .out],
    [], [0, 1, 2, 3, 4, 5, 6, 7, 8, 9, 10, 11, 12, 13, 14, 255]⟩
theorem execResetPin_bounds (lowNs : Nat) (s : State) : Bounds execResetPin_scope s (execResetPin lowNs s) := by
  unfold execResetPin
  repeat' first
    | (with_reducible exact Bounds.fault) | (with_reducible refine Bounds.fin ?_ (by decide +kernel))
    | (with_reducible assumption) | (with_reducible apply Within.refl)
    | (with_reducible apply Within.step (State.moduleReset_within ..); rotate_left; decide +kernel) | split
    | (with_reducible apply Within.step (Within.put_nextFree ..); rotate_left; decide +kernel)

def execSoftwareModuleReset_scope : Scope := ⟨[.nextOrd, .nextFrame, .nextFree, .committed, .latches, .mem, .pwr,
    .boot, .gr, .evt, .tally, .tacc, .ports, .cars, .sheaves, .fwd, .grn, .alm, .tb, .tt, .ref, .syn, .tdc, .cal,
    .twin, .out], [], [0, 1, 2, 3, 4, 5, 6, 7, 8, 9, 10, 11, 12, 13, 14, 255]⟩
theorem execSoftwareModuleReset_bounds (data : Word) (s : State) : Bounds execSoftwareModuleReset_scope s
    (execSoftwareModuleReset data s) := by
  unfold execSoftwareModuleReset
  repeat' first
    | (with_reducible exact Bounds.fault) | (with_reducible refine Bounds.fin ?_ (by decide +kernel))
    | (with_reducible assumption) | (with_reducible apply Within.refl)
    | (with_reducible apply Within.step (State.resetCtl_within ..); rotate_left; decide +kernel) | split

def execSoftwareSwitchReset_scope : Scope := ⟨[.nextOrd, .nextFrame, .nextFree, .committed, .latches, .mem, .pwr,
    .boot, .gr, .evt, .tally, .tacc, .ports, .cars, .sheaves, .fwd, .grn, .alm, .tb, .tt, .ref, .syn, .tdc, .cal,
    .twin, .out], [], [0, 1, 2, 3, 4, 5, 6, 7, 8, 9, 10, 11, 12, 13, 14, 255]⟩
theorem execSoftwareSwitchReset_bounds (data : Word) (s : State) : Bounds execSoftwareSwitchReset_scope s
    (execSoftwareSwitchReset data s) := by
  unfold execSoftwareSwitchReset
  repeat' first
    | (with_reducible exact Bounds.fault) | (with_reducible refine Bounds.fin ?_ (by decide +kernel))
    | (with_reducible assumption) | (with_reducible apply Within.refl)
    | (with_reducible apply Within.step (State.resetCtl_within ..); rotate_left; decide +kernel) | split

def execGrangeWatchdogReset_scope : Scope := ⟨[.nextOrd, .nextFree, .boot, .gr, .evt, .out], [R.MBX_GRANGE_STAT,
    R.FWD_VER_STAT, R.PWR_RESET_CAUSE, R.PWR_BOOT_STAT], []⟩
theorem execGrangeWatchdogReset_bounds (s : State) : Bounds execGrangeWatchdogReset_scope s (execGrangeWatchdogReset
    s) := by
  unfold execGrangeWatchdogReset
  repeat' first
    | (with_reducible exact Bounds.fault) | (with_reducible refine Bounds.fin ?_ (by decide +kernel))
    | (with_reducible assumption) | (with_reducible apply Within.refl) | lift_lets
    | (intro v; refine Within.cut (p := Within execGrangeWatchdogReset_scope s v) ?_ ?_; unfold v; rotate_left; clear_value v; intro hv)
    | (intro v; clear_value v) | intro v
    | (with_reducible apply Within.step (State.resetCause_within ..); rotate_left; decide +kernel)
    | (with_reducible apply Within.step (State.addSat_within ..); rotate_left; decide +kernel)
    | (with_reducible apply Within.step (State.startBoot_within ..); rotate_left; decide +kernel) | split

def execPcieFundamentalReset_scope : Scope := ⟨[.nextOrd, .pwr, .gr, .evt, .out], [R.MBX_GRANGE_STAT, R.FWD_VER_STAT,
    R.PWR_RESET_CAUSE], []⟩
theorem execPcieFundamentalReset_bounds (low : Bool) (s : State) : Bounds execPcieFundamentalReset_scope s
    (execPcieFundamentalReset low s) := by
  unfold execPcieFundamentalReset
  repeat' first
    | (with_reducible exact Bounds.fault) | (with_reducible refine Bounds.fin ?_ (by decide +kernel))
    | (with_reducible assumption) | (with_reducible apply Within.refl) | lift_lets
    | (intro v; refine Within.cut (p := Within execPcieFundamentalReset_scope s v) ?_ ?_; unfold v; rotate_left; clear_value v; intro hv)
    | (intro v; clear_value v) | intro v
    | (with_reducible apply Within.step (State.updPwr_within ..); rotate_left; decide +kernel)
    | (with_reducible apply Within.step (State.resetCause_within ..); rotate_left; decide +kernel)
    | (with_reducible apply Within.step (State.updGr_within ..); rotate_left; decide +kernel) | split

def execOcxoHoldWarmWrite_scope : Scope := ⟨[.nextOrd, .committed, .latches, .mem, .pwr, .boot, .gr, .evt, .tally,
    .tacc, .ports, .cars, .sheaves, .fwd, .grn, .alm, .tb, .tt, .ref, .syn, .tdc, .cal, .twin, .out], [R.PWR_MODE_CTL,
    R.PWR_RAIL_STAT, R.PWR_CLK_STAT, R.PWR_OCXO_STAT, R.PWR_BOOT_STAT, R.EVT_FCNT], [0, 1, 2, 3, 4, 5, 6, 7, 8, 9, 10,
    11, 12, 14]⟩
theorem execOcxoHoldWarmWrite_bounds (v : Bool) (s : State) : Bounds execOcxoHoldWarmWrite_scope s
    (execOcxoHoldWarmWrite v s) := by
  unfold execOcxoHoldWarmWrite
  repeat' first
    | (with_reducible exact Bounds.fault) | (with_reducible refine Bounds.fin ?_ (by decide +kernel))
    | (with_reducible assumption) | (with_reducible apply Within.refl)
    | (with_reducible apply Within.step (State.holdWarm_within ..); rotate_left; decide +kernel) | split

def execSmbRegisterWrite_scope : Scope := ⟨[.nextOrd, .nextFrame, .nextFree, .committed, .latches, .mem, .pwr, .boot,
    .gr, .evt, .tally, .tacc, .ports, .cars, .sheaves, .fwd, .grn, .alm, .tb, .tt, .ref, .syn, .tdc, .cal, .twin,
    .out], [], [0, 1, 2, 3, 4, 5, 6, 7, 8, 9, 10, 11, 12, 13, 14, 255]⟩
theorem execSmbRegisterWrite_bounds (count : Nat) (ofs : BitVec 16) (data : Word) (pec : Option Byte) (s : State) :
    Bounds execSmbRegisterWrite_scope s (execSmbRegisterWrite count ofs data pec s) := by
  unfold execSmbRegisterWrite
  repeat' first
    | (with_reducible exact Bounds.fault) | (with_reducible refine Bounds.fin ?_ (by decide +kernel))
    | (with_reducible assumption) | (with_reducible apply Within.refl) | lift_lets
    | (intro v; refine Within.cut (p := Within execSmbRegisterWrite_scope s v) ?_ ?_; unfold v; rotate_left; clear_value v; intro hv)
    | (intro v; clear_value v) | intro v
    | (with_reducible apply Within.step (State.addSat_within ..); rotate_left; decide +kernel)
    | (with_reducible apply Within.step (State.raise_within ..); rotate_left; decide +kernel)
    | (with_reducible apply Within.step (State.aonWrite_within (hb := (regAt_aon (by assumption)).1) (hp := (regAt_aon (by assumption)).2) ..); rotate_left; decide +kernel)
    | split

def execSmbRegisterRead_scope : Scope := ⟨[.nextOrd, .gr, .evt, .out], [R.MBX_GRANGE_STAT, R.FWD_VER_STAT,
    R.PWR_SMB_STAT], []⟩
theorem execSmbRegisterRead_bounds (count : Nat) (ofs : BitVec 16) (s : State) : Bounds execSmbRegisterRead_scope s
    (execSmbRegisterRead count ofs s) := by
  unfold execSmbRegisterRead
  repeat' first
    | (with_reducible exact Bounds.fault) | (with_reducible refine Bounds.fin ?_ (by decide +kernel))
    | (with_reducible assumption) | (with_reducible apply Within.refl) | lift_lets
    | (intro v; refine Within.cut (p := Within execSmbRegisterRead_scope s v) ?_ ?_; unfold v; rotate_left; clear_value v; intro hv)
    | (intro v; clear_value v) | intro v
    | (with_reducible apply Within.step (State.addSat_within ..); rotate_left; decide +kernel)
    | (with_reducible apply Within.step (State.emit_within ..); rotate_left; decide +kernel) | split

def execSmbAlertResponse_scope : Scope := ⟨[.nextOrd, .gr, .evt, .out], [R.MBX_GRANGE_STAT, R.FWD_VER_STAT], []⟩
theorem execSmbAlertResponse_bounds (s : State) : Bounds execSmbAlertResponse_scope s (execSmbAlertResponse s) := by
  unfold execSmbAlertResponse
  repeat' first
    | (with_reducible exact Bounds.fault) | (with_reducible refine Bounds.fin ?_ (by decide +kernel))
    | (with_reducible assumption) | (with_reducible apply Within.refl)
    | (with_reducible apply Within.step (State.emit_within ..); rotate_left; decide +kernel) | split

def execSmbClockLowTimeout_scope : Scope := ⟨[.nextOrd, .gr, .evt, .out], [R.MBX_GRANGE_STAT, R.FWD_VER_STAT], []⟩
theorem execSmbClockLowTimeout_bounds (s : State) : Bounds execSmbClockLowTimeout_scope s (execSmbClockLowTimeout s)
    := by
  unfold execSmbClockLowTimeout
  repeat' first
    | (with_reducible exact Bounds.fault) | (with_reducible refine Bounds.fin ?_ (by decide +kernel))
    | (with_reducible assumption) | (with_reducible apply Within.refl) | split

def execTapInstruction_scope : Scope := ⟨[.nextOrd, .pwr, .gr, .evt, .out], [R.MBX_GRANGE_STAT, R.FWD_VER_STAT], []⟩
theorem execTapInstruction_bounds (i : TapInstr) (s : State) : Bounds execTapInstruction_scope s (execTapInstruction i
    s) := by
  unfold execTapInstruction
  repeat' first
    | (with_reducible exact Bounds.fault) | (with_reducible refine Bounds.fin ?_ (by decide +kernel))
    | (with_reducible assumption) | (with_reducible apply Within.refl)
    | (with_reducible apply Within.step (State.updPwr_within ..); rotate_left; decide +kernel)
    | (with_reducible apply Within.step (State.emit_within ..); rotate_left; decide +kernel) | split

def execTapReset_scope : Scope := ⟨[.nextOrd, .pwr, .gr, .evt, .out], [R.MBX_GRANGE_STAT, R.FWD_VER_STAT], []⟩
theorem execTapReset_bounds (s : State) : Bounds execTapReset_scope s (execTapReset s) := by
  unfold execTapReset
  repeat' first
    | (with_reducible exact Bounds.fault) | (with_reducible refine Bounds.fin ?_ (by decide +kernel))
    | (with_reducible assumption) | (with_reducible apply Within.refl)
    | (with_reducible apply Within.step (State.updPwr_within ..); rotate_left; decide +kernel) | split

end Sys2Proof.Machine
end

