-- ==== Sys2Proof/Laws/ExecModes.lean ====
section
/-! SUPPORT. Sys2Proof/Laws/ExecModes.lean: what each command of Machine/Modes.lean may change. -/
set_option Elab.async false
set_option linter.unusedTactic false
set_option linter.unreachableTactic false
set_option linter.unnecessarySeqFocus false
namespace Sys2Proof.Machine

def execModeRequest_scope : Scope := ⟨[.nextOrd, .pwr, .gr, .evt, .tacc, .tdc, .cal, .twin, .out], [R.MBX_GRANGE_STAT,
    R.FWD_VER_STAT, R.TDC_STAT, R.TDC_EVT_STAT, R.CAL_STAT, R.CAL_EVT_STAT, R.EVT_RESERVED_OFS, R.EVT_STAT,
    R.TWN_STAT, R.PWR_MODE_CTL, R.PWR_MODE_STAT, R.PWR_RAIL_STAT, R.PWR_CLK_STAT], []⟩
theorem execModeRequest_bounds (mode : BitVec 3) (smbus : Bool) (s : State) : Bounds execModeRequest_scope s
    (execModeRequest mode smbus s) := by
  unfold execModeRequest
  repeat' first
    | (with_reducible exact Bounds.fault) | (with_reducible refine Bounds.fin ?_ (by decide +kernel))
    | (with_reducible assumption) | (with_reducible apply Within.refl)
    | (with_reducible apply Within.step (State.hostMode_within ..); rotate_left; decide +kernel) | split

def execTransitionComplete_scope : Scope := ⟨[.nextOrd, .nextFree, .committed, .latches, .mem, .pwr, .boot, .gr, .evt,
    .tally, .tacc, .ports, .cars, .sheaves, .fwd, .grn, .alm, .tb, .tt, .ref, .syn, .tdc, .cal, .twin, .out],
    [R.PWR_MODE_CTL, R.PWR_MODE_STAT, R.PWR_RAIL_STAT, R.PWR_CLK_STAT, R.PWR_OCXO_STAT, R.PWR_BOOT_STAT, R.EVT_FCNT],
    [0, 1, 2, 3, 4, 5, 6, 7, 8, 9, 10, 11, 12, 14]⟩
theorem execTransitionComplete_bounds (s : State) : Bounds execTransitionComplete_scope s (execTransitionComplete s)
    := by
  unfold execTransitionComplete
  repeat' first
    | (with_reducible exact Bounds.fault) | (with_reducible refine Bounds.fin ?_ (by decide +kernel))
    | (with_reducible assumption) | (with_reducible apply Within.refl) | lift_lets
    | (intro v; refine Within.cut (p := Within execTransitionComplete_scope s v) ?_ ?_; unfold v; rotate_left; clear_value v; intro hv)
    | (intro v; clear_value v) | intro v
    | (with_reducible apply Within.step (State.enterIsolate_within ..); rotate_left; decide +kernel)
    | (with_reducible apply Within.step (State.endTrans_within ..); rotate_left; decide +kernel)
    | (with_reducible apply Within.step (State.oldOff_within ..); rotate_left; decide +kernel)
    | (with_reducible apply Within.step (State.rampsDone_within ..); rotate_left; decide +kernel)
    | (with_reducible apply Within.step (State.enterDormant_within ..); rotate_left; decide +kernel)
    | (with_reducible apply Within.step (State.enterWarmup_within ..); rotate_left; decide +kernel)
    | (with_reducible apply Within.step (State.enterTimekeep_within ..); rotate_left; decide +kernel)
    | (with_reducible apply Within.step (State.enterForward_within ..); rotate_left; decide +kernel)
    | (with_reducible apply Within.step (State.enterCalibrate_within ..); rotate_left; decide +kernel) | split

def execWarmupToTimekeep_scope : Scope := ⟨[.nextOrd, .committed, .latches, .mem, .pwr, .boot, .gr, .evt, .tally,
    .tacc, .ports, .cars, .sheaves, .fwd, .grn, .alm, .tb, .tt, .ref, .syn, .tdc, .cal, .twin, .out], [R.PWR_MODE_CTL,
    R.PWR_MODE_STAT, R.PWR_RAIL_STAT, R.PWR_CLK_STAT, R.PWR_OCXO_STAT, R.PWR_BOOT_STAT, R.EVT_FCNT], [0, 1, 2, 3, 4,
    5, 6, 7, 8, 9, 10, 11, 12, 14]⟩
theorem execWarmupToTimekeep_bounds (s : State) : Bounds execWarmupToTimekeep_scope s (execWarmupToTimekeep s) := by
  unfold execWarmupToTimekeep
  repeat' first
    | (with_reducible exact Bounds.fault) | (with_reducible refine Bounds.fin ?_ (by decide +kernel))
    | (with_reducible assumption) | (with_reducible apply Within.refl)
    | (with_reducible apply Within.step (State.enterTimekeep_within ..); rotate_left; decide +kernel)
    | (with_reducible apply Within.step (State.endTrans_within ..); rotate_left; decide +kernel) | split

def execOldRailsOff_scope : Scope := ⟨[.nextOrd, .committed, .latches, .mem, .pwr, .boot, .gr, .evt, .tally, .tacc,
    .ports, .cars, .sheaves, .fwd, .grn, .alm, .tb, .tt, .ref, .syn, .tdc, .cal, .twin, .out], [R.PWR_RAIL_STAT,
    R.PWR_CLK_STAT, R.PWR_OCXO_STAT, R.PWR_BOOT_STAT, R.EVT_FCNT], [0, 1, 2, 3, 4, 5, 6, 7, 8, 9, 10, 11, 12, 14]⟩
theorem execOldRailsOff_bounds (s : State) : Bounds execOldRailsOff_scope s (execOldRailsOff s) := by
  unfold execOldRailsOff
  repeat' first
    | (with_reducible exact Bounds.fault) | (with_reducible refine Bounds.fin ?_ (by decide +kernel))
    | (with_reducible assumption) | (with_reducible apply Within.refl)
    | (with_reducible apply Within.step (State.oldOff_within ..); rotate_left; decide +kernel) | split

def execOcxoWarmSet_scope : Scope := ⟨[.nextOrd, .pwr, .gr, .evt, .tacc, .tb, .ref, .syn, .twin, .out],
    [R.MBX_GRANGE_STAT, R.PRT_OPT_STAT, R.FWD_VER_STAT, R.TBS_EVT_STAT, R.TBS_TRIG_SKIP, R.REF_EVT_STAT, R.CAL_STAT,
    R.EVT_STAT, R.TWN_STAT, R.PWR_MODE_CTL, R.PWR_RAIL_STAT, R.PWR_CLK_STAT, R.PWR_OCXO_STAT], []⟩
theorem execOcxoWarmSet_bounds (err : BitVec 16) (s : State) : Bounds execOcxoWarmSet_scope s (execOcxoWarmSet err s)
    := by
  unfold execOcxoWarmSet
  repeat' first
    | (with_reducible exact Bounds.fault) | (with_reducible refine Bounds.fin ?_ (by decide +kernel))
    | (with_reducible assumption) | (with_reducible apply Within.refl) | lift_lets
    | (intro v; refine Within.cut (p := Within execOcxoWarmSet_scope s v) ?_ ?_; unfold v; rotate_left; clear_value v; intro hv)
    | (intro v; clear_value v) | intro v
    | (with_reducible apply Within.step (State.railUp_within ..); rotate_left; decide +kernel)
    | (with_reducible apply Within.step (State.noteOven_within ..); rotate_left; decide +kernel)
    | (with_reducible apply Within.step (State.wr_within ..); rotate_left; decide +kernel)
    | (with_reducible apply Within.step (State.firstWarm_within ..); rotate_left; decide +kernel)
    | (with_reducible apply Within.step (State.select_within ..); rotate_left; decide +kernel)
    | (with_reducible apply Within.step (State.plan_within ..); rotate_left; decide +kernel) | split

def execOcxoWarmClear_scope : Scope := ⟨[.nextOrd, .pwr, .gr, .evt, .ref, .out], [R.MBX_GRANGE_STAT, R.FWD_VER_STAT,
    R.PWR_CLK_STAT, R.PWR_OCXO_STAT], []⟩
theorem execOcxoWarmClear_bounds (err : BitVec 16) (s : State) : Bounds execOcxoWarmClear_scope s (execOcxoWarmClear
    err s) := by
  unfold execOcxoWarmClear
  repeat' first
    | (with_reducible exact Bounds.fault) | (with_reducible refine Bounds.fin ?_ (by decide +kernel))
    | (with_reducible assumption) | (with_reducible apply Within.refl) | lift_lets
    | (intro v; refine Within.cut (p := Within execOcxoWarmClear_scope s v) ?_ ?_; unfold v; rotate_left; clear_value v; intro hv)
    | (intro v; clear_value v) | intro v
    | (with_reducible apply Within.step (State.noteOven_within ..); rotate_left; decide +kernel)
    | (with_reducible apply Within.step (State.wr_within ..); rotate_left; decide +kernel)
    | (with_reducible apply Within.step (State.updPwr_within ..); rotate_left; decide +kernel)
    | (with_reducible apply Within.step (State.select_within ..); rotate_left; decide +kernel) | split

def execMdllLock_scope : Scope := ⟨[.nextOrd, .pwr, .gr, .evt, .tb, .ref, .syn, .out], [R.MBX_GRANGE_STAT,
    R.FWD_VER_STAT, R.TBS_EVT_STAT, R.TBS_TRIG_SKIP, R.REF_EVT_STAT, R.PWR_CLK_STAT], []⟩
theorem execMdllLock_bounds (s : State) : Bounds execMdllLock_scope s (execMdllLock s) := by
  unfold execMdllLock
  repeat' first
    | (with_reducible exact Bounds.fault) | (with_reducible refine Bounds.fin ?_ (by decide +kernel))
    | (with_reducible assumption) | (with_reducible apply Within.refl) | lift_lets
    | (intro v; refine Within.cut (p := Within execMdllLock_scope s v) ?_ ?_; unfold v; rotate_left; clear_value v; intro hv)
    | (intro v; clear_value v) | intro v
    | (with_reducible apply Within.step (State.updPwr_within ..); rotate_left; decide +kernel)
    | (with_reducible apply Within.step (State.wr_within ..); rotate_left; decide +kernel)
    | (with_reducible apply Within.step (State.coreClock_within ..); rotate_left; decide +kernel)
    | (with_reducible apply Within.step (State.updDom_within ..); rotate_left; decide +kernel)
    | (with_reducible apply Within.step (State.updRef_within ..); rotate_left; decide +kernel)
    | (with_reducible apply Within.step (State.firstWarm_within ..); rotate_left; decide +kernel)
    | (with_reducible apply Within.each; rotate_left; intro x a hx; try beta_reduce; rotate_left)
    | (with_reducible apply Within.foldl; rotate_left; intro x a hx; try beta_reduce; rotate_left) | split

def execLockLost_scope : Scope := ⟨[.nextOrd, .pwr, .gr, .evt, .tacc, .tdc, .cal, .twin, .out], [R.MBX_GRANGE_STAT,
    R.FWD_VER_STAT, R.SYN_EVT_STAT, R.TDC_STAT, R.TDC_EVT_STAT, R.CAL_STAT, R.CAL_EVT_STAT, R.EVT_LAST_FAULT,
    R.EVT_STAT, R.TWN_STAT, R.PWR_MODE_CTL, R.PWR_MODE_STAT, R.PWR_RAIL_STAT, R.PWR_CLK_STAT, R.EVT_LASTING,
    R.EVT_FCNT], []⟩
theorem execLockLost_bounds (s : State) : Bounds execLockLost_scope s (execLockLost s) := by
  unfold execLockLost
  repeat' first
    | (with_reducible exact Bounds.fault) | (with_reducible refine Bounds.fin ?_ (by decide +kernel))
    | (with_reducible assumption) | (with_reducible apply Within.refl) | lift_lets
    | (intro v; refine Within.cut (p := Within execLockLost_scope s v) ?_ ?_; unfold v; rotate_left; clear_value v; intro hv)
    | (intro v; clear_value v) | intro v
    | (with_reducible apply Within.step (State.updPwr_within ..); rotate_left; decide +kernel)
    | (with_reducible apply Within.step (State.wr_within ..); rotate_left; decide +kernel)
    | (with_reducible apply Within.step (State.raise_within ..); rotate_left; decide +kernel)
    | (with_reducible apply Within.step (State.lastingFault_within ..); rotate_left; decide +kernel) | split

def execTempEstimate_scope : Scope := ⟨[.nextOrd, .pwr, .gr, .evt, .tacc, .tdc, .cal, .twin, .out],
    [R.MBX_GRANGE_STAT, R.FWD_VER_STAT, R.TDC_STAT, R.TDC_EVT_STAT, R.CAL_STAT, R.CAL_EVT_STAT, R.EVT_STAT,
    R.TWN_STAT, R.PWR_MODE_CTL, R.PWR_MODE_STAT, R.PWR_RAIL_STAT, R.PWR_EVT_STAT, R.PWR_TEMP, R.PWR_CLK_STAT], []⟩
theorem execTempEstimate_bounds (caseT dieMax : BitVec 16) (s : State) : Bounds execTempEstimate_scope s
    (execTempEstimate caseT dieMax s) := by
  unfold execTempEstimate
  repeat' first
    | (with_reducible exact Bounds.fault) | (with_reducible refine Bounds.fin ?_ (by decide +kernel))
    | (with_reducible assumption) | (with_reducible apply Within.refl) | lift_lets
    | (intro v; refine Within.cut (p := Within execTempEstimate_scope s v) ?_ ?_; unfold v; rotate_left; clear_value v; intro hv)
    | (intro v; clear_value v) | intro v
    | (with_reducible apply Within.step (State.wr_within ..); rotate_left; decide +kernel)
    | (with_reducible apply Within.step (State.updPwr_within ..); rotate_left; decide +kernel)
    | (with_reducible apply Within.step (State.raise_within ..); rotate_left; decide +kernel)
    | (with_reducible apply Within.step (State.isolate_within ..); rotate_left; decide +kernel)
    | (with_reducible apply Within.step (State.trigger_within ..); rotate_left; decide +kernel) | split

def execLanePowered_scope : Scope := ⟨[.nextOrd, .pwr, .gr, .evt, .tacc, .ports, .cars, .sheaves, .fwd, .grn, .alm,
    .tt, .ref, .cal, .twin, .out], [R.MBX_GRANGE_STAT, R.PRT_STAT, R.PRT_OPT_STAT, R.SHF_SHEAF_STAT, R.SHF_LOSS_WAIT,
    R.SHF_TT_STAT, R.SHF_TT_EVT_STAT, R.SHF_CAR_STAT, R.FWD_VER_STAT, R.FWD_EVT_STAT, R.FWD_EGR_STAT, R.GRN_POOL_STAT,
    R.GRN_SILO_STAT, R.GRN_EVT_STAT, R.ALM_EVT_STAT, R.ALM_EVT_SRC, R.REF_SRC_STAT, R.EVT_STAT, R.PWR_RAIL_STAT,
    R.PWR_CLK_STAT], []⟩
theorem execLanePowered_bounds (lane : Fin 260) (s : State) : Bounds execLanePowered_scope s (execLanePowered lane s)
    := by
  unfold execLanePowered
  repeat' first
    | (with_reducible exact Bounds.fault) | (with_reducible refine Bounds.fin ?_ (by decide +kernel))
    | (with_reducible assumption) | (with_reducible apply Within.refl) | lift_lets
    | (intro v; refine Within.cut (p := Within execLanePowered_scope s v) ?_ ?_; unfold v; rotate_left; clear_value v; intro hv)
    | (intro v; clear_value v) | intro v
    | (with_reducible apply Within.step (State.rampRail_within ..); rotate_left; decide +kernel)
    | (with_reducible apply Within.step (State.railUp_within ..); rotate_left; decide +kernel)
    | (with_reducible apply Within.step (State.wr_within ..); rotate_left; decide +kernel)
    | (with_reducible apply Within.step (State.updPwr_within ..); rotate_left; decide +kernel)
    | (with_reducible apply Within.step (State.updPath_within ..); rotate_left; decide +kernel)
    | (with_reducible apply Within.step (State.updMlane_within ..); rotate_left; decide +kernel)
    | (with_reducible apply Within.step (State.toWait_within ..); rotate_left; decide +kernel)
    | (with_reducible apply Within.step (State.noteLine_within ..); rotate_left; decide +kernel)
    | (with_reducible apply Within.step (State.toCarWait_within ..); rotate_left; decide +kernel)
    | (with_reducible apply Within.step (State.updCar_within ..); rotate_left; decide +kernel)
    | (with_reducible apply Within.each; rotate_left; intro x a hx; try beta_reduce; rotate_left)
    | (with_reducible apply Within.foldl; rotate_left; intro x a hx; try beta_reduce; rotate_left) | split

def execBootCheckDone_scope : Scope := ⟨[.nextOrd, .nextFree, .mem, .pwr, .boot, .gr, .evt, .tacc, .tdc, .cal, .twin,
    .out], [R.MBX_STATE, R.MBX_RETRY_STAT, R.MBX_GRANGE_STAT, R.FWD_VER_STAT, R.TDC_STAT, R.TDC_EVT_STAT, R.CAL_STAT,
    R.CAL_EVT_STAT, R.EVT_LAST_FAULT, R.EVT_STAT, R.TWN_STAT, R.PWR_MODE_CTL, R.PWR_MODE_STAT, R.PWR_RAIL_STAT,
    R.PWR_CLK_STAT, R.PWR_BOOT_STAT, R.EVT_LASTING, R.EVT_FCNT], []⟩
theorem execBootCheckDone_bounds (r : ImageCheck) (s : State) : Bounds execBootCheckDone_scope s (execBootCheckDone r
    s) := by
  unfold execBootCheckDone
  repeat' first
    | (with_reducible exact Bounds.fault) | (with_reducible refine Bounds.fin ?_ (by decide +kernel))
    | (with_reducible assumption) | (with_reducible apply Within.refl) | lift_lets
    | (intro v; refine Within.cut (p := Within execBootCheckDone_scope s v) ?_ ?_; unfold v; rotate_left; clear_value v; intro hv)
    | (intro v; clear_value v) | intro v
    | (with_reducible apply Within.step (State.running_within ..); rotate_left; decide +kernel)
    | (with_reducible apply Within.step (State.checkFailed_within ..); rotate_left; decide +kernel)
    | (with_reducible apply Within.step (State.transientFault_within ..); rotate_left; decide +kernel)
    | (with_reducible apply Within.step (State.slotFailed_within ..); rotate_left; decide +kernel)
    | (with_reducible apply Within.step (State.wr_within ..); rotate_left; decide +kernel)
    | (with_reducible apply Within.step (State.bootOver_within ..); rotate_left; decide +kernel)
    | (with_reducible apply Within.step (State.plan_within ..); rotate_left; decide +kernel) | split

end Sys2Proof.Machine
end

