-- ==== Sys2Proof/Laws/ExecRegCmd.lean ====
section
/-! SUPPORT. Sys2Proof/Laws/ExecRegCmd.lean: what each command of Machine/RegCmd.lean may change. -/
set_option Elab.async false
set_option linter.unusedTactic false
set_option linter.unreachableTactic false
set_option linter.unnecessarySeqFocus false
namespace Sys2Proof.Machine

def execLoReadLatch_scope : Scope := ⟨[.nextOrd, .latches, .gr, .evt, .out], [R.MBX_GRANGE_STAT, R.FWD_VER_STAT,
    R.ALM_STAT], []⟩
theorem execLoReadLatch_bounds (ofs : BitVec 32) (s : State) : Bounds execLoReadLatch_scope s (execLoReadLatch ofs s)
    := by
  unfold execLoReadLatch
  extract_lets a
  split
  · split
    · exact .fin (.refl _ _) (by decide +kernel)
    · split
      · exact .fin ((State.emit_within ..).step (.refl _ _) (by decide +kernel)) (by decide +kernel)
      · extract_lets hi s1
        have h1 : Within execLoReadLatch_scope s s1 := by
          unfold s1
          split
          · exact (State.wr_within ..).step (.refl _ _) (by decide +kernel)
          · exact .refl _ _
        exact .fin ((State.emit_within ..).step ((State.latch_within ..).step h1 (by decide +kernel))
          (by decide +kernel)) (by decide +kernel)
  · exact .fin (.refl _ _) (by decide +kernel)


def execMsixUnmask_scope : Scope := ⟨[.nextOrd, .gr, .evt, .out], [R.MBX_GRANGE_STAT, R.FWD_VER_STAT], []⟩
theorem execMsixUnmask_bounds (v : Fin 32) (s : State) : Bounds execMsixUnmask_scope s (execMsixUnmask v s) := by
  unfold execMsixUnmask
  repeat' first
    | (with_reducible exact Bounds.fault) | (with_reducible refine Bounds.fin ?_ (by decide +kernel))
    | (with_reducible assumption) | (with_reducible apply Within.refl)
    | (with_reducible apply Within.step (State.unmask_within ..); rotate_left; decide +kernel) | split

def execTdcBinDataAccess_scope : Scope := ⟨[.nextOrd, .gr, .evt, .tdc, .out], [R.MBX_GRANGE_STAT, R.FWD_VER_STAT,
    R.ALM_BANK_STAT, R.TDC_BIN_SEL], []⟩
theorem execTdcBinDataAccess_bounds (w : Option Word) (s : State) : Bounds execTdcBinDataAccess_scope s
    (execTdcBinDataAccess w s) := by
  unfold execTdcBinDataAccess
  repeat' first
    | (with_reducible exact Bounds.fault) | (with_reducible refine Bounds.fin ?_ (by decide +kernel))
    | (with_reducible assumption) | (with_reducible apply Within.refl)
    | (with_reducible apply Within.step (State.binData_within ..); rotate_left; decide +kernel)
    | (with_reducible apply Within.step (State.resnap_within ..); rotate_left; decide +kernel) | split

def execCalPathTrimAccess_scope : Scope := ⟨[.nextOrd, .gr, .evt, .cal, .out], [R.MBX_GRANGE_STAT, R.FWD_VER_STAT,
    R.ALM_BANK_STAT, R.CAL_PATH_SEL], []⟩
theorem execCalPathTrimAccess_bounds (w : Option Word) (s : State) : Bounds execCalPathTrimAccess_scope s
    (execCalPathTrimAccess w s) := by
  unfold execCalPathTrimAccess
  repeat' first
    | (with_reducible exact Bounds.fault) | (with_reducible refine Bounds.fin ?_ (by decide +kernel))
    | (with_reducible assumption) | (with_reducible apply Within.refl)
    | (with_reducible apply Within.step (State.pathTrim_within ..); rotate_left; decide +kernel)
    | (with_reducible apply Within.step (State.resnap_within ..); rotate_left; decide +kernel) | split

def execRegisterWrite_scope : Scope := ⟨[.nextOrd, .nextFrame, .nextFree, .committed, .latches, .mem, .pwr, .boot,
    .gr, .evt, .tally, .tacc, .ports, .cars, .sheaves, .fwd, .grn, .alm, .tb, .tt, .ref, .syn, .tdc, .cal, .twin,
    .out], [], [0, 1, 2, 3, 4, 5, 6, 7, 8, 9, 10, 11, 12, 13, 14, 255]⟩
theorem execRegisterWrite_bounds (bar2 : Bool) (ofs : BitVec 32) (len : Nat) (data : BitVec 64) (s : State) : Bounds
    execRegisterWrite_scope s (execRegisterWrite bar2 ofs len data s) := by
  unfold execRegisterWrite
  repeat' first
    | (with_reducible exact Bounds.fault) | (with_reducible refine Bounds.fin ?_ (by decide +kernel))
    | (with_reducible assumption) | (with_reducible apply Within.refl) | lift_lets
    | (intro v; refine Within.cut (p := Within execRegisterWrite_scope s v) ?_ ?_; unfold v; rotate_left; clear_value v; intro hv)
    | (intro v; clear_value v) | intro v
    | (with_reducible apply Within.step (State.mbxWrite_within ..); rotate_left; decide +kernel)
    | (with_reducible apply Within.step (State.msixWord_within ..); rotate_left; decide +kernel)
    | (with_reducible apply Within.step (State.reservedEnc_within ..); rotate_left; decide +kernel)
    | (with_reducible apply Within.step (State.hostWord_within (hb := (regAt_in (by assumption)).1) (hp := (regAt_in (by assumption)).2) ..); rotate_left; decide +kernel)
    | split

def execCommittedViewWrite_scope : Scope := ⟨[.nextOrd, .gr, .evt, .out], [R.MBX_GRANGE_STAT, R.FWD_VER_STAT,
    R.EVT_RESERVED_OFS, R.EVT_STAT], []⟩
theorem execCommittedViewWrite_bounds (ofs : BitVec 32) (s : State) : Bounds execCommittedViewWrite_scope s
    (execCommittedViewWrite ofs s) := by
  unfold execCommittedViewWrite
  repeat' first
    | (with_reducible exact Bounds.fault) | (with_reducible refine Bounds.fin ?_ (by decide +kernel))
    | (with_reducible assumption) | (with_reducible apply Within.refl)
    | (with_reducible apply Within.step (State.reservedEnc_within ..); rotate_left; decide +kernel) | split

def execCmdConfigSave_scope : Scope := ⟨[.nextOrd, .mem, .pwr, .boot, .gr, .evt, .tacc, .tdc, .cal, .twin, .out],
    [R.MBX_STATE, R.MBX_RETRY_STAT, R.MBX_GRANGE_STAT, R.FWD_VER_STAT, R.TDC_STAT, R.TDC_EVT_STAT, R.CAL_STAT,
    R.CAL_EVT_STAT, R.EVT_LAST_FAULT, R.EVT_STAT, R.TWN_STAT, R.PWR_MODE_CTL, R.PWR_MODE_STAT, R.PWR_RAIL_STAT,
    R.PWR_CLK_STAT, R.EVT_LASTING, R.EVT_FCNT], []⟩
theorem execCmdConfigSave_bounds (m : Fin 16) (x : Exec) (s : State) : Bounds execCmdConfigSave_scope s
    (execCmdConfigSave m x s) := by
  unfold execCmdConfigSave
  repeat' first
    | (with_reducible exact Bounds.fault) | (with_reducible refine Bounds.fin ?_ (by decide +kernel))
    | (with_reducible assumption) | (with_reducible apply Within.refl)
    | (with_reducible apply State.cmd_within; rotate_left; decide +kernel; intro u hu; try beta_reduce)
    | (with_reducible apply Within.step (State.useFlash_within ..); rotate_left; decide +kernel) | split

def execCmdImageDownload_scope : Scope := ⟨[.nextOrd, .mem, .pwr, .boot, .gr, .evt, .tacc, .tdc, .cal, .twin, .out],
    [R.MBX_STATE, R.MBX_RETRY_STAT, R.MBX_GRANGE_STAT, R.FWD_VER_STAT, R.TDC_STAT, R.TDC_EVT_STAT, R.CAL_STAT,
    R.CAL_EVT_STAT, R.EVT_LAST_FAULT, R.EVT_STAT, R.TWN_STAT, R.PWR_MODE_CTL, R.PWR_MODE_STAT, R.PWR_RAIL_STAT,
    R.PWR_CLK_STAT, R.EVT_LASTING, R.EVT_FCNT], []⟩
theorem execCmdImageDownload_bounds (m : Fin 16) (x : Exec) (s : State) : Bounds execCmdImageDownload_scope s
    (execCmdImageDownload m x s) := by
  unfold execCmdImageDownload
  repeat' first
    | (with_reducible exact Bounds.fault) | (with_reducible refine Bounds.fin ?_ (by decide +kernel))
    | (with_reducible assumption) | (with_reducible apply Within.refl) | lift_lets
    | (intro v; refine Within.cut (p := Within execCmdImageDownload_scope s v) ?_ ?_; unfold v; rotate_left; clear_value v; intro hv)
    | (intro v; clear_value v) | intro v
    | (with_reducible apply State.cmd_within; rotate_left; decide +kernel; intro u hu; try beta_reduce)
    | (with_reducible apply Within.step (State.useFlash_within ..); rotate_left; decide +kernel) | split

def execCmdImageActivate_scope : Scope := ⟨[.nextOrd, .mem, .pwr, .boot, .gr, .evt, .tacc, .tdc, .cal, .twin, .out],
    [R.MBX_STATE, R.MBX_RETRY_STAT, R.MBX_GRANGE_STAT, R.FWD_VER_STAT, R.TDC_STAT, R.TDC_EVT_STAT, R.CAL_STAT,
    R.CAL_EVT_STAT, R.EVT_LAST_FAULT, R.EVT_STAT, R.TWN_STAT, R.PWR_MODE_CTL, R.PWR_MODE_STAT, R.PWR_RAIL_STAT,
    R.PWR_CLK_STAT, R.EVT_LASTING, R.EVT_FCNT], []⟩
theorem execCmdImageActivate_bounds (m : Fin 16) (x : Exec) (s : State) : Bounds execCmdImageActivate_scope s
    (execCmdImageActivate m x s) := by
  unfold execCmdImageActivate
  repeat' first
    | (with_reducible exact Bounds.fault) | (with_reducible refine Bounds.fin ?_ (by decide +kernel))
    | (with_reducible assumption) | (with_reducible apply Within.refl)
    | (with_reducible apply State.cmd_within; rotate_left; decide +kernel; intro u hu; try beta_reduce)
    | (with_reducible apply Within.step (State.useFlash_within ..); rotate_left; decide +kernel) | split

def execFlashOperationDone_scope : Scope := ⟨[.nextOrd, .mem, .pwr, .boot, .gr, .evt, .tacc, .tdc, .cal, .twin, .out],
    [R.MBX_STATE, R.MBX_RETRY_STAT, R.MBX_GRANGE_STAT, R.FWD_VER_STAT, R.TDC_STAT, R.TDC_EVT_STAT, R.CAL_STAT,
    R.CAL_EVT_STAT, R.EVT_LAST_FAULT, R.EVT_STAT, R.TWN_STAT, R.PWR_MODE_CTL, R.PWR_MODE_STAT, R.PWR_RAIL_STAT,
    R.PWR_CLK_STAT, R.EVT_LASTING, R.EVT_FCNT], []⟩
theorem execFlashOperationDone_bounds (m : Fin 16) (x : Exec) (r1 r2 : ImageCheck) (s : State) : Bounds
    execFlashOperationDone_scope s (execFlashOperationDone m x r1 r2 s) := by
  unfold execFlashOperationDone
  repeat' first
    | (with_reducible exact Bounds.fault) | (with_reducible refine Bounds.fin ?_ (by decide +kernel))
    | (with_reducible assumption) | (with_reducible apply Within.refl) | lift_lets
    | (intro v; refine Within.cut (p := Within execFlashOperationDone_scope s v) ?_ ?_; unfold v; rotate_left; clear_value v; intro hv)
    | (intro v; clear_value v) | intro v
    | (with_reducible apply Within.step (State.updBoot_within ..); rotate_left; decide +kernel)
    | (with_reducible apply Within.step (State.flashEnd_within ..); rotate_left; decide +kernel)
    | (with_reducible apply Within.step (State.updMbx_within ..); rotate_left; decide +kernel)
    | (with_reducible apply Within.step (State.cmdLasting_within ..); rotate_left; decide +kernel) | split

def execCmdConfigRestore_scope : Scope := ⟨[.nextOrd, .mem, .pwr, .gr, .evt, .tacc, .tdc, .cal, .twin, .out], [], [0,
    1, 2, 3, 4, 5, 6, 7, 8, 9, 10, 11, 12, 13, 14, 255]⟩
theorem execCmdConfigRestore_bounds (m : Fin 16) (x : Exec) (s : State) : Bounds execCmdConfigRestore_scope s
    (execCmdConfigRestore m x s) := by
  unfold execCmdConfigRestore
  repeat' first
    | (with_reducible exact Bounds.fault) | (with_reducible refine Bounds.fin ?_ (by decide +kernel))
    | (with_reducible assumption) | (with_reducible apply Within.refl) | lift_lets
    | (intro v; refine Within.cut (p := Within execCmdConfigRestore_scope s v) ?_ ?_; unfold v; rotate_left; clear_value v; intro hv)
    | (intro v; clear_value v) | intro v
    | (with_reducible apply State.cmd_within; rotate_left; decide +kernel; intro u hu; try beta_reduce)
    | (with_reducible apply Within.step (State.running_within ..); rotate_left; decide +kernel)
    | (with_reducible apply Within.step (State.loadSaved_within ..); rotate_left; decide +kernel)
    | (with_reducible apply Within.step (State.rebindSaved_within ..); rotate_left; decide +kernel)
    | (with_reducible apply Within.step (State.restoreTail_within ..); rotate_left; decide +kernel)
    | (with_reducible apply Within.step (State.requestCommit_within ..); rotate_left; decide +kernel) | split

end Sys2Proof.Machine
end

