-- ==== Sys2Proof/Laws/ExecTwin.lean ====
section
/-! SUPPORT. Sys2Proof/Laws/ExecTwin.lean: what each command of Machine/Twin.lean may change. -/
set_option Elab.async false
set_option linter.unusedTactic false
set_option linter.unreachableTactic false
set_option linter.unnecessarySeqFocus false
namespace Sys2Proof.Machine

def execMirrorMessageReceived_scope : Scope := ⟨[.nextOrd, .gr, .evt, .tally, .tacc, .ports, .cars, .sheaves, .fwd,
    .grn, .alm, .tt, .ref, .twin, .out], [R.MBX_GRANGE_STAT, R.SHF_SHEAF_STAT, R.SHF_LOSS_WAIT, R.SHF_TT_STAT,
    R.SHF_TT_EVT_STAT, R.SHF_CAR_STAT, R.SHF_CAR_EVT_STAT, R.FWD_VER_STAT, R.FWD_EVT_STAT, R.FWD_EGR_STAT,
    R.GRN_POOL_STAT, R.GRN_SILO_STAT, R.GRN_EVT_STAT, R.ALM_EVT_STAT, R.ALM_EVT_SRC, R.REF_SRC_STAT, R.EVT_STAT,
    R.TWN_STAT, R.TWN_TXN_STAT, R.TWN_MIRROR_STAT], []⟩
theorem execMirrorMessageReceived_bounds (lane : Fin 4) (bytes : List Byte) (s : State) : Bounds
    execMirrorMessageReceived_scope s (execMirrorMessageReceived lane bytes s) := by
  unfold execMirrorMessageReceived
  repeat' first
    | (with_reducible exact Bounds.fault) | (with_reducible refine Bounds.fin ?_ (by decide +kernel))
    | (with_reducible assumption) | (with_reducible apply Within.refl)
    | (with_reducible apply Within.step (State.count_within ..); rotate_left; decide +kernel)
    | (with_reducible apply Within.step (State.orderMessage_within ..); rotate_left; decide +kernel) | split

def execMessageLossTimeout_scope : Scope := ⟨[.nextOrd, .gr, .evt, .tally, .tacc, .ports, .cars, .sheaves, .fwd, .grn,
    .alm, .tt, .ref, .twin, .out], [R.MBX_GRANGE_STAT, R.SHF_SHEAF_STAT, R.SHF_LOSS_WAIT, R.SHF_TT_STAT,
    R.SHF_TT_EVT_STAT, R.SHF_CAR_STAT, R.SHF_CAR_EVT_STAT, R.FWD_VER_STAT, R.FWD_EVT_STAT, R.FWD_EGR_STAT,
    R.GRN_POOL_STAT, R.GRN_SILO_STAT, R.GRN_EVT_STAT, R.ALM_EVT_STAT, R.ALM_EVT_SRC, R.REF_SRC_STAT, R.EVT_STAT,
    R.TWN_STAT, R.TWN_TXN_STAT, R.TWN_MIRROR_STAT], []⟩
theorem execMessageLossTimeout_bounds (s : State) : Bounds execMessageLossTimeout_scope s (execMessageLossTimeout s)
    := by
  unfold execMessageLossTimeout
  repeat' first
    | (with_reducible exact Bounds.fault) | (with_reducible refine Bounds.fin ?_ (by decide +kernel))
    | (with_reducible assumption) | (with_reducible apply Within.refl) | lift_lets
    | (intro v; refine Within.cut (p := Within execMessageLossTimeout_scope s v) ?_ ?_; unfold v; rotate_left; clear_value v; intro hv)
    | (intro v; clear_value v) | intro v
    | (with_reducible apply Within.step (State.count_within ..); rotate_left; decide +kernel)
    | (with_reducible apply Within.step (State.updTwin_within ..); rotate_left; decide +kernel)
    | (with_reducible apply Within.step (State.drainHeld_within ..); rotate_left; decide +kernel)
    | (with_reducible apply Within.step (State.nakGaps_within ..); rotate_left; decide +kernel)
    | (with_reducible apply Within.each; rotate_left; intro x a hx; try beta_reduce; rotate_left)
    | (with_reducible apply Within.foldl; rotate_left; intro x a hx; try beta_reduce; rotate_left) | split

def execHeartbeatReceived_scope : Scope := ⟨[.nextOrd, .nextFrame, .nextFree, .committed, .latches, .mem, .pwr, .boot,
    .gr, .evt, .tally, .tacc, .ports, .cars, .sheaves, .fwd, .grn, .alm, .tb, .tt, .ref, .syn, .tdc, .cal, .twin,
    .out], [], [0, 1, 2, 3, 4, 5, 6, 7, 8, 9, 10, 11, 12, 13, 14, 255]⟩
theorem execHeartbeatReceived_bounds (lane : Fin 4) (bytes : List Byte) (rx : Inst) (s : State) : Bounds
    execHeartbeatReceived_scope s (execHeartbeatReceived lane bytes rx s) := by
  unfold execHeartbeatReceived
  repeat' first
    | (with_reducible exact Bounds.fault) | (with_reducible refine Bounds.fin ?_ (by decide +kernel))
    | (with_reducible assumption) | (with_reducible apply Within.refl) | lift_lets
    | (intro v; refine Within.cut (p := Within execHeartbeatReceived_scope s v) ?_ ?_; unfold v; rotate_left; clear_value v; intro hv)
    | (intro v; clear_value v) | intro v
    | (with_reducible apply Within.step (State.count_within ..); rotate_left; decide +kernel)
    | (with_reducible apply Within.step (State.raise_within ..); rotate_left; decide +kernel)
    | (with_reducible apply Within.step (State.updMlane_within ..); rotate_left; decide +kernel)
    | (with_reducible apply Within.step (State.wr_within ..); rotate_left; decide +kernel)
    | (with_reducible apply Within.step (State.wrB_within ..); rotate_left; decide +kernel)
    | (with_reducible apply Within.step (State.sawUnpaired_within ..); rotate_left; decide +kernel)
    | (with_reducible apply Within.step (State.updTwin_within ..); rotate_left; decide +kernel)
    | (with_reducible apply Within.step (State.take_within ..); rotate_left; decide +kernel)
    | (with_reducible apply Within.step (State.wrS_within ..); rotate_left; decide +kernel)
    | (with_reducible apply Within.step (State.pairStep_within ..); rotate_left; decide +kernel)
    | (with_reducible apply Within.step (State.nakGaps_within ..); rotate_left; decide +kernel)
    | (with_reducible apply Within.step (State.seqAhead_within ..); rotate_left; decide +kernel)
    | (with_reducible apply Within.step (State.compareDigest_within ..); rotate_left; decide +kernel)
    | (with_reducible apply Within.step (State.noteWtr_within ..); rotate_left; decide +kernel)
    | (with_reducible apply Within.step (State.twinHealth_within ..); rotate_left; decide +kernel)
    | (with_reducible apply Within.each; rotate_left; intro x a hx; try beta_reduce; rotate_left)
    | (with_reducible apply Within.foldl; rotate_left; intro x a hx; try beta_reduce; rotate_left) | split
    | (with_reducible apply Within.step (Within.put_nextFree ..); rotate_left; decide +kernel)

def execHeartbeatSend_scope : Scope := ⟨[.nextOrd, .gr, .evt, .tacc, .twin, .out], [R.MBX_GRANGE_STAT, R.FWD_VER_STAT,
    R.EVT_STAT, R.TWN_STAT, R.TWN_HEALTH, R.TWN_EVT_STAT], []⟩
theorem execHeartbeatSend_bounds (s : State) : Bounds execHeartbeatSend_scope s (execHeartbeatSend s) := by
  unfold execHeartbeatSend
  repeat' first
    | (with_reducible exact Bounds.fault) | (with_reducible refine Bounds.fin ?_ (by decide +kernel))
    | (with_reducible assumption) | (with_reducible apply Within.refl) | lift_lets
    | (intro v; refine Within.cut (p := Within execHeartbeatSend_scope s v) ?_ ?_; unfold v; rotate_left; clear_value v; intro hv)
    | (intro v; clear_value v) | intro v
    | (with_reducible apply Within.step (State.count_within ..); rotate_left; decide +kernel)
    | (with_reducible apply Within.step (State.noteWtr_within ..); rotate_left; decide +kernel)
    | (with_reducible apply Within.step (State.twinHealth_within ..); rotate_left; decide +kernel)
    | (with_reducible apply Within.step (State.sendHb_within ..); rotate_left; decide +kernel)
    | (with_reducible apply Within.step (State.updTwin_within ..); rotate_left; decide +kernel)
    | (with_reducible apply Within.step (State.emit_within ..); rotate_left; decide +kernel) | split

def execHeartbeatSilence_scope : Scope := ⟨[.nextOrd, .gr, .evt, .twin, .out], [R.MBX_GRANGE_STAT, R.FWD_VER_STAT],
    []⟩
theorem execHeartbeatSilence_bounds (s : State) : Bounds execHeartbeatSilence_scope s (execHeartbeatSilence s) := by
  unfold execHeartbeatSilence
  repeat' first
    | (with_reducible exact Bounds.fault) | (with_reducible refine Bounds.fin ?_ (by decide +kernel))
    | (with_reducible assumption) | (with_reducible apply Within.refl) | lift_lets
    | (intro v; refine Within.cut (p := Within execHeartbeatSilence_scope s v) ?_ ?_; unfold v; rotate_left; clear_value v; intro hv)
    | (intro v; clear_value v) | intro v
    | (with_reducible apply Within.step (State.updTwin_within ..); rotate_left; decide +kernel)
    | (with_reducible apply Within.step (State.emit_within ..); rotate_left; decide +kernel) | split

def execPartnerLost_scope : Scope := ⟨[.nextOrd, .committed, .latches, .mem, .pwr, .boot, .gr, .evt, .tally, .tacc,
    .ports, .cars, .sheaves, .fwd, .grn, .alm, .tb, .tt, .ref, .syn, .tdc, .cal, .twin, .out], [R.PWR_RAIL_STAT,
    R.PWR_CLK_STAT, R.PWR_OCXO_STAT, R.PWR_BOOT_STAT, R.EVT_FCNT], [0, 1, 2, 3, 4, 5, 6, 7, 8, 9, 10, 11, 12, 14]⟩
theorem execPartnerLost_bounds (s : State) : Bounds execPartnerLost_scope s (execPartnerLost s) := by
  unfold execPartnerLost
  repeat' first
    | (with_reducible exact Bounds.fault) | (with_reducible refine Bounds.fin ?_ (by decide +kernel))
    | (with_reducible assumption) | (with_reducible apply Within.refl) | lift_lets
    | (intro v; refine Within.cut (p := Within execPartnerLost_scope s v) ?_ ?_; unfold v; rotate_left; clear_value v; intro hv)
    | (intro v; clear_value v) | intro v
    | (with_reducible apply Within.step (State.wr_within ..); rotate_left; decide +kernel)
    | (with_reducible apply Within.step (State.raise_within ..); rotate_left; decide +kernel)
    | (with_reducible apply Within.step (State.updTwin_within ..); rotate_left; decide +kernel)
    | (with_reducible apply Within.step (State.setTwSt_within ..); rotate_left; decide +kernel)
    | (with_reducible apply Within.step (State.takeOver_within ..); rotate_left; decide +kernel)
    | (with_reducible apply Within.step (State.enterPairing_within ..); rotate_left; decide +kernel) | split

def execLaneDown_scope : Scope := ⟨[.nextOrd, .gr, .evt, .twin, .out], [R.MBX_GRANGE_STAT, R.FWD_VER_STAT, R.TWN_STAT,
    R.TWN_EVT_STAT], []⟩
theorem execLaneDown_bounds (lane : Fin 4) (s : State) : Bounds execLaneDown_scope s (execLaneDown lane s) := by
  unfold execLaneDown
  repeat' first
    | (with_reducible exact Bounds.fault) | (with_reducible refine Bounds.fin ?_ (by decide +kernel))
    | (with_reducible assumption) | (with_reducible apply Within.refl) | lift_lets
    | (intro v; refine Within.cut (p := Within execLaneDown_scope s v) ?_ ?_; unfold v; rotate_left; clear_value v; intro hv)
    | (intro v; clear_value v) | intro v
    | (with_reducible apply Within.step (State.updMlane_within ..); rotate_left; decide +kernel)
    | (with_reducible apply Within.step (State.wr_within ..); rotate_left; decide +kernel)
    | (with_reducible apply Within.step (State.raiseObj_within ..); rotate_left; decide +kernel) | split

def execPairWaitExpiry_scope : Scope := ⟨[.nextOrd, .gr, .evt, .cars, .twin, .out], [R.MBX_GRANGE_STAT,
    R.FWD_VER_STAT, R.TWN_STAT], []⟩
theorem execPairWaitExpiry_bounds (s : State) : Bounds execPairWaitExpiry_scope s (execPairWaitExpiry s) := by
  unfold execPairWaitExpiry
  repeat' first
    | (with_reducible exact Bounds.fault) | (with_reducible refine Bounds.fin ?_ (by decide +kernel))
    | (with_reducible assumption) | (with_reducible apply Within.refl) | lift_lets
    | (intro v; refine Within.cut (p := Within execPairWaitExpiry_scope s v) ?_ ?_; unfold v; rotate_left; clear_value v; intro hv)
    | (intro v; clear_value v) | intro v
    | (with_reducible apply Within.step (State.setRole_within ..); rotate_left; decide +kernel)
    | (with_reducible apply Within.step (State.setTwSt_within ..); rotate_left; decide +kernel) | split

def execRelinquishTimeout_scope : Scope := ⟨[.nextOrd, .committed, .latches, .mem, .pwr, .boot, .gr, .evt, .tally,
    .tacc, .ports, .cars, .sheaves, .fwd, .grn, .alm, .tb, .tt, .ref, .syn, .tdc, .cal, .twin, .out],
    [R.PWR_RAIL_STAT, R.PWR_CLK_STAT, R.PWR_OCXO_STAT, R.PWR_BOOT_STAT, R.EVT_FCNT], [0, 1, 2, 3, 4, 5, 6, 7, 8, 9,
    10, 11, 12, 14]⟩
theorem execRelinquishTimeout_bounds (s : State) : Bounds execRelinquishTimeout_scope s (execRelinquishTimeout s) :=
    by
  unfold execRelinquishTimeout
  repeat' first
    | (with_reducible exact Bounds.fault) | (with_reducible refine Bounds.fin ?_ (by decide +kernel))
    | (with_reducible assumption) | (with_reducible apply Within.refl)
    | (with_reducible apply Within.step (State.endRelq_within ..); rotate_left; decide +kernel)
    | (with_reducible apply Within.step (State.raise_within ..); rotate_left; decide +kernel)
    | (with_reducible apply Within.step (State.closeIfDone_within ..); rotate_left; decide +kernel) | split

def execDegradeHoldExpiry_scope : Scope := ⟨[.nextOrd, .gr, .evt, .tacc, .twin, .out], [R.MBX_GRANGE_STAT,
    R.FWD_VER_STAT, R.EVT_STAT, R.TWN_STAT], []⟩
theorem execDegradeHoldExpiry_bounds (s : State) : Bounds execDegradeHoldExpiry_scope s (execDegradeHoldExpiry s) :=
    by
  unfold execDegradeHoldExpiry
  repeat' first
    | (with_reducible exact Bounds.fault) | (with_reducible refine Bounds.fin ?_ (by decide +kernel))
    | (with_reducible assumption) | (with_reducible apply Within.refl)
    | (with_reducible apply Within.step (State.relinquish_within ..); rotate_left; decide +kernel) | split

def execWtrExpiry_scope : Scope := ⟨[.nextOrd, .gr, .evt, .tacc, .twin, .out], [R.MBX_GRANGE_STAT, R.FWD_VER_STAT,
    R.EVT_STAT, R.TWN_STAT, R.TWN_EVT_STAT], []⟩
theorem execWtrExpiry_bounds (s : State) : Bounds execWtrExpiry_scope s (execWtrExpiry s) := by
  unfold execWtrExpiry
  repeat' first
    | (with_reducible exact Bounds.fault) | (with_reducible refine Bounds.fin ?_ (by decide +kernel))
    | (with_reducible assumption) | (with_reducible apply Within.refl) | lift_lets
    | (intro v; refine Within.cut (p := Within execWtrExpiry_scope s v) ?_ ?_; unfold v; rotate_left; clear_value v; intro hv)
    | (intro v; clear_value v) | intro v
    | (with_reducible apply Within.step (State.raise_within ..); rotate_left; decide +kernel)
    | (with_reducible apply Within.step (State.updTwin_within ..); rotate_left; decide +kernel)
    | (with_reducible apply Within.step (State.relinquish_within ..); rotate_left; decide +kernel) | split

def execTxnApply_scope : Scope := ⟨[.nextOrd, .nextFrame, .committed, .latches, .mem, .pwr, .boot, .gr, .evt, .tally,
    .tacc, .ports, .cars, .sheaves, .fwd, .grn, .alm, .tb, .tt, .ref, .syn, .tdc, .cal, .twin, .out], [], [0, 1, 2, 3,
    4, 5, 6, 7, 8, 9, 10, 11, 12, 13, 14, 255]⟩
theorem execTxnApply_bounds (s : State) : Bounds execTxnApply_scope s (execTxnApply s) := by
  unfold execTxnApply
  repeat' first
    | (with_reducible exact Bounds.fault) | (with_reducible refine Bounds.fin ?_ (by decide +kernel))
    | (with_reducible assumption) | (with_reducible apply Within.refl) | lift_lets
    | (intro v; refine Within.cut (p := Within execTxnApply_scope s v) ?_ ?_; unfold v; rotate_left; clear_value v; intro hv)
    | (intro v; clear_value v) | intro v
    | (with_reducible apply Within.step (State.count_within ..); rotate_left; decide +kernel)
    | (with_reducible apply Within.step (State.raise_within ..); rotate_left; decide +kernel)
    | (with_reducible apply Within.step (State.applyTxn_within ..); rotate_left; decide +kernel) | split

def execResyncDone_scope : Scope := ⟨[.nextOrd, .gr, .evt, .tacc, .twin, .out], [R.MBX_GRANGE_STAT, R.FWD_VER_STAT,
    R.EVT_STAT, R.TWN_STAT, R.TWN_HEALTH, R.TWN_EVT_STAT], []⟩
theorem execResyncDone_bounds (s : State) : Bounds execResyncDone_scope s (execResyncDone s) := by
  unfold execResyncDone
  repeat' first
    | (with_reducible exact Bounds.fault) | (with_reducible refine Bounds.fin ?_ (by decide +kernel))
    | (with_reducible assumption) | (with_reducible apply Within.refl) | lift_lets
    | (intro v; refine Within.cut (p := Within execResyncDone_scope s v) ?_ ?_; unfold v; rotate_left; clear_value v; intro hv)
    | (intro v; clear_value v) | intro v
    | (with_reducible apply Within.step (State.setTwSt_within ..); rotate_left; decide +kernel)
    | (with_reducible apply Within.step (State.updTwin_within ..); rotate_left; decide +kernel)
    | (with_reducible apply Within.step (State.raise_within ..); rotate_left; decide +kernel)
    | (with_reducible apply Within.step (State.count_within ..); rotate_left; decide +kernel)
    | (with_reducible apply Within.step (State.twinHealth_within ..); rotate_left; decide +kernel) | split

def execCarrierMessageSend_scope : Scope := ⟨[.nextOrd, .gr, .evt, .tacc, .twin, .out], [R.MBX_GRANGE_STAT,
    R.FWD_VER_STAT, R.EVT_STAT], []⟩
theorem execCarrierMessageSend_bounds (s : State) : Bounds execCarrierMessageSend_scope s (execCarrierMessageSend s)
    := by
  unfold execCarrierMessageSend
  repeat' first
    | (with_reducible exact Bounds.fault) | (with_reducible refine Bounds.fin ?_ (by decide +kernel))
    | (with_reducible assumption) | (with_reducible apply Within.refl)
    | (with_reducible apply Within.step (State.sendMsg_within ..); rotate_left; decide +kernel) | split

def execCountMessageSend_scope : Scope := ⟨[.nextOrd, .gr, .evt, .tacc, .twin, .out], [R.MBX_GRANGE_STAT,
    R.FWD_VER_STAT, R.EVT_STAT], []⟩
theorem execCountMessageSend_bounds (s : State) : Bounds execCountMessageSend_scope s (execCountMessageSend s) := by
  unfold execCountMessageSend
  repeat' first
    | (with_reducible exact Bounds.fault) | (with_reducible refine Bounds.fin ?_ (by decide +kernel))
    | (with_reducible assumption) | (with_reducible apply Within.refl) | lift_lets
    | (intro v; refine Within.cut (p := Within execCountMessageSend_scope s v) ?_ ?_; unfold v; rotate_left; clear_value v; intro hv)
    | (intro v; clear_value v) | intro v
    | (with_reducible apply Within.step (State.sendMsg_within ..); rotate_left; decide +kernel)
    | (with_reducible apply Within.step (State.updTwin_within ..); rotate_left; decide +kernel) | split

def execCheckMessageSend_scope : Scope := ⟨[.nextOrd, .gr, .evt, .tacc, .twin, .out], [R.MBX_GRANGE_STAT,
    R.FWD_VER_STAT, R.EVT_STAT], []⟩
theorem execCheckMessageSend_bounds (s : State) : Bounds execCheckMessageSend_scope s (execCheckMessageSend s) := by
  unfold execCheckMessageSend
  repeat' first
    | (with_reducible exact Bounds.fault) | (with_reducible refine Bounds.fin ?_ (by decide +kernel))
    | (with_reducible assumption) | (with_reducible apply Within.refl) | lift_lets
    | (intro v; refine Within.cut (p := Within execCheckMessageSend_scope s v) ?_ ?_; unfold v; rotate_left; clear_value v; intro hv)
    | (intro v; clear_value v) | intro v
    | (with_reducible apply Within.step (State.rollSec_within ..); rotate_left; decide +kernel)
    | (with_reducible apply Within.step (State.updTwin_within ..); rotate_left; decide +kernel)
    | (with_reducible apply Within.step (State.sendMsg_within ..); rotate_left; decide +kernel)
    | (with_reducible apply Within.each; rotate_left; intro x a hx; try beta_reduce; rotate_left)
    | (with_reducible apply Within.foldl; rotate_left; intro x a hx; try beta_reduce; rotate_left) | split

def execCmdTwnSwitch_scope : Scope := ⟨[.nextOrd, .mem, .pwr, .gr, .evt, .tacc, .tdc, .cal, .twin, .out],
    [R.MBX_STATE, R.MBX_RETRY_STAT, R.MBX_GRANGE_STAT, R.FWD_VER_STAT, R.TDC_STAT, R.TDC_EVT_STAT, R.CAL_STAT,
    R.CAL_EVT_STAT, R.EVT_LAST_FAULT, R.EVT_STAT, R.TWN_STAT, R.PWR_MODE_CTL, R.PWR_MODE_STAT, R.PWR_RAIL_STAT,
    R.PWR_CLK_STAT, R.EVT_LASTING, R.EVT_FCNT], []⟩
theorem execCmdTwnSwitch_bounds (m : Fin 16) (x : Exec) (s : State) : Bounds execCmdTwnSwitch_scope s
    (execCmdTwnSwitch m x s) := by
  unfold execCmdTwnSwitch
  repeat' first
    | (with_reducible exact Bounds.fault) | (with_reducible refine Bounds.fin ?_ (by decide +kernel))
    | (with_reducible assumption) | (with_reducible apply Within.refl)
    | (with_reducible apply State.cmd_within; rotate_left; decide +kernel; intro u hu; try beta_reduce)
    | (with_reducible apply Within.step (State.running_within ..); rotate_left; decide +kernel)
    | (with_reducible apply Within.step (State.relinquish_within ..); rotate_left; decide +kernel) | split

def execCmdTwnTableAdopt_scope : Scope := ⟨[.nextOrd, .mem, .pwr, .gr, .evt, .tacc, .tdc, .cal, .twin, .out],
    [R.MBX_STATE, R.MBX_RETRY_STAT, R.MBX_GRANGE_STAT, R.FWD_VER_STAT, R.TDC_STAT, R.TDC_EVT_STAT, R.CAL_STAT,
    R.CAL_EVT_STAT, R.EVT_LAST_FAULT, R.EVT_STAT, R.TWN_STAT, R.PWR_MODE_CTL, R.PWR_MODE_STAT, R.PWR_RAIL_STAT,
    R.PWR_CLK_STAT, R.EVT_LASTING, R.EVT_FCNT], []⟩
theorem execCmdTwnTableAdopt_bounds (m : Fin 16) (x : Exec) (s : State) : Bounds execCmdTwnTableAdopt_scope s
    (execCmdTwnTableAdopt m x s) := by
  unfold execCmdTwnTableAdopt
  repeat' first
    | (with_reducible exact Bounds.fault) | (with_reducible refine Bounds.fin ?_ (by decide +kernel))
    | (with_reducible assumption) | (with_reducible apply Within.refl) | lift_lets
    | (intro v; refine Within.cut (p := Within execCmdTwnTableAdopt_scope s v) ?_ ?_; unfold v; rotate_left; clear_value v; intro hv)
    | (intro v; clear_value v) | intro v
    | (with_reducible apply State.cmd_within; rotate_left; decide +kernel; intro u hu; try beta_reduce)
    | (with_reducible apply Within.step (State.updTable_within ..); rotate_left; decide +kernel)
    | (with_reducible apply Within.step (State.complete_within ..); rotate_left; decide +kernel) | split

def execCmdTwnResync_scope : Scope := ⟨[.nextOrd, .mem, .pwr, .gr, .evt, .tacc, .tdc, .cal, .twin, .out],
    [R.MBX_STATE, R.MBX_RETRY_STAT, R.MBX_GRANGE_STAT, R.FWD_VER_STAT, R.TDC_STAT, R.TDC_EVT_STAT, R.CAL_STAT,
    R.CAL_EVT_STAT, R.EVT_LAST_FAULT, R.EVT_STAT, R.TWN_STAT, R.TWN_TXN_STAT, R.PWR_MODE_CTL, R.PWR_MODE_STAT,
    R.PWR_RAIL_STAT, R.PWR_CLK_STAT, R.EVT_LASTING, R.EVT_FCNT], []⟩
theorem execCmdTwnResync_bounds (m : Fin 16) (x : Exec) (s : State) : Bounds execCmdTwnResync_scope s
    (execCmdTwnResync m x s) := by
  unfold execCmdTwnResync
  repeat' first
    | (with_reducible exact Bounds.fault) | (with_reducible refine Bounds.fin ?_ (by decide +kernel))
    | (with_reducible assumption) | (with_reducible apply Within.refl)
    | (with_reducible apply State.cmd_within; rotate_left; decide +kernel; intro u hu; try beta_reduce)
    | (with_reducible apply Within.step (State.startResync_within ..); rotate_left; decide +kernel)
    | (with_reducible apply Within.step (State.complete_within ..); rotate_left; decide +kernel) | split

def execCmdTwnCountersRead_scope : Scope := ⟨[.nextOrd, .mem, .pwr, .gr, .evt, .tally, .tacc, .tdc, .cal, .twin,
    .out], [R.MBX_STATE, R.MBX_RETRY_STAT, R.MBX_GRANGE_STAT, R.FWD_VER_STAT, R.TDC_STAT, R.TDC_EVT_STAT, R.CAL_STAT,
    R.CAL_EVT_STAT, R.EVT_LAST_FAULT, R.EVT_STAT, R.TWN_STAT, R.PWR_MODE_CTL, R.PWR_MODE_STAT, R.PWR_RAIL_STAT,
    R.PWR_CLK_STAT, R.EVT_LASTING, R.EVT_FCNT], []⟩
theorem execCmdTwnCountersRead_bounds (m : Fin 16) (x : Exec) (s : State) : Bounds execCmdTwnCountersRead_scope s
    (execCmdTwnCountersRead m x s) := by
  unfold execCmdTwnCountersRead
  repeat' first
    | (with_reducible exact Bounds.fault) | (with_reducible refine Bounds.fin ?_ (by decide +kernel))
    | (with_reducible assumption) | (with_reducible apply Within.refl)
    | (with_reducible apply Within.step (State.countersCmd_within ..); rotate_left; decide +kernel) | split

end Sys2Proof.Machine
end

