-- ==== Sys2Proof/Laws/FramesTick.lean ====
section
/-! SUPPORT. Sys2Proof/Laws/FramesTick.lean: what each operation of Machine/Tick.lean may change. -/
set_option Elab.async false
set_option linter.unusedTactic false
set_option linter.unreachableTactic false
set_option linter.unnecessarySeqFocus false
namespace Sys2Proof.Machine

def State.noteClamp_scope : Scope := ⟨[.evt], [R.SYN_RAMP_Z, R.SYN_STAT_STEER, R.SYN_STAT, R.SYN_EVT_STAT], []⟩
theorem State.noteClamp_within (s : State) : Within State.noteClamp_scope s (State.noteClamp s) := by
  unfold State.noteClamp
  repeat' first
    | (with_reducible assumption) | (with_reducible apply Within.refl)
    | (with_reducible apply Within.step (State.noteSteer_within ..); rotate_left; decide +kernel) | split

def State.endTick_scope : Scope := ⟨[.nextOrd, .committed, .mem, .gr, .evt, .tacc, .tb, .ref, .syn, .out],
    [R.MBX_STATE, R.MBX_RETRY_STAT, R.MBX_GRANGE_STAT, R.FWD_VER_STAT, R.TBS_RPT_PEND, R.TBS_EVT_STAT, R.TBS_TE_STAT,
    R.TBS_RPT_PROD, R.TBS_RPT_STAT, R.REF_STAT, R.REF_FREQ_WORD, R.REF_HO_EST, R.REF_EVT_STAT, R.SYN_RAMP_STAT,
    R.SYN_RAMP_Z, R.SYN_STAT_STEER, R.SYN_STAT, R.SYN_EVT_STAT, R.CAL_TRACE_CORR, R.CAL_EVT_STAT, R.EVT_STAT,
    R.EVT_FCNT], []⟩
theorem State.endTick_within (s : State) : Within State.endTick_scope s (State.endTick s) := by
  unfold State.endTick
  repeat' first
    | (with_reducible assumption) | (with_reducible apply Within.refl) | lift_lets
    | (intro v; refine Within.cut (p := Within State.endTick_scope s v) ?_ ?_; unfold v; rotate_left; clear_value v; intro hv)
    | (intro v; clear_value v) | intro v
    | (with_reducible apply Within.step (State.writeReports_within ..); rotate_left; decide +kernel)
    | (with_reducible apply Within.step (State.endTraces_within ..); rotate_left; decide +kernel)
    | (with_reducible apply Within.step (State.selectNow_within ..); rotate_left; decide +kernel)
    | (with_reducible apply Within.step (State.noteClamp_within ..); rotate_left; decide +kernel)
    | (with_reducible apply Within.step (State.settle_within ..); rotate_left; decide +kernel) | split

end Sys2Proof.Machine
end

