-- ==== Sys2Proof/Laws/PerInstr.lean ====
section
/-! SUPPORT. Sys2Proof/Laws/PerInstr.lean: what holds of every command as syntax. -/
set_option Elab.async false
open Sys2Proof.Machine

/-- A command belongs to a chapter of the spec from 2 to 17. One that serves a mailbox has an opcode of R105, and is no access of
the host over PCIe. -/
def Sys2Proof.Laws.Shape.Statement (c : Sys2Proof.Instr) : Prop :=
  2 ≤ c.chapter ∧ c.chapter ≤ 17 ∧
    match c.command with
    | some (_, opc, _) => knownOpcodes.contains opc = true ∧ c.hostAccess = false
    | none => True

theorem Sys2Proof.Laws.Shape.feedConnect (f : Fin 2) (volt : BitVec 16) : Sys2Proof.Laws.Shape.Statement (.feedConnect f volt) :=
  ⟨Nat.le_of_ble_eq_true rfl, Nat.le_of_ble_eq_true rfl, trivial⟩
theorem Sys2Proof.Laws.Shape.feedDisconnect (f : Fin 2) (overV : Bool) (load : Nat) : Sys2Proof.Laws.Shape.Statement (.feedDisconnect f overV load) :=
  ⟨Nat.le_of_ble_eq_true rfl, Nat.le_of_ble_eq_true rfl, trivial⟩
theorem Sys2Proof.Laws.Shape.rideThroughEnd : Sys2Proof.Laws.Shape.Statement .rideThroughEnd :=
  ⟨Nat.le_of_ble_eq_true rfl, Nat.le_of_ble_eq_true rfl, trivial⟩
theorem Sys2Proof.Laws.Shape.chargeComplete (f : Fin 2) : Sys2Proof.Laws.Shape.Statement (.chargeComplete f) :=
  ⟨Nat.le_of_ble_eq_true rfl, Nat.le_of_ble_eq_true rfl, trivial⟩
theorem Sys2Proof.Laws.Shape.powerOnReset (straps : BitVec 3) : Sys2Proof.Laws.Shape.Statement (.powerOnReset straps) :=
  ⟨Nat.le_of_ble_eq_true rfl, Nat.le_of_ble_eq_true rfl, trivial⟩
theorem Sys2Proof.Laws.Shape.railRampTimeout (r : Fin 8) : Sys2Proof.Laws.Shape.Statement (.railRampTimeout r) :=
  ⟨Nat.le_of_ble_eq_true rfl, Nat.le_of_ble_eq_true rfl, trivial⟩
theorem Sys2Proof.Laws.Shape.railLeavesRegulation (r : Fin 8) : Sys2Proof.Laws.Shape.Statement (.railLeavesRegulation r) :=
  ⟨Nat.le_of_ble_eq_true rfl, Nat.le_of_ble_eq_true rfl, trivial⟩
theorem Sys2Proof.Laws.Shape.tempEstimate (caseT dieMax : BitVec 16) : Sys2Proof.Laws.Shape.Statement (.tempEstimate caseT dieMax) :=
  ⟨Nat.le_of_ble_eq_true rfl, Nat.le_of_ble_eq_true rfl, trivial⟩
theorem Sys2Proof.Laws.Shape.feedMonitorUpdate (va ca vb cb : BitVec 16) (revA revB : Bool) : Sys2Proof.Laws.Shape.Statement (.feedMonitorUpdate va ca vb cb revA revB) :=
  ⟨Nat.le_of_ble_eq_true rfl, Nat.le_of_ble_eq_true rfl, trivial⟩
theorem Sys2Proof.Laws.Shape.resetPin (lowNs : Nat) : Sys2Proof.Laws.Shape.Statement (.resetPin lowNs) :=
  ⟨Nat.le_of_ble_eq_true rfl, Nat.le_of_ble_eq_true rfl, trivial⟩
theorem Sys2Proof.Laws.Shape.softwareModuleReset (data : Sys2Proof.Word) : Sys2Proof.Laws.Shape.Statement (.softwareModuleReset data) :=
  ⟨Nat.le_of_ble_eq_true rfl, Nat.le_of_ble_eq_true rfl, trivial⟩
theorem Sys2Proof.Laws.Shape.softwareSwitchReset (data : Sys2Proof.Word) : Sys2Proof.Laws.Shape.Statement (.softwareSwitchReset data) :=
  ⟨Nat.le_of_ble_eq_true rfl, Nat.le_of_ble_eq_true rfl, trivial⟩
theorem Sys2Proof.Laws.Shape.grangeWatchdogReset : Sys2Proof.Laws.Shape.Statement .grangeWatchdogReset :=
  ⟨Nat.le_of_ble_eq_true rfl, Nat.le_of_ble_eq_true rfl, trivial⟩
theorem Sys2Proof.Laws.Shape.pcieFundamentalReset (low : Bool) : Sys2Proof.Laws.Shape.Statement (.pcieFundamentalReset low) :=
  ⟨Nat.le_of_ble_eq_true rfl, Nat.le_of_ble_eq_true rfl, trivial⟩
theorem Sys2Proof.Laws.Shape.smbRegisterWrite (count : Nat) (ofs : BitVec 16) (data : Sys2Proof.Word) (pec : Option Sys2Proof.Byte) : Sys2Proof.Laws.Shape.Statement (.smbRegisterWrite count ofs data pec) :=
  ⟨Nat.le_of_ble_eq_true rfl, Nat.le_of_ble_eq_true rfl, trivial⟩
theorem Sys2Proof.Laws.Shape.smbRegisterRead (count : Nat) (ofs : BitVec 16) : Sys2Proof.Laws.Shape.Statement (.smbRegisterRead count ofs) :=
  ⟨Nat.le_of_ble_eq_true rfl, Nat.le_of_ble_eq_true rfl, trivial⟩
theorem Sys2Proof.Laws.Shape.smbAlertResponse : Sys2Proof.Laws.Shape.Statement .smbAlertResponse :=
  ⟨Nat.le_of_ble_eq_true rfl, Nat.le_of_ble_eq_true rfl, trivial⟩
theorem Sys2Proof.Laws.Shape.smbClockLowTimeout : Sys2Proof.Laws.Shape.Statement .smbClockLowTimeout :=
  ⟨Nat.le_of_ble_eq_true rfl, Nat.le_of_ble_eq_true rfl, trivial⟩
theorem Sys2Proof.Laws.Shape.tapInstruction (op : Sys2Proof.TapInstr) : Sys2Proof.Laws.Shape.Statement (.tapInstruction op) :=
  ⟨Nat.le_of_ble_eq_true rfl, Nat.le_of_ble_eq_true rfl, trivial⟩
theorem Sys2Proof.Laws.Shape.tapReset : Sys2Proof.Laws.Shape.Statement .tapReset :=
  ⟨Nat.le_of_ble_eq_true rfl, Nat.le_of_ble_eq_true rfl, trivial⟩
theorem Sys2Proof.Laws.Shape.modeRequest (mode : BitVec 3) (smbus : Bool) : Sys2Proof.Laws.Shape.Statement (.modeRequest mode smbus) :=
  ⟨Nat.le_of_ble_eq_true rfl, Nat.le_of_ble_eq_true rfl, trivial⟩
theorem Sys2Proof.Laws.Shape.ocxoHoldWarmWrite (v : Bool) : Sys2Proof.Laws.Shape.Statement (.ocxoHoldWarmWrite v) :=
  ⟨Nat.le_of_ble_eq_true rfl, Nat.le_of_ble_eq_true rfl, trivial⟩
theorem Sys2Proof.Laws.Shape.transitionComplete : Sys2Proof.Laws.Shape.Statement .transitionComplete :=
  ⟨Nat.le_of_ble_eq_true rfl, Nat.le_of_ble_eq_true rfl, trivial⟩
theorem Sys2Proof.Laws.Shape.oldRailsOff : Sys2Proof.Laws.Shape.Statement .oldRailsOff :=
  ⟨Nat.le_of_ble_eq_true rfl, Nat.le_of_ble_eq_true rfl, trivial⟩
theorem Sys2Proof.Laws.Shape.warmupToTimekeep : Sys2Proof.Laws.Shape.Statement .warmupToTimekeep :=
  ⟨Nat.le_of_ble_eq_true rfl, Nat.le_of_ble_eq_true rfl, trivial⟩
theorem Sys2Proof.Laws.Shape.ocxoWarmSet (err : BitVec 16) : Sys2Proof.Laws.Shape.Statement (.ocxoWarmSet err) :=
  ⟨Nat.le_of_ble_eq_true rfl, Nat.le_of_ble_eq_true rfl, trivial⟩
theorem Sys2Proof.Laws.Shape.ocxoWarmClear (err : BitVec 16) : Sys2Proof.Laws.Shape.Statement (.ocxoWarmClear err) :=
  ⟨Nat.le_of_ble_eq_true rfl, Nat.le_of_ble_eq_true rfl, trivial⟩
theorem Sys2Proof.Laws.Shape.mdllLock : Sys2Proof.Laws.Shape.Statement .mdllLock :=
  ⟨Nat.le_of_ble_eq_true rfl, Nat.le_of_ble_eq_true rfl, trivial⟩
theorem Sys2Proof.Laws.Shape.lanePowered (lane : Fin 260) : Sys2Proof.Laws.Shape.Statement (.lanePowered lane) :=
  ⟨Nat.le_of_ble_eq_true rfl, Nat.le_of_ble_eq_true rfl, trivial⟩
theorem Sys2Proof.Laws.Shape.bootCheckDone (r : Sys2Proof.ImageCheck) : Sys2Proof.Laws.Shape.Statement (.bootCheckDone r) :=
  ⟨Nat.le_of_ble_eq_true rfl, Nat.le_of_ble_eq_true rfl, trivial⟩
theorem Sys2Proof.Laws.Shape.registerWrite (bar2 : Bool) (ofs : BitVec 32) (len : Nat) (data : BitVec 64) : Sys2Proof.Laws.Shape.Statement (.registerWrite bar2 ofs len data) :=
  ⟨Nat.le_of_ble_eq_true rfl, Nat.le_of_ble_eq_true rfl, trivial⟩
theorem Sys2Proof.Laws.Shape.d2dTransferFail (retryGood : Bool) : Sys2Proof.Laws.Shape.Statement (.d2dTransferFail retryGood) :=
  ⟨Nat.le_of_ble_eq_true rfl, Nat.le_of_ble_eq_true rfl, trivial⟩
theorem Sys2Proof.Laws.Shape.doorbell (ring : Sys2Proof.Word) : Sys2Proof.Laws.Shape.Statement (.doorbell ring) :=
  ⟨Nat.le_of_ble_eq_true rfl, Nat.le_of_ble_eq_true rfl, trivial⟩
theorem Sys2Proof.Laws.Shape.mailboxWrite (ofs : BitVec 16) (data : List Sys2Proof.Byte) : Sys2Proof.Laws.Shape.Statement (.mailboxWrite ofs data) :=
  ⟨Nat.le_of_ble_eq_true rfl, Nat.le_of_ble_eq_true rfl, trivial⟩
theorem Sys2Proof.Laws.Shape.fencedCommandStart (m : Fin 16) : Sys2Proof.Laws.Shape.Statement (.fencedCommandStart m) :=
  ⟨Nat.le_of_ble_eq_true rfl, Nat.le_of_ble_eq_true rfl, trivial⟩
theorem Sys2Proof.Laws.Shape.cmdNop (m : Fin 16) (x : Sys2Proof.Exec) : Sys2Proof.Laws.Shape.Statement (.cmdNop m x) :=
  ⟨Nat.le_of_ble_eq_true rfl, Nat.le_of_ble_eq_true rfl, ⟨rfl, rfl⟩⟩
theorem Sys2Proof.Laws.Shape.cmdIdentify (m : Fin 16) (x : Sys2Proof.Exec) : Sys2Proof.Laws.Shape.Statement (.cmdIdentify m x) :=
  ⟨Nat.le_of_ble_eq_true rfl, Nat.le_of_ble_eq_true rfl, ⟨rfl, rfl⟩⟩
theorem Sys2Proof.Laws.Shape.cmdFence (m : Fin 16) (x : Sys2Proof.Exec) : Sys2Proof.Laws.Shape.Statement (.cmdFence m x) :=
  ⟨Nat.le_of_ble_eq_true rfl, Nat.le_of_ble_eq_true rfl, ⟨rfl, rfl⟩⟩
theorem Sys2Proof.Laws.Shape.fenceRelease (m : Fin 16) : Sys2Proof.Laws.Shape.Statement (.fenceRelease m) :=
  ⟨Nat.le_of_ble_eq_true rfl, Nat.le_of_ble_eq_true rfl, trivial⟩
theorem Sys2Proof.Laws.Shape.fenceTimeout (m : Fin 16) : Sys2Proof.Laws.Shape.Statement (.fenceTimeout m) :=
  ⟨Nat.le_of_ble_eq_true rfl, Nat.le_of_ble_eq_true rfl, trivial⟩
theorem Sys2Proof.Laws.Shape.cmdTableBind (m : Fin 16) (x : Sys2Proof.Exec) : Sys2Proof.Laws.Shape.Statement (.cmdTableBind m x) :=
  ⟨Nat.le_of_ble_eq_true rfl, Nat.le_of_ble_eq_true rfl, ⟨rfl, rfl⟩⟩
theorem Sys2Proof.Laws.Shape.cmdTableSync (m : Fin 16) (x : Sys2Proof.Exec) : Sys2Proof.Laws.Shape.Statement (.cmdTableSync m x) :=
  ⟨Nat.le_of_ble_eq_true rfl, Nat.le_of_ble_eq_true rfl, ⟨rfl, rfl⟩⟩
theorem Sys2Proof.Laws.Shape.cmdTableRead (m : Fin 16) (x : Sys2Proof.Exec) : Sys2Proof.Laws.Shape.Statement (.cmdTableRead m x) :=
  ⟨Nat.le_of_ble_eq_true rfl, Nat.le_of_ble_eq_true rfl, ⟨rfl, rfl⟩⟩
theorem Sys2Proof.Laws.Shape.cmdCommit (m : Fin 16) (x : Sys2Proof.Exec) : Sys2Proof.Laws.Shape.Statement (.cmdCommit m x) :=
  ⟨Nat.le_of_ble_eq_true rfl, Nat.le_of_ble_eq_true rfl, ⟨rfl, rfl⟩⟩
theorem Sys2Proof.Laws.Shape.cmdConfigSave (m : Fin 16) (x : Sys2Proof.Exec) : Sys2Proof.Laws.Shape.Statement (.cmdConfigSave m x) :=
  ⟨Nat.le_of_ble_eq_true rfl, Nat.le_of_ble_eq_true rfl, ⟨rfl, rfl⟩⟩
theorem Sys2Proof.Laws.Shape.cmdConfigRestore (m : Fin 16) (x : Sys2Proof.Exec) : Sys2Proof.Laws.Shape.Statement (.cmdConfigRestore m x) :=
  ⟨Nat.le_of_ble_eq_true rfl, Nat.le_of_ble_eq_true rfl, ⟨rfl, rfl⟩⟩
theorem Sys2Proof.Laws.Shape.cmdImageDownload (m : Fin 16) (x : Sys2Proof.Exec) : Sys2Proof.Laws.Shape.Statement (.cmdImageDownload m x) :=
  ⟨Nat.le_of_ble_eq_true rfl, Nat.le_of_ble_eq_true rfl, ⟨rfl, rfl⟩⟩
theorem Sys2Proof.Laws.Shape.cmdImageActivate (m : Fin 16) (x : Sys2Proof.Exec) : Sys2Proof.Laws.Shape.Statement (.cmdImageActivate m x) :=
  ⟨Nat.le_of_ble_eq_true rfl, Nat.le_of_ble_eq_true rfl, ⟨rfl, rfl⟩⟩
theorem Sys2Proof.Laws.Shape.commitGo (w : Sys2Proof.Word) : Sys2Proof.Laws.Shape.Statement (.commitGo w) :=
  ⟨Nat.le_of_ble_eq_true rfl, Nat.le_of_ble_eq_true rfl, trivial⟩
theorem Sys2Proof.Laws.Shape.commitDiscard (w : Sys2Proof.Word) : Sys2Proof.Laws.Shape.Statement (.commitDiscard w) :=
  ⟨Nat.le_of_ble_eq_true rfl, Nat.le_of_ble_eq_true rfl, trivial⟩
theorem Sys2Proof.Laws.Shape.commitCheckDone (g : Fin 12) : Sys2Proof.Laws.Shape.Statement (.commitCheckDone g) :=
  ⟨Nat.le_of_ble_eq_true rfl, Nat.le_of_ble_eq_true rfl, trivial⟩
theorem Sys2Proof.Laws.Shape.commitApplyAt (g : Fin 12) : Sys2Proof.Laws.Shape.Statement (.commitApplyAt g) :=
  ⟨Nat.le_of_ble_eq_true rfl, Nat.le_of_ble_eq_true rfl, trivial⟩
theorem Sys2Proof.Laws.Shape.commitApplyBoundary (g : Fin 12) : Sys2Proof.Laws.Shape.Statement (.commitApplyBoundary g) :=
  ⟨Nat.le_of_ble_eq_true rfl, Nat.le_of_ble_eq_true rfl, trivial⟩
theorem Sys2Proof.Laws.Shape.committedViewWrite (ofs : BitVec 32) : Sys2Proof.Laws.Shape.Statement (.committedViewWrite ofs) :=
  ⟨Nat.le_of_ble_eq_true rfl, Nat.le_of_ble_eq_true rfl, trivial⟩
theorem Sys2Proof.Laws.Shape.tableNotify (t : BitVec 8) (w : Sys2Proof.Word) : Sys2Proof.Laws.Shape.Statement (.tableNotify t w) :=
  ⟨Nat.le_of_ble_eq_true rfl, Nat.le_of_ble_eq_true rfl, trivial⟩
theorem Sys2Proof.Laws.Shape.entryFetchDone (t : BitVec 8) (r : Sys2Proof.Fetch) (bytes : List Sys2Proof.Byte) : Sys2Proof.Laws.Shape.Statement (.entryFetchDone t r bytes) :=
  ⟨Nat.le_of_ble_eq_true rfl, Nat.le_of_ble_eq_true rfl, trivial⟩
theorem Sys2Proof.Laws.Shape.msixUnmask (v : Fin 32) : Sys2Proof.Laws.Shape.Statement (.msixUnmask v) :=
  ⟨Nat.le_of_ble_eq_true rfl, Nat.le_of_ble_eq_true rfl, trivial⟩
theorem Sys2Proof.Laws.Shape.flashOperationDone (m : Fin 16) (x : Sys2Proof.Exec) (r1 r2 : Sys2Proof.ImageCheck) : Sys2Proof.Laws.Shape.Statement (.flashOperationDone m x r1 r2) :=
  ⟨Nat.le_of_ble_eq_true rfl, Nat.le_of_ble_eq_true rfl, trivial⟩
theorem Sys2Proof.Laws.Shape.loReadLatch (ofs : BitVec 32) : Sys2Proof.Laws.Shape.Statement (.loReadLatch ofs) :=
  ⟨Nat.le_of_ble_eq_true rfl, Nat.le_of_ble_eq_true rfl, trivial⟩
theorem Sys2Proof.Laws.Shape.signalDetect (o : Sys2Proof.LineObj) : Sys2Proof.Laws.Shape.Statement (.signalDetect o) :=
  ⟨Nat.le_of_ble_eq_true rfl, Nat.le_of_ble_eq_true rfl, trivial⟩
theorem Sys2Proof.Laws.Shape.adaptDone (o : Sys2Proof.LineObj) : Sys2Proof.Laws.Shape.Statement (.adaptDone o) :=
  ⟨Nat.le_of_ble_eq_true rfl, Nat.le_of_ble_eq_true rfl, trivial⟩
theorem Sys2Proof.Laws.Shape.alignLock (p : Fin 256) (localF remoteF : Bool) : Sys2Proof.Laws.Shape.Statement (.alignLock p localF remoteF) :=
  ⟨Nat.le_of_ble_eq_true rfl, Nat.le_of_ble_eq_true rfl, trivial⟩
theorem Sys2Proof.Laws.Shape.attemptTimeout (p : Fin 256) : Sys2Proof.Laws.Shape.Statement (.attemptTimeout p) :=
  ⟨Nat.le_of_ble_eq_true rfl, Nat.le_of_ble_eq_true rfl, trivial⟩
theorem Sys2Proof.Laws.Shape.upDebounceExpiry (p : Fin 256) : Sys2Proof.Laws.Shape.Statement (.upDebounceExpiry p) :=
  ⟨Nat.le_of_ble_eq_true rfl, Nat.le_of_ble_eq_true rfl, trivial⟩
theorem Sys2Proof.Laws.Shape.portLinkFault (p : Fin 256) (sig lock loc rem : Bool) : Sys2Proof.Laws.Shape.Statement (.portLinkFault p sig lock loc rem) :=
  ⟨Nat.le_of_ble_eq_true rfl, Nat.le_of_ble_eq_true rfl, trivial⟩
theorem Sys2Proof.Laws.Shape.glitch (p : Fin 256) : Sys2Proof.Laws.Shape.Statement (.glitch p) :=
  ⟨Nat.le_of_ble_eq_true rfl, Nat.le_of_ble_eq_true rfl, trivial⟩
theorem Sys2Proof.Laws.Shape.downDebounceExpiry (p : Fin 256) : Sys2Proof.Laws.Shape.Statement (.downDebounceExpiry p) :=
  ⟨Nat.le_of_ble_eq_true rfl, Nat.le_of_ble_eq_true rfl, trivial⟩
theorem Sys2Proof.Laws.Shape.fecDegradeWindow (p : Fin 256) (c : Sys2Proof.FecCounts) : Sys2Proof.Laws.Shape.Statement (.fecDegradeWindow p c) :=
  ⟨Nat.le_of_ble_eq_true rfl, Nat.le_of_ble_eq_true rfl, trivial⟩
theorem Sys2Proof.Laws.Shape.receiveFrame (p : Fin 256) (k : Sys2Proof.RxKind) (bytes : List Sys2Proof.Byte) (codeErr cut : Bool) (inst : Sys2Proof.Inst) : Sys2Proof.Laws.Shape.Statement (.receiveFrame p k bytes codeErr cut inst) :=
  ⟨Nat.le_of_ble_eq_true rfl, Nat.le_of_ble_eq_true rfl, trivial⟩
theorem Sys2Proof.Laws.Shape.receiveFragment (p : Fin 256) (k : Sys2Proof.FragKind) (last : Bool) (bytes : List Sys2Proof.Byte) (mcrcOk codeErr : Bool) (inst : Sys2Proof.Inst) : Sys2Proof.Laws.Shape.Statement (.receiveFragment p k last bytes mcrcOk codeErr inst) :=
  ⟨Nat.le_of_ble_eq_true rfl, Nat.le_of_ble_eq_true rfl, trivial⟩
theorem Sys2Proof.Laws.Shape.pauseTakesEffect (p : Fin 256) : Sys2Proof.Laws.Shape.Statement (.pauseTakesEffect p) :=
  ⟨Nat.le_of_ble_eq_true rfl, Nat.le_of_ble_eq_true rfl, trivial⟩
theorem Sys2Proof.Laws.Shape.pauseTimerExpiry (p : Fin 256) (c : Fin 8) : Sys2Proof.Laws.Shape.Statement (.pauseTimerExpiry p c) :=
  ⟨Nat.le_of_ble_eq_true rfl, Nat.le_of_ble_eq_true rfl, trivial⟩
theorem Sys2Proof.Laws.Shape.pfcFrameSend (p : Fin 256) : Sys2Proof.Laws.Shape.Statement (.pfcFrameSend p) :=
  ⟨Nat.le_of_ble_eq_true rfl, Nat.le_of_ble_eq_true rfl, trivial⟩
theorem Sys2Proof.Laws.Shape.pfcRepeat (p : Fin 256) : Sys2Proof.Laws.Shape.Statement (.pfcRepeat p) :=
  ⟨Nat.le_of_ble_eq_true rfl, Nat.le_of_ble_eq_true rfl, trivial⟩
theorem Sys2Proof.Laws.Shape.verifyTimeout (p : Fin 256) : Sys2Proof.Laws.Shape.Statement (.verifyTimeout p) :=
  ⟨Nat.le_of_ble_eq_true rfl, Nat.le_of_ble_eq_true rfl, trivial⟩
theorem Sys2Proof.Laws.Shape.optIntEdge (bus : Fin 16) (low : Bool) : Sys2Proof.Laws.Shape.Statement (.optIntEdge bus low) :=
  ⟨Nat.le_of_ble_eq_true rfl, Nat.le_of_ble_eq_true rfl, trivial⟩
theorem Sys2Proof.Laws.Shape.tallyFold : Sys2Proof.Laws.Shape.Statement .tallyFold :=
  ⟨Nat.le_of_ble_eq_true rfl, Nat.le_of_ble_eq_true rfl, trivial⟩
theorem Sys2Proof.Laws.Shape.cmdPrtCountersRead (m : Fin 16) (x : Sys2Proof.Exec) : Sys2Proof.Laws.Shape.Statement (.cmdPrtCountersRead m x) :=
  ⟨Nat.le_of_ble_eq_true rfl, Nat.le_of_ble_eq_true rfl, ⟨rfl, rfl⟩⟩
theorem Sys2Proof.Laws.Shape.cmdPrtOptXfer (m : Fin 16) (x : Sys2Proof.Exec) (status : Fin 3) (idx : BitVec 16) (data : List Sys2Proof.Byte) : Sys2Proof.Laws.Shape.Statement (.cmdPrtOptXfer m x status idx data) :=
  ⟨Nat.le_of_ble_eq_true rfl, Nat.le_of_ble_eq_true rfl, ⟨rfl, rfl⟩⟩
theorem Sys2Proof.Laws.Shape.codewordLock (w : Sys2Proof.LaneWords) : Sys2Proof.Laws.Shape.Statement (.codewordLock w) :=
  ⟨Nat.le_of_ble_eq_true rfl, Nat.le_of_ble_eq_true rfl, trivial⟩
theorem Sys2Proof.Laws.Shape.codewordLockLost (lane : Fin 260) (l : Sys2Proof.LaneLoss) : Sys2Proof.Laws.Shape.Statement (.codewordLockLost lane l) :=
  ⟨Nat.le_of_ble_eq_true rfl, Nat.le_of_ble_eq_true rfl, trivial⟩
theorem Sys2Proof.Laws.Shape.grainSlot (lane : Fin 256) (dep : Sys2Proof.Inst) : Sys2Proof.Laws.Shape.Statement (.grainSlot lane dep) :=
  ⟨Nat.le_of_ble_eq_true rfl, Nat.le_of_ble_eq_true rfl, trivial⟩
theorem Sys2Proof.Laws.Shape.dataGrainReceived (c : Fin 128) (bytes : List Sys2Proof.Byte) (blocks : Nat) (badFec : Bool) (strays : Nat) (fec : Sys2Proof.FecCounts) : Sys2Proof.Laws.Shape.Statement (.dataGrainReceived c bytes blocks badFec strays fec) :=
  ⟨Nat.le_of_ble_eq_true rfl, Nat.le_of_ble_eq_true rfl, trivial⟩
theorem Sys2Proof.Laws.Shape.timingGrainReceived (c : Fin 128) (bytes : List Sys2Proof.Byte) (e : Sys2Proof.GrainErrors) (rx : Sys2Proof.Inst) : Sys2Proof.Laws.Shape.Statement (.timingGrainReceived c bytes e rx) :=
  ⟨Nat.le_of_ble_eq_true rfl, Nat.le_of_ble_eq_true rfl, trivial⟩
theorem Sys2Proof.Laws.Shape.grainLossTimeout (h : Fin 32) : Sys2Proof.Laws.Shape.Statement (.grainLossTimeout h) :=
  ⟨Nat.le_of_ble_eq_true rfl, Nat.le_of_ble_eq_true rfl, trivial⟩
theorem Sys2Proof.Laws.Shape.syncWaitExpiry (h : Fin 32) : Sys2Proof.Laws.Shape.Statement (.syncWaitExpiry h) :=
  ⟨Nat.le_of_ble_eq_true rfl, Nat.le_of_ble_eq_true rfl, trivial⟩
theorem Sys2Proof.Laws.Shape.keepaliveExpiry (c : Fin 128) : Sys2Proof.Laws.Shape.Statement (.keepaliveExpiry c) :=
  ⟨Nat.le_of_ble_eq_true rfl, Nat.le_of_ble_eq_true rfl, trivial⟩
theorem Sys2Proof.Laws.Shape.carrierAttemptTimeout (o : Sys2Proof.LineObj) : Sys2Proof.Laws.Shape.Statement (.carrierAttemptTimeout o) :=
  ⟨Nat.le_of_ble_eq_true rfl, Nat.le_of_ble_eq_true rfl, trivial⟩
theorem Sys2Proof.Laws.Shape.parkLossWaitExpiry (c : Fin 128) : Sys2Proof.Laws.Shape.Statement (.parkLossWaitExpiry c) :=
  ⟨Nat.le_of_ble_eq_true rfl, Nat.le_of_ble_eq_true rfl, trivial⟩
theorem Sys2Proof.Laws.Shape.cmdShfCarrierOp (m : Fin 16) (x : Sys2Proof.Exec) : Sys2Proof.Laws.Shape.Statement (.cmdShfCarrierOp m x) :=
  ⟨Nat.le_of_ble_eq_true rfl, Nat.le_of_ble_eq_true rfl, ⟨rfl, rfl⟩⟩
theorem Sys2Proof.Laws.Shape.carrierOpTimeout (m : Fin 16) : Sys2Proof.Laws.Shape.Statement (.carrierOpTimeout m) :=
  ⟨Nat.le_of_ble_eq_true rfl, Nat.le_of_ble_eq_true rfl, trivial⟩
theorem Sys2Proof.Laws.Shape.cmdShfCountersRead (m : Fin 16) (x : Sys2Proof.Exec) : Sys2Proof.Laws.Shape.Statement (.cmdShfCountersRead m x) :=
  ⟨Nat.le_of_ble_eq_true rfl, Nat.le_of_ble_eq_true rfl, ⟨rfl, rfl⟩⟩
theorem Sys2Proof.Laws.Shape.installResume (t : BitVec 8) : Sys2Proof.Laws.Shape.Statement (.installResume t) :=
  ⟨Nat.le_of_ble_eq_true rfl, Nat.le_of_ble_eq_true rfl, trivial⟩
theorem Sys2Proof.Laws.Shape.egressFrameStart (p : Fin 256) (dep : Sys2Proof.Inst) : Sys2Proof.Laws.Shape.Statement (.egressFrameStart p dep) :=
  ⟨Nat.le_of_ble_eq_true rfl, Nat.le_of_ble_eq_true rfl, trivial⟩
theorem Sys2Proof.Laws.Shape.pipelineFrame (k : Fin 16) : Sys2Proof.Laws.Shape.Statement (.pipelineFrame k) :=
  ⟨Nat.le_of_ble_eq_true rfl, Nat.le_of_ble_eq_true rfl, trivial⟩
theorem Sys2Proof.Laws.Shape.bucketReadDone (k : Fin 16) : Sys2Proof.Laws.Shape.Statement (.bucketReadDone k) :=
  ⟨Nat.le_of_ble_eq_true rfl, Nat.le_of_ble_eq_true rfl, trivial⟩
theorem Sys2Proof.Laws.Shape.planeCrossing (j : Fin 4) : Sys2Proof.Laws.Shape.Statement (.planeCrossing j) :=
  ⟨Nat.le_of_ble_eq_true rfl, Nat.le_of_ble_eq_true rfl, trivial⟩
theorem Sys2Proof.Laws.Shape.planeDrainEnd : Sys2Proof.Laws.Shape.Statement .planeDrainEnd :=
  ⟨Nat.le_of_ble_eq_true rfl, Nat.le_of_ble_eq_true rfl, trivial⟩
theorem Sys2Proof.Laws.Shape.reaperVisit : Sys2Proof.Laws.Shape.Statement .reaperVisit :=
  ⟨Nat.le_of_ble_eq_true rfl, Nat.le_of_ble_eq_true rfl, trivial⟩
theorem Sys2Proof.Laws.Shape.linkHoldExpiry (e : Fin 288) : Sys2Proof.Laws.Shape.Statement (.linkHoldExpiry e) :=
  ⟨Nat.le_of_ble_eq_true rfl, Nat.le_of_ble_eq_true rfl, trivial⟩
theorem Sys2Proof.Laws.Shape.cmdFwdCountersRead (m : Fin 16) (x : Sys2Proof.Exec) : Sys2Proof.Laws.Shape.Statement (.cmdFwdCountersRead m x) :=
  ⟨Nat.le_of_ble_eq_true rfl, Nat.le_of_ble_eq_true rfl, ⟨rfl, rfl⟩⟩
theorem Sys2Proof.Laws.Shape.cmdFwdQueueStat (m : Fin 16) (x : Sys2Proof.Exec) : Sys2Proof.Laws.Shape.Statement (.cmdFwdQueueStat m x) :=
  ⟨Nat.le_of_ble_eq_true rfl, Nat.le_of_ble_eq_true rfl, ⟨rfl, rfl⟩⟩
theorem Sys2Proof.Laws.Shape.cmdFwdFlush (m : Fin 16) (x : Sys2Proof.Exec) : Sys2Proof.Laws.Shape.Statement (.cmdFwdFlush m x) :=
  ⟨Nat.le_of_ble_eq_true rfl, Nat.le_of_ble_eq_true rfl, ⟨rfl, rfl⟩⟩
theorem Sys2Proof.Laws.Shape.txFrameComplete (e : Fin 288) (bad : Bool) : Sys2Proof.Laws.Shape.Statement (.txFrameComplete e bad) :=
  ⟨Nat.le_of_ble_eq_true rfl, Nat.le_of_ble_eq_true rfl, trivial⟩
theorem Sys2Proof.Laws.Shape.spillWriteDone (e : Fin 288) (q : Fin 16) (bwHeld : Bool) : Sys2Proof.Laws.Shape.Statement (.spillWriteDone e q bwHeld) :=
  ⟨Nat.le_of_ble_eq_true rfl, Nat.le_of_ble_eq_true rfl, trivial⟩
theorem Sys2Proof.Laws.Shape.recallPageReadDone (e : Fin 288) (q : Fin 16) (f : Sys2Proof.Fetch) : Sys2Proof.Laws.Shape.Statement (.recallPageReadDone e q f) :=
  ⟨Nat.le_of_ble_eq_true rfl, Nat.le_of_ble_eq_true rfl, trivial⟩
theorem Sys2Proof.Laws.Shape.siloCacheRefill : Sys2Proof.Laws.Shape.Statement .siloCacheRefill :=
  ⟨Nat.le_of_ble_eq_true rfl, Nat.le_of_ble_eq_true rfl, trivial⟩
theorem Sys2Proof.Laws.Shape.gleanerSweep : Sys2Proof.Laws.Shape.Statement .gleanerSweep :=
  ⟨Nat.le_of_ble_eq_true rfl, Nat.le_of_ble_eq_true rfl, trivial⟩
theorem Sys2Proof.Laws.Shape.cmdGrnCountersRead (m : Fin 16) (x : Sys2Proof.Exec) : Sys2Proof.Laws.Shape.Statement (.cmdGrnCountersRead m x) :=
  ⟨Nat.le_of_ble_eq_true rfl, Nat.le_of_ble_eq_true rfl, ⟨rfl, rfl⟩⟩
theorem Sys2Proof.Laws.Shape.cmdGrnCellTest (m : Fin 16) (x : Sys2Proof.Exec) (bad : List (Fin 64)) : Sys2Proof.Laws.Shape.Statement (.cmdGrnCellTest m x bad) :=
  ⟨Nat.le_of_ble_eq_true rfl, Nat.le_of_ble_eq_true rfl, ⟨rfl, rfl⟩⟩
theorem Sys2Proof.Laws.Shape.cmdGrnSweep (m : Fin 16) (x : Sys2Proof.Exec) : Sys2Proof.Laws.Shape.Statement (.cmdGrnSweep m x) :=
  ⟨Nat.le_of_ble_eq_true rfl, Nat.le_of_ble_eq_true rfl, ⟨rfl, rfl⟩⟩
theorem Sys2Proof.Laws.Shape.slewResidueZero (n : Fin 8) : Sys2Proof.Laws.Shape.Statement (.slewResidueZero n) :=
  ⟨Nat.le_of_ble_eq_true rfl, Nat.le_of_ble_eq_true rfl, trivial⟩
theorem Sys2Proof.Laws.Shape.sheafEgressDecision (h : Fin 32) : Sys2Proof.Laws.Shape.Statement (.sheafEgressDecision h) :=
  ⟨Nat.le_of_ble_eq_true rfl, Nat.le_of_ble_eq_true rfl, trivial⟩
theorem Sys2Proof.Laws.Shape.windowEnd (h : Fin 32) : Sys2Proof.Laws.Shape.Statement (.windowEnd h) :=
  ⟨Nat.le_of_ble_eq_true rfl, Nat.le_of_ble_eq_true rfl, trivial⟩
theorem Sys2Proof.Laws.Shape.cmdAlmCountersRead (m : Fin 16) (x : Sys2Proof.Exec) : Sys2Proof.Laws.Shape.Statement (.cmdAlmCountersRead m x) :=
  ⟨Nat.le_of_ble_eq_true rfl, Nat.le_of_ble_eq_true rfl, ⟨rfl, rfl⟩⟩
theorem Sys2Proof.Laws.Shape.cmdAlmBankCheck (m : Fin 16) (x : Sys2Proof.Exec) : Sys2Proof.Laws.Shape.Statement (.cmdAlmBankCheck m x) :=
  ⟨Nat.le_of_ble_eq_true rfl, Nat.le_of_ble_eq_true rfl, ⟨rfl, rfl⟩⟩
theorem Sys2Proof.Laws.Shape.cmdAlmRealign (m : Fin 16) (x : Sys2Proof.Exec) : Sys2Proof.Laws.Shape.Statement (.cmdAlmRealign m x) :=
  ⟨Nat.le_of_ble_eq_true rfl, Nat.le_of_ble_eq_true rfl, ⟨rfl, rfl⟩⟩
theorem Sys2Proof.Laws.Shape.hostTimeoutExpiry (n : Fin 8) : Sys2Proof.Laws.Shape.Statement (.hostTimeoutExpiry n) :=
  ⟨Nat.le_of_ble_eq_true rfl, Nat.le_of_ble_eq_true rfl, trivial⟩
theorem Sys2Proof.Laws.Shape.adjustApply (n : Fin 8) : Sys2Proof.Laws.Shape.Statement (.adjustApply n) :=
  ⟨Nat.le_of_ble_eq_true rfl, Nat.le_of_ble_eq_true rfl, trivial⟩
theorem Sys2Proof.Laws.Shape.snapshot (data : Sys2Proof.Word) : Sys2Proof.Laws.Shape.Statement (.snapshot data) :=
  ⟨Nat.le_of_ble_eq_true rfl, Nat.le_of_ble_eq_true rfl, trivial⟩
theorem Sys2Proof.Laws.Shape.rptConsWrite (p : Fin 256) (data : Sys2Proof.Word) : Sys2Proof.Laws.Shape.Statement (.rptConsWrite p data) :=
  ⟨Nat.le_of_ble_eq_true rfl, Nat.le_of_ble_eq_true rfl, trivial⟩
theorem Sys2Proof.Laws.Shape.triggerPulse (k : Fin 8) : Sys2Proof.Laws.Shape.Statement (.triggerPulse k) :=
  ⟨Nat.le_of_ble_eq_true rfl, Nat.le_of_ble_eq_true rfl, trivial⟩
theorem Sys2Proof.Laws.Shape.triggerPulseEnd (k : Fin 8) : Sys2Proof.Laws.Shape.Statement (.triggerPulseEnd k) :=
  ⟨Nat.le_of_ble_eq_true rfl, Nat.le_of_ble_eq_true rfl, trivial⟩
theorem Sys2Proof.Laws.Shape.cmdTbsAdjust (m : Fin 16) (x : Sys2Proof.Exec) : Sys2Proof.Laws.Shape.Statement (.cmdTbsAdjust m x) :=
  ⟨Nat.le_of_ble_eq_true rfl, Nat.le_of_ble_eq_true rfl, ⟨rfl, rfl⟩⟩
theorem Sys2Proof.Laws.Shape.cmdTbsSet (m : Fin 16) (x : Sys2Proof.Exec) : Sys2Proof.Laws.Shape.Statement (.cmdTbsSet m x) :=
  ⟨Nat.le_of_ble_eq_true rfl, Nat.le_of_ble_eq_true rfl, ⟨rfl, rfl⟩⟩
theorem Sys2Proof.Laws.Shape.cmdTbsReportBind (m : Fin 16) (x : Sys2Proof.Exec) : Sys2Proof.Laws.Shape.Statement (.cmdTbsReportBind m x) :=
  ⟨Nat.le_of_ble_eq_true rfl, Nat.le_of_ble_eq_true rfl, ⟨rfl, rfl⟩⟩
theorem Sys2Proof.Laws.Shape.cmdTbsCountersRead (m : Fin 16) (x : Sys2Proof.Exec) : Sys2Proof.Laws.Shape.Statement (.cmdTbsCountersRead m x) :=
  ⟨Nat.le_of_ble_eq_true rfl, Nat.le_of_ble_eq_true rfl, ⟨rfl, rfl⟩⟩
theorem Sys2Proof.Laws.Shape.measSetEntry (c : Fin 128) : Sys2Proof.Laws.Shape.Statement (.measSetEntry c) :=
  ⟨Nat.le_of_ble_eq_true rfl, Nat.le_of_ble_eq_true rfl, trivial⟩
theorem Sys2Proof.Laws.Shape.ttWindowEnd (h : Fin 32) : Sys2Proof.Laws.Shape.Statement (.ttWindowEnd h) :=
  ⟨Nat.le_of_ble_eq_true rfl, Nat.le_of_ble_eq_true rfl, trivial⟩
theorem Sys2Proof.Laws.Shape.tcWindowEnd (h : Fin 32) : Sys2Proof.Laws.Shape.Statement (.tcWindowEnd h) :=
  ⟨Nat.le_of_ble_eq_true rfl, Nat.le_of_ble_eq_true rfl, trivial⟩
theorem Sys2Proof.Laws.Shape.cmdShfTtCarriers (m : Fin 16) (x : Sys2Proof.Exec) : Sys2Proof.Laws.Shape.Statement (.cmdShfTtCarriers m x) :=
  ⟨Nat.le_of_ble_eq_true rfl, Nat.le_of_ble_eq_true rfl, ⟨rfl, rfl⟩⟩
theorem Sys2Proof.Laws.Shape.cmdShfTtCountersRead (m : Fin 16) (x : Sys2Proof.Exec) : Sys2Proof.Laws.Shape.Statement (.cmdShfTtCountersRead m x) :=
  ⟨Nat.le_of_ble_eq_true rfl, Nat.le_of_ble_eq_true rfl, ⟨rfl, rfl⟩⟩
theorem Sys2Proof.Laws.Shape.refinEdge (k : Fin 4) (falling : Bool) (inst : Sys2Proof.Inst) : Sys2Proof.Laws.Shape.Statement (.refinEdge k falling inst) :=
  ⟨Nat.le_of_ble_eq_true rfl, Nat.le_of_ble_eq_true rfl, trivial⟩
theorem Sys2Proof.Laws.Shape.refSignalTimeout (k : Fin 4) : Sys2Proof.Laws.Shape.Statement (.refSignalTimeout k) :=
  ⟨Nat.le_of_ble_eq_true rfl, Nat.le_of_ble_eq_true rfl, trivial⟩
theorem Sys2Proof.Laws.Shape.nmeaSentence (bs : List Sys2Proof.Byte) : Sys2Proof.Laws.Shape.Statement (.nmeaSentence bs) :=
  ⟨Nat.le_of_ble_eq_true rfl, Nat.le_of_ble_eq_true rfl, trivial⟩
theorem Sys2Proof.Laws.Shape.ptpSample : Sys2Proof.Laws.Shape.Statement .ptpSample :=
  ⟨Nat.le_of_ble_eq_true rfl, Nat.le_of_ble_eq_true rfl, trivial⟩
theorem Sys2Proof.Laws.Shape.qualifyExpiry (j : Fin 7) : Sys2Proof.Laws.Shape.Statement (.qualifyExpiry j) :=
  ⟨Nat.le_of_ble_eq_true rfl, Nat.le_of_ble_eq_true rfl, trivial⟩
theorem Sys2Proof.Laws.Shape.requalExpiry (j : Fin 7) : Sys2Proof.Laws.Shape.Statement (.requalExpiry j) :=
  ⟨Nat.le_of_ble_eq_true rfl, Nat.le_of_ble_eq_true rfl, trivial⟩
theorem Sys2Proof.Laws.Shape.phaseStepApply : Sys2Proof.Laws.Shape.Statement .phaseStepApply :=
  ⟨Nat.le_of_ble_eq_true rfl, Nat.le_of_ble_eq_true rfl, trivial⟩
theorem Sys2Proof.Laws.Shape.learnerRecord : Sys2Proof.Laws.Shape.Statement .learnerRecord :=
  ⟨Nat.le_of_ble_eq_true rfl, Nat.le_of_ble_eq_true rfl, trivial⟩
theorem Sys2Proof.Laws.Shape.holdoverUpdate : Sys2Proof.Laws.Shape.Statement .holdoverUpdate :=
  ⟨Nat.le_of_ble_eq_true rfl, Nat.le_of_ble_eq_true rfl, trivial⟩
theorem Sys2Proof.Laws.Shape.freqWordWrite (w : Sys2Proof.Word) : Sys2Proof.Laws.Shape.Statement (.freqWordWrite w) :=
  ⟨Nat.le_of_ble_eq_true rfl, Nat.le_of_ble_eq_true rfl, trivial⟩
theorem Sys2Proof.Laws.Shape.pePush : Sys2Proof.Laws.Shape.Statement .pePush :=
  ⟨Nat.le_of_ble_eq_true rfl, Nat.le_of_ble_eq_true rfl, trivial⟩
theorem Sys2Proof.Laws.Shape.peRead : Sys2Proof.Laws.Shape.Statement .peRead :=
  ⟨Nat.le_of_ble_eq_true rfl, Nat.le_of_ble_eq_true rfl, trivial⟩
theorem Sys2Proof.Laws.Shape.swStale : Sys2Proof.Laws.Shape.Statement .swStale :=
  ⟨Nat.le_of_ble_eq_true rfl, Nat.le_of_ble_eq_true rfl, trivial⟩
theorem Sys2Proof.Laws.Shape.cmdRefForce (m : Fin 16) (x : Sys2Proof.Exec) : Sys2Proof.Laws.Shape.Statement (.cmdRefForce m x) :=
  ⟨Nat.le_of_ble_eq_true rfl, Nat.le_of_ble_eq_true rfl, ⟨rfl, rfl⟩⟩
theorem Sys2Proof.Laws.Shape.cmdRefGnssSend (m : Fin 16) (x : Sys2Proof.Exec) : Sys2Proof.Laws.Shape.Statement (.cmdRefGnssSend m x) :=
  ⟨Nat.le_of_ble_eq_true rfl, Nat.le_of_ble_eq_true rfl, ⟨rfl, rfl⟩⟩
theorem Sys2Proof.Laws.Shape.cmdRefCountersRead (m : Fin 16) (x : Sys2Proof.Exec) : Sys2Proof.Laws.Shape.Statement (.cmdRefCountersRead m x) :=
  ⟨Nat.le_of_ble_eq_true rfl, Nat.le_of_ble_eq_true rfl, ⟨rfl, rfl⟩⟩
theorem Sys2Proof.Laws.Shape.cmdRefModelClear (m : Fin 16) (x : Sys2Proof.Exec) : Sys2Proof.Laws.Shape.Statement (.cmdRefModelClear m x) :=
  ⟨Nat.le_of_ble_eq_true rfl, Nat.le_of_ble_eq_true rfl, ⟨rfl, rfl⟩⟩
theorem Sys2Proof.Laws.Shape.ppsoPulse (k : Fin 2) : Sys2Proof.Laws.Shape.Statement (.ppsoPulse k) :=
  ⟨Nat.le_of_ble_eq_true rfl, Nat.le_of_ble_eq_true rfl, trivial⟩
theorem Sys2Proof.Laws.Shape.ppsoPulseEnd (k : Fin 2) : Sys2Proof.Laws.Shape.Statement (.ppsoPulseEnd k) :=
  ⟨Nat.le_of_ble_eq_true rfl, Nat.le_of_ble_eq_true rfl, trivial⟩
theorem Sys2Proof.Laws.Shape.lockLost : Sys2Proof.Laws.Shape.Statement .lockLost :=
  ⟨Nat.le_of_ble_eq_true rfl, Nat.le_of_ble_eq_true rfl, trivial⟩
theorem Sys2Proof.Laws.Shape.rampUpdate : Sys2Proof.Laws.Shape.Statement .rampUpdate :=
  ⟨Nat.le_of_ble_eq_true rfl, Nat.le_of_ble_eq_true rfl, trivial⟩
theorem Sys2Proof.Laws.Shape.ckoOutputStart (k : Fin 12) : Sys2Proof.Laws.Shape.Statement (.ckoOutputStart k) :=
  ⟨Nat.le_of_ble_eq_true rfl, Nat.le_of_ble_eq_true rfl, trivial⟩
theorem Sys2Proof.Laws.Shape.ckoSwitchEdge (k : Fin 12) : Sys2Proof.Laws.Shape.Statement (.ckoSwitchEdge k) :=
  ⟨Nat.le_of_ble_eq_true rfl, Nat.le_of_ble_eq_true rfl, trivial⟩
theorem Sys2Proof.Laws.Shape.ckoStepEdge (k : Fin 12) : Sys2Proof.Laws.Shape.Statement (.ckoStepEdge k) :=
  ⟨Nat.le_of_ble_eq_true rfl, Nat.le_of_ble_eq_true rfl, trivial⟩
theorem Sys2Proof.Laws.Shape.cmdSynRampStart (m : Fin 16) (x : Sys2Proof.Exec) : Sys2Proof.Laws.Shape.Statement (.cmdSynRampStart m x) :=
  ⟨Nat.le_of_ble_eq_true rfl, Nat.le_of_ble_eq_true rfl, ⟨rfl, rfl⟩⟩
theorem Sys2Proof.Laws.Shape.cmdSynRampStop (m : Fin 16) (x : Sys2Proof.Exec) : Sys2Proof.Laws.Shape.Statement (.cmdSynRampStop m x) :=
  ⟨Nat.le_of_ble_eq_true rfl, Nat.le_of_ble_eq_true rfl, ⟨rfl, rfl⟩⟩
theorem Sys2Proof.Laws.Shape.tdcArm : Sys2Proof.Laws.Shape.Statement .tdcArm :=
  ⟨Nat.le_of_ble_eq_true rfl, Nat.le_of_ble_eq_true rfl, trivial⟩
theorem Sys2Proof.Laws.Shape.tdcEdge (ch : Fin 2) (e : Sys2Proof.EdgeSeen) (bin : Fin 512) (x : Sys2Proof.Exec) : Sys2Proof.Laws.Shape.Statement (.tdcEdge ch e bin x) :=
  ⟨Nat.le_of_ble_eq_true rfl, Nat.le_of_ble_eq_true rfl, trivial⟩
theorem Sys2Proof.Laws.Shape.tdcTimeout : Sys2Proof.Laws.Shape.Statement .tdcTimeout :=
  ⟨Nat.le_of_ble_eq_true rfl, Nat.le_of_ble_eq_true rfl, trivial⟩
theorem Sys2Proof.Laws.Shape.tdcResultLatch : Sys2Proof.Laws.Shape.Statement .tdcResultLatch :=
  ⟨Nat.le_of_ble_eq_true rfl, Nat.le_of_ble_eq_true rfl, trivial⟩
theorem Sys2Proof.Laws.Shape.tdcResultRemove : Sys2Proof.Laws.Shape.Statement .tdcResultRemove :=
  ⟨Nat.le_of_ble_eq_true rfl, Nat.le_of_ble_eq_true rfl, trivial⟩
theorem Sys2Proof.Laws.Shape.tdcBinDataAccess (w : Option Sys2Proof.Word) : Sys2Proof.Laws.Shape.Statement (.tdcBinDataAccess w) :=
  ⟨Nat.le_of_ble_eq_true rfl, Nat.le_of_ble_eq_true rfl, trivial⟩
theorem Sys2Proof.Laws.Shape.cmdTdcRun (m : Fin 16) (x : Sys2Proof.Exec) : Sys2Proof.Laws.Shape.Statement (.cmdTdcRun m x) :=
  ⟨Nat.le_of_ble_eq_true rfl, Nat.le_of_ble_eq_true rfl, ⟨rfl, rfl⟩⟩
theorem Sys2Proof.Laws.Shape.cmdTdcStop (m : Fin 16) (x : Sys2Proof.Exec) : Sys2Proof.Laws.Shape.Statement (.cmdTdcStop m x) :=
  ⟨Nat.le_of_ble_eq_true rfl, Nat.le_of_ble_eq_true rfl, ⟨rfl, rfl⟩⟩
theorem Sys2Proof.Laws.Shape.cmdTdcBinCal (m : Fin 16) (x : Sys2Proof.Exec) : Sys2Proof.Laws.Shape.Statement (.cmdTdcBinCal m x) :=
  ⟨Nat.le_of_ble_eq_true rfl, Nat.le_of_ble_eq_true rfl, ⟨rfl, rfl⟩⟩
theorem Sys2Proof.Laws.Shape.binCalDone (h0 h1 : List Nat) : Sys2Proof.Laws.Shape.Statement (.binCalDone h0 h1) :=
  ⟨Nat.le_of_ble_eq_true rfl, Nat.le_of_ble_eq_true rfl, trivial⟩
theorem Sys2Proof.Laws.Shape.pathMeasured (k : Fin 571) (base : Int) (noisy : Bool) : Sys2Proof.Laws.Shape.Statement (.pathMeasured k base noisy) :=
  ⟨Nat.le_of_ble_eq_true rfl, Nat.le_of_ble_eq_true rfl, trivial⟩
theorem Sys2Proof.Laws.Shape.calRunDone : Sys2Proof.Laws.Shape.Statement .calRunDone :=
  ⟨Nat.le_of_ble_eq_true rfl, Nat.le_of_ble_eq_true rfl, trivial⟩
theorem Sys2Proof.Laws.Shape.trimRampStep (k : Fin 571) : Sys2Proof.Laws.Shape.Statement (.trimRampStep k) :=
  ⟨Nat.le_of_ble_eq_true rfl, Nat.le_of_ble_eq_true rfl, trivial⟩
theorem Sys2Proof.Laws.Shape.ocxoRetuneStep : Sys2Proof.Laws.Shape.Statement .ocxoRetuneStep :=
  ⟨Nat.le_of_ble_eq_true rfl, Nat.le_of_ble_eq_true rfl, trivial⟩
theorem Sys2Proof.Laws.Shape.calPathTrimAccess (w : Option Sys2Proof.Word) : Sys2Proof.Laws.Shape.Statement (.calPathTrimAccess w) :=
  ⟨Nat.le_of_ble_eq_true rfl, Nat.le_of_ble_eq_true rfl, trivial⟩
theorem Sys2Proof.Laws.Shape.cmdCalTrace (m : Fin 16) (x : Sys2Proof.Exec) (signal : Bool) (loop : Int) : Sys2Proof.Laws.Shape.Statement (.cmdCalTrace m x signal loop) :=
  ⟨Nat.le_of_ble_eq_true rfl, Nat.le_of_ble_eq_true rfl, ⟨rfl, rfl⟩⟩
theorem Sys2Proof.Laws.Shape.cmdCalFreq (m : Fin 16) (x : Sys2Proof.Exec) (signal : Bool) : Sys2Proof.Laws.Shape.Statement (.cmdCalFreq m x signal) :=
  ⟨Nat.le_of_ble_eq_true rfl, Nat.le_of_ble_eq_true rfl, ⟨rfl, rfl⟩⟩
theorem Sys2Proof.Laws.Shape.calFreqIntervalEnd (m : Fin 16) (err : Int) : Sys2Proof.Laws.Shape.Statement (.calFreqIntervalEnd m err) :=
  ⟨Nat.le_of_ble_eq_true rfl, Nat.le_of_ble_eq_true rfl, trivial⟩
theorem Sys2Proof.Laws.Shape.retryResult (p : Sys2Proof.FaultPlace) (r : Sys2Proof.FaultEnd) (w : Sys2Proof.FaultWork) : Sys2Proof.Laws.Shape.Statement (.retryResult p r w) :=
  ⟨Nat.le_of_ble_eq_true rfl, Nat.le_of_ble_eq_true rfl, trivial⟩
theorem Sys2Proof.Laws.Shape.d2dReset (data : Sys2Proof.Word) (trained : Bool) : Sys2Proof.Laws.Shape.Statement (.d2dReset data trained) :=
  ⟨Nat.le_of_ble_eq_true rfl, Nat.le_of_ble_eq_true rfl, trivial⟩
theorem Sys2Proof.Laws.Shape.replicaReload : Sys2Proof.Laws.Shape.Statement .replicaReload :=
  ⟨Nat.le_of_ble_eq_true rfl, Nat.le_of_ble_eq_true rfl, trivial⟩
theorem Sys2Proof.Laws.Shape.logRecordEntry : Sys2Proof.Laws.Shape.Statement .logRecordEntry :=
  ⟨Nat.le_of_ble_eq_true rfl, Nat.le_of_ble_eq_true rfl, trivial⟩
theorem Sys2Proof.Laws.Shape.logLatch : Sys2Proof.Laws.Shape.Statement .logLatch :=
  ⟨Nat.le_of_ble_eq_true rfl, Nat.le_of_ble_eq_true rfl, trivial⟩
theorem Sys2Proof.Laws.Shape.logRemove : Sys2Proof.Laws.Shape.Statement .logRemove :=
  ⟨Nat.le_of_ble_eq_true rfl, Nat.le_of_ble_eq_true rfl, trivial⟩
theorem Sys2Proof.Laws.Shape.vectorRearm (data : Sys2Proof.Word) : Sys2Proof.Laws.Shape.Statement (.vectorRearm data) :=
  ⟨Nat.le_of_ble_eq_true rfl, Nat.le_of_ble_eq_true rfl, trivial⟩
theorem Sys2Proof.Laws.Shape.cmdEvtLogRead (m : Fin 16) (x : Sys2Proof.Exec) : Sys2Proof.Laws.Shape.Statement (.cmdEvtLogRead m x) :=
  ⟨Nat.le_of_ble_eq_true rfl, Nat.le_of_ble_eq_true rfl, ⟨rfl, rfl⟩⟩
theorem Sys2Proof.Laws.Shape.cmdEvtSpareReport (m : Fin 16) (x : Sys2Proof.Exec) : Sys2Proof.Laws.Shape.Statement (.cmdEvtSpareReport m x) :=
  ⟨Nat.le_of_ble_eq_true rfl, Nat.le_of_ble_eq_true rfl, ⟨rfl, rfl⟩⟩
theorem Sys2Proof.Laws.Shape.heartbeatSend : Sys2Proof.Laws.Shape.Statement .heartbeatSend :=
  ⟨Nat.le_of_ble_eq_true rfl, Nat.le_of_ble_eq_true rfl, trivial⟩
theorem Sys2Proof.Laws.Shape.heartbeatReceived (lane : Fin 4) (bytes : List Sys2Proof.Byte) (rx : Sys2Proof.Inst) : Sys2Proof.Laws.Shape.Statement (.heartbeatReceived lane bytes rx) :=
  ⟨Nat.le_of_ble_eq_true rfl, Nat.le_of_ble_eq_true rfl, trivial⟩
theorem Sys2Proof.Laws.Shape.mirrorMessageReceived (lane : Fin 4) (bytes : List Sys2Proof.Byte) : Sys2Proof.Laws.Shape.Statement (.mirrorMessageReceived lane bytes) :=
  ⟨Nat.le_of_ble_eq_true rfl, Nat.le_of_ble_eq_true rfl, trivial⟩
theorem Sys2Proof.Laws.Shape.messageLossTimeout : Sys2Proof.Laws.Shape.Statement .messageLossTimeout :=
  ⟨Nat.le_of_ble_eq_true rfl, Nat.le_of_ble_eq_true rfl, trivial⟩
theorem Sys2Proof.Laws.Shape.partnerLost : Sys2Proof.Laws.Shape.Statement .partnerLost :=
  ⟨Nat.le_of_ble_eq_true rfl, Nat.le_of_ble_eq_true rfl, trivial⟩
theorem Sys2Proof.Laws.Shape.laneDown (lane : Fin 4) : Sys2Proof.Laws.Shape.Statement (.laneDown lane) :=
  ⟨Nat.le_of_ble_eq_true rfl, Nat.le_of_ble_eq_true rfl, trivial⟩
theorem Sys2Proof.Laws.Shape.pairWaitExpiry : Sys2Proof.Laws.Shape.Statement .pairWaitExpiry :=
  ⟨Nat.le_of_ble_eq_true rfl, Nat.le_of_ble_eq_true rfl, trivial⟩
theorem Sys2Proof.Laws.Shape.txnApply : Sys2Proof.Laws.Shape.Statement .txnApply :=
  ⟨Nat.le_of_ble_eq_true rfl, Nat.le_of_ble_eq_true rfl, trivial⟩
theorem Sys2Proof.Laws.Shape.resyncDone : Sys2Proof.Laws.Shape.Statement .resyncDone :=
  ⟨Nat.le_of_ble_eq_true rfl, Nat.le_of_ble_eq_true rfl, trivial⟩
theorem Sys2Proof.Laws.Shape.relinquishTimeout : Sys2Proof.Laws.Shape.Statement .relinquishTimeout :=
  ⟨Nat.le_of_ble_eq_true rfl, Nat.le_of_ble_eq_true rfl, trivial⟩
theorem Sys2Proof.Laws.Shape.degradeHoldExpiry : Sys2Proof.Laws.Shape.Statement .degradeHoldExpiry :=
  ⟨Nat.le_of_ble_eq_true rfl, Nat.le_of_ble_eq_true rfl, trivial⟩
theorem Sys2Proof.Laws.Shape.wtrExpiry : Sys2Proof.Laws.Shape.Statement .wtrExpiry :=
  ⟨Nat.le_of_ble_eq_true rfl, Nat.le_of_ble_eq_true rfl, trivial⟩
theorem Sys2Proof.Laws.Shape.heartbeatSilence : Sys2Proof.Laws.Shape.Statement .heartbeatSilence :=
  ⟨Nat.le_of_ble_eq_true rfl, Nat.le_of_ble_eq_true rfl, trivial⟩
theorem Sys2Proof.Laws.Shape.carrierMessageSend : Sys2Proof.Laws.Shape.Statement .carrierMessageSend :=
  ⟨Nat.le_of_ble_eq_true rfl, Nat.le_of_ble_eq_true rfl, trivial⟩
theorem Sys2Proof.Laws.Shape.countMessageSend : Sys2Proof.Laws.Shape.Statement .countMessageSend :=
  ⟨Nat.le_of_ble_eq_true rfl, Nat.le_of_ble_eq_true rfl, trivial⟩
theorem Sys2Proof.Laws.Shape.checkMessageSend : Sys2Proof.Laws.Shape.Statement .checkMessageSend :=
  ⟨Nat.le_of_ble_eq_true rfl, Nat.le_of_ble_eq_true rfl, trivial⟩
theorem Sys2Proof.Laws.Shape.cmdTwnSwitch (m : Fin 16) (x : Sys2Proof.Exec) : Sys2Proof.Laws.Shape.Statement (.cmdTwnSwitch m x) :=
  ⟨Nat.le_of_ble_eq_true rfl, Nat.le_of_ble_eq_true rfl, ⟨rfl, rfl⟩⟩
theorem Sys2Proof.Laws.Shape.cmdTwnTableAdopt (m : Fin 16) (x : Sys2Proof.Exec) : Sys2Proof.Laws.Shape.Statement (.cmdTwnTableAdopt m x) :=
  ⟨Nat.le_of_ble_eq_true rfl, Nat.le_of_ble_eq_true rfl, ⟨rfl, rfl⟩⟩
theorem Sys2Proof.Laws.Shape.cmdTwnResync (m : Fin 16) (x : Sys2Proof.Exec) : Sys2Proof.Laws.Shape.Statement (.cmdTwnResync m x) :=
  ⟨Nat.le_of_ble_eq_true rfl, Nat.le_of_ble_eq_true rfl, ⟨rfl, rfl⟩⟩
theorem Sys2Proof.Laws.Shape.cmdTwnCountersRead (m : Fin 16) (x : Sys2Proof.Exec) : Sys2Proof.Laws.Shape.Statement (.cmdTwnCountersRead m x) :=
  ⟨Nat.le_of_ble_eq_true rfl, Nat.le_of_ble_eq_true rfl, ⟨rfl, rfl⟩⟩
end

