-- ==== Sys2Proof/Tests/Slice0.lean ====
section
/-! SUPPORT. Sys2Proof/Tests/Slice0.lean: states and operands that meet the hypotheses of the statements, and small tests of
single commands with values from the spec. -/
set_option Elab.async false
set_option maxRecDepth 4000
set_option linter.unusedVariables false
open Sys2Proof Sys2Proof.Machine
namespace Sys2Proof.Tests

/-! ### Small states -/

/-- Rails that are up, mode, boot. -/
def W.at (rails mode : Nat) : State :=
  let s := (State.reset.wr PWR_RAIL_STAT.RAIL_OK 0 rails).wr PWR_RAIL_STAT.RAIL_REQ 0 rails
  let s := ((s.wr PWR_MODE_CTL.CUR_MODE 0 mode).wr PWR_MODE_CTL.REQ_MODE 0 mode).wr PWR_BOOT_STAT.STATE 0 3
  s.updGr fun g => { g with linkUp := true }
/-- WARMUP, TIMEKEEP and FORWARD with the tick running and the OCXO warm. -/
def W.cold : State := W.at 0xF0 mWARMUP
def W.run (s : State) : State :=
  ((s.wr PWR_CLK_STAT.OCXO_WARM 0 1).updPwr fun p => { p with mdllAt := some 0 }).updTb fun b => { b with warmed := true }
def W.tk : State := W.run (W.at 0xF0 mTIMEKEEP)
def W.fwd : State := W.run (W.at 0xFE mFORWARD)
/-- Later by `n` ticks. -/
def W.later (n : Nat) (s : State) : State := { s with now := s.now + n }

/-- Mailbox 0 POSTED with a command. -/
def W.post (s : State) (opc flags : Nat) (payload : List Byte) : State :=
  ((s.setMb 0 0 (leBytes 2 opc ++ leBytes 2 flags ++ leBytes 2 payload.length)).setMb 0 64 payload).setMst 0 mPOSTED
/-- TIMEKEEP in the tick of a switch reset that has cut off the event `e`. -/
def W.cutAt (e : CutEv) : State := W.tk.updPwr fun p => { p with cut := (0, [e]) }
/-- Mailbox 0 RUNNING with work. -/
def W.job (s : State) (j : Job) : State := (s.setMst 0 mRUNNING).updMbx 0 fun b => { b with job := some j }
/-- A register field, live and committed. -/
def W.cfg (f : Fld) (i v : Nat) (s : State) : State := (s.wr f i v).wrCom f i v
def W.word (f : Fld) (v : Nat) : Word := f.put 0 v

/-! Power, modes, boot -/
def W.fed : State := State.reset
def W.riding : State := (State.reset.wr PWR_FEED_STAT.RIDE_THROUGH 0 1).updPwr fun p => { p with feedA := {} }
def W.charging : State :=
  State.reset.updPwr fun p => { p with aon := .charging, feedA := { connected := true, volt := 4800, charging := true } }
def W.starting : State := State.reset.updPwr fun p => { p with aon := .starting }
def W.ramping : State :=
  W.later (2 * msT) ((State.reset.wr PWR_RAIL_STAT.RAIL_REQ 0 2).updPwr fun p => { p with ramp := [(1, 0)] })
def W.warm : State := W.cold.updPwr fun p => { p with trans := some 2 }
def W.toWarmup : State := State.reset.updPwr fun p => { p with trans := some 1 }
def W.heating : State := State.reset.wr PWR_CLK_STAT.OCXO_HEATING 0 1
def W.powering : State := (W.cfg PRT_CFG.ENABLE 0 1 W.fwd).wr PRT_STAT.LINK_STATE 0 lsPOWERING
def W.booting : State := W.tk.updBoot fun b => { b with running := true }
def W.alert : State := (State.reset.setReg R.PWR_EVT_STAT 0 1).setReg R.PWR_ALERT_MASK 0 1

/-! Mailboxes, commits, tables -/
def W.flashing : State := (W.job W.tk .flash).updBoot fun b => { b with flashBusy := some 0 }
def W.go : State := (W.fwd.wr MBX_COMMIT_GROUPS.GROUPS 0 1).wr PRT_CFG.ENABLE 0 1
/-- The row of the register table at an offset. -/
def W.row (a : Nat) : RegRow := match regAt a with
  | some r => r.1
  | none => ⟨R.MBX_STATE, []⟩
def W.ask (w : Nat) : Commit :=
  { groups := 1, snap := [], path := none, when_ := w, at_ := 0, stage := if w = 0 then .checking else .waiting, bound := some 0 }
def W.asked (w : Nat) : State := W.fwd.updGr fun g => { g with commits := [W.ask w] }
def W.ask1 : Commit := { W.ask 1 with stage := .checking }
def W.askBad : Commit := { W.ask 0 with verdict := some (ST_REJECT_INCONSISTENT, 0x1100000, 0, false) }
def W.cmdAsk : Commit := { W.ask 0 with path := some 0 }
def W.asked1 : State := W.fwd.updGr fun g => { g with commits := [W.ask1] }
def W.askedBad : State := W.fwd.updGr fun g => { g with commits := [W.askBad] }
def W.cmdAsked : State := (W.go.setMst 0 mRUNNING).updGr fun g => { g with commits := [W.cmdAsk] }
def W.goEarly : State := (W.at 0xE0 mWARMUP).wr MBX_COMMIT_GROUPS.GROUPS 0 1
def W.saved : State := W.fwd.updBoot fun b => { b with saved := some {} }
/-- A replication group entry of generation 1. -/
def W.groupEntry : List Byte := [0x51, 0x03, 1, 0] ++ List.replicate 60 0
def W.bound : State :=
  (W.fwd.updTable 0x35 fun t => { t with addr := some 0 }).wr MBX_DT_BIND.ENTRY_COUNT 0x35 8
def W.fetching : State := W.bound.updTable 0x35 fun t => { t with queue := [{ first := 0, count := 1, ord := 0 }] }
def W.waiting : State :=
  W.bound.updTable 0x35 fun t => { t with queue := [{ first := 0, count := 2, ord := 0, waiting := some W.groupEntry }] }
/-- A reload, after a fault, of an entry that holds the generation fetched with other bytes (R442). -/
def W.rereadAsk : Install := { first := 0, count := 1, reload := true }
def W.reread : State := W.bound.updTable 0x35 fun t =>
  { t with queue := [W.rereadAsk], entries := [(0, { bytes := [0x51, 0x03, 1, 0, 9] ++ List.replicate 59 0, gen := genOf W.groupEntry, valid := true })] }

def W.syncJob : State :=
  (W.job W.bound .sync).updTable 0x35 fun t => { t with queue := [{ first := 0, count := 1, ord := 0, mbx := some 0 }] }
def W.boundFull : State :=
  W.bound.updTable 0x35 fun t => { t with queue := List.replicate 64 { first := 0, count := 1, ord := 0 } }
def W.heldVersion : State :=
  { W.fetching with fwd := { W.fetching.fwd with pipeQ := [(0, [{ bytes := [], cap := some { held := [(0x35, 0, 0)] } }])] } }.updGr
    fun g => { g with store := List.replicate 16384 (0x35, 1, 1) }

/-! Ports -/
def W.port (st : Nat) : State :=
  ((W.fwd.wr PRT_STAT.LINK_STATE 0 st).updPort 0 fun p => { p with timer := some 0, faults := 1 })
def W.portLate (st : Nat) : State := W.later (10 * msT) (W.port st)
def W.preempt : State := W.cfg PRT_CFG.PREEMPT_EN 0 1 (W.port lsUP)
def W.recallRoom : State := W.fwd.updGrn fun g => { g with cache := 0 }
def W.frame : Frame := { bytes := List.replicate 64 0 }
def W.entry : QEnt := { frame := W.frame }
def W.queued : State := (W.port lsUP).updQueue 1 fun q => { q with ents := [W.entry] }
def W.paused : State := (W.portLate lsUP).updPort 0 fun p => { p with pauseEnd := [(0, 5)] }
def W.pfc : State := (W.portLate lsUP).updPort 0 fun p => { p with pfcDue := true, sent := 1 }
def W.verifying : State := (W.portLate lsUP).updPort 0 fun p => { p with verifyAt := 5 }

def W.cfgLive (f : Fld) (i v : Nat) (s : State) : State := s.wr f i v
def W.goodFrame : List Byte :=
  let b : List Byte := List.replicate 12 2 ++ [0x88, 0xB5] ++ List.replicate 46 0
  b ++ fcsBytes b
def W.rxReady : State := W.port lsUP
def W.asm : State := W.preempt.updPort 0 fun p => { p with asm := some { max := 100 } }
def W.halted : Tx := { frame := W.frame, queue := 0, bytes := List.replicate 200 0, start := 0, express := false, dep := ⟨0, 0⟩ }
def W.interrupted : State := (W.port lsUP).updPort 0 fun p => { p with preempted := some W.halted }

/-! Sheaves and carriers -/
def W.car (st : Nat) : State :=
  W.later (10 * msT) (((W.cfg SHF_CAR_CFG.ENABLE 0 1 W.fwd).wr SHF_CAR_STAT.STATE 0 st).updCar 0 fun c => { c with timer := some 0 })
/-- A timing grain of node 0, Sheaf 0. -/
def W.tgrain : List Byte :=
  let h : List Byte := [0, 0, 0, 0, 0, 127, 0]
  let b := h ++ [BitVec.ofNat 8 (crc8 h)] ++ List.replicate 244 0
  b ++ fcsBytes b
def W.dgrain : List Byte :=
  let h : List Byte := [0, 0, 0, 0, 0, 63, 0]
  h ++ [BitVec.ofNat 8 (crc8 h)] ++ List.replicate 248 0
def W.carHeard : State := (W.car cACTIVE).updCar 0 fun c => { c with rx := { valid := true } }
def W.parking : State := (W.car cDRAINING).updCar 0 fun c => { c with parkWait := some 0 }
def W.sheafSt (st : Nat) (held : SMap Held) : State :=
  ((W.car cACTIVE).wr SHF_SHEAF_STAT.RX_STATE 0 st).updSheaf 0 fun h => { h with held := held }
def W.gap : State := W.sheafSt rxRUN [(5, ⟨[], 0, 0, 1, (0, 0)⟩)]
def W.syncing : State := (W.sheafSt rxSYNC [(5, ⟨[], 0, 0, 1, (0, 0)⟩)]).updSheaf 0 fun h => { h with syncLow := some 5 }

/-! Forwarding, Granary, Almanac -/
def W.piped : State := W.fwd.updFwd fun w => { w with pipeQ := [(0, [W.frame])] }
def W.missed : State := W.fwd.updFwd fun w => { w with missQ := [(0, [W.frame])] }
def W.decided : Frame := { W.frame with cap := some { action := 1, targets := [0] } }
def W.ready : State := W.fwd.updFwd fun w => { w with ingress := [(0, [W.decided])] }
def W.choice : Choice := (W.ready.planeArbiter 0).getD default
def W.draining : State := W.fwd.updFwd fun w => { w with drain := some [] }
def W.holding : State := W.later (200 * msT) (W.fwd.wr FWD_EGR_STAT.HOLD_STATE 0 1)
def W.tx : Tx := { frame := W.frame, queue := 0, bytes := W.frame.bytes, start := 0 }
def W.sending : State := (W.port lsUP).updPort 0 fun p => { p with tx := some W.tx }
def W.spillEnt : QEnt := { frame := W.frame, spill := true }
def W.spilling : State := W.fwd.updQueue 0 fun q => { q with ents := [W.spillEnt] }
def W.seg : Seg := { num := 0, pages := [5] }
def W.recalling : State := W.fwd.updQueue 0 fun q => { q with segs := [W.seg] }
def W.sheafOn : State := W.cfg SHF_CFG.ENABLE 0 1 W.fwd
def W.sheafQueued : State := W.sheafOn.updQueue 4096 fun q => { q with ents := [W.entry] }
def W.calendar : State :=
  let b : List Byte := [0x01, 0x05, 1, 0] ++ List.replicate 60 0
  W.cfg ALM_CAL_CFG.ENABLE 0 1 (W.fwd.updTable 0x50 fun t => { t with entries := [(0, { bytes := b, gen := 1, valid := true })] })

def W.sheafBound : State :=
  let b : List Byte := [0x01, 0x05, 1, 0, 5, 0, 0, 0, 100, 0, 100, 0, 0, 8, 0, 0] ++ List.replicate 48 0
  let s := ((W.car cACTIVE).updTable 0x50 fun t => { t with entries := [(0, { bytes := b, gen := 1, valid := true })] })
  let s := { W.cfg SHF_CFG.ENABLE 0 1 (W.cfg ALM_CAL_CFG.ENABLE 0 1 s) with now := 0 }
  s.updQueue 4097 fun q => { q with ents := [{ W.entry with bound := some (0, 0) }] }

/-! Time bases -/
def W.host : State := W.cfg TBS_DOM_CFG.SOURCE 1 srcHOST W.tk
def W.slewing : State := W.later sT (W.tk.updDom 1 fun d => { d with res := 1 })
def W.hostLate : State := W.later sT (W.cfg TBS_DOM_CFG.HOST_TIMEOUT 1 1 W.host)
def W.adj : Adjust := { mbx := 0, at_ := 0, step := some 5 }
def W.adjusting : State := (W.job W.host (.adjust 1)).updDom 1 fun d => { d with adj := some W.adj }
def W.train : Train := { on := true, period := secU, width := usT }
def W.trig : State := W.tk.updTb fun b => { b with trigs := [(0, W.train)] }
def W.trigHigh : State := W.tk.updTb fun b => { b with trigs := [(0, { W.train with fall := some (0, 0) })] }
def W.ppsTrain : Train := W.train
def W.ppso : State := W.tk.updRef fun b => { b with ppso := [(0, W.train)] }
def W.ppsoHigh : State := W.tk.updRef fun b => { b with ppso := [(0, { W.train with fall := some (0, 0) })] }

/-! Time transfer -/
def W.meas : State := W.later (100 * msT) ((W.car cACTIVE).updTtCar 0 fun t => { t with since := some 0 })
def W.window : State :=
  W.later sT (W.cfg SHF_TT_CFG.AVG_MS 0 10 (W.cfg SHF_TT_CFG.METHOD 0 ttCONST W.fwd))
def W.tcWindow : State :=
  W.later (10 * sT) (W.cfg SHF_TT_CFG.TC_WINDOW 0 10 (W.cfg SHF_TT_CFG.METHOD 0 ttTWO_COLOUR W.fwd))

/-! References -/
def W.ranked (k : Nat) : State := W.later (10 * sT) (W.cfg REF_SRC_CFG.RANK k 1 W.tk)
def W.refin : State := W.ranked 0
def W.silent : State := ((W.ranked 0).updSrc 0 fun r => { r with lastEdge := some 0 }).setQ 0 qQUALIFYING
def W.gnss : State := W.cfg REF_IN_CFG.TOD_SRC 0 1 (W.ranked 0)
/-- `$GPRMC,,A*` with its checksum. -/
def W.rmc : List Byte := [0x24, 0x47, 0x50, 0x52, 0x4D, 0x43, 0x2C, 0x2C, 0x41, 0x2A, 0x30, 0x41]
def W.ptp : State := W.ranked 6
def W.qualifying : State := W.later (5000 * sT) ((W.ranked 0).setQ 0 qQUALIFYING)
def W.disqualified : State := W.later (5000 * sT) ((W.ranked 0).setQ 0 qDISQUALIFIED)
def W.stepDue : State := W.tk.updRef fun r => { r with steps := [(0, 65536)] }
def W.locked : State := W.later sT (W.tk.wr REF_STAT.STATE 0 rsLOCKED)
def W.holdover : State := W.later sT (W.tk.wr REF_STAT.STATE 0 rsHOLDOVER)
def W.swLoop : State := W.later sT (W.cfg REF_LOOP_CFG.MODE 0 1 W.tk)
def W.swLate : State := W.cfg REF_LOOP_CFG.SW_TIMEOUT 0 1 W.swLoop

/-! Clock synthesis -/
def W.rampSet : State := W.cfg SYN_RAMP_CFG.COUNT 0 1 W.tk
def W.rampRun : State := W.rampSet.wr SYN_RAMP_STAT.RUNNING 0 1
def W.ckoOn : State := W.cfg SYN_CKO_CFG.ALIGN 0 0 (W.cfg SYN_CKO_CFG.ENABLE 0 1 (W.later 4000 W.tk))
def W.ckoPend : State := W.ckoOn.updCko 0 fun c => { c with pend := some 0 }
def W.ckoSwitching : State :=
  W.later 4000 (W.ckoOn.updCko 0 fun c => { c with run := true, t := W.ckoOn.ckoTiming 0, old := some (W.ckoOn.ckoTiming 0, 0, 0) })
def W.ckoEdge : Int := (W.ckoSwitching.switchEdge 0).getD 0
def W.ckoStepped : State := W.ckoOn.updCko 0 fun c => { c with run := true, steps := 5 }
def W.ckoStepE : Int := W.ckoStepped.nextEdge (W.ckoStepped.cko 0).cur (W.ckoStepped.cko 0).anchor 0 5

/-! Interval measurement and calibration -/
def W.tdcRun : State := (W.later sT W.tk).wr TDC_STAT.RUN 0 1
def W.tdcArmed : State := W.tdcRun.updTdc fun t => { t with armed := some { at_ := 0 } }
def W.tdcHot : State := W.tdcRun.updTdc fun t => { t with armed := some { at_ := sT } }
def W.tdcLate : State := W.later (100 * sT) W.tdcArmed
def W.tdcLatched : State := W.tk.updTdc fun t => { t with fifo := [[1]], latched := true }
def W.tdcTest : State := W.tk.updTdc fun t => { t with test := some 0 }
def W.calRun : State := (((W.run (W.at 0xFE mCALIBRATE)).wr CAL_STAT.RUNNING 0 1).wr CAL_STAT.PHASE 0 3)
def W.trimMoves : State := W.tk.updPath 0 fun p => { p with target := 600 }
def W.dueLane : State :=
  (((W.cfg PRT_CFG.ENABLE 0 1 (W.port lsUP)).wr PRT_STAT.SIG_ALL 0 1).updPwr fun p => { p with lanes := [0] }).updCal
    fun c => { c with due := [(0, 0)] }
def W.retuning : State :=
  W.later (100 * sT) ((W.cfg CAL_OCXO_TRIM.TARGET 0 5 W.tk).updCal fun c => { c with retune := true })
def W.warmTk : State := W.tk
def W.traceT : Train := W.tk.traceTrain 0 1
def W.sine : State := W.cfg CAL_CFG.CALIN_KIND 0 1 W.tk

/-! Integrity -/
def W.reload : State := W.tk.updEvt fun e => { e with reloadAt := some 0, frozen := true }

/-! Twin pair -/
def W.twin : State :=
  let s := W.cfg TWN_CFG.ENABLE 0 1 W.fwd
  (s.wr TWN_STAT.STATE 0 twPAIRING).updMlane 0 fun l => { l with st := 6 }
def W.hb : List Byte :=
  let b : List Byte := [0, 0, 0, 0, 1, 0, 0, 244, 1, 3] ++ List.replicate 242 0
  b ++ fcsBytes b
def W.msg : List Byte :=
  let b : List Byte := [0, 0, 0, 0, 5, 0, 0, 244] ++ List.replicate 244 0
  b ++ fcsBytes b
def W.gap32 : State := W.later 3200 (W.twin.updTwin fun t => { t with head := some 0, held := [(1, (0, W.msg))] })
def W.laneOld : State := W.twin.updMlane 0 fun l => { l with up := true }
def W.txn : TxnIn := { txn := 1, frags := 1, kind := 4, when_ := 0, apply := [], got := [(0, [5])], doneAt := some 0 }
def W.txnWaits : State := W.later 1 (W.twin.updTwin fun t => { t with inq := [W.txn] })
def W.twinLead : State := W.twin.wr TWN_STAT.ROLE 0 1
def W.secondOver : State := W.later (3 * sT) W.twinLead
def W.partnerGone : State :=
  W.later 12800 (((W.twin.wr TWN_STAT.STATE 0 twPAIRED).wr TWN_STAT.PARTNER 0 1).updTwin fun t => { t with lastHb := some 0 })
def W.pairLate : State := W.later sT W.twin
def W.resynced : State := (W.twin.wr TWN_STAT.STATE 0 twRESYNC).updTwin fun t => { t with resyncing := true }
def W.relqLate : State := W.later 12800 (W.twinLead.updTwin fun t => { t with relq := some (0, none) })
def W.partnerOn : State := (W.twinLead.wr TWN_STAT.PARTNER 0 1).wr TWN_HEALTH.PARTNER 0 511
def W.pairedLead : State := W.partnerOn.wr TWN_STAT.STATE 0 twPAIRED
def W.degraded : State :=
  W.later (100 * sT) (W.cfg TWN_CFG.DEGRADE_SWITCH 0 1 (W.partnerOn.updTwin fun t => { t with degrade := some 0 }))
def W.wtrOver : State :=
  W.later (5000 * sT) (W.cfg TWN_CFG.REVERTIVE 0 1 (W.partnerOn.updTwin fun t => { t with wtr := some 0 }))
def W.hbSilent : State := W.later 6400 (W.twinLead.updTwin fun t => { t with sentHb := some 0 })
def W.adopt : State := W.partnerOn.wr MBX_DT_BIND.ENTRY_COUNT 0x30 1

/-! ### Witnesses of the statements about the machine as a whole -/

theorem witness_emptyQueueIdles : ∃ s : State, s.pending = [] := ⟨State.reset, rfl⟩
theorem witness_resetValues : ∃ (b : Nat) (row : RegRow) (i : Nat), row ∈ blockRows b ∧ i < row.reg.count :=
  ⟨0xD, W.row 0x01D00034, 0, by decide +kernel⟩
theorem witness_lostWrite : ∃ (ofs : BitVec 16) (data : List Byte) (s : State), s.gr.linkUp = true ∧ data ≠ [] ∧
    (ofs.toNat + data.length - 1) / 4096 = ofs.toNat / 4096 ∧ s.mst (ofs.toNat / 4096) = mPOSTED :=
  ⟨0xFFFF, [1], W.tk.setMst 15 mPOSTED, by decide +kernel⟩
theorem witness_lostWriteRunning : ∃ (ofs : BitVec 16) (data : List Byte) (s : State), s.gr.linkUp = true ∧ data ≠ [] ∧
    (ofs.toNat + data.length - 1) / 4096 = ofs.toNat / 4096 ∧ s.mst (ofs.toNat / 4096) = mRUNNING :=
  ⟨0, [1], W.tk.setMst 0 mRUNNING, by decide +kernel⟩
theorem witness_lostRegisterWrite : ∃ (ofs : BitVec 32) (len : Nat) (s : State), s.gr.linkUp = true ∧ ofs.toNat < 0x10000 ∧
    0 < len ∧ len ≤ 8 ∧ (ofs.toNat + len - 1) / 4096 = ofs.toNat / 4096 ∧ s.mst (ofs.toNat / 4096) = mPOSTED :=
  ⟨0xFF8, 8, W.tk.setMst 0 mPOSTED, by decide +kernel⟩
theorem witness_lostRegisterWriteRunning : ∃ (ofs : BitVec 32) (len : Nat) (s : State), s.gr.linkUp = true ∧
    ofs.toNat < 0x10000 ∧ 0 < len ∧ len ≤ 8 ∧ (ofs.toNat + len - 1) / 4096 = ofs.toNat / 4096 ∧
    s.mst (ofs.toNat / 4096) = mRUNNING := ⟨0xFFFF, 1, W.tk.setMst 15 mRUNNING, by decide +kernel⟩
theorem witness_lostRing : ∃ (n : Fin 16) (s : State), s.gr.linkUp = true ∧ s.mst n = mPOSTED :=
  ⟨15, W.tk.setMst 15 mPOSTED, by decide +kernel⟩
theorem witness_lostRingRunning : ∃ (n : Fin 16) (s : State), s.gr.linkUp = true ∧ s.mst n = mRUNNING :=
  ⟨0, W.tk.setMst 0 mRUNNING, by decide +kernel⟩
theorem witness_rungTogether : ∃ (ring : Word) (n k : Fin 16) (s : State), s.gr.linkUp = true ∧
    testBit ring.toNat n = true ∧ testBit ring.toNat k = true ∧ s.mst n = mIDLE ∧ s.mst k = mDONE :=
  ⟨0x8001, 0, 15, W.tk.setMst 15 mDONE, by decide +kernel⟩
theorem witness_refusedWarmup : ∃ (smbus : Bool) (s : State), s.pwr.aon = .up ∧ (smbus = true ∨ s.gr.linkUp = true) ∧
    s.mode = mTIMEKEEP := ⟨false, W.tk, by decide +kernel⟩
theorem witness_refusedWarmupIsolate : ∃ (smbus : Bool) (s : State), s.pwr.aon = .up ∧
    (smbus = true ∨ s.gr.linkUp = true) ∧ s.mode = mISOLATE := ⟨true, W.run (W.at 0xF0 mISOLATE), by decide +kernel⟩
theorem witness_refusedIsolate : ∃ (smbus : Bool) (s : State), s.pwr.aon = .up ∧ (smbus = true ∨ s.gr.linkUp = true) ∧
    s.mode = mDORMANT := ⟨true, State.reset, by decide +kernel⟩
theorem witness_refusedBySmbus : ∃ (data : Word) (s : State), s.pwr.aon = .up ∧ PWR_MODE_CTL.REQ_MODE.get data = 1 ∧
    s.mode = mFORWARD := ⟨W.word PWR_MODE_CTL.REQ_MODE 1, W.fwd, by decide +kernel⟩
theorem witness_refusedIsolateBySmbus : ∃ (data : Word) (s : State), s.pwr.aon = .up ∧
    PWR_MODE_CTL.REQ_MODE.get data = 5 ∧ s.mode = mDORMANT :=
  ⟨W.word PWR_MODE_CTL.REQ_MODE 5, State.reset, by decide +kernel⟩
theorem witness_refusedByWrite : ∃ (data : Word) (s : State), s.gr.linkUp = true ∧ s.railOk 7 = true ∧
    PWR_MODE_CTL.REQ_MODE.get data = 1 ∧ s.mode = mCALIBRATE :=
  ⟨W.word PWR_MODE_CTL.REQ_MODE 1, W.run (W.at 0xFE mCALIBRATE), by decide +kernel⟩
theorem witness_refusedIsolateByWrite : ∃ (data : Word) (s : State), s.gr.linkUp = true ∧ s.railOk 7 = true ∧
    PWR_MODE_CTL.REQ_MODE.get data = 5 ∧ s.mode = mDORMANT :=
  ⟨W.word PWR_MODE_CTL.REQ_MODE 5, W.at 0x80 mDORMANT, by decide +kernel⟩
/-- An entry of generation 1 is installed where one of the same generation is fetched. -/
def W.again : State :=
  W.fetching.updTable 0x35 fun t => { t with entries := [(0, { bytes := W.groupEntry, gen := 1, valid := true })] }
theorem witness_sameGeneration : ∃ (tb : BitVec 8) (r : Fetch) (bytes : List Byte) (i : Install) (rest : List Install)
    (e : Entry) (s : State), tableIds.contains tb.toNat = true ∧ r ≠ .lasting ∧ bytes.length = 64 ∧
    (s.table tb.toNat).queue = i :: rest ∧ i.waiting = none ∧ s.ent tb.toNat (i.first + i.done) = some e ∧
    e.gen = genOf bytes :=
  ⟨0x35, .good, W.groupEntry, { first := 0, count := 1, ord := 0 }, [], { bytes := W.groupEntry, gen := 1, valid := true },
    W.again, by decide +kernel⟩
theorem witness_ownRowCommitted : ∃ ofs : BitVec 32, 0x03000000 ≤ ofs.toNat ∧ ofs.toNat < 0x03E00000 :=
  ⟨0x03DFFFFC, by decide⟩
theorem witness_ownRowGrange : ∃ (tb : BitVec 8) (s : State), s.railOk 6 = true ∧ tableIds.contains tb.toNat = true :=
  ⟨0x50, W.tk, by decide +kernel⟩
theorem witness_ownRowTiming : ∃ s : State, s.railOk 4 = true := ⟨W.tk, by decide +kernel⟩
theorem witness_noLinkNoEffect : ∃ (c : Instr) (s : State), c.hostAccess = true ∧ s.gr.linkUp = false :=
  ⟨.doorbell 1, State.reset, by decide +kernel⟩
theorem witness_reservedWo : ∃ (w : Word) (s : State), s.gr.linkUp = true ∧ s.railOk 6 = true ∧
    MBX_COMMIT_CTL.WHEN.get w = 3 ∧ s.railOk 4 = true := ⟨7, W.fwd, by decide +kernel⟩
theorem witness_reservedRw : ∃ (bar2 : Bool) (ofs : BitVec 32) (data : BitVec 64) (row : RegRow) (i : Nat) (s : State),
    s.gr.linkUp = true ∧ (bar2 = true ∨ 0x10200 ≤ ofs.toNat) ∧ ofs.toNat % 4 = 0 ∧
    regAt (if bar2 then 0x100000000 + ofs.toNat else ofs.toNat) = some (row, i) ∧
    s.present (if bar2 then 0x100000000 + ofs.toNat else ofs.toNat) = true ∧ row.reg.plain = true ∧
    (bar2 = false → blockOf ofs.toNat = 0xD → s.smbData (ofs.toNat - 0x01D00000) = none) ∧ badWo row.flds (data.setWidth 32) = false ∧ badRw row.flds (data.setWidth 32) = true ∧ s.railOk 4 = true :=
  ⟨false, 0x01101404, 1001, W.row 0x01101404, 1, W.fwd, by decide +kernel⟩
theorem witness_reservedRwAlwaysOn : ∃ (bar2 : Bool) (ofs : BitVec 32) (data : BitVec 64) (row : RegRow) (i : Nat)
    (s : State), s.gr.linkUp = true ∧ (bar2 = true ∨ 0x10200 ≤ ofs.toNat) ∧ ofs.toNat % 4 = 0 ∧
    regAt (if bar2 then 0x100000000 + ofs.toNat else ofs.toNat) = some (row, i) ∧
    s.present (if bar2 then 0x100000000 + ofs.toNat else ofs.toNat) = true ∧ row.reg.plain = true ∧
    (bar2 = false → blockOf ofs.toNat = 0xD → s.smbData (ofs.toNat - 0x01D00000) = none) ∧ badWo row.flds (data.setWidth 32) = false ∧ badRw row.flds (data.setWidth 32) = true ∧ s.railOk 4 = true :=
  ⟨false, 0x01D00034, 1521, W.row 0x01D00034, 0, W.fwd, by decide +kernel⟩
theorem witness_smbBadCount : ∃ (count : Nat) (s : State), s.pwr.aon = .up ∧ count ≠ 6 := ⟨5, State.reset, by decide⟩
theorem witness_smbBadCountRead : ∃ (count : Nat) (s : State), s.pwr.aon = .up ∧ count ≠ 2 := ⟨6, State.reset, by decide⟩
theorem witness_smbNoPec : ∃ (pec : Option Byte) (s : State), s.pwr.aon = .up ∧ pec = none ∧
    s.bit PWR_SMB_CFG.PEC_REQ = true := ⟨none, W.tk.wr PWR_SMB_CFG.PEC_REQ 0 1, by decide +kernel⟩
theorem witness_smbBadPec : ∃ (ofs : BitVec 16) (data : Word) (pec : Option Byte) (s : State), s.pwr.aon = .up ∧
    pec.isSome = true ∧ pec ≠ some (s.smbPec ofs data) ∧ s.railOk 7 = true :=
  ⟨0x34, 0, some (W.tk.smbPec 0x34 0 + 1), W.tk, by decide +kernel⟩
theorem witness_smbBadOffset : ∃ (ofs : BitVec 16) (s : State), s.pwr.aon = .up ∧ regAt (0x01D00000 + ofs.toNat) = none :=
  ⟨0xFFFC, State.reset, by decide +kernel⟩
theorem witness_commandsWait : ∃ (c : Instr) (m : Fin 16) (opc : Nat) (x : Exec) (s : State), c.command = some (m, opc, x) ∧
    s.ready m (s.opcode m) = false := ⟨.cmdNop 0 .clean, 0, 1, .clean, State.reset, by decide +kernel⟩
theorem witness_commandsWaitOther : ∃ (c : Instr) (m : Fin 16) (opc : Nat) (x : Exec) (s : State),
    c.command = some (m, opc, x) ∧ s.opcode m ≠ opc ∧ knownOpcodes.contains (s.opcode m) = true :=
  ⟨.cmdNop 0 .clean, 0, 1, .clean, W.post W.tk 2 0 [], by decide +kernel⟩
/-- A mailbox with a command in recovery. -/
def W.recovering : State := (W.post W.tk 1 0 []).wr PWR_BOOT_STAT.STATE 0 4
theorem witness_refusedInRecovery : ∃ (c : Instr) (m : Fin 16) (opc : Nat) (x : Exec) (s : State),
    c.command = some (m, opc, x) ∧ s.ready m opc = true ∧ s.boot.running = false ∧ s.recovery = true ∧ opc ≠ 0x40 ∧
    opc ≠ 0x41 := ⟨.cmdNop 0 .clean, 0, 1, .clean, W.recovering, by decide +kernel⟩
theorem witness_refusedFlags : ∃ (c : Instr) (m : Fin 16) (opc : Nat) (x : Exec) (s : State),
    c.command = some (m, opc, x) ∧ s.ready m opc = true ∧ s.boot.running = false ∧ s.recovery = false ∧
    s.mflags m / 4 ≠ 0 := ⟨.cmdNop 0 .clean, 0, 1, .clean, W.post W.tk 1 4 [], by decide +kernel⟩
theorem witness_refusedLength : ∃ (c : Instr) (m : Fin 16) (opc : Nat) (x : Exec) (s : State),
    c.command = some (m, opc, x) ∧ s.ready m opc = true ∧ s.boot.running = false ∧ s.recovery = false ∧
    4032 < s.plen m :=
  ⟨.cmdNop 0 .clean, 0, 1, .clean, (W.post W.tk 1 0 []).setMb 0 4 (leBytes 2 4033), by decide +kernel⟩
theorem witness_refusedFailed : ∃ (c : Instr) (m : Fin 16) (opc : Nat) (x : Exec) (s : State),
    c.command = some (m, opc, x) ∧ s.ready m opc = true ∧ s.boot.running = false ∧ s.recovery = false ∧ x = .failed :=
  ⟨.cmdNop 0 .failed, 0, 1, .failed, W.post W.tk 1 0 [], by decide +kernel⟩
theorem witness_refusedRepetition : ∃ (c : Instr) (m : Fin 16) (opc : Nat) (x : Exec) (s : State),
    c.command = some (m, opc, x) ∧ s.ready m opc = true ∧ s.boot.running = false ∧ s.recovery = false ∧ x = .retried ∧
    (s.mbxAt m).retry = true :=
  ⟨.cmdNop 0 .retried, 0, 1, .retried, (W.post W.tk 1 0 []).updMbx 0 fun b => { b with retry := true }, by decide +kernel⟩
theorem witness_unknownOpcode : ∃ (m : Fin 16) (s : State), s.ready m (s.opcode m) = true ∧
    knownOpcodes.contains (s.opcode m) = false ∧ s.boot.running = false :=
  ⟨0, W.post W.tk 0xFFFF 0 [], by decide +kernel⟩
theorem witness_commandMemory : ∃ (c : Instr) (m : Fin 16) (opc : Nat) (x : Exec) (s t : State),
    c.command = some (m, opc, x) ∧ Gives c s t :=
  ⟨.cmdNop 0 .clean, 0, 1, .clean, W.post W.tk 1 0 [], _, by decide +kernel, rfl⟩
theorem witness_frameModule : ∃ (c : Instr) (s t : State), c.chapter = 2 ∧ Gives c s t :=
  ⟨.tapReset, W.fwd, _, rfl, rfl⟩
theorem witness_frameGrange : ∃ (c : Instr) (s t : State), c.chapter = 4 ∧ Gives c s t :=
  ⟨.committedViewWrite 0x03000000, W.fwd, _, rfl, rfl⟩
theorem witness_framePorts : ∃ (c : Instr) (s t : State), c.chapter = 5 ∧ Gives c s t :=
  ⟨.glitch 0, W.fwd, _, rfl, rfl⟩
theorem witness_frameSheaf : ∃ (c : Instr) (s t : State), c.chapter = 6 ∧ Gives c s t :=
  ⟨.syncWaitExpiry 0, W.fwd, _, rfl, rfl⟩
theorem witness_frameForwardingGranary7 : ∃ (c : Instr) (s t : State), c.chapter = 7 ∧ Gives c s t :=
  ⟨.planeDrainEnd, W.fwd, _, rfl, rfl⟩
theorem witness_frameForwardingGranary8 : ∃ (c : Instr) (s t : State), c.chapter = 8 ∧ Gives c s t :=
  ⟨.gleanerSweep, W.fwd, _, rfl, rfl⟩
theorem witness_frameScheduleTime9 : ∃ (c : Instr) (s t : State), c.chapter = 9 ∧ Gives c s t :=
  ⟨.windowEnd 0, W.fwd, _, rfl, rfl⟩
theorem witness_frameScheduleTime10 : ∃ (c : Instr) (s t : State), c.chapter = 10 ∧ Gives c s t :=
  ⟨.snapshot 1, W.fwd, _, rfl, rfl⟩
theorem witness_frameRouteReference11 : ∃ (c : Instr) (s t : State), c.chapter = 11 ∧ Gives c s t :=
  ⟨.ttWindowEnd 0, W.fwd, _, rfl, rfl⟩
theorem witness_frameRouteReference12 : ∃ (c : Instr) (s t : State), c.chapter = 12 ∧ Gives c s t :=
  ⟨.ptpSample, W.fwd, _, rfl, rfl⟩
theorem witness_frameSynthesis : ∃ (c : Instr) (s t : State), c.chapter = 13 ∧ Gives c s t :=
  ⟨.rampUpdate, W.fwd, _, rfl, rfl⟩
theorem witness_frameMeasurement14 : ∃ (c : Instr) (s t : State), c.chapter = 14 ∧ Gives c s t :=
  ⟨.tdcTimeout, W.fwd, _, rfl, rfl⟩
theorem witness_frameMeasurement15 : ∃ (c : Instr) (s t : State), c.chapter = 15 ∧ Gives c s t :=
  ⟨.calRunDone, W.fwd, _, rfl, rfl⟩
theorem witness_frameIntegrity : ∃ (c : Instr) (s t : State), c.chapter = 16 ∧ Gives c s t :=
  ⟨.logLatch, W.fwd, _, rfl, rfl⟩
theorem witness_frameTwin : ∃ (c : Instr) (s t : State), c.chapter = 17 ∧ Gives c s t :=
  ⟨.heartbeatSend, W.fwd, _, rfl, rfl⟩
theorem witness_wellFormedAnswers : ∃ c : Instr, c.wf = true := ⟨.dataGrainReceived 0 W.tgrain 19 false 0 ⟨0, 0, 0⟩, by decide +kernel⟩
theorem witness_stepKeepsCanon : ∃ s t : State, s.canon ∧ step s = .next t :=
  ⟨State.reset, _, ⟨by unfold SMap.rising; decide +kernel, by unfold SMap.rising; decide +kernel, by decide +kernel⟩, rfl⟩
theorem witness_runsNeverStop : ∃ (n : Nat) (s : State), n ≠ 0 ∧ s.queueWf ∧ s.pending ≠ [] :=
  ⟨2, { W.fwd with pending := [.tapReset, .snapshot 1] }, by decide, by simp [State.queueWf, Instr.wf], by decide⟩

/-! ### Witnesses of the statements about single commands -/

theorem witness_feedConnect : ∃ (f : Fin 2) (v : BitVec 16) (s : State),
    True :=
  ⟨1, 4800, State.reset, by decide +kernel⟩

theorem witness_feedDisconnect : ∃ (f : Fin 2) (overV : Bool) (load : Nat) (s : State),
    (s.feed f).connected = true :=
  ⟨0, false, 100, W.fed, by decide +kernel⟩

theorem witness_rideThroughEnd : ∃ (s : State),
    s.bit PWR_FEED_STAT.RIDE_THROUGH = true ∧ s.pwr.aon = .up ∧ s.pwr.feedA.connected = false ∧ s.pwr.feedB.connected = false ∧ s.pwr.rideEnd ≤ s.now ∧ s.feedComes = false :=
  ⟨W.riding, by decide +kernel⟩

theorem witness_chargeComplete : ∃ (f : Fin 2) (s : State),
    (s.feed f).charging = true :=
  ⟨0, W.charging, by decide +kernel⟩

theorem witness_powerOnReset : ∃ (straps : BitVec 3) (s : State),
    s.pwr.aon = .starting :=
  ⟨0, W.starting, by decide +kernel⟩

theorem witness_railRampTimeout : ∃ (r : Fin 8) (e : Nat × Nat) (s : State),
    s.pwr.ramp.find? (fun e => e.1 = r.val) = some e ∧ s.railReq r = true ∧ s.railOk r = false ∧ e.2 + 2 * msT ≤ s.now :=
  ⟨1, (1, 0), W.ramping, by decide +kernel⟩

theorem witness_railLeavesRegulation : ∃ (r : Fin 8) (s : State),
    s.railReq r = true ∧ s.railOk r = true ∧ s.pwr.aon = .up :=
  ⟨4, W.tk, by decide +kernel⟩

theorem witness_feedMonitorUpdate : ∃ (va ca vb cb : BitVec 16) (revA revB : Bool) (s : State),
    s.pwr.aon = .up :=
  ⟨4800, 10, 800, 10, false, false, State.reset, by decide +kernel⟩

theorem witness_feedMonitorUpdate_2 : ∃ (va ca vb cb : BitVec 16) (revA revB : Bool) (s : State),
    s.pwr.aon = .up :=
  ⟨4800, 10, 4800, 10, false, true, State.reset, by decide +kernel⟩

theorem witness_tempEstimate : ∃ (caseT dieMax : BitVec 16) (s : State),
    s.pwr.aon = .up :=
  ⟨400, 500, State.reset, by decide +kernel⟩

theorem witness_tempEstimate_2 : ∃ (caseT dieMax : BitVec 16) (s : State),
    s.pwr.aon = .up :=
  ⟨1600, 1700, W.tk, by decide +kernel⟩

theorem witness_oldRailsOff : ∃ (s : State),
    s.pwr.trans = none :=
  ⟨State.reset, by decide +kernel⟩

theorem witness_resetPin : ∃ (lowNs : Nat) (s : State),
    s.pwr.aon = .up :=
  ⟨1200, State.reset, by decide +kernel⟩

theorem witness_resetPin_2 : ∃ (lowNs : Nat) (s : State),
    s.pwr.aon = .up :=
  ⟨900, W.tk, by decide +kernel⟩

theorem witness_softwareModuleReset : ∃ (data : Word) (s : State),
    s.pwr.aon = .up ∧ PWR_RESET_CTL.KEY.get data = 0xA5C3 ∧ PWR_RESET_CTL.MODULE.get data = 1 :=
  ⟨0x1A5C3, State.reset, by decide +kernel⟩

theorem witness_softwareSwitchReset : ∃ (data : Word) (s : State),
    s.pwr.aon = .up ∧ PWR_RESET_CTL.KEY.get data = 0xA5C3 ∧ PWR_RESET_CTL.MODULE.get data = 0 ∧ PWR_RESET_CTL.SWITCH.get data = 1 :=
  ⟨0x2A5C3, W.tk, by decide +kernel⟩

theorem witness_softwareSwitchReset_2 : ∃ (data : Word) (s : State),
    s.pwr.aon = .up ∧ PWR_RESET_CTL.KEY.get data = 0xA5C3 ∧ PWR_RESET_CTL.MODULE.get data = 0 ∧ PWR_RESET_CTL.SWITCH.get data = 1 :=
  ⟨0x2A5C3, W.fwd, by decide +kernel⟩

theorem witness_softwareSwitchReset_3 : ∃ (data : Word) (s : State),
    s.pwr.aon = .up ∧ PWR_RESET_CTL.KEY.get data = 0xA5C3 ∧ PWR_RESET_CTL.MODULE.get data = 0 ∧ PWR_RESET_CTL.SWITCH.get data = 1 :=
  ⟨0x2A5C3, State.reset, by decide +kernel⟩

theorem witness_grangeWatchdogReset : ∃ (s : State),
    s.railOk 6 = true ∧ s.bootRunning = true :=
  ⟨W.tk, by decide +kernel⟩

theorem witness_pcieFundamentalReset : ∃ (low : Bool) (s : State),
    s.pwr.aon = .up :=
  ⟨true, State.reset, by decide +kernel⟩

theorem witness_modeRequest : ∃ (m : BitVec 3) (smbus : Bool) (s : State),
    s.pwr.aon = .up ∧ (smbus || s.gr.linkUp) = true ∧ (smbus = false → s.smbData 0x10 = none) ∧ (m.toNat ≠ mISOLATE → s.pwr.isoAt ≠ some s.now ∧ s.pwr.resetAt ≠ some s.now) :=
  ⟨2, true, State.reset, by decide +kernel⟩

theorem witness_modeRequest_2 : ∃ (m : BitVec 3) (smbus : Bool) (s : State),
    s.pwr.aon = .up ∧ (smbus || s.gr.linkUp) = true ∧ (smbus = false → s.smbData 0x10 = none) ∧ (m.toNat ≠ mISOLATE → s.pwr.isoAt ≠ some s.now ∧ s.pwr.resetAt ≠ some s.now) :=
  ⟨5, false, W.fwd, by decide +kernel⟩

theorem witness_modeRequestLoses : ∃ (m : BitVec 3) (smbus : Bool) (s : State),
    s.pwr.aon = .up ∧ (smbus || s.gr.linkUp) = true ∧ (smbus = false → s.smbData 0x10 = none) ∧ m.toNat < mISOLATE ∧ ((s.pwr.isoAt = some s.now ∨ s.pwr.resetAt = some s.now)) :=
  ⟨3, false, W.tk.updPwr fun p => { p with isoAt := some 0 }, by decide +kernel⟩

theorem witness_ocxoHoldWarmWrite : ∃ (v : Bool) (s : State),
    s.pwr.aon = .up :=
  ⟨true, State.reset, by decide +kernel⟩

theorem witness_transitionComplete : ∃ (m : Fin 6) (s : State),
    s.pwr.trans = some m ∧ ¬ (s.mode = mWARMUP ∧ m.val = mTIMEKEEP) :=
  ⟨1, W.toWarmup, by decide +kernel⟩

theorem witness_warmupToTimekeep : ∃ (s : State),
    s.mode = mWARMUP ∧ s.pwr.trans = some 2 :=
  ⟨W.warm, by decide +kernel⟩

theorem witness_tapInstruction : ∃ (op : TapInstr) (s : State),
    s.pwr.aon = .up :=
  ⟨.extest, State.reset, by decide +kernel⟩

theorem witness_tapReset : ∃ (s : State),
    True :=
  ⟨State.reset, by decide +kernel⟩

theorem witness_ocxoWarmSet : ∃ (err : BitVec 16) (s : State),
    s.bit PWR_CLK_STAT.OCXO_HEATING = true ∧ s.ocxoWarm = false ∧ err.toInt.natAbs ≤ 51 ∧ s.ovenHeld = true :=
  ⟨10, W.heating, by decide +kernel⟩

theorem witness_ocxoWarmClear : ∃ (err : BitVec 16) (s : State),
    s.ocxoWarm = true ∧ 512 < err.toInt.natAbs :=
  ⟨600, W.tk, by decide +kernel⟩

theorem witness_mdllLock : ∃ (s : State),
    s.railOk 4 = true ∧ (s.pwr.mdllAt.isSome = true → s.pwr.mdllHold = true ∧ s.mode ≠ mISOLATE ∧ s.pwr.trans ≠ some 5) :=
  ⟨W.warm, by decide +kernel⟩

theorem witness_mdllLock_2 : ∃ (s : State),
    s.railOk 4 = true ∧ (s.pwr.mdllAt.isSome = true → s.pwr.mdllHold = true ∧ s.mode ≠ mISOLATE ∧ s.pwr.trans ≠ some 5) :=
  ⟨W.tk.updPwr fun p => { p with mdllHold := true }, by decide +kernel⟩

theorem witness_lockLost : ∃ (s : State),
    s.tickRun = true ∧ s.pwr.mdllHold = false :=
  ⟨W.tk, by decide +kernel⟩

theorem witness_lanePowered : ∃ (lane : Fin 260) (s : State),
    s.tkMode = true ∧ s.pwr.lanes.contains lane.val = false ∧ s.wantsLane lane = true :=
  ⟨0, W.powering, by decide +kernel⟩

theorem witness_bootCheckDone : ∃ (r : ImageCheck) (s : State),
    s.boot.running = true :=
  ⟨.good 1, W.booting, by decide +kernel⟩

theorem witness_bootCheckDone_2 : ∃ (r : ImageCheck) (s : State),
    s.boot.running = true :=
  ⟨.readError, W.booting, by decide +kernel⟩

theorem witness_bootCheckDone_3 : ∃ (r : ImageCheck) (s : State),
    s.boot.running = true :=
  ⟨.badHeader, W.booting.updBoot fun b => { b with second := true }, by decide +kernel⟩

theorem witness_bootCheckDone_4 : ∃ (r : ImageCheck) (s : State),
    s.boot.running = true :=
  ⟨.good 0, W.booting.updBoot fun b => { b with slotsTried := 1, minRelease := 1 }, by decide +kernel⟩

theorem witness_smbRegisterWrite : ∃ (ofs : BitVec 16) (data : Word) (pec : Option Byte) (row : RegRow) (i : Nat) (s : State),
    s.pwr.aon = .up ∧ regAt (0x01D00000 + ofs.toNat) = some (row, i) ∧ ofs ≠ 0x10 ∧ ofs ≠ 0x4C ∧ badWo row.flds data = false ∧ ((pec = some (s.smbPec ofs data) ∨ (pec = none ∧ s.bit PWR_SMB_CFG.PEC_REQ = false))) :=
  ⟨0x84, 5, none, ⟨R.EVT_FCNT, [EVT_FCNT.CORRECTED, EVT_FCNT.TRANSIENT, EVT_FCNT.LASTING]⟩, 0, State.reset, by decide +kernel⟩

theorem witness_smbModeWrite : ∃ (data : Word) (pec : Option Byte) (s : State),
    s.pwr.aon = .up ∧ s.pwr.isoAt ≠ some s.now ∧ s.pwr.resetAt ≠ some s.now ∧ ((pec = some (s.smbPec 0x10 data) ∨ (pec = none ∧ s.bit PWR_SMB_CFG.PEC_REQ = false))) :=
  ⟨2, none, State.reset, by decide +kernel⟩

theorem witness_smbResetWrite : ∃ (data : Word) (pec : Option Byte) (s : State),
    s.pwr.aon = .up ∧ PWR_RESET_CTL.KEY.get data = 0xA5C3 ∧ ((pec = some (s.smbPec 0x4C data) ∨ (pec = none ∧ s.bit PWR_SMB_CFG.PEC_REQ = false))) :=
  ⟨0x1A5C3, none, W.tk, by decide +kernel⟩

theorem witness_smbResetWrite_2 : ∃ (data : Word) (pec : Option Byte) (s : State),
    s.pwr.aon = .up ∧ PWR_RESET_CTL.KEY.get data = 0xA5C3 ∧ ((pec = some (s.smbPec 0x4C data) ∨ (pec = none ∧ s.bit PWR_SMB_CFG.PEC_REQ = false))) :=
  ⟨0x2A5C3, none, W.fwd, by decide +kernel⟩

theorem witness_smbRegisterRead : ∃ (ofs : BitVec 16) (row : RegRow) (i : Nat) (s : State),
    s.pwr.aon = .up ∧ regAt (0x01D00000 + ofs.toNat) = some (row, i) :=
  ⟨0x84, ⟨R.EVT_FCNT, [EVT_FCNT.CORRECTED, EVT_FCNT.TRANSIENT, EVT_FCNT.LASTING]⟩, 0, State.reset, by decide +kernel⟩

theorem witness_smbAlertResponse : ∃ (s : State),
    s.pwr.aon = .up ∧ s.smbAlert = true :=
  ⟨W.alert, by decide +kernel⟩

theorem witness_smbClockLowTimeout : ∃ (s : State),
    True :=
  ⟨State.reset, by decide +kernel⟩

theorem witness_registerWrite : ∃ (bar2 : Bool) (ofs : BitVec 32) (data : BitVec 64) (row : RegRow) (i : Nat) (s : State),
    s.gr.linkUp = true ∧ ((bar2 = true ∨ 0x10200 ≤ ofs.toNat)) ∧ ofs.toNat % 4 = 0 ∧ regAt (if bar2 then 0x100000000 + ofs.toNat else ofs.toNat) = some (row, i) ∧ s.present (if bar2 then 0x100000000 + ofs.toNat else ofs.toNat) = true ∧ row.reg.plain = true ∧ (bar2 = false → blockOf ofs.toNat = 0xD → s.smbData (ofs.toNat - 0x01D00000) = none) ∧ badWo row.flds (data.setWidth 32) = false :=
  ⟨false, 0x1100000, 0x8000, W.row 0x1100000, 0, W.fwd, by decide +kernel⟩

theorem witness_modeWrite : ∃ (data : BitVec 64) (s : State),
    s.gr.linkUp = true ∧ s.railOk 7 = true ∧ s.pwr.isoAt ≠ some s.now ∧ s.pwr.resetAt ≠ some s.now ∧ s.smbData 0x10 = none :=
  ⟨2, W.tk, by decide +kernel⟩

theorem witness_registerWritePair : ∃ (ofs : BitVec 32) (data : BitVec 64) (row rowH : RegRow) (i j : Nat) (s : State),
    s.gr.linkUp = true ∧ 0x10200 ≤ ofs.toNat ∧ ofs.toNat % 8 = 0 ∧ regAt ofs.toNat = some (row, i) ∧ loRegs.contains row.reg = true ∧ regAt (ofs.toNat + 4) = some (rowH, j) ∧ s.present ofs.toNat = true ∧ row.reg.plain = true ∧ rowH.reg.plain = true ∧ badWo row.flds (data.setWidth 32) = false ∧ badWo rowH.flds ((data >>> 32).setWidth 32) = false :=
  ⟨BitVec.ofNat 32 (R.PRT_MAC_ADDR_LO.at 0), 5, W.row (R.PRT_MAC_ADDR_LO.at 0), W.row (R.PRT_MAC_ADDR_LO.at 0 + 4), 0, 0, W.fwd, by decide +kernel⟩

theorem witness_registerWriteOther : ∃ (w : Word) (s : State),
    s.gr.linkUp = true :=
  ⟨5, W.fwd, by decide +kernel⟩

theorem witness_d2dTransferFail : ∃ (retryGood : Bool) (s : State),
    s.tickRun = true :=
  ⟨false, W.tk, by decide +kernel⟩

theorem witness_doorbell : ∃ (ring : Word) (n : Fin 16) (s : State),
    s.gr.linkUp = true ∧ testBit ring.toNat n = true ∧ ((s.mst n = mIDLE ∨ s.mst n = mDONE)) :=
  ⟨1, 0, W.tk, by decide +kernel⟩

theorem witness_doorbellMemory : ∃ (ring : Word) (s : State),
    s.gr.linkUp = true :=
  ⟨1, W.tk, by decide +kernel⟩

theorem witness_mailboxWrite : ∃ (ofs : BitVec 16) (data : List Byte) (s : State),
    s.gr.linkUp = true ∧ data ≠ [] ∧ (ofs.toNat + data.length - 1) / 4096 = ofs.toNat / 4096 ∧ ((s.mst (ofs.toNat / 4096) = mIDLE ∨ s.mst (ofs.toNat / 4096) = mDONE)) :=
  ⟨5, [1, 2], W.tk, by decide +kernel⟩

theorem witness_fencedCommandStart : ∃ (m : Fin 16) (s : State),
    s.serving = true ∧ s.mst m = mPOSTED ∧ testBit (s.mflags m) 0 = true ∧ s.opcode m ≠ 0x3 ∧ s.fenceCond m = true :=
  ⟨0, W.post W.tk 0x1 1 [], by decide +kernel⟩

theorem witness_cmdNop : ∃ (m : Fin 16) (ex : Exec) (s : State),
    s.accepts m 0x1 ex = true ∧ s.plen m = 0 :=
  ⟨0, .clean, W.post W.tk 0x1 0 [], by decide +kernel⟩

theorem witness_cmdNop_2 : ∃ (m : Fin 16) (ex : Exec) (s : State),
    s.accepts m 0x1 ex = true ∧ s.plen m = 0 :=
  ⟨0, .retried, W.post W.tk 0x1 0 [], by decide +kernel⟩

theorem witness_cmdIdentify : ∃ (m : Fin 16) (ex : Exec) (s : State),
    s.accepts m 0x2 ex = true ∧ s.plen m = 0 ∧ s.boot.serial.length = 12 :=
  ⟨0, .clean, W.post W.tk 0x2 0 [], by decide +kernel⟩

theorem witness_cmdIdentify_2 : ∃ (m : Fin 16) (ex : Exec) (s : State),
    s.accepts m 0x2 ex = true ∧ s.plen m = 0 ∧ s.boot.serial.length = 12 :=
  ⟨0, .retried, W.post W.tk 0x2 0 [], by decide +kernel⟩

theorem witness_cmdFence : ∃ (m : Fin 16) (ex : Exec) (s : State),
    s.accepts m 0x3 ex = true ∧ ((s.plen m = 0 ∨ s.plen m = 8 ∧ s.pay m 0 4 < 2)) ∧ (s.fenceDrain m = true → s.fwdMode = true) :=
  ⟨0, .clean, W.post W.tk 0x3 0 [], by decide +kernel⟩

theorem witness_cmdFence_2 : ∃ (m : Fin 16) (ex : Exec) (s : State),
    s.accepts m 0x3 ex = true ∧ ((s.plen m = 0 ∨ s.plen m = 8 ∧ s.pay m 0 4 < 2)) ∧ (s.fenceDrain m = true → s.fwdMode = true) :=
  ⟨0, .retried, W.post W.fwd 0x3 0 [1, 0, 0, 0, 5, 0, 0, 0], by decide +kernel⟩

theorem witness_cmdFence_3 : ∃ (m : Fin 16) (ex : Exec) (s : State),
    s.accepts m 0x3 ex = true ∧ ((s.plen m = 0 ∨ s.plen m = 8 ∧ s.pay m 0 4 < 2)) ∧ (s.fenceDrain m = true → s.fwdMode = true) :=
  ⟨0, .clean, W.later 2048 (W.post W.tk 0x3 0 [0, 0, 0, 0, 1, 0, 0, 0]), by decide +kernel⟩

theorem witness_fenceRelease : ∃ (m : Fin 16) (drain : Bool) (lim : Option Nat) (h : Nat) (s : State),
    (s.mbxAt m).job = some (.fence drain lim) ∧ s.fenceHeld m drain = some h :=
  ⟨0, false, none, 0, W.job W.tk (.fence false none), by decide +kernel⟩

theorem witness_fenceRelease_2 : ∃ (m : Fin 16) (drain : Bool) (lim : Option Nat) (h : Nat) (s : State),
    (s.mbxAt m).job = some (.fence drain lim) ∧ s.fenceHeld m drain = some h :=
  ⟨0, true, some 0, 3, W.later 3 (W.job W.fwd (.fence true (some 0))), by decide +kernel⟩

theorem witness_fenceTimeout : ∃ (m : Fin 16) (drain : Bool) (lim : Nat) (s : State),
    (s.mbxAt m).job = some (.fence drain (some lim)) ∧ lim ≤ s.now ∧ (s.mbxAt m).heldAt.all (fun h => decide (lim ≤ h)) = true :=
  ⟨0, false, 0, W.job W.tk (.fence false (some 0)), by decide +kernel⟩

theorem witness_cmdConfigSave : ∃ (m : Fin 16) (ex : Exec) (s : State),
    s.accepts m 0x30 ex = true ∧ s.plen m = 0 ∧ s.boot.flashBusy = none :=
  ⟨0, .clean, W.post W.tk 0x30 0 [], by decide +kernel⟩

theorem witness_cmdConfigSave_2 : ∃ (m : Fin 16) (ex : Exec) (s : State),
    s.accepts m 0x30 ex = true ∧ s.plen m = 0 ∧ s.boot.flashBusy = none :=
  ⟨0, .retried, W.post W.tk 0x30 0 [], by decide +kernel⟩

theorem witness_cmdImageDownload : ∃ (m : Fin 16) (ex : Exec) (s : State),
    s.accepts m 0x40 ex = true ∧ 12 < s.plen m ∧ s.plen m ≤ 4032 ∧ s.pay m 8 4 = s.plen m - 12 ∧ s.pay m 1 3 = 0 ∧ s.slotOk (s.pay m 0 1) = true ∧ s.pay m 4 4 % 16 = 0 ∧ s.pay m 4 4 + s.pay m 8 4 ≤ 0x1800000 ∧ s.boot.flashBusy = none :=
  ⟨0, .clean, W.post W.tk 0x40 0 [1, 0, 0, 0, 0, 0, 0, 0, 1, 0, 0, 0, 7], by decide +kernel⟩

theorem witness_cmdImageDownload_2 : ∃ (m : Fin 16) (ex : Exec) (s : State),
    s.accepts m 0x40 ex = true ∧ 12 < s.plen m ∧ s.plen m ≤ 4032 ∧ s.pay m 8 4 = s.plen m - 12 ∧ s.pay m 1 3 = 0 ∧ s.slotOk (s.pay m 0 1) = true ∧ s.pay m 4 4 % 16 = 0 ∧ s.pay m 4 4 + s.pay m 8 4 ≤ 0x1800000 ∧ s.boot.flashBusy = none :=
  ⟨0, .retried, W.post W.tk 0x40 0 [1, 0, 0, 0, 0, 0, 0, 0, 1, 0, 0, 0, 7], by decide +kernel⟩

theorem witness_cmdImageActivate : ∃ (m : Fin 16) (ex : Exec) (s : State),
    s.accepts m 0x41 ex = true ∧ s.plen m = 4 ∧ s.pay m 1 3 = 0 ∧ s.slotOk (s.pay m 0 1) = true ∧ s.boot.flashBusy = none :=
  ⟨0, .clean, W.post W.tk 0x41 0 [1, 0, 0, 0], by decide +kernel⟩

theorem witness_cmdImageActivate_2 : ∃ (m : Fin 16) (ex : Exec) (s : State),
    s.accepts m 0x41 ex = true ∧ s.plen m = 4 ∧ s.pay m 1 3 = 0 ∧ s.slotOk (s.pay m 0 1) = true ∧ s.boot.flashBusy = none :=
  ⟨0, .retried, W.post W.tk 0x41 0 [1, 0, 0, 0], by decide +kernel⟩

theorem witness_flashOperationDone : ∃ (m : Fin 16) (ex : Exec) (r1 r2 : ImageCheck) (s : State),
    s.boot.flashBusy = some m ∧ (s.mbxAt m).job = some .flash ∧ ((ex = .clean ∨ ex = .retried ∧ (s.mbxAt m).retry = false)) :=
  ⟨0, .clean, .good 5, .badHeader, W.flashing, by decide +kernel⟩

theorem witness_flashOperationDone_2 : ∃ (m : Fin 16) (ex : Exec) (r1 r2 : ImageCheck) (s : State),
    s.boot.flashBusy = some m ∧ (s.mbxAt m).job = some .flash ∧ ((ex = .clean ∨ ex = .retried ∧ (s.mbxAt m).retry = false)) :=
  ⟨0, .retried, .badHeader, .good 5, W.flashing, by decide +kernel⟩

theorem witness_commitGo : ∃ (w : Word) (s : State),
    s.gr.linkUp = true ∧ badCtl w = false ∧ MBX_COMMIT_CTL.GO.get w = 1 :=
  ⟨1, W.go, by decide +kernel⟩

theorem witness_commitGo_2 : ∃ (w : Word) (s : State),
    s.gr.linkUp = true ∧ badCtl w = false ∧ MBX_COMMIT_CTL.GO.get w = 1 :=
  ⟨1, W.tk, by decide +kernel⟩

theorem witness_commitGo_3 : ∃ (w : Word) (s : State),
    s.gr.linkUp = true ∧ badCtl w = false ∧ MBX_COMMIT_CTL.GO.get w = 1 :=
  ⟨1, W.goEarly, by decide +kernel⟩

theorem witness_commitGoFirst : ∃ (w : Word) (c : Commit) (m : Fin 16) (g : Nat) (s : State),
    s.gr.linkUp = true ∧ badCtl w = false ∧ MBX_COMMIT_CTL.GO.get w = 1 ∧ s.groupsMode (s.rd MBX_COMMIT_GROUPS.GROUPS) = true ∧ g < 12 ∧ testBit (s.rd MBX_COMMIT_GROUPS.GROUPS) g = true ∧ c ∈ s.gr.commits ∧ c.stage = .checking ∧ c.askedAt = s.now ∧ c.path = some m ∧ c.restore = 0 ∧ testBit c.groups g = true ∧ s.mst m = mRUNNING :=
  ⟨1, W.cmdAsk, 0, 0, W.cmdAsked, by decide +kernel⟩

theorem witness_commitDiscard : ∃ (w : Word) (row : RegRow) (i : Nat) (s : State),
    s.gr.linkUp = true ∧ badCtl w = false ∧ MBX_COMMIT_CTL.DISCARD.get w = 1 ∧ regAt (row.reg.at i) = some (row, i) ∧ groupHit (s.rd MBX_COMMIT_GROUPS.GROUPS) (row.reg.at i) = true :=
  ⟨8, W.row 0x1100000, 0, W.go, by decide +kernel⟩

theorem witness_commitCheckDone : ∃ (g : Fin 12) (c : Commit) (s : State),
    s.commitOf g = some c ∧ c.stage = .checking ∧ (testBit c.groups 5 = true → c.askedAt + 2048 ≤ s.now) ∧ c.verdict = none ∧ ((c.when_ = 0 ∨ c.when_ = 2 ∧ testBit c.groups 4 = false ∧ testBit c.groups 5 = false ∧ (testBit c.groups 8 = true → s.tdc.armed = none))) :=
  ⟨0, W.ask 0, W.asked 0, by decide +kernel⟩

theorem witness_commitCheckWaits : ∃ (g : Fin 12) (c : Commit) (s : State),
    s.commitOf g = some c ∧ c.stage = .checking ∧ (testBit c.groups 5 = true → c.askedAt + 2048 ≤ s.now) ∧ c.verdict = none :=
  ⟨0, W.ask1, W.asked1, by decide +kernel⟩

theorem witness_commitCheckFails : ∃ (g : Fin 12) (c : Commit) (ofs fg : Nat) (enc : Bool) (s : State),
    s.commitOf g = some c ∧ c.stage = .checking ∧ (testBit c.groups 5 = true → c.askedAt + 2048 ≤ s.now) ∧ c.verdict = some (ST_REJECT_INCONSISTENT, ofs, fg, enc) :=
  ⟨0, W.askBad, 0x1100000, 0, false, W.askedBad, by decide +kernel⟩

theorem witness_commitApplyAt : ∃ (g : Fin 12) (c : Commit) (s : State),
    s.commitOf g = some c ∧ c.stage = .waiting ∧ c.when_ = 1 ∧ c.at_ ≤ s.tick :=
  ⟨0, W.ask 1, W.asked 1, by decide +kernel⟩

theorem witness_commitApplyBoundary : ∃ (g : Fin 12) (c : Commit) (s : State),
    s.commitOf g = some c ∧ c.stage = .waiting ∧ c.when_ = 2 ∧ (match c.bound with | some n => decide (n ≤ if testBit c.groups 4 then s.cycleNow else s.now) | none => s.tdc.armed.isNone && s.tdc.test.isNone) = true :=
  ⟨0, W.ask 2, W.asked 2, by decide +kernel⟩

theorem witness_committedViewWrite : ∃ (ofs : BitVec 32) (s : State),
    s.gr.linkUp = true ∧ 0x03000000 ≤ ofs.toNat ∧ ofs.toNat < 0x03E00000 ∧ s.railOk 4 = true :=
  ⟨0x03000004, W.tk, by decide +kernel⟩

theorem witness_cmdCommit : ∃ (m : Fin 16) (ex : Exec) (s : State),
    s.accepts m 0x20 ex = true ∧ s.plen m = 16 ∧ s.pay m 0 4 ≠ 0 ∧ s.pay m 0 4 < 4096 ∧ s.pay m 4 4 ≤ 2 ∧ s.groupsMode (s.pay m 0 4) = true ∧ s.groupsBusy (s.pay m 0 4) = false :=
  ⟨0, .clean, W.post W.fwd 0x20 0 [1, 0, 0, 0, 0, 0, 0, 0, 0, 0, 0, 0, 0, 0, 0, 0], by decide +kernel⟩

theorem witness_cmdCommit_2 : ∃ (m : Fin 16) (ex : Exec) (s : State),
    s.accepts m 0x20 ex = true ∧ s.plen m = 16 ∧ s.pay m 0 4 ≠ 0 ∧ s.pay m 0 4 < 4096 ∧ s.pay m 4 4 ≤ 2 ∧ s.groupsMode (s.pay m 0 4) = true ∧ s.groupsBusy (s.pay m 0 4) = false :=
  ⟨0, .retried, W.post W.fwd 0x20 0 [1, 0, 0, 0, 0, 0, 0, 0, 0, 0, 0, 0, 0, 0, 0, 0], by decide +kernel⟩

theorem witness_cmdConfigRestore : ∃ (m : Fin 16) (ex : Exec) (s : State),
    s.accepts m 0x31 ex = true ∧ ((s.plen m = 0 ∨ s.plen m = 4)) ∧ s.restoreGroups m ≠ 0 ∧ s.restoreGroups m < 4096 ∧ s.boot.saved.isSome = true ∧ s.groupsMode (s.restoreGroups m) = true ∧ s.groupsBusy (s.restoreGroups m) = false ∧ s.bindBlocked (s.restoreGroups m) = false :=
  ⟨0, .clean, W.post W.saved 0x31 0 [1, 0, 0, 0], by decide +kernel⟩

theorem witness_cmdConfigRestore_2 : ∃ (m : Fin 16) (ex : Exec) (s : State),
    s.accepts m 0x31 ex = true ∧ ((s.plen m = 0 ∨ s.plen m = 4)) ∧ s.restoreGroups m ≠ 0 ∧ s.restoreGroups m < 4096 ∧ s.boot.saved.isSome = true ∧ s.groupsMode (s.restoreGroups m) = true ∧ s.groupsBusy (s.restoreGroups m) = false ∧ s.bindBlocked (s.restoreGroups m) = false :=
  ⟨0, .retried, W.post W.saved 0x31 0 [1, 0, 0, 0], by decide +kernel⟩

theorem witness_tableNotify : ∃ (tb : BitVec 8) (w : Word) (a : Nat) (s : State),
    s.gr.linkUp = true ∧ tableIds.contains tb.toNat = true ∧ MBX_DT_NOTIFY.COUNT.get w ≠ 0 ∧ (s.table tb.toNat).addr = some a ∧ s.follow = false ∧ s.tableMode = true ∧ MBX_DT_NOTIFY.FIRST.get w + MBX_DT_NOTIFY.COUNT.get w ≤ s.rd MBX_DT_BIND.ENTRY_COUNT tb.toNat ∧ ((s.table tb.toNat).queue.filter (fun i => i.mbx.isNone && !i.reload)).length < 64 :=
  ⟨0x35, W.word MBX_DT_NOTIFY.COUNT 1, 0, W.bound, by decide +kernel⟩

theorem witness_tableNotifyDropped : ∃ (tb : BitVec 8) (w : Word) (s : State),
    s.gr.linkUp = true ∧ tableIds.contains tb.toNat = true :=
  ⟨0x35, 0, W.bound, by decide +kernel⟩

theorem witness_tableNotifyDropped_2 : ∃ (tb : BitVec 8) (w : Word) (s : State),
    s.gr.linkUp = true ∧ tableIds.contains tb.toNat = true :=
  ⟨0x35, W.word MBX_DT_NOTIFY.COUNT 9, W.bound, by decide +kernel⟩

theorem witness_tableNotifyDropped_3 : ∃ (tb : BitVec 8) (w : Word) (s : State),
    s.gr.linkUp = true ∧ tableIds.contains tb.toNat = true :=
  ⟨0x35, W.word MBX_DT_NOTIFY.COUNT 1, W.boundFull, by decide +kernel⟩

theorem witness_entryFetchDone : ∃ (tb : BitVec 8) (r : Fetch) (bytes : List Byte) (i : Install) (rest : List Install) (s : State),
    (s.table tb.toNat).queue = i :: rest ∧ i.waiting = none ∧ bytes.length = 64 ∧ r ≠ .lasting ∧ (s.versionHeld tb.toNat (i.first + i.done) (SMap.at! (s.table tb.toNat).entries (i.first + i.done)).ver = true → s.gr.store.length < 16384) :=
  ⟨0x35, .good, W.groupEntry, { first := 0, count := 1, ord := 0 }, [], W.fetching, by decide +kernel⟩

theorem witness_entryFetchDone_2 : ∃ (tb : BitVec 8) (r : Fetch) (bytes : List Byte) (i : Install) (rest : List Install) (s : State),
    (s.table tb.toNat).queue = i :: rest ∧ i.waiting = none ∧ bytes.length = 64 ∧ r ≠ .lasting ∧ (s.versionHeld tb.toNat (i.first + i.done) (SMap.at! (s.table tb.toNat).entries (i.first + i.done)).ver = true → s.gr.store.length < 16384) :=
  ⟨0x35, .transient, W.groupEntry, { first := 0, count := 1, ord := 0 }, [], W.fetching, by decide +kernel⟩

theorem witness_entryFetchDone_3 : ∃ (tb : BitVec 8) (r : Fetch) (bytes : List Byte) (i : Install) (rest : List Install) (s : State),
    (s.table tb.toNat).queue = i :: rest ∧ i.waiting = none ∧ bytes.length = 64 ∧ r ≠ .lasting ∧ (s.versionHeld tb.toNat (i.first + i.done) (SMap.at! (s.table tb.toNat).entries (i.first + i.done)).ver = true → s.gr.store.length < 16384) :=
  ⟨0x35, .good, W.groupEntry, W.rereadAsk, [], W.reread, by decide +kernel⟩

theorem witness_entryWaits : ∃ (tb : BitVec 8) (r : Fetch) (bytes : List Byte) (i : Install) (rest : List Install) (s : State),
    (s.table tb.toNat).queue = i :: rest ∧ i.waiting = none ∧ bytes.length = 64 ∧ r ≠ .lasting ∧ s.versionHeld tb.toNat (i.first + i.done) (SMap.at! (s.table tb.toNat).entries (i.first + i.done)).ver = true ∧ 16384 ≤ s.gr.store.length ∧ tb.toNat ≠ 0x50 ∧ tb.toNat ≠ 0x31 ∧ genOf bytes ≠ ((s.ent tb.toNat (i.first + i.done)).map (·.gen)).getD 0 ∧ ((genOf bytes = 0 ∨ fwdOk tb.toNat (i.first + i.done) bytes = true)) :=
  ⟨0x35, .good, W.groupEntry, { first := 0, count := 1, ord := 0 }, [], W.heldVersion, by decide +kernel⟩

theorem witness_entryRefused : ∃ (tb : BitVec 8) (r : Fetch) (bytes : List Byte) (i : Install) (rest : List Install) (s : State),
    (s.table tb.toNat).queue = i :: rest ∧ i.waiting = none ∧ bytes.length = 64 ∧ r ≠ .lasting ∧ genOf bytes ≠ ((s.ent tb.toNat (i.first + i.done)).map (·.gen)).getD 0 ∧ genOf bytes ≠ 0 :=
  ⟨0x35, .good, [0x00, 0x00, 1, 0] ++ List.replicate 60 0, { first := 0, count := 1, ord := 0 }, [], W.fetching, by decide +kernel⟩

theorem witness_entryLost : ∃ (tb : BitVec 8) (bytes : List Byte) (i : Install) (rest : List Install) (s : State),
    (s.table tb.toNat).queue = i :: rest ∧ i.waiting = none :=
  ⟨0x35, [], { first := 0, count := 1, ord := 0 }, [], W.fetching, by decide +kernel⟩

theorem witness_syncEnd : ∃ (tb : BitVec 8) (r : Fetch) (bytes : List Byte) (i : Install) (rest : List Install) (m : Fin 16) (s : State),
    (s.table tb.toNat).queue = i :: rest ∧ i.waiting = none ∧ ((r = .lasting ∨ bytes.length = 64)) ∧ i.mbx = some m ∧ (s.mbxAt m).job = some .sync ∧ i.count ≤ i.done + 1 ∧ (s.versionHeld tb.toNat (i.first + i.done) (SMap.at! (s.table tb.toNat).entries (i.first + i.done)).ver = true → s.gr.store.length < 16384) :=
  ⟨0x35, .good, W.groupEntry, { first := 0, count := 1, ord := 0, mbx := some 0 }, [], 0, W.syncJob, by decide +kernel⟩

theorem witness_cmdTableBind : ∃ (m : Fin 16) (ex : Exec) (s : State),
    s.accepts m 0x10 ex = true ∧ s.plen m = 16 ∧ s.pay m 1 3 = 0 ∧ tableIds.contains (s.pay m 0 1) = true ∧ s.pay m 4 4 ≤ tableMax (s.pay m 0 1) ∧ s.pay m 8 8 % 64 = 0 ∧ s.tableMode = true ∧ s.follow = false ∧ s.tableBusy (s.pay m 0 1) = false :=
  ⟨0, .clean, W.post W.fwd 0x10 0 [0x35, 0, 0, 0, 8, 0, 0, 0, 0, 0, 0, 0, 0, 0, 0, 0], by decide +kernel⟩

theorem witness_cmdTableBind_2 : ∃ (m : Fin 16) (ex : Exec) (s : State),
    s.accepts m 0x10 ex = true ∧ s.plen m = 16 ∧ s.pay m 1 3 = 0 ∧ tableIds.contains (s.pay m 0 1) = true ∧ s.pay m 4 4 ≤ tableMax (s.pay m 0 1) ∧ s.pay m 8 8 % 64 = 0 ∧ s.tableMode = true ∧ s.follow = false ∧ s.tableBusy (s.pay m 0 1) = false :=
  ⟨0, .retried, W.post W.fwd 0x10 0 [0x35, 0, 0, 0, 8, 0, 0, 0, 0, 0, 0, 0, 0, 0, 0, 0], by decide +kernel⟩

theorem witness_cmdTableSync : ∃ (m : Fin 16) (ex : Exec) (a : Nat) (s : State),
    s.accepts m 0x11 ex = true ∧ s.plen m = 12 ∧ s.pay m 1 3 = 0 ∧ s.pay m 8 4 ≠ 0 ∧ tableIds.contains (s.pay m 0 1) = true ∧ (s.table (s.pay m 0 1)).addr = some a ∧ s.pay m 4 4 + s.pay m 8 4 ≤ s.rd MBX_DT_BIND.ENTRY_COUNT (s.pay m 0 1) ∧ s.tableMode = true ∧ s.follow = false :=
  ⟨0, .clean, 0, W.post W.bound 0x11 0 [0x35, 0, 0, 0, 0, 0, 0, 0, 1, 0, 0, 0], by decide +kernel⟩

theorem witness_cmdTableSync_2 : ∃ (m : Fin 16) (ex : Exec) (a : Nat) (s : State),
    s.accepts m 0x11 ex = true ∧ s.plen m = 12 ∧ s.pay m 1 3 = 0 ∧ s.pay m 8 4 ≠ 0 ∧ tableIds.contains (s.pay m 0 1) = true ∧ (s.table (s.pay m 0 1)).addr = some a ∧ s.pay m 4 4 + s.pay m 8 4 ≤ s.rd MBX_DT_BIND.ENTRY_COUNT (s.pay m 0 1) ∧ s.tableMode = true ∧ s.follow = false :=
  ⟨0, .retried, 0, W.post W.bound 0x11 0 [0x35, 0, 0, 0, 0, 0, 0, 0, 1, 0, 0, 0], by decide +kernel⟩

theorem witness_cmdTableRead : ∃ (m : Fin 16) (ex : Exec) (s : State),
    s.accepts m 0x12 ex = true ∧ s.plen m = 20 ∧ s.pay m 1 3 = 0 ∧ s.pay m 8 4 ≠ 0 ∧ tableIds.contains (s.pay m 0 1) = true ∧ s.pay m 4 4 + s.pay m 8 4 ≤ s.rd MBX_DT_BIND.ENTRY_COUNT (s.pay m 0 1) ∧ s.tableMode = true :=
  ⟨0, .clean, W.post W.bound 0x12 0 [0x35, 0, 0, 0, 0, 0, 0, 0, 1, 0, 0, 0, 0, 0, 0, 0, 0, 0, 0, 0], by decide +kernel⟩

theorem witness_cmdTableRead_2 : ∃ (m : Fin 16) (ex : Exec) (s : State),
    s.accepts m 0x12 ex = true ∧ s.plen m = 20 ∧ s.pay m 1 3 = 0 ∧ s.pay m 8 4 ≠ 0 ∧ tableIds.contains (s.pay m 0 1) = true ∧ s.pay m 4 4 + s.pay m 8 4 ≤ s.rd MBX_DT_BIND.ENTRY_COUNT (s.pay m 0 1) ∧ s.tableMode = true :=
  ⟨0, .retried, W.post W.bound 0x12 0 [0x35, 0, 0, 0, 0, 0, 0, 0, 1, 0, 0, 0, 0, 0, 0, 0, 0, 0, 0, 0], by decide +kernel⟩

theorem witness_installResume : ∃ (tb : BitVec 8) (bytes : List Byte) (i : Install) (rest : List Install) (s : State),
    (s.freeVersions.table tb.toNat).queue = i :: rest ∧ i.waiting = some bytes :=
  ⟨0x35, W.groupEntry, { first := 0, count := 2, ord := 0, waiting := some W.groupEntry }, [], W.waiting, by decide +kernel⟩

theorem witness_msixUnmask : ∃ (v : Fin 32) (s : State),
    s.gr.linkUp = true ∧ s.railOk 6 = true :=
  ⟨0, W.tk, by decide +kernel⟩

theorem witness_loReadLatch : ∃ (ofs : BitVec 32) (row rowH : RegRow) (i j : Nat) (s : State),
    s.gr.linkUp = true ∧ regAt ofs.toNat = some (row, i) ∧ latchedLo.contains row.reg = true ∧ regAt (ofs.toNat + 4) = some (rowH, j) :=
  ⟨0x01000018, ⟨R.MBX_TICK_LO, [MBX_TICK_LO.TICK]⟩, ⟨R.MBX_TICK_HI, [MBX_TICK_HI.TICK]⟩, 0, 0, W.tk, by decide +kernel⟩

theorem witness_signalDetect : ∃ (o : LineObj) (s : State),
    (match o with | .port p => s.fwdMode && s.linkState p = lsWAIT_SIGNAL | .carrier c => s.fwdMode && s.cst c = cWAIT_SIGNAL | .mirror i => s.twinOn && s.tkMode && (s.mlane i).st = 2) = true :=
  ⟨.port 0, W.port lsWAIT_SIGNAL, by decide +kernel⟩

theorem witness_adaptDone : ∃ (o : LineObj) (s : State),
    (match o with | .port p => s.fwdMode && s.linkState p = lsADAPT | .carrier c => s.fwdMode && s.cst c = cADAPT | .mirror i => s.twinOn && s.tkMode && (s.mlane i).st = 3) = true :=
  ⟨.port 0, W.port lsADAPT, by decide +kernel⟩

theorem witness_alignLock : ∃ (p : Fin 256) (localF remoteF : Bool) (s : State),
    s.fwdMode = true ∧ s.linkState p = lsALIGN :=
  ⟨0, false, false, W.port lsALIGN, by decide +kernel⟩

theorem witness_attemptTimeout : ∃ (p : Fin 256) (s : State),
    s.fwdMode = true ∧ ((s.linkState p = lsADAPT ∨ s.linkState p = lsALIGN)) ∧ s.portDue p = true ∧ s.railOk 6 = true :=
  ⟨0, W.port lsADAPT, by decide +kernel⟩

theorem witness_upDebounceExpiry : ∃ (p : Fin 256) (s : State),
    s.fwdMode = true ∧ s.linkState p = lsUP_PENDING ∧ s.portDue p = true ∧ s.railOk 6 = true :=
  ⟨0, W.port lsUP_PENDING, by decide +kernel⟩

theorem witness_portLinkFault : ∃ (p : Fin 256) (sig lock loc rem : Bool) (s : State),
    s.fwdMode = true ∧ lsADAPT ≤ s.linkState p ∧ s.linkState p ≤ lsDOWN_PENDING :=
  ⟨0, true, false, false, false, W.port lsUP, by decide +kernel⟩

theorem witness_portLinkFault_2 : ∃ (p : Fin 256) (sig lock loc rem : Bool) (s : State),
    s.fwdMode = true ∧ lsADAPT ≤ s.linkState p ∧ s.linkState p ≤ lsDOWN_PENDING :=
  ⟨0, false, true, false, false, W.port lsUP_PENDING, by decide +kernel⟩

theorem witness_portLinkFault_3 : ∃ (p : Fin 256) (sig lock loc rem : Bool) (s : State),
    s.fwdMode = true ∧ lsADAPT ≤ s.linkState p ∧ s.linkState p ≤ lsDOWN_PENDING :=
  ⟨0, false, false, false, false, W.port lsALIGN, by decide +kernel⟩

theorem witness_portLinkFault_4 : ∃ (p : Fin 256) (sig lock loc rem : Bool) (s : State),
    s.fwdMode = true ∧ lsADAPT ≤ s.linkState p ∧ s.linkState p ≤ lsDOWN_PENDING :=
  ⟨0, false, true, true, false, W.cfgLive PRT_LINK_CFG.DOWN_DEB 0 5 (W.port lsUP), by decide +kernel⟩

theorem witness_glitch : ∃ (p : Fin 256) (s : State),
    s.fwdMode = true ∧ s.linkState p = lsDOWN_PENDING ∧ s.now ≤ (s.port p).downAt + s.rd PRT_LINK_CFG.DOWN_DEB p * usT ∧ s.railOk 6 = true :=
  ⟨0, W.port lsDOWN_PENDING, by decide +kernel⟩

theorem witness_downDebounceExpiry : ∃ (p : Fin 256) (s : State),
    s.fwdMode = true ∧ s.linkState p = lsDOWN_PENDING ∧ (s.port p).faults ≠ 0 ∧ (s.port p).downAt + s.rd PRT_LINK_CFG.DOWN_DEB p * usT ≤ s.now ∧ s.railOk 6 = true :=
  ⟨0, W.portLate lsDOWN_PENDING, by decide +kernel⟩

theorem witness_downAfterReset : ∃ (p : Fin 256) (s : State),
    (s.fwdMode && s.debEnds p) = false ∧ s.wasCut (.portDown p) = true ∧ s.railOk 6 = true :=
  ⟨0, W.cutAt (.portDown 0), by decide +kernel⟩

theorem witness_upAfterReset : ∃ (p : Fin 256) (s : State),
    s.fwdMode = false ∧ s.wasCut (.portUp p) = true ∧ s.railOk 6 = true :=
  ⟨0, W.cutAt (.portUp 0), by decide +kernel⟩

theorem witness_glitchAfterReset : ∃ (p : Fin 256) (s : State),
    s.fwdMode = false ∧ s.wasCut (.portGlitch p) = true ∧ s.railOk 6 = true :=
  ⟨0, W.cutAt (.portGlitch 0), by decide +kernel⟩

theorem witness_attemptAfterReset : ∃ (p : Fin 256) (s : State),
    s.fwdMode = false ∧ s.wasCut (.portFail p) = true ∧ s.railOk 6 = true :=
  ⟨0, W.cutAt (.portFail 0), by decide +kernel⟩

theorem witness_fecDegradeWindow : ∃ (p : Fin 256) (c : FecCounts) (s : State),
    s.fwdMode = true ∧ lsALIGN ≤ s.linkState p ∧ s.linkState p ≤ lsDOWN_PENDING ∧ s.railOk 1 = true ∧ s.railOk 6 = true :=
  ⟨0, ⟨1, 2, 3⟩, W.port lsUP, by decide +kernel⟩

theorem witness_receiveFrame : ∃ (p : Fin 256) (k : RxKind) (bytes : List Byte) (codeErr cut : Bool) (i : Inst) (s : State),
    s.portUp p = true ∧ s.railOk 1 = true ∧ s.looped p k bytes = true ∧ (k = .verify → s.comB PRT_CFG.PREEMPT_EN p = true ∧ s.macTx p = true) ∧ (k = .respond → (s.port p).verifyAt ≠ 0) :=
  ⟨0, .frame, [], false, false, ⟨0, 0⟩, W.port lsUP, by decide +kernel⟩

theorem witness_receiveFrame_2 : ∃ (p : Fin 256) (k : RxKind) (bytes : List Byte) (codeErr cut : Bool) (i : Inst) (s : State),
    s.portUp p = true ∧ s.railOk 1 = true ∧ s.looped p k bytes = true ∧ (k = .verify → s.comB PRT_CFG.PREEMPT_EN p = true ∧ s.macTx p = true) ∧ (k = .respond → (s.port p).verifyAt ≠ 0) :=
  ⟨0, .frame, W.goodFrame, false, false, ⟨0, 0⟩, W.rxReady, by decide +kernel⟩

theorem witness_receiveFrame_3 : ∃ (p : Fin 256) (k : RxKind) (bytes : List Byte) (codeErr cut : Bool) (i : Inst) (s : State),
    s.portUp p = true ∧ s.railOk 1 = true ∧ s.looped p k bytes = true ∧ (k = .verify → s.comB PRT_CFG.PREEMPT_EN p = true ∧ s.macTx p = true) ∧ (k = .respond → (s.port p).verifyAt ≠ 0) :=
  ⟨0, .verify, [], false, false, ⟨0, 0⟩, W.preempt, by decide +kernel⟩

theorem witness_receiveFragment : ∃ (p : Fin 256) (k : FragKind) (last : Bool) (bytes : List Byte) (mcrcOk codeErr : Bool) (i : Inst) (s : State),
    s.portUp p = true ∧ s.comB PRT_CFG.PREEMPT_EN p = true ∧ s.railOk 1 = true ∧ s.loopedFrag p (match k with | .start => 0 | .cont _ => ((s.port p).asm.map (·.len)).getD 0) last bytes = true :=
  ⟨0, .start, false, [1], true, false, ⟨0, 0⟩, W.preempt, by decide +kernel⟩

theorem witness_receiveFragment_2 : ∃ (p : Fin 256) (k : FragKind) (last : Bool) (bytes : List Byte) (mcrcOk codeErr : Bool) (i : Inst) (s : State),
    s.portUp p = true ∧ s.comB PRT_CFG.PREEMPT_EN p = true ∧ s.railOk 1 = true ∧ s.loopedFrag p (match k with | .start => 0 | .cont _ => ((s.port p).asm.map (·.len)).getD 0) last bytes = true :=
  ⟨0, .cont 0, true, [1], true, false, ⟨0, 0⟩, W.asm, by decide +kernel⟩

theorem witness_receiveFragment_3 : ∃ (p : Fin 256) (k : FragKind) (last : Bool) (bytes : List Byte) (mcrcOk codeErr : Bool) (i : Inst) (s : State),
    s.portUp p = true ∧ s.comB PRT_CFG.PREEMPT_EN p = true ∧ s.railOk 1 = true ∧ s.loopedFrag p (match k with | .start => 0 | .cont _ => ((s.port p).asm.map (·.len)).getD 0) last bytes = true :=
  ⟨0, .cont 0, false, [1], true, false, ⟨0, 0⟩, W.asm, by decide +kernel⟩

theorem witness_egressFrameStart : ∃ (p : Fin 256) (dep : Inst) (q : Nat) (d : Dwrr) (e : QEnt) (s : State),
    s.portUp p = true ∧ s.egrState p = 0 ∧ s.macTx p = true ∧ (s.port p).pfcDue = false ∧ s.macGap p = true ∧ ((∀ n < 16, s.oldIn (16 * p + n) = [])) ∧ s.portChoice p ((s.port p).tx.isSome || (s.port p).preempted.isSome) = some (q, d) ∧ s.headEnt (16 * p + q) = some e ∧ s.railOk 1 = true :=
  ⟨0, ⟨0, 0⟩, 1, (W.queued.port 0).dwrr, W.entry, W.queued, by decide +kernel⟩

theorem witness_egressResume : ∃ (p : Fin 256) (dep : Inst) (x : Tx) (s : State),
    s.portUp p = true ∧ s.egrState p = 0 ∧ s.macTx p = true ∧ (s.port p).pfcDue = false ∧ ((∀ n < 16, s.oldIn (16 * p + n) = [])) ∧ s.portChoice p true = none ∧ (s.port p).tx = none ∧ (s.port p).preempted = some x :=
  ⟨0, ⟨0, 0⟩, W.halted, W.interrupted, by decide +kernel⟩

theorem witness_pauseTakesEffect : ∃ (p : Fin 256) (s : State),
    True :=
  ⟨0, State.reset, by decide +kernel⟩

theorem witness_pauseTimerExpiry : ∃ (p : Fin 256) (c : Fin 8) (s : State),
    (s.port p).pauseEnd.any (fun e => e.1 = c.val && decide (e.2 < s.now)) = true :=
  ⟨0, 0, W.paused, by decide +kernel⟩

theorem witness_pfcFrameSend : ∃ (p : Fin 256) (s : State),
    s.portUp p = true ∧ (s.port p).pfcDue = true ∧ s.macGap p = true ∧ s.macTx p = true :=
  ⟨0, W.pfc, by decide +kernel⟩

theorem witness_pfcFrameSend_2 : ∃ (p : Fin 256) (s : State),
    s.portUp p = true ∧ (s.port p).pfcDue = true ∧ s.macGap p = true ∧ s.macTx p = true :=
  ⟨0, W.cfg PRT_CFG.FC_MODE 0 2 W.pfc, by decide +kernel⟩

theorem witness_pfcFrameSend_3 : ∃ (p : Fin 256) (s : State),
    s.portUp p = true ∧ (s.port p).pfcDue = true ∧ s.macGap p = true ∧ s.macTx p = true :=
  ⟨0, (W.cfg PRT_CFG.FC_MODE 0 2 W.pfc).updPort 0 fun p => { p with sent := 0, left := 1 }, by decide +kernel⟩

theorem witness_pfcRepeat : ∃ (p : Fin 256) (s : State),
    s.portUp p = true ∧ (s.port p).sent ≠ 0 ∧ (s.port p).pfcAt + ceilDiv (s.quantaTicks p (s.com PRT_PFC_CFG.TX_QUANTA p)) 2 ≤ s.now :=
  ⟨0, W.pfc, by decide +kernel⟩

theorem witness_verifyTimeout : ∃ (p : Fin 256) (s : State),
    s.portUp p = true ∧ (s.port p).verifyAt ≠ 0 ∧ (s.port p).verifyAt ≤ s.now ∧ s.railOk 6 = true :=
  ⟨0, W.verifying, by decide +kernel⟩

theorem witness_optIntEdge : ∃ (bus : Fin 16) (low : Bool) (s : State),
    True :=
  ⟨0, true, W.tk, by decide +kernel⟩

theorem witness_tallyFold : ∃ (s : State),
    s.railOk 1 = true ∧ (s.tacc.map Prod.fst).Pairwise (· < ·) :=
  ⟨W.fwd, by decide +kernel⟩

theorem witness_cmdPrtOptXfer : ∃ (m : Fin 16) (ex : Exec) (status : Fin 3) (idx : BitVec 16) (data : List Byte) (s : State),
    s.accepts m 0x102 ex = true ∧ s.plen m = 8 + s.pay m 2 2 ∧ s.pay m 6 2 = 0 ∧ 0 < s.pay m 2 2 + s.pay m 4 2 ∧ s.pay m 0 1 ≤ 15 ∧ s.pay m 1 1 ≤ 127 ∧ s.pay m 2 2 ≤ 256 ∧ s.pay m 4 2 ≤ 256 ∧ s.tkMode = true ∧ s.follow = false :=
  ⟨0, .clean, 0, 0, [7], W.post W.tk 0x102 0 [0, 0x50, 0, 0, 1, 0, 0, 0], by decide +kernel⟩

theorem witness_cmdPrtOptXfer_2 : ∃ (m : Fin 16) (ex : Exec) (status : Fin 3) (idx : BitVec 16) (data : List Byte) (s : State),
    s.accepts m 0x102 ex = true ∧ s.plen m = 8 + s.pay m 2 2 ∧ s.pay m 6 2 = 0 ∧ 0 < s.pay m 2 2 + s.pay m 4 2 ∧ s.pay m 0 1 ≤ 15 ∧ s.pay m 1 1 ≤ 127 ∧ s.pay m 2 2 ≤ 256 ∧ s.pay m 4 2 ≤ 256 ∧ s.tkMode = true ∧ s.follow = false :=
  ⟨0, .retried, 0, 0, [7], W.post W.tk 0x102 0 [0, 0x50, 0, 0, 1, 0, 0, 0], by decide +kernel⟩

theorem witness_codewordLock : ∃ (lane : Fin 260) (offset : Nat) (words : List Bool) (c : Nat) (s : State),
    (if lane.val < 256 then s.fwdMode && s.carOfLane lane = some c && s.cst c ≠ cDISABLED && s.cst c ≠ cPOWERING && s.cst c ≠ cHELD else s.twinOn && s.tkMode && (s.mlane (lane.val - 256)).st = 4) = true :=
  ⟨0, 0, [true, true, true], 0, W.car cLOCK, by decide +kernel⟩

theorem witness_codewordLock_2 : ∃ (lane : Fin 260) (offset : Nat) (words : List Bool) (c : Nat) (s : State),
    (if lane.val < 256 then s.fwdMode && s.carOfLane lane = some c && s.cst c ≠ cDISABLED && s.cst c ≠ cPOWERING && s.cst c ≠ cHELD else s.twinOn && s.tkMode && (s.mlane (lane.val - 256)).st = 4) = true :=
  ⟨0, 0, [false, true, true], 0, W.car cLOCK, by decide +kernel⟩

theorem witness_codewordLockLost : ∃ (lane : Fin 260) (signal : Bool) (words : List Bool) (c : Nat) (s : State),
    (if lane.val < 256 then s.fwdMode && s.carOfLane lane = some c else s.twinOn && s.tkMode && 3 ≤ (s.mlane (lane.val - 256)).st && (s.mlane (lane.val - 256)).st ≤ 6 && (!signal || (s.mlane (lane.val - 256)).st = 6)) = true :=
  ⟨0, true, List.replicate 4 false, 0, W.car cACTIVE, by decide +kernel⟩

theorem witness_codewordLockLost_2 : ∃ (lane : Fin 260) (signal : Bool) (words : List Bool) (c : Nat) (s : State),
    (if lane.val < 256 then s.fwdMode && s.carOfLane lane = some c else s.twinOn && s.tkMode && 3 ≤ (s.mlane (lane.val - 256)).st && (s.mlane (lane.val - 256)).st ≤ 6 && (!signal || (s.mlane (lane.val - 256)).st = 6)) = true :=
  ⟨0, true, List.replicate 4 true, 0, W.car cACTIVE, by decide +kernel⟩

theorem witness_codewordLockLost_3 : ∃ (lane : Fin 260) (signal : Bool) (words : List Bool) (c : Nat) (s : State),
    (if lane.val < 256 then s.fwdMode && s.carOfLane lane = some c else s.twinOn && s.tkMode && 3 ≤ (s.mlane (lane.val - 256)).st && (s.mlane (lane.val - 256)).st ≤ 6 && (!signal || (s.mlane (lane.val - 256)).st = 6)) = true :=
  ⟨0, false, [], 0, W.car cHANDSHAKE, by decide +kernel⟩

theorem witness_codewordLockLost_4 : ∃ (lane : Fin 260) (signal : Bool) (words : List Bool) (c : Nat) (s : State),
    (if lane.val < 256 then s.fwdMode && s.carOfLane lane = some c else s.twinOn && s.tkMode && 3 ≤ (s.mlane (lane.val - 256)).st && (s.mlane (lane.val - 256)).st ≤ 6 && (!signal || (s.mlane (lane.val - 256)).st = 6)) = true :=
  ⟨256, false, [], 0, W.twin, by decide +kernel⟩

theorem witness_carrierAttemptTimeout : ∃ (o : LineObj) (s : State),
    (match o with | .port _ => true | .carrier c => s.fwdMode && (s.cst c = cADAPT || s.cst c = cLOCK) && s.carDue c && s.railOk 6 | .mirror i => s.twinOn && s.tkMode && ((s.mlane i).st = 3 || (s.mlane i).st = 4) && (match (s.mlane i).timer with | some x => decide (x ≤ s.now) | none => false)) = true :=
  ⟨.carrier 0, W.car cADAPT, by decide +kernel⟩

theorem witness_grainSlot : ∃ (lane : Fin 256) (dep : Inst) (c : Nat) (s : State),
    s.fwdMode = true ∧ s.carOfLane lane = some c ∧ s.cst c ≠ cDISABLED ∧ s.cst c ≠ cHELD ∧ s.cst c ≠ cPOWERING ∧ s.slotDue c lane = true :=
  ⟨0, ⟨0, 0⟩, 0, W.car cHANDSHAKE, by decide +kernel⟩

theorem witness_grainSlot_2 : ∃ (lane : Fin 256) (dep : Inst) (c : Nat) (s : State),
    s.fwdMode = true ∧ s.carOfLane lane = some c ∧ s.cst c ≠ cDISABLED ∧ s.cst c ≠ cHELD ∧ s.cst c ≠ cPOWERING ∧ s.slotDue c lane = true :=
  ⟨0, ⟨0, 0⟩, 0, (W.car cACTIVE).updCar 0 fun k => { k with nextTg := 2 * 10 * msT }, by decide +kernel⟩

theorem witness_timingGrainReceived : ∃ (c : Fin 128) (bytes : List Byte) (strays : Nat) (fec : FecCounts) (rx : Inst) (s : State),
    s.fwdMode = true ∧ cHANDSHAKE ≤ s.cst c ∧ s.cst c ≤ cPARKED ∧ bytes.length = 256 ∧ crc8 (bytes.take 7) = byteAt bytes 7 ∧ byteAt bytes 5 = 127 ∧ bytes.drop 252 = fcsBytes (bytes.take 252) ∧ byteAt bytes 6 / 8 = s.com SHF_CFG.PEER_SHEAF (s.carSheaf c) ∧ ((s.com SHF_PEER_NODE_HI.ID (s.carSheaf c) * 2 ^ 32 + s.com SHF_PEER_NODE_LO.ID (s.carSheaf c) = 0 ∨ beNat (slice bytes 56 8) = s.com SHF_PEER_NODE_HI.ID (s.carSheaf c) * 2 ^ 32 + s.com SHF_PEER_NODE_LO.ID (s.carSheaf c))) ∧ s.railOk 1 = true :=
  ⟨0, W.tgrain, 2, { corrected := 3, uncorrectable := 1, symbols := 5 }, ⟨0, 0⟩, W.car cHANDSHAKE, by decide +kernel⟩

theorem witness_timingGrainDropped : ∃ (c : Fin 128) (bytes : List Byte) (bad : Bool) (strays : Nat) (fec : FecCounts) (rx : Inst) (s : State),
    s.fwdMode = true ∧ cHANDSHAKE ≤ s.cst c ∧ s.cst c ≤ cPARKED ∧ (bad = false → bytes.length = 256) ∧ s.railOk 1 = true :=
  ⟨0, List.replicate 256 1, false, 0, { corrected := 0, uncorrectable := 0, symbols := 0 }, ⟨0, 0⟩, W.car cHANDSHAKE, by decide +kernel⟩

theorem witness_timingGrainDropped_2 : ∃ (c : Fin 128) (bytes : List Byte) (bad : Bool) (strays : Nat) (fec : FecCounts) (rx : Inst) (s : State),
    s.fwdMode = true ∧ cHANDSHAKE ≤ s.cst c ∧ s.cst c ≤ cPARKED ∧ (bad = false → bytes.length = 256) ∧ s.railOk 1 = true :=
  ⟨0, [], true, 2, { corrected := 3, uncorrectable := 1, symbols := 5 }, ⟨0, 0⟩, W.car cHANDSHAKE, by decide +kernel⟩

theorem witness_keepaliveExpiry : ∃ (c : Fin 128) (s : State),
    s.fwdMode = true ∧ (s.car c).rx.valid = true ∧ (s.car c).rx.at_ + 12800 ≤ s.now ∧ s.railOk 6 = true :=
  ⟨0, W.carHeard, by decide +kernel⟩

theorem witness_keepaliveAfterReset : ∃ (c : Fin 128) (s : State),
    (s.fwdMode && s.silent c) = false ∧ s.wasCut (.carDown c) = true ∧ s.railOk 6 = true :=
  ⟨0, W.cutAt (.carDown 0), by decide +kernel⟩

theorem witness_attemptCarAfterReset : ∃ (c : Fin 128) (s : State),
    s.fwdMode = false ∧ s.wasCut (.carFail c) = true ∧ s.railOk 6 = true :=
  ⟨0, W.cutAt (.carFail 0), by decide +kernel⟩

theorem witness_parkLossWaitExpiry : ∃ (c : Fin 128) (x : Nat) (s : State),
    (s.car c).parkWait = some x ∧ s.cst c = cDRAINING ∧ x ≤ s.now ∧ s.railOk 6 = true :=
  ⟨0, 0, W.parking, by decide +kernel⟩

theorem witness_cmdShfCarrierOp : ∃ (m : Fin 16) (ex : Exec) (s : State),
    s.accepts m 0x201 ex = true ∧ s.plen m = 8 ∧ s.pay m 2 2 = 0 ∧ s.pay m 4 4 ≠ 0 ∧ s.pay m 4 4 ≤ 60000 ∧ s.pay m 0 1 ≤ 127 ∧ s.fwdMode = true ∧ s.follow = false ∧ s.carOp (s.pay m 0 1) = none ∧ ((if s.pay m 1 1 = 1 then s.cst (s.pay m 0 1) = cSTANDBY ∨ s.cst (s.pay m 0 1) = cPARKED else s.pay m 1 1 = 2 ∧ s.cst (s.pay m 0 1) = cACTIVE)) :=
  ⟨0, .clean, W.post (W.car cSTANDBY) 0x201 0 [0, 1, 0, 0, 1, 0, 0, 0], by decide +kernel⟩

theorem witness_cmdShfCarrierOp_2 : ∃ (m : Fin 16) (ex : Exec) (s : State),
    s.accepts m 0x201 ex = true ∧ s.plen m = 8 ∧ s.pay m 2 2 = 0 ∧ s.pay m 4 4 ≠ 0 ∧ s.pay m 4 4 ≤ 60000 ∧ s.pay m 0 1 ≤ 127 ∧ s.fwdMode = true ∧ s.follow = false ∧ s.carOp (s.pay m 0 1) = none ∧ ((if s.pay m 1 1 = 1 then s.cst (s.pay m 0 1) = cSTANDBY ∨ s.cst (s.pay m 0 1) = cPARKED else s.pay m 1 1 = 2 ∧ s.cst (s.pay m 0 1) = cACTIVE)) :=
  ⟨0, .retried, W.post (W.car cSTANDBY) 0x201 0 [0, 1, 0, 0, 1, 0, 0, 0], by decide +kernel⟩

theorem witness_carrierOpTimeout : ∃ (m : Fin 16) (c lim txn : Nat) (join : Bool) (s : State),
    (s.mbxAt m).job = some (.carrier c join lim txn) ∧ lim ≤ s.now :=
  ⟨0, 0, 0, 3, true, W.job W.fwd (.carrier 0 true 0 3), by decide +kernel⟩

theorem witness_carrierOpTimeout_2 : ∃ (m : Fin 16) (c lim txn : Nat) (join : Bool) (s : State),
    (s.mbxAt m).job = some (.carrier c join lim txn) ∧ lim ≤ s.now :=
  ⟨0, 0, 0, 3, false, W.job ((W.car cDRAINING).updCar 0 fun k => { k with req := [(opPARK_REQ, 3)], parkWait := some 0 }) (.carrier 0 false 0 3), by decide +kernel⟩

theorem witness_dataGrainReceived : ∃ (c : Fin 128) (bytes : List Byte) (blocks strays : Nat) (badFec : Bool) (fec : FecCounts) (s : State),
    s.fwdMode = true ∧ cHANDSHAKE ≤ s.cst c ∧ s.cst c ≤ cPARKED ∧ (8 ≤ blocks → badFec = false → bytes.length = 256) ∧ s.railOk 1 = true :=
  ⟨0, [], 7, 1, false, ⟨1, 0, 0⟩, W.car cACTIVE, by decide +kernel⟩

theorem witness_dataGrainReceived_2 : ∃ (c : Fin 128) (bytes : List Byte) (blocks strays : Nat) (badFec : Bool) (fec : FecCounts) (s : State),
    s.fwdMode = true ∧ cHANDSHAKE ≤ s.cst c ∧ s.cst c ≤ cPARKED ∧ (8 ≤ blocks → badFec = false → bytes.length = 256) ∧ s.railOk 1 = true :=
  ⟨0, W.dgrain, 8, 0, false, ⟨1, 0, 0⟩, W.car cACTIVE, by decide +kernel⟩

theorem witness_dataGrainReceived_3 : ∃ (c : Fin 128) (bytes : List Byte) (blocks strays : Nat) (badFec : Bool) (fec : FecCounts) (s : State),
    s.fwdMode = true ∧ cHANDSHAKE ≤ s.cst c ∧ s.cst c ≤ cPARKED ∧ (8 ≤ blocks → badFec = false → bytes.length = 256) ∧ s.railOk 1 = true :=
  ⟨0, List.replicate 256 1, 8, 0, false, ⟨1, 0, 0⟩, W.car cPARKED, by decide +kernel⟩

theorem witness_grainLossTimeout : ∃ (h : Fin 32) (q : Nat) (s : State),
    s.fwdMode = true ∧ s.rxState h = rxRUN ∧ (s.sheaf h).nearest = some q ∧ seqDiff q (s.sheaf h).head ≠ 0 ∧ (s.sheaf h).held.any (fun e => decide (e.2.at_ + s.lossTicks h ≤ s.now)) = true ∧ s.railOk 6 = true :=
  ⟨0, 5, W.gap, by decide +kernel⟩

theorem witness_lossAfterReset : ∃ (h : Fin 32) (s : State),
    s.fwdMode = false ∧ s.wasCut (.grainLost h) = true ∧ s.railOk 6 = true :=
  ⟨0, W.cutAt (.grainLost 0), by decide +kernel⟩

theorem witness_syncWaitExpiry : ∃ (h : Fin 32) (q : Nat) (s : State),
    s.fwdMode = true ∧ s.rxState h = rxSYNC ∧ (s.sheaf h).syncAt + s.lossTicks h ≤ s.now ∧ (s.sheaf h).syncLow = some q ∧ s.railOk 6 = true :=
  ⟨0, 5, W.syncing, by decide +kernel⟩

theorem witness_syncAfterReset : ∃ (h : Fin 32) (s : State),
    s.fwdMode = false ∧ s.wasCut (.resync h) = true ∧ s.railOk 6 = true :=
  ⟨0, W.cutAt (.resync 0), by decide +kernel⟩

theorem witness_cmdPrtCountersRead : ∃ (m : Fin 16) (ex : Exec) (s : State),
    s.accepts m 0x101 ex = true ∧ s.plen m = 8 ∧ s.pay m 4 1 ≤ 1 ∧ s.pay m 5 3 = 0 ∧ s.pay m 3 1 ≠ 0 ∧ s.pay m 0 2 ≤ 255 ∧ s.pay m 2 1 + s.pay m 3 1 ≤ 128 ∧ s.cntMode = true :=
  ⟨0, .clean, W.post W.fwd 0x101 0 [0, 0, 0, 1, 1, 0, 0, 0], by decide +kernel⟩

theorem witness_cmdPrtCountersRead_2 : ∃ (m : Fin 16) (ex : Exec) (s : State),
    s.accepts m 0x101 ex = true ∧ s.plen m = 8 ∧ s.pay m 4 1 ≤ 1 ∧ s.pay m 5 3 = 0 ∧ s.pay m 3 1 ≠ 0 ∧ s.pay m 0 2 ≤ 255 ∧ s.pay m 2 1 + s.pay m 3 1 ≤ 128 ∧ s.cntMode = true :=
  ⟨0, .retried, W.post W.fwd 0x101 0 [0, 0, 0, 1, 1, 0, 0, 0], by decide +kernel⟩

theorem witness_cmdShfTtCountersRead : ∃ (m : Fin 16) (ex : Exec) (s : State),
    s.accepts m 0x204 ex = true ∧ s.plen m = 8 ∧ s.pay m 3 1 ≤ 1 ∧ s.pay m 4 4 = 0 ∧ s.pay m 2 1 ≠ 0 ∧ s.pay m 0 1 ≤ 31 ∧ s.pay m 1 1 + s.pay m 2 1 ≤ 16 ∧ s.fwdMode = true :=
  ⟨0, .clean, W.post W.fwd 0x204 0 [0, 0, 1, 1, 0, 0, 0, 0], by decide +kernel⟩

theorem witness_cmdShfTtCountersRead_2 : ∃ (m : Fin 16) (ex : Exec) (s : State),
    s.accepts m 0x204 ex = true ∧ s.plen m = 8 ∧ s.pay m 3 1 ≤ 1 ∧ s.pay m 4 4 = 0 ∧ s.pay m 2 1 ≠ 0 ∧ s.pay m 0 1 ≤ 31 ∧ s.pay m 1 1 + s.pay m 2 1 ≤ 16 ∧ s.fwdMode = true :=
  ⟨0, .retried, W.post W.fwd 0x204 0 [0, 0, 1, 1, 0, 0, 0, 0], by decide +kernel⟩

theorem witness_cmdAlmCountersRead : ∃ (m : Fin 16) (ex : Exec) (s : State),
    s.accepts m 0x501 ex = true ∧ s.plen m = 8 ∧ s.pay m 3 1 ≤ 1 ∧ s.pay m 4 4 = 0 ∧ s.pay m 2 1 ≠ 0 ∧ s.pay m 0 1 ≤ 31 ∧ s.pay m 1 1 + s.pay m 2 1 ≤ 32 ∧ s.cntMode = true :=
  ⟨0, .clean, W.post W.fwd 0x501 0 [0, 0, 1, 1, 0, 0, 0, 0], by decide +kernel⟩

theorem witness_cmdAlmCountersRead_2 : ∃ (m : Fin 16) (ex : Exec) (s : State),
    s.accepts m 0x501 ex = true ∧ s.plen m = 8 ∧ s.pay m 3 1 ≤ 1 ∧ s.pay m 4 4 = 0 ∧ s.pay m 2 1 ≠ 0 ∧ s.pay m 0 1 ≤ 31 ∧ s.pay m 1 1 + s.pay m 2 1 ≤ 32 ∧ s.cntMode = true :=
  ⟨0, .retried, W.post W.fwd 0x501 0 [0, 0, 1, 1, 0, 0, 0, 0], by decide +kernel⟩

theorem witness_cmdTbsCountersRead : ∃ (m : Fin 16) (ex : Exec) (s : State),
    s.accepts m 0x604 ex = true ∧ s.plen m = 8 ∧ s.pay m 4 1 ≤ 1 ∧ s.pay m 5 3 = 0 ∧ s.pay m 3 1 ≠ 0 ∧ s.pay m 0 2 ≤ 255 ∧ s.pay m 2 1 + s.pay m 3 1 ≤ 16 ∧ s.cntMode = true :=
  ⟨0, .clean, W.post W.fwd 0x604 0 [0, 0, 0, 1, 1, 0, 0, 0], by decide +kernel⟩

theorem witness_cmdTbsCountersRead_2 : ∃ (m : Fin 16) (ex : Exec) (s : State),
    s.accepts m 0x604 ex = true ∧ s.plen m = 8 ∧ s.pay m 4 1 ≤ 1 ∧ s.pay m 5 3 = 0 ∧ s.pay m 3 1 ≠ 0 ∧ s.pay m 0 2 ≤ 255 ∧ s.pay m 2 1 + s.pay m 3 1 ≤ 16 ∧ s.cntMode = true :=
  ⟨0, .retried, W.post W.fwd 0x604 0 [0, 0, 0, 1, 1, 0, 0, 0], by decide +kernel⟩

theorem witness_cmdRefCountersRead : ∃ (m : Fin 16) (ex : Exec) (s : State),
    s.accepts m 0x703 ex = true ∧ s.plen m = 8 ∧ s.pay m 3 1 ≤ 1 ∧ s.pay m 4 4 = 0 ∧ s.pay m 2 1 ≠ 0 ∧ s.pay m 0 1 ≤ 6 ∧ s.pay m 1 1 + s.pay m 2 1 ≤ 16 ∧ (s.tkMode || (s.mode = mISOLATE && s.bit PWR_MODE_STAT.HBM_RETAINED)) = true :=
  ⟨0, .clean, W.post W.fwd 0x703 0 [0, 0, 1, 1, 0, 0, 0, 0], by decide +kernel⟩

theorem witness_cmdRefCountersRead_2 : ∃ (m : Fin 16) (ex : Exec) (s : State),
    s.accepts m 0x703 ex = true ∧ s.plen m = 8 ∧ s.pay m 3 1 ≤ 1 ∧ s.pay m 4 4 = 0 ∧ s.pay m 2 1 ≠ 0 ∧ s.pay m 0 1 ≤ 6 ∧ s.pay m 1 1 + s.pay m 2 1 ≤ 16 ∧ (s.tkMode || (s.mode = mISOLATE && s.bit PWR_MODE_STAT.HBM_RETAINED)) = true :=
  ⟨0, .retried, W.post W.fwd 0x703 0 [0, 0, 1, 1, 0, 0, 0, 0], by decide +kernel⟩

theorem witness_cmdTwnCountersRead : ∃ (m : Fin 16) (ex : Exec) (s : State),
    s.accepts m 0xC04 ex = true ∧ s.plen m = 8 ∧ s.pay m 2 1 ≤ 1 ∧ s.pay m 3 5 = 0 ∧ s.pay m 1 1 ≠ 0 ∧ s.pay m 0 1 + s.pay m 1 1 ≤ 16 ∧ s.fwdMode = true :=
  ⟨0, .clean, W.post W.fwd 0xC04 0 [0, 1, 1, 0, 0, 0, 0, 0], by decide +kernel⟩

theorem witness_cmdTwnCountersRead_2 : ∃ (m : Fin 16) (ex : Exec) (s : State),
    s.accepts m 0xC04 ex = true ∧ s.plen m = 8 ∧ s.pay m 2 1 ≤ 1 ∧ s.pay m 3 5 = 0 ∧ s.pay m 1 1 ≠ 0 ∧ s.pay m 0 1 + s.pay m 1 1 ≤ 16 ∧ s.fwdMode = true :=
  ⟨0, .retried, W.post W.fwd 0xC04 0 [0, 1, 1, 0, 0, 0, 0, 0], by decide +kernel⟩

theorem witness_cmdShfCountersRead : ∃ (m : Fin 16) (ex : Exec) (s : State),
    s.accepts m 0x202 ex = true ∧ s.plen m = 8 ∧ s.pay m 4 1 ≤ 1 ∧ s.pay m 5 3 = 0 ∧ s.pay m 3 1 ≠ 0 ∧ (if s.pay m 0 1 = 0 then s.pay m 1 1 ≤ 31 ∧ s.pay m 2 1 + s.pay m 3 1 ≤ 128 else s.pay m 0 1 = 1 ∧ s.pay m 1 1 ≤ 127 ∧ s.pay m 2 1 + s.pay m 3 1 ≤ 64) ∧ s.cntMode = true :=
  ⟨0, .clean, W.post W.fwd 0x202 0 [0, 0, 0, 1, 1, 0, 0, 0], by decide +kernel⟩

theorem witness_cmdShfCountersRead_2 : ∃ (m : Fin 16) (ex : Exec) (s : State),
    s.accepts m 0x202 ex = true ∧ s.plen m = 8 ∧ s.pay m 4 1 ≤ 1 ∧ s.pay m 5 3 = 0 ∧ s.pay m 3 1 ≠ 0 ∧ (if s.pay m 0 1 = 0 then s.pay m 1 1 ≤ 31 ∧ s.pay m 2 1 + s.pay m 3 1 ≤ 128 else s.pay m 0 1 = 1 ∧ s.pay m 1 1 ≤ 127 ∧ s.pay m 2 1 + s.pay m 3 1 ≤ 64) ∧ s.cntMode = true :=
  ⟨0, .retried, W.post W.fwd 0x202 0 [0, 0, 0, 1, 1, 0, 0, 0], by decide +kernel⟩

theorem witness_cmdFwdCountersRead : ∃ (m : Fin 16) (ex : Exec) (s : State),
    s.accepts m 0x301 ex = true ∧ s.plen m = 12 ∧ s.pay m 1 1 ≤ 1 ∧ s.pay m 10 2 = 0 ∧ s.pay m 8 2 ≠ 0 ∧ s.pay m 8 2 ≤ 256 ∧ (if s.pay m 0 1 = 0 then s.pay m 2 2 ≤ 287 ∧ s.pay m 4 4 + s.pay m 8 2 ≤ 256 else if s.pay m 0 1 = 1 then s.pay m 2 2 ≤ 287 ∧ s.pay m 4 4 + s.pay m 8 2 ≤ 32 else s.pay m 0 1 = 2 ∧ 262144 ≤ s.pay m 4 4 ∧ s.pay m 4 4 + s.pay m 8 2 ≤ 2097152) ∧ s.cntMode = true :=
  ⟨0, .clean, W.post W.fwd 0x301 0 [0, 1, 0, 0, 0, 0, 0, 0, 1, 0, 0, 0], by decide +kernel⟩

theorem witness_cmdFwdCountersRead_2 : ∃ (m : Fin 16) (ex : Exec) (s : State),
    s.accepts m 0x301 ex = true ∧ s.plen m = 12 ∧ s.pay m 1 1 ≤ 1 ∧ s.pay m 10 2 = 0 ∧ s.pay m 8 2 ≠ 0 ∧ s.pay m 8 2 ≤ 256 ∧ (if s.pay m 0 1 = 0 then s.pay m 2 2 ≤ 287 ∧ s.pay m 4 4 + s.pay m 8 2 ≤ 256 else if s.pay m 0 1 = 1 then s.pay m 2 2 ≤ 287 ∧ s.pay m 4 4 + s.pay m 8 2 ≤ 32 else s.pay m 0 1 = 2 ∧ 262144 ≤ s.pay m 4 4 ∧ s.pay m 4 4 + s.pay m 8 2 ≤ 2097152) ∧ s.cntMode = true :=
  ⟨0, .retried, W.post W.fwd 0x301 0 [0, 1, 0, 0, 0, 0, 0, 0, 1, 0, 0, 0], by decide +kernel⟩

theorem witness_cmdGrnCountersRead : ∃ (m : Fin 16) (ex : Exec) (s : State),
    s.accepts m 0x401 ex = true ∧ s.plen m = 8 ∧ s.pay m 5 1 ≤ 1 ∧ s.pay m 6 2 = 0 ∧ s.pay m 4 1 ≠ 0 ∧ (if s.pay m 0 1 = 0 then s.pay m 1 2 ≤ 7 ∧ s.pay m 3 1 + s.pay m 4 1 ≤ 64 else if s.pay m 0 1 = 1 then s.pay m 3 1 + s.pay m 4 1 ≤ 64 else s.pay m 0 1 = 2 ∧ s.pay m 1 2 ≤ 287 ∧ s.pay m 3 1 + s.pay m 4 1 ≤ 16) ∧ s.cntMode = true :=
  ⟨0, .clean, W.post W.fwd 0x401 0 [0, 0, 0, 0, 1, 1, 0, 0], by decide +kernel⟩

theorem witness_cmdGrnCountersRead_2 : ∃ (m : Fin 16) (ex : Exec) (s : State),
    s.accepts m 0x401 ex = true ∧ s.plen m = 8 ∧ s.pay m 5 1 ≤ 1 ∧ s.pay m 6 2 = 0 ∧ s.pay m 4 1 ≠ 0 ∧ (if s.pay m 0 1 = 0 then s.pay m 1 2 ≤ 7 ∧ s.pay m 3 1 + s.pay m 4 1 ≤ 64 else if s.pay m 0 1 = 1 then s.pay m 3 1 + s.pay m 4 1 ≤ 64 else s.pay m 0 1 = 2 ∧ s.pay m 1 2 ≤ 287 ∧ s.pay m 3 1 + s.pay m 4 1 ≤ 16) ∧ s.cntMode = true :=
  ⟨0, .retried, W.post W.fwd 0x401 0 [0, 0, 0, 0, 1, 1, 0, 0], by decide +kernel⟩

theorem witness_pipelineFrame : ∃ (k : Fin 16) (f : Frame) (rest : List Frame) (s : State),
    SMap.at! s.fwd.pipeQ k = f :: rest ∧ (SMap.at! s.fwd.missQ k).length < 512 ∧ s.railOk 1 = true ∧ ((∀ b ∈ f.bufs, b.1 < 8)) ∧ (256 ≤ f.src → SMap.at! s.fwd.orderQ (f.src - 256) = []) :=
  ⟨0, W.frame, [], W.piped, by decide +kernel⟩

theorem witness_bucketReadDone : ∃ (k : Fin 16) (f : Frame) (rest : List Frame) (s : State),
    SMap.at! s.fwd.missQ k = f :: rest :=
  ⟨0, W.frame, [], W.missed, by decide +kernel⟩

theorem witness_planeCrossing : ∃ (j : Fin 4) (c : Choice) (f : Frame) (rest : List Frame) (s : State),
    s.planeArbiter j = some c ∧ SMap.at! s.fwd.ingress c.key = f :: rest ∧ s.railOk 1 = true ∧ ((∀ b ∈ f.bufs, b.1 < 8)) :=
  ⟨0, W.choice, W.decided, [], W.ready, by decide +kernel⟩

theorem witness_planeDrainEnd : ∃ (ids : List Nat) (s : State),
    s.fwd.drain = some ids ∧ s.fwd.ingress.any (fun e => e.2.any (fun f => ids.contains f.id)) = false ∧ s.railOk 1 = true :=
  ⟨[], W.draining, by decide +kernel⟩

theorem witness_reaperVisit : ∃ (s : State),
    True :=
  ⟨W.fwd, by decide +kernel⟩

theorem witness_linkHoldExpiry : ∃ (e : Fin 288) (s : State),
    s.holdOver e = true ∧ s.railOk 1 = true :=
  ⟨0, W.holding, by decide +kernel⟩

theorem witness_cmdFwdQueueStat : ∃ (m : Fin 16) (ex : Exec) (s : State),
    s.accepts m 0x302 ex = true ∧ s.plen m = 4 ∧ s.pay m 2 2 = 0 ∧ s.pay m 0 2 ≤ 287 ∧ s.fwdMode = true :=
  ⟨0, .clean, W.post W.fwd 0x302 0 [0, 0, 0, 0], by decide +kernel⟩

theorem witness_cmdFwdQueueStat_2 : ∃ (m : Fin 16) (ex : Exec) (s : State),
    s.accepts m 0x302 ex = true ∧ s.plen m = 4 ∧ s.pay m 2 2 = 0 ∧ s.pay m 0 2 ≤ 287 ∧ s.fwdMode = true :=
  ⟨0, .retried, W.post W.fwd 0x302 0 [0, 0, 0, 0], by decide +kernel⟩

theorem witness_cmdFwdFlush : ∃ (m : Fin 16) (ex : Exec) (s : State),
    s.accepts m 0x303 ex = true ∧ s.plen m = 4 ∧ s.pay m 2 2 ≠ 0 ∧ s.pay m 0 2 ≤ 287 ∧ s.fwdMode = true ∧ s.follow = false :=
  ⟨0, .clean, W.post W.fwd 0x303 0 [0, 0, 1, 0], by decide +kernel⟩

theorem witness_cmdFwdFlush_2 : ∃ (m : Fin 16) (ex : Exec) (s : State),
    s.accepts m 0x303 ex = true ∧ s.plen m = 4 ∧ s.pay m 2 2 ≠ 0 ∧ s.pay m 0 2 ≤ 287 ∧ s.fwdMode = true ∧ s.follow = false :=
  ⟨0, .retried, W.post W.fwd 0x303 0 [0, 0, 1, 0], by decide +kernel⟩

theorem witness_txFrameComplete : ∃ (e : Fin 288) (bad : Bool) (x : Tx) (s : State),
    (if e.val < 256 then (s.port e).tx = some x ∧ s.portUp e = true else (s.sheaf (e.val - 256)).tx = some x ∧ s.fwdMode = true ∧ (s.sheaf (e.val - 256)).txBytes.length ≤ 248) :=
  ⟨0, false, W.tx, W.sending, by decide +kernel⟩

theorem witness_spillWriteDone : ∃ (e : Fin 288) (q : Fin 16) (bwHeld : Bool) (i : Nat) (prev : Option QEnt) (x : QEnt) (s : State),
    s.fwdMode = true ∧ nextSpill 0 none (s.queue (16 * e.val + q.val)).ents = some (i, prev, x) ∧ s.railOk 1 = true ∧ s.railOk 2 = true ∧ ((∀ b ∈ x.frame.bufs, b.1 < 8)) :=
  ⟨0, 0, true, 0, none, W.spillEnt, W.spilling, by decide +kernel⟩

theorem witness_spillWriteDone_2 : ∃ (e : Fin 288) (q : Fin 16) (bwHeld : Bool) (i : Nat) (prev : Option QEnt) (x : QEnt) (s : State),
    s.fwdMode = true ∧ nextSpill 0 none (s.queue (16 * e.val + q.val)).ents = some (i, prev, x) ∧ s.railOk 1 = true ∧ s.railOk 2 = true ∧ ((∀ b ∈ x.frame.bufs, b.1 < 8)) :=
  ⟨0, 0, false, 0, none, W.spillEnt, W.spilling, by decide +kernel⟩

theorem witness_recallPageReadDone : ∃ (e : Fin 288) (q : Fin 16) (f : Fetch) (g : Seg) (pg : Nat) (again : Bool) (s : State),
    s.fwdMode = true ∧ (s.queue (16 * e.val + q.val)).segs.head? = some g ∧ g.pages.head? = some pg ∧ (s.queue (16 * e.val + q.val)).recl.isSome = again ∧ (again = false → s.cellsAhead (16 * e.val + q.val) g.num < s.com GRN_SILO_CFG.RECALL_AHEAD) ∧ s.railOk 1 = true ∧ s.railOk 2 = true :=
  ⟨0, 0, .good, W.seg, 5, false, W.recalling, by decide +kernel⟩

theorem witness_recallPageReadDone_2 : ∃ (e : Fin 288) (q : Fin 16) (f : Fetch) (g : Seg) (pg : Nat) (again : Bool) (s : State),
    s.fwdMode = true ∧ (s.queue (16 * e.val + q.val)).segs.head? = some g ∧ g.pages.head? = some pg ∧ (s.queue (16 * e.val + q.val)).recl.isSome = again ∧ (again = false → s.cellsAhead (16 * e.val + q.val) g.num < s.com GRN_SILO_CFG.RECALL_AHEAD) ∧ s.railOk 1 = true ∧ s.railOk 2 = true :=
  ⟨0, 0, .lasting, W.seg, 5, false, W.recalling, by decide +kernel⟩

theorem witness_siloCacheRefill : ∃ (s : State),
    s.fwdMode = true ∧ s.grn.cache < 2048 :=
  ⟨W.recallRoom, by decide +kernel⟩

theorem witness_gleanerSweep : ∃ (sram silo : Bool) (s : State),
    s.fwdMode = true ∧ s.railOk 2 = true ∧ sram = (!(s.sweepJobs false).isEmpty || (s.rd GRN_GLEAN_CFG.PERIOD ≠ 0 && decide (s.grn.lastSweep + s.rd GRN_GLEAN_CFG.PERIOD * msT ≤ s.now))) ∧ silo = (!(s.sweepJobs false).isEmpty || (s.rd GRN_GLEAN_CFG.PERIOD ≠ 0 && decide (s.grn.lastSilo + max 80 (s.rd GRN_GLEAN_CFG.PERIOD) * msT ≤ s.now))) ∧ (sram || silo) = true :=
  ⟨true, true, W.job W.fwd (.sweep false), by decide +kernel⟩

theorem witness_gleanerSweep_2 : ∃ (sram silo : Bool) (s : State),
    s.fwdMode = true ∧ s.railOk 2 = true ∧ sram = (!(s.sweepJobs false).isEmpty || (s.rd GRN_GLEAN_CFG.PERIOD ≠ 0 && decide (s.grn.lastSweep + s.rd GRN_GLEAN_CFG.PERIOD * msT ≤ s.now))) ∧ silo = (!(s.sweepJobs false).isEmpty || (s.rd GRN_GLEAN_CFG.PERIOD ≠ 0 && decide (s.grn.lastSilo + max 80 (s.rd GRN_GLEAN_CFG.PERIOD) * msT ≤ s.now))) ∧ (sram || silo) = true :=
  ⟨true, true, (W.job W.fwd (.sweep false)).updMbx 1 fun b => { b with job := some (.sweep true) }, by decide +kernel⟩

theorem witness_cmdGrnCellTest : ∃ (m : Fin 16) (ex : Exec) (bad : List (Fin 64)) (s : State),
    s.accepts m 0x402 ex = true ∧ s.plen m = 8 ∧ s.pay m 1 1 = 0 ∧ s.pay m 2 2 ≠ 0 ∧ s.pay m 2 2 ≤ 64 ∧ s.pay m 0 1 ≤ 7 ∧ s.fwdMode = true :=
  ⟨0, .clean, [], W.post W.fwd 0x402 0 [0, 0, 1, 0, 0, 0, 0, 0], by decide +kernel⟩

theorem witness_cmdGrnCellTest_2 : ∃ (m : Fin 16) (ex : Exec) (bad : List (Fin 64)) (s : State),
    s.accepts m 0x402 ex = true ∧ s.plen m = 8 ∧ s.pay m 1 1 = 0 ∧ s.pay m 2 2 ≠ 0 ∧ s.pay m 2 2 ≤ 64 ∧ s.pay m 0 1 ≤ 7 ∧ s.fwdMode = true :=
  ⟨0, .retried, [], W.post W.fwd 0x402 0 [0, 0, 1, 0, 0, 0, 0, 0], by decide +kernel⟩

theorem witness_cmdGrnSweep : ∃ (m : Fin 16) (ex : Exec) (s : State),
    s.accepts m 0x403 ex = true ∧ s.plen m = 0 ∧ s.fwdMode = true :=
  ⟨0, .clean, W.post W.fwd 0x403 0 [], by decide +kernel⟩

theorem witness_cmdGrnSweep_2 : ∃ (m : Fin 16) (ex : Exec) (s : State),
    s.accepts m 0x403 ex = true ∧ s.plen m = 0 ∧ s.fwdMode = true :=
  ⟨0, .retried, W.post W.fwd 0x403 0 [], by decide +kernel⟩

theorem witness_sheafEgressDecision : ∃ (h : Fin 32) (s : State),
    s.fwdMode = true ∧ s.comB SHF_CFG.ENABLE h = true ∧ (s.sheaf h).tx = none ∧ (s.sheaf h).txBytes.length < 248 ∧ s.egrState (256 + h) = 0 ∧ ((∀ n < 16, s.oldIn (16 * (256 + h.val) + n) = [])) ∧ s.railOk 1 = true :=
  ⟨0, W.sheafOn, by decide +kernel⟩

theorem witness_sheafEgressDecision_2 : ∃ (h : Fin 32) (s : State),
    s.fwdMode = true ∧ s.comB SHF_CFG.ENABLE h = true ∧ (s.sheaf h).tx = none ∧ (s.sheaf h).txBytes.length < 248 ∧ s.egrState (256 + h) = 0 ∧ ((∀ n < 16, s.oldIn (16 * (256 + h.val) + n) = [])) ∧ s.railOk 1 = true :=
  ⟨0, W.sheafQueued, by decide +kernel⟩

theorem witness_sheafEgressDecision_3 : ∃ (h : Fin 32) (s : State),
    s.fwdMode = true ∧ s.comB SHF_CFG.ENABLE h = true ∧ (s.sheaf h).tx = none ∧ (s.sheaf h).txBytes.length < 248 ∧ s.egrState (256 + h) = 0 ∧ ((∀ n < 16, s.oldIn (16 * (256 + h.val) + n) = [])) ∧ s.railOk 1 = true :=
  ⟨0, W.sheafBound, by decide +kernel⟩

theorem witness_windowEnd : ∃ (h : Fin 32) (s : State),
    (s.wins h).isEmpty = false :=
  ⟨0, W.calendar, by decide +kernel⟩

theorem witness_cmdAlmBankCheck : ∃ (m : Fin 16) (ex : Exec) (s : State),
    s.accepts m 0x502 ex = true ∧ s.plen m = 4 ∧ s.pay m 0 1 ≤ 31 ∧ s.pay m 1 1 ≤ 1 ∧ 4 ≤ s.pay m 2 2 ∧ s.pay m 2 2 ≤ 512 ∧ s.fwdMode = true :=
  ⟨0, .clean, W.post W.fwd 0x502 0 [0, 0, 100, 0], by decide +kernel⟩

theorem witness_cmdAlmBankCheck_2 : ∃ (m : Fin 16) (ex : Exec) (s : State),
    s.accepts m 0x502 ex = true ∧ s.plen m = 4 ∧ s.pay m 0 1 ≤ 31 ∧ s.pay m 1 1 ≤ 1 ∧ 4 ≤ s.pay m 2 2 ∧ s.pay m 2 2 ≤ 512 ∧ s.fwdMode = true :=
  ⟨0, .retried, W.post W.fwd 0x502 0 [0, 0, 100, 0], by decide +kernel⟩

theorem witness_cmdAlmRealign : ∃ (m : Fin 16) (ex : Exec) (s : State),
    s.accepts m 0x503 ex = true ∧ s.plen m = 0 ∧ s.fwdMode = true ∧ s.follow = false :=
  ⟨0, .clean, W.post W.fwd 0x503 0 [], by decide +kernel⟩

theorem witness_cmdAlmRealign_2 : ∃ (m : Fin 16) (ex : Exec) (s : State),
    s.accepts m 0x503 ex = true ∧ s.plen m = 0 ∧ s.fwdMode = true ∧ s.follow = false :=
  ⟨0, .retried, W.post W.fwd 0x503 0 [], by decide +kernel⟩

theorem witness_slewResidueZero : ∃ (n : Fin 8) (s : State),
    s.tickRun = true ∧ (s.dom n).res ≠ 0 ∧ s.resAt n s.now = 0 :=
  ⟨1, W.slewing, by decide +kernel⟩

theorem witness_hostTimeoutExpiry : ∃ (n : Fin 8) (s : State),
    s.tickRun = true ∧ s.domSource n = srcHOST ∧ s.com TBS_DOM_CFG.HOST_TIMEOUT n ≠ 0 ∧ s.bit TBS_DOM_STAT.FREE_RUN n = false ∧ (s.dom n).cmdAt + s.com TBS_DOM_CFG.HOST_TIMEOUT n * sT ≤ s.now ∧ s.railOk 4 = true :=
  ⟨1, W.hostLate, by decide +kernel⟩

theorem witness_adjustApply : ∃ (n : Fin 8) (m : Fin 16) (a : Adjust) (s : State),
    (s.dom n).adj = some a ∧ a.mbx = m ∧ a.at_ ≤ s.now ∧ s.tickRun = true :=
  ⟨1, 0, W.adj, W.adjusting, by decide +kernel⟩

theorem witness_snapshot : ∃ (data : Word) (s : State),
    s.gr.linkUp = true ∧ s.tickRun = true ∧ TBS_SNAP_CTL.GO.get data ≠ 0 ∧ s.tb.snapAt ≠ some s.now :=
  ⟨1, W.tk, by decide +kernel⟩

theorem witness_rptConsWrite : ∃ (p : Fin 256) (data : Word) (s : State),
    s.gr.linkUp = true ∧ s.railOk 4 = true :=
  ⟨0, 0, W.tk, by decide +kernel⟩

theorem witness_rptConsWrite_2 : ∃ (p : Fin 256) (data : Word) (s : State),
    s.gr.linkUp = true ∧ s.railOk 4 = true :=
  ⟨0, 100, W.tk, by decide +kernel⟩

theorem witness_triggerPulse : ∃ (k : Fin 8) (x : Train) (s : State),
    SMap.at! s.tb.trigs k = x ∧ s.tickRun = true ∧ x.on = true ∧ x.over = false ∧ s.scaleDue x.scale x.edge = true :=
  ⟨0, W.train, W.trig, by decide +kernel⟩

theorem witness_triggerPulse_2 : ∃ (k : Fin 8) (x : Train) (s : State),
    SMap.at! s.tb.trigs k = x ∧ s.tickRun = true ∧ x.on = true ∧ x.over = false ∧ s.scaleDue x.scale x.edge = true :=
  ⟨0, { W.train with invert := true, scale := 9 }, W.tk.updTb fun b => { b with trigs := [(0, { W.train with invert := true, scale := 9 })] }, by decide +kernel⟩

theorem witness_triggerPulseEnd : ∃ (k : Fin 8) (x : Train) (f : Int) (sc : Nat) (s : State),
    SMap.at! s.tb.trigs k = x ∧ x.fall = some (f, sc) ∧ s.tickRun = true ∧ s.scaleDue sc f = true :=
  ⟨0, { W.train with fall := some (0, 0) }, 0, 0, W.trigHigh, by decide +kernel⟩

theorem witness_cmdTbsAdjust : ∃ (m : Fin 16) (ex : Exec) (n : Fin 8) (s : State),
    s.accepts m 0x601 ex = true ∧ s.plen m = 32 ∧ s.pay m 0 1 = n ∧ 0 < n ∧ s.pay m 1 1 < 8 ∧ s.pay m 1 1 % 4 ≠ 0 ∧ s.pay m 2 6 = 0 ∧ s.pay m 22 2 = 0 ∧ s.domSource n = srcHOST ∧ (testBit (s.pay m 1 1) 0 = true → 686851169976 ≤ s.pay m 16 6 ∧ s.pay m 16 6 ≤ 687538364744) ∧ (testBit (s.pay m 1 1) 1 = true → 0 ≤ tsQ (s.domAt n (s.applyAt (s.pay m 8 8))) + sgn 64 (s.pay m 24 8)) ∧ s.pay m 8 8 ≤ s.tick + 2 ^ 32 ∧ ((s.pay m 8 8 = 0 ∨ s.tick + 64 ≤ s.pay m 8 8)) ∧ s.timeMode = true ∧ s.follow = false ∧ (s.dom n).adj = none :=
  ⟨0, .clean, 1, W.post W.host 0x601 0 ([1, 2] ++ List.replicate 30 0), by decide +kernel⟩

theorem witness_cmdTbsAdjust_2 : ∃ (m : Fin 16) (ex : Exec) (n : Fin 8) (s : State),
    s.accepts m 0x601 ex = true ∧ s.plen m = 32 ∧ s.pay m 0 1 = n ∧ 0 < n ∧ s.pay m 1 1 < 8 ∧ s.pay m 1 1 % 4 ≠ 0 ∧ s.pay m 2 6 = 0 ∧ s.pay m 22 2 = 0 ∧ s.domSource n = srcHOST ∧ (testBit (s.pay m 1 1) 0 = true → 686851169976 ≤ s.pay m 16 6 ∧ s.pay m 16 6 ≤ 687538364744) ∧ (testBit (s.pay m 1 1) 1 = true → 0 ≤ tsQ (s.domAt n (s.applyAt (s.pay m 8 8))) + sgn 64 (s.pay m 24 8)) ∧ s.pay m 8 8 ≤ s.tick + 2 ^ 32 ∧ ((s.pay m 8 8 = 0 ∨ s.tick + 64 ≤ s.pay m 8 8)) ∧ s.timeMode = true ∧ s.follow = false ∧ (s.dom n).adj = none :=
  ⟨0, .retried, 1, W.post W.host 0x601 0 ([1, 2] ++ List.replicate 30 0), by decide +kernel⟩

theorem witness_cmdTbsSet : ∃ (m : Fin 16) (ex : Exec) (n : Fin 8) (s : State),
    s.accepts m 0x602 ex = true ∧ s.plen m = 32 ∧ s.pay m 0 1 = n ∧ 0 < n ∧ ((s.pay m 1 1 = 0 ∨ s.pay m 1 1 = 4)) ∧ s.pay m 2 10 = 0 ∧ s.pay m 26 4 < 1000000000 ∧ s.domSource n = srcHOST ∧ s.pay m 12 8 ≤ s.tick + 2 ^ 32 ∧ ((s.pay m 12 8 = 0 ∨ s.tick + 64 ≤ s.pay m 12 8)) ∧ s.timeMode = true ∧ s.follow = false ∧ (s.dom n).adj = none :=
  ⟨0, .clean, 1, W.post W.host 0x602 0 ([1, 0] ++ List.replicate 30 0), by decide +kernel⟩

theorem witness_cmdTbsSet_2 : ∃ (m : Fin 16) (ex : Exec) (n : Fin 8) (s : State),
    s.accepts m 0x602 ex = true ∧ s.plen m = 32 ∧ s.pay m 0 1 = n ∧ 0 < n ∧ ((s.pay m 1 1 = 0 ∨ s.pay m 1 1 = 4)) ∧ s.pay m 2 10 = 0 ∧ s.pay m 26 4 < 1000000000 ∧ s.domSource n = srcHOST ∧ s.pay m 12 8 ≤ s.tick + 2 ^ 32 ∧ ((s.pay m 12 8 = 0 ∨ s.tick + 64 ≤ s.pay m 12 8)) ∧ s.timeMode = true ∧ s.follow = false ∧ (s.dom n).adj = none :=
  ⟨0, .retried, 1, W.post W.host 0x602 0 ([1, 0] ++ List.replicate 30 0), by decide +kernel⟩

theorem witness_cmdTbsReportBind : ∃ (m : Fin 16) (ex : Exec) (s : State),
    s.accepts m 0x603 ex = true ∧ s.plen m = 12 ∧ s.pay m 2 2 = 0 ∧ s.pay m 0 2 ≤ 255 ∧ s.pay m 4 8 % 64 = 0 ∧ s.fwdMode = true :=
  ⟨0, .clean, W.post W.fwd 0x603 0 (List.replicate 12 0), by decide +kernel⟩

theorem witness_cmdTbsReportBind_2 : ∃ (m : Fin 16) (ex : Exec) (s : State),
    s.accepts m 0x603 ex = true ∧ s.plen m = 12 ∧ s.pay m 2 2 = 0 ∧ s.pay m 0 2 ≤ 255 ∧ s.pay m 4 8 % 64 = 0 ∧ s.fwdMode = true :=
  ⟨0, .retried, W.post W.fwd 0x603 0 (List.replicate 12 0), by decide +kernel⟩

theorem witness_measSetEntry : ∃ (c : Fin 128) (since : Nat) (s : State),
    (s.ttCar c).since = some since ∧ since + 100 * msT ≤ s.now ∧ s.measOk c = true ∧ (s.ttCar c).inSet = false :=
  ⟨0, 0, W.meas, by decide +kernel⟩

theorem witness_ttWindowEnd : ∃ (h : Fin 32) (len : Nat) (s : State),
    len = s.com SHF_TT_CFG.AVG_MS h * msT ∧ len ≠ 0 ∧ s.ttMethod h ≠ ttOFF ∧ s.fwdMode = true ∧ (s.ttSheaf h).winAt + len ≤ s.now + 1 :=
  ⟨0, 10 * msT, W.window, by decide +kernel⟩

theorem witness_tcWindowEnd : ∃ (h : Fin 32) (len : Nat) (s : State),
    len = s.com SHF_TT_CFG.TC_WINDOW h * sT ∧ len ≠ 0 ∧ 2 ≤ s.ttMethod h ∧ s.fwdMode = true ∧ (s.ttSheaf h).tcAt + len ≤ s.now + 1 :=
  ⟨0, 10 * sT, W.tcWindow, by decide +kernel⟩

theorem witness_cmdShfTtCarriers : ∃ (m : Fin 16) (ex : Exec) (h : Fin 32) (s : State),
    s.accepts m 0x203 ex = true ∧ s.plen m = 4 ∧ s.pay m 1 3 = 0 ∧ s.pay m 0 1 = h ∧ s.fwdMode = true :=
  ⟨0, .clean, 0, W.post W.fwd 0x203 0 [0, 0, 0, 0], by decide +kernel⟩

theorem witness_cmdShfTtCarriers_2 : ∃ (m : Fin 16) (ex : Exec) (h : Fin 32) (s : State),
    s.accepts m 0x203 ex = true ∧ s.plen m = 4 ∧ s.pay m 1 3 = 0 ∧ s.pay m 0 1 = h ∧ s.fwdMode = true :=
  ⟨0, .retried, 0, W.post W.fwd 0x203 0 [0, 0, 0, 0], by decide +kernel⟩

theorem witness_refinEdge : ∃ (k : Fin 4) (falling : Bool) (i : Inst) (s : State),
    s.tickRun = true ∧ s.com REF_SRC_CFG.RANK k ≠ 0 ∧ s.tb.warmed = true ∧ s.timeMode = true :=
  ⟨0, false, ⟨0, 0⟩, W.refin, by decide +kernel⟩

theorem witness_refinEdge_2 : ∃ (k : Fin 4) (falling : Bool) (i : Inst) (s : State),
    s.tickRun = true ∧ s.com REF_SRC_CFG.RANK k ≠ 0 ∧ s.tb.warmed = true ∧ s.timeMode = true :=
  ⟨0, false, ⟨0, 0⟩, W.cfg REF_IN_CFG.KIND 0 1 W.refin, by decide +kernel⟩

theorem witness_refSignalTimeout : ∃ (k : Fin 4) (a : Nat) (s : State),
    (s.src k).lastEdge = some a ∧ a + (if s.isPps k then 1500 * msT else usT) ≤ s.now ∧ s.qst k ≠ qDISABLED ∧ s.qst k ≠ qNO_SIGNAL :=
  ⟨0, 0, W.silent, by decide +kernel⟩

theorem witness_nmeaSentence : ∃ (bs : List Byte) (f : List (List Byte)) (k : Nat) (s : State),
    s.tickRun = true ∧ nmeaFields bs = some f ∧ s.gnssRef = some k :=
  ⟨W.rmc, [[71, 80, 82, 77, 67], [], [65]], 0, W.gnss, by decide +kernel⟩

theorem witness_ptpSample : ∃ (s : State),
    s.tickRun = true ∧ s.com REF_SRC_CFG.RANK 6 ≠ 0 :=
  ⟨W.ptp, by decide +kernel⟩

theorem witness_qualifyExpiry : ∃ (j : Fin 7) (s : State),
    s.qst j = qQUALIFYING ∧ (s.src j).qualAt + s.com REF_SRC_CFG.QUAL_S j * sT ≤ s.now :=
  ⟨0, W.qualifying, by decide +kernel⟩

theorem witness_requalExpiry : ∃ (j : Fin 7) (s : State),
    s.qst j = qDISQUALIFIED ∧ (s.src j).disqAt + s.com REF_SRC_CFG.REQUAL_S j * sT ≤ s.now :=
  ⟨0, W.disqualified, by decide +kernel⟩

theorem witness_phaseStepApply : ∃ (a : Nat) (σ : Int) (l : List (Nat × Int)) (s : State),
    s.ref.steps = (a, σ) :: l ∧ a ≤ s.now ∧ s.tickRun = true :=
  ⟨0, 65536, [], W.stepDue, by decide +kernel⟩

theorem witness_learnerRecord : ∃ (s : State),
    s.tb.warmed = true ∧ s.timeMode = true ∧ s.ref.learnAt + sT ≤ s.now :=
  ⟨W.locked, by decide +kernel⟩

theorem witness_learnerRecord_2 : ∃ (s : State),
    s.tb.warmed = true ∧ s.timeMode = true ∧ s.ref.learnAt + sT ≤ s.now :=
  ⟨W.holdover, by decide +kernel⟩

theorem witness_holdoverUpdate : ∃ (s : State),
    ((s.rstate = rsHOLDOVER ∨ s.rstate = rsASSIST)) ∧ s.ref.holdUpd + sT ≤ s.now :=
  ⟨W.holdover, by decide +kernel⟩

theorem witness_freqWordWrite : ∃ (w : Word) (s : State),
    s.gr.linkUp = true ∧ s.railOk 4 = true :=
  ⟨5, W.swLoop, by decide +kernel⟩

theorem witness_freqWordWrite_2 : ∃ (w : Word) (s : State),
    s.gr.linkUp = true ∧ s.railOk 4 = true :=
  ⟨0x7FFFFFFF, W.swLoop, by decide +kernel⟩

theorem witness_pePush : ∃ (s : State),
    s.swMode = true ∧ s.timeMode = true ∧ s.ref.peAt + 100000000 ≤ s.now :=
  ⟨W.swLoop, by decide +kernel⟩

theorem witness_peRead : ∃ (s : State),
    s.gr.linkUp = true ∧ s.railOk 4 = true :=
  ⟨W.tk, by decide +kernel⟩

theorem witness_swStale : ∃ (s : State),
    s.swMode = true ∧ s.com REF_LOOP_CFG.SW_TIMEOUT ≠ 0 ∧ s.ref.stale = false ∧ s.tickRun = true ∧ s.ref.wWritten + s.com REF_LOOP_CFG.SW_TIMEOUT * sT ≤ s.now ∧ s.railOk 4 = true :=
  ⟨W.swLate, by decide +kernel⟩

theorem witness_cmdRefForce : ∃ (m : Fin 16) (ex : Exec) (s : State),
    s.accepts m 0x701 ex = true ∧ s.plen m = 4 ∧ s.pay m 1 3 = 0 ∧ ((s.pay m 0 1 ≤ 6 ∨ s.pay m 0 1 = 0xFF)) ∧ s.timeMode = true ∧ s.follow = false :=
  ⟨0, .clean, W.post W.tk 0x701 0 [255, 0, 0, 0], by decide +kernel⟩

theorem witness_cmdRefForce_2 : ∃ (m : Fin 16) (ex : Exec) (s : State),
    s.accepts m 0x701 ex = true ∧ s.plen m = 4 ∧ s.pay m 1 3 = 0 ∧ ((s.pay m 0 1 ≤ 6 ∨ s.pay m 0 1 = 0xFF)) ∧ s.timeMode = true ∧ s.follow = false :=
  ⟨0, .retried, W.post W.tk 0x701 0 [255, 0, 0, 0], by decide +kernel⟩

theorem witness_cmdRefGnssSend : ∃ (m : Fin 16) (ex : Exec) (s : State),
    s.accepts m 0x702 ex = true ∧ 4 ≤ s.plen m ∧ s.pay m 2 2 = 0 ∧ s.pay m 0 2 ≠ 0 ∧ s.pay m 0 2 + 4 = s.plen m ∧ s.pay m 0 2 ≤ 1024 ∧ s.timeMode = true :=
  ⟨0, .clean, W.post W.tk 0x702 0 [1, 0, 0, 0, 36], by decide +kernel⟩

theorem witness_cmdRefGnssSend_2 : ∃ (m : Fin 16) (ex : Exec) (s : State),
    s.accepts m 0x702 ex = true ∧ 4 ≤ s.plen m ∧ s.pay m 2 2 = 0 ∧ s.pay m 0 2 ≠ 0 ∧ s.pay m 0 2 + 4 = s.plen m ∧ s.pay m 0 2 ≤ 1024 ∧ s.timeMode = true :=
  ⟨0, .retried, W.post W.tk 0x702 0 [1, 0, 0, 0, 36], by decide +kernel⟩

theorem witness_cmdRefModelClear : ∃ (m : Fin 16) (ex : Exec) (s : State),
    s.accepts m 0x704 ex = true ∧ s.plen m = 0 ∧ s.timeMode = true :=
  ⟨0, .clean, W.post W.tk 0x704 0 [], by decide +kernel⟩

theorem witness_cmdRefModelClear_2 : ∃ (m : Fin 16) (ex : Exec) (s : State),
    s.accepts m 0x704 ex = true ∧ s.plen m = 0 ∧ s.timeMode = true :=
  ⟨0, .retried, W.post W.tk 0x704 0 [], by decide +kernel⟩

theorem witness_ppsoPulse : ∃ (k : Fin 2) (x : Train) (s : State),
    SMap.at! s.ref.ppso k = x ∧ s.tickRun = true ∧ x.on = true ∧ s.scaleDue x.scale x.edge = true :=
  ⟨0, W.ppsTrain, W.ppso, by decide +kernel⟩

theorem witness_ppsoPulseEnd : ∃ (k : Fin 2) (f : Int) (sc : Nat) (s : State),
    (SMap.at! s.ref.ppso k).fall = some (f, sc) ∧ s.tickRun = true ∧ s.scaleDue sc f = true :=
  ⟨0, 0, 0, W.ppsoHigh, by decide +kernel⟩

theorem witness_rampUpdate : ∃ (s : State),
    s.ramping = true ∧ s.syn.nextUpd ≤ s.now :=
  ⟨W.rampRun, by decide +kernel⟩

theorem witness_ckoOutputStart : ∃ (k : Fin 12) (a d : Nat) (e : Int) (s : State),
    (s.cko k).pend = some a ∧ s.quiet = false ∧ s.comB SYN_CKO_CFG.ENABLE k = true ∧ d = (if (s.ckoTiming k).align then delta5 (s.ckoTiming k) (s.cko k).steps else 0) ∧ e = (if (s.ckoTiming k).align then s.later (s.ckoTiming k) (s.nextEdge (s.ckoTiming k) 0 ((s.cko k).lead5 a) (s.cko k).steps) d else (s.cko k).lead5 a + (s.ckoTiming k).dly5) ∧ s.due5 e = true :=
  ⟨0, 0, 0, now5 2048, W.ckoPend, by decide +kernel⟩

theorem witness_ckoSwitchEdge : ∃ (k : Fin 12) (e : Int) (s : State),
    s.switchEdge k = some e ∧ s.due5 e = true ∧ (s.cko k).run = true ∧ s.railOk 4 = true :=
  ⟨0, W.ckoEdge, W.ckoSwitching, by decide +kernel⟩

theorem witness_ckoStepEdge : ∃ (k : Fin 12) (e : Int) (s : State),
    (s.cko k).run = true ∧ (s.cko k).cur.align = true ∧ (s.cko k).steps ≠ 0 ∧ e = s.nextEdge (s.cko k).cur (s.cko k).anchor (now5 (s.cko k).stepAt) ((s.cko k).steps + (s.cko k).absorbed) ∧ s.due5 e = true ∧ ((∀ o, (s.cko k).old = some o → e < now5 (o.2.2 + 2048))) :=
  ⟨0, W.ckoStepE, W.ckoStepped, by decide +kernel⟩

theorem witness_cmdSynRampStart : ∃ (m : Fin 16) (ex : Exec) (s : State),
    s.accepts m 0x801 ex = true ∧ s.plen m = 0 ∧ s.com SYN_RAMP_CFG.COUNT ≠ 0 ∧ s.timeMode = true ∧ s.follow = false ∧ s.ramping = false ∧ ((s.swMode = true ∨ s.rstate = rsFREERUN)) :=
  ⟨0, .clean, W.post W.rampSet 0x801 0 [], by decide +kernel⟩

theorem witness_cmdSynRampStart_2 : ∃ (m : Fin 16) (ex : Exec) (s : State),
    s.accepts m 0x801 ex = true ∧ s.plen m = 0 ∧ s.com SYN_RAMP_CFG.COUNT ≠ 0 ∧ s.timeMode = true ∧ s.follow = false ∧ s.ramping = false ∧ ((s.swMode = true ∨ s.rstate = rsFREERUN)) :=
  ⟨0, .retried, W.post W.rampSet 0x801 0 [], by decide +kernel⟩

theorem witness_cmdSynRampStop : ∃ (m : Fin 16) (ex : Exec) (s : State),
    s.accepts m 0x802 ex = true ∧ ((s.plen m = 0 ∨ (s.plen m = 4 ∧ s.pay m 0 4 ≤ 1))) ∧ s.timeMode = true ∧ s.follow = false :=
  ⟨0, .clean, W.post W.rampRun 0x802 0 [], by decide +kernel⟩

theorem witness_cmdSynRampStop_2 : ∃ (m : Fin 16) (ex : Exec) (s : State),
    s.accepts m 0x802 ex = true ∧ ((s.plen m = 0 ∨ (s.plen m = 4 ∧ s.pay m 0 4 ≤ 1))) ∧ s.timeMode = true ∧ s.follow = false :=
  ⟨0, .retried, W.post W.rampRun 0x802 0 [], by decide +kernel⟩

theorem witness_tdcArm : ∃ (s : State),
    s.canArm = true :=
  ⟨W.tdcRun, by decide +kernel⟩

theorem witness_tdcEdge : ∃ (ch : Fin 2) (falling : Bool) (coarse : Nat) (bin : Fin 512) (x : Exec) (a : Armed) (e : TdcEdge) (s : State),
    s.tdc.armed = some a ∧ e = s.edgeOf ch coarse bin ∧ s.srcQuiet ch = false ∧ (if s.com TDC_CH_CFG.SOURCE ch = 29 then s.markAhead = false else s.comB TDC_CH_CFG.SLOPE ch = falling) ∧ ((SMap.get 0 s.tdc.hold ch : Nat) : Int) ≤ e.time5 0 ∧ s.now < a.at_ + s.com TDC_TIMING.TIMEOUT_MS * msT :=
  ⟨0, false, 5, 0, .clean, { at_ := sT }, W.tdcHot.edgeOf 0 5 0, W.tdcHot, by decide +kernel⟩

theorem witness_tdcEdge_2 : ∃ (ch : Fin 2) (falling : Bool) (coarse : Nat) (bin : Fin 512) (x : Exec) (a : Armed) (e : TdcEdge) (s : State),
    s.tdc.armed = some a ∧ e = s.edgeOf ch coarse bin ∧ s.srcQuiet ch = false ∧ (if s.com TDC_CH_CFG.SOURCE ch = 29 then s.markAhead = false else s.comB TDC_CH_CFG.SLOPE ch = falling) ∧ ((SMap.get 0 s.tdc.hold ch : Nat) : Int) ≤ e.time5 0 ∧ s.now < a.at_ + s.com TDC_TIMING.TIMEOUT_MS * msT :=
  ⟨1, false, 5, 0, .clean, { at_ := sT }, W.tdcHot.edgeOf 1 5 0, W.tdcHot, by decide +kernel⟩

theorem witness_tdcEdgeOther : ∃ (ch : Fin 2) (falling : Bool) (coarse : Nat) (bin : Fin 512) (x : Exec) (s : State),
    ((s.srcQuiet ch = true ∨ (s.com TDC_CH_CFG.SOURCE ch ≠ 29 ∧ s.comB TDC_CH_CFG.SLOPE ch ≠ falling))) :=
  ⟨0, true, 5, 0, .clean, W.tdcHot, by decide +kernel⟩

theorem witness_tdcTimeout : ∃ (a : Armed) (s : State),
    s.tdc.armed = some a ∧ a.at_ + s.com TDC_TIMING.TIMEOUT_MS * msT ≤ s.now :=
  ⟨{ at_ := 0 }, W.tdcLate, by decide +kernel⟩

theorem witness_tdcResultLatch : ∃ (s : State),
    s.gr.linkUp = true ∧ s.railOk 4 = true :=
  ⟨W.tk, by decide +kernel⟩

theorem witness_tdcResultRemove : ∃ (s : State),
    s.gr.linkUp = true ∧ s.railOk 4 = true ∧ s.tdc.latched = true :=
  ⟨W.tdcLatched, by decide +kernel⟩

theorem witness_tdcBinDataAccess : ∃ (w : Option Word) (s : State),
    s.gr.linkUp = true ∧ s.railOk 4 = true :=
  ⟨none, W.tk, by decide +kernel⟩

theorem witness_cmdTdcRun : ∃ (m : Fin 16) (ex : Exec) (s : State),
    s.accepts m 0x901 ex = true ∧ s.plen m = 4 ∧ s.pay m 0 4 ≠ 0 ∧ s.tdcMode = true ∧ s.tdcRun = false ∧ s.tdc.test = none ∧ s.bit CAL_STAT.RUNNING = false :=
  ⟨0, .clean, W.post W.tk 0x901 0 [1, 0, 0, 0], by decide +kernel⟩

theorem witness_cmdTdcRun_2 : ∃ (m : Fin 16) (ex : Exec) (s : State),
    s.accepts m 0x901 ex = true ∧ s.plen m = 4 ∧ s.pay m 0 4 ≠ 0 ∧ s.tdcMode = true ∧ s.tdcRun = false ∧ s.tdc.test = none ∧ s.bit CAL_STAT.RUNNING = false :=
  ⟨0, .retried, W.post (W.tk.updTdc fun t => { t with rearmFrom := 5 }) 0x901 0 [1, 0, 0, 0], by decide +kernel⟩

theorem witness_cmdTdcStop : ∃ (m : Fin 16) (ex : Exec) (s : State),
    s.accepts m 0x902 ex = true ∧ s.plen m = 0 ∧ s.tdcMode = true :=
  ⟨0, .clean, W.post W.tk 0x902 0 [], by decide +kernel⟩

theorem witness_cmdTdcStop_2 : ∃ (m : Fin 16) (ex : Exec) (s : State),
    s.accepts m 0x902 ex = true ∧ s.plen m = 0 ∧ s.tdcMode = true :=
  ⟨0, .retried, W.post W.tk 0x902 0 [], by decide +kernel⟩

theorem witness_cmdTdcBinCal : ∃ (m : Fin 16) (ex : Exec) (s : State),
    s.accepts m 0x903 ex = true ∧ s.plen m = 0 ∧ s.tdcMode = true ∧ s.tdc.test = none ∧ s.bit CAL_STAT.RUNNING = false :=
  ⟨0, .clean, W.post W.tk 0x903 0 [], by decide +kernel⟩

theorem witness_cmdTdcBinCal_2 : ∃ (m : Fin 16) (ex : Exec) (s : State),
    s.accepts m 0x903 ex = true ∧ s.plen m = 0 ∧ s.tdcMode = true ∧ s.tdc.test = none ∧ s.bit CAL_STAT.RUNNING = false :=
  ⟨0, .retried, W.post W.tk 0x903 0 [], by decide +kernel⟩

theorem witness_binCalDone : ∃ (h0 h1 : List Nat) (s : State),
    s.tdc.test ≠ none :=
  ⟨[], [], W.tdcTest, by decide +kernel⟩

theorem witness_pathMeasured : ∃ (k : Fin 571) (base : Int) (noisy : Bool) (s : State),
    s.railOk 4 = true :=
  ⟨0, 0, false, W.tk, by decide +kernel⟩

theorem witness_pathMeasured_2 : ∃ (k : Fin 571) (base : Int) (noisy : Bool) (s : State),
    s.railOk 4 = true :=
  ⟨520, 0, false, W.calRun, by decide +kernel⟩

theorem witness_pathMeasured_3 : ∃ (k : Fin 571) (base : Int) (noisy : Bool) (s : State),
    s.railOk 4 = true :=
  ⟨0, 0, false, W.dueLane, by decide +kernel⟩

theorem witness_calRunDone : ∃ (s : State),
    s.bit CAL_STAT.RUNNING = true ∧ 3 ≤ s.rd CAL_STAT.PHASE ∧ s.mode = mCALIBRATE :=
  ⟨W.calRun, by decide +kernel⟩

theorem witness_trimRampStep : ∃ (k : Fin 571) (s : State),
    s.railOk 4 = true :=
  ⟨0, W.trimMoves, by decide +kernel⟩

theorem witness_ocxoRetuneStep : ∃ (s : State),
    s.railOk 4 = true ∧ s.cal.retune = true ∧ s.swMode = false ∧ s.rd CAL_OCXO_TRIM.CODE ≠ s.com CAL_OCXO_TRIM.TARGET ∧ s.cal.ocxoAt + 5 * sT / max 1 (s.com CAL_OCXO_CFG.RATE) ≤ s.now :=
  ⟨W.retuning, by decide +kernel⟩

theorem witness_calPathTrimAccess : ∃ (w : Option Word) (s : State),
    s.gr.linkUp = true ∧ s.railOk 4 = true :=
  ⟨none, W.tk, by decide +kernel⟩

theorem witness_cmdCalTrace : ∃ (m : Fin 16) (ex : Exec) (loop : Int) (x : Train) (s : State),
    s.accepts m 0xA01 ex = true ∧ s.plen m = 12 ∧ s.pay m 1 1 ≤ 1 ∧ s.pay m 8 4 = 0 ∧ s.pay m 2 2 ≠ 0 ∧ s.pay m 4 4 ≠ 0 ∧ s.pay m 0 1 ≤ 7 ∧ s.pay m 4 4 ≤ 10000000 ∧ s.comB TBS_TRIG_CFG.ENABLE (s.pay m 0 1) = false ∧ s.comB CAL_CFG.CALIN_KIND = false ∧ s.ocxoWarm = true ∧ s.tkMode = true ∧ s.tdcRun = false ∧ s.bit CAL_STAT.RUNNING = false ∧ s.mode ≠ mCALIBRATE ∧ x = s.traceTrain (s.pay m 0 1) (s.pay m 2 2) :=
  ⟨0, .clean, 0, W.traceT, W.post W.warmTk 0xA01 0 [0, 0, 1, 0, 1, 0, 0, 0, 0, 0, 0, 0], by decide +kernel⟩

theorem witness_cmdCalTrace_2 : ∃ (m : Fin 16) (ex : Exec) (loop : Int) (x : Train) (s : State),
    s.accepts m 0xA01 ex = true ∧ s.plen m = 12 ∧ s.pay m 1 1 ≤ 1 ∧ s.pay m 8 4 = 0 ∧ s.pay m 2 2 ≠ 0 ∧ s.pay m 4 4 ≠ 0 ∧ s.pay m 0 1 ≤ 7 ∧ s.pay m 4 4 ≤ 10000000 ∧ s.comB TBS_TRIG_CFG.ENABLE (s.pay m 0 1) = false ∧ s.comB CAL_CFG.CALIN_KIND = false ∧ s.ocxoWarm = true ∧ s.tkMode = true ∧ s.tdcRun = false ∧ s.bit CAL_STAT.RUNNING = false ∧ s.mode ≠ mCALIBRATE ∧ x = s.traceTrain (s.pay m 0 1) (s.pay m 2 2) :=
  ⟨0, .retried, 0, W.traceT, W.post W.warmTk 0xA01 0 [0, 0, 1, 0, 1, 0, 0, 0, 0, 0, 0, 0], by decide +kernel⟩

theorem witness_cmdCalFreq : ∃ (m : Fin 16) (ex : Exec) (s : State),
    s.accepts m 0xA02 ex = true ∧ s.plen m = 4 ∧ s.pay m 2 2 = 0 ∧ s.pay m 0 2 ≠ 0 ∧ s.pay m 0 2 ≤ 10000 ∧ s.comB CAL_CFG.CALIN_KIND = true ∧ s.ocxoWarm = true ∧ s.tkMode = true :=
  ⟨0, .clean, W.post W.sine 0xA02 0 [1, 0, 0, 0], by decide +kernel⟩

theorem witness_cmdCalFreq_2 : ∃ (m : Fin 16) (ex : Exec) (s : State),
    s.accepts m 0xA02 ex = true ∧ s.plen m = 4 ∧ s.pay m 2 2 = 0 ∧ s.pay m 0 2 ≠ 0 ∧ s.pay m 0 2 ≤ 10000 ∧ s.comB CAL_CFG.CALIN_KIND = true ∧ s.ocxoWarm = true ∧ s.tkMode = true :=
  ⟨0, .retried, W.post W.sine 0xA02 0 [1, 0, 0, 0], by decide +kernel⟩

theorem witness_calFreqIntervalEnd : ∃ (m : Fin 16) (err : Int) (a : Nat) (s : State),
    (s.mbxAt m).job = some (.freq a) ∧ a ≤ s.now ∧ s.mst m = mRUNNING ∧ s.railOk 4 = true :=
  ⟨0, 0, 0, W.job W.tk (.freq 0), by decide +kernel⟩

theorem witness_retryResult : ∃ (p : FaultPlace) (r : FaultEnd) (w : FaultWork) (s : State),
    True :=
  ⟨.row false 0 0, .transient, .none, W.tk, by decide +kernel⟩

theorem witness_retryResult_2 : ∃ (p : FaultPlace) (r : FaultEnd) (w : FaultWork) (s : State),
    True :=
  ⟨.binTable, .lasting, .measurement, W.tk, by decide +kernel⟩

theorem witness_d2dReset : ∃ (data : Word) (trained : Bool) (s : State),
    s.gr.linkUp = true ∧ s.tickRun = true ∧ data.toNat % 2 = 1 :=
  ⟨1, true, W.tk, by decide +kernel⟩

theorem witness_replicaReload : ∃ (a : Nat) (s : State),
    s.evt.reloadAt = some a ∧ a ≤ s.now ∧ s.railOk 4 = true :=
  ⟨0, W.reload, by decide +kernel⟩

theorem witness_logRecordEntry : ∃ (l : List LogRec) (s : State),
    l = (s.evt.due.filter (fun r => r.tick + 256 ≤ s.tick)).insertionSort (fun a b => a.le b) :=
  ⟨[], W.tk, by decide +kernel⟩

theorem witness_logLatch : ∃ (s : State),
    s.gr.linkUp = true :=
  ⟨W.tk, by decide +kernel⟩

theorem witness_logRemove : ∃ (s : State),
    s.gr.linkUp = true :=
  ⟨W.tk, by decide +kernel⟩

theorem witness_vectorRearm : ∃ (data : Word) (s : State),
    s.gr.linkUp = true ∧ s.railOk 4 = true ∧ s.railOk 6 = true :=
  ⟨1, W.tk, by decide +kernel⟩

theorem witness_cmdEvtLogRead : ∃ (m : Fin 16) (ex : Exec) (s : State),
    s.accepts m 0xB01 ex = true ∧ s.plen m = 4 ∧ s.pay m 2 1 ≤ 1 ∧ s.pay m 3 1 = 0 ∧ s.pay m 0 2 ≠ 0 ∧ s.pay m 0 2 ≤ 250 ∧ s.mode ≠ mDORMANT :=
  ⟨0, .clean, W.post W.tk 0xB01 0 [1, 0, 0, 0], by decide +kernel⟩

theorem witness_cmdEvtLogRead_2 : ∃ (m : Fin 16) (ex : Exec) (s : State),
    s.accepts m 0xB01 ex = true ∧ s.plen m = 4 ∧ s.pay m 2 1 ≤ 1 ∧ s.pay m 3 1 = 0 ∧ s.pay m 0 2 ≠ 0 ∧ s.pay m 0 2 ≤ 250 ∧ s.mode ≠ mDORMANT :=
  ⟨0, .retried, W.post W.tk 0xB01 0 [1, 0, 0, 0], by decide +kernel⟩

theorem witness_cmdEvtSpareReport : ∃ (m : Fin 16) (ex : Exec) (s : State),
    s.accepts m 0xB02 ex = true ∧ s.plen m = 0 ∧ s.mode ≠ mDORMANT :=
  ⟨0, .clean, W.post W.tk 0xB02 0 [], by decide +kernel⟩

theorem witness_cmdEvtSpareReport_2 : ∃ (m : Fin 16) (ex : Exec) (s : State),
    s.accepts m 0xB02 ex = true ∧ s.plen m = 0 ∧ s.mode ≠ mDORMANT :=
  ⟨0, .retried, W.post W.tk 0xB02 0 [], by decide +kernel⟩

theorem witness_heartbeatSend : ∃ (s : State),
    s.twinOn = true ∧ s.tkMode = true ∧ ((∀ a, s.twin.hbAt = some a → a + 3200 ≤ s.now)) :=
  ⟨W.twin, by decide +kernel⟩

theorem witness_heartbeatReceived : ∃ (lane : Fin 4) (bytes : List Byte) (rx : Inst) (s : State),
    bytes.length = 256 ∧ s.hears lane = true ∧ fcsGood bytes = true ∧ byteAt bytes 4 = mtHEARTBEAT ∧ s.railOk 6 = true :=
  ⟨0, W.hb, ⟨0, 0⟩, W.twin, by decide +kernel⟩

theorem witness_mirrorMessageReceived : ∃ (lane : Fin 4) (bytes : List Byte) (h : Nat) (s : State),
    bytes.length = 256 ∧ s.hears lane = true ∧ fcsGood bytes = true ∧ mtTXN ≤ byteAt bytes 4 ∧ byteAt bytes 4 ≤ mtCHECK ∧ s.twin.head.getD (beNat (slice bytes 0 4)) = h :=
  ⟨0, W.msg, 0, W.twin, by decide +kernel⟩

theorem witness_messageLossTimeout : ∃ (h q a : Nat) (bs : List Byte) (s : State),
    s.twin.head = some h ∧ s.twin.held = [(q, a, bs)] ∧ a + 3200 ≤ s.now ∧ 0 < ser32 q h ∧ ser32 q h ≤ 65535 ∧ q < 2 ^ 32 ∧ h < 2 ^ 32 :=
  ⟨0, 1, 0, W.msg, W.gap32, by decide +kernel⟩

theorem witness_laneDown : ∃ (lane : Fin 4) (s : State),
    s.twinOn = true ∧ (s.mlane lane).up = true ∧ ((∀ a, (s.mlane lane).last = some a → a + 12800 ≤ s.now)) ∧ s.hbComes (some lane) = false ∧ s.railOk 6 = true :=
  ⟨0, W.laneOld, by decide +kernel⟩

theorem witness_txnApply : ∃ (x : TxnIn) (a : Nat) (late : Bool) (s : State),
    s.twin.inq.find? (fun y => y.txn = (s.txnLast + 1) % 2 ^ 32) = some x ∧ x.doneAt = some a ∧ s.follow = true ∧ s.txnDue x a = (true, late) ∧ s.txnRoom x = true :=
  ⟨W.txn, 0, false, W.txnWaits, by decide +kernel⟩

theorem witness_carrierMessageSend : ∃ (s : State),
    s.twinOn = true ∧ s.lead = true ∧ s.fwdMode = true :=
  ⟨W.twinLead, by decide +kernel⟩

theorem witness_countMessageSend : ∃ (s : State),
    s.twinOn = true ∧ s.lead = true ∧ s.fwdMode = true :=
  ⟨W.twinLead, by decide +kernel⟩

theorem witness_checkMessageSend : ∃ (r s : State),
    s.twinOn = true ∧ s.lead = true ∧ s.fwdMode = true ∧ r = s.rollSec ∧ r.twin.sec ≠ 0 ∧ r.twin.checkAt ≠ r.twin.sec - 1 :=
  ⟨W.secondOver.rollSec, W.secondOver, by decide +kernel⟩

theorem witness_partnerLost : ∃ (a : Nat) (s : State),
    s.twinOn = true ∧ s.bit TWN_STAT.PARTNER = true ∧ s.twin.lastHb = some a ∧ a + 12800 ≤ s.now ∧ s.hbComes none = false ∧ s.railOk 6 = true :=
  ⟨0, W.partnerGone, by decide +kernel⟩

theorem witness_pairWaitExpiry : ∃ (s : State),
    s.twinOn = true ∧ s.twSt = twPAIRING ∧ s.mode = mFORWARD ∧ max s.twin.pairAt (s.twin.lastHb.getD 0) + s.com TWN_TIMING.PAIR_WAIT_MS * msT ≤ s.now :=
  ⟨W.pairLate, by decide +kernel⟩

theorem witness_resyncDone : ∃ (s : State),
    s.follow = true ∧ s.twSt = twRESYNC ∧ s.twin.resyncing = true ∧ s.railOk 6 = true :=
  ⟨W.resynced, by decide +kernel⟩

theorem witness_relinquishTimeout : ∃ (a : Nat) (b : Option (Fin 16)) (s : State),
    s.twin.relq = some (a, b) ∧ a + 12800 ≤ s.now ∧ s.takeComes = false ∧ s.railOk 6 = true :=
  ⟨0, none, W.relqLate, by decide +kernel⟩

theorem witness_degradeHoldExpiry : ∃ (a : Nat) (s : State),
    s.twin.degrade = some a ∧ s.lead = true ∧ s.comB TWN_CFG.DEGRADE_SWITCH = true ∧ s.partnerReady = true ∧ a + s.com TWN_TIMING.DEGRADE_HOLD_MS * msT ≤ s.now ∧ s.twin.relq = none :=
  ⟨0, W.degraded, by decide +kernel⟩

theorem witness_wtrExpiry : ∃ (a : Nat) (s : State),
    s.twin.wtr = some a ∧ s.lead = true ∧ s.comB TWN_CFG.REVERTIVE = true ∧ s.partnerReady = true ∧ a + s.com TWN_CFG.WTR_S * sT ≤ s.now ∧ s.railOk 6 = true :=
  ⟨0, W.wtrOver, by decide +kernel⟩

theorem witness_heartbeatSilence : ∃ (a : Nat) (s : State),
    s.twin.sentHb = some a ∧ a + 6400 ≤ s.now :=
  ⟨0, W.hbSilent, by decide +kernel⟩

theorem witness_cmdTwnSwitch : ∃ (m : Fin 16) (ex : Exec) (s : State),
    s.accepts m 0xC01 ex = true ∧ s.plen m = 0 ∧ s.lead = true ∧ s.partnerReady = true ∧ s.fwdMode = true ∧ s.twin.relq = none :=
  ⟨0, .clean, W.post W.partnerOn 0xC01 0 [], by decide +kernel⟩

theorem witness_cmdTwnSwitch_2 : ∃ (m : Fin 16) (ex : Exec) (s : State),
    s.accepts m 0xC01 ex = true ∧ s.plen m = 0 ∧ s.lead = true ∧ s.partnerReady = true ∧ s.fwdMode = true ∧ s.twin.relq = none :=
  ⟨0, .retried, W.post W.partnerOn 0xC01 0 [], by decide +kernel⟩

theorem witness_cmdTwnTableAdopt : ∃ (m : Fin 16) (ex : Exec) (s : State),
    s.accepts m 0xC02 ex = true ∧ s.plen m = 16 ∧ s.pay m 1 3 = 0 ∧ s.pay m 4 4 ≠ 0 ∧ tableIds.contains (s.pay m 0 1) = true ∧ s.pay m 4 4 ≤ tableMax (s.pay m 0 1) ∧ s.pay m 8 8 % 64 = 0 ∧ s.lead = true ∧ s.rd MBX_DT_BIND.ENTRY_COUNT (s.pay m 0 1) = s.pay m 4 4 ∧ s.fwdMode = true :=
  ⟨0, .clean, W.post W.adopt 0xC02 0 [0x30, 0, 0, 0, 1, 0, 0, 0, 0, 0, 0, 0, 0, 0, 0, 0], by decide +kernel⟩

theorem witness_cmdTwnTableAdopt_2 : ∃ (m : Fin 16) (ex : Exec) (s : State),
    s.accepts m 0xC02 ex = true ∧ s.plen m = 16 ∧ s.pay m 1 3 = 0 ∧ s.pay m 4 4 ≠ 0 ∧ tableIds.contains (s.pay m 0 1) = true ∧ s.pay m 4 4 ≤ tableMax (s.pay m 0 1) ∧ s.pay m 8 8 % 64 = 0 ∧ s.lead = true ∧ s.rd MBX_DT_BIND.ENTRY_COUNT (s.pay m 0 1) = s.pay m 4 4 ∧ s.fwdMode = true :=
  ⟨0, .retried, W.post W.adopt 0xC02 0 [0x30, 0, 0, 0, 1, 0, 0, 0, 0, 0, 0, 0, 0, 0, 0, 0], by decide +kernel⟩

theorem witness_cmdTwnResync : ∃ (m : Fin 16) (ex : Exec) (s : State),
    s.accepts m 0xC03 ex = true ∧ s.plen m = 0 ∧ s.lead = true ∧ s.partnerPairs = true ∧ s.fwdMode = true :=
  ⟨0, .clean, W.post W.pairedLead 0xC03 0 [], by decide +kernel⟩

theorem witness_cmdTwnResync_2 : ∃ (m : Fin 16) (ex : Exec) (s : State),
    s.accepts m 0xC03 ex = true ∧ s.plen m = 0 ∧ s.lead = true ∧ s.partnerPairs = true ∧ s.fwdMode = true :=
  ⟨0, .retried, W.post W.pairedLead 0xC03 0 [], by decide +kernel⟩

/-! ### Tests: expected values from the spec's text and examples -/

/-- The check string of the CRC catalogue, with the check values of its CRC-8, CRC-32C and CRC-32 (R171, R209, R5). -/
def W.digits : List Byte := [0x31, 0x32, 0x33, 0x34, 0x35, 0x36, 0x37, 0x38, 0x39]
theorem test_crc8 : crc8 W.digits = 0xF4 := by decide +kernel
theorem test_crc32c : crc32c W.digits = 0xE3069283 := by decide +kernel
theorem test_fcs : fcs W.digits = 0xCBF43926 := by decide +kernel
/-- The worked example of R156: checksum 0x1C46, words 0x0003 0x2000 become 0x0554 0xE000. -/
theorem test_checksum_example : csumUpdate 0x1C46 [0x00, 0x03, 0x20, 0x00] [0x05, 0x54, 0xE0, 0x00] = 0x56F4 := by decide +kernel
/-- The worked example of chapter 9: one slot of 192 and of 256 rate units. -/
theorem test_slot_budget : slotCap 1 192 = 35264 ∧ slotCap 1 256 = 47104 := by decide
/-- R344: with the reset fibre parameters 1,529 nm and 1,611 nm lie 1,448.12 ps/km apart (carriers to the MHz). -/
theorem test_fibre_delay : (1448 : Rat) < State.reset.tau 0 186090911 - State.reset.tau 0 196070934 ∧
    State.reset.tau 0 186090911 - State.reset.tau 0 196070934 < (14483 / 10 : Rat) := by decide +kernel
/-- The worked example of chapter 13: DIV_M1 249 is a period of 100 ns (here in fifths of 2^-40 ns). -/
theorem test_clock_period : ((W.cfg SYN_CKO_DIV.DIV_M1 3 249 W.tk).ckoTiming 3).p5 = 500 * 2 ^ 40 := by decide +kernel
/-- The register index: PWR_TEMP_THR has WARN 85 degrees and CRIT 95 degrees in 1/16 degree. -/
theorem test_reset_temp_thr : State.reset.rd PWR_TEMP_THR.WARN = 85 * 16 ∧ State.reset.rd PWR_TEMP_THR.CRIT = 95 * 16 := by
  decide +kernel
/-- R304: the nominal increment. -/
theorem test_nominal_increment : tickU = 687194767360 := by decide
/-- R448: in DORMANT a 40 ns period of 64 ticks stands for one tick. -/
theorem test_idle_ticks : State.reset.idle.now = 64 ∧ W.tk.idle.now = 1 := by decide +kernel
theorem test_no_word_spells : decodeTableWord 8 0xFF = none ∧ State.reset.withFetchWord 8 0xFF = State.reset := ⟨rfl, rfl⟩

/-- What a command answers, as a state (the state before, where it stops). -/
def W.after (c : Instr) (s : State) : State :=
  match exec c s with
  | .next t => t
  | _ => s
/-- R99: a doorbell posts an IDLE mailbox, and only the mailboxes it names. -/
theorem test_doorbell : (W.after (.doorbell 2) W.tk).mst 1 = mPOSTED ∧ (W.after (.doorbell 2) W.tk).mst 0 = mIDLE := by
  decide +kernel
/-- R98, R103: CMD_NOP shows DONE with ST_OK. -/
theorem test_nop : (W.after (.cmdNop 0 .clean) (W.post W.tk 1 0 [])).mst 0 = mDONE ∧
    (W.after (.cmdNop 0 .clean) (W.post W.tk 1 0 [])).mf 0 8 2 = ST_OK := by decide +kernel
/-- R104: a NOP with a payload has a bad length. -/
theorem test_nop_length : (W.after (.cmdNop 0 .clean) (W.post W.tk 1 0 [0])).mf 0 8 2 = ST_BAD_LENGTH := by decide +kernel
/-- R74: WARMUP is refused in FORWARD. -/
theorem test_mode_refused : (W.after (.modeRequest 1 false) W.fwd).rd PWR_MODE_STAT.REFUSED = 1 ∧
    (W.after (.modeRequest 1 false) W.fwd).rd PWR_MODE_CTL.REQ_MODE = mFORWARD := by decide +kernel
/-- R12: its own example, GO at 1 and WHEN at 0b11 starts no commit. -/
theorem test_reserved_when : (W.after (.commitGo 7) W.go).gr.commits = [] ∧
    (W.after (.commitGo 7) W.go).raised EV.EVT_RESERVED_ENC = true := by decide +kernel
/-- R10: writing 1 clears a W1C bit and writing 0 leaves it. -/
theorem test_w1c : (W.after (.registerWrite false (BitVec.ofNat 32 (R.PWR_EVT_STAT.at 0)) 4 1)
    ((W.fwd.setReg R.PWR_EVT_STAT 0 3))).reg R.PWR_EVT_STAT 0 = 2 := by decide +kernel
/-- R48: a pulse of 0.9 us or shorter never resets, one of 1.1 us or longer does. -/
theorem test_reset_pulse : (W.after (.resetPin 900) W.fwd).mode = mFORWARD ∧ (W.after (.resetPin 1100) W.fwd).mode = mDORMANT := by
  decide +kernel
/-- R167: three good codewords in sequence give lock, the last two of three alone do not. -/
theorem test_codeword_lock : (W.after (.codewordLock ⟨0, 0, [true, true, true]⟩) (W.car cLOCK)).cst 0 = cHANDSHAKE ∧
    (W.after (.codewordLock ⟨0, 0, [false, true, true]⟩) (W.car cLOCK)).cst 0 = cLOCK := by decide +kernel
/-- R149: a class that has left XOFF since the last frame, and one that entered and left it between two frames, are in the
vector; another is not. -/
theorem test_pfc_vector : ((W.cfg PRT_PFC_CFG.TX_EN 0 0xFF (W.cfg PRT_CFG.FC_MODE 0 2 W.pfc)).updPort 0
    fun p => { p with left := 4 }).pfcVector 0 = 5 := by decide +kernel
/-- R436: a trace whose last pulse is over answers at the end of its tick. -/
theorem test_trace_end : (W.job W.tk (.trace 0 0 5 3 false)).idle.mst 0 = mDONE ∧
    (W.job W.tk (.trace 0 (10 * secU) 5 3 false)).idle.mst 0 = mRUNNING := by decide +kernel
/-- R493: no endpoint, no effect. -/
theorem test_no_link : (W.after (.doorbell 1) State.reset).mst 0 = mIDLE := by decide +kernel

/-- R168: the check symbols make a codeword a multiple of the generator, so it vanishes at a^0 to a^29 (Clause 91). -/
def W.evalAt (x : Nat) (l : List Nat) : Nat := l.foldl (fun r c => Nat.xor (gfMul r x) c) 0
theorem test_rs_parity : ((List.range 30).all fun i => W.evalAt (gfPow i) ([5, 1023, 600] ++ rsParity [5, 1023, 600]) = 0) = true := by
  decide +kernel
/-- R168: what one scrambler has scrambled, a descrambler in its state gives back (Clause 49). -/
theorem test_scrambler : (descrambleBits [true, false, true] (scrambleBits [true, false, true] (W.digits.flatMap byteBits)).1).1 =
    W.digits.flatMap byteBits := by decide +kernel
/-- R167: a grain is 8 blocks of 257 bits, H = 1 on the first alone. -/
theorem test_grain_blocks : ((grainBlocks W.tgrain).map Block.h) = true :: List.replicate 7 false ∧
    (sendBlocks [] (grainBlocks (List.replicate 256 0))).1.length = 2056 := by decide +kernel
/-- R68: version 0x2, part number 0x9640, manufacturer field 0x537 and bit 0 of the IDCODE. -/
theorem test_idcode : tapIdcode.toNat = 0x2 * 2 ^ 28 + 0x9640 * 2 ^ 12 + 0x537 * 2 + 1 := by decide
/-- R62: an unpowered module pulls PGOOD to GND with 10 kOhm and TRIG with 100 kOhm, and drives no lane. -/
theorem test_pins_unpowered : OutPin.pgood.unpowered = .pullDown 10 ∧ (OutPin.trig 0).unpowered = .pullDown 100 ∧
    (OutPin.lane 0).unpowered = .undriven := by decide
/-- R62: in ISOLATE a clock output rests with P low and N high. -/
theorem test_pins_isolate : (W.at 0xF0 mISOLATE).drive (.cko 0 false) = .level false ∧
    (W.at 0xF0 mISOLATE).drive (.cko 0 true) = .level true := by decide +kernel

/-! ### Operands that cannot exist are refused by `Instr.wf` -/

theorem test_wf_registerWrite : (Instr.registerWrite false 0 0 0).wf = false ∧ (Instr.registerWrite false 0 9 0).wf = false := by decide
theorem test_wf_mailboxWrite : (Instr.mailboxWrite 0 []).wf = false := by decide
theorem test_wf_entryFetchDone : (Instr.entryFetchDone 0x30 .good []).wf = false := by decide
theorem test_wf_receiveFrame : (Instr.receiveFrame 0 .frame [] false false ⟨0, 1024⟩).wf = false := by decide
theorem test_wf_receiveFragment : (Instr.receiveFragment 0 .start true [] true false ⟨0, 1024⟩).wf = false := by decide
theorem test_wf_egressFrameStart : (Instr.egressFrameStart 0 ⟨0, 1024⟩).wf = false := by decide
theorem test_wf_grainSlot : (Instr.grainSlot 0 ⟨0, 1024⟩).wf = false := by decide
theorem test_wf_dataGrain : (Instr.dataGrainReceived 0 [0] 8 false 0 ⟨0, 0, 0⟩).wf = false := by decide
theorem test_wf_timingGrain : (Instr.timingGrainReceived 0 [0] ⟨false, 0, 0, 0, 0⟩ ⟨0, 0⟩).wf = false ∧
    (Instr.timingGrainReceived 0 (List.replicate 256 0) ⟨false, 0, 0, 0, 0⟩ ⟨0, 1024⟩).wf = false := by decide +kernel
theorem test_wf_refinEdge : (Instr.refinEdge 0 false ⟨0, 1024⟩).wf = false := by decide
theorem test_wf_heartbeat : (Instr.heartbeatReceived 0 [0] ⟨0, 0⟩).wf = false ∧
    (Instr.heartbeatReceived 0 (List.replicate 256 0) ⟨0, 1024⟩).wf = false := by decide +kernel
theorem test_wf_mirrorMessage : (Instr.mirrorMessageReceived 0 [0]).wf = false := by decide
theorem test_wf_cellTest : (Instr.cmdGrnCellTest 0 .clean [1, 1]).wf = false := by decide
theorem test_wf_binCal : (Instr.binCalDone [0] []).wf = false := by decide
theorem test_wf_retryResult : (Instr.retryResult (.buffer 0 655360) .corrected .none).wf = false ∧
    (Instr.retryResult (.siloPage 25022464) .corrected .none).wf = false ∧
    (Instr.retryResult (.metaPage 0 [25022464]) .corrected .none).wf = false := by decide
theorem test_wf_accepts : (Instr.registerWrite false 0 8 0).wf = true ∧ (Instr.mailboxWrite 0 [0]).wf = true ∧
    (Instr.receiveFrame 0 .frame [] false false ⟨0, 1023⟩).wf = true ∧
    (Instr.mirrorMessageReceived 0 (List.replicate 256 0)).wf = true := by decide +kernel

end Sys2Proof.Tests
end

section
/-! PROOFS. Every command that can be sent answers a next state; what a step may change; runs never stop (O47, O58, O60). -/
namespace Sys2Proof.Machine

/-! ### Outcomes -/

/-- The outcome is a next state. -/
def Answers (r : Res) : Prop := ∃ t, r = .next t

theorem answers_fin (s : State) : Answers (fin s) := ⟨_, rfl⟩

/-- A guard that faults for an ill-formed unit passes a well-formed one. -/
theorem answers_guard {c : Prop} [Decidable c] {f : Fault} {r : Res} (hc : ¬c) (h : Answers r) :
    Answers (if c then .fault f else r) := by
  rwa [if_neg hc]

theorem grain_length {bytes : List Byte} (h : isGrain bytes = true) : ¬ bytes.length ≠ 256 := by
  simpa [isGrain] using h

/-! ### Commands with a guard, and those that branch on a value computed before (R14, R170, R185, R459) -/

theorem execEntryFetchDone_answers (t : BitVec 8) (r : Fetch) (bytes : List Byte) (s : State)
    (h : (Instr.entryFetchDone t r bytes).wf = true) : Answers (execEntryFetchDone t r bytes s) := by
  have hb : r ≠ .lasting → ¬ bytes.length ≠ 64 := by
    simpa [Instr.wf, or_iff_not_imp_left] using h
  unfold execEntryFetchDone
  extract_lets n
  split
  · exact answers_fin _
  · split
    · exact answers_fin _
    · cases r with
      | lasting => exact answers_fin _
      | transient => exact answers_guard (hb (by decide)) (answers_fin _)
      | good => exact answers_guard (hb (by decide)) (answers_fin _)

theorem execDataGrainReceived_answers (c : Fin 128) (bytes : List Byte) (blocks : Nat) (badFec : Bool) (strays : Nat)
    (fec : FecCounts) (s : State) (h : isGrain bytes = true) :
    Answers (execDataGrainReceived c bytes blocks badFec strays fec s) := by
  unfold execDataGrainReceived
  repeat' first
    | (with_reducible exact answers_fin _) | (with_reducible refine answers_guard (grain_length h) ?_)
    | extract_lets | split

theorem execTimingGrainReceived_answers (c : Fin 128) (bytes : List Byte) (e : GrainErrors) (rx : Inst) (s : State)
    (h : isGrain bytes = true) : Answers (execTimingGrainReceived c bytes e rx s) := by
  unfold execTimingGrainReceived
  repeat' first
    | (with_reducible exact answers_fin _) | (with_reducible refine answers_guard (grain_length h) ?_)
    | extract_lets | split

theorem execHeartbeatReceived_answers (lane : Fin 4) (bytes : List Byte) (rx : Inst) (s : State)
    (h : isGrain bytes = true) : Answers (execHeartbeatReceived lane bytes rx s) := by
  unfold execHeartbeatReceived
  refine answers_guard (grain_length h) ?_
  repeat' first | (with_reducible exact answers_fin _) | extract_lets | split

theorem execMirrorMessageReceived_answers (lane : Fin 4) (bytes : List Byte) (s : State) (h : isGrain bytes = true) :
    Answers (execMirrorMessageReceived lane bytes s) := by
  unfold execMirrorMessageReceived
  refine answers_guard (grain_length h) ?_
  repeat' first | (with_reducible exact answers_fin _) | split

theorem execReceiveFragment_answers (p : Fin 256) (k : FragKind) (last : Bool) (bytes : List Byte)
    (mcrcOk codeErr : Bool) (i : Inst) (s : State) :
    Answers (execReceiveFragment p k last bytes mcrcOk codeErr i s) := by
  unfold execReceiveFragment
  generalize (s.port p).asm = old
  cases k <;> cases old <;>
    repeat' first | (with_reducible exact answers_fin _) | extract_lets | split

theorem execSheafEgressDecision_answers (h : Fin 32) (s : State) : Answers (execSheafEgressDecision h s) := by
  unfold execSheafEgressDecision
  extract_lets x a w sh
  clear_value w
  repeat' first | (with_reducible exact answers_fin _) | extract_lets | split

/-! ### Every command, by chapter: a meaning ends in `fin`, on each of its branches -/

/-- Power, reset, SMBus, modes, clocks and boot (chapter 2): every command answers a next state. -/
theorem module_answers (i : Instr) (s : State) (hc : i.chapter = 2) :
    Answers (exec i s) := by
  cases i with
  | smbClockLowTimeout | tapReset | oldRailsOff => exact answers_fin _
  | feedConnect | feedDisconnect | rideThroughEnd | chargeComplete | powerOnReset | railRampTimeout |
    railLeavesRegulation | tempEstimate | feedMonitorUpdate | resetPin | softwareModuleReset | softwareSwitchReset |
    grangeWatchdogReset | pcieFundamentalReset | smbRegisterWrite | smbRegisterRead | smbAlertResponse |
    tapInstruction | modeRequest | ocxoHoldWarmWrite | transitionComplete | warmupToTimekeep | ocxoWarmSet |
    ocxoWarmClear | mdllLock | lanePowered | bootCheckDone | registerWrite | d2dTransferFail =>
    dsimp only [exec]
    delta execFeedConnect execFeedDisconnect execRideThroughEnd execChargeComplete execPowerOnReset
      execRailRampTimeout execRailLeavesRegulation execTempEstimate execFeedMonitorUpdate execResetPin
      execSoftwareModuleReset execSoftwareSwitchReset execGrangeWatchdogReset execPcieFundamentalReset
      execSmbRegisterWrite execSmbRegisterRead execSmbAlertResponse execTapInstruction execModeRequest
      execOcxoHoldWarmWrite execTransitionComplete execWarmupToTimekeep execOcxoWarmSet execOcxoWarmClear execMdllLock
      execLanePowered execBootCheckDone execRegisterWrite execD2dTransferFail
    repeat' first | (with_reducible exact answers_fin _) | extract_lets | split
  | _ => cases hc

/-- The Grange (chapter 4): every command answers a next state. -/
theorem grange_answers (i : Instr) (s : State) (hc : i.chapter = 4) (hw : i.wf = true) :
    Answers (exec i s) := by
  cases i with
  | cmdIdentify | cmdFence | cmdTableBind | cmdTableSync | cmdTableRead | cmdCommit | cmdConfigSave | cmdConfigRestore
    | cmdImageDownload | cmdImageActivate => exact answers_fin _
  | entryFetchDone t r bytes =>
    exact execEntryFetchDone_answers t r bytes s hw
  | doorbell | mailboxWrite | fencedCommandStart | cmdNop | fenceRelease | fenceTimeout | commitGo | commitDiscard |
    commitCheckDone | commitApplyAt | commitApplyBoundary | committedViewWrite | tableNotify | msixUnmask |
    flashOperationDone | loReadLatch =>
    dsimp only [exec]
    delta execDoorbell execMailboxWrite execFencedCommandStart execCmdNop execFenceRelease execFenceTimeout
      execCommitGo execCommitDiscard execCommitCheckDone execCommitApplyAt execCommitApplyBoundary
      execCommittedViewWrite execTableNotify execMsixUnmask execFlashOperationDone execLoReadLatch
    repeat' first | (with_reducible exact answers_fin _) | extract_lets | split
  | _ => cases hc

/-- Client ports (chapter 5): every command answers a next state. -/
theorem ports_answers (i : Instr) (s : State) (hc : i.chapter = 5) :
    Answers (exec i s) := by
  cases i with
  | pauseTakesEffect | cmdPrtCountersRead | cmdPrtOptXfer => exact answers_fin _
  | receiveFragment p k last bytes mcrcOk codeErr inst =>
    exact execReceiveFragment_answers p k last bytes mcrcOk codeErr inst s
  | signalDetect | adaptDone | alignLock | attemptTimeout | upDebounceExpiry | portLinkFault | glitch |
    downDebounceExpiry | fecDegradeWindow | receiveFrame | pauseTimerExpiry | pfcFrameSend | pfcRepeat | verifyTimeout
    | optIntEdge | tallyFold =>
    dsimp only [exec]
    delta execSignalDetect execAdaptDone execAlignLock execAttemptTimeout execUpDebounceExpiry execPortLinkFault
      execGlitch execDownDebounceExpiry execFecDegradeWindow execReceiveFrame execPauseTimerExpiry execPfcFrameSend
      execPfcRepeat execVerifyTimeout execOptIntEdge execTallyFold
    repeat' first | (with_reducible exact answers_fin _) | extract_lets | split
  | _ => cases hc

/-- The Sheaf line interface (chapter 6): every command answers a next state. -/
theorem sheaf_answers (i : Instr) (s : State) (hc : i.chapter = 6) (hw : i.wf = true) :
    Answers (exec i s) := by
  cases i with
  | cmdShfCarrierOp | cmdShfCountersRead => exact answers_fin _
  | dataGrainReceived c bytes blocks badFec strays fec =>
    exact execDataGrainReceived_answers c bytes blocks badFec strays fec s hw
  | timingGrainReceived c bytes e rx =>
    exact execTimingGrainReceived_answers c bytes e rx s (Bool.and_eq_true_iff.1 hw).1
  | codewordLock | codewordLockLost | grainSlot | grainLossTimeout | syncWaitExpiry | keepaliveExpiry |
    carrierAttemptTimeout | parkLossWaitExpiry | carrierOpTimeout =>
    dsimp only [exec]
    delta execCodewordLock execCodewordLockLost execGrainSlot execGrainLossTimeout execSyncWaitExpiry
      execKeepaliveExpiry execCarrierAttemptTimeout execParkLossWaitExpiry execCarrierOpTimeout
    repeat' first | (with_reducible exact answers_fin _) | extract_lets | split
  | _ => cases hc

/-- The forwarding core (chapter 7): every command answers a next state. -/
theorem forwarding_answers (i : Instr) (s : State) (hc : i.chapter = 7) :
    Answers (exec i s) := by
  cases i with
  | reaperVisit | cmdFwdCountersRead | cmdFwdQueueStat | cmdFwdFlush => exact answers_fin _
  | installResume | egressFrameStart | pipelineFrame | bucketReadDone | planeCrossing | planeDrainEnd | linkHoldExpiry =>
    dsimp only [exec]
    delta execInstallResume execEgressFrameStart execPipelineFrame execBucketReadDone execPlaneCrossing
      execPlaneDrainEnd execLinkHoldExpiry
    repeat' first | (with_reducible exact answers_fin _) | extract_lets | split
  | _ => cases hc

/-- The Granary (chapter 8): every command answers a next state. -/
theorem granary_answers (i : Instr) (s : State) (hc : i.chapter = 8) :
    Answers (exec i s) := by
  cases i with
  | cmdGrnCountersRead | cmdGrnCellTest | cmdGrnSweep => exact answers_fin _
  | txFrameComplete | spillWriteDone | recallPageReadDone | siloCacheRefill | gleanerSweep =>
    dsimp only [exec]
    delta execTxFrameComplete execSpillWriteDone execRecallPageReadDone execSiloCacheRefill execGleanerSweep
    repeat' first | (with_reducible exact answers_fin _) | extract_lets | split
  | _ => cases hc

/-- The Almanac (chapter 9): every command answers a next state. -/
theorem almanac_answers (i : Instr) (s : State) (hc : i.chapter = 9) :
    Answers (exec i s) := by
  cases i with
  | cmdAlmCountersRead | cmdAlmBankCheck | cmdAlmRealign => exact answers_fin _
  | sheafEgressDecision h =>
    exact execSheafEgressDecision_answers h s
  | slewResidueZero | windowEnd =>
    dsimp only [exec]
    delta execSlewResidueZero execWindowEnd
    repeat' first | (with_reducible exact answers_fin _) | extract_lets | split
  | _ => cases hc

/-- Time bases (chapter 10): every command answers a next state. -/
theorem timeBases_answers (i : Instr) (s : State) (hc : i.chapter = 10) :
    Answers (exec i s) := by
  cases i with
  | cmdTbsAdjust | cmdTbsSet | cmdTbsReportBind | cmdTbsCountersRead => exact answers_fin _
  | hostTimeoutExpiry | adjustApply | snapshot | rptConsWrite | triggerPulse | triggerPulseEnd =>
    dsimp only [exec]
    delta execHostTimeoutExpiry execAdjustApply execSnapshot execRptConsWrite execTriggerPulse execTriggerPulseEnd
    repeat' first | (with_reducible exact answers_fin _) | extract_lets | split
  | _ => cases hc

/-- Time transfer (chapter 11): every command answers a next state. -/
theorem timeTransfer_answers (i : Instr) (s : State) (hc : i.chapter = 11) :
    Answers (exec i s) := by
  cases i with
  | ttWindowEnd | tcWindowEnd | cmdShfTtCarriers | cmdShfTtCountersRead => exact answers_fin _
  | measSetEntry =>
    dsimp only [exec]
    delta execMeasSetEntry
    repeat' first | (with_reducible exact answers_fin _) | extract_lets | split
  | _ => cases hc

/-- References and holdover (chapter 12): every command answers a next state. -/
theorem references_answers (i : Instr) (s : State) (hc : i.chapter = 12) :
    Answers (exec i s) := by
  cases i with
  | cmdRefForce | cmdRefGnssSend | cmdRefCountersRead | cmdRefModelClear => exact answers_fin _
  | refinEdge | refSignalTimeout | nmeaSentence | ptpSample | qualifyExpiry | requalExpiry | phaseStepApply |
    learnerRecord | holdoverUpdate | freqWordWrite | pePush | peRead | swStale | ppsoPulse | ppsoPulseEnd =>
    dsimp only [exec]
    delta execRefinEdge execRefSignalTimeout execNmeaSentence execPtpSample execQualifyExpiry execRequalExpiry
      execPhaseStepApply execLearnerRecord execHoldoverUpdate execFreqWordWrite execPePush execPeRead execSwStale
      execPpsoPulse execPpsoPulseEnd
    repeat' first | (with_reducible exact answers_fin _) | extract_lets | split
  | _ => cases hc

/-- Clock synthesis (chapter 13): every command answers a next state. -/
theorem synthesis_answers (i : Instr) (s : State) (hc : i.chapter = 13) :
    Answers (exec i s) := by
  cases i with
  | cmdSynRampStart | cmdSynRampStop => exact answers_fin _
  | lockLost | rampUpdate | ckoOutputStart | ckoSwitchEdge | ckoStepEdge =>
    dsimp only [exec]
    delta execLockLost execRampUpdate execCkoOutputStart execCkoSwitchEdge execCkoStepEdge
    repeat' first | (with_reducible exact answers_fin _) | extract_lets | split
  | _ => cases hc

/-- Interval measurement (chapter 14): every command answers a next state. -/
theorem measurement_answers (i : Instr) (s : State) (hc : i.chapter = 14) :
    Answers (exec i s) := by
  cases i with
  | cmdTdcRun | cmdTdcStop | cmdTdcBinCal => exact answers_fin _
  | tdcArm | tdcEdge | tdcTimeout | tdcResultLatch | tdcResultRemove | tdcBinDataAccess | binCalDone =>
    dsimp only [exec]
    delta execTdcArm execTdcEdge execTdcTimeout execTdcResultLatch execTdcResultRemove execTdcBinDataAccess
      execBinCalDone
    repeat' first | (with_reducible exact answers_fin _) | extract_lets | split
  | _ => cases hc

/-- Calibration (chapter 15): every command answers a next state. -/
theorem calibration_answers (i : Instr) (s : State) (hc : i.chapter = 15) :
    Answers (exec i s) := by
  cases i with
  | cmdCalTrace | cmdCalFreq => exact answers_fin _
  | pathMeasured | calRunDone | trimRampStep | ocxoRetuneStep | calPathTrimAccess | calFreqIntervalEnd =>
    dsimp only [exec]
    delta execPathMeasured execCalRunDone execTrimRampStep execOcxoRetuneStep execCalPathTrimAccess
      execCalFreqIntervalEnd
    repeat' first | (with_reducible exact answers_fin _) | extract_lets | split
  | _ => cases hc

/-- Integrity and events (chapter 16): every command answers a next state. -/
theorem integrity_answers (i : Instr) (s : State) (hc : i.chapter = 16) :
    Answers (exec i s) := by
  cases i with
  | logRecordEntry | cmdEvtLogRead | cmdEvtSpareReport => exact answers_fin _
  | retryResult | d2dReset | replicaReload | logLatch | logRemove | vectorRearm =>
    dsimp only [exec]
    delta execRetryResult execD2dReset execReplicaReload execLogLatch execLogRemove execVectorRearm
    repeat' first | (with_reducible exact answers_fin _) | extract_lets | split
  | _ => cases hc

/-- The twin pair (chapter 17): every command answers a next state. -/
theorem twin_answers (i : Instr) (s : State) (hc : i.chapter = 17) (hw : i.wf = true) :
    Answers (exec i s) := by
  cases i with
  | cmdTwnSwitch | cmdTwnTableAdopt | cmdTwnResync | cmdTwnCountersRead => exact answers_fin _
  | heartbeatReceived lane bytes rx =>
    exact execHeartbeatReceived_answers lane bytes rx s (Bool.and_eq_true_iff.1 hw).1
  | mirrorMessageReceived lane bytes =>
    exact execMirrorMessageReceived_answers lane bytes s hw
  | heartbeatSend | messageLossTimeout | partnerLost | laneDown | pairWaitExpiry | txnApply | resyncDone |
    relinquishTimeout | degradeHoldExpiry | wtrExpiry | heartbeatSilence | carrierMessageSend | countMessageSend |
    checkMessageSend =>
    dsimp only [exec]
    delta execHeartbeatSend execMessageLossTimeout execPartnerLost execLaneDown execPairWaitExpiry execTxnApply
      execResyncDone execRelinquishTimeout execDegradeHoldExpiry execWtrExpiry execHeartbeatSilence
      execCarrierMessageSend execCountMessageSend execCheckMessageSend
    repeat' first | (with_reducible exact answers_fin _) | extract_lets | split
  | _ => cases hc

/-- The chapters that give commands. -/
theorem chapter_mem (i : Instr) : i.chapter ∈ [2, 4, 5, 6, 7, 8, 9, 10, 11, 12, 13, 14, 15, 16, 17] := by
  cases i <;> exact List.mem_of_elem_eq_true rfl

/-- A command that can be sent answers a next state in every state. -/
theorem exec_answers (i : Instr) (s : State) (hw : i.wf = true) : Answers (exec i s) := by
  have hc := chapter_mem i
  simp only [List.mem_cons, List.not_mem_nil, or_false] at hc
  rcases hc with hc | hc | hc | hc | hc | hc | hc | hc | hc | hc | hc | hc | hc | hc | hc
  · exact module_answers i s hc
  · exact grange_answers i s hc hw
  · exact ports_answers i s hc
  · exact sheaf_answers i s hc hw
  · exact forwarding_answers i s hc
  · exact granary_answers i s hc
  · exact almanac_answers i s hc
  · exact timeBases_answers i s hc
  · exact timeTransfer_answers i s hc
  · exact references_answers i s hc
  · exact synthesis_answers i s hc
  · exact measurement_answers i s hc
  · exact calibration_answers i s hc
  · exact integrity_answers i s hc
  · exact twin_answers i s hc hw

/-! ### What a command and a step may change -/

/-- A command changes nothing outside its scope. -/
theorem exec_bounds (i : Instr) (s : State) : Bounds i.scope s (exec i s) :=
  match i with
  | .feedConnect f volt => execFeedConnect_bounds f volt s
  | .feedDisconnect f overV load => execFeedDisconnect_bounds f overV load s
  | .rideThroughEnd => execRideThroughEnd_bounds s
  | .chargeComplete f => execChargeComplete_bounds f s
  | .powerOnReset straps => execPowerOnReset_bounds straps s
  | .railRampTimeout r => execRailRampTimeout_bounds r s
  | .railLeavesRegulation r => execRailLeavesRegulation_bounds r s
  | .tempEstimate caseT dieMax => execTempEstimate_bounds caseT dieMax s
  | .feedMonitorUpdate va ca vb cb revA revB => execFeedMonitorUpdate_bounds va ca vb cb revA revB s
  | .resetPin lowNs => execResetPin_bounds lowNs s
  | .softwareModuleReset data => execSoftwareModuleReset_bounds data s
  | .softwareSwitchReset data => execSoftwareSwitchReset_bounds data s
  | .grangeWatchdogReset => execGrangeWatchdogReset_bounds s
  | .pcieFundamentalReset low => execPcieFundamentalReset_bounds low s
  | .smbRegisterWrite count ofs data pec => execSmbRegisterWrite_bounds count ofs data pec s
  | .smbRegisterRead count ofs => execSmbRegisterRead_bounds count ofs s
  | .smbAlertResponse => execSmbAlertResponse_bounds s
  | .smbClockLowTimeout => execSmbClockLowTimeout_bounds s
  | .tapInstruction op => execTapInstruction_bounds op s
  | .tapReset => execTapReset_bounds s
  | .modeRequest mode smbus => execModeRequest_bounds mode smbus s
  | .ocxoHoldWarmWrite v => execOcxoHoldWarmWrite_bounds v s
  | .transitionComplete => execTransitionComplete_bounds s
  | .oldRailsOff => execOldRailsOff_bounds s
  | .warmupToTimekeep => execWarmupToTimekeep_bounds s
  | .ocxoWarmSet err => execOcxoWarmSet_bounds err s
  | .ocxoWarmClear err => execOcxoWarmClear_bounds err s
  | .mdllLock => execMdllLock_bounds s
  | .lanePowered lane => execLanePowered_bounds lane s
  | .bootCheckDone r => execBootCheckDone_bounds r s
  | .registerWrite bar2 ofs len data => execRegisterWrite_bounds bar2 ofs len data s
  | .d2dTransferFail retryGood => execD2dTransferFail_bounds retryGood s
  | .doorbell ring => execDoorbell_bounds ring s
  | .mailboxWrite ofs data => execMailboxWrite_bounds ofs data s
  | .fencedCommandStart m => execFencedCommandStart_bounds m s
  | .cmdNop m x => execCmdNop_bounds m x s
  | .cmdIdentify m x => execCmdIdentify_bounds m x s
  | .cmdFence m x => execCmdFence_bounds m x s
  | .fenceRelease m => execFenceRelease_bounds m s
  | .fenceTimeout m => execFenceTimeout_bounds m s
  | .cmdTableBind m x => execCmdTableBind_bounds m x s
  | .cmdTableSync m x => execCmdTableSync_bounds m x s
  | .cmdTableRead m x => execCmdTableRead_bounds m x s
  | .cmdCommit m x => execCmdCommit_bounds m x s
  | .cmdConfigSave m x => execCmdConfigSave_bounds m x s
  | .cmdConfigRestore m x => execCmdConfigRestore_bounds m x s
  | .cmdImageDownload m x => execCmdImageDownload_bounds m x s
  | .cmdImageActivate m x => execCmdImageActivate_bounds m x s
  | .commitGo w => execCommitGo_bounds w s
  | .commitDiscard w => execCommitDiscard_bounds w s
  | .commitCheckDone g => execCommitCheckDone_bounds g s
  | .commitApplyAt g => execCommitApplyAt_bounds g s
  | .commitApplyBoundary g => execCommitApplyBoundary_bounds g s
  | .committedViewWrite ofs => execCommittedViewWrite_bounds ofs s
  | .tableNotify t w => execTableNotify_bounds t w s
  | .entryFetchDone t r bytes => execEntryFetchDone_bounds t r bytes s
  | .msixUnmask v => execMsixUnmask_bounds v s
  | .flashOperationDone m x r1 r2 => execFlashOperationDone_bounds m x r1 r2 s
  | .loReadLatch ofs => execLoReadLatch_bounds ofs s
  | .signalDetect o => execSignalDetect_bounds o s
  | .adaptDone o => execAdaptDone_bounds o s
  | .alignLock p localF remoteF => execAlignLock_bounds p localF remoteF s
  | .attemptTimeout p => execAttemptTimeout_bounds p s
  | .upDebounceExpiry p => execUpDebounceExpiry_bounds p s
  | .portLinkFault p sig lock loc rem => execPortLinkFault_bounds p sig lock loc rem s
  | .glitch p => execGlitch_bounds p s
  | .downDebounceExpiry p => execDownDebounceExpiry_bounds p s
  | .fecDegradeWindow p c => execFecDegradeWindow_bounds p c s
  | .receiveFrame p k bytes codeErr cut inst => execReceiveFrame_bounds p k bytes codeErr cut inst s
  | .receiveFragment p k last bytes mcrcOk codeErr inst => execReceiveFragment_bounds p k last bytes mcrcOk codeErr inst s
  | .pauseTakesEffect p => execPauseTakesEffect_bounds p s
  | .pauseTimerExpiry p c => execPauseTimerExpiry_bounds p c s
  | .pfcFrameSend p => execPfcFrameSend_bounds p s
  | .pfcRepeat p => execPfcRepeat_bounds p s
  | .verifyTimeout p => execVerifyTimeout_bounds p s
  | .optIntEdge bus low => execOptIntEdge_bounds bus low s
  | .tallyFold => execTallyFold_bounds s
  | .cmdPrtCountersRead m x => execCmdPrtCountersRead_bounds m x s
  | .cmdPrtOptXfer m x status idx data => execCmdPrtOptXfer_bounds m x status idx data s
  | .codewordLock w => execCodewordLock_bounds w s
  | .codewordLockLost lane l => execCodewordLockLost_bounds lane l s
  | .grainSlot lane dep => execGrainSlot_bounds lane dep s
  | .dataGrainReceived c bytes blocks badFec strays fec => execDataGrainReceived_bounds c bytes blocks badFec strays fec s
  | .timingGrainReceived c bytes e rx => execTimingGrainReceived_bounds c bytes e rx s
  | .grainLossTimeout h => execGrainLossTimeout_bounds h s
  | .syncWaitExpiry h => execSyncWaitExpiry_bounds h s
  | .keepaliveExpiry c => execKeepaliveExpiry_bounds c s
  | .carrierAttemptTimeout o => execCarrierAttemptTimeout_bounds o s
  | .parkLossWaitExpiry c => execParkLossWaitExpiry_bounds c s
  | .cmdShfCarrierOp m x => execCmdShfCarrierOp_bounds m x s
  | .carrierOpTimeout m => execCarrierOpTimeout_bounds m s
  | .cmdShfCountersRead m x => execCmdShfCountersRead_bounds m x s
  | .installResume t => execInstallResume_bounds t s
  | .egressFrameStart p dep => execEgressFrameStart_bounds p dep s
  | .pipelineFrame k => execPipelineFrame_bounds k s
  | .bucketReadDone k => execBucketReadDone_bounds k s
  | .planeCrossing j => execPlaneCrossing_bounds j s
  | .planeDrainEnd => execPlaneDrainEnd_bounds s
  | .reaperVisit => execReaperVisit_bounds s
  | .linkHoldExpiry e => execLinkHoldExpiry_bounds e s
  | .cmdFwdCountersRead m x => execCmdFwdCountersRead_bounds m x s
  | .cmdFwdQueueStat m x => execCmdFwdQueueStat_bounds m x s
  | .cmdFwdFlush m x => execCmdFwdFlush_bounds m x s
  | .txFrameComplete e bad => execTxFrameComplete_bounds e bad s
  | .spillWriteDone e q bwHeld => execSpillWriteDone_bounds e q bwHeld s
  | .recallPageReadDone e q f => execRecallPageReadDone_bounds e q f s
  | .siloCacheRefill => execSiloCacheRefill_bounds s
  | .gleanerSweep => execGleanerSweep_bounds s
  | .cmdGrnCountersRead m x => execCmdGrnCountersRead_bounds m x s
  | .cmdGrnCellTest m x bad => execCmdGrnCellTest_bounds m x bad s
  | .cmdGrnSweep m x => execCmdGrnSweep_bounds m x s
  | .slewResidueZero n => execSlewResidueZero_bounds n s
  | .sheafEgressDecision h => execSheafEgressDecision_bounds h s
  | .windowEnd h => execWindowEnd_bounds h s
  | .cmdAlmCountersRead m x => execCmdAlmCountersRead_bounds m x s
  | .cmdAlmBankCheck m x => execCmdAlmBankCheck_bounds m x s
  | .cmdAlmRealign m x => execCmdAlmRealign_bounds m x s
  | .hostTimeoutExpiry n => execHostTimeoutExpiry_bounds n s
  | .adjustApply n => execAdjustApply_bounds n s
  | .snapshot data => execSnapshot_bounds data s
  | .rptConsWrite p data => execRptConsWrite_bounds p data s
  | .triggerPulse k => execTriggerPulse_bounds k s
  | .triggerPulseEnd k => execTriggerPulseEnd_bounds k s
  | .cmdTbsAdjust m x => execCmdTbsAdjust_bounds m x s
  | .cmdTbsSet m x => execCmdTbsSet_bounds m x s
  | .cmdTbsReportBind m x => execCmdTbsReportBind_bounds m x s
  | .cmdTbsCountersRead m x => execCmdTbsCountersRead_bounds m x s
  | .measSetEntry c => execMeasSetEntry_bounds c s
  | .ttWindowEnd h => execTtWindowEnd_bounds h s
  | .tcWindowEnd h => execTcWindowEnd_bounds h s
  | .cmdShfTtCarriers m x => execCmdShfTtCarriers_bounds m x s
  | .cmdShfTtCountersRead m x => execCmdShfTtCountersRead_bounds m x s
  | .refinEdge k falling inst => execRefinEdge_bounds k falling inst s
  | .refSignalTimeout k => execRefSignalTimeout_bounds k s
  | .nmeaSentence bs => execNmeaSentence_bounds bs s
  | .ptpSample => execPtpSample_bounds s
  | .qualifyExpiry j => execQualifyExpiry_bounds j s
  | .requalExpiry j => execRequalExpiry_bounds j s
  | .phaseStepApply => execPhaseStepApply_bounds s
  | .learnerRecord => execLearnerRecord_bounds s
  | .holdoverUpdate => execHoldoverUpdate_bounds s
  | .freqWordWrite w => execFreqWordWrite_bounds w s
  | .pePush => execPePush_bounds s
  | .peRead => execPeRead_bounds s
  | .swStale => execSwStale_bounds s
  | .cmdRefForce m x => execCmdRefForce_bounds m x s
  | .cmdRefGnssSend m x => execCmdRefGnssSend_bounds m x s
  | .cmdRefCountersRead m x => execCmdRefCountersRead_bounds m x s
  | .cmdRefModelClear m x => execCmdRefModelClear_bounds m x s
  | .ppsoPulse k => execPpsoPulse_bounds k s
  | .ppsoPulseEnd k => execPpsoPulseEnd_bounds k s
  | .lockLost => execLockLost_bounds s
  | .rampUpdate => execRampUpdate_bounds s
  | .ckoOutputStart k => execCkoOutputStart_bounds k s
  | .ckoSwitchEdge k => execCkoSwitchEdge_bounds k s
  | .ckoStepEdge k => execCkoStepEdge_bounds k s
  | .cmdSynRampStart m x => execCmdSynRampStart_bounds m x s
  | .cmdSynRampStop m x => execCmdSynRampStop_bounds m x s
  | .tdcArm => execTdcArm_bounds s
  | .tdcEdge ch e bin x => execTdcEdge_bounds ch e bin x s
  | .tdcTimeout => execTdcTimeout_bounds s
  | .tdcResultLatch => execTdcResultLatch_bounds s
  | .tdcResultRemove => execTdcResultRemove_bounds s
  | .tdcBinDataAccess w => execTdcBinDataAccess_bounds w s
  | .cmdTdcRun m x => execCmdTdcRun_bounds m x s
  | .cmdTdcStop m x => execCmdTdcStop_bounds m x s
  | .cmdTdcBinCal m x => execCmdTdcBinCal_bounds m x s
  | .binCalDone h0 h1 => execBinCalDone_bounds h0 h1 s
  | .pathMeasured k base noisy => execPathMeasured_bounds k base noisy s
  | .calRunDone => execCalRunDone_bounds s
  | .trimRampStep k => execTrimRampStep_bounds k s
  | .ocxoRetuneStep => execOcxoRetuneStep_bounds s
  | .calPathTrimAccess w => execCalPathTrimAccess_bounds w s
  | .cmdCalTrace m x signal loop => execCmdCalTrace_bounds m x signal loop s
  | .cmdCalFreq m x signal => execCmdCalFreq_bounds m x signal s
  | .calFreqIntervalEnd m err => execCalFreqIntervalEnd_bounds m err s
  | .retryResult p r w => execRetryResult_bounds p r w s
  | .d2dReset data trained => execD2dReset_bounds data trained s
  | .replicaReload => execReplicaReload_bounds s
  | .logRecordEntry => execLogRecordEntry_bounds s
  | .logLatch => execLogLatch_bounds s
  | .logRemove => execLogRemove_bounds s
  | .vectorRearm data => execVectorRearm_bounds data s
  | .cmdEvtLogRead m x => execCmdEvtLogRead_bounds m x s
  | .cmdEvtSpareReport m x => execCmdEvtSpareReport_bounds m x s
  | .heartbeatSend => execHeartbeatSend_bounds s
  | .heartbeatReceived lane bytes rx => execHeartbeatReceived_bounds lane bytes rx s
  | .mirrorMessageReceived lane bytes => execMirrorMessageReceived_bounds lane bytes s
  | .messageLossTimeout => execMessageLossTimeout_bounds s
  | .partnerLost => execPartnerLost_bounds s
  | .laneDown lane => execLaneDown_bounds lane s
  | .pairWaitExpiry => execPairWaitExpiry_bounds s
  | .txnApply => execTxnApply_bounds s
  | .resyncDone => execResyncDone_bounds s
  | .relinquishTimeout => execRelinquishTimeout_bounds s
  | .degradeHoldExpiry => execDegradeHoldExpiry_bounds s
  | .wtrExpiry => execWtrExpiry_bounds s
  | .heartbeatSilence => execHeartbeatSilence_bounds s
  | .carrierMessageSend => execCarrierMessageSend_bounds s
  | .countMessageSend => execCountMessageSend_bounds s
  | .checkMessageSend => execCheckMessageSend_bounds s
  | .cmdTwnSwitch m x => execCmdTwnSwitch_bounds m x s
  | .cmdTwnTableAdopt m x => execCmdTwnTableAdopt_bounds m x s
  | .cmdTwnResync m x => execCmdTwnResync_bounds m x s
  | .cmdTwnCountersRead m x => execCmdTwnCountersRead_bounds m x s

theorem gives_within {i : Instr} {s t : State} (h : Gives i s t) : Within i.scope s t :=
  (exec_bounds i s).within t h

theorem State.idle_pending (s : State) : s.idle.pending = s.pending := s.endTick_within.pending

/-- A step takes one command off the queue and adds none. -/
theorem step_pending {s t : State} (h : step s = .next t) : t.pending = s.pending.tail := by
  unfold step at h
  split at h
  next hs =>
    cases h
    rw [State.idle_pending, hs, List.tail_nil]
  next c rest hs =>
    rw [(gives_within (i := c) h).pending, hs, List.tail_cons]

theorem step_keeps_queueWf {s t : State} (hq : s.queueWf) (h : step s = .next t) : t.queueWf := by
  intro c hc
  rw [step_pending h] at hc
  exact hq c (List.mem_of_mem_tail hc)

theorem step_answers {s : State} (hq : s.queueWf) : Answers (step s) := by
  unfold step
  split
  next => exact ⟨_, rfl⟩
  next c rest hs => exact exec_answers c _ (hq c (hs ▸ List.mem_cons_self))

/-! ### The obligations -/

/-- Settles O58: by chapter, each meaning ends in `fin` on every branch that a well-formed unit can take. -/
theorem wellFormedAnswers : Obligations.WellFormedAnswers :=
  exec_answers

/-- Settles O47: the scope of every command bounds it. -/
theorem frameModule : Obligations.FrameModule :=
  fun _ _ _ _ h => gives_within h

/-- Settles O60: a step on a well-formed queue answers a next state and leaves a well-formed queue. -/
theorem runsNeverStop : Obligations.RunsNeverStop := by
  intro n
  induction n with
  | zero => exact fun _ _ => trivial
  | succ n ih =>
    intro s hq
    obtain ⟨t, ht⟩ := step_answers hq
    exact ⟨t, ht, ih t (step_keeps_queueWf hq ht)⟩

end Sys2Proof.Machine
end

section
/-! PROOFS. The register map, the access codes and a write of a register (R10-R12), for O12 and O19. -/
namespace Sys2Proof.Machine

/-! ### The register map -/

theorem Reg.inst?_at {r : Reg} {a i : Nat} (h : r.inst? a = some i) : r.at i = a ∧ i < r.count := by
  unfold Reg.inst? at h
  simp only at h
  split at h
  · cases h
  · split at h
    · rename_i hlt hc
      cases h
      have := Nat.div_add_mod (a - r.base) r.stride
      exact ⟨by unfold Reg.at; omega, hc.2⟩
    · cases h

theorem findRow_at {l : List RegRow} {a i : Nat} {row : RegRow} (h : findRow l a = some (row, i)) :
    row.reg.at i = a ∧ i < row.reg.count := by
  induction l with
  | nil => cases h
  | cons x l ih =>
    unfold findRow at h
    split at h
    · rename_i j hj
      cases h
      exact Reg.inst?_at hj
    · exact ih h

/-- The row found at an offset is one of its block, and the offset is that of the index found. -/
theorem regAt_row {a i : Nat} {row : RegRow} (h : regAt a = some (row, i)) :
    row ∈ blockRows (blockOf a) ∧ row.reg.at i = a ∧ i < row.reg.count := by
  unfold regAt at h
  split at h
  · rename_i r j he
    split at h
    · cases h
    · cases h; exact ⟨findRow_mem he, findRow_at he⟩
  · cases h

/-- Every row of the map that passes a check passes it wherever it is found. -/
theorem blockRows_all {p : RegRow → Bool} (h : ∀ b < 15, (blockRows b).all p = true) {b : Nat} {row : RegRow}
    (hr : row ∈ blockRows b) : p row = true := by
  rcases Nat.lt_or_ge b 15 with hb | hb
  · exact List.all_eq_true.1 (h b hb) row hr
  · have : blockRows b = [] := by
      unfold blockRows
      split <;> first | omega | rfl
    rw [this] at hr
    cases hr

theorem regAt_ge {a i : Nat} {row : RegRow} (h : regAt a = some (row, i)) : 0x1000000 ≤ a := by
  by_contra hlt
  have hb : blockOf a = 0xFF := by unfold blockOf; rw [if_neg (by omega), if_neg (by omega)]
  have := (regAt_row h).1
  rw [hb] at this
  cases this

/-! ### Fields -/

/-- The fields of a row lie in its word, apart from one another. -/
def RegRow.tiled (row : RegRow) : Bool := row.flds.all Fld.fits && decide (row.flds.Pairwise (fun f g => f.disjoint g = true))

theorem regAt_tiled {a i : Nat} {row : RegRow} (h : regAt a = some (row, i)) : row.tiled = true :=
  blockRows_all (by decide +kernel) (regAt_row h).1

/-- What one field of a write leaves of the word (R10). -/
def writeFld (data w : Word) (f : Fld) : Word :=
  match f.acc with
  | .rw => if f.legal (f.get data) then f.put w (f.get data) else w
  | .rwc => f.put w (f.get data)
  | .w1c => f.put w (f.get (w &&& ~~~ data))
  | _ => w

theorem writeWord_eq (flds : List Fld) (old data : Word) : writeWord flds old data = flds.foldl (writeFld data) old := rfl

theorem writeFld_get_ne {f g : Fld} (hf : f.fits = true) (hd : f.disjoint g = true) (data w : Word) :
    g.get (writeFld data w f) = g.get w := by
  have hput : ∀ v, g.get (f.put w v) = g.get w := Fld.get_put_ne f g hf hd w
  unfold writeFld
  split
  · split
    · exact hput _
    · rfl
  · exact hput _
  · exact hput _
  · rfl

theorem writeFld_get_rw {f : Fld} (hf : f.fits = true) (ha : f.acc = .rw) (data w : Word) :
    f.get (writeFld data w f) = if f.legal (f.get data) then f.get data else f.get w := by
  unfold writeFld
  rw [ha]
  dsimp only
  split
  · rw [Fld.get_put f hf, Nat.mod_eq_of_lt (Fld.get_lt f data)]
  · rfl

theorem foldl_writeFld_get {g : Fld} {l : List Fld} (hf : ∀ f ∈ l, f.fits = true) (hd : ∀ f ∈ l, f.disjoint g = true)
    (data w : Word) : g.get (l.foldl (writeFld data) w) = g.get w := by
  induction l generalizing w with
  | nil => rfl
  | cons f l ih =>
    rw [List.foldl_cons, ih (fun x hx => hf x (.tail _ hx)) (fun x hx => hd x (.tail _ hx)),
      writeFld_get_ne (hf f (.head _)) (hd f (.head _))]

theorem Fld.disjoint_comm {f g : Fld} (h : f.disjoint g = true) : g.disjoint f = true := by
  simp only [Fld.disjoint, Bool.or_eq_true, decide_eq_true_eq] at h ⊢
  exact h.symm

/-- An RW field takes a legal value and keeps its own under a reserved one (R10, R12). -/
theorem writeWord_get_rw {flds : List Fld} {f : Fld} (hfit : ∀ g ∈ flds, g.fits = true)
    (hd : flds.Pairwise (fun f g => f.disjoint g = true)) (hm : f ∈ flds) (ha : f.acc = .rw) (old data : Word) :
    f.get (writeWord flds old data) = if f.legal (f.get data) then f.get data else f.get old := by
  rw [writeWord_eq]
  induction flds generalizing old with
  | nil => cases hm
  | cons g l ih =>
    have hl : ∀ x ∈ l, x.fits = true := fun x hx => hfit x (.tail _ hx)
    obtain ⟨hg, hp⟩ := List.pairwise_cons.1 hd
    rw [List.foldl_cons]
    rcases List.mem_cons.1 hm with rfl | hm'
    · rw [foldl_writeFld_get hl (fun x hx => Fld.disjoint_comm (hg x hx)), writeFld_get_rw (hfit f (.head _)) ha]
    · rw [ih hl hp hm', writeFld_get_ne (hfit g (.head _)) (hg f hm')]

theorem regAt_writeWord_get_rw {a i : Nat} {row : RegRow} (h : regAt a = some (row, i)) {f : Fld} (hm : f ∈ row.flds)
    (ha : f.acc = .rw) (old data : Word) :
    f.get (writeWord row.flds old data) = if f.legal (f.get data) then f.get data else f.get old := by
  have ht := regAt_tiled h
  simp only [RegRow.tiled, Bool.and_eq_true, List.all_eq_true, decide_eq_true_eq] at ht
  exact writeWord_get_rw ht.1 ht.2 hm ha old data

/-! ### Rows with reserved encodings -/

/-- Some RW field of the row has reserved encodings. -/
def RegRow.coded (row : RegRow) : Bool := row.flds.any (fun f => f.acc = .rw && !f.ok.isEmpty)

theorem coded_of_badRw {row : RegRow} {data : Word} (h : badRw row.flds data = true) : row.coded = true := by
  simp only [badRw, RegRow.coded, List.any_eq_true, Bool.and_eq_true] at h ⊢
  obtain ⟨f, hm, ha, hl⟩ := h
  refine ⟨f, hm, ha, ?_⟩
  by_contra he
  simp only [Bool.not_eq_true', Bool.not_eq_false] at he
  simp [Fld.legal, he] at hl

/-- No register with reserved encodings is one that a reserved encoding, a rail or a PTP report is recorded in. -/
theorem coded_apart {a i : Nat} {row : RegRow} (h : regAt a = some (row, i)) (hc : row.coded = true) :
    State.reservedEnc_scope.spares row.reg = true ∧ Scope.spares ⟨[], [row.reg], []⟩ R.PWR_RAIL_STAT = true ∧
      row.reg ≠ R.REF_PTP_STAT := by
  have := blockRows_all (p := fun row => !row.coded || (State.reservedEnc_scope.spares row.reg &&
    Scope.spares ⟨[], [row.reg], []⟩ R.PWR_RAIL_STAT && decide (row.reg ≠ R.REF_PTP_STAT))) (by decide +kernel) (regAt_row h).1
  simp only [hc, Bool.not_true, Bool.false_or, Bool.and_eq_true, decide_eq_true_eq] at this
  exact ⟨this.1.1, this.1.2, this.2⟩

end Sys2Proof.Machine
end

section
/-! PROOFS. Reserved encodings recorded, and one write of a register of the host (R10, R12, R116, R447). -/
namespace Sys2Proof.Machine

/-! ### Events and reserved encodings -/

theorem testBit_or_two_pow (x : Word) {n : Nat} (hn : n < 32) : testBit (x ||| BitVec.ofNat 32 (2 ^ n)).toNat n = true := by
  have hp : 2 ^ n < 2 ^ 32 := Nat.pow_lt_pow_right (by decide) hn
  have : (x ||| BitVec.ofNat 32 (2 ^ n)).toNat.testBit n = true := by
    rw [BitVec.toNat_or, Nat.testBit_or, BitVec.toNat_ofNat, Nat.mod_eq_of_lt hp, Nat.testBit_two_pow_self, Bool.or_true]
  rwa [Nat.testBit_eq_decide_div_mod_eq] at this

/-- What an event adds to the log leaves every register. -/
theorem State.logAdd_reg (s : State) (p b c o : Nat) (r : Reg) (i : Nat) : (s.logAdd p b c o).reg r i = s.reg r i := by
  unfold State.logAdd
  split <;> rfl

theorem State.railOk_eq {s t : State} (hp : t.pwr = s.pwr) (hn : t.now = s.now)
    (hr : t.reg R.PWR_RAIL_STAT 0 = s.reg R.PWR_RAIL_STAT 0) (r : Nat) : t.railOk r = s.railOk r := by
  unfold State.railOk State.rampOver State.rd
  rw [show PWR_RAIL_STAT.RAIL_OK.reg = R.PWR_RAIL_STAT from rfl, hr, hp, hn]

/-- An event raised in a powered block shows in its status register. -/
theorem State.raise_raised (s : State) (e : Ev) (i : Nat) (hp : s.railOk (blockRail e.block) = true) (hb : e.bitNo < 32)
    (hi : e.inst i < e.stat.count) : (s.raise e i).raised e i = true := by
  unfold State.raised State.raise State.raiseObj
  rw [State.logAdd_reg, if_pos hp, State.reg_setReg_self _ hi]
  exact testBit_or_two_pow _ hb

/-- An access with a reserved encoding is recorded while the event block has power (R447). -/
theorem State.reservedEnc_records (s : State) (ofs : Nat) (smbus : Bool) (hp : s.railOk 4 = true) :
    (s.reservedEnc ofs smbus).raised EV.EVT_RESERVED_ENC = true ∧
      (s.reservedEnc ofs smbus).reg R.EVT_RESERVED_OFS 0 = BitVec.ofNat 32 (ofs % 2 ^ 31 + if smbus then 2 ^ 31 else 0) := by
  unfold State.reservedEnc
  rw [if_pos hp]
  generalize hw : s.setReg R.EVT_RESERVED_OFS 0 _ = u
  constructor
  · refine State.raise_raised u _ 0 ?_ (by decide) (by decide)
    rw [← hw]
    rwa [State.railOk_eq (State.setReg_pwr ..) (State.setReg_now ..) (State.reg_setReg_ne _ (by decide +kernel) ..)]
  · rw [(u.raise_within _ 0).reg_same (by decide +kernel), ← hw]
    exact State.reg_setReg_self _ (by decide) _

/-! ### Registers that keep their value -/

/-- From `s` to `t` every register but that of index `i` of `r`, and those beside it, keeps its value. -/
def State.keepsBut (s t : State) (r : Reg) (i : Nat) : Prop :=
  ∀ k, k ≠ r.at i → (∀ q ∈ r.beside, ¬ q.hits k) → ∀ d, SMap.get d t.regs k = SMap.get d s.regs k

theorem State.keepsBut.otherRegs {s t : State} {r : Reg} {i : Nat} (h : s.keepsBut t r i) : s.otherRegs t r i :=
  fun k hk hq => h k hk fun q hm ⟨n, _, he⟩ => hq q hm n he

/-- A change within the registers beside `r` leaves the others. -/
theorem Within.keepsBut {sc : Scope} {s t : State} (h : Within sc s t) {r : Reg} {i : Nat} (hb : sc.blocks = [])
    (hr : ∀ q ∈ sc.regs, q ∈ r.beside) : s.keepsBut t r i :=
  fun k _ hk d => h.reg k (fun q hq => hk q (hr q hq)) (by rw [hb]; exact List.not_mem_nil) d

theorem State.keepsBut.trans {s t u : State} {r : Reg} {i : Nat} (h : s.keepsBut t r i) (h' : t.keepsBut u r i) :
    s.keepsBut u r i :=
  fun k h1 h2 d => (h' k h1 h2 d).trans (h k h1 h2 d)

theorem State.setReg_keepsBut (s : State) (r : Reg) (i : Nat) (w : Word) : s.keepsBut (s.setReg r i w) r i := by
  intro k hk _ d
  unfold State.setReg
  split
  · exact SMap.get_set_ne _ _ _ _ hk
  · rfl

/-! ### One write of a register -/

/-- From `s` to `t` a write of `data` brought a register of index `i` to the word that the access codes leave, and a
reserved encoding in it is recorded with offset `ofs`; all else but the registers beside it is as before. -/
structure State.Wrote (s t : State) (row : RegRow) (i : Nat) (data : Word) (ofs : Nat) (smbus : Bool) : Prop where
  word : t.reg row.reg i = Machine.writeWord row.flds (s.reg row.reg i) data
  others : s.keepsBut t row.reg i
  committed : t.committed = s.committed
  mem : t.mem = s.mem
  recorded : badRw row.flds data = true → s.railOk 4 = true → t.raised EV.EVT_RESERVED_ENC = true ∧
    t.reg R.EVT_RESERVED_OFS 0 = BitVec.ofNat 32 (ofs % 2 ^ 31 + if smbus then 2 ^ 31 else 0)

theorem reservedEnc_beside (r : Reg) : ∀ q ∈ State.reservedEnc_scope.regs, q ∈ r.beside := by
  intro q hq
  unfold Reg.beside
  refine List.mem_append_left _ ?_
  revert q
  decide

/-- Writing a register with no reserved encoding in a WO field. -/
theorem State.writeReg_wrote (s : State) {a i : Nat} {row : RegRow} (hrow : regAt a = some (row, i)) {data : Word}
    (hw : badWo row.flds data = false) (ofs : Nat) (smbus : Bool) :
    s.Wrote (s.writeReg row i data ofs smbus) row i data ofs smbus := by
  obtain ⟨-, -, hi⟩ := regAt_row hrow
  unfold State.writeReg
  rw [hw]
  generalize hu : s.setReg row.reg i (Machine.writeWord row.flds (s.reg row.reg i) data) = u
  have hword : u.reg row.reg i = Machine.writeWord row.flds (s.reg row.reg i) data := by
    rw [← hu]; exact State.reg_setReg_self s hi _
  have hothers : s.keepsBut u row.reg i := by rw [← hu]; exact State.setReg_keepsBut s _ _ _
  have hcom : u.committed = s.committed := by rw [← hu, State.setReg_committed]
  have hmem : u.mem = s.mem := by rw [← hu, State.setReg_mem]
  cases hbad : badRw row.flds data with
  | false => exact ⟨hword, hothers, hcom, hmem, by simp [hbad]⟩
  | true =>
    obtain ⟨hspare, hrail, -⟩ := coded_apart hrow (coded_of_badRw hbad)
    have hres := u.reservedEnc_within ofs smbus
    have hr : u.reg R.PWR_RAIL_STAT 0 = s.reg R.PWR_RAIL_STAT 0 := by rw [← hu]; exact State.reg_setReg_ne _ hrail ..
    have hrail4 : u.railOk 4 = s.railOk 4 :=
      State.railOk_eq (by rw [← hu, State.setReg_pwr]) (by rw [← hu, State.setReg_now]) hr 4
    exact ⟨(hres.reg_same hspare i).trans hword, hothers.trans (hres.keepsBut rfl (reservedEnc_beside _)),
      (hres.part .committed (by decide)).trans hcom, (hres.part .mem (by decide)).trans hmem,
      fun _ hp => u.reservedEnc_records ofs smbus (hrail4.trans hp)⟩

/-- A change within registers beside the written one, none of them that one itself, may follow the write. -/
theorem State.Wrote.after {sc : Scope} {s t u : State} {row : RegRow} {i ofs : Nat} {data : Word} {smbus : Bool}
    (h : s.Wrote t row i data ofs smbus) (hw : Within sc t u) (hb : sc.blocks = []) (hr : ∀ q ∈ sc.regs, q ∈ row.reg.beside)
    (hrow : sc.spares row.reg = true) (hc : Part.committed ∉ sc.parts) (hm : Part.mem ∉ sc.parts)
    (he : badRw row.flds data = true → (sc.spares R.EVT_STAT && sc.spares R.EVT_RESERVED_OFS) = true) :
    s.Wrote u row i data ofs smbus where
  word := (hw.reg_same hrow i).trans h.word
  others := h.others.trans (hw.keepsBut hb hr)
  committed := (hw.part .committed hc).trans h.committed
  mem := (hw.part .mem hm).trans h.mem
  recorded hbad hp := by
    obtain ⟨hstat, hofs⟩ := Bool.and_eq_true_iff.1 (he hbad)
    obtain ⟨h1, h2⟩ := h.recorded hbad hp
    refine ⟨?_, (hw.reg_same hofs 0).trans h2⟩
    unfold State.raised at h1 ⊢
    rwa [hw.reg_same (r := EV.EVT_RESERVED_ENC.stat) hstat]

/-- Such a change may come before the write, where it leaves the rails alone. -/
theorem State.Wrote.before {sc : Scope} {s t u : State} {row : RegRow} {i ofs : Nat} {data : Word} {smbus : Bool}
    (hw : Within sc s t) (h : t.Wrote u row i data ofs smbus) (hb : sc.blocks = []) (hr : ∀ q ∈ sc.regs, q ∈ row.reg.beside)
    (hrow : sc.spares row.reg = true) (hc : Part.committed ∉ sc.parts) (hm : Part.mem ∉ sc.parts)
    (hp : Part.pwr ∉ sc.parts) (hs : sc.spares R.PWR_RAIL_STAT = true) : s.Wrote u row i data ofs smbus where
  word := by rw [h.word, hw.reg_same hrow i]
  others := State.keepsBut.trans (hw.keepsBut hb hr) h.others
  committed := h.committed.trans (hw.part .committed hc)
  mem := h.mem.trans (hw.part .mem hm)
  recorded hbad h4 := h.recorded hbad
    ((State.railOk_eq (hw.part .pwr hp) hw.now (hw.reg_same hs 0) 4).trans h4)

/-! ### The host's write of a plain register -/

/-- No register of the map without a row of its own is among those that a command's end or a snapshot may change. -/
theorem plain_spared {a i : Nat} {row : RegRow} (h : regAt a = some (row, i)) (hp : row.reg.plain = true) :
    State.settle_scope.spares row.reg = true ∧ State.resnap_scope.spares row.reg = true := by
  have := blockRows_all (p := fun row => !row.reg.plain || (State.settle_scope.spares row.reg &&
    State.resnap_scope.spares row.reg)) (by decide +kernel) (regAt_row h).1
  simpa [hp] using this

theorem settle_beside (r : Reg) : ∀ q ∈ State.settle_scope.regs, q ∈ r.beside :=
  fun q hq => List.mem_append_left _ (by revert q; decide)

theorem resnap_beside (r : Reg) : ∀ q ∈ State.resnap_scope.regs, q ∈ r.beside :=
  fun q hq => List.mem_append_left _ (by revert q; decide)

theorem noteOfs_beside : ∀ q ∈ State.noteOfs_scope.regs, q ∈ R.ALM_CFG.beside := by decide

theorem notePtp_beside : ∀ q ∈ State.notePtp_scope.regs, q ∈ R.REF_PTP_STAT.beside := by decide

theorem State.Wrote.settle {s t : State} {row : RegRow} {a i ofs : Nat} {data : Word} {smbus : Bool}
    (h : s.Wrote t row i data ofs smbus) (hrow : regAt a = some (row, i)) (hp : row.reg.plain = true) :
    s.Wrote t.settle row i data ofs smbus :=
  h.after t.settle_within rfl (settle_beside _) (plain_spared hrow hp).1 (by decide) (by decide) (fun _ => by decide +kernel)

theorem State.Wrote.resnap {s t : State} {row : RegRow} {a i ofs : Nat} {data : Word} {smbus : Bool}
    (h : s.Wrote t row i data ofs smbus) (hrow : regAt a = some (row, i)) (hp : row.reg.plain = true) :
    s.Wrote t.resnap row i data ofs smbus :=
  h.after t.resnap_within rfl (resnap_beside _) (plain_spared hrow hp).2 (by decide) (by decide) (fun _ => by decide +kernel)

/-- What the host's write of a plain register outside the always-on block does (R10, R116, R297, R360). -/
theorem State.hostWord_plain (s : State) {row : RegRow} {i a : Nat} (data : Word) (hp : row.reg.plain = true)
    (hd : blockOf a ≠ 0xD) : s.hostWord row i a data =
      let u := (((if row.reg = R.ALM_CFG then s.noteOfs else s).writeReg row i data (a % 2 ^ 32)).resnap)
      if row.reg = R.ALM_CFG then u.noteOfs else if row.reg = R.REF_PTP_STAT then u.notePtp.select else u := by
  have hne : ∀ q : Reg, q.plain = false → row.reg ≠ q := fun q hq h => by rw [h, hq] at hp; cases hp
  unfold State.hostWord
  simp only [if_neg hd, hne R.MBX_DOORBELL (by decide), hne R.MBX_COMMIT_CTL (by decide), hne R.MBX_COMMIT_GROUPS (by decide),
    hne R.MBX_DT_NOTIFY (by decide), hne R.TBS_SNAP_CTL (by decide), hne R.TBS_RPT_CONS (by decide),
    hne R.REF_FREQ_WORD (by decide), hne R.TDC_BIN_DATA (by decide), hne R.CAL_PATH_TRIM (by decide),
    hne R.CAL_PATH_BASE (by decide), hne R.EVT_REARM (by decide), if_false, decide_false, Bool.false_and, Bool.false_eq_true]

theorem State.hostWord_wrote (s : State) {row : RegRow} {i a : Nat} {data : Word} (hrow : regAt a = some (row, i))
    (hp : row.reg.plain = true) (hd : blockOf a ≠ 0xD) (hw : badWo row.flds data = false) :
    s.Wrote (s.hostWord row i a data) row i data (a % 2 ^ 32) false := by
  rw [s.hostWord_plain data hp hd]
  dsimp only
  by_cases halm : row.reg = R.ALM_CFG
  · simp only [if_pos halm]
    have h := State.Wrote.before s.noteOfs_within (s.noteOfs.writeReg_wrote hrow hw (a % 2 ^ 32) false) rfl
      (halm ▸ noteOfs_beside) (halm ▸ by decide +kernel) (by decide) (by decide) (by decide) (by decide +kernel)
    exact (h.resnap hrow hp).after (State.noteOfs_within _) rfl (halm ▸ noteOfs_beside) (halm ▸ by decide +kernel) (by decide)
      (by decide) (fun _ => by decide +kernel)
  · simp only [if_neg halm]
    have h := (s.writeReg_wrote hrow hw (a % 2 ^ 32) false).resnap hrow hp
    split
    · rename_i hptp
      have hno : badRw row.flds data = true → False := fun hb => (coded_apart hrow (coded_of_badRw hb)).2.2 hptp
      have h := h.after (State.notePtp_within _) rfl (hptp ▸ notePtp_beside) (hptp ▸ by decide +kernel) (by decide)
        (by decide) (fun hb => (hno hb).elim)
      exact h.after (State.select_within _) rfl (fun _ h => by cases h) (hptp ▸ by decide +kernel) (by decide) (by decide)
        (fun hb => (hno hb).elim)
    · exact h

end Sys2Proof.Machine
end

section
/-! PROOFS. What the end of a command keeps of the mailbox block. -/
namespace Sys2Proof.Machine

/-! ### What the end of a command keeps of the mailbox block -/

/-- What every step of a fold keeps, the fold keeps. -/
theorem foldl_keeps {α : Type} {R : State → State → Prop} (hrefl : ∀ s, R s s) (htrans : ∀ {s t u}, R s t → R t u → R s u)
    {f : State → α → State} (hf : ∀ s a, R s (f s a)) (l : List α) (s : State) : R s (l.foldl f s) := by
  induction l generalizing s with
  | nil => exact hrefl s
  | cons a l ih => exact htrans (hf s a) (ih _)

/-- From `s` to `t` the commits under way, and the work and the late answer of every mailbox, are as before. -/
structure State.GrKept (s t : State) : Prop where
  commits : t.gr.commits = s.gr.commits
  job : ∀ m, (t.mbxAt m).job = (s.mbxAt m).job
  late : ∀ m, (t.mbxAt m).late = (s.mbxAt m).late

theorem State.GrKept.trans {s t u : State} (h : s.GrKept t) (h' : t.GrKept u) : s.GrKept u :=
  ⟨h'.commits.trans h.commits, fun m => (h'.job m).trans (h.job m), fun m => (h'.late m).trans (h.late m)⟩

theorem State.GrKept.of_gr {s t : State} (h : t.gr = s.gr) : s.GrKept t := by
  constructor <;> simp [State.mbxAt, h]

theorem State.GrKept.foldl {α : Type} {f : State → α → State} (hf : ∀ (s : State) a, s.GrKept (f s a)) (l : List α) (s : State) :
    s.GrKept (l.foldl f s) := foldl_keeps (R := State.GrKept) (fun _ => .of_gr rfl) .trans hf l s

theorem State.GrKept.of_within {sc : Scope} {s t : State} (h : Within sc s t) (hg : Part.gr ∉ sc.parts) : s.GrKept t :=
  .of_gr (h.part .gr hg)

theorem State.mbxAt_updMbx_ne (s : State) {n m : Nat} (f : Mbx → Mbx) (h : m ≠ n) : (s.updMbx n f).mbxAt m = s.mbxAt m :=
  SMap.get_upd_ne _ _ h

theorem State.updMbx_grKept (s : State) (n : Nat) {f : Mbx → Mbx} (hj : ∀ b, (f b).job = b.job) (hl : ∀ b, (f b).late = b.late) :
    s.GrKept (s.updMbx n f) := by
  have heither : ∀ m, (s.updMbx n f).mbxAt m = f (s.mbxAt m) ∨ (s.updMbx n f).mbxAt m = s.mbxAt m := fun m => by
    by_cases h : m = n
    · exact .inl (h ▸ State.mbxAt_updMbx_self ..)
    · exact .inr (s.mbxAt_updMbx_ne f h)
  refine ⟨rfl, fun m => ?_, fun m => ?_⟩
  · rcases heither m with h | h <;> rw [h]; exact hj _
  · rcases heither m with h | h <;> rw [h]; exact hl _

theorem State.freeVersions_grKept (s : State) : s.GrKept s.freeVersions := by
  unfold State.freeVersions
  extract_lets held left t
  have ht : s.GrKept t := ⟨rfl, fun _ => rfl, fun _ => rfl⟩
  split
  · exact .of_gr rfl
  · split
    · exact ht.trans (.of_within (State.wr_within ..) (by decide))
    · exact ht

theorem State.noteFence_grKept (s : State) (m : Nat) (drain : Bool) : s.GrKept (s.noteFence m drain) := by
  unfold State.noteFence
  extract_lets t
  have ht : s.GrKept t := by
    unfold t
    split
    · exact (s.updMbx_grKept m (f := fun b => { b with met := some s.nextOrd }) (fun _ => rfl) (fun _ => rfl)).trans (.of_gr rfl)
    · exact .of_gr rfl
  clear_value t
  split
  · split
    · exact ht.trans (t.updMbx_grKept m (fun _ => rfl) (fun _ => rfl))
    · exact ht
  · exact ht

theorem State.noteFences_grKept (s : State) : s.GrKept s.noteFences :=
  .foldl (fun u m => by split; exacts [u.noteFence_grKept m _, .of_gr rfl]) _ s

theorem State.msix_grKept (s : State) (v : Nat) : s.GrKept (s.msix v) := by
  unfold State.msix
  split
  · exact .of_gr rfl
  · split
    · exact ⟨rfl, fun _ => rfl, fun _ => rfl⟩
    · exact .of_gr rfl

theorem State.vectors_grKept (s : State) : s.GrKept s.vectors := by
  unfold State.vectors
  extract_lets new old t
  have ht : s.GrKept t := .of_gr rfl
  split
  · exact ht
  · exact ht.trans (.foldl (fun u v => by split; exacts [u.msix_grKept v, .of_gr rfl]) _ t)

theorem State.settle_grKept (s : State) : s.GrKept s.settle := by
  have hawake (u : State) : u.GrKept u.noteAwake := .of_within u.noteAwake_within (by decide)
  exact ((s.freeVersions_grKept.trans (State.noteFences_grKept _)).trans (hawake _)).trans (State.vectors_grKept _)

end Sys2Proof.Machine
end

section
/-! PROOFS. REGISTER_WRITE of one register (R10, R492), and reserved encodings, O12. -/
namespace Sys2Proof.Machine

/-! ### Accesses of the host that reach one register -/

theorem blockOf_aon {a : Nat} (h : blockOf a = 0xD) : 0x1D00000 ≤ a ∧ a < 0x1E00000 := by
  unfold blockOf at h
  split at h
  · cases h
  · split at h
    · omega
    · cases h

theorem blockOf_bar2 {o : Nat} : blockOf (0x100000000 + o) ≠ 0xD := fun h => by have := blockOf_aon h; omega

theorem regAt_modeCtl {row : RegRow} {i : Nat} (h : regAt 0x1D00010 = some (row, i)) : row.reg = R.PWR_MODE_CTL := by
  have : (regAt 0x1D00010).map (fun p => p.1.reg) = some R.PWR_MODE_CTL := by decide +kernel
  rw [h] at this
  exact Option.some.inj this

theorem regAt_resetCtl {row : RegRow} {i : Nat} (h : regAt 0x1D0004C = some (row, i)) : row.reg = R.PWR_RESET_CTL := by
  have : (regAt 0x1D0004C).map (fun p => p.1.reg) = some R.PWR_RESET_CTL := by decide +kernel
  rw [h] at this
  exact Option.some.inj this

/-- A PCIe write of an always-on register with no row of its own, when SMBus has not written it in this clock (R66). -/
theorem State.hostWord_aon_wrote (s : State) {row : RegRow} {i a : Nat} {data : Word} (hrow : regAt a = some (row, i))
    (hp : row.reg.plain = true) (hd : blockOf a = 0xD) (hs : s.smbData (a - 0x1D00000) = none)
    (hw : badWo row.flds data = false) : s.Wrote (s.hostWord row i a data) row i data a false := by
  have ha := blockOf_aon hd
  have h10 : a - 0x1D00000 ≠ 0x10 := fun h => by
    rw [show a = 0x1D00010 by omega] at hrow
    rw [regAt_modeCtl hrow] at hp; cases hp
  have h4c : a - 0x1D00000 ≠ 0x4C := fun h => by
    rw [show a = 0x1D0004C by omega] at hrow
    rw [regAt_resetCtl hrow] at hp; cases hp
  have he : s.hostWord row i a data = s.writeReg row i data a false := by
    unfold State.hostWord
    simp only [if_pos hd]
    unfold State.aonWrite State.aonPut
    simp only [if_neg h10, if_neg h4c, Bool.false_eq_true, if_false, hs]
    rw [show 0x1D00000 + (a - 0x1D00000) = a by omega]
  rw [he]
  exact s.writeReg_wrote hrow hw a false

/-- An aligned write of 4 bytes to a powered register is the write of its word (R492). -/
theorem execRegisterWrite_word {bar2 : Bool} {ofs : BitVec 32} {data : BitVec 64} {row : RegRow} {i : Nat} {s : State}
    (hl : s.gr.linkUp = true) (h4 : ofs.toNat % 4 = 0)
    (hrow : regAt (if bar2 then 0x100000000 + ofs.toNat else ofs.toNat) = some (row, i))
    (hpres : s.present (if bar2 then 0x100000000 + ofs.toNat else ofs.toNat) = true) :
    execRegisterWrite bar2 ofs 4 data s =
      fin (s.hostWord row i (if bar2 then 0x100000000 + ofs.toNat else ofs.toNat) (data.setWidth 32)) := by
  have hge := regAt_ge hrow
  unfold execRegisterWrite
  dsimp only
  generalize (if bar2 then 0x100000000 + ofs.toNat else ofs.toNat) = a at *
  rw [hl, if_neg (by simp), if_neg (by omega), if_neg (by omega), if_neg (by omega), hrow]
  simp [hpres, h4]

/-- REGISTER_WRITE of a word of BAR0, named by its offset. -/
theorem registerWrite_bar0 {a : Nat} {data : BitVec 64} {row : RegRow} {i : Nat} {s : State} (hl : s.gr.linkUp = true)
    (ha : a < 2 ^ 32) (h4 : a % 4 = 0) (hrow : regAt a = some (row, i)) (hpres : s.present a = true) :
    exec (.registerWrite false (BitVec.ofNat 32 a) 4 data) s = fin (s.hostWord row i a (data.setWidth 32)) := by
  have hn : (BitVec.ofNat 32 a).toNat = a := by rw [BitVec.toNat_ofNat, Nat.mod_eq_of_lt ha]
  have h := execRegisterWrite_word (bar2 := false) (ofs := BitVec.ofNat 32 a) (data := data) (row := row) (i := i) hl
  simp only [Bool.false_eq_true, if_false, hn] at h
  exact h h4 hrow hpres

theorem regAt_of_reg {a : Nat} {r : Reg} (h : (regAt a).map (fun p => p.1.reg) = some r) :
    ∃ row i, regAt a = some (row, i) ∧ row.reg = r := by
  obtain ⟨⟨row, i⟩, h, h'⟩ := Option.map_eq_some_iff.1 h
  exact ⟨row, i, h, h'⟩

/-- REGISTER_WRITE of a word of a register without a row of its own (R10, R492). -/
theorem registerWrite_wrote {bar2 : Bool} {ofs : BitVec 32} {data : BitVec 64} {row : RegRow} {i : Nat} {s : State}
    (hl : s.gr.linkUp = true) (h4 : ofs.toNat % 4 = 0)
    (hrow : regAt (if bar2 then 0x100000000 + ofs.toNat else ofs.toNat) = some (row, i))
    (hpres : s.present (if bar2 then 0x100000000 + ofs.toNat else ofs.toNat) = true) (hp : row.reg.plain = true)
    (hs : bar2 = false → blockOf ofs.toNat = 0xD → s.smbData (ofs.toNat - 0x01D00000) = none)
    (hw : badWo row.flds (data.setWidth 32) = false) :
    Yields (.registerWrite bar2 ofs 4 data) s fun t => s.Wrote t row i (data.setWidth 32) ofs.toNat false := by
  have hexec : exec (.registerWrite bar2 ofs 4 data) s = execRegisterWrite bar2 ofs 4 data s := rfl
  rw [yields_iff, hexec, execRegisterWrite_word hl h4 hrow hpres, ends_fin]
  refine State.Wrote.settle ?_ hrow hp
  have hlt := ofs.isLt
  by_cases hd : blockOf (if bar2 then 0x100000000 + ofs.toNat else ofs.toNat) = 0xD
  · cases bar2 with
    | true => exact absurd hd blockOf_bar2
    | false => exact s.hostWord_aon_wrote hrow hp hd (hs rfl hd) hw
  · have hmod : (if bar2 then 0x100000000 + ofs.toNat else ofs.toNat) % 2 ^ 32 = ofs.toNat := by
      split <;> omega
    have h := s.hostWord_wrote hrow hp hd hw
    rwa [hmod] at h

/-! ### O12 -/

/-- A write of MBX_COMMIT_CTL with WHEN at 0b11 only records the reserved encoding. -/
theorem State.hostWord_commitCtl_reserved (s : State) {row : RegRow} {i a : Nat} {w : Word}
    (hr : row.reg = R.MBX_COMMIT_CTL) (hd : blockOf a ≠ 0xD) (hw : MBX_COMMIT_CTL.WHEN.get w = 3) :
    s.hostWord row i a w = s.reservedEnc R.MBX_COMMIT_CTL.base := by
  have hbad : badCtl w = true := by simp [badCtl, hw]
  unfold State.hostWord State.commitGo State.commitDiscard
  simp only [hr, if_neg hd, hbad, if_true, if_neg (show R.MBX_COMMIT_CTL ≠ R.MBX_DOORBELL by decide), ite_self]

theorem commitCtl_reserved (w : Word) (s : State) (hl : s.gr.linkUp = true) (h6 : s.railOk 6 = true)
    (hw : MBX_COMMIT_CTL.WHEN.get w = 3) :
    exec (.registerWrite false (BitVec.ofNat 32 (R.MBX_COMMIT_CTL.at 0)) 4 (w.setWidth 64)) s =
      fin (s.reservedEnc R.MBX_COMMIT_CTL.base) := by
  obtain ⟨row, i, hrow, hreg⟩ := regAt_of_reg (a := R.MBX_COMMIT_CTL.at 0) (r := R.MBX_COMMIT_CTL) (by decide +kernel)
  rw [registerWrite_bar0 hl (by decide) (by decide) hrow h6, BitVec.setWidth_setWidth_of_le _ (by decide),
    BitVec.setWidth_eq, s.hostWord_commitCtl_reserved hreg (by decide) hw]

/-- Settles O12: a reserved WHEN leaves a write of MBX_COMMIT_CTL without effect but its record; in any plain register the
word that `writeReg` leaves is read field by field. -/
theorem reservedWrites : Obligations.ReservedWrites := by
  constructor
  · intro w s hl h6 hw
    rw [yields_iff, commitCtl_reserved w s hl h6 hw, ends_fin]
    generalize hu : s.reservedEnc R.MBX_COMMIT_CTL.base = u
    have hwithin : Within State.reservedEnc_scope s u := hu ▸ s.reservedEnc_within ..
    refine ⟨?_, ?_, ?_, fun h4 => ?_⟩
    · rw [u.settle_grKept.commits, hwithin.part .gr (by decide)]
    · rw [State.settle_committed]; exact hwithin.part .committed (by decide)
    · rw [State.settle_reg _ (by decide +kernel)]; exact hwithin.reg_same (by decide +kernel) 0
    · obtain ⟨h1, h2⟩ := s.reservedEnc_records R.MBX_COMMIT_CTL.base false h4
      rw [hu] at h1 h2
      unfold State.raised at h1 ⊢
      rw [State.settle_reg _ (by decide +kernel), State.settle_reg _ (by decide +kernel)]
      exact ⟨h1, h2⟩
  · intro bar2 ofs data row i s hl _ h4 hrow hpres hp hs hwo hrw
    obtain ⟨t, ht, h⟩ := registerWrite_wrote hl h4 hrow hpres hp hs hwo
    refine ⟨t, ht, fun f hf ha hleg => ?_, fun f hf ha hleg => ?_, h.others.otherRegs, fun h4 => h.recorded hrw h4⟩
    · rw [h.word, regAt_writeWord_get_rw hrow hf ha, hleg, if_neg Bool.false_ne_true]
    · rw [h.word, regAt_writeWord_get_rw hrow hf ha, hleg, if_pos rfl]

end Sys2Proof.Machine
end

section
/-! PROOFS. SMBus accesses, and the host's write of a pair of registers (R10, R64-R66, R492), for O19. -/
namespace Sys2Proof.Machine

/-! ### Writes and reads over SMBus -/

/-- The packet error code of a write is right, or there is none and none is required (R65). -/
def State.pecGood (s : State) (ofs : BitVec 16) (data : Word) (pec : Option Byte) : Prop :=
  pec = some (s.smbPec ofs data) ∨ (pec = none ∧ s.bit PWR_SMB_CFG.PEC_REQ = false)

/-- A write of 6 bytes with a good packet error code reaches the register at its offset (R64, R65). -/
theorem smbRegisterWrite_reaches {ofs : BitVec 16} {data : Word} {pec : Option Byte} {row : RegRow} {i : Nat} {s : State}
    (hup : s.pwr.aon = .up) (hrow : regAt (0x01D00000 + ofs.toNat) = some (row, i)) (hpec : s.pecGood ofs data pec) :
    exec (.smbRegisterWrite 6 ofs data pec) s = fin (s.aonWrite row i ofs.toNat data true) := by
  have hexec : exec (.smbRegisterWrite 6 ofs data pec) s = execSmbRegisterWrite 6 ofs data pec s := rfl
  rw [hexec]
  unfold execSmbRegisterWrite
  rw [if_neg (by simp [hup]), if_neg (by decide), hrow]
  rcases hpec with rfl | ⟨rfl, hreq⟩
  · simp
  · simp [hreq]

/-- The always-on block has two registers with a row of their own, at 0x10 and 0x4C. -/
theorem aon_plain {ofs : BitVec 16} {row : RegRow} {i : Nat} (hrow : regAt (0x01D00000 + ofs.toNat) = some (row, i))
    (h10 : ofs.toNat ≠ 0x10) (h4c : ofs.toNat ≠ 0x4C) : row.reg.plain = true := by
  obtain ⟨hmem, hat, hi⟩ := regAt_row hrow
  have hb : blockOf (0x01D00000 + ofs.toNat) = 13 := by
    have := ofs.isLt
    unfold blockOf
    rw [if_neg (by omega), if_pos (by omega)]
    omega
  rw [hb] at hmem
  have hcases : ∀ row ∈ blockRows 13, row.reg.plain = true ∨ row.reg = R.PWR_MODE_CTL ∨ row.reg = R.PWR_RESET_CTL := by
    decide +kernel
  rcases hcases row hmem with h | h | h
  · exact h
  · rw [h] at hat hi
    simp only [Reg.at, R.PWR_MODE_CTL] at hat hi
    omega
  · rw [h] at hat hi
    simp only [Reg.at, R.PWR_RESET_CTL] at hat hi
    omega

theorem Scope.spares_parts {sc : Scope} {r : Reg} (h : sc.spares r = true) (ps : List Part) :
    Scope.spares ⟨ps, [], []⟩ r = true := by
  simp only [Scope.spares, Bool.and_eq_true] at h ⊢
  obtain ⟨⟨⟨hs, -⟩, -⟩, hin⟩ := h
  exact ⟨⟨⟨hs, rfl⟩, rfl⟩, hin⟩

/-- SMBus write of an always-on register with no row of its own (R10, R64). -/
theorem smbRegisterWrite_wrote {ofs : BitVec 16} {data : Word} {pec : Option Byte} {row : RegRow} {i : Nat} {s : State}
    (hup : s.pwr.aon = .up) (hrow : regAt (0x01D00000 + ofs.toNat) = some (row, i)) (h10 : ofs ≠ 0x10) (h4c : ofs ≠ 0x4C)
    (hw : badWo row.flds data = false) (hpec : s.pecGood ofs data pec) :
    Yields (.smbRegisterWrite 6 ofs data pec) s fun t => s.Wrote t row i data ofs.toNat true := by
  have h10' : ofs.toNat ≠ 0x10 := fun h => h10 (BitVec.eq_of_toNat_eq h)
  have h4c' : ofs.toNat ≠ 0x4C := fun h => h4c (BitVec.eq_of_toNat_eq h)
  have he : s.aonWrite row i ofs.toNat data true = (s.writeReg row i data ofs.toNat true).noteSmb ofs.toNat data := by
    unfold State.aonWrite State.aonPut
    simp only [if_neg h10', if_neg h4c', if_true]
  rw [yields_iff, smbRegisterWrite_reaches hup hrow hpec, ends_fin, he]
  have hp := aon_plain hrow h10' h4c'
  have h := (s.writeReg_wrote hrow hw ofs.toNat true).after (State.noteSmb_within _ ofs.toNat data) rfl (fun _ h => by cases h)
    (Scope.spares_parts (plain_spared hrow hp).1 _) (by decide) (by decide) (fun _ => by decide +kernel)
  exact h.settle hrow hp

/-- A read of 2 bytes sends the register's word under its packet error code (R64, R65). -/
theorem smbRegisterRead_sends {ofs : BitVec 16} {row : RegRow} {i : Nat} {s : State} (hup : s.pwr.aon = .up)
    (hrow : regAt (0x01D00000 + ofs.toNat) = some (row, i)) :
    exec (.smbRegisterRead 2 ofs) s = fin (s.emit (.smbData (leBytes 4 (s.aonRead row i).toNat ++
      [BitVec.ofNat 8 (crc8 ([BitVec.ofNat 8 (2 * s.smbAddr), 0x11, 2] ++ leBytes 2 ofs.toNat ++
        [BitVec.ofNat 8 (2 * s.smbAddr + 1), 4] ++ leBytes 4 (s.aonRead row i).toNat))]))) := by
  have hexec : exec (.smbRegisterRead 2 ofs) s = execSmbRegisterRead 2 ofs s := rfl
  rw [hexec]
  unfold execSmbRegisterRead
  rw [if_neg (by simp [hup]), if_neg (by decide), hrow]

/-- What a command emits it has sent when it ends. -/
theorem State.emit_settle_sends (s : State) (o : Out) : s.sends (s.emit o).settle o := by
  obtain ⟨l, hl⟩ := (s.emit o).settle_within.out
  exact ⟨o :: l, by rw [← hl]; simp [State.emit], List.mem_cons_self⟩

/-! ### A pair of registers -/

/-- The offsets of _LO registers: no block of theirs holds the event registers. -/
theorem loReg_block {a i : Nat} {row : RegRow} (h : regAt a = some (row, i)) (hlo : loRegs.contains row.reg = true) :
    blockOf a ≠ 0xB ∧ blockOf a ≠ 0xD := by
  have hall : ∀ b, b = 0xB ∨ b = 0xD → ∀ row ∈ blockRows b, loRegs.contains row.reg = false := by
    rintro b (rfl | rfl) <;> decide +kernel
  have hno : ∀ b, b = 0xB ∨ b = 0xD → blockOf a ≠ b := fun b hb he => by
    have := hall b hb row (he ▸ (regAt_row h).1)
    rw [this] at hlo
    cases hlo
  exact ⟨hno _ (.inl rfl), hno _ (.inr rfl)⟩

theorem blockOf_pair {a : Nat} (h : a % 8 = 0) : blockOf (a + 4) = blockOf a := by
  unfold blockOf
  by_cases h1 : 0x100000000 ≤ a ∧ a < 0x100100000
  · rw [if_pos h1, if_pos (by omega)]
  · rw [if_neg h1, if_neg (by omega)]
    by_cases h2 : 0x01000000 ≤ a ∧ a < 0x01E00000
    · rw [if_pos h2, if_pos (by omega)]; omega
    · rw [if_neg h2, if_neg (by omega)]

/-- An aligned write of 8 bytes to a pair of registers writes its two words in turn (R492). -/
theorem execRegisterWrite_pair {ofs : BitVec 32} {data : BitVec 64} {row rowH : RegRow} {i j : Nat} {s : State}
    (hl : s.gr.linkUp = true) (h8 : ofs.toNat % 8 = 0) (hrow : regAt ofs.toNat = some (row, i))
    (hlo : loRegs.contains row.reg = true) (hrowH : regAt (ofs.toNat + 4) = some (rowH, j)) (hpres : s.present ofs.toNat = true) :
    exec (.registerWrite false ofs 8 data) s =
      fin ((s.hostWord row i ofs.toNat (data.setWidth 32)).hostWord rowH j (ofs.toNat + 4) ((data >>> 32).setWidth 32)) := by
  have hge := regAt_ge hrow
  have hexec : exec (.registerWrite false ofs 8 data) s = execRegisterWrite false ofs 8 data s := rfl
  rw [hexec]
  unfold execRegisterWrite
  dsimp only
  simp only [Bool.false_eq_true, if_false]
  rw [hl, if_neg (by simp), if_neg (by omega), if_neg (by omega), if_neg (by omega), hrow]
  dsimp only
  rw [hpres, hrowH, if_neg (by simp), if_neg (by simp), if_pos (by rw [hlo, h8]; rfl)]

theorem Scope.not_hits {sc : Scope} {r q : Reg} (h : sc.spares r = true) (hq : q ∈ sc.regs) {i : Nat} (hi : i < r.count) :
    ¬ q.hits (r.at i) := by
  simp only [Scope.spares, Bool.and_eq_true, decide_eq_true_eq, List.all_eq_true] at h
  obtain ⟨⟨⟨hs, hall⟩, -⟩, -⟩ := h
  exact Reg.not_hits_of_apart (hall q hq).1 hs (hall q hq).2 hi

/-- A register that `keepsBut` does not name reads as before. -/
theorem State.keepsBut.reg {s t : State} {r : Reg} {i : Nat} (h : s.keepsBut t r i) {q : Reg} {j : Nat} (hne : q.at j ≠ r.at i)
    (hq : j < q.count → ∀ x ∈ r.beside, ¬ x.hits (q.at j)) : t.reg q j = s.reg q j := by
  unfold State.reg
  split
  · rename_i hj
    exact h _ hne (hq hj) _
  · rfl

/-- Every register that some write may change beside its own. -/
def besideAny : Scope := ⟨[], [R.EVT_RESERVED_OFS, R.EVT_STAT, R.MBX_GRANGE_STAT, R.FWD_VER_STAT, R.ALM_BANK_STAT,
  R.ALM_STAT, R.ALM_EVT_STAT, R.REF_SRC_STAT], []⟩

theorem Reg.beside_subset (r : Reg) : ∀ q ∈ r.beside, q ∈ besideAny.regs := by
  unfold Reg.beside
  split
  · decide
  · split <;> decide

/-- A _LO register stands apart from all of them, and nothing of its own stands beside its writes. -/
theorem loReg_apart {a i : Nat} {row : RegRow} (h : regAt a = some (row, i)) (hlo : loRegs.contains row.reg = true) :
    besideAny.spares row.reg = true ∧ row.reg ≠ R.ALM_CFG ∧ row.reg ≠ R.REF_PTP_STAT := by
  have := blockRows_all (p := fun row => !loRegs.contains row.reg || (besideAny.spares row.reg &&
    decide (row.reg ≠ R.ALM_CFG ∧ row.reg ≠ R.REF_PTP_STAT))) (by decide +kernel) (regAt_row h).1
  rw [hlo] at this
  simpa using this

/-- The registers beside every write stand apart from the plain ones outside the event block. -/
theorem plain_apart {a i : Nat} {row : RegRow} (h : regAt a = some (row, i)) (hp : row.reg.plain = true)
    (hb : blockOf a ≠ 0xB) : Scope.spares ⟨[], R.MBX_TICK_LO.beside, []⟩ row.reg = true := by
  obtain ⟨hmem, hat, hi⟩ := regAt_row h
  have := blockRows_all (p := fun row => !row.reg.plain || row.reg.inBlock 0xB ||
    Scope.spares ⟨[], R.MBX_TICK_LO.beside, []⟩ row.reg) (by decide +kernel) hmem
  rw [hp, Bool.not_true, Bool.false_or, Bool.or_eq_true] at this
  exact this.resolve_left fun hin => hb (Reg.block_of_hits hin ⟨i, hi, hat.symm⟩)

/-- A write of 8 bytes to a pair is the write of each of its registers (R10, R492). -/
theorem registerWrite_pair {ofs : BitVec 32} {data : BitVec 64} {row rowH : RegRow} {i j : Nat} {s : State}
    (hl : s.gr.linkUp = true) (h8 : ofs.toNat % 8 = 0) (hrow : regAt ofs.toNat = some (row, i))
    (hlo : loRegs.contains row.reg = true) (hrowH : regAt (ofs.toNat + 4) = some (rowH, j)) (hpres : s.present ofs.toNat = true)
    (hp : row.reg.plain = true) (hpH : rowH.reg.plain = true) (hw : badWo row.flds (data.setWidth 32) = false)
    (hwH : badWo rowH.flds ((data >>> 32).setWidth 32) = false) :
    Yields (.registerWrite false ofs 8 data) s fun t =>
      t.reg row.reg i = writeWord row.flds (s.reg row.reg i) (data.setWidth 32) ∧
      t.reg rowH.reg j = writeWord rowH.flds (s.reg rowH.reg j) ((data >>> 32).setWidth 32) ∧
      (∀ k, k ≠ row.reg.at i → k ≠ rowH.reg.at j → (∀ q ∈ row.reg.beside ++ rowH.reg.beside, ∀ n, k ≠ q.at n) →
        ∀ d, SMap.get d t.regs k = SMap.get d s.regs k) ∧ t.committed = s.committed ∧ t.mem = s.mem := by
  obtain ⟨hb, hd⟩ := loReg_block hrow hlo
  have hbH := blockOf_pair h8
  obtain ⟨-, hat, hi⟩ := regAt_row hrow
  obtain ⟨-, hatH, hj⟩ := regAt_row hrowH
  obtain ⟨hspare, halm, hptp⟩ := loReg_apart hrow hlo
  have h1 := s.hostWord_wrote hrow hp hd hw
  have h2 := (State.hostWord_wrote (s.hostWord row i ofs.toNat (data.setWidth 32)) hrowH hpH (hbH ▸ hd) hwH).settle hrowH hpH
  have hbeside : row.reg.beside = R.MBX_TICK_LO.beside := by
    unfold Reg.beside; rw [if_neg halm, if_neg hptp]; decide
  have hhi := h1.others.reg (q := rowH.reg) (j := j) (by omega) fun hj q hq =>
    Scope.not_hits (plain_apart hrowH hpH (hbH ▸ hb)) (hbeside ▸ hq) hj
  have hlow := h2.others.reg (q := row.reg) (j := i) (by omega) fun hi q hq =>
    Scope.not_hits hspare (rowH.reg.beside_subset q hq) hi
  rw [yields_iff, execRegisterWrite_pair hl h8 hrow hlo hrowH hpres, ends_fin]
  refine ⟨hlow.trans h1.word, by rw [h2.word, hhi], fun k hk hkH hq d => ?_, h2.committed.trans h1.committed,
    h2.mem.trans h1.mem⟩
  exact (h2.others.otherRegs k hkH (fun q hm => hq q (List.mem_append_right _ hm)) d).trans
    (h1.others.otherRegs k hk (fun q hm => hq q (List.mem_append_left _ hm)) d)

end Sys2Proof.Machine
end

section
/-! PROOFS. A write of PWR_MODE_CTL, over SMBus or PCIe (R66, R69, R74, R76), for O19. -/
namespace Sys2Proof.Machine

/-! ### The requested mode and the oven bit -/

/-- From `s` to `t` REQ_MODE and OCXO_HOLD_WARM are as before. -/
structure State.ModeKept (s t : State) : Prop where
  req : t.rd PWR_MODE_CTL.REQ_MODE = s.rd PWR_MODE_CTL.REQ_MODE
  hold : t.rd PWR_MODE_CTL.OCXO_HOLD_WARM = s.rd PWR_MODE_CTL.OCXO_HOLD_WARM

theorem State.ModeKept.refl (s : State) : s.ModeKept s := ⟨rfl, rfl⟩

theorem State.ModeKept.trans {s t u : State} (h : s.ModeKept t) (h' : t.ModeKept u) : s.ModeKept u :=
  ⟨h'.req.trans h.req, h'.hold.trans h.hold⟩

theorem State.ModeKept.of_within {sc : Scope} {s t : State} (h : Within sc s t) (hs : sc.spares R.PWR_MODE_CTL = true) :
    s.ModeKept t :=
  ⟨h.rd_same hs 0, h.rd_same hs 0⟩

theorem State.ModeKept.of_regs {s t : State} (h : t.regs = s.regs) : s.ModeKept t := ⟨State.rd_eq h _ _, State.rd_eq h _ _⟩

theorem State.wr_inTransition_modeKept (s : State) (v : Nat) : s.ModeKept (s.wr PWR_MODE_CTL.IN_TRANSITION 0 v) :=
  ⟨State.rd_wr_disj (f := PWR_MODE_CTL.IN_TRANSITION) (g := PWR_MODE_CTL.REQ_MODE) s (by decide) (by decide) rfl (by decide) 0 0 v,
    State.rd_wr_disj (f := PWR_MODE_CTL.IN_TRANSITION) (g := PWR_MODE_CTL.OCXO_HOLD_WARM) s (by decide) (by decide) rfl
      (by decide) 0 0 v⟩

theorem State.updPwr_modeKept (s : State) (f : Pwr → Pwr) : s.ModeKept (s.updPwr f) := .of_regs rfl
theorem State.updCal_modeKept (s : State) (f : Cal → Cal) : s.ModeKept (s.updCal f) := .of_regs rfl

theorem State.deferCal_modeKept (s : State) (v : Nat) : s.ModeKept (s.deferCal v) := by
  unfold State.deferCal
  split
  · exact ((s.wr_inTransition_modeKept 0).trans (.of_within (State.wr_within ..) (by decide +kernel))).trans (State.updPwr_modeKept ..)
  · exact .refl s

theorem State.startTrans_modeKept (s : State) (m : Fin 6) : s.ModeKept (s.startTrans m) := by
  unfold State.startTrans
  extract_lets u1 u2 u3 u4 need
  have h1 : s.ModeKept u1 := by
    unfold u1
    split
    · exact .of_within (State.relinquish_within ..) (by decide +kernel)
    · exact .refl s
  have h3 : s.ModeKept u3 := (h1.trans (u1.wr_inTransition_modeKept 1)).trans (State.updPwr_modeKept ..)
  have h4 : s.ModeKept u4 := by
    unfold u4
    split
    · exact (h3.trans (.of_within (State.wr_within ..) (by decide +kernel))).trans
        (.of_within (State.wr_within ..) (by decide +kernel))
    · exact h3
  split
  · exact h4
  · have hramp : Within State.rampRail_scope u4
        ((List.range 8).foldl (fun s r => if testBit need r then s.rampRail r else s) u4) :=
      Within.foldl (.refl _ _) fun x r hx => .ite ((x.rampRail_within r).step hx (by decide +kernel)) hx
    exact h4.trans (.of_within hramp (by decide +kernel))

theorem State.plan_modeKept (s : State) : s.ModeKept s.plan := by
  unfold State.plan
  split
  · exact .refl s
  · split
    · exact .refl s
    · split
      · exact .refl s
      · split
        · exact s.startTrans_modeKept _
        · exact .refl s

/-- REQ_MODE takes the mode written; the oven bit stays. -/
theorem State.wr_reqMode (s : State) (v : Nat) (hv : v ≤ 5) :
    (s.wr PWR_MODE_CTL.REQ_MODE 0 v).rd PWR_MODE_CTL.REQ_MODE = v ∧
      (s.wr PWR_MODE_CTL.REQ_MODE 0 v).rd PWR_MODE_CTL.OCXO_HOLD_WARM = s.rd PWR_MODE_CTL.OCXO_HOLD_WARM :=
  ⟨(State.rd_wr_self s (by decide) (by decide) v).trans (Nat.mod_eq_of_lt (by show v < 8; omega)),
    State.rd_wr_disj (f := PWR_MODE_CTL.REQ_MODE) (g := PWR_MODE_CTL.OCXO_HOLD_WARM) s (by decide) (by decide) rfl
      (by decide) 0 0 v⟩

theorem State.isolate_req (s : State) (hm : s.mode ≠ mDORMANT) :
    (s.isolate 1).rd PWR_MODE_CTL.REQ_MODE = mISOLATE ∧
      (s.isolate 1).rd PWR_MODE_CTL.OCXO_HOLD_WARM = s.rd PWR_MODE_CTL.OCXO_HOLD_WARM := by
  obtain ⟨hreq, hhold⟩ := s.wr_reqMode mISOLATE (by decide)
  unfold State.isolate
  rw [if_neg hm]
  extract_lets u v w
  have hv : v = u := if_pos rfl
  have hw : u.ModeKept w := hv ▸ u.updPwr_modeKept _
  have hend : u.ModeKept (w.abortCal.startTrans 5) :=
    (hw.trans (.of_within w.abortCal_within (by decide +kernel))).trans (State.startTrans_modeKept _ 5)
  split
  · rw [hv]; exact ⟨hreq, hhold⟩
  · exact ⟨hend.req.trans hreq, hend.hold.trans hhold⟩

/-- What a host's request of mode `v` does to PWR_MODE_CTL and REFUSED, outside the tick of a trigger or a reset (R74, R76). -/
theorem State.modeRequest_req (s : State) (v : Nat) (smbus : Bool) (hi : s.pwr.isoAt ≠ some s.now)
    (hr : s.pwr.resetAt ≠ some s.now) :
    (s.modeRequest v smbus).rd PWR_MODE_CTL.OCXO_HOLD_WARM = s.rd PWR_MODE_CTL.OCXO_HOLD_WARM ∧
    if 5 < v then (s.modeRequest v smbus).rd PWR_MODE_CTL.REQ_MODE = s.rd PWR_MODE_CTL.REQ_MODE
    else if s.refusesMode v then (s.modeRequest v smbus).rd PWR_MODE_STAT.REFUSED = 1 ∧
      (s.modeRequest v smbus).rd PWR_MODE_CTL.REQ_MODE = s.rd PWR_MODE_CTL.REQ_MODE
    else (s.modeRequest v smbus).rd PWR_MODE_CTL.REQ_MODE = v := by
  unfold State.modeRequest
  by_cases h5 : 5 < v
  · simp only [if_pos h5]
    have h : s.ModeKept (s.reservedEnc (if smbus then 0x10 else 0x01D00010) smbus) :=
      .of_within (State.reservedEnc_within ..) (by decide +kernel)
    exact ⟨h.hold, h.req⟩
  · simp only [if_neg h5]
    by_cases href : s.refusesMode v = true
    · simp only [if_pos href]
      have h : s.ModeKept (s.wr PWR_MODE_STAT.REFUSED 0 1) := .of_within (State.wr_within ..) (by decide +kernel)
      exact ⟨h.hold, State.rd_wr_self s (by decide) (by decide) 1, h.req⟩
    · simp only [if_neg href]
      by_cases hiso : v = mISOLATE
      · have hm : s.mode ≠ mDORMANT := fun hm => href (by simp [State.refusesMode, hiso, hm])
        obtain ⟨h1, h2⟩ := s.isolate_req hm
        simp only [if_pos hiso]
        exact ⟨h2, h1.trans hiso.symm⟩
      · simp only [if_neg hiso, hi, hr, decide_false, Bool.or_false, Bool.false_eq_true, if_false]
        generalize hu : (s.deferCal v).updCal (fun c => { c with again := decide (s.mode = mCALIBRATE) && decide (v = mCALIBRATE) }) = u
        have hkept : s.ModeKept u := hu ▸ (s.deferCal_modeKept v).trans (State.updCal_modeKept ..)
        obtain ⟨h1, h2⟩ := u.wr_reqMode v (by omega)
        have hplan := State.plan_modeKept (u.wr PWR_MODE_CTL.REQ_MODE 0 v)
        exact ⟨(hplan.hold.trans h2).trans hkept.hold, hplan.req.trans h1⟩

end Sys2Proof.Machine
end

section
/-! PROOFS. The oven bit and the whole write of PWR_MODE_CTL (R66, R69, R74), for O19. -/
namespace Sys2Proof.Machine

/-! ### The oven bit (R69) -/

/-- No commit is of a group that stands on the rail of the oven. -/
theorem State.abortCommits_oven (s : State) : s.abortCommits 5 = s := by
  have hno : ∀ g < 12, blockRail (groupBlock g) ≠ 5 := by decide
  have hnil : s.gr.commits.filter (fun c => (List.range 12).any fun g =>
      testBit c.groups g && decide (blockRail (groupBlock g) = 5)) = [] := by
    refine List.filter_eq_nil_iff.2 fun c _ hc => ?_
    obtain ⟨g, hg, he⟩ := List.any_eq_true.1 hc
    simp only [Bool.and_eq_true, decide_eq_true_eq] at he
    exact hno g (List.mem_range.1 hg) he.2
  unfold State.abortCommits
  simp only [hnil, List.isEmpty_nil, if_true]

/-- What switching the oven and noting the wish to keep it warm may change. -/
def holdWarmScope : Scope := ⟨[.pwr], [R.PWR_MODE_CTL, R.PWR_RAIL_STAT, R.PWR_CLK_STAT, R.PWR_OCXO_STAT], []⟩

/-- What the refusal of a request and the order of writes depend on in the power state (R66, R74, R76). -/
structure Pwr.SameRequest (p q : Pwr) : Prop where
  trans : q.trans = p.trans
  isoCause : q.isoCause = p.isoCause
  critArmed : q.critArmed = p.critArmed
  isoAt : q.isoAt = p.isoAt
  resetAt : q.resetAt = p.resetAt
  smbLast : q.smbLast = p.smbLast

/-- From `s` to `t` only the oven and its bit changed. -/
structure State.OvenOnly (s t : State) : Prop where
  within : Within holdWarmScope s t
  mode : t.mode = s.mode
  req : t.rd PWR_MODE_CTL.REQ_MODE = s.rd PWR_MODE_CTL.REQ_MODE
  pwr : s.pwr.SameRequest t.pwr

theorem State.OvenOnly.trans {s t u : State} (h : s.OvenOnly t) (h' : t.OvenOnly u) : s.OvenOnly u where
  within := h'.within.step h.within (by decide +kernel)
  mode := h'.mode.trans h.mode
  req := h'.req.trans h.req
  pwr := ⟨h'.pwr.trans.trans h.pwr.trans, h'.pwr.isoCause.trans h.pwr.isoCause, h'.pwr.critArmed.trans h.pwr.critArmed,
    h'.pwr.isoAt.trans h.pwr.isoAt, h'.pwr.resetAt.trans h.pwr.resetAt, h'.pwr.smbLast.trans h.pwr.smbLast⟩

/-- A change of rail, clock and oven registers alone. -/
theorem State.OvenOnly.of_within {s t : State}
    (h : Within ⟨[.pwr], [R.PWR_RAIL_STAT, R.PWR_CLK_STAT, R.PWR_OCXO_STAT], []⟩ s t) (hp : s.pwr.SameRequest t.pwr) :
    s.OvenOnly t where
  within := h.step (.refl _ _) (by decide +kernel)
  mode := h.rd_same (by decide +kernel) 0
  req := h.rd_same (by decide +kernel) 0
  pwr := hp

theorem State.loseOcxo_ovenOnly (s : State) : s.OvenOnly s.loseOcxo :=
  .of_within (s.loseOcxo_within.step (.refl _ _) (by decide +kernel)) (by constructor <;> rfl)

theorem State.railOff_ovenOnly (s : State) : s.OvenOnly (s.railOff 5) := by
  have h1 (u : State) : u.OvenOnly (u.wr PWR_RAIL_STAT.RAIL_REQ 0 (clearBit (u.rd PWR_RAIL_STAT.RAIL_REQ) 5)) :=
    .of_within ((State.wr_within ..).step (.refl _ _) (by decide +kernel)) (by constructor <;> simp)
  have h2 (u : State) : u.OvenOnly (u.wr PWR_RAIL_STAT.RAIL_OK 0 (clearBit (u.rd PWR_RAIL_STAT.RAIL_OK) 5)) :=
    .of_within ((State.wr_within ..).step (.refl _ _) (by decide +kernel)) (by constructor <;> simp)
  have h3 (u : State) : u.OvenOnly (u.updPwr fun p => { p with ramp := SMap.erase p.ramp 5 }) :=
    .of_within ((State.updPwr_within ..).step (.refl _ _) (by decide +kernel)) (by constructor <;> rfl)
  unfold State.railOff
  split
  · exact .of_within (.refl _ _) (by constructor <;> rfl)
  · simp only [State.abortCommits_oven]
    exact (((h1 s).trans (h2 _)).trans (h3 _)).trans (State.loseOcxo_ovenOnly _)

theorem State.rampRail_ovenOnly (s : State) : s.OvenOnly (s.rampRail 5) := by
  refine .of_within ((s.rampRail_within 5).step (.refl _ _) (by decide +kernel)) ?_
  unfold State.rampRail
  split
  · constructor <;> rfl
  · constructor <;> simp

theorem State.wrB_hold_ovenOnly (s : State) (v : Bool) : s.OvenOnly (s.wrB PWR_MODE_CTL.OCXO_HOLD_WARM 0 v) where
  within := (State.wrB_within ..).step (.refl _ _) (by decide +kernel)
  mode := State.rd_wr_disj (f := PWR_MODE_CTL.OCXO_HOLD_WARM) (g := PWR_MODE_CTL.CUR_MODE) s (by decide) (by decide) rfl
    (by decide) 0 0 _
  req := State.rd_wr_disj (f := PWR_MODE_CTL.OCXO_HOLD_WARM) (g := PWR_MODE_CTL.REQ_MODE) s (by decide) (by decide) rfl
    (by decide) 0 0 _
  pwr := by constructor <;> simp [State.wrB]

theorem State.holdWarm_ovenOnly (s : State) (v : Bool) : s.OvenOnly (s.holdWarm v) := by
  have h := s.wrB_hold_ovenOnly v
  unfold State.holdWarm
  extract_lets u
  split
  · split
    · exact h.trans u.rampRail_ovenOnly
    · exact h.trans u.railOff_ovenOnly
  · exact h

/-- The bit is as written. -/
theorem State.holdWarm_bit (s : State) (v : Bool) : (s.holdWarm v).bit PWR_MODE_CTL.OCXO_HOLD_WARM = v := by
  have hwr : (s.wrB PWR_MODE_CTL.OCXO_HOLD_WARM 0 v).rd PWR_MODE_CTL.OCXO_HOLD_WARM = if v then 1 else 0 := by
    refine (State.rd_wr_self (f := PWR_MODE_CTL.OCXO_HOLD_WARM) s (by decide) (by decide) _).trans ?_
    cases v <;> rfl
  have hrail (u : State) : (u.rampRail 5).rd PWR_MODE_CTL.OCXO_HOLD_WARM = u.rd PWR_MODE_CTL.OCXO_HOLD_WARM ∧
      (u.railOff 5).rd PWR_MODE_CTL.OCXO_HOLD_WARM = u.rd PWR_MODE_CTL.OCXO_HOLD_WARM :=
    ⟨(u.rampRail_within 5).rd_same (by decide +kernel) 0, (u.railOff_within 5).rd_same (by decide +kernel) 0⟩
  have hend : (s.holdWarm v).rd PWR_MODE_CTL.OCXO_HOLD_WARM = if v then 1 else 0 := by
    refine Eq.trans ?_ hwr
    unfold State.holdWarm
    extract_lets u
    split
    · split
      · exact (hrail u).1
      · exact (hrail u).2
    · rfl
  unfold State.bit
  rw [hend]
  cases v <;> rfl

/-- The oven has no part in whether a request is refused (R74, R76). -/
theorem State.OvenOnly.refusesMode {s t : State} (h : s.OvenOnly t) (v : Nat) : t.refusesMode v = s.refusesMode v := by
  have hrd {f : Fld} (hf : holdWarmScope.spares f.reg = true) : t.rd f = s.rd f := h.within.rd_same hf 0
  have hact : ∀ c, t.faultAct c = s.faultAct c := fun c => by
    unfold State.faultAct State.comReg
    rw [h.within.part .committed (by decide)]
  unfold State.refusesMode State.fwdMode State.bit State.rdS
  rw [h.mode, h.pwr.trans, h.pwr.isoCause, h.pwr.critArmed, hrd (f := PWR_TEMP.CASE) (by decide +kernel),
    hrd (f := PWR_MODE_STAT.ISO_CAUSE) (by decide +kernel), hrd (f := PWR_EVT_STAT.POWER_FAULT) (by decide +kernel),
    hrd (f := PWR_BOOT_STAT.STATE) (by decide +kernel), hrd (f := EVT_LASTING.CLASS) (by decide +kernel)]
  simp only [hact]

/-! ### A write of PWR_MODE_CTL -/

/-- What a write of `data` to PWR_MODE_CTL leaves in it and in REFUSED. -/
def State.ModeWritten (s t : State) (data : Word) : Prop :=
  t.bit PWR_MODE_CTL.OCXO_HOLD_WARM = decide (PWR_MODE_CTL.OCXO_HOLD_WARM.get data = 1) ∧
    if 5 < PWR_MODE_CTL.REQ_MODE.get data then t.rd PWR_MODE_CTL.REQ_MODE = s.rd PWR_MODE_CTL.REQ_MODE
    else if s.refusesMode (PWR_MODE_CTL.REQ_MODE.get data) then
      t.rd PWR_MODE_STAT.REFUSED = 1 ∧ t.rd PWR_MODE_CTL.REQ_MODE = s.rd PWR_MODE_CTL.REQ_MODE
    else t.rd PWR_MODE_CTL.REQ_MODE = PWR_MODE_CTL.REQ_MODE.get data

theorem State.ModeWritten.after {s t u : State} {data : Word} (h : s.ModeWritten t data) {sc : Scope} (hw : Within sc t u)
    (h1 : sc.spares R.PWR_MODE_CTL = true) (h2 : sc.spares R.PWR_MODE_STAT = true) : s.ModeWritten u data := by
  unfold State.ModeWritten State.bit at h ⊢
  rw [hw.rd_same (f := PWR_MODE_CTL.OCXO_HOLD_WARM) h1, hw.rd_same (f := PWR_MODE_CTL.REQ_MODE) h1,
    hw.rd_same (f := PWR_MODE_STAT.REFUSED) h2]
  exact h

/-- The oven bit, then the request. -/
theorem State.modeWrite_written (s : State) (data : Word) (smbus : Bool) (hi : s.pwr.isoAt ≠ some s.now)
    (hr : s.pwr.resetAt ≠ some s.now) :
    s.ModeWritten ((s.holdWarm (PWR_MODE_CTL.OCXO_HOLD_WARM.get data = 1)).modeRequest (PWR_MODE_CTL.REQ_MODE.get data) smbus)
      data := by
  generalize hv : decide (PWR_MODE_CTL.OCXO_HOLD_WARM.get data = 1) = v
  have hoven := s.holdWarm_ovenOnly v
  have hbit := s.holdWarm_bit v
  generalize s.holdWarm v = u at hoven hbit ⊢
  obtain ⟨h1, h2⟩ := u.modeRequest_req (PWR_MODE_CTL.REQ_MODE.get data) smbus (by rw [hoven.pwr.isoAt, hoven.within.now]; exact hi)
    (by rw [hoven.pwr.resetAt, hoven.within.now]; exact hr)
  rw [hoven.refusesMode, hoven.req] at h2
  unfold State.ModeWritten
  refine ⟨?_, h2⟩
  rw [hv, ← hbit]
  unfold State.bit
  rw [h1]

theorem regAt_modeCtl_some : ∃ row i, regAt 0x1D00010 = some (row, i) := by
  obtain ⟨row, i, h, -⟩ := regAt_of_reg (a := 0x1D00010) (r := R.PWR_MODE_CTL) (by decide +kernel)
  exact ⟨row, i, h⟩

theorem State.aonWrite_mode_smbus (s : State) (row : RegRow) (i : Nat) (data : Word) :
    s.aonWrite row i 0x10 data true = ((s.holdWarm (PWR_MODE_CTL.OCXO_HOLD_WARM.get data = 1)).modeRequest
      (PWR_MODE_CTL.REQ_MODE.get data) true).noteSmb 0x10 data := by
  unfold State.aonWrite State.hostMode
  simp only [if_true]
  split <;> rfl

theorem State.aonWrite_mode_host (s : State) (row : RegRow) (i : Nat) (data : Word) (hs : s.smbData 0x10 = none) :
    s.aonWrite row i 0x10 data false = (s.holdWarm (PWR_MODE_CTL.OCXO_HOLD_WARM.get data = 1)).modeRequest
      (PWR_MODE_CTL.REQ_MODE.get data) false := by
  have hoven := s.holdWarm_ovenOnly (PWR_MODE_CTL.OCXO_HOLD_WARM.get data = 1)
  unfold State.aonWrite State.hostMode
  simp only [if_true, Bool.false_eq_true, if_false]
  generalize s.holdWarm (PWR_MODE_CTL.OCXO_HOLD_WARM.get data = 1) = u at hoven ⊢
  have hu : u.smbData 0x10 = none := by
    unfold State.smbData at hs ⊢
    rw [hoven.pwr.smbLast, hoven.within.now]
    exact hs
  rw [hu]
  simp only [ite_self]

/-- A write of PWR_MODE_CTL over SMBus (R66, R69, R74). -/
theorem smbRegisterWrite_mode {data : Word} {pec : Option Byte} {s : State} (hup : s.pwr.aon = .up)
    (hi : s.pwr.isoAt ≠ some s.now) (hr : s.pwr.resetAt ≠ some s.now) (hpec : s.pecGood 0x10 data pec) :
    Yields (.smbRegisterWrite 6 0x10 data pec) s fun t => s.ModeWritten t data := by
  obtain ⟨row, i, hrow⟩ := regAt_modeCtl_some
  rw [yields_iff, smbRegisterWrite_reaches (ofs := 0x10) (row := row) (i := i) hup hrow hpec, ends_fin]
  show s.ModeWritten (s.aonWrite row i 0x10 data true).settle data
  rw [State.aonWrite_mode_smbus]
  exact ((s.modeWrite_written data true hi hr).after (State.noteSmb_within ..) (by decide +kernel) (by decide +kernel)).after
    (State.settle_within _) (by decide +kernel) (by decide +kernel)

/-- A write of PWR_MODE_CTL over PCIe, with none over SMBus in its clock. -/
theorem registerWrite_mode {data : BitVec 64} {s : State} (hl : s.gr.linkUp = true) (h7 : s.railOk 7 = true)
    (hi : s.pwr.isoAt ≠ some s.now) (hr : s.pwr.resetAt ≠ some s.now) (hs : s.smbData 0x10 = none) :
    Yields (.registerWrite false 0x01D00010 4 data) s fun t => s.ModeWritten t (data.setWidth 32) := by
  obtain ⟨row, i, hrow⟩ := regAt_modeCtl_some
  have hexec := registerWrite_bar0 (a := 0x1D00010) (data := data) hl (by decide) (by decide) hrow h7
  have hword : s.hostWord row i 0x1D00010 (data.setWidth 32) = s.aonWrite row i 0x10 (data.setWidth 32) false := by
    unfold State.hostWord
    rw [if_pos (by decide)]
  rw [yields_iff]
  show Ends (exec (.registerWrite false (BitVec.ofNat 32 0x1D00010) 4 data) s) _
  rw [hexec, ends_fin, hword, s.aonWrite_mode_host row i _ hs]
  exact (s.modeWrite_written _ false hi hr).after (State.settle_within _) (by decide +kernel) (by decide +kernel)

end Sys2Proof.Machine
end

section
/-! PROOFS. A write of PWR_RESET_CTL over SMBus (R87, R94), for O19. -/
namespace Sys2Proof.Machine

/-! ### What a switch reset keeps -/

theorem foldl_set_get_ne {f : SMap Word → Nat → Word} {r : Nat → Word} {l : List Nat} {a : Nat} (h : ∀ k ∈ l, k ≠ a)
    (m : SMap Word) (d : Word) : SMap.get d (l.foldl (fun x k => SMap.set (r k) x k (f x k)) m) a = SMap.get d m a := by
  induction l generalizing m with
  | nil => rfl
  | cons k l ih =>
    rw [List.foldl_cons, ih (fun x hx => h x (.tail _ hx)), SMap.get_set_ne _ _ _ _ (h k (.head _)).symm]

/-- A register outside the named groups keeps its value when their sets are copied. -/
theorem copySets_get_ne (groups : Nat) (src m : SMap Word) {a : Nat} (h : groupHit groups a = false) (d : Word) :
    SMap.get d (copySets groups src m) a = SMap.get d m a := by
  refine foldl_set_get_ne (fun k hk he => ?_) m d
  have := (List.mem_filter.1 (List.mem_dedup.1 hk)).2
  rw [he, h] at this
  cases this

theorem State.reg_eq {s t : State} (h : t.regs = s.regs) (r : Reg) (i : Nat) : t.reg r i = s.reg r i := by
  unfold State.reg
  rw [h]

/-- From `s` to `t` the reset causes and the mode are as before. -/
structure State.ResetKept (s t : State) : Prop where
  cause : t.reg R.PWR_RESET_CAUSE 0 = s.reg R.PWR_RESET_CAUSE 0
  mode : t.mode = s.mode

theorem State.ResetKept.refl (s : State) : s.ResetKept s := ⟨rfl, rfl⟩

theorem State.ResetKept.trans {s t u : State} (h : s.ResetKept t) (h' : t.ResetKept u) : s.ResetKept u :=
  ⟨h'.cause.trans h.cause, h'.mode.trans h.mode⟩

theorem State.ResetKept.of_within {sc : Scope} {s t : State} (h : Within sc s t)
    (hs : (sc.spares R.PWR_RESET_CAUSE && sc.spares R.PWR_MODE_CTL) = true) : s.ResetKept t := by
  obtain ⟨h1, h2⟩ := Bool.and_eq_true_iff.1 hs
  exact ⟨h.reg_same h1 0, h.rd_same (f := PWR_MODE_CTL.CUR_MODE) h2 0⟩

theorem State.loseSwitch_resetKept (s : State) : s.ResetKept s.loseSwitch := by
  have hlose : s.ResetKept (s.lose 6).optLevels :=
    (State.ResetKept.of_within (s.loseGrange_within) (by decide +kernel)).trans
      (.of_within (State.optLevels_within _) (by decide +kernel))
  have hreg (u : State) (regs : SMap Word) (r : Reg) (h : groupHit 0x403 (r.at 0) = false) :
      ({ u with regs := copySets 0x403 regs u.regs } : State).reg r 0 = u.reg r 0 := by
    unfold State.reg
    split
    · exact copySets_get_ne _ _ _ h _
    · rfl
  have hcopy (u : State) (regs : SMap Word) : u.ResetKept { u with regs := copySets 0x403 regs u.regs } :=
    ⟨hreg u regs R.PWR_RESET_CAUSE (by decide), congrArg PWR_MODE_CTL.CUR_MODE.get (hreg u regs R.PWR_MODE_CTL (by decide))⟩
  have hcom (u : State) (v : SMap Word) : u.ResetKept { u with committed := v } :=
    ⟨State.reg_eq rfl _ _, State.rd_eq rfl _ _⟩
  have hwdt (u : State) (v : Nat) : u.ResetKept (u.wr MBX_GRANGE_STAT.WDT_CNT 0 v) :=
    .of_within (State.wr_within ..) (by decide +kernel)
  unfold State.loseSwitch
  extract_lets wdt regs com u v
  have huv : u.ResetKept v := hcopy u regs
  have h1 : s.ResetKept { v with committed := copySets 0x403 com v.committed } := (hlose.trans huv).trans (hcom v _)
  exact h1.trans (hwdt _ wdt)

theorem State.railOff_resetKept (s : State) (r : Nat) : s.ResetKept (s.railOff r) :=
  .of_within (s.railOff_within r) (by decide +kernel)

theorem State.resetMode_mode (s : State) : s.resetMode.mode = mTIMEKEEP := by
  have hcur : (s.wr PWR_MODE_CTL.CUR_MODE 0 mTIMEKEEP).mode = mTIMEKEEP :=
    State.rd_wr_self (f := PWR_MODE_CTL.CUR_MODE) s (by decide) (by decide) _
  have htrans (u : State) : (u.wr PWR_MODE_CTL.IN_TRANSITION 0 0).mode = u.mode :=
    State.rd_wr_disj (f := PWR_MODE_CTL.IN_TRANSITION) (g := PWR_MODE_CTL.CUR_MODE) u (by decide) (by decide) rfl (by decide) 0 0 0
  have hreq (u : State) : (u.wr PWR_MODE_CTL.REQ_MODE 0 mTIMEKEEP).mode = u.mode :=
    State.rd_wr_disj (f := PWR_MODE_CTL.REQ_MODE) (g := PWR_MODE_CTL.CUR_MODE) u (by decide) (by decide) rfl (by decide) 0 0 _
  have hpwr (u : State) (f : Pwr → Pwr) : (u.updPwr f).mode = u.mode := State.rd_eq rfl _ _
  unfold State.resetMode
  extract_lets u v
  split
  · exact hcur
  · exact (hreq v).trans ((htrans _).trans ((hpwr u _).trans hcur))

theorem State.resetCause_cause (s : State) (b : Nat) :
    (s.resetCause b).reg R.PWR_RESET_CAUSE 0 = s.reg R.PWR_RESET_CAUSE 0 ||| BitVec.ofNat 32 (2 ^ b) := by
  unfold State.resetCause
  rw [State.logAdd_reg, State.reg_setReg_self _ (by decide)]

theorem State.resetCause_mode (s : State) (b : Nat) : (s.resetCause b).mode = s.mode :=
  (s.resetCause_within b).rd_same (f := PWR_MODE_CTL.CUR_MODE) (by decide +kernel) 0

/-- A switch reset notes its cause and takes FORWARD and CALIBRATE to TIMEKEEP (R87). -/
theorem State.switchReset_effect (s : State) :
    s.switchReset.reg R.PWR_RESET_CAUSE 0 = s.reg R.PWR_RESET_CAUSE 0 ||| 8 ∧ (s.fwdMode = true → s.switchReset.mode = mTIMEKEEP) := by
  unfold State.switchReset
  split
  · rename_i hm
    refine ⟨State.reg_setReg_self _ (by decide) _, fun hf => ?_⟩
    simp only [Bool.or_eq_true, decide_eq_true_eq] at hm
    simp only [State.fwdMode, Bool.or_eq_true, decide_eq_true_eq] at hf
    rcases hm with hm | hm <;> rw [hm] at hf <;> exact absurd hf (by decide)
  · extract_lets a wasFwd cut b c d e f g h i j
    have hfwd : wasFwd = s.fwdMode := by
      unfold wasFwd State.fwdMode
      rw [s.resetCause_mode 3]
    have hb : a.ResetKept b := by
      unfold b
      split
      · exact .of_within (State.relinquish_within ..) (by decide +kernel)
      · exact .refl a
    have he : a.ResetKept e :=
      ((hb.trans (.of_within (State.abortCal_within b) (by decide +kernel))).trans
        (.of_within (State.wr_within ..) (by decide +kernel))).trans d.loseSwitch_resetKept
    have hg : a.ResetKept g := (he.trans (e.railOff_resetKept 0)).trans (.of_within (State.updPwr_within ..) (by decide +kernel))
    have hoff : g.ResetKept ([1, 2, 3].foldl State.railOff g) :=
      ((g.railOff_resetKept 1).trans (State.railOff_resetKept _ 2)).trans (State.railOff_resetKept _ 3)
    have hline (u : State) : u.ResetKept u.dropLineRefs := .of_within u.dropLineRefs_within (by decide +kernel)
    have hh : h.reg R.PWR_RESET_CAUSE 0 = a.reg R.PWR_RESET_CAUSE 0 ∧ (wasFwd = true → h.mode = mTIMEKEEP) := by
      unfold h
      by_cases hw : wasFwd = true
      · rw [if_pos hw]
        refine ⟨?_, fun _ => (hline _).mode.trans (State.resetMode_mode _)⟩
        rw [(hline _).cause, (State.resetMode_within _).reg_same (by decide +kernel), hoff.cause, hg.cause]
      · rw [if_neg hw]
        exact ⟨by rw [g.resetHeld_within.reg_same (by decide +kernel), hg.cause], fun h => absurd h hw⟩
    have hj : h.ResetKept j := by
      have hi : h.ResetKept i := .of_within h.holdAll_within (by decide +kernel)
      unfold j
      split
      · exact (hi.trans (.of_within i.enterPairing_within (by decide +kernel))).trans
          (.of_within (State.mirrorStart_within _) (by decide +kernel))
      · exact hi
    have hend : h.ResetKept ((j.startBoot true).updBoot fun b => { b with relink := true }) :=
      (hj.trans (.of_within (j.startBoot_within true) (by decide +kernel))).trans
        (.of_within (State.updBoot_within ..) (by decide +kernel))
    refine ⟨?_, fun hf => hend.mode.trans (hh.2 (hfwd.trans hf))⟩
    rw [hend.cause, hh.1]
    exact s.resetCause_cause 3

/-! ### The module reset -/

theorem State.fromReset_effect (s : State) (straps : Nat) :
    (s.fromReset straps).mode = mDORMANT ∧ (s.fromReset straps).mem = [] ∧ (s.fromReset straps).committed = [] := by
  have key (r : State) (hregs : r.regs = []) (hmem : r.mem = []) (hcom : r.committed = []) (v : Nat) :
      (r.wr PWR_SMB_STAT.ADDR 0 v).feedRegs.mode = mDORMANT ∧ (r.wr PWR_SMB_STAT.ADDR 0 v).feedRegs.mem = [] ∧
        (r.wr PWR_SMB_STAT.ADDR 0 v).feedRegs.committed = [] := by
    have hmode : r.mode = mDORMANT := by
      unfold State.mode State.rd State.reg
      rw [hregs]
      decide
    have hw : Within ⟨[], [R.PWR_SMB_STAT, R.PWR_FEED_STAT], []⟩ r (r.wr PWR_SMB_STAT.ADDR 0 v).feedRegs :=
      (State.feedRegs_within _).step ((State.wr_within ..).step (.refl _ _) (by decide +kernel)) (by decide +kernel)
    exact ⟨(hw.rd_same (f := PWR_MODE_CTL.CUR_MODE) (by decide +kernel) 0).trans hmode,
      (hw.part .mem (by decide)).trans hmem, (hw.part .committed (by decide)).trans hcom⟩
  unfold State.fromReset
  exact key _ rfl rfl rfl _

/-- What the module reset writes after the return to reset, its cause apart. -/
def afterResetScope : Scope := ⟨[.pwr, .boot, .evt], [R.EVT_LASTING, R.EVT_FCNT, R.PWR_FEED_STAT, R.GRN_SILO_STAT], []⟩

/-- The module reset notes its cause and leaves DORMANT, with no command and no committed copy (R87). -/
theorem State.moduleReset_effect (s : State) (cause : Nat) :
    (s.moduleReset cause).mode = mDORMANT ∧ (s.moduleReset cause).mem = [] ∧ (s.moduleReset cause).committed = [] ∧
      (s.moduleReset cause).reg R.PWR_RESET_CAUSE 0 = s.reg R.PWR_RESET_CAUSE 0 ||| BitVec.ofNat 32 (2 ^ cause) := by
  obtain ⟨hmode, hmem, hcom⟩ := s.fromReset_effect s.pwr.straps
  unfold State.moduleReset
  extract_lets a b c d e f g h
  have hb : Within afterResetScope (s.fromReset s.pwr.straps) b :=
    (State.updPwr_within ..).step ((State.tapLeave_within _).step (.refl _ _) (by decide +kernel)) (by decide +kernel)
  have hd : Within afterResetScope (s.fromReset s.pwr.straps) d :=
    Within.foldl ((State.setReg_within ..).step hb (by decide +kernel))
      fun x k hx => (State.setReg_within ..).step hx (by decide +kernel)
  have hend (k : Evt → Evt) : Within afterResetScope e (h.updEvt k) :=
    (State.updEvt_within ..).step ((State.wr_within ..).step ((State.updBoot_within ..).step
      ((State.wrB_within ..).step (.refl _ _) (by decide +kernel)) (by decide +kernel)) (by decide +kernel)) (by decide +kernel)
  have he := State.setReg_within d R.PWR_RESET_CAUSE 0 (s.reg R.PWR_RESET_CAUSE 0 ||| BitVec.ofNat 32 (2 ^ cause))
  have hmode' : ∀ {u v : State} {sc : Scope}, Within sc u v → sc.spares R.PWR_MODE_CTL = true → v.mode = u.mode :=
    fun h hs => h.rd_same (f := PWR_MODE_CTL.CUR_MODE) hs 0
  refine ⟨?_, ?_, ?_, ?_⟩
  · rw [hmode' (hend _) (by decide +kernel), hmode' he (by decide +kernel), hmode' hd (by decide +kernel), hmode]
  · exact ((hend _).part .mem (by decide)).trans ((he.part .mem (by decide)).trans ((hd.part .mem (by decide)).trans hmem))
  · exact ((hend _).part .committed (by decide)).trans ((he.part .committed (by decide)).trans ((hd.part .committed (by decide)).trans hcom))
  · rw [(hend _).reg_same (by decide +kernel)]
    exact State.reg_setReg_self d (by decide) _

/-! ### The write -/

/-- A write of PWR_RESET_CTL with the key over SMBus (R87, R94). -/
theorem smbRegisterWrite_reset {data : Word} {pec : Option Byte} {s : State} (hup : s.pwr.aon = .up)
    (hkey : PWR_RESET_CTL.KEY.get data = 0xA5C3) (hpec : s.pecGood 0x4C data pec) :
    Yields (.smbRegisterWrite 6 0x4C data pec) s fun t =>
      (PWR_RESET_CTL.MODULE.get data = 1 → t.mode = mDORMANT ∧ t.mem = [] ∧ t.committed = [] ∧
        t.reg R.PWR_RESET_CAUSE 0 = s.reg R.PWR_RESET_CAUSE 0 ||| 4) ∧
      (PWR_RESET_CTL.MODULE.get data = 0 → PWR_RESET_CTL.SWITCH.get data = 1 →
        t.reg R.PWR_RESET_CAUSE 0 = s.reg R.PWR_RESET_CAUSE 0 ||| 8 ∧ (s.fwdMode = true → t.mode = mTIMEKEEP)) := by
  obtain ⟨row, i, hrow, -⟩ := regAt_of_reg (a := 0x1D0004C) (r := R.PWR_RESET_CTL) (by decide +kernel)
  rw [yields_iff, smbRegisterWrite_reaches (ofs := 0x4C) (row := row) (i := i) hup hrow hpec, ends_fin]
  have hwrite : s.aonWrite row i (0x4C : BitVec 16).toNat data true = (s.resetCtl data).noteSmb 0x4C data := rfl
  have hend : ∀ u : State, u.ResetKept (u.noteSmb 0x4C data).settle := fun u =>
    (State.ResetKept.of_within (u.noteSmb_within ..) (by decide +kernel)).trans
      (.of_within (State.settle_within _) (by decide +kernel))
  rw [hwrite]
  constructor
  · intro hmod
    obtain ⟨h1, h2, h3, h4⟩ := s.moduleReset_effect 2
    have hctl : s.resetCtl data = s.moduleReset 2 := by
      unfold State.resetCtl
      rw [if_neg (by simp [hkey]), if_pos hmod]
    rw [hctl]
    refine ⟨(hend _).mode.trans h1, ?_, ?_, (hend _).cause.trans h4⟩
    · rw [State.settle_mem, (State.noteSmb_within ..).part .mem (by decide), h2]
    · rw [State.settle_committed, (State.noteSmb_within ..).part .committed (by decide), h3]
  · intro hmod hsw
    obtain ⟨h1, h2⟩ := s.switchReset_effect
    have hctl : s.resetCtl data = s.switchReset := by
      unfold State.resetCtl
      rw [if_neg (by simp [hkey]), if_neg (by simp [hmod]), if_pos hsw]
    rw [hctl]
    exact ⟨(hend _).cause.trans h1, fun hf => (hend _).mode.trans (h2 hf)⟩

end Sys2Proof.Machine
end

section
/-! PROOFS. A failing die-to-die transfer (R18, R441, R446), and the statement about bus accesses, O19. -/
namespace Sys2Proof.Machine

/-! ### The replicas through the action of a fault -/

/-- From `s` to `t` the replicas stay frozen or not, and a reload due stays due. -/
structure State.ReplicaKept (s t : State) : Prop where
  frozen : t.evt.frozen = s.evt.frozen
  reloadAt : t.evt.reloadAt = s.evt.reloadAt

theorem State.ReplicaKept.refl (s : State) : s.ReplicaKept s := ⟨rfl, rfl⟩

theorem State.ReplicaKept.trans {s t u : State} (h : s.ReplicaKept t) (h' : t.ReplicaKept u) : s.ReplicaKept u :=
  ⟨h'.frozen.trans h.frozen, h'.reloadAt.trans h.reloadAt⟩

theorem State.ReplicaKept.of_evt {s t : State} (h : t.evt = s.evt) : s.ReplicaKept t := ⟨by rw [h], by rw [h]⟩

theorem State.ReplicaKept.of_within {sc : Scope} {s t : State} (h : Within sc s t) (hp : Part.evt ∉ sc.parts) :
    s.ReplicaKept t := .of_evt (h.part .evt hp)

theorem State.ReplicaKept.foldl {α : Type} {f : State → α → State} (hf : ∀ (s : State) a, s.ReplicaKept (f s a)) (l : List α)
    (s : State) : s.ReplicaKept (l.foldl f s) := foldl_keeps (R := State.ReplicaKept) .refl .trans hf l s

theorem State.logAdd_replicaKept (s : State) (p b c o : Nat) : s.ReplicaKept (s.logAdd p b c o) := by
  unfold State.logAdd
  split
  · exact ⟨rfl, rfl⟩
  · exact .refl s

theorem State.raiseObj_replicaKept (s : State) (e : Ev) (i obj : Nat) : s.ReplicaKept (s.raiseObj e i obj) := by
  unfold State.raiseObj
  extract_lets u
  have hu : s.ReplicaKept u := by
    unfold u
    split
    · exact .of_evt (State.setReg_evt ..)
    · exact .refl s
  exact hu.trans (u.logAdd_replicaKept ..)

theorem State.raise_replicaKept (s : State) (e : Ev) (i : Nat) : s.ReplicaKept (s.raise e i) := s.raiseObj_replicaKept ..

theorem State.count_replicaKept (s : State) (n k : Nat) : s.ReplicaKept (s.count n k) := by
  unfold State.count
  split
  · exact .refl s
  · extract_lets old u
    have hu : s.ReplicaKept u := ⟨rfl, rfl⟩
    split
    · exact hu.trans (u.raiseObj_replicaKept ..)
    · exact hu

theorem State.sendHb_replicaKept (s : State) (relq take : Bool) : s.ReplicaKept (s.sendHb relq take) := by
  unfold State.sendHb
  extract_lets lanes u
  split
  · exact .refl s
  · have hu : s.ReplicaKept u := by
      refine .foldl (fun x i => ?_) lanes s
      extract_lets y
      have hy : x.ReplicaKept y := .of_within (State.onMirror_within ..) (by decide)
      exact (hy.trans (.of_within (State.updMlane_within ..) (by decide))).trans (State.count_replicaKept ..)
    exact hu.trans (.of_within (State.updTwin_within ..) (by decide))

theorem State.relinquish_replicaKept (s : State) (m : Option (Fin 16)) : s.ReplicaKept (s.relinquish m) := by
  unfold State.relinquish
  split
  · exact (State.ReplicaKept.of_within (State.updTwin_within ..) (by decide)).trans
      ((State.ReplicaKept.of_within (State.wr_within ..) (by decide)).trans (State.sendHb_replicaKept ..))
  · exact .refl s

theorem State.tdcNote_replicaKept (s : State) : s.ReplicaKept s.tdcNote := by
  unfold State.tdcNote
  extract_lets st wait was u
  have hu : s.ReplicaKept u := ((State.ReplicaKept.of_within (State.wr_within ..) (by decide)).trans
    (.of_within (State.wr_within ..) (by decide))).trans (.of_within (State.wrB_within ..) (by decide))
  split
  · exact hu.trans (u.raise_replicaKept ..)
  · exact hu

theorem State.abortCal_replicaKept (s : State) : s.ReplicaKept s.abortCal := by
  unfold State.abortCal
  split
  · extract_lets u v w x
    have hu : s.ReplicaKept u := (State.ReplicaKept.of_within (State.wr_within ..) (by decide)).trans
      (.of_within (State.wr_within ..) (by decide))
    have hw : s.ReplicaKept w := (hu.trans (.of_within (State.updTdc_within u _) (by decide))).trans
      (.of_within (State.updCal_within v _) (by decide))
    have hx : s.ReplicaKept x := hw.trans (.foldl (fun y k => .of_within (State.updPath_within ..) (by decide)) _ w)
    exact ((hx.trans x.tdcNote_replicaKept).trans (.of_within (State.wr_within ..) (by decide))).trans
      (State.raise_replicaKept ..)
  · exact .refl s

theorem State.startTrans_replicaKept (s : State) (m : Fin 6) : s.ReplicaKept (s.startTrans m) := by
  unfold State.startTrans
  extract_lets u1 u2 u3 u4 need
  have h1 : s.ReplicaKept u1 := by
    unfold u1
    split
    · exact s.relinquish_replicaKept none
    · exact .refl s
  have h3 : s.ReplicaKept u3 := (h1.trans (.of_within (State.wr_within ..) (by decide))).trans
    (.of_within (State.updPwr_within u2 _) (by decide))
  have h4 : s.ReplicaKept u4 := by
    unfold u4
    split
    · exact (h3.trans (.of_within (State.wr_within ..) (by decide))).trans (.of_within (State.wr_within ..) (by decide))
    · exact h3
  have hramp (x : State) (r : Nat) : x.ReplicaKept (if testBit need r then x.rampRail r else x) :=
    .of_within (.ite (x.rampRail_within r) (.refl _ _)) (by decide)
  split
  · exact h4
  · exact h4.trans (.foldl hramp _ u4)

theorem State.isolate_replicaKept (s : State) (cause : Nat) : s.ReplicaKept (s.isolate cause) := by
  unfold State.isolate
  split
  · exact .refl s
  · extract_lets u v w
    have hu : s.ReplicaKept u := .of_within (State.wr_within ..) (by decide)
    have hv : s.ReplicaKept v := by
      unfold v
      split
      · exact hu
      · exact hu.trans (.of_within (State.updPwr_within ..) (by decide))
    split
    · exact hv
    · exact ((hv.trans (.of_within (State.updPwr_within ..) (by decide))).trans w.abortCal_replicaKept).trans
        (State.startTrans_replicaKept ..)

/-! ### Faults of a class -/

/-- A saturating counter takes one more. -/
theorem State.addSat_rd (s : State) {f : Fld} {i : Nat} (hf : f.fits = true) (hi : i < f.reg.count) :
    (s.addSat f i 1).rd f i = min (s.rd f i + 1) (2 ^ f.w - 1) := by
  refine (State.rd_wr_self s hf hi _).trans (Nat.mod_eq_of_lt ?_)
  have := Nat.two_pow_pos f.w
  omega

theorem State.transientFault_count (s : State) {c : Nat} (hc : c < R.EVT_FCNT.count) :
    (s.transientFault c).rd EVT_FCNT.TRANSIENT c = min (s.rd EVT_FCNT.TRANSIENT c + 1) 1023 :=
  ((State.raise_within ..).rd_same (by decide +kernel) c).trans (s.addSat_rd (f := EVT_FCNT.TRANSIENT) (by decide) hc)

/-- A lasting fault is counted, and what follows of it leaves the replicas as they are. -/
theorem State.lastingFault_effect (s : State) {c : Nat} (hc : c < R.EVT_FCNT.count) (detail : Nat) :
    (s.lastingFault c detail true).rd EVT_FCNT.LASTING c = min (s.rd EVT_FCNT.LASTING c + 1) 1023 ∧
      s.ReplicaKept (s.lastingFault c detail true) := by
  have hcount := s.addSat_rd (f := EVT_FCNT.LASTING) (i := c) (by decide) hc
  unfold State.lastingFault
  extract_lets u v w n x y
  have hcnt : ∀ {sc : Scope} {a b : State}, Within sc a b → sc.spares R.EVT_FCNT = true →
      b.rd EVT_FCNT.LASTING c = a.rd EVT_FCNT.LASTING c := fun h hs => h.rd_same hs c
  have hv : v.rd EVT_FCNT.LASTING c = u.rd EVT_FCNT.LASTING c ∧ s.ReplicaKept v := by
    have hu : s.ReplicaKept u := .of_evt (State.addSat_evt ..)
    unfold v
    split
    · exact ⟨hcnt (State.setReg_within ..) (by decide +kernel), hu.trans (.of_evt (State.setReg_evt ..))⟩
    · exact ⟨rfl, hu⟩
  have hw : w.rd EVT_FCNT.LASTING c = u.rd EVT_FCNT.LASTING c ∧ s.ReplicaKept w :=
    ⟨(hcnt (State.raiseObj_within ..) (by decide +kernel)).trans hv.1, hv.2.trans (v.raiseObj_replicaKept ..)⟩
  have hx : w.ReplicaKept x := ⟨rfl, rfl⟩
  have hy : y.rd EVT_FCNT.LASTING c = u.rd EVT_FCNT.LASTING c ∧ s.ReplicaKept y :=
    ⟨((hcnt (State.wr_within ..) (by decide +kernel)).trans (hcnt (State.updEvt_within w _) (by decide +kernel))).trans hw.1,
      (hw.2.trans hx).trans (.of_within (State.wr_within ..) (by decide))⟩
  rw [if_pos rfl]
  split
  · exact ⟨((hcnt (y.isolate_within 3) (by decide +kernel)).trans hy.1).trans hcount, hy.2.trans (y.isolate_replicaKept 3)⟩
  · exact ⟨hy.1.trans hcount, hy.2⟩

theorem State.freeze_frozen (s : State) : s.freeze.evt.frozen = true := by
  unfold State.freeze
  split
  · assumption
  · simp [State.updEvt]

/-- The die-to-die interface gives up: counted, the replicas frozen, no reload under way (R18, R446). -/
theorem State.d2dFault_effect (s : State) :
    s.d2dFault.rd EVT_FCNT.LASTING 5 = min (s.rd EVT_FCNT.LASTING 5 + 1) 1023 ∧ s.d2dFault.evt.frozen = true ∧
      s.d2dFault.evt.reloadAt = none := by
  unfold State.d2dFault
  have hfreeze := s.freeze_frozen
  have hcnt : s.freeze.rd EVT_FCNT.LASTING 5 = s.rd EVT_FCNT.LASTING 5 := s.freeze_within.rd_same (by decide +kernel) 5
  generalize s.freeze = u at hfreeze hcnt ⊢
  obtain ⟨h1, h2⟩ := (u.updEvt fun e => { e with reloadAt := none }).lastingFault_effect (c := 5) (by decide) 0
  refine ⟨h1.trans ?_, h2.frozen.trans hfreeze, h2.reloadAt⟩
  rw [← hcnt]
  rfl

end Sys2Proof.Machine
end

section
/-! PROOFS. The statement about bus accesses, O19. -/
namespace Sys2Proof.Machine

theorem State.settle_replicaKept (s : State) : s.ReplicaKept s.settle := by
  have hvec (u : State) : u.ReplicaKept u.vectors := by
    unfold State.vectors
    extract_lets new old v
    have hv : u.ReplicaKept v := ⟨rfl, rfl⟩
    split
    · exact hv
    · refine hv.trans (.foldl (fun x k => ?_) _ v)
      split
      · exact .of_within (x.msix_within k) (by decide)
      · exact .refl x
  exact (((State.ReplicaKept.of_within s.freeVersions_within (by decide)).trans
    (.of_within (State.noteFences_within _) (by decide))).trans (.of_within (State.noteAwake_within _) (by decide))).trans (hvec _)

theorem d2dTransferFail_effect (retryGood : Bool) (s : State) (hrun : s.tickRun = true) :
    Yields (.d2dTransferFail retryGood) s fun t =>
      if retryGood then t.rd EVT_FCNT.TRANSIENT 5 = min (s.rd EVT_FCNT.TRANSIENT 5 + 1) 1023
      else t.rd EVT_FCNT.LASTING 5 = min (s.rd EVT_FCNT.LASTING 5 + 1) 1023 ∧ t.evt.frozen = true ∧ t.evt.reloadAt = none := by
  have hexec : exec (.d2dTransferFail retryGood) s = execD2dTransferFail retryGood s := rfl
  rw [yields_iff, hexec]
  unfold execD2dTransferFail
  rw [if_neg (by simp [hrun])]
  cases retryGood with
  | true =>
    simp only [if_true]
    rw [ends_fin, State.settle_rd _ (by decide +kernel)]
    exact s.transientFault_count (by decide)
  | false =>
    obtain ⟨h1, h2, h3⟩ := s.d2dFault_effect
    simp only [Bool.false_eq_true, if_false]
    rw [ends_fin, State.settle_rd _ (by decide +kernel)]
    have hs := s.d2dFault.settle_replicaKept
    exact ⟨h1, hs.frozen.trans h2, hs.reloadAt.trans h3⟩

/-! ### Two registers with a row of their own -/

/-- GROUPS takes the groups written (R10). -/
theorem registerWrite_groups (w : Word) (s : State) (hl : s.gr.linkUp = true) (h6 : s.railOk 6 = true) (hw : w.toNat < 4096) :
    Yields (.registerWrite false (BitVec.ofNat 32 (R.MBX_COMMIT_GROUPS.at 0)) 4 (w.setWidth 64)) s fun t =>
      t.rd MBX_COMMIT_GROUPS.GROUPS = w.toNat := by
  have hat : regAt (R.MBX_COMMIT_GROUPS.at 0) = some (⟨R.MBX_COMMIT_GROUPS, [MBX_COMMIT_GROUPS.GROUPS]⟩, 0) := by decide +kernel
  have hword : s.hostWord ⟨R.MBX_COMMIT_GROUPS, [MBX_COMMIT_GROUPS.GROUPS]⟩ 0 (R.MBX_COMMIT_GROUPS.at 0) w =
      (s.writeReg ⟨R.MBX_COMMIT_GROUPS, [MBX_COMMIT_GROUPS.GROUPS]⟩ 0 w (R.MBX_COMMIT_GROUPS.at 0 % 2 ^ 32)).resnap := by
    have hlt : decide (4096 ≤ w.toNat) = false := by simpa using hw
    unfold State.hostWord
    simp only [hlt]
    rfl
  have hget : MBX_COMMIT_GROUPS.GROUPS.get w = w.toNat := by
    simp only [Fld.get, MBX_COMMIT_GROUPS.GROUPS]
    omega
  rw [yields_iff, registerWrite_bar0 hl (by decide) (by decide) hat h6, BitVec.setWidth_setWidth_of_le _ (by decide),
    BitVec.setWidth_eq, hword, ends_fin, State.settle_rd _ (by decide +kernel), (State.resnap_within _).rd_same (by decide +kernel)]
  have h := s.writeReg_wrote hat (data := w) rfl (R.MBX_COMMIT_GROUPS.at 0 % 2 ^ 32) false
  refine (congrArg MBX_COMMIT_GROUPS.GROUPS.get h.word).trans ?_
  rw [regAt_writeWord_get_rw hat (List.mem_singleton.2 rfl) rfl, if_pos (show MBX_COMMIT_GROUPS.GROUPS.legal _ = true from rfl), hget]

theorem State.path_eq {s t : State} (h : t.cal = s.cal) (k : Nat) : t.path k = s.path k := by
  unfold State.path
  rw [h]

theorem State.path_updPath_self (s : State) (k : Nat) (f : Path → Path) : (s.updPath k f).path k = f (s.path k) :=
  SMap.get_upd_self ..

/-- A write of CAL_PATH_BASE gives the selected path its shadow BASE (R439). -/
theorem registerWrite_pathBase (w : Word) (s : State) (hl : s.gr.linkUp = true) (h4 : s.railOk 4 = true)
    (hsel : s.rd CAL_PATH_SEL.INDEX ≤ 570) :
    Yields (.registerWrite false (BitVec.ofNat 32 (R.CAL_PATH_BASE.at 0)) 4 (w.setWidth 64)) s fun t =>
      (t.path (s.rd CAL_PATH_SEL.INDEX)).baseSh = w.toInt := by
  obtain ⟨row, i, hrow, hreg⟩ := regAt_of_reg (a := R.CAL_PATH_BASE.at 0) (r := R.CAL_PATH_BASE) (by decide +kernel)
  have hword : s.hostWord row i (R.CAL_PATH_BASE.at 0) w =
      (s.updPath (s.rd CAL_PATH_SEL.INDEX) fun p => { p with baseSh := w.toInt }).resnap := by
    unfold State.hostWord
    simp only [hreg, if_pos hsel]
    rfl
  rw [yields_iff, registerWrite_bar0 hl (by decide) (by decide) hrow h4, BitVec.setWidth_setWidth_of_le _ (by decide),
    BitVec.setWidth_eq, hword, ends_fin]
  rw [State.path_eq (State.settle_cal _), State.path_eq ((State.resnap_within _).part .cal (by decide)), State.path_updPath_self]

/-- Settles O19: each kind of access by the lemma about it. -/
theorem busActs : Obligations.BusActs := by
  refine ⟨?_, ?_, ?_, ?_, ?_, ?_, ?_, ?_, ?_, ?_, d2dTransferFail_effect⟩
  · intro ofs data pec row i s hup hrow h10 h4c hw hpec
    obtain ⟨t, ht, h⟩ := smbRegisterWrite_wrote hup hrow h10 h4c hw hpec
    exact ⟨t, ht, h.word, h.others.otherRegs, h.committed, h.mem⟩
  · exact fun data pec s hup hi hr hpec => smbRegisterWrite_mode hup hi hr hpec
  · exact fun data pec s hup hkey hpec => smbRegisterWrite_reset hup hkey hpec
  · intro ofs row i s hup hrow
    rw [yields_iff, smbRegisterRead_sends hup hrow, ends_fin]
    exact s.emit_settle_sends _
  · intro s hup hal
    have hexec : exec .smbAlertResponse s = fin (s.emit (.smbData [BitVec.ofNat 8 (2 * s.smbAddr)])) := by
      show execSmbAlertResponse s = _
      unfold execSmbAlertResponse
      rw [if_pos (by simp [hup, hal])]
    rw [yields_iff, hexec, ends_fin]
    exact s.emit_settle_sends _
  · exact fun s => ⟨s.settle, rfl, rfl⟩
  · intro bar2 ofs data row i s hl _ h4 hrow hpres hp hs hw
    obtain ⟨t, ht, h⟩ := registerWrite_wrote hl h4 hrow hpres hp hs hw
    exact ⟨t, ht, h.word, h.others.otherRegs, h.committed, h.mem⟩
  · exact fun data s hl h7 hi hr hs => registerWrite_mode hl h7 hi hr hs
  · exact fun ofs data row rowH i j s hl _ h8 hrow hlo hrowH hpres hp hpH hw hwH =>
      registerWrite_pair hl h8 hrow hlo hrowH hpres hp hpH hw hwH
  · exact fun w s hl => ⟨registerWrite_groups w s hl, registerWrite_pathBase w s hl⟩

end Sys2Proof.Machine
end

section
/-! PROOFS. Mailboxes that end their work at the end of a tick (R98, R99, R101, R108, R436), for O2. -/
namespace Sys2Proof.Machine

/-! ### The states of other mailboxes -/

/-- The state of mailbox `m` as a field of MBX_STATE. -/
def mstFld (m : Nat) : Fld := ⟨R.MBX_STATE, 2 * m, 2, .ro, []⟩

theorem State.mst_eq_rd (s : State) (m : Nat) : s.mst m = s.rd (mstFld m) := by
  unfold State.mst
  rw [show (4 : Nat) ^ m = 2 ^ (2 * m) by rw [Nat.pow_mul]]
  rfl

theorem State.setMst_eq_wr (s : State) (m v : Nat) : s.setMst m v = s.wr (mstFld m) 0 v := by
  unfold State.setMst State.wr Fld.put
  rw [s.mst_eq_rd, show (4 : Nat) ^ m = 2 ^ (2 * m) by rw [Nat.pow_mul]]
  rfl

theorem State.mst_setMst_ne (s : State) {m n : Nat} (hn : n < 16) (h : m ≠ n) (v : Nat) :
    (s.setMst n v).mst m = s.mst m := by
  have hfit : (mstFld n).fits = true := by
    simp [Fld.fits, mstFld]; omega
  have hdis : (mstFld n).disjoint (mstFld m) = true := by
    rcases Nat.lt_or_gt_of_ne h with hlt | hlt
    · exact Bool.or_eq_true_iff.2 (.inr (decide_eq_true (show 2 * m + 2 ≤ 2 * n by omega)))
    · exact Bool.or_eq_true_iff.2 (.inl (decide_eq_true (show 2 * n + 2 ≤ 2 * m by omega)))
  rw [s.setMst_eq_wr, State.mst_eq_rd, State.mst_eq_rd]
  exact State.rd_wr_disj s hfit hdis rfl (by decide : 0 < R.MBX_STATE.stride) 0 0 v

/-! ### What an operation keeps of mailbox `m` -/

/-- From `s` to `t` mailbox `m` is as before: its work, its state and its memory. -/
structure State.MbxKept (m : Nat) (s t : State) : Prop where
  boot : t.boot = s.boot
  mbx : t.mbxAt m = s.mbxAt m
  mst : t.mst m = s.mst m
  mem : ∀ o < 4096, t.mb m o = s.mb m o

theorem State.MbxKept.refl (m : Nat) (s : State) : State.MbxKept m s s := ⟨rfl, rfl, rfl, fun _ _ => rfl⟩

theorem State.MbxKept.trans {m : Nat} {s t u : State} (h : State.MbxKept m s t) (h' : State.MbxKept m t u) :
    State.MbxKept m s u :=
  ⟨h'.boot.trans h.boot, h'.mbx.trans h.mbx, h'.mst.trans h.mst, fun o ho => (h'.mem o ho).trans (h.mem o ho)⟩

theorem State.mst_eq {s t : State} (h : t.reg R.MBX_STATE 0 = s.reg R.MBX_STATE 0) (m : Nat) : t.mst m = s.mst m := by
  unfold State.mst
  rw [h]

theorem State.MbxKept.of_within {sc : Scope} {s t : State} (h : Within sc s t) (m : Nat)
    (hs : (sc.spares R.MBX_STATE && !sc.parts.contains .boot && !sc.parts.contains .gr && !sc.parts.contains .mem) = true) :
    State.MbxKept m s t := by
  simp only [Bool.and_eq_true, Bool.not_eq_true', List.contains_eq_mem, decide_eq_false_iff_not] at hs
  obtain ⟨⟨⟨hstate, hboot⟩, hgr⟩, hmem⟩ := hs
  refine ⟨h.part .boot hboot, ?_, State.mst_eq (h.reg_same hstate 0) m, fun o _ => State.mb_eq (h.part .mem hmem) m o⟩
  unfold State.mbxAt
  rw [show t.gr = s.gr from h.part .gr hgr]

/-- What a mailbox has answered stays. -/
theorem State.MbxKept.answered {m : Fin 16} {s t : State} (h : State.MbxKept m s t) {st : Nat} {res : List Byte}
    (hl : res.length ≤ 4032) (ha : s.answered m st res) : t.answered m st res := by
  obtain ⟨h1, h2, h3, h4⟩ := ha
  have hbytes : ∀ o n, o + n ≤ 4096 → t.mbytes m o n = s.mbytes m o n := fun o n hn => by
    unfold State.mbytes
    exact List.map_congr_left fun i hi => h.mem _ (by have := List.mem_range.1 hi; omega)
  refine ⟨h.mst.trans h1, ?_, ?_, (hbytes _ _ (by omega)).trans h4⟩
  · unfold State.mf at h2 ⊢; rw [hbytes _ _ (by omega), h2]
  · unfold State.mf at h3 ⊢; rw [hbytes _ _ (by omega), h3]

/-! ### A mailbox completes beside another -/

theorem State.setMb_mbxKept (s : State) {m n o : Nat} (h : m ≠ n) {bs : List Byte} (hb : o + bs.length ≤ 4096) :
    State.MbxKept m s (s.setMb n o bs) :=
  ⟨rfl, rfl, rfl, fun p hp => s.mb_setMb_out n m o p bs (by omega)⟩

theorem State.updMbx_mbxKept (s : State) {m n : Nat} (h : m ≠ n) (f : Mbx → Mbx) : State.MbxKept m s (s.updMbx n f) :=
  ⟨rfl, s.mbxAt_updMbx_ne f h, rfl, fun _ _ => rfl⟩

theorem State.setMst_mbxKept (s : State) {m n : Nat} (hn : n < 16) (h : m ≠ n) (v : Nat) :
    State.MbxKept m s (s.setMst n v) :=
  ⟨rfl, rfl, s.mst_setMst_ne hn h v, fun _ _ => rfl⟩

theorem State.msix_mbxKept (s : State) (m v : Nat) : State.MbxKept m s (s.msix v) := by
  have h := s.msix_within v
  refine ⟨h.part .boot (by decide), ?_, State.mst_eq (h.reg_same (by decide +kernel) 0) m,
    fun o _ => State.mb_eq (h.part .mem (by decide)) m o⟩
  unfold State.msix
  split
  · rfl
  · split <;> rfl

theorem State.writeDone_mbxKept (s : State) {m n : Nat} (hn : n < 16) (h : m ≠ n) (st d : Nat)
    (res : List Byte) : State.MbxKept m s (s.writeDone n st d res) := by
  unfold State.writeDone
  extract_lets again st' u irq r u1 u2 u3 u4
  have hlen : r.length ≤ 4032 := (List.length_take_le _ _)
  have hu : State.MbxKept m s u := by
    unfold u
    split
    · exact (State.MbxKept.of_within (State.addSat_within ..) m (by decide +kernel)).trans
        (.of_within (State.transientFault_within ..) m (by decide +kernel))
    · exact .refl m s
  have h2 : State.MbxKept m u u2 := (u.setMb_mbxKept h (by simp [leBytes_length])).trans
    (u1.setMb_mbxKept h (by simp [leBytes_length]; omega))
  have h4 : State.MbxKept m s u4 := ((hu.trans h2).trans (u2.setMst_mbxKept hn h mDONE)).trans (u3.updMbx_mbxKept h _)
  split
  · exact h4.trans (u4.msix_mbxKept m n)
  · exact h4

theorem State.complete_mbxKept (s : State) {m n : Nat} (hn : n < 16) (h : m ≠ n) (st d : Nat)
    (res : List Byte) : State.MbxKept m s (s.complete n st d res) := by
  unfold State.complete
  split
  · exact s.updMbx_mbxKept h _
  · exact s.writeDone_mbxKept hn h st d res

/-! ### A repeated execution completes -/

/-- The mailbox words and MBX_STATE are the same. -/
structure State.SameView (s t : State) : Prop where
  mem : t.mem = s.mem
  state : t.reg R.MBX_STATE 0 = s.reg R.MBX_STATE 0

theorem State.SameView.answered {s t : State} (h : s.SameView t) {m : Fin 16} {st : Nat} {res : List Byte}
    (ha : s.answered m st res) : t.answered m st res := by
  obtain ⟨h1, h2, h3, h4⟩ := ha
  have hb : t.mbytes m 64 res.length = s.mbytes m 64 res.length := by unfold State.mbytes State.mb; rw [h.mem]
  exact ⟨(State.mst_eq h.state m).trans h1, (State.mf_eq h.mem _ _ _).trans h2, (State.mf_eq h.mem _ _ _).trans h3, hb.trans h4⟩

/-- The end of a mailbox command without the mark of a repetition. -/
def State.writeEnd (s : State) (m st d : Nat) (res : List Byte) : State :=
  let u := ((s.setMb m 8 (leBytes 2 st ++ leBytes 2 (res.take 4032).length ++ leBytes 4 d)).setMb m 24
    (leBytes 8 s.tick ++ List.replicate 32 0 ++ res.take 4032)).setMst m mDONE
  let v := u.updMbx m fun b =>
    { b with job := none, retry := false, final := false, go := false, late := none, met := none, heldAt := none }
  if testBit (s.mflags m) 1 then v.msix m else v

theorem State.writeDone_first (s : State) (m st d : Nat) (res : List Byte) (h : (s.mbxAt m).retry = false) :
    s.writeDone m st d res = s.writeEnd m st d res := by
  unfold State.writeDone State.writeEnd
  simp only [h, Bool.and_false, Bool.false_eq_true, if_false]
  rfl

/-- A repeated execution that succeeds counts as recovered (R108). -/
theorem State.writeDone_again (s : State) (m d : Nat) (res : List Byte) (h : (s.mbxAt m).retry = true) :
    s.writeDone m ST_OK d res =
      ((s.addSat MBX_RETRY_STAT.TRANSIENT_CNT 0 1).transientFault 7).writeEnd m ST_TRANSIENT_RECOVERED d res := by
  unfold State.writeDone State.writeEnd
  simp only [h, Bool.and_true, decide_true, if_true]
  rfl

/-- What a mailbox shows once done does not depend on its mark of a repetition. -/
theorem State.writeEnd_view (s : State) (m st d : Nat) (res : List Byte) (f : Mbx → Mbx) :
    ((s.updMbx m f).writeEnd m st d res).SameView (s.writeEnd m st d res) := by
  have hmsix : ∀ (u : State) (b : Bool), u.SameView (if b then u.msix m else u) ∧ (if b then u.msix m else u).SameView u := by
    intro u b
    split
    · have h := u.msix_within m
      exact ⟨⟨h.part .mem (by decide), h.reg_same (by decide +kernel) 0⟩,
        ⟨(h.part .mem (by decide)).symm, (h.reg_same (by decide +kernel) 0).symm⟩⟩
    · exact ⟨⟨rfl, rfl⟩, ⟨rfl, rfl⟩⟩
  unfold State.writeEnd
  extract_lets u v u' v'
  have huv : v.SameView v' := ⟨rfl, rfl⟩
  have h1 := (hmsix v (testBit ((s.updMbx m f).mflags m) 1)).2
  have h2 := (hmsix v' (testBit (s.mflags m) 1)).1
  exact ⟨h2.mem.trans (huv.mem.trans h1.mem), h2.state.trans (huv.state.trans h1.state)⟩

/-- A command that ends its work answers, marked as recovered where its execution was a repeated one. -/
theorem State.writeDone_answered (s : State) (m : Fin 16) (d : Nat) (res : List Byte) (hb : s.boot.running = false)
    (hl : res.length ≤ 4032) :
    (s.writeDone m ST_OK d res).answered m (if (s.mbxAt m).retry then ST_TRANSIENT_RECOVERED else ST_OK) res := by
  have hplain (u : State) (hb : u.boot.running = false) (hr : (u.mbxAt m).retry = false) (st : Nat) (hs : st < 65536) :
      (u.writeEnd m st d res).answered m st res := by
    have h := u.complete_answered m st d res hb hr hs hl
    unfold State.complete at h
    rw [if_neg (by simp [hb]), u.writeDone_first m st d res hr] at h
    exact h
  cases hr : (s.mbxAt m).retry with
  | false =>
    rw [s.writeDone_first m _ d res hr]
    exact hplain s hb hr ST_OK (by decide)
  | true =>
    rw [s.writeDone_again m d res hr]
    generalize hu : (s.addSat MBX_RETRY_STAT.TRANSIENT_CNT 0 1).transientFault 7 = u
    have hboot : u.boot = s.boot := by
      rw [← hu, (State.transientFault_within ..).part .boot (by decide), State.addSat_boot]
    refine (u.writeEnd_view m _ d res fun b => { b with retry := false }).answered (hplain _ ?_ ?_ _ (by decide))
    · show u.boot.running = false
      rw [hboot, hb]
    · rw [State.mbxAt_updMbx_self]

end Sys2Proof.Machine
end

section
/-! PROOFS. The traces that end with a tick (R322, R436, R438), for O2. -/
namespace Sys2Proof.Machine

/-! ### The clock of domain 0 -/

/-- From `s` to `t` the domains run on as before. -/
structure State.ClockKept (s t : State) : Prop where
  now : t.now = s.now
  pwr : t.pwr = s.pwr
  doms : t.tb.doms = s.tb.doms
  warmed : t.tb.warmed = s.tb.warmed
  com : ∀ r ∈ [R.TBS_DOM_CFG, R.TBS_DOM_OFS_S, R.TBS_DOM_OFS_NS], ∀ i, t.comReg r i = s.comReg r i

theorem State.ClockKept.trans {s t u : State} (h : s.ClockKept t) (h' : t.ClockKept u) : s.ClockKept u :=
  ⟨h'.now.trans h.now, h'.pwr.trans h.pwr, h'.doms.trans h.doms, h'.warmed.trans h.warmed,
    fun r hr i => (h'.com r hr i).trans (h.com r hr i)⟩

theorem State.comReg_eq {s t : State} (h : t.committed = s.committed) (r : Reg) (i : Nat) : t.comReg r i = s.comReg r i := by
  unfold State.comReg
  rw [h]

theorem State.ClockKept.refl (s : State) : s.ClockKept s := ⟨rfl, rfl, rfl, rfl, fun _ _ _ => rfl⟩

theorem State.ClockKept.of_within {sc : Scope} {s t : State} (h : Within sc s t)
    (hs : (!sc.parts.contains .pwr && !sc.parts.contains .tb && !sc.parts.contains .committed) = true) : s.ClockKept t := by
  simp only [Bool.and_eq_true, Bool.not_eq_true', List.contains_eq_mem, decide_eq_false_iff_not] at hs
  obtain ⟨⟨hp, ht⟩, hc⟩ := hs
  have htb : t.tb = s.tb := h.part .tb ht
  exact ⟨h.now, h.part .pwr hp, by rw [htb], by rw [htb], fun r _ i => State.comReg_eq (h.part .committed hc) r i⟩

theorem State.ClockKept.foldl {α : Type} {f : State → α → State} (hf : ∀ (s : State) a, s.ClockKept (f s a)) (l : List α)
    (s : State) : s.ClockKept (l.foldl f s) := foldl_keeps (R := State.ClockKept) .refl .trans hf l s

theorem State.ClockKept.updTb (s : State) {f : Tb → Tb} (hd : (f s.tb).doms = s.tb.doms) (hw : (f s.tb).warmed = s.tb.warmed) :
    s.ClockKept (s.updTb f) := ⟨rfl, rfl, hd, hw, fun _ _ _ => rfl⟩

theorem State.ClockKept.domAt {s t : State} (h : s.ClockKept t) (n k : Nat) : t.domAt n k = s.domAt n k := by
  have hcom : ∀ f : Fld, f.reg ∈ [R.TBS_DOM_CFG, R.TBS_DOM_OFS_S, R.TBS_DOM_OFS_NS] → ∀ i, t.com f i = s.com f i :=
    fun f hf i => by unfold State.com; rw [h.com _ hf i]
  have hdom : ∀ j, t.dom j = s.dom j := fun j => by unfold State.dom; rw [h.doms]
  have hown : ∀ j, t.ownAt j k = s.ownAt j k := fun j => by unfold State.ownAt; rw [hdom]
  have hofs : t.domOfs n = s.domOfs n := by
    unfold State.domOfs State.comS
    rw [hcom _ (by decide), hcom _ (by decide)]
  have hsrc : t.domSource n = s.domSource n := hcom _ (by decide) n
  have hpar : t.domParent n = s.domParent n := hcom _ (by decide) n
  unfold State.domAt State.tickRun
  rw [h.pwr, hsrc, hpar, hofs, hown, hown]

theorem State.writeReports_clockKept (s : State) : s.ClockKept s.writeReports := by
  unfold State.writeReports
  extract_lets l
  split
  · exact .refl s
  · refine (State.ClockKept.updTb s rfl rfl).trans (.foldl (fun x r => ?_) l _)
    split
    · exact .of_within (State.loseReport_within ..) (by decide)
    · exact .of_within (State.writeReport_within ..) (by decide)

/-! ### One trace ends -/

/-- TRIGk is given back, and with APPLY the correction changes: all of `endTrace` before its event and its answer. -/
def State.traceOff (s : State) (k : Nat) (err : Int) (apply_ : Bool) : State :=
  let s := if (SMap.at! s.tb.trigs k).scale = 9 then
      (s.updTb fun b => { b with trigs := SMap.upd b.trigs k fun t =>
        { skipped := t.skipped, high := t.high, invert := s.comB TBS_TRIG_CFG.INVERT k } }).driveTrig k
    else s
  if apply_ then
    let c := BitVec.ofNat 32 (tc 32 (s.comS CAL_TRACE_CORR.CORR + err / 2))
    (s.setReg R.CAL_TRACE_CORR 0 c).setCom R.CAL_TRACE_CORR 0 c
  else s

theorem State.endTrace_eq (s : State) (m k : Nat) (loop err : Int) (apply_ : Bool) :
    s.endTrace m k loop err apply_ = ((s.traceOff k err apply_).raise EV.CAL_TRACE_DONE).complete m ST_OK 0
      (leBytes 4 (tc 32 loop) ++ leBytes 4 (tc 32 err)) := rfl

theorem State.driveTrig_clockKept (s : State) (k : Nat) : s.ClockKept (s.driveTrig k) := by
  unfold State.driveTrig
  extract_lets t v
  split
  · exact .refl s
  · exact (State.ClockKept.updTb s rfl rfl).trans (.of_within (State.emit_within ..) (by decide))

theorem State.setCom_clockKept (s : State) (w : Word) : s.ClockKept (s.setCom R.CAL_TRACE_CORR 0 w) := by
  refine ⟨State.setCom_now .., State.setCom_pwr .., by rw [State.setCom_tb], by rw [State.setCom_tb], fun r hr i => ?_⟩
  have hspare : ∀ q ∈ [R.TBS_DOM_CFG, R.TBS_DOM_OFS_S, R.TBS_DOM_OFS_NS],
      Scope.spares ⟨[], [R.CAL_TRACE_CORR], []⟩ q = true := by decide +kernel
  unfold State.comReg State.setCom
  split
  · rename_i hi
    have hne : r.at i ≠ R.CAL_TRACE_CORR.at 0 := fun he =>
      Scope.not_hits (hspare r hr) (List.mem_singleton.2 rfl) hi ⟨0, by decide, he⟩
    exact SMap.get_set_ne _ _ _ _ hne
  · rfl

theorem State.traceOff_clockKept (s : State) (k : Nat) (err : Int) (apply_ : Bool) : s.ClockKept (s.traceOff k err apply_) := by
  unfold State.traceOff
  extract_lets u c
  have hu : s.ClockKept u := by
    unfold u
    split
    · exact (State.ClockKept.updTb s rfl rfl).trans (State.driveTrig_clockKept ..)
    · exact .refl s
  split
  · exact (hu.trans (.of_within (State.setReg_within ..) (by decide))).trans (State.setCom_clockKept ..)
  · exact hu

theorem State.endTrace_clockKept (s : State) (m k : Nat) (loop err : Int) (apply_ : Bool) :
    s.ClockKept (s.endTrace m k loop err apply_) := by
  rw [State.endTrace_eq]
  exact ((s.traceOff_clockKept ..).trans (.of_within (State.raise_within ..) (by decide))).trans
    (.of_within (State.complete_within ..) (by decide))

/-- What the trace's end changes before it answers: no mailbox among it. -/
def traceOffScope : Scope := ⟨[.committed, .tb, .out], [R.CAL_TRACE_CORR], []⟩

theorem State.traceOff_within (s : State) (k : Nat) (err : Int) (apply_ : Bool) :
    Within traceOffScope s (s.traceOff k err apply_) := by
  unfold State.traceOff
  extract_lets u c
  have hu : Within traceOffScope s u := .ite ((State.driveTrig_within ..).step
    ((State.updTb_within ..).step (.refl _ _) (by decide +kernel)) (by decide +kernel)) (.refl _ _)
  exact .ite ((State.setCom_within ..).step ((State.setReg_within ..).step hu (by decide +kernel)) (by decide +kernel)) hu

theorem State.traceOff_mbxKept (s : State) (m k : Nat) (err : Int) (apply_ : Bool) :
    State.MbxKept m s ((s.traceOff k err apply_).raise EV.CAL_TRACE_DONE) :=
  (State.MbxKept.of_within (s.traceOff_within ..) m (by decide +kernel)).trans
    (.of_within (State.raise_within ..) m (by decide +kernel))

/-- A trace ends with its event raised and its answer given, or kept while the Grange reboots (R101, R109, R436). -/
theorem State.endTrace_ends (s : State) (m : Fin 16) (k : Nat) (loop err : Int) (apply_ : Bool) (h4 : s.railOk 4 = true) :
    s.ends (s.endTrace m k loop err apply_) m ST_OK (leBytes 4 (tc 32 loop) ++ leBytes 4 (tc 32 err)) ∧
      (s.endTrace m k loop err apply_).raised EV.CAL_TRACE_DONE = true := by
  have hkept := s.traceOff_mbxKept m k err apply_
  have hoff := s.traceOff_within k err apply_
  have hraised : ((s.traceOff k err apply_).raise EV.CAL_TRACE_DONE).raised EV.CAL_TRACE_DONE = true := by
    refine State.raise_raised _ _ 0 ?_ (by decide) (by decide)
    rw [State.railOk_eq (hoff.part .pwr (by decide)) hoff.now (hoff.reg_same (by decide +kernel) 0)]
    exact h4
  rw [State.endTrace_eq]
  generalize (s.traceOff k err apply_).raise EV.CAL_TRACE_DONE = u at hkept hraised ⊢
  have hlen : (leBytes 4 (tc 32 loop) ++ leBytes 4 (tc 32 err)).length ≤ 4032 := by simp [leBytes_length]
  generalize leBytes 4 (tc 32 loop) ++ leBytes 4 (tc 32 err) = res at hlen ⊢
  constructor
  · unfold State.ends State.complete
    rw [hkept.boot]
    split
    · rw [State.mbxAt_updMbx_self]
      exact ⟨rfl, rfl⟩
    · rename_i hb
      have := u.writeDone_answered m 0 res (by rw [hkept.boot]; simpa using hb) hlen
      rw [hkept.mbx] at this
      simpa using this
  · unfold State.raised at hraised ⊢
    rwa [(u.complete_within m ST_OK 0 res).reg_same (r := EV.CAL_TRACE_DONE.stat) (by decide +kernel)]

/-! ### All of them -/

/-- An event raised again stays raised. -/
theorem State.raise_keeps_raised (s : State) (e : Ev) (i : Nat) (hb : e.bitNo < 32) (hi : e.inst i < e.stat.count)
    (h : s.raised e i = true) : (s.raise e i).raised e i = true := by
  by_cases hp : s.railOk (blockRail e.block) = true
  · exact s.raise_raised e i hp hb hi
  · unfold State.raised State.raise State.raiseObj at *
    rwa [State.logAdd_reg, if_neg hp]

/-- From `s` to `t` mailbox `m`, the clock, the rails and an event already raised are as before. -/
structure State.TraceKept (m : Nat) (s t : State) : Prop where
  mbx : State.MbxKept m s t
  clock : s.ClockKept t
  rail : t.railOk 4 = s.railOk 4
  raised : s.raised EV.CAL_TRACE_DONE = true → t.raised EV.CAL_TRACE_DONE = true

theorem State.TraceKept.refl (m : Nat) (s : State) : State.TraceKept m s s := ⟨.refl m s, .refl s, rfl, id⟩

theorem State.TraceKept.trans {m : Nat} {s t u : State} (h : State.TraceKept m s t) (h' : State.TraceKept m t u) :
    State.TraceKept m s u :=
  ⟨h.mbx.trans h'.mbx, h.clock.trans h'.clock, h'.rail.trans h.rail, fun hr => h'.raised (h.raised hr)⟩

theorem State.endTrace_other (s : State) {m n : Nat} (hn : n < 16) (h : m ≠ n) (k : Nat) (loop err : Int) (apply_ : Bool) :
    State.TraceKept m s (s.endTrace n k loop err apply_) where
  mbx := by
    rw [State.endTrace_eq]
    exact (s.traceOff_mbxKept m k err apply_).trans (State.complete_mbxKept _ hn h ..)
  clock := s.endTrace_clockKept n k loop err apply_
  rail := by
    have hw := s.endTrace_within n k loop err apply_
    exact State.railOk_eq (hw.part .pwr (by decide)) hw.now (hw.reg_same (by decide +kernel) 0) 4
  raised hr := by
    have hoff : (s.traceOff k err apply_).raised EV.CAL_TRACE_DONE = true := by
      unfold State.raised at hr ⊢
      rwa [(s.traceOff_within k err apply_).reg_same (r := EV.CAL_TRACE_DONE.stat) (by decide +kernel)]
    have hrs := State.raise_keeps_raised _ _ 0 (by decide) (by decide) hoff
    rw [State.endTrace_eq]
    unfold State.raised at hrs ⊢
    rwa [(State.complete_within ..).reg_same (r := EV.CAL_TRACE_DONE.stat) (by decide +kernel)]

/-- What the end of a tick does for mailbox `m`. -/
def State.traceStep (s : State) (m : Nat) : State :=
  match (s.mbxAt m).job with
  | some (.trace k u loop err a) => if s.mst m = mRUNNING && decide (u ≤ s.domAt 0 s.now) then s.endTrace m k loop err a else s
  | _ => s

theorem State.endTraces_eq (s : State) : s.endTraces = (List.range 16).foldl State.traceStep s := rfl

theorem State.traceStep_other (s : State) {m n : Nat} (hn : n < 16) (h : m ≠ n) : State.TraceKept m s (s.traceStep n) := by
  unfold State.traceStep
  split
  · split
    · exact s.endTrace_other hn h ..
    · exact .refl m s
  · exact .refl m s

theorem State.traceSteps_other (s : State) {m : Nat} {l : List Nat} (hl : ∀ n ∈ l, n < 16 ∧ m ≠ n) :
    State.TraceKept m s (l.foldl State.traceStep s) := by
  induction l generalizing s with
  | nil => exact .refl m s
  | cons n l ih =>
    obtain ⟨hn, hne⟩ := hl n (.head _)
    exact (s.traceStep_other hn hne).trans (ih _ fun x hx => hl x (.tail _ hx))

theorem State.traceStep_clockKept (s : State) (m : Nat) : s.ClockKept (s.traceStep m) := by
  unfold State.traceStep
  split
  · split
    · exact s.endTrace_clockKept ..
    · exact .refl s
  · exact .refl s

theorem State.endTraces_clockKept (s : State) : s.ClockKept s.endTraces := .foldl State.traceStep_clockKept _ s

/-- What a later change that keeps the mailbox leaves of its end. -/
theorem State.MbxKept.ends {m : Fin 16} {s t u : State} (h : State.MbxKept m t u) {st : Nat} {res : List Byte}
    (hl : res.length ≤ 4032) (he : s.ends t m st res) : s.ends u m st res := by
  unfold State.ends at he ⊢
  split
  · rename_i hb
    rw [if_pos hb] at he
    rwa [h.mbx]
  · rename_i hb
    rw [if_neg hb] at he
    exact h.answered hl he

/-- What comes before a mailbox's end and keeps the mailbox has no part in how it ends. -/
theorem State.MbxKept.ends_from {m : Fin 16} {s t u : State} (h : State.MbxKept m s t) {st : Nat} {res : List Byte}
    (he : t.ends u m st res) : s.ends u m st res := by
  unfold State.ends at he ⊢
  rwa [h.boot, h.mbx] at he

/-- A trace whose last pulse is over ends with the tick. -/
theorem State.endTraces_ends (s : State) {m : Fin 16} {k : Nat} {u loop err : Int} {a : Bool}
    (hj : (s.mbxAt m).job = some (.trace k u loop err a)) (hm : s.mst m = mRUNNING) (hu : u ≤ s.domAt 0 s.now)
    (h4 : s.railOk 4 = true) :
    s.ends s.endTraces m ST_OK (leBytes 4 (tc 32 loop) ++ leBytes 4 (tc 32 err)) ∧
      s.endTraces.raised EV.CAL_TRACE_DONE = true := by
  obtain ⟨l1, l2, hl⟩ := List.append_of_mem (List.mem_range.2 m.isLt)
  have hnd : (l1 ++ m.val :: l2).Nodup := hl ▸ List.nodup_range
  have hmem : ∀ n ∈ l1 ++ m.val :: l2, n < 16 := fun n hn => List.mem_range.1 (hl ▸ hn)
  have h1 : ∀ n ∈ l1, n < 16 ∧ m.val ≠ n := fun n hn =>
    ⟨hmem n (List.mem_append_left _ hn), fun he => (List.nodup_append.1 hnd).2.2 n hn m.val (.head _) he.symm⟩
  have h2 : ∀ n ∈ l2, n < 16 ∧ m.val ≠ n := fun n hn =>
    ⟨hmem n (List.mem_append_right _ (.tail _ hn)), fun he =>
      (List.nodup_cons.1 (List.nodup_append.1 hnd).2.1).1 (he ▸ hn)⟩
  rw [State.endTraces_eq, hl, List.foldl_append, List.foldl_cons]
  have hb := s.traceSteps_other h1
  generalize l1.foldl State.traceStep s = b at hb ⊢
  have hstep : b.traceStep m = b.endTrace m k loop err a := by
    unfold State.traceStep
    rw [hb.mbx.mbx, hj]
    simp only [hb.mbx.mst, hm, hb.clock.domAt, hb.clock.now, hu, decide_true, Bool.and_true, if_true]
  obtain ⟨hends, hraised⟩ := b.endTrace_ends m k loop err a (hb.rail.trans h4)
  rw [hstep]
  have ht := (b.endTrace m k loop err a).traceSteps_other h2
  exact ⟨ht.mbx.ends (by simp [leBytes_length]) (hb.mbx.ends_from hends), ht.raised hraised⟩

end Sys2Proof.Machine
end

section
/-! PROOFS. The selection at the end of a tick (R367-R371), for O2. -/
namespace Sys2Proof.Machine

/-! ### What the choice depends on (R367, R368) -/

/-- Two states choose alike. -/
structure State.SameChoice (s t : State) : Prop where
  qst : ∀ j, t.qst j = s.qst j
  selected : t.selected = s.selected
  modelValid : t.modelValid = s.modelValid
  committed : t.committed = s.committed
  forced : t.ref.forced = s.ref.forced
  barred : t.ref.barred = s.ref.barred
  srcs : t.ref.srcs = s.ref.srcs
  disagree : t.ref.disagree = s.ref.disagree

theorem State.SameChoice.isTimeRef {s t : State} (h : s.SameChoice t) : t.isTimeRef = s.isTimeRef := by
  funext j
  unfold State.isTimeRef State.comB
  rw [State.com_eq h.committed]

theorem State.SameChoice.ofRank {s t : State} (h : s.SameChoice t) : t.ofRank = s.ofRank := by
  funext l
  have hsrc : t.src = s.src := by funext j; unfold State.src; rw [h.srcs]
  have hdis : t.disagrees = s.disagrees := by funext j k; unfold State.disagrees; rw [h.disagree]
  unfold State.ofRank
  rw [h.selected, h.modelValid, hsrc, hdis]

theorem State.SameChoice.bestOf {s t : State} (h : s.SameChoice t) : t.bestOf = s.bestOf := by
  funext l
  have hcom : ∀ j, t.com REF_SRC_CFG.RANK j = s.com REF_SRC_CFG.RANK j := fun j => State.com_eq h.committed _ j
  unfold State.bestOf
  simp only [h.ofRank, hcom]

theorem State.SameChoice.rest {s t : State} (h : s.SameChoice t) : State.choose.rest t = State.choose.rest s := by
  funext q
  have hrev : t.comB REF_SEL_CFG.REVERTIVE = s.comB REF_SEL_CFG.REVERTIVE := by
    unfold State.comB; rw [State.com_eq h.committed]
  unfold State.choose.rest
  rw [h.bestOf, h.isTimeRef, h.selected, h.barred, hrev]

theorem State.SameChoice.choose {s t : State} (h : s.SameChoice t) : t.choose = s.choose := by
  have hq : t.qst = s.qst := funext h.qst
  unfold State.choose
  rw [hq, h.forced, h.rest]

/-! ### Only a qualified reference is chosen -/

theorem State.ofRank_mem {s : State} {l : List Nat} {j : Nat} (h : (s.ofRank l).1 = some j) : j ∈ l := by
  unfold State.ofRank at h
  split at h
  · rename_i hc
    cases h
    simpa using hc
  · split at h
    · revert j
      refine List.foldlRecOn (motive := fun b : Option Nat => ∀ {j}, b = some j → j ∈ l) l _ (fun hb => by cases hb) ?_
      intro b hb i hi j hj
      cases b with
      | none => cases hj; exact hi
      | some k =>
        dsimp only at hj
        split at hj
        · cases hj; exact hi
        · exact hb hj
    · split at h
      · cases h
      · exact List.mem_of_mem_head? h

theorem State.bestOf_mem {s : State} {l : List Nat} {j : Nat} (h : (s.bestOf l).1 = some j) : j ∈ l := by
  unfold State.bestOf at h
  revert j
  refine List.foldlRecOn (motive := fun b : Option Nat × Bool => ∀ {j}, b.1 = some j → j ∈ l) (List.range 16) _
    (fun hb => by cases hb) ?_
  intro b hb rank _ j hj
  split at hj
  · exact hb hj
  · exact (List.mem_filter.1 (State.ofRank_mem hj)).1

theorem State.rest_mem {s : State} {q : List Nat} {j : Nat} (h : (State.choose.rest s q).1 = some j) : j ∈ q := by
  unfold State.choose.rest at h
  extract_lets times hold at h
  have htimes : ∀ i ∈ times, i ∈ q := fun i hi => (List.mem_filter.1 hi).1
  generalize hb : s.bestOf (if hold then times.filter (fun j => !s.ref.barred.contains j) else times) = b at h
  obtain ⟨b1, b2⟩ := b
  dsimp only at h
  split at h
  · have := State.bestOf_mem (s := s) (j := j) (by rw [hb]; exact h)
    split at this
    · exact htimes j (List.mem_filter.1 this).1
    · exact htimes j this
  · exact (List.mem_filter.1 (State.bestOf_mem h)).1

theorem State.choose_lt {s : State} {j : Nat} (h : s.choose.1 = some j) : j < 7 := by
  have hq : ∀ i ∈ (List.range 7).filter (fun j => decide (s.qst j = qQUALIFIED)), i < 7 :=
    fun i hi => List.mem_range.1 (List.mem_filter.1 hi).1
  unfold State.choose at h
  extract_lets q at h
  split at h
  · rename_i f hf
    split at h
    · rename_i hc
      cases h
      exact hq j (by simpa [q] using hc)
    · exact hq j (State.rest_mem h)
  · exact hq j (State.rest_mem h)

end Sys2Proof.Machine
end

section
/-! PROOFS. A selection entered (R369-R371), for O2. -/
namespace Sys2Proof.Machine

/-! ### No operation of a selection makes one due -/

/-- From `s` to `t` a selection is due or not as before. -/
def State.DueKept (s t : State) : Prop := t.ref.due = s.ref.due

theorem State.DueKept.refl (s : State) : s.DueKept s := rfl

theorem State.DueKept.trans {s t u : State} (h : s.DueKept t) (h' : t.DueKept u) : s.DueKept u := Eq.trans h' h

theorem State.DueKept.of_within {sc : Scope} {s t : State} (h : Within sc s t) (hr : Part.ref ∉ sc.parts) : s.DueKept t :=
  congrArg RefSel.due (h.part .ref hr)

theorem State.DueKept.updRef (s : State) {f : RefSel → RefSel} (h : (f s.ref).due = s.ref.due) : s.DueKept (s.updRef f) := h

theorem State.accQ_dueKept (s : State) : s.DueKept s.accQ := by
  unfold State.accQ
  extract_lets r q
  split
  · exact .updRef s rfl
  · exact .updRef s rfl

theorem State.noteSteer_dueKept (s : State) : s.DueKept s.noteSteer := .of_within s.noteSteer_within (by decide)

theorem State.putW_dueKept (s : State) (w : Int) : s.DueKept (s.putW w) := by
  unfold State.putW
  extract_lets u v
  have hv : u.DueKept v := .updRef u rfl
  exact ((s.accQ_dueKept.trans hv).trans (.of_within (State.wrS_within ..) (by decide))).trans (State.noteSteer_dueKept _)

theorem State.setW_dueKept (s : State) (w : Int) : s.DueKept (s.setW w) := by
  unfold State.setW
  extract_lets u w' v
  have hv : u.DueKept v := .updRef u rfl
  exact (((s.accQ_dueKept.trans (State.noteSteer_dueKept _)).trans hv).trans (.of_within (State.wrS_within ..) (by decide))).trans
    (State.noteSteer_dueKept _)

theorem State.foldRamp_dueKept (s : State) : s.DueKept s.foldRamp := by
  unfold State.foldRamp
  split
  · extract_lets u v w x y
    have hv : s.DueKept v := by
      unfold v
      split
      · exact s.accQ_dueKept.trans (.of_within (State.updSyn_within ..) (by decide))
      · exact s.accQ_dueKept
    have hy : s.DueKept y := (hv.trans (.of_within (State.updSyn_within v _) (by decide))).trans
      (.of_within (State.setReg_within ..) (by decide))
    exact (hy.trans (y.putW_dueKept w)).trans (.of_within (State.raise_within ..) (by decide))
  · exact .refl s

theorem State.followModel_dueKept (s : State) : s.DueKept s.followModel := by
  unfold State.followModel
  extract_lets u v
  have hv : s.DueKept v := s.accQ_dueKept.trans (.updRef u rfl)
  split
  · exact hv.trans (v.setW_dueKept _)
  · exact hv

theorem State.noteHold_dueKept (s : State) : s.DueKept s.noteHold := .of_within s.noteHold_within (by decide)

theorem State.startLoop_dueKept (s : State) : s.DueKept s.startLoop := .updRef s rfl

/-! ### The state and the reference shown -/

/-- From `s` to `t` REF_STAT shows the same state of D0 and the same reference. -/
structure State.ShownKept (s t : State) : Prop where
  rstate : t.rstate = s.rstate
  selected : t.selected = s.selected

theorem State.ShownKept.refl (s : State) : s.ShownKept s := ⟨rfl, rfl⟩

theorem State.ShownKept.trans {s t u : State} (h : s.ShownKept t) (h' : t.ShownKept u) : s.ShownKept u :=
  ⟨h'.rstate.trans h.rstate, h'.selected.trans h.selected⟩

theorem State.ShownKept.of_within {sc : Scope} {s t : State} (h : Within sc s t) (hs : sc.spares R.REF_STAT = true) :
    s.ShownKept t :=
  ⟨h.rd_same (f := REF_STAT.STATE) hs 0, h.rd_same (f := REF_STAT.SELECTED) hs 0⟩

theorem State.noteHold_shownKept (s : State) : s.ShownKept s.noteHold := by
  have hspec (u : State) (b : Bool) : u.ShownKept (u.wrB REF_STAT.IN_SPEC 0 b) :=
    ⟨State.rd_wr_disj (f := REF_STAT.IN_SPEC) (g := REF_STAT.STATE) u (by decide) (by decide) rfl (by decide) 0 0 _,
      State.rd_wr_disj (f := REF_STAT.IN_SPEC) (g := REF_STAT.SELECTED) u (by decide) (by decide) rfl (by decide) 0 0 _⟩
  have hest : s.ShownKept (s.wr REF_HO_EST.H 0 (min s.holdEst 0xFFFFFFFF)) := .of_within (State.wr_within ..) (by decide +kernel)
  unfold State.noteHold
  extract_lets h ok was u v
  have hu : s.ShownKept u := hest.trans (hspec _ ok)
  have hv : s.ShownKept v := by
    unfold v
    split
    · exact hu.trans (.of_within (State.raise_within ..) (by decide +kernel))
    · exact hu
  exact hv.trans (.of_within v.noteTe_within (by decide +kernel))

theorem State.wr_refStat (s : State) {st sel : Nat} (hst : st < 4) (hsel : sel < 8) :
    ((s.wr REF_STAT.STATE 0 st).wr REF_STAT.SELECTED 0 sel).rstate = st ∧
      ((s.wr REF_STAT.STATE 0 st).wr REF_STAT.SELECTED 0 sel).selected = sel := by
  constructor
  · refine (State.rd_wr_disj (f := REF_STAT.SELECTED) (g := REF_STAT.STATE) _ (by decide) (by decide) rfl (by decide) 0 0 _).trans ?_
    exact (State.rd_wr_self (f := REF_STAT.STATE) s (by decide) (by decide) st).trans (Nat.mod_eq_of_lt hst)
  · exact (State.rd_wr_self (f := REF_STAT.SELECTED) _ (by decide) (by decide) sel).trans (Nat.mod_eq_of_lt hsel)

/-! ### Entering a state of D0 -/

/-- From `s` to `t` REF_STAT shows the same, and a selection is due or not as before. -/
structure State.SelKept (s t : State) : Prop where
  shown : s.ShownKept t
  due : s.DueKept t

theorem State.SelKept.refl (s : State) : s.SelKept s := ⟨.refl s, .refl s⟩

theorem State.SelKept.trans {s t u : State} (h : s.SelKept t) (h' : t.SelKept u) : s.SelKept u :=
  ⟨h.shown.trans h'.shown, h.due.trans h'.due⟩

theorem State.SelKept.of_within {sc : Scope} {s t : State} (h : Within sc s t)
    (hs : (sc.spares R.REF_STAT && !sc.parts.contains .ref) = true) : s.SelKept t := by
  simp only [Bool.and_eq_true, Bool.not_eq_true', List.contains_eq_mem, decide_eq_false_iff_not] at hs
  exact ⟨.of_within h hs.1, .of_within h hs.2⟩

theorem State.SelKept.updRef (s : State) {f : RefSel → RefSel} (h : (f s.ref).due = s.ref.due) : s.SelKept (s.updRef f) :=
  ⟨.of_within (State.updRef_within ..) (by decide +kernel), .updRef s h⟩

theorem State.raise_selKept (s : State) (i : Nat) {e : Ev}
    (he : (Scope.spares ⟨[.evt], [e.stat], []⟩ R.REF_STAT) = true) : s.SelKept (s.raise e i) :=
  ⟨.of_within (State.raise_within ..) he, .of_within (State.raise_within ..) (by simp)⟩

/-- What follows the entry: the loop and the model go on from the word in force. -/
theorem State.enter_tail_selKept (s : State) : s.SelKept s.followModel.noteHold.startLoop := by
  have h1 : s.SelKept s.followModel := ⟨.of_within s.followModel_within (by decide +kernel), s.followModel_dueKept⟩
  have h2 (u : State) : u.SelKept u.noteHold := ⟨u.noteHold_shownKept, u.noteHold_dueKept⟩
  have h3 (u : State) : u.SelKept u.startLoop := ⟨.of_within u.startLoop_within (by decide +kernel), u.startLoop_dueKept⟩
  exact (h1.trans (h2 _)).trans (h3 _)

/-- The state and the reference are those entered, and no selection is due that was not. -/
theorem State.enterRef_effect (s : State) {st sel : Nat} (hst : st < 4) (hsel : sel < 8) :
    (s.enterRef st sel).rstate = st ∧ (s.enterRef st sel).selected = sel ∧ s.DueKept (s.enterRef st sel) := by
  obtain ⟨h1, h2⟩ := s.wr_refStat hst hsel
  have hwr : s.DueKept ((s.wr REF_STAT.STATE 0 st).wr REF_STAT.SELECTED 0 sel) :=
    (State.DueKept.of_within (State.wr_within ..) (by decide)).trans (.of_within (State.wr_within ..) (by decide))
  suffices h : ((s.wr REF_STAT.STATE 0 st).wr REF_STAT.SELECTED 0 sel).SelKept (s.enterRef st sel) from
    ⟨h.shown.rstate.trans h1, h.shown.selected.trans h2, hwr.trans h.due⟩
  unfold State.enterRef
  generalize s.clockFields = cf
  generalize s.teFields = tf
  obtain ⟨cls, trace, tl⟩ := cf
  obtain ⟨steps, te⟩ := tf
  extract_lets was u v w
  dsimp -zeta only
  extract_lets x y z
  have hw : u.SelKept w := by
    have hv : u.SelKept v := u.raise_selKept 0 (by decide +kernel)
    unfold w
    split
    · exact hv.trans (v.raise_selKept 0 (by decide +kernel))
    · split
      · exact hv.trans (v.raise_selKept 0 (by decide +kernel))
      · exact hv
  have hx : u.SelKept x := by
    unfold x
    split
    · exact hw.trans (.updRef w rfl)
    · exact hw
  have hy : u.SelKept y := by
    unfold y
    split
    · exact hx.trans ⟨.of_within x.foldRamp_within (by decide +kernel), x.foldRamp_dueKept⟩
    · exact hx
  have hz : u.SelKept z := by
    unfold z
    split
    · exact hy.trans ⟨.of_within (y.putW_within _) (by decide +kernel), y.putW_dueKept _⟩
    · exact hy
  exact hz.trans z.enter_tail_selKept

end Sys2Proof.Machine
end

section
/-! PROOFS. The selection evaluated, and the end of a tick, O2. -/
namespace Sys2Proof.Machine

/-! ### States that choose alike -/

theorem State.SameChoice.trans {s t u : State} (h : s.SameChoice t) (h' : t.SameChoice u) : s.SameChoice u where
  qst j := (h'.qst j).trans (h.qst j)
  selected := h'.selected.trans h.selected
  modelValid := h'.modelValid.trans h.modelValid
  committed := h'.committed.trans h.committed
  forced := h'.forced.trans h.forced
  barred := h'.barred.trans h.barred
  srcs := h'.srcs.trans h.srcs
  disagree := h'.disagree.trans h.disagree

theorem State.SameChoice.of_regs {s t : State} (h : t.regs = s.regs) (hc : t.committed = s.committed)
    (h1 : t.ref.forced = s.ref.forced) (h2 : t.ref.barred = s.ref.barred) (h3 : t.ref.srcs = s.ref.srcs)
    (h4 : t.ref.disagree = s.ref.disagree) : s.SameChoice t :=
  ⟨fun j => State.rd_eq h _ j, State.rd_eq h _ 0, congrArg (decide <| · ≠ 0) (State.rd_eq h REF_STAT.MODEL_VALID 0), hc, h1, h2, h3, h4⟩

theorem State.SameChoice.of_within {sc : Scope} {s t : State} (h : Within sc s t)
    (hs : (sc.spares R.REF_SRC_STAT && sc.spares R.REF_STAT && !sc.parts.contains .ref && !sc.parts.contains .committed) = true) :
    s.SameChoice t := by
  simp only [Bool.and_eq_true, Bool.not_eq_true', List.contains_eq_mem, decide_eq_false_iff_not] at hs
  obtain ⟨⟨⟨hsrc, hstat⟩, hr⟩, hc⟩ := hs
  have href : t.ref = s.ref := h.part .ref hr
  exact ⟨fun j => h.rd_same (f := REF_SRC_STAT.QSTATE) hsrc j, h.rd_same (f := REF_STAT.SELECTED) hstat 0,
    congrArg (decide <| · ≠ 0) (h.rd_same (f := REF_STAT.MODEL_VALID) hstat 0), h.part .committed hc, by rw [href],
    by rw [href], by rw [href], by rw [href]⟩

/-- From `s` to `t` the choice, what REF_STAT shows and the oven stay. -/
structure State.Alike (s t : State) : Prop where
  choice : s.SameChoice t
  shown : s.ShownKept t
  warm : t.ocxoWarm = s.ocxoWarm

theorem State.Alike.refl (s : State) : s.Alike s := ⟨.of_regs rfl rfl rfl rfl rfl rfl, .refl s, rfl⟩

theorem State.Alike.trans {s t u : State} (h : s.Alike t) (h' : t.Alike u) : s.Alike u :=
  ⟨h.choice.trans h'.choice, h.shown.trans h'.shown, h'.warm.trans h.warm⟩

theorem State.Alike.of_regs {s t : State} (h : t.regs = s.regs) (hc : t.committed = s.committed)
    (h1 : t.ref.forced = s.ref.forced) (h2 : t.ref.barred = s.ref.barred) (h3 : t.ref.srcs = s.ref.srcs)
    (h4 : t.ref.disagree = s.ref.disagree) : s.Alike t :=
  ⟨.of_regs h hc h1 h2 h3 h4, ⟨State.rd_eq h _ 0, State.rd_eq h _ 0⟩,
    congrArg (decide <| · ≠ 0) (State.rd_eq h PWR_CLK_STAT.OCXO_WARM 0)⟩

theorem State.Alike.of_within {sc : Scope} {s t : State} (h : Within sc s t)
    (hs : (sc.spares R.REF_SRC_STAT && sc.spares R.REF_STAT && !sc.parts.contains .ref && !sc.parts.contains .committed) = true)
    (hw : sc.spares R.PWR_CLK_STAT = true) : s.Alike t := by
  refine ⟨.of_within h hs, .of_within h ?_, congrArg (decide <| · ≠ 0) (h.rd_same (f := PWR_CLK_STAT.OCXO_WARM) hw 0)⟩
  simp only [Bool.and_eq_true] at hs
  exact hs.1.1.2

/-! ### The evaluation (R367-R369) -/

/-- The state on which the choice is made: a reference lost is barred no longer (R367). -/
def State.chooseFrom (s : State) : State :=
  if s.selected ≠ 7 && s.qst s.selected ≠ qQUALIFIED then s.updRef fun r => { r with barred := [] } else s

/-- What the evaluation shows of the choice `c` made on `v`. -/
def State.showsOf (t v : State) : Option Nat → Prop
  | some j => t.selected = j ∧ t.rstate = if v.isTimeRef j then rsLOCKED else rsASSIST
  | none => t.selected = 7 ∧ t.rstate = if v.modelValid && v.ocxoWarm then rsHOLDOVER else rsFREERUN

/-- What it shows of the choice that is to be made on `v`. -/
def State.shows (t v : State) : Prop := t.showsOf v v.choose.1

/-- The evaluation begins: no selection is due any more. -/
def State.selStart (s : State) : State := s.updRef fun r => { r with due := false, h0Due := 0 }

/-- A reference selected and lost is noted. -/
def State.lossNoted (s : State) : State :=
  if s.selected ≠ 7 && s.qst s.selected ≠ qQUALIFIED then
    (s.updRef fun r => { r with barred := [] }).raiseObj EV.REF_REF_LOSS 0 s.selected
  else s

/-- Whether references disagree is noted. -/
def State.splitNoted (s : State) (dis : Bool) : State :=
  (if dis && !s.ref.split then s.raise EV.REF_DISAGREE else s).updRef fun r => { r with split := dis }

/-- The reference chosen is counted and its step, if it locks, set down. -/
def State.counted (s : State) (j st : Nat) : State :=
  let s := (s.count (refSlot j 6)).updRef fun r => { r with barred := r.barred.filter (· ≠ j) }
  let σ := s.stepOf j
  if st = rsLOCKED then s.updRef fun r => { r with steps := r.steps ++ [(s.now + 64, σ)] } else s

/-- The choice takes effect, unless it is the one in force. -/
def State.takes (s : State) (old h0 : Nat) : Option Nat → State
  | some j =>
    let st := if s.isTimeRef j then rsLOCKED else rsASSIST
    if old = j && s.rstate = st then s else (s.counted j st).enterRef st j
  | none =>
    let st := if s.modelValid && s.ocxoWarm then rsHOLDOVER else rsFREERUN
    if old = 7 && s.rstate = st then s
    else (if st = rsHOLDOVER then s.updRef fun r => { r with h0 := h0 } else s).enterRef st 7

theorem State.selectNow_eq (s : State) : s.selectNow =
    if !s.selStart.tb.warmed || !s.selStart.timeMode then s.selStart
    else (s.selStart.lossNoted.splitNoted s.selStart.lossNoted.choose.2).takes s.selStart.selected s.ref.h0Due
      s.selStart.lossNoted.choose.1 := rfl

theorem State.selStart_alike (s : State) : s.Alike s.selStart := .of_regs rfl rfl rfl rfl rfl rfl

theorem State.lossNoted_alike (s : State) : s.chooseFrom.Alike s.lossNoted := by
  unfold State.chooseFrom State.lossNoted
  split
  · exact .of_within (State.raiseObj_within ..) (by decide +kernel) (by decide +kernel)
  · exact .refl s

theorem State.lossNoted_dueKept (s : State) : s.DueKept s.lossNoted := by
  unfold State.lossNoted
  split
  · exact (State.DueKept.updRef s rfl).trans (.of_within (State.raiseObj_within ..) (by decide))
  · exact .refl s

/-- Where the evaluation begins has no part in the choice. -/
theorem State.chooseFrom_selStart (s : State) : s.chooseFrom.Alike s.selStart.chooseFrom := by
  have hq : s.selStart.qst s.selStart.selected = s.qst s.selected := rfl
  have hs : s.selStart.selected = s.selected := rfl
  unfold State.chooseFrom
  rw [hq, hs]
  split
  · exact .of_regs rfl rfl rfl rfl rfl rfl
  · exact s.selStart_alike

theorem State.splitNoted_alike (s : State) (dis : Bool) : s.Alike (s.splitNoted dis) := by
  have hraise : s.Alike (s.raise EV.REF_DISAGREE) := .of_within (State.raise_within ..) (by decide +kernel) (by decide +kernel)
  have hupd (u : State) : u.Alike (u.updRef fun r => { r with split := dis }) := .of_regs rfl rfl rfl rfl rfl rfl
  unfold State.splitNoted
  split
  · exact hraise.trans (hupd _)
  · exact hupd s

theorem State.splitNoted_dueKept (s : State) (dis : Bool) : s.DueKept (s.splitNoted dis) := by
  have hupd (u : State) : u.DueKept (u.updRef fun r => { r with split := dis }) := .updRef u rfl
  unfold State.splitNoted
  split
  · exact (State.DueKept.of_within (State.raise_within ..) (by decide)).trans (hupd _)
  · exact hupd s

theorem State.counted_dueKept (s : State) (j st : Nat) : s.DueKept (s.counted j st) := by
  unfold State.counted
  extract_lets u σ
  have hu : s.DueKept u := (State.DueKept.of_within (s.count_within (refSlot j 6) 1) (by decide)).trans (.updRef _ rfl)
  split
  · exact hu.trans (.updRef u rfl)
  · exact hu

/-- The choice in effect shows, and makes no selection due. -/
theorem State.takes_effect (s : State) {old : Nat} (h0 : Nat) {c : Option Nat} (hold : old = s.selected)
    (hc : ∀ j, c = some j → j < 7) :
    s.DueKept (s.takes old h0 c) ∧ (s.takes old h0 c).showsOf s c := by
  cases c with
  | some j =>
    have hj := hc j rfl
    unfold State.takes State.showsOf
    dsimp only
    generalize hst : (if s.isTimeRef j then rsLOCKED else rsASSIST) = st
    have hlt : st < 4 := by rw [← hst]; split <;> decide
    split
    · rename_i he
      simp only [Bool.and_eq_true, decide_eq_true_eq] at he
      exact ⟨.refl s, hold ▸ he.1, he.2⟩
    · obtain ⟨h1, h2, h3⟩ := (s.counted j st).enterRef_effect hlt (sel := j) (by omega)
      exact ⟨(s.counted_dueKept j st).trans h3, h2, h1⟩
  | none =>
    unfold State.takes State.showsOf
    dsimp only
    generalize hst : (if s.modelValid && s.ocxoWarm then rsHOLDOVER else rsFREERUN) = st
    have hlt : st < 4 := by rw [← hst]; split <;> decide
    split
    · rename_i he
      simp only [Bool.and_eq_true, decide_eq_true_eq] at he
      exact ⟨.refl s, hold ▸ he.1, he.2⟩
    · generalize hu : (if st = rsHOLDOVER then s.updRef fun r => { r with h0 := h0 } else s) = u
      have hdue : s.DueKept u := by
        rw [← hu]
        split
        · exact .updRef s rfl
        · exact .refl s
      obtain ⟨h1, h2, h3⟩ := u.enterRef_effect hlt (sel := 7) (by decide)
      exact ⟨hdue.trans h3, h2, h1⟩

/-- Alike states show alike of a choice. -/
theorem State.Alike.shows {v w t : State} (h : v.Alike w) (ht : t.shows w) : t.shows v := by
  unfold State.shows at ht ⊢
  rw [h.choice.choose] at ht
  unfold State.showsOf at ht ⊢
  rwa [h.choice.isTimeRef, h.choice.modelValid, h.warm] at ht

/-- The evaluation with the clock warmed and running. -/
def State.evaluated (s : State) (h0 : Nat) : State :=
  (s.lossNoted.splitNoted s.lossNoted.choose.2).takes s.selected h0 s.lossNoted.choose.1

theorem State.chooseFrom_shownKept (s : State) : s.ShownKept s.chooseFrom := by
  unfold State.chooseFrom
  split
  · exact .of_within (State.updRef_within ..) (by decide +kernel)
  · exact .refl s

theorem State.evaluated_effect (s : State) (h0 : Nat) : s.DueKept (s.evaluated h0) ∧ (s.evaluated h0).shows s.chooseFrom := by
  have hy : s.chooseFrom.Alike (s.lossNoted.splitNoted s.lossNoted.choose.2) :=
    s.lossNoted_alike.trans (State.splitNoted_alike ..)
  have hdue := s.lossNoted_dueKept.trans (State.splitNoted_dueKept _ s.lossNoted.choose.2)
  have hsel := s.chooseFrom_shownKept.selected.symm.trans hy.shown.selected.symm
  have hc : s.lossNoted.choose = (s.lossNoted.splitNoted s.lossNoted.choose.2).choose :=
    (State.splitNoted_alike ..).choice.choose.symm
  have hlt : ∀ j, s.lossNoted.choose.1 = some j → j < 7 := fun j hj => State.choose_lt hj
  obtain ⟨h1, h2⟩ := (s.lossNoted.splitNoted s.lossNoted.choose.2).takes_effect h0 hsel hlt
  refine ⟨hdue.trans h1, hy.shows ?_⟩
  unfold State.shows
  rw [← hc]
  exact h2

theorem State.selectNow_due (s : State) : s.selectNow.ref.due = false := by
  rw [State.selectNow_eq]
  split
  · rfl
  · exact (s.selStart.evaluated_effect s.ref.h0Due).1

theorem State.selectNow_shows (s : State) (hw : s.tb.warmed = true) (ht : s.timeMode = true) :
    s.selectNow.shows s.chooseFrom := by
  have hw' : s.selStart.tb.warmed = true := hw
  have ht' : s.selStart.timeMode = true := ht
  rw [State.selectNow_eq, hw', ht', if_neg (by decide)]
  exact s.chooseFrom_selStart.shows (s.selStart.evaluated_effect s.ref.h0Due).2

/-! ### The end of a tick -/

/-- What the end of a tick does once its traces are over. -/
def State.closes (s : State) : State := (if s.ref.due then s.selectNow else s).noteClamp.settle

theorem State.idle_eq (s : State) :
    s.idle = { s.writeReports.endTraces.closes with now := s.writeReports.endTraces.closes.nextTick } := rfl

theorem State.closes_due (s : State) : s.closes.ref.due = false := by
  unfold State.closes
  rw [State.settle_ref, (State.noteClamp_within _).part .ref (by decide)]
  cases h : s.ref.due with
  | true => rw [if_pos rfl]; exact s.selectNow_due
  | false => rw [if_neg (by decide)]; exact h

theorem State.idle_now (s : State) :
    s.idle.now = if s.endTick.mode = mDORMANT then (s.now / 64 + 1) * 64 else s.now + 1 := by
  show s.endTick.nextTick = _
  unfold State.nextTick
  rw [s.endTick_within.now]

/-- What the evaluation shows the end of the tick leaves. -/
theorem State.closes_shows {s v : State} (hd : s.ref.due = true) (h : s.selectNow.shows v) : s.closes.shows v := by
  unfold State.closes
  rw [hd, if_pos rfl]
  have hk : s.selectNow.ShownKept s.selectNow.noteClamp.settle :=
    (State.ShownKept.of_within (State.noteClamp_within _) (by decide +kernel)).trans
      (.of_within (State.settle_within _) (by decide +kernel))
  unfold State.shows at h ⊢
  cases hc : v.choose.1 with
  | some j =>
    rw [hc] at h
    exact ⟨hk.selected.trans h.1, hk.rstate.trans h.2⟩
  | none =>
    rw [hc] at h
    exact ⟨hk.selected.trans h.1, hk.rstate.trans h.2⟩

/-- What ends with the command's tick has ended. -/
theorem State.settle_ends {s t : State} {m : Fin 16} {st : Nat} {res : List Byte} (h : s.ends t m st res) :
    s.ends t.settle m st res := by
  unfold State.ends at h ⊢
  split
  · rename_i hb
    rw [if_pos hb] at h
    have hk := t.settle_grKept
    rwa [hk.job, hk.late]
  · rename_i hb
    rw [if_neg hb] at h
    exact State.settle_answered h

theorem State.closes_ends {s t : State} {m : Fin 16} {st : Nat} {res : List Byte} (hl : res.length ≤ 4032)
    (h : s.ends t m st res) : s.ends t.closes m st res := by
  have hsel : State.MbxKept m t (if t.ref.due then t.selectNow else t) := by
    split
    · exact .of_within t.selectNow_within m (by decide +kernel)
    · exact .refl m t
  exact State.settle_ends ((hsel.trans (.of_within (State.noteClamp_within _) m (by decide +kernel))).ends hl h)

theorem State.closes_raised {s : State} (h : s.raised EV.CAL_TRACE_DONE = true) : s.closes.raised EV.CAL_TRACE_DONE = true := by
  have hsel : Within State.selectNow_scope s (if s.ref.due then s.selectNow else s) := .ite s.selectNow_within (.refl _ _)
  unfold State.raised State.closes at *
  rwa [State.settle_reg _ (by decide +kernel), (State.noteClamp_within _).reg_same (by decide +kernel),
    hsel.reg_same (by decide +kernel)]

/-- Reports and traces leave the selection due or not, the clock warm or not, and the mode. -/
theorem State.endTraces_before (s : State) : s.writeReports.endTraces.ref.due = s.ref.due ∧
    s.writeReports.endTraces.tb.warmed = s.tb.warmed ∧ s.writeReports.endTraces.timeMode = s.timeMode := by
  have h1 := s.writeReports_within
  have h2 := s.writeReports.endTraces_within
  have hmode : s.writeReports.endTraces.mode = s.mode :=
    (h2.rd_same (f := PWR_MODE_CTL.CUR_MODE) (by decide +kernel) 0).trans
      (h1.rd_same (f := PWR_MODE_CTL.CUR_MODE) (by decide +kernel) 0)
  refine ⟨?_, (s.writeReports_clockKept.trans s.writeReports.endTraces_clockKept).warmed, ?_⟩
  · rw [h2.part .ref (by decide), h1.part .ref (by decide)]
  · unfold State.timeMode State.tkMode State.fwdMode
    rw [hmode]

/-- A trace whose last pulse is over ends with the tick, its event raised. -/
theorem State.idle_ends_trace (s : State) {m : Fin 16} {k : Nat} {u loop err : Int} {a : Bool}
    (hj : (s.mbxAt m).job = some (.trace k u loop err a)) (hm : s.mst m = mRUNNING) (hu : u ≤ s.domAt 0 s.now)
    (h4 : s.railOk 4 = true) :
    s.ends s.idle m ST_OK (leBytes 4 (tc 32 loop) ++ leBytes 4 (tc 32 err)) ∧ s.idle.raised EV.CAL_TRACE_DONE = true := by
  have hw := s.writeReports_within
  have hk : State.MbxKept m s s.writeReports := .of_within hw m (by decide +kernel)
  have hclock := s.writeReports_clockKept
  obtain ⟨h1, h2⟩ := s.writeReports.endTraces_ends (by rw [hk.mbx, hj]) (by rw [hk.mst, hm])
    (by rw [hclock.domAt, hclock.now]; exact hu)
    ((State.railOk_eq hclock.pwr hclock.now (hw.reg_same (by decide +kernel) 0) 4).trans h4)
  have hend := State.closes_ends (by simp [leBytes_length]) (hk.ends_from h1)
  have hraised := State.closes_raised h2
  rw [State.idle_eq]
  generalize s.writeReports.endTraces.closes = t at hend hraised ⊢
  exact ⟨hend, hraised⟩

/-- The selection that was due shows after the tick. -/
theorem State.idle_shows (s : State) (hd : s.ref.due = true) (hw : s.tb.warmed = true) (ht : s.timeMode = true) :
    s.idle.shows s.writeReports.endTraces.chooseFrom := by
  obtain ⟨h1, h2, h3⟩ := s.endTraces_before
  have h := State.closes_shows (h1.trans hd) (State.selectNow_shows _ (h2.trans hw) (h3.trans ht))
  rw [State.idle_eq]
  generalize s.writeReports.endTraces.closes = t at h ⊢
  exact h

/-- Settles O2: reports and traces first, then the selection that is due, then the next tick. -/
theorem emptyQueueIdles : Obligations.EmptyQueueIdles := by
  refine ⟨fun s h => ?_, fun s => ⟨s.idle_pending, ?_, s.idle_now⟩, fun m k u loop err a s hj hm hu h4 => s.idle_ends_trace hj hm hu h4,
    ?_⟩
  · unfold step
    rw [h]
  · rw [State.idle_eq]
    exact State.closes_due _
  · intro u s hu hd hw ht v hv
    have h := s.idle_shows hd hw ht
    rw [← hu, show u.chooseFrom = v from hv.symm] at h
    unfold State.shows at h
    generalize v.choose.1 = c at h ⊢
    cases c with
    | some j => exact h
    | none => exact h

end Sys2Proof.Machine
end

section
/-! PROOFS. Requests of modes that are refused (R66, R74), O8. -/
namespace Sys2Proof.Machine

/-- From `s` to `t` a request is refused: REQ_MODE as before, REFUSED set (R74). -/
structure State.Refuses (s t : State) : Prop where
  req : t.rd PWR_MODE_CTL.REQ_MODE = s.rd PWR_MODE_CTL.REQ_MODE
  refused : t.rd PWR_MODE_STAT.REFUSED = 1

/-- What comes after a refusal, REFUSED and REQ_MODE apart, leaves it standing. -/
theorem State.Refuses.after {s t u : State} (h : s.Refuses t) {sc : Scope} (hw : Within sc t u)
    (h1 : sc.spares R.PWR_MODE_CTL = true) (h2 : sc.spares R.PWR_MODE_STAT = true) : s.Refuses u :=
  ⟨(hw.rd_same (f := PWR_MODE_CTL.REQ_MODE) h1 0).trans h.req, (hw.rd_same (f := PWR_MODE_STAT.REFUSED) h2 0).trans h.refused⟩

theorem State.Refuses.settle {s t : State} (h : s.Refuses t) : s.Refuses t.settle :=
  h.after t.settle_within (by decide +kernel) (by decide +kernel)

/-- Switching the oven before a refusal, or after it, has no part in it. -/
theorem State.Refuses.of_oven {s u t : State} (ho : s.OvenOnly u) (h : u.Refuses t) : s.Refuses t :=
  ⟨h.req.trans ho.req, h.refused⟩

theorem State.Refuses.then_oven {s t u : State} (h : s.Refuses t) (ho : t.OvenOnly u) : s.Refuses u :=
  ⟨ho.req.trans h.req, (ho.within.rd_same (f := PWR_MODE_STAT.REFUSED) (by decide +kernel) 0).trans h.refused⟩

/-- The requests of R74: WARMUP from a mode above it, ISOLATE from DORMANT. -/
def State.barred (s : State) (v : Nat) : Prop :=
  (v = mWARMUP ∧ (s.mode = mTIMEKEEP ∨ s.mode = mFORWARD ∨ s.mode = mCALIBRATE ∨ s.mode = mISOLATE)) ∨
    (v = mISOLATE ∧ s.mode = mDORMANT)

theorem State.barred.refuses {s : State} {v : Nat} (h : s.barred v) : s.refusesMode v = true := by
  rcases h with ⟨rfl, h | h | h | h⟩ | ⟨rfl, h⟩ <;> simp [State.refusesMode, State.fwdMode, h]

theorem State.barred.le {s : State} {v : Nat} (h : s.barred v) : ¬ 5 < v := by
  rcases h with ⟨rfl, -⟩ | ⟨rfl, -⟩ <;> decide

theorem State.OvenOnly.barred {s t : State} (h : s.OvenOnly t) {v : Nat} (hb : s.barred v) : t.barred v := by
  unfold State.barred
  rw [h.mode]
  exact hb

/-- A refused request sets REFUSED and nothing more. -/
theorem State.modeRequest_barred {s : State} {v : Nat} (h : s.barred v) (smbus : Bool) :
    s.modeRequest v smbus = s.wr PWR_MODE_STAT.REFUSED 0 1 := by
  unfold State.modeRequest
  rw [if_neg h.le, if_pos h.refuses]

theorem State.wr_refused_refuses (s : State) : s.Refuses (s.wr PWR_MODE_STAT.REFUSED 0 1) :=
  ⟨State.rd_wr_ne s (f := PWR_MODE_STAT.REFUSED) (by decide +kernel) 0 0 1, State.rd_wr_self s (by decide) (by decide) 1⟩

/-- No request of SMBus is repeated after a refused one of PCIe (R66, log entry 81). -/
theorem State.hostMode_refuses {s : State} {v : Nat} (h : s.barred v) (data : Word) (smbus : Bool) :
    s.Refuses (s.hostMode v data smbus) := by
  unfold State.hostMode
  cases smbus with
  | true =>
    rw [if_pos rfl, State.modeRequest_barred h]
    exact s.wr_refused_refuses.after (State.noteSmb_within ..) (by decide +kernel) (by decide +kernel)
  | false =>
    simp only [Bool.false_eq_true, if_false, h.refuses, Bool.or_true, if_true, State.modeRequest_barred h]
    exact s.wr_refused_refuses

/-- A write of PWR_MODE_CTL that asks for a barred mode, whatever its oven bit. -/
theorem State.aonWrite_refuses {s : State} (row : RegRow) (i : Nat) {data : Word}
    (h : s.barred (PWR_MODE_CTL.REQ_MODE.get data)) (smbus : Bool) : s.Refuses (s.aonWrite row i 0x10 data smbus) := by
  unfold State.aonWrite
  rw [if_pos rfl]
  extract_lets u t
  have hoven : s.OvenOnly u := s.holdWarm_ovenOnly _
  have ht : s.Refuses t := .of_oven hoven (State.hostMode_refuses (hoven.barred h) data smbus)
  split
  · split
    · exact ht
    · exact ht.then_oven (t.holdWarm_ovenOnly _)
  · exact ht

/-- MODE_REQUEST of a barred mode, over SMBus or a PCIe link that is up. -/
theorem modeRequest_refuses {m : BitVec 3} {smbus : Bool} {s : State} (hup : s.pwr.aon = .up)
    (hs : smbus = true ∨ s.gr.linkUp = true) (h : s.barred m.toNat) :
    Yields (.modeRequest m smbus) s fun t => s.Refuses t := by
  show Ends (execModeRequest m smbus s) _
  unfold execModeRequest
  rw [if_pos (by simpa [hup] using hs), ends_fin]
  exact (State.hostMode_refuses h _ smbus).settle

theorem smbRegisterWrite_refuses {data : Word} {s : State} (hup : s.pwr.aon = .up)
    (h : s.barred (PWR_MODE_CTL.REQ_MODE.get data)) :
    Yields (.smbRegisterWrite 6 0x10 data (some (s.smbPec 0x10 data))) s fun t => s.Refuses t := by
  obtain ⟨row, i, hrow⟩ := regAt_modeCtl_some
  rw [yields_iff, smbRegisterWrite_reaches (ofs := 0x10) hup hrow (.inl rfl), ends_fin]
  exact (State.aonWrite_refuses row i h true).settle

theorem registerWrite_refuses {data : Word} {s : State} (hl : s.gr.linkUp = true) (h7 : s.railOk 7 = true)
    (h : s.barred (PWR_MODE_CTL.REQ_MODE.get data)) :
    Yields (.registerWrite false 0x01D00010 4 (data.setWidth 64)) s fun t => s.Refuses t := by
  obtain ⟨row, i, hrow⟩ := regAt_modeCtl_some
  have hexec := registerWrite_bar0 (a := 0x1D00010) (data := data.setWidth 64) hl (by decide) (by decide) hrow h7
  have hdata : (data.setWidth 64).setWidth 32 = data := by simp
  have hword : s.hostWord row i 0x1D00010 data = s.aonWrite row i 0x10 data false := by
    unfold State.hostWord
    rw [if_pos (by decide)]
  rw [yields_iff]
  show Ends (exec (.registerWrite false (BitVec.ofNat 32 0x1D00010) 4 (data.setWidth 64)) s) _
  rw [hexec, ends_fin, hdata, hword]
  exact (State.aonWrite_refuses row i h false).settle

/-- Settles O8: every path ends in a request that `modeRequest` refuses, and what stands beside it is the oven bit. -/
theorem refusedModes : Obligations.RefusedModes := by
  have hsplit {s t : State} (h : s.Refuses t) : t.rd PWR_MODE_CTL.REQ_MODE = s.rd PWR_MODE_CTL.REQ_MODE ∧
      t.rd PWR_MODE_STAT.REFUSED = 1 := ⟨h.req, h.refused⟩
  refine ⟨fun smbus s hup hs hm => ?_, fun smbus s hup hs hm => ?_, fun data s hup hm => ?_, fun data s hl h7 hm => ?_⟩
  · obtain ⟨t, ht, h⟩ := modeRequest_refuses (m := 1) hup hs (.inl ⟨rfl, hm⟩)
    exact ⟨t, ht, hsplit h⟩
  · obtain ⟨t, ht, h⟩ := modeRequest_refuses (m := 5) hup hs (.inr ⟨rfl, hm⟩)
    exact ⟨t, ht, hsplit h⟩
  · obtain ⟨t, ht, h⟩ := smbRegisterWrite_refuses hup hm
    exact ⟨t, ht, hsplit h⟩
  · obtain ⟨t, ht, h⟩ := registerWrite_refuses hl h7 hm
    exact ⟨t, ht, hsplit h⟩

end Sys2Proof.Machine
end

section
/-! PROOFS. Accesses of the host while the PCIe endpoint is absent (R71, R89, R493), O11. -/
namespace Sys2Proof.Machine

/-- LO_READ_LATCH looks its register up before it looks at the link. -/
theorem execLoReadLatch_noLink {ofs : BitVec 32} {s : State} (hl : s.gr.linkUp = false) : execLoReadLatch ofs s = fin s := by
  unfold execLoReadLatch
  dsimp only
  split
  · rw [hl]; rfl
  · rfl

/-- Settles O11: each access of the host asks for the link first. -/
theorem noLinkNoEffect : Obligations.NoLinkNoEffect := by
  intro c s hc hl
  show exec c s = fin s
  cases c with
  | loReadLatch ofs => exact execLoReadLatch_noLink hl
  | modeRequest m smbus =>
    cases smbus with
    | true => cases hc
    | false =>
      show execModeRequest m false s = fin s
      simp [execModeRequest, hl]
  | registerWrite bar2 ofs len data =>
    show execRegisterWrite bar2 ofs len data s = fin s
    simp [execRegisterWrite, hl]
  | doorbell | mailboxWrite | commitGo | commitDiscard | tableNotify | msixUnmask | snapshot | logLatch | logRemove =>
    dsimp only [exec]
    simp [execDoorbell, execMailboxWrite, execCommitGo, execCommitDiscard, execTableNotify, execMsixUnmask, execSnapshot,
      execLogLatch, execLogRemove, hl]
  | committedViewWrite | rptConsWrite | freqWordWrite | peRead | tdcResultLatch | tdcResultRemove | tdcBinDataAccess |
    calPathTrimAccess | d2dReset | vectorRearm =>
    dsimp only [exec]
    simp [execCommittedViewWrite, execRptConsWrite, execFreqWordWrite, execPeRead, execTdcResultLatch, execTdcResultRemove,
      execTdcBinDataAccess, execCalPathTrimAccess, execD2dReset, execVectorRearm, hl]
  | _ => cases hc

end Sys2Proof.Machine
end

section
/-! PROOFS. States that differ in the words sent alone go on alike, for O44. -/
namespace Sys2Proof.Machine

/-! ### Parts of larger operations -/

/-- The heartbeat of lane `i`, and its count (R462). -/
def State.hbLane (s : State) (relq take : Bool) (i : Nat) : State :=
  ((s.onMirror i (message (s.mlane i).mseq mtHEARTBEAT (s.heartbeat i relq take))).updMlane i
    fun l => { l with mseq := (l.mseq + 1) % 2 ^ 32 }).count (twnSlot 2)

def State.hbSent (s : State) : State := s.updTwin fun t => { t with sentHb := some s.now }

theorem State.sendHb_eq (s : State) (relq take : Bool) : s.sendHb relq take =
    if !s.twinOn || ((List.range 4).filter s.laneTrained).isEmpty then s
    else (((List.range 4).filter s.laneTrained).foldl (fun u i => u.hbLane relq take i) s).hbSent := rfl

/-- No path counts as failed (R430). -/
def State.clearFailed (s : State) : State :=
  (s.cal.paths.map (·.1)).foldl (fun u k => u.updPath k fun p => { p with failed := false }) s

theorem State.abortCal_eq (s : State) : s.abortCal =
    if s.bit CAL_STAT.RUNNING then
      (((((((s.wr CAL_STAT.RUNNING 0 0).wr CAL_STAT.PHASE 0 0).updTdc fun t =>
        if t.testMbx.isSome then t else { t with test := none, again := false }).updCal
        fun c => { c with again := false }).clearFailed).tdcNote.wr PWR_MODE_STAT.CAL_PENDING 0 1).raise EV.CAL_RUN_ABORT)
    else s := rfl

theorem State.startTrans_isolate (s : State) : s.startTrans 5 =
    ((if s.fwdMode then s.relinquish none else s).wr PWR_MODE_CTL.IN_TRANSITION 0 1).updPwr fun p => { p with trans := some 5 } := by
  unfold State.startTrans
  cases s.fwdMode <;> rfl

/-- A trigger of another cause than the host notes its tick (R76). -/
def State.noteIso (s : State) (c : Nat) : State := if c = 1 then s else s.updPwr fun p => { p with isoAt := some s.now }

/-- The transition to ISOLATE starts unless it is under way or over (R73). -/
def State.enterIso (s : State) (c : Nat) : State :=
  if s.pwr.trans = some 5 || (s.mode = mISOLATE && s.pwr.trans.isNone) then s
  else ((s.updPwr fun p => { p with isoCause := c }).abortCal).startTrans 5

theorem State.isolate_eq (s : State) (c : Nat) : s.isolate c =
    if s.mode = mDORMANT then s else ((s.wr PWR_MODE_CTL.REQ_MODE 0 mISOLATE).noteIso c).enterIso c := rfl

/-- EVT_LAST_FAULT shows a fault while its rail is up (R441). -/
def State.setLastFault (s : State) (w : Word) : State := if s.railOk 4 then s.setReg R.EVT_LAST_FAULT 0 w else s

/-- An unrepaired fault of class `c` is counted and its class shown (R441). -/
def State.noteUnrepaired (s : State) (c : Nat) : State :=
  let u := s.updEvt fun e => { e with unrepaired := SMap.set 0 e.unrepaired c (SMap.get 0 s.evt.unrepaired c + 1) }
  u.wr EVT_LASTING.CLASS 0 (setBit (u.rd EVT_LASTING.CLASS) c)

/-- The action of class `c` in the committed set (R444). -/
def State.faultAction (s : State) (c : Nat) : State := if s.faultAct c = 2 then s.isolate 3 else s

theorem State.lastingFault_eq (s : State) (c d : Nat) : s.lastingFault c d true =
    ((((s.addSat EVT_FCNT.LASTING c 1).setLastFault (BitVec.ofNat 32 (c + 16 + 32 * d))).raiseObj EV.EVT_LASTING 0 d).noteUnrepaired
      c).faultAction c := rfl

/-- A command that does not succeed is answered in the same way whether or not it is a repetition (R108). -/
theorem State.writeDone_refusal (s : State) (m : Nat) {st : Nat} (d : Nat) (res : List Byte) (hst : st ≠ ST_OK) :
    s.writeDone m st d res = s.writeEnd m st d res := by
  unfold State.writeDone State.writeEnd
  simp only [hst, decide_false, Bool.false_and, Bool.false_eq_true, if_false]
  rfl

/-- The point at which the first condition of a fence holds, and the tick at which the whole does (R112). -/
def State.meetFence (s : State) (m : Nat) : State :=
  if (s.mbxAt m).met.isNone && s.fenceCond m then (s.updMbx m fun b => { b with met := some s.nextOrd }).takeOrd else s
def State.holdFence (s : State) (m : Nat) (drain : Bool) : State :=
  match (s.mbxAt m).met with
  | some n =>
    if (s.mbxAt m).heldAt.isNone && (!drain || s.drained n) then s.updMbx m fun b => { b with heldAt := some s.now } else s
  | none => s

theorem State.noteFence_eq (s : State) (m : Nat) (drain : Bool) : s.noteFence m drain = (s.meetFence m).holdFence m drain := rfl

/-- The vectors whose level has risen from `old` to `new` are sent (R453). -/
def State.sendVectors (s : State) (new old : Nat) : State :=
  (List.range 32).foldl (fun u v => if testBit new v && !testBit old v then u.msix v else u) s

/-- The level of the vectors now (R453). -/
def State.levelNow (s : State) : Nat := if s.railOk 4 then s.vecLevel else 0

theorem State.vectors_eq (s : State) : s.vectors =
    if s.levelNow = s.evt.level then s.updEvt fun e => { e with level := s.levelNow }
    else (s.updEvt fun e => { e with level := s.levelNow }).sendVectors s.levelNow s.evt.level := rfl

/-! ### The basic operations -/

/-- `t` is `s` but for the words sent. -/
def State.SameButOut (s t : State) : Prop := ∃ o, t = { s with out := o }

namespace State.SameButOut

variable {s t : State}

theorem refl (s : State) : s.SameButOut s := ⟨s.out, rfl⟩

theorem silent (h : s.SameButOut t) : { t with out := [] } = { s with out := [] } := by
  obtain ⟨o, rfl⟩ := h
  rfl

theorem trans {u : State} (h : s.SameButOut t) (h' : t.SameButOut u) : s.SameButOut u := by
  obtain ⟨o, rfl⟩ := h
  obtain ⟨o', rfl⟩ := h'
  exact ⟨o', rfl⟩

theorem ite {c : Prop} [Decidable c] {a b a' b' : State} (ha : a.SameButOut a') (hb : b.SameButOut b') :
    (if c then a else b).SameButOut (if c then a' else b') := by
  split
  · exact ha
  · exact hb

theorem foldl {α : Type} {f g : State → α → State} (hf : ∀ u v a, u.SameButOut v → (f u a).SameButOut (g v a)) (l : List α)
    (h : s.SameButOut t) : (l.foldl f s).SameButOut (l.foldl g t) := by
  induction l generalizing s t with
  | nil => exact h
  | cons a l ih => exact ih (hf s t a h)

theorem setReg (h : s.SameButOut t) (r : Reg) (i : Nat) (w : Word) : (s.setReg r i w).SameButOut (t.setReg r i w) := by
  obtain ⟨o, rfl⟩ := h
  exact ite ⟨o, rfl⟩ ⟨o, rfl⟩

theorem wr (h : s.SameButOut t) (f : Fld) (i v : Nat) : (s.wr f i v).SameButOut (t.wr f i v) := by
  obtain ⟨o, rfl⟩ := h
  exact setReg ⟨o, rfl⟩ _ _ _

theorem addSat (h : s.SameButOut t) (f : Fld) (i n : Nat) : (s.addSat f i n).SameButOut (t.addSat f i n) := by
  obtain ⟨o, rfl⟩ := h
  exact wr ⟨o, rfl⟩ _ _ _

theorem setMst (h : s.SameButOut t) (m v : Nat) : (s.setMst m v).SameButOut (t.setMst m v) := by
  obtain ⟨o, rfl⟩ := h
  exact setReg ⟨o, rfl⟩ _ _ _

theorem emit (h : s.SameButOut t) (x : Out) : (s.emit x).SameButOut (t.emit x) := by
  obtain ⟨o, rfl⟩ := h
  exact ⟨o ++ [x], rfl⟩

theorem setMb (h : s.SameButOut t) (n k : Nat) (bs : List Byte) : (s.setMb n k bs).SameButOut (t.setMb n k bs) := by
  obtain ⟨o, rfl⟩ := h
  exact ⟨o, rfl⟩

theorem updMbx (h : s.SameButOut t) (n : Nat) (f : Mbx → Mbx) : (s.updMbx n f).SameButOut (t.updMbx n f) := by
  obtain ⟨o, rfl⟩ := h
  exact ⟨o, rfl⟩

theorem updEvt (h : s.SameButOut t) (f : Evt → Evt) : (s.updEvt f).SameButOut (t.updEvt f) := by
  obtain ⟨o, rfl⟩ := h
  exact ⟨o, rfl⟩

theorem updPwr (h : s.SameButOut t) (f : Pwr → Pwr) : (s.updPwr f).SameButOut (t.updPwr f) := by
  obtain ⟨o, rfl⟩ := h
  exact ⟨o, rfl⟩

theorem updTdc (h : s.SameButOut t) (f : Tdc → Tdc) : (s.updTdc f).SameButOut (t.updTdc f) := by
  obtain ⟨o, rfl⟩ := h
  exact ⟨o, rfl⟩

theorem updCal (h : s.SameButOut t) (f : Cal → Cal) : (s.updCal f).SameButOut (t.updCal f) := by
  obtain ⟨o, rfl⟩ := h
  exact ⟨o, rfl⟩

theorem updTwin (h : s.SameButOut t) (f : Twin → Twin) : (s.updTwin f).SameButOut (t.updTwin f) := by
  obtain ⟨o, rfl⟩ := h
  exact ⟨o, rfl⟩

/-! ### Events, counters and messages -/

theorem logAdd (h : s.SameButOut t) (p b c x : Nat) : (s.logAdd p b c x).SameButOut (t.logAdd p b c x) := by
  obtain ⟨o, rfl⟩ := h
  exact ite ⟨o, rfl⟩ ⟨o, rfl⟩

theorem raiseObj (h : s.SameButOut t) (e : Ev) (i x : Nat) : (s.raiseObj e i x).SameButOut (t.raiseObj e i x) := by
  obtain ⟨o, rfl⟩ := h
  exact logAdd (ite (setReg ⟨o, rfl⟩ _ _ _) ⟨o, rfl⟩) _ _ _ _

theorem raise (h : s.SameButOut t) (e : Ev) (i : Nat) : (s.raise e i).SameButOut (t.raise e i) := raiseObj h _ _ _

theorem count (h : s.SameButOut t) (n k : Nat) : (s.count n k).SameButOut (t.count n k) := by
  obtain ⟨o, rfl⟩ := h
  exact ite ⟨o, rfl⟩ (ite (raiseObj ⟨o, rfl⟩ _ _ _) ⟨o, rfl⟩)

theorem msix (h : s.SameButOut t) (v : Nat) : (s.msix v).SameButOut (t.msix v) := by
  obtain ⟨o, rfl⟩ := h
  exact ite ⟨o, rfl⟩ (ite ⟨o, rfl⟩ (emit ⟨o, rfl⟩ _))

theorem onMirror (h : s.SameButOut t) (i : Nat) (m : List Byte) : (s.onMirror i m).SameButOut (t.onMirror i m) := by
  obtain ⟨o, rfl⟩ := h
  exact foldl (fun _ _ x hu => emit hu x) _ (updTwin (emit ⟨o, rfl⟩ _) _)

theorem heartbeat (h : s.SameButOut t) (i : Nat) (relq take : Bool) : t.heartbeat i relq take = s.heartbeat i relq take := by
  obtain ⟨o, rfl⟩ := h
  rfl

theorem updMlane (h : s.SameButOut t) (i : Nat) (f : MLane → MLane) : (s.updMlane i f).SameButOut (t.updMlane i f) :=
  updTwin h _

theorem mlane (h : s.SameButOut t) (i : Nat) : t.mlane i = s.mlane i := by
  obtain ⟨o, rfl⟩ := h
  rfl

theorem hbLane (h : s.SameButOut t) (relq take : Bool) (i : Nat) : (s.hbLane relq take i).SameButOut (t.hbLane relq take i) := by
  unfold State.hbLane
  rw [h.heartbeat, h.mlane]
  exact count (updMlane (onMirror h _ _) _ _) _ _

theorem hbSent (h : s.SameButOut t) : s.hbSent.SameButOut t.hbSent := by
  obtain ⟨o, rfl⟩ := h
  exact ⟨o, rfl⟩

theorem sendHb (h : s.SameButOut t) (relq take : Bool) : (s.sendHb relq take).SameButOut (t.sendHb relq take) := by
  rw [State.sendHb_eq, State.sendHb_eq]
  obtain ⟨o, rfl⟩ := h
  exact ite ⟨o, rfl⟩ (hbSent (foldl (fun u v i huv => hbLane huv relq take i) _ ⟨o, rfl⟩))

theorem relinquish (h : s.SameButOut t) (m : Option (Fin 16)) : (s.relinquish m).SameButOut (t.relinquish m) := by
  obtain ⟨o, rfl⟩ := h
  exact ite (sendHb (wr (updTwin ⟨o, rfl⟩ _) _ _ _) _ _) ⟨o, rfl⟩

/-! ### What a lasting error of a command takes with it -/

theorem tdcNote (h : s.SameButOut t) : s.tdcNote.SameButOut t.tdcNote := by
  obtain ⟨o, rfl⟩ := h
  exact ite (raise (wr (wr (wr ⟨o, rfl⟩ _ _ _) _ _ _) _ _ _) _ _) (wr (wr (wr ⟨o, rfl⟩ _ _ _) _ _ _) _ _ _)

theorem clearFailed (h : s.SameButOut t) : s.clearFailed.SameButOut t.clearFailed := by
  have hp : ∀ (u v : State) (k : Nat), u.SameButOut v → (u.updPath k fun p => { p with failed := false }).SameButOut
      (v.updPath k fun p => { p with failed := false }) := by
    rintro u _ k ⟨o, rfl⟩
    exact ⟨o, rfl⟩
  obtain ⟨o, rfl⟩ := h
  exact foldl hp _ ⟨o, rfl⟩

theorem abortCal (h : s.SameButOut t) : s.abortCal.SameButOut t.abortCal := by
  rw [State.abortCal_eq, State.abortCal_eq]
  obtain ⟨o, rfl⟩ := h
  exact ite (raise (wr (tdcNote (clearFailed (updCal (updTdc (wr (wr ⟨o, rfl⟩ _ _ _) _ _ _) _) _))) _ _ _) _ _) ⟨o, rfl⟩

theorem startIsolate (h : s.SameButOut t) : (s.startTrans 5).SameButOut (t.startTrans 5) := by
  rw [State.startTrans_isolate, State.startTrans_isolate]
  obtain ⟨o, rfl⟩ := h
  exact updPwr (wr (ite (relinquish ⟨o, rfl⟩ _) ⟨o, rfl⟩) _ _ _) _

theorem enterIso (h : s.SameButOut t) (c : Nat) : (s.enterIso c).SameButOut (t.enterIso c) := by
  obtain ⟨o, rfl⟩ := h
  exact ite ⟨o, rfl⟩ (startIsolate (abortCal (updPwr ⟨o, rfl⟩ _)))

theorem noteIso (h : s.SameButOut t) (c : Nat) : (s.noteIso c).SameButOut (t.noteIso c) := by
  obtain ⟨o, rfl⟩ := h
  exact ite ⟨o, rfl⟩ ⟨o, rfl⟩

theorem isolate (h : s.SameButOut t) (c : Nat) : (s.isolate c).SameButOut (t.isolate c) := by
  rw [State.isolate_eq, State.isolate_eq]
  obtain ⟨o, rfl⟩ := h
  exact ite ⟨o, rfl⟩ (enterIso (noteIso (wr ⟨o, rfl⟩ _ _ _) c) c)

theorem setLastFault (h : s.SameButOut t) (w : Word) : (s.setLastFault w).SameButOut (t.setLastFault w) := by
  obtain ⟨o, rfl⟩ := h
  exact ite (setReg ⟨o, rfl⟩ _ _ _) ⟨o, rfl⟩

theorem noteUnrepaired (h : s.SameButOut t) (c : Nat) : (s.noteUnrepaired c).SameButOut (t.noteUnrepaired c) := by
  obtain ⟨o, rfl⟩ := h
  exact wr (updEvt ⟨o, rfl⟩ _) _ _ _

theorem faultAction (h : s.SameButOut t) (c : Nat) : (s.faultAction c).SameButOut (t.faultAction c) := by
  obtain ⟨o, rfl⟩ := h
  exact ite (isolate ⟨o, rfl⟩ 3) ⟨o, rfl⟩

theorem lastingFault (h : s.SameButOut t) (c d : Nat) : (s.lastingFault c d true).SameButOut (t.lastingFault c d true) := by
  rw [State.lastingFault_eq, State.lastingFault_eq]
  exact faultAction (noteUnrepaired (raiseObj (setLastFault (addSat h _ _ _) _) _ _ _) c) c

/-! ### Completion -/

theorem writeEnd (h : s.SameButOut t) (m st d : Nat) (res : List Byte) :
    (s.writeEnd m st d res).SameButOut (t.writeEnd m st d res) := by
  obtain ⟨o, rfl⟩ := h
  exact ite (msix (updMbx (setMst (setMb (setMb ⟨o, rfl⟩ _ _ _) _ _ _) _ _) _ _) _)
    (updMbx (setMst (setMb (setMb ⟨o, rfl⟩ _ _ _) _ _ _) _ _) _ _)

theorem complete (h : s.SameButOut t) (m : Nat) {st : Nat} (hst : st ≠ ST_OK) (d : Nat) (res : List Byte) :
    (s.complete m st d res).SameButOut (t.complete m st d res) := by
  have hw := h.writeEnd m st d res
  unfold State.complete
  rw [s.writeDone_refusal m d res hst, t.writeDone_refusal m d res hst]
  obtain ⟨o, rfl⟩ := h
  exact ite ⟨o, rfl⟩ hw

theorem cmdLasting (h : s.SameButOut t) (m : Nat) : (s.cmdLasting m).SameButOut (t.cmdLasting m) := by
  have hop : (t.addSat MBX_RETRY_STAT.LASTING_CNT 0 1).opcode m = (s.addSat MBX_RETRY_STAT.LASTING_CNT 0 1).opcode m := by
    obtain ⟨o, rfl⟩ := h
    rfl
  unfold State.cmdLasting
  simp only [hop]
  exact complete (lastingFault (addSat h _ _ _) _ _) m (by decide) 0 []

/-! ### The end of every command -/

theorem freeVersions (h : s.SameButOut t) : s.freeVersions.SameButOut t.freeVersions := by
  obtain ⟨o, rfl⟩ := h
  exact ite ⟨o, rfl⟩ (ite (wr ⟨o, rfl⟩ _ _ _) ⟨o, rfl⟩)

theorem meetFence (h : s.SameButOut t) (m : Nat) : (s.meetFence m).SameButOut (t.meetFence m) := by
  obtain ⟨o, rfl⟩ := h
  exact ite ⟨o, rfl⟩ ⟨o, rfl⟩

theorem holdFence (h : s.SameButOut t) (m : Nat) (drain : Bool) : (s.holdFence m drain).SameButOut (t.holdFence m drain) := by
  have hm : t.mbxAt m = s.mbxAt m := by
    obtain ⟨o, rfl⟩ := h
    rfl
  unfold State.holdFence
  rw [hm]
  obtain ⟨o, rfl⟩ := h
  cases (s.mbxAt m).met with
  | some n => exact ite ⟨o, rfl⟩ ⟨o, rfl⟩
  | none => exact ⟨o, rfl⟩

theorem noteFences (h : s.SameButOut t) : s.noteFences.SameButOut t.noteFences := by
  refine foldl (fun u v m huv => ?_) _ h
  rw [State.noteFence_eq, State.noteFence_eq]
  have hf := holdFence (meetFence huv m) m (u.fenceDrain m)
  obtain ⟨o, rfl⟩ := huv
  exact ite hf ⟨o, rfl⟩

theorem noteAwake (h : s.SameButOut t) : s.noteAwake.SameButOut t.noteAwake := by
  obtain ⟨o, rfl⟩ := h
  exact ite ⟨o, rfl⟩ (wr ⟨o, rfl⟩ _ _ _)

theorem sendVectors (h : s.SameButOut t) (new old : Nat) : (s.sendVectors new old).SameButOut (t.sendVectors new old) := by
  refine foldl (fun u w v huv => ?_) _ h
  exact ite (msix huv v) huv

theorem vectors (h : s.SameButOut t) : s.vectors.SameButOut t.vectors := by
  rw [State.vectors_eq, State.vectors_eq]
  obtain ⟨o, rfl⟩ := h
  exact ite ⟨o, rfl⟩ (sendVectors ⟨o, rfl⟩ _ _)

theorem settle (h : s.SameButOut t) : s.settle.SameButOut t.settle := vectors (noteAwake (noteFences (freeVersions h)))

end State.SameButOut
end Sys2Proof.Machine
end

section
/-! PROOFS. Commands that are refused, or end with a lasting error (R92, R103, R104, R108), O44 and O45. -/
namespace Sys2Proof.Machine

/-! ### Answers other than of success -/

/-- A command that ends without success answers with its status, a repetition or not. -/
theorem State.complete_refusal (s : State) (m : Fin 16) {st : Nat} (d : Nat) (hb : s.boot.running = false)
    (hst : st ≠ ST_OK) (hs : st < 65536) : (s.complete m st d).answered m st [] := by
  have hplain (u : State) (hb : u.boot.running = false) (hr : (u.mbxAt m).retry = false) : (u.writeEnd m st d []).answered m st [] := by
    have h := u.complete_answered m st d [] hb hr hs (by simp)
    unfold State.complete at h
    rwa [if_neg (by simp [hb]), u.writeDone_refusal m d [] hst] at h
  unfold State.complete
  rw [if_neg (by simp [hb]), s.writeDone_refusal m d [] hst]
  exact (s.writeEnd_view m st d [] fun b => { b with retry := false }).answered
    (hplain _ hb (by rw [State.mbxAt_updMbx_self]))

theorem State.cmdLasting_answered (s : State) (m : Fin 16) (hb : s.boot.running = false) :
    (s.cmdLasting m).answered m ST_LASTING_FAULT [] := by
  unfold State.cmdLasting
  refine State.complete_refusal _ m 0 ?_ (by decide) (by decide)
  rw [(State.lastingFault_within ..).part .boot (by decide), State.addSat_boot]
  exact hb

/-- Settles O45: CMD_NOP completes an unknown opcode before it looks for its own. -/
theorem unknownOpcode : Obligations.UnknownOpcode := by
  intro m x s hready hunknown hb
  show Ends (execCmdNop m x s) _
  unfold execCmdNop
  rw [if_pos (by rw [hready, hunknown]; rfl), ends_fin, State.setMst_recovery]
  refine State.settle_answered (State.complete_refusal _ m 0 hb ?_ ?_) <;> split <;> decide

/-! ### What the frame of a command does before its body -/

/-- In recovery the loader answers every command but those of images (R92, R107). -/
theorem State.cmd_recovery {s : State} {m : Fin 16} {opc : Nat} (hr : s.ready m opc = true) (hrec : s.recovery = true)
    (h40 : opc ≠ 0x40) (h41 : opc ≠ 0x41) (x : Exec) (checks : State → List Check) (body : State → State) :
    s.cmd m opc x checks body = (s.setMst m mRUNNING).complete m ST_LASTING_FAULT := by
  unfold State.cmd
  simp [hr, State.setMst_recovery, hrec, h40, h41]

/-- The first failing check completes the command (R104). -/
theorem State.cmd_refused {s : State} {m : Fin 16} {opc : Nat} (hr : s.ready m opc = true) (hrec : s.recovery = false) (x : Exec)
    {checks : State → List Check} (body : State → State) {st : Nat} (h : firstFail (checks (s.setMst m mRUNNING)) = some st) :
    s.cmd m opc x checks body = (s.setMst m mRUNNING).complete m (st % 65536) (st / 65536) := by
  unfold State.cmd
  simp [hr, State.setMst_recovery, hrec, h]

/-- An execution that fails, or whose repetition has an error, completes without effect (R108). -/
theorem State.cmd_fails {s : State} {m : Fin 16} {opc : Nat} (hr : s.ready m opc = true) (hrec : s.recovery = false) {x : Exec}
    (hx : x = .failed ∨ (x = .retried ∧ (s.mbxAt m).retry = true)) {checks : State → List Check} (body : State → State)
    (h : firstFail (checks (s.setMst m mRUNNING)) = none) :
    s.cmd m opc x checks body = (s.setMst m mRUNNING).cmdLasting m := by
  unfold State.cmd
  rcases hx with rfl | ⟨rfl, hretry⟩
  · simp [hr, State.setMst_recovery, hrec, h]
  · simp [hr, State.setMst_recovery, hrec, h, hretry]

theorem firstFail_mem {l : List Check} {st : Nat} (h : firstFail l = some st) : ∃ b, (st, b) ∈ l := by
  induction l with
  | nil => cases h
  | cons c l ih =>
    obtain ⟨k, b⟩ := c
    unfold firstFail at h
    split at h
    · cases h
      exact ⟨b, List.mem_cons_self⟩
    · obtain ⟨b', hb'⟩ := ih h
      exact ⟨b', List.mem_cons_of_mem _ hb'⟩

theorem firstFail_append {l l' : List Check} {st : Nat} (h : firstFail l = some st) : firstFail (l ++ l') = some st := by
  induction l with
  | nil => cases h
  | cons c l ih =>
    obtain ⟨k, b⟩ := c
    unfold firstFail at h ⊢
    split at h
    · cases h; simp [*]
    · simp [*]

/-! ### The checks of every command -/

/-- A status, under its DETAIL, that is not that of a success (R103, R104). -/
def failure (st : Nat) : Bool := st % 65536 ≠ ST_OK && st % 65536 ≠ ST_TRANSIENT_RECOVERED

@[simp] theorem failure_busy : failure ST_BUSY = true := rfl
@[simp] theorem failure_zeroInvalid : failure ST_ZERO_INVALID = true := rfl
@[simp] theorem failure_badLength : failure ST_BAD_LENGTH = true := rfl
@[simp] theorem failure_badArgument : failure ST_BAD_ARGUMENT = true := rfl
@[simp] theorem failure_wrongMode : failure ST_WRONG_MODE = true := rfl
@[simp] theorem failure_tooLate : failure ST_TOO_LATE = true := rfl
@[simp] theorem failure_inconsistent : failure ST_REJECT_INCONSISTENT = true := rfl

/-- DETAIL has no part in it. -/
@[simp] theorem failure_detail (st d : Nat) : failure (st + 65536 * d) = failure st := by
  unfold failure
  rw [Nat.add_mul_mod_self_left]

@[simp] theorem failure_detail_one (st : Nat) : failure (st + 65536) = failure st := failure_detail st 1
@[simp] theorem failure_detail_left (st d : Nat) : failure (st + d * 65536) = failure st := by
  rw [Nat.mul_comm, failure_detail]
@[simp] theorem failure_followDetail : failure followDetail = true := failure_detail _ _

/-- A list of checks none of which answers as a success does. -/
def noSuccess (l : List Check) : Bool := l.all fun k => failure k.1

@[simp] theorem noSuccess_nil : noSuccess [] = true := rfl
@[simp] theorem noSuccess_cons (st : Nat) (b : Bool) (l : List Check) : noSuccess ((st, b) :: l) = (failure st && noSuccess l) := rfl
@[simp] theorem noSuccess_chk (st : Nat) (b : Bool) (l : List Check) : noSuccess (chk st b :: l) = (failure st && noSuccess l) := rfl
@[simp] theorem noSuccess_append (l l' : List Check) : noSuccess (l ++ l') = (noSuccess l && noSuccess l') := List.all_append

@[simp] theorem State.headChecks_noSuccess (s : State) (m : Nat) (lenOk : Nat → Bool) : noSuccess (s.headChecks m lenOk) = true := rfl
@[simp] theorem State.adjustChecks_noSuccess (s : State) (n a : Nat) : noSuccess (s.adjustChecks n a) = true := by
  simp [State.adjustChecks]

theorem noSuccess_fail {l : List Check} (h : noSuccess l = true) {st : Nat} (hf : firstFail l = some st) : failure st = true := by
  obtain ⟨b, hb⟩ := firstFail_mem hf
  exact List.all_eq_true.1 h (st, b) hb

/-- Checks of mailbox `m` that begin with those of its header and never answer as a success does (R104). -/
def Headed (m : Fin 16) (checks : State → List Check) : Prop :=
  ∀ u : State, ∃ lenOk rest, checks u = u.headChecks m lenOk ++ rest ∧ noSuccess rest = true

/-- A reserved flag or an over-long payload fails a check of the header (R98, R104). -/
theorem State.headChecks_fail {s : State} {m : Nat} (h : 4032 < s.plen m ∨ s.mflags m / 4 ≠ 0) (lenOk : Nat → Bool) :
    ∃ st ∈ [ST_ZERO_INVALID, ST_BAD_LENGTH, ST_BAD_ARGUMENT], firstFail (s.headChecks m lenOk) = some st := by
  simp only [State.headChecks, firstFail]
  by_cases h1 : s.plen m = 0 ∧ lenOk 0 = false
  · exact ⟨ST_ZERO_INVALID, by simp, if_pos (by simpa using h1)⟩
  rw [if_neg (by simpa using h1)]
  by_cases h2 : s.plen m ≠ 0 ∧ (4032 < s.plen m ∨ lenOk (s.plen m) = false)
  · exact ⟨ST_BAD_LENGTH, by simp, if_pos (by simpa using h2)⟩
  · have h3 : s.mflags m / 4 ≠ 0 := h.resolve_left fun hl => h2 ⟨by omega, .inl hl⟩
    rw [if_neg (by simpa using h2)]
    exact ⟨ST_BAD_ARGUMENT, by simp, if_pos (by simpa using h3)⟩

/-- The command `c` of mailbox `m` is `State.cmd` with headed checks, on a state that differs in words already sent alone. -/
def Served (c : Instr) (m : Fin 16) (opc : Nat) (x : Exec) (s : State) : Prop :=
  ∃ (u : State) (checks : State → List Check) (body : State → State), s.SameButOut u ∧ Headed m checks ∧
    exec c s = fin (u.cmd m opc x checks body)

/-- The words of a transfer over the bus of the optics come before the command's frame (R162). -/
theorem served_optXfer (m : Fin 16) (x : Exec) (status : Fin 3) (idx : BitVec 16) (data : List Byte) (s : State) :
    Served (.cmdPrtOptXfer m x status idx data) m 0x102 x s := by
  refine ⟨_, _, _, ?_, ?_, rfl⟩
  · have hx (u : State) (h : s.SameButOut u) : s.SameButOut (u.optXfer m) := h.trans ⟨_, rfl⟩
    have hr (u : State) (h : s.SameButOut u) : s.SameButOut (u.optRecover m) := h.trans ⟨_, rfl⟩
    have h0 := State.SameButOut.refl s
    split
    · exact h0
    · split
      · exact hx s h0
      · split
        · exact hx _ (hr s h0)
        · exact hr s h0
  · exact fun u => ⟨_, _, rfl, by simp⟩

/-- CMD_NOP of its own opcode, which is a known one. -/
theorem served_nop (m : Fin 16) (x : Exec) {s : State} (h : s.ready m 0x1 = true) : Served (.cmdNop m x) m 0x1 x s := by
  have hop : s.opcode m = 0x1 := by
    simp only [State.ready, Bool.and_eq_true, decide_eq_true_eq] at h
    exact h.1.1.2
  refine ⟨s, fun u => u.headChecks m (· = 0), fun u => u.complete m ST_OK, .refl s, fun u => ⟨_, [], (List.append_nil _).symm, rfl⟩, ?_⟩
  show execCmdNop m x s = _
  unfold execCmdNop
  rw [if_neg (by rw [hop]; simp [knownOpcodes])]

theorem served {c : Instr} {m : Fin 16} {opc : Nat} {x : Exec} {s : State} (hc : c.command = some (m, opc, x))
    (h : s.ready m opc = true) : Served c m opc x s := by
  cases c with
  | cmdNop => cases hc; exact served_nop _ _ h
  | cmdPrtOptXfer => cases hc; exact served_optXfer ..
  | cmdIdentify =>
    cases hc
    exact ⟨s, _, _, .refl s, fun u => ⟨_, [], (List.append_nil _).symm, rfl⟩, rfl⟩
  | cmdTbsAdjust | cmdTbsSet =>
    cases hc
    refine ⟨s, _, _, .refl s, ?_, rfl⟩
    exact fun u => ⟨_, _, List.append_assoc .., by simp⟩
  | cmdFence | cmdTableBind | cmdTableSync | cmdTableRead | cmdCommit | cmdConfigSave | cmdConfigRestore |
    cmdImageDownload | cmdImageActivate | cmdPrtCountersRead | cmdShfCarrierOp | cmdShfCountersRead |
    cmdFwdCountersRead | cmdFwdQueueStat | cmdFwdFlush | cmdGrnCountersRead | cmdGrnCellTest | cmdGrnSweep |
    cmdAlmCountersRead | cmdAlmBankCheck | cmdAlmRealign | cmdTbsReportBind | cmdTbsCountersRead | cmdShfTtCarriers |
    cmdShfTtCountersRead | cmdRefForce | cmdRefGnssSend | cmdRefCountersRead | cmdRefModelClear | cmdSynRampStart |
    cmdSynRampStop | cmdTdcRun | cmdTdcStop | cmdTdcBinCal | cmdCalTrace | cmdCalFreq | cmdEvtLogRead | cmdEvtSpareReport |
    cmdTwnSwitch | cmdTwnTableAdopt | cmdTwnResync | cmdTwnCountersRead =>
    cases hc
    refine ⟨s, _, _, .refl s, ?_, rfl⟩
    exact fun u => ⟨_, _, rfl, by simp⟩
  | _ => cases hc

/-! ### What the answer leaves -/

/-- An answer other than of success, and the end of its command (R98, R103). -/
theorem State.SameButOut.answers {s u : State} (h : s.SameButOut u) (hb : s.boot.running = false) (m : Fin 16) {st : Nat}
    (d : Nat) (hst : st ≠ ST_OK) (hlt : st < 65536) :
    ((u.setMst m mRUNNING).complete m st d).settle.answered m st [] ∧
      s.onlyAnswers ((u.setMst m mRUNNING).complete m st d).settle m st d := by
  have hbu : (u.setMst m mRUNNING).boot.running = false := by
    obtain ⟨o, rfl⟩ := h
    exact hb
  exact ⟨State.settle_answered (State.complete_refusal _ m d hbu hst hlt), (((h.setMst m mRUNNING).complete m hst d []).settle).silent⟩

theorem State.SameButOut.fails {s u : State} (h : s.SameButOut u) (hb : s.boot.running = false) (m : Fin 16) :
    ((u.setMst m mRUNNING).cmdLasting m).settle.answered m ST_LASTING_FAULT [] ∧
      s.onlyFails ((u.setMst m mRUNNING).cmdLasting m).settle m := by
  have hbu : (u.setMst m mRUNNING).boot.running = false := by
    obtain ⟨o, rfl⟩ := h
    exact hb
  exact ⟨State.settle_answered (State.cmdLasting_answered _ m hbu), (((h.setMst m mRUNNING).cmdLasting m).settle).silent⟩

/-- Settles O44: each refusal by the part of the frame that makes it. -/
theorem commandsRefused : Obligations.CommandsRefused := by
  intro c m opc x s hc hready hb
  obtain ⟨u, checks, body, hu, hhead, hexec⟩ := served hc hready
  obtain ⟨hru, hrecu, hretry⟩ : u.ready m opc = s.ready m opc ∧ u.recovery = s.recovery ∧
      (u.mbxAt m).retry = (s.mbxAt m).retry := by
    obtain ⟨o, rfl⟩ := hu
    exact ⟨rfl, rfl, rfl⟩
  rw [hready] at hru
  obtain ⟨lenOk, rest, hlist, hrest⟩ := hhead (u.setMst m mRUNNING)
  simp only [yields_iff, hexec, ends_fin]
  refine ⟨fun hrec h40 h41 => ?_, fun hrec hbad => ?_, fun hrec hx => ?_⟩
  · rw [State.cmd_recovery hru (hrecu.trans hrec) h40 h41]
    exact hu.answers hb m 0 (by decide) (by decide)
  · obtain ⟨st, hst, hfail⟩ := State.headChecks_fail (s := u.setMst m mRUNNING) (m := m) (by
      obtain ⟨o, rfl⟩ := hu
      exact hbad) lenOk
    have hsmall : st ≠ ST_OK ∧ st < 65536 := by
      simp only [List.mem_cons, List.not_mem_nil, or_false] at hst
      rcases hst with rfl | rfl | rfl <;> decide
    refine ⟨st, hst, ?_⟩
    rw [State.cmd_refused hru (hrecu.trans hrec) x body (hlist ▸ firstFail_append hfail), Nat.mod_eq_of_lt hsmall.2]
    obtain ⟨h1, h2⟩ := hu.answers hb m (st / 65536) hsmall.1 hsmall.2
    exact ⟨h1, _, h2⟩
  · cases hf : firstFail (checks (u.setMst m mRUNNING)) with
    | none =>
      rw [State.cmd_fails hru (hrecu.trans hrec) (hretry ▸ hx) body hf]
      obtain ⟨h1, h2⟩ := hu.fails hb m
      exact ⟨ST_LASTING_FAULT, by decide, by decide, h1, .inl h2⟩
    | some st =>
      have hgood : failure st = true := noSuccess_fail (by rw [hlist, noSuccess_append, State.headChecks_noSuccess, hrest]; rfl) hf
      simp only [failure, Bool.and_eq_true, decide_eq_true_eq] at hgood
      rw [State.cmd_refused hru (hrecu.trans hrec) x body hf]
      obtain ⟨h1, h2⟩ := hu.answers hb m (st / 65536) hgood.1 (Nat.mod_lt st (by decide))
      exact ⟨st % 65536, hgood.1, hgood.2, h1, .inr ⟨_, h2⟩⟩

end Sys2Proof.Machine
end

section
/-! PROOFS. What planning, rails and faults leave of the clock flags and the lanes, O18. -/
namespace Sys2Proof.Machine

/-! ### Bits -/

theorem testBit_eq_testBit (x i : Nat) : testBit x i = Nat.testBit x i := by
  rw [Nat.testBit_eq_decide_div_mod_eq, testBit]

/-- A bit set in a field wide enough for it shows there. -/
theorem testBit_setBit_mod (x : Nat) {i w : Nat} (hi : i < w) : testBit (setBit x i % 2 ^ w) i = true := by
  have hset : Nat.testBit (setBit x i) i = true := by
    unfold setBit
    by_cases h : testBit x i = true
    · rwa [if_pos h, ← testBit_eq_testBit]
    · rw [if_neg h, Nat.add_comm, Nat.testBit_two_pow_add_eq, ← testBit_eq_testBit]
      simpa using h
  rw [testBit_eq_testBit, Nat.testBit_mod_two_pow, hset, decide_eq_true hi, Bool.and_self]

/-! ### The clock flags and the lanes -/

/-- From `s` to `t` every clock flag but that of the heater, the rails in regulation, the mode, the MDLL and the lanes are as
before. -/
structure State.FlagsKept (s t : State) : Prop where
  clk : ∀ f : Fld, f.reg = R.PWR_CLK_STAT → PWR_CLK_STAT.OCXO_HEATING.disjoint f = true → t.rd f = s.rd f
  rails : t.rd PWR_RAIL_STAT.RAIL_OK = s.rd PWR_RAIL_STAT.RAIL_OK
  mode : t.mode = s.mode
  mdllAt : t.pwr.mdllAt = s.pwr.mdllAt
  mdllHold : t.pwr.mdllHold = s.pwr.mdllHold
  lanes : t.pwr.lanes = s.pwr.lanes
  held : t.pwr.held = s.pwr.held

theorem State.FlagsKept.refl (s : State) : s.FlagsKept s := ⟨fun _ _ _ => rfl, rfl, rfl, rfl, rfl, rfl, rfl⟩

theorem State.FlagsKept.trans {s t u : State} (h : s.FlagsKept t) (h' : t.FlagsKept u) : s.FlagsKept u where
  clk f hf hd := (h'.clk f hf hd).trans (h.clk f hf hd)
  rails := h'.rails.trans h.rails
  mode := h'.mode.trans h.mode
  mdllAt := h'.mdllAt.trans h.mdllAt
  mdllHold := h'.mdllHold.trans h.mdllHold
  lanes := h'.lanes.trans h.lanes
  held := h'.held.trans h.held

/-- A scope that holds none of the three registers. -/
def Scope.sparesFlags (sc : Scope) : Bool :=
  sc.spares R.PWR_CLK_STAT && sc.spares R.PWR_RAIL_STAT && sc.spares R.PWR_MODE_CTL

/-- What the flags depend on in the power state. -/
structure Pwr.SameLanes (p q : Pwr) : Prop where
  mdllAt : q.mdllAt = p.mdllAt
  mdllHold : q.mdllHold = p.mdllHold
  lanes : q.lanes = p.lanes
  held : q.held = p.held

theorem State.FlagsKept.of_pwr {sc : Scope} {s t : State} (h : Within sc s t) (hs : sc.sparesFlags = true)
    (hp : s.pwr.SameLanes t.pwr) : s.FlagsKept t := by
  simp only [Scope.sparesFlags, Bool.and_eq_true] at hs
  obtain ⟨⟨hclk, hrail⟩, hmode⟩ := hs
  exact ⟨fun f hf _ => h.rd_same (hf ▸ hclk) 0, h.rd_same hrail 0, h.rd_same hmode 0, hp.mdllAt, hp.mdllHold, hp.lanes, hp.held⟩

theorem State.FlagsKept.of_within {sc : Scope} {s t : State} (h : Within sc s t) (hs : sc.sparesFlags = true)
    (hp : Part.pwr ∉ sc.parts) : s.FlagsKept t :=
  have he : t.pwr = s.pwr := h.part .pwr hp
  .of_pwr h hs ⟨by rw [he], by rw [he], by rw [he], by rw [he]⟩

theorem State.FlagsKept.updPwr (s : State) {f : Pwr → Pwr} (hf : s.pwr.SameLanes (f s.pwr)) : s.FlagsKept (s.updPwr f) :=
  .of_pwr (s.updPwr_within f) (by decide +kernel) hf

theorem State.FlagsKept.foldl {α : Type} {f : State → α → State} (hf : ∀ (s : State) a, s.FlagsKept (f s a)) (l : List α)
    (s : State) : s.FlagsKept (l.foldl f s) := foldl_keeps (R := State.FlagsKept) .refl .trans hf l s

theorem State.wr_modeCtl_flagsKept (s : State) {f : Fld} (hf : f.fits = true) (hr : f.reg = R.PWR_MODE_CTL)
    (hd : f.disjoint PWR_MODE_CTL.CUR_MODE = true) (v : Nat) : s.FlagsKept (s.wr f 0 v) := by
  have hw := s.wr_within f 0 v
  rw [hr] at hw
  refine ⟨fun g hg _ => hw.rd_same ?_ 0, hw.rd_same (by decide +kernel) 0,
    State.rd_wr_disj s hf hd hr (by rw [hr]; decide) 0 0 v, ?_, ?_, ?_, ?_⟩
  · rw [hg]; decide +kernel
  all_goals simp

/-! ### Rails, transitions and faults -/

theorem State.rampRail_flagsKept (s : State) (r : Nat) : s.FlagsKept (s.rampRail r) := by
  unfold State.rampRail
  split
  · exact .refl s
  · extract_lets u v
    have hreq : s.FlagsKept u := by
      refine ⟨fun f hf _ => State.rd_wr_ne _ (hf ▸ by decide +kernel) .., ?_, State.rd_wr_ne _ (by decide +kernel) .., ?_, ?_, ?_, ?_⟩
      · exact State.rd_wr_disj (f := PWR_RAIL_STAT.RAIL_REQ) (g := PWR_RAIL_STAT.RAIL_OK) s (by decide) (by decide) rfl
          (by decide) 0 0 _
      all_goals simp [u]
    have hv : s.FlagsKept v := hreq.trans (.updPwr u ⟨rfl, rfl, rfl, rfl⟩)
    have hheat : v.FlagsKept (v.wr PWR_CLK_STAT.OCXO_HEATING 0 1) := by
      refine ⟨fun f hf hd => ?_, State.rd_wr_ne _ (by decide +kernel) .., State.rd_wr_ne _ (by decide +kernel) .., ?_, ?_, ?_, ?_⟩
      · exact State.rd_wr_disj v (by decide) hd hf.symm (by decide) 0 0 1
      all_goals simp
    split
    · exact (hv.trans hheat).trans (.updPwr _ ⟨rfl, rfl, rfl, rfl⟩)
    · exact hv

theorem State.startTrans_flagsKept (s : State) (m : Fin 6) : s.FlagsKept (s.startTrans m) := by
  unfold State.startTrans
  extract_lets u1 u2 u3 u4 need
  have h1 : s.FlagsKept u1 := by
    unfold u1
    split
    · exact .of_within (State.relinquish_within ..) (by decide +kernel) (by decide)
    · exact .refl s
  have h3 : s.FlagsKept u3 :=
    (h1.trans (u1.wr_modeCtl_flagsKept (by decide) rfl (by decide) 1)).trans (.updPwr u2 ⟨rfl, rfl, rfl, rfl⟩)
  have h4 : s.FlagsKept u4 := by
    unfold u4
    split
    · exact (h3.trans (.of_within (State.wr_within ..) (by decide +kernel) (by decide))).trans
        (.of_within (State.wr_within ..) (by decide +kernel) (by decide))
    · exact h3
  split
  · exact h4
  · refine h4.trans (.foldl (fun x r => ?_) _ u4)
    split
    · exact x.rampRail_flagsKept r
    · exact .refl x

theorem State.plan_flagsKept (s : State) : s.FlagsKept s.plan := by
  unfold State.plan
  split
  · exact .refl s
  · split
    · exact .refl s
    · split
      · exact .refl s
      · split
        · exact s.startTrans_flagsKept _
        · exact .refl s

theorem State.isolate_flagsKept (s : State) (c : Nat) : s.FlagsKept (s.isolate c) := by
  unfold State.isolate
  split
  · exact .refl s
  · extract_lets u v w
    have hu : s.FlagsKept u := s.wr_modeCtl_flagsKept (by decide) rfl (by decide) _
    have hv : s.FlagsKept v := by
      unfold v
      split
      · exact hu
      · exact hu.trans (.updPwr u ⟨rfl, rfl, rfl, rfl⟩)
    split
    · exact hv
    · exact ((hv.trans (.updPwr v ⟨rfl, rfl, rfl, rfl⟩)).trans
        (.of_within w.abortCal_within (by decide +kernel) (by decide))).trans (State.startTrans_flagsKept _ 5)

theorem State.lastingFault_flagsKept (s : State) (c detail : Nat) (unrepaired : Bool) :
    s.FlagsKept (s.lastingFault c detail unrepaired) := by
  unfold State.lastingFault
  extract_lets u v w n x y
  have hu : s.FlagsKept u := .of_within (State.addSat_within ..) (by decide +kernel) (by decide)
  have hv : s.FlagsKept v := by
    unfold v
    split
    · exact hu.trans (.of_within (State.setReg_within ..) (by decide +kernel) (by decide))
    · exact hu
  have hw : s.FlagsKept w := hv.trans (.of_within (State.raiseObj_within ..) (by decide +kernel) (by decide))
  have hupd (z : State) (f : Evt → Evt) : z.FlagsKept (z.updEvt f) := .of_within (State.updEvt_within ..) (by decide +kernel) (by decide)
  split
  · have hy : s.FlagsKept y := (hw.trans (hupd w _)).trans (.of_within (State.wr_within ..) (by decide +kernel) (by decide))
    split
    · exact hy.trans (y.isolate_flagsKept 3)
    · exact hy
  · exact hw.trans (hupd w _)

end Sys2Proof.Machine
end

section
/-! PROOFS. The oven and a lost lock (R84, R389), O18. -/
namespace Sys2Proof.Machine

/-! ### The outputs start again -/

theorem State.ClockKept.ite {s a b : State} {c : Prop} [Decidable c] (ha : s.ClockKept a) (hb : s.ClockKept b) :
    s.ClockKept (if c then a else b) := by
  split
  exacts [ha, hb]

theorem State.setTrig_clockKept (s : State) (k : Nat) (t : Train) (ev : Option Ev) : s.ClockKept (s.setTrig k t ev) := by
  unfold State.setTrig
  extract_lets old n u v
  have hu : s.ClockKept u := .updTb s rfl rfl
  have hv : s.ClockKept v := hu.trans (.of_within (State.addSat_within ..) (by decide))
  split
  · exact hu
  · split
    · exact hv.trans (.of_within (State.raise_within ..) rfl)
    · exact hv

theorem State.unquiet_clockKept (s : State) : s.ClockKept s.unquiet := by
  unfold State.unquiet
  split
  · exact .refl s
  · extract_lets u v w
    have hu : s.ClockKept u := .foldl (fun x k => .ite (x.setTrig_clockKept ..) (.refl x)) _ s
    have hv : s.ClockKept v := hu.trans (.foldl State.driveTrig_clockKept _ u)
    have hw : s.ClockKept w := hv.trans (.foldl (fun x k => .ite (.of_within (State.setPpso_within ..) (by decide)) (.refl x)) _ v)
    exact hw.trans (.foldl (fun x k =>
      .ite (.of_within (State.updSyn_within ..) (by decide)) (.refl x)) _ w)

/-- With the tick running and a warm oven, D0 is warmed. -/
theorem State.firstWarm_warmed (s : State) (ht : s.tickRun = true) (hw : s.ocxoWarm = true) : s.firstWarm.tb.warmed = true := by
  unfold State.firstWarm
  split
  · have hsel : Part.tb ∉ State.select_scope.parts := by decide
    rw [(State.select_within _).part .tb hsel, (State.unquiet_clockKept _).warmed]
    rfl
  · rename_i h
    simpa [ht, hw] using h

theorem State.firstWarm_flagsKept (s : State) : s.FlagsKept s.firstWarm :=
  .of_within s.firstWarm_within (by decide +kernel) (by decide)

/-! ### A rail that comes up -/

theorem State.railUp_sameLanes (s : State) (r : Nat) : s.pwr.SameLanes (s.railUp r).pwr := by
  unfold State.railUp State.optLevels
  split
  · split <;> constructor <;> simp
  · constructor <;> rfl

/-- A requested rail that comes up shows in regulation. -/
theorem State.railUp_ok (s : State) {r : Nat} (hr : r < 6) (hreq : s.railReq r = true) :
    testBit ((s.railUp r).rd PWR_RAIL_STAT.RAIL_OK) r = true := by
  unfold State.railUp
  rw [if_pos hreq]
  simp only [if_neg (show r ≠ 6 by omega)]
  show testBit ((s.wr PWR_RAIL_STAT.RAIL_OK 0 (setBit (s.rd PWR_RAIL_STAT.RAIL_OK) r)).rd PWR_RAIL_STAT.RAIL_OK) r = true
  rw [State.rd_wr_self s (by decide) (by decide)]
  exact testBit_setBit_mod _ (show r < 8 by omega)

/-! ### The oven -/

theorem State.noteOven_rd (s : State) (err : BitVec 16) : (s.noteOven err).rd PWR_OCXO_STAT.OVEN_ERR = err.toNat :=
  (State.rd_wr_self (f := PWR_OCXO_STAT.OVEN_ERR) s (by decide) (by decide) _).trans (Nat.mod_eq_of_lt err.isLt)

theorem State.noteOven_flagsKept (s : State) (err : BitVec 16) : s.FlagsKept (s.noteOven err) :=
  .of_pwr (s.noteOven_within err) (by decide +kernel) (by constructor <;> simp [State.noteOven])

theorem State.select_flagsKept (s : State) : s.FlagsKept s.select := .of_within s.select_within (by decide +kernel) (by decide)

theorem State.settle_flagsKept (s : State) : s.FlagsKept s.settle := .of_within s.settle_within (by decide +kernel) (by decide)

/-- A flag of the clocks takes the value written, and the mode and the rails in regulation stay. -/
theorem State.wr_clk (s : State) {f : Fld} (hf : f.fits = true) (hr : f.reg = R.PWR_CLK_STAT) (v : Nat) :
    (s.wr f 0 v).rd f = v % 2 ^ f.w ∧ (s.wr f 0 v).mode = s.mode ∧
      (s.wr f 0 v).rd PWR_RAIL_STAT.RAIL_OK = s.rd PWR_RAIL_STAT.RAIL_OK :=
  ⟨State.rd_wr_self s hf (hr ▸ by decide) v, State.rd_wr_ne s (hr ▸ by decide +kernel) .., State.rd_wr_ne s (hr ▸ by decide +kernel) ..⟩

/-- What follows once OCXO_WARM is set: the outputs start, a reference is selected and a transition is planned. -/
def State.afterWarm (s : State) : State :=
  if s.firstWarm.tickRun then s.firstWarm.select.plan else s.firstWarm.plan

theorem State.afterWarm_flagsKept (s : State) : s.FlagsKept s.afterWarm := by
  unfold State.afterWarm
  split
  · exact (s.firstWarm_flagsKept.trans (State.select_flagsKept _)).trans (State.plan_flagsKept _)
  · exact s.firstWarm_flagsKept.trans (State.plan_flagsKept _)

theorem State.afterWarm_spares (s : State) : s.afterWarm.tb = s.firstWarm.tb ∧
    s.afterWarm.rd PWR_OCXO_STAT.OVEN_ERR = s.rd PWR_OCXO_STAT.OVEN_ERR := by
  have hfirst : s.firstWarm.rd PWR_OCXO_STAT.OVEN_ERR = s.rd PWR_OCXO_STAT.OVEN_ERR :=
    s.firstWarm_within.rd_same (by decide +kernel) 0
  have hplan (u : State) : u.plan.tb = u.tb ∧ u.plan.rd PWR_OCXO_STAT.OVEN_ERR = u.rd PWR_OCXO_STAT.OVEN_ERR :=
    ⟨u.plan_within.part .tb (by decide), u.plan_within.rd_same (by decide +kernel) 0⟩
  unfold State.afterWarm
  split
  · have hsel := State.select_within s.firstWarm
    exact ⟨(hplan _).1.trans (hsel.part .tb (by decide)), ((hplan _).2.trans (hsel.rd_same (by decide +kernel) 0)).trans hfirst⟩
  · exact ⟨(hplan _).1, (hplan _).2.trans hfirst⟩

theorem execOcxoWarmSet_eq {err : BitVec 16} {s : State} (hheat : s.bit PWR_CLK_STAT.OCXO_HEATING = true)
    (hcold : s.ocxoWarm = false) (herr : err.toInt.natAbs ≤ 51) (hheld : s.ovenHeld = true) :
    execOcxoWarmSet err s = fin (((s.railUp 5).noteOven err).wr PWR_CLK_STAT.OCXO_WARM 0 1).afterWarm := by
  unfold execOcxoWarmSet
  rw [if_neg (by simp [hheat, hcold, hheld]; omega)]
  rfl

/-- OCXO_WARM_SET of an oven held within the limit (R84). -/
theorem ocxoWarmSet_acts (err : BitVec 16) (s : State) (hheat : s.bit PWR_CLK_STAT.OCXO_HEATING = true)
    (hcold : s.ocxoWarm = false) (herr : err.toInt.natAbs ≤ 51) (hheld : s.ovenHeld = true) :
    Yields (.ocxoWarmSet err) s fun t => t.bit PWR_CLK_STAT.OCXO_WARM = true ∧ t.rd PWR_OCXO_STAT.OVEN_ERR = err.toNat ∧
      t.mode = s.mode ∧ (s.tickRun = true → t.tb.warmed = true) ∧
      (s.railReq 5 = true → testBit (t.rd PWR_RAIL_STAT.RAIL_OK) 5 = true) := by
  show Ends (execOcxoWarmSet err s) _
  rw [execOcxoWarmSet_eq hheat hcold herr hheld, ends_fin]
  have hnote := (s.railUp 5).noteOven_flagsKept err
  have herr := (s.railUp 5).noteOven_rd err
  generalize (s.railUp 5).noteOven err = u at hnote herr ⊢
  obtain ⟨hwarm, hmode, hok⟩ := u.wr_clk (f := PWR_CLK_STAT.OCXO_WARM) (by decide) rfl 1
  have hu : (u.wr PWR_CLK_STAT.OCXO_WARM 0 1).rd PWR_OCXO_STAT.OVEN_ERR = u.rd PWR_OCXO_STAT.OVEN_ERR :=
    State.rd_wr_ne _ (by decide +kernel) ..
  have hpwr : (u.wr PWR_CLK_STAT.OCXO_WARM 0 1).pwr = u.pwr := State.wr_pwr ..
  generalize u.wr PWR_CLK_STAT.OCXO_WARM 0 1 = w at hwarm hmode hok hu hpwr ⊢
  have hend := w.afterWarm_flagsKept.trans (State.settle_flagsKept _)
  obtain ⟨htb, hoven⟩ := w.afterWarm_spares
  have hflag : w.bit PWR_CLK_STAT.OCXO_WARM = true := by unfold State.bit; rw [hwarm]; rfl
  refine ⟨?_, ?_, ?_, fun htick => ?_, fun hreq => ?_⟩
  · unfold State.bit
    rw [hend.clk _ rfl (by decide)]
    exact hflag
  · rw [State.settle_rd _ (by decide +kernel), hoven, hu, herr]
  · rw [hend.mode, hmode, hnote.mode]
    exact (s.railUp_within 5).rd_same (by decide +kernel) 0
  · rw [State.settle_tb, htb]
    refine w.firstWarm_warmed ?_ hflag
    unfold State.tickRun at htick ⊢
    rw [hpwr, hnote.mdllAt, (s.railUp_sameLanes 5).mdllAt, htick]
  · rw [hend.rails, hok, hnote.rails]
    exact s.railUp_ok (by decide) hreq

/-- OCXO_WARM_CLEAR of a warm oven beyond its limit (R84, R379). -/
theorem ocxoWarmClear_acts (err : BitVec 16) (s : State) (hwarm : s.ocxoWarm = true) (herr : 512 < err.toInt.natAbs) :
    Yields (.ocxoWarmClear err) s fun t => t.bit PWR_CLK_STAT.OCXO_WARM = false ∧ t.rd PWR_OCXO_STAT.OVEN_ERR = err.toNat ∧
      t.pwr.ovenFrom = some s.now ∧ t.mode = s.mode := by
  show Ends (execOcxoWarmClear err s) _
  unfold execOcxoWarmClear
  rw [if_neg (by simp [hwarm]; omega)]
  extract_lets u v
  obtain ⟨hclr, hmode, -⟩ := (s.noteOven err).wr_clk (f := PWR_CLK_STAT.OCXO_WARM) (by decide) rfl 0
  have hv : v.bit PWR_CLK_STAT.OCXO_WARM = false ∧ v.rd PWR_OCXO_STAT.OVEN_ERR = err.toNat ∧
      v.pwr.ovenFrom = some s.now ∧ v.mode = s.mode := by
    refine ⟨?_, ?_, ?_, hmode.trans (s.noteOven_flagsKept err).mode⟩
    · show decide (u.rd PWR_CLK_STAT.OCXO_WARM ≠ 0) = false
      rw [hclr]
      rfl
    · exact (State.rd_wr_ne _ (by decide +kernel) ..).trans (s.noteOven_rd err)
    · show some u.now = some s.now
      rw [State.wr_now, (s.noteOven_within err).now]
  rw [ends_fin]
  have hend : v.FlagsKept (if v.tickRun then v.select else v).settle ∧
      (if v.tickRun then v.select else v).settle.rd PWR_OCXO_STAT.OVEN_ERR = v.rd PWR_OCXO_STAT.OVEN_ERR ∧
      (if v.tickRun then v.select else v).settle.pwr = v.pwr := by
    rw [State.settle_rd _ (by decide +kernel), State.settle_pwr]
    split
    · exact ⟨v.select_flagsKept.trans (State.settle_flagsKept _), v.select_within.rd_same (by decide +kernel) 0, rfl⟩
    · exact ⟨v.settle_flagsKept, rfl, rfl⟩
  obtain ⟨hflags, hoven, hpwr⟩ := hend
  obtain ⟨hbit, herr, hfrom, hmode⟩ := hv
  unfold State.bit at hbit ⊢
  rw [hflags.clk _ rfl (by decide), hoven, hpwr, hflags.mode]
  exact ⟨hbit, herr, hfrom, hmode⟩

/-! ### A lost lock -/

/-- LOCK_LOST while the tick runs (R389). -/
theorem lockLost_acts (s : State) (ht : s.tickRun = true) (hh : s.pwr.mdllHold = false) :
    Yields .lockLost s fun t => t.bit PWR_CLK_STAT.MDLL_LOCK = false ∧ t.pwr.mdllHold = true ∧
      (s.railOk 4 = true → t.raised EV.SYN_LOCK_LOST = true) ∧ t.rd EVT_FCNT.LASTING 9 = min (s.rd EVT_FCNT.LASTING 9 + 1) 1023 := by
  show Ends (execLockLost s) _
  unfold execLockLost
  rw [if_pos (by simp [ht, hh])]
  extract_lets u
  have hclr : u.rd PWR_CLK_STAT.MDLL_LOCK = 0 := (State.wr_clk _ (f := PWR_CLK_STAT.MDLL_LOCK) (by decide) rfl 0).1
  have hhold : u.pwr.mdllHold = true := by simp [u]
  have hcnt : u.rd EVT_FCNT.LASTING 9 = s.rd EVT_FCNT.LASTING 9 := State.rd_wr_ne _ (by decide +kernel) ..
  have hrail : u.railOk 4 = s.railOk 4 := by
    have hok : u.rd PWR_RAIL_STAT.RAIL_OK = s.rd PWR_RAIL_STAT.RAIL_OK := State.rd_wr_ne _ (by decide +kernel) ..
    unfold State.railOk State.rampOver
    rw [hok]
    simp [u]
  have hrflags : u.FlagsKept (u.raise EV.SYN_LOCK_LOST) := .of_within (State.raise_within ..) (by decide +kernel) (by decide)
  have hrcnt : (u.raise EV.SYN_LOCK_LOST).rd EVT_FCNT.LASTING 9 = u.rd EVT_FCNT.LASTING 9 :=
    (State.raise_within ..).rd_same (by decide +kernel) 9
  have hraise : u.railOk 4 = true → (u.raise EV.SYN_LOCK_LOST).raised EV.SYN_LOCK_LOST = true :=
    fun h => u.raise_raised _ 0 h (by decide) (by decide)
  generalize u.raise EV.SYN_LOCK_LOST = v at hrflags hrcnt hraise ⊢
  have hend := (hrflags.trans (v.lastingFault_flagsKept 9 0 true)).trans (State.settle_flagsKept _)
  rw [ends_fin]
  refine ⟨?_, hend.mdllHold.trans hhold, fun h => ?_, ?_⟩
  · unfold State.bit
    rw [hend.clk _ rfl (by decide), hclr]
    rfl
  · have := hraise (hrail.trans h)
    unfold State.raised at this ⊢
    rwa [State.settle_reg _ (by decide +kernel), (v.lastingFault_within 9 0 true).reg_same (by decide +kernel)]
  · rw [State.settle_rd _ (by decide +kernel), (v.lastingFault_effect (c := 9) (by decide) 0).1, hrcnt, hcnt]

end Sys2Proof.Machine
end

section
/-! PROOFS. The MDLL locks (R83, R306, R389), O18. -/
namespace Sys2Proof.Machine

/-- The core clock follows rail 1 once the MDLL is locked; the other flags stay. -/
theorem State.coreClock_rd (s : State) (hl : s.bit PWR_CLK_STAT.MDLL_LOCK = true) :
    s.coreClock.bit PWR_CLK_STAT.CORE_RUN = s.railOk 1 ∧
      ∀ f : Fld, f.reg = R.PWR_CLK_STAT → PWR_CLK_STAT.CORE_RUN.disjoint f = true → s.coreClock.rd f = s.rd f := by
  unfold State.coreClock State.wrB
  rw [hl, Bool.and_true]
  refine ⟨?_, fun f hf hd => State.rd_wr_disj s (by decide) hd hf.symm (by decide) 0 0 _⟩
  unfold State.bit
  rw [State.rd_wr_self s (f := PWR_CLK_STAT.CORE_RUN) (by decide) (by decide)]
  cases s.railOk 1 <;> rfl

/-- A rail is known to be in regulation as before while its register, its ramp and the time stay. -/
theorem State.railOk_of_ramp {s t : State} (hr : t.rd PWR_RAIL_STAT.RAIL_OK = s.rd PWR_RAIL_STAT.RAIL_OK)
    (hramp : t.pwr.ramp = s.pwr.ramp) (hn : t.now = s.now) (r : Nat) : t.railOk r = s.railOk r := by
  unfold State.railOk State.rampOver
  rw [hr, hramp, hn]

theorem State.stepOf_eq {s t : State} (href : t.ref = s.ref) (hc : t.committed = s.committed) (hn : t.now = s.now) (j : Nat) :
    t.stepOf j = s.stepOf j := by
  unfold State.stepOf State.isPps State.comB State.com State.src
  rw [href, hn, State.comReg_eq hc]

/-- The MDLL's state at a first lock: the tick counter starts. -/
def State.lockFirst (s : State) : State :=
  ((((s.updPwr fun p => { p with mdllAt := some s.now, mdllHold := false }).wr PWR_CLK_STAT.MDLL_LOCK 0 1).wr
    PWR_CLK_STAT.TCLK_RUN 0 1).wr PWR_CLK_STAT.TICK_RUN 0 1).coreClock

/-- Every domain starts at 0, and the outputs with a warm oven (R83, R306). -/
def State.startDoms (s : State) : State :=
  let s := (List.range 8).foldl (fun s n => s.updDom n fun _ => { at_ := s.now, resAt := s.now, cmdAt := s.now }) s
  (s.updRef fun r => { r with wAt := s.now, qAt := s.now }).firstWarm

theorem State.lockFirst_within (s : State) : Within ⟨[.pwr], [R.PWR_CLK_STAT], []⟩ s s.lockFirst :=
  (State.coreClock_within _).step ((State.wr_within ..).step ((State.wr_within ..).step ((State.wr_within ..).step
    ((State.updPwr_within s _).step (.refl _ _) (by decide +kernel)) (by decide +kernel)) (by decide +kernel))
    (by decide +kernel)) (by decide +kernel)

/-- At a first lock every clock of the module runs, the core clock with rail 1 (R83). -/
theorem State.lockFirst_rd (s : State) : s.lockFirst.bit PWR_CLK_STAT.MDLL_LOCK = true ∧
    s.lockFirst.bit PWR_CLK_STAT.TCLK_RUN = true ∧ s.lockFirst.bit PWR_CLK_STAT.TICK_RUN = true ∧
    s.lockFirst.bit PWR_CLK_STAT.CORE_RUN = s.railOk 1 := by
  unfold State.lockFirst
  generalize hu : (s.updPwr fun p => { p with mdllAt := some s.now, mdllHold := false }) = u
  have hrail : u.railOk 1 = s.railOk 1 := hu ▸ State.railOk_of_ramp rfl rfl rfl 1
  have hset (x : State) {f : Fld} (hf : f.fits = true) (hr : f.reg = R.PWR_CLK_STAT) (hw : f.w = 1) : (x.wr f 0 1).rd f = 1 := by
    rw [(x.wr_clk hf hr 1).1, hw]; rfl
  have hkeep (x : State) {f g : Fld} (hf : f.fits = true) (hr : f.reg = R.PWR_CLK_STAT) (hg : g.reg = R.PWR_CLK_STAT)
      (hd : f.disjoint g = true) : (x.wr f 0 1).rd g = x.rd g :=
    State.rd_wr_disj x hf hd (hr.trans hg.symm) (hr ▸ by decide) 0 0 1
  generalize hv : ((u.wr PWR_CLK_STAT.MDLL_LOCK 0 1).wr PWR_CLK_STAT.TCLK_RUN 0 1).wr PWR_CLK_STAT.TICK_RUN 0 1 = v
  have hlock : v.rd PWR_CLK_STAT.MDLL_LOCK = 1 := by
    rw [← hv, hkeep _ (by decide) rfl rfl (by decide), hkeep _ (by decide) rfl rfl (by decide), hset _ (by decide) rfl rfl]
  have htclk : v.rd PWR_CLK_STAT.TCLK_RUN = 1 := by
    rw [← hv, hkeep _ (by decide) rfl rfl (by decide), hset _ (by decide) rfl rfl]
  have htick : v.rd PWR_CLK_STAT.TICK_RUN = 1 := by rw [← hv, hset _ (by decide) rfl rfl]
  have hrailv : v.railOk 1 = u.railOk 1 := by
    refine State.railOk_of_ramp ?_ ?_ ?_ 1 <;> rw [← hv]
    · rw [(State.wr_clk _ (by decide) rfl 1).2.2, (State.wr_clk _ (by decide) rfl 1).2.2, (State.wr_clk _ (by decide) rfl 1).2.2]
    · simp
    · simp
  obtain ⟨hcore, hrest⟩ := v.coreClock_rd (by unfold State.bit; rw [hlock]; rfl)
  refine ⟨?_, ?_, ?_, by rw [hcore, hrailv, hrail]⟩ <;> unfold State.bit
  · rw [hrest _ rfl (by decide), hlock]; rfl
  · rw [hrest _ rfl (by decide), htclk]; rfl
  · rw [hrest _ rfl (by decide), htick]; rfl

theorem State.lockFirst_pwr (s : State) : s.lockFirst.pwr.mdllAt = some s.now ∧ s.lockFirst.pwr.mdllHold = false := by
  simp [State.lockFirst, State.coreClock, State.wrB]

theorem State.startDoms_within (s : State) : Within ⟨[.evt, .tb, .ref, .syn, .out], [R.TBS_EVT_STAT, R.TBS_TRIG_SKIP,
    R.REF_EVT_STAT], []⟩ s s.startDoms :=
  (State.firstWarm_within _).step ((State.updRef_within ..).step (Within.foldl (.refl _ _) fun x n hx =>
    (x.updDom_within n _).step hx (by decide +kernel)) (by decide +kernel)) (by decide +kernel)

/-- The MDLL's state at a later lock. -/
def State.relock (s : State) : State := ((s.updPwr fun p => { p with mdllHold := false }).wr PWR_CLK_STAT.MDLL_LOCK 0 1).coreClock

theorem State.relock_within (s : State) : Within ⟨[.pwr], [R.PWR_CLK_STAT], []⟩ s s.relock :=
  (State.coreClock_within _).step ((State.wr_within ..).step ((State.updPwr_within s _).step (.refl _ _) (by decide +kernel))
    (by decide +kernel)) (by decide +kernel)

theorem State.relock_rd (s : State) : s.relock.bit PWR_CLK_STAT.MDLL_LOCK = true ∧
    s.relock.bit PWR_CLK_STAT.CORE_RUN = s.railOk 1 := by
  unfold State.relock
  generalize hu : (s.updPwr fun p => { p with mdllHold := false }) = u
  have hrail : u.railOk 1 = s.railOk 1 := hu ▸ State.railOk_of_ramp rfl rfl rfl 1
  obtain ⟨hlock, -, hok⟩ := u.wr_clk (f := PWR_CLK_STAT.MDLL_LOCK) (by decide) rfl 1
  have hbit : (u.wr PWR_CLK_STAT.MDLL_LOCK 0 1).bit PWR_CLK_STAT.MDLL_LOCK = true := by unfold State.bit; rw [hlock]; rfl
  obtain ⟨hcore, hrest⟩ := (u.wr PWR_CLK_STAT.MDLL_LOCK 0 1).coreClock_rd hbit
  refine ⟨?_, by rw [hcore, State.railOk_of_ramp hok (by simp) (by simp), hrail]⟩
  unfold State.bit at hbit ⊢
  rw [hrest _ rfl (by decide)]
  exact hbit

theorem State.relock_pwr (s : State) : s.relock.pwr.mdllAt = s.pwr.mdllAt ∧ s.relock.pwr.mdllHold = false := by
  simp [State.relock, State.coreClock, State.wrB]

/-- The first lock after rail 4 (R83). -/
theorem mdllLock_first (s : State) (h4 : s.railOk 4 = true) (hat : s.pwr.mdllAt = none) :
    Yields .mdllLock s fun t => t.bit PWR_CLK_STAT.MDLL_LOCK = true ∧ t.pwr.mdllHold = false ∧
      t.bit PWR_CLK_STAT.CORE_RUN = s.railOk 1 ∧ t.pwr.mdllAt = some s.now ∧ t.bit PWR_CLK_STAT.TICK_RUN = true ∧
      t.bit PWR_CLK_STAT.TCLK_RUN = true ∧ t.tick = 0 := by
  have hexec : execMdllLock s = fin s.lockFirst.startDoms := by
    unfold execMdllLock
    rw [if_neg (by simp [h4]), if_pos (by simp [hat])]
    rfl
  show Ends (execMdllLock s) _
  rw [hexec, ends_fin]
  have hend : s.lockFirst.FlagsKept s.lockFirst.startDoms.settle :=
    (State.FlagsKept.of_within (State.startDoms_within _) (by decide +kernel) (by decide)).trans (State.settle_flagsKept _)
  have hnow : s.lockFirst.startDoms.settle.now = s.now := by
    rw [State.settle_now, (State.startDoms_within _).now, s.lockFirst_within.now]
  obtain ⟨hlock, htclk, htick, hcore⟩ := s.lockFirst_rd
  obtain ⟨hfrom, hhold⟩ := s.lockFirst_pwr
  have hat' := hend.mdllAt.trans hfrom
  have hbit {f : Fld} (hf : f.reg = R.PWR_CLK_STAT) (hd : PWR_CLK_STAT.OCXO_HEATING.disjoint f = true) :
      s.lockFirst.startDoms.settle.bit f = s.lockFirst.bit f := by
    unfold State.bit
    rw [hend.clk f hf hd]
  refine ⟨(hbit rfl (by decide)).trans hlock, hend.mdllHold.trans hhold, (hbit rfl (by decide)).trans hcore, hat',
    (hbit rfl (by decide)).trans htick, (hbit rfl (by decide)).trans htclk, ?_⟩
  unfold State.tick
  rw [hat', hnow]
  exact Nat.sub_self _

/-- A later lock, when the host has left ISOLATE (R389). -/
theorem mdllLock_again (s : State) (h4 : s.railOk 4 = true) (hat : s.pwr.mdllAt ≠ none) (hh : s.pwr.mdllHold = true)
    (hm : s.mode ≠ mISOLATE) (ht : s.pwr.trans ≠ some 5) :
    Yields .mdllLock s fun t => t.bit PWR_CLK_STAT.MDLL_LOCK = true ∧ t.pwr.mdllHold = false ∧
      t.bit PWR_CLK_STAT.CORE_RUN = s.railOk 1 ∧ t.pwr.mdllAt = s.pwr.mdllAt ∧
      t.ref.steps = s.ref.steps ++ (if s.rstate = rsLOCKED then [(s.now + 64, s.stepOf s.selected)] else []) := by
  have hexec : execMdllLock s = fin (if s.relock.rstate = rsLOCKED then
      s.relock.updRef fun r => { r with steps := r.steps ++ [(s.relock.now + 64, s.relock.stepOf s.relock.selected)] }
      else s.relock) := by
    unfold execMdllLock
    rw [if_neg (by simp [h4]), if_neg (by simpa using hat), if_pos (by simp [hh, hm, ht])]
    rfl
  show Ends (execMdllLock s) _
  rw [hexec, ends_fin]
  have hw := s.relock_within
  have hstate : s.relock.rstate = s.rstate := hw.rd_same (by decide +kernel) 0
  have hsel : s.relock.selected = s.selected := hw.rd_same (by decide +kernel) 0
  have href : s.relock.ref = s.ref := hw.part .ref (by decide)
  have hstep : s.relock.stepOf s.selected = s.stepOf s.selected :=
    State.stepOf_eq href (hw.part .committed (by decide)) hw.now _
  obtain ⟨hlock, hcore⟩ := s.relock_rd
  obtain ⟨hfrom, hhold⟩ := s.relock_pwr
  rw [hw.now, hsel, hstep, hstate]
  generalize hv : (if s.rstate = rsLOCKED then
      s.relock.updRef fun r => { r with steps := r.steps ++ [(s.now + 64, s.stepOf s.selected)] } else s.relock) = v
  have hkept : s.relock.FlagsKept v ∧ v.ref.steps = s.ref.steps ++
      (if s.rstate = rsLOCKED then [(s.now + 64, s.stepOf s.selected)] else []) := by
    subst hv
    split
    · exact ⟨.of_within (State.updRef_within ..) (by decide +kernel) (by decide), by rw [← href]; rfl⟩
    · exact ⟨.refl _, by rw [href, List.append_nil]⟩
  obtain ⟨hflags, hsteps⟩ := hkept
  have hend := hflags.trans v.settle_flagsKept
  unfold State.bit at hlock hcore ⊢
  rw [hend.clk PWR_CLK_STAT.MDLL_LOCK rfl (by decide), hend.clk PWR_CLK_STAT.CORE_RUN rfl (by decide), hend.mdllHold,
    hend.mdllAt, State.settle_ref]
  exact ⟨hlock, hhold, hcore, hfrom, hsteps⟩

end Sys2Proof.Machine
end

section
/-! PROOFS. The checks of a boot (R91, R107, R519), O18. -/
namespace Sys2Proof.Machine

/-! ### What leaves the boot -/

/-- From `s` to `t` the boot and its register are as before. -/
structure State.BootKept (s t : State) : Prop where
  boot : t.boot = s.boot
  reg : t.reg R.PWR_BOOT_STAT 0 = s.reg R.PWR_BOOT_STAT 0

theorem State.BootKept.refl (s : State) : s.BootKept s := ⟨rfl, rfl⟩

theorem State.BootKept.trans {s t u : State} (h : s.BootKept t) (h' : t.BootKept u) : s.BootKept u :=
  ⟨h'.boot.trans h.boot, h'.reg.trans h.reg⟩

theorem State.BootKept.of_within {sc : Scope} {s t : State} (h : Within sc s t) (hs : sc.spares R.PWR_BOOT_STAT = true)
    (hp : Part.boot ∉ sc.parts) : s.BootKept t := ⟨h.part .boot hp, h.reg_same hs 0⟩

theorem State.BootKept.rd {s t : State} (h : s.BootKept t) {f : Fld} (hf : f.reg = R.PWR_BOOT_STAT) : t.rd f = s.rd f := by
  unfold State.rd
  rw [hf, h.reg]

theorem State.settle_bootKept (s : State) : s.BootKept s.settle := .of_within s.settle_within (by decide +kernel) (by decide)

theorem State.plan_bootKept (s : State) : s.BootKept s.plan := .of_within s.plan_within (by decide +kernel) (by decide)

theorem State.lastingFault_bootKept (s : State) (c d : Nat) (u : Bool) : s.BootKept (s.lastingFault c d u) :=
  .of_within (s.lastingFault_within c d u) (by decide +kernel) (by decide)

/-- A field of the boot register takes the value written; the fields beside it and the boot stay. -/
theorem State.wr_bootStat (s : State) {f : Fld} (hf : f.fits = true) (hr : f.reg = R.PWR_BOOT_STAT) {v : Nat} (hv : v < 2 ^ f.w) :
    (s.wr f 0 v).rd f = v ∧ (s.wr f 0 v).boot = s.boot ∧
      ∀ g : Fld, g.reg = R.PWR_BOOT_STAT → f.disjoint g = true → (s.wr f 0 v).rd g = s.rd g :=
  ⟨(State.rd_wr_self s hf (hr ▸ by decide) v).trans (Nat.mod_eq_of_lt hv), State.wr_boot s f 0 v,
    fun g hg hd => State.rd_wr_disj s hf hd (hr.trans hg.symm) (hr ▸ by decide) 0 0 v⟩

/-- A started read of an image changes nothing but the time of its check. -/
theorem State.startRead_boot (s : State) : s.startRead.boot.running = s.boot.running ∧
    s.startRead.boot.second = s.boot.second ∧ s.startRead.boot.slotsTried = s.boot.slotsTried ∧
    ∀ f, s.startRead.rd f = s.rd f := ⟨rfl, rfl, rfl, fun _ => rfl⟩

/-- The boot is over: running or in recovery, the rest of its register as before (R91, R92). -/
theorem State.bootOver_boot (s : State) (started : Bool) : (s.bootOver started).boot.running = false ∧
    (s.bootOver started).rd PWR_BOOT_STAT.STATE = (if started then 3 else 4) ∧
    ∀ g : Fld, g.reg = R.PWR_BOOT_STAT → PWR_BOOT_STAT.STATE.disjoint g = true → (s.bootOver started).rd g = s.rd g := by
  obtain ⟨hstate, -, hrest⟩ := s.wr_bootStat (f := PWR_BOOT_STAT.STATE) (v := if started then 3 else 4) (by decide) rfl
    (by cases started <;> decide)
  have hlink (x : State) (c : Prop) [Decidable c] (f : Grange → Grange) : x.BootKept (if c then x.updGr f else x) := by
    split
    · exact .of_within (x.updGr_within f) (by decide +kernel) (by decide)
    · exact .refl x
  have hfault (x : State) (bad : Nat) (l : List Nat) :
      x.BootKept (l.foldl (fun s k => if testBit bad k then s.lastingFault 10 k (!started) else s) x) := by
    refine foldl_keeps (R := State.BootKept) .refl .trans (fun x k => ?_) l x
    split
    · exact x.lastingFault_bootKept 10 k (!started)
    · exact .refl x
  have hend (x : State) (journal : Bool) :
      x.BootKept (if !journal then x else if started then x.readJournal else x.loaderReply) := by
    split
    · exact .refl x
    · split
      · exact .of_within x.readJournal_within (by decide +kernel) (by decide)
      · exact .of_within x.loaderReply_within (by decide +kernel) (by decide)
  unfold State.bootOver
  extract_lets bad journal relink u v w x
  have hkept : v.BootKept (if !journal then x else if started then x.readJournal else x.loaderReply) :=
    ((hlink v _ _).trans (hfault w bad [0, 1])).trans (hend x journal)
  generalize (if !journal then x else if started then x.readJournal else x.loaderReply) = t at hkept ⊢
  refine ⟨by rw [hkept.boot]; rfl, (hkept.rd rfl).trans hstate, fun g hg hd => (hkept.rd hg).trans (hrest g hg hd)⟩

/-- From `s` to `t` the slot has failed with `code`: the other one is tried, or the recovery loader runs (R91). -/
def State.failsSlot (s t : State) (code : Nat) : Prop :=
  t.rd PWR_BOOT_STAT.FAIL_CODE = code ∧ t.rd PWR_BOOT_STAT.FALLBACK = 1 ∧
    if s.boot.slotsTried = 1 then t.boot.running = false ∧ t.rd PWR_BOOT_STAT.STATE = 4
    else t.boot.running = true ∧ t.boot.second = false ∧ t.boot.slotsTried = 1 ∧ t.rd PWR_BOOT_STAT.STATE = 1 ∧
      t.rd PWR_BOOT_STAT.SLOT = 1 - s.rd PWR_BOOT_STAT.SLOT

theorem State.BootKept.failsSlot {s t u : State} {code : Nat} (h : t.BootKept u) (ht : s.failsSlot t code) :
    s.failsSlot u code := by
  unfold State.failsSlot at ht ⊢
  rwa [h.boot, h.rd rfl, h.rd rfl, h.rd rfl, h.rd rfl]

theorem State.BootKept.failsSlot_from {s u t : State} {code : Nat} (h : s.BootKept u) (ht : u.failsSlot t code) :
    s.failsSlot t code := by
  unfold State.failsSlot at ht ⊢
  rwa [h.boot, h.rd rfl] at ht

theorem State.slotFailed_fails (s : State) {code : Nat} (hc : code < 256) (hrun : s.boot.running = true) :
    s.failsSlot (s.slotFailed code) code := by
  obtain ⟨hcode, hb1, h1⟩ := s.wr_bootStat (f := PWR_BOOT_STAT.FAIL_CODE) (by decide) rfl hc
  generalize hu : s.wr PWR_BOOT_STAT.FAIL_CODE 0 code = u at hcode hb1 h1
  obtain ⟨hfall, hb2, h2⟩ := u.wr_bootStat (f := PWR_BOOT_STAT.FALLBACK) (v := 1) (by decide) rfl (by decide)
  generalize hv : u.wr PWR_BOOT_STAT.FALLBACK 0 1 = v at hfall hb2 h2
  have hboot : v.boot = s.boot := hb2.trans hb1
  have hvcode : v.rd PWR_BOOT_STAT.FAIL_CODE = code := (h2 _ rfl (by decide)).trans hcode
  unfold State.failsSlot State.slotFailed
  simp only [hu, hv, hboot]
  split
  · obtain ⟨hstop, hstate, hrest⟩ := v.bootOver_boot false
    exact ⟨(hrest _ rfl (by decide)).trans hvcode, (hrest _ rfl (by decide)).trans hfall, hstop, hstate⟩
  · generalize hw : v.updBoot (fun b => { b with slotsTried := 1, second := false }) = w
    have hkeep (g : Fld) : w.rd g = v.rd g := hw ▸ rfl
    have hslot : w.rd PWR_BOOT_STAT.SLOT = s.rd PWR_BOOT_STAT.SLOT :=
      ((hkeep _).trans (h2 _ rfl (by decide))).trans (h1 _ rfl (by decide))
    rw [hslot]
    obtain ⟨hsl, hb3, h3⟩ := w.wr_bootStat (f := PWR_BOOT_STAT.SLOT) (v := 1 - s.rd PWR_BOOT_STAT.SLOT) (by decide) rfl
      (by show _ < 2; omega)
    generalize w.wr PWR_BOOT_STAT.SLOT 0 (1 - s.rd PWR_BOOT_STAT.SLOT) = x at hsl hb3 h3 ⊢
    obtain ⟨hst, hb4, h4⟩ := x.wr_bootStat (f := PWR_BOOT_STAT.STATE) (v := 1) (by decide) rfl (by decide)
    generalize x.wr PWR_BOOT_STAT.STATE 0 1 = y at hst hb4 h4 ⊢
    obtain ⟨hrunning, hsecond, htried, hread⟩ := y.startRead_boot
    have hyboot : y.boot = { v.boot with slotsTried := 1, second := false } := by rw [hb4, hb3, ← hw]; rfl
    rw [hread, hread, hread, hread, hrunning, hsecond, htried, hyboot]
    refine ⟨?_, ?_, hboot ▸ hrun, rfl, rfl, hst, (h4 _ rfl (by decide)).trans hsl⟩
    · rw [h4 _ rfl (by decide), h3 _ rfl (by decide), hkeep, hvcode]
    · rw [h4 _ rfl (by decide), h3 _ rfl (by decide), hkeep, hfall]

/-- From `s` to `t` the check of the slot is to be made again (R91). -/
def State.repeatsCheck (s t : State) : Prop :=
  t.boot.second = true ∧ t.boot.running = true ∧ t.rd PWR_BOOT_STAT.STATE = 1 ∧
    t.boot.slotsTried = s.boot.slotsTried ∧ t.rd PWR_BOOT_STAT.SLOT = s.rd PWR_BOOT_STAT.SLOT

/-- A check that fails is repeated once, then the slot fails (R91, R519). -/
theorem State.checkFailed_boot (s : State) {code : Nat} (hc : code < 256) (hrun : s.boot.running = true) :
    (s.boot.second = false → s.repeatsCheck (s.checkFailed code)) ∧
      (s.boot.second = true → s.failsSlot (s.checkFailed code) code) := by
  unfold State.checkFailed
  constructor
  · intro hsecond
    rw [if_pos (by simp [hsecond])]
    generalize hu : s.updBoot (fun b => { b with second := true }) = u
    obtain ⟨hst, hb, hrest⟩ := u.wr_bootStat (f := PWR_BOOT_STAT.STATE) (v := 1) (by decide) rfl (by decide)
    generalize u.wr PWR_BOOT_STAT.STATE 0 1 = v at hst hb hrest ⊢
    obtain ⟨hrunning, hsec, htried, hread⟩ := v.startRead_boot
    unfold State.repeatsCheck
    rw [hread, hread, hrunning, hsec, htried, hb, hrest PWR_BOOT_STAT.SLOT rfl (by decide), ← hu]
    exact ⟨rfl, hrun, hst, rfl, rfl⟩
  · intro hsecond
    rw [if_neg (by simp [hsecond])]
    exact State.slotFailed_fails (s.updBoot _) hc hrun

theorem State.BootKept.repeatsCheck {s t u : State} (h : t.BootKept u) (ht : s.repeatsCheck t) : s.repeatsCheck u := by
  unfold State.repeatsCheck at ht ⊢
  rwa [h.boot, h.rd rfl, h.rd rfl]

/-- A check that fails with `code`: what the end of its tick leaves of the outcome. -/
theorem State.checkFailed_settle (s : State) {code : Nat} (hc : code < 256) (hrun : s.boot.running = true) :
    (s.boot.second = false → s.repeatsCheck (s.checkFailed code).settle) ∧
      (s.boot.second = true → s.failsSlot (s.checkFailed code).settle code) := by
  obtain ⟨hfirst, hsecond⟩ := s.checkFailed_boot hc hrun
  have hset := State.settle_bootKept (s.checkFailed code)
  exact ⟨fun h => hset.repeatsCheck (hfirst h), fun h => hset.failsSlot (hsecond h)⟩

/-- A good image of a release not below the fuses runs (R91, R107). -/
theorem State.goodImage_runs (s : State) (rel : BitVec 16) :
    let t := ((s.wr PWR_BOOT_STAT.RELEASE 0 rel.toNat).bootOver true).plan.settle
    t.boot.running = false ∧ t.rd PWR_BOOT_STAT.STATE = 3 ∧ t.rd PWR_BOOT_STAT.RELEASE = rel.toNat := by
  intro t
  obtain ⟨hrel, -, -⟩ := s.wr_bootStat (f := PWR_BOOT_STAT.RELEASE) (by decide) rfl rel.isLt
  obtain ⟨hstop, hstate, hrest⟩ := State.bootOver_boot (s.wr PWR_BOOT_STAT.RELEASE 0 rel.toNat) true
  have hend := (State.plan_bootKept ((s.wr PWR_BOOT_STAT.RELEASE 0 rel.toNat).bootOver true)).trans (State.settle_bootKept _)
  exact ⟨by rw [hend.boot, hstop], (hend.rd rfl).trans hstate,
    ((hend.rd rfl).trans (hrest _ rfl (by decide))).trans hrel⟩

/-- The FAIL_CODE of a check whose slot fails (R91): 3 for a release below the fuses. -/
def checkCode : ImageCheck → Nat
  | .badHeader => 1
  | .badSignature => 2
  | .good _ => 3
  | .readError => 4

theorem checkCode_lt (r : ImageCheck) : checkCode r < 256 := by
  unfold checkCode
  split <;> decide

/-- A boot check that is done (R91, R107, R519). -/
theorem bootCheckDone_acts (r : ImageCheck) (s : State) (hrun : s.boot.running = true) :
    Yields (.bootCheckDone r) s fun t =>
      (∀ rel, r = .good rel → s.boot.minRelease ≤ rel.toNat → t.boot.running = false ∧ t.rd PWR_BOOT_STAT.STATE = 3 ∧
        t.rd PWR_BOOT_STAT.RELEASE = rel.toNat) ∧
      ((∀ rel, r ≠ .good rel) → s.boot.second = false → s.repeatsCheck t) ∧
      (((∀ rel, r ≠ .good rel) ∧ s.boot.second = true ∨ ∃ rel, r = .good rel ∧ rel.toNat < s.boot.minRelease) →
        s.failsSlot t (checkCode r)) := by
  show Ends (execBootCheckDone r s) _
  unfold execBootCheckDone
  rw [if_neg (by simp [hrun])]
  obtain ⟨hfirst, hsecond⟩ := s.checkFailed_settle (checkCode_lt r) hrun
  cases r with
  | badHeader | badSignature | readError =>
    rw [ends_fin]
    exact ⟨nofun, fun _ => hfirst, fun h => hsecond (h.elim And.right nofun)⟩
  | good rel =>
    extract_lets u
    have hu : s.BootKept u := by
      unfold u
      split
      · exact .of_within (State.transientFault_within ..) (by decide +kernel) (by decide)
      · exact .refl s
    simp only [hu.boot]
    by_cases hlow : rel.toNat < s.boot.minRelease
    · rw [if_pos hlow, ends_fin]
      have hfails := u.slotFailed_fails (checkCode_lt (.good rel)) (hu.boot ▸ hrun)
      refine ⟨fun rel' he hge => ?_, fun h => (h rel rfl).elim, fun _ => ?_⟩
      · cases he; omega
      · exact hu.failsSlot_from ((State.settle_bootKept _).failsSlot hfails)
    · rw [if_neg hlow, ends_fin]
      refine ⟨fun rel' he _ => ?_, fun h => (h rel rfl).elim, ?_⟩
      · cases he; exact u.goodImage_runs rel
      · rintro (⟨h, -⟩ | ⟨rel', he, hlow'⟩)
        · exact (h rel rfl).elim
        · cases he; exact absurd hlow' hlow

end Sys2Proof.Machine
end

section
/-! PROOFS. A lane gets its power (R77, R83, R85), O18. -/
namespace Sys2Proof.Machine

/-! ### One object in a round over all -/

/-- In a round over objects, what holds before the turn of `p` holds at it, and what its turn brings stays. -/
theorem foldl_range_at {n p : Nat} (hp : p < n) {f : State → Nat → State} {Pre Post : State → Prop} {s : State} (h : Pre s)
    (hpre : ∀ x k, k < n → k ≠ p → Pre x → Pre (f x k)) (hact : ∀ x, Pre x → Post (f x p))
    (hpost : ∀ x k, k < n → k ≠ p → Post x → Post (f x k)) : Post ((List.range n).foldl f s) := by
  induction n with
  | zero => exact absurd hp (Nat.not_lt_zero p)
  | succ n ih =>
    rw [List.range_succ, List.foldl_append]
    rcases Nat.lt_succ_iff_lt_or_eq.1 hp with hlt | rfl
    · exact hpost _ n (by omega) (by omega) (ih hlt (fun x k hk => hpre x k (by omega)) fun x k hk => hpost x k (by omega))
    · refine hact _ (List.foldlRecOn _ f h fun x hx k hk => ?_)
      have hlt := List.mem_range.1 hk
      exact hpre x k (by omega) (by omega) hx

/-! ### Ports and carriers that wait for their lanes -/

theorem State.portLanes_eq {s t : State} (h : t.committed = s.committed) (p : Nat) : t.portLanes p = s.portLanes p := by
  unfold State.portLanes
  rw [State.com_eq h, State.com_eq h]

theorem State.carLanes_eq {s t : State} (h : t.committed = s.committed) (c : Nat) : t.carLanes c = s.carLanes c := by
  unfold State.carLanes
  rw [State.com_eq h, State.com_eq h]

/-- Port `p` goes on when its last lane is powered (R85). -/
def State.portPowered (s : State) (p : Nat) : State :=
  if s.comB PRT_CFG.ENABLE p && s.linkState p = lsPOWERING && (s.portLanes p).all (fun x => s.pwr.lanes.contains x) then
    (s.toWait p).noteLine s p
  else s

/-- Carrier `c` goes on when its last lane is powered (R85). -/
def State.carPowered (s : State) (c : Nat) : State :=
  if s.comB SHF_CAR_CFG.ENABLE c && s.cst c = cPOWERING && (s.carLanes c).all (fun x => s.pwr.lanes.contains x) then
    (s.toCarWait c).updCar c fun k => { k with nextTg := s.now }
  else s

def portPoweredScope : Scope := ⟨[.ports, .out], [R.PRT_STAT], []⟩

theorem State.portPowered_within (s : State) (p : Nat) : Within portPoweredScope s (s.portPowered p) :=
  .ite ((State.noteLine_within ..).step ((s.toWait_within p).step (.refl _ _) (by decide +kernel)) (by decide +kernel)) (.refl _ _)

theorem State.carPowered_within (s : State) (c : Nat) : Within State.toCarWait_scope s (s.carPowered c) :=
  .ite ((State.updCar_within ..).step (s.toCarWait_within c) (by decide +kernel)) (.refl _ _)

theorem State.noteLine_linkState (s b : State) (p q : Nat) : (s.noteLine b p).linkState q = s.linkState q :=
  (s.noteLine_within b p).rd_same (by decide +kernel) q

/-- A port that waits for signal again: its state is that, and every other port's is as before. -/
theorem State.toWait_linkState (s : State) {p : Nat} (hp : p < 256) (q : Nat) :
    (s.toWait p).linkState q = if q = p then lsWAIT_SIGNAL else s.linkState q := by
  have hrest (x : State) {f : Fld} (hf : f.fits = true) (hr : f.reg = R.PRT_STAT) (hd : f.disjoint PRT_STAT.LINK_STATE = true)
      (v : Nat) : (x.wr f p v).rd PRT_STAT.LINK_STATE q = x.rd PRT_STAT.LINK_STATE q :=
    State.rd_wr_disj x hf hd hr (hr ▸ by decide) p q v
  unfold State.toWait State.linkState
  rw [hrest _ (by decide) rfl (by decide), hrest _ (by decide) rfl (by decide), hrest _ (by decide) rfl (by decide)]
  show (s.wr PRT_STAT.LINK_STATE p lsWAIT_SIGNAL).rd PRT_STAT.LINK_STATE q = _
  split
  · rename_i h
    rw [h]
    exact State.rd_wr_self s (f := PRT_STAT.LINK_STATE) (by decide) hp _
  · rename_i h
    exact State.rd_wr_inst s rfl (by decide) h _

theorem State.portPowered_other (s : State) {p q : Nat} (h : p ≠ q) (hp : p < 256) : (s.portPowered p).linkState q = s.linkState q := by
  unfold State.portPowered
  split
  · rw [State.noteLine_linkState, s.toWait_linkState hp, if_neg h.symm]
  · rfl

theorem State.setCar_cst (s : State) {c : Nat} (hc : c < 128) {v : Nat} (hv : v < 16) (d : Nat) :
    (s.setCar c v).cst d = if d = c then v else s.cst d := by
  unfold State.setCar
  split
  · rename_i he
    split
    · rename_i hd; rw [hd, he]
    · rfl
  · unfold State.cst
    rw [(State.noteSheaf_within ..).rd_same (by decide +kernel), (State.ttNote_within ..).rd_same (by decide +kernel)]
    split
    · rename_i h
      rw [h]
      exact (State.rd_wr_self s (f := SHF_CAR_STAT.STATE) (by decide) hc v).trans (Nat.mod_eq_of_lt hv)
    · rename_i h
      exact State.rd_wr_inst s rfl (by decide) h v

theorem State.toCarWait_cst (s : State) {c : Nat} (hc : c < 128) (d : Nat) :
    (s.toCarWait c).cst d = if d = c then cWAIT_SIGNAL else s.cst d := by
  rw [← s.setCar_cst hc (v := cWAIT_SIGNAL) (by decide) d]
  exact State.rd_wr_disj (f := SHF_CAR_STAT.RETRY) (g := SHF_CAR_STAT.STATE) _ (by decide) (by decide) rfl (by decide) c d 0

theorem State.carPowered_other (s : State) {c d : Nat} (h : c ≠ d) (hc : c < 128) : (s.carPowered c).cst d = s.cst d := by
  unfold State.carPowered
  split
  · exact (s.toCarWait_cst hc d).trans (if_neg h.symm)
  · rfl

/-- An enabled port that waits for power and has all its lanes powered goes on to wait for its signal. -/
theorem State.portPowered_self (s : State) {p : Nat} (hp : p < 256) (hen : s.comB PRT_CFG.ENABLE p = true)
    (hst : s.linkState p = lsPOWERING) (hall : (s.portLanes p).all (fun x => s.pwr.lanes.contains x) = true) :
    (s.portPowered p).linkState p = lsWAIT_SIGNAL := by
  unfold State.portPowered
  rw [if_pos (by rw [hen, hall, hst]; rfl), State.noteLine_linkState, s.toWait_linkState hp, if_pos rfl]

theorem State.carPowered_self (s : State) {c : Nat} (hc : c < 128) (hen : s.comB SHF_CAR_CFG.ENABLE c = true)
    (hst : s.cst c = cPOWERING) (hall : (s.carLanes c).all (fun x => s.pwr.lanes.contains x) = true) :
    (s.carPowered c).cst c = cWAIT_SIGNAL := by
  unfold State.carPowered
  rw [if_pos (by rw [hen, hall, hst]; rfl)]
  exact (s.toCarWait_cst hc c).trans (if_pos rfl)

/-- All ports, then all carriers, go on whose last lane is powered. -/
def State.objectsPowered (s : State) : State :=
  (List.range 128).foldl State.carPowered ((List.range 256).foldl State.portPowered s)

theorem State.portsPowered_within (s : State) : Within portPoweredScope s ((List.range 256).foldl State.portPowered s) :=
  Within.foldl (.refl _ _) fun x p hx => (x.portPowered_within p).step hx (by decide +kernel)

theorem State.carsPowered_within (s : State) : Within State.toCarWait_scope s ((List.range 128).foldl State.carPowered s) :=
  Within.foldl (.refl _ _) fun x c hx => (x.carPowered_within c).step hx (by decide +kernel)

theorem State.portsPowered_linkState (s : State) {p : Nat} (hp : p < 256) (hen : s.comB PRT_CFG.ENABLE p = true)
    (hst : s.linkState p = lsPOWERING) (hall : (s.portLanes p).all (fun x => s.pwr.lanes.contains x) = true) :
    ((List.range 256).foldl State.portPowered s).linkState p = lsWAIT_SIGNAL := by
  refine foldl_range_at (Pre := fun x => Within portPoweredScope s x ∧ x.linkState p = lsPOWERING)
    (Post := fun x => x.linkState p = lsWAIT_SIGNAL) hp ⟨.refl _ _, hst⟩ (fun x k hk hne h => ?_) (fun x h => ?_)
    fun x k hk hne h => (x.portPowered_other hne hk).trans h
  · exact ⟨(x.portPowered_within k).step h.1 (by decide +kernel), (x.portPowered_other hne hk).trans h.2⟩
  · obtain ⟨hw, hx⟩ := h
    have hcom : x.committed = s.committed := hw.part .committed (by decide)
    refine x.portPowered_self hp ?_ hx ?_
    · rwa [State.comB, State.com_eq hcom]
    · rwa [State.portLanes_eq hcom, hw.part .pwr (by decide)]

theorem State.carsPowered_cst (s : State) {c : Nat} (hc : c < 128) (hen : s.comB SHF_CAR_CFG.ENABLE c = true)
    (hst : s.cst c = cPOWERING) (hall : (s.carLanes c).all (fun x => s.pwr.lanes.contains x) = true) :
    ((List.range 128).foldl State.carPowered s).cst c = cWAIT_SIGNAL := by
  refine foldl_range_at (Pre := fun x => Within State.toCarWait_scope s x ∧ x.cst c = cPOWERING)
    (Post := fun x => x.cst c = cWAIT_SIGNAL) hc ⟨.refl _ _, hst⟩ (fun x k hk hne h => ?_) (fun x h => ?_)
    fun x k hk hne h => (x.carPowered_other hne hk).trans h
  · exact ⟨(x.carPowered_within k).step h.1 (by decide +kernel), (x.carPowered_other hne hk).trans h.2⟩
  · obtain ⟨hw, hx⟩ := h
    have hcom : x.committed = s.committed := hw.part .committed (by decide)
    refine x.carPowered_self hc ?_ hx ?_
    · rwa [State.comB, State.com_eq hcom]
    · rwa [State.carLanes_eq hcom, hw.part .pwr (by decide)]

/-! ### The lane's power -/

theorem State.rampRail_req (s : State) {r : Nat} (hr : r < 8) : (s.rampRail r).railReq r = true := by
  unfold State.rampRail
  split
  · assumption
  · extract_lets u v
    have hu : testBit (u.rd PWR_RAIL_STAT.RAIL_REQ) r = true := by
      rw [show u.rd PWR_RAIL_STAT.RAIL_REQ = _ from State.rd_wr_self s (by decide) (by decide) _]
      exact testBit_setBit_mod _ (show r < 8 from hr)
    split
    · unfold State.railReq
      rwa [show ((v.wr PWR_CLK_STAT.OCXO_HEATING 0 1).updPwr _).rd PWR_RAIL_STAT.RAIL_REQ = u.rd PWR_RAIL_STAT.RAIL_REQ from
        State.rd_wr_ne v (by decide +kernel) 0 0 1]
    · exact hu

theorem State.railUp_req (s : State) (r : Nat) : (s.railUp r).rd PWR_RAIL_STAT.RAIL_REQ = s.rd PWR_RAIL_STAT.RAIL_REQ := by
  unfold State.railUp
  split
  · extract_lets u
    have hu : u.rd PWR_RAIL_STAT.RAIL_REQ = s.rd PWR_RAIL_STAT.RAIL_REQ :=
      State.rd_wr_disj (f := PWR_RAIL_STAT.RAIL_OK) (g := PWR_RAIL_STAT.RAIL_REQ) s (by decide) (by decide) rfl (by decide) 0 0 _
    split
    · exact (State.rd_wr_ne u (by decide +kernel) ..).trans hu
    · exact hu
  · rfl

/-- The rail of the lanes ramps and is in regulation, the reference of the line module of lane `l` runs, and the lane has power. -/
def State.lanePower (s : State) (l : Nat) : State :=
  let s := (s.rampRail 0).railUp 0
  let s := if l < 256 then s.wr PWR_CLK_STAT.SDREF_RUN 0 (setBit (s.rd PWR_CLK_STAT.SDREF_RUN) (l / 16)) else s
  s.updPwr fun p => { p with lanes := p.lanes ++ [l] }

def lanePowerScope : Scope := ⟨[.pwr], [R.PRT_OPT_STAT, R.PWR_RAIL_STAT, R.PWR_CLK_STAT], []⟩

theorem State.lanePower_within (s : State) (l : Nat) : Within lanePowerScope s (s.lanePower l) := by
  unfold State.lanePower
  extract_lets u v
  have hu : Within lanePowerScope s u :=
    (State.railUp_within ..).step ((s.rampRail_within 0).step (.refl _ _) (by decide +kernel)) (by decide +kernel)
  have hclk : Within lanePowerScope s (u.wr PWR_CLK_STAT.SDREF_RUN 0 (setBit (u.rd PWR_CLK_STAT.SDREF_RUN) (l / 16))) :=
    (State.wr_within ..).step hu (by decide +kernel)
  have hv : Within lanePowerScope s v := .ite hclk hu
  exact (State.updPwr_within ..).step hv (by decide +kernel)

theorem State.lanePower_effect (s : State) (l : Nat) : (s.lanePower l).pwr.lanes = s.pwr.lanes ++ [l] ∧
    (s.lanePower l).pwr.held = s.pwr.held ∧ testBit ((s.lanePower l).rd PWR_RAIL_STAT.RAIL_REQ) 0 = true ∧
    testBit ((s.lanePower l).rd PWR_RAIL_STAT.RAIL_OK) 0 = true ∧
    (l < 256 → testBit ((s.lanePower l).rd PWR_CLK_STAT.SDREF_RUN) (l / 16) = true) := by
  have hreq := s.rampRail_req (r := 0) (by decide)
  have hramp := s.rampRail_flagsKept 0
  unfold State.lanePower
  extract_lets u v
  have hup : (s.rampRail 0).pwr.SameLanes u.pwr := (s.rampRail 0).railUp_sameLanes 0
  have hok : testBit (u.rd PWR_RAIL_STAT.RAIL_OK) 0 = true := (s.rampRail 0).railUp_ok (by decide) hreq
  have hrq : u.rd PWR_RAIL_STAT.RAIL_REQ = (s.rampRail 0).rd PWR_RAIL_STAT.RAIL_REQ := (s.rampRail 0).railUp_req 0
  have hv : v.pwr = u.pwr ∧ ∀ f : Fld, f.reg = R.PWR_RAIL_STAT → v.rd f = u.rd f := by
    unfold v
    split
    · exact ⟨State.wr_pwr .., fun f hf => State.rd_wr_ne u (hf ▸ by decide +kernel) ..⟩
    · exact ⟨rfl, fun _ _ => rfl⟩
  obtain ⟨hpwr, hrail⟩ := hv
  refine ⟨?_, ?_, ?_, ?_, fun hl => ?_⟩
  · show v.pwr.lanes ++ [l] = _
    rw [hpwr, hup.lanes, hramp.lanes]
  · show v.pwr.held = _
    rw [hpwr, hup.held, hramp.held]
  · show testBit (v.rd PWR_RAIL_STAT.RAIL_REQ) 0 = true
    rw [hrail _ rfl, hrq]
    exact hreq
  · show testBit (v.rd PWR_RAIL_STAT.RAIL_OK) 0 = true
    rw [hrail _ rfl, hok]
  · show testBit (v.rd PWR_CLK_STAT.SDREF_RUN) (l / 16) = true
    rw [show v = _ from if_pos hl, (u.wr_clk (by decide) rfl _).1]
    exact testBit_setBit_mod _ (show l / 16 < 16 by omega)

/-- All of LANE_POWERED before the objects go on: a lane in hold is noted, and its trims take their targets (R77, R427). -/
def State.laneOn (s : State) (l : Nat) : State :=
  let s := s.lanePower l
  let s := if s.inHold l then s.updPwr fun p => { p with held := p.held ++ [l] } else s
  [2 * l, 2 * l + 1].foldl (fun s k => s.updPath k fun p => { p with trim := p.target }) s

def laneOnScope : Scope := ⟨[.pwr, .cal], [R.PRT_OPT_STAT, R.PWR_RAIL_STAT, R.PWR_CLK_STAT], []⟩

theorem State.laneOn_within (s : State) (l : Nat) : Within laneOnScope s (s.laneOn l) := by
  unfold State.laneOn
  extract_lets u v
  have hu : Within laneOnScope s u := (s.lanePower_within l).step (.refl _ _) (by decide +kernel)
  have hv : Within laneOnScope s v := .ite ((State.updPwr_within ..).step hu (by decide +kernel)) hu
  exact Within.foldl hv fun x k hx => (State.updPath_within ..).step hx (by decide +kernel)

/-- A lane is of an object in hold as before while no object changes. -/
theorem Within.inHold {s t : State} (h : Within laneOnScope s t) (l : Nat) : t.inHold l = s.inHold l := by
  have hc : t.committed = s.committed := h.part .committed (by decide)
  have hport (p : Nat) : t.linkState p = s.linkState p := h.rd_same (by decide +kernel) p
  have hcar (c : Nat) : t.cst c = s.cst c := h.rd_same (by decide +kernel) c
  unfold State.inHold
  simp only [hport, hcar, State.portLanes_eq hc, State.carLanes_eq hc]

theorem State.laneOn_effect (s : State) (l : Nat) : (s.laneOn l).pwr.lanes = s.pwr.lanes ++ [l] ∧
    (s.laneOn l).pwr.held = s.pwr.held ++ (if s.inHold l then [l] else []) ∧
    testBit ((s.laneOn l).rd PWR_RAIL_STAT.RAIL_REQ) 0 = true ∧ testBit ((s.laneOn l).rd PWR_RAIL_STAT.RAIL_OK) 0 = true ∧
    (l < 256 → testBit ((s.laneOn l).rd PWR_CLK_STAT.SDREF_RUN) (l / 16) = true) := by
  obtain ⟨hlanes, hheld, hreq, hok, hclk⟩ := s.lanePower_effect l
  have hin : (s.lanePower l).inHold l = s.inHold l :=
    ((s.lanePower_within l).step (.refl _ _) (show _ = true by decide +kernel) : Within laneOnScope s _).inHold l
  unfold State.laneOn
  generalize s.lanePower l = u at hlanes hheld hreq hok hclk hin ⊢
  simp only [hin]
  generalize hv : (if s.inHold l then u.updPwr fun p => { p with held := p.held ++ [l] } else u) = v
  have hfold : Within State.updPath_scope v
      ([2 * l, 2 * l + 1].foldl (fun s k => s.updPath k fun p => { p with trim := p.target }) v) :=
    Within.foldl (.refl _ _) fun x k hx => (State.updPath_within ..).step hx (by decide +kernel)
  have hkept : v.pwr.lanes = u.pwr.lanes ∧ v.pwr.held = u.pwr.held ++ (if s.inHold l then [l] else []) ∧ v.regs = u.regs := by
    subst hv
    split
    · exact ⟨rfl, rfl, rfl⟩
    · exact ⟨rfl, (List.append_nil _).symm, rfl⟩
  obtain ⟨h1, h2, h3⟩ := hkept
  have hrd (f : Fld) (hf : State.updPath_scope.spares f.reg = true) :
      ([2 * l, 2 * l + 1].foldl (fun s k => s.updPath k fun p => { p with trim := p.target }) v).rd f = u.rd f :=
    (hfold.rd_same hf 0).trans (State.rd_eq h3 ..)
  rw [hrd _ (by decide +kernel), hrd _ (by decide +kernel), hrd _ (by decide +kernel), hfold.part .pwr (by decide), h1, h2, hlanes,
    hheld]
  exact ⟨rfl, rfl, hreq, hok, hclk⟩

end Sys2Proof.Machine
end

section
/-! PROOFS. The statement about the oven, the MDLL, the lanes and the boot, O18. -/
namespace Sys2Proof.Machine

theorem execLanePowered_eq {lane : Fin 260} {s : State} (htk : s.tkMode = true) (hnew : s.pwr.lanes.contains lane.val = false)
    (hwant : s.wantsLane lane = true) :
    execLanePowered lane s = if 256 ≤ lane.val then fin ((s.laneOn lane).updMlane (lane.val - 256) fun m => { m with st := 2 })
      else fin (s.laneOn lane).objectsPowered := by
  unfold execLanePowered
  simp only [htk, hnew, hwant, Bool.not_true, Bool.or_false, Bool.false_eq_true, if_false]
  rfl

/-- The lane itself, after what follows that keeps the power and clock registers (R77, R85). -/
theorem State.laneOn_after {s t : State} {l : Nat} {sc : Scope} (h : Within sc (s.laneOn l) t) (hs : sc.sparesFlags = true)
    (hp : Part.pwr ∉ sc.parts) : t.pwr.lanes = s.pwr.lanes ++ [l] ∧
      t.pwr.held = s.pwr.held ++ (if s.inHold l then [l] else []) ∧ testBit (t.rd PWR_RAIL_STAT.RAIL_REQ) 0 = true ∧
      testBit (t.rd PWR_RAIL_STAT.RAIL_OK) 0 = true ∧
      (l < 256 → testBit (t.rd PWR_CLK_STAT.SDREF_RUN) (l / 16) = true) := by
  simp only [Scope.sparesFlags, Bool.and_eq_true] at hs
  obtain ⟨⟨hclk, hrail⟩, -⟩ := hs
  have hpwr : t.pwr = (s.laneOn l).pwr := h.part .pwr hp
  have hreq : t.rd PWR_RAIL_STAT.RAIL_REQ = (s.laneOn l).rd PWR_RAIL_STAT.RAIL_REQ := h.rd_same hrail 0
  have hok : t.rd PWR_RAIL_STAT.RAIL_OK = (s.laneOn l).rd PWR_RAIL_STAT.RAIL_OK := h.rd_same hrail 0
  have hsd : t.rd PWR_CLK_STAT.SDREF_RUN = (s.laneOn l).rd PWR_CLK_STAT.SDREF_RUN := h.rd_same hclk 0
  rw [hpwr, hreq, hok, hsd]
  exact s.laneOn_effect l

def objectsPoweredScope : Scope := ⟨.out :: State.toCarWait_scope.parts, R.PRT_STAT :: State.toCarWait_scope.regs, []⟩

theorem State.objectsPowered_within (s : State) : Within objectsPoweredScope s s.objectsPowered :=
  (State.carsPowered_within _).step (s.portsPowered_within.step (.refl _ _) (by decide +kernel)) (by decide +kernel)

/-- Ports and carriers of a lane whose last lane it was wait for their signal (R85). -/
theorem State.objectsPowered_states (s : State) {l : Nat} :
    let t := (s.laneOn l).objectsPowered.settle
    (∀ p : Fin 256, s.comB PRT_CFG.ENABLE p = true → s.linkState p = lsPOWERING →
      (s.portLanes p).all (fun x => (s.pwr.lanes ++ [l]).contains x) = true → t.linkState p = lsWAIT_SIGNAL) ∧
    (∀ c : Fin 128, s.comB SHF_CAR_CFG.ENABLE c = true → s.cst c = cPOWERING →
      (s.carLanes c).all (fun x => (s.pwr.lanes ++ [l]).contains x) = true → t.cst c = cWAIT_SIGNAL) := by
  intro t
  have hw := s.laneOn_within l
  have hlanes := (s.laneOn_effect l).1
  have hports := (s.laneOn l).portsPowered_within
  have hcom : (s.laneOn l).committed = s.committed := hw.part .committed (by decide)
  constructor
  · intro p hen hst hall
    have hstate := (s.laneOn l).portsPowered_linkState p.isLt (by rwa [State.comB, State.com_eq hcom])
      ((hw.rd_same (by decide +kernel) p).trans hst) (by rwa [State.portLanes_eq hcom, hlanes])
    exact ((State.settle_rd _ (by decide +kernel) p).trans
      ((State.carsPowered_within _).rd_same (f := PRT_STAT.LINK_STATE) (by decide +kernel) p)).trans hstate
  · intro c hen hst hall
    have hcom2 := (hports.part .committed (by decide)).trans hcom
    refine (State.settle_rd _ (by decide +kernel) c).trans (State.carsPowered_cst _ c.isLt ?_ ?_ ?_)
    · rwa [State.comB, State.com_eq hcom2]
    · exact ((hports.rd_same (f := SHF_CAR_STAT.STATE) (by decide +kernel) c).trans (hw.rd_same (by decide +kernel) c)).trans hst
    · rwa [State.carLanes_eq hcom2, hports.part .pwr (by decide), hlanes]

/-- A wanted lane that gets its power (R77, R83, R85). -/
theorem lanePowered_acts (lane : Fin 260) (s : State) (htk : s.tkMode = true) (hnew : s.pwr.lanes.contains lane.val = false)
    (hwant : s.wantsLane lane = true) :
    Yields (.lanePowered lane) s fun t => t.pwr.lanes = s.pwr.lanes ++ [lane.val] ∧
      t.pwr.held = s.pwr.held ++ (if s.inHold lane then [lane.val] else []) ∧
      testBit (t.rd PWR_RAIL_STAT.RAIL_REQ) 0 = true ∧ testBit (t.rd PWR_RAIL_STAT.RAIL_OK) 0 = true ∧
      (if 256 ≤ lane.val then (t.mlane (lane.val - 256)).st = 2
        else testBit (t.rd PWR_CLK_STAT.SDREF_RUN) (lane.val / 16) = true ∧
          (∀ p : Fin 256, s.comB PRT_CFG.ENABLE p = true → s.linkState p = lsPOWERING →
            (s.portLanes p).all (fun x => (s.pwr.lanes ++ [lane.val]).contains x) = true → t.linkState p = lsWAIT_SIGNAL) ∧
          (∀ c : Fin 128, s.comB SHF_CAR_CFG.ENABLE c = true → s.cst c = cPOWERING →
            (s.carLanes c).all (fun x => (s.pwr.lanes ++ [lane.val]).contains x) = true → t.cst c = cWAIT_SIGNAL)) := by
  show Ends (execLanePowered lane s) _
  rw [execLanePowered_eq htk hnew hwant]
  by_cases hm : 256 ≤ lane.val
  · simp only [if_pos hm]
    rw [ends_fin]
    obtain ⟨hlanes, hheld, hreq, hok, -⟩ := State.laneOn_after (State.updMlane_within (s.laneOn lane) (lane.val - 256)
      fun m => { m with st := 2 }) (by decide +kernel) (by decide)
    rw [State.settle_pwr, State.settle_rd _ (by decide +kernel), State.settle_rd _ (by decide +kernel)]
    refine ⟨hlanes, hheld, hreq, hok, ?_⟩
    unfold State.mlane
    rw [State.settle_twin]
    show (SMap.at! (SMap.upd (s.laneOn lane).twin.lanes (lane.val - 256) fun m => { m with st := 2 }) (lane.val - 256)).st = 2
    rw [SMap.get_upd_self]
  · simp only [if_neg hm]
    rw [ends_fin]
    obtain ⟨hlanes, hheld, hreq, hok, hclk⟩ := State.laneOn_after (State.objectsPowered_within _) (by decide +kernel) (by decide)
    rw [State.settle_pwr, State.settle_rd _ (by decide +kernel), State.settle_rd _ (by decide +kernel),
      State.settle_rd _ (by decide +kernel)]
    exact ⟨hlanes, hheld, hreq, hok, hclk (by omega), s.objectsPowered_states⟩

/-- Settles O18: the oven, the MDLL, a lane's power and a boot check, each by the lemma about its command. -/
theorem clocksAct : Obligations.ClocksAct := by
  unfold Obligations.ClocksAct
  refine ⟨ocxoWarmSet_acts, ocxoWarmClear_acts, fun s h4 hagain => ?_, lockLost_acts, lanePowered_acts,
    fun r s hrun => ?_⟩
  · by_cases hat : s.pwr.mdllAt = none
    · simp only [if_pos hat]
      exact mdllLock_first s h4 hat
    · obtain ⟨hh, hm, ht⟩ := hagain (Option.isSome_iff_ne_none.2 hat)
      simp only [if_neg hat]
      exact mdllLock_again s h4 hat hh hm ht
  · exact bootCheckDone_acts r s hrun

end Sys2Proof.Machine
end

section
/-! PROOFS. What bounds every mailbox command and what every step keeps (R97, R98, R114, R491), for O48 and O59. -/
set_option Elab.async false
namespace Sys2Proof.Machine

/-- Settles O48: the scope of every command bounds it. -/
theorem frameGrange : Obligations.FrameGrange := fun _ _ _ _ h => gives_within h

/-- The tick that passes with nothing to do keeps the canonical form. -/
theorem State.idle_canon (s : State) (h : s.canon) : s.idle.canon := by
  have := s.endTick_within.canon h
  exact ⟨this.regs, this.committed, this.mem⟩

/-- Settles O59: a step is an idle tick or the command at the front of the queue, and both keep the canonical form. -/
theorem stepKeepsCanon : Obligations.StepKeepsCanon := by
  intro s t hs h
  unfold step at h
  split at h
  next => cases h; exact s.idle_canon hs
  next c rest _ => exact (gives_within (i := c) h).canon ⟨hs.regs, hs.committed, hs.mem⟩

end Sys2Proof.Machine
end

section
/-! PROOFS. A mailbox command that may not start (R96, R99, R109, R111), for O43. -/
set_option Elab.async false
namespace Sys2Proof.Machine

/-- A command starts only on its own opcode (R99). -/
theorem State.opcode_of_ready {s : State} {m opc : Nat} (h : s.ready m opc = true) : s.opcode m = opc := by
  simp only [State.ready, Bool.and_eq_true, decide_eq_true_eq] at h
  exact h.1.1.2

theorem State.cmd_waits {s : State} {m : Fin 16} {opc : Nat} (h : s.ready m opc = false) (x : Exec)
    (checks : State → List Check) (body : State → State) : s.cmd m opc x checks body = s := by
  unfold State.cmd
  rw [if_pos (by rw [h]; rfl)]

/-- No other opcode than an unknown one makes CMD_NOP do more than its own frame (R103). -/
theorem execCmdNop_waits {m : Fin 16} {s : State} (x : Exec) (h : s.ready m 0x1 = false)
    (hk : s.ready m (s.opcode m) = true → knownOpcodes.contains (s.opcode m) = true) : execCmdNop m x s = fin s := by
  unfold execCmdNop
  rw [if_neg (by simpa using hk), State.cmd_waits h]

/-- The words of a transfer go out only when it starts (R162). -/
theorem execCmdPrtOptXfer_waits {m : Fin 16} {s : State} (x : Exec) (status : Fin 3) (idx : BitVec 16) (data : List Byte)
    (h : s.ready m 0x102 = false) : execCmdPrtOptXfer m x status idx data s = fin s := by
  unfold execCmdPrtOptXfer
  simp only [h, Bool.false_and, Bool.not_false, Bool.true_or, if_true]
  rw [State.cmd_waits h]

/-- Settles O43: a command that may not start is left by its frame, and so is one whose mailbox holds another opcode. -/
theorem commandsWait : Obligations.CommandsWait := by
  intro c m opc x s hc h
  have hwait : s.ready m opc = false := by
    refine Bool.eq_false_iff.2 fun hr => ?_
    have hop := State.opcode_of_ready hr
    rcases h with hn | ⟨hne, -⟩
    · rw [hop, hr] at hn
      cases hn
    · exact hne hop
  have hknown : s.ready m (s.opcode m) = true → knownOpcodes.contains (s.opcode m) = true := fun hr =>
    h.elim (fun hn => absurd hr (by simp [hn])) And.right
  cases c with
  | cmdNop => cases hc; exact execCmdNop_waits _ hwait hknown
  | cmdPrtOptXfer => cases hc; exact execCmdPrtOptXfer_waits _ _ _ _ hwait
  | cmdIdentify | cmdFence | cmdTableBind | cmdTableSync | cmdTableRead | cmdCommit | cmdConfigSave | cmdConfigRestore |
    cmdImageDownload | cmdImageActivate | cmdPrtCountersRead | cmdShfCarrierOp | cmdShfCountersRead |
    cmdFwdCountersRead | cmdFwdQueueStat | cmdFwdFlush | cmdGrnCountersRead | cmdGrnCellTest | cmdGrnSweep |
    cmdAlmCountersRead | cmdAlmBankCheck | cmdAlmRealign | cmdTbsAdjust | cmdTbsSet | cmdTbsReportBind | cmdTbsCountersRead |
    cmdShfTtCarriers | cmdShfTtCountersRead | cmdRefForce | cmdRefGnssSend | cmdRefCountersRead | cmdRefModelClear |
    cmdSynRampStart | cmdSynRampStop | cmdTdcRun | cmdTdcStop | cmdTdcBinCal | cmdCalTrace | cmdCalFreq | cmdEvtLogRead |
    cmdEvtSpareReport | cmdTwnSwitch | cmdTwnTableAdopt | cmdTwnResync | cmdTwnCountersRead =>
    cases hc
    exact congrArg fin (State.cmd_waits hwait _ _ _)
  | _ => cases hc

end Sys2Proof.Machine
end

section
/-! PROOFS. What follows every command leaves of the Grange, and the host's reads with an effect (R127, R301, R522), for O23. -/
set_option Elab.async false
namespace Sys2Proof.Machine

/-! ### What the end of a command leaves of the Grange -/

/-- A mailbox's work without the notes made for a fence (R112). -/
def Mbx.unnoted (b : Mbx) : Mbx := { b with met := none, heldAt := none }

/-- From `s` to `t` the Grange has the same tables, commits, masks and link, and every mailbox the same work but for the
notes of a fence. -/
structure State.WorkKept (s t : State) : Prop where
  tables : t.gr.tables = s.gr.tables
  commits : t.gr.commits = s.gr.commits
  nextVer : t.gr.nextVer = s.gr.nextVer
  linkUp : t.gr.linkUp = s.gr.linkUp
  masked : t.gr.masked = s.gr.masked
  mbx : ∀ m, (t.mbxAt m).unnoted = (s.mbxAt m).unnoted

namespace State.WorkKept
variable {s t u : State}

theorem of_gr (h : t.gr = s.gr) : s.WorkKept t := by constructor <;> simp [State.mbxAt, h]
theorem refl (s : State) : s.WorkKept s := .of_gr rfl
theorem of_within {sc : Scope} (h : Within sc s t) (hg : Part.gr ∉ sc.parts) : s.WorkKept t := .of_gr (h.part .gr hg)

theorem trans (h : s.WorkKept t) (h' : t.WorkKept u) : s.WorkKept u :=
  ⟨h'.tables.trans h.tables, h'.commits.trans h.commits, h'.nextVer.trans h.nextVer, h'.linkUp.trans h.linkUp,
    h'.masked.trans h.masked, fun m => (h'.mbx m).trans (h.mbx m)⟩

theorem foldl {α : Type} {f : State → α → State} (hf : ∀ (s : State) a, s.WorkKept (f s a)) (l : List α) (s : State) :
    s.WorkKept (l.foldl f s) := foldl_keeps (R := State.WorkKept) refl trans hf l s

theorem postAt (h : s.WorkKept t) (m : Nat) : (t.mbxAt m).postAt = (s.mbxAt m).postAt := congrArg (·.postAt) (h.mbx m)
theorem ord (h : s.WorkKept t) (m : Nat) : (t.mbxAt m).ord = (s.mbxAt m).ord := congrArg (·.ord) (h.mbx m)
theorem job (h : s.WorkKept t) (m : Nat) : (t.mbxAt m).job = (s.mbxAt m).job := congrArg (·.job) (h.mbx m)
theorem go (h : s.WorkKept t) (m : Nat) : (t.mbxAt m).go = (s.mbxAt m).go := congrArg (·.go) (h.mbx m)
theorem retry (h : s.WorkKept t) (m : Nat) : (t.mbxAt m).retry = (s.mbxAt m).retry := congrArg (·.retry) (h.mbx m)
theorem late (h : s.WorkKept t) (m : Nat) : (t.mbxAt m).late = (s.mbxAt m).late := congrArg (·.late) (h.mbx m)

theorem table (h : s.WorkKept t) (tb : Nat) : t.table tb = s.table tb := by simp only [State.table, h.tables]
theorem ent (h : s.WorkKept t) (tb i : Nat) : t.ent tb i = s.ent tb i := by simp only [State.ent, h.table]

end State.WorkKept

/-- A note for a fence is all that it changes of a mailbox. -/
theorem State.updMbx_workKept (s : State) (n : Nat) {f : Mbx → Mbx} (hf : ∀ b, (f b).unnoted = b.unnoted) :
    s.WorkKept (s.updMbx n f) := by
  refine ⟨rfl, rfl, rfl, rfl, rfl, fun m => ?_⟩
  by_cases h : m = n
  · rw [h, State.mbxAt_updMbx_self, hf]
  · rw [s.mbxAt_updMbx_ne f h]

theorem State.freeVersions_workKept (s : State) : s.WorkKept s.freeVersions := by
  unfold State.freeVersions
  extract_lets held left t
  have ht : s.WorkKept t := ⟨rfl, rfl, rfl, rfl, rfl, fun _ => rfl⟩
  split
  · exact .refl s
  · split
    · exact ht.trans (.of_within (State.wr_within ..) (by decide))
    · exact ht

theorem State.meetFence_workKept (s : State) (m : Nat) : s.WorkKept (s.meetFence m) := by
  unfold State.meetFence
  split
  · exact (s.updMbx_workKept m (f := fun b => { b with met := some s.nextOrd }) fun _ => rfl).trans (.of_gr rfl)
  · exact .refl s

theorem State.holdFence_workKept (s : State) (m : Nat) (drain : Bool) : s.WorkKept (s.holdFence m drain) := by
  unfold State.holdFence
  split
  · split
    · exact s.updMbx_workKept m fun _ => rfl
    · exact .refl s
  · exact .refl s

theorem State.noteFence_workKept (s : State) (m : Nat) (drain : Bool) : s.WorkKept (s.noteFence m drain) := by
  rw [State.noteFence_eq]
  exact (s.meetFence_workKept m).trans (State.holdFence_workKept _ m drain)

theorem State.noteFences_workKept (s : State) : s.WorkKept s.noteFences :=
  .foldl (fun u m => by split; exacts [u.noteFence_workKept m _, .refl u]) _ s

theorem State.msix_workKept (s : State) (v : Nat) : s.WorkKept (s.msix v) := by
  unfold State.msix
  split
  · exact .refl s
  · split
    · exact ⟨rfl, rfl, rfl, rfl, rfl, fun _ => rfl⟩
    · exact .of_gr rfl

theorem State.sendVectors_workKept (s : State) (new old : Nat) : s.WorkKept (s.sendVectors new old) :=
  .foldl (fun u v => by split; exacts [u.msix_workKept v, .refl u]) _ s

theorem State.vectors_workKept (s : State) : s.WorkKept s.vectors := by
  rw [State.vectors_eq]
  split
  · exact .of_gr rfl
  · exact .trans (.of_gr (by rfl)) (State.sendVectors_workKept ..)

theorem State.settle_workKept (s : State) : s.WorkKept s.settle :=
  ((s.freeVersions_workKept.trans (State.noteFences_workKept _)).trans (.of_within (State.noteAwake_within _) (by decide))).trans
    (State.vectors_workKept _)

/-! ### Unmasking and latched reads -/

theorem testBit_clearBit_self (x i : Nat) : testBit (clearBit x i) i = false := by
  unfold clearBit
  by_cases h : testBit x i = true
  · rw [if_pos h]
    have hone : x / 2 ^ i % 2 = 1 := by simpa [testBit] using h
    have hle : 2 ^ i ≤ x := by
      by_contra hlt
      simp [Nat.div_eq_of_lt (not_le.1 hlt)] at hone
    have hsub : (x - 2 ^ i) / 2 ^ i = x / 2 ^ i - 1 := by simpa using Nat.sub_mul_div x (2 ^ i) 1
    simp only [testBit, hsub, decide_eq_false_iff_not]
    omega
  · rw [if_neg h]
    simpa using h

/-- Vector `v` is unmasked. -/
def State.showVec (s : State) (v : Nat) : State := s.updGr fun g => { g with masked := clearBit g.masked v }
/-- The pending message of vector `v` is taken up. -/
def State.takePend (s : State) (v : Nat) : State := s.updGr fun g => { g with msixPend := clearBit g.msixPend v }

theorem State.unmask_eq (s : State) (v : Nat) : s.unmask v =
    if testBit s.gr.msixPend v then ((s.showVec v).takePend v).msix v else s.showVec v := rfl

theorem State.unmask_masked (s : State) (v : Nat) : testBit (s.unmask v).gr.masked v = false := by
  rw [State.unmask_eq]
  split
  · rw [(State.msix_workKept _ _).masked]
    exact testBit_clearBit_self ..
  · exact testBit_clearBit_self ..

/-- With the link up the pending message of an unmasked vector goes out. -/
theorem State.unmask_pending {s : State} {v : Nat} (hlink : s.gr.linkUp = true) (h6 : s.railOk 6 = true)
    (hpend : testBit s.gr.msixPend v = true) : s.unmask v = ((s.showVec v).takePend v).emit (.msix v) := by
  have hup : ((s.showVec v).takePend v).railOk 6 = true ∧ ((s.showVec v).takePend v).gr.linkUp = true := ⟨h6, hlink⟩
  have hshown : testBit ((s.showVec v).takePend v).gr.masked v = false := testBit_clearBit_self ..
  rw [State.unmask_eq, if_pos hpend, State.msix, if_neg (by simp [hup]), if_neg (by simp [hshown])]

/-- An unmasked vector with a pending message sends it (R127). -/
theorem msixUnmask_acts (v : Fin 32) (s : State) (hlink : s.gr.linkUp = true) (h6 : s.railOk 6 = true) :
    Yields (.msixUnmask v) s fun t => testBit t.gr.masked v = false ∧
      (testBit s.gr.msixPend v = true → s.sends t (Out.msix v)) := by
  show Ends (execMsixUnmask v s) _
  unfold execMsixUnmask
  rw [if_pos hlink, ends_fin]
  refine ⟨?_, fun hpend => ?_⟩
  · rw [(State.settle_workKept _).masked]
    exact s.unmask_masked v
  · rw [State.unmask_pending hlink h6 hpend]
    obtain ⟨l, hl, hmem⟩ := ((s.showVec v).takePend v).emit_settle_sends (.msix v)
    exact ⟨l, hl, hmem⟩

/-- The read of a _LO register returns it and latches the _HI register; absent registers read 0 (R522). -/
theorem loReadLatch_acts (ofs : BitVec 32) (row rowH : RegRow) (i j : Nat) (s : State) (hlink : s.gr.linkUp = true)
    (hlo : regAt ofs.toNat = some (row, i)) (hlat : latchedLo.contains row.reg = true) (hhi : regAt (ofs.toNat + 4) = some (rowH, j)) :
    Yields (.loReadLatch ofs) s fun t => if s.present ofs.toNat then
        SMap.get 0 t.latches (ofs.toNat + 4) = s.liveReg rowH i ∧ s.sends t (Out.readData ofs.toNat (s.liveReg row i)) ∧
        (row.reg = R.ALM_CYCLE_LO → t.rd ALM_STAT.SLOT = s.absSlot s.now % 4096)
      else t.latches = s.latches ∧ s.sends t (Out.readData ofs.toNat 0) := by
  show Ends (execLoReadLatch ofs s) _
  unfold execLoReadLatch
  simp only [hlo, hlink, hlat, hhi, Bool.not_true, Bool.or_self, Bool.false_eq_true, if_false]
  by_cases hp : s.present ofs.toNat = true
  · rw [if_neg (by simp [hp]), ends_fin, if_pos hp]
    set s' := if row.reg = R.ALM_CYCLE_LO then s.wr ALM_STAT.SLOT 0 (s.absSlot s.now % 4096) else s with hs'
    have hout : s'.out = s.out := by rw [hs']; split <;> rfl
    refine ⟨?_, ?_, fun hc => ?_⟩
    · rw [State.settle_latches]
      exact SMap.get_set_self ..
    · obtain ⟨l, hl, hmem⟩ := (s'.latch (ofs.toNat + 4) (s.liveReg rowH i)).emit_settle_sends
        (.readData ofs.toNat (s.liveReg row i))
      exact ⟨l, hl.trans (congrArg (· ++ l) hout), hmem⟩
    · rw [State.settle_rd _ (by decide +kernel), (State.emit_within ..).rd_same (by decide +kernel),
        (State.latch_within ..).rd_same (by decide +kernel), hs', if_pos hc,
        State.rd_wr_self _ (by decide) (by decide)]
      exact Nat.mod_mod_of_dvd _ (by decide)
  · rw [if_pos (by simp [hp]), ends_fin, if_neg hp]
    exact ⟨State.settle_latches _, s.emit_settle_sends _⟩

/-- Settles O23: unmasking, and a latched read. -/
theorem hostReadsAct : Obligations.HostReadsAct := ⟨msixUnmask_acts, loReadLatch_acts⟩

end Sys2Proof.Machine
end

section
/-! PROOFS. Register writes that act as rows of their own (R99, R100, R115, R117, R123, R492), for O10. -/
set_option Elab.async false
namespace Sys2Proof.Machine

theorem execRegisterWrite_noLink {s : State} (h : s.gr.linkUp = false) (bar2 : Bool) (ofs : BitVec 32) (len : Nat)
    (data : BitVec 64) : execRegisterWrite bar2 ofs len data s = fin s := by
  unfold execRegisterWrite
  simp [h]

/-- Number `i` of register `r` is a word of BAR0, or of BAR2, outside the always-on block, and rail `k` powers its block
(R494). -/
def wordOf (bar2 : Bool) (r : Reg) (i k : Nat) : Bool :=
  (regAt (r.at i)).map (fun q => (q.1.reg, q.2)) = some (r, i) && r.at i % 4 = 0 && blockOf (r.at i) ≠ 0xD &&
    blockRail (blockOf (r.at i)) = k && r.at i / 2 ^ 32 = bar2.toNat

/-- The offset within its BAR names it. -/
theorem wordOf_offset {bar2 : Bool} {r : Reg} {i k : Nat} (h : wordOf bar2 r i k = true) :
    (if bar2 then 0x100000000 + (BitVec.ofNat 32 (r.at i)).toNat else (BitVec.ofNat 32 (r.at i)).toNat) = r.at i ∧
      (BitVec.ofNat 32 (r.at i)).toNat % 4 = 0 := by
  simp only [wordOf, Bool.and_eq_true, decide_eq_true_eq] at h
  obtain ⟨⟨⟨⟨-, h4⟩, -⟩, -⟩, hbar⟩ := h
  rw [BitVec.toNat_ofNat]
  cases bar2 <;> simp only [Bool.false_eq_true, if_false, if_true, Bool.toNat_false, Bool.toNat_true] at hbar ⊢ <;> omega

/-- A write of a word of a powered register acts as the register does, while the link is up (R493). Outside the always-on
block the register alone says what the word does. -/
theorem registerWrite_acts {bar2 : Bool} {r : Reg} {i k : Nat} (hword : wordOf bar2 r i k = true) {s : State}
    (hok : s.railOk k = true) (w : Word) (act : State → State)
    (hact : ∀ (flds : List Fld) (a : Nat), blockOf a ≠ 0xD → s.hostWord ⟨r, flds⟩ i a w = act s) :
    exec (.registerWrite bar2 (BitVec.ofNat 32 (r.at i)) 4 (w.setWidth 64)) s = if s.gr.linkUp then fin (act s) else fin s := by
  show execRegisterWrite bar2 (BitVec.ofNat 32 (r.at i)) 4 (w.setWidth 64) s = _
  obtain ⟨hofs, h4⟩ := wordOf_offset hword
  simp only [wordOf, Bool.and_eq_true, decide_eq_true_eq] at hword
  obtain ⟨⟨⟨⟨hat, -⟩, hblock⟩, hrail⟩, -⟩ := hword
  obtain ⟨⟨row, j⟩, hrow, hrj⟩ := Option.map_eq_some_iff.1 hat
  cases hrj
  by_cases hl : s.gr.linkUp = true
  · rw [if_pos hl, execRegisterWrite_word hl h4 (by rw [hofs]; exact hrow) (by rw [hofs, State.present, hrail]; exact hok), hofs,
      BitVec.setWidth_setWidth_of_le _ (by decide), BitVec.setWidth_eq, hact row.flds _ hblock]
  · rw [if_neg hl, execRegisterWrite_noLink (by simpa using hl)]

/-- The window of the mailboxes (R98). -/
theorem registerWrite_mailbox (ofs : BitVec 16) (len : Nat) (data : BitVec 64) (s : State) :
    exec (.registerWrite false (ofs.setWidth 32) len data) s = exec (.mailboxWrite ofs (leBytes (min len 8) data.toNat)) s := by
  show execRegisterWrite false (ofs.setWidth 32) len data s = execMailboxWrite ofs _ s
  have hofs : (ofs.setWidth 32).toNat = ofs.toNat := by rw [BitVec.toNat_setWidth, Nat.mod_eq_of_lt (by omega)]
  have hlt : ofs.toNat < 0x10000 := ofs.isLt
  unfold execRegisterWrite execMailboxWrite
  cases s.gr.linkUp <;> simp [hofs, hlt]

/-- No register stands in the window of the committed view (R117). -/
theorem registerWrite_view {ofs : BitVec 32} (hlo : 0x03000000 ≤ ofs.toNat) (hhi : ofs.toNat < 0x03E00000) (len : Nat)
    (data : BitVec 64) (s : State) : exec (.registerWrite false ofs len data) s = exec (.committedViewWrite ofs) s := by
  show execRegisterWrite false ofs len data s = execCommittedViewWrite ofs s
  have hblock : blockOf ofs.toNat = 0xFF := by
    unfold blockOf
    rw [if_neg (by omega), if_neg (by omega)]
  have hnone : regAt ofs.toNat = none := by
    unfold regAt
    rw [hblock]
    rfl
  unfold execRegisterWrite execCommittedViewWrite
  have hwin : ¬ ofs.toNat < 0x10000 ∧ ¬ (0x10000 ≤ ofs.toNat ∧ ofs.toNat < 0x10200) ∧
      ¬ (0x11000 ≤ ofs.toNat ∧ ofs.toNat < 0x11008) := by omega
  cases s.gr.linkUp <;> simp [hnone, hlo, hhi, hwin]

/-- A write with GO asks for a commit, one without it discards (R115, R117). -/
theorem registerWrite_commitCtl {s : State} (h6 : s.railOk 6 = true) (w : Word) :
    exec (.registerWrite false (BitVec.ofNat 32 (R.MBX_COMMIT_CTL.at 0)) 4 (w.setWidth 64)) s =
      exec (if MBX_COMMIT_CTL.GO.get w = 1 then .commitGo w else .commitDiscard w) s := by
  rw [registerWrite_acts (r := R.MBX_COMMIT_CTL) (k := 6) (by decide +kernel) h6 w
    (fun s => if MBX_COMMIT_CTL.GO.get w = 1 then s.commitGo w else s.commitDiscard w) fun _ _ hb => if_neg hb]
  by_cases hgo : MBX_COMMIT_CTL.GO.get w = 1 <;> simp only [hgo, if_true, if_false] <;> rfl

theorem notify_words : ∀ tb ∈ tableIds, wordOf true R.MBX_DT_NOTIFY tb 6 = true := by decide +kernel
theorem rptCons_words : ∀ p : Fin 256, wordOf false R.TBS_RPT_CONS p 4 = true := by decide +kernel

/-- Settles O10: each register by what a word does to it, and the rule of its own row. -/
theorem ownRows : Obligations.OwnRows := by
  refine ⟨registerWrite_mailbox, fun ofs len data s hlo hhi => registerWrite_view hlo hhi len data s, fun w s h6 => ?_,
    fun w s h4 => ?_⟩
  · refine ⟨?_, registerWrite_commitCtl h6 w, fun tb htb => ?_⟩
    · exact registerWrite_acts (k := 6) (by decide +kernel) h6 w (fun s => s.doorbell w) fun _ _ hb => if_neg hb
    · exact registerWrite_acts (notify_words _ (by simpa using htb)) h6 w (fun s => s.notify tb.toNat w)
        fun _ _ hb => if_neg hb
  · have hif (t : State) : (if s.gr.linkUp then fin t else fin s) = if s.gr.linkUp && s.railOk 4 then fin t else fin s := by
      rw [h4, Bool.and_true]
    refine ⟨?_, fun p => ?_, ?_, ?_, ?_, ?_⟩
    · exact registerWrite_acts (k := 4) (by decide +kernel) h4 w (fun s => s.snapshot w) fun _ _ hb => if_neg hb
    · exact (registerWrite_acts (r := R.TBS_RPT_CONS) (rptCons_words p) h4 w (fun s => s.consWrite p w)
        fun _ _ hb => if_neg hb).trans (hif _)
    · exact (registerWrite_acts (r := R.REF_FREQ_WORD) (k := 4) (by decide +kernel) h4 w (fun s => s.writeWord w)
        fun _ _ hb => if_neg hb).trans (hif _)
    · exact (registerWrite_acts (r := R.TDC_BIN_DATA) (k := 4) (by decide +kernel) h4 w (fun s => (s.binData (some w)).resnap)
        fun _ _ hb => if_neg hb).trans (hif _)
    · exact (registerWrite_acts (r := R.CAL_PATH_TRIM) (k := 4) (by decide +kernel) h4 w (fun s => (s.pathTrim (some w)).resnap)
        fun _ _ hb => if_neg hb).trans (hif _)
    · exact (registerWrite_acts (r := R.EVT_REARM) (k := 4) (by decide +kernel) h4 w (fun s => s.rearm w)
        fun _ _ hb => if_neg hb).trans (hif _)

end Sys2Proof.Machine
end

section
/-! PROOFS. Doorbells and writes of mailbox memory (R96, R98, R99, R100, R102), for O6, O7 and O20. -/
set_option Elab.async false
namespace Sys2Proof.Machine

theorem State.settle_mst (s : State) (m : Nat) : s.settle.mst m = s.mst m :=
  State.mst_eq (s.settle_reg (by decide +kernel) 0) m

theorem State.settle_mb (s : State) (n o : Nat) : s.settle.mb n o = s.mb n o := State.mb_eq s.settle_mem n o

theorem leNat_leBytes_mod (n x : Nat) : leNat (leBytes n x) = x % 256 ^ n := by
  induction n generalizing x with
  | zero => simp [leBytes, leNat, Nat.mod_one]
  | succ n ih =>
    rw [leBytes, leNat, ih, BitVec.toNat_ofNat, show (256 : Nat) ^ (n + 1) = 2 ^ 8 * 256 ^ n from Nat.pow_succ', Nat.mod_mul]
    norm_num

/-! ### A doorbell, mailbox by mailbox -/

/-- A mailbox that takes a doorbell (R99). -/
def State.idleAt (s : State) (n : Nat) : Bool := s.mst n = mIDLE || s.mst n = mDONE

/-- A mailbox is idle unless it is POSTED or RUNNING. -/
theorem State.mst_busy_iff (s : State) (n : Nat) : (s.mst n = mPOSTED ∨ s.mst n = mRUNNING) ↔ s.idleAt n = false := by
  have hlt : s.mst n < 4 := Nat.mod_lt _ (by decide)
  rw [State.idleAt, Bool.or_eq_false_iff, decide_eq_false_iff_not, decide_eq_false_iff_not, mIDLE, mDONE, mPOSTED, mRUNNING]
  omega

/-- The command of mailbox `n` is posted at the place `o` in the order (R99). -/
def State.post (s : State) (o n : Nat) : State :=
  ((s.setMb n 16 (leBytes 8 s.tick)).setMst n mPOSTED).updMbx n fun _ => { postAt := s.now, ord := o }

/-- What a doorbell does to mailbox `n`. -/
def State.ring (o : Nat) (w : Word) (s : State) (n : Nat) : State :=
  if !testBit w.toNat n then s else if s.idleAt n then s.post o n else s.addSat MBX_ERR_STAT.DOORBELL_LOST_CNT 0 1

/-- The first `k` mailboxes have had their turn. -/
def State.rungTo (s : State) (w : Word) (k : Nat) : State := (List.range k).foldl (State.ring s.nextOrd w) s.takeOrd

theorem State.doorbell_eq (s : State) (w : Word) : s.doorbell w = s.rungTo w 16 := by
  unfold State.doorbell State.rungTo State.ring State.idleAt
  simp only [Bool.or_eq_true, decide_eq_true_eq]
  rfl

theorem State.rungTo_succ (s : State) (w : Word) (k : Nat) : s.rungTo w (k + 1) = (s.rungTo w k).ring s.nextOrd w k := by
  unfold State.rungTo
  rw [List.range_succ, List.foldl_append]
  rfl

theorem State.ring_within (o : Nat) (w : Word) (s : State) (n : Nat) :
    Within ⟨[.mem, .gr], [R.MBX_STATE, R.MBX_ERR_STAT], []⟩ s (s.ring o w n) := by
  unfold State.ring State.post
  split
  · exact .refl _ _
  · split
    · exact (State.updMbx_within ..).step ((State.setMst_within ..).step ((State.setMb_within ..).step (.refl _ _)
        (by decide +kernel)) (by decide +kernel)) (by decide +kernel)
    · exact (State.addSat_within ..).step (.refl _ _) (by decide +kernel)

/-- The turn of a mailbox leaves the others. -/
theorem State.ring_mbxKept (o : Nat) (w : Word) (s : State) {m n : Nat} (hn : n < 16) (h : m ≠ n) :
    State.MbxKept m s (s.ring o w n) := by
  unfold State.ring State.post
  split
  · exact .refl m s
  · split
    · exact ((s.setMb_mbxKept h (by simp [leBytes_length])).trans (State.setMst_mbxKept _ hn h _)).trans
        (State.updMbx_mbxKept _ h _)
    · exact .of_within (State.addSat_within ..) m (by decide +kernel)

/-- A mailbox is as before until its turn. -/
theorem State.rungTo_mbxKept (s : State) (w : Word) {k m : Nat} (hk : k ≤ 16) (hm : k ≤ m) : State.MbxKept m s (s.rungTo w k) := by
  induction k with
  | zero => exact ⟨rfl, rfl, rfl, fun _ _ => rfl⟩
  | succ k ih =>
    rw [State.rungTo_succ]
    exact (ih (by omega) (by omega)).trans (State.ring_mbxKept _ w _ (by omega) (by omega))

/-- A mailbox after the doorbell is what its turn made of it: the state before its turn and the state after. -/
theorem State.doorbell_turn (s : State) (w : Word) (n : Fin 16) : ∃ u : State, State.MbxKept n s u ∧ u.now = s.now ∧ u.pwr = s.pwr ∧
    State.MbxKept n (u.ring s.nextOrd w n) (s.doorbell w) := by
  have hfirst : ∀ k, k ≤ n.val → State.MbxKept n s (s.rungTo w k) ∧ (s.rungTo w k).now = s.now ∧ (s.rungTo w k).pwr = s.pwr := by
    intro k hk
    refine ⟨s.rungTo_mbxKept w (by omega) hk, ?_⟩
    clear hk
    induction k with
    | zero => exact ⟨rfl, rfl⟩
    | succ k ih =>
      rw [State.rungTo_succ]
      have h := State.ring_within s.nextOrd w (s.rungTo w k) k
      exact ⟨h.now.trans ih.1, (h.part .pwr (by decide)).trans ih.2⟩
  have hlast : ∀ k, n.val + 1 + k ≤ 16 → State.MbxKept n (s.rungTo w (n + 1)) (s.rungTo w (n + 1 + k)) := by
    intro k hk
    induction k with
    | zero => exact .refl _ _
    | succ k ih =>
      rw [← Nat.add_assoc, State.rungTo_succ s w (n + 1 + k)]
      exact (ih (by omega)).trans (State.ring_mbxKept (n := n + 1 + k) _ w _ (by omega) (by omega))
  obtain ⟨hkept, hnow, hpwr⟩ := hfirst n le_rfl
  refine ⟨s.rungTo w n, hkept, hnow, hpwr, ?_⟩
  have h := hlast (15 - n) (by omega)
  rwa [show n.val + 1 + (15 - n.val) = 16 by omega, ← State.doorbell_eq, State.rungTo_succ] at h

/-- A mailbox that takes the doorbell is posted in the present tick, at the next place in the order (R99, R102). -/
theorem State.doorbell_posts {s : State} {w : Word} {n : Fin 16} (hw : testBit w.toNat n = true) (hi : s.idleAt n = true) :
    (s.doorbell w).mst n = mPOSTED ∧ (s.doorbell w).mf n 16 8 = s.tick % 2 ^ 64 ∧
      (s.doorbell w).mbxAt n = { postAt := s.now, ord := s.nextOrd } := by
  obtain ⟨u, hu, hnow, hpwr, hend⟩ := s.doorbell_turn w n
  have hturn : u.ring s.nextOrd w n = u.post s.nextOrd n := by
    have hui : u.idleAt n = true := by simpa only [State.idleAt, hu.mst] using hi
    unfold State.ring
    rw [hw, hui]
    rfl
  have htick : u.tick = s.tick := by simp only [State.tick, hnow, hpwr]
  rw [hturn] at hend
  refine ⟨?_, ?_, ?_⟩
  · rw [hend.mst]
    exact State.mst_setMst_self _ n _ (by decide)
  · have hbytes : (s.doorbell w).mbytes n 16 (leBytes 8 u.tick).length = leBytes 8 u.tick := by
      refine State.mbytes_eq fun i hi' => ?_
      rw [hend.mem _ (by rw [leBytes_length] at hi'; omega)]
      exact u.mb_setMb_in n 16 i _ hi'
    rw [leBytes_length] at hbytes
    rw [State.mf, hbytes, htick]
    exact leNat_leBytes_mod 8 s.tick
  · rw [hend.mbx]
    exact (State.mbxAt_updMbx_self ..).trans (congrArg (fun p : Nat => ({ postAt := p, ord := s.nextOrd } : Mbx)) hnow)

/-- A mailbox that takes no doorbell is as before (R100). -/
theorem State.doorbell_leaves {s : State} {w : Word} {n : Fin 16} (hn : s.idleAt n = false) : State.MbxKept n s (s.doorbell w) := by
  obtain ⟨u, hu, -, -, hend⟩ := s.doorbell_turn w n
  refine hu.trans (.trans ?_ hend)
  have hui : u.idleAt n = false := by simpa only [State.idleAt, hu.mst] using hn
  unfold State.ring
  rw [hui]
  split
  · exact .refl _ u
  · exact .of_within (State.addSat_within ..) n (by decide +kernel)

/-- The mailboxes among the first `k` that lose the doorbell. -/
def State.lostRings (s : State) (w : Word) (k : Nat) : List Nat :=
  (List.range k).filter fun n => testBit w.toNat n && (s.mst n = mPOSTED || s.mst n = mRUNNING)

/-- Every lost ring counts, up to the end of the counter (R100). -/
theorem State.rungTo_lost (s : State) (w : Word) {k : Nat} (hk : k ≤ 16) :
    (s.rungTo w k).rd MBX_ERR_STAT.DOORBELL_LOST_CNT = min (s.rd MBX_ERR_STAT.DOORBELL_LOST_CNT + (s.lostRings w k).length) 255 := by
  induction k with
  | zero =>
    have hlt : s.rd MBX_ERR_STAT.DOORBELL_LOST_CNT < 2 ^ 8 := Fld.get_lt ..
    show s.rd MBX_ERR_STAT.DOORBELL_LOST_CNT = min (s.rd MBX_ERR_STAT.DOORBELL_LOST_CNT + 0) 255
    omega
  | succ k ih =>
    have ih := ih (by omega)
    have hmst : (s.rungTo w k).mst k = s.mst k := (s.rungTo_mbxKept w (by omega) le_rfl).mst
    have hidle : (s.rungTo w k).idleAt k = s.idleAt k := by simp only [State.idleAt, hmst]
    rw [State.rungTo_succ, State.lostRings, List.range_succ, List.filter_append, List.length_append, ← State.lostRings]
    by_cases hring : testBit w.toNat k = true
    · by_cases hi : s.idleAt k = true
      · have hnot : ¬ (s.mst k = mPOSTED ∨ s.mst k = mRUNNING) := by simp [State.mst_busy_iff, hi]
        have hturn : (s.rungTo w k).ring s.nextOrd w k = (s.rungTo w k).post s.nextOrd k := by
          unfold State.ring
          rw [hring, hidle, hi]
          rfl
        rw [hturn, List.filter_cons_of_neg (by simpa [hring] using hnot)]
        have hpost : ((s.rungTo w k).post s.nextOrd k).rd MBX_ERR_STAT.DOORBELL_LOST_CNT =
            (s.rungTo w k).rd MBX_ERR_STAT.DOORBELL_LOST_CNT := State.setMst_rd _ _ _ (by decide +kernel) 0
        rw [hpost]
        simpa using ih
      · have hb := (State.mst_busy_iff s k).2 (by simpa using hi)
        have hturn : (s.rungTo w k).ring s.nextOrd w k = (s.rungTo w k).addSat MBX_ERR_STAT.DOORBELL_LOST_CNT 0 1 := by
          unfold State.ring
          rw [hring, hidle, if_neg (by decide), if_neg hi]
        rw [hturn, List.filter_cons_of_pos (by simpa [hring] using hb), State.addSat_rd _ (by decide) (by decide), ih]
        simp only [MBX_ERR_STAT.DOORBELL_LOST_CNT, List.filter_nil, List.length_singleton]
        omega
    · have hturn : (s.rungTo w k).ring s.nextOrd w k = s.rungTo w k := by
        unfold State.ring
        rw [if_pos (by simpa using hring)]
      rw [hturn, List.filter_cons_of_neg (by simp [hring])]
      simpa using ih

/-- A byte outside the ticks of posting of the mailboxes that take the doorbell is as before (R98, R99). -/
theorem State.rungTo_mb (s : State) (w : Word) {k : Nat} (hk : k ≤ 16) {n o : Nat}
    (hout : ∀ m : Fin 16, testBit w.toNat m = true → s.idleAt m = true →
      4096 * n + o < 4096 * m.val + 16 ∨ 4096 * m.val + 24 ≤ 4096 * n + o) : (s.rungTo w k).mb n o = s.mb n o := by
  induction k with
  | zero => rfl
  | succ k ih =>
    have ih := ih (by omega)
    have hmst : (s.rungTo w k).mst k = s.mst k := (s.rungTo_mbxKept w (by omega) le_rfl).mst
    rw [State.rungTo_succ, ← ih]
    unfold State.ring
    split
    · rfl
    · rename_i hring
      split
      · rename_i hi
        have := hout ⟨k, by omega⟩ (by simpa using hring) (by simpa only [State.idleAt, hmst] using hi)
        exact State.mb_setMb_out _ _ _ _ _ _ (by rw [leBytes_length]; simpa using this)
      · exact State.mb_eq (State.addSat_mem ..) n o

/-- A doorbell while the link is up. -/
theorem yields_doorbell {s : State} (hl : s.gr.linkUp = true) (w : Word) {P : State → Prop} :
    Yields (.doorbell w) s P ↔ P (s.doorbell w).settle := by
  have hexec : exec (.doorbell w) s = fin (s.doorbell w) := if_pos hl
  rw [yields_iff, hexec, ends_fin]

/-! ### A write of mailbox memory -/

/-- A write within a mailbox that is POSTED or RUNNING counts as lost (R100). -/
theorem State.mbxWrite_lost {s : State} {o : Nat} {data : List Byte} (hd : data ≠ [])
    (hin : (o + data.length - 1) / 4096 = o / 4096) (hb : s.mst (o / 4096) = mPOSTED ∨ s.mst (o / 4096) = mRUNNING) :
    s.mbxWrite o data = s.addSat MBX_ERR_STAT.WRITE_LOST_CNT 0 1 := by
  unfold State.mbxWrite
  rw [if_neg (by simpa using hd), if_neg (by simpa using hin), if_pos (by simpa using hb)]

/-- A write within an idle mailbox is stored (R98). -/
theorem State.mbxWrite_stores {s : State} {o : Nat} {data : List Byte} (hd : data ≠ [])
    (hin : (o + data.length - 1) / 4096 = o / 4096) (hi : s.idleAt (o / 4096) = true) :
    s.mbxWrite o data = s.setMb (o / 4096) (o % 4096) data := by
  have hnot : ¬ (s.mst (o / 4096) = mPOSTED ∨ s.mst (o / 4096) = mRUNNING) := by simp [State.mst_busy_iff, hi]
  unfold State.mbxWrite
  rw [if_neg (by simpa using hd), if_neg (by simpa using hin), if_neg (by simpa using hnot)]

theorem State.lostWrite_settle (s : State) :
    (s.addSat MBX_ERR_STAT.WRITE_LOST_CNT 0 1).settle.mem = s.mem ∧
      (∀ n, (s.addSat MBX_ERR_STAT.WRITE_LOST_CNT 0 1).settle.mst n = s.mst n) ∧
      (s.addSat MBX_ERR_STAT.WRITE_LOST_CNT 0 1).settle.rd MBX_ERR_STAT.WRITE_LOST_CNT =
        min (s.rd MBX_ERR_STAT.WRITE_LOST_CNT + 1) (2 ^ MBX_ERR_STAT.WRITE_LOST_CNT.w - 1) := by
  refine ⟨?_, fun n => ?_, ?_⟩
  · rw [State.settle_mem, State.addSat_mem]
  · rw [State.settle_mst]
    exact State.mst_eq ((State.addSat_within ..).reg_same (by decide +kernel) 0) n
  · rw [State.settle_rd _ (by decide +kernel), State.addSat_rd _ (by decide) (by decide)]

/-- Settles O6: a lost write, by either way into mailbox memory, and the lost rings of a doorbell. -/
theorem lostWritesAndRings : Obligations.LostWritesAndRings := by
  refine ⟨fun ofs data s hl hd hin hb => ?_, fun ofs len data s hl hofs hlen hlen8 hin hb => ?_, fun w s hl => ?_⟩
  · have hexec : exec (.mailboxWrite ofs data) s = fin (s.mbxWrite ofs.toNat data) := if_pos hl
    rw [yields_iff, hexec, ends_fin, State.mbxWrite_lost hd hin hb]
    exact s.lostWrite_settle
  · have hexec : exec (.registerWrite false ofs len data) s = fin (s.mbxWrite ofs.toNat (leBytes (min len 8) data.toNat)) := by
      show execRegisterWrite false ofs len data s = _
      unfold execRegisterWrite
      simp [hl, hofs]
    have hlen' : (leBytes (min len 8) data.toNat).length = len := by rw [leBytes_length, Nat.min_eq_left hlen8]
    rw [yields_iff, hexec, ends_fin, State.mbxWrite_lost (by rw [← List.length_pos_iff, hlen']; exact hlen) (by rwa [hlen']) hb]
    exact s.lostWrite_settle
  · rw [yields_doorbell hl]
    refine ⟨fun n hb => ?_, ?_⟩
    · have hkept := State.doorbell_leaves (w := w) ((State.mst_busy_iff s n).1 hb)
      have hwork := (s.doorbell w).settle_workKept
      exact ⟨(State.settle_mst ..).trans hkept.mst, (hwork.postAt n).trans (congrArg (·.postAt) hkept.mbx),
        (hwork.ord n).trans (congrArg (·.ord) hkept.mbx), fun o ho => (State.settle_mb ..).trans (hkept.mem o ho)⟩
    · rw [State.settle_rd _ (by decide +kernel), State.doorbell_eq]
      exact s.rungTo_lost w le_rfl

/-- Settles O7: one tick and one place in the order for every mailbox that takes the doorbell. -/
theorem rungTogether : Obligations.RungTogether := by
  intro w n k s hl hn hk hin hik
  rw [yields_doorbell hl]
  obtain ⟨hmn, -, hbn⟩ := State.doorbell_posts hn (by simpa [State.idleAt] using hin)
  obtain ⟨hmk, -, hbk⟩ := State.doorbell_posts hk (by simpa [State.idleAt] using hik)
  have hwork := (s.doorbell w).settle_workKept
  refine ⟨(State.settle_mst ..).trans hmn, (State.settle_mst ..).trans hmk, ?_, ?_, ?_⟩
  · rw [hwork.postAt, hbn]
  · rw [hwork.postAt, hbk]
  · rw [hwork.ord, hwork.ord, hbn, hbk]

end Sys2Proof.Machine
end

section
/-! PROOFS. Two statements that fail on a state of their own: a commit that gives way in vain (R115, R118), O21, and a reload
that reads the installed bytes again (R443), O22. -/
set_option Elab.async false
namespace Sys2Proof.Machine

/-! ### A commit of the same tick that gives way in vain -/

/-- A CMD_COMMIT of the PRT_ group in mailbox 0, of this tick and still being checked. -/
def giving : Commit := { groups := 1, snap := [], path := some 0, when_ := 0, at_ := 0 }
/-- A commit of the SHF_ group that waits for its tick. -/
def keeping : Commit := { groups := 2, snap := [], path := none, when_ := 1, at_ := 1000, stage := .waiting }

/-- In FORWARD, with the link up, MBX_COMMIT_GROUPS names both groups, and both commits are under way. -/
def bothAsked : State := (((State.reset.wr PWR_MODE_CTL.CUR_MODE 0 mFORWARD).wr MBX_COMMIT_GROUPS.GROUPS 0 3).setMst 0 mRUNNING).updGr
  fun g => { g with linkUp := true, commits := [giving, keeping] }
/-- A write of GO alone. -/
def goWord : Word := 1

/-- The commit that waits keeps its group busy. -/
theorem bothAsked_go : bothAsked.commitGo goWord = bothAsked.goResult ST_BUSY := by
  have hbusy : (bothAsked.yieldGo (bothAsked.rd MBX_COMMIT_GROUPS.GROUPS)).groupsBusy (bothAsked.rd MBX_COMMIT_GROUPS.GROUPS) = true := by
    decide +kernel
  unfold State.commitGo
  rw [if_neg (by decide +kernel), if_neg (by decide +kernel)]
  simp only [hbusy, if_true]
  rw [if_neg (by decide +kernel), if_neg (by decide +kernel)]

theorem bothAsked_exec : exec (.commitGo goWord) bothAsked = fin (bothAsked.goResult ST_BUSY) := by
  have hlink : bothAsked.gr.linkUp = true := by decide +kernel
  show execCommitGo goWord bothAsked = _
  rw [execCommitGo, if_pos hlink, bothAsked_go]

/-- Refutes O21: GO is refused with ST_BUSY because of the commit that keeps the SHF_ group, and then the CMD_COMMIT of the PRT_
group goes on, although the statement has it give way. -/
theorem not_commitsAct : ¬ Obligations.CommitsAct := by
  unfold Obligations.CommitsAct
  rintro ⟨-, hyield, -⟩
  have h := hyield goWord giving 0 0 bothAsked (by decide +kernel) (by decide +kernel) (by decide +kernel) (by decide +kernel)
    (by decide) (by decide +kernel) (by decide +kernel) rfl (by decide +kernel) rfl rfl (by decide) (by decide +kernel)
  rw [yields_iff, bothAsked_exec, ends_fin] at h
  obtain ⟨hgone, -⟩ := h
  rw [(State.settle_workKept _).commits] at hgone
  exact hgone (by decide +kernel)

/-! ### A reload that reads the installed bytes again -/

/-- An installed entry whose GEN is noted as 1 and whose bytes hold GEN 0. -/
def oddEntry : Entry := { bytes := List.replicate 64 0, gen := 1, valid := true }
/-- Its table reloads it. -/
def oddReload : State := State.reset.updTable 0x34 fun t =>
  { t with queue := [{ first := 0, count := 2, ord := 0, reload := true }], entries := [(0, oddEntry)] }

/-- Bytes equal to those installed leave the entry (R443). -/
theorem oddReload_kept : (oddReload.takeEntry 0x34 { first := 0, count := 2, ord := 0, reload := true } (List.replicate 64 0)).ent
    0x34 0 = some oddEntry := by decide +kernel

theorem oddReload_exec : exec (.entryFetchDone 0x34 .good (List.replicate 64 0)) oddReload =
    fin (oddReload.takeEntry 0x34 { first := 0, count := 2, ord := 0, reload := true } (List.replicate 64 0)) := rfl

/-- Refutes O22: a reload that reads the bytes installed leaves the entry, although they hold GEN 0 and the statement has the
entry removed. No hypothesis ties the GEN noted of an installed entry to its bytes. -/
theorem not_tablesAct : ¬ Obligations.TablesAct := by
  unfold Obligations.TablesAct
  rintro ⟨-, -, hfetch, -⟩
  have h := hfetch 0x34 .good (List.replicate 64 0) { first := 0, count := 2, ord := 0, reload := true } [] oddReload
    (by decide +kernel) rfl (by decide) (by decide) (fun _ => by decide +kernel)
  rw [yields_iff, oddReload_exec, ends_fin] at h
  obtain ⟨-, -, hremoved, -⟩ := h
  have hnone := hremoved (by decide +kernel) (by decide +kernel)
  rw [(State.settle_workKept _).ent] at hnone
  exact absurd (oddReload_kept.symm.trans hnone) (by decide)

end Sys2Proof.Machine
end

section
/-! PROOFS. A fetched entry of the installed generation (R124), for O9. -/
set_option Elab.async false
namespace Sys2Proof.Machine

/-! ### What leaves the tables as they are -/

theorem State.tables_of_within {sc : Scope} {s t : State} (h : Within sc s t) (hg : Part.gr ∉ sc.parts) :
    t.gr.tables = s.gr.tables := congrArg (·.tables) (h.part .gr hg)

theorem State.ent_eq {s t : State} (h : t.gr.tables = s.gr.tables) (tb i : Nat) : t.ent tb i = s.ent tb i := by
  unfold State.ent State.table
  rw [h]

theorem State.msix_tables (s : State) (v : Nat) : (s.msix v).gr.tables = s.gr.tables := (s.msix_workKept v).tables

theorem State.msix_regs (s : State) (v : Nat) : (s.msix v).regs = s.regs := by
  unfold State.msix
  split
  · rfl
  · split <;> rfl

theorem State.writeDone_tables (s : State) (m st d : Nat) (res : List Byte) : (s.writeDone m st d res).gr.tables = s.gr.tables := by
  unfold State.writeDone
  extract_lets again st' u irq r u1 u2 u3 u4
  have hu : u.gr.tables = s.gr.tables := by
    unfold u
    split
    · exact (State.tables_of_within (State.transientFault_within ..) (by decide)).trans
        (State.tables_of_within (State.addSat_within ..) (by decide))
    · rfl
  have h4 : u4.gr.tables = u.gr.tables := rfl
  split
  · rw [State.msix_tables, h4, hu]
  · rw [h4, hu]

theorem State.complete_tables (s : State) (m st d : Nat) (res : List Byte) : (s.complete m st d res).gr.tables = s.gr.tables := by
  unfold State.complete
  split
  · rfl
  · exact s.writeDone_tables m st d res

theorem State.requestCommit_tables (s : State) (groups when_ at_ : Nat) (path : Option (Fin 16)) (restore : Nat) :
    (s.requestCommit groups when_ at_ path restore).gr.tables = s.gr.tables := by
  unfold State.requestCommit
  extract_lets c u
  have hu : u.gr.tables = s.gr.tables := by
    unfold u
    exact (State.tables_of_within (State.noteCommits_within _) (by decide)).trans rfl
  split
  · exact (State.tables_of_within (State.notePending_within ..) (by decide)).trans hu
  · exact hu

theorem State.restoreAlm_tables (s : State) (m : Fin 16) : (s.restoreAlm m).gr.tables = s.gr.tables := by
  unfold State.restoreAlm
  split
  · exact s.complete_tables ..
  · split
    · exact s.complete_tables ..
    · exact s.requestCommit_tables ..

theorem State.dtCount_tables (s : State) (f : Fld) (t : Nat) : (s.dtCount f t).gr.tables = s.gr.tables := by
  unfold State.dtCount
  extract_lets s'
  split
  · rfl
  · rw [State.msix_tables]
    exact congrArg (·.tables) (State.addSat_gr ..)

/-! ### The work of a table goes on -/

/-- A queue may change without its table's entries. -/
theorem State.updQueue_ent (s : State) (t : Nat) (f : List Install → List Install) (tb i : Nat) :
    (s.updTable t fun x => { x with queue := f x.queue }).ent tb i = s.ent tb i := by
  unfold State.ent State.table State.updTable
  by_cases h : tb = t
  · rw [h, SMap.get_upd_self]
  · rw [SMap.get_upd_ne _ _ h]

theorem State.installDone_ent (s : State) (t : Nat) (i : Install) (tb k : Nat) : (s.installDone t i).ent tb k = s.ent tb k := by
  unfold State.installDone
  extract_lets u v
  have hu : u.ent tb k = s.ent tb k := s.updQueue_ent t (·.drop 1) tb k
  have hv : v.ent tb k = s.ent tb k := by
    refine (State.ent_eq ?_ tb k).trans hu
    unfold v
    split
    · rfl
    · exact State.tables_of_within (State.mirrorTxns_within ..) (by decide)
  clear_value v
  rw [← hv]
  refine State.ent_eq ?_ tb k
  split
  · split
    · rfl
    · exact State.tables_of_within (State.addWrap_within ..) (by decide)
  · split
    · exact State.restoreAlm_tables ..
    · split <;> exact State.complete_tables ..

/-- What follows a dealt-with entry changes no entry. -/
theorem State.advance_ent (s : State) (t : Nat) (i : Install) (tb k : Nat) : (s.advance t i).ent tb k = s.ent tb k := by
  unfold State.advance
  extract_lets j u
  have hu : u.ent tb k = s.ent tb k := s.updQueue_ent t (j :: ·.drop 1) tb k
  split
  · rw [State.installDone_ent, hu]
  · exact hu

/-! ### An entry of the installed generation -/

/-- A count of a table grows by one, up to its end (R127). -/
theorem State.dtCount_rd (s : State) {f : Fld} {t : Nat} (hf : f.fits = true) (ht : t < f.reg.count) :
    (s.dtCount f t).rd f t = min (s.rd f t + 1) (2 ^ f.w - 1) := by
  have hadd := s.addSat_rd hf ht
  unfold State.dtCount
  by_cases h : (s.addSat f t 1).rd f t = s.rd f t
  · rw [if_pos h, ← hadd, h]
  · rw [if_neg h, State.rd_eq (State.msix_regs ..), hadd]

/-- An entry of the generation installed is counted and dealt with (R124). -/
theorem State.takeEntry_same {s : State} {t : Nat} {i : Install} {b : List Byte} {e : Entry}
    (he : s.ent t (i.first + i.done) = some e) (hgen : e.gen = genOf b) (hr : i.reload = false) :
    s.takeEntry t i b = (s.dtCount MBX_DT_STAT.SAME_GEN_CNT t).advance t i := by
  obtain ⟨hvalid, hold⟩ : e.valid = true ∧ SMap.at! (s.table t).entries (i.first + i.done) = e := by
    unfold State.ent at he
    extract_lets old at he
    by_cases hv : old.valid = true
    · rw [if_pos hv] at he
      exact ⟨Option.some.inj he ▸ hv, Option.some.inj he⟩
    · rw [if_neg hv] at he
      cases he
  unfold State.takeEntry State.tryInstall
  simp [hr, hvalid, hold, hgen]

/-- It stays as it was, and the count is one higher. -/
theorem State.takeEntry_same_counts {s : State} {t : Nat} {i : Install} {b : List Byte} {e : Entry} (ht : t < 256)
    (he : s.ent t (i.first + i.done) = some e) (hgen : e.gen = genOf b) (hr : i.reload = false) :
    (s.takeEntry t i b).settle.ent t (i.first + i.done) = some e ∧
      (s.takeEntry t i b).settle.rd MBX_DT_STAT.SAME_GEN_CNT t = min (s.rd MBX_DT_STAT.SAME_GEN_CNT t + 1) 255 := by
  rw [State.takeEntry_same he hgen hr]
  constructor
  · rw [(State.settle_workKept _).ent, State.advance_ent, State.ent_eq (s.dtCount_tables ..), he]
  · rw [State.settle_rd _ (by decide +kernel), (State.advance_within ..).rd_same (by decide +kernel),
      State.dtCount_rd _ (by decide) ht]
    rfl

/-- Settles O9: a fetch that ends well at once takes the entry, and one that ends well on its repetition does so after the
error is counted. -/
theorem sameGeneration : Obligations.SameGeneration := by
  intro tb r bytes i rest e s _ hr hlen hq hw he hgen hrel
  show Ends (execEntryFetchDone tb r bytes s) _
  unfold execEntryFetchDone
  simp only [hq, hw, Option.isSome_none, Bool.false_eq_true, if_false, hlen, ne_eq, not_true_eq_false]
  cases r with
  | lasting => exact absurd rfl hr
  | good =>
    rw [ends_fin]
    exact State.takeEntry_same_counts tb.isLt he hgen hrel
  | transient =>
    rw [ends_fin]
    set u := (s.addSat MBX_RETRY_STAT.TRANSIENT_CNT 0 1).transientFault 7 with hu
    have hent : u.ent tb.toNat (i.first + i.done) = some e := by
      rw [← he]
      exact State.ent_eq ((State.tables_of_within (State.transientFault_within ..) (by decide)).trans
        (State.tables_of_within (State.addSat_within ..) (by decide))) ..
    have hrd : u.rd MBX_DT_STAT.SAME_GEN_CNT tb.toNat = s.rd MBX_DT_STAT.SAME_GEN_CNT tb.toNat :=
      ((State.transientFault_within ..).rd_same (by decide +kernel) _).trans ((State.addSat_within ..).rd_same (by decide +kernel) _)
    rw [← hrd]
    exact State.takeEntry_same_counts (i := { i with anyRetry := true }) tb.isLt hent hgen hrel

end Sys2Proof.Machine
end

section
/-! PROOFS. What a mailbox command writes of mailbox memory (R98, R100, R101), for O46. -/
set_option Elab.async false
namespace Sys2Proof.Machine

/-- From `s` to `t` mailbox memory changes in the response of mailbox `m` alone: STATUS to DETAIL, DONE_TICK, the reserved
bytes and the result (R98). -/
structure State.OwnMem (m : Nat) (s t : State) : Prop where
  get : ∀ a, a < 4096 * m + 8 ∨ 4096 * m + 16 ≤ a ∧ a < 4096 * m + 24 ∨ 4096 * m + 4096 ≤ a →
    Memory.get t.mem a = Memory.get s.mem a

namespace State.OwnMem
variable {m : Nat} {s t u : State}

theorem of_mem (h : t.mem = s.mem) : OwnMem m s t := ⟨fun a _ => by rw [h]⟩
theorem refl (m : Nat) (s : State) : OwnMem m s s := of_mem rfl
theorem trans (h : OwnMem m s t) (h' : OwnMem m t u) : OwnMem m s u := ⟨fun a ha => (h'.get a ha).trans (h.get a ha)⟩

/-- An operation that does not touch mailbox memory comes after. -/
theorem past {sc : Scope} (h : OwnMem m s u) (hw : Within sc u t) (hm : Part.mem ∉ sc.parts := by decide) : OwnMem m s t :=
  h.trans (of_mem (hw.part .mem hm))

theorem past_each {α : Type} {l : List α} {f : State → α → State} (h : OwnMem m s u) (hf : ∀ x a, OwnMem m x (f x a)) :
    OwnMem m s (u.each l f) :=
  h.trans (foldl_keeps (R := OwnMem m) (refl m) trans hf l u)

end State.OwnMem

theorem State.setMb_ownMem (s : State) (m o : Nat) (bs : List Byte) (ho : 8 ≤ o ∧ o + bs.length ≤ 16 ∨ 24 ≤ o ∧ o + bs.length ≤ 4096) :
    State.OwnMem m s (s.setMb m o bs) := by
  refine ⟨fun a ha => ?_⟩
  rw [State.setMb_mem]
  exact Memory.get_setBytes_out s.mem (4096 * m + o) a bs (by omega)

theorem State.writeDone_ownMem (s : State) (m st d : Nat) (res : List Byte) : State.OwnMem m s (s.writeDone m st d res) := by
  unfold State.writeDone
  extract_lets again st' u irq r u1 u2 u3 u4
  have hlen : r.length ≤ 4032 := List.length_take_le _ _
  have hu : State.OwnMem m s u := by
    unfold u
    split
    · exact ((State.OwnMem.refl m s).past (State.addSat_within ..)).past (State.transientFault_within ..)
    · exact .refl m s
  have h2 : State.OwnMem m u u2 := (u.setMb_ownMem m 8 _ (by simp [leBytes_length])).trans
    (u1.setMb_ownMem m 24 _ (by simp [leBytes_length]; omega))
  have h4 : State.OwnMem m s u4 := ((hu.trans h2).past (State.setMst_within ..)).past (State.updMbx_within ..)
  split
  · exact h4.past (State.msix_within ..)
  · exact h4

theorem State.complete_ownMem (s : State) (m st d : Nat) (res : List Byte) : State.OwnMem m s (s.complete m st d res) := by
  unfold State.complete
  split
  · exact .of_mem rfl
  · exact s.writeDone_ownMem m st d res

/-- A completion comes after. -/
theorem State.OwnMem.complete {m : Nat} {s u : State} (h : OwnMem m s u) (st : Nat) (d : Nat := 0) (res : List Byte := []) :
    OwnMem m s (u.complete m st d res) := h.trans (u.complete_ownMem m st d res)

/-- A command that the FOLLOW is told of completes. -/
theorem State.OwnMem.mirrors {m : Nat} {s u : State} (h : OwnMem m s u) (opc : Nat) (payload : List Byte) (st : Nat) :
    OwnMem m s ((u.mirrorCmd opc payload).complete m st) := (h.past (State.mirrorCmd_within ..)).complete st

theorem State.cmdLasting_ownMem (s : State) (m : Nat) : State.OwnMem m s (s.cmdLasting m) :=
  (((State.OwnMem.refl m s).past (State.addSat_within ..)).past (State.lastingFault_within ..)).complete _

/-- The frame of a command writes no more than its body (R104, R108). -/
theorem State.cmd_ownMem (s : State) (m : Fin 16) (opc : Nat) (x : Exec) (checks : State → List Check) {body : State → State}
    (hbody : ∀ u, State.OwnMem m u (body u)) : State.OwnMem m s (s.cmd m opc x checks body) := by
  unfold State.cmd
  extract_lets u
  have hu : State.OwnMem m s u := .of_mem rfl
  clear_value u
  split
  · exact .refl _ s
  · split
    · exact hu.complete _
    · split
      · exact hu.complete _ _
      · split
        · exact hu.trans (hbody u)
        · exact hu.trans (u.cmdLasting_ownMem m)
        · exact hu.trans (u.cmdLasting_ownMem m)
        · exact (hu.past (State.updMbx_within ..)).trans (hbody _)

theorem State.readSlots_ownMem (s : State) (m base first cnt : Nat) (clear : Bool) :
    State.OwnMem m s (s.readSlots m base first cnt clear) := by
  unfold State.readSlots
  extract_lets slots res u
  have hclear (x : State) (n : Nat) : State.OwnMem m x (x.clearSlot n) := (State.OwnMem.refl m x).past (x.clearSlot_within n)
  have hu : State.OwnMem m s u := by
    unfold u
    split
    · exact .past_each (.refl m s) hclear
    · exact .refl m s
  exact hu.complete _ _ _

theorem State.countersCmd_ownMem (s : State) (m : Fin 16) (opc : Nat) (x : Exec) (w objMax lim : Nat) (modeOk : State → Bool)
    (base : Nat → Nat) : State.OwnMem m s (s.countersCmd m opc x w objMax lim modeOk base) :=
  s.cmd_ownMem m opc x _ fun u => u.readSlots_ownMem ..

theorem State.restoreAlm_ownMem (s : State) (m : Fin 16) : State.OwnMem m s (s.restoreAlm m) := by
  unfold State.restoreAlm
  split
  · exact s.complete_ownMem ..
  · split
    · exact s.complete_ownMem ..
    · exact (State.OwnMem.refl _ s).past (State.requestCommit_within ..)

theorem State.restoreTail_ownMem (s : State) (m : Fin 16) : State.OwnMem m s (s.restoreTail m) := by
  unfold State.restoreTail
  extract_lets n u o v
  have hu : State.OwnMem m s u := (State.OwnMem.refl _ s).past (State.running_within ..)
  split
  · exact hu.trans (u.restoreAlm_ownMem m)
  · exact (hu.past (State.issueFetches_within ..)).trans (.of_mem rfl)

/-! ### Bodies that are more than a chain of operations -/

/-- What follows a command in its tick does not touch mailbox memory. -/
theorem State.OwnMem.settle {m : Nat} {s u : State} (h : OwnMem m s u) : OwnMem m s u.settle := h.trans (.of_mem u.settle_mem)

theorem execCmdFence_ownMem {m : Fin 16} {x : Exec} {s t : State} (h : Gives (.cmdFence m x) s t) : State.OwnMem m s t := by
  cases h
  refine (s.cmd_ownMem m 0x3 x _ fun u => ?_).settle
  extract_lets lim drain v
  have hv : State.OwnMem m u v := (State.OwnMem.refl _ u).past (State.noteFence_within ..)
  split
  · exact hv.complete _
  · split
    · exact hv.complete _
    · exact hv.past (State.running_within ..)

/-- CMD_NOP answers an unknown opcode too (R103). -/
theorem execCmdNop_ownMem {m : Fin 16} {x : Exec} {s t : State} (h : Gives (.cmdNop m x) s t) : State.OwnMem m s t := by
  change execCmdNop m x s = .next t at h
  unfold execCmdNop at h
  split at h
  · cases h
    exact (((State.OwnMem.refl _ s).past (s.setMst_within m mRUNNING)).complete _).settle
  · cases h
    exact (s.cmd_ownMem m 0x1 x _ fun u => u.complete_ownMem ..).settle

/-- The words of a transfer go before the frame of its command (R162). -/
theorem execCmdPrtOptXfer_ownMem {m : Fin 16} {x : Exec} {status : Fin 3} {idx : BitVec 16} {data : List Byte} {s t : State}
    (h : Gives (.cmdPrtOptXfer m x status idx data) s t) : State.OwnMem m s t := by
  change execCmdPrtOptXfer m x status idx data s = .next t at h
  unfold execCmdPrtOptXfer at h
  extract_lets runs again u at h
  have hu : State.OwnMem m s u := by
    have hrecover : State.OwnMem m s (s.optRecover m) := (State.OwnMem.refl _ s).past (State.optRecover_within ..)
    unfold u
    split
    · exact .refl _ s
    · split
      · exact (State.OwnMem.refl _ s).past (State.optXfer_within ..)
      · split
        · exact hrecover.past (State.optXfer_within ..)
        · exact hrecover
  cases h
  exact (hu.trans (u.cmd_ownMem m 0x102 x _ fun v => ((State.OwnMem.refl _ v).past (State.optXfer_within ..)).complete _ _ _)).settle

theorem execCmdShfCarrierOp_ownMem {m : Fin 16} {x : Exec} {s t : State} (h : Gives (.cmdShfCarrierOp m x) s t) :
    State.OwnMem m s t := by
  cases h
  refine (s.cmd_ownMem m 0x201 x _ fun u => ?_).settle
  extract_lets c join v
  have hv : State.OwnMem m u v := (State.OwnMem.refl _ u).past (State.running_within ..)
  split
  · exact hv.past (State.askPeer_within ..)
  · exact hv.past (State.startPark_within ..)

theorem execCmdTdcRun_ownMem {m : Fin 16} {x : Exec} {s t : State} (h : Gives (.cmdTdcRun m x) s t) : State.OwnMem m s t := by
  cases h
  refine (s.cmd_ownMem m 0x901 x _ fun u => ?_).settle
  extract_lets u1 u2 u3
  have h2 : State.OwnMem m u u2 := ((State.OwnMem.refl _ u).past (State.updTdc_within ..)).past (State.wr_within ..)
  refine State.OwnMem.complete ?_ _
  unfold u3
  split
  · exact h2.past (State.arm_within ..)
  · exact h2.past (State.tdcNote_within ..)

theorem execCmdTdcStop_ownMem {m : Fin 16} {x : Exec} {s t : State} (h : Gives (.cmdTdcStop m x) s t) : State.OwnMem m s t := by
  cases h
  refine (s.cmd_ownMem m 0x902 x _ fun u => State.OwnMem.complete ?_ _).settle
  split
  · exact ((State.OwnMem.refl _ u).past (State.tdcStop_within ..)).past (State.tdcNote_within ..)
  · exact .refl _ u

theorem execCmdGrnCellTest_ownMem {m : Fin 16} {x : Exec} {bad : List (Fin 64)} {s t : State}
    (h : Gives (.cmdGrnCellTest m x bad) s t) : State.OwnMem m s t := by
  cases h
  refine (s.cmd_ownMem m 0x402 x _ fun u => ?_).settle
  have htest := (State.OwnMem.refl m.val u).past (u.testBufs_snd m (u.pay m 0 1) (u.pay m 2 2) [])
  refine ((htest.past_each fun v b => ?_).past_each fun v b => ?_).complete _ _ _
  · exact ((State.OwnMem.refl _ v).past (State.condemnBuf_within ..)).past (State.lastingFault_within ..)
  · exact (State.OwnMem.refl _ v).past (State.freeBuf_within ..)

theorem execCmdEvtLogRead_ownMem {m : Fin 16} {x : Exec} {s t : State} (h : Gives (.cmdEvtLogRead m x) s t) :
    State.OwnMem m s t := by
  cases h
  refine (s.cmd_ownMem m 0xB01 x _ fun u => ?_).settle
  extract_lets l keep v
  refine State.OwnMem.complete ?_ _ _ _
  unfold v
  split
  · exact .refl _ u
  · exact (((State.OwnMem.refl _ u).past (State.updEvt_within ..)).past (State.showLatch_within ..)).past (State.noteLog_within _)

theorem execCmdConfigRestore_ownMem {m : Fin 16} {x : Exec} {s t : State} (h : Gives (.cmdConfigRestore m x) s t) :
    State.OwnMem m s t := by
  cases h
  refine (s.cmd_ownMem m 0x31 x _ fun u => ?_).settle
  split
  · exact .refl _ u
  · extract_lets groups alm first v
    have hv : State.OwnMem m u v := (((State.OwnMem.refl _ u).past (State.running_within ..)).past
      (State.loadSaved_within ..)).past (State.rebindSaved_within ..)
    split
    · exact hv.trans (v.restoreTail_ownMem m)
    · exact hv.past (State.requestCommit_within ..)

theorem execCmdTableSync_ownMem {m : Fin 16} {x : Exec} {s t : State} (h : Gives (.cmdTableSync m x) s t) :
    State.OwnMem m s t := by
  cases h
  refine (s.cmd_ownMem m 0x11 x _ fun u => ?_).settle
  extract_lets tb first n o v
  have hv : State.OwnMem m u { v with nextOrd := o + 1 } := .of_mem rfl
  exact hv.past (State.issueFetches_within ..)

theorem execCmdTbsReportBind_ownMem {m : Fin 16} {x : Exec} {s t : State} (h : Gives (.cmdTbsReportBind m x) s t) :
    State.OwnMem m s t := by
  cases h
  refine (s.cmd_ownMem m 0x603 x _ fun u => ?_).settle
  extract_lets p a u1 u2
  have h2 : State.OwnMem m u u2 := ((((State.OwnMem.refl _ u).past (State.updTb_within ..)).past
    (State.clearReg_within ..)).past (State.clearReg_within ..)).past (State.clearReg_within ..)
  exact ((h2.past (State.wrB_within ..)).past (State.setPend_within ..)).complete _

theorem execCmdRefModelClear_ownMem {m : Fin 16} {x : Exec} {s t : State} (h : Gives (.cmdRefModelClear m x) s t) :
    State.OwnMem m s t := by
  cases h
  refine (s.cmd_ownMem m 0x704 x _ fun u => ?_).settle
  extract_lets u1 u2 u3
  have h2 : State.OwnMem m u u2 := ((State.OwnMem.refl _ u).past u.accQ_within).past (State.updRef_within ..)
  have h3 : State.OwnMem m u u3 := ((h2.past (State.wr_within ..)).past (State.wr_within ..)).past (State.setReg_within ..)
  exact (h3.past u3.select_within).complete _

/-- Every mailbox command writes its own response alone. -/
theorem command_ownMem {c : Instr} {m : Fin 16} {opc : Nat} {x : Exec} {s t : State} (hc : c.command = some (m, opc, x))
    (h : Gives c s t) : State.OwnMem m s t := by
  have hr (u : State) : State.OwnMem m u u := .refl _ u
  cases c with
  | cmdNop => cases hc; exact execCmdNop_ownMem h
  | cmdFence => cases hc; exact execCmdFence_ownMem h
  | cmdPrtOptXfer => cases hc; exact execCmdPrtOptXfer_ownMem h
  | cmdShfCarrierOp => cases hc; exact execCmdShfCarrierOp_ownMem h
  | cmdTdcRun => cases hc; exact execCmdTdcRun_ownMem h
  | cmdTdcStop => cases hc; exact execCmdTdcStop_ownMem h
  | cmdGrnCellTest => cases hc; exact execCmdGrnCellTest_ownMem h
  | cmdEvtLogRead => cases hc; exact execCmdEvtLogRead_ownMem h
  | cmdConfigRestore => cases hc; exact execCmdConfigRestore_ownMem h
  | cmdIdentify | cmdAlmBankCheck | cmdFwdQueueStat | cmdShfTtCarriers | cmdEvtSpareReport =>
    cases hc; cases h
    exact (s.cmd_ownMem m _ _ _ fun u => u.complete_ownMem ..).settle
  | cmdPrtCountersRead | cmdAlmCountersRead | cmdTbsCountersRead | cmdShfTtCountersRead | cmdRefCountersRead |
    cmdTwnCountersRead =>
    cases hc; cases h
    exact (s.countersCmd_ownMem ..).settle
  | cmdFwdCountersRead | cmdShfCountersRead | cmdGrnCountersRead =>
    cases hc; cases h
    exact (s.cmd_ownMem m _ _ _ fun u => u.readSlots_ownMem ..).settle
  | cmdConfigSave | cmdImageDownload | cmdImageActivate =>
    cases hc; cases h
    exact (s.cmd_ownMem m _ _ _ fun u => (hr u).past (State.useFlash_within ..)).settle
  | cmdTbsAdjust | cmdTbsSet =>
    cases hc; cases h
    exact (s.cmd_ownMem m _ _ _ fun u => (hr u).past (State.schedule_within ..)).settle
  | cmdGrnSweep | cmdCalFreq =>
    cases hc; cases h
    exact (s.cmd_ownMem m _ _ _ fun u => (hr u).past (State.running_within ..)).settle
  | cmdTableBind =>
    cases hc; cases h
    exact (s.cmd_ownMem m _ _ _ fun u => ((hr u).past (State.bindTable_within ..)).mirrors _ _ _).settle
  | cmdTableSync => cases hc; exact execCmdTableSync_ownMem h
  | cmdTbsReportBind => cases hc; exact execCmdTbsReportBind_ownMem h
  | cmdRefModelClear => cases hc; exact execCmdRefModelClear_ownMem h
  | cmdTableRead | cmdRefGnssSend =>
    cases hc; cases h
    exact (s.cmd_ownMem m _ _ _ fun u => ((hr u).past (State.emit_within ..)).complete _).settle
  | cmdTwnTableAdopt =>
    cases hc; cases h
    exact (s.cmd_ownMem m _ _ _ fun u => ((hr u).past (State.updTable_within ..)).complete _).settle
  | cmdCommit =>
    cases hc; cases h
    exact (s.cmd_ownMem m _ _ _ fun u => ((hr u).past (State.running_within ..)).past (State.requestCommit_within ..)).settle
  | cmdFwdFlush =>
    cases hc; cases h
    exact (s.cmd_ownMem m _ _ _ fun u => ((hr u).past (State.hostFlush_within ..)).mirrors _ _ _).settle
  | cmdAlmRealign =>
    cases hc; cases h
    exact (s.cmd_ownMem m _ _ _ fun u => ((hr u).past (State.realign_within ..)).mirrors _ _ _).settle
  | cmdRefForce =>
    cases hc; cases h
    exact (s.cmd_ownMem m _ _ _ fun u => ((hr u).past (State.force_within ..)).mirrors _ _ _).settle
  | cmdSynRampStart =>
    cases hc; cases h
    exact (s.cmd_ownMem m _ _ _ fun u => ((hr u).past (State.rampStart_within ..)).mirrors _ _ _).settle
  | cmdSynRampStop =>
    cases hc; cases h
    exact (s.cmd_ownMem m _ _ _ fun u => ((hr u).past (State.rampStop_within ..)).mirrors _ _ _).settle
  | cmdTdcBinCal =>
    cases hc; cases h
    exact (s.cmd_ownMem m _ _ _ fun u => ((hr u).past (State.startTest_within ..)).past (State.running_within ..)).settle
  | cmdCalTrace =>
    cases hc; cases h
    exact (s.cmd_ownMem m _ _ _ fun u => (hr u).past (State.startTrace_within ..)).settle
  | cmdTwnSwitch =>
    cases hc; cases h
    exact (s.cmd_ownMem m _ _ _ fun u => ((hr u).past (State.running_within ..)).past (State.relinquish_within ..)).settle
  | cmdTwnResync =>
    cases hc; cases h
    exact (s.cmd_ownMem m _ _ _ fun u => ((hr u).past u.startResync_within).complete _).settle
  | _ => cases hc

/-- Settles O46: the response of its mailbox is all that a command writes, so that no other mailbox changes. -/
theorem commandMemory : Obligations.CommandMemory := by
  intro c m opc x s t hc h
  have hown := command_ownMem hc h
  exact ⟨fun n o ho => hown.get _ (by omega), fun n o hn ho _ => hown.get _ (by have := m.isLt; omega)⟩

end Sys2Proof.Machine
end

section
/-! PROOFS. Commands that start and complete, and fences (R101, R104, R105, R108, R109, R111, R112), for O20. -/
set_option Elab.async false
namespace Sys2Proof.Machine

/-! ### The end of a command's work -/

/-- Whether a completion is written at once, and as what success, is all that it depends on. -/
theorem State.ends_congr {s u t : State} {m : Fin 16} {st : Nat} {res : List Byte} (hb : u.boot.running = s.boot.running)
    (hr : (u.mbxAt m).retry = (s.mbxAt m).retry) (h : u.ends t m st res) : s.ends t m st res := by
  unfold State.ends at h ⊢
  rwa [hb, hr] at h

/-- A completion with ST_OK gives its result, and one of a repetition shows that it recovered (R101, R108, R109). -/
theorem State.complete_ends (s : State) (m : Fin 16) (d : Nat) {res : List Byte} (hl : res.length ≤ 4032) :
    s.ends (s.complete m ST_OK d res) m ST_OK res := by
  unfold State.ends State.complete
  split
  · rw [State.mbxAt_updMbx_self]
    exact ⟨rfl, rfl⟩
  · rename_i hb
    have h := s.writeDone_answered m d res (by simpa using hb) hl
    simpa using h

/-- A completion without success gives its status. -/
theorem State.refusal_ends (s : State) (m : Fin 16) {st : Nat} (d : Nat) (hst : st ≠ ST_OK) (hs : st < 65536) :
    s.ends (s.complete m st d) m st [] := by
  unfold State.ends
  split
  · rename_i hb
    unfold State.complete
    rw [if_pos hb, State.mbxAt_updMbx_self]
    exact ⟨rfl, rfl⟩
  · rename_i hb
    rw [if_neg (by simp [hst])]
    exact s.complete_refusal m d (by simpa using hb) hst hs

theorem State.settle_works {s : State} {m : Fin 16} {j : Job} (h : s.works m j) : s.settle.works m j :=
  ⟨(s.settle_mst m).trans h.1, (s.settle_workKept.job m).trans h.2⟩

/-! ### The start of a command -/

/-- The command begins its execution without an error so far. -/
def State.fresh (s : State) (m : Fin 16) (x : Exec) : Bool := x = .clean && !(s.mbxAt m).retry

/-- The command of mailbox `m` runs, marked as a repetition where it is one (R108). -/
def State.started (s : State) (m : Fin 16) (x : Exec) : State :=
  if s.fresh m x then s.setMst m mRUNNING else (s.setMst m mRUNNING).updMbx m fun b => { b with retry := true }

section
variable {s : State} {m : Fin 16} {x : Exec}

/-- What either case of the start keeps. -/
theorem State.started_cases (P : State → Prop) (h1 : P (s.setMst m mRUNNING))
    (h2 : P ((s.setMst m mRUNNING).updMbx m fun b => { b with retry := true })) : P (s.started m x) := by
  unfold State.started
  split
  · exact h1
  · exact h2

theorem State.started_within : Within ⟨[.gr], [R.MBX_STATE], []⟩ s (s.started m x) :=
  State.started_cases _ ((State.setMst_within ..).step (.refl _ _) (by decide +kernel))
    ((State.updMbx_within ..).step ((State.setMst_within ..).step (.refl _ _) (by decide +kernel)) (by decide +kernel))

theorem State.started_mem : (s.started m x).mem = s.mem := State.started_within.part .mem (by decide)
theorem State.started_boot : (s.started m x).boot = s.boot := State.started_within.part .boot (by decide)
theorem State.started_mst : (s.started m x).mst m = mRUNNING :=
  State.started_cases (fun u => u.mst m = mRUNNING) (State.mst_setMst_self _ _ _ (by decide)) (State.mst_setMst_self _ _ _ (by decide))

theorem State.started_retry : ((s.started m x).mbxAt m).retry = !s.fresh m x := by
  unfold State.started
  cases hf : s.fresh m x with
  | true =>
    rw [if_pos rfl]
    simp only [State.fresh, Bool.and_eq_true, Bool.not_eq_true'] at hf
    exact hf.2
  | false =>
    rw [if_neg (by simp), State.mbxAt_updMbx_self]
    rfl

/-- The mark of a repetition is all that the start changes of a mailbox's work. -/
theorem State.started_mbxAt (n : Nat) : ∃ r, (s.started m x).mbxAt n = { s.mbxAt n with retry := r } := by
  refine State.started_cases (fun u => ∃ r, u.mbxAt n = { s.mbxAt n with retry := r }) ⟨(s.mbxAt n).retry, rfl⟩ ?_
  by_cases h : n = m
  · rw [h, State.mbxAt_updMbx_self]
    exact ⟨true, rfl⟩
  · rw [State.mbxAt_updMbx_ne _ _ h]
    exact ⟨(s.mbxAt n).retry, rfl⟩

theorem State.started_tables : (s.started m x).gr.tables = s.gr.tables := State.started_cases (fun u => u.gr.tables = s.gr.tables) rfl rfl

/-- A command that is accepted runs its body once its checks pass (R104, R108). -/
theorem State.cmd_starts {opc : Nat} (h : s.accepts m opc x = true) {checks : State → List Check}
    (hc : firstFail (checks (s.setMst m mRUNNING)) = none) (body : State → State) :
    s.cmd m opc x checks body = body (s.started m x) := State.cmd_runs h hc body

theorem State.accepts_boot {opc : Nat} (h : s.accepts m opc x = true) : s.boot.running = false := by
  simp only [State.accepts, Bool.and_eq_true, Bool.not_eq_true'] at h
  exact h.1.1.2

theorem State.accepts_ready {opc : Nat} (h : s.accepts m opc x = true) : s.ready m opc = true := by
  simp only [State.accepts, Bool.and_eq_true] at h
  exact h.1.1.1.1

/-- The header of a command passes its checks (R104). -/
theorem State.headChecks_pass {opc : Nat} (h : s.accepts m opc x = true) {lenOk : Nat → Bool} (hn : s.plen m ≤ 4032)
    (hlen : lenOk (s.plen m) = true) (rest : List Check) :
    firstFail ((s.setMst m mRUNNING).headChecks m lenOk ++ rest) = firstFail rest := by
  have hflags : s.mflags m / 4 = 0 := by
    simp only [State.accepts, Bool.and_eq_true, decide_eq_true_eq] at h
    exact h.1.2
  simp only [State.headChecks, List.cons_append, List.nil_append, firstFail, State.setMst_plen, State.setMst_mflags, hflags]
  by_cases h0 : s.plen m = 0
  · rw [h0] at hlen
    simp [h0, hlen]
  · simp [h0, hlen, not_lt.2 hn]

/-- A completion with ST_OK in the body is the command's success (R108). -/
theorem State.complete_succeeds {u : State} (hb : u.boot.running = false) (hr : (u.mbxAt m).retry = !s.fresh m x) (d : Nat)
    {res : List Byte} (hl : res.length ≤ 4032) : s.succeeds (u.complete m ST_OK d res).settle m x res := by
  have h := u.complete_ends m d hl
  unfold State.ends at h
  rw [hb, hr] at h
  refine State.settle_answered ?_
  rw [if_neg (by decide)] at h
  have hcase : (if (decide (ST_OK = ST_OK) && !s.fresh m x) = true then ST_TRANSIENT_RECOVERED else ST_OK) =
      if s.fresh m x then ST_OK else ST_TRANSIENT_RECOVERED := by
    cases s.fresh m x <;> rfl
  rw [hcase] at h
  exact h

end

/-! ### CMD_NOP and CMD_IDENTIFY (R105) -/

theorem cmdNop_acts (m : Fin 16) (x : Exec) (s : State) (h : s.accepts m 0x1 x = true) (hn : s.plen m = 0) :
    Yields (.cmdNop m x) s fun t => s.succeeds t m x [] := by
  have hcmd : execCmdNop m x s = fin (s.cmd m 0x1 x (fun s => s.headChecks m (· = 0)) fun s => s.complete m ST_OK) := by
    unfold execCmdNop
    rw [if_neg (by rw [State.opcode_of_ready (State.accepts_ready h)]; simp [knownOpcodes])]
  have hpass := State.headChecks_pass (lenOk := (· = 0)) h (by omega) (by simp [hn]) []
  rw [List.append_nil] at hpass
  show Ends (execCmdNop m x s) _
  rw [hcmd, ends_fin, State.cmd_starts h hpass]
  exact State.complete_succeeds (by rw [State.started_boot, State.accepts_boot h]) State.started_retry 0 (by simp)

theorem cmdIdentify_acts (m : Fin 16) (x : Exec) (s : State) (h : s.accepts m 0x2 x = true) (hn : s.plen m = 0)
    (hserial : s.boot.serial.length = 12) :
    Yields (.cmdIdentify m x) s fun t => s.succeeds t m x ([BitVec.ofNat 8 (s.rd PWR_IDENT.STEPPING), 0] ++
      leBytes 2 (s.rd PWR_BOOT_STAT.RELEASE) ++ s.boot.serial) := by
  have hpass := State.headChecks_pass (lenOk := (· = 0)) h (by omega) (by simp [hn]) []
  rw [List.append_nil] at hpass
  show Ends (execCmdIdentify m x s) _
  unfold execCmdIdentify
  rw [ends_fin, State.cmd_starts h hpass, State.started_boot, State.started_within.rd_same (by decide +kernel),
    State.started_within.rd_same (by decide +kernel)]
  exact State.complete_succeeds (by rw [State.started_boot, State.accepts_boot h]) State.started_retry 0
    (by simp [leBytes_length, hserial])

/-! ### Fences (R111, R112) -/

/-- The conditions of a fence read the tables' queues, the order of the mailboxes, and the states of the other ones. -/
theorem State.fenceCond_eq {s t : State} {m : Nat} (htab : t.gr.tables = s.gr.tables)
    (hmbx : ∀ n, (t.mbxAt n).postAt = (s.mbxAt n).postAt ∧ (t.mbxAt n).ord = (s.mbxAt n).ord)
    (hmst : ∀ n, n ≠ m → t.mst n = s.mst n) : t.fenceCond m = s.fenceCond m := by
  unfold State.fenceCond
  simp only [htab, hmbx]
  congr 1
  refine List.all_congr rfl fun n => ?_
  by_cases hn : n = m
  · simp [hn]
  · rw [hmst n hn]

/-- The note of a fence is the tick at which its whole condition first held (R112). -/
theorem State.noteFence_heldAt (s : State) (m : Fin 16) (drain : Bool) :
    ((s.noteFence m drain).mbxAt m).heldAt = s.fenceHeld m drain := by
  rw [State.noteFence_eq]
  unfold State.meetFence State.holdFence State.fenceHeld
  cases hmet : (s.mbxAt m).met with
  | some n =>
    simp only [Option.isNone_some, Bool.false_and, Bool.false_eq_true, if_false, hmet]
    cases hheld : (s.mbxAt m).heldAt with
    | some h => simp [hheld]
    | none =>
      by_cases hd : (!drain || s.drained n) = true
      · simp [hd]
      · simp [hd, hheld]
  | none =>
    by_cases hcond : s.fenceCond m = true
    · simp only [Option.isNone_none, hcond, Bool.and_self, if_true]
      have hdrained : ((s.updMbx m fun b => { b with met := some s.nextOrd }).takeOrd).drained s.nextOrd = s.drained s.nextOrd := rfl
      have hself : ((s.updMbx m fun b => { b with met := some s.nextOrd }).takeOrd).mbxAt m = { s.mbxAt m with met := some s.nextOrd } :=
        State.mbxAt_updMbx_self ..
      simp only [hself, hdrained]
      cases hheld : (s.mbxAt m).heldAt with
      | some h => simp [hself, hheld]
      | none =>
        by_cases hd : (!drain || s.drained s.nextOrd) = true
        · simp only [hd, Option.isNone_none, Bool.and_self, if_true, State.mbxAt_updMbx_self]
          rfl
        · simp only [hd, Bool.and_false, Bool.false_eq_true, if_false, hself, hheld]
    · simp only [Option.isNone_none, Bool.true_and, hcond, Bool.false_eq_true, if_false, hmet, Bool.false_and]
      cases hheld : (s.mbxAt m).heldAt <;> rfl

/-- It changes a mailbox in its notes alone. -/
theorem State.noteFence_retry (s : State) (m : Fin 16) (drain : Bool) (n : Nat) :
    ((s.noteFence m drain).mbxAt n).retry = (s.mbxAt n).retry := (s.noteFence_workKept m drain).retry n

theorem State.noteFence_fenceCond (s : State) (m : Fin 16) (drain : Bool) : (s.noteFence m drain).fenceCond m = s.fenceCond m := by
  have hw := s.noteFence_workKept m drain
  exact State.fenceCond_eq hw.tables (fun n => ⟨hw.postAt n, hw.ord n⟩)
    fun n _ => State.mst_eq ((s.noteFence_within m drain).reg_same (by decide +kernel) 0) n

/-- A started command has the fence that it had (R111, R112). -/
theorem State.started_fence {s : State} {m : Fin 16} {x : Exec} : (s.started m x).fenceCond m = s.fenceCond m ∧
    (∀ drain, (s.started m x).fenceHeld m drain = s.fenceHeld m drain) ∧ (s.started m x).fenceLim m = s.fenceLim m ∧
    (s.started m x).fenceDrain m = s.fenceDrain m := by
  have hbox (n : Nat) : ((s.started m x).mbxAt n).postAt = (s.mbxAt n).postAt ∧ ((s.started m x).mbxAt n).ord = (s.mbxAt n).ord := by
    obtain ⟨r, hr⟩ := State.started_mbxAt (s := s) (m := m) (x := x) n
    rw [hr]
    exact ⟨rfl, rfl⟩
  have hmst (n : Nat) (hn : n ≠ m) : (s.started m x).mst n = s.mst n :=
    State.started_cases (fun u => u.mst n = s.mst n) (s.mst_setMst_ne m.isLt hn _) (s.mst_setMst_ne m.isLt hn _)
  have hcond : (s.started m x).fenceCond m = s.fenceCond m := State.fenceCond_eq State.started_tables hbox hmst
  refine ⟨hcond, fun drain => ?_, ?_, ?_⟩
  · obtain ⟨r, hr⟩ := State.started_mbxAt (s := s) (m := m) (x := x) m
    have hdrained (n : Nat) : (s.started m x).drained n = s.drained n :=
      State.started_cases (fun u => u.drained n = s.drained n) rfl rfl
    have hnow : (s.started m x).now = s.now := State.started_within.now
    have hord : (s.started m x).nextOrd = s.nextOrd := State.started_within.part .nextOrd (by decide)
    unfold State.fenceHeld
    simp only [hr, hcond, hdrained, hnow, hord]
  · have hf (o n : Nat) : (s.started m x).mf m o n = s.mf m o n := State.mf_eq State.started_mem m o n
    unfold State.fenceLim State.plen State.pay
    simp only [hf, (hbox m).1]
  · have hf (o n : Nat) : (s.started m x).mf m o n = s.mf m o n := State.mf_eq State.started_mem m o n
    unfold State.fenceDrain State.plen State.pay
    simp only [hf]

/-- CMD_FENCE completes, with ST_TIMEOUT past its limit, or waits (R105, R112). -/
theorem cmdFence_acts (m : Fin 16) (x : Exec) (s : State) (h : s.accepts m 0x3 x = true)
    (hpay : s.plen m = 0 ∨ s.plen m = 8 ∧ s.pay m 0 4 < 2) (hmode : s.fenceDrain m = true → s.fwdMode = true) :
    Yields (.cmdFence m x) s fun t =>
      if (s.fenceLim m).any (fun l => decide (l < (s.fenceHeld m (s.fenceDrain m)).getD s.now)) then t.answered m ST_TIMEOUT []
      else if s.fenceCond m && (s.fenceHeld m (s.fenceDrain m)).isSome then s.succeeds t m x []
      else t.works m (.fence (s.fenceDrain m) (s.fenceLim m)) := by
  have hchecks : firstFail ((s.setMst m mRUNNING).headChecks m (fun n => n = 0 || n = 8) ++
      [(ST_BAD_ARGUMENT, (s.setMst m mRUNNING).plen m = 8 && (s.setMst m mRUNNING).pay m 0 4 / 2 ≠ 0),
       (ST_WRONG_MODE, (s.setMst m mRUNNING).fenceDrain m && !(s.setMst m mRUNNING).fwdMode)]) = none := by
    have hfwd : (s.setMst m mRUNNING).fwdMode = s.fwdMode := by
      unfold State.fwdMode State.mode
      rw [State.setMst_rd _ _ _ (by decide +kernel)]
    have hbad : ¬ ((s.setMst m mRUNNING).plen m = 8 ∧ (s.setMst m mRUNNING).pay m 0 4 / 2 ≠ 0) := by
      rw [State.setMst_plen, State.setMst_pay]
      omega
    have hwrong : ¬ ((s.setMst m mRUNNING).fenceDrain m = true ∧ (s.setMst m mRUNNING).fwdMode = false) := by
      rw [hfwd]
      exact fun ⟨hd, hm⟩ => by rw [hmode hd] at hm; cases hm
    rw [State.headChecks_pass h (by omega) (by rcases hpay with h0 | ⟨h8, -⟩ <;> simp [*]), firstFail,
      if_neg (by rwa [Bool.and_eq_true, decide_eq_true_eq, decide_eq_true_eq]), firstFail,
      if_neg (by rwa [Bool.and_eq_true, Bool.not_eq_true']), firstFail]
  show Ends (execCmdFence m x s) _
  unfold execCmdFence
  rw [ends_fin, State.cmd_starts h hchecks]
  obtain ⟨hcond, hheld, hlim, hdrain⟩ := State.started_fence (s := s) (m := m) (x := x)
  have hboot := State.accepts_boot h
  rw [← @State.started_boot s m x] at hboot
  have hretry := State.started_retry (s := s) (m := m) (x := x)
  have hmst := State.started_mst (s := s) (m := m) (x := x)
  have hnow : (s.started m x).now = s.now := State.started_within.now
  rw [← hcond, ← hheld, ← hlim, ← hdrain, ← hnow]
  generalize s.started m x = u at hboot hretry hmst
  dsimp only
  set v := u.noteFence m (u.fenceDrain m) with hv
  have hvheld : (v.mbxAt m).heldAt = u.fenceHeld m (u.fenceDrain m) := u.noteFence_heldAt m _
  have hvnow : v.now = u.now := (u.noteFence_within m _).now
  have hvboot : v.boot.running = false := by rwa [(u.noteFence_within m _).part .boot (by decide)]
  have hvretry : (v.mbxAt m).retry = !s.fresh m x := (u.noteFence_retry m _ m).trans hretry
  have hvmst : v.mst m = mRUNNING := (State.mst_eq ((u.noteFence_within m _).reg_same (by decide +kernel) 0) m).trans hmst
  have hvcond : v.fenceCond m = u.fenceCond m := u.noteFence_fenceCond m _
  have hlate : v.fenceLate m (u.fenceLim m) =
      (u.fenceLim m).any (fun l => decide (l < (u.fenceHeld m (u.fenceDrain m)).getD u.now)) := by
    unfold State.fenceLate
    rw [hvheld, hvnow]
    cases u.fenceLim m <;> rfl
  clear_value v
  rw [← hlate, ← hvheld, ← hvcond]
  by_cases hl : v.fenceLate m (u.fenceLim m) = true
  · simp only [hl, if_true]
    exact State.settle_answered (v.complete_refusal m 0 hvboot (by decide) (by decide))
  · simp only [hl, Bool.false_eq_true, if_false]
    by_cases hh : (v.fenceCond m && (v.mbxAt m).heldAt.isSome) = true
    · simp only [hh, if_true]
      exact State.complete_succeeds hvboot hvretry 0 (by simp)
    · simp only [hh, Bool.false_eq_true, if_false]
      refine State.settle_works ⟨hvmst, ?_⟩
      exact congrArg (·.job) (State.mbxAt_updMbx_self ..)

/-- A fence whose condition has held is released (R112). -/
theorem fenceRelease_acts (m : Fin 16) (drain : Bool) (lim : Option Nat) (h : Nat) (s : State)
    (hjob : (s.mbxAt m).job = some (.fence drain lim)) (hheld : s.fenceHeld m drain = some h) :
    Yields (.fenceRelease m) s fun t => s.ends t m (if lim.any (fun l => decide (l < h)) then ST_TIMEOUT else ST_OK) [] := by
  show Ends (execFenceRelease m s) _
  unfold execFenceRelease
  simp only [hjob]
  set v := s.noteFence m drain with hv
  have hvheld : (v.mbxAt m).heldAt = some h := (s.noteFence_heldAt m drain).trans hheld
  have hvboot : v.boot.running = s.boot.running := by rw [(s.noteFence_within m drain).part .boot (by decide)]
  have hvretry : (v.mbxAt m).retry = (s.mbxAt m).retry := s.noteFence_retry m drain m
  clear_value v
  have hlate : v.fenceLate m lim = lim.any (fun l => decide (l < h)) := by
    unfold State.fenceLate
    rw [hvheld]
    cases lim <;> rfl
  rw [ends_fin, if_neg (by simp [hvheld]), ← hlate]
  refine State.settle_ends (State.ends_congr (u := v) hvboot hvretry ?_)
  by_cases hl : v.fenceLate m lim = true
  · simp only [hl, if_true]
    exact v.refusal_ends m 0 (by decide) (by decide)
  · simp only [hl, Bool.false_eq_true, if_false]
    exact v.complete_ends m 0 (by simp)

/-- The limit of a fence passes (R112). -/
theorem fenceTimeout_acts (m : Fin 16) (drain : Bool) (lim : Nat) (s : State) (hjob : (s.mbxAt m).job = some (.fence drain (some lim)))
    (hlim : lim ≤ s.now) (hheld : (s.mbxAt m).heldAt.all (fun h => decide (lim ≤ h)) = true) :
    Yields (.fenceTimeout m) s fun t => s.ends t m ST_TIMEOUT [] := by
  show Ends (execFenceTimeout m s) _
  unfold execFenceTimeout
  simp only [hjob, hlim, hheld, decide_true, Bool.and_self, if_true]
  rw [ends_fin]
  exact State.settle_ends (s.refusal_ends m 0 (by decide) (by decide))

/-- A fenced command whose conditions hold may start (R111). -/
theorem fencedCommandStart_acts (m : Fin 16) (s : State) (hserve : s.serving = true) (hpost : s.mst m = mPOSTED)
    (hfence : testBit (s.mflags m) 0 = true) (hopc : s.opcode m ≠ 0x3) (hcond : s.fenceCond m = true) :
    Yields (.fencedCommandStart m) s fun t => (t.mbxAt m).go = true := by
  show Ends (execFencedCommandStart m s) _
  unfold execFencedCommandStart
  rw [if_pos (by simp [hserve, hpost, hfence, hopc, hcond]), ends_fin, (State.settle_workKept _).go, State.mbxAt_updMbx_self]

end Sys2Proof.Machine
end

section
/-! PROOFS. The flash commands and the end of a flash operation (R105, R106, R107, R108, R519), and O20. -/
set_option Elab.async false
namespace Sys2Proof.Machine

/-! ### Commands that take the flash (R105, R106, R107) -/

theorem firstFail_pass {l : List Check} (h : ∀ k ∈ l, k.2 = false) : firstFail l = none := by
  induction l with
  | nil => rfl
  | cons k l ih =>
    obtain ⟨st, b⟩ := k
    rw [firstFail, if_neg (by simpa using h (st, b) List.mem_cons_self)]
    exact ih fun k hk => h k (List.mem_cons_of_mem _ hk)

/-- The command that takes the flash waits for its operation. -/
theorem State.useFlash_works {u : State} {m : Fin 16} (h : u.mst m = mRUNNING) :
    (u.useFlash m).settle.works m .flash ∧ (u.useFlash m).settle.boot.flashBusy = some m :=
  ⟨State.settle_works ⟨h, congrArg (·.job) (State.mbxAt_updMbx_self ..)⟩, by rw [State.settle_boot]; rfl⟩

/-- Marking a mailbox changes no slot (R107). -/
theorem State.setMst_slotOk (s : State) (m v k : Nat) : (s.setMst m v).slotOk k = s.slotOk k := by
  unfold State.slotOk State.runSlot
  rw [State.setMst_recovery, State.setMst_rd _ _ _ (by decide +kernel)]

theorem cmdConfigSave_acts (m : Fin 16) (x : Exec) (s : State) (h : s.accepts m 0x30 x = true) (hn : s.plen m = 0)
    (hfree : s.boot.flashBusy = none) :
    Yields (.cmdConfigSave m x) s fun t => t.works m .flash ∧ t.boot.flashBusy = some m := by
  have hpass : firstFail ((s.setMst m mRUNNING).headChecks m (· = 0) ++ [chk ST_BUSY (s.setMst m mRUNNING).boot.flashBusy.isSome]) =
      none := by
    rw [State.headChecks_pass h (by omega) (by simp [hn])]
    exact firstFail_pass (by simp [chk, hfree])
  show Ends (execCmdConfigSave m x s) _
  unfold execCmdConfigSave
  rw [ends_fin, State.cmd_starts h hpass]
  exact State.useFlash_works State.started_mst

/-- The checks of CMD_IMAGE_DOWNLOAD after its header (R104, R107). -/
theorem downloadChecks_pass {u : State} {m : Fin 16} (hres : u.pay m 1 3 = 0) (hlen : u.pay m 8 4 ≠ 0)
    (hslot : u.slotOk (u.pay m 0 1) = true) (hal : u.pay m 4 4 % 16 = 0) (hend : u.pay m 4 4 + u.pay m 8 4 ≤ 0x1800000)
    (hfree : u.boot.flashBusy = none) :
    firstFail [chk ST_BAD_ARGUMENT (u.pay m 1 3 ≠ 0), chk ST_ZERO_INVALID (u.pay m 8 4 = 0),
      chk ST_BAD_ARGUMENT (!u.slotOk (u.pay m 0 1) || u.pay m 4 4 % 16 ≠ 0 || decide (0x1800000 < u.pay m 4 4 + u.pay m 8 4)),
      chk ST_BUSY u.boot.flashBusy.isSome] = none :=
  firstFail_pass (by simp [chk, hres, hlen, hslot, hal, hend, hfree])

theorem cmdImageDownload_acts (m : Fin 16) (x : Exec) (s : State) (h : s.accepts m 0x40 x = true) (hlo : 12 < s.plen m)
    (hhi : s.plen m ≤ 4032) (hlen : s.pay m 8 4 = s.plen m - 12) (hres : s.pay m 1 3 = 0) (hslot : s.slotOk (s.pay m 0 1) = true)
    (hal : s.pay m 4 4 % 16 = 0) (hend : s.pay m 4 4 + s.pay m 8 4 ≤ 0x1800000) (hfree : s.boot.flashBusy = none) :
    Yields (.cmdImageDownload m x) s fun t => t.works m .flash ∧ t.boot.flashBusy = some m := by
  show Ends (execCmdImageDownload m x s) _
  unfold execCmdImageDownload
  rw [ends_fin, State.cmd_starts h]
  · exact State.useFlash_works State.started_mst
  · have hpos : s.pay m 8 4 ≠ 0 := by omega
    refine (State.headChecks_pass h hhi ?_ _).trans
      (downloadChecks_pass hres hpos ((s.setMst_slotOk ..).trans hslot) hal hend hfree)
    simp only [State.setMst_pay, hlen]
    simp [hhi, hlo.le]

theorem cmdImageActivate_acts (m : Fin 16) (x : Exec) (s : State) (h : s.accepts m 0x41 x = true) (hlen : s.plen m = 4)
    (hres : s.pay m 1 3 = 0) (hslot : s.slotOk (s.pay m 0 1) = true) (hfree : s.boot.flashBusy = none) :
    Yields (.cmdImageActivate m x) s fun t => t.works m .flash ∧ t.boot.flashBusy = some m := by
  have hslot' : (s.setMst m mRUNNING).slotOk (s.pay m 0 1) = true := (s.setMst_slotOk ..).trans hslot
  show Ends (execCmdImageActivate m x s) _
  unfold execCmdImageActivate
  rw [ends_fin, State.cmd_starts h]
  · exact State.useFlash_works State.started_mst
  · refine (State.headChecks_pass h (by omega) (by simp [hlen]) _).trans (firstFail_pass ?_)
    simp [chk, hres, hslot', hfree]

/-! ### The end of a flash operation (R106, R107, R519) -/

/-- The flash is free. -/
def State.freeFlash (s : State) : State := s.updBoot fun b => { b with flashBusy := none }

/-- The configuration in force, as CMD_CONFIG_SAVE writes it (R106). -/
def State.savedNow (s : State) : Saved :=
  { sets := s.committed, bins := s.tdc.bins, paths := s.cal.paths.map (fun p => (p.1, p.2.base, p.2.target)), binds := s.bindings }

theorem State.complete_boot (s : State) (m st d : Nat) (res : List Byte) : (s.complete m st d res).boot = s.boot :=
  (s.complete_within m st d res).part .boot (by decide)

/-- A completion after a change of the flash alone ends the command. -/
theorem State.updBoot_complete_ends (s : State) (m : Fin 16) {f : Boot → Boot} (hf : (f s.boot).running = s.boot.running) :
    s.ends ((s.updBoot f).complete m ST_OK).settle m ST_OK [] :=
  State.settle_ends (State.ends_congr (u := s.updBoot f) hf rfl ((s.updBoot f).complete_ends m 0 (Nat.zero_le _)))

/-- The fault counted for a check leaves the boot and the command (R519). -/
def State.checkFault (s : State) (k : Nat) (r1 r2 : ImageCheck) : State :=
  if !checkFails r1 then s else if checkFails r2 then s.lastingFault 10 k false else s.transientFault 10

theorem State.checkFault_within (s : State) (k : Nat) (r1 r2 : ImageCheck) :
    Within State.lastingFault_scope s (s.checkFault k r1 r2) := by
  unfold State.checkFault
  split
  · exact .refl _ _
  · split
    · exact State.lastingFault_within ..
    · exact (State.transientFault_within ..).step (.refl _ _) (by decide +kernel)

/-- The outcome of a check that is repeated once (R107). -/
def finalCheck (r1 r2 : ImageCheck) : ImageCheck := if checkFails r1 then r2 else r1

/-- An image passes only as a good one, of some release (R91). -/
theorem State.checkPasses_good {s : State} {r : ImageCheck} (h : s.checkPasses r = true) : ∃ rel, r = .good rel := by
  cases r with
  | good rel => exact ⟨rel, rfl⟩
  | _ => cases h

/-- The new active image (R107). -/
def State.makeActive (s : State) (k : Nat) (rel : BitVec 16) : State :=
  s.updBoot fun b => { b with active := k, history := b.history ++ [(k, rel.toNat)] }

theorem State.activate_passed {s : State} {k : Nat} {r1 r2 : ImageCheck} {rel : BitVec 16} (hr : finalCheck r1 r2 = .good rel)
    (hp : (s.checkFault k r1 r2).checkPasses (finalCheck r1 r2) = true) (m : Fin 16) :
    s.activate m k r1 r2 = ((s.checkFault k r1 r2).makeActive k rel).complete m ST_OK := by
  unfold finalCheck State.checkFault at *
  unfold State.activate
  dsimp only
  rw [hp, hr]
  rfl

theorem State.activate_failed {s : State} {k : Nat} {r1 r2 : ImageCheck}
    (hp : (s.checkFault k r1 r2).checkPasses (finalCheck r1 r2) = false) (m : Fin 16) :
    s.activate m k r1 r2 = (s.checkFault k r1 r2).complete m ST_AUTH_FAIL := by
  unfold finalCheck State.checkFault at *
  unfold State.activate
  dsimp only
  rw [hp]
  cases (if checkFails r1 then r2 else r1) <;> rfl

/-- An image that passes becomes the active one, and any other ends with ST_AUTH_FAIL (R107). -/
theorem State.activate_acts (s : State) (m : Fin 16) (k : Nat) (r1 r2 : ImageCheck) :
    (s.activate m k r1 r2).settle.boot.flashBusy = s.boot.flashBusy ∧
    if s.checkPasses (finalCheck r1 r2) then
      s.ends (s.activate m k r1 r2).settle m ST_OK [] ∧ (s.activate m k r1 r2).settle.boot.active = k
    else s.ends (s.activate m k r1 r2).settle m ST_AUTH_FAIL [] ∧ (s.activate m k r1 r2).settle.boot.active = s.boot.active := by
  have hboot : (s.checkFault k r1 r2).boot = s.boot := (s.checkFault_within k r1 r2).part .boot (by decide)
  have hgr : (s.checkFault k r1 r2).gr = s.gr := (s.checkFault_within k r1 r2).part .gr (by decide)
  have hretry : ((s.checkFault k r1 r2).mbxAt m).retry = (s.mbxAt m).retry := by rw [State.mbxAt, hgr, State.mbxAt]
  have hchecks : (s.checkFault k r1 r2).checkPasses (finalCheck r1 r2) = s.checkPasses (finalCheck r1 r2) := by
    unfold State.checkPasses
    rw [hboot]
  by_cases hp : s.checkPasses (finalCheck r1 r2) = true
  · obtain ⟨rel, hrel⟩ := State.checkPasses_good hp
    rw [if_pos hp, State.activate_passed hrel (hchecks.trans hp)]
    generalize s.checkFault k r1 r2 = u at hboot hretry
    refine ⟨?_, State.ends_congr (by rw [hboot]) hretry (u.updBoot_complete_ends m rfl), ?_⟩
    · rw [State.settle_boot, State.complete_boot, ← hboot]
      rfl
    · rw [State.settle_boot, State.complete_boot]
      rfl
  · rw [if_neg hp, State.activate_failed (hchecks.trans (Bool.eq_false_iff.2 hp))]
    generalize s.checkFault k r1 r2 = u at hboot hretry
    refine ⟨?_, State.ends_congr (by rw [hboot]) hretry (State.settle_ends (u.refusal_ends m 0 (by decide) (by decide))), ?_⟩ <;>
      rw [State.settle_boot, State.complete_boot, hboot]

/-- The flash after CMD_IMAGE_DOWNLOAD: the bytes of its payload stand in the slot that it names (R107). -/
def State.downloaded (s : State) (m : Fin 16) (b : Boot) : Boot :=
  if s.pay m 0 1 = 0 then
    { b with slotA := { b.slotA with data := Memory.setBytes b.slotA.data (s.pay m 4 4) (s.payBytes m 12 (s.pay m 8 4)) } }
  else { b with slotB := { b.slotB with data := Memory.setBytes b.slotB.data (s.pay m 4 4) (s.payBytes m 12 (s.pay m 8 4)) } }

theorem State.downloaded_flashBusy (s : State) (m : Fin 16) (b : Boot) : (s.downloaded m b).flashBusy = b.flashBusy := by
  unfold State.downloaded
  split <;> rfl

theorem State.downloaded_running (s : State) (m : Fin 16) (b : Boot) : (s.downloaded m b).running = b.running := by
  unfold State.downloaded
  split <;> rfl

theorem State.downloaded_slots (s : State) (m : Fin 16) (b : Boot) :
    if s.pay m 0 1 = 0 then
      (s.downloaded m b).slotA.data = Memory.setBytes b.slotA.data (s.pay m 4 4) (s.payBytes m 12 (s.pay m 8 4))
    else (s.downloaded m b).slotB.data = Memory.setBytes b.slotB.data (s.pay m 4 4) (s.payBytes m 12 (s.pay m 8 4)) := by
  unfold State.downloaded
  by_cases h : s.pay m 0 1 = 0
  · simp only [h, if_true]
  · simp only [h, if_false]

/-- What the end of an operation leaves: the flash is free, and the operation has its effect. -/
theorem State.flashEnd_acts (s : State) (m : Fin 16) (r1 r2 : ImageCheck) :
    (s.freeFlash.flashEnd m r1 r2).settle.boot.flashBusy = none ∧
    (s.opcode m = 0x30 → s.ends (s.freeFlash.flashEnd m r1 r2).settle m ST_OK [] ∧
      (s.freeFlash.flashEnd m r1 r2).settle.boot.saved = some s.savedNow) ∧
    (s.opcode m = 0x40 → s.ends (s.freeFlash.flashEnd m r1 r2).settle m ST_OK [] ∧
      if s.pay m 0 1 = 0 then (s.freeFlash.flashEnd m r1 r2).settle.boot.slotA.data =
        Memory.setBytes s.boot.slotA.data (s.pay m 4 4) (s.payBytes m 12 (s.pay m 8 4))
      else (s.freeFlash.flashEnd m r1 r2).settle.boot.slotB.data =
        Memory.setBytes s.boot.slotB.data (s.pay m 4 4) (s.payBytes m 12 (s.pay m 8 4))) ∧
    (s.opcode m ≠ 0x30 → s.opcode m ≠ 0x40 →
      if s.checkPasses (finalCheck r1 r2) then s.ends (s.freeFlash.flashEnd m r1 r2).settle m ST_OK [] ∧
        (s.freeFlash.flashEnd m r1 r2).settle.boot.active = s.pay m 0 1
      else s.ends (s.freeFlash.flashEnd m r1 r2).settle m ST_AUTH_FAIL [] ∧
        (s.freeFlash.flashEnd m r1 r2).settle.boot.active = s.boot.active) := by
  have hopc : s.freeFlash.opcode m = s.opcode m := rfl
  by_cases h30 : s.opcode m = 0x30
  · have hend : s.freeFlash.flashEnd m r1 r2 = (s.updBoot fun b => { b with flashBusy := none, saved := some s.savedNow }).complete m ST_OK := by
      unfold State.flashEnd
      rw [if_pos (hopc.trans h30)]
      rfl
    rw [hend]
    refine ⟨?_, fun _ => ⟨s.updBoot_complete_ends m rfl, ?_⟩, fun h40 => ?_, fun hne => absurd h30 hne⟩
    · rw [State.settle_boot, State.complete_boot]
      rfl
    · rw [State.settle_boot, State.complete_boot]
      rfl
    · rw [h30] at h40
      cases h40
  · by_cases h40 : s.opcode m = 0x40
    · have hend : s.freeFlash.flashEnd m r1 r2 = (s.freeFlash.updBoot (s.downloaded m)).complete m ST_OK := by
        unfold State.flashEnd
        rw [if_neg (fun h => h30 (hopc.symm.trans h)), if_pos (hopc.trans h40)]
        rfl
      rw [hend]
      refine ⟨?_, fun h => absurd h h30, fun _ => ⟨?_, ?_⟩, fun _ hne => absurd h40 hne⟩
      · rw [State.settle_boot, State.complete_boot]
        exact s.downloaded_flashBusy m _
      · exact State.ends_congr (u := s.freeFlash) rfl rfl (s.freeFlash.updBoot_complete_ends m (s.downloaded_running m _))
      · rw [State.settle_boot, State.complete_boot]
        exact s.downloaded_slots m _
    · have hend : s.freeFlash.flashEnd m r1 r2 = s.freeFlash.activate m (s.pay m 0 1) r1 r2 := by
        unfold State.flashEnd
        rw [if_neg (fun h => h30 (hopc.symm.trans h)), if_neg (fun h => h40 (hopc.symm.trans h))]
        rfl
      rw [hend]
      obtain ⟨hfree, hact⟩ := s.freeFlash.activate_acts m (s.pay m 0 1) r1 r2
      exact ⟨hfree, fun h => absurd h h30, fun h => absurd h h40, fun _ _ => hact⟩

/-- FLASH_OPERATION_DONE of a good execution, at once or on its repetition, is the end of the operation (R108). -/
theorem execFlashOperationDone_eq {m : Fin 16} {x : Exec} {s : State} (r1 r2 : ImageCheck) (hbusy : s.boot.flashBusy = some m)
    (hjob : (s.mbxAt m).job = some .flash) (hx : x = .clean ∨ x = .retried ∧ (s.mbxAt m).retry = false) :
    execFlashOperationDone m x r1 r2 s = fin ((s.again m x).freeFlash.flashEnd m r1 r2) := by
  have hretry : ((s.updBoot fun b => { b with flashBusy := none }).mbxAt m).retry = (s.mbxAt m).retry := rfl
  unfold execFlashOperationDone State.again
  rw [if_neg (by simp [hbusy, hjob])]
  dsimp only
  rw [hretry]
  rcases hx with rfl | ⟨rfl, hr⟩
  · rfl
  · rw [hr]
    rfl

theorem flashOperationDone_acts (m : Fin 16) (x : Exec) (r1 r2 : ImageCheck) (s : State) (hbusy : s.boot.flashBusy = some m)
    (hjob : (s.mbxAt m).job = some .flash) (hx : x = .clean ∨ x = .retried ∧ (s.mbxAt m).retry = false) :
    Yields (.flashOperationDone m x r1 r2) s fun t => t.boot.flashBusy = none ∧
      (s.opcode m = 0x30 → (s.again m x).ends t m ST_OK [] ∧ t.boot.saved = some s.savedNow) ∧
      (s.opcode m = 0x40 → (s.again m x).ends t m ST_OK [] ∧
        if s.pay m 0 1 = 0 then
          t.boot.slotA.data = Memory.setBytes s.boot.slotA.data (s.pay m 4 4) (s.payBytes m 12 (s.pay m 8 4))
        else t.boot.slotB.data = Memory.setBytes s.boot.slotB.data (s.pay m 4 4) (s.payBytes m 12 (s.pay m 8 4))) ∧
      (s.opcode m ≠ 0x30 → s.opcode m ≠ 0x40 →
        if s.checkPasses (finalCheck r1 r2) then (s.again m x).ends t m ST_OK [] ∧ t.boot.active = s.pay m 0 1
        else (s.again m x).ends t m ST_AUTH_FAIL [] ∧ t.boot.active = s.boot.active) := by
  show Ends (execFlashOperationDone m x r1 r2 s) _
  rw [execFlashOperationDone_eq r1 r2 hbusy hjob hx, ends_fin]
  have hend := (s.again m x).flashEnd_acts m r1 r2
  have hsame : (s.again m x).mem = s.mem ∧ (s.again m x).boot = s.boot ∧ (s.again m x).savedNow = s.savedNow := by
    unfold State.again
    split
    · exact ⟨rfl, rfl, rfl⟩
    · exact ⟨rfl, rfl, rfl⟩
  obtain ⟨hmem, hboot, hsaved⟩ := hsame
  generalize s.again m x = u at hend hmem hboot hsaved
  have hf (o n : Nat) : u.mf m o n = s.mf m o n := State.mf_eq hmem m o n
  have hbytes (o n : Nat) : u.payBytes m o n = s.payBytes m o n := by
    unfold State.payBytes State.mbytes State.mb
    rw [hmem]
  have hpass (r : ImageCheck) : u.checkPasses r = s.checkPasses r := by
    unfold State.checkPasses
    rw [hboot]
  simp only [State.opcode, State.pay, hf, hbytes, hboot, hsaved, hpass] at hend ⊢
  exact hend

/-! ### The statement -/

theorem doorbell_posts (w : Word) (n : Fin 16) (s : State) (hl : s.gr.linkUp = true) (hw : testBit w.toNat n = true)
    (hi : s.mst n = mIDLE ∨ s.mst n = mDONE) :
    Yields (.doorbell w) s fun t => t.mst n = mPOSTED ∧ t.mf n 16 8 = s.tick % 2 ^ 64 ∧ (t.mbxAt n).postAt = s.now ∧
      (t.mbxAt n).ord = s.nextOrd := by
  obtain ⟨hmst, htick, hbox⟩ := State.doorbell_posts hw (by simpa [State.idleAt] using hi)
  have hwork := (s.doorbell w).settle_workKept
  rw [yields_doorbell hl]
  exact ⟨(State.settle_mst ..).trans hmst, (State.mf_eq (State.settle_mem _) ..).trans htick, by rw [hwork.postAt, hbox],
    by rw [hwork.ord, hbox]⟩

theorem mailboxWrite_stores (ofs : BitVec 16) (data : List Byte) (s : State) (hl : s.gr.linkUp = true) (hd : data ≠ [])
    (hin : (ofs.toNat + data.length - 1) / 4096 = ofs.toNat / 4096)
    (hi : s.mst (ofs.toNat / 4096) = mIDLE ∨ s.mst (ofs.toNat / 4096) = mDONE) :
    Yields (.mailboxWrite ofs data) s fun t => t.mbytes 0 ofs.toNat data.length = data ∧
      ∀ n o, (4096 * n + o < ofs.toNat ∨ ofs.toNat + data.length ≤ 4096 * n + o) → t.mb n o = s.mb n o := by
  have hexec : exec (.mailboxWrite ofs data) s = fin (s.mbxWrite ofs.toNat data) := if_pos hl
  have hat : 4096 * (ofs.toNat / 4096) + ofs.toNat % 4096 = ofs.toNat := Nat.div_add_mod ..
  rw [yields_iff, hexec, ends_fin, State.mbxWrite_stores hd hin (by simpa [State.idleAt] using hi)]
  refine ⟨State.mbytes_eq fun i hlt => ?_, fun n o ho => ?_⟩
  · rw [State.settle_mb, ← State.mb_setMb_in s (ofs.toNat / 4096) (ofs.toNat % 4096) i data hlt]
    unfold State.mb
    congr 1
    omega
  · rw [State.settle_mb]
    exact State.mb_setMb_out _ _ _ _ _ _ (by omega)

/-- Settles O20: each command by the lemma about it. -/
theorem mailboxActs : Obligations.MailboxActs := by
  unfold Obligations.MailboxActs
  refine ⟨doorbell_posts, fun w s hl => ?_, mailboxWrite_stores, fencedCommandStart_acts, cmdNop_acts, cmdIdentify_acts,
    cmdFence_acts, fenceRelease_acts, fenceTimeout_acts, cmdConfigSave_acts, cmdImageDownload_acts, cmdImageActivate_acts,
    flashOperationDone_acts⟩
  rw [yields_doorbell hl, State.doorbell_eq]
  exact fun n o hout => (State.settle_mb ..).trans
    (s.rungTo_mb w le_rfl fun m hw hi => hout m hw (by simpa [State.idleAt] using hi))

end Sys2Proof.Machine
end

section
/-! PROOFS. What bounds every command of the client ports (R133, R135, R141, R148, R162), for O49. -/
set_option Elab.async false
namespace Sys2Proof.Machine

/-- Settles O49: the scope of every command bounds it. -/
theorem framePorts : Obligations.FramePorts := fun _ _ _ _ h => gives_within h

end Sys2Proof.Machine
end

section
/-! PROOFS. Counter-read commands (R160, R162), for O28. -/
set_option Elab.async false
namespace Sys2Proof.Machine

/-! ### Slots (R158, R160) -/

theorem State.slot_eq {s t : State} (hh : t.tally = s.tally) (ha : t.tacc = s.tacc) (n : Nat) : t.slot n = s.slot n := by
  unfold State.slot
  rw [hh, ha]

theorem State.slot_clearSlot_self (s : State) (n : Nat) : (s.clearSlot n).slot n = 0 := by
  simp [State.slot, State.clearSlot]

theorem State.slot_clearSlot_ne (s : State) {n k : Nat} (h : n ≠ k) : (s.clearSlot k).slot n = s.slot n := by
  simp only [State.slot, State.clearSlot, SMap.get_set_ne _ _ _ _ h]

/-- Every slot of a list reads 0 once they are all cleared. -/
theorem State.slot_clearSlots (s : State) {l : List Nat} {n : Nat} (h : n ∈ l ∨ s.slot n = 0) :
    (s.each l State.clearSlot).slot n = 0 := by
  unfold State.each
  induction l generalizing s with
  | nil => simpa using h
  | cons k l ih =>
    refine ih _ ?_
    by_cases hk : n = k
    · exact .inr (hk ▸ s.slot_clearSlot_self n)
    · exact h.imp (fun hm => (List.mem_cons.1 hm).resolve_left hk) (s.slot_clearSlot_ne hk).trans

theorem State.clearSlots_within (s : State) (l : List Nat) : Within State.clearSlot_scope s (s.each l State.clearSlot) :=
  .each (.refl _ s) fun u n hu => (u.clearSlot_within n).step hu (by decide)

/-! ### What a counter read leaves -/

/-- From `s` to `t` the command in mailbox `m` answers `cnt` slots from `base + first`, and clears them where it is asked. -/
def State.countersRead (s t : State) (m : Fin 16) (x : Exec) (base first cnt : Nat) (clear : Bool) : Prop :=
  s.succeeds t m x (s.slotsAnswer base first cnt) ∧ t.slotsCleared clear base first cnt

theorem State.slotsAnswer_length (s : State) (base first cnt : Nat) : (s.slotsAnswer base first cnt).length = 8 + 8 * cnt := by
  simp [State.slotsAnswer, leBytes_length, List.length_flatMap, Nat.mul_comm]

section
variable {s : State} {m : Fin 16} {x : Exec}

theorem State.started_pay (o n : Nat) : (s.started m x).pay m o n = s.pay m o n := State.mf_eq State.started_mem ..

theorem State.started_slotsAnswer (base first cnt : Nat) : (s.started m x).slotsAnswer base first cnt = s.slotsAnswer base first cnt := by
  have hw : Within ⟨[.gr], [R.MBX_STATE], []⟩ s (s.started m x) := State.started_within
  have htick : (s.started m x).tick = s.tick := by
    unfold State.tick
    rw [hw.part .pwr (by decide), hw.now]
  unfold State.slotsAnswer
  simp only [State.slot_eq (hw.part .tally (by decide)) (hw.part .tacc (by decide)), htick]

/-- The read of a command that runs. -/
theorem State.readSlots_acts {opc : Nat} (h : s.accepts m opc x = true) (base first : Nat) {cnt : Nat} (hcnt : cnt ≤ 256)
    (clear : Bool) : s.countersRead ((s.started m x).readSlots m base first cnt clear).settle m x base first cnt clear := by
  have hres : (s.started m x).readSlots m base first cnt clear =
      (if clear then (s.started m x).each ((List.range cnt).map (base + first + ·)) State.clearSlot else s.started m x).complete m
        ST_OK 0 (s.slotsAnswer base first cnt) := by
    rw [← State.started_slotsAnswer (m := m) (x := x)]
    unfold State.readSlots State.slotsAnswer
    dsimp only
    rw [List.flatMap_map]
  rw [hres]
  set v := if clear then (s.started m x).each ((List.range cnt).map (base + first + ·)) State.clearSlot else s.started m x with hv
  have hw : Within State.clearSlot_scope (s.started m x) v := by
    rw [hv]
    split
    · exact State.clearSlots_within ..
    · exact .refl _ _
  refine ⟨State.complete_succeeds ?_ ?_ 0 ?_, fun hc i hi => ?_⟩
  · rw [hw.part .boot (by decide), State.started_boot, State.accepts_boot h]
  · rw [State.mbxAt, hw.part .gr (by decide), ← State.mbxAt, State.started_retry]
  · rw [State.slotsAnswer_length]
    omega
  · have hend := v.complete_within m ST_OK 0 (s.slotsAnswer base first cnt)
    rw [State.slot_eq (State.settle_tally _) (State.settle_tacc _),
      State.slot_eq (hend.part .tally (by decide)) (hend.part .tacc (by decide)), hv, if_pos hc]
    exact State.slot_clearSlots _ (.inl (List.mem_map.2 ⟨i, List.mem_range.2 hi, rfl⟩))

/-! ### The modes in which they act -/

theorem State.setMst_mode (v : Nat) : (s.setMst m v).mode = s.mode := State.setMst_rd _ _ _ (by decide +kernel) _

theorem State.setMst_fwdMode (v : Nat) : (s.setMst m v).fwdMode = s.fwdMode := by
  unfold State.fwdMode
  rw [State.setMst_mode]

theorem State.setMst_tkMode (v : Nat) : (s.setMst m v).tkMode = s.tkMode := by
  unfold State.tkMode
  rw [State.setMst_mode, State.setMst_fwdMode]

theorem State.setMst_retained (v : Nat) : (s.setMst m v).bit PWR_MODE_STAT.HBM_RETAINED = s.bit PWR_MODE_STAT.HBM_RETAINED := by
  unfold State.bit
  rw [State.setMst_rd _ _ _ (by decide +kernel)]

theorem State.setMst_cntMode (v : Nat) : (s.setMst m v).cntMode = s.cntMode := by
  unfold State.cntMode
  rw [State.setMst_fwdMode, State.setMst_mode, State.setMst_retained]

/-- A counter read of the common form. -/
theorem State.countersCmd_acts {opc w objMax lim : Nat} {modeOk : State → Bool} (base : Nat → Nat) (h : s.accepts m opc x = true)
    (hlen : s.plen m = 8) (hflags : s.pay m (w + 2) 1 ≤ 1) (hzero : s.pay m (w + 3) (5 - w) = 0) (hcnt : s.pay m (w + 1) 1 ≠ 0)
    (hobj : s.pay m 0 w ≤ objMax) (hlim : s.pay m w 1 + s.pay m (w + 1) 1 ≤ lim) (hmax : lim ≤ 256)
    (hmode : modeOk (s.setMst m mRUNNING) = true) :
    Ends (fin (s.countersCmd m opc x w objMax lim modeOk base)) fun t =>
      s.countersRead t m x (base (s.pay m 0 w)) (s.pay m w 1) (s.pay m (w + 1) 1) (testBit (s.pay m (w + 2) 1) 0) := by
  unfold State.countersCmd
  rw [ends_fin, State.cmd_starts h]
  · simp only [State.started_pay]
    exact State.readSlots_acts h _ _ (by omega) _
  · rw [State.headChecks_pass h (by omega) (by simp [hlen])]
    have hf : s.pay m (w + 2) 1 / 2 = 0 := by omega
    exact firstFail_pass (by simp [hmode, hf, hzero, hcnt, not_lt.2 hobj, not_lt.2 hlim])

end

/-! ### Reads of more than one kind of object -/

theorem cmdShfCountersRead_acts (m : Fin 16) (x : Exec) (s : State) (h : s.accepts m 0x202 x = true) (hlen : s.plen m = 8)
    (hflags : s.pay m 4 1 ≤ 1) (hzero : s.pay m 5 3 = 0) (hcnt : s.pay m 3 1 ≠ 0)
    (hobj : if s.pay m 0 1 = 0 then s.pay m 1 1 ≤ 31 ∧ s.pay m 2 1 + s.pay m 3 1 ≤ 128
      else s.pay m 0 1 = 1 ∧ s.pay m 1 1 ≤ 127 ∧ s.pay m 2 1 + s.pay m 3 1 ≤ 64) (hmode : s.cntMode = true) :
    Yields (.cmdShfCountersRead m x) s fun t =>
      s.countersRead t m x (if s.pay m 0 1 = 0 then shfSlot (s.pay m 1 1) 0 else carSlot (s.pay m 1 1) 0) (s.pay m 2 1)
        (s.pay m 3 1) (testBit (s.pay m 4 1) 0) := by
  have hmax : s.pay m 3 1 ≤ 256 := by
    split at hobj <;> omega
  show Ends (execCmdShfCountersRead m x s) _
  unfold execCmdShfCountersRead
  rw [ends_fin, State.cmd_starts h]
  · simp only [State.started_pay]
    exact State.readSlots_acts h _ _ hmax _
  · dsimp only
    rw [State.headChecks_pass h (by omega) (by simp [hlen])]
    have hf : s.pay m 4 1 / 2 = 0 := by omega
    refine firstFail_pass ?_
    simp only [State.setMst_pay, chk, List.forall_mem_cons, hf, hzero, hcnt, State.setMst_cntMode, hmode]
    split at hobj
    · obtain ⟨ho, hl⟩ := hobj
      simp [*, not_lt.2 ho, not_lt.2 hl]
    · obtain ⟨hk, ho, hl⟩ := hobj
      simp [hk, not_lt.2 ho, not_lt.2 hl]

theorem cmdFwdCountersRead_acts (m : Fin 16) (x : Exec) (s : State) (h : s.accepts m 0x301 x = true) (hlen : s.plen m = 12)
    (hflags : s.pay m 1 1 ≤ 1) (hzero : s.pay m 10 2 = 0) (hcnt : s.pay m 8 2 ≠ 0) (hmax : s.pay m 8 2 ≤ 256)
    (hobj : if s.pay m 0 1 = 0 then s.pay m 2 2 ≤ 287 ∧ s.pay m 4 4 + s.pay m 8 2 ≤ 256
      else if s.pay m 0 1 = 1 then s.pay m 2 2 ≤ 287 ∧ s.pay m 4 4 + s.pay m 8 2 ≤ 32
      else s.pay m 0 1 = 2 ∧ 262144 ≤ s.pay m 4 4 ∧ s.pay m 4 4 + s.pay m 8 2 ≤ 2097152) (hmode : s.cntMode = true) :
    Yields (.cmdFwdCountersRead m x) s fun t =>
      s.countersRead t m x (if s.pay m 0 1 = 0 then queueSlot (s.pay m 2 2) 0 0
        else if s.pay m 0 1 = 1 then srcSlot (s.pay m 2 2) 0 else 0) (s.pay m 4 4) (s.pay m 8 2) (testBit (s.pay m 1 1) 0) := by
  show Ends (execCmdFwdCountersRead m x s) _
  unfold execCmdFwdCountersRead
  rw [ends_fin, State.cmd_starts h]
  · simp only [State.started_pay]
    split at hobj
    · simp only [*]
      exact State.readSlots_acts h _ _ hmax _
    · split at hobj
      · simp only [*]
        exact State.readSlots_acts h _ _ hmax _
      · obtain ⟨hk, -⟩ := hobj
        simp only [hk]
        exact State.readSlots_acts h _ _ hmax _
  · dsimp only
    rw [State.headChecks_pass h (by omega) (by simp [hlen])]
    have hf : s.pay m 1 1 / 2 = 0 := by omega
    refine firstFail_pass ?_
    simp only [State.setMst_pay, chk, List.forall_mem_cons, hf, hzero, hcnt, State.setMst_cntMode, hmode]
    split at hobj
    · obtain ⟨ho, hl⟩ := hobj
      simp [*, not_lt.2 hmax, not_lt.2 ho, not_lt.2 hl]
    · split at hobj
      · obtain ⟨ho, hl⟩ := hobj
        simp [*, not_lt.2 hmax, not_lt.2 ho, not_lt.2 hl]
      · obtain ⟨hk, ho, hl⟩ := hobj
        simp [hk, not_lt.2 hmax, not_lt.2 ho, not_lt.2 hl]

theorem cmdGrnCountersRead_acts (m : Fin 16) (x : Exec) (s : State) (h : s.accepts m 0x401 x = true) (hlen : s.plen m = 8)
    (hflags : s.pay m 5 1 ≤ 1) (hzero : s.pay m 6 2 = 0) (hcnt : s.pay m 4 1 ≠ 0)
    (hobj : if s.pay m 0 1 = 0 then s.pay m 1 2 ≤ 7 ∧ s.pay m 3 1 + s.pay m 4 1 ≤ 64
      else if s.pay m 0 1 = 1 then s.pay m 3 1 + s.pay m 4 1 ≤ 64
      else s.pay m 0 1 = 2 ∧ s.pay m 1 2 ≤ 287 ∧ s.pay m 3 1 + s.pay m 4 1 ≤ 16) (hmode : s.cntMode = true) :
    Yields (.cmdGrnCountersRead m x) s fun t =>
      s.countersRead t m x (if s.pay m 0 1 = 0 then poolSlot (s.pay m 1 2) 0
        else if s.pay m 0 1 = 1 then siloSlot 0 else grnSrcSlot (s.pay m 1 2) 0) (s.pay m 3 1) (s.pay m 4 1)
        (testBit (s.pay m 5 1) 0) := by
  have hmax : s.pay m 4 1 ≤ 256 := by
    split at hobj
    · omega
    · split at hobj <;> omega
  show Ends (execCmdGrnCountersRead m x s) _
  unfold execCmdGrnCountersRead
  rw [ends_fin, State.cmd_starts h]
  · simp only [State.started_pay]
    split at hobj
    · simp only [*]
      exact State.readSlots_acts h _ _ hmax _
    · split at hobj
      · simp only [*]
        exact State.readSlots_acts h _ _ hmax _
      · obtain ⟨hk, -⟩ := hobj
        simp only [hk]
        exact State.readSlots_acts h _ _ hmax _
  · dsimp only
    rw [State.headChecks_pass h (by omega) (by simp [hlen])]
    have hf : s.pay m 5 1 / 2 = 0 := by omega
    refine firstFail_pass ?_
    simp only [State.setMst_pay, chk, List.forall_mem_cons, hf, hzero, hcnt, State.setMst_cntMode, hmode]
    split at hobj
    · obtain ⟨ho, hl⟩ := hobj
      simp [*, not_lt.2 ho, not_lt.2 hl]
    · split at hobj
      · simp [*, not_lt.2 hobj]
      · obtain ⟨hk, ho, hl⟩ := hobj
        simp [hk, not_lt.2 ho, not_lt.2 hl]

/-! ### The statement -/

/-- Settles O28: six commands of one form, and three that name a kind of object. -/
theorem counterReads : Obligations.CounterReads := by
  unfold Obligations.CounterReads
  refine ⟨fun m x s h hlen hf hz hc ho hl hm => ?_, fun m x s h hlen hf hz hc ho hl hm => ?_, fun m x s h hlen hf hz hc ho hl hm => ?_,
    fun m x s h hlen hf hz hc ho hl hm => ?_, fun m x s h hlen hf hz hc ho hl hm => ?_, fun m x s h hlen hf hz hc hl hm => ?_,
    cmdShfCountersRead_acts, cmdFwdCountersRead_acts, cmdGrnCountersRead_acts⟩
  · exact State.countersCmd_acts _ h hlen hf hz hc ho hl (by decide) ((State.setMst_cntMode _).trans hm)
  · exact State.countersCmd_acts _ h hlen hf hz hc ho hl (by decide) ((State.setMst_fwdMode _).trans hm)
  · exact State.countersCmd_acts _ h hlen hf hz hc ho hl (by decide) ((State.setMst_cntMode _).trans hm)
  · exact State.countersCmd_acts _ h hlen hf hz hc ho hl (by decide) ((State.setMst_cntMode _).trans hm)
  · exact State.countersCmd_acts _ h hlen hf hz hc ho hl (by decide)
      (by rw [State.setMst_tkMode, State.setMst_mode, State.setMst_retained, hm])
  · exact State.countersCmd_acts (w := 0) _ h hlen hf hz hc (Nat.le_refl 0) hl (by decide) ((State.setMst_fwdMode _).trans hm)

end Sys2Proof.Machine
end

section
/-! PROOFS. What passes a client port by: its link, its frames and its counters through the work of the Granary (R138, R158,
R243-R264), for O24 and O25. -/
set_option Elab.async false
namespace Sys2Proof.Machine

/-! ### Rails, events and ports -/

theorem Within.railOk {sc : Scope} {s t : State} (h : Within sc s t) (hs : sc.spares R.PWR_RAIL_STAT = true)
    (hp : Part.pwr ∉ sc.parts) (r : Nat) : t.railOk r = s.railOk r :=
  State.railOk_eq (h.part .pwr hp) h.now (h.reg_same hs 0) r

theorem Within.raised_same {sc : Scope} {s t : State} (h : Within sc s t) {e : Ev} (hs : sc.spares e.stat = true) (i : Nat) :
    t.raised e i = s.raised e i := by
  unfold State.raised
  rw [h.reg_same hs]

@[simp] theorem State.port_updPort_self (s : State) (n : Nat) (f : Port → Port) : (s.updPort n f).port n = f (s.port n) :=
  SMap.get_upd_self ..

theorem State.port_updPort_ne (s : State) {n m : Nat} (f : Port → Port) (h : m ≠ n) : (s.updPort n f).port m = s.port m :=
  SMap.get_upd_ne _ _ h

@[simp] theorem State.rd_updPort (s : State) (n : Nat) (g : Port → Port) (f : Fld) (i : Nat) :
    (s.updPort n g).rd f i = s.rd f i := rfl

@[simp] theorem State.port_wr (s : State) (f : Fld) (i v n : Nat) : (s.wr f i v).port n = s.port n := by
  unfold State.port
  rw [State.wr_ports]

@[simp] theorem State.port_wrB (s : State) (f : Fld) (i : Nat) (b : Bool) (n : Nat) : (s.wrB f i b).port n = s.port n :=
  s.port_wr f i _ n

theorem Within.port_same {sc : Scope} {s t : State} (h : Within sc s t) (hp : Part.ports ∉ sc.parts) (n : Nat) :
    t.port n = s.port n := by
  unfold State.port
  rw [h.part .ports hp]

/-! ### The link of a port -/

/-- What a port holds of its link and of the frames on their way through it; pauses, flow control, verification, arbiter
and loopback left out. -/
def Port.link (o : Port) : Port :=
  { timer := o.timer, retry := o.retry, faults := o.faults, downAt := o.downAt, asm := o.asm, tx := o.tx,
    preempted := o.preempted, oldMax := o.oldMax }

/-- The fields of PRT_STAT that show the link. -/
def linkFlds : List Fld :=
  [PRT_STAT.LINK_STATE, PRT_STAT.SIG_ALL, PRT_STAT.FEC_LOCK, PRT_STAT.LOCAL_FAULT, PRT_STAT.REMOTE_FAULT, PRT_STAT.RETRY,
   PRT_STAT.DOWN_CAUSE]

/-- From `s` to `t` the link of every port, and what PRT_STAT shows of it, is as before. -/
structure State.LinkKept (s t : State) : Prop where
  link : ∀ n, (t.port n).link = (s.port n).link
  stat : ∀ f ∈ linkFlds, ∀ n, t.rd f n = s.rd f n

namespace State.LinkKept
variable {s t u : State}

theorem refl (s : State) : s.LinkKept s := ⟨fun _ => rfl, fun _ _ _ => rfl⟩

theorem trans (h : s.LinkKept t) (h' : t.LinkKept u) : s.LinkKept u :=
  ⟨fun n => (h'.link n).trans (h.link n), fun f hf n => (h'.stat f hf n).trans (h.stat f hf n)⟩

theorem of_within {sc : Scope} (h : Within sc s t) (hr : sc.spares R.PRT_STAT = true) (hp : Part.ports ∉ sc.parts) :
    s.LinkKept t := by
  refine ⟨fun n => by rw [h.port_same hp], fun f hf n => h.rd_same ?_ n⟩
  have hreg : f.reg = R.PRT_STAT := by
    have hall : ∀ f ∈ linkFlds, f.reg = R.PRT_STAT := by decide
    exact hall f hf
  rw [hreg, hr]

theorem foldl {α : Type} {f : State → α → State} (hf : ∀ (s : State) a, s.LinkKept (f s a)) (l : List α) (s : State) :
    s.LinkKept (l.foldl f s) := foldl_keeps (R := State.LinkKept) refl trans hf l s

theorem ite {c : Prop} [Decidable c] {a b : State} (ha : s.LinkKept a) (hb : s.LinkKept b) : s.LinkKept (if c then a else b) := by
  split
  · exact ha
  · exact hb

theorem timer (h : s.LinkKept t) (n : Nat) : (t.port n).timer = (s.port n).timer := congrArg (·.timer) (h.link n)
theorem faults (h : s.LinkKept t) (n : Nat) : (t.port n).faults = (s.port n).faults := congrArg (·.faults) (h.link n)
theorem downAt (h : s.LinkKept t) (n : Nat) : (t.port n).downAt = (s.port n).downAt := congrArg (·.downAt) (h.link n)
theorem asm (h : s.LinkKept t) (n : Nat) : (t.port n).asm = (s.port n).asm := congrArg (·.asm) (h.link n)
theorem tx (h : s.LinkKept t) (n : Nat) : (t.port n).tx = (s.port n).tx := congrArg (·.tx) (h.link n)
theorem preempted (h : s.LinkKept t) (n : Nat) : (t.port n).preempted = (s.port n).preempted := congrArg (·.preempted) (h.link n)
theorem oldMax (h : s.LinkKept t) (n : Nat) : (t.port n).oldMax = (s.port n).oldMax := congrArg (·.oldMax) (h.link n)
theorem linkState (h : s.LinkKept t) (n : Nat) : t.linkState n = s.linkState n := h.stat _ (by decide) n

end State.LinkKept

/-- A change of a port beside its link. -/
theorem State.updPort_linkKept (s : State) (p : Nat) {f : Port → Port} (hf : ∀ o, (f o).link = o.link) :
    s.LinkKept (s.updPort p f) := by
  refine ⟨fun n => ?_, fun _ _ _ => rfl⟩
  by_cases h : n = p
  · rw [h, State.port_updPort_self, hf]
  · rw [s.port_updPort_ne f h]

/-- A write of another field of PRT_STAT. -/
theorem State.wr_linkKept (s : State) {f : Fld} (hf : f.fits = true) (hr : f.reg = R.PRT_STAT)
    (hd : linkFlds.all (fun g => f.disjoint g && g.reg = R.PRT_STAT) = true) (p v : Nat) : s.LinkKept (s.wr f p v) := by
  refine ⟨fun n => by rw [State.port_wr], fun g hg n => ?_⟩
  have hone := List.all_eq_true.1 hd g hg
  rw [Bool.and_eq_true, decide_eq_true_eq] at hone
  obtain ⟨hdisj, hreg⟩ := hone
  exact State.rd_wr_disj s hf hdisj (hr.trans hreg.symm) (hr ▸ by decide) p n v

/-! ### The counters of client ports -/

/-- From `s` to `t` no counter of a client port counts. -/
structure State.SlotsKept (s t : State) : Prop where
  slot : ∀ n < 32768, t.slot n = s.slot n

namespace State.SlotsKept
variable {s t u : State}

theorem refl (s : State) : s.SlotsKept s := ⟨fun _ _ => rfl⟩

theorem trans (h : s.SlotsKept t) (h' : t.SlotsKept u) : s.SlotsKept u := ⟨fun n hn => (h'.slot n hn).trans (h.slot n hn)⟩

theorem of_eq (hh : t.tally = s.tally) (ha : t.tacc = s.tacc) : s.SlotsKept t := ⟨fun n _ => State.slot_eq hh ha n⟩

theorem of_within {sc : Scope} (h : Within sc s t) (hh : Part.tally ∉ sc.parts) (ha : Part.tacc ∉ sc.parts) : s.SlotsKept t :=
  of_eq (h.part .tally hh) (h.part .tacc ha)

theorem foldl {α : Type} {f : State → α → State} (hf : ∀ (s : State) a, s.SlotsKept (f s a)) (l : List α) (s : State) :
    s.SlotsKept (l.foldl f s) := foldl_keeps (R := State.SlotsKept) refl trans hf l s

theorem ite {c : Prop} [Decidable c] {a b : State} (ha : s.SlotsKept a) (hb : s.SlotsKept b) :
    s.SlotsKept (if c then a else b) := by
  split
  · exact ha
  · exact hb

end State.SlotsKept

theorem State.slot_lt (s : State) (n : Nat) : s.slot n < 2 ^ 48 := Nat.mod_lt _ (Nat.two_pow_pos _)

/-- What half-range events leave of the slots (R159). -/
theorem State.raiseObj_slot (s : State) (e : Ev) (i o n : Nat) : (s.raiseObj e i o).slot n = s.slot n :=
  State.slot_eq ((s.raiseObj_within e i o).part .tally (by simp)) ((s.raiseObj_within e i o).part .tacc (by simp)) n

/-- The slot counts, while the Tally has power (R158). -/
theorem State.slot_count_self (s : State) (h1 : s.railOk 1 = true) (n k : Nat) : (s.count n k).slot n = (s.slot n + k) % 2 ^ 48 := by
  unfold State.count
  by_cases hk : k = 0
  · rw [hk, if_pos (by simp), Nat.add_zero, Nat.mod_eq_of_lt (s.slot_lt n)]
  · rw [if_neg (by simp [hk, h1])]
    extract_lets old u
    have hu : u.slot n = (s.slot n + k) % 2 ^ 48 := by
      simp only [State.slot, u, SMap.get_set_self, Nat.mod_add_mod, Nat.add_assoc]
    split
    · rw [State.raiseObj_slot, hu]
    · exact hu

theorem State.slot_count_ne (s : State) {n m : Nat} (h : n ≠ m) (k : Nat) : (s.count m k).slot n = s.slot n := by
  unfold State.count
  split
  · rfl
  · extract_lets old u
    have hu : u.slot n = s.slot n := by
      simp only [State.slot, u, SMap.get_set_ne _ _ _ _ h]
    split
    · rw [State.raiseObj_slot, hu]
    · exact hu

/-- Slots behind those of the client ports (R513). -/
theorem State.count_slotsKept (s : State) {n : Nat} (h : 32768 ≤ n) (k : Nat) : s.SlotsKept (s.count n k) :=
  ⟨fun m hm => s.slot_count_ne (by omega) k⟩

theorem State.count_linkKept (s : State) (n k : Nat) : s.LinkKept (s.count n k) :=
  .of_within (s.count_within n k) (by decide +kernel) (by decide)

/-! ### Grants and frees of buffers (R243-R246, R263) -/

theorem State.take_slotsKept (s : State) (p b : Nat) (t : Tag) (x : Nat) : s.SlotsKept (s.take p b t x) := by
  unfold State.take
  refine .trans (.of_eq ?_ ?_) (State.count_slotsKept _ (by unfold poolSlot; omega) _) <;>
    simp [State.setTag, State.updPool]

theorem State.emptyResult_slotsKept (s : State) (p : Nat) : s.SlotsKept (s.emptyResult p) :=
  (s.count_slotsKept (by unfold poolSlot; omega) 1).trans (.of_within (State.raise_within ..) (by simp) (by simp))

theorem State.countLost_slotsKept (s : State) (p x : Nat) : s.SlotsKept (s.countLost p x) :=
  .ite (s.count_slotsKept (by unfold poolSlot; omega) 1) (.refl s)

theorem State.request_slotsKept (s : State) (p : Nat) (t : Tag) : s.SlotsKept (s.request p t).2 := by
  unfold State.request
  split
  · exact s.take_slotsKept ..
  · rename_i x _
    extract_lets u
    have hlost : s.SlotsKept u := .ite (s.countLost_slotsKept ..) (.refl s)
    clear_value u
    refine hlost.trans ?_
    split
    · exact u.emptyResult_slotsKept p
    · rename_i q _
      extract_lets v
      have hfall : u.SlotsKept v :=
        (u.count_slotsKept (by unfold poolSlot; omega) 1).trans (State.count_slotsKept _ (by unfold poolSlot; omega) 1)
      clear_value v
      refine hfall.trans ?_
      split
      · exact v.take_slotsKept ..
      · exact (v.countLost_slotsKept ..).trans (State.emptyResult_slotsKept ..)

theorem State.giveBack_slotsKept (s : State) (p b k : Nat) : s.SlotsKept (s.giveBack p b k) :=
  .of_within (s.giveBack_within p b k) (by decide) (by decide)

theorem State.freeBuf_slotsKept (s : State) (party : Tag) (b : Nat × Nat) : s.SlotsKept (s.freeBuf party b) := by
  have hbad (n : Nat) (hn : 32768 ≤ n) (e : Ev) (i : Nat) : s.SlotsKept ((s.count n).raise e i) :=
    (s.count_slotsKept hn 1).trans (.of_within (State.raise_within ..) (by simp) (by simp))
  have hset (t : Tag) : s.SlotsKept (s.setTag b.1 b.2 t) := .of_eq rfl rfl
  unfold State.freeBuf
  extract_lets t
  refine .ite (hbad _ (by unfold poolSlot; omega) _ _) (.ite (.ite (s.giveBack_slotsKept ..) (hset _)) ?_)
  exact .ite (s.giveBack_slotsKept ..) (hbad _ (by unfold poolSlot; omega) _ _)

theorem State.freeBufs_slotsKept (s : State) (party : Tag) (l : List (Nat × Nat)) :
    s.SlotsKept (s.each l fun s b => s.freeBuf party b) := .foldl (fun u b => u.freeBuf_slotsKept party b) l s

theorem State.freeBufs_linkKept (s : State) (party : Tag) (l : List (Nat × Nat)) :
    s.LinkKept (s.each l fun s b => s.freeBuf party b) :=
  .foldl (fun u b => .of_within (u.freeBuf_within party b) (by decide +kernel) (by decide)) l s

/-! ### Ingress accounts (R247-R249) -/

/-- XOFF changes what a port signals, and nothing of its link. -/
theorem State.setXoff_linkKept (s : State) (p c : Nat) (on : Bool) : s.LinkKept (s.setXoff p c on) := by
  unfold State.setXoff
  exact .ite (.refl s) (.trans (.ite (s.count_linkKept ..) (.refl s)) (State.updPort_linkKept _ p fun _ => rfl))

theorem State.setXoff_slotsKept (s : State) (p c : Nat) (on : Bool) : s.SlotsKept (s.setXoff p c on) := by
  unfold State.setXoff
  exact .ite (.refl s) (.trans (.ite (s.count_slotsKept (by unfold grnSrcSlot; omega) 1) (.refl s)) (.of_eq rfl rfl))

theorem State.judgeIn_linkKept (s : State) (src c : Nat) : s.LinkKept (s.judgeIn src c) :=
  .ite (.refl s) (.ite (s.setXoff_linkKept ..) (.ite (s.setXoff_linkKept ..) (.ite (s.setXoff_linkKept ..) (.refl s))))

theorem State.judgeIn_slotsKept (s : State) (src c : Nat) : s.SlotsKept (s.judgeIn src c) :=
  .ite (.refl s) (.ite (s.setXoff_slotsKept ..) (.ite (s.setXoff_slotsKept ..) (.ite (s.setXoff_slotsKept ..) (.refl s))))

theorem State.updGrn_linkKept (s : State) (f : Grn → Grn) : s.LinkKept (s.updGrn f) := ⟨fun _ => rfl, fun _ _ _ => rfl⟩
theorem State.updFwd_linkKept (s : State) (f : Fwd → Fwd) : s.LinkKept (s.updFwd f) := ⟨fun _ => rfl, fun _ _ _ => rfl⟩

theorem State.updGrn_slotsKept (s : State) (f : Grn → Grn) : s.SlotsKept (s.updGrn f) := .of_eq rfl rfl
theorem State.updFwd_slotsKept (s : State) (f : Fwd → Fwd) : s.SlotsKept (s.updFwd f) := .of_eq rfl rfl

theorem State.addIn_linkKept (s : State) (src c n : Nat) : s.LinkKept (s.addIn src c n) :=
  (s.updGrn_linkKept _).trans (State.judgeIn_linkKept ..)

theorem State.addIn_slotsKept (s : State) (src c n : Nat) : s.SlotsKept (s.addIn src c n) :=
  (s.updGrn_slotsKept _).trans (State.judgeIn_slotsKept ..)

theorem State.subIn_linkKept (s : State) (src c n : Nat) : s.LinkKept (s.subIn src c n) :=
  (s.updGrn_linkKept _).trans (State.judgeIn_linkKept ..)

theorem State.subIn_slotsKept (s : State) (src c n : Nat) : s.SlotsKept (s.subIn src c n) :=
  (s.updGrn_slotsKept _).trans (State.judgeIn_slotsKept ..)

/-! ### Frames that leave (R230, R236, R262) -/

theorem State.freeFrame_linkKept (s : State) (party : Tag) (f : Frame) : s.LinkKept (s.freeFrame party f) :=
  (s.freeBufs_linkKept party f.bufs).trans (State.subIn_linkKept ..)

theorem State.freeFrame_slotsKept (s : State) (party : Tag) (f : Frame) : s.SlotsKept (s.freeFrame party f) :=
  (s.freeBufs_slotsKept party f.bufs).trans (State.subIn_slotsKept ..)

theorem State.letGo_linkKept (s : State) (party : Tag) (f : Frame) : s.LinkKept (s.letGo party f) :=
  .ite ((s.freeBufs_linkKept party f.bufs).trans (State.updFwd_linkKept ..))
    ((s.updFwd_linkKept _).trans (State.freeFrame_linkKept ..))

theorem State.letGo_slotsKept (s : State) (party : Tag) (f : Frame) : s.SlotsKept (s.letGo party f) :=
  .ite ((s.freeBufs_slotsKept party f.bufs).trans (State.updFwd_slotsKept ..))
    ((s.updFwd_slotsKept _).trans (State.freeFrame_slotsKept ..))

theorem State.dequeued_linkKept (s : State) (n : Nat) (f : Frame) : s.LinkKept (s.dequeued n f) :=
  ((s.count_linkKept ..).trans (State.count_linkKept ..)).trans (State.letGo_linkKept ..)

theorem State.dequeued_slotsKept (s : State) (n : Nat) (f : Frame) : s.SlotsKept (s.dequeued n f) :=
  have hq (i : Nat) : 32768 ≤ queueSlot (n / 16) (n % 16) i := by unfold queueSlot; omega
  ((s.count_slotsKept (hq 2) _).trans (State.count_slotsKept _ (hq 3) _)).trans (State.letGo_slotsKept ..)

theorem State.discardEnt_linkKept (s : State) (n : Nat) (e : QEnt) : s.LinkKept (s.discardEnt n e) :=
  .ite (s.letGo_linkKept ..) (.refl s)

/-- A purge of a queue touches no link. -/
theorem State.purge_linkKept (s : State) (n i : Nat) (pick : QEnt → Bool) : s.LinkKept (s.purge n i pick) := by
  unfold State.purge
  refine .ite (.refl s) ?_
  have hout (u : State) (l : List QEnt) : u.LinkKept (u.each l fun s e => s.discardEnt n e) :=
    .foldl (fun v e => v.discardEnt_linkKept n e) l u
  have hrel (u : State) (k : Nat) : u.LinkKept (u.releasing k) := u.updGrn_linkKept _
  exact (((((hrel ..).trans (hout ..)).trans (hrel ..)).trans (State.updFwd_linkKept ..)).trans (State.count_linkKept ..)).trans
    (.of_within (State.dropSegs_within ..) (by decide +kernel) (by decide))

theorem State.purges_linkKept (s : State) (l : List Nat) (i : Nat) : s.LinkKept (s.each l fun s n => s.purge n i fun _ => true) :=
  .foldl (fun u n => u.purge_linkKept n i _) l s

theorem State.raise_linkKept (s : State) {e : Ev} (i : Nat) (h : Scope.spares ⟨[.evt], [e.stat], []⟩ R.PRT_STAT = true) :
    s.LinkKept (s.raise e i) := .of_within (s.raise_within e i) h (by simp)

theorem State.enterDrop_linkKept (s : State) (e : Nat) : s.LinkKept (s.enterDrop e) := by
  have hhold (u : State) (v : Nat) : u.LinkKept (u.wr FWD_EGR_STAT.HOLD_STATE e v) :=
    .of_within (u.wr_within ..) (by decide +kernel) (by decide)
  unfold State.enterDrop
  dsimp only
  refine .trans ?_ (.ite (State.raise_linkKept _ e (by decide +kernel)) (.refl _))
  refine .trans ?_ (State.updFwd_linkKept ..)
  refine .trans ?_ (hhold ..)
  exact (s.purges_linkKept ..).trans (.ite (State.purges_linkKept ..) (.refl _))

/-- The down event of an egress touches no link (R234). -/
theorem State.egressDown_linkKept (s : State) (e : Nat) : s.LinkKept (s.egressDown e) := by
  have hhold (u : State) (v : Nat) : u.LinkKept (u.wr FWD_EGR_STAT.HOLD_STATE e v) :=
    .of_within (u.wr_within ..) (by decide +kernel) (by decide)
  unfold State.egressDown
  refine .ite (.refl s) ?_
  refine .trans (t := if s.hasBucket e then s.raise EV.FWD_FAILOVER e else s) (.ite (s.raise_linkKept e (by decide +kernel)) (.refl s)) ?_
  generalize (if s.hasBucket e then s.raise EV.FWD_FAILOVER e else s) = u
  refine .trans (t := if e < 256 then u.each (oddQueues e) fun s n => s.purge n 10 (fun _ => true) else u)
    (.ite (u.purges_linkKept ..) (.refl u)) ?_
  exact .ite (State.enterDrop_linkKept ..) ((hhold ..).trans (State.updFwd_linkKept ..))

end Sys2Proof.Machine
end

section
/-! PROOFS. What the MAC, bring-up and loss of a client port do to its link (R135-R139, R149-R152), for O24 and O25. -/
set_option Elab.async false
namespace Sys2Proof.Machine

/-! ### One change of two ports whose links agree -/

theorem State.LinkKept.bit {s t : State} (h : s.LinkKept t) {f : Fld} (hf : f ∈ linkFlds) (n : Nat) : t.bit f n = s.bit f n := by
  unfold State.bit
  rw [h.stat f hf]

theorem State.LinkKept.updPort {s t : State} (h : s.LinkKept t) (p : Nat) {f g : Port → Port}
    (hf : ∀ o o' : Port, o'.link = o.link → (g o').link = (f o).link) : (s.updPort p f).LinkKept (t.updPort p g) := by
  refine ⟨fun n => ?_, h.stat⟩
  by_cases hn : n = p
  · rw [hn, State.port_updPort_self, State.port_updPort_self]
    exact hf _ _ (h.link p)
  · rw [s.port_updPort_ne f hn, t.port_updPort_ne g hn, h.link]

/-- A change beside the link, with what follows it. -/
theorem State.LinkKept.after_updPort {s t : State} {p : Nat} {f : Port → Port} (h : (s.updPort p f).LinkKept t)
    (hf : ∀ o, (f o).link = o.link) : s.LinkKept t := (s.updPort_linkKept p hf).trans h

theorem State.LinkKept.wr {s t : State} (h : s.LinkKept t) {f : Fld} (hf : f.fits = true) (hr : f.reg = R.PRT_STAT)
    (hd : linkFlds.all (fun g => g = f || f.disjoint g) = true) (p : Fin 256) (v : Nat) : (s.wr f p v).LinkKept (t.wr f p v) := by
  refine ⟨fun n => by rw [State.port_wr, State.port_wr, h.link], fun g hg n => ?_⟩
  have hreg : g.reg = R.PRT_STAT := by
    have hall : ∀ g ∈ linkFlds, g.reg = R.PRT_STAT := by decide
    exact hall g hg
  have hone := List.all_eq_true.1 hd g hg
  rw [Bool.or_eq_true, decide_eq_true_eq] at hone
  by_cases hn : n = p
  · rcases hone with rfl | hdis
    · have hp : p.val < g.reg.count := by
        rw [hr]
        exact p.isLt
      rw [hn, State.rd_wr_self _ hf hp, State.rd_wr_self _ hf hp]
    · rw [State.rd_wr_disj _ hf hdis (hr.trans hreg.symm) (hr ▸ by decide),
        State.rd_wr_disj _ hf hdis (hr.trans hreg.symm) (hr ▸ by decide), h.stat g hg]
  · rw [State.rd_wr_inst _ (hr.trans hreg.symm) (hr ▸ by decide) hn, State.rd_wr_inst _ (hr.trans hreg.symm) (hr ▸ by decide) hn,
      h.stat g hg]

/-- A field of PRT_STAT after a write of it, and of another one. -/
theorem State.stat_wr_self (s : State) {f : Fld} (hf : f.fits = true) (hr : f.reg = R.PRT_STAT) (p : Fin 256) (v : Nat) :
    (s.wr f p v).rd f p = v % 2 ^ f.w := State.rd_wr_self s hf (hr ▸ p.isLt) v

theorem State.stat_wr_other (s : State) {f g : Fld} (hf : f.fits = true) (hr : f.reg = R.PRT_STAT ∧ g.reg = R.PRT_STAT)
    (hd : f.disjoint g = true) (p n v : Nat) : (s.wr f p v).rd g n = s.rd g n :=
  State.rd_wr_disj s hf hd (hr.1.trans hr.2.symm) (hr.1 ▸ by decide) p n v

theorem State.rd_wrB_ne (s : State) {f g : Fld} (h : Scope.spares ⟨[], [f.reg], []⟩ g.reg = true) (i j : Nat) (b : Bool) :
    (s.wrB f i b).rd g j = s.rd g j := s.rd_wr_ne h i j _

/-! ### Sending, pause and verification -/

theorem State.emit_linkKept (s : State) (o : Out) : s.LinkKept (s.emit o) :=
  .of_within (s.emit_within o) (by decide +kernel) (by decide)

theorem State.macSend_linkKept (s : State) (p : Nat) (o : Out) (k : RxKind) (bs : List Byte) : s.LinkKept (s.macSend p o k bs) := by
  unfold State.macSend
  split
  · exact (State.emit_linkKept ..).after_updPort fun _ => rfl
  · exact .refl s
  · exact s.emit_linkKept o

theorem State.wrPreempt_linkKept (s : State) (p v : Nat) : s.LinkKept (s.wr PRT_STAT.PREEMPT_ACTIVE p v) :=
  s.wr_linkKept (by decide) rfl (by decide) p v

theorem State.wrTxXoff_linkKept (s : State) (p v : Nat) : s.LinkKept (s.wr PRT_STAT.TX_XOFF p v) :=
  s.wr_linkKept (by decide) rfl (by decide) p v

theorem State.notePaused_linkKept (s : State) (p : Nat) : s.LinkKept (s.notePaused p) :=
  s.wr_linkKept (f := PRT_STAT.RX_PAUSED) (by decide) rfl (by decide) p _

theorem State.startVerify_linkKept (s : State) (p : Nat) : s.LinkKept (s.startVerify p) :=
  .ite ((s.wrPreempt_linkKept p 0).trans (State.updPort_linkKept _ p fun _ => rfl))
    (.ite (.refl s) (.ite ((s.wrPreempt_linkKept p 1).trans (State.updPort_linkKept _ p fun _ => rfl))
      (.ite (.refl s) ((State.macSend_linkKept ..).after_updPort fun _ => rfl))))

theorem State.frameEdge_linkKept (s : State) (p : Nat) : s.LinkKept (s.frameEdge p) :=
  .ite ((State.startVerify_linkKept ..).after_updPort fun _ => rfl) (.refl s)

theorem State.countFrame_linkKept (s : State) (p base sizes : Nat) (bs : List Byte) : s.LinkKept (s.countFrame p base sizes bs) :=
  .of_within (s.countFrame_within ..) (by decide +kernel) (by decide)

theorem State.sendPfc_linkKept (s : State) (p : Nat) : s.LinkKept (s.sendPfc p) := by
  unfold State.sendPfc
  extract_lets mask was left en q mode u v f w g
  have hv : s.LinkKept v := State.LinkKept.after_updPort (State.wrTxXoff_linkKept ..) fun _ => rfl
  have hw : v.LinkKept w := .foldl (fun x c => .ite (x.count_linkKept ..) (.refl x)) _ v
  refine hv.trans (.ite (.refl v) (.ite ?_ ?_))
  · exact (hw.trans (State.countFrame_linkKept ..)).trans (State.macSend_linkKept ..)
  · exact ((v.count_linkKept ..).trans (State.countFrame_linkKept ..)).trans (State.macSend_linkKept ..)

theorem State.setPause_linkKept (s : State) (p c quanta : Nat) : s.LinkKept (s.setPause p c quanta) := by
  refine s.updPort_linkKept p fun o => ?_
  split <;> rfl

/-! ### Frames received and cut -/

theorem State.dropAsm_linkKept (s : State) (p : Nat) (a : Assembly) : s.LinkKept (s.dropAsm p a) := by
  unfold State.dropAsm
  extract_lets u
  have hu : s.LinkKept u := s.freeBufs_linkKept ..
  split
  · exact hu.trans (State.subIn_linkKept ..)
  · exact hu

theorem State.endAsm_linkKept (s : State) (p : Nat) (a : Assembly) (i : Nat) : s.LinkKept (s.endAsm p a i) :=
  (s.dropAsm_linkKept p a).trans (State.count_linkKept ..)

theorem State.rxControl_linkKept (s : State) (p : Nat) (bs : List Byte) : s.LinkKept (s.rxControl p bs) := by
  unfold State.rxControl
  extract_lets op mode
  have hset (x : State) (l : List Nat) : x.LinkKept (l.foldl (fun s c => s.setPause p c (be16 bs 16)) x) :=
    .foldl (fun y c => y.setPause_linkKept ..) l x
  have hpfc (x : State) (l : List Nat) : x.LinkKept (l.foldl (fun s c =>
      if testBit (be16 bs 16) c && testBit (s.com PRT_PFC_CFG.RX_EN p) c then
        (s.setPause p c (be16 bs (18 + 2 * c))).count (prtSlot p (6 + c))
      else s) x) :=
    .foldl (fun y c => .ite ((y.setPause_linkKept ..).trans (State.count_linkKept ..)) (.refl y)) l x
  exact .ite (s.count_linkKept ..) (.ite (((hset ..).trans (State.notePaused_linkKept ..)).trans (State.count_linkKept ..))
    (.ite ((hpfc ..).trans (State.notePaused_linkKept ..)) (s.count_linkKept ..)))

theorem State.admitRx_linkKept (s : State) (p c : Nat) (bs : List Byte) (i : Inst) (got : List (Nat × Nat)) :
    s.LinkKept (s.admitRx p c bs i got) := .of_within (s.admitRx_within ..) (by decide +kernel) (by decide)

/-- The end of a received frame touches no link. -/
theorem State.rxEnd_linkKept (s : State) (p : Nat) (a : Assembly) (cut : Bool) : s.LinkKept (s.rxEnd p a cut) := by
  unfold State.rxEnd
  extract_lets l u
  have hend (i : Nat) : u.LinkKept (u.endAsm p a i) := u.endAsm_linkKept p a i
  refine (s.count_linkKept ..).trans (.ite (.refl u) (.ite (hend _) (.ite (hend _) (.ite (hend _) (.ite (hend _) (.ite (hend _) ?_))))))
  exact .ite ((u.dropAsm_linkKept p a).trans (State.rxControl_linkKept ..)) (.ite (hend _) (u.admitRx_linkKept ..))

/-- A receiver that is cut holds no reassembly (R138). -/
theorem State.cutRx_linkKept (s : State) (p : Nat) : (s.updPort p fun o => { o with asm := none }).LinkKept (s.cutRx p) := by
  unfold State.cutRx
  split
  · exact State.rxEnd_linkKept ..
  · rename_i hnone
    refine ⟨fun n => ?_, fun _ _ _ => rfl⟩
    by_cases hn : n = p
    · rw [hn, State.port_updPort_self]
      unfold Port.link
      rw [hnone]
    · rw [s.port_updPort_ne _ hn]

theorem State.cutOne_linkKept (s : State) (p : Nat) (t : Tx) (whole : Nat) : s.LinkKept (s.cutOne p t whole) := by
  unfold State.cutOne
  extract_lets u v
  have hu : s.LinkKept u := .trans (.foldl (fun x n => x.count_linkKept n 1) _ s) (State.count_linkKept ..)
  have hv : u.LinkKept v := .ite (.refl u) (u.count_linkKept ..)
  exact ((hu.trans hv).trans (.of_within (v.txReport_within ..) (by decide +kernel) (by decide))).trans (State.dequeued_linkKept ..)

/-- A transmitter that is cut has no frame on the line and none interrupted (R138). -/
theorem State.cutTx_linkKept (s : State) (p : Nat) :
    (s.updPort p fun o => { o with tx := none, preempted := none }).LinkKept (s.cutTx p) := by
  unfold State.cutTx
  extract_lets o u v
  have hv : u.LinkKept v := by
    unfold v
    split
    · exact u.cutOne_linkKept ..
    · exact .refl u
  refine hv.trans ?_
  split
  · exact (v.emit_linkKept _).trans (State.cutOne_linkKept ..)
  · exact .refl v

/-! ### Up -/

/-- What the link shows when the port reaches UP. -/
def State.upLink (s : State) (p : Nat) : State :=
  ((s.setLink p lsUP).wr PRT_STAT.RETRY p 0).updPort p fun o => { o with timer := none, retry := false, faults := 0 }

theorem State.goUp_linkKept (s : State) (p : Nat) : (s.upLink p).LinkKept (s.goUp p) := by
  unfold State.goUp
  extract_lets u v w
  have hv : u.LinkKept v :=
    (u.raise_linkKept p (by decide +kernel)).trans (.of_within (State.egressUp_within ..) (by decide +kernel) (by decide))
  refine (hv.trans (v.startVerify_linkKept p)).trans (.ite (.refl w) (.ite (w.sendPfc_linkKept p) (w.updPort_linkKept p fun _ => rfl)))

theorem State.goUp_raised (s : State) (p : Fin 256) (h6 : s.railOk 6 = true) : (s.goUp p).raised EV.PRT_LINK_UP p = true := by
  unfold State.goUp
  extract_lets u v w
  have hu : Within ⟨[.ports], [R.PRT_STAT], []⟩ s u :=
    (State.updPort_within ..).step ((State.wr_within ..).step ((s.wr_within ..).step (.refl _ _) (by decide +kernel))
      (by decide +kernel)) (by decide +kernel)
  have hr : (u.raise EV.PRT_LINK_UP p).raised EV.PRT_LINK_UP p = true :=
    State.raise_raised u _ p (by rw [← h6]; exact hu.railOk (by decide +kernel) (by decide) 6) (by decide) p.isLt
  have hw : w.raised EV.PRT_LINK_UP p = true := by
    rw [(State.startVerify_within ..).raised_same (by decide +kernel), (State.egressUp_within ..).raised_same (by decide +kernel), hr]
  split
  · exact hw
  · split
    · rw [(w.sendPfc_within p).raised_same (by decide +kernel), hw]
    · exact hw

/-- The state of a port that is up, and the bits that its rise keeps. -/
theorem State.upLink_linkState (s : State) (p : Fin 256) : (s.upLink p).linkState p = lsUP := by
  unfold State.upLink State.linkState State.setLink
  rw [State.rd_updPort, State.stat_wr_other _ (by decide) (by decide) (by decide), State.stat_wr_self s (by decide) (by decide)]
  decide

theorem State.goUp_linkState (s : State) (p : Fin 256) : (s.goUp p).linkState p = lsUP :=
  ((s.goUp_linkKept p).linkState p).trans (s.upLink_linkState p)

theorem State.goUp_rd (s : State) (p : Nat) {f : Fld} (hf : f ∈ [PRT_STAT.FEC_LOCK, PRT_STAT.LOCAL_FAULT, PRT_STAT.REMOTE_FAULT])
    (n : Nat) : (s.goUp p).rd f n = s.rd f n := by
  have hall : ∀ f ∈ [PRT_STAT.FEC_LOCK, PRT_STAT.LOCAL_FAULT, PRT_STAT.REMOTE_FAULT], f ∈ linkFlds ∧ f.reg = R.PRT_STAT ∧
    PRT_STAT.LINK_STATE.disjoint f = true ∧ PRT_STAT.RETRY.disjoint f = true := by decide
  obtain ⟨hmem, hreg, hls, hretry⟩ := hall f hf
  rw [(s.goUp_linkKept p).stat f hmem]
  unfold State.upLink State.setLink
  rw [State.rd_updPort, State.stat_wr_other _ (by decide) ⟨rfl, hreg⟩ hretry, State.stat_wr_other _ (by decide) ⟨rfl, hreg⟩ hls]

theorem State.goUp_faults (s : State) (p : Nat) : ((s.goUp p).port p).faults = 0 := by
  rw [(s.goUp_linkKept p).faults]
  unfold State.upLink
  rw [State.port_updPort_self]

theorem State.goUp_timer (s : State) (p : Nat) : ((s.goUp p).port p).timer = none := by
  rw [(s.goUp_linkKept p).timer]
  unfold State.upLink
  rw [State.port_updPort_self]

end Sys2Proof.Machine
end

section
/-! PROOFS. Bring-up, faults and loss of a client port (R135-R139), for O24. -/
set_option Elab.async false
namespace Sys2Proof.Machine

/-! ### The bits that a step of bring-up keeps -/

/-- The fields of PRT_STAT that the remote end and the receiver's faults set. -/
def faultFlds : List Fld := [PRT_STAT.LOCAL_FAULT, PRT_STAT.REMOTE_FAULT]

theorem faultFlds_link {f : Fld} (hf : f ∈ faultFlds) : f ∈ linkFlds := by
  have hall : ∀ f ∈ faultFlds, f ∈ linkFlds := by decide
  exact hall f hf

/-! ### Back to WAIT_SIGNAL, to ALIGN, and up -/

theorem State.toWait_port (s : State) (p : Nat) : (s.toWait p).port p = { s.port p with timer := none, retry := false } := by
  unfold State.toWait State.setLink
  simp only [State.port_wr, State.port_updPort_self]

theorem State.toWait_rd (s : State) (p : Fin 256) {f : Fld}
    (hf : f ∈ [PRT_STAT.LOCAL_FAULT, PRT_STAT.REMOTE_FAULT, PRT_STAT.DOWN_CAUSE]) : (s.toWait p).rd f p = s.rd f p := by
  have hall : ∀ f ∈ [PRT_STAT.LOCAL_FAULT, PRT_STAT.REMOTE_FAULT, PRT_STAT.DOWN_CAUSE], f.reg = R.PRT_STAT ∧
    ∀ g ∈ [PRT_STAT.LINK_STATE, PRT_STAT.RETRY, PRT_STAT.SIG_ALL, PRT_STAT.FEC_LOCK], g.disjoint f = true := by decide
  obtain ⟨hreg, hdis⟩ := hall f hf
  unfold State.toWait State.setLink
  rw [State.stat_wr_other _ (by decide) ⟨rfl, hreg⟩ (hdis _ (by decide)), State.stat_wr_other _ (by decide) ⟨rfl, hreg⟩ (hdis _ (by decide)),
    State.stat_wr_other _ (by decide) ⟨rfl, hreg⟩ (hdis _ (by decide)), State.rd_updPort,
    State.stat_wr_other _ (by decide) ⟨rfl, hreg⟩ (hdis _ (by decide))]

theorem State.toAlign_port (s : State) (p : Nat) (b : Bool) :
    (s.toAlign p b).port p = { s.port p with timer := if b then none else some (s.now + 2 * msT) } := by
  unfold State.toAlign State.portTimer State.setLink
  rw [State.port_updPort_self, State.port_wrB, State.port_wr]

theorem State.toAlign_linkState (s : State) (p : Fin 256) (b : Bool) : (s.toAlign p b).linkState p = lsALIGN := by
  unfold State.toAlign State.portTimer State.setLink State.linkState State.wrB
  rw [State.rd_updPort, State.stat_wr_other _ (by decide) (by decide) (by decide), State.stat_wr_self s (by decide) (by decide)]
  decide

theorem State.toAlign_fecLock (s : State) (p : Fin 256) (b : Bool) : (s.toAlign p b).bit PRT_STAT.FEC_LOCK p = b := by
  unfold State.toAlign State.portTimer State.wrB State.bit
  rw [State.rd_updPort, State.stat_wr_self _ (by decide) (by decide)]
  cases b <;> rfl

theorem State.toAlign_rd (s : State) (p : Fin 256) (b : Bool) {f : Fld}
    (hf : f ∈ [PRT_STAT.LOCAL_FAULT, PRT_STAT.REMOTE_FAULT, PRT_STAT.DOWN_CAUSE]) : (s.toAlign p b).rd f p = s.rd f p := by
  have hall : ∀ f ∈ [PRT_STAT.LOCAL_FAULT, PRT_STAT.REMOTE_FAULT, PRT_STAT.DOWN_CAUSE], f.reg = R.PRT_STAT ∧
    PRT_STAT.LINK_STATE.disjoint f = true ∧ PRT_STAT.FEC_LOCK.disjoint f = true := by decide
  obtain ⟨hreg, hls, hfec⟩ := hall f hf
  unfold State.toAlign State.portTimer State.setLink State.wrB
  rw [State.rd_updPort, State.stat_wr_other _ (by decide) ⟨rfl, hreg⟩ hfec, State.stat_wr_other _ (by decide) ⟨rfl, hreg⟩ hls]

/-- The clearing of RETRY, with its transient fault. -/
def State.endRetry (s : State) (p : Nat) : State :=
  if s.bit PRT_STAT.RETRY p then ((s.wr PRT_STAT.RETRY p 0).raise EV.PRT_TRAIN_TRANSIENT p).transientFault 6 else s

/-- What the link shows of a port in UP_PENDING with debounce `d`. -/
def State.pendingLink (s : State) (p d : Nat) : State := (s.setLink p lsUP_PENDING).portTimer p (some (s.now + d * msT))

theorem State.alignOk_eq (s : State) (p : Nat) : s.alignOk p =
    if (s.endRetry p).rd PRT_LINK_CFG.UP_DEB p = 0 then ((s.endRetry p).pendingLink p ((s.endRetry p).rd PRT_LINK_CFG.UP_DEB p)).goUp p
    else (s.endRetry p).pendingLink p ((s.endRetry p).rd PRT_LINK_CFG.UP_DEB p) := rfl

theorem State.endRetry_within (s : State) (p : Nat) :
    Within ⟨[.evt], [R.PRT_STAT, R.PRT_EVT_STAT, R.EVT_STAT, R.EVT_FCNT], []⟩ s (s.endRetry p) :=
  .ite ((State.transientFault_within ..).step ((State.raise_within ..).step ((s.wr_within ..).step (.refl _ _) (by decide +kernel))
    (by decide +kernel)) (by decide +kernel)) (.refl _ _)

theorem State.endRetry_rd (s : State) (p : Nat) {f : Fld} (hr : f.reg = R.PRT_STAT) (hd : PRT_STAT.RETRY.disjoint f = true)
    (n : Nat) : (s.endRetry p).rd f n = s.rd f n := by
  unfold State.endRetry
  split
  · rw [(State.transientFault_within ..).rd_same (by rw [hr]; decide +kernel),
      (State.raise_within ..).rd_same (by rw [hr]; decide +kernel), State.stat_wr_other _ (by decide) ⟨rfl, hr⟩ hd]
  · rfl

theorem State.pendingLink_linkState (s : State) (p : Fin 256) (d : Nat) : (s.pendingLink p d).linkState p = lsUP_PENDING := by
  unfold State.pendingLink State.portTimer State.setLink State.linkState
  rw [State.rd_updPort, State.stat_wr_self s (by decide) (by decide)]
  decide

theorem State.alignOk_linkState (s : State) (p : Fin 256) :
    (s.alignOk p).linkState p = if s.rd PRT_LINK_CFG.UP_DEB p = 0 then lsUP else lsUP_PENDING := by
  rw [State.alignOk_eq, (s.endRetry_within p).rd_same (f := PRT_LINK_CFG.UP_DEB) (by decide +kernel)]
  split
  · exact State.goUp_linkState ..
  · exact State.pendingLink_linkState ..

theorem State.alignOk_rd (s : State) (p : Fin 256) {f : Fld}
    (hf : f ∈ [PRT_STAT.FEC_LOCK, PRT_STAT.LOCAL_FAULT, PRT_STAT.REMOTE_FAULT]) : (s.alignOk p).rd f p = s.rd f p := by
  have hall : ∀ f ∈ [PRT_STAT.FEC_LOCK, PRT_STAT.LOCAL_FAULT, PRT_STAT.REMOTE_FAULT], f.reg = R.PRT_STAT ∧
    PRT_STAT.LINK_STATE.disjoint f = true ∧ PRT_STAT.RETRY.disjoint f = true := by decide
  obtain ⟨hreg, hls, hretry⟩ := hall f hf
  have hpend (d : Nat) : ((s.endRetry p).pendingLink p d).rd f p = s.rd f p :=
    (State.stat_wr_other _ (by decide) ⟨rfl, hreg⟩ hls p p _).trans (s.endRetry_rd p hreg hretry p)
  rw [State.alignOk_eq]
  split
  · rw [State.goUp_rd _ p hf, hpend]
  · exact hpend _

theorem State.alignOk_faults (s : State) (p : Fin 256) (h : (s.port p).faults = 0) : ((s.alignOk p).port p).faults = 0 := by
  rw [State.alignOk_eq]
  split
  · exact State.goUp_faults ..
  · unfold State.pendingLink State.portTimer State.setLink
    rw [State.port_updPort_self, State.port_wr, (s.endRetry_within p).port_same (by decide), h]

/-! ### Down -/

theorem State.portDown_linkKept (s : State) (p : Fin 256) (cause : Nat) :
    ((s.wr PRT_STAT.DOWN_CAUSE p cause).updPort p fun o => { o with timer := none }).LinkKept (s.portDown p cause) := by
  have hraise : (s.wr PRT_STAT.DOWN_CAUSE p cause).LinkKept ((s.wr PRT_STAT.DOWN_CAUSE p cause).raise EV.PRT_LINK_DOWN p) :=
    State.raise_linkKept _ p (by decide +kernel)
  have hport := hraise.updPort p (f := fun o => { o with timer := none })
    (g := fun o => { o with pauseFrom := [], pauseEnd := [], sent := 0, left := 0, pfcDue := false, verifyLeft := 0, verifyAt := 0,
                            verifyFailed := false, timer := none, preDue := false, loop := [], loopP := [] })
    fun o o' h => by
      unfold Port.link at h ⊢
      simp only [Port.mk.injEq, true_and, and_true] at h ⊢
      exact h.2
  exact ((((hport.trans (State.notePaused_linkKept ..)).trans (State.wrTxXoff_linkKept ..)).trans
    (State.wrPreempt_linkKept ..)).trans (State.count_linkKept ..)).trans (State.egressDown_linkKept ..)

theorem State.portDown_raised (s : State) (p : Fin 256) (cause : Nat) (h6 : s.railOk 6 = true) :
    (s.portDown p cause).raised EV.PRT_LINK_DOWN p = true := by
  have hrail : (s.wr PRT_STAT.DOWN_CAUSE p cause).railOk 6 = true := by
    rw [(s.wr_within ..).railOk (by decide +kernel) (by decide), h6]
  unfold State.portDown
  rw [(State.egressDown_within ..).raised_same (by decide +kernel), (State.count_within ..).raised_same (by decide +kernel),
    (State.wr_within ..).raised_same (by decide +kernel), (State.wr_within ..).raised_same (by decide +kernel),
    (State.notePaused_within ..).raised_same (by decide +kernel), (State.updPort_within ..).raised_same (by decide +kernel)]
  exact State.raise_raised _ _ p hrail (by decide) p.isLt

theorem causeOf_lt (f : Nat) : causeOf f < 2 ^ PRT_STAT.DOWN_CAUSE.w := by
  unfold causeOf
  repeat' split
  all_goals decide

/-- The fields of PRT_STAT that a port keeps when it leaves for WAIT_SIGNAL or ALIGN. -/
def downFlds : List Fld := [PRT_STAT.LOCAL_FAULT, PRT_STAT.REMOTE_FAULT, PRT_STAT.DOWN_CAUSE]

/-- What `t` has of port `p` when it has gone down from `s` with the cause of its faults (R137). -/
structure State.WentDown (s t : State) (p : Fin 256) : Prop where
  cause : t.rd PRT_STAT.DOWN_CAUSE p = causeOf (s.port p).faults
  faultBits : ∀ f ∈ faultFlds, t.rd f p = s.rd f p
  faults : (t.port p).faults = (s.port p).faults
  downAt : (t.port p).downAt = (s.port p).downAt
  tx : (t.port p).tx = (s.port p).tx
  preempted : (t.port p).preempted = (s.port p).preempted
  event : s.railOk 6 = true → t.raised EV.PRT_LINK_DOWN p = true

theorem State.WentDown.next {s t u : State} {p : Fin 256} (h : s.WentDown t p) (tm : Option Nat) (r : Bool)
    (hp : u.port p = { t.port p with timer := tm, retry := r }) (hrd : ∀ f ∈ downFlds, u.rd f p = t.rd f p)
    (hr : u.raised EV.PRT_LINK_DOWN p = t.raised EV.PRT_LINK_DOWN p) : s.WentDown u p := by
  have hsub : ∀ f ∈ faultFlds, f ∈ downFlds := by decide
  refine ⟨by rw [hrd _ (by decide), h.cause], fun f hf => by rw [hrd f (hsub f hf), h.faultBits f hf], ?_, ?_, ?_, ?_,
    fun h6 => by rw [hr, h.event h6]⟩ <;> rw [hp]
  · exact h.faults
  · exact h.downAt
  · exact h.tx
  · exact h.preempted

theorem State.portDown_wentDown (s : State) (p : Fin 256) : s.WentDown (s.portDown p (causeOf (s.port p).faults)) p := by
  have hk := s.portDown_linkKept p (causeOf (s.port p).faults)
  refine ⟨?_, fun f hf => ?_, ?_, ?_, ?_, ?_, s.portDown_raised p _⟩
  · rw [hk.stat _ (by decide), State.rd_updPort, State.stat_wr_self _ (by decide) (by decide), Nat.mod_eq_of_lt (causeOf_lt _)]
  · have hall : ∀ f ∈ faultFlds, PRT_STAT.DOWN_CAUSE.disjoint f = true ∧ f.reg = R.PRT_STAT := by decide
    obtain ⟨hdis, hreg⟩ := hall f hf
    rw [hk.stat f (faultFlds_link hf), State.rd_updPort, State.stat_wr_other _ (by decide) ⟨rfl, hreg⟩ hdis]
  · rw [hk.faults, State.port_updPort_self, State.port_wr]
  · rw [hk.downAt, State.port_updPort_self, State.port_wr]
  · rw [hk.tx, State.port_updPort_self, State.port_wr]
  · rw [hk.preempted, State.port_updPort_self, State.port_wr]

/-- The end of the debounce: the port is down and waits for its signal, or for lock. -/
theorem State.debounced_wentDown (s : State) (p : Fin 256) : s.WentDown (s.debounced p) p := by
  have h := s.portDown_wentDown p
  unfold State.debounced
  extract_lets f u
  split
  · exact h.next none false (u.toWait_port p) (fun f hf => u.toWait_rd p hf) ((u.toWait_within p).raised_same (by decide +kernel) _)
  · exact h.next _ _ (u.toAlign_port p _) (fun f hf => u.toAlign_rd p _ hf) ((u.toAlign_within p _).raised_same (by decide +kernel) _)

theorem State.debounced_linkState (s : State) (p : Fin 256) :
    (s.debounced p).linkState p = if testBit (s.port p).faults 0 then lsWAIT_SIGNAL else lsALIGN := by
  unfold State.debounced
  extract_lets f u
  split
  · rw [State.toWait_linkState _ p.isLt, if_pos rfl]
  · exact State.toAlign_linkState ..

/-! ### Link faults -/

/-- The faults are recorded. -/
def State.faultLink (s : State) (p f : Nat) : State :=
  (((s.wrB PRT_STAT.SIG_ALL p (!testBit f 0)).updPort p fun o => { o with faults := f }).wrB PRT_STAT.LOCAL_FAULT p (testBit f 2)).wrB
    PRT_STAT.REMOTE_FAULT p (testBit f 3)

/-- The frames of a port that was UP are cut, and it waits for its debounce. -/
def State.faultCut (s : State) (p f : Nat) : State :=
  let s := ((s.wrB PRT_STAT.FEC_LOCK p (!testBit f 1)).cutTx p).cutRx p
  (s.setLink p lsDOWN_PENDING).updPort p fun o => { o with downAt := s.now }

theorem State.linkFault_eq (s : State) (p f : Nat) : s.linkFault p f =
    if s.linkState p = lsUP then
      if f = 0 then s.faultLink p f
      else if ((s.faultLink p f).faultCut p f).rd PRT_LINK_CFG.DOWN_DEB p = 0 then ((s.faultLink p f).faultCut p f).debounced p
      else (s.faultLink p f).faultCut p f
    else if s.linkState p = lsDOWN_PENDING then (s.faultLink p f).wrB PRT_STAT.FEC_LOCK p (!testBit f 1)
    else if testBit f 0 then (s.faultLink p f).toWait p
    else if s.linkState p = lsADAPT then s.faultLink p f
    else if testBit f 1 then
      if s.linkState p = lsALIGN && !(s.faultLink p f).bit PRT_STAT.FEC_LOCK p then s.faultLink p f
      else (s.faultLink p f).toAlign p false
    else if s.linkState p = lsUP_PENDING then if f = 0 then s.faultLink p f else (s.faultLink p f).toAlign p true
    else if (s.faultLink p f).bit PRT_STAT.FEC_LOCK p && f = 0 then (s.faultLink p f).alignOk p else s.faultLink p f := rfl

theorem State.faultLink_port (s : State) (p f : Nat) : (s.faultLink p f).port p = { s.port p with faults := f } := by
  unfold State.faultLink
  rw [State.port_wrB, State.port_wrB, State.port_updPort_self, State.port_wrB]

theorem State.faultLink_within (s : State) (p f : Nat) : Within ⟨[.ports], [R.PRT_STAT], []⟩ s (s.faultLink p f) :=
  (State.wrB_within ..).step ((State.wrB_within ..).step ((State.updPort_within ..).step ((s.wrB_within ..).step (.refl _ _)
    (by decide +kernel)) (by decide +kernel)) (by decide +kernel)) (by decide +kernel)

theorem State.faultLink_rd (s : State) (p : Fin 256) (v : Nat) {f : Fld} (hf : f ∈ [PRT_STAT.LINK_STATE, PRT_STAT.FEC_LOCK]) :
    (s.faultLink p v).rd f p = s.rd f p := by
  have hall : ∀ f ∈ [PRT_STAT.LINK_STATE, PRT_STAT.FEC_LOCK], f.reg = R.PRT_STAT ∧
    ∀ g ∈ [PRT_STAT.SIG_ALL, PRT_STAT.LOCAL_FAULT, PRT_STAT.REMOTE_FAULT], g.disjoint f = true := by decide
  obtain ⟨hreg, hdis⟩ := hall f hf
  unfold State.faultLink State.wrB
  rw [State.stat_wr_other _ (by decide) ⟨rfl, hreg⟩ (hdis _ (by decide)), State.stat_wr_other _ (by decide) ⟨rfl, hreg⟩ (hdis _ (by decide)),
    State.rd_updPort, State.stat_wr_other _ (by decide) ⟨rfl, hreg⟩ (hdis _ (by decide))]

theorem State.faultLink_local (s : State) (p : Fin 256) (f : Nat) : (s.faultLink p f).bit PRT_STAT.LOCAL_FAULT p = testBit f 2 := by
  unfold State.faultLink State.bit State.wrB
  rw [State.stat_wr_other _ (by decide) (by decide) (by decide), State.stat_wr_self _ (by decide) (by decide)]
  cases testBit f 2 <;> rfl

theorem State.faultLink_remote (s : State) (p : Fin 256) (f : Nat) : (s.faultLink p f).bit PRT_STAT.REMOTE_FAULT p = testBit f 3 := by
  unfold State.faultLink State.bit State.wrB
  rw [State.stat_wr_self _ (by decide) (by decide)]
  cases testBit f 3 <;> rfl

/-- What a cut leaves of the link. -/
theorem State.faultCut_linkKept (s : State) (p : Fin 256) (f : Nat) :
    (((((s.wrB PRT_STAT.FEC_LOCK p (!testBit f 1)).updPort p fun o => { o with tx := none, preempted := none }).updPort p
      fun o => { o with asm := none }).setLink p lsDOWN_PENDING).updPort p fun o => { o with downAt := s.now }).LinkKept
      (s.faultCut p f) := by
  unfold State.faultCut
  extract_lets u
  have hcut := (s.wrB PRT_STAT.FEC_LOCK p (!testBit f 1)).cutTx_linkKept p
  have hrx := State.cutRx_linkKept ((s.wrB PRT_STAT.FEC_LOCK p (!testBit f 1)).cutTx p) p
  have hasm := hcut.updPort p (f := fun o => { o with asm := none }) (g := fun o => { o with asm := none }) fun o o' h => by
    unfold Port.link at h ⊢
    simp only [Port.mk.injEq, true_and, and_true] at h ⊢
    obtain ⟨ht, hr, hf, hd, _, htx, hpre, hmax⟩ := h
    exact ⟨ht, hr, hf, hd, htx, hpre, hmax⟩
  have hnow : u.now = s.now := by
    rw [(State.cutRx_within ..).now, (State.cutTx_within ..).now, State.wrB_now]
  rw [hnow]
  exact ((hasm.trans hrx).wr (f := PRT_STAT.LINK_STATE) (by decide) rfl (by decide) p lsDOWN_PENDING).updPort p fun o o' h => by
    unfold Port.link at h ⊢
    simp only [Port.mk.injEq, true_and, and_true] at h ⊢
    obtain ⟨ht, hr, hf, _, hasm, htx, hpre, hmax⟩ := h
    exact ⟨ht, hr, hf, hasm, htx, hpre, hmax⟩

theorem State.faultCut_linkState (s : State) (p : Fin 256) (f : Nat) : (s.faultCut p f).linkState p = lsDOWN_PENDING := by
  refine ((s.faultCut_linkKept p f).linkState p).trans ?_
  unfold State.linkState State.setLink
  rw [State.rd_updPort, State.stat_wr_self _ (by decide) (by decide)]
  decide

theorem State.faultCut_rd (s : State) (p : Fin 256) (f : Nat) {g : Fld} (hg : g ∈ faultFlds) : (s.faultCut p f).rd g p = s.rd g p := by
  have hall : ∀ g ∈ faultFlds, g.reg = R.PRT_STAT ∧ PRT_STAT.LINK_STATE.disjoint g = true ∧ PRT_STAT.FEC_LOCK.disjoint g = true := by
    decide
  obtain ⟨hreg, hls, hfec⟩ := hall g hg
  rw [(s.faultCut_linkKept p f).stat g (faultFlds_link hg)]
  unfold State.setLink State.wrB
  rw [State.rd_updPort, State.stat_wr_other _ (by decide) ⟨rfl, hreg⟩ hls, State.rd_updPort, State.rd_updPort,
    State.stat_wr_other _ (by decide) ⟨rfl, hreg⟩ hfec]

/-- The link of a port whose frames have been cut. -/
theorem State.faultCut_link (s : State) (p : Fin 256) (f : Nat) :
    ((s.faultCut p f).port p).link = { (s.port p).link with tx := none, preempted := none, asm := none, downAt := s.now } := by
  rw [(s.faultCut_linkKept p f).link]
  unfold State.setLink
  rw [State.port_updPort_self, State.port_wr, State.port_updPort_self, State.port_updPort_self, State.port_wrB]
  rfl

theorem State.faultCut_within (s : State) (p f : Nat) : Within State.linkFault_scope s (s.faultCut p f) :=
  (State.updPort_within ..).step ((State.wr_within ..).step ((State.cutRx_within ..).step ((State.cutTx_within ..).step
    ((s.wrB_within ..).step (.refl _ _) (by decide +kernel)) (by decide +kernel)) (by decide +kernel)) (by decide +kernel))
    (by decide +kernel)

/-- `u` shows the faults `f` of port `p`, as they have been recorded from `s`. -/
structure State.FaultsShown (s u : State) (p : Fin 256) (f : Nat) : Prop where
  faults : (u.port p).faults = f
  bits : ∀ g ∈ faultFlds, u.rd g p = (s.faultLink p f).rd g p

theorem State.linkFault_shown (s : State) (p : Fin 256) (f : Nat) : s.FaultsShown (s.linkFault p f) p f := by
  have hrec : s.FaultsShown (s.faultLink p f) p f := ⟨by rw [State.faultLink_port], fun _ _ => rfl⟩
  have hcut : s.FaultsShown ((s.faultLink p f).faultCut p f) p f := by
    refine ⟨?_, fun g hg => State.faultCut_rd _ p f hg⟩
    have := congrArg Port.faults ((s.faultLink p f).faultCut_link p f)
    exact this.trans (by rw [State.faultLink_port]; rfl)
  have hdown : s.FaultsShown (((s.faultLink p f).faultCut p f).debounced p) p f := by
    have h := ((s.faultLink p f).faultCut p f).debounced_wentDown p
    exact ⟨h.faults.trans hcut.faults, fun g hg => (h.faultBits g hg).trans (hcut.bits g hg)⟩
  have hwait : s.FaultsShown ((s.faultLink p f).toWait p) p f := by
    have hsub : ∀ g ∈ faultFlds, g ∈ downFlds := by decide
    exact ⟨by rw [State.toWait_port, State.faultLink_port], fun g hg => State.toWait_rd _ p (hsub g hg)⟩
  have halign (b : Bool) : s.FaultsShown ((s.faultLink p f).toAlign p b) p f := by
    have hsub : ∀ g ∈ faultFlds, g ∈ downFlds := by decide
    exact ⟨by rw [State.toAlign_port, State.faultLink_port], fun g hg => State.toAlign_rd _ p b (hsub g hg)⟩
  have hfec (v : Nat) : s.FaultsShown ((s.faultLink p f).wr PRT_STAT.FEC_LOCK p v) p f := by
    have hall : ∀ g ∈ faultFlds, g.reg = R.PRT_STAT ∧ PRT_STAT.FEC_LOCK.disjoint g = true := by decide
    refine ⟨by rw [State.port_wr, State.faultLink_port], fun g hg => ?_⟩
    obtain ⟨hreg, hdis⟩ := hall g hg
    exact State.stat_wr_other _ (by decide) ⟨rfl, hreg⟩ hdis p p v
  have hup (h0 : f = 0) : s.FaultsShown ((s.faultLink p f).alignOk p) p f := by
    have hsub : ∀ g ∈ faultFlds, g ∈ [PRT_STAT.FEC_LOCK, PRT_STAT.LOCAL_FAULT, PRT_STAT.REMOTE_FAULT] := by decide
    refine ⟨?_, fun g hg => State.alignOk_rd _ p (hsub g hg)⟩
    rw [State.alignOk_faults _ p (by rw [State.faultLink_port, h0]), h0]
  rw [State.linkFault_eq]
  split
  · split
    · exact hrec
    · split
      · exact hdown
      · exact hcut
  split
  · exact hfec _
  split
  · exact hwait
  split
  · exact hrec
  split
  · split
    · exact hrec
    · exact halign false
  split
  · split
    · exact hrec
    · exact halign true
  split
  · rename_i h
    rw [Bool.and_eq_true, decide_eq_true_eq] at h
    exact hup h.2
  · exact hrec

end Sys2Proof.Machine
end

section
/-! PROOFS. Link training of ports, carriers and mirror lanes, and link faults of a port (R135-R140, R189, R450, R459): O24. -/
set_option Elab.async false
namespace Sys2Proof.Machine

/-! ### What ends each of these rows -/

theorem State.noteLine_linkKept (s b : State) (p : Nat) : s.LinkKept (s.noteLine b p) :=
  .of_within (s.noteLine_within b p) (by decide +kernel) (by decide)

theorem State.settle_linkKept (s : State) : s.LinkKept s.settle := .of_within s.settle_within (by decide +kernel) (by decide)

/-- The line of the port is noted, and the row ends. -/
theorem State.noteLine_settle_linkKept (s b : State) (p : Nat) : s.LinkKept (s.noteLine b p).settle :=
  (s.noteLine_linkKept b p).trans (State.settle_linkKept _)

theorem State.noteLine_settle_raised (s b : State) (p : Nat) {e : Ev} (h1 : State.noteLine_scope.spares e.stat = true)
    (h2 : State.settle_scope.spares e.stat = true) (i : Nat) : (s.noteLine b p).settle.raised e i = s.raised e i := by
  rw [(State.settle_within _).raised_same h2, (s.noteLine_within b p).raised_same h1]

/-! ### Signal and adaptation of a port (R135) -/

theorem signalDetect_port_acts (p : Fin 256) (s : State) (h : (s.fwdMode && s.linkState p = lsWAIT_SIGNAL) = true) :
    Yields (.signalDetect (.port p)) s fun t => t.linkState p = lsADAPT ∧ (t.port p).timer = some (s.now + 50 * msT) ∧
      t.bit PRT_STAT.SIG_ALL p = true := by
  show Ends (fin (s.portSignal p)) _
  unfold State.portSignal
  rw [if_pos h, ends_fin]
  generalize hu : ((s.wr PRT_STAT.SIG_ALL p 1).setLink p lsADAPT).portTimer p (some (s.now + 50 * msT)) = u
  have hk := u.noteLine_settle_linkKept s p
  rw [hk.linkState, hk.timer, hk.bit (by decide), ← hu]
  unfold State.portTimer State.setLink State.linkState State.bit
  rw [State.port_updPort_self, State.rd_updPort, State.rd_updPort, State.stat_wr_self _ (by decide) (by decide),
    State.stat_wr_other _ (by decide) (by decide) (by decide), State.stat_wr_self _ (by decide) (by decide)]
  exact ⟨by decide, rfl, by decide⟩

theorem adaptDone_port_acts (p : Fin 256) (s : State) (h : (s.fwdMode && s.linkState p = lsADAPT) = true) :
    Yields (.adaptDone (.port p)) s fun t => t.linkState p = lsALIGN ∧ (t.port p).timer = some (s.now + 2 * msT) := by
  show Ends (fin (s.portAdapted p)) _
  unfold State.portAdapted
  rw [if_pos h, ends_fin]
  have hk := (s.toAlign p false).settle_linkKept
  rw [hk.linkState, hk.timer, State.toAlign_linkState, State.toAlign_port]
  exact ⟨rfl, rfl⟩

/-! ### Carriers (R189) -/

theorem State.leaveSet_cars (s : State) (c : Nat) : (s.leaveSet c).cars = s.cars := by
  unfold State.leaveSet
  split
  · rfl
  · extract_lets h u v w x
    have hv : v.cars = s.cars := (State.noteMeas_within u h).part .cars (by decide)
    have hx : x.cars = v.cars := by
      unfold x
      split
      · exact (State.setCurrent_within w h false).part .cars (by decide)
      · rfl
    split
    · exact hv
    · split
      · rw [(State.noSignal_within ..).part .cars (by decide), (State.raise_within ..).part .cars (by simp), hx, hv]
      · rw [hx, hv]

theorem State.ttNote_cars (s : State) (c : Nat) : (s.ttNote c).cars = s.cars := by
  unfold State.ttNote
  split
  · split
    · rfl
    · rfl
  · exact s.leaveSet_cars c

/-- A change of a carrier's state leaves what its receivers hold. -/
theorem State.setCar_car (s : State) (c v d : Nat) : (s.setCar c v).car d = s.car d := by
  unfold State.setCar State.car
  split
  · rfl
  · rw [(State.noteSheaf_within ..).part .cars (by decide), State.ttNote_cars, State.wr_cars]

@[simp] theorem State.car_updCar_self (s : State) (c : Nat) (f : Carrier → Carrier) : (s.updCar c f).car c = f (s.car c) :=
  SMap.get_upd_self ..

theorem State.settle_car (s : State) (c : Nat) : s.settle.car c = s.car c := by
  unfold State.car
  rw [State.settle_cars]

theorem State.settle_cst (s : State) (c : Nat) : s.settle.cst c = s.cst c := s.settle_rd (by decide +kernel) c

theorem State.toHandshake_cst (s : State) {c : Nat} (hc : c < 128) : (s.toHandshake c).cst c = cHANDSHAKE := by
  unfold State.toHandshake
  extract_lets u
  have hset := u.setCar_cst hc (v := cHANDSHAKE) (by decide) c
  refine Eq.trans ?_ (hset.trans (if_pos rfl))
  exact State.rd_wr_disj (f := SHF_CAR_STAT.RETRY) (g := SHF_CAR_STAT.STATE) _ (by decide) (by decide) rfl (by decide) c c 0

theorem signalDetect_carrier_acts (c : Fin 128) (s : State) (h : (s.fwdMode && s.cst c = cWAIT_SIGNAL) = true) :
    Yields (.signalDetect (.carrier c)) s fun t => t.cst c = cADAPT ∧ (t.car c).timer = some (s.now + 50 * msT) ∧
      (t.car c).signal = true := by
  show Ends (execSignalDetect (.carrier c) s) _
  unfold execSignalDetect
  dsimp only
  generalize hu : s.updCar c (fun k => { k with signal := true }) = u
  have hgo : (u.fwdMode && u.cst c = cWAIT_SIGNAL) = true := by rw [← hu]; exact h
  rw [if_pos hgo, ends_fin, State.settle_cst, State.settle_car]
  unfold State.toCarAdapt
  rw [State.car_updCar_self, State.setCar_car]
  refine ⟨?_, by rw [← hu]; rfl, by rw [← hu, State.car_updCar_self]⟩
  exact (u.setCar_cst c.isLt (by decide) c).trans (if_pos rfl)

theorem adaptDone_carrier_acts (c : Fin 128) (s : State) (h : (s.fwdMode && s.cst c = cADAPT) = true) :
    Yields (.adaptDone (.carrier c)) s fun t => if s.allLocked c then t.cst c = cHANDSHAKE
      else t.cst c = cLOCK ∧ (t.car c).timer = some (s.now + 2 * msT) := by
  show Ends (execAdaptDone (.carrier c) s) _
  unfold execAdaptDone
  dsimp only
  rw [if_pos h]
  generalize hu : (s.setCar c cLOCK).updCar c (fun k => { k with timer := some (s.now + 2 * msT) }) = u
  have hcar : u.car c = { s.car c with timer := some (s.now + 2 * msT) } := by
    rw [← hu, State.car_updCar_self, State.setCar_car]
  have hcom : u.committed = s.committed := by
    rw [← hu]
    exact (State.setCar_within ..).part .committed (by decide)
  have hst : u.cst c = cLOCK := by
    rw [← hu]
    exact (s.setCar_cst c.isLt (by decide) c).trans (if_pos rfl)
  have hall : u.allLocked c = s.allLocked c := by
    unfold State.allLocked State.carLanes
    rw [hcar, State.com_eq hcom, State.com_eq hcom]
  rw [ends_fin, hall, State.settle_cst, State.settle_car]
  by_cases hl : s.allLocked c = true
  · rw [if_pos hl, if_pos hl]
    exact State.toHandshake_cst u c.isLt
  · rw [if_neg hl, if_neg hl, hcar]
    exact ⟨hst, rfl⟩

/-! ### Mirror lanes (R459) -/

theorem State.mlane_updMlane_settle (s : State) (i : Nat) (f : MLane → MLane) : (s.updMlane i f).settle.mlane i = f (s.mlane i) := by
  unfold State.mlane
  rw [State.settle_twin]
  exact SMap.get_upd_self ..

theorem signalDetect_mirror_acts (i : Fin 4) (s : State) (h : (s.twinOn && s.tkMode && (s.mlane i).st = 2) = true) :
    Yields (.signalDetect (.mirror i)) s fun t => (t.mlane i).st = 3 ∧ (t.mlane i).timer = some (s.now + 50 * msT) := by
  show Ends (execSignalDetect (.mirror i) s) _
  unfold execSignalDetect
  dsimp only
  rw [if_pos h, ends_fin, State.mlane_updMlane_settle]
  exact ⟨rfl, rfl⟩

theorem adaptDone_mirror_acts (i : Fin 4) (s : State) (h : (s.twinOn && s.tkMode && (s.mlane i).st = 3) = true) :
    Yields (.adaptDone (.mirror i)) s fun t => (t.mlane i).st = 4 ∧ (t.mlane i).timer = some (s.now + 2 * msT) := by
  show Ends (execAdaptDone (.mirror i) s) _
  unfold execAdaptDone
  dsimp only
  rw [if_pos h, ends_fin, State.mlane_updMlane_settle]
  exact ⟨rfl, rfl⟩

/-! ### Lock, retries and the rise of a port (R135, R136) -/

theorem alignLock_acts (p : Fin 256) (localF remoteF : Bool) (s : State) (hf : s.fwdMode = true) (hl : s.linkState p = lsALIGN) :
    Yields (.alignLock p localF remoteF) s fun t => t.bit PRT_STAT.FEC_LOCK p = true ∧
      t.bit PRT_STAT.LOCAL_FAULT p = localF ∧ t.bit PRT_STAT.REMOTE_FAULT p = remoteF ∧
      t.linkState p = (if localF || remoteF then lsALIGN else if s.rd PRT_LINK_CFG.UP_DEB p = 0 then lsUP else lsUP_PENDING) := by
  show Ends (execAlignLock p localF remoteF s) _
  unfold execAlignLock
  rw [if_pos (by rw [hf, hl]; rfl), ends_fin]
  have hdue : (s.alignLock p localF remoteF).LinkKept ((s.alignLock p localF remoteF).dueLanes (s.portLanes p)) :=
    .of_within (State.dueLanes_within ..) (by decide +kernel) (by decide)
  have hk := hdue.trans (State.noteLine_settle_linkKept _ s p)
  rw [hk.bit (by decide), hk.bit (by decide), hk.bit (by decide), hk.linkState]
  unfold State.alignLock
  extract_lets u
  have hfec : u.bit PRT_STAT.FEC_LOCK p = true := by
    rw [← s.toAlign_fecLock p true]
    unfold u State.wrB State.bit
    rw [State.stat_wr_other _ (by decide) (by decide) (by decide), State.stat_wr_other _ (by decide) (by decide) (by decide)]
  have hloc : u.bit PRT_STAT.LOCAL_FAULT p = localF := by
    unfold u State.wrB State.bit
    rw [State.stat_wr_other _ (by decide) (by decide) (by decide), State.stat_wr_self _ (by decide) (by decide)]
    cases localF <;> rfl
  have hrem : u.bit PRT_STAT.REMOTE_FAULT p = remoteF := by
    unfold u State.wrB State.bit
    rw [State.stat_wr_self _ (by decide) (by decide)]
    cases remoteF <;> rfl
  have hst : u.linkState p = lsALIGN := by
    rw [← s.toAlign_linkState p true]
    unfold u State.wrB State.linkState
    rw [State.stat_wr_other _ (by decide) (by decide) (by decide), State.stat_wr_other _ (by decide) (by decide) (by decide)]
  have hdeb : u.rd PRT_LINK_CFG.UP_DEB p = s.rd PRT_LINK_CFG.UP_DEB p := by
    unfold u
    rw [State.rd_wrB_ne _ (by decide +kernel), State.rd_wrB_ne _ (by decide +kernel),
      (s.toAlign_within p true).rd_same (by decide +kernel)]
  split
  · exact ⟨hfec, hloc, hrem, hst⟩
  · unfold State.bit at hfec hloc hrem ⊢
    rw [u.alignOk_rd p (by decide), u.alignOk_rd p (by decide), u.alignOk_rd p (by decide), u.alignOk_linkState, hdeb]
    exact ⟨hfec, hloc, hrem, rfl⟩

theorem attemptTimeout_acts (p : Fin 256) (s : State) (hf : s.fwdMode = true)
    (hl : s.linkState p = lsADAPT ∨ s.linkState p = lsALIGN) (hdue : s.portDue p = true) (h6 : s.railOk 6 = true) :
    Yields (.attemptTimeout p) s fun t =>
      if (s.port p).retry then t.linkState p = lsFAILED ∧ t.raised EV.PRT_LINK_FAIL p = true ∧ (t.port p).timer = none
      else t.linkState p = lsADAPT ∧ t.bit PRT_STAT.RETRY p = true ∧ (t.port p).timer = some (s.now + 50 * msT) := by
  show Ends (execAttemptTimeout p s) _
  unfold execAttemptTimeout
  dsimp only
  rw [if_neg (by rw [hf, hdue]; rcases hl with hl | hl <;> simp [hl])]
  by_cases hr : (s.port p).retry = true
  rotate_left
  · rw [if_pos (by simpa using hr), ends_fin, if_neg hr]
    generalize hu : (((s.updPort p fun o => { o with retry := true, timer := some (s.now + 50 * msT) }).wr PRT_STAT.RETRY p 1).setLink
      p lsADAPT).wr PRT_STAT.FEC_LOCK p 0 = u
    have hk := u.noteLine_settle_linkKept s p
    rw [hk.linkState, hk.timer, hk.bit (by decide), ← hu]
    unfold State.setLink State.linkState State.bit
    rw [State.stat_wr_other _ (by decide) (by decide) (by decide), State.stat_wr_self _ (by decide) (by decide),
      State.stat_wr_other _ (by decide) (by decide) (by decide), State.stat_wr_other _ (by decide) (by decide) (by decide),
      State.stat_wr_self _ (by decide) (by decide), State.port_wr, State.port_wr, State.port_wr, State.port_updPort_self]
    exact ⟨by decide, by decide, rfl⟩
  · rw [if_neg (by simp [hr]), ends_fin, if_pos hr]
    generalize hu : ((s.setLink p lsFAILED).portTimer p none).wr PRT_STAT.RETRY p 0 = u
    have hrail : u.railOk 6 = true := by
      rw [← h6, ← hu]
      exact Within.railOk ((State.wr_within ..).step ((State.updPort_within ..).step ((s.wr_within ..).step (.refl _ _)
        (by decide +kernel)) (by decide +kernel)) (by decide +kernel) : Within ⟨[.ports], [R.PRT_STAT], []⟩ s _)
        (by decide +kernel) (by decide) 6
    generalize u.com PRT_CFG.FIRST_LANE p = lane
    have hk : u.LinkKept ((((u.raise EV.PRT_LINK_FAIL p).noteLine s p).lastingFault 6 lane true).settle) :=
      (((u.raise_linkKept p (by decide +kernel)).trans (State.noteLine_linkKept ..)).trans
        (.of_within (State.lastingFault_within ..) (by decide +kernel) (by decide))).trans (State.settle_linkKept _)
    have hev : ((((u.raise EV.PRT_LINK_FAIL p).noteLine s p).lastingFault 6 lane true).settle).raised EV.PRT_LINK_FAIL p = true := by
      rw [(State.settle_within _).raised_same (by decide +kernel), (State.lastingFault_within ..).raised_same (by decide +kernel),
        (State.noteLine_within ..).raised_same (by decide +kernel)]
      exact State.raise_raised u _ p hrail (by decide) p.isLt
    have hst : u.linkState p = lsFAILED := by
      rw [← hu]
      unfold State.setLink State.portTimer State.linkState
      rw [State.stat_wr_other _ (by decide) (by decide) (by decide), State.rd_updPort, State.stat_wr_self _ (by decide) (by decide)]
      decide
    have htm : (u.port p).timer = none := by
      rw [← hu]
      unfold State.portTimer
      rw [State.port_wr, State.port_updPort_self]
    exact ⟨(hk.linkState p).trans hst, hev, (hk.timer p).trans htm⟩

theorem upDebounceExpiry_acts (p : Fin 256) (s : State) (hf : s.fwdMode = true) (hl : s.linkState p = lsUP_PENDING)
    (hdue : s.portDue p = true) (h6 : s.railOk 6 = true) :
    Yields (.upDebounceExpiry p) s fun t => t.linkState p = lsUP ∧ t.raised EV.PRT_LINK_UP p = true ∧ (t.port p).timer = none := by
  show Ends (execUpDebounceExpiry p s) _
  unfold execUpDebounceExpiry
  rw [if_pos (by rw [hf, hl, hdue]; rfl), ends_fin]
  have hk := (s.goUp p).settle_linkKept
  rw [hk.linkState, hk.timer, (State.settle_within _).raised_same (by decide +kernel)]
  exact ⟨s.goUp_linkState p, s.goUp_raised p h6, s.goUp_timer p⟩

end Sys2Proof.Machine
end

section
/-! PROOFS. Link faults of a port and what follows them (R137, R138, R140, R450): O24. -/
set_option Elab.async false
namespace Sys2Proof.Machine

/-! ### The word of the faults -/

/-- The faults that are present, as the bits of a port's record. -/
def faultWord (sig lock loc rem : Bool) : Nat :=
  (if sig then 1 else 0) + (if lock then 2 else 0) + (if loc then 4 else 0) + (if rem then 8 else 0)

theorem faultWord_bits (sig lock loc rem : Bool) : testBit (faultWord sig lock loc rem) 0 = sig ∧
    testBit (faultWord sig lock loc rem) 1 = lock ∧ testBit (faultWord sig lock loc rem) 2 = loc ∧
    testBit (faultWord sig lock loc rem) 3 = rem := by
  revert sig lock loc rem
  decide

theorem faultWord_eq_zero (sig lock loc rem : Bool) : faultWord sig lock loc rem = 0 ↔ (sig || lock || loc || rem) = false := by
  revert sig lock loc rem
  decide

/-! ### The state that a fault leads to -/

theorem State.faultLink_linkState (s : State) (p : Fin 256) (f : Nat) : (s.faultLink p f).linkState p = s.linkState p :=
  s.faultLink_rd p f (by decide)

/-- A port that is UP without a fault stays so. -/
theorem State.linkFault_up (s : State) (p : Fin 256) (f : Nat) (h : s.linkState p = lsUP) (h0 : f = 0) :
    (s.linkFault p f).linkState p = lsUP := by
  rw [s.linkFault_eq, if_pos h, if_pos h0, s.faultLink_linkState, h]

/-- What a fault does to a port that is UP. -/
structure State.FaultTaken (s t : State) (p : Fin 256) (f : Nat) : Prop where
  tx : (t.port p).tx = none
  preempted : (t.port p).preempted = none
  downAt : (t.port p).downAt = s.now
  waits : s.rd PRT_LINK_CFG.DOWN_DEB p ≠ 0 → t.linkState p = lsDOWN_PENDING
  down : s.rd PRT_LINK_CFG.DOWN_DEB p = 0 → t.rd PRT_STAT.DOWN_CAUSE p = causeOf f ∧
    (s.railOk 6 = true → t.raised EV.PRT_LINK_DOWN p = true) ∧
    t.linkState p = (if testBit f 0 then lsWAIT_SIGNAL else lsALIGN)

theorem State.linkFault_taken (s : State) (p : Fin 256) (f : Nat) (h : s.linkState p = lsUP) (h0 : f ≠ 0) :
    s.FaultTaken (s.linkFault p f) p f := by
  have hw : Within State.linkFault_scope s ((s.faultLink p f).faultCut p f) :=
    ((s.faultLink p f).faultCut_within p f).step ((s.faultLink_within p f).step (.refl _ _) (by decide +kernel)) (by decide +kernel)
  have hdeb := hw.rd_same (f := PRT_LINK_CFG.DOWN_DEB) (by decide +kernel) p
  have hlink := (s.faultLink p f).faultCut_link p f
  have htx := congrArg Port.tx hlink
  have hpre := congrArg Port.preempted hlink
  have hat := congrArg Port.downAt hlink
  have hfaults := congrArg Port.faults hlink
  rw [State.faultLink_port] at hfaults
  rw [s.linkFault_eq, if_pos h, if_neg h0, hdeb]
  by_cases hd : s.rd PRT_LINK_CFG.DOWN_DEB p = 0
  · rw [if_pos hd]
    have hdown := ((s.faultLink p f).faultCut p f).debounced_wentDown p
    refine ⟨hdown.tx.trans htx, hdown.preempted.trans hpre, hdown.downAt.trans (hat.trans (s.faultLink_within p f).now),
      fun hne => absurd hd hne, fun _ => ⟨?_, fun h6 => hdown.event ?_, ?_⟩⟩
    · exact hdown.cause.trans (congrArg causeOf hfaults)
    · rw [hw.railOk (by decide +kernel) (by decide), h6]
    · rw [State.debounced_linkState]
      exact congrArg (fun x => if testBit x 0 = true then lsWAIT_SIGNAL else lsALIGN) hfaults
  · rw [if_neg hd]
    exact ⟨htx, hpre, hat.trans (s.faultLink_within p f).now, fun _ => State.faultCut_linkState .., fun he => absurd he hd⟩

theorem State.FaultTaken.keep {s t u : State} {p : Fin 256} {f : Nat} (h : s.FaultTaken t p f) (hk : t.LinkKept u)
    (hr : u.raised EV.PRT_LINK_DOWN p = t.raised EV.PRT_LINK_DOWN p) : s.FaultTaken u p f := by
  refine ⟨by rw [hk.tx, h.tx], by rw [hk.preempted, h.preempted], by rw [hk.downAt, h.downAt],
    fun hd => by rw [hk.linkState, h.waits hd], fun hd => ?_⟩
  obtain ⟨hc, he, hs⟩ := h.down hd
  exact ⟨by rw [hk.stat _ (by decide), hc], fun h6 => by rw [hr, he h6], by rw [hk.linkState, hs]⟩

theorem State.linkFault_pending (s : State) (p : Fin 256) (f : Nat) (h : s.linkState p = lsDOWN_PENDING) :
    (s.linkFault p f).linkState p = lsDOWN_PENDING := by
  rw [s.linkFault_eq, if_neg (by rw [h]; decide), if_pos h, ← h, ← s.faultLink_linkState p f]
  exact State.stat_wr_other _ (by decide) (by decide) (by decide) p p _

/-- Before UP a lost signal is waited for. -/
theorem State.linkFault_noSignal (s : State) (p : Fin 256) (f : Nat) (h : s.linkState p < lsUP) (h0 : testBit f 0 = true) :
    (s.linkFault p f).linkState p = lsWAIT_SIGNAL := by
  have h7 : s.linkState p < lsDOWN_PENDING := h.trans (by decide)
  rw [s.linkFault_eq, if_neg h.ne, if_neg h7.ne, if_pos h0, State.toWait_linkState _ p.isLt, if_pos rfl]

theorem State.linkFault_adapt (s : State) (p : Fin 256) (f : Nat) (h : s.linkState p = lsADAPT) (h0 : testBit f 0 = false) :
    (s.linkFault p f).linkState p = lsADAPT := by
  rw [s.linkFault_eq, if_neg (by rw [h]; decide), if_neg (by rw [h]; decide), if_neg (by rw [h0]; decide), if_pos h,
    s.faultLink_linkState, h]

/-- From UP_PENDING every fault but a lost signal leads back to ALIGN (log entry 88). -/
theorem State.linkFault_upPending (s : State) (p : Fin 256) (f : Nat) (h : s.linkState p = lsUP_PENDING)
    (h0 : testBit f 0 = false) : (s.linkFault p f).linkState p = if f = 0 then lsUP_PENDING else lsALIGN := by
  have hst := s.faultLink_linkState p f
  rw [h] at hst
  rw [s.linkFault_eq, if_neg (by rw [h]; decide), if_neg (by rw [h]; decide), if_neg (by rw [h0]; decide),
    if_neg (by rw [h]; decide), h]
  by_cases hf : f = 0
  · rw [if_neg (by rw [hf]; decide), if_pos rfl, if_pos hf, if_pos hf, hst]
  · rw [if_neg hf]
    by_cases h1 : testBit f 1 = true
    · rw [if_pos h1, if_neg (by simp [lsUP_PENDING, lsALIGN]), if_neg hf, State.toAlign_linkState]
    · rw [if_neg h1, if_pos rfl, if_neg hf, State.toAlign_linkState]

/-- From ALIGN a port with lock and without a fault goes on up. -/
theorem State.linkFault_align (s : State) (p : Fin 256) (f : Nat) (h : s.linkState p = lsALIGN) (h0 : testBit f 0 = false) :
    (s.linkFault p f).linkState p =
      if f = 0 ∧ s.bit PRT_STAT.FEC_LOCK p = true then if s.rd PRT_LINK_CFG.UP_DEB p = 0 then lsUP else lsUP_PENDING
      else lsALIGN := by
  have hst := s.faultLink_linkState p f
  rw [h] at hst
  have hfec : (s.faultLink p f).bit PRT_STAT.FEC_LOCK p = s.bit PRT_STAT.FEC_LOCK p := by
    unfold State.bit
    rw [s.faultLink_rd p f (by decide)]
  rw [s.linkFault_eq, if_neg (by rw [h]; decide), if_neg (by rw [h]; decide), if_neg (by rw [h0]; decide),
    if_neg (by rw [h]; decide), h, hfec]
  by_cases h1 : testBit f 1 = true
  · have hf : f ≠ 0 := fun he => by rw [he] at h1; exact absurd h1 (by decide)
    rw [if_pos h1, if_neg (fun he : f = 0 ∧ s.bit PRT_STAT.FEC_LOCK p = true => hf he.1)]
    split
    · exact hst
    · exact State.toAlign_linkState ..
  · rw [if_neg h1, if_neg (by decide)]
    by_cases hgo : f = 0 ∧ s.bit PRT_STAT.FEC_LOCK p = true
    · rw [if_pos hgo, if_pos (by simp [hgo.1, hgo.2]), State.alignOk_linkState,
        (s.faultLink_within p f).rd_same (f := PRT_LINK_CFG.UP_DEB) (by decide +kernel)]
    · rw [if_neg hgo, if_neg (by simpa [and_comm] using hgo), hst]

theorem portLinkFault_acts (p : Fin 256) (sig lock loc rem : Bool) (s : State) (hf : s.fwdMode = true)
    (hlo : lsADAPT ≤ s.linkState p) (hhi : s.linkState p ≤ lsDOWN_PENDING) :
    Yields (.portLinkFault p sig lock loc rem) s fun t =>
      (t.port p).faults = (if sig then 1 else 0) + (if lock then 2 else 0) + (if loc then 4 else 0) + (if rem then 8 else 0) ∧
      t.bit PRT_STAT.LOCAL_FAULT p = loc ∧ t.bit PRT_STAT.REMOTE_FAULT p = rem ∧
      (s.linkState p = lsUP → (sig || lock || loc || rem) = false → t.linkState p = lsUP) ∧
      (s.linkState p = lsUP → (sig || lock || loc || rem) = true → (t.port p).tx = none ∧ (t.port p).preempted = none ∧
        (t.port p).downAt = s.now ∧
        (s.rd PRT_LINK_CFG.DOWN_DEB p ≠ 0 → t.linkState p = lsDOWN_PENDING) ∧
        (s.rd PRT_LINK_CFG.DOWN_DEB p = 0 → t.rd PRT_STAT.DOWN_CAUSE p = causeOf (t.port p).faults ∧
          (s.railOk 6 = true → t.raised EV.PRT_LINK_DOWN p = true) ∧ t.linkState p = (if sig then lsWAIT_SIGNAL else lsALIGN))) ∧
      (s.linkState p = lsDOWN_PENDING → t.linkState p = lsDOWN_PENDING) ∧
      (s.linkState p < lsUP → sig = true → t.linkState p = lsWAIT_SIGNAL) ∧
      (s.linkState p = lsADAPT → sig = false → t.linkState p = lsADAPT) ∧
      (s.linkState p = lsUP_PENDING → sig = false → t.linkState p = (if lock || loc || rem then lsALIGN else lsUP_PENDING)) ∧
      (s.linkState p = lsALIGN → sig = false → t.linkState p =
        if lock || loc || rem || !s.bit PRT_STAT.FEC_LOCK p then lsALIGN
        else if s.rd PRT_LINK_CFG.UP_DEB p = 0 then lsUP else lsUP_PENDING) := by
  have hexec : exec (.portLinkFault p sig lock loc rem) s = fin ((s.linkFault p (faultWord sig lock loc rem)).noteLine s p) :=
    if_neg (by simp [hf, hlo, hhi])
  obtain ⟨b0, b1, b2, b3⟩ := faultWord_bits sig lock loc rem
  have hz := faultWord_eq_zero sig lock loc rem
  rw [yields_iff, hexec, ends_fin]
  generalize hword : faultWord sig lock loc rem = f at b0 b1 b2 b3 hz ⊢
  have hk := (s.linkFault p f).noteLine_settle_linkKept s p
  have hshown := s.linkFault_shown p f
  have hfaults : (((s.linkFault p f).noteLine s p).settle.port p).faults = f := by rw [hk.faults, hshown.faults]
  have hbit {g : Fld} (hg : g ∈ faultFlds) : ((s.linkFault p f).noteLine s p).settle.bit g p = (s.faultLink p f).bit g p := by
    rw [hk.bit (faultFlds_link hg)]
    unfold State.bit
    rw [hshown.bits g hg]
  have hev : ((s.linkFault p f).noteLine s p).settle.raised EV.PRT_LINK_DOWN p = (s.linkFault p f).raised EV.PRT_LINK_DOWN p :=
    State.noteLine_settle_raised _ s p (by decide +kernel) (by decide +kernel) p
  refine ⟨hfaults.trans hword.symm, by rw [hbit (by decide), State.faultLink_local, b2], by rw [hbit (by decide), State.faultLink_remote, b3],
    fun h h0 => ?_, fun h h1 => ?_, fun h => ?_, fun h hs => ?_, fun h hs => ?_, fun h hs => ?_, fun h hs => ?_⟩
  · rw [hk.linkState, s.linkFault_up p f h (hz.2 h0)]
  · have hne : f ≠ 0 := fun he => by rw [hz.1 he] at h1; exact absurd h1 (by decide)
    have htaken := (s.linkFault_taken p f h hne).keep hk hev
    rw [hfaults, ← b0]
    exact ⟨htaken.tx, htaken.preempted, htaken.downAt, htaken.waits, htaken.down⟩
  · rw [hk.linkState, s.linkFault_pending p f h]
  · rw [hk.linkState, s.linkFault_noSignal p f h (b0.trans hs)]
  · rw [hk.linkState, s.linkFault_adapt p f h (b0.trans hs)]
  · rw [hk.linkState, s.linkFault_upPending p f h (b0.trans hs)]
    rw [hs, Bool.false_or] at hz
    by_cases h0 : f = 0
    · rw [if_pos h0, hz.1 h0]
      rfl
    · rw [if_neg h0, if_pos (Bool.of_not_eq_false (mt hz.2 h0))]
  · rw [hk.linkState, s.linkFault_align p f h (b0.trans hs)]
    rw [hs, Bool.false_or] at hz
    by_cases h0 : f = 0
    · rw [hz.1 h0]
      cases s.bit PRT_STAT.FEC_LOCK p <;> simp [h0]
    · rw [if_neg fun hgo => h0 hgo.1, Bool.of_not_eq_false (mt hz.2 h0), Bool.true_or, if_pos rfl]

/-! ### Glitches and the end of the debounce -/

theorem glitch_acts (p : Fin 256) (s : State) (hf : s.fwdMode = true) (hl : s.linkState p = lsDOWN_PENDING)
    (hin : s.now ≤ (s.port p).downAt + s.rd PRT_LINK_CFG.DOWN_DEB p * usT) (h6 : s.railOk 6 = true) :
    Yields (.glitch p) s fun t => t.linkState p = lsUP ∧ (t.port p).faults = 0 ∧ t.raised EV.PRT_GLITCH p = true := by
  show Ends (execGlitch p s) _
  unfold execGlitch
  dsimp only
  rw [if_pos (by simp [hf, hl, hin]), ends_fin]
  generalize hu : (((((s.setLink p lsUP).updPort p fun o => { o with faults := 0 }).wr PRT_STAT.SIG_ALL p 1).wr PRT_STAT.FEC_LOCK p
    1).wr PRT_STAT.LOCAL_FAULT p 0).wr PRT_STAT.REMOTE_FAULT p 0 = u
  have hw : Within ⟨[.ports], [R.PRT_STAT], []⟩ s u := by
    rw [← hu]
    exact (State.wr_within ..).step ((State.wr_within ..).step ((State.wr_within ..).step ((State.wr_within ..).step
      ((State.updPort_within ..).step ((s.wr_within ..).step (.refl _ _) (by decide +kernel)) (by decide +kernel))
      (by decide +kernel)) (by decide +kernel)) (by decide +kernel)) (by decide +kernel)
  have hk : u.LinkKept (((u.raise EV.PRT_GLITCH p).frameEdge p).noteLine s p).settle :=
    ((u.raise_linkKept p (by decide +kernel)).trans (State.frameEdge_linkKept ..)).trans (State.noteLine_settle_linkKept ..)
  have hst : u.linkState p = lsUP := by
    rw [← hu]
    unfold State.setLink State.linkState
    rw [State.stat_wr_other _ (by decide) (by decide) (by decide), State.stat_wr_other _ (by decide) (by decide) (by decide),
      State.stat_wr_other _ (by decide) (by decide) (by decide), State.stat_wr_other _ (by decide) (by decide) (by decide),
      State.rd_updPort, State.stat_wr_self _ (by decide) (by decide)]
    decide
  have hfaults : (u.port p).faults = 0 := by
    rw [← hu, State.port_wr, State.port_wr, State.port_wr, State.port_wr, State.port_updPort_self]
  refine ⟨(hk.linkState p).trans hst, (hk.faults p).trans hfaults, ?_⟩
  rw [State.noteLine_settle_raised _ _ _ (by decide +kernel) (by decide +kernel),
    (State.frameEdge_within ..).raised_same (by decide +kernel)]
  exact State.raise_raised u _ p ((hw.railOk (by decide +kernel) (by decide) 6).trans h6) (by decide) p.isLt

theorem downDebounceExpiry_acts (p : Fin 256) (s : State) (hf : s.fwdMode = true) (hl : s.linkState p = lsDOWN_PENDING)
    (hne : (s.port p).faults ≠ 0) (hend : (s.port p).downAt + s.rd PRT_LINK_CFG.DOWN_DEB p * usT ≤ s.now) (h6 : s.railOk 6 = true) :
    Yields (.downDebounceExpiry p) s fun t => t.rd PRT_STAT.DOWN_CAUSE p = causeOf (s.port p).faults ∧
      t.raised EV.PRT_LINK_DOWN p = true ∧ t.linkState p = (if testBit (s.port p).faults 0 then lsWAIT_SIGNAL else lsALIGN) := by
  show Ends (execDownDebounceExpiry p s) _
  unfold execDownDebounceExpiry
  have hdeb : s.debEnds p = true := by
    unfold State.debEnds
    rw [show s.rd PRT_STAT.LINK_STATE p = 7 from hl]
    simp [hne, hend]
  rw [if_pos (by rw [hf, hdeb]; rfl), ends_fin]
  have hk := (s.debounced p).noteLine_settle_linkKept s p
  have hdown := s.debounced_wentDown p
  rw [hk.stat _ (by decide), hk.linkState, State.noteLine_settle_raised _ _ _ (by decide +kernel) (by decide +kernel)]
  exact ⟨hdown.cause, hdown.event h6, s.debounced_linkState p⟩

/-! ### Events of a port that a switch reset of this tick has stopped (R450, log entry 103) -/

theorem State.pastCut_railOk (s : State) (e : CutEv) (r : Nat) : (s.pastCut e).railOk r = s.railOk r := rfl

/-- The event is raised, and the port's state stays. -/
theorem State.pastCut_raise (s : State) (c : CutEv) {e : Ev} (p : Fin 256) (h6 : s.railOk (blockRail e.block) = true)
    (hbit : e.bitNo < 32) (hi : e.inst p < e.stat.count) (hs : Scope.spares ⟨[.evt], [e.stat], []⟩ R.PRT_STAT = true) :
    ((s.pastCut c).raise e p).raised e p = true ∧ ((s.pastCut c).raise e p).linkState p = s.linkState p :=
  ⟨State.raise_raised _ e p h6 hbit hi, (State.raise_within ..).rd_same hs p⟩

theorem State.settle_raised_linkState {s t : State} {e : Ev} {p : Nat} (he : State.settle_scope.spares e.stat = true)
    (h : t.raised e p = true ∧ t.linkState p = s.linkState p) :
    t.settle.raised e p = true ∧ t.settle.linkState p = s.linkState p :=
  ⟨((State.settle_within t).raised_same he p).trans h.1, (t.settle_linkKept.linkState p).trans h.2⟩

theorem downDebounceExpiry_cut (p : Fin 256) (s : State) (hno : (s.fwdMode && s.debEnds p) = false)
    (hcut : s.wasCut (.portDown p) = true) (h6 : s.railOk 6 = true) :
    Yields (.downDebounceExpiry p) s fun t => t.raised EV.PRT_LINK_DOWN p = true ∧ t.linkState p = s.linkState p := by
  show Ends (execDownDebounceExpiry p s) _
  unfold execDownDebounceExpiry
  rw [if_neg (by rw [hno]; decide), if_pos hcut, ends_fin]
  exact State.settle_raised_linkState (by decide +kernel) (s.pastCut_raise _ p h6 (by decide) p.isLt (by decide +kernel))

theorem upDebounceExpiry_cut (p : Fin 256) (s : State) (hf : s.fwdMode = false) (hcut : s.wasCut (.portUp p) = true)
    (h6 : s.railOk 6 = true) :
    Yields (.upDebounceExpiry p) s fun t => t.raised EV.PRT_LINK_UP p = true ∧ t.linkState p = s.linkState p := by
  show Ends (execUpDebounceExpiry p s) _
  unfold execUpDebounceExpiry
  rw [if_neg (by simp [hf]), if_pos hcut, ends_fin]
  exact State.settle_raised_linkState (by decide +kernel) (s.pastCut_raise _ p h6 (by decide) p.isLt (by decide +kernel))

theorem glitch_cut (p : Fin 256) (s : State) (hf : s.fwdMode = false) (hcut : s.wasCut (.portGlitch p) = true)
    (h6 : s.railOk 6 = true) :
    Yields (.glitch p) s fun t => t.raised EV.PRT_GLITCH p = true ∧ t.linkState p = s.linkState p := by
  show Ends (execGlitch p s) _
  unfold execGlitch
  dsimp only
  rw [if_neg (by simp [hf]), if_pos hcut, ends_fin]
  exact State.settle_raised_linkState (by decide +kernel) (s.pastCut_raise _ p h6 (by decide) p.isLt (by decide +kernel))

theorem attemptTimeout_cut (p : Fin 256) (s : State) (hf : s.fwdMode = false) (hcut : s.wasCut (.portFail p) = true)
    (h6 : s.railOk 6 = true) :
    Yields (.attemptTimeout p) s fun t => t.raised EV.PRT_LINK_FAIL p = true ∧ t.linkState p = s.linkState p := by
  show Ends (execAttemptTimeout p s) _
  unfold execAttemptTimeout
  dsimp only
  rw [if_pos (by simp [hf]), if_pos hcut, ends_fin]
  obtain ⟨hraised, hstate⟩ := s.pastCut_raise (.portFail p) (e := EV.PRT_LINK_FAIL) p h6 (by decide) p.isLt (by decide +kernel)
  refine State.settle_raised_linkState (by decide +kernel) ⟨?_, ?_⟩
  · rw [(State.lastingFault_within ..).raised_same (by decide +kernel), hraised]
  · exact ((State.lastingFault_within ..).rd_same (by decide +kernel) p).trans hstate

/-! ### FEC counts (R140) -/

theorem State.count_railOk (s : State) (n k r : Nat) : (s.count n k).railOk r = s.railOk r :=
  (s.count_within n k).railOk (by decide +kernel) (by decide) r

theorem State.raise_slot (s : State) (e : Ev) (i n : Nat) : (s.raise e i).slot n = s.slot n := s.raiseObj_slot ..

theorem State.settle_slot (s : State) (n : Nat) : s.settle.slot n = s.slot n := State.slot_eq s.settle_tally s.settle_tacc n

theorem fecDegradeWindow_acts (p : Fin 256) (c : FecCounts) (s : State) (hf : s.fwdMode = true) (hlo : lsALIGN ≤ s.linkState p)
    (hhi : s.linkState p ≤ lsDOWN_PENDING) (h1 : s.railOk 1 = true) (h6 : s.railOk 6 = true) :
    Yields (.fecDegradeWindow p c) s fun t =>
      t.slot (prtSlot p 38) = (s.slot (prtSlot p 38) + c.corrected) % 2 ^ 48 ∧
      t.slot (prtSlot p 39) = (s.slot (prtSlot p 39) + c.uncorrectable) % 2 ^ 48 ∧
      t.slot (prtSlot p 40) = (s.slot (prtSlot p 40) + c.symbols) % 2 ^ 48 ∧
      (s.rd PRT_FEC_CFG.DEGRADE_THR p ≠ 0 → s.rd PRT_FEC_CFG.DEGRADE_THR p < c.symbols → t.raised EV.PRT_FEC_DEGRADE p = true) := by
  have hne (i j : Nat) (h : i ≠ j) : prtSlot p i ≠ prtSlot p j := by unfold prtSlot; omega
  show Ends (execFecDegradeWindow p c s) _
  unfold execFecDegradeWindow
  extract_lets thr degraded u
  have h38 : u.slot (prtSlot p 38) = (s.slot (prtSlot p 38) + c.corrected) % 2 ^ 48 := by
    unfold u
    rw [State.slot_count_ne _ (hne _ _ (by decide)), State.slot_count_ne _ (hne _ _ (by decide)), s.slot_count_self h1]
  have h39 : u.slot (prtSlot p 39) = (s.slot (prtSlot p 39) + c.uncorrectable) % 2 ^ 48 := by
    unfold u
    rw [State.slot_count_ne _ (hne _ _ (by decide)), State.slot_count_self _ (by rw [State.count_railOk, h1]),
      s.slot_count_ne (hne _ _ (by decide))]
  have h40 : u.slot (prtSlot p 40) = (s.slot (prtSlot p 40) + c.symbols) % 2 ^ 48 := by
    unfold u
    rw [State.slot_count_self _ (by rw [State.count_railOk, State.count_railOk, h1]), State.slot_count_ne _ (hne _ _ (by decide)),
      s.slot_count_ne (hne _ _ (by decide))]
  have hrail : u.railOk 6 = true := by
    unfold u
    rw [State.count_railOk, State.count_railOk, State.count_railOk, h6]
  rw [if_neg (by simp [hf, hlo, hhi])]
  by_cases hd : degraded = true
  · rw [if_pos hd, ends_fin, State.settle_slot, State.settle_slot, State.settle_slot, State.raise_slot, State.raise_slot,
      State.raise_slot, (State.settle_within _).raised_same (by decide +kernel)]
    exact ⟨h38, h39, h40, fun _ _ => State.raise_raised u _ p hrail (by decide) p.isLt⟩
  · rw [if_neg hd, ends_fin, State.settle_slot, State.settle_slot, State.settle_slot]
    refine ⟨h38, h39, h40, fun hthr hlt => absurd ?_ hd⟩
    simp [degraded, thr, hthr, hlt]

/-! ### The statement -/

/-- Settles O24: a lemma for each row of bring-up and of link faults. -/
theorem portsTrainAct : Obligations.PortsTrainAct := by
  unfold Obligations.PortsTrainAct
  refine ⟨fun o s h => ?_, fun o s h => ?_, alignLock_acts, attemptTimeout_acts, upDebounceExpiry_acts, portLinkFault_acts, glitch_acts,
    downDebounceExpiry_acts, downDebounceExpiry_cut, upDebounceExpiry_cut, glitch_cut, attemptTimeout_cut, fecDegradeWindow_acts⟩
  · cases o with
    | port p => exact signalDetect_port_acts p s h
    | carrier c => exact signalDetect_carrier_acts c s h
    | mirror i => exact signalDetect_mirror_acts i s h
  · cases o with
    | port p => exact adaptDone_port_acts p s h
    | carrier c => exact adaptDone_carrier_acts c s h
    | mirror i => exact adaptDone_mirror_acts i s h

end Sys2Proof.Machine
end

section
/-! PROOFS. Frames received at a client port: buffers, counters and the pipeline (R141, R142, R147, R152, R161), for O25. -/
set_option Elab.async false
namespace Sys2Proof.Machine

/-! ### Assemblies and their buffers (R244, R247, R248) -/

/-- A frame being received, its buffers and its place left out. -/
def Assembly.core (a : Assembly) : Assembly := { a with bufs := [], cls := none, gone := false }

/-- The requests for buffers of a frame change neither a link, nor a port's counters, nor the frame. -/
structure State.Fills (s : State) (a : Assembly) (r : Assembly × State) : Prop where
  link : s.LinkKept r.2
  slots : s.SlotsKept r.2
  core : r.1.core = a.core

theorem State.Fills.refl (s : State) (a : Assembly) : s.Fills a (a, s) := ⟨.refl s, .refl s, rfl⟩

theorem State.Fills.trans {s : State} {a : Assembly} {q r : Assembly × State} (h : s.Fills a q) (h' : q.2.Fills q.1 r) :
    s.Fills a r := ⟨h.link.trans h'.link, h.slots.trans h'.slots, h'.core.trans h.core⟩

theorem State.dropAsm_slotsKept (s : State) (p : Nat) (a : Assembly) : s.SlotsKept (s.dropAsm p a) := by
  unfold State.dropAsm
  extract_lets u
  have hu : s.SlotsKept u := s.freeBufs_slotsKept ..
  split
  · exact hu.trans (State.subIn_slotsKept ..)
  · exact hu

theorem State.refuse_fills (s : State) (p i : Nat) (a : Assembly) : s.Fills a (s.refuse p i a) :=
  ⟨(s.dropAsm_linkKept p a).trans (State.count_linkKept ..),
    (s.dropAsm_slotsKept p a).trans (State.count_slotsKept _ (by unfold grnSrcSlot; omega) 1), rfl⟩

theorem State.request_linkKept (s : State) (p : Nat) (t : Tag) : s.LinkKept (s.request p t).2 :=
  .of_within (s.request_snd p t) (by decide +kernel) (by decide)

theorem State.moreBuf_fills (s : State) (p : Nat) (a : Assembly) : s.Fills a (s.moreBuf p a) := by
  have hlink := s.request_linkKept (s.com GRN_IN_CFG.POOL p) (rxTag p)
  have hslots := s.request_slotsKept (s.com GRN_IN_CFG.POOL p) (rxTag p)
  unfold State.moreBuf
  generalize s.request (s.com GRN_IN_CFG.POOL p) (rxTag p) = r at hlink hslots
  obtain ⟨b, u⟩ := r
  cases b with
  | none => exact (State.Fills.mk (r := (a, u)) hlink hslots rfl).trans (u.refuse_fills p 8 a)
  | some b =>
    dsimp only at hlink hslots ⊢
    cases a.cls with
    | none => exact ⟨hlink, hslots, rfl⟩
    | some c => exact ⟨hlink.trans (u.addIn_linkKept ..), hslots.trans (u.addIn_slotsKept ..), rfl⟩

theorem State.fillAsm_fills (s : State) (p k : Nat) (a : Assembly) : s.Fills a (s.fillAsm p k a) := by
  induction k generalizing s a with
  | zero => exact .refl s a
  | succ k ih =>
    unfold State.fillAsm
    split
    · exact .refl s a
    split
    · exact (s.moreBuf_fills p a).trans (ih ..)
    cases hc : a.cls with
    | none =>
      dsimp only
      split
      · exact .refl s a
      split
      · exact s.refuse_fills p _ a
      · refine State.Fills.trans (q := ({ a with cls := some _ }, s.addIn p _ _)) ?_ (ih ..)
        exact ⟨s.addIn_linkKept .., s.addIn_slotsKept .., rfl⟩
    | some c =>
      dsimp only
      split
      · exact .refl s a
      split
      · exact s.refuse_fills p _ a
      · exact (s.moreBuf_fills p a).trans (ih ..)

/-- The frame with the bytes that have arrived, stored up to its limit (R142). -/
def Assembly.joined (a : Assembly) (bs : List Byte) (bad : Bool) : Assembly :=
  { a with bytes := (a.bytes ++ bs).take a.max, len := a.len + bs.length, crc := bs.foldl (crcLsbByte 0xEDB88320) a.crc,
           bad := a.bad || bad }

theorem State.join_fills (s : State) (p : Nat) (a : Assembly) (bs : List Byte) (bad : Bool) :
    s.Fills (a.joined bs bad) (s.join p a bs bad) := by
  unfold State.join
  extract_lets b
  split
  · exact .refl s b
  · have hfill := s.fillAsm_fills p (bs.length + 3) b
    generalize s.fillAsm p (bs.length + 3) b = r at hfill
    obtain ⟨c, u⟩ := r
    dsimp only
    split
    · exact hfill.trans ⟨u.dropAsm_linkKept p c, u.dropAsm_slotsKept p c, rfl⟩
    · exact hfill

/-! ### What happens to a frame received whole (R141) -/

/-- The row of R141 of a MAC control frame, none for a PFC frame. -/
def State.ctrlRow (s : State) (p : Nat) (bs : List Byte) : Option Nat :=
  if bs.take 6 ≠ [0x01, 0x80, 0xC2, 0x00, 0x00, 0x01] then some 14
  else if be16 bs 14 = 0x0001 && s.com PRT_CFG.FC_MODE p = 1 then some 5
  else if be16 bs 14 = 0x0101 && s.com PRT_CFG.FC_MODE p = 2 then none
  else some 14

/-- The row of R141 of a frame. -/
def State.asmRow (s : State) (p : Nat) (a : Assembly) (cut : Bool) : Option Nat :=
  if cut then some 21
  else if a.bad then some 20
  else if a.len ≤ 63 then some (if a.good then 15 else 16)
  else if a.max < a.len then some (if a.good then 17 else 18)
  else if !a.good then some 19
  else if be16 a.bytes 12 = etCTRL then s.ctrlRow p a.bytes
  else if s.comB PRT_CFG.IP_CSUM_CHECK p && badIp4 (a.bytes.take (a.len - 4)) then some 22
  else some 0

/-- A frame with buffers goes the way of its row. -/
def State.rxSort (s : State) (p : Nat) (a : Assembly) (cut : Bool) : State :=
  if cut then s.endAsm p a 21
  else if a.bad then s.endAsm p a 20
  else if a.len ≤ 63 then s.endAsm p a (if a.good then 15 else 16)
  else if a.max < a.len then s.endAsm p a (if a.good then 17 else 18)
  else if !a.good then s.endAsm p a 19
  else if be16 a.bytes 12 = etCTRL then (s.dropAsm p a).rxControl p a.bytes
  else if s.comB PRT_CFG.IP_CSUM_CHECK p && badIp4 (a.bytes.take (a.len - 4)) then s.endAsm p a 22
  else s.admitRx p (a.cls.getD 0) a.bytes a.inst a.bufs

theorem State.rxEnd_eq (s : State) (p : Nat) (a : Assembly) (cut : Bool) :
    s.rxEnd p a cut = if a.gone then s.count (prtSlot p 26) a.len else (s.count (prtSlot p 26) a.len).rxSort p a cut := rfl

theorem prtSlot_ne (p : Nat) {i j : Nat} (h : i ≠ j) : prtSlot p i ≠ prtSlot p j := by
  unfold prtSlot
  omega

theorem prtSlot_lt (p : Fin 256) {i : Nat} (h : i < 128) : prtSlot p i < 32768 := by
  have := p.isLt
  unfold prtSlot
  omega

theorem State.endAsm_slot_self (s : State) (p : Fin 256) (a : Assembly) {i : Nat} (hi : i < 128) (h1 : s.railOk 1 = true) :
    (s.endAsm p a i).slot (prtSlot p i) = (s.slot (prtSlot p i) + 1) % 2 ^ 48 := by
  unfold State.endAsm
  rw [State.slot_count_self _ (by rw [(s.dropAsm_within p a).railOk (by decide +kernel) (by decide), h1]),
    (s.dropAsm_slotsKept p a).slot _ (prtSlot_lt p hi)]

theorem State.endAsm_slot_ne (s : State) (p : Fin 256) (a : Assembly) {i j : Nat} (hj : j < 128) (h : j ≠ i) :
    (s.endAsm p a i).slot (prtSlot p j) = s.slot (prtSlot p j) := by
  unfold State.endAsm
  rw [State.slot_count_ne _ (prtSlot_ne p h), (s.dropAsm_slotsKept p a).slot _ (prtSlot_lt p hj)]

/-! ### Pauses (R147, R148) -/

theorem State.setPause_slot (s : State) (p c q n : Nat) : (s.setPause p c q).slot n = s.slot n := rfl

theorem State.setPauses_slot (s : State) (p q n : Nat) (l : List Nat) : (l.foldl (fun s c => s.setPause p c q) s).slot n = s.slot n :=
  foldl_keeps (R := fun s t => t.slot n = s.slot n) (fun _ => rfl) (fun h h' => h'.trans h) (fun s c => s.setPause_slot p c q n) l s

theorem State.notePaused_slot (s : State) (p n : Nat) : (s.notePaused p).slot n = s.slot n :=
  State.slot_eq ((s.notePaused_within p).part .tally (by decide)) ((s.notePaused_within p).part .tacc (by decide)) n

/-- One class of a received PFC frame. -/
def State.pfcClass (s : State) (p : Nat) (bs : List Byte) (c : Nat) : State :=
  if testBit (be16 bs 16) c && testBit (s.com PRT_PFC_CFG.RX_EN p) c then
    (s.setPause p c (be16 bs (18 + 2 * c))).count (prtSlot p (6 + c))
  else s

theorem State.pfcClass_within (s : State) (p : Nat) (bs : List Byte) (c : Nat) : Within State.rxControl_scope s (s.pfcClass p bs c) :=
  .ite ((State.count_within ..).step ((s.setPause_within ..).step (.refl _ _) (by decide +kernel)) (by decide +kernel)) (.refl _ _)

theorem State.pfcClass_slot_ne (s : State) (p : Nat) (bs : List Byte) {c i : Nat} (h : i ≠ 6 + c) :
    (s.pfcClass p bs c).slot (prtSlot p i) = s.slot (prtSlot p i) := by
  unfold State.pfcClass
  split
  · rw [State.slot_count_ne _ (prtSlot_ne p h), State.setPause_slot]
  · rfl

theorem State.pfcClass_slot_self (s : State) (p : Nat) (bs : List Byte) {c : Nat} (hv : testBit (be16 bs 16) c = true)
    (hen : testBit (s.com PRT_PFC_CFG.RX_EN p) c = true) (h1 : s.railOk 1 = true) :
    (s.pfcClass p bs c).slot (prtSlot p (6 + c)) = (s.slot (prtSlot p (6 + c)) + 1) % 2 ^ 48 := by
  unfold State.pfcClass
  rw [if_pos (by rw [hv, hen]; rfl)]
  exact (s.setPause p c _).slot_count_self h1 _ 1

theorem State.rxControl_eq (s : State) (p : Nat) (bs : List Byte) : s.rxControl p bs =
    if bs.take 6 ≠ [0x01, 0x80, 0xC2, 0x00, 0x00, 0x01] then s.count (prtSlot p 14)
    else if be16 bs 14 = 0x0001 && s.com PRT_CFG.FC_MODE p = 1 then
      (((List.range 8).foldl (fun s c => s.setPause p c (be16 bs 16)) s).notePaused p).count (prtSlot p 5)
    else if be16 bs 14 = 0x0101 && s.com PRT_CFG.FC_MODE p = 2 then
      ((List.range 8).foldl (fun s c => s.pfcClass p bs c) s).notePaused p
    else s.count (prtSlot p 14) := rfl

/-- Only a class of a PFC frame, a PAUSE frame and another MAC control frame count. -/
theorem State.rxControl_slot_keeps (s : State) (p : Nat) (bs : List Byte) {i : Nat} (hi : 15 ≤ i) :
    (s.rxControl p bs).slot (prtSlot p i) = s.slot (prtSlot p i) := by
  have hother (x : State) : (x.count (prtSlot p 14)).slot (prtSlot p i) = x.slot (prtSlot p i) :=
    x.slot_count_ne (prtSlot_ne p (by omega)) 1
  rw [s.rxControl_eq]
  split
  · exact hother s
  split
  · rw [State.slot_count_ne _ (prtSlot_ne p (by omega)), State.notePaused_slot, State.setPauses_slot]
  split
  · have hall : ∀ l : List Nat, (∀ c ∈ l, c < 8) → ∀ x : State,
        (l.foldl (fun s c => s.pfcClass p bs c) x).slot (prtSlot p i) = x.slot (prtSlot p i) := by
      intro l
      induction l with
      | nil => intro _ x; rfl
      | cons c l ih =>
        intro hl x
        have hc := hl c List.mem_cons_self
        rw [List.foldl_cons, ih (fun d hd => hl d (List.mem_cons_of_mem _ hd)), State.pfcClass_slot_ne _ _ _ (by omega)]
    rw [State.notePaused_slot, hall _ (fun c hc => List.mem_range.1 hc)]
  · exact hother s

/-- A MAC control frame counts under its row. -/
theorem State.rxControl_row (s : State) (p : Nat) (bs : List Byte) {n : Nat} (h1 : s.railOk 1 = true) (hn : s.ctrlRow p bs = some n) :
    (s.rxControl p bs).slot (prtSlot p n) = (s.slot (prtSlot p n) + 1) % 2 ^ 48 := by
  rw [s.rxControl_eq]
  unfold State.ctrlRow at hn
  split at hn
  · rw [if_pos ‹_›, ← Option.some.inj hn, s.slot_count_self h1]
  rw [if_neg ‹_›]
  split at hn
  · have hw : Within State.rxControl_scope s (((List.range 8).foldl (fun s c => s.setPause p c (be16 bs 16)) s).notePaused p) :=
      (State.notePaused_within ..).step (.foldl (.refl _ _) fun x c hx => (x.setPause_within ..).step hx (by decide +kernel))
        (by decide +kernel)
    rw [if_pos ‹_›, ← Option.some.inj hn, State.slot_count_self _ (by rw [hw.railOk (by decide +kernel) (by decide), h1]),
      State.notePaused_slot, State.setPauses_slot]
  rw [if_neg ‹_›]
  split at hn
  · cases hn
  · rw [if_neg ‹_›, ← Option.some.inj hn, s.slot_count_self h1]

/-- A PFC frame counts every class that it enables and that the port receives. -/
theorem State.rxControl_pfc (s : State) (p : Nat) (bs : List Byte) (h1 : s.railOk 1 = true) (hn : s.ctrlRow p bs = none) {c : Nat}
    (hc : c < 8) (hv : testBit (be16 bs 16) c = true) (hen : testBit (s.com PRT_PFC_CFG.RX_EN p) c = true) :
    (s.rxControl p bs).slot (prtSlot p (6 + c)) = (s.slot (prtSlot p (6 + c)) + 1) % 2 ^ 48 := by
  rw [s.rxControl_eq]
  unfold State.ctrlRow at hn
  split at hn
  · cases hn
  rw [if_neg ‹_›]
  split at hn
  · cases hn
  rw [if_neg ‹_›]
  split at hn
  · rw [if_pos ‹_›, State.notePaused_slot]
    refine foldl_range_at (n := 8) (p := c) hc
      (Pre := fun x => Within State.rxControl_scope s x ∧ x.slot (prtSlot p (6 + c)) = s.slot (prtSlot p (6 + c)))
      (Post := fun x => x.slot (prtSlot p (6 + c)) = (s.slot (prtSlot p (6 + c)) + 1) % 2 ^ 48) ⟨.refl _ _, rfl⟩
      (fun x k _ hk hx => ?_) (fun x hx => ?_) (fun x k _ hk hx => ?_)
    · obtain ⟨hw, hs⟩ := hx
      exact ⟨(x.pfcClass_within ..).step hw (by decide +kernel), by rw [x.pfcClass_slot_ne p bs (by omega), hs]⟩
    · obtain ⟨hw, hs⟩ := hx
      rw [x.pfcClass_slot_self p bs hv (by rw [State.com_eq (hw.part .committed (by decide)), hen])
        (by rw [hw.railOk (by decide +kernel) (by decide), h1]), hs]
    · rw [x.pfcClass_slot_ne p bs (by omega), hx]
  · cases hn

/-! ### A frame that enters its pipeline (R143, R161) -/

theorem castBin_le (bs : List Byte) : castBin bs ≤ 2 := by
  unfold castBin
  split <;> decide

theorem sizeBin_le (n : Nat) : sizeBin n ≤ 10 := by
  unfold sizeBin
  repeat' split
  all_goals omega

theorem State.countFrame_slot_frames (s : State) (p : Nat) (bs : List Byte) (h1 : s.railOk 1 = true) :
    (s.countFrame p 0 27 bs).slot (prtSlot p 0) = (s.slot (prtSlot p 0) + 1) % 2 ^ 48 := by
  unfold State.countFrame
  extract_lets u
  rw [State.slot_count_ne _ (prtSlot_ne p (by omega)), State.slot_count_ne _ (prtSlot_ne p (by omega))]
  unfold u
  rw [State.slot_count_ne _ (prtSlot_ne p (by omega)), s.slot_count_self h1]

theorem State.countFrame_slot_octets (s : State) (p : Nat) (bs : List Byte) (h1 : s.railOk 1 = true) :
    (s.countFrame p 0 27 bs).slot (prtSlot p 1) = (s.slot (prtSlot p 1) + bs.length) % 2 ^ 48 := by
  unfold State.countFrame
  extract_lets u
  rw [State.slot_count_ne _ (prtSlot_ne p (by omega)), State.slot_count_ne _ (prtSlot_ne p (by omega))]
  unfold u
  rw [State.slot_count_self _ (by rw [State.count_railOk, h1]), s.slot_count_ne (prtSlot_ne p (by omega))]

theorem State.countFrame_slot_keeps (s : State) (p : Nat) (bs : List Byte) {i : Nat} (hlo : 5 ≤ i) (hhi : i < 27) :
    (s.countFrame p 0 27 bs).slot (prtSlot p i) = s.slot (prtSlot p i) := by
  have hcast := castBin_le bs
  have hsize := sizeBin_le bs.length
  unfold State.countFrame
  extract_lets u
  rw [State.slot_count_ne _ (prtSlot_ne p (by omega)), State.slot_count_ne _ (prtSlot_ne p (by omega))]
  unfold u
  rw [State.slot_count_ne _ (prtSlot_ne p (by omega)), s.slot_count_ne (prtSlot_ne p (by omega))]

theorem State.rxReport_slotsKept (s : State) (p : Nat) (bs : List Byte) (i : Inst) : s.SlotsKept (s.rxReport p bs i) := by
  unfold State.rxReport
  split
  · extract_lets u
    have hu : s.SlotsKept u := s.count_slotsKept (by unfold stmpSlot; omega) 1
    split
    · exact hu.trans (.of_within (State.report_within ..) (by decide) (by decide))
    · exact hu
  · exact .refl s

/-- A frame with the next frame number enters its pipeline: no counter counts, and it stands in the queue. -/
theorem State.accept_slot (s : State) (k : Nat) (f : Frame) (n : Nat) : ({ s with nextFrame := k }.accept f).slot n = s.slot n := rfl

theorem State.accept_queued (s : State) (k : Nat) (f : Frame) : f ∈ SMap.at! ({ s with nextFrame := k }.accept f).fwd.pipeQ f.pipe := by
  have hq : ({ s with nextFrame := k }.accept f).fwd.pipeQ = SMap.upd s.fwd.pipeQ f.pipe (· ++ [f]) := rfl
  rw [hq, SMap.get_upd_self]
  simp

theorem State.admitRx_slot (s : State) (p : Fin 256) (c : Nat) (bs : List Byte) (i : Inst) (got : List (Nat × Nat)) {n : Nat}
    (hn : n < 128) : (s.admitRx p c bs i got).slot (prtSlot p n) = (s.countFrame p 0 27 bs).slot (prtSlot p n) := by
  rw [← ((s.countFrame p 0 27 bs).rxReport_slotsKept p bs i).slot _ (prtSlot_lt p hn)]
  unfold State.admitRx
  extract_lets u v f
  exact v.accept_slot ..

theorem State.admitRx_queued (s : State) (p c : Nat) (bs : List Byte) (i : Inst) (got : List (Nat × Nat)) :
    ∃ f ∈ SMap.at! (s.admitRx p c bs i got).fwd.pipeQ (s.com PRT_CFG.FIRST_LANE p / 16), f.id = s.nextFrame ∧ f.bytes = bs ∧
      f.src = p := by
  unfold State.admitRx
  extract_lets u v f
  have hv : Within State.admitRx_scope s v :=
    (u.rxReport_within p bs i).step ((s.countFrame_within ..).step (.refl _ _) (by decide +kernel)) (by decide +kernel)
  have hpipe : f.pipe = s.com PRT_CFG.FIRST_LANE p / 16 := congrArg (· / 16) (State.com_eq (hv.part .committed (by decide)) _ _)
  have hid : v.nextFrame = s.nextFrame := by
    rw [(u.rxReport_within p bs i).part .nextFrame (by decide), (s.countFrame_within ..).part .nextFrame (by decide)]
  rw [← hpipe]
  exact ⟨f, v.accept_queued _ f, hid, rfl, rfl⟩

end Sys2Proof.Machine
end

section
/-! PROOFS. Received frames and fragments at a client port (R141, R151, R152, R163), for O25. -/
set_option Elab.async false
namespace Sys2Proof.Machine

/-! ### A frame with buffers and its row -/

theorem State.ctrlRow_eq {s t : State} (h : t.committed = s.committed) (p : Nat) (bs : List Byte) : t.ctrlRow p bs = s.ctrlRow p bs := by
  unfold State.ctrlRow
  rw [State.com_eq h]

theorem State.dropAsm_railOk (s : State) (p : Nat) (a : Assembly) (r : Nat) : (s.dropAsm p a).railOk r = s.railOk r :=
  (s.dropAsm_within p a).railOk (by decide +kernel) (by decide) r

theorem State.dropAsm_slot (s : State) (p : Fin 256) (a : Assembly) {i : Nat} (hi : i < 128) :
    (s.dropAsm p a).slot (prtSlot p i) = s.slot (prtSlot p i) := (s.dropAsm_slotsKept p a).slot _ (prtSlot_lt p hi)

theorem State.dropAsm_com (s : State) (p : Nat) (a : Assembly) : (s.dropAsm p a).committed = s.committed :=
  (s.dropAsm_within p a).part .committed (by decide)

theorem State.ctrlRow_some {s : State} {p : Nat} {bs : List Byte} {n : Nat} (h : s.ctrlRow p bs = some n) : n = 5 ∨ n = 14 := by
  unfold State.ctrlRow at h
  split at h
  · exact .inr (Option.some.inj h).symm
  split at h
  · exact .inl (Option.some.inj h).symm
  split at h
  · cases h
  · exact .inr (Option.some.inj h).symm

/-- A frame is dropped under a counter of errors, is a MAC control frame, or is admitted. -/
theorem State.rxSort_cases (s : State) (p : Nat) (a : Assembly) (cut : Bool) :
    (∃ j, 15 ≤ j ∧ j < 23 ∧ s.asmRow p a cut = some j ∧ s.rxSort p a cut = s.endAsm p a j) ∨
    (s.asmRow p a cut = s.ctrlRow p a.bytes ∧ s.rxSort p a cut = (s.dropAsm p a).rxControl p a.bytes) ∨
    (s.asmRow p a cut = some 0 ∧ s.rxSort p a cut = s.admitRx p (a.cls.getD 0) a.bytes a.inst a.bufs) := by
  unfold State.asmRow State.rxSort
  split
  · exact .inl ⟨21, by decide, by decide, rfl, rfl⟩
  split
  · exact .inl ⟨20, by decide, by decide, rfl, rfl⟩
  split
  · exact .inl ⟨if a.good then 15 else 16, by split <;> decide, by split <;> decide, rfl, rfl⟩
  split
  · exact .inl ⟨if a.good then 17 else 18, by split <;> decide, by split <;> decide, rfl, rfl⟩
  split
  · exact .inl ⟨19, by decide, by decide, rfl, rfl⟩
  split
  · exact .inr (.inl ⟨rfl, rfl⟩)
  split
  · exact .inl ⟨22, by decide, by decide, rfl, rfl⟩
  · exact .inr (.inr ⟨rfl, rfl⟩)

/-- The counts of octets and of fragments have been made before a frame goes its way. -/
theorem State.rxSort_slot_keeps (s : State) (p : Fin 256) (a : Assembly) (cut : Bool) {i : Nat} (hlo : 23 ≤ i) (hhi : i ≤ 26) :
    (s.rxSort p a cut).slot (prtSlot p i) = s.slot (prtSlot p i) := by
  rcases s.rxSort_cases p a cut with ⟨j, _, hj, _, he⟩ | ⟨_, he⟩ | ⟨_, he⟩ <;> rw [he]
  · exact s.endAsm_slot_ne p a (by omega) (by omega)
  · rw [State.rxControl_slot_keeps _ _ _ (by omega), s.dropAsm_slot p a (by omega)]
  · rw [s.admitRx_slot p _ _ _ _ (by omega), s.countFrame_slot_keeps p _ (by omega) (by omega)]

/-- The counter of the row counts the frame. -/
theorem State.rxSort_row (s : State) (p : Fin 256) (a : Assembly) (cut : Bool) {n : Nat} (h1 : s.railOk 1 = true)
    (hn : s.asmRow p a cut = some n) : (s.rxSort p a cut).slot (prtSlot p n) = (s.slot (prtSlot p n) + 1) % 2 ^ 48 := by
  rcases s.rxSort_cases p a cut with ⟨j, _, hj, hrow, he⟩ | ⟨hrow, he⟩ | ⟨hrow, he⟩ <;> rw [he]
  · rw [← Option.some.inj (hrow.symm.trans hn), s.endAsm_slot_self p a (by omega) h1]
  · have hctrl := hrow.symm.trans hn
    have hlt : n < 128 := by have := State.ctrlRow_some hctrl; omega
    rw [State.rxControl_row _ _ _ (by rw [s.dropAsm_railOk, h1]) (by rw [State.ctrlRow_eq (s.dropAsm_com p a), hctrl]),
      s.dropAsm_slot p a hlt]
  · rw [← Option.some.inj (hrow.symm.trans hn), s.admitRx_slot p _ _ _ _ (by decide), s.countFrame_slot_frames p _ h1]

/-- A frame of no row is a PFC frame: it counts the classes that it enables and the port receives. -/
theorem State.rxSort_pfc (s : State) (p : Fin 256) (a : Assembly) (cut : Bool) (h1 : s.railOk 1 = true)
    (hn : s.asmRow p a cut = none) {c : Nat} (hc : c < 8) (hv : testBit (be16 a.bytes 16) c = true)
    (hen : testBit (s.com PRT_PFC_CFG.RX_EN p) c = true) :
    (s.rxSort p a cut).slot (prtSlot p (6 + c)) = (s.slot (prtSlot p (6 + c)) + 1) % 2 ^ 48 := by
  rcases s.rxSort_cases p a cut with ⟨j, _, _, hrow, _⟩ | ⟨hrow, he⟩ | ⟨hrow, _⟩
  · cases hrow.symm.trans hn
  · rw [he, State.rxControl_pfc _ _ _ (by rw [s.dropAsm_railOk, h1])
      (by rw [State.ctrlRow_eq (s.dropAsm_com p a), ← hrow, hn]) hc hv (by rw [State.com_eq (s.dropAsm_com p a), hen]),
      s.dropAsm_slot p a (by omega)]
  · cases hrow.symm.trans hn

/-- A frame of row 0 is admitted. -/
theorem State.rxSort_admits (s : State) (p : Nat) (a : Assembly) (cut : Bool) (hn : s.asmRow p a cut = some 0) :
    s.rxSort p a cut = s.admitRx p (a.cls.getD 0) a.bytes a.inst a.bufs := by
  rcases s.rxSort_cases p a cut with ⟨j, hlo, _, hrow, _⟩ | ⟨hrow, _⟩ | ⟨_, he⟩
  · have := Option.some.inj (hrow.symm.trans hn)
    omega
  · have := State.ctrlRow_some (hrow.symm.trans hn)
    omega
  · exact he

theorem State.asmRow_lt {s : State} {p : Nat} {a : Assembly} {cut : Bool} {n : Nat} (hn : s.asmRow p a cut = some n) : n < 23 := by
  rcases s.rxSort_cases p a cut with ⟨j, _, hj, hrow, _⟩ | ⟨hrow, _⟩ | ⟨hrow, _⟩
  · have := Option.some.inj (hrow.symm.trans hn)
    omega
  · have := State.ctrlRow_some (hrow.symm.trans hn)
    omega
  · have := Option.some.inj (hrow.symm.trans hn)
    omega

/-- A frame past its limit is an error. -/
theorem State.asmRow_long (s : State) (p : Nat) {a : Assembly} (cut : Bool) (h : a.max < a.len) :
    ∃ j, 15 ≤ j ∧ s.asmRow p a cut = some j := by
  unfold State.asmRow
  rw [if_pos h]
  split
  · exact ⟨21, by decide, rfl⟩
  split
  · exact ⟨20, by decide, rfl⟩
  split
  · exact ⟨_, by split <;> decide, rfl⟩
  · exact ⟨_, by split <;> decide, rfl⟩

/-- The octets of a received frame are counted, whatever becomes of it. -/
theorem State.rxEnd_octets (s : State) (p : Fin 256) (a : Assembly) (cut : Bool) (h1 : s.railOk 1 = true) :
    (s.rxEnd p a cut).slot (prtSlot p 26) = (s.slot (prtSlot p 26) + a.len) % 2 ^ 48 := by
  rw [s.rxEnd_eq]
  split
  · exact s.slot_count_self h1 ..
  · rw [State.rxSort_slot_keeps _ p a cut (by decide) (by decide), s.slot_count_self h1]

/-- The counts of fragments are as before. -/
theorem State.rxEnd_slot_keeps (s : State) (p : Fin 256) (a : Assembly) (cut : Bool) {i : Nat} (hlo : 23 ≤ i) (hhi : i < 26) :
    (s.rxEnd p a cut).slot (prtSlot p i) = s.slot (prtSlot p i) := by
  rw [s.rxEnd_eq]
  split
  · exact s.slot_count_ne (prtSlot_ne p (by omega)) _
  · rw [State.rxSort_slot_keeps _ p a cut (by omega) (by omega), s.slot_count_ne (prtSlot_ne p (by omega))]

/-- What becomes of a frame with its buffers, by its row (R141). -/
structure State.RowTaken (s t : State) (p : Fin 256) (a : Assembly) (cut : Bool) : Prop where
  counted : ∀ n, s.asmRow p a cut = some n → t.slot (prtSlot p n) = (s.slot (prtSlot p n) + 1) % 2 ^ 48
  classes : s.asmRow p a cut = none → ∀ c < 8, testBit (be16 a.bytes 16) c = true →
    testBit (s.com PRT_PFC_CFG.RX_EN p) c = true → t.slot (prtSlot p (6 + c)) = (s.slot (prtSlot p (6 + c)) + 1) % 2 ^ 48
  octets : s.asmRow p a cut = some 0 → t.slot (prtSlot p 1) = (s.slot (prtSlot p 1) + a.bytes.length) % 2 ^ 48
  queued : s.asmRow p a cut = some 0 → ∃ f ∈ SMap.at! t.fwd.pipeQ (s.com PRT_CFG.FIRST_LANE p / 16),
    f.id = s.nextFrame ∧ f.bytes = a.bytes ∧ f.src = p

theorem State.asmRow_eq {s t : State} (h : t.committed = s.committed) (p : Nat) (a : Assembly) (cut : Bool) :
    t.asmRow p a cut = s.asmRow p a cut := by
  unfold State.asmRow State.comB
  rw [State.ctrlRow_eq h, State.com_eq h]

theorem State.rxEnd_taken (s : State) (p : Fin 256) (a : Assembly) (cut : Bool) (h1 : s.railOk 1 = true) (hg : a.gone = false) :
    s.RowTaken (s.rxEnd p a cut) p a cut := by
  have hu1 : (s.count (prtSlot p 26) a.len).railOk 1 = true := by rw [State.count_railOk, h1]
  have hcom : (s.count (prtSlot p 26) a.len).committed = s.committed := (s.count_within ..).part .committed (by decide)
  have hkeep {i : Nat} (h : i < 26) : (s.count (prtSlot p 26) a.len).slot (prtSlot p i) = s.slot (prtSlot p i) :=
    s.slot_count_ne (prtSlot_ne p (by omega)) _
  have hframe : (s.count (prtSlot p 26) a.len).nextFrame = s.nextFrame := (s.count_within ..).part .nextFrame (by decide)
  rw [s.rxEnd_eq, if_neg (by rw [hg]; decide)]
  generalize s.count (prtSlot p 26) a.len = u at hu1 hcom hkeep hframe
  have hrow := State.asmRow_eq hcom p a cut
  refine ⟨fun n hn => ?_, fun hn c hc hv hen => ?_, fun hn => ?_, fun hn => ?_⟩
  · have := State.asmRow_lt hn
    rw [u.rxSort_row p a cut hu1 (hrow.trans hn), hkeep (by omega)]
  · rw [u.rxSort_pfc p a cut hu1 (hrow.trans hn) hc hv (by rw [State.com_eq hcom, hen]), hkeep (by omega)]
  · rw [u.rxSort_admits p a cut (hrow.trans hn), u.admitRx_slot p _ _ _ _ (by decide), u.countFrame_slot_octets p _ hu1,
      hkeep (by omega)]
  · rw [u.rxSort_admits p a cut (hrow.trans hn), ← hframe, ← State.com_eq hcom]
    exact u.admitRx_queued ..

/-! ### RECEIVE_FRAME -/

/-- The state in which a looped-back receiver takes a frame: what it sent is off its list. -/
def State.rxFrom (s : State) (p : Fin 256) (k : RxKind) (bytes : List Byte) : State :=
  (s.echo p (.loopback p k bytes)).updPort p fun o => { o with loop := o.loop.drop 1 }

theorem State.rxFrom_within (s : State) (p : Fin 256) (k : RxKind) (bytes : List Byte) :
    Within ⟨[.ports, .out], [], []⟩ s (s.rxFrom p k bytes) :=
  (State.updPort_within ..).step ((s.echo_within ..).step (.refl _ _) (by decide +kernel)) (by decide +kernel)

theorem State.rxFrom_port (s : State) (p : Fin 256) (k : RxKind) (bytes : List Byte) :
    (s.rxFrom p k bytes).port p = { s.port p with loop := (s.port p).loop.drop 1 } := by
  unfold State.rxFrom
  rw [State.port_updPort_self, (s.echo_within ..).port_same (by decide)]

/-- What a port judges a received frame by is as before an echo. -/
theorem State.echo_judged (s : State) (p : Nat) (o : Out) : (s.echo p o).portUp p = s.portUp p ∧
    (∀ k bs, (s.echo p o).looped p k bs = s.looped p k bs) ∧
    (∀ n last bs, (s.echo p o).loopedFrag p n last bs = s.loopedFrag p n last bs) := by
  unfold State.echo
  extract_lets st
  split <;> exact ⟨rfl, fun _ _ => rfl, fun _ _ _ => rfl⟩

theorem State.rxFrom_slot (s : State) (p : Fin 256) (k : RxKind) (bytes : List Byte) (n : Nat) :
    (s.rxFrom p k bytes).slot n = s.slot n :=
  State.slot_eq ((s.rxFrom_within p k bytes).part .tally (by decide)) ((s.rxFrom_within p k bytes).part .tacc (by decide)) n

theorem execReceiveFrame_eq (p : Fin 256) (k : RxKind) (bytes : List Byte) (codeErr cut : Bool) (i : Inst) (s : State)
    (hup : s.portUp p = true) (hl : s.looped p k bytes = true) :
    exec (.receiveFrame p k bytes codeErr cut i) s = match k with
      | .frame => fin (((s.rxFrom p .frame bytes).join p ((s.rxFrom p .frame bytes).newAsm p i) bytes codeErr).2.rxEnd p
          ((s.rxFrom p .frame bytes).join p ((s.rxFrom p .frame bytes).newAsm p i) bytes codeErr).1 cut)
      | .verify => if (s.rxFrom p .verify bytes).comB PRT_CFG.PREEMPT_EN p then
          fin ((s.rxFrom p .verify bytes).macSend p (.respond p) .respond []) else fin (s.rxFrom p .verify bytes)
      | .respond => if ((s.rxFrom p .respond bytes).port p).verifyAt = 0 then fin (s.rxFrom p .respond bytes)
          else fin (((s.rxFrom p .respond bytes).updPort p fun o => { o with verifyAt := 0, verifyLeft := 0 }).wr
            PRT_STAT.PREEMPT_ACTIVE p 1) := by
  obtain ⟨hup', hl', _⟩ := s.echo_judged p (.loopback p k bytes)
  show execReceiveFrame p k bytes codeErr cut i s = _
  unfold execReceiveFrame
  dsimp only
  rw [if_neg (by rw [hup', hl', hup, hl]; decide)]
  cases k <;> rfl

/-- The assembly that a frame received whole begins with. -/
def State.rxNew (s : State) (p : Fin 256) (i : Inst) : Assembly := { count := 0, inst := i, max := s.maxAt p i.tick }

theorem State.rxFrom_newAsm (s : State) (p : Fin 256) (k : RxKind) (bytes : List Byte) (i : Inst) :
    (s.rxFrom p k bytes).newAsm p i = s.rxNew p i := by
  have hcom : (s.rxFrom p k bytes).committed = s.committed := (s.rxFrom_within p k bytes).part .committed (by decide)
  unfold State.newAsm State.rxNew State.maxAt
  rw [State.rxFrom_port]
  dsimp only
  rw [State.com_eq hcom]

/-- The row of a frame received whole, from its bytes. -/
theorem State.asmRow_received (s u : State) (p : Fin 256) (a : Assembly) (bytes : List Byte) (codeErr cut : Bool) (i : Inst)
    (hc : u.committed = s.committed) (ha : a.core = ((s.rxNew p i).joined bytes codeErr).core) :
    u.asmRow p a cut = s.rxRow p bytes codeErr cut i := by
  have hbytes : a.bytes = bytes.take (s.maxAt p i.tick) := congrArg Assembly.bytes ha
  have hlen : a.len = bytes.length := (congrArg Assembly.len ha).trans (Nat.zero_add _)
  have hcrc : a.good = crcGood bytes := by
    have : a.crc = bytes.foldl (crcLsbByte 0xEDB88320) 0xFFFFFFFF := congrArg Assembly.crc ha
    unfold Assembly.good crcGood
    rw [this]
  have hbad : a.bad = codeErr := (congrArg Assembly.bad ha).trans (Bool.false_or _)
  have hmax : a.max = s.maxAt p i.tick := congrArg Assembly.max ha
  unfold State.asmRow State.rxRow
  rw [hlen, hcrc, hbad, hmax]
  by_cases hlong : s.maxAt p i.tick < bytes.length
  · rw [if_pos hlong, if_pos hlong]
  · have hall : a.bytes = bytes := hbytes.trans (List.take_of_length_le (by omega))
    rw [if_neg hlong, if_neg hlong, hall, State.ctrlRow_eq hc]
    unfold State.comB
    rw [State.com_eq hc]
    rfl

/-- What the receiver's requests for buffers, and the echo of a frame, may change. -/
def rxJoinScope : Scope := ⟨[.evt, .tacc, .ports, .grn, .out], [R.GRN_POOL_STAT, R.GRN_EVT_STAT, R.EVT_STAT], []⟩

theorem receiveFrame_frame (p : Fin 256) (bytes : List Byte) (codeErr cut : Bool) (i : Inst) (s : State) (hup : s.portUp p = true)
    (h1 : s.railOk 1 = true) (hl : s.looped p .frame bytes = true) :
    Yields (.receiveFrame p .frame bytes codeErr cut i) s fun t =>
      t.slot (prtSlot p 26) = (s.slot (prtSlot p 26) + bytes.length) % 2 ^ 48 ∧
      ((s.rxAsm p bytes codeErr i).gone = false →
        (∀ n, s.rxRow p bytes codeErr cut i = some n → t.slot (prtSlot p n) = (s.slot (prtSlot p n) + 1) % 2 ^ 48) ∧
        (s.rxRow p bytes codeErr cut i = none → ∀ c < 8, testBit (be16 bytes 16) c = true →
          testBit (s.com PRT_PFC_CFG.RX_EN p) c = true →
          t.slot (prtSlot p (6 + c)) = (s.slot (prtSlot p (6 + c)) + 1) % 2 ^ 48) ∧
        (s.rxRow p bytes codeErr cut i = some 0 → t.slot (prtSlot p 1) = (s.slot (prtSlot p 1) + bytes.length) % 2 ^ 48 ∧
          ∃ f ∈ SMap.at! t.fwd.pipeQ (s.com PRT_CFG.FIRST_LANE p / 16), f.id = s.nextFrame ∧ f.bytes = bytes ∧ f.src = p)) := by
  rw [yields_iff, execReceiveFrame_eq p .frame bytes codeErr cut i s hup hl]
  dsimp only
  rw [ends_fin]
  have hgone : (s.rxAsm p bytes codeErr i).gone =
    ((s.rxFrom p .frame bytes).join p ((s.rxFrom p .frame bytes).newAsm p i) bytes codeErr).1.gone := rfl
  rw [hgone, State.rxFrom_newAsm]
  have hw : Within rxJoinScope s ((s.rxFrom p .frame bytes).join p (s.rxNew p i) bytes codeErr).2 :=
    (State.join_snd ..).step ((s.rxFrom_within ..).step (.refl _ _) (by decide +kernel)) (by decide +kernel)
  have hfill := (s.rxFrom p .frame bytes).join_fills p (s.rxNew p i) bytes codeErr
  generalize (s.rxFrom p .frame bytes).join p (s.rxNew p i) bytes codeErr = r at hw hfill
  obtain ⟨a, u⟩ := r
  have hcom : u.committed = s.committed := hw.part .committed (by decide)
  have hu1 : u.railOk 1 = true := by rw [hw.railOk (by decide +kernel) (by decide), h1]
  have hslot {j : Nat} (hj : j < 128) : u.slot (prtSlot p j) = s.slot (prtSlot p j) :=
    (hfill.slots.slot _ (prtSlot_lt p hj)).trans (s.rxFrom_slot p .frame bytes _)
  have hlen : a.len = bytes.length := (congrArg Assembly.len hfill.core).trans (Nat.zero_add _)
  have hrow : u.asmRow p a cut = s.rxRow p bytes codeErr cut i := s.asmRow_received u p a bytes codeErr cut i hcom hfill.core
  have hwhole (h : ∀ j, s.rxRow p bytes codeErr cut i = some j → j < 15) : a.bytes = bytes := by
    have hle : ¬ a.max < a.len := fun hlong => by
      obtain ⟨j, hj, he⟩ := u.asmRow_long p cut hlong
      have := h j (hrow.symm.trans he)
      omega
    have hmax : a.max = s.maxAt p i.tick := congrArg Assembly.max hfill.core
    exact (congrArg Assembly.bytes hfill.core).trans (List.take_of_length_le (by
      rw [hmax, hlen] at hle
      exact not_lt.1 hle))
  dsimp only
  refine ⟨by rw [State.settle_slot, u.rxEnd_octets p a cut hu1, hslot (by decide), hlen], fun hg => ?_⟩
  have htaken := u.rxEnd_taken p a cut hu1 hg
  refine ⟨fun n hn => ?_, fun hn c hc hv hen => ?_, fun hn => ?_⟩
  · have hlt := State.asmRow_lt (hrow.trans hn)
    rw [State.settle_slot, htaken.counted n (hrow.trans hn), hslot (by omega)]
  · rw [State.settle_slot, htaken.classes (hrow.trans hn) c hc (by rw [hwhole (by simp [hn]), hv]) (by rw [State.com_eq hcom, hen]),
      hslot (by omega)]
  · have hall := hwhole (by simp [hn])
    refine ⟨by rw [State.settle_slot, htaken.octets (hrow.trans hn), hslot (by decide), hall], ?_⟩
    obtain ⟨f, hf, hid, hbytes, hsrc⟩ := htaken.queued (hrow.trans hn)
    rw [State.com_eq hcom] at hf
    exact ⟨f, by rw [State.settle_fwd]; exact hf, hid.trans (hw.part .nextFrame (by decide)), hbytes.trans hall, hsrc⟩

end Sys2Proof.Machine
end

section
/-! PROOFS. Verify and respond packets, and fragments of preemptable frames (R151, R152), for O25. -/
set_option Elab.async false
namespace Sys2Proof.Machine

/-! ### Sending -/

/-- What goes out in the middle of a row has been sent when the row ends. -/
theorem State.sends_of_out {s u v t : State} {o : Out} (hu : s.out <+: u.out) (hv : v.out = u.out ++ [o]) (ht : v.out <+: t.out) :
    s.sends t o := by
  obtain ⟨l, hl⟩ := hu
  obtain ⟨k, hk⟩ := ht
  exact ⟨l ++ [o] ++ k, by rw [← hk, hv, ← hl]; simp, by simp⟩

theorem State.macSend_out (s : State) (p : Nat) (o : Out) (k : RxKind) (bs : List Byte) (h : s.macTx p = true) :
    (s.macSend p o k bs).out = s.out ++ [o] := by
  unfold State.macTx at h
  unfold State.macSend
  split
  · rfl
  · rename_i h2
    rw [h2] at h
    exact absurd h (by decide)
  · rfl

theorem State.macTx_eq {s t : State} (h : t.committed = s.committed) (p : Nat) : t.macTx p = s.macTx p := by
  unfold State.macTx
  rw [State.com_eq h]

theorem receiveFrame_verify (p : Fin 256) (bytes : List Byte) (codeErr cut : Bool) (i : Inst) (s : State) (hup : s.portUp p = true)
    (hl : s.looped p .verify bytes = true) (hen : s.comB PRT_CFG.PREEMPT_EN p = true) (hmac : s.macTx p = true) :
    Yields (.receiveFrame p .verify bytes codeErr cut i) s fun t => s.sends t (.respond p) := by
  have hw := s.rxFrom_within p .verify bytes
  have hcom : (s.rxFrom p .verify bytes).committed = s.committed := hw.part .committed (by decide)
  rw [yields_iff, execReceiveFrame_eq p .verify bytes codeErr cut i s hup hl]
  dsimp only
  rw [if_pos (by unfold State.comB at hen ⊢; rw [State.com_eq hcom, hen]), ends_fin]
  exact State.sends_of_out hw.out (State.macSend_out _ p _ _ _ (by rw [State.macTx_eq hcom, hmac])) (State.settle_within _).out

theorem receiveFrame_respond (p : Fin 256) (bytes : List Byte) (codeErr cut : Bool) (i : Inst) (s : State) (hup : s.portUp p = true)
    (hl : s.looped p .respond bytes = true) (hv : (s.port p).verifyAt ≠ 0) :
    Yields (.receiveFrame p .respond bytes codeErr cut i) s fun t =>
      t.bit PRT_STAT.PREEMPT_ACTIVE p = true ∧ (t.port p).verifyAt = 0 := by
  rw [yields_iff, execReceiveFrame_eq p .respond bytes codeErr cut i s hup hl]
  dsimp only
  rw [if_neg (by rw [State.rxFrom_port]; exact hv), ends_fin]
  constructor
  · unfold State.bit
    rw [State.settle_rd _ (by decide +kernel), State.stat_wr_self _ (by decide) (by decide)]
    decide
  · unfold State.port
    rw [State.settle_ports, State.wr_ports]
    show ((State.updPort _ p _).port p).verifyAt = 0
    rw [State.port_updPort_self]

/-! ### Reassemblies (R152) -/

theorem State.dropAssy_linkKept (s : State) (p : Nat) (a : Assembly) : s.LinkKept (s.dropAssy p a) :=
  ((s.dropAsm_linkKept p a).trans (State.count_linkKept ..)).trans (State.count_linkKept ..)

theorem State.dropAssy_slot_keeps (s : State) (p : Fin 256) (a : Assembly) {j : Nat} (hj : j < 128) (h26 : j ≠ 26) (h23 : j ≠ 23) :
    (s.dropAssy p a).slot (prtSlot p j) = s.slot (prtSlot p j) := by
  unfold State.dropAssy
  rw [State.slot_count_ne _ (prtSlot_ne p h23), State.slot_count_ne _ (prtSlot_ne p h26), s.dropAsm_slot p a hj]

theorem State.dropAssy_slot_errors (s : State) (p : Fin 256) (a : Assembly) (h1 : s.railOk 1 = true) :
    (s.dropAssy p a).slot (prtSlot p 23) = (s.slot (prtSlot p 23) + 1) % 2 ^ 48 := by
  unfold State.dropAssy
  rw [State.slot_count_self _ (by rw [State.count_railOk, s.dropAsm_railOk, h1]), State.slot_count_ne _ (prtSlot_ne p (by decide)),
    s.dropAsm_slot p a (by decide)]

/-- What a fragment that has joined makes of its reassembly. -/
structure State.Assembled (s t : State) (p : Fin 256) (last mcrcOk : Bool) (a : Assembly) : Prop where
  fragments : t.slot (prtSlot p 24) = s.slot (prtSlot p 24)
  whole : last = true → (t.port p).asm = none ∧ t.slot (prtSlot p 25) = (s.slot (prtSlot p 25) + 1) % 2 ^ 48
  more : last = false → mcrcOk = true → (t.port p).asm = some a
  bad : last = false → mcrcOk = false → (t.port p).asm = none ∧ t.slot (prtSlot p 23) = (s.slot (prtSlot p 23) + 1) % 2 ^ 48

theorem State.assemble_assembled (s : State) (p : Fin 256) (last mcrcOk : Bool) (a : Assembly) (h1 : s.railOk 1 = true)
    (hasm : (s.port p).asm = none) : s.Assembled (s.assemble p last mcrcOk a) p last mcrcOk a := by
  unfold State.assemble
  cases last with
  | true =>
    rw [if_pos rfl]
    generalize hu : (s.updPort p fun o => { o with loopP := o.loopP.drop 1 }) = u
    have hk : s.LinkKept ((u.count (prtSlot p 25)).rxEnd p a false) := by
      refine State.LinkKept.after_updPort (p := p) (f := fun o => { o with loopP := o.loopP.drop 1 }) ?_ fun _ => rfl
      rw [hu]
      exact (u.count_linkKept ..).trans (State.rxEnd_linkKept ..)
    have hslot (n : Nat) : u.slot n = s.slot n := by rw [← hu]; rfl
    have hu1 : u.railOk 1 = true := by rw [← hu]; exact h1
    refine ⟨?_, fun _ => ⟨(hk.asm p).trans hasm, ?_⟩, fun h => (by cases h), fun h => (by cases h)⟩
    · rw [State.rxEnd_slot_keeps _ p a false (by decide) (by decide), State.slot_count_ne _ (prtSlot_ne p (by decide)), hslot]
    · rw [State.rxEnd_slot_keeps _ p a false (by decide) (by decide), u.slot_count_self hu1, hslot]
  | false =>
    rw [if_neg (by decide)]
    cases mcrcOk with
    | true =>
      rw [if_pos rfl]
      exact ⟨rfl, fun h => (by cases h), fun _ _ => by rw [State.port_updPort_self], fun _ h => (by cases h)⟩
    | false =>
      rw [if_neg (by decide)]
      exact ⟨s.dropAssy_slot_keeps p a (by decide) (by decide) (by decide), fun h => (by cases h), fun _ h => (by cases h),
        fun _ _ => ⟨((s.dropAssy_linkKept p a).asm p).trans hasm, s.dropAssy_slot_errors p a h1⟩⟩

/-- The state in which a fragment is taken: counted, the open reassembly in hand. -/
def State.fragFrom (s : State) (p : Fin 256) (k : FragKind) (last : Bool) (bytes : List Byte) : State :=
  ((s.echo p (.loopbackFrag p k last bytes)).count (prtSlot p 24)).updPort p fun o => { o with asm := none }

/-- `u` has counted a fragment, and port `p` has no reassembly open. -/
structure State.FragTaken (s u : State) (p : Fin 256) : Prop where
  power : u.railOk 1 = true
  committed : u.committed = s.committed
  asm : (u.port p).asm = none
  oldMax : (u.port p).oldMax = (s.port p).oldMax
  fragments : u.slot (prtSlot p 24) = (s.slot (prtSlot p 24) + 1) % 2 ^ 48
  frames : u.slot (prtSlot p 25) = s.slot (prtSlot p 25)

theorem State.echo_slot (s : State) (p : Nat) (o : Out) (n : Nat) : (s.echo p o).slot n = s.slot n :=
  State.slot_eq ((s.echo_within p o).part .tally (by decide)) ((s.echo_within p o).part .tacc (by decide)) n

theorem State.fragFrom_taken (s : State) (p : Fin 256) (k : FragKind) (last : Bool) (bytes : List Byte) (h1 : s.railOk 1 = true) :
    s.FragTaken (s.fragFrom p k last bytes) p ∧
      (s.fragFrom p k last bytes).slot (prtSlot p 23) = s.slot (prtSlot p 23) := by
  have hw := s.echo_within p (.loopbackFrag p k last bytes)
  have hslot (n : Nat) := s.echo_slot p (.loopbackFrag p k last bytes) n
  have hport := hw.port_same (by decide) p
  have hr1 := (hw.railOk (by decide +kernel) (by decide) 1).trans h1
  have hcom := hw.part .committed (by decide)
  unfold State.fragFrom
  generalize s.echo p (.loopbackFrag p k last bytes) = v at hslot hport hr1 hcom
  have hvw := v.count_within (prtSlot p 24) 1
  have hcount (n : Nat) : ((v.count (prtSlot p 24)).updPort p fun o => { o with asm := none }).slot n = (v.count (prtSlot p 24)).slot n :=
    rfl
  refine ⟨⟨(v.count_railOk (prtSlot p 24) 1 1).trans hr1, (hvw.part .committed (by decide)).trans hcom,
    by rw [State.port_updPort_self], ?_, ?_, ?_⟩, ?_⟩
  · rw [State.port_updPort_self]
    show ((v.count (prtSlot p 24)).port p).oldMax = _
    rw [hvw.port_same (by decide), hport]
  · rw [hcount, v.slot_count_self hr1, hslot]
  · rw [hcount, v.slot_count_ne (prtSlot_ne p (by decide)), hslot]
  · rw [hcount, v.slot_count_ne (prtSlot_ne p (by decide)), hslot]

theorem State.dropAssy_taken {s u : State} {p : Fin 256} (h : s.FragTaken u p) (a : Assembly) : s.FragTaken (u.dropAssy p a) p := by
  have hw := u.dropAssy_within p a
  have hk := u.dropAssy_linkKept p a
  exact ⟨(hw.railOk (by decide +kernel) (by decide) 1).trans h.power, (hw.part .committed (by decide)).trans h.committed,
    (hk.asm p).trans h.asm, (hk.oldMax p).trans h.oldMax,
    (u.dropAssy_slot_keeps p a (by decide) (by decide) (by decide)).trans h.fragments,
    (u.dropAssy_slot_keeps p a (by decide) (by decide) (by decide)).trans h.frames⟩

theorem State.FragTaken.newAsm {s u : State} {p : Fin 256} (h : s.FragTaken u p) (i : Inst) : u.newAsm p i = s.rxNew p i := by
  unfold State.newAsm State.rxNew State.maxAt
  rw [h.oldMax, State.com_eq h.committed]

/-- A fragment that joins: its buffers leave the counts, and no reassembly is open meanwhile. -/
theorem State.FragTaken.joins {s u : State} {p : Fin 256} (h : s.FragTaken u p) (a : Assembly) (bs : List Byte) (bad : Bool) :
    s.FragTaken (u.join p a bs bad).2 p ∧ (u.join p a bs bad).2.slot (prtSlot p 23) = u.slot (prtSlot p 23) ∧
      (u.join p a bs bad).1.core = (a.joined bs bad).core := by
  have hw := u.join_snd p a bs bad
  have hfill := u.join_fills p a bs bad
  exact ⟨⟨(hw.railOk (by decide +kernel) (by decide) 1).trans h.power, (hw.part .committed (by decide)).trans h.committed,
    (hfill.link.asm p).trans h.asm, (hfill.link.oldMax p).trans h.oldMax,
    (hfill.slots.slot _ (prtSlot_lt p (by decide))).trans h.fragments,
    (hfill.slots.slot _ (prtSlot_lt p (by decide))).trans h.frames⟩, hfill.slots.slot _ (prtSlot_lt p (by decide)), hfill.core⟩

/-! ### RECEIVE_FRAGMENT -/

/-- The state in which a first fragment is taken: a reassembly still open is dropped. -/
def State.fragStart (s : State) (p : Fin 256) (last : Bool) (bytes : List Byte) : State :=
  match (s.port p).asm with
  | some a => (s.fragFrom p .start last bytes).dropAssy p a
  | none => s.fragFrom p .start last bytes

theorem execReceiveFragment_start (p : Fin 256) (last : Bool) (bytes : List Byte) (mcrcOk codeErr : Bool) (i : Inst)
    (s : State) (hup : s.portUp p = true) (hen : s.comB PRT_CFG.PREEMPT_EN p = true) (hl : s.loopedFrag p 0 last bytes = true) :
    exec (.receiveFragment p .start last bytes mcrcOk codeErr i) s =
      fin (((s.fragStart p last bytes).join p ((s.fragStart p last bytes).newAsm p i) bytes codeErr).2.assemble p last mcrcOk
        ((s.fragStart p last bytes).join p ((s.fragStart p last bytes).newAsm p i) bytes codeErr).1) := by
  obtain ⟨hup', _, hl'⟩ := s.echo_judged p (.loopbackFrag p .start last bytes)
  show execReceiveFragment p .start last bytes mcrcOk codeErr i s = _
  unfold execReceiveFragment
  dsimp only
  rw [if_neg (by simp [hup', hl', hup, hen, hl]), if_neg (by rw [hen]; decide)]
  rfl

theorem execReceiveFragment_stray (p : Fin 256) (n : Fin 4) (last : Bool) (bytes : List Byte) (mcrcOk codeErr : Bool) (i : Inst)
    (s : State) (hup : s.portUp p = true) (hen : s.comB PRT_CFG.PREEMPT_EN p = true) (hasm : (s.port p).asm = none)
    (hl : s.loopedFrag p 0 last bytes = true) :
    exec (.receiveFragment p (.cont n) last bytes mcrcOk codeErr i) s =
      fin (((s.fragFrom p (.cont n) last bytes).count (prtSlot p 26) bytes.length).count (prtSlot p 23)) := by
  obtain ⟨hup', _, hl'⟩ := s.echo_judged p (.loopbackFrag p (.cont n) last bytes)
  show execReceiveFragment p (.cont n) last bytes mcrcOk codeErr i s = _
  unfold execReceiveFragment
  dsimp only
  rw [hasm, if_neg (by simp [hup', hl', hup, hen, hl])]
  rfl

theorem execReceiveFragment_next (p : Fin 256) (n : Fin 4) (last : Bool) (bytes : List Byte) (mcrcOk codeErr : Bool) (i : Inst)
    (s : State) (a : Assembly) (hup : s.portUp p = true) (hen : s.comB PRT_CFG.PREEMPT_EN p = true) (hasm : (s.port p).asm = some a)
    (hl : s.loopedFrag p a.len last bytes = true) :
    exec (.receiveFragment p (.cont n) last bytes mcrcOk codeErr i) s =
      if a.count % 4 ≠ n.val then fin (((s.fragFrom p (.cont n) last bytes).count (prtSlot p 26) bytes.length).dropAssy p a)
      else fin (((s.fragFrom p (.cont n) last bytes).join p { a with count := a.count + 1 } bytes codeErr).2.assemble p last mcrcOk
          ((s.fragFrom p (.cont n) last bytes).join p { a with count := a.count + 1 } bytes codeErr).1) := by
  obtain ⟨hup', _, hl'⟩ := s.echo_judged p (.loopbackFrag p (.cont n) last bytes)
  show execReceiveFragment p (.cont n) last bytes mcrcOk codeErr i s = _
  unfold execReceiveFragment
  dsimp only
  rw [hasm, if_neg (by simp [hup', hl', hup, hen, hl])]
  rfl

theorem State.fragStart_taken (s : State) (p : Fin 256) (last : Bool) (bytes : List Byte) (h1 : s.railOk 1 = true) :
    s.FragTaken (s.fragStart p last bytes) p := by
  have h := (s.fragFrom_taken p .start last bytes h1).1
  unfold State.fragStart
  split
  · exact State.dropAssy_taken h _
  · exact h

theorem receiveFragment_start (p : Fin 256) (last : Bool) (bytes : List Byte) (mcrcOk codeErr : Bool) (i : Inst) (s : State)
    (hup : s.portUp p = true) (hen : s.comB PRT_CFG.PREEMPT_EN p = true) (h1 : s.railOk 1 = true)
    (hl : s.loopedFrag p 0 last bytes = true) :
    Yields (.receiveFragment p .start last bytes mcrcOk codeErr i) s fun t =>
      t.slot (prtSlot p 24) = (s.slot (prtSlot p 24) + 1) % 2 ^ 48 ∧
      (last = false → mcrcOk = true → ∃ a, (t.port p).asm = some a ∧ a.bytes = bytes.take (s.maxAt p i.tick) ∧
        a.len = bytes.length ∧ a.count = 0 ∧ a.bad = codeErr ∧ a.inst = i) ∧
      (last = true → (t.port p).asm = none ∧ t.slot (prtSlot p 25) = (s.slot (prtSlot p 25) + 1) % 2 ^ 48) ∧
      (last = false → mcrcOk = false → (t.port p).asm = none) := by
  have htaken := s.fragStart_taken p last bytes h1
  rw [yields_iff, execReceiveFragment_start p last bytes mcrcOk codeErr i s hup hen hl, ends_fin, htaken.newAsm]
  obtain ⟨hjoin, _, hcore⟩ := htaken.joins (s.rxNew p i) bytes codeErr
  generalize (s.fragStart p last bytes).join p (s.rxNew p i) bytes codeErr = r at hjoin hcore
  obtain ⟨a, u⟩ := r
  dsimp only at hjoin hcore ⊢
  have hend := u.assemble_assembled p last mcrcOk a hjoin.power hjoin.asm
  have hk := (u.assemble p last mcrcOk a).settle_linkKept
  rw [State.settle_slot, State.settle_slot, hk.asm, hend.fragments, hjoin.fragments]
  refine ⟨rfl, fun hlast hm => ⟨a, hend.more hlast hm, congrArg Assembly.bytes hcore, ?_, congrArg Assembly.count hcore, ?_,
    congrArg Assembly.inst hcore⟩, fun hlast => ?_, fun hlast hm => (hend.bad hlast hm).1⟩
  · exact (congrArg Assembly.len hcore).trans (Nat.zero_add _)
  · exact (congrArg Assembly.bad hcore).trans (Bool.false_or _)
  · rw [← hjoin.frames]
    exact hend.whole hlast

/-- A next fragment without a reassembly is an error. -/
theorem receiveFragment_stray (p : Fin 256) (n : Fin 4) (last : Bool) (bytes : List Byte) (mcrcOk codeErr : Bool) (i : Inst) (s : State)
    (hup : s.portUp p = true) (hen : s.comB PRT_CFG.PREEMPT_EN p = true) (h1 : s.railOk 1 = true) (hasm : (s.port p).asm = none)
    (hl : s.loopedFrag p 0 last bytes = true) :
    Yields (.receiveFragment p (.cont n) last bytes mcrcOk codeErr i) s fun t =>
      t.slot (prtSlot p 24) = (s.slot (prtSlot p 24) + 1) % 2 ^ 48 ∧
      t.slot (prtSlot p 23) = (s.slot (prtSlot p 23) + 1) % 2 ^ 48 := by
  obtain ⟨htaken, h23⟩ := s.fragFrom_taken p (.cont n) last bytes h1
  rw [yields_iff, execReceiveFragment_stray p n last bytes mcrcOk codeErr i s hup hen hasm hl, ends_fin, State.settle_slot,
    State.settle_slot, State.slot_count_ne _ (prtSlot_ne p (by decide)), State.slot_count_ne _ (prtSlot_ne p (by decide)),
    State.slot_count_self _ (by rw [State.count_railOk, htaken.power]), State.slot_count_ne _ (prtSlot_ne p (by decide)),
    htaken.fragments, h23]
  exact ⟨rfl, rfl⟩

theorem receiveFragment_next (p : Fin 256) (n : Fin 4) (last : Bool) (bytes : List Byte) (mcrcOk codeErr : Bool) (i : Inst) (s : State)
    (a : Assembly) (hup : s.portUp p = true) (hen : s.comB PRT_CFG.PREEMPT_EN p = true) (h1 : s.railOk 1 = true)
    (hasm : (s.port p).asm = some a) (hl : s.loopedFrag p a.len last bytes = true) :
    Yields (.receiveFragment p (.cont n) last bytes mcrcOk codeErr i) s fun t =>
      t.slot (prtSlot p 24) = (s.slot (prtSlot p 24) + 1) % 2 ^ 48 ∧
      (a.count % 4 ≠ n → (t.port p).asm = none ∧ t.slot (prtSlot p 23) = (s.slot (prtSlot p 23) + 1) % 2 ^ 48) ∧
      (a.count % 4 = n → last = true → (t.port p).asm = none ∧ t.slot (prtSlot p 25) = (s.slot (prtSlot p 25) + 1) % 2 ^ 48) ∧
      (a.count % 4 = n → last = false → mcrcOk = false → (t.port p).asm = none ∧
        t.slot (prtSlot p 23) = (s.slot (prtSlot p 23) + 1) % 2 ^ 48) ∧
      (a.count % 4 = n → last = false → mcrcOk = true → ∃ b, (t.port p).asm = some b ∧
        b.bytes = (a.bytes ++ bytes).take a.max ∧ b.len = a.len + bytes.length ∧ b.count = a.count + 1 ∧
        b.bad = (a.bad || codeErr)) := by
  obtain ⟨htaken, h23⟩ := s.fragFrom_taken p (.cont n) last bytes h1
  rw [yields_iff, execReceiveFragment_next p n last bytes mcrcOk codeErr i s a hup hen hasm hl]
  by_cases hord : a.count % 4 = n.val
  · rw [if_neg (not_not.2 hord), ends_fin]
    obtain ⟨hjoin, hjoin23, hcore⟩ := htaken.joins { a with count := a.count + 1 } bytes codeErr
    generalize (s.fragFrom p (.cont n) last bytes).join p { a with count := a.count + 1 } bytes codeErr = r at hjoin hjoin23 hcore
    obtain ⟨b, u⟩ := r
    dsimp only at hjoin hjoin23 hcore ⊢
    have hend := u.assemble_assembled p last mcrcOk b hjoin.power hjoin.asm
    have hk := (u.assemble p last mcrcOk b).settle_linkKept
    rw [State.settle_slot, State.settle_slot, State.settle_slot, hk.asm, hend.fragments, hjoin.fragments, ← hjoin.frames, ← h23,
      ← hjoin23]
    exact ⟨rfl, fun hne => absurd hord hne, fun _ hlast => hend.whole hlast, fun _ hlast hm => hend.bad hlast hm,
      fun _ hlast hm => ⟨b, hend.more hlast hm, congrArg Assembly.bytes hcore, congrArg Assembly.len hcore,
        congrArg Assembly.count hcore, congrArg Assembly.bad hcore⟩⟩
  · rw [if_pos hord, ends_fin]
    generalize hv : (s.fragFrom p (.cont n) last bytes).count (prtSlot p 26) bytes.length = v
    have hv1 : v.railOk 1 = true := by rw [← hv, State.count_railOk, htaken.power]
    have hvasm : (v.port p).asm = none := by
      rw [← hv]
      exact ((State.count_linkKept ..).asm p).trans htaken.asm
    have hv24 : v.slot (prtSlot p 24) = (s.slot (prtSlot p 24) + 1) % 2 ^ 48 := by
      rw [← hv, State.slot_count_ne _ (prtSlot_ne p (by decide)), htaken.fragments]
    have hv23 : v.slot (prtSlot p 23) = s.slot (prtSlot p 23) := by
      rw [← hv, State.slot_count_ne _ (prtSlot_ne p (by decide)), h23]
    have hk := (v.dropAssy_linkKept p a).trans (State.settle_linkKept _)
    rw [State.settle_slot, State.settle_slot, hk.asm, v.dropAssy_slot_keeps p a (by decide) (by decide) (by decide),
      v.dropAssy_slot_errors p a hv1, hv24, hv23]
    exact ⟨rfl, fun _ => ⟨hvasm, rfl⟩, fun he => absurd he hord, fun he => absurd he hord, fun he => absurd he hord⟩

end Sys2Proof.Machine
end

section
/-! PROOFS. Pause, PFC and verification of a client port, its modules and the Tally's fold (R148, R149, R151, R157, R158), for
O25. -/
set_option Elab.async false
namespace Sys2Proof.Machine

/-! ### Receive pause (R148) -/

theorem State.settle_port (s : State) (p : Nat) : s.settle.port p = s.port p := by
  unfold State.port
  rw [State.settle_ports]

theorem State.notePaused_port (s : State) (p n : Nat) : (s.notePaused p).port n = s.port n :=
  (s.notePaused_within p).port_same (by decide) n

theorem pauseTakesEffect_acts (p : Fin 256) (s : State) :
    Yields (.pauseTakesEffect p) s fun t => (t.port p).pauseFrom = [] ∧ (t.port p).pauseEnd = (s.port p).pauseEnd := by
  show Ends (execPauseTakesEffect p s) _
  unfold execPauseTakesEffect
  rw [ends_fin, State.settle_port, State.port_updPort_self]
  exact ⟨rfl, rfl⟩

theorem pauseTimerExpiry_acts (p : Fin 256) (c : Fin 8) (s : State)
    (h : (s.port p).pauseEnd.any (fun e => e.1 = c.val && decide (e.2 < s.now)) = true) :
    Yields (.pauseTimerExpiry p c) s fun t => (t.port p).pauseEnd = SMap.erase (s.port p).pauseEnd c ∧
      (t.port p).pauseFrom = SMap.erase (s.port p).pauseFrom c := by
  show Ends (execPauseTimerExpiry p c s) _
  unfold execPauseTimerExpiry
  rw [if_pos h, ends_fin, State.settle_port, State.notePaused_port, State.port_updPort_self]
  exact ⟨rfl, rfl⟩

/-! ### Words of bits -/

/-- A word built bit by bit holds the bits of its test. -/
theorem setBits_spec (f : Nat → Bool) (n : Nat) :
    (List.range n).foldl (fun x c => if f c then setBit x c else x) 0 < 2 ^ n ∧
    ∀ c < n, testBit ((List.range n).foldl (fun x c => if f c then setBit x c else x) 0) c = f c := by
  induction n with
  | zero => exact ⟨by simp, fun c hc => absurd hc (Nat.not_lt_zero c)⟩
  | succ n ih =>
    rw [List.range_succ, List.foldl_append, List.foldl_cons, List.foldl_nil]
    generalize (List.range n).foldl (fun x c => if f c then setBit x c else x) 0 = x at ih
    obtain ⟨hlt, hbits⟩ := ih
    have hclear : testBit x n = false := by rw [testBit_eq_testBit, Nat.testBit_lt_two_pow hlt]
    have hpow : 2 ^ (n + 1) = 2 ^ n + 2 ^ n := by rw [Nat.pow_succ]; omega
    cases hf : f n with
    | false =>
      rw [if_neg (by decide)]
      refine ⟨by omega, fun c hc => ?_⟩
      rcases Nat.lt_succ_iff_lt_or_eq.1 hc with h | rfl
      · exact hbits c h
      · rw [hclear, hf]
    | true =>
      have hset : setBit x n = 2 ^ n + x := by
        unfold setBit
        rw [hclear, if_neg (by decide), Nat.add_comm]
      rw [if_pos rfl, hset]
      refine ⟨by omega, fun c hc => ?_⟩
      rcases Nat.lt_succ_iff_lt_or_eq.1 hc with h | rfl
      · rw [testBit_eq_testBit, Nat.testBit_two_pow_add_gt h, ← testBit_eq_testBit, hbits c h]
      · rw [testBit_eq_testBit, Nat.testBit_two_pow_add_eq, ← testBit_eq_testBit, hclear, hf]
        rfl

theorem testBit_setBit_self (x i : Nat) : testBit (setBit x i) i = true := by
  have h := testBit_setBit_mod x (Nat.lt_succ_self i)
  rw [testBit_eq_testBit] at h ⊢
  rwa [Nat.testBit_mod_two_pow, decide_eq_true (Nat.lt_succ_self i), Bool.true_and] at h

theorem testBit_putBit_self (x i : Nat) (b : Bool) : testBit (putBit x i b) i = b := by
  cases b with
  | true => exact testBit_setBit_self x i
  | false => exact testBit_clearBit_self x i

theorem testBit_mod_two_pow (x : Nat) {i w : Nat} (h : i < w) : testBit (x % 2 ^ w) i = testBit x i := by
  rw [testBit_eq_testBit, Nat.testBit_mod_two_pow, decide_eq_true h, Bool.true_and, ← testBit_eq_testBit]

/-! ### PAUSE and PFC frames sent (R149) -/

theorem State.pfcVector_bits (s : State) (p : Nat) : ∀ c < 8, testBit (s.pfcVector p) c = (testBit (s.pfcMask p) c ||
    ((testBit (s.port p).sent c || testBit (s.port p).left c) && testBit (s.com PRT_PFC_CFG.TX_EN p) c)) :=
  (setBits_spec (fun c => testBit (s.pfcMask p) c ||
    ((testBit (s.port p).sent c || testBit (s.port p).left c) && testBit (s.com PRT_PFC_CFG.TX_EN p) c)) 8).2

theorem State.splitTx_port (s : State) (p : Nat) : ∃ x, (s.splitTx p).port p = { s.port p with tx := x } := by
  unfold State.splitTx
  exact ⟨_, by rw [State.port_updPort_self]⟩

/-- A frame that goes on in a further fragment leaves what PFC frames are made of. -/
theorem State.splitTx_pfc (s : State) (p : Nat) : (s.splitTx p).pfcMask p = s.pfcMask p ∧ (s.splitTx p).pfcVector p = s.pfcVector p ∧
    ((s.splitTx p).port p).sent = (s.port p).sent ∧ ((s.splitTx p).port p).left = (s.port p).left := by
  obtain ⟨x, hx⟩ := s.splitTx_port p
  have hmask : (s.splitTx p).pfcMask p = s.pfcMask p := by
    unfold State.pfcMask
    rw [hx]
    rfl
  refine ⟨hmask, ?_, by rw [hx], by rw [hx]⟩
  unfold State.pfcVector
  rw [hmask, hx]
  rfl

/-- The flow control that a port has signalled. -/
def Port.pfc (o : Port) : Bool × Nat × Nat := (o.pfcDue, o.pfcAt, o.sent)

theorem State.port_emit (s : State) (o : Out) (n : Nat) : (s.emit o).port n = s.port n := rfl

/-- What the MAC sends changes of its port only what near-end loopback brings back. -/
theorem State.macSend_port (s : State) (p : Nat) (o : Out) (k : RxKind) (bs : List Byte) :
    ∃ l, (s.macSend p o k bs).port p = { s.port p with loop := l } := by
  unfold State.macSend
  split
  · exact ⟨_, by rw [State.port_emit, State.port_updPort_self]⟩
  · exact ⟨_, rfl⟩
  · exact ⟨_, rfl⟩

theorem State.macSend_pfc (s : State) (p : Nat) (o : Out) (k : RxKind) (bs : List Byte) :
    ((s.macSend p o k bs).port p).pfc = (s.port p).pfc := by
  obtain ⟨l, hl⟩ := s.macSend_port p o k bs
  rw [hl]
  rfl

/-- The state in which a PFC or PAUSE frame is made up: it is no longer due. -/
def State.pfcFrom (s : State) (p : Nat) : State :=
  (s.updPort p fun o => { o with pfcDue := false, pfcAt := s.now, sent := s.pfcMask p, left := 0 }).wr PRT_STAT.TX_XOFF p (s.pfcMask p)

/-- PRT_MAC_ADDR_HI ends where PRT_STAT begins. -/
theorem State.rd_wrStat_macHi (s : State) {f : Fld} (hf : f.reg = R.PRT_STAT) (p v i : Nat) :
    (s.wr f p v).rd PRT_MAC_ADDR_HI.ADDR_HI i = s.rd PRT_MAC_ADDR_HI.ADDR_HI i := by
  have hreg (w : Word) : (s.setReg R.PRT_STAT p w).reg R.PRT_MAC_ADDR_HI i = s.reg R.PRT_MAC_ADDR_HI i := by
    unfold State.reg State.setReg
    split
    · split
      · rename_i hi _
        have hlt : i < 256 := hi
        refine SMap.get_set_ne _ _ _ _ ?_
        simp only [Reg.at, R.PRT_MAC_ADDR_HI, R.PRT_STAT]
        omega
      · rfl
    · rfl
  unfold State.rd State.wr
  rw [hf]
  exact congrArg (Fld.get PRT_MAC_ADDR_HI.ADDR_HI) (hreg _)

theorem State.pfcFrom_controlFrame (s : State) (p : Nat) (payload : List Byte) :
    (s.pfcFrom p).controlFrame p payload = s.controlFrame p payload := by
  unfold State.controlFrame State.pfcFrom
  rw [State.rd_wrStat_macHi _ rfl, State.rd_wr_ne _ (g := PRT_MAC_ADDR_LO.ADDR_LO) (by decide +kernel), State.rd_updPort,
    State.rd_updPort]

/-- A PAUSE frame with its quanta. -/
def State.pauseFrame (s : State) (p : Nat) : List Byte :=
  s.controlFrame p (beBytes 2 0x0001 ++ beBytes 2 (if s.pfcMask p = 0 then 0 else s.com PRT_PFC_CFG.TX_QUANTA p))

/-- A PFC frame with its class-enable vector and quanta. -/
def State.pfcFrame (s : State) (p : Nat) : List Byte :=
  s.controlFrame p (beBytes 2 0x0101 ++ beBytes 2 (s.pfcVector p) ++
    (List.range 8).flatMap (fun c => beBytes 2 (if testBit (s.pfcMask p) c then s.com PRT_PFC_CFG.TX_QUANTA p else 0)))

/-- The frames of a PFC frame's classes in XOFF are counted. -/
def State.countXoff (s : State) (p mask : Nat) : State :=
  (List.range 8).foldl (fun s c => if testBit mask c then s.count (prtSlot p (70 + c)) else s) s

theorem State.countXoff_within (s : State) (p mask : Nat) : Within State.count_scope s (s.countXoff p mask) :=
  .foldl (.refl _ _) fun x c hx => .ite ((x.count_within ..).step hx (by decide +kernel)) hx

theorem State.sendPfc_eq (s : State) (p : Nat) : s.sendPfc p =
    if s.com PRT_CFG.FC_MODE p = 0 || (s.pfcMask p = 0 && (s.port p).sent = 0 && (s.port p).left = 0) then s.pfcFrom p
    else if s.com PRT_CFG.FC_MODE p = 2 then
      (((s.pfcFrom p).countXoff p (s.pfcMask p)).countFrame p 64 88 (s.pfcFrame p)).macSend p (.macControl p (s.pfcFrame p)) .frame
        (s.pfcFrame p)
    else (((s.pfcFrom p).count (prtSlot p 69)).countFrame p 64 88 (s.pauseFrame p)).macSend p (.macControl p (s.pauseFrame p)) .frame
        (s.pauseFrame p) := by
  have h1 := s.pfcFrom_controlFrame p (beBytes 2 0x0101 ++ beBytes 2 (s.pfcVector p) ++
    (List.range 8).flatMap (fun c => beBytes 2 (if testBit (s.pfcMask p) c then s.com PRT_PFC_CFG.TX_QUANTA p else 0)))
  have h2 := s.pfcFrom_controlFrame p (beBytes 2 0x0001 ++ beBytes 2 (if s.pfcMask p = 0 then 0 else s.com PRT_PFC_CFG.TX_QUANTA p))
  unfold State.pfcFrame State.pauseFrame
  rw [← h1, ← h2]
  rfl

/-- What a PFC or PAUSE frame leaves of its port, and what it sends. -/
structure State.PfcSent (s t : State) (p : Fin 256) : Prop where
  pfc : (t.port p).pfc = (false, s.now, s.pfcMask p)
  xoff : t.rd PRT_STAT.TX_XOFF p = s.pfcMask p % 256
  pause : s.pfcMask p ≠ 0 ∨ (s.port p).sent ≠ 0 ∨ (s.port p).left ≠ 0 → s.com PRT_CFG.FC_MODE p = 1 →
    s.sends t (.macControl p (s.pauseFrame p))
  pfcFrame : s.pfcMask p ≠ 0 ∨ (s.port p).sent ≠ 0 ∨ (s.port p).left ≠ 0 → s.com PRT_CFG.FC_MODE p = 2 →
    s.sends t (.macControl p (s.pfcFrame p))

/-- What PFC frames count and send leaves the port's flow control as it has been set. -/
theorem State.pfcFrom_then (s : State) (p : Fin 256) {v : State} (hv : Within State.countFrame_scope (s.pfcFrom p) v) (o : Out)
    (bs : List Byte) : ((v.macSend p o .frame bs).settle.port p).pfc = (false, s.now, s.pfcMask p) ∧
      (v.macSend p o .frame bs).settle.rd PRT_STAT.TX_XOFF p = s.pfcMask p % 256 := by
  rw [State.settle_port, State.macSend_pfc, hv.port_same (by decide), State.settle_rd _ (by decide +kernel),
    (v.macSend_within p o .frame bs).rd_same (by decide +kernel), hv.rd_same (by decide +kernel)]
  unfold State.pfcFrom
  rw [State.port_wr, State.port_updPort_self, State.stat_wr_self _ (by decide) (by decide)]
  exact ⟨rfl, rfl⟩

theorem State.sendPfc_sent (s : State) (p : Fin 256) (hmac : s.macTx p = true) : s.PfcSent (s.sendPfc p).settle p := by
  have hpause : Within State.countFrame_scope (s.pfcFrom p) (((s.pfcFrom p).count (prtSlot p 69)).countFrame p 64 88 (s.pauseFrame p)) :=
    (State.countFrame_within ..).step ((State.count_within ..).step (.refl _ _) (by decide +kernel)) (by decide +kernel)
  have hpfc : Within State.countFrame_scope (s.pfcFrom p)
      (((s.pfcFrom p).countXoff p (s.pfcMask p)).countFrame p 64 88 (s.pfcFrame p)) :=
    (State.countFrame_within ..).step ((State.countXoff_within ..).step (.refl _ _) (by decide +kernel)) (by decide +kernel)
  have hcom : (s.pfcFrom p).committed = s.committed := State.wr_committed ..
  have hout : s.out <+: (s.pfcFrom p).out := by
    unfold State.pfcFrom
    rw [State.wr_out]
    exact List.prefix_rfl
  have hsends {v : State} (hv : Within State.countFrame_scope (s.pfcFrom p) v) (o : Out) (bs : List Byte) :
      s.sends (v.macSend p o .frame bs).settle o :=
    State.sends_of_out (hout.trans hv.out)
      (v.macSend_out p o .frame bs (by rw [State.macTx_eq ((hv.part .committed (by decide)).trans hcom), hmac]))
      (State.settle_within _).out
  rw [s.sendPfc_eq]
  split
  · rename_i hno
    simp only [Bool.or_eq_true, Bool.and_eq_true, decide_eq_true_eq] at hno
    refine ⟨?_, ?_, fun hany hmode => ?_, fun hany hmode => ?_⟩
    · rw [State.settle_port]
      unfold State.pfcFrom
      rw [State.port_wr, State.port_updPort_self]
      rfl
    · rw [State.settle_rd _ (by decide +kernel)]
      exact State.stat_wr_self _ (f := PRT_STAT.TX_XOFF) (by decide) (by decide) p _
    · omega
    · omega
  · rename_i hyes
    simp only [Bool.or_eq_true, Bool.and_eq_true, decide_eq_true_eq] at hyes
    split
    · rename_i h2
      obtain ⟨h3, h4⟩ := s.pfcFrom_then p hpfc (.macControl p (s.pfcFrame p)) (s.pfcFrame p)
      exact ⟨h3, h4, fun _ h1 => by omega, fun _ _ => hsends hpfc _ _⟩
    · rename_i h2
      obtain ⟨h3, h4⟩ := s.pfcFrom_then p hpause (.macControl p (s.pauseFrame p)) (s.pauseFrame p)
      exact ⟨h3, h4, fun _ _ => hsends hpause _ _, fun _ h => absurd h h2⟩

/-- The same behind a frame that goes on in a further fragment. -/
theorem State.splitTx_sendPfc_sent (s : State) (p : Fin 256) (hmac : s.macTx p = true) :
    s.PfcSent ((s.splitTx p).sendPfc p).settle p := by
  obtain ⟨hmask, hvec, hsent, hleft⟩ := s.splitTx_pfc p
  obtain ⟨hpfc, hxoff, hpause, hframe⟩ := (s.splitTx p).sendPfc_sent p hmac
  have hp : (s.splitTx p).pauseFrame p = s.pauseFrame p := by
    unfold State.pauseFrame
    rw [hmask]
    rfl
  have hf : (s.splitTx p).pfcFrame p = s.pfcFrame p := by
    unfold State.pfcFrame
    rw [hmask, hvec]
    rfl
  rw [hmask] at hpfc hxoff
  rw [hmask, hsent, hleft, hp] at hpause
  rw [hmask, hsent, hleft, hf] at hframe
  exact ⟨hpfc, hxoff, hpause, hframe⟩

theorem pfcFrameSend_acts (p : Fin 256) (s : State) (hup : s.portUp p = true) (hdue : (s.port p).pfcDue = true)
    (hgap : s.macGap p = true) (hmac : s.macTx p = true) :
    Yields (.pfcFrameSend p) s fun t => s.PfcSent t p := by
  show Ends (execPfcFrameSend p s) _
  unfold execPfcFrameSend
  rw [if_pos (by rw [hup, hdue, hgap, hmac]; rfl), ends_fin]
  exact s.splitTx_sendPfc_sent p hmac

theorem pfcRepeat_acts (p : Fin 256) (s : State) (hup : s.portUp p = true) (hsent : (s.port p).sent ≠ 0)
    (hat : (s.port p).pfcAt + ceilDiv (s.quantaTicks p (s.com PRT_PFC_CFG.TX_QUANTA p)) 2 ≤ s.now) :
    Yields (.pfcRepeat p) s fun t =>
      if s.macGap p && s.macTx p then (t.port p).pfcDue = false ∧ (t.port p).pfcAt = s.now ∧ (t.port p).sent = s.pfcMask p
      else (t.port p).pfcDue = true := by
  show Ends (execPfcRepeat p s) _
  unfold execPfcRepeat
  rw [if_pos (by simp [hup, hsent, hat])]
  by_cases hgo : (s.macGap p && s.macTx p) = true
  · rw [if_pos hgo, ends_fin, if_pos hgo]
    have h := (s.splitTx_sendPfc_sent p (Bool.and_eq_true_iff.1 hgo).2).pfc
    unfold Port.pfc at h
    simpa only [Prod.mk.injEq] using h
  · rw [if_neg hgo, ends_fin, if_neg hgo, State.settle_port, State.port_updPort_self]

/-! ### Verification (R151) -/

theorem verifyTimeout_acts (p : Fin 256) (s : State) (hup : s.portUp p = true) (hv : (s.port p).verifyAt ≠ 0)
    (hat : (s.port p).verifyAt ≤ s.now) (h6 : s.railOk 6 = true) :
    Yields (.verifyTimeout p) s fun t =>
      if (s.port p).verifyLeft = 0 then (t.port p).verifyFailed = true ∧ (t.port p).verifyAt = 0 ∧ t.raised EV.PRT_VERIFY_FAIL p = true
      else (t.port p).verifyLeft = (s.port p).verifyLeft - 1 ∧ (s.macTx p = true → s.sends t (.verify p)) ∧
        (t.port p).verifyAt = s.now + s.com PRT_PREEMPT_CFG.VERIFY_MS p * msT := by
  show Ends (execVerifyTimeout p s) _
  unfold execVerifyTimeout
  extract_lets o
  rw [if_neg (by simp [hup, o, hv, hat])]
  by_cases hleft : (s.port p).verifyLeft = 0
  · rw [if_pos hleft, ends_fin, if_pos hleft, State.settle_port, (State.raise_within ..).port_same (by simp),
      State.port_updPort_self, (State.settle_within _).raised_same (by decide +kernel)]
    exact ⟨rfl, rfl, State.raise_raised _ _ p h6 (by decide) p.isLt⟩
  · rw [if_neg hleft, ends_fin, if_neg hleft, State.settle_port]
    generalize hu : (s.updPort p fun o => { o with
      verifyLeft := o.verifyLeft - 1, verifyAt := s.now + s.com PRT_PREEMPT_CFG.VERIFY_MS p * msT }) = u
    obtain ⟨l, hl⟩ := u.macSend_port p (.verify p) .verify []
    have hport : (u.port p).verifyLeft = (s.port p).verifyLeft - 1 ∧
        (u.port p).verifyAt = s.now + s.com PRT_PREEMPT_CFG.VERIFY_MS p * msT := by
      rw [← hu, State.port_updPort_self]
      exact ⟨rfl, rfl⟩
    rw [hl]
    refine ⟨hport.1, fun hmac => ?_, hport.2⟩
    refine State.sends_of_out (u := u) ?_ (u.macSend_out p _ _ _ ?_) (State.settle_within _).out
    · rw [← hu]
      exact List.prefix_rfl
    · rw [← hu]
      exact hmac

/-! ### Modules (R157) -/

theorem optIntEdge_acts (bus : Fin 16) (low : Bool) (s : State) :
    Yields (.optIntEdge bus low) s fun t => testBit t.pwr.optLow bus = low ∧
      (s.railOk 6 = true → testBit (t.rd PRT_OPT_STAT.INT_LVL) bus = low ∧
        (low = true → testBit s.pwr.optLow bus = false → testBit (t.rd PRT_OPT_STAT.INT_EVT) bus = true)) := by
  show Ends (execOptIntEdge bus low s) _
  unfold execOptIntEdge
  extract_lets was u v
  have hbit : testBit u.pwr.optLow bus = low := testBit_putBit_self ..
  have hrail : u.railOk 6 = s.railOk 6 := rfl
  rw [hrail]
  by_cases h6 : s.railOk 6 = true
  · rw [if_neg (by rw [h6]; decide)]
    have hlvl : testBit (v.rd PRT_OPT_STAT.INT_LVL) bus = low := by
      unfold v
      rw [State.rd_wr_self u (f := PRT_OPT_STAT.INT_LVL) (by decide) (by decide)]
      exact (testBit_mod_two_pow _ bus.isLt).trans hbit
    have hpwr : v.pwr = u.pwr := State.wr_pwr ..
    by_cases hfall : (low && !was) = true
    · rw [if_pos hfall, ends_fin, State.settle_pwr, State.wr_pwr, hpwr, State.settle_rd _ (by decide +kernel),
        State.settle_rd _ (by decide +kernel),
        State.rd_wr_disj v (f := PRT_OPT_STAT.INT_EVT) (g := PRT_OPT_STAT.INT_LVL) (by decide) (by decide) rfl (by decide),
        State.rd_wr_self v (f := PRT_OPT_STAT.INT_EVT) (by decide) (by decide)]
      exact ⟨hbit, fun _ => ⟨hlvl, fun _ _ => testBit_setBit_mod _ bus.isLt⟩⟩
    · rw [if_neg hfall, ends_fin, State.settle_pwr, hpwr, State.settle_rd _ (by decide +kernel)]
      refine ⟨hbit, fun _ => ⟨hlvl, fun hlow hwas => absurd ?_ hfall⟩⟩
      show (low && !testBit s.pwr.optLow bus) = true
      rw [hlow, hwas]
      rfl
  · rw [if_pos (by simpa using h6), ends_fin, State.settle_pwr]
    exact ⟨hbit, fun h => absurd h h6⟩

/-! ### The fold of the Tally (R158) -/

theorem SMap.get_of_below {α : Type} (d : α) {m : SMap α} {k : Nat} (h : ∀ i ∈ m.map Prod.fst, k < i) : SMap.get d m k = d := by
  induction m with
  | nil => rfl
  | cons e m ih =>
    obtain ⟨j, v⟩ := e
    have hj := h j List.mem_cons_self
    rw [SMap.get, if_neg (by omega)]
    exact ih fun i hi => h i (List.mem_cons_of_mem _ hi)

/-- Adding the entries of a canonical map adds at each key what the map holds there. -/
theorem SMap.get_fold_add (l m : SMap Nat) (h : SMap.rising l) (n : Nat) :
    SMap.get 0 (l.foldl (fun m e => SMap.set 0 m e.1 ((SMap.get 0 m e.1 + e.2) % 2 ^ 48)) m) n % 2 ^ 48 =
      (SMap.get 0 m n + SMap.get 0 l n) % 2 ^ 48 := by
  induction l generalizing m with
  | nil => simp [SMap.get]
  | cons e l ih =>
    obtain ⟨k, v⟩ := e
    have hrest := List.pairwise_cons.1 (show ((k :: l.map Prod.fst).Pairwise (· < ·)) from h)
    rw [List.foldl_cons, ih _ hrest.2, SMap.get]
    by_cases hk : k = n
    · subst hk
      rw [SMap.get_set_self, if_pos rfl, SMap.get_of_below 0 hrest.1, Nat.add_zero, Nat.mod_mod]
    · rw [SMap.get_set_ne _ _ _ _ (Ne.symm hk), if_neg hk]

theorem tallyFold_acts (s : State) (h1 : s.railOk 1 = true) (h : SMap.rising s.tacc) :
    Yields .tallyFold s fun t => t.tacc = [] ∧ ∀ n, t.slot n = s.slot n := by
  show Ends (execTallyFold s) _
  unfold execTallyFold
  rw [if_pos h1, ends_fin]
  refine ⟨by rw [State.settle_tacc]; rfl, fun n => ?_⟩
  rw [State.settle_slot]
  exact SMap.get_fold_add s.tacc s.tally h n

end Sys2Proof.Machine
end

section
/-! PROOFS. Egress of a client port (R138, R150, R225) and CMD_PRT_OPT_XFER (R157, R162), and with them O25. -/
set_option Elab.async false
namespace Sys2Proof.Machine

/-! ### Egress -/

/-- The Reaper takes nothing from queues without an old head. -/
theorem State.reapHeads_fixed (s : State) (p : Nat) {l : List Nat} (h : ∀ q ∈ l, s.oldIn (16 * p + q) = []) :
    l.foldl (fun s q => s.reapHeads (16 * p + q)) s = s := by
  induction l with
  | nil => rfl
  | cons q l ih =>
    have hq : s.reapHeads (16 * p + q) = s := if_pos (by rw [h q List.mem_cons_self]; rfl)
    rw [List.foldl_cons, hq, ih fun x hx => h x (List.mem_cons_of_mem _ hx)]

/-- The port with the arbiter after its choice, and the frame on the line halted. -/
def State.haltTx (s : State) (p : Nat) (d : Dwrr) : State :=
  s.updPort p fun o => { o with
    dwrr := d, tx := none, preempted := o.preempted.or (o.tx.map fun x => { x with gone := x.gone + s.fragSent p x }) }

theorem execEgressFrameStart_eq (p : Fin 256) (dep : Inst) (s : State) (hup : s.portUp p = true) (hst : s.egrState p = 0)
    (hmac : s.macTx p = true) (hdue : (s.port p).pfcDue = false) (hgap : s.macGap p = true)
    (hold : ∀ n < 16, s.oldIn (16 * p + n) = []) :
    exec (.egressFrameStart p dep) s = match s.portChoice p ((s.port p).tx.isSome || (s.port p).preempted.isSome) with
      | some (q, d) => (match s.headEnt (16 * p + q) with
        | some e => fin ((s.haltTx p d).startTx p q e dep)
        | none => fin s)
      | none => if (s.port p).tx.isNone && (s.port p).preempted.isSome then
          fin (s.updPort p fun o => { o with tx := (s.port p).preempted.map (fun t => { t with frags := t.frags + 1, fragAt := s.now }),
                                             preempted := none })
        else fin s := by
  show execEgressFrameStart p dep s = _
  unfold execEgressFrameStart
  rw [if_neg (by simp [hup, hst, hmac, hdue, hgap])]
  dsimp only
  rw [s.reapHeads_fixed p fun q hq => hold q (List.mem_range.1 hq)]
  rfl

/-- A frame is composed from the committed configuration and the stamps and steps of the time base alone. -/
theorem State.compose_eq {s t : State} {p : Nat} (hcom : t.committed = s.committed)
    (hstamp : ∀ n i, t.txStamp p n i = s.txStamp p n i) (hsteps : ∀ n, t.swSteps n = s.swSteps n) {f : Frame} {dep : Inst} :
    t.compose p f dep = s.compose p f dep := by
  unfold State.compose State.insertStep State.comB
  simp only [State.com_eq hcom, hstamp, hsteps]

theorem State.compose_updPort (s : State) (q p : Nat) (g : Port → Port) (f : Frame) (dep : Inst) :
    (s.updPort q g).compose p f dep = s.compose p f dep := by
  have hcom : (s.updPort q g).committed = s.committed := rfl
  have hstamp (i : Nat) (x : Inst) : (s.updPort q g).txStamp p i x = s.txStamp p i x := rfl
  have hsteps (i : Nat) : (s.updPort q g).swSteps i = s.swSteps i := rfl
  exact State.compose_eq hcom hstamp hsteps

theorem State.compose_popHead (s : State) (n p : Nat) (f : Frame) (dep : Inst) :
    (s.popHead n).compose p f dep = s.compose p f dep := by
  have hcom : (s.popHead n).committed = s.committed := rfl
  have hstamp (i : Nat) (x : Inst) : (s.popHead n).txStamp p i x = s.txStamp p i x := rfl
  have hsteps (i : Nat) : (s.popHead n).swSteps i = s.swSteps i := rfl
  exact State.compose_eq hcom hstamp hsteps

theorem State.compose_haltTx (s : State) (p : Nat) (d : Dwrr) (n : Nat) (f : Frame) (dep : Inst) :
    ((s.haltTx p d).popHead n).compose p f dep = s.compose p f dep :=
  (State.compose_popHead ..).trans (State.compose_updPort ..)

theorem egressFrameStart_starts (p : Fin 256) (dep : Inst) (q : Nat) (d : Dwrr) (e : QEnt) (s : State) (hup : s.portUp p = true)
    (hst : s.egrState p = 0) (hmac : s.macTx p = true) (hdue : (s.port p).pfcDue = false) (hgap : s.macGap p = true)
    (hold : ∀ n < 16, s.oldIn (16 * p + n) = [])
    (hch : s.portChoice p ((s.port p).tx.isSome || (s.port p).preempted.isSome) = some (q, d))
    (hhead : s.headEnt (16 * p + q) = some e) (h1 : s.railOk 1 = true) :
    Yields (.egressFrameStart p dep) s fun t =>
      (t.port p).preempted = (s.port p).preempted.or ((s.port p).tx.map fun x => { x with gone := x.gone + s.fragSent p x }) ∧
      match s.compose p e.frame dep with
      | some ed => ∃ x, (t.port p).tx = some x ∧ x.frame = e.frame ∧ x.queue = 16 * p + q ∧
          x.bytes = ed.bytes ++ fcsBytes ed.bytes ∧ x.start = s.now ∧ x.dep = dep
      | none => (t.port p).tx = none ∧ t.slot (prtSlot p 78) = (s.slot (prtSlot p 78) + 1) % 2 ^ 48 := by
  rw [yields_iff, execEgressFrameStart_eq p dep s hup hst hmac hdue hgap hold, hch]
  dsimp only
  rw [hhead]
  dsimp only
  unfold State.startTx
  dsimp only
  rw [s.compose_haltTx]
  have hport : ((s.haltTx p d).popHead (16 * p + q)).port p = { s.port p with
      dwrr := d, tx := none,
      preempted := (s.port p).preempted.or ((s.port p).tx.map fun x => { x with gone := x.gone + s.fragSent p x }) } := by
    have hpop : ((s.haltTx p d).popHead (16 * p + q)).port p = (s.haltTx p d).port p := rfl
    rw [hpop]
    unfold State.haltTx
    rw [State.port_updPort_self]
  have hrail : ((s.haltTx p d).popHead (16 * p + q)).railOk 1 = s.railOk 1 := rfl
  have hslot (n : Nat) : ((s.haltTx p d).popHead (16 * p + q)).slot n = s.slot n := rfl
  have hnow : ((s.haltTx p d).popHead (16 * p + q)).now = s.now := rfl
  generalize (s.haltTx p d).popHead (16 * p + q) = u at hport hrail hslot hnow
  cases s.compose p e.frame dep with
  | none =>
    dsimp only
    rw [ends_fin]
    have hk := ((u.count_linkKept (prtSlot p 78) 1).trans (State.dequeued_linkKept _ (16 * p + q) e.frame)).trans
      (State.settle_linkKept _)
    rw [hk.preempted, hk.tx, hport, State.settle_slot, (State.dequeued_slotsKept _ _ _).slot _ (prtSlot_lt p (by decide)),
      u.slot_count_self (by rw [hrail, h1]), hslot]
    exact ⟨rfl, rfl, rfl⟩
  | some ed =>
    dsimp only
    rw [ends_fin, State.settle_port, State.port_updPort_self, hport]
    exact ⟨rfl, _, rfl, rfl, rfl, rfl, hnow, rfl⟩

theorem egressFrameStart_resumes (p : Fin 256) (dep : Inst) (x : Tx) (s : State) (hup : s.portUp p = true) (hst : s.egrState p = 0)
    (hmac : s.macTx p = true) (hdue : (s.port p).pfcDue = false) (hold : ∀ n < 16, s.oldIn (16 * p + n) = [])
    (hch : s.portChoice p true = none) (htx : (s.port p).tx = none) (hpre : (s.port p).preempted = some x) :
    Yields (.egressFrameStart p dep) s fun t => (t.port p).preempted = none ∧
      (t.port p).tx = some { x with frags := x.frags + 1, fragAt := s.now } := by
  have hgap : s.macGap p = true := by
    unfold State.macGap
    rw [htx]
  rw [yields_iff, execEgressFrameStart_eq p dep s hup hst hmac hdue hgap hold, htx, hpre]
  have hany : ((none : Option Tx).isSome || (some x).isSome) = true := rfl
  rw [hany, hch]
  dsimp only
  have hgo : ((none : Option Tx).isNone && (some x).isSome) = true := rfl
  rw [if_pos hgo, ends_fin, State.settle_port, State.port_updPort_self]
  exact ⟨rfl, rfl⟩

/-! ### The DETAIL of an answer (R98) -/

/-- The fourth to seventh byte of a response's header, behind its status and its length. -/
theorem State.setMb_detail (s : State) (m d : Nat) (hdr tail : List Byte) (hh : hdr.length = 4) (hd : d < 256 ^ 4) :
    ((s.setMb m 8 (hdr ++ leBytes 4 d)).setMb m 24 tail).mf m 12 4 = d := by
  have hbytes : ((s.setMb m 8 (hdr ++ leBytes 4 d)).setMb m 24 tail).mbytes m 12 (leBytes 4 d).length = leBytes 4 d :=
    State.mbytes_eq fun i hi => by
      rw [leBytes_length] at hi
      rw [State.mb_setMb_out _ _ _ _ _ _ (by omega), show 12 + i = 8 + (4 + i) by omega,
        State.mb_setMb_in _ _ _ _ _ (by rw [List.length_append, hh, leBytes_length]; omega), List.getD, List.getD,
        List.getElem?_append_right (by omega), hh, Nat.add_sub_cancel_left]
  rw [leBytes_length] at hbytes
  unfold State.mf
  rw [hbytes, leNat_leBytes _ _ hd]

theorem State.writeEnd_detail (s : State) (m st d : Nat) (res : List Byte) (hd : d < 256 ^ 4) : (s.writeEnd m st d res).mf m 12 4 = d := by
  unfold State.writeEnd
  extract_lets u v
  have hu : u.mf m 12 4 = d := (State.mf_eq (State.setMst_mem ..) m 12 4).trans
    (s.setMb_detail m d _ _ (by rw [List.length_append, leBytes_length, leBytes_length]) hd)
  have hv : v.mf m 12 4 = u.mf m 12 4 := State.mf_eq (State.updMbx_mem ..) m 12 4
  split
  · rw [State.mf_eq ((v.msix_within m).part .mem (by decide)), hv, hu]
  · rw [hv, hu]

theorem State.complete_detail (s : State) (m d : Nat) (res : List Byte) (hb : s.boot.running = false) (hd : d < 256 ^ 4) :
    (s.complete m ST_OK d res).mf m 12 4 = d := by
  unfold State.complete
  rw [if_neg (by rw [hb]; decide)]
  cases hr : (s.mbxAt m).retry with
  | false => rw [s.writeDone_first m ST_OK d res hr, State.writeEnd_detail _ _ _ _ _ hd]
  | true => rw [s.writeDone_again m d res hr, State.writeEnd_detail _ _ _ _ _ hd]

/-! ### CMD_PRT_OPT_XFER -/

theorem State.setMst_follow (s : State) (m v : Nat) : (s.setMst m v).follow = s.follow := by
  have hlead : (s.setMst m v).lead = s.lead := by
    unfold State.lead State.bit
    rw [State.setMst_rd _ _ _ (by decide +kernel)]
  unfold State.follow
  rw [hlead]
  rfl

theorem slice_length (bs : List Byte) (o n : Nat) : (slice bs o n).length = n := by
  unfold slice
  extract_lets xs
  have h : xs.length ≤ n := List.length_take_le ..
  rw [List.length_append, List.length_replicate]
  omega

/-- The checks of a transfer that the bus can make. -/
theorem State.optChecks_pass {s : State} {m : Fin 16} {x : Exec} (h : s.accepts m 0x102 x = true)
    (hlen : s.plen m = 8 + s.pay m 2 2) (hz : s.pay m 6 2 = 0) (hany : 0 < s.pay m 2 2 + s.pay m 4 2) (hbus : s.pay m 0 1 ≤ 15)
    (hadr : s.pay m 1 1 ≤ 127) (hwr : s.pay m 2 2 ≤ 256) (hrd : s.pay m 4 2 ≤ 256) (hmode : s.tkMode = true)
    (hlead : s.follow = false) : firstFail ((s.setMst m mRUNNING).optChecks m) = none := by
  unfold State.optChecks
  simp only [State.setMst_pay, State.setMst_tkMode, State.setMst_follow, hmode, hlead]
  rw [State.headChecks_pass h (by omega) (by simp [hlen])]
  refine firstFail_pass ?_
  have hsome : s.pay m 2 2 = 0 → s.pay m 4 2 ≠ 0 := by omega
  simp [chk, hz, not_lt.2 hbus, not_lt.2 hadr, not_lt.2 hwr, not_lt.2 hrd]
  exact fun h0 => decide_eq_false (hsome (of_decide_eq_true h0))

/-- The state in which the command starts: an execution that is repeated has made the transfer once and recovered the bus. -/
def State.optFrom (s : State) (m : Nat) (x : Exec) : State := if x = .retried then s.optRecover m else s

theorem State.optFrom_within (s : State) (m : Nat) (x : Exec) : Within ⟨[.out], [], []⟩ s (s.optFrom m x) :=
  .ite ((State.emit_within ..).step ((s.optXfer_within m).step (.refl _ _) (by decide)) (by decide)) (.refl _ _)

theorem State.accepts_emit (s : State) (o : Out) (m : Fin 16) (opc : Nat) (x : Exec) : (s.emit o).accepts m opc x = s.accepts m opc x := rfl

theorem State.optChecks_emit (s : State) (o : Out) (m : Nat) :
    firstFail (((s.emit o).setMst m mRUNNING).optChecks m) = firstFail ((s.setMst m mRUNNING).optChecks m) := rfl

theorem State.accepts_optFrom (s : State) (m : Fin 16) (opc : Nat) (x y : Exec) : (s.optFrom m x).accepts m opc y = s.accepts m opc y := by
  unfold State.optFrom State.optRecover State.optXfer
  split
  · rw [State.accepts_emit, State.accepts_emit]
  · rfl

theorem State.optChecks_optFrom (s : State) (m : Nat) (x : Exec) :
    firstFail (((s.optFrom m x).setMst m mRUNNING).optChecks m) = firstFail ((s.setMst m mRUNNING).optChecks m) := by
  unfold State.optFrom State.optRecover State.optXfer
  split
  · rw [State.optChecks_emit, State.optChecks_emit]
  · rfl

theorem execCmdPrtOptXfer_eq (m : Fin 16) (x : Exec) (status : Fin 3) (idx : BitVec 16) (data : List Byte) (s : State)
    (h : s.accepts m 0x102 x = true) (hpass : firstFail ((s.setMst m mRUNNING).optChecks m) = none) :
    exec (.cmdPrtOptXfer m x status idx data) s = fin ((((s.optFrom m x).started m x).optXfer m).complete m ST_OK
      (if status = 2 then idx.toNat else 0) ([BitVec.ofNat 8 status.val, 0, 0, 0] ++
        slice (if status = 0 then data else []) 0 (((s.optFrom m x).started m x).pay m 4 2))) := by
  have hx : x = .clean ∨ (x = .retried ∧ (s.mbxAt m).retry = false) := by
    simp only [State.accepts, Bool.and_eq_true, Bool.or_eq_true, decide_eq_true_eq, Bool.not_eq_true'] at h
    exact h.2
  have hruns : (s.ready m 0x102 && !s.recovery && (firstFail ((s.setMst m mRUNNING).optChecks m)).isNone) = true := by
    have hr := h
    simp only [State.accepts, Bool.and_eq_true, Bool.not_eq_true'] at hr
    rw [hr.1.1.1.1, hr.1.1.1.2, hpass]
    rfl
  have hfrom : (if !(s.ready m 0x102 && !s.recovery && (firstFail ((s.setMst m mRUNNING).optChecks m)).isNone) || x = .clean then s
      else if (s.mbxAt m).retry then s.optXfer m
      else if x = .failed then (s.optRecover m).optXfer m else s.optRecover m) = s.optFrom m x := by
    rw [hruns]
    rcases hx with rfl | ⟨rfl, hretry⟩
    · rfl
    · rw [if_neg (by decide), hretry]
      rfl
  show execCmdPrtOptXfer m x status idx data s = _
  unfold execCmdPrtOptXfer
  dsimp only
  rw [hfrom, State.cmd_starts (by rwa [s.accepts_optFrom]) (by rwa [s.optChecks_optFrom])]

theorem cmdPrtOptXfer_acts (m : Fin 16) (x : Exec) (status : Fin 3) (idx : BitVec 16) (data : List Byte) (s : State)
    (h : s.accepts m 0x102 x = true) (hlen : s.plen m = 8 + s.pay m 2 2) (hz : s.pay m 6 2 = 0)
    (hany : 0 < s.pay m 2 2 + s.pay m 4 2) (hbus : s.pay m 0 1 ≤ 15) (hadr : s.pay m 1 1 ≤ 127) (hwr : s.pay m 2 2 ≤ 256)
    (hrd : s.pay m 4 2 ≤ 256) (hmode : s.tkMode = true) (hlead : s.follow = false) :
    Yields (.cmdPrtOptXfer m x status idx data) s fun t =>
      s.succeeds t m x ([BitVec.ofNat 8 status.val, 0, 0, 0] ++ slice (if status = 0 then data else []) 0 (s.pay m 4 2)) ∧
      s.sends t (.i2c (s.pay m 0 1) (s.pay m 1 1) (s.payBytes m 8 (s.pay m 2 2)) (s.pay m 4 2)) ∧
      (x = .retried → s.sends t (.i2cClocks (s.pay m 0 1))) ∧ (status = 2 → t.mf m 12 4 = idx.toNat) := by
  have hfrom := s.optFrom_within m x
  have hmem : ((s.optFrom m x).started m x).mem = s.mem := State.started_mem.trans (hfrom.part .mem (by decide))
  have hpay (o n : Nat) : ((s.optFrom m x).started m x).pay m o n = s.pay m o n := State.mf_eq hmem ..
  have hbytes (o n : Nat) : ((s.optFrom m x).started m x).payBytes m o n = s.payBytes m o n := by
    unfold State.payBytes State.mbytes State.mb
    rw [hmem]
  have hout : s.out <+: ((s.optFrom m x).started m x).out := hfrom.out.trans State.started_within.out
  have hclocks : x = .retried → ((s.optXfer m).emit (.i2cClocks (s.pay m 0 1))).out <+: ((s.optFrom m x).started m x).out := by
    rintro rfl
    exact State.started_within.out
  have hboot : ((s.optFrom m x).started m x).boot.running = false := by
    rw [State.started_boot, hfrom.part .boot (by decide), State.accepts_boot h]
  have hretry : (((s.optFrom m x).started m x).mbxAt m).retry = !s.fresh m x := by
    rw [State.started_retry]
    unfold State.fresh State.mbxAt
    rw [hfrom.part .gr (by decide)]
  rw [yields_iff, execCmdPrtOptXfer_eq m x status idx data s h (State.optChecks_pass h hlen hz hany hbus hadr hwr hrd hmode hlead),
    ends_fin, hpay]
  unfold State.optXfer
  simp only [hpay, hbytes]
  generalize (s.optFrom m x).started m x = u at hout hclocks hboot hretry
  generalize hv : u.emit (.i2c (s.pay m 0 1) (s.pay m 1 1) (s.payBytes m 8 (s.pay m 2 2)) (s.pay m 4 2)) = v
  have hend (d : Nat) (res : List Byte) : v.out <+: (v.complete m ST_OK d res).settle.out :=
    (State.complete_within ..).out.trans (State.settle_within _).out
  have huv : u.out <+: v.out := by
    rw [← hv]
    exact (u.emit_within _).out
  have hvboot : v.boot.running = false := by rw [← hv]; exact hboot
  have hvretry : (v.mbxAt m).retry = !s.fresh m x := by rw [← hv]; exact hretry
  refine ⟨State.complete_succeeds hvboot hvretry _ ?_, State.sends_of_out hout (by rw [← hv]; rfl) (hend _ _), fun hx => ?_, fun hst => ?_⟩
  · rw [List.length_append, slice_length]
    show 4 + _ ≤ 4032
    omega
  · exact State.sends_of_out (s.optXfer_within m).out rfl ((hclocks hx).trans (huv.trans (hend _ _)))
  · rw [State.mf_eq (State.settle_mem _), State.complete_detail v m _ _ hvboot ?_, if_pos hst]
    have := idx.isLt
    split <;> omega

/-! ### The statement -/

/-- Settles O25: a lemma for each row of the MAC, of the modules and of the Tally. -/
theorem portsFramesAct : Obligations.PortsFramesAct := by
  unfold Obligations.PortsFramesAct
  refine ⟨fun p k bytes codeErr cut i s hup h1 hl hv hr => ?_, fun p k last bytes mcrcOk codeErr i s hup hen h1 hl => ?_,
    egressFrameStart_starts, egressFrameStart_resumes, pauseTakesEffect_acts, pauseTimerExpiry_acts,
    fun p s hup hdue hgap hmac => ?_, pfcRepeat_acts, verifyTimeout_acts, optIntEdge_acts, tallyFold_acts, cmdPrtOptXfer_acts⟩
  · cases k with
    | frame => exact receiveFrame_frame p bytes codeErr cut i s hup h1 hl
    | verify => exact receiveFrame_verify p bytes codeErr cut i s hup hl (hv rfl).1 (hv rfl).2
    | respond => exact receiveFrame_respond p bytes codeErr cut i s hup hl (hr rfl)
  · cases k with
    | start =>
      obtain ⟨t, he, h24, hmore, hwhole, hbad⟩ := receiveFragment_start p last bytes mcrcOk codeErr i s hup hen h1 hl
      exact ⟨t, he, h24, fun _ => hmore, fun _ => hwhole, fun _ => hbad, fun hne => absurd rfl hne, nofun⟩
    | cont n =>
      cases hasm : (s.port p).asm with
      | none =>
        obtain ⟨t, he, h24, h23⟩ := receiveFragment_stray p n last bytes mcrcOk codeErr i s hup hen h1 hasm (by simpa [hasm] using hl)
        exact ⟨t, he, h24, nofun, nofun, nofun, fun _ _ => h23, fun _ _ _ ha => (nomatch ha)⟩
      | some a =>
        obtain ⟨t, he, h24, hout, hlast, hbad, hmore⟩ :=
          receiveFragment_next p n last bytes mcrcOk codeErr i s a hup hen h1 hasm (by simpa [hasm] using hl)
        refine ⟨t, he, h24, nofun, nofun, nofun, fun _ hno => (nomatch hno), fun n' a' hk ha => ?_⟩
        cases hk
        cases ha
        exact ⟨hout, hlast, hbad, hmore⟩
  · obtain ⟨t, he, hsent⟩ := pfcFrameSend_acts p s hup hdue hgap hmac
    obtain ⟨hdue', hat, hmask⟩ : (t.port p).pfcDue = false ∧ (t.port p).pfcAt = s.now ∧ (t.port p).sent = s.pfcMask p := by
      have h := hsent.pfc
      unfold Port.pfc at h
      simpa only [Prod.mk.injEq] using h
    exact ⟨t, he, hdue', hat, hmask, hsent.xoff, fun hany => ⟨hsent.pause hany, hsent.pfcFrame hany⟩, s.pfcVector_bits p⟩

end Sys2Proof.Machine
end

section
/-! PROOFS. What bounds every command of the Sheaf lines (R166, R177, R181, R188, R198), for O50. -/
namespace Sys2Proof.Machine

/-- Settles O50: the scope of every command bounds it. -/
theorem frameSheaf : Obligations.FrameSheaf := fun _ _ _ _ h => gives_within h

end Sys2Proof.Machine
end

section
/-! PROOFS. What the Granary, the egresses and the references leave of the counters of carriers (R197, R234, R244-R264), for
O26. -/
set_option Elab.async false
namespace Sys2Proof.Machine

/-! ### The counters of carriers -/

/-- From `s` to `t` no carrier counts one of the slots of its receive side, 0 to 10 (R197). -/
structure State.CarSlotsKept (s t : State) : Prop where
  slot : ∀ d < 128, ∀ i ≤ 10, t.slot (carSlot d i) = s.slot (carSlot d i)

namespace State.CarSlotsKept
variable {s t u : State}

theorem refl (s : State) : s.CarSlotsKept s := ⟨fun _ _ _ _ => rfl⟩

theorem trans (h : s.CarSlotsKept t) (h' : t.CarSlotsKept u) : s.CarSlotsKept u :=
  ⟨fun d hd i hi => (h'.slot d hd i hi).trans (h.slot d hd i hi)⟩

theorem of_eq (hh : t.tally = s.tally) (ha : t.tacc = s.tacc) : s.CarSlotsKept t := ⟨fun _ _ _ _ => State.slot_eq hh ha _⟩

theorem of_within {sc : Scope} (h : Within sc s t) (hh : Part.tally ∉ sc.parts) (ha : Part.tacc ∉ sc.parts) : s.CarSlotsKept t :=
  of_eq (h.part .tally hh) (h.part .tacc ha)

theorem foldl {α : Type} {f : State → α → State} (hf : ∀ (s : State) a, s.CarSlotsKept (f s a)) (l : List α) (s : State) :
    s.CarSlotsKept (l.foldl f s) := foldl_keeps (R := State.CarSlotsKept) refl trans hf l s

theorem ite {c : Prop} [Decidable c] {a b : State} (ha : s.CarSlotsKept a) (hb : s.CarSlotsKept b) :
    s.CarSlotsKept (if c then a else b) := by
  split
  · exact ha
  · exact hb

end State.CarSlotsKept

/-- A slot before or behind those of the carriers (R513). -/
theorem State.count_carSlotsKept (s : State) {n : Nat} (h : n < 36864 ∨ 45056 ≤ n) (k : Nat) : s.CarSlotsKept (s.count n k) :=
  ⟨fun d hd i hi => s.slot_count_ne (by unfold carSlot; omega) k⟩

/-- Another counter of a carrier. -/
theorem State.count_late_carSlotsKept (s : State) (c : Nat) {i : Nat} (h : 10 < i ∧ i < 64) (k : Nat) :
    s.CarSlotsKept (s.count (carSlot c i) k) :=
  ⟨fun d hd j hj => s.slot_count_ne (by unfold carSlot; omega) k⟩

theorem State.count_shf_carSlotsKept (s : State) {h i : Nat} (hh : h < 32) (hi : i < 128) (k : Nat) :
    s.CarSlotsKept (s.count (shfSlot h i) k) := s.count_carSlotsKept (.inl (by unfold shfSlot; omega)) k

theorem State.raise_carSlotsKept (s : State) (e : Ev) (i : Nat) : s.CarSlotsKept (s.raise e i) := ⟨fun _ _ _ _ => s.raise_slot e i _⟩

theorem State.count_raise_carSlotsKept (s : State) {n : Nat} (h : n < 36864 ∨ 45056 ≤ n) (e : Ev) (i : Nat) :
    s.CarSlotsKept ((s.count n).raise e i) := (s.count_carSlotsKept h 1).trans (State.raise_carSlotsKept ..)

theorem State.settle_carSlotsKept (s : State) : s.CarSlotsKept s.settle := ⟨fun _ _ _ _ => s.settle_slot _⟩

theorem State.updGrn_carSlotsKept (s : State) (f : Grn → Grn) : s.CarSlotsKept (s.updGrn f) := .of_eq rfl rfl
theorem State.updFwd_carSlotsKept (s : State) (f : Fwd → Fwd) : s.CarSlotsKept (s.updFwd f) := .of_eq rfl rfl
theorem State.updSheaf_carSlotsKept (s : State) (h : Nat) (f : Sheaf → Sheaf) : s.CarSlotsKept (s.updSheaf h f) := .of_eq rfl rfl
theorem State.updTt_carSlotsKept (s : State) (f : Tt → Tt) : s.CarSlotsKept (s.updTt f) := .of_eq rfl rfl

theorem State.wr_carSlotsKept (s : State) (f : Fld) (i v : Nat) : s.CarSlotsKept (s.wr f i v) :=
  .of_eq (State.wr_tally ..) (State.wr_tacc ..)

/-! ### Buffers and pages given back (R243, R246, R260-R264) -/

theorem State.freeBuf_carSlotsKept (s : State) (party : Tag) (b : Nat × Nat) : s.CarSlotsKept (s.freeBuf party b) := by
  have hback (k : Nat) : s.CarSlotsKept (s.giveBack b.1 b.2 k) := .of_within (s.giveBack_within ..) (by decide) (by decide)
  unfold State.freeBuf
  extract_lets t
  refine .ite (s.count_raise_carSlotsKept (.inr (by unfold poolSlot; omega)) _ _) (.ite (.ite (hback _) (.of_eq rfl rfl)) ?_)
  exact .ite (hback _) (s.count_raise_carSlotsKept (.inr (by unfold poolSlot; omega)) _ _)

theorem State.freeBufs_carSlotsKept (s : State) (party : Tag) (l : List (Nat × Nat)) :
    s.CarSlotsKept (s.each l fun s b => s.freeBuf party b) := .foldl (fun u b => u.freeBuf_carSlotsKept party b) l s

theorem State.freePage_carSlotsKept (s : State) (party : Tag) (g : Nat) : s.CarSlotsKept (s.freePage party g) := by
  have hbad (u : State) (i : Nat) (e : Ev) : u.CarSlotsKept ((u.count (siloSlot i)).raise e 8) :=
    u.count_raise_carSlotsKept (.inr (by unfold siloSlot; omega)) e 8
  unfold State.freePage
  extract_lets t
  have hpage : s.CarSlotsKept (s.setPage g { tag := { kind := kRETIRED } }) := .of_within (s.setPage_within ..) (by decide) (by decide)
  exact .ite (hbad s _ _) (.ite (hbad s _ _) (.ite (hpage.trans (hbad _ _ _))
    (.of_within (s.returnPage_within g) (by decide) (by decide))))

theorem State.freePages_carSlotsKept (s : State) (party : Tag) (l : List Nat) :
    s.CarSlotsKept (s.each l fun s g => s.freePage party g) := .foldl (fun u g => u.freePage_carSlotsKept party g) l s

theorem State.backPages_carSlotsKept (s : State) (l : List Nat) : s.CarSlotsKept (s.backPages l) := by
  have hdue (u : State) : u.CarSlotsKept u.pagesBack := by
    unfold State.pagesBack
    extract_lets due out
    exact .ite (.refl u) ((u.updGrn_carSlotsKept _).trans (.foldl (fun v e => v.freePage_carSlotsKept _ _) _ _))
  exact (s.updGrn_carSlotsKept _).trans (hdue _)

/-! ### Ingress accounts (R247-R249) -/

theorem State.setXoff_carSlotsKept (s : State) (p c : Nat) (on : Bool) : s.CarSlotsKept (s.setXoff p c on) := by
  unfold State.setXoff
  exact .ite (.refl s) (.trans (.ite (s.count_carSlotsKept (.inr (by unfold grnSrcSlot; omega)) 1) (.refl s)) (.of_eq rfl rfl))

theorem State.judgeIn_carSlotsKept (s : State) (src c : Nat) : s.CarSlotsKept (s.judgeIn src c) :=
  .ite (.refl s) (.ite (s.setXoff_carSlotsKept ..) (.ite (s.setXoff_carSlotsKept ..)
    (.ite (s.setXoff_carSlotsKept ..) (.refl s))))

theorem State.subIn_carSlotsKept (s : State) (src c n : Nat) : s.CarSlotsKept (s.subIn src c n) :=
  (s.updGrn_carSlotsKept _).trans (State.judgeIn_carSlotsKept ..)

/-! ### Queues that are purged and egresses that go down (R230, R234, R236, R262) -/

theorem State.letGo_carSlotsKept (s : State) (party : Tag) (f : Frame) : s.CarSlotsKept (s.letGo party f) := by
  have hall (u : State) : u.CarSlotsKept (u.freeFrame party f) :=
    (u.freeBufs_carSlotsKept party f.bufs).trans (State.subIn_carSlotsKept ..)
  exact .ite ((s.freeBufs_carSlotsKept party f.bufs).trans (.of_eq rfl rfl)) ((s.updFwd_carSlotsKept _).trans (hall _))

theorem State.tidyRecall_carSlotsKept (s : State) (n : Nat) : s.CarSlotsKept (s.tidyRecall n) := by
  unfold State.tidyRecall
  split
  · exact .ite (.refl s) ((s.freeBufs_carSlotsKept ..).trans (.of_eq rfl rfl))
  · exact .refl s

theorem State.dropSegs_carSlotsKept (s : State) (n : Nat) (flush : Bool) : s.CarSlotsKept (s.dropSegs n flush) := by
  unfold State.dropSegs
  extract_lets u q live dead v l
  have hu : s.CarSlotsKept u := s.tidyRecall_carSlotsKept n
  have hv : u.CarSlotsKept v := .of_eq rfl rfl
  exact (hu.trans hv).trans (.ite (v.backPages_carSlotsKept l) (v.freePages_carSlotsKept _ l))

theorem State.purge_carSlotsKept (s : State) (n i : Nat) (pick : QEnt → Bool) : s.CarSlotsKept (s.purge n i pick) := by
  have hout (u : State) (l : List QEnt) : u.CarSlotsKept (u.each l fun s e => s.discardEnt n e) :=
    .foldl (fun v e => .ite (v.letGo_carSlotsKept ..) (.refl v)) l u
  have hcount (u : State) (k : Nat) : u.CarSlotsKept (u.count (queueSlot (n / 16) (n % 16) i) k) :=
    u.count_carSlotsKept (.inr (by unfold queueSlot; omega)) k
  unfold State.purge
  extract_lets out u v
  have hu : s.CarSlotsKept u := ((s.updGrn_carSlotsKept _).trans (hout _ _)).trans (State.updGrn_carSlotsKept _ _)
  have hv : u.CarSlotsKept v := .of_eq rfl rfl
  exact .ite (.refl s) (((hu.trans hv).trans (hcount ..)).trans (State.dropSegs_carSlotsKept ..))

theorem State.purges_carSlotsKept (s : State) (l : List Nat) (i : Nat) :
    s.CarSlotsKept (s.each l fun s n => s.purge n i fun _ => true) := .foldl (fun u n => u.purge_carSlotsKept n i _) l s

theorem State.enterDrop_carSlotsKept (s : State) (e : Nat) : s.CarSlotsKept (s.enterDrop e) := by
  unfold State.enterDrop
  extract_lets had u v w
  have hu : s.CarSlotsKept u := s.purges_carSlotsKept ..
  have hv : u.CarSlotsKept v := .ite (u.purges_carSlotsKept ..) (.refl u)
  have hw : v.CarSlotsKept w := (v.wr_carSlotsKept ..).trans (State.updFwd_carSlotsKept _ _)
  exact ((hu.trans hv).trans hw).trans (.ite (w.raise_carSlotsKept ..) (.refl w))

theorem State.egressDown_carSlotsKept (s : State) (e : Nat) : s.CarSlotsKept (s.egressDown e) := by
  unfold State.egressDown
  extract_lets u v
  have hu : s.CarSlotsKept u := .ite (s.raise_carSlotsKept ..) (.refl s)
  have hv : u.CarSlotsKept v := .ite (u.purges_carSlotsKept ..) (.refl u)
  refine .ite (.refl s) ((hu.trans hv).trans (.ite (v.enterDrop_carSlotsKept e) ?_))
  exact (v.wr_carSlotsKept ..).trans (State.updFwd_carSlotsKept _ _)

/-! ### The Sheaf's figures and its line reference (R180, R189, R363) -/

theorem State.noteSheaf_carSlotsKept (s : State) (h : Nat) : s.CarSlotsKept (s.noteSheaf h) := by
  unfold State.noteSheaf
  extract_lets act n was u v w
  have hu : s.CarSlotsKept u :=
(s.wr_carSlotsKept ..).trans (State.wr_carSlotsKept ..)
  have hv : u.CarSlotsKept v := .of_within (u.noteLossWait_within h) (by decide) (by decide)
  have hw : v.CarSlotsKept w := by
    have hup (x : State) : x.CarSlotsKept (x.egressUp (256 + h)) := .of_within (x.egressUp_within _) (by decide) (by decide)
    have hidle (x : State) : x.CarSlotsKept (x.rxIdle h) := .of_within (x.rxIdle_within h) (by decide) (by decide)
    exact .ite ((v.updSheaf_carSlotsKept ..).trans (hup _))
      (.ite (((v.updSheaf_carSlotsKept ..).trans (hidle _)).trans (State.egressDown_carSlotsKept ..)) (.refl v))
  exact ((hu.trans hv).trans hw).trans (.of_within (w.noteRate_within h) (by decide) (by decide))

theorem State.lostSignal_carSlotsKept (s : State) (j : Nat) : s.CarSlotsKept (s.lostSignal j) := by
  have henter (u : State) : u.CarSlotsKept (u.enterNoSignal j) :=
    .ite (.refl u) (.trans (.of_within (u.setQ_within ..) (by decide) (by decide))
      (State.count_carSlotsKept _ (.inr (by unfold refSlot; omega)) 1))
  unfold State.lostSignal
  extract_lets u v
  have hu : s.CarSlotsKept u := (CarSlotsKept.of_within (s.agree_within j) (by decide) (by decide)).trans (henter _)
  have hv : u.CarSlotsKept v :=
    .ite (.refl u) (.trans (.of_within (u.dropPairs_within j) (by decide) (by decide)) (.of_eq rfl rfl))
  exact .ite (.refl s) ((hu.trans hv).trans (.of_eq rfl rfl))

theorem State.noSignal_carSlotsKept (s : State) (j : Nat) : s.CarSlotsKept (s.noSignal j) :=
  .ite (.refl s) ((s.lostSignal_carSlotsKept j).trans (.of_within (State.select_within _) (by decide) (by decide)))

theorem State.leaveSet_carSlotsKept (s : State) (c : Nat) : s.CarSlotsKept (s.leaveSet c) := by
  unfold State.leaveSet
  extract_lets h u v w x
  have hmeas (y : State) : y.CarSlotsKept (y.noteMeas h) := .of_within (y.noteMeas_within h) (by decide) (by decide)
  have hcur : w.CarSlotsKept (w.setCurrent h false) := .of_within (w.setCurrent_within h false) (by decide) (by decide)
  have hv : s.CarSlotsKept v := (s.updTt_carSlotsKept _).trans (hmeas _)
  have hx : v.CarSlotsKept x := (v.updTt_carSlotsKept _).trans (.ite hcur (.refl w))
  refine .ite (.refl s) (hv.trans (.ite (.refl v) (hx.trans ?_)))
  split
  · exact (x.raise_carSlotsKept ..).trans (State.noSignal_carSlotsKept ..)
  · exact .refl x

theorem State.ttNote_carSlotsKept (s : State) (c : Nat) : s.CarSlotsKept (s.ttNote c) :=
  .ite (.ite (.refl s) (s.updTt_carSlotsKept _)) ((s.leaveSet_carSlotsKept c).trans (State.updTt_carSlotsKept ..))

end Sys2Proof.Machine
end

section
/-! PROOFS. What carriers keep while one of them trains, falls back, joins or parks (R180, R188-R194, R332), for O26. -/
set_option Elab.async false
namespace Sys2Proof.Machine

/-! ### What a carrier keeps -/

/-- The fields of SHF_CAR_STAT that a change of the carrier's state leaves. -/
def carFlds : List Fld :=
  [SHF_CAR_STAT.LANES_LOCKED, SHF_CAR_STAT.TG_OK, SHF_CAR_STAT.ECHO_OK, SHF_CAR_STAT.PEER_STATE, SHF_CAR_STAT.DOWN_CAUSE]

/-- Those that a carrier going down leaves. -/
def carDownFlds : List Fld :=
  [SHF_CAR_STAT.LANES_LOCKED, SHF_CAR_STAT.TG_OK, SHF_CAR_STAT.ECHO_OK, SHF_CAR_STAT.PEER_STATE]

/-- Those that a timing grain leaves once it has been taken. -/
def grainFlds : List Fld := [SHF_CAR_STAT.TG_OK, SHF_CAR_STAT.PEER_STATE]

/-- From `s` to `t` every carrier keeps its last timing grain, its locked lanes, a lost signal, the fields `fs` of its
status and the counters of its receive side. -/
structure State.CarKept (fs : List Fld) (s t : State) : Prop where
  rx : ∀ d, (t.car d).rx = (s.car d).rx
  locked : ∀ d, (t.car d).locked = (s.car d).locked
  dark : ∀ d, (s.car d).signal = false → (t.car d).signal = false
  shown : ∀ f ∈ fs, ∀ d, t.rd f d = s.rd f d
  counted : s.CarSlotsKept t

namespace State.CarKept
variable {fs gs : List Fld} {s t u : State}

theorem refl (fs : List Fld) (s : State) : s.CarKept fs s :=
  ⟨fun _ => rfl, fun _ => rfl, fun _ => id, fun _ _ _ => rfl, .refl s⟩

theorem trans (h : s.CarKept fs t) (h' : t.CarKept fs u) : s.CarKept fs u :=
  ⟨fun d => (h'.rx d).trans (h.rx d), fun d => (h'.locked d).trans (h.locked d), fun d hd => h'.dark d (h.dark d hd),
   fun f hf d => (h'.shown f hf d).trans (h.shown f hf d), h.counted.trans h'.counted⟩

theorem mono (h : s.CarKept fs t) (hsub : ∀ g ∈ gs, g ∈ fs) : s.CarKept gs t :=
  ⟨h.rx, h.locked, h.dark, fun f hf => h.shown f (hsub f hf), h.counted⟩

theorem of_cars (hc : t.cars = s.cars) (hr : ∀ f ∈ fs, ∀ d, t.rd f d = s.rd f d) (hk : s.CarSlotsKept t) : s.CarKept fs t := by
  have hcar (d : Nat) : t.car d = s.car d := by
    unfold State.car
    rw [hc]
  exact ⟨fun d => by rw [hcar], fun d => by rw [hcar], fun d hd => by rw [hcar, hd], hr, hk⟩

theorem of_within {sc : Scope} (h : Within sc s t) (hc : t.cars = s.cars)
    (hr : fs.all (fun f => sc.spares f.reg) = true) (hk : s.CarSlotsKept t) : s.CarKept fs t :=
  of_cars hc (fun f hf d => h.rd_same (List.all_eq_true.1 hr f hf) d) hk

theorem foldl {α : Type} {f : State → α → State} (hf : ∀ (s : State) a, s.CarKept fs (f s a)) (l : List α) (s : State) :
    s.CarKept fs (l.foldl f s) := foldl_keeps (R := State.CarKept fs) (refl fs) trans hf l s

theorem ite {c : Prop} [Decidable c] {a b : State} (ha : s.CarKept fs a) (hb : s.CarKept fs b) :
    s.CarKept fs (if c then a else b) := by
  split
  · exact ha
  · exact hb

theorem bit (h : s.CarKept fs t) {f : Fld} (hf : f ∈ fs) (d : Nat) : t.bit f d = s.bit f d := by
  unfold State.bit
  rw [h.shown f hf]

end State.CarKept

section
variable {fs : List Fld}

theorem State.updCar_carKept (s : State) (c : Nat) {f : Carrier → Carrier}
    (hf : ∀ k, (f k).rx = k.rx ∧ (f k).locked = k.locked ∧ (k.signal = false → (f k).signal = false)) :
    s.CarKept fs (s.updCar c f) := by
  have hcar (d : Nat) : (s.updCar c f).car d = if d = c then f (s.car c) else s.car d := by
    split
    · rename_i h
      rw [h, State.car_updCar_self]
    · rename_i h
      exact SMap.get_upd_ne _ _ h
  have hone (d : Nat) : ((s.updCar c f).car d).rx = (s.car d).rx ∧ ((s.updCar c f).car d).locked = (s.car d).locked ∧
      ((s.car d).signal = false → ((s.updCar c f).car d).signal = false) := by
    rw [hcar]
    split
    · rename_i h
      rw [h]
      exact hf _
    · exact ⟨rfl, rfl, id⟩
  exact ⟨fun d => (hone d).1, fun d => (hone d).2.1, fun d => (hone d).2.2, fun _ _ _ => rfl, .of_eq rfl rfl⟩

/-- A write of another field of SHF_CAR_STAT. -/
theorem State.wr_carKept (s : State) {f : Fld} (hf : f.fits = true) (hr : f.reg = R.SHF_CAR_STAT)
    (hd : fs.all (fun g => f.disjoint g && g.reg = R.SHF_CAR_STAT) = true) (c v : Nat) : s.CarKept fs (s.wr f c v) := by
  refine .of_cars (State.wr_cars ..) (fun g hg d => ?_) (.of_within (s.wr_within ..) (by simp) (by simp))
  have hone := List.all_eq_true.1 hd g hg
  rw [Bool.and_eq_true, decide_eq_true_eq] at hone
  obtain ⟨hdisj, hreg⟩ := hone
  exact State.rd_wr_disj s hf hdisj (hr.trans hreg.symm) (hr ▸ by decide) c d v

theorem State.raise_carKept (s : State) (e : Ev) (i : Nat)
    (h : fs.all (fun f => Scope.spares ⟨[.evt], [e.stat], []⟩ f.reg) = true) : s.CarKept fs (s.raise e i) :=
  .of_within (s.raise_within e i) ((s.raise_within e i).part .cars (by simp)) h (s.raise_carSlotsKept e i)

theorem State.count_late_carKept (s : State) (c : Nat) {i : Nat} (h : 10 < i ∧ i < 64) (k : Nat)
    (hr : fs.all (fun f => State.count_scope.spares f.reg) = true) : s.CarKept fs (s.count (carSlot c i) k) :=
  .of_within (s.count_within ..) ((s.count_within ..).part .cars (by decide)) hr (s.count_late_carSlotsKept c h k)

end

theorem State.settle_carKept (s : State) : s.CarKept carFlds s.settle :=
  .of_within s.settle_within s.settle_cars (by decide +kernel) s.settle_carSlotsKept

/-! ### Changes of state (R189, R190, R193) -/

theorem State.setCar_carKept (s : State) (c v : Nat) : s.CarKept carFlds (s.setCar c v) := by
  have hwr : s.CarKept carFlds (s.wr SHF_CAR_STAT.STATE c v) := s.wr_carKept (by decide) rfl (by decide) c v
  have hnote (u : State) : u.CarKept carFlds (u.ttNote c) :=
    .of_within (u.ttNote_within c) (u.ttNote_cars c) (by decide +kernel) (u.ttNote_carSlotsKept c)
  have hsheaf (u : State) (h : Nat) : u.CarKept carFlds (u.noteSheaf h) :=
    .of_within (u.noteSheaf_within h) ((u.noteSheaf_within h).part .cars (by decide)) (by decide +kernel)
      (u.noteSheaf_carSlotsKept h)
  exact .ite (.refl _ s) ((hwr.trans (hnote _)).trans (hsheaf _ _))

theorem State.toCarWait_carKept (s : State) (c : Nat) : s.CarKept carFlds (s.toCarWait c) :=
  ((s.setCar_carKept c _).trans (State.wr_carKept _ (by decide) rfl (by decide) c 0)).trans
    (State.updCar_carKept _ c fun _ => ⟨rfl, rfl, fun _ => rfl⟩)

theorem State.toCarAdapt_carKept (s : State) (c : Nat) : s.CarKept carFlds (s.toCarAdapt c) :=
  (s.setCar_carKept c _).trans (State.updCar_carKept _ c fun _ => ⟨rfl, rfl, id⟩)

theorem State.transientFault_carKept (s : State) (b : Nat) : s.CarKept carFlds (s.transientFault b) :=
  .of_within (s.transientFault_within b) ((s.transientFault_within b).part .cars (by decide)) (by decide +kernel)
    (.of_within (s.transientFault_within b) (by decide) (by decide))

theorem State.toHandshake_carKept (s : State) (c : Nat) : s.CarKept carFlds (s.toHandshake c) := by
  unfold State.toHandshake
  extract_lets u
  have hu : s.CarKept carFlds u :=
    .ite ((s.raise_carKept _ _ (by decide +kernel)).trans (State.transientFault_carKept ..)) (.refl _ s)
  exact ((hu.trans (u.setCar_carKept c _)).trans (State.wr_carKept _ (by decide) rfl (by decide) c 0)).trans
    (State.updCar_carKept _ c fun _ => ⟨rfl, rfl, id⟩)

theorem State.fallBack_carKept (s : State) (c : Nat) : s.CarKept carFlds (s.fallBack c) :=
  .ite (s.toCarWait_carKept c) (.ite (s.toHandshake_carKept c) (s.toCarAdapt_carKept c))

theorem State.carActive_carKept (s : State) (c : Nat) : s.CarKept carFlds (s.carActive c) :=
  (s.setCar_carKept c _).trans (State.raise_carKept _ _ _ (by decide +kernel))

theorem State.carParked_carKept (s : State) (c : Nat) : s.CarKept carFlds (s.carParked c) :=
  ((s.setCar_carKept c _).trans (State.raise_carKept _ _ _ (by decide +kernel))).trans
    (State.updCar_carKept _ c fun _ => ⟨rfl, rfl, id⟩)

theorem State.askPeer_carKept (s : State) (c op : Nat) : s.CarKept carFlds (s.askPeer c op) :=
  s.updCar_carKept c fun _ => ⟨rfl, rfl, id⟩

theorem State.startPark_carKept (s : State) (c : Nat) : s.CarKept carFlds (s.startPark c) :=
  (s.setCar_carKept c _).trans (State.askPeer_carKept ..)

/-! ### Operations and answers (R191, R198) -/

theorem State.endOp_carKept (s : State) (c outcome reason : Nat) : s.CarKept carFlds (s.endOp c outcome reason) :=
  .of_within (s.endOp_within ..) ((s.endOp_within ..).part .cars (by decide)) (by decide +kernel)
    (.of_within (s.endOp_within ..) (by decide) (by decide))

theorem State.endOpOf_carKept (s : State) (c : Nat) (mine : Bool → Nat → Bool) (outcome reason : Nat) :
    s.CarKept carFlds (s.endOpOf c mine outcome reason) :=
  .of_within (s.endOpOf_within ..) ((s.endOpOf_within ..).part .cars (by decide)) (by decide +kernel)
    (.of_within (s.endOpOf_within ..) (by decide) (by decide))

theorem State.carDown_carKept (s : State) (c cause : Nat) : s.CarKept carDownFlds (s.carDown c cause) := by
  unfold State.carDown
  extract_lets u unsent v
  have hu : s.CarKept carDownFlds u :=
    (s.wr_carKept (by decide) rfl (by decide) c cause).trans (State.count_late_carKept _ c (by decide) 1 (by decide +kernel))
  have hv : u.CarKept carDownFlds v :=
    (u.raise_carKept _ c (by decide +kernel)).trans (State.updCar_carKept _ c fun _ => ⟨rfl, rfl, id⟩)
  exact (hu.trans hv).trans ((v.endOp_carKept c 2 0).mono (by decide))

theorem State.answer_carKept (s : State) (c op reason txn : Nat) : s.CarKept carFlds (s.answer c op reason txn) :=
  s.updCar_carKept c fun _ => ⟨rfl, rfl, id⟩

theorem State.answerAgain_carKept (s : State) (c txn : Nat) (park : Bool) : s.CarKept carFlds (s.answerAgain c txn park) :=
  s.updCar_carKept c fun _ => ⟨rfl, rfl, id⟩

theorem State.mgmt_carKept (s : State) (c : Nat) (w : List Byte) : s.CarKept carFlds (s.mgmt c w) := by
  unfold State.mgmt
  extract_lets op reason txn rate u k again mine answered r v x y
  have hu : s.CarKept carFlds u := s.count_late_carKept c (by decide) 1 (by decide +kernel)
  have hv : u.CarKept carFlds v := u.answer_carKept ..
  have hx : u.CarKept carFlds x := u.updCar_carKept c fun _ => ⟨rfl, rfl, id⟩
  have hy : u.CarKept carFlds y := hx.trans (.ite (x.carActive_carKept c) (.refl _ x))
  have hjoinReq : u.CarKept carFlds (if again false = true then u.answerAgain c txn false
      else u.answer c (if r = 0 then opJOIN_ACK else opJOIN_NAK) r txn) := .ite (u.answerAgain_carKept ..) (u.answer_carKept ..)
  have hparkReq : u.CarKept carFlds (if again true = true then u.answerAgain c txn true
      else if v.cst c = cACTIVE || v.cst c = cSTANDBY then v.carParked c else v) :=
    .ite (u.answerAgain_carKept ..) (hv.trans (.ite (v.carParked_carKept c) (.refl _ v)))
  refine .ite (.refl _ s) (hu.trans (.ite hjoinReq (.ite hparkReq
    (.ite (hy.trans (y.endOpOf_carKept ..)) (.ite ?_ (.ite ?_ (.refl _ u)))))))
  · exact (hx.trans (x.raise_carKept _ c (by decide +kernel))).trans (State.endOpOf_carKept ..)
  · exact u.updCar_carKept c fun _ => ⟨rfl, rfl, id⟩

/-! ### A timing grain's echo and its use by time transfer (R332, R333, R336) -/

theorem State.noteCp_cars (s : State) (c : Nat) : (s.noteCp c).cars = s.cars := by
  unfold State.noteCp
  extract_lets bad was u
  have hu : u.cars = s.cars := rfl
  split
  · rfl
  · split
    · rw [(u.raise_within ..).part .cars (by simp), hu]
    · exact hu

theorem State.ttGrain_carKept (s : State) (c : Nat) : s.CarKept carFlds (s.ttGrain c) := by
  unfold State.ttGrain
  extract_lets u
  have hu : s.CarKept carFlds u := .of_within (s.noteCp_within c) (s.noteCp_cars c) (by decide +kernel)
    (.of_within (s.noteCp_within c) (by decide) (by decide))
  exact hu.trans (.ite (.of_within (u.leaveSet_within c) (u.leaveSet_cars c) (by decide +kernel) (u.leaveSet_carSlotsKept c))
    (.refl _ u))

/-- A count of the time transfer of the carrier's Sheaf. -/
theorem State.count_tt_carKept (s : State) (h i : Nat) : s.CarKept carFlds (s.count (ttSlot h i)) :=
  .of_within (s.count_within ..) ((s.count_within ..).part .cars (by decide)) (by decide +kernel)
    (s.count_carSlotsKept (.inr (by unfold ttSlot; omega)) 1)

theorem State.echoPair_carKept (s : State) (c : Nat) (t1 t2 t3 t4 : Int) (rx : Inst) :
    s.CarKept carFlds (s.echoPair c t1 t2 t3 t4 rx) := by
  have htt (u : State) (f : TtCar → TtCar) : u.CarKept carFlds (u.updTtCar c f) :=
    .of_cars rfl (fun _ _ _ => rfl) (.of_eq rfl rfl)
  unfold State.echoPair
  extract_lets h p q rtt u v w x
  have hu : s.CarKept carFlds u := .of_within (s.wr_within ..) (State.wr_cars ..) (by decide +kernel)
    (.of_within (s.wr_within ..) (by simp) (by simp))
  have hv : u.CarKept carFlds v := htt u _
  have hw : v.CarKept carFlds w := .ite (.refl _ v) (v.count_tt_carKept h 2)
  have hx : w.CarKept carFlds x := .ite (htt w _) (.refl _ w)
  exact ((hu.trans hv).trans (hw.trans hx)).trans (.of_within (x.estimate_within c) ((x.estimate_within c).part .cars (by decide))
    (by decide +kernel) (.of_within (x.estimate_within c) (by decide) (by decide)))

/-- The fields that the echo of a timing grain leaves. -/
def echoFlds : List Fld :=
  [SHF_CAR_STAT.LANES_LOCKED, SHF_CAR_STAT.TG_OK, SHF_CAR_STAT.PEER_STATE, SHF_CAR_STAT.DOWN_CAUSE]

theorem State.takeEcho_carKept (s : State) (c : Nat) (bytes : List Byte) (tx rx : Int) (at_ : Inst) :
    s.CarKept echoFlds (s.takeEcho c bytes tx rx at_) := by
  have hok (v : Nat) : s.CarKept echoFlds (s.wr SHF_CAR_STAT.ECHO_OK c v) := s.wr_carKept (by decide) rfl (by decide) c v
  have hsub : ∀ g ∈ echoFlds, g ∈ carFlds := by decide
  unfold State.takeEcho
  extract_lets h t2 u x v turn
  split
  · exact hok 0
  · split
    · exact (hok 0).trans ((State.count_tt_carKept ..).mono hsub)
    · rename_i t1 _
      have hv : u.CarKept echoFlds v := by
        refine .ite ?_ (.refl _ u)
        exact ((u.setCar_carKept c _).trans (.ite (x.askPeer_carKept ..) (.refl _ x))).mono hsub
      exact ((hok 1).trans hv).trans (.ite ((v.echoPair_carKept ..).mono hsub) ((v.count_tt_carKept ..).mono hsub))

end Sys2Proof.Machine
end

section
/-! PROOFS. Training, loss and parking of carriers, and their lock (R167, R168, R188-R190, R193, R450), for O26. -/
set_option Elab.async false
namespace Sys2Proof.Machine

/-! ### Events that stay raised -/

/-- From `s` to `t` no event of the status register `r` is withdrawn. -/
structure State.EvtKept (r : Reg) (s t : State) : Prop where
  bits : ∀ i b, testBit (s.reg r i).toNat b = true → testBit (t.reg r i).toNat b = true

namespace State.EvtKept
variable {r : Reg} {s t u : State}

theorem refl (r : Reg) (s : State) : s.EvtKept r s := ⟨fun _ _ => id⟩

theorem trans (h : s.EvtKept r t) (h' : t.EvtKept r u) : s.EvtKept r u := ⟨fun i b hb => h'.bits i b (h.bits i b hb)⟩

theorem of_within {sc : Scope} (h : Within sc s t) (hr : sc.spares r = true) : s.EvtKept r t :=
  ⟨fun i b hb => by rwa [h.reg_same hr]⟩

theorem ite {c : Prop} [Decidable c] {a b : State} (ha : s.EvtKept r a) (hb : s.EvtKept r b) :
    s.EvtKept r (if c then a else b) := by
  split
  · exact ha
  · exact hb

theorem raised {e : Ev} (h : s.EvtKept e.stat t) {i : Nat} (hi : s.raised e i = true) : t.raised e i = true := h.bits _ _ hi

end State.EvtKept

/-- Another event of the same register leaves those that are raised. -/
theorem State.raise_evtKept (s : State) (e : Ev) {i : Nat} (hs : 0 < e.stat.stride) (hi : e.inst i < e.stat.count) :
    s.EvtKept e.stat (s.raise e i) := by
  refine ⟨fun j b hb => ?_⟩
  unfold State.raise State.raiseObj
  rw [State.logAdd_reg]
  split
  · by_cases hj : j = e.inst i
    · rw [hj, State.reg_setReg_self _ hi, testBit_eq_testBit, BitVec.toNat_or, Nat.testBit_or, ← testBit_eq_testBit, ← hj, hb,
        Bool.true_or]
    · rwa [State.reg_setReg_inst _ hs hj]
  · exact hb

theorem State.toHandshake_evtKept (s : State) (c : Fin 128) : s.EvtKept R.SHF_CAR_EVT_STAT (s.toHandshake c) := by
  have hset (u : State) (v : Nat) : u.EvtKept R.SHF_CAR_EVT_STAT (u.setCar c v) := .of_within (u.setCar_within ..) (by decide +kernel)
  unfold State.toHandshake
  extract_lets u
  have hu : s.EvtKept R.SHF_CAR_EVT_STAT u :=
    .ite ((s.raise_evtKept EV.SHF_CAR_TRAIN_TRANSIENT (by decide) c.isLt).trans
      (.of_within (State.transientFault_within ..) (by decide +kernel))) (.refl _ s)
  exact ((hu.trans (hset u _)).trans (.of_within (State.wr_within ..) (by decide +kernel))).trans
    (.of_within (State.updCar_within ..) (by decide +kernel))

theorem State.fallBack_evtKept (s : State) (c : Fin 128) : s.EvtKept R.SHF_CAR_EVT_STAT (s.fallBack c) :=
  .ite (.of_within (s.toCarWait_within c) (by decide +kernel))
    (.ite (s.toHandshake_evtKept c) (.of_within (s.toCarAdapt_within c) (by decide +kernel)))

/-! ### The lanes of a carrier -/

/-- The carrier of a lane is one of the 128, and the lane is one of its own. -/
theorem State.carOfLane_spec {s : State} {l c : Nat} (h : s.carOfLane l = some c) : c < 128 ∧ l ∈ s.carLanes c := by
  unfold State.carOfLane at h
  have hrange := List.mem_range.1 (List.mem_of_find?_eq_some h)
  have hlane := List.find?_some h
  rw [Bool.and_eq_true, List.contains_iff_mem] at hlane
  exact ⟨hrange, hlane.2⟩

theorem State.allLocked_eq {s t : State} {c : Nat} (hcom : t.committed = s.committed)
    (hl : (t.car c).locked = (s.car c).locked) : t.allLocked c = s.allLocked c := by
  unfold State.allLocked
  rw [hl, State.carLanes_eq hcom]

/-- A lane without lock keeps the carrier from being locked. -/
theorem State.allLocked_false {s : State} {c l : Nat} (hl : l ∈ s.carLanes c) (hno : l ∉ (s.car c).locked) : s.allLocked c = false := by
  unfold State.allLocked
  rw [List.all_eq_false]
  exact ⟨l, hl, by simpa using hno⟩

theorem State.noteLocked_car (s : State) (c d : Nat) : (s.noteLocked c).car d = s.car d := by
  unfold State.car
  rw [(s.noteLocked_within c).part .cars (by decide)]

theorem State.noteLocked_cst (s : State) (c d : Nat) : (s.noteLocked c).cst d = s.cst d := by
  unfold State.noteLocked State.wrB State.cst
  exact State.rd_wr_disj (f := SHF_CAR_STAT.LANES_LOCKED) (g := SHF_CAR_STAT.STATE) s (by decide) (by decide) rfl (by decide) c d _

/-- LANES_LOCKED shows whether every lane has lock. -/
theorem State.noteLocked_bit (s : State) {c : Nat} (hc : c < 128) : (s.noteLocked c).bit SHF_CAR_STAT.LANES_LOCKED c = s.allLocked c := by
  unfold State.noteLocked State.wrB State.bit
  rw [State.rd_wr_self s (f := SHF_CAR_STAT.LANES_LOCKED) (by decide) hc]
  unfold State.allLocked
  cases (s.carLanes c).all fun l => (s.car c).locked.contains l <;> rfl

/-! ### Where a carrier goes on a loss (R189) -/

theorem State.toCarAdapt_cst (s : State) {c : Nat} (hc : c < 128) : (s.toCarAdapt c).cst c = cADAPT :=
  (s.setCar_cst hc (by decide) c).trans (if_pos rfl)

/-- Without signal to WAIT_SIGNAL, with lock to HANDSHAKE, else to ADAPT (log entry 125). -/
theorem State.fallBack_cst (s : State) {c : Nat} (hc : c < 128) : (s.fallBack c).cst c =
    if (s.car c).signal then if s.allLocked c then cHANDSHAKE else cADAPT else cWAIT_SIGNAL := by
  unfold State.fallBack
  cases (s.car c).signal with
  | false => exact (s.toCarWait_cst hc c).trans (if_pos rfl)
  | true =>
    rw [if_neg (by decide), if_pos rfl]
    split
    · exact s.toHandshake_cst hc
    · exact s.toCarAdapt_cst hc

theorem State.endOp_car (s : State) (c outcome reason d : Nat) : (s.endOp c outcome reason).car d = s.car d := by
  unfold State.car
  rw [(s.endOp_within ..).part .cars (by decide)]

theorem State.raise_car (s : State) (e : Ev) (i d : Nat) : (s.raise e i).car d = s.car d := by
  unfold State.car
  rw [(s.raise_within e i).part .cars (by simp)]

theorem State.count_car (s : State) (n k d : Nat) : (s.count n k).car d = s.car d := by
  unfold State.car
  rw [(s.count_within n k).part .cars (by decide)]

theorem State.wr_car (s : State) (f : Fld) (i v d : Nat) : (s.wr f i v).car d = s.car d := by
  unfold State.car
  rw [State.wr_cars]

theorem State.carDown_signal (s : State) (c cause : Nat) : ((s.carDown c cause).car c).signal = (s.car c).signal := by
  unfold State.carDown
  rw [State.endOp_car, State.car_updCar_self, State.raise_car, State.count_car, State.wr_car]

/-- A carrier that goes down shows the cause, and its event is raised (R188, R194). -/
theorem State.carDown_cause (s : State) (c : Fin 128) {cause : Nat} (h : cause < 16) :
    (s.carDown c cause).rd SHF_CAR_STAT.DOWN_CAUSE c = cause := by
  unfold State.carDown
  rw [(State.endOp_within ..).rd_same (by decide +kernel), (State.updCar_within ..).rd_same (by decide +kernel),
    (State.raise_within ..).rd_same (by decide +kernel), (State.count_within ..).rd_same (by decide +kernel),
    s.rd_wr_self (by decide) c.isLt]
  exact Nat.mod_eq_of_lt h

theorem State.carDown_raised (s : State) (c : Fin 128) (cause : Nat) (h6 : s.railOk 6 = true) :
    (s.carDown c cause).raised EV.SHF_CAR_DOWN c = true := by
  unfold State.carDown
  extract_lets u unsent v
  have hu : u.railOk 6 = true := by
    unfold u
    rw [State.count_railOk, (s.wr_within ..).railOk (by decide +kernel) (by decide), h6]
  have hv : v.raised EV.SHF_CAR_DOWN c = true := by
    rw [(State.updCar_within ..).raised_same (by decide +kernel)]
    exact u.raise_raised _ c hu (by decide) c.isLt
  rwa [(State.endOp_within ..).raised_same (by decide +kernel)]

/-- What a carrier in service that goes down and falls back shows. -/
structure State.CarWentDown (s t : State) (c : Fin 128) (cause : Nat) : Prop where
  kept : s.CarKept carDownFlds t
  cause : t.rd SHF_CAR_STAT.DOWN_CAUSE c = cause
  event : s.railOk 6 = true → t.raised EV.SHF_CAR_DOWN c = true
  state : t.cst c = if (s.car c).signal then if s.allLocked c then cHANDSHAKE else cADAPT else cWAIT_SIGNAL

theorem State.carDown_fallBack (s : State) (c : Fin 128) {cause : Nat} (h : cause < 16) :
    s.CarWentDown ((s.carDown c cause).fallBack c) c cause := by
  have hdown := s.carDown_carKept c cause
  have hfall := (s.carDown c cause).fallBack_carKept c
  refine ⟨hdown.trans (hfall.mono (by decide)), ?_, fun h6 => ?_, ?_⟩
  · rw [hfall.shown _ (by decide), s.carDown_cause c h]
  · exact ((s.carDown c cause).fallBack_evtKept c).raised (e := EV.SHF_CAR_DOWN) (s.carDown_raised c cause h6)
  · rw [State.fallBack_cst _ c.isLt, s.carDown_signal,
      State.allLocked_eq ((s.carDown_within ..).part .committed (by decide)) (hdown.locked c)]

/-! ### Codeword lock (R167, R168, R189) -/

/-- A lane of carrier `c` gains lock. -/
def State.laneLocks (s : State) (c lane : Nat) : State :=
  (s.updCar c fun k => { k with locked := if k.locked.contains lane then k.locked else k.locked ++ [lane] }).noteLocked c

theorem State.laneLocks_mem (s : State) (c lane : Nat) : lane ∈ ((s.laneLocks c lane).car c).locked := by
  unfold State.laneLocks
  rw [State.noteLocked_car, State.car_updCar_self]
  dsimp only
  split
  · rename_i h
    exact List.contains_iff_mem.1 h
  · simp

theorem codewordLock_carrier_acts (lane : Fin 260) (offset : Nat) (words : List Bool) (c : Nat) (s : State)
    (hgain : (searchOffsets.contains offset && lockGained words) = true) (hl : lane.val < 256) (hc : s.carOfLane lane = some c)
    (hf : s.fwdMode = true) (h1 : s.cst c ≠ cDISABLED) (h2 : s.cst c ≠ cPOWERING) (h3 : s.cst c ≠ cHELD) :
    Yields (.codewordLock ⟨lane, offset, words⟩) s fun t => lane.val ∈ (t.car c).locked ∧
      t.bit SHF_CAR_STAT.LANES_LOCKED c = t.allLocked c ∧ (s.cst c = cLOCK → t.allLocked c = true → t.cst c = cHANDSHAKE) := by
  obtain ⟨hc128, -⟩ := State.carOfLane_spec hc
  show Ends (execCodewordLock ⟨lane, offset, words⟩ s) _
  unfold execCodewordLock
  dsimp only
  rw [if_neg (by rw [hgain]; decide), if_neg (by omega), hc]
  dsimp only
  rw [if_neg (by simp [hf, h1, h2, h3]), ends_fin]
  change (let u := s.laneLocks c lane.val
    let v := if u.allLocked c then u.dueLanes (u.carLanes c) else u
    let t := (if s.cst c = cLOCK && v.allLocked c then v.toHandshake c else v).settle
    lane.val ∈ (t.car c).locked ∧ t.bit SHF_CAR_STAT.LANES_LOCKED c = t.allLocked c ∧
      (s.cst c = cLOCK → t.allLocked c = true → t.cst c = cHANDSHAKE))
  intro u v t
  have huv : u.CarKept carFlds v ∧ v.committed = u.committed := by
    have hw := u.dueLanes_within (u.carLanes c)
    unfold v
    split
    · exact ⟨.of_within hw (hw.part .cars (by decide)) (by decide +kernel) (.of_within hw (by decide) (by decide)),
        hw.part .committed (by decide)⟩
    · exact ⟨.refl _ u, rfl⟩
  have hvt : v.CarKept carFlds t ∧ t.committed = v.committed := by
    unfold t
    split
    · exact ⟨(v.toHandshake_carKept c).trans (State.settle_carKept _),
        (State.settle_committed _).trans ((v.toHandshake_within c).part .committed (by decide))⟩
    · exact ⟨v.settle_carKept, State.settle_committed _⟩
  have hk := huv.1.trans hvt.1
  have hall : t.allLocked c = u.allLocked c := State.allLocked_eq (hvt.2.trans huv.2) (hk.locked c)
  refine ⟨?_, ?_, fun hlock hon => ?_⟩
  · rw [hk.locked]
    exact s.laneLocks_mem c lane
  · rw [hk.bit (by decide), hall]
    unfold u State.laneLocks
    rw [State.noteLocked_bit _ hc128, State.allLocked_eq ((State.noteLocked_within ..).part .committed (by decide))
      (by rw [State.noteLocked_car])]
  · have hv : v.allLocked c = true := by
      rw [← hon]
      exact (State.allLocked_eq hvt.2 (hvt.1.locked c)).symm
    unfold t
    rw [if_pos (by simp [hlock, hv]), State.settle_cst]
    exact v.toHandshake_cst hc128

theorem State.mlane_updMlane_self (s : State) (i : Nat) (f : MLane → MLane) : (s.updMlane i f).mlane i = f (s.mlane i) :=
  SMap.get_upd_self ..

theorem codewordLock_mirror_acts (lane : Fin 260) (offset : Nat) (words : List Bool) (s : State)
    (hgain : (searchOffsets.contains offset && lockGained words) = true) (hl : ¬ lane.val < 256)
    (h : (s.twinOn && s.tkMode && (s.mlane (lane.val - 256)).st = 4) = true) :
    Yields (.codewordLock ⟨lane, offset, words⟩) s fun t =>
      (t.mlane (lane.val - 256)).st = 6 ∧ (t.mlane (lane.val - 256)).timer = none := by
  show Ends (execCodewordLock ⟨lane, offset, words⟩ s) _
  unfold execCodewordLock
  dsimp only
  rw [if_neg (by rw [hgain]; decide), if_pos (by omega), if_pos h, ends_fin]
  generalize (if (s.mlane (lane.val - 256)).retry then s.transientFault 6 else s) = u
  have hlane : ((u.updMlane (lane.val - 256) fun l => { l with st := 6, timer := none, retry := false }).dueLanes
      [lane.val]).settle.mlane (lane.val - 256) = { u.mlane (lane.val - 256) with st := 6, timer := none, retry := false } := by
    rw [← State.mlane_updMlane_self u (lane.val - 256) fun l => { l with st := 6, timer := none, retry := false }]
    unfold State.mlane
    rw [State.settle_twin, (State.dueLanes_within ..).part .twin (by decide)]
  rw [hlane]
  exact ⟨rfl, rfl⟩

/-- A lane of carrier `c` loses lock, and its signal or not. -/
def State.laneUnlocks (s : State) (c lane : Nat) (signal : Bool) : State :=
  (s.updCar c fun k => { k with locked := k.locked.filter (· ≠ lane), signal := k.signal && signal }).noteLocked c

theorem State.laneUnlocks_car (s : State) (c lane : Nat) (signal : Bool) : (s.laneUnlocks c lane signal).car c =
    { s.car c with locked := (s.car c).locked.filter (· ≠ lane), signal := (s.car c).signal && signal } := by
  unfold State.laneUnlocks
  rw [State.noteLocked_car, State.car_updCar_self]

theorem State.laneUnlocks_cst (s : State) (c lane : Nat) (signal : Bool) : (s.laneUnlocks c lane signal).cst c = s.cst c :=
  State.noteLocked_cst ..

theorem State.laneUnlocks_committed (s : State) (c lane : Nat) (signal : Bool) :
    (s.laneUnlocks c lane signal).committed = s.committed := (State.noteLocked_within ..).part .committed (by decide)

theorem State.carLost_carKept (s : State) (c : Nat) : s.CarKept carDownFlds (s.carLost c) := by
  have hfall (u : State) : u.CarKept carDownFlds (u.fallBack c) := (u.fallBack_carKept c).mono (by decide)
  exact .ite ((s.carDown_carKept c 4).trans (hfall _)) (.ite (hfall s) (.refl _ s))

theorem codewordLockLost_carrier_acts (lane : Fin 260) (signal : Bool) (words : List Bool) (c : Nat) (s : State)
    (hlost : (signal && !lockLost words) = false) (hl : lane.val < 256) (hc : s.carOfLane lane = some c) (hf : s.fwdMode = true) :
    Yields (.codewordLockLost lane ⟨signal, words⟩) s fun t => lane.val ∉ (t.car c).locked ∧
      (signal = false → (t.car c).signal = false) ∧
      (cSTANDBY ≤ s.cst c → s.cst c ≤ cDRAINING → t.rd SHF_CAR_STAT.DOWN_CAUSE c = 4) ∧
      (s.cst c = cHANDSHAKE ∨ cSTANDBY ≤ s.cst c ∧ s.cst c ≤ cDRAINING →
        t.cst c = if (s.car c).signal && signal then cADAPT else cWAIT_SIGNAL) := by
  obtain ⟨hc128, hown⟩ := State.carOfLane_spec hc
  show Ends (execCodewordLockLost lane ⟨signal, words⟩ s) _
  unfold execCodewordLockLost
  dsimp only
  rw [if_neg (by rw [hlost]; decide), if_neg (by omega), hc]
  dsimp only
  rw [if_neg (by simp [hf]), ends_fin]
  change (let t := ((s.laneUnlocks c lane.val signal).carLost c).settle
    lane.val ∉ (t.car c).locked ∧ (signal = false → (t.car c).signal = false) ∧
      (cSTANDBY ≤ s.cst c → s.cst c ≤ cDRAINING → t.rd SHF_CAR_STAT.DOWN_CAUSE c = 4) ∧
      (s.cst c = cHANDSHAKE ∨ cSTANDBY ≤ s.cst c ∧ s.cst c ≤ cDRAINING →
        t.cst c = if (s.car c).signal && signal then cADAPT else cWAIT_SIGNAL))
  have hcar := s.laneUnlocks_car c lane signal
  have hst := s.laneUnlocks_cst c lane signal
  have hall : (s.laneUnlocks c lane signal).allLocked c = false := by
    refine State.allLocked_false (l := lane) ?_ (by rw [hcar]; simp)
    rwa [State.carLanes_eq (s.laneUnlocks_committed ..)]
  generalize s.laneUnlocks c lane signal = u at hcar hst hall
  intro t
  have hk : u.CarKept carDownFlds t := (u.carLost_carKept c).trans ((State.settle_carKept _).mono (by decide))
  have hdown : cSTANDBY ≤ s.cst c ∧ s.cst c ≤ cDRAINING → u.CarWentDown (u.carLost c) ⟨c, hc128⟩ 4 := fun hin => by
    unfold State.carLost
    rw [hst]
    dsimp only
    rw [if_pos (by simp [hin])]
    exact u.carDown_fallBack ⟨c, hc128⟩ (by decide)
  have hgoes : (if (u.car c).signal then if u.allLocked c then cHANDSHAKE else cADAPT else cWAIT_SIGNAL) =
      if (s.car c).signal && signal then cADAPT else cWAIT_SIGNAL := by
    rw [hcar, hall]
    rfl
  refine ⟨?_, fun hs => ?_, fun hlo hhi => ?_, fun hin => ?_⟩
  · rw [hk.locked, hcar]
    simp
  · exact hk.dark c (by rw [hcar, hs, Bool.and_false])
  · exact ((State.settle_carKept _).shown _ (by decide) c).trans (hdown ⟨hlo, hhi⟩).cause
  · rw [← hgoes, State.settle_cst]
    rcases hin with hhs | hin
    · unfold State.carLost
      rw [hst, hhs]
      exact u.fallBack_cst hc128
    · exact (hdown hin).state

theorem codewordLockLost_mirror_acts (lane : Fin 260) (signal : Bool) (words : List Bool) (s : State)
    (hlost : (signal && !lockLost words) = false) (hl : ¬ lane.val < 256)
    (h : (s.twinOn && s.tkMode && 3 ≤ (s.mlane (lane.val - 256)).st && (s.mlane (lane.val - 256)).st ≤ 6 &&
      (!signal || (s.mlane (lane.val - 256)).st = 6)) = true) :
    Yields (.codewordLockLost lane ⟨signal, words⟩) s fun t => (t.mlane (lane.val - 256)).st = if signal then 3 else 2 := by
  show Ends (execCodewordLockLost lane ⟨signal, words⟩ s) _
  unfold execCodewordLockLost
  dsimp only
  rw [if_neg (by rw [hlost]; decide), if_pos (by omega), ends_fin]
  simp only [Bool.and_eq_true, Bool.or_eq_true, decide_eq_true_eq, Bool.not_eq_true'] at h
  obtain ⟨⟨⟨⟨htw, htk⟩, hlo⟩, hhi⟩, hsig⟩ := h
  unfold State.mirrorLost
  dsimp only
  rw [if_neg (by simp [htw, htk])]
  cases signal with
  | false =>
    rw [if_pos (by simp [hlo, hhi]), State.mlane_updMlane_settle]
    rfl
  | true =>
    have h6 : (s.mlane (lane.val - 256)).st = 6 := by simpa using hsig
    rw [if_neg (by simp), if_pos h6, State.mlane_updMlane_settle]
    rfl

/-! ### Attempts that pass their limit (R190, R459) -/

theorem carrierAttemptTimeout_carrier_acts (c : Fin 128) (s : State) (hf : s.fwdMode = true) (hst : s.cst c = cADAPT ∨ s.cst c = cLOCK)
    (hdue : s.carDue c = true) (h6 : s.railOk 6 = true) :
    Yields (.carrierAttemptTimeout (.carrier c)) s fun t =>
      if (s.car c).retry then t.cst c = cFAILED ∧ t.raised EV.SHF_CAR_TRAIN_FAIL c = true
      else t.cst c = cADAPT ∧ t.bit SHF_CAR_STAT.RETRY c = true ∧ (t.car c).timer = some (s.now + 50 * msT) := by
  show Ends (execCarrierAttemptTimeout (.carrier c) s) _
  unfold execCarrierAttemptTimeout
  dsimp only
  rw [if_neg (by rw [hf, hdue]; rcases hst with h | h <;> simp [h])]
  cases hr : (s.car c).retry with
  | false =>
    rw [if_pos (by decide), ends_fin, if_neg (by decide), State.settle_cst, State.settle_car, State.car_updCar_self, State.wr_car]
    refine ⟨?_, ?_, ?_⟩
    · refine Eq.trans ?_ (s.toCarAdapt_cst c.isLt)
      exact State.rd_wr_disj (f := SHF_CAR_STAT.RETRY) (g := SHF_CAR_STAT.STATE) _ (by decide) (by decide) rfl (by decide) c c 1
    · unfold State.bit
      rw [State.settle_rd _ (by decide +kernel), (State.updCar_within ..).rd_same (by decide +kernel),
        State.rd_wr_self _ (by decide) c.isLt]
      decide
    · unfold State.toCarAdapt
      rw [State.car_updCar_self]
  | true =>
    rw [if_neg (by decide), ends_fin, if_pos rfl]
    generalize hu : ((s.setCar c cFAILED).wr SHF_CAR_STAT.RETRY c 0).updCar c
      (fun k => { k with timer := none, retry := false }) = u
    have hcst : u.cst c = cFAILED := by
      rw [← hu]
      refine Eq.trans ?_ ((s.setCar_cst c.isLt (v := cFAILED) (by decide) c).trans (if_pos rfl))
      exact State.rd_wr_disj (f := SHF_CAR_STAT.RETRY) (g := SHF_CAR_STAT.STATE) _ (by decide) (by decide) rfl (by decide) c c 0
    have hw : Within State.setCar_scope s u := by
      rw [← hu]
      exact (State.updCar_within ..).step ((State.wr_within ..).step (s.setCar_within ..) (by decide +kernel)) (by decide +kernel)
    have hrail : u.railOk 6 = true := (hw.railOk (by decide +kernel) (by decide) 6).trans h6
    rw [State.settle_cst, (State.settle_within _).raised_same (by decide +kernel),
      (State.lastingFault_within ..).raised_same (by decide +kernel)]
    refine ⟨?_, u.raise_raised _ c hrail (by decide) c.isLt⟩
    exact ((State.lastingFault_within ..).rd_same (by decide +kernel) c).trans
      (((u.raise_within ..).rd_same (by decide +kernel) c).trans hcst)

/-! ### Mirror lanes through a lasting fault (R444, R459) -/

/-- From `s` to `t` every mirror lane keeps its state. -/
structure State.MirrorKept (s t : State) : Prop where
  st : ∀ i, (t.mlane i).st = (s.mlane i).st

namespace State.MirrorKept
variable {s t u : State}

theorem refl (s : State) : s.MirrorKept s := ⟨fun _ => rfl⟩

theorem trans (h : s.MirrorKept t) (h' : t.MirrorKept u) : s.MirrorKept u := ⟨fun i => (h'.st i).trans (h.st i)⟩

theorem of_within {sc : Scope} (h : Within sc s t) (hp : Part.twin ∉ sc.parts) : s.MirrorKept t :=
  ⟨fun i => by rw [State.mlane, h.part .twin hp]; rfl⟩

theorem foldl {α : Type} {f : State → α → State} (hf : ∀ (s : State) a, s.MirrorKept (f s a)) (l : List α) (s : State) :
    s.MirrorKept (l.foldl f s) := foldl_keeps (R := State.MirrorKept) refl trans hf l s

theorem ite {c : Prop} [Decidable c] {a b : State} (ha : s.MirrorKept a) (hb : s.MirrorKept b) :
    s.MirrorKept (if c then a else b) := by
  split
  · exact ha
  · exact hb

end State.MirrorKept

theorem State.updMlane_mirrorKept (s : State) (i : Nat) {f : MLane → MLane} (hf : ∀ l, (f l).st = l.st) :
    s.MirrorKept (s.updMlane i f) := by
  refine ⟨fun j => ?_⟩
  by_cases h : j = i
  · rw [h, State.mlane_updMlane_self, hf]
  · exact congrArg MLane.st (SMap.get_upd_ne _ _ h)

theorem State.sendHb_mirrorKept (s : State) (relq take : Bool) : s.MirrorKept (s.sendHb relq take) := by
  have hemit (u : State) (l : List Out) : u.MirrorKept (u.each l State.emit) :=
    .foldl (fun v o => .of_within (v.emit_within o) (by decide)) l u
  have hon (u : State) (i : Nat) (m : List Byte) : u.MirrorKept (u.onMirror i m) := by
    have hout : u.MirrorKept (u.emit (.mirror i m)) := .of_within (u.emit_within _) (by decide)
    refine MirrorKept.trans ?_ (hemit _ _)
    exact hout.trans (State.updMlane_mirrorKept _ i fun _ => rfl)
  unfold State.sendHb
  extract_lets lanes u
  have hu : s.MirrorKept u := by
    refine .foldl (fun x i => ?_) lanes s
    extract_lets y
    have hy : x.MirrorKept y := hon x i _
    clear_value y
    have hnext : y.MirrorKept (y.updMlane i fun l => { l with mseq := (l.mseq + 1) % 2 ^ 32 }) :=
      y.updMlane_mirrorKept i fun _ => rfl
    exact (hy.trans hnext).trans (.of_within (State.count_within ..) (by decide))
  exact .ite (.refl s) (hu.trans ⟨fun _ => rfl⟩)

theorem State.startTrans_mirrorKept (s : State) (m : Fin 6) : s.MirrorKept (s.startTrans m) := by
  have hrelq (u : State) : u.MirrorKept (u.relinquish none) := by
    have hsw : u.MirrorKept (u.updTwin fun t => { t with relq := some (u.now, none) }) := ⟨fun _ => rfl⟩
    exact .ite ((hsw.trans (.of_within (State.wr_within ..) (by decide))).trans (State.sendHb_mirrorKept ..)) (.refl u)
  have hwr (u : State) (f : Fld) (v : Nat) : u.MirrorKept (u.wr f 0 v) := .of_within (u.wr_within ..) (by simp)
  unfold State.startTrans
  extract_lets u v w x need
  have hu : s.MirrorKept u := .ite (hrelq s) (.refl s)
  have hw : u.MirrorKept w := (hwr u _ _).trans (.of_within (v.updPwr_within _) (by decide))
  have hx : w.MirrorKept x := .ite ((hwr w _ _).trans (hwr _ _ _)) (.refl w)
  refine ((hu.trans hw).trans hx).trans (.ite (.refl x) (.foldl (fun y r => ?_) _ x))
  exact .ite (.of_within (y.rampRail_within r) (by decide)) (.refl y)

theorem State.isolate_mirrorKept (s : State) (cause : Nat) : s.MirrorKept (s.isolate cause) := by
  unfold State.isolate
  extract_lets u v w
  have hu : s.MirrorKept u := .of_within (s.wr_within ..) (by decide)
  have hv : u.MirrorKept v := .ite (.refl u) (.of_within (u.updPwr_within _) (by decide))
  have hw : v.MirrorKept w := .of_within (v.updPwr_within _) (by decide)
  have hend : w.MirrorKept (w.abortCal.startTrans 5) :=
    (MirrorKept.of_within w.abortCal_within (by decide)).trans (State.startTrans_mirrorKept ..)
  exact .ite (.refl s) ((hu.trans hv).trans (.ite (.refl v) (hw.trans hend)))

theorem State.lastingFault_mirrorKept (s : State) (c detail : Nat) : s.MirrorKept (s.lastingFault c detail true) := by
  unfold State.lastingFault
  extract_lets u v w n x y
  have hu : s.MirrorKept u := .of_within (s.addSat_within ..) (by simp)
  have hv : u.MirrorKept v := .ite (.of_within (u.setReg_within ..) (by simp)) (.refl u)
  have hw : v.MirrorKept w := .of_within (v.raiseObj_within ..) (by simp)
  have hx : w.MirrorKept x := .of_within (w.updEvt_within _) (by simp)
  have hy : x.MirrorKept y := .of_within (x.wr_within ..) (by simp)
  rw [if_pos rfl]
  exact (((hu.trans hv).trans hw).trans (hx.trans hy)).trans (.ite (y.isolate_mirrorKept 3) (.refl y))

theorem carrierAttemptTimeout_mirror_acts (i : Fin 4) (s : State) (hon : (s.twinOn && s.tkMode) = true)
    (hst : (s.mlane i).st = 3 ∨ (s.mlane i).st = 4) {x : Nat} (htm : (s.mlane i).timer = some x) (hx : x ≤ s.now) :
    Yields (.carrierAttemptTimeout (.mirror i)) s fun t =>
      if (s.mlane i).retry then (t.mlane i).st = 10 else (t.mlane i).st = 3 ∧ (t.mlane i).retry = true := by
  rw [Bool.and_eq_true] at hon
  obtain ⟨htw, htk⟩ := hon
  show Ends (execCarrierAttemptTimeout (.mirror i) s) _
  unfold execCarrierAttemptTimeout
  dsimp only
  rw [if_neg (by rw [htw, htk, htm]; rcases hst with h | h <;> simp [h, hx])]
  cases hr : (s.mlane i).retry with
  | false =>
    rw [if_pos (by decide), ends_fin, if_neg (by decide), State.mlane_updMlane_settle]
    exact ⟨rfl, rfl⟩
  | true =>
    rw [if_neg (by decide), ends_fin, if_pos rfl]
    have hkept := ((s.updMlane i fun l => { l with st := 10, retry := false, timer := none }).lastingFault_mirrorKept 6
      (256 + i.val)).trans (.of_within (State.settle_within _) (by decide))
    rw [hkept.st, State.mlane_updMlane_self]

end Sys2Proof.Machine
end

section
/-! PROOFS. Grain slots of a carrier's lanes (R167, R177, R185, R192), for O26. -/
set_option Elab.async false
namespace Sys2Proof.Machine

/-! ### What goes onto a lane -/

theorem State.emits_out (s : State) (l : List Out) : s.out <+: (s.each l State.emit).out :=
  foldl_keeps (R := fun s t => s.out <+: t.out) (fun _ => List.prefix_rfl) List.IsPrefix.trans
    (fun s o => (s.emit_within o).out) l s

theorem State.emits_cars (s : State) (l : List Out) : (s.each l State.emit).cars = s.cars :=
  foldl_keeps (R := fun s t => t.cars = s.cars) (fun _ => rfl) (fun h h' => h'.trans h)
    (fun s o => (s.emit_within o).part .cars (by decide)) l s

/-- What goes onto a lane is sent first. -/
theorem State.onLane_out (s : State) (c lane : Nat) (what : Out) (bs : List Block) :
    (s.emit what).out <+: (s.onLane c lane what bs).out := by
  unfold State.onLane
  extract_lets r
  exact ((s.emit what).updCar_within c _).out.trans (State.emits_out _ _)

/-- The lane's count of blocks is all that a carrier changes of itself as it sends. -/
theorem State.onLane_car (s : State) (c lane : Nat) (what : Out) (bs : List Block) :
    ∃ l, (s.onLane c lane what bs).car c = { s.car c with lanes := l } := by
  unfold State.onLane
  extract_lets r
  have hcar (u : State) : (u.each r.2 State.emit).car c = u.car c := congrArg (SMap.at! · c) (State.emits_cars _ _)
  rw [hcar, State.car_updCar_self]
  exact ⟨_, rfl⟩

theorem State.noteSlot_car (s : State) (c lane : Nat) : ∃ l, (s.noteSlot c lane).car c = { s.car c with lanes := l } := by
  unfold State.noteSlot
  extract_lets n r x j gap u
  have hu : u.car c = { s.car c with lanes := SMap.set {} (s.car c).lanes lane { x with slots := j + 1 } } :=
    State.car_updCar_self ..
  split
  · exact ⟨_, hu⟩
  · obtain ⟨l, hl⟩ := u.onLane_car c lane (.nullBlocks lane gap) (nulls gap)
    exact ⟨l, by rw [State.sendNulls, hl, hu]⟩

/-- A grain or null blocks of this slot have been sent when the row ends. -/
theorem State.onLane_sends {s u : State} (hu : s.out <+: u.out) (c lane : Nat) (what : Out) (bs : List Block) :
    s.sends (u.onLane c lane what bs).settle what :=
  State.sends_of_out hu rfl ((u.onLane_out c lane what bs).trans (State.settle_within _).out)

/-! ### The timing grain that is due (R185, R191, R192) -/

theorem State.joined_car (s : State) (c d : Nat) : (s.joined c).car d = s.car d := by
  unfold State.joined State.carActive
  split
  · rw [State.raise_car, State.setCar_car]
  · rfl

/-- The timing grain is made after the carrier has joined, and it is the last thing that its slot sends. -/
theorem State.sendTiming_spec (s : State) (c lane : Nat) (dep : Inst) :
    ∃ u : State, s.sendTiming c lane dep = u.sendGrain c lane ((s.joined c).timingGrain c dep) ∧ s.out <+: u.out ∧
      (u.car c).nextTg = (s.car c).nextTg + 1600 ∧ (u.car c).cseq = ((s.car c).cseq + 1) % seqMod := by
  unfold State.sendTiming
  extract_lets k sent acks u g mgmt words v repeated w q x y
  have hcar : w.car c = s.car c := by
    rw [State.count_car, State.count_car]
    exact s.joined_car c c
  have hout : s.out <+: x.out := (s.joined_within c).out.trans ((State.count_within v _ 1).out.trans
    ((State.count_within _ _ _).out.trans (w.updCar_within c _).out))
  have hy : x.out <+: y.out ∧ y.car c = x.car c := by
    unfold y
    split
    · refine ⟨(State.sendMsg_within ..).out, ?_⟩
      unfold State.car
      rw [(State.sendMsg_within ..).part .cars (by decide)]
    · exact ⟨List.prefix_rfl, rfl⟩
  refine ⟨y, rfl, hout.trans hy.1, ?_, ?_⟩ <;> rw [hy.2, State.car_updCar_self, hcar]

theorem State.sendTiming_settled (s : State) (c : Nat) (lane : Fin 256) (dep : Inst) {b : State} (hb : b.out <+: s.out) :
    b.sends (s.sendTiming c lane dep).settle (.grain lane ((s.joined c).timingGrain c dep)) ∧
      ((s.sendTiming c lane dep).settle.car c).nextTg = (s.car c).nextTg + 1600 ∧
      ((s.sendTiming c lane dep).settle.car c).cseq = ((s.car c).cseq + 1) % seqMod := by
  obtain ⟨u, hu, hout, htg, hseq⟩ := s.sendTiming_spec c lane dep
  obtain ⟨l, hl⟩ := u.onLane_car c lane (.grain lane ((s.joined c).timingGrain c dep))
    (grainBlocks ((s.joined c).timingGrain c dep))
  rw [hu, State.settle_car, State.sendGrain, hl]
  exact ⟨State.onLane_sends (hb.trans hout) c lane _ _, htg, hseq⟩

/-! ### Data grains (R178, R179) -/

/-- Only in duplicate mode may a carrier find no data grain. -/
theorem State.nextGrain_none {s : State} {c : Nat} (h : (s.nextGrain c).1 = none) : s.comB SHF_CFG.DUP (s.carSheaf c) = true := by
  by_contra hdup
  unfold State.nextGrain at h
  rw [Bool.not_eq_true] at hdup
  simp [hdup] at h

theorem grainSlot_acts (lane : Fin 256) (dep : Inst) (c : Nat) (s : State) (hf : s.fwdMode = true) (hc : s.carOfLane lane = some c)
    (h1 : s.cst c ≠ cDISABLED) (h2 : s.cst c ≠ cHELD) (h3 : s.cst c ≠ cPOWERING) (hdue : s.slotDue c lane = true) :
    Yields (.grainSlot lane dep) s fun t =>
      if lane.val = s.com SHF_CAR_CFG.FIRST_LANE c ∧ (s.car c).nextTg ≤ s.now then
        s.sends t (.grain lane (((s.noteSlot c lane).joined c).timingGrain c dep)) ∧
        (t.car c).nextTg = (s.car c).nextTg + 1600 ∧ (t.car c).cseq = ((s.car c).cseq + 1) % seqMod
      else if s.cst c = cACTIVE then match ((s.noteSlot c lane).nextGrain c).1 with
        | some g => s.sends t (.grain lane g)
        | none => s.comB SHF_CFG.DUP (s.carSheaf c) = true ∧ s.sends t (.nullBlocks lane 8)
      else s.sends t (.nullBlocks lane 8) := by
  obtain ⟨l, hl⟩ := s.noteSlot_car c lane
  have hw := s.noteSlot_within c lane
  have hcom (f : Fld) (i : Nat) : (s.noteSlot c lane).com f i = s.com f i := State.com_eq (hw.part .committed (by decide)) f i
  have htg : ((s.noteSlot c lane).car c).nextTg = (s.car c).nextTg := by rw [hl]
  have hseq : ((s.noteSlot c lane).car c).cseq = (s.car c).cseq := by rw [hl]
  have hnow := hw.now
  have hout := hw.out
  show Ends (execGrainSlot lane dep s) _
  unfold execGrainSlot
  rw [hc]
  dsimp only
  rw [if_neg (by simp [hf, h1, h2, h3, hdue])]
  have hdup {u : State} (hu : u.committed = s.committed) (h : (u.nextGrain c).1 = none) :
      s.comB SHF_CFG.DUP (s.carSheaf c) = true := by
    have := State.nextGrain_none h
    unfold State.comB State.carSheaf at this ⊢
    rwa [State.com_eq hu, State.com_eq hu] at this
  specialize hdup (hw.part .committed (by decide))
  generalize s.noteSlot c lane = u at hcom htg hseq hnow hout hdup
  rw [hcom, htg, hnow]
  by_cases hlane : lane.val = s.com SHF_CAR_CFG.FIRST_LANE c ∧ (s.car c).nextTg ≤ s.now
  · rw [if_pos (by simpa using hlane), ends_fin, if_pos hlane, ← htg, ← hseq]
    exact u.sendTiming_settled c lane dep hout
  rw [if_neg (by simpa using hlane)]
  by_cases hact : s.cst c = cACTIVE
  · rw [if_neg (by simpa using hact)]
    simp only [if_neg hlane, if_pos hact]
    have hsnd := (u.nextGrain_snd c).out
    cases hg : u.nextGrain c with
    | mk g v =>
      rw [hg] at hsnd hdup
      cases g with
      | none =>
        rw [ends_fin]
        exact ⟨hdup rfl, State.onLane_sends (hout.trans hsnd) c lane _ _⟩
      | some g =>
        rw [ends_fin]
        exact State.onLane_sends (hout.trans hsnd) c lane _ _
  · rw [if_pos (by simpa using hact), ends_fin, if_neg hlane, if_neg hact]
    exact State.onLane_sends hout c lane _ _

end Sys2Proof.Machine
end

section
/-! PROOFS. The counters of a grain's arrival (R170, R172, R197), for O26. -/
set_option Elab.async false
namespace Sys2Proof.Machine

/-! ### What a lane layer reports with a grain -/

/-- The slots of stray blocks and of the FEC. -/
def lineSlots : List Nat := [5, 8, 9, 10]

theorem carSlot_ne (c : Nat) {i j : Nat} (h : i ≠ j) : carSlot c i ≠ carSlot c j := by
  unfold carSlot
  omega

theorem carSlot_ne_shfSlot {c h i j : Nat} (hh : h < 32) (hj : j < 128) : carSlot c i ≠ shfSlot h j := by
  unfold carSlot shfSlot
  omega

theorem State.carSheaf_lt (s : State) (c : Nat) : s.carSheaf c < 32 := Fld.get_lt SHF_CAR_CFG.SHEAF _

/-- From `s` to `t` the counters of stray blocks and of the FEC of carrier `c` are as before. -/
structure State.LineKept (c : Nat) (s t : State) : Prop where
  slot : ∀ i ∈ lineSlots, t.slot (carSlot c i) = s.slot (carSlot c i)

namespace State.LineKept
variable {c : Nat} {s t u : State}

theorem refl (c : Nat) (s : State) : s.LineKept c s := ⟨fun _ _ => rfl⟩

theorem trans (h : s.LineKept c t) (h' : t.LineKept c u) : s.LineKept c u := ⟨fun i hi => (h'.slot i hi).trans (h.slot i hi)⟩

theorem of_car (hc : c < 128) (h : s.CarSlotsKept t) : s.LineKept c t :=
  ⟨fun i hi => h.slot c hc i ((by decide : ∀ i ∈ lineSlots, i ≤ 10) i hi)⟩

theorem ite {p : Prop} [Decidable p] {a b : State} (ha : s.LineKept c a) (hb : s.LineKept c b) :
    s.LineKept c (if p then a else b) := by
  split
  · exact ha
  · exact hb

end State.LineKept

theorem State.count_lineKept (s : State) (c : Nat) {i : Nat} (hi : i ∉ lineSlots) (k : Nat) :
    s.LineKept c (s.count (carSlot c i) k) :=
  ⟨fun j hj => s.slot_count_ne (carSlot_ne c fun he : j = i => hi (he ▸ hj)) k⟩

/-- What a lane layer reports is counted. -/
structure State.LineCounted (s t : State) (c strays : Nat) (fec : FecCounts) : Prop where
  strays : t.slot (carSlot c 5) = (s.slot (carSlot c 5) + strays) % 2 ^ 48
  corrected : t.slot (carSlot c 8) = (s.slot (carSlot c 8) + fec.corrected) % 2 ^ 48
  uncorrectable : t.slot (carSlot c 9) = (s.slot (carSlot c 9) + fec.uncorrectable) % 2 ^ 48
  symbols : t.slot (carSlot c 10) = (s.slot (carSlot c 10) + fec.symbols) % 2 ^ 48

theorem State.LineCounted.keep {s t u : State} {c strays : Nat} {fec : FecCounts} (h : s.LineCounted t c strays fec)
    (hk : t.LineKept c u) : s.LineCounted u c strays fec :=
  ⟨(hk.slot _ (by decide)).trans h.strays, (hk.slot _ (by decide)).trans h.corrected,
   (hk.slot _ (by decide)).trans h.uncorrectable, (hk.slot _ (by decide)).trans h.symbols⟩

theorem State.countLine_counted (s : State) (c strays : Nat) (fec : FecCounts) (h1 : s.railOk 1 = true) :
    s.LineCounted (s.countLine c strays fec) c strays fec := by
  have hne {i j : Nat} (h : i ≠ j) : carSlot c i ≠ carSlot c j := carSlot_ne c h
  unfold State.countLine
  refine ⟨?_, ?_, ?_, ?_⟩
  · rw [State.slot_count_ne _ (hne (by decide)), State.slot_count_ne _ (hne (by decide)), State.slot_count_ne _ (hne (by decide)),
      s.slot_count_self h1]
  · rw [State.slot_count_ne _ (hne (by decide)), State.slot_count_ne _ (hne (by decide)),
      State.slot_count_self _ (by rw [State.count_railOk, h1]), State.slot_count_ne _ (hne (by decide))]
  · rw [State.slot_count_ne _ (hne (by decide)),
      State.slot_count_self _ (by rw [State.count_railOk, State.count_railOk, h1]), State.slot_count_ne _ (hne (by decide)),
      State.slot_count_ne _ (hne (by decide))]
  · rw [State.slot_count_self _ (by rw [State.count_railOk, State.count_railOk, State.count_railOk, h1]),
      State.slot_count_ne _ (hne (by decide)), State.slot_count_ne _ (hne (by decide)), State.slot_count_ne _ (hne (by decide))]

theorem State.countLine_railOk (s : State) (c strays : Nat) (fec : FecCounts) (r : Nat) :
    (s.countLine c strays fec).railOk r = s.railOk r := (s.countLine_within ..).railOk (by decide +kernel) (by decide) r

theorem State.countLine_com (s : State) (c strays : Nat) (fec : FecCounts) (f : Fld) (i : Nat) :
    (s.countLine c strays fec).com f i = s.com f i := State.com_eq ((s.countLine_within ..).part .committed (by decide)) f i

theorem State.countLine_slot_ne (s : State) (c strays : Nat) (fec : FecCounts) {n : Nat} (h : ∀ i ∈ lineSlots, n ≠ carSlot c i) :
    (s.countLine c strays fec).slot n = s.slot n := by
  unfold State.countLine
  rw [State.slot_count_ne _ (h _ (by decide)), State.slot_count_ne _ (h _ (by decide)), State.slot_count_ne _ (h _ (by decide)),
    State.slot_count_ne _ (h _ (by decide))]

theorem State.countLine_slot (s : State) (c strays : Nat) (fec : FecCounts) {i : Nat} (hi : i ∉ lineSlots) :
    (s.countLine c strays fec).slot (carSlot c i) = s.slot (carSlot c i) :=
  s.countLine_slot_ne c strays fec fun _ hj => carSlot_ne c fun he => hi (he ▸ hj)

/-- A slot of the carrier that counts behind the report. -/
theorem State.countLine_count (s : State) (c strays : Nat) (fec : FecCounts) {i : Nat} (hi : i ∉ lineSlots)
    (h1 : s.railOk 1 = true) :
    ((s.countLine c strays fec).count (carSlot c i)).slot (carSlot c i) = (s.slot (carSlot c i) + 1) % 2 ^ 48 := by
  rw [State.slot_count_self _ (by rw [State.countLine_railOk, h1]), s.countLine_slot c strays fec hi]

/-- A grain of a wrong Sheaf is counted by the carrier's own (R172). -/
theorem State.countLine_countShf (s : State) (c strays : Nat) (fec : FecCounts) (h1 : s.railOk 1 = true) :
    ((s.countLine c strays fec).count (shfSlot (s.carSheaf c) 14)).slot (shfSlot (s.carSheaf c) 14) =
      (s.slot (shfSlot (s.carSheaf c) 14) + 1) % 2 ^ 48 := by
  rw [State.slot_count_self _ (by rw [State.countLine_railOk, h1]),
    s.countLine_slot_ne c strays fec fun i _ => (carSlot_ne_shfSlot (s.carSheaf_lt c) (by decide)).symm]

end Sys2Proof.Machine
end

section
/-! PROOFS. Timing grains received (R172, R180, R188-R194, R332), for O26. -/
set_option Elab.async false
namespace Sys2Proof.Machine

/-! ### The three steps of a timing grain -/

/-- A good timing grain is counted and kept, and its sender's state shown (R180, R188). -/
def State.grainNoted (s : State) (c h : Nat) (bytes : List Byte) (rx : Inst) : State :=
  let tx := tsOfBE (slice bytes 8 12)
  let rxq := tsQ (s.swInst 0 rx - s.rxDelay (s.com SHF_CAR_CFG.FIRST_LANE c))
  let s := s.count (carSlot c 1)
  let s := s.updCar c fun k => { k with
    u := diff64 (rxq - tx), uValid := true
    rx := { txTime := tx, rxTime := rxq, cseq := beNat (slice bytes 1 4), at_ := s.now, valid := true,
            freq := beNat (slice bytes 64 4), cp := testBit (byteAt bytes 49) 1, cls := byteAt bytes 68,
            steps := byteAt bytes 69, tflags := byteAt bytes 70, teEst := beNat (slice bytes 72 4) } }
  let s := ((s.wr SHF_CAR_STAT.TG_OK c 1).wr SHF_CAR_STAT.PEER_STATE c (byteAt bytes 48 % 16)).wr SHF_CAR_STAT.PEER_CARRIER c
    (byteAt bytes 52 % 128)
  (s.wr SHF_CAR_SKEW.VALUE c (satU 32 (s.skewQ c / 4096))).noteLossWait h

/-- The echo, a peer that went down and the skew (R180, R188, R194, R196, R332). -/
def State.grainEchoed (s : State) (c : Nat) (bytes : List Byte) (tx rxq : Int) (rx : Inst) (old : Nat) : State :=
  let s := (s.ttGrain c).takeEcho c bytes tx rxq rx
  let s := if s.cst c = cACTIVE && peerDown old (byteAt bytes 48 % 16) then (s.carDown c 2).fallBack c else s
  let skewed : Bool := s.cst c = cACTIVE && decide (8000 * 65536 < s.skewQ c)
  let s := if skewed && !(s.car c).skewOver then s.raise EV.SHF_CAR_SKEW_EXCESS c else s
  let s := s.updCar c fun k => { k with skewOver := skewed }
  if skewed && !s.follow then s.startPark c else s

/-- The management words are taken, but not by a FOLLOW (R191, R475). -/
def State.grainWords (s : State) (c : Nat) (bytes : List Byte) : State :=
  if s.follow then s else s.each [80, 96, 112, 128] fun s o => s.mgmt c (slice bytes o 16)

/-- A good timing grain is taken. -/
def State.grainTaken (s : State) (c h : Nat) (bytes : List Byte) (rx : Inst) : State :=
  ((s.grainNoted c h bytes rx).grainEchoed c bytes (tsOfBE (slice bytes 8 12))
    (tsQ (s.swInst 0 rx - s.rxDelay (s.com SHF_CAR_CFG.FIRST_LANE c))) rx (s.rd SHF_CAR_STAT.PEER_STATE c)).grainWords c bytes

/-- A timing grain without an uncorrectable codeword is judged (R172). -/
def State.judgeTiming (s : State) (c h : Nat) (bytes : List Byte) (rx : Inst) : State :=
  let hcs : Bool := crc8 (bytes.take 7) = byteAt bytes 7
  let crc : Bool := bytes.drop 252 = fcsBytes (bytes.take 252)
  let sheaf : Bool := byteAt bytes 6 / 8 = s.com SHF_CFG.PEER_SHEAF h
  let want := s.com SHF_PEER_NODE_HI.ID h * 2 ^ 32 + s.com SHF_PEER_NODE_LO.ID h
  if !hcs then s.count (carSlot c 2)
  else if byteAt bytes 5 / 64 ≠ 1 || byteAt bytes 5 % 64 ≠ 63 then s.count (carSlot c 3)
  else
    let s := if sheaf then s else s.count (shfSlot h 14)
    if !crc then (if sheaf then s else s.raise EV.SHF_CAR_MISCONNECT c).count (carSlot c 6)
    else if !sheaf || (want ≠ 0 && beNat (slice bytes 56 8) ≠ want) then (s.count (carSlot c 7)).raise EV.SHF_CAR_MISCONNECT c
    else s.grainTaken c h bytes rx

theorem execTimingGrainReceived_eq (c : Fin 128) (bytes : List Byte) (strays : Nat) (fec : FecCounts) (rx : Inst) (s : State)
    (hf : s.fwdMode = true) (hlo : cHANDSHAKE ≤ s.cst c) (hhi : s.cst c ≤ cPARKED) (hlen : bytes.length = 256) :
    exec (.timingGrainReceived c bytes ⟨false, strays, fec⟩ rx) s =
      fin ((s.countLine c strays fec).judgeTiming c (s.carSheaf c) bytes rx) := by
  have hgo : (!s.fwdMode || !(cHANDSHAKE ≤ s.cst c && s.cst c ≤ cPARKED)) = false := by simp [hf, hlo, hhi]
  have hwords (u : State) : (if u.follow then fin u else fin (u.each [80, 96, 112, 128] fun s o => s.mgmt c (slice bytes o 16))) =
      fin (u.grainWords c bytes) := (apply_ite fin _ _ _).symm
  show execTimingGrainReceived c bytes ⟨false, strays, fec⟩ rx s = _
  unfold execTimingGrainReceived
  extract_lets st h u b5 hcs crc sheaf node want v tx rxq old peer w x y z a b skewed d e f
  rw [if_neg (by rw [hgo]; decide), if_neg Bool.false_ne_true, if_neg (by simp [hlen]), hwords]
  unfold State.judgeTiming
  extract_lets
  rw [apply_ite fin, apply_ite fin, apply_ite fin, apply_ite fin]
  rfl

/-! ### What a good timing grain leaves to be seen -/

/-- D0 at an instant rests on the time base, the settings, the tick and the replicas. -/
theorem State.swInst_eq {s t : State} (htb : t.tb = s.tb) (hcom : t.committed = s.committed) (hpwr : t.pwr = s.pwr)
    (hf : t.evt.frozen = s.evt.frozen) (n : Nat) (i : Inst) : t.swInst n i = s.swInst n i := by
  have hown (k x : Nat) : t.ownAt k x = s.ownAt k x := by
    unfold State.ownAt State.dom
    rw [htb]
  have hdom (x : Nat) : t.domAt n x = s.domAt n x := by
    unfold State.domAt State.tickRun State.domSource State.domParent State.domOfs State.comS
    simp only [State.com_eq hcom, hpwr, hown]
  have hinc : t.incOf n = s.incOf n := by
    unfold State.incOf State.domSource State.domParent State.dom
    rw [State.com_eq hcom, State.com_eq hcom, htb]
  unfold State.swInst State.swAt State.swInc State.pastOf
  rw [htb, hf, hdom, hinc]

theorem State.countLine_swInst (s : State) (c strays : Nat) (fec : FecCounts) (n : Nat) (i : Inst) :
    (s.countLine c strays fec).swInst n i = s.swInst n i := by
  have hw := s.countLine_within c strays fec
  have hkept : s.ReplicaKept (s.countLine c strays fec) :=
    (((s.count_replicaKept ..).trans (State.count_replicaKept ..)).trans (State.count_replicaKept ..)).trans
      (State.count_replicaKept ..)
  exact State.swInst_eq (hw.part .tb (by decide)) (hw.part .committed (by decide)) (hw.part .pwr (by decide)) hkept.frozen n i

theorem State.countLine_rxDelay (s : State) (c strays : Nat) (fec : FecCounts) (lane : Nat) :
    (s.countLine c strays fec).rxDelay lane = s.rxDelay lane := by
  unfold State.rxDelay
  rw [State.path_eq ((s.countLine_within ..).part .cal (by decide))]

/-- The record of a timing grain is all that the counts and registers behind it leave of the carrier. -/
theorem State.grainNoted_rx (s : State) (c h : Nat) (bytes : List Byte) (rx : Inst) :
    ((s.grainNoted c h bytes rx).car c).rx.txTime = tsOfBE (slice bytes 8 12) ∧
      ((s.grainNoted c h bytes rx).car c).rx.rxTime = tsQ (s.swInst 0 rx - s.rxDelay (s.com SHF_CAR_CFG.FIRST_LANE c)) ∧
      ((s.grainNoted c h bytes rx).car c).rx.at_ = s.now := by
  unfold State.grainNoted
  extract_lets tx rxq u v w
  have hcar : ((w.wr SHF_CAR_SKEW.VALUE c (satU 32 (w.skewQ c / 4096))).noteLossWait h).car c = v.car c := by
    unfold State.car
    rw [(State.noteLossWait_within ..).part .cars (by decide), State.wr_cars, State.wr_cars, State.wr_cars, State.wr_cars]
  rw [hcar, State.car_updCar_self]
  exact ⟨rfl, rfl, (s.count_within ..).now⟩

theorem State.grainNoted_shows (s : State) (c : Fin 128) (h : Nat) (bytes : List Byte) (rx : Inst) :
    (s.grainNoted c h bytes rx).bit SHF_CAR_STAT.TG_OK c = true ∧
      (s.grainNoted c h bytes rx).rd SHF_CAR_STAT.PEER_STATE c = byteAt bytes 48 % 16 := by
  unfold State.grainNoted State.bit
  extract_lets tx rxq u v w
  have hrest {f : Fld} (hf : f.reg = R.SHF_CAR_STAT) :
      ((w.wr SHF_CAR_SKEW.VALUE c (satU 32 (w.skewQ c / 4096))).noteLossWait h).rd f c = w.rd f c := by
    rw [(State.noteLossWait_within ..).rd_same (by rw [hf]; decide +kernel), (w.wr_within ..).rd_same (by rw [hf]; decide +kernel)]
  rw [hrest rfl, hrest rfl]
  unfold w
  constructor
  · rw [State.rd_wr_disj (f := SHF_CAR_STAT.PEER_CARRIER) (g := SHF_CAR_STAT.TG_OK) _ (by decide) (by decide) rfl (by decide),
      State.rd_wr_disj (f := SHF_CAR_STAT.PEER_STATE) (g := SHF_CAR_STAT.TG_OK) _ (by decide) (by decide) rfl (by decide),
      State.rd_wr_self _ (by decide) c.isLt]
    decide
  · rw [State.rd_wr_disj (f := SHF_CAR_STAT.PEER_CARRIER) (g := SHF_CAR_STAT.PEER_STATE) _ (by decide) (by decide) rfl (by decide),
      State.rd_wr_self _ (by decide) c.isLt]
    exact Nat.mod_mod _ _

/-- Behind the count of the grain nothing counts. -/
theorem State.grainNoted_counts (s : State) (c h : Nat) (bytes : List Byte) (rx : Inst) :
    (s.count (carSlot c 1)).CarSlotsKept (s.grainNoted c h bytes rx) := by
  unfold State.grainNoted
  extract_lets tx rxq u v w
  have hv : u.CarSlotsKept v := .of_within (u.updCar_within c _) (by decide) (by decide)
  have hw : v.CarSlotsKept w := ((v.wr_carSlotsKept ..).trans (State.wr_carSlotsKept ..)).trans (State.wr_carSlotsKept ..)
  exact (hv.trans hw).trans ((w.wr_carSlotsKept ..).trans (.of_within (State.noteLossWait_within ..) (by decide) (by decide)))

theorem State.grainEchoed_carKept (s : State) (c : Nat) (bytes : List Byte) (tx rxq : Int) (rx : Inst) (old : Nat) :
    s.CarKept grainFlds (s.grainEchoed c bytes tx rxq rx old) := by
  have hdown (u : State) : u.CarKept grainFlds ((u.carDown c 2).fallBack c) :=
    ((u.carDown_carKept c 2).mono (by decide)).trans ((State.fallBack_carKept ..).mono (by decide))
  unfold State.grainEchoed
  extract_lets u v skewed w x
  have hu : s.CarKept grainFlds u :=
    ((s.ttGrain_carKept c).mono (by decide)).trans ((State.takeEcho_carKept ..).mono (by decide))
  have hv : u.CarKept grainFlds v := .ite (hdown u) (.refl _ u)
  have hw : v.CarKept grainFlds w := .ite (v.raise_carKept _ c (by decide +kernel)) (.refl _ v)
  have hx : w.CarKept grainFlds x := w.updCar_carKept c fun _ => ⟨rfl, rfl, id⟩
  exact ((hu.trans hv).trans (hw.trans hx)).trans (.ite ((x.startPark_carKept c).mono (by decide)) (.refl _ x))

theorem State.grainWords_carKept (s : State) (c : Nat) (bytes : List Byte) : s.CarKept carFlds (s.grainWords c bytes) :=
  .ite (.refl _ s) (.foldl (fun u o => u.mgmt_carKept c (slice bytes o 16)) _ s)

/-- What a good timing grain notes, the rest of its row leaves. -/
theorem State.grainTaken_carKept (s : State) (c h : Nat) (bytes : List Byte) (rx : Inst) :
    (s.grainNoted c h bytes rx).CarKept grainFlds (s.grainTaken c h bytes rx).settle :=
  ((State.grainEchoed_carKept ..).trans ((State.grainWords_carKept ..).mono (by decide))).trans
    ((State.settle_carKept _).mono (by decide))

theorem State.grainTaken_counts (s : State) (c h : Nat) (bytes : List Byte) (rx : Inst) :
    (s.count (carSlot c 1)).CarSlotsKept (s.grainTaken c h bytes rx).settle :=
  (s.grainNoted_counts c h bytes rx).trans (s.grainTaken_carKept c h bytes rx).counted

/-! ### The row -/

/-- Type 1 and FSP 63 make byte 5 of a timing grain. -/
theorem otherType_iff {b : Nat} : (b / 64 ≠ 1 || b % 64 ≠ 63) = true ↔ b ≠ 127 := by
  simp only [ne_eq, Bool.or_eq_true, decide_eq_true_eq]
  omega

theorem timingGrainReceived_good (c : Fin 128) (bytes : List Byte) (strays : Nat) (fec : FecCounts) (rx : Inst) (s : State)
    (hf : s.fwdMode = true) (hlo : cHANDSHAKE ≤ s.cst c) (hhi : s.cst c ≤ cPARKED) (hlen : bytes.length = 256)
    (hhcs : crc8 (bytes.take 7) = byteAt bytes 7) (hty : byteAt bytes 5 = 127) (hfcs : bytes.drop 252 = fcsBytes (bytes.take 252))
    (hsheaf : byteAt bytes 6 / 8 = s.com SHF_CFG.PEER_SHEAF (s.carSheaf c))
    (hnode : s.com SHF_PEER_NODE_HI.ID (s.carSheaf c) * 2 ^ 32 + s.com SHF_PEER_NODE_LO.ID (s.carSheaf c) = 0 ∨
      beNat (slice bytes 56 8) =
        s.com SHF_PEER_NODE_HI.ID (s.carSheaf c) * 2 ^ 32 + s.com SHF_PEER_NODE_LO.ID (s.carSheaf c))
    (h1 : s.railOk 1 = true) :
    Yields (.timingGrainReceived c bytes ⟨false, strays, fec⟩ rx) s fun t => t.bit SHF_CAR_STAT.TG_OK c = true ∧
      t.rd SHF_CAR_STAT.PEER_STATE c = byteAt bytes 48 % 16 ∧ (t.car c).rx.txTime = tsOfBE (slice bytes 8 12) ∧
      (t.car c).rx.rxTime = tsQ (s.swInst 0 rx - s.rxDelay (s.com SHF_CAR_CFG.FIRST_LANE c)) ∧ (t.car c).rx.at_ = s.now ∧
      t.slot (carSlot c 1) = (s.slot (carSlot c 1) + 1) % 2 ^ 48 := by
  rw [yields_iff, execTimingGrainReceived_eq c bytes strays fec rx s hf hlo hhi hlen, ends_fin]
  have hsw := s.countLine_swInst c strays fec 0 rx
  have hdelay := s.countLine_rxDelay c strays fec (s.com SHF_CAR_CFG.FIRST_LANE c)
  have hcount := s.countLine_count c strays fec (i := 1) (by decide) h1
  have hcom := s.countLine_com c strays fec
  have hnow := (s.countLine_within c strays fec).now
  generalize s.countLine c strays fec = u at hsw hdelay hcount hcom hnow
  have htaken : u.judgeTiming c (s.carSheaf c) bytes rx = u.grainTaken c (s.carSheaf c) bytes rx := by
    unfold State.judgeTiming
    extract_lets hcs crc sheaf want v
    have hon : sheaf = true := by
      unfold sheaf
      rw [hcom, decide_eq_true_eq, hsheaf]
    have hpeer : (want ≠ 0 && beNat (slice bytes 56 8) ≠ want) = false := by
      have hw : want = s.com SHF_PEER_NODE_HI.ID (s.carSheaf c) * 2 ^ 32 + s.com SHF_PEER_NODE_LO.ID (s.carSheaf c) := by
        unfold want
        rw [hcom, hcom]
      rw [hw]
      rcases hnode with h | h
      · rw [h]
        simp
      · rw [h]
        simp
    rw [if_neg (by simp [hcs, hhcs]), if_neg (by rw [otherType_iff]; simp [hty]), if_neg (by simp [crc, hfcs]),
      if_neg (by rw [hon, hpeer]; decide)]
    unfold v
    rw [if_pos hon]
  rw [htaken]
  have hk := u.grainTaken_carKept c (s.carSheaf c) bytes rx
  obtain ⟨htx, hrx, hat⟩ := u.grainNoted_rx c (s.carSheaf c) bytes rx
  obtain ⟨htg, hpeer⟩ := u.grainNoted_shows c (s.carSheaf c) bytes rx
  refine ⟨(hk.bit (by decide) c).trans htg, (hk.shown _ (by decide) c).trans hpeer, ?_, ?_, ?_, ?_⟩
  · rw [hk.rx, htx]
  · rw [hk.rx, hrx, hcom, hsw, hdelay]
  · rw [hk.rx, hat, hnow]
  · exact ((u.grainTaken_counts c (s.carSheaf c) bytes rx).slot c c.isLt 1 (by decide)).trans hcount

/-- What is judged of a timing grain leaves the counters of the line. -/
theorem State.judgeTiming_lineKept (s : State) (c : Fin 128) {h : Nat} (hh : h < 32) (bytes : List Byte) (rx : Inst) :
    s.LineKept c (s.judgeTiming c h bytes rx).settle := by
  have hraise (u : State) : u.LineKept c (u.raise EV.SHF_CAR_MISCONNECT c) := .of_car c.isLt (u.raise_carSlotsKept ..)
  refine State.LineKept.trans ?_ (.of_car c.isLt (State.settle_carSlotsKept _))
  unfold State.judgeTiming
  extract_lets hcs crc sheaf want v
  have hv : s.LineKept c v := .ite (.refl _ s) (.of_car c.isLt (s.count_shf_carSlotsKept hh (by decide) 1))
  have htaken : v.LineKept c (v.grainTaken c h bytes rx) := by
    refine (v.count_lineKept c (i := 1) (by decide) 1).trans (.of_car c.isLt ?_)
    exact (v.grainNoted_counts c h bytes rx).trans
      ((State.grainEchoed_carKept ..).trans ((State.grainWords_carKept ..).mono (by decide))).counted
  refine .ite (s.count_lineKept c (by decide) 1) (.ite (s.count_lineKept c (by decide) 1) (hv.trans (.ite ?_ (.ite ?_ htaken))))
  · exact State.LineKept.trans (.ite (.refl _ v) (hraise v)) (State.count_lineKept _ c (by decide) 1)
  · exact (v.count_lineKept c (by decide) 1).trans (hraise _)

theorem timingGrainReceived_counts (c : Fin 128) (bytes : List Byte) (strays : Nat) (fec : FecCounts) (rx : Inst) (s : State)
    (hf : s.fwdMode = true) (hlo : cHANDSHAKE ≤ s.cst c) (hhi : s.cst c ≤ cPARKED) (hlen : bytes.length = 256)
    (h1 : s.railOk 1 = true) :
    Yields (.timingGrainReceived c bytes ⟨false, strays, fec⟩ rx) s fun t => s.LineCounted t c strays fec ∧
      (crc8 (bytes.take 7) ≠ byteAt bytes 7 → t.slot (carSlot c 2) = (s.slot (carSlot c 2) + 1) % 2 ^ 48) ∧
      (crc8 (bytes.take 7) = byteAt bytes 7 → byteAt bytes 5 ≠ 127 →
        t.slot (carSlot c 3) = (s.slot (carSlot c 3) + 1) % 2 ^ 48) ∧
      (crc8 (bytes.take 7) = byteAt bytes 7 → byteAt bytes 5 = 127 → bytes.drop 252 ≠ fcsBytes (bytes.take 252) →
        t.slot (carSlot c 6) = (s.slot (carSlot c 6) + 1) % 2 ^ 48) ∧
      (crc8 (bytes.take 7) = byteAt bytes 7 → byteAt bytes 5 = 127 → bytes.drop 252 = fcsBytes (bytes.take 252) →
        byteAt bytes 6 / 8 ≠ s.com SHF_CFG.PEER_SHEAF (s.carSheaf c) →
        t.slot (carSlot c 7) = (s.slot (carSlot c 7) + 1) % 2 ^ 48 ∧
        t.slot (shfSlot (s.carSheaf c) 14) = (s.slot (shfSlot (s.carSheaf c) 14) + 1) % 2 ^ 48 ∧
        (s.railOk 6 = true → t.raised EV.SHF_CAR_MISCONNECT c = true)) := by
  have hsh := s.carSheaf_lt c
  rw [yields_iff, execTimingGrainReceived_eq c bytes strays fec rx s hf hlo hhi hlen, ends_fin]
  have hline := (s.countLine_counted c strays fec h1).keep
    ((s.countLine c strays fec).judgeTiming_lineKept c hsh bytes rx)
  have hcount {i : Nat} (hi : i ∉ lineSlots) := s.countLine_count c strays fec hi h1
  have hshf := s.countLine_countShf c strays fec h1
  have hcom := s.countLine_com c strays fec
  have hrail := s.countLine_railOk c strays fec
  generalize s.countLine c strays fec = u at hline hcount hshf hcom hrail
  refine ⟨hline, fun h => ?_, fun hh ht => ?_, fun hh ht hc => ?_, fun hh ht hc hp => ?_⟩
  all_goals
    unfold State.judgeTiming
    extract_lets hcs crc sheaf want v
  · rw [if_pos (by simp [hcs, h]), State.settle_slot, hcount (by decide)]
  · rw [if_neg (by simp [hcs, hh]), if_pos (by rwa [otherType_iff]), State.settle_slot, hcount (by decide)]
  · have hv : v.railOk 1 = true ∧ v.slot (carSlot c 6) = u.slot (carSlot c 6) := by
      unfold v
      split
      · exact ⟨(hrail 1).trans h1, rfl⟩
      · exact ⟨by rw [State.count_railOk, hrail, h1], u.slot_count_ne (carSlot_ne_shfSlot hsh (by decide)) 1⟩
    have hw : (if sheaf then v else v.raise EV.SHF_CAR_MISCONNECT c).railOk 1 = true ∧
        (if sheaf then v else v.raise EV.SHF_CAR_MISCONNECT c).slot (carSlot c 6) = u.slot (carSlot c 6) := by
      split
      · exact hv
      · exact ⟨((v.raise_within ..).railOk (by decide +kernel) (by decide) 1).trans hv.1, (State.raise_slot ..).trans hv.2⟩
    rw [if_neg (by simp [hcs, hh]), if_neg (by rw [otherType_iff]; simp [ht]), if_pos (by simp [crc, hc]), State.settle_slot,
      State.slot_count_self _ hw.1, hw.2, ← hcount (i := 6) (by decide), u.slot_count_self ((hrail 1).trans h1)]
  · have hoff : sheaf = false := by
      unfold sheaf
      rw [hcom, decide_eq_false_iff_not]
      exact hp
    have hv : v = u.count (shfSlot (s.carSheaf c) 14) := if_neg (by rw [hoff]; decide)
    rw [if_neg (by simp [hcs, hh]), if_neg (by rw [otherType_iff]; simp [ht]), if_neg (by simp [crc, hc]),
      if_pos (by rw [hoff]; rfl), hv]
    refine ⟨?_, ?_, fun h6 => ?_⟩
    · rw [State.settle_slot, State.raise_slot, State.slot_count_self _ (by rw [State.count_railOk, hrail, h1]),
        State.slot_count_ne _ (carSlot_ne_shfSlot hsh (by decide)), ← hcount (i := 7) (by decide),
        u.slot_count_self ((hrail 1).trans h1)]
    · rw [State.settle_slot, State.raise_slot, State.slot_count_ne _ (carSlot_ne_shfSlot hsh (by decide)).symm, hshf]
    · have hpow : ((u.count (shfSlot (s.carSheaf c) 14)).count (carSlot c 7)).railOk 6 = true := by
        rw [State.count_railOk, State.count_railOk, hrail, h6]
      rw [(State.settle_within _).raised_same (by decide +kernel)]
      exact State.raise_raised _ _ c hpow (by decide) c.isLt

/-- A grain with an uncorrectable codeword brings only its reports. -/
theorem timingGrainReceived_bad (c : Fin 128) (bytes : List Byte) (strays : Nat) (fec : FecCounts) (rx : Inst) (s : State)
    (hf : s.fwdMode = true) (hlo : cHANDSHAKE ≤ s.cst c) (hhi : s.cst c ≤ cPARKED) (h1 : s.railOk 1 = true) :
    Yields (.timingGrainReceived c bytes ⟨true, strays, fec⟩ rx) s fun t => s.LineCounted t c strays fec := by
  have hgo : (!s.fwdMode || !(cHANDSHAKE ≤ s.cst c && s.cst c ≤ cPARKED)) = false := by simp [hf, hlo, hhi]
  show Ends (execTimingGrainReceived c bytes ⟨true, strays, fec⟩ rx s) _
  unfold execTimingGrainReceived
  extract_lets
  rw [if_neg (by rw [hgo]; decide), if_pos rfl, ends_fin]
  exact (s.countLine_counted c strays fec h1).keep (.of_car c.isLt (State.settle_carSlotsKept _))

end Sys2Proof.Machine
end

section
/-! PROOFS. Keep-alive, parking and CMD_SHF_CARRIER_OP (R188, R191-R194, R198, R450), and with them O26. -/
set_option Elab.async false
namespace Sys2Proof.Machine

/-! ### Keep-alive and parking (R188, R193) -/

theorem keepaliveExpiry_acts (c : Fin 128) (s : State) (hf : s.fwdMode = true) (hv : (s.car c).rx.valid = true)
    (hat : (s.car c).rx.at_ + 12800 ≤ s.now) (h6 : s.railOk 6 = true) :
    Yields (.keepaliveExpiry c) s fun t => t.bit SHF_CAR_STAT.TG_OK c = false ∧ t.bit SHF_CAR_STAT.ECHO_OK c = false ∧
      (cSTANDBY ≤ s.cst c → s.cst c ≤ cDRAINING → t.rd SHF_CAR_STAT.DOWN_CAUSE c = 1 ∧ t.raised EV.SHF_CAR_DOWN c = true) := by
  show Ends (execKeepaliveExpiry c s) _
  unfold execKeepaliveExpiry
  dsimp only
  have hdead : (s.fwdMode && s.silent c) = true := by
    unfold State.silent
    simp [hf, hv, hat]
  rw [if_pos hdead]
  generalize hu : (s.wr SHF_CAR_STAT.TG_OK c 0).wr SHF_CAR_STAT.ECHO_OK c 0 = u
  have htg : u.bit SHF_CAR_STAT.TG_OK c = false := by
    rw [← hu]
    unfold State.bit
    rw [State.rd_wr_disj (f := SHF_CAR_STAT.ECHO_OK) (g := SHF_CAR_STAT.TG_OK) _ (by decide) (by decide) rfl (by decide),
      State.rd_wr_self _ (by decide) c.isLt]
    decide
  have hecho : u.bit SHF_CAR_STAT.ECHO_OK c = false := by
    rw [← hu]
    unfold State.bit
    rw [State.rd_wr_self _ (by decide) c.isLt]
    decide
  have hst : u.cst c = s.cst c := by
    rw [← hu]
    unfold State.cst
    rw [State.rd_wr_disj (f := SHF_CAR_STAT.ECHO_OK) (g := SHF_CAR_STAT.STATE) _ (by decide) (by decide) rfl (by decide),
      State.rd_wr_disj (f := SHF_CAR_STAT.TG_OK) (g := SHF_CAR_STAT.STATE) _ (by decide) (by decide) rfl (by decide)]
  have hrail : u.railOk 6 = true := by
    rw [← hu, (State.wr_within ..).railOk (by decide +kernel) (by decide), (s.wr_within ..).railOk (by decide +kernel) (by decide), h6]
  rw [hst]
  have hsettle (v : State) := v.settle_carKept
  by_cases hin : cSTANDBY ≤ s.cst c ∧ s.cst c ≤ cDRAINING
  · rw [if_pos (by simpa using hin), ends_fin]
    have hdown := u.carDown_fallBack c (cause := 1) (by decide)
    refine ⟨?_, ?_, fun _ _ => ⟨?_, ?_⟩⟩
    · rw [(hsettle _).bit (by decide), hdown.kept.bit (by decide), htg]
    · rw [(hsettle _).bit (by decide), hdown.kept.bit (by decide), hecho]
    · rw [(hsettle _).shown _ (by decide), hdown.cause]
    · rw [(State.settle_within _).raised_same (by decide +kernel), hdown.event hrail]
  · rw [if_neg (by simpa using hin), ends_fin, (hsettle u).bit (by decide), (hsettle u).bit (by decide)]
    exact ⟨htg, hecho, fun hlo hhi => absurd ⟨hlo, hhi⟩ hin⟩

/-- After a switch reset of this tick the event is raised, and the carrier's state stays (log entry 103). -/
theorem State.pastCut_raise_car (s : State) (k : CutEv) {e : Ev} (c : Fin 128) (h6 : s.railOk (blockRail e.block) = true)
    (hbit : e.bitNo < 32) (hi : e.inst c < e.stat.count) (hs : Scope.spares ⟨[.evt], [e.stat], []⟩ R.SHF_CAR_STAT = true) :
    ((s.pastCut k).raise e c).raised e c = true ∧ ((s.pastCut k).raise e c).cst c = s.cst c :=
  ⟨State.raise_raised _ e c h6 hbit hi, (State.raise_within ..).rd_same hs c⟩

theorem keepaliveExpiry_cut (c : Fin 128) (s : State) (hno : (s.fwdMode && s.silent c) = false)
    (hcut : s.wasCut (.carDown c) = true) (h6 : s.railOk 6 = true) :
    Yields (.keepaliveExpiry c) s fun t => t.raised EV.SHF_CAR_DOWN c = true ∧ t.cst c = s.cst c := by
  show Ends (execKeepaliveExpiry c s) _
  unfold execKeepaliveExpiry
  rw [if_neg (by rw [hno]; decide), if_pos hcut, ends_fin, State.settle_cst, (State.settle_within _).raised_same (by decide +kernel)]
  exact s.pastCut_raise_car _ c h6 (by decide) c.isLt (by decide +kernel)

theorem carrierAttemptTimeout_cut (c : Fin 128) (s : State) (hf : s.fwdMode = false) (hcut : s.wasCut (.carFail c) = true)
    (h6 : s.railOk 6 = true) :
    Yields (.carrierAttemptTimeout (.carrier c)) s fun t => t.raised EV.SHF_CAR_TRAIN_FAIL c = true ∧ t.cst c = s.cst c := by
  show Ends (execCarrierAttemptTimeout (.carrier c) s) _
  unfold execCarrierAttemptTimeout
  dsimp only
  rw [if_pos (by simp [hf]), if_pos hcut, ends_fin, State.settle_cst, (State.settle_within _).raised_same (by decide +kernel),
    (State.lastingFault_within ..).raised_same (by decide +kernel)]
  obtain ⟨hraised, hst⟩ := s.pastCut_raise_car (.carFail c) (e := EV.SHF_CAR_TRAIN_FAIL) c h6 (by decide) c.isLt (by decide +kernel)
  exact ⟨hraised, ((State.lastingFault_within ..).rd_same (by decide +kernel) c).trans hst⟩

theorem State.carParked_car (s : State) (c : Nat) : (s.carParked c).car c = { s.car c with parkWait := none } := by
  unfold State.carParked
  rw [State.car_updCar_self, State.raise_car, State.setCar_car]

theorem State.carParked_cst (s : State) {c : Nat} (hc : c < 128) : (s.carParked c).cst c = cPARKED :=
  ((State.raise_within ..).rd_same (by decide +kernel) c).trans ((s.setCar_cst hc (by decide) c).trans (if_pos rfl))

theorem State.carParked_raised (s : State) (c : Fin 128) (h6 : s.railOk 6 = true) :
    (s.carParked c).raised EV.SHF_CAR_PARKED c = true := by
  have hrail : (s.setCar c cPARKED).railOk 6 = true := by
    rw [(s.setCar_within ..).railOk (by decide +kernel) (by decide), h6]
  exact ((State.updCar_within ..).raised_same (by decide +kernel) c).trans (State.raise_raised _ _ c hrail (by decide) c.isLt)

theorem parkLossWaitExpiry_acts (c : Fin 128) (x : Nat) (s : State) (hw : (s.car c).parkWait = some x) (hst : s.cst c = cDRAINING)
    (hx : x ≤ s.now) (h6 : s.railOk 6 = true) :
    Yields (.parkLossWaitExpiry c) s fun t => t.cst c = cPARKED ∧ (t.car c).parkWait = none ∧
      t.raised EV.SHF_CAR_PARKED c = true := by
  show Ends (execParkLossWaitExpiry c s) _
  unfold execParkLossWaitExpiry
  rw [hw]
  dsimp only
  have hend := (s.carParked c).endOpOf_within c (fun join _ => !join) 0 0
  rw [if_pos (by simp [hst, hx]), ends_fin, State.settle_cst, State.settle_car, (State.settle_within _).raised_same (by decide +kernel),
    hend.raised_same (by decide +kernel)]
  refine ⟨(hend.rd_same (by decide +kernel) c).trans (s.carParked_cst c.isLt), ?_, s.carParked_raised c h6⟩
  unfold State.car
  rw [hend.part .cars (by decide)]
  exact congrArg Carrier.parkWait (s.carParked_car c)

/-! ### CMD_SHF_CARRIER_OP (R191, R193, R198) -/

/-- The checks of R198, in its order. -/
def State.carrierChecks (s : State) (m : Fin 16) : List Check :=
  let c := s.pay m 0 1
  let op := s.pay m 1 1
  s.headChecks m (· = 8) ++
    [chk ST_BAD_ARGUMENT (s.pay m 2 2 ≠ 0), chk ST_ZERO_INVALID (s.pay m 4 4 = 0),
     chk ST_BAD_ARGUMENT (decide (127 < c) || op = 0 || decide (2 < op) || decide (60000 < s.pay m 4 4)),
     chk ST_WRONG_MODE (!s.fwdMode), chk followDetail s.follow, chk ST_BUSY (s.carOp c).isSome,
     chk ST_BAD_ARGUMENT (if op = 1 then !(s.cst c = cSTANDBY || s.cst c = cPARKED) else s.cst c ≠ cACTIVE)]

theorem State.carrierChecks_pass {s : State} {m : Fin 16} {x : Exec} (h : s.accepts m 0x201 x = true) (hlen : s.plen m = 8)
    (hz : s.pay m 2 2 = 0) (h0 : s.pay m 4 4 ≠ 0) (hmax : s.pay m 4 4 ≤ 60000) (hc : s.pay m 0 1 ≤ 127) (hmode : s.fwdMode = true)
    (hlead : s.follow = false) (hfree : s.carOp (s.pay m 0 1) = none)
    (hop : if s.pay m 1 1 = 1 then s.cst (s.pay m 0 1) = cSTANDBY ∨ s.cst (s.pay m 0 1) = cPARKED
      else s.pay m 1 1 = 2 ∧ s.cst (s.pay m 0 1) = cACTIVE) :
    firstFail ((s.setMst m mRUNNING).carrierChecks m) = none := by
  have hcst (c : Nat) : (s.setMst m mRUNNING).cst c = s.cst c := State.setMst_rd _ _ _ (by decide +kernel) c
  have hbusy : (s.setMst m mRUNNING).carOp (s.pay m 0 1) = none := hfree
  unfold State.carrierChecks
  simp only [State.setMst_pay, State.setMst_fwdMode, State.setMst_follow, hmode, hlead, hcst, hbusy]
  rw [State.headChecks_pass h (by omega) (by simp [hlen])]
  refine firstFail_pass ?_
  by_cases h1 : s.pay m 1 1 = 1
  · rw [if_pos h1] at hop
    have hready : ¬ s.cst (s.pay m 0 1) = cSTANDBY → s.cst (s.pay m 0 1) = cPARKED := hop.resolve_left
    simpa [chk, hz, h0, h1, not_lt.2 hc, not_lt.2 hmax] using hready
  · rw [if_neg h1] at hop
    obtain ⟨h2, hact⟩ := hop
    simp [chk, hz, h0, h2, not_lt.2 hc, not_lt.2 hmax, hact]

theorem State.askPeer_car (s : State) (c op : Nat) : (s.askPeer c op).car c =
    { s.car c with req := (s.car c).req ++ [(op, (s.car c).nextTxn)], nextTxn := ((s.car c).nextTxn + 1) % 65536 } :=
  State.car_updCar_self ..

/-- A mailbox goes on with its work where neither it nor MBX_STATE changes. -/
theorem State.works_within {sc : Scope} {s t : State} {m : Fin 16} {j : Job} (h : Within sc s t) (hs : sc.spares R.MBX_STATE = true)
    (hg : Part.gr ∉ sc.parts) (hw : s.works m j) : t.works m j := by
  obtain ⟨hst, hjob⟩ := hw
  refine ⟨?_, ?_⟩
  · unfold State.mst at hst ⊢
    rwa [h.reg_same hs]
  · unfold State.mbxAt at hjob ⊢
    rwa [h.part .gr hg]

theorem cmdShfCarrierOp_acts (m : Fin 16) (ex : Exec) (s : State) (h : s.accepts m 0x201 ex = true) (hlen : s.plen m = 8)
    (hz : s.pay m 2 2 = 0) (h0 : s.pay m 4 4 ≠ 0) (hmax : s.pay m 4 4 ≤ 60000) (hc : s.pay m 0 1 ≤ 127) (hmode : s.fwdMode = true)
    (hlead : s.follow = false) (hfree : s.carOp (s.pay m 0 1) = none)
    (hop : if s.pay m 1 1 = 1 then s.cst (s.pay m 0 1) = cSTANDBY ∨ s.cst (s.pay m 0 1) = cPARKED
      else s.pay m 1 1 = 2 ∧ s.cst (s.pay m 0 1) = cACTIVE) :
    Yields (.cmdShfCarrierOp m ex) s fun t =>
      t.works m (.carrier (s.pay m 0 1) (s.pay m 1 1 = 1) (s.now + s.pay m 4 4 * msT) (s.car (s.pay m 0 1)).nextTxn) ∧
      (t.car (s.pay m 0 1)).req = (s.car (s.pay m 0 1)).req ++
        [(if s.pay m 1 1 = 1 then opJOIN_REQ else opPARK_REQ, (s.car (s.pay m 0 1)).nextTxn)] ∧
      t.cst (s.pay m 0 1) = (if s.pay m 1 1 = 1 then s.cst (s.pay m 0 1) else cDRAINING) := by
  have hw := State.started_within (s := s) (m := m) (x := ex)
  have hpay (o n : Nat) : (s.started m ex).pay m o n = s.pay m o n := State.mf_eq State.started_mem ..
  have hcar (c : Nat) : (s.started m ex).car c = s.car c := by
    unfold State.car
    rw [hw.part .cars (by decide)]
  have hcst (c : Nat) : (s.started m ex).cst c = s.cst c := hw.rd_same (by decide +kernel) c
  have hnow := hw.now
  have hmst : (s.started m ex).mst m = mRUNNING := State.started_mst
  have hbody : exec (.cmdShfCarrierOp m ex) s = fin (
      let u := (s.started m ex).running m (.carrier (s.pay m 0 1) (s.pay m 1 1 = 1) (s.now + s.pay m 4 4 * msT)
        (s.car (s.pay m 0 1)).nextTxn) true
      if s.pay m 1 1 = 1 then u.askPeer (s.pay m 0 1) opJOIN_REQ else u.startPark (s.pay m 0 1)) := by
    show execCmdShfCarrierOp m ex s = _
    unfold execCmdShfCarrierOp
    refine (congrArg fin (State.cmd_starts h (checks := fun s => s.carrierChecks m)
      (State.carrierChecks_pass h hlen hz h0 hmax hc hmode hlead hfree hop) _)).trans ?_
    simp only [hpay, hcar, hnow, decide_eq_true_eq]
  rw [yields_iff, hbody, ends_fin]
  generalize hu : (s.started m ex).running m (.carrier (s.pay m 0 1) (s.pay m 1 1 = 1) (s.now + s.pay m 4 4 * msT)
    (s.car (s.pay m 0 1)).nextTxn) true = u
  have hworks : u.works m (.carrier (s.pay m 0 1) (s.pay m 1 1 = 1) (s.now + s.pay m 4 4 * msT)
      (s.car (s.pay m 0 1)).nextTxn) := by
    rw [← hu]
    refine ⟨hmst, ?_⟩
    unfold State.running
    rw [State.mbxAt_updMbx_self]
  have hucar : u.car (s.pay m 0 1) = s.car (s.pay m 0 1) := by rw [← hu]; exact hcar _
  have hucst : u.cst (s.pay m 0 1) = s.cst (s.pay m 0 1) := by rw [← hu]; exact hcst _
  have hpark := u.startPark_within (s.pay m 0 1)
  generalize s.pay m 0 1 = c at hc hworks hucar hucst hpark ⊢
  rw [State.settle_car, State.settle_cst]
  dsimp only
  by_cases h1 : s.pay m 1 1 = 1
  · simp only [if_pos h1]
    refine ⟨State.settle_works (State.works_within (u.askPeer_within ..) (by decide +kernel) (by decide) hworks), ?_, hucst⟩
    rw [State.askPeer_car, hucar]
  · simp only [if_neg h1]
    refine ⟨State.settle_works (State.works_within hpark (by decide +kernel) (by decide) hworks), ?_, ?_⟩
    · unfold State.startPark
      rw [State.askPeer_car, State.setCar_car, hucar]
    · exact (u.setCar_cst (by omega) (by decide) c).trans (if_pos rfl)

/-- The request of an operation that has passed its limit is withdrawn (R198). -/
def State.withdraw (s : State) (c txn : Nat) (join : Bool) : State :=
  s.updCar c fun k => { k with req := k.req.filter (fun r => r.2 ≠ txn), parkWait := if join then k.parkWait else none }

theorem State.withdraw_car (s : State) (c txn : Nat) (join : Bool) : (s.withdraw c txn join).car c =
    { s.car c with req := (s.car c).req.filter (fun r => r.2 ≠ txn), parkWait := if join then (s.car c).parkWait else none } :=
  State.car_updCar_self ..

theorem State.complete_car (s : State) (m st d : Nat) (res : List Byte) (c : Nat) : (s.complete m st d res).car c = s.car c := by
  unfold State.car
  rw [(s.complete_within ..).part .cars (by decide)]

/-- A carrier that drains for a park that has passed its limit is parked. -/
theorem State.carParked_ends {s u : State} {m : Fin 16} {c : Nat} (hb : u.boot = s.boot) (hg : u.gr = s.gr) {st : Nat} (d : Nat)
    (hst : st ≠ ST_OK) (hs : st < 65536) {p : Prop} [Decidable p] :
    s.ends ((if p then u.carParked c else u).complete m st d).settle m st [] := by
  have hkept : (if p then u.carParked c else u).boot = s.boot ∧ (if p then u.carParked c else u).gr = s.gr := by
    split
    · exact ⟨((u.carParked_within c).part .boot (by decide)).trans hb, ((u.carParked_within c).part .gr (by decide)).trans hg⟩
    · exact ⟨hb, hg⟩
  obtain ⟨hboot, hgr⟩ := hkept
  refine State.ends_congr (by rw [hboot]) ?_ (State.settle_ends (State.refusal_ends _ m d hst hs))
  unfold State.mbxAt
  rw [hgr]

theorem carrierOpTimeout_acts (m : Fin 16) (c lim txn : Nat) (join : Bool) (s : State)
    (hjob : (s.mbxAt m).job = some (.carrier c join lim txn)) (hlim : lim ≤ s.now) :
    Yields (.carrierOpTimeout m) s fun t => s.ends t m ST_TIMEOUT [] ∧
      (t.car c).req = (s.car c).req.filter (fun r => r.2 ≠ txn) ∧
      (t.car c).parkWait = (if join then (s.car c).parkWait else none) ∧
      (c < 128 → t.cst c = if join = false ∧ s.cst c = cDRAINING then cPARKED else s.cst c) := by
  have hcar := s.withdraw_car c txn join
  have hst : (s.withdraw c txn join).cst c = s.cst c := rfl
  have hends (d : Nat) {p : Prop} [Decidable p] := State.carParked_ends (s := s) (u := s.withdraw c txn join) (m := m) (c := c)
    (p := p) rfl rfl (st := ST_TIMEOUT) d (by decide) (by decide)
  have hexec : exec (.carrierOpTimeout m) s = if join then fin ((s.withdraw c txn join).complete m ST_TIMEOUT)
      else fin ((if (s.withdraw c txn join).cst c = cDRAINING then (s.withdraw c txn join).carParked c
        else s.withdraw c txn join).complete m ST_TIMEOUT 1) := by
    show execCarrierOpTimeout m s = _
    unfold execCarrierOpTimeout
    rw [hjob]
    exact if_neg (by omega)
  rw [yields_iff, hexec]
  generalize s.withdraw c txn join = u at hcar hst hends
  have hcst (v : State) (d : Nat) : (v.complete m ST_TIMEOUT d).settle.cst c = v.cst c :=
    (State.settle_cst ..).trans ((v.complete_within ..).rd_same (by decide +kernel) c)
  cases join with
  | true =>
    rw [if_pos rfl, ends_fin, hcst, State.settle_car, State.complete_car, hcar, hst]
    exact ⟨hends 0 (p := False), rfl, rfl, fun _ => rfl⟩
  | false =>
    rw [if_neg (by decide), ends_fin, hcst, State.settle_car, State.complete_car, hst]
    refine ⟨hends 1, ?_⟩
    by_cases hdr : s.cst c = cDRAINING
    · rw [if_pos hdr, State.carParked_car, hcar, if_pos (show false = false ∧ s.cst c = cDRAINING from ⟨rfl, hdr⟩)]
      exact ⟨rfl, rfl, fun hc => u.carParked_cst hc⟩
    · rw [if_neg hdr, hcar, if_neg (fun hh : false = false ∧ s.cst c = cDRAINING => hdr hh.2)]
      exact ⟨rfl, rfl, fun _ => hst⟩

/-! ### The statement -/

/-- CODEWORD_LOCK: a boundary that is not one, or words that do not give lock, change nothing (R167, R168). -/
theorem codewordLock_acts (lane : Fin 260) (offset : Nat) (words : List Bool) (c : Nat) (s : State)
    (h : (if lane.val < 256 then s.fwdMode && s.carOfLane lane = some c && s.cst c ≠ cDISABLED && s.cst c ≠ cPOWERING &&
        s.cst c ≠ cHELD
      else s.twinOn && s.tkMode && (s.mlane (lane.val - 256)).st = 4) = true) :
    Yields (.codewordLock ⟨lane, offset, words⟩) s fun t =>
      if searchOffsets.contains offset = false ∨ lockGained words = false then t = s.settle
      else if lane.val < 256 then lane.val ∈ (t.car c).locked ∧ t.bit SHF_CAR_STAT.LANES_LOCKED c = t.allLocked c ∧
        (s.cst c = cLOCK → t.allLocked c = true → t.cst c = cHANDSHAKE)
      else (t.mlane (lane.val - 256)).st = 6 ∧ (t.mlane (lane.val - 256)).timer = none := by
  by_cases hgain : (searchOffsets.contains offset && lockGained words) = true
  · have hyes : ¬ (searchOffsets.contains offset = false ∨ lockGained words = false) := by
      obtain ⟨h1, h2⟩ := Bool.and_eq_true_iff.1 hgain
      rw [h1, h2]
      decide
    by_cases hl : lane.val < 256
    · rw [if_pos hl] at h
      simp only [Bool.and_eq_true, decide_eq_true_eq] at h
      obtain ⟨⟨⟨⟨hf, hc⟩, hst1⟩, hst2⟩, hst3⟩ := h
      obtain ⟨t, ht, hlocked⟩ := codewordLock_carrier_acts lane offset words c s hgain hl hc hf hst1 hst2 hst3
      exact ⟨t, ht, by beta_reduce; rwa [if_neg hyes, if_pos hl]⟩
    · rw [if_neg hl] at h
      obtain ⟨t, ht, hlocked⟩ := codewordLock_mirror_acts lane offset words s hgain hl h
      exact ⟨t, ht, by beta_reduce; rwa [if_neg hyes, if_neg hl]⟩
  · have hno : searchOffsets.contains offset = false ∨ lockGained words = false := by
      rwa [Bool.not_eq_true, Bool.and_eq_false_iff] at hgain
    refine ⟨s.settle, ?_, by beta_reduce; rw [if_pos hno]⟩
    show execCodewordLock ⟨lane, offset, words⟩ s = _
    unfold execCodewordLock
    exact if_pos (by rwa [Bool.not_eq_true', ← Bool.not_eq_true])

/-- CODEWORD_LOCK_LOST: with signal and too few bad words nothing is lost (R167, R189). -/
theorem codewordLockLost_acts (lane : Fin 260) (signal : Bool) (words : List Bool) (c : Nat) (s : State)
    (h : (if lane.val < 256 then s.fwdMode && s.carOfLane lane = some c
      else s.twinOn && s.tkMode && 3 ≤ (s.mlane (lane.val - 256)).st && (s.mlane (lane.val - 256)).st ≤ 6 &&
        (!signal || (s.mlane (lane.val - 256)).st = 6)) = true) :
    Yields (.codewordLockLost lane ⟨signal, words⟩) s fun t =>
      if signal = true ∧ lockLost words = false then t = s.settle
      else if lane.val < 256 then lane.val ∉ (t.car c).locked ∧ (signal = false → (t.car c).signal = false) ∧
        (cSTANDBY ≤ s.cst c → s.cst c ≤ cDRAINING → t.rd SHF_CAR_STAT.DOWN_CAUSE c = 4) ∧
        (s.cst c = cHANDSHAKE ∨ cSTANDBY ≤ s.cst c ∧ s.cst c ≤ cDRAINING →
          t.cst c = if (s.car c).signal && signal then cADAPT else cWAIT_SIGNAL)
      else (t.mlane (lane.val - 256)).st = if signal then 3 else 2 := by
  by_cases hkeep : signal = true ∧ lockLost words = false
  · refine ⟨s.settle, ?_, by beta_reduce; rw [if_pos hkeep]⟩
    show execCodewordLockLost lane ⟨signal, words⟩ s = _
    unfold execCodewordLockLost
    exact if_pos (by simp [hkeep])
  · have hlost : (signal && !lockLost words) = false := by simpa using hkeep
    by_cases hl : lane.val < 256
    · rw [if_pos hl] at h
      simp only [Bool.and_eq_true, decide_eq_true_eq] at h
      obtain ⟨t, ht, hgone⟩ := codewordLockLost_carrier_acts lane signal words c s hlost hl h.2 h.1
      exact ⟨t, ht, by beta_reduce; rwa [if_neg hkeep, if_pos hl]⟩
    · rw [if_neg hl] at h
      obtain ⟨t, ht, hgone⟩ := codewordLockLost_mirror_acts lane signal words s hlost hl h
      exact ⟨t, ht, by beta_reduce; rwa [if_neg hkeep, if_neg hl]⟩

/-- Settles O26: a lemma for each row of carriers and mirror lanes. -/
theorem carriersAct : Obligations.CarriersAct := by
  unfold Obligations.CarriersAct
  refine ⟨fun lane offset words c s h => ?_, fun lane signal words c s h => ?_, fun o s h => ?_, grainSlot_acts,
    timingGrainReceived_good, fun c bytes bad strays fec rx s hf hlo hhi hlen h1 => ?_, keepaliveExpiry_acts, keepaliveExpiry_cut,
    carrierAttemptTimeout_cut, parkLossWaitExpiry_acts, cmdShfCarrierOp_acts, carrierOpTimeout_acts⟩
  · exact codewordLock_acts lane offset words c s h
  · exact codewordLockLost_acts lane signal words c s h
  · cases o with
    | port p => exact ⟨s.settle, rfl, rfl⟩
    | carrier c =>
      simp only [Bool.and_eq_true, Bool.or_eq_true, decide_eq_true_eq] at h
      obtain ⟨⟨⟨hf, hst⟩, hdue⟩, h6⟩ := h
      exact carrierAttemptTimeout_carrier_acts c s hf hst hdue h6
    | mirror i =>
      simp only [Bool.and_eq_true, Bool.or_eq_true, decide_eq_true_eq] at h
      obtain ⟨⟨⟨htw, htk⟩, hst⟩, hdue⟩ := h
      cases htm : (s.mlane i).timer with
      | none => simp [htm] at hdue
      | some x =>
        exact carrierAttemptTimeout_mirror_acts i s (by rw [htw, htk]; rfl) hst htm (by simpa [htm] using hdue)
  · cases bad with
    | true =>
      obtain ⟨t, ht, hline⟩ := timingGrainReceived_bad c bytes strays fec rx s hf hlo hhi h1
      exact ⟨t, ht, hline.strays, hline.corrected, hline.uncorrectable, hline.symbols, nofun⟩
    | false =>
      obtain ⟨t, ht, hline, hrest⟩ := timingGrainReceived_counts c bytes strays fec rx s hf hlo hhi (hlen rfl) h1
      exact ⟨t, ht, hline.strays, hline.corrected, hline.uncorrectable, hline.symbols, fun _ => hrest⟩

end Sys2Proof.Machine
end

section
/-! PROOFS. A statement that fails on a state of its own: a record whose drop no row of R175 counts (R175, R197), O27. -/
set_option Elab.async false
namespace Sys2Proof.Machine

/-- The slot of a drop that the header of the record in progress is said to have decided: none of the Sheaf's, and behind
them slot 5 of carrier 0. -/
def strayDoom : Nat := carSlot 0 5 - shfSlot 0 0

/-- A grain held at the head, with the last four bytes of that record. -/
def doomedEnd : Held := { bytes := [0, 0, 0, 0], fsp := 63, at_ := 0, rate := 0, buf := (0, 0) }

/-- In FORWARD carrier 0 is ACTIVE and Sheaf 0 runs, with a record of one byte in progress. -/
def oddRecord : State :=
  ((((State.reset.wr PWR_MODE_CTL.CUR_MODE 0 mFORWARD).wr PWR_RAIL_STAT.RAIL_OK 0 2).wr SHF_CAR_STAT.STATE 0 cACTIVE).wr
    SHF_SHEAF_STAT.RX_STATE 0 rxRUN).updSheaf 0 fun x =>
      { x with held := [(0, doomedEnd)], inStep := true, part := [0, 4, 0, 0], partDoom := some strayDoom }

/-- A good data grain of number 1. -/
def nextDataGrain : List Byte := [0, 0, 0, 0, 1, 0, 0, 107] ++ List.replicate 248 0

/-- The slot of carrier 0 that counts stray blocks, once a row has ended. -/
def straysAfter (r : Res) : Option Nat := match r with
  | .next t => some (t.slot (carSlot 0 5))
  | _ => none

/-- The grain brings no stray block, and releases the grain at the head: the drop of its record counts one. -/
theorem oddRecord_counts : straysAfter (exec (.dataGrainReceived 0 nextDataGrain 8 false 0 ⟨0, 0, 0⟩) oddRecord) = some 1 := by
  decide +kernel

theorem oddRecord_before : oddRecord.slot (carSlot 0 5) = 0 := by decide +kernel

/-- Refutes O27: DATA_GRAIN_RECEIVED without stray blocks counts one in slot 5 of its carrier, where the statement has the slot as
before. No hypothesis says that the drop noted of a record in progress is a slot of its Sheaf. -/
theorem not_sheafReceiveAct : ¬ Obligations.SheafReceiveAct := by
  unfold Obligations.SheafReceiveAct
  rintro ⟨hdata, -⟩
  obtain ⟨t, ht, hstrays, -⟩ := hdata 0 nextDataGrain 8 0 false ⟨0, 0, 0⟩ oddRecord (by decide +kernel) (by decide +kernel)
    (by decide +kernel) (fun _ _ => by decide +kernel) (by decide +kernel)
  have hone : t.slot (carSlot 0 5) = 1 := by
    have hcounts := oddRecord_counts
    rw [ht] at hcounts
    exact Option.some.inj hcounts
  have hzero : t.slot (carSlot 0 5) = (oddRecord.slot (carSlot 0 5) + 0) % 2 ^ 48 := hstrays
  rw [hone, oddRecord_before] at hzero
  exact absurd hzero (by decide)

end Sys2Proof.Machine
end
